-- ==== Sys2Proof/Word.lean ====
section
/-!
DEFINITION. Words, bit fields, byte lists and the sparse maps in which the state holds its tables. Every multi-byte value
is little-endian and bit 0 is the least significant bit (R6).
-/

namespace Sys2Proof.Machine

abbrev Byte := BitVec 8
abbrev W32 := BitVec 32

/-- The kinds of unit that keep an error set (R273). `red` is the reduction unit (prefix RT_ERR_). -/
inductive UnitKind where
  | ni | red | rg | mp | ol | hp | tp | bn
  deriving DecidableEq, Repr

/-- UNIT_KIND of R273. -/
def UnitKind.code : UnitKind → Nat
  | .ni => 0 | .red => 1 | .rg => 2 | .mp => 3 | .ol => 4 | .hp => 5 | .tp => 6 | .bn => 7

/-- Bits hi:lo of a number, both ends included (R6). -/
def bits (w hi lo : Nat) : Nat := (w >>> lo) % 2 ^ (hi + 1 - lo)

/-- Bit i of a number. -/
def bit (w i : Nat) : Bool := w.testBit i

/-- 1 for true, 0 for false. -/
def b2n (b : Bool) : Nat := if b then 1 else 0

/-- The number with the listed little-endian bytes (R6). -/
def ofBytes : List Nat → Nat
  | [] => 0
  | b :: r => b % 256 + 256 * ofBytes r

/-- The n low bytes of a number, least significant first (R6). -/
def toBytes : Nat → Nat → List Nat
  | 0, _ => []
  | n + 1, v => v % 256 :: toBytes n (v / 256)

/-- Elements i … i + n − 1 of a list. -/
def slice {α : Type} (l : List α) (i n : Nat) : List α := (l.drop i).take n

/-- Ceiling of a division. -/
def cdiv (a b : Nat) : Nat := (a + b - 1) / b

/-- A register value at which 0 acts as 1. -/
def zeroAsOne (v : Nat) : Nat := if v = 0 then 1 else v

/-- A sparse table: pairs of a key and a value, keys rising. -/
abbrev SMap (α : Type) := List (Nat × α)

/-- The value at a key, or the default. -/
def SMap.get {α : Type} : SMap α → Nat → α → α
  | [], _, d => d
  | (k', v) :: r, k, d => if k' = k then v else SMap.get r k d

/-- Set the value at a key. -/
def SMap.put {α : Type} : SMap α → Nat → α → SMap α
  | [], k, v => [(k, v)]
  | (k', w) :: r, k, v =>
    if k' = k then (k, v) :: r
    else if k < k' then (k, v) :: (k', w) :: r
    else (k', w) :: SMap.put r k v

/-- Remove a key. -/
def SMap.del {α : Type} (m : SMap α) (k : Nat) : SMap α := m.filter (fun p => !(p.1 == k))

/-- The first element that satisfies p is replaced by its image. -/
def updFirst {α : Type} (p : α → Bool) (f : α → α) : List α → List α
  | [] => []
  | a :: r => if p a then f a :: r else a :: updFirst p f r

/-- The first element that satisfies p is removed. -/
def delFirst {α : Type} (p : α → Bool) : List α → List α
  | [] => []
  | a :: r => if p a then r else a :: delFirst p r

end Sys2Proof.Machine
end

