-- ==== Sys2Proof/Syntax.lean ====
section
/-!
DEFINITION. The commands of the block: one constructor of `Instr` for each row of spec/opcode_table.json, with the operands
that the environment gives it. A command is an operation of the block's interface or an event of its environment. Numbers
are plain `Nat`; `Instr.wf` (WellFormed.lean) says which range each operand can take.
-/

namespace Sys2Proof.Machine

/-- The four networks of R20. -/
inductive Net where
  | req | rsp | snp | dat
  deriving DecidableEq, Repr

/-- A place on the mesh of this chip (R98): router coordinates and port (0 NI, 1 OFF_N, 2 OFF_E, 3 OFF_S, 4 OFF_W, 5 BN,
7 GROUP). -/
structure Loc where
  x : Nat
  y : Nat
  port : Nat
  deriving DecidableEq, Repr

/-- A packet: the header fields of R101, R103 and R104, the operation-specific fields `args` in the order in which
`fieldsOf` (Machine/Packets.lean) lists them for the opcode, and the payload bytes of a DAT packet. -/
structure Pkt where
  net : Net
  op : Nat
  dst : Loc
  src : Loc
  ten : Nat
  flow : Nat
  txn : Nat
  esc : Bool
  egen : Nat
  hops : Nat
  args : List Nat
  data : List Nat
  deriving DecidableEq, Repr

/-- The results that an image check, a digest or a comparison made outside the modelled state can have. -/
inductive Verdict where
  | good | bad
  deriving DecidableEq, Repr

end Sys2Proof.Machine

namespace Sys2Proof

open Sys2Proof.Machine

/-- The commands: each constructor is the row of spec/opcode_table.json named in its comment. -/
inductive Instr where
  /-- CH_RUN (R38). `v` is the word written to CH_CTRL -/
  | chRun (v : Nat)
  /-- CH_LOAD (R470). `v` is the word written to CH_CTRL -/
  | chLoad (v : Nat)
  /-- HOLD_FORCE (R45). `v` is the word written to CH_CTRL -/
  | holdForce (v : Nat)
  /-- LOCAL_BEAT_START (R40). `n` is the region -/
  | localBeatStart (n : Nat)
  /-- SLOT_EXECUTE (R61). `n` is the region; `ue` lists 8·slot + port of the inputs whose flit has an uncorrectable error in this slot (R69) -/
  | slotExecute (n : Nat) (ue : List Nat)
  /-- STALL_RESUME (R42). `cycles` is how many rc cycles the region was stalled -/
  | stallResume (n : Nat) (cycles : Nat)
  /-- STALL_TIMEOUT (R48) -/
  | stallTimeout (n : Nat)
  /-- CLOCK_ABSENT (R47) -/
  | clockAbsent (n : Nat)
  /-- CLOCK_ABSENT_CLEAR (R47) -/
  | clockAbsentClear (n : Nat)
  /-- CLOCK_LOST (R48) -/
  | clockLost (n : Nat)
  /-- DIP_DEMAND (R50). `sag` is the sag in units of 2 mV -/
  | dipDemand (n : Nat) (sag : Nat)
  /-- STRETCH_RELEASE (R50) -/
  | stretchRelease (n : Nat)
  /-- REGISTER_WRITE (R10). the word `v` written to the offset `off` -/
  | registerWrite (off : Nat) (v : Nat)
  /-- PAIR_LO_READ (R9). requester `who`: 0 the Binnacle, 1 + 65·h + t host port h with tenancy t, t = 64 privileged -/
  | pairLoRead (who : Nat) (off : Nat)
  /-- REG_RD (R450). TAG, PRIV, TENANCY, ADDRESS and LENGTH_M1 + 1 of the bridge's packet -/
  | regRd (hp : Nat) (tag : Nat) (priv : Bool) (ten : Nat) (off : Nat) (len : Nat)
  /-- REG_WR (R450). TAG, PRIV, TENANCY, ADDRESS and the data of the bridge's packet -/
  | regWr (hp : Nat) (tag : Nat) (priv : Bool) (ten : Nat) (off : Nat) (data : List Nat)
  /-- REG_ANS (R462) -/
  | regAns (hp : Nat) (p : Pkt)
  /-- REG_TIMEOUT (R463) -/
  | regTimeout (hp : Nat) (txn : Nat)
  /-- START (R60) -/
  | start (n : Nat) (p : Pkt)
  /-- SEGMENT_LOADED (R80) -/
  | segmentLoaded (n : Nat)
  /-- LOAD_WAIT_END (R76) -/
  | loadWaitEnd (n : Nat)
  /-- SEG_DONE (R83) -/
  | segDone (n : Nat) (p : Pkt)
  /-- SEG_DONE_SEND (R83) -/
  | segDoneSend (n : Nat)
  /-- SEG_ABORT (R84) -/
  | segAbort (n : Nat) (p : Pkt)
  /-- ABORT (R84) -/
  | abort (n : Nat) (p : Pkt)
  /-- EJECT_WRITE (R61) -/
  | ejectWrite (n : Nat)
  /-- LANDING_FLIT_ARRIVE (R90). `flit` lists TAGLO, POS, the 256 bytes as a number and 1 for an uncorrectable error; it is empty when a line has become free -/
  | landingFlitArrive (n : Nat) (flit : List Nat)
  /-- OL_LAND_CFG_WRITE (R92). `v` is the word written to OL_LAND_CFG of link `n` -/
  | olLandCfgWrite (n : Nat) (v : Nat)
  /-- ROUTE_HEADER (R109). `p` arrives at input `port` of router `n` (0–3 mesh, 4 L, 5 Binnacle); `chk`: 0 no error found, 1 a corrected one, 2 an uncorrectable one in the header, 3 in a payload flit (R105) -/
  | routeHeader (n : Nat) (port : Nat) (p : Pkt) (chk : Nat)
  /-- ESC_WAIT_EXPIRE (R109). `p` waits at router `n` -/
  | escWaitExpire (n : Nat) (p : Pkt)
  /-- OUTPUT_AGED (R97). `p` waits at router `n` -/
  | outputAged (n : Nat) (p : Pkt)
  /-- ROUTER_OUTPUT_ARBITRATE (R97). `out` as in ROUTE_HEADER; `net` is 0 REQ, 1 RSP, 2 SNP, 3 DAT -/
  | routerOutputArbitrate (n : Nat) (out : Nat) (net : Nat)
  /-- DROP (R107). `at_` is the slot of the NI when `p.dst` names one -/
  | drop (at_ : Nat) (p : Pkt)
  /-- PURGE0 (R112). `v` is the word written to RT_CTRL of router `n` -/
  | purge0 (n : Nat) (v : Nat)
  /-- PURGE1 (R112). as PURGE0 -/
  | purge1 (n : Nat) (v : Nat)
  /-- OPEN_PACKET_START (R118) -/
  | openPacketStart (n : Nat)
  /-- WHEEL_UNPARK (R117) -/
  | wheelUnpark (n : Nat) (f : Nat)
  /-- FLOW_RATE_WRITE (R119) -/
  | flowRateWrite (n : Nat) (f : Nat) (v : Nat)
  /-- FLOW_CFG_WRITE (R119) -/
  | flowCfgWrite (n : Nat) (f : Nat) (v : Nat)
  /-- OPEN_TIMEOUT (R121) -/
  | openTimeout (n : Nat) (txn : Nat)
  /-- READ (R147). `at_` is the slot of the target NI when `p.dst` names an NI; `ue` reports an uncorrectable error in the target's scratchpad (SP_RD_UE) -/
  | read (at_ : Nat) (p : Pkt) (ue : Bool)
  /-- READ_DATA (R147). `ue`: a payload flit had an uncorrectable error on the way (R105) -/
  | readData (n : Nat) (p : Pkt) (ue : Bool)
  /-- READ_ERR (R147) -/
  | readErr (n : Nat) (p : Pkt)
  /-- CREDIT_REQ (R134) -/
  | creditReq (n : Nat) (p : Pkt)
  /-- CREDIT_ANS (R155). at a combining router, `port` is the output whose branch answers; at a source NI it is not used -/
  | creditAns (n : Nat) (port : Nat) (p : Pkt)
  /-- CREDIT_RETURN (R136) -/
  | creditReturn (n : Nat) (p : Pkt)
  /-- CREDIT_CANCEL (R137) -/
  | creditCancel (n : Nat) (p : Pkt)
  /-- CREDIT_WAIT_EXPIRE (R137). `us` is the time in µs since the SHORT answer -/
  | creditWaitExpire (n : Nat) (txn : Nat) (us : Nat)
  /-- REQ_WIN_OPEN (R130) -/
  | reqWinOpen (n : Nat) (p : Pkt)
  /-- REQ_WIN_REPLENISH (R131) -/
  | reqWinReplenish (n : Nat) (p : Pkt)
  /-- SNP_WIN_CLOSE (R142) -/
  | snpWinClose (n : Nat) (p : Pkt)
  /-- CLOSE_TAKES_EFFECT (R140) -/
  | closeTakesEffect (n : Nat) (h : Nat)
  /-- DRAIN_LIMIT_EXPIRE (R141) -/
  | drainLimitExpire (n : Nat) (h : Nat)
  /-- WIN_ANS (R142) -/
  | winAns (n : Nat) (p : Pkt)
  /-- CREDIT_REVOKE (R143) -/
  | creditRevoke (n : Nat) (p : Pkt)
  /-- WRITE (R138). `at_` as in READ; `ue`: a payload flit had an uncorrectable error -/
  | write (at_ : Nat) (p : Pkt) (ue : Bool)
  /-- WRITE_MC (R157) -/
  | writeMc (n : Nat) (p : Pkt) (ue : Bool)
  /-- WRITE_ACK (R146). `port` as in CREDIT_ANS -/
  | writeAck (n : Nat) (port : Nat) (p : Pkt)
  /-- REQ_ATOMIC (R148) -/
  | reqAtomic (at_ : Nat) (p : Pkt) (ue : Bool)
  /-- ATOMIC_ANS (R148) -/
  | atomicAns (n : Nat) (p : Pkt)
  /-- ROLLCALL (R158) -/
  | rollcall (n : Nat) (p : Pkt)
  /-- ROLL_ANS (R158) -/
  | rollAns (n : Nat) (p : Pkt)
  /-- ROLL_TIME_EXPIRE (R158) -/
  | rollTimeExpire (n : Nat) (txn : Nat)
  /-- COMBINING_SLOT_FREE (R152) -/
  | combiningSlotFree (n : Nat)
  /-- AP_STORE (R164) -/
  | apStore (n : Nat) (store : Bool) (ofs : Nat) (len : Nat) (data : List Nat)
  /-- AP_WRITE (R165) -/
  | apWrite (n : Nat) (p : Pkt)
  /-- AP_RESEND (R165) -/
  | apResend (n : Nat) (txn : Nat)
  /-- RED_DATA (R189). `ue`: a payload flit had an uncorrectable error -/
  | redData (n : Nat) (p : Pkt) (ue : Bool)
  /-- RED_ACK (R190) -/
  | redAck (n : Nat) (p : Pkt)
  /-- RED_BUSY (R189) -/
  | redBusy (n : Nat) (p : Pkt)
  /-- RED_RESEND (R189). `p` is the contribution that slot `n` holds back -/
  | redResend (n : Nat) (p : Pkt)
  /-- RED_RESULT (R191) -/
  | redResult (n : Nat) (p : Pkt) (ue : Bool)
  /-- RED_FAIL (R190) -/
  | redFail (n : Nat) (p : Pkt)
  /-- RED_ABORT (R190) -/
  | redAbort (n : Nat) (p : Pkt)
  /-- RED_LIMIT_EXPIRE (R190) -/
  | redLimitExpire (n : Nat) (rid : Nat)
  /-- RED_ID_HOLD_EXPIRE (R190) -/
  | redIdHoldExpire (n : Nat) (rid : Nat)
  /-- TN_BELL (R207). the word `v` written to TN_BELL in the page of tenancy `t`, through host port `hp` -/
  | tnBell (hp : Nat) (t : Nat) (v : Nat)
  /-- FB_BELL (R207) -/
  | fbBell (hp : Nat) (v : Nat)
  /-- BELL (R208) -/
  | bell (n : Nat) (p : Pkt)
  /-- DOORBELL_RECORD_READ (R209). `p` is the answer to the record read -/
  | doorbellRecordRead (n : Nat) (p : Pkt)
  /-- DESCRIPTOR_FETCH (R209). `o` is the ring, or 4,096 + the tile queue; `p` is the answer to a ring's read, and is not used for a queue -/
  | descriptorFetch (n : Nat) (o : Nat) (p : Pkt)
  /-- CQ_RECHECK (R211) -/
  | cqRecheck (n : Nat) (o : Nat)
  /-- COMPLETION_WRITE (R211). `host`: bytes 0–95 of a provenance block in host memory as read, empty when refused; not used for any other -/
  | completionWrite (n : Nat) (o : Nat) (host : List Nat)
  /-- RING_CFG_WRITE (R212) -/
  | ringCfgWrite (r : Nat) (v : Nat)
  /-- TQ_BELL (R213) -/
  | tqBell (n : Nat) (q : Nat) (v : Nat)
  /-- TQ_CFG_WRITE (R213) -/
  | tqCfgWrite (n : Nat) (q : Nat) (v : Nat)
  /-- DESCRIPTOR_START (R229). `id` names a descriptor that NI `n` holds, here and below -/
  | descriptorStart (n : Nat) (id : Nat)
  /-- NOT_BEFORE_REACHED (R230) -/
  | notBeforeReached (n : Nat) (id : Nat)
  /-- NOP (R217) -/
  | nop (n : Nat) (id : Nat)
  /-- COPY (R219) -/
  | copy (n : Nat) (id : Nat)
  /-- MCAST_WRITE (R220) -/
  | mcastWrite (n : Nat) (id : Nat)
  /-- ATOMIC (R221) -/
  | atomic (n : Nat) (id : Nat)
  /-- WIN_OPEN (R130) -/
  | winOpen (n : Nat) (id : Nat)
  /-- WIN_CLOSE (R141) -/
  | winClose (n : Nat) (id : Nat)
  /-- WIN_REPLENISH (R131) -/
  | winReplenish (n : Nat) (id : Nat)
  /-- CHART_RUN (R60) -/
  | chartRun (n : Nat) (id : Nat)
  /-- CHART_PAUSE (R254) -/
  | chartPause (n : Nat) (id : Nat)
  /-- PAUSE (R255) -/
  | pause (n : Nat) (p : Pkt)
  /-- REDUCE (R187) -/
  | reduce (n : Nat) (id : Nat)
  /-- AIR_EXTRACT (R198) -/
  | airExtract (n : Nat) (id : Nat)
  /-- AIR_CONVERT (R198) -/
  | airConvert (n : Nat) (id : Nat)
  /-- AIR_FINISH (R198) -/
  | airFinish (n : Nat) (id : Nat)
  /-- STREAM_READY (R226) -/
  | streamReady (n : Nat) (id : Nat)
  /-- WAIT (R227) -/
  | wait (n : Nat) (id : Nat)
  /-- WAIT_TIMEOUT (R227) -/
  | waitTimeout (n : Nat) (id : Nat)
  /-- HASH (R228) -/
  | hash (n : Nat) (id : Nat)
  /-- HASH_TIMEOUT (R228). `txn` is the engine's transaction that is unanswered -/
  | hashTimeout (txn : Nat)
  /-- SIG_READ (R244) -/
  | sigRead (hp : Nat) (p : Pkt)
  /-- SIG_WRITTEN (R245) -/
  | sigWritten (hp : Nat) (tag : Nat) (addr : Nat)
  /-- SIG_INV (R245) -/
  | sigInv (n : Nat) (p : Pkt)
  /-- SIG_INV_ACK (R245) -/
  | sigInvAck (hp : Nat) (p : Pkt)
  /-- SNOOP_TIMEOUT (R245) -/
  | snoopTimeout (hp : Nat) (line : Nat) (ni : Nat)
  /-- SIG_PAGE_WRITE (R246). `v` is the word written to FB_SIGt_LO -/
  | sigPageWrite (t : Nat) (v : Nat)
  /-- CONSORT_ARM (R263). `v` is the word written to FB_CONSORT_CFG -/
  | consortArm (v : Nat)
  /-- CONSORT (R265). the fields of the partner's frame (R265) -/
  | consort (chart : Nat) (seg : Nat) (region : Nat) (final : Bool) (beat : Nat) (crc : Nat) (flits : Nat)
  /-- CONSORT_FRAME_LOST (R265). names the frame that has waited -/
  | consortFrameLost (chart : Nat) (seg : Nat) (region : Nat) (beat : Nat)
  /-- REPLAY_RECORD_START (R267). `v` is the word written to FB_REPLAY_CFG, here and below -/
  | replayRecordStart (v : Nat)
  /-- REPLAY_START (R269) -/
  | replayStart (v : Nat)
  /-- REPLAY_STOP (R267) -/
  | replayStop (v : Nat)
  /-- REPLAY_INJECT (R269). the words of the log record at the pointer -/
  | replayInject (words : List Nat)
  /-- ERR_MSG (R279). `idle`: Stolrel takes what its inbox holds at once, here and in ATTN -/
  | errMsg (p : Pkt) (idle : Bool)
  /-- ATTN (R280) -/
  | attn (p : Pkt) (idle : Bool)
  /-- CLEAR_HIST (R274). `k` is UNIT_KIND and `i` the unit; `v` is the word written to its ERR_CTRL, here and below -/
  | clearHist (k : Nat) (i : Nat) (v : Nat)
  /-- LEAVE_SAFE (R302) -/
  | leaveSafe (k : Nat) (i : Nat) (v : Nat)
  /-- CLEAR_WINDOWS (R274) -/
  | clearWindows (k : Nat) (i : Nat) (v : Nat)
  /-- ERR_INJECT_WRITE (R301) -/
  | errInjectWrite (k : Nat) (i : Nat) (v : Nat)
  /-- FENCE (R287) -/
  | fence (n : Nat) (p : Pkt)
  /-- FENCE_WIRE (R284). router `n` sees the fence wire of its neighbour through `port` -/
  | fenceWire (n : Nat) (port : Nat)
  /-- REPAIR (R293). the patch number of the fault (R292); 0 for a region that has gone to F3 -/
  | repair (patch : Nat)
  /-- PUBLISH (R293). `v` is the word written to FB_MAP_GEN -/
  | publish (v : Nat)
  /-- REPAIR_HOLD_EXPIRE (R295). the launching NI and its chart -/
  | repairHoldExpire (n : Nat) (chart : Nat)
  /-- SOUNDING_FLIT (R289). router `n` sends through `port`; `err` has a bit set for each bit that arrives inverted -/
  | soundingFlit (n : Nat) (port : Nat) (seed : Nat) (err : Nat)
  /-- ROUTER_SELFTEST (R290). `n` is the region; `bad`: the signature differs, at test step `step` -/
  | routerSelftest (n : Nat) (step : Nat) (bad : Bool)
  /-- KICK (R300). `v` is the word written to FB_TICK_CTRL -/
  | kick (v : Nat)
  /-- FRAME_RECEIVE (R310). `pair` is the frame's pair and `odd` its place in it; `verdict`: 0 clean, 1 corrected, 2 uncorrectable -/
  | frameReceive (n : Nat) (pair : Nat) (odd : Bool) (verdict : Nat)
  /-- LINK_FLIT_TRANSMIT (R311) -/
  | linkFlitTransmit (n : Nat)
  /-- SMALL (R308). the USED cells in order: each a packet and which flit of it -/
  | small (n : Nat) (cells : List (Pkt × Nat))
  /-- OPEN (R307). flit `i` of the packet -/
  | openFlit (n : Nat) (p : Pkt) (i : Nat)
  /-- ACK (R309) -/
  | ack (n : Nat) (pair : Nat)
  /-- NAK (R310) -/
  | nak (n : Nat) (pair : Nat)
  /-- CREDIT (R311). bits 63:0 of the item -/
  | credit (n : Nat) (v : Nat)
  /-- LAND_MARK (R307) -/
  | landMark (n : Nat) (g : Nat)
  /-- STREAM (R333) -/
  | stream (n : Nat) (j : Nat)
  /-- IDENT (R320). bits 119:0 of the item -/
  | ident (n : Nat) (v : Nat)
  /-- IDENT_SEND (R320) -/
  | identSend (n : Nat)
  /-- SYNC (R329). C and ROOT_OFS of the item -/
  | sync (n : Nat) (c : Nat) (ofs : Nat)
  /-- SYNC_SEND (R328). the bundles whose far end names them as parent -/
  | syncSend (kids : List Nat)
  /-- LINK_LOSS (R333). received on link `n` -/
  | linkLoss (n : Nat) (j : Nat)
  /-- RESUME (R333). received on link `n` -/
  | resume (n : Nat) (j : Nat) (last : Nat)
  /-- TRAIN (R309) -/
  | train (n : Nat) (mask : Nat)
  /-- LINK_EGRESS_PACKET (R314) -/
  | linkEgressPacket (n : Nat) (p : Pkt)
  /-- LINK_INGRESS_REQUEST (R315) -/
  | linkIngressRequest (n : Nat)
  /-- LINK_INGRESS_ANSWER (R316) -/
  | linkIngressAnswer (n : Nat)
  /-- XLAT_IDLE_EXPIRE (R316) -/
  | xlatIdleExpire (n : Nat) (ltxn : Nat)
  /-- LINK_ENABLE (R317). `v` is the word written to OL_CTRL, here and in RETRAIN and HOLD_DOWN -/
  | linkEnable (n : Nat) (v : Nat)
  /-- RETRAIN (R317) -/
  | retrain (n : Nat) (v : Nat)
  /-- HOLD_DOWN (R317) -/
  | holdDown (n : Nat) (v : Nat)
  /-- PMA_READY (R317) -/
  | pmaReady (n : Nat) (mask : Nat)
  /-- SIG_DET_LOSS (R447) -/
  | sigDetLoss (n : Nat) (mask : Nat)
  /-- ALIGN_DONE (R317) -/
  | alignDone (n : Nat) (mask : Nat)
  /-- WIDTH_CHOSEN (R318) -/
  | widthChosen (n : Nat)
  /-- LOCK_DONE (R319). the round trip in lck cycles and the far end's LOCK -/
  | lockDone (n : Nat) (rtt : Nat) (far : Nat)
  /-- IDENT_DONE (R317) -/
  | identDone (n : Nat)
  /-- TRAIN_LIMIT_EXPIRE (R317) -/
  | trainLimitExpire (n : Nat)
  /-- DISCOVER (R323). `v` is the word written to FB_PLAN_CTRL, here and in HOLD_ALL -/
  | discover (v : Nat)
  /-- HOLD_ALL (R327) -/
  | holdAll (v : Nat)
  /-- ARBITRATE (R345) -/
  | arbitrate (n : Nat)
  /-- WR_DONE (R446) -/
  | wrDone (n : Nat) (tag : Nat)
  /-- READ_RETURN (R446). `ue`: a flit is flagged -/
  | readReturn (n : Nat) (tag : Nat) (ue : Bool)
  /-- REFRESH_HOLD (R348) -/
  | refreshHold (n : Nat)
  /-- REFRESH_HOLD_END (R347) -/
  | refreshHoldEnd (n : Nat)
  /-- REFRESH_STUCK (R348) -/
  | refreshStuck (n : Nat)
  /-- REARM (R348). `v` is the word written to MP_REFRESH_CFG -/
  | rearm (n : Nat) (v : Nat)
  /-- GO (R349). `v` is the word written to MP_ARB_COMMIT -/
  | go (n : Nat) (v : Nat)
  /-- DEBUG_TRANSACTION (R347). an in-port address, and 256 bytes as a number for a write -/
  | debugTransaction (n : Nat) (addr : Nat) (wr : Bool) (data : Nat)
  /-- BOOKING_CFG_WRITE (R340). `v` is the word written to MP_BOOKb_CFG -/
  | bookingCfgWrite (n : Nat) (b : Nat) (v : Nat)
  /-- NEAR_CFG_WRITE (R339). `k` 0 to 15 is FB_NEARk_CFG, 16 to 31 FB_NEARk_BASE, 32 FB_HBM_ILV; `v` the word written -/
  | nearCfgWrite (k : Nat) (v : Nat)
  /-- MAP_COPY_APPLY (R339). `k` is an NI, or 2,304 plus a memory port -/
  | mapCopyApply (k : Nat)
  /-- CTRL_READY (R446). the level and CAP -/
  | ctrlReady (n : Nat) (up : Bool) (cap : Nat)
  /-- GRANT_CFG_WRITE (R366). `k` 0 to 127 is FB_GRANTk_CFG, 128 to 255 FB_GRANTk_BASE; `v` the word written -/
  | grantCfgWrite (k : Nat) (v : Nat)
  /-- GRANT_COPY_APPLY (R366) -/
  | grantCopyApply (n : Nat)
  /-- HANDLE_WRITE (R359). `k` 0 is NI_HDLh_CFG, 1 NI_HDLh_RANGE, 2 NI_HDLh_HOME; `v` the word written -/
  | handleWrite (n : Nat) (h : Nat) (k : Nat) (v : Nat)
  /-- PAIR_WRITE (R361). `v` is the word written to NI_PAIRk_BASE -/
  | pairWrite (n : Nat) (k : Nat) (v : Nat)
  /-- ASSIGN (R371). `v` is the word written to FB_SLICE_CMD, here and for END, KILL, RELEASE and SCRUB -/
  | assign (v : Nat)
  /-- END (R371) -/
  | sliceEnd (v : Nat)
  /-- KILL (R371) -/
  | kill (v : Nat)
  /-- RELEASE (R371) -/
  | release (v : Nat)
  /-- SCRUB (R371) -/
  | scrub (v : Nat)
  /-- SLICE (R372) -/
  | slice (n : Nat) (p : Pkt)
  /-- SLICE_ANS (R370) -/
  | sliceAns (p : Pkt)
  /-- SCRUB_DONE (R373). `fail`: a line did not read back zero -/
  | scrubDone (n : Nat) (fail : Bool)
  /-- GROUP_DEFINE (R384). `v` is the word written to BN_MBOX_CMD and `bad` says that an HBM or flash access of the request fails, here and below -/
  | groupDefine (v : Nat) (bad : Bool)
  /-- GROUP_UNDEFINE (R384) -/
  | groupUndefine (v : Nat) (bad : Bool)
  /-- RID_DEFINE (R384) -/
  | ridDefine (v : Nat) (bad : Bool)
  /-- RID_UNDEFINE (R384) -/
  | ridUndefine (v : Nat) (bad : Bool)
  /-- STAGE_IMAGE (R413) -/
  | stageImage (v : Nat) (bad : Bool)
  /-- LOG_COPY (R384) -/
  | logCopy (v : Nat) (bad : Bool)
  /-- RECV_CHUNK (R416) -/
  | recvChunk (v : Nat) (bad : Bool)
  /-- RECV_END (R416) -/
  | recvEnd (v : Nat) (bad : Bool)
  /-- BN_LOCK (R382). `v` is the word written to BN_LOCK -/
  | bnLock (v : Nat)
  /-- SENSOR_REFRESH (R386). TEMP as a byte, the sag in units of 2 mV, and whether the dip sensor has no valid reading -/
  | sensorRefresh (n : Nat) (temp : Nat) (sag : Nat) (bad : Bool)
  /-- GOV_ENABLE (R393). `v` is the word written to BN_GOV_CFG -/
  | govEnable (v : Nat)
  /-- PMBUS_POLL (R388). READ_VIN, READ_IIN and READ_PIN as read in LINEAR11, and STATUS_WORD; `bad`: a transaction fails -/
  | pmbusPoll (bad : Bool) (vin : Nat) (iin : Nat) (pin : Nat) (st : Nat)
  /-- LOG_WRITE (R396). `bad`: the flash failed -/
  | logWrite (bad : Bool)
  /-- COLD_RESET (R440). the straps as taken, whether they disagreed, whether ANCHOR_N is asserted at the end of reset, and how the flash answers: 0 well, 1 not at all, 2 with an error -/
  | coldReset (chip : Nat) (sel : Nat) (unstable : Bool) (anchor : Bool) (flash : Nat)
  /-- REGION_RESET (R12) -/
  | regionReset (n : Nat)
  /-- ISLAND_RESET (R369) -/
  | islandReset (n : Nat)
  /-- LINK_RESET (R12) -/
  | linkReset (n : Nat)
  /-- BN_RESET (R406) -/
  | bnReset (flash : Nat)
  /-- POWER_WAVE (R398). the regions of the wave whose sag has not settled, and for the last wave what steps 3, 4 and 7 find -/
  | powerWave (bad : List Nat) (f1 : List Nat) (f2 : List Nat) (f3 : List Nat) (eng : Bool)
  /-- CORE_BIST_DONE (R443) -/
  | coreBistDone (n : Nat) (sig : Nat)
  /-- CORE_BIST_TIMEOUT (R443) -/
  | coreBistTimeout (n : Nat)
  /-- FWLOAD_ENABLE (R408). `v` is the word written to NI_FWLOAD_CFG, here and in FW_RELEASE -/
  | fwloadEnable (n : Nat) (v : Nat)
  /-- FW_CHUNK (R408) -/
  | fwChunk (n : Nat)
  /-- IMAGE_DIGEST_DONE (R411) -/
  | imageDigestDone (n : Nat)
  /-- FW_RELEASE (R411) -/
  | fwRelease (n : Nat) (v : Nat)
  /-- UNIT_CLOCK_LOST (R439). the clock domain -/
  | unitClockLost (d : Nat)
  /-- CORE_FATAL (R443). `code` is CORE_FCODE -/
  | coreFatal (n : Nat) (code : Nat)
  /-- SP_ERR (R443). `ue` and `addr` are SP_ERR_UE and SP_ERR_ADDR -/
  | spErr (n : Nat) (ue : Bool) (addr : Nat)
  /-- CTRL_FATAL_IN (R445). the level that memory port `n` samples -/
  | ctrlFatalIn (n : Nat) (up : Bool)
  /-- HP_FATAL_IN (R448). the level that host port `hp` samples -/
  | hpFatalIn (hp : Nat) (up : Bool)
  /-- CORE_REQUEST (R444). CQ_WRITE, CQ_ADDR, CQ_WDATA and CQ_BE at tile port `n` -/
  | coreRequest (n : Nat) (wr : Bool) (addr : Nat) (data : Nat) (be : Nat)
  /-- MEM_RD (R450) -/
  | memRd (hp : Nat)
  /-- MEM_WR (R450) -/
  | memWr (hp : Nat)
  /-- CPL (R450). TAG, STATUS and the data of the bridge's packet -/
  | cpl (hp : Nat) (tag : Nat) (st : Nat) (data : List Nat)
  /-- HOST_TAG_TIMEOUT (R450) -/
  | hostTagTimeout (hp : Nat) (tag : Nat)
  /-- TX_CRD (R448). `cls` is the class of the credit -/
  | txCrd (hp : Nat) (cls : Nat)
  /-- CNT_SNAP_GO (R419). `v` is the word written to FB_CNT_SNAP -/
  | cntSnapGo (v : Nat)
  /-- SNAPSHOT_COPY (R419). unit `i` of kind `k`: 0 NI, 1 region, 2 memory port, 3 outer link, 4 host port, 5 trace port -/
  | snapshotCopy (k : Nat) (i : Nat)
  /-- TRACE_FLUSH (R422) -/
  | traceFlush (n : Nat)
  /-- TRACE_PACKET_TIMEOUT (R422) -/
  | tracePacketTimeout (n : Nat) (txn : Nat)
  /-- TRACE_ACCEPT (R423) -/
  | traceAccept (p : Pkt)
  /-- FREEZE (R426). the word `v` written to the LOG_PTR of unit `i` of kind `k`: 0 NI, 1 memory port, 2 outer link, 3 host port -/
  | freeze (k : Nat) (i : Nat) (v : Nat)
  /-- PLOT_GO (R428). `v` is the word written to FB_PLOT_CTRL -/
  | plotGo (v : Nat)
  /-- STOP (R429). `v` is the word written to FB_ANCHOR_CTRL -/
  | stop (v : Nat)
  /-- ANCHOR_REARM (R429). `v` is the word written to FB_ANCHOR_CTRL -/
  | anchorRearm (v : Nat)
  /-- SCAN_GO (R433). `v` is the word written to FB_SCAN_CFG -/
  | scanGo (v : Nat)
  /-- THR_REARM (R455). `v` is the word written to FB_INPUT_CTRL -/
  | thrRearm (v : Nat)
  /-- MEMDBG (R457). the 2,112 bits shifted in -/
  | memdbg (d : Nat)
  /-- ALIGNMENT_MARKER (R305). `kind`: 0 taken, 1 dropped or repeated beyond absorption, 2 lock lost -/
  | alignmentMarker (n : Nat) (lane : Nat) (kind : Nat)
  /-- ARMING_FRAME (R263). the partner's map digest by words, Stolrel version and FB_MODE -/
  | armingFrame (digest : List Nat) (version : Nat) (mode : Nat)
  /-- STACK_TEMPERATURE (R389). TEMP and TEMP_LIM as bytes -/
  | stackTemperature (n : Nat) (temp : Nat) (lim : Nat)
  /-- IMAGE_SLOT_WRITTEN (R413). `bad`: the flash failed -/
  | imageSlotWritten (bad : Bool)
  /-- NI_REACH_WRITE (R313). `v` is the word written to NI_REACHk of NI `n` -/
  | niReachWrite (n : Nat) (k : Nat) (v : Nat)
  /-- BEAT_MARK (R35) -/
  | beatMark
  /-- REF_LOST (R39) -/
  | refLost
  /-- TICK_TOGGLE (R300) -/
  | tickToggle
  /-- KICK_MISSED (R300) -/
  | kickMissed
  /-- SYNC_LOST (R330) -/
  | syncLost
  /-- DISCOVERY_JUDGE (R324) -/
  | discoveryJudge
  /-- SLICE_TIMEOUT (R370) -/
  | sliceTimeout
  /-- MBOX_CMD_DROPPED (R383) -/
  | mboxCmdDropped
  /-- POWER_ESTIMATE (R390) -/
  | powerEstimate
  /-- GOVERNOR_LOOP (R391) -/
  | governorLoop
  /-- WARM_RESET (R12) -/
  | warmReset
  /-- BC_CLOCK_LOST (R439) -/
  | bcClockLost
  /-- IRQ (R452) -/
  | irq
  /-- SNAPSHOT_TIMEOUT (R419) -/
  | snapshotTimeout
  /-- TRACE_SEND (R423) -/
  | traceSend
  /-- CAPTURE_STALL (R453) -/
  | captureStall
  /-- ANCHOR_N (R429) -/
  | anchorN
  /-- ANCHOR_N_STUCK (R429) -/
  | anchorNStuck
  /-- ANCHOR_PARTIAL_FREEZE (R430) -/
  | anchorPartialFreeze
  /-- THROTTLE_ASSERT (R455) -/
  | throttleAssert
  /-- THR_MIN_EXPIRE (R455) -/
  | thrMinExpire
  /-- THR_STUCK (R455) -/
  | thrStuck
  /-- IDCODE (R457) -/
  | idcode
  /-- SCAN (R457) -/
  | scan
  /-- BYPASS (R457) -/
  | bypass
  /-- TRST (R457) -/
  | trst
  deriving DecidableEq, Repr

end Sys2Proof
end

