-- ==== Sys2Proof/Decode.lean ====
section
/-!
DEFINITION. The words of spec/opcode_table.json: the table gives no row of this block any bits, so no word spells a command.
-/

/-- The command that a word spells by the table's bits: none, since no row has bits. -/
def Sys2Proof.decodeTableWord (_nbits _w : Nat) : Option Sys2Proof.Instr := none
end

