-- ==== Sys2Proof/Machine/Packets.lean ====
section
/-!
DEFINITION. The messages of the four networks: opcode, number of flits and the place of each field (R85, R101, R103, R104,
R127, R188, R208, R244, R255, R279, R287, R370, R462), and the flits that a packet travels as.
-/

namespace Sys2Proof.Machine

/-- A message type: its network and opcode. -/
abbrev Op := Net × Nat

def opSTART : Op := (.snp, 0x01)
def opABORT : Op := (.snp, 0x02)
def opSEG_ABORT : Op := (.snp, 0x03)
def opFENCE : Op := (.snp, 0x08)
def opWIN_CLOSE : Op := (.snp, 0x0A)
def opCREDIT_REVOKE : Op := (.snp, 0x0B)
def opRED_ABORT : Op := (.snp, 0x0C)
def opPAUSE : Op := (.snp, 0x0D)
def opSLICE : Op := (.snp, 0x0E)
def opERR_MSG : Op := (.snp, 0x10)
def opATTN : Op := (.snp, 0x11)
def opSIG_INV : Op := (.snp, 0x20)
def opSIG_INV_ACK : Op := (.snp, 0x21)
def opREAD : Op := (.req, 0x01)
def opCREDIT_REQ : Op := (.req, 0x02)
def opCREDIT_RETURN : Op := (.req, 0x03)
def opCREDIT_CANCEL : Op := (.req, 0x04)
def opWIN_OPEN : Op := (.req, 0x05)
def opWIN_REPLENISH : Op := (.req, 0x06)
def opATOMIC : Op := (.req, 0x08)
def opATOMIC_CAS : Op := (.req, 0x09)
def opROLLCALL : Op := (.req, 0x0E)
def opREG_RD : Op := (.req, 0x10)
def opREG_WR : Op := (.req, 0x11)
def opBELL : Op := (.req, 0x18)
def opSIG_READ : Op := (.req, 0x1C)
def opRED_FAIL : Op := (.req, 0x20)
def opREAD_ERR : Op := (.rsp, 0x01)
def opCREDIT_ANS : Op := (.rsp, 0x02)
def opWIN_ANS : Op := (.rsp, 0x05)
def opATOMIC_ANS : Op := (.rsp, 0x08)
def opATOMIC_CAS_ANS : Op := (.rsp, 0x09)
def opWRITE_ACK : Op := (.rsp, 0x0C)
def opSEG_DONE : Op := (.rsp, 0x0D)
def opROLL_ANS : Op := (.rsp, 0x0E)
def opSLICE_ANS : Op := (.rsp, 0x0F)
def opREG_ANS : Op := (.rsp, 0x10)
def opRED_ACK : Op := (.rsp, 0x20)
def opRED_BUSY : Op := (.rsp, 0x21)
def opDROP : Op := (.rsp, 0x3F)
def opWRITE : Op := (.dat, 0x01)
def opWRITE_MC : Op := (.dat, 0x02)
def opAP_WRITE : Op := (.dat, 0x03)
def opREAD_DATA : Op := (.dat, 0x08)
def opRED_DATA : Op := (.dat, 0x20)
def opRED_RESULT : Op := (.dat, 0x21)

/-- The message type of a packet. -/
def Pkt.kind (p : Pkt) : Op := (p.net, p.op)

/-- The answer to an atomic: RSP 0x08 to ATOMIC and 0x09 to ATOMIC_CAS (R106, R127). -/
def Pkt.atomicAns (p : Pkt) : Op := if p.kind = opATOMIC_CAS then opATOMIC_CAS_ANS else opATOMIC_ANS

/-- Argument i of a packet, 0 where it has none. -/
def Pkt.arg (p : Pkt) (i : Nat) : Nat := p.args.getD i 0

/-- Where the fields of a message lie: flit, high bit and low bit, in the order of `Pkt.args`. A DAT message lists its ROUTE
ARG fields and then ADDRESS, EPOCH, NPAY, LASTB and PCLASS of R104. -/
def fieldsOf (o : Op) : List (Nat × Nat × Nat) :=
  match o with
  | (.snp, 0x01) => [(1, 63, 32), (1, 31, 0), (2, 63, 63), (2, 62, 62), (2, 59, 0), (3, 63, 0)]
  | (.snp, 0x02) | (.snp, 0x03) => [(0, 16, 9), (1, 63, 32), (1, 31, 16)]
  | (.snp, 0x08) => [(0, 16, 15), (0, 14, 12)]
  | (.snp, 0x0A) => [(0, 16, 16), (0, 15, 8), (1, 63, 48), (1, 47, 36), (1, 35, 24), (1, 23, 12)]
  | (.snp, 0x0B) => [(0, 16, 5)]
  | (.snp, 0x0C) => [(0, 16, 5), (1, 63, 56)]
  | (.snp, 0x0D) => [(1, 63, 32), (1, 15, 0), (2, 63, 0), (3, 63, 0)]
  | (.snp, 0x0E) => [(0, 16, 14), (0, 13, 13), (0, 12, 7)]
  | (.snp, 0x10) => [(0, 16, 13), (0, 12, 12), (0, 11, 11), (0, 10, 10), (0, 9, 6), (1, 63, 56), (1, 55, 38), (1, 31, 0)]
  | (.snp, 0x11) => [(0, 16, 9)]
  | (.snp, 0x20) | (.snp, 0x21) => [(0, 16, 5)]
  | (.req, 0x01) => [(1, 127, 64), (1, 63, 52)]
  | (.req, 0x02) => [(1, 127, 64), (1, 63, 51), (1, 50, 50), (1, 49, 49), (1, 48, 33)]
  | (.req, 0x03) => [(0, 57, 45)]
  | (.req, 0x05) => [(1, 127, 64), (1, 63, 51), (1, 50, 38)]
  | (.req, 0x06) => [(1, 127, 64), (1, 63, 51)]
  | (.req, 0x08) => [(1, 127, 64), (1, 63, 60), (1, 59, 59), (2, 127, 64)]
  | (.req, 0x09) => [(1, 127, 64), (1, 59, 59), (2, 127, 64), (2, 63, 0)]
  | (.req, 0x0E) => [(0, 57, 46)]
  | (.req, 0x10) => [(0, 57, 57), (1, 113, 64)]
  | (.req, 0x11) => [(0, 57, 57), (1, 113, 64), (1, 31, 0)]
  | (.req, 0x18) => [(0, 57, 46), (0, 45, 30)]
  | (.req, 0x1C) => [(1, 127, 64)]
  | (.req, 0x20) => [(0, 57, 46), (0, 45, 38)]
  | (.rsp, 0x01) => [(0, 57, 50)]
  | (.rsp, 0x02) => [(0, 57, 42), (0, 41, 29), (0, 28, 26), (0, 25, 25), (1, 127, 116), (1, 115, 104), (1, 103, 92),
      (1, 91, 80), (1, 79, 68), (1, 67, 56), (1, 55, 44), (1, 43, 32), (1, 31, 20)]
  | (.rsp, 0x05) => [(0, 57, 50), (0, 49, 34)]
  | (.rsp, 0x08) | (.rsp, 0x09) => [(0, 57, 50), (1, 127, 64)]
  | (.rsp, 0x0C) => [(0, 57, 50), (0, 49, 30), (0, 25, 25), (1, 127, 116), (1, 115, 104), (1, 103, 92), (1, 91, 80),
      (1, 79, 79)]
  | (.rsp, 0x0D) => [(0, 57, 26), (0, 25, 10), (0, 9, 2)]
  | (.rsp, 0x0E) => [(0, 57, 38), (0, 37, 26)]
  | (.rsp, 0x0F) => [(0, 57, 55), (0, 54, 54)]
  | (.rsp, 0x10) => [(0, 57, 50), (0, 49, 18)]
  | (.rsp, 0x20) => [(0, 57, 46), (0, 45, 26)]
  | (.rsp, 0x21) => [(0, 57, 46), (0, 45, 26), (0, 25, 25)]
  | (.rsp, 0x3F) => [(0, 57, 54), (0, 53, 48), (0, 47, 47)]
  | (.dat, 0x08) => [(0, 57, 50), (2, 63, 0), (3, 63, 48), (3, 47, 44), (3, 43, 36), (3, 35, 35)]
  | (.dat, 0x20) | (.dat, 0x21) => [(0, 57, 46), (0, 45, 26), (0, 25, 24), (0, 23, 23), (0, 22, 22), (0, 21, 21),
      (0, 20, 16), (2, 63, 0), (3, 63, 48), (3, 47, 44), (3, 43, 36), (3, 35, 35)]
  | (.dat, _) => [(0, 57, 38), (2, 63, 0), (3, 63, 48), (3, 47, 44), (3, 43, 36), (3, 35, 35)]
  | _ => []

/-- Whether an opcode is one that some chapter defines (R106); all others are reserved. -/
def knownOp (o : Op) : Bool :=
  match o with
  | (.dat, n) => n == 1 || n == 2 || n == 3 || n == 8 || n == 0x20 || n == 0x21
  | (.req, 4) | (.rsp, 9) => true
  | _ => !(fieldsOf o).isEmpty

/-- Flits of a REQ, RSP or SNP packet; a combined answer has one more (R127). -/
def nflits (p : Pkt) : Nat :=
  match p.net with
  | .dat => 1 + cdiv (max p.data.length 1) 256
  | _ =>
    let f := (fieldsOf p.kind).foldl (fun m x => max m x.1) 0
    if p.kind = opCREDIT_ANS ∨ p.kind = opWRITE_ACK then
      (if (if p.kind = opCREDIT_ANS then p.arg 3 else p.arg 2) = 1 then 2 else 1)
    else if p.kind = opRED_ABORT then 2 else f + 1

/-- Flit i of a packet's operation-specific fields. -/
def argFlit (p : Pkt) (i : Nat) : Nat :=
  ((fieldsOf p.kind).zip p.args).foldl
    (fun w f => if f.1.1 = i then w + (f.2 % 2 ^ (f.1.2.1 + 1 - f.1.2.2)) <<< f.1.2.2 else w) 0

/-- The header of R101 without ARG. -/
def header101 (p : Pkt) : Nat :=
  p.dst.x <<< 122 + p.dst.y <<< 116 + p.dst.port <<< 113 + p.src.x <<< 107 + p.src.y <<< 101 + p.src.port <<< 98 +
  b2n p.esc <<< 97 + p.egen <<< 96 + p.hops <<< 89 + (if p.net = .dat then 0 else (nflits p - 1) <<< 87) + p.op <<< 81 +
  p.ten <<< 75 + p.flow <<< 70 + p.txn <<< 58

/-- The header of R103 without ARG. -/
def header103 (p : Pkt) : Nat :=
  p.dst.x <<< 58 + p.dst.y <<< 52 + p.dst.port <<< 49 + p.src.x <<< 43 + p.src.y <<< 37 + p.src.port <<< 34 +
  b2n p.esc <<< 33 + p.egen <<< 32 + p.hops <<< 25 + (nflits p - 1) <<< 23 + p.op <<< 17

/-- The flits a packet travels as: R101 for REQ and RSP, R103 for SNP, and R104 for DAT, where word w of the header flit
holds bits 64w + 63 : 64w. -/
def Pkt.flits (p : Pkt) : List Nat :=
  match p.net with
  | .snp => (List.range (nflits p)).map (fun i => argFlit p i + (if i = 0 then header103 p else 0))
  | .dat =>
    (header101 p + argFlit p 0 + argFlit p 2 <<< 128 + argFlit p 3 <<< 192) ::
      (List.range (cdiv p.data.length 256)).map (fun i => ofBytes (slice p.data (256 * i) 256))
  | _ => (List.range (nflits p)).map (fun i => argFlit p i + (if i = 0 then header101 p else 0))

/-- A new packet: ESC, EGEN and HOPS are written zero (R101). -/
def mkPkt (o : Op) (src dst : Loc) (ten flow txn : Nat) (args : List Nat) (data : List Nat := []) : Pkt :=
  { net := o.1, op := o.2, dst := dst, src := src, ten := ten, flow := flow, txn := txn, esc := false, egen := 0, hops := 0,
    args := args, data := data }

/-- NPAY and LASTB of R104 for a payload of n bytes. -/
def npayLastb (n : Nat) : List Nat := [(n - 1) / 256, (n - 1) % 256]

/-- A DAT packet carrying bytes from an address (R104): ROUTE ARG fields, then ADDRESS, EPOCH, NPAY, LASTB, PCLASS. -/
def mkDat (o : Op) (src dst : Loc) (ten flow txn : Nat) (route : List Nat) (addr epoch cls : Nat) (data : List Nat) : Pkt :=
  mkPkt o src dst ten flow txn (route ++ [addr, epoch] ++ npayLastb data.length ++ [cls]) data

/-- The operand of AP_WRITE says, after the packet's own arguments, whether its payload flit came with an error that correction could not
mend (R105, R160). Log entry 149, DESIGN CHOICE. -/
def Pkt.payBad (p : Pkt) : Bool := p.arg 6 == 1

/-- An AP_WRITE as it was sent. -/
def Pkt.asSent (p : Pkt) : Pkt := { p with args := p.args.take 6 }

/-! ## Places -/

/-- Physical slot 48y + x of a router (R460). -/
def Loc.slot (l : Loc) : Nat := 48 * l.y + l.x

/-- The NI of a slot. -/
def niLoc (slot : Nat) : Loc := ⟨slot % 48, slot / 48, 0⟩

/-- The group address of a multicast (R98). -/
def groupLoc (g : Nat) : Loc := ⟨g % 16, g / 16, 7⟩

/-- The Binnacle, sending from P(23,23) (R99). -/
def bnLoc : Loc := ⟨23, 23, 5⟩

/-- What hangs on an off-die port (R18). -/
inductive Attach where
  | mp (n a : Nat)
  | ol (n : Nat)
  | hp (n : Nat)
  | tp
  deriving DecidableEq, Repr

/-- The attachment at position p of edge e (R18). -/
def attachAt (e p : Nat) : Option Attach :=
  let m := p / 12
  let q := p % 12
  if q = 1 then some (.ol (8 * e + 2 * m))
  else if 3 ≤ q ∧ q ≤ 8 then some (.mp (4 * e + m) (q - 3))
  else if q = 10 then some (.ol (8 * e + 2 * m + 1))
  else if e = 3 ∧ p = 23 then some (.hp 0)
  else if e = 1 ∧ p = 24 then some (.hp 1)
  else if e = 0 ∧ p = 24 then some .tp
  else none

/-- The attachment on off-die port 1–4 (OFF_N, OFF_E, OFF_S, OFF_W) of router (x, y). -/
def attachOf (l : Loc) : Option Attach :=
  match l.port with
  | 1 => if l.y = 0 then attachAt 0 l.x else none
  | 2 => if l.x = 47 then attachAt 1 l.y else none
  | 3 => if l.y = 47 then attachAt 2 l.x else none
  | 4 => if l.x = 0 then attachAt 3 l.y else none
  | _ => none

/-- The place of position p on edge e. -/
def edgeLoc (e p : Nat) : Loc :=
  match e with
  | 0 => ⟨p, 0, 1⟩
  | 1 => ⟨47, p, 2⟩
  | 2 => ⟨p, 47, 3⟩
  | _ => ⟨0, p, 4⟩

def mpLoc (n a : Nat) : Loc := edgeLoc (n / 4) (12 * (n % 4) + 3 + a)
def olLoc (n : Nat) : Loc := edgeLoc (n / 8) (12 * (n % 8 / 2) + (if n % 2 = 0 then 1 else 10))
def hpLoc (n : Nat) : Loc := if n = 0 then edgeLoc 3 23 else edgeLoc 1 24
def tpLoc : Loc := edgeLoc 0 24

/-- The neighbour of a router through mesh port 0–3 (N, E, S, W), when there is one (R17). -/
def neighbour (slot port : Nat) : Option Nat :=
  let x := slot % 48
  let y := slot / 48
  match port with
  | 0 => if 0 < y then some (slot - 48) else none
  | 1 => if x < 47 then some (slot + 1) else none
  | 2 => if y < 47 then some (slot + 48) else none
  | 3 => if 0 < x then some (slot - 1) else none
  | _ => none

/-- The port at the other end of a mesh link. -/
def farPort (port : Nat) : Nat := (port + 2) % 4

/-- The region of a slot (R4): region 6·j + i for x in 8i…8i+7 and y in 8j…8j+7. -/
def regionOf (slot : Nat) : Nat := 6 * (slot / 48 / 8) + slot % 48 / 8

/-- Slot of tile k (8·(y mod 8) + (x mod 8)) of a region. -/
def regionSlot (r k : Nat) : Nat := 48 * (8 * (r / 6) + k / 8) + 8 * (r % 6) + k % 8

/-- The key of a source port: the slot of an NI, 2,304 for the Binnacle, 2,305 + n for HPn. -/
def srcKey (l : Loc) : Nat :=
  match l.port with
  | 0 => l.slot
  | 5 => 2304
  | _ => match attachOf l with
    | some (.hp n) => 2305 + n
    | _ => 2400 + l.slot

end Sys2Proof.Machine
end

