-- ==== Sys2Proof/Config.lean ====
section
/-!
DEFINITION. The values that the spec leaves open. Each is an opaque constant without a body that anything can evaluate:
a statement about one holds for every value (notes/assumptions).
-/

namespace Sys2Proof.Machine.Config

/-- Destination-clock cycles since the domain last accepted C, at the n-th sampling (R55). Arguments: the state's counter
`fresh` and the clock domain. Free value. Log entry 7, DESIGN CHOICE. -/
opaque sampleCycles : Nat → Nat → Nat

/-- How far the domain's accepted C trails C at the n-th sampling; used modulo 2, since 3 destination cycles at 300 MHz or
more last at most one beat (R55, R58). Free value. Log entry 7, DESIGN CHOICE. -/
opaque sampleTrail : Nat → Nat → Nat

/-- A byte of a range whose contents the spec leaves undefined after an aborted segment (R84, R342). Arguments: the state's
counter `fresh` and the byte's key. Free value; used modulo 256. Log entry 8, DESIGN CHOICE. -/
opaque undefByte : Nat → Nat → Nat

/-- Flits that an outer link's transmit queue holds for scheduled departures (R89 names the queue and no size). Free value.
Log entry 9, DESIGN CHOICE. -/
opaque linkQueue : Nat

/-- Booked flits that a memory port's attach queue holds (R88, R342 name the queue and no size). Free value. Log entry 10, DESIGN CHOICE. -/
opaque attachQueue : Nat

/-- SHA-384 of bytes, as a number (R412, R413 name the function and no text of it). Free value. Log entry 11, DESIGN CHOICE. -/
opaque sha384 : List Nat → Nat

/-- ECDSA P-384 accepts: public key, signature, digest (R412, R413). Free value. Log entry 11, DESIGN CHOICE. -/
opaque ecdsaOk : Nat → Nat → Nat → Bool

/-- The dip sensor calibration code that Stolrel finds for a region (R387). Arguments: `fresh` and the region. Free value.
Log entry 13, DESIGN CHOICE. -/
opaque dipCal : Nat → Nat → Nat

/-- STATIC of a region in the image's calibration data, whose form the spec does not give (R390). Arguments: the calibration
bytes and the region. Free value. Log entry 13, DESIGN CHOICE. -/
opaque calStatic : List Nat → Nat → Nat

/-- The value of RG_DIP_THR that the image's calibration data names for a region, if any; the spec does not give the form of that data (R387).
Arguments: the calibration bytes and the region. Free value. Log entry 13, DESIGN CHOICE. -/
opaque calThr : List Nat → Nat → Option Nat

/-- First 32-byte unit of the system pair that Stolrel enables in an NI for the core image (R408 names a pair and no place). Argument: the slot.
Free value, used modulo the units that leave room for the pair. Log entry 153, DESIGN CHOICE. -/
opaque fwBase : Nat → Nat

/-- rc pulses that stretch removes in a region while one event of its runs (RG_STRETCH_CNT): rc cycles are not modelled. Arguments: `fresh`
and the region. Free value. Log entry 14, DESIGN CHOICE. -/
opaque skipped : Nat → Nat → Nat

/-- rc cycles of a stall that a LOAD or a fence at F3 ends (RG_STALL_CNT): no command gives them. Arguments: `fresh` and the region. Free
value. Log entry 138, DESIGN CHOICE. -/
opaque stalledFor : Nat → Nat → Nat

/-- Milliseconds from COLD reset to READY (R404). Argument: `fresh`. Free value. Log entry 15, DESIGN CHOICE. -/
opaque readyMs : Nat → Nat

/-- A word of a scan section whose entries the spec lists without a format (R434). Arguments: `fresh`, word 0 of the frame, and
the word's number. Free value; used modulo 2^64. Log entry 16, DESIGN CHOICE. -/
opaque scanWord : Nat → Nat → Nat → Nat

/-- Bytes in such a section (R434). Arguments: the beat b of the anchor stop, during which the section does not change, and word 0
of the section's first frame. Free value. Log entry 16, DESIGN CHOICE. -/
opaque scanUnits : Nat → Nat → Nat

/-- The known-answer signature of a core in the image's calibration data (R400). Argument: the calibration bytes. Free value.
Log entry 15, DESIGN CHOICE. -/
opaque coreSig : List Nat → Nat

/-- Structure and index of a parity fault that only its injection makes known, and the address at which a scrub reads a line that is not
zero (R275): no command gives them. Arguments: `fresh` and the slot. Free value; used modulo 2^18. Log entry 152, DESIGN CHOICE. -/
opaque parityAt : Nat → Nat → Nat

/-- Flits of one channel that a unit keeps for requests and DAT class 0 packets that wait there (R95 and R113 name no size). Free value.
Log entry 146, DESIGN CHOICE. -/
opaque unitQueue : Nat

/-- Bytes of read-return data beyond one packet that an NI has room for (R113 names no size). Free value. Log entry 146, DESIGN CHOICE. -/
opaque readRoom : Nat

end Sys2Proof.Machine.Config
end

