-- ==== Sys2Proof/Machine/RegTable.lean ====
section
/-!
DEFINITION. The register space of R460: which block each register lies in, its offset, how many copies it has and their
stride, its reset domain (R12), and its fields with their types (R10) and reset values, row by row as the register tables
of the spec give them. A field `Fld` names a register and a bit range. Reserved bits have no field: they read zero and
ignore writes (R7).
-/

namespace Sys2Proof.Machine

/-- The blocks of R460. -/
inductive Blk where
  | fb | ch | bn | tp | hp | mp | ol | rg | tn | rt | ni
  deriving DecidableEq, Repr

/-- The reset domains of R12. -/
inductive Dom where
  | cold | sticky | warm | bn | region | island | link
  deriving DecidableEq, Repr

/-- The field types of R10. -/
inductive FTy where
  | rw | ro | w1c | wo | rwl | sh
  deriving DecidableEq, Repr

/-- One field of a register: bits hi:lo, its type and its reset value. -/
structure FieldDef where
  hi : Nat
  lo : Nat
  ty : FTy
  reset : Nat
  deriving DecidableEq, Repr

/-- One register of a block: offset, number of copies and their stride in bytes, reset domain, whether its view is U. -/
structure RegDef where
  blk : Blk
  off : Nat
  count : Nat
  stride : Nat
  dom : Dom
  user : Bool
  fields : List FieldDef
  deriving DecidableEq, Repr

/-- A named field of a register. -/
structure Fld where
  reg : RegDef
  hi : Nat
  lo : Nat
  deriving DecidableEq, Repr

/-- First offset of instance n of a block (R460). -/
def Blk.base (b : Blk) (n : Nat) : Nat :=
  match b with
  | .fb => 0x00000000
  | .ch => 0x00040000
  | .bn => 0x00041000
  | .tp => 0x00042000
  | .hp => 0x00048000 + 0x8000 * n
  | .mp => 0x00060000 + 0x2000 * n
  | .ol => 0x00080000 + 0x1000 * n
  | .rg => 0x000A0000 + 0x1000 * n
  | .tn => 0x00100000 + 0x1000 * n
  | .rt => 0x01000000 + 0x4000 * n
  | .ni => 0x04000000 + 0x8000 * n

/-- Instances of a block (R460). -/
def Blk.count : Blk → Nat
  | .fb | .ch | .bn | .tp => 1
  | .hp => 2
  | .mp => 16
  | .ol => 32
  | .rg => 36
  | .tn => 64
  | .rt | .ni => 2304

/-- Bytes of one instance of a block (R460). -/
def Blk.size : Blk → Nat
  | .fb => 0x40000
  | .ch | .bn | .tp | .ol | .rg | .tn => 0x1000
  | .hp => 0x8000
  | .mp => 0x2000
  | .rt => 0x4000
  | .ni => 0x8000

/-- The block that holds the units of a kind (R273); the router block holds the reduction unit. -/
def UnitKind.blk : UnitKind → Blk
  | .ni => .ni | .red => .rt | .rg => .rg | .mp => .mp | .ol => .ol | .hp => .hp | .tp => .tp | .bn => .bn

/-- Offset of the error set in its block (R273). -/
def UnitKind.setBase : UnitKind → Nat
  | .ni => 0x0E00 | .red => 0x3100 | _ => 0x0400

/-- Offset of the first logbook entry (R425). -/
def UnitKind.logBase : UnitKind → Nat
  | .ni => 0x0200 | _ => 0x0800

/-- Offset of the logbook pointer (R425). -/
def UnitKind.logPtr : UnitKind → Nat
  | .ni => 0x0138 | _ => 0x07F0

/-- CH_CTRL, 02_chronometer_and_clocking.md, table after R39. -/
def CH_CTRL : RegDef := ⟨.ch, 0x0, 1, 0x0, .warm, false, [⟨2, 2, .rw, 0x0⟩, ⟨1, 1, .wo, 0x0⟩, ⟨0, 0, .rw, 0x0⟩]⟩
def CH_CTRL_HOLD_FORCE : Fld := ⟨CH_CTRL, 2, 2⟩
def CH_CTRL_LOAD : Fld := ⟨CH_CTRL, 1, 1⟩
def CH_CTRL_RUN : Fld := ⟨CH_CTRL, 0, 0⟩
/-- CH_STATUS, 02_chronometer_and_clocking.md, table after R39. -/
def CH_STATUS : RegDef := ⟨.ch, 0x4, 1, 0x0, .warm, false, [⟨3, 3, .ro, 0x0⟩, ⟨2, 2, .w1c, 0x0⟩, ⟨1, 1, .ro, 0x0⟩, ⟨0, 0, .ro, 0x0⟩]⟩
def CH_STATUS_REF_LOST : Fld := ⟨CH_STATUS, 3, 3⟩
def CH_STATUS_LOAD_IGNORED : Fld := ⟨CH_STATUS, 2, 2⟩
def CH_STATUS_HOLD : Fld := ⟨CH_STATUS, 1, 1⟩
def CH_STATUS_RUNNING : Fld := ⟨CH_STATUS, 0, 0⟩
/-- CH_TIME_LO, 02_chronometer_and_clocking.md, table after R39. -/
def CH_TIME_LO : RegDef := ⟨.ch, 0x8, 1, 0x0, .warm, false, [⟨31, 4, .ro, 0x0⟩, ⟨3, 0, .ro, 0x0⟩]⟩
def CH_TIME_LO_BEAT_LO : Fld := ⟨CH_TIME_LO, 31, 4⟩
def CH_TIME_LO_SLOT : Fld := ⟨CH_TIME_LO, 3, 0⟩
/-- CH_TIME_HI, 02_chronometer_and_clocking.md, table after R39. -/
def CH_TIME_HI : RegDef := ⟨.ch, 0xc, 1, 0x0, .warm, false, [⟨31, 0, .ro, 0x0⟩]⟩
def CH_TIME_HI_BEAT_HI : Fld := ⟨CH_TIME_HI, 31, 0⟩
/-- CH_HELD_LO, 02_chronometer_and_clocking.md, table after R39. -/
def CH_HELD_LO : RegDef := ⟨.ch, 0x10, 1, 0x0, .warm, false, [⟨31, 0, .ro, 0x0⟩]⟩
def CH_HELD_LO_HELD_LO : Fld := ⟨CH_HELD_LO, 31, 0⟩
/-- CH_HELD_HI, 02_chronometer_and_clocking.md, table after R39. -/
def CH_HELD_HI : RegDef := ⟨.ch, 0x14, 1, 0x0, .warm, false, [⟨27, 0, .ro, 0x0⟩]⟩
def CH_HELD_HI_HELD_HI : Fld := ⟨CH_HELD_HI, 27, 0⟩
/-- CH_LOAD_LO, 02_chronometer_and_clocking.md, table after R39. -/
def CH_LOAD_LO : RegDef := ⟨.ch, 0x18, 1, 0x0, .warm, false, [⟨31, 0, .rw, 0x0⟩]⟩
def CH_LOAD_LO_LOAD_LO : Fld := ⟨CH_LOAD_LO, 31, 0⟩
/-- CH_LOAD_HI, 02_chronometer_and_clocking.md, table after R39. -/
def CH_LOAD_HI : RegDef := ⟨.ch, 0x1c, 1, 0x0, .warm, false, [⟨27, 0, .rw, 0x0⟩]⟩
def CH_LOAD_HI_LOAD_HI : Fld := ⟨CH_LOAD_HI, 27, 0⟩
/-- CH_HOLD_REQ0, 02_chronometer_and_clocking.md, table after R39. -/
def CH_HOLD_REQ0 : RegDef := ⟨.ch, 0x20, 1, 0x0, .warm, false, [⟨31, 0, .ro, 0x0⟩]⟩
def CH_HOLD_REQ0_REQ : Fld := ⟨CH_HOLD_REQ0, 31, 0⟩
/-- CH_HOLD_REQ1, 02_chronometer_and_clocking.md, table after R39. -/
def CH_HOLD_REQ1 : RegDef := ⟨.ch, 0x24, 1, 0x0, .warm, false, [⟨3, 0, .ro, 0x0⟩]⟩
def CH_HOLD_REQ1_REQ : Fld := ⟨CH_HOLD_REQ1, 3, 0⟩
/-- RG_ESC_CTRL, 02_chronometer_and_clocking.md, table after R52. -/
def RG_ESC_CTRL : RegDef := ⟨.rg, 0x100, 1, 0x0, .region, false, [⟨27, 16, .rw, 0x64⟩, ⟨15, 4, .rw, 0x400⟩, ⟨0, 0, .rw, 0x0⟩]⟩
def RG_ESC_CTRL_GAP_LIMIT : Fld := ⟨RG_ESC_CTRL, 27, 16⟩
def RG_ESC_CTRL_STALL_LIMIT : Fld := ⟨RG_ESC_CTRL, 15, 4⟩
def RG_ESC_CTRL_LOCKED : Fld := ⟨RG_ESC_CTRL, 0, 0⟩
/-- RG_ESC_STATUS, 02_chronometer_and_clocking.md, table after R52. -/
def RG_ESC_STATUS : RegDef := ⟨.rg, 0x104, 1, 0x0, .region, false, [⟨10, 8, .ro, 0x0⟩, ⟨5, 5, .ro, 0x0⟩, ⟨4, 4, .ro, 0x0⟩, ⟨3, 3, .ro, 0x0⟩, ⟨2, 0, .ro, 0x0⟩]⟩
def RG_ESC_STATUS_DEPTH : Fld := ⟨RG_ESC_STATUS, 10, 8⟩
def RG_ESC_STATUS_STALLED : Fld := ⟨RG_ESC_STATUS, 5, 5⟩
def RG_ESC_STATUS_CLOCK_ABSENT : Fld := ⟨RG_ESC_STATUS, 4, 4⟩
def RG_ESC_STATUS_HOLD_REQ : Fld := ⟨RG_ESC_STATUS, 3, 3⟩
def RG_ESC_STATUS_LAG : Fld := ⟨RG_ESC_STATUS, 2, 0⟩
/-- RG_DIP_THR, 02_chronometer_and_clocking.md, table after R52. -/
def RG_DIP_THR : RegDef := ⟨.rg, 0x108, 1, 0x0, .region, false, [⟨31, 24, .rw, 0x1e⟩, ⟨23, 16, .rw, 0x14⟩, ⟨15, 8, .rw, 0xf⟩, ⟨7, 0, .rw, 0xa⟩]⟩
def RG_DIP_THR_THR4 : Fld := ⟨RG_DIP_THR, 31, 24⟩
def RG_DIP_THR_THR3 : Fld := ⟨RG_DIP_THR, 23, 16⟩
def RG_DIP_THR_THR2 : Fld := ⟨RG_DIP_THR, 15, 8⟩
def RG_DIP_THR_THR1 : Fld := ⟨RG_DIP_THR, 7, 0⟩
/-- RG_STRETCH_CTRL, 02_chronometer_and_clocking.md, table after R52. -/
def RG_STRETCH_CTRL : RegDef := ⟨.rg, 0x10c, 1, 0x0, .region, false, [⟨15, 8, .rw, 0x8⟩, ⟨6, 4, .rw, 0x2⟩, ⟨3, 1, .rw, 0x0⟩, ⟨0, 0, .rw, 0x1⟩]⟩
def RG_STRETCH_CTRL_RELEASE : Fld := ⟨RG_STRETCH_CTRL, 15, 8⟩
def RG_STRETCH_CTRL_THR_DEPTH : Fld := ⟨RG_STRETCH_CTRL, 6, 4⟩
def RG_STRETCH_CTRL_GOV_DEPTH : Fld := ⟨RG_STRETCH_CTRL, 3, 1⟩
def RG_STRETCH_CTRL_DIP_EN : Fld := ⟨RG_STRETCH_CTRL, 0, 0⟩
/-- RG_STRETCH_CNT, 02_chronometer_and_clocking.md, table after R52. -/
def RG_STRETCH_CNT : RegDef := ⟨.rg, 0x110, 1, 0x0, .region, false, [⟨31, 0, .ro, 0x0⟩]⟩
def RG_STRETCH_CNT_SKIPPED : Fld := ⟨RG_STRETCH_CNT, 31, 0⟩
/-- RG_DIP_EVENTS, 02_chronometer_and_clocking.md, table after R52. -/
def RG_DIP_EVENTS : RegDef := ⟨.rg, 0x114, 1, 0x0, .region, false, [⟨31, 0, .ro, 0x0⟩]⟩
def RG_DIP_EVENTS_EVENTS : Fld := ⟨RG_DIP_EVENTS, 31, 0⟩
/-- RG_STALL_CNT, 02_chronometer_and_clocking.md, table after R52. -/
def RG_STALL_CNT : RegDef := ⟨.rg, 0x118, 1, 0x0, .region, false, [⟨31, 0, .ro, 0x0⟩]⟩
def RG_STALL_CNT_STALLS : Fld := ⟨RG_STALL_CNT, 31, 0⟩
/-- NI_CHART_CTRL, 03_scheduled_plane.md, table after R91. -/
def NI_CHART_CTRL : RegDef := ⟨.ni, 0x600, 1, 0x0, .island, false, [⟨3, 1, .rw, 0x0⟩, ⟨0, 0, .rw, 0x0⟩]⟩
def NI_CHART_CTRL_PAIR : Fld := ⟨NI_CHART_CTRL, 3, 1⟩
def NI_CHART_CTRL_ENABLE : Fld := ⟨NI_CHART_CTRL, 0, 0⟩
/-- NI_CHART_STATUS, 03_scheduled_plane.md, table after R91. -/
def NI_CHART_STATUS : RegDef := ⟨.ni, 0x604, 1, 0x0, .island, false, [⟨31, 16, .ro, 0x0⟩, ⟨10, 10, .w1c, 0x0⟩, ⟨9, 9, .w1c, 0x0⟩, ⟨8, 8, .w1c, 0x0⟩, ⟨7, 7, .w1c, 0x0⟩, ⟨6, 6, .w1c, 0x0⟩, ⟨5, 5, .w1c, 0x0⟩, ⟨4, 4, .w1c, 0x0⟩, ⟨3, 3, .ro, 0x0⟩, ⟨2, 2, .ro, 0x0⟩, ⟨1, 1, .ro, 0x0⟩, ⟨0, 0, .ro, 0x0⟩]⟩
def NI_CHART_STATUS_SEG_INDEX : Fld := ⟨NI_CHART_STATUS, 31, 16⟩
def NI_CHART_STATUS_LAUNCH_LATE : Fld := ⟨NI_CHART_STATUS, 10, 10⟩
def NI_CHART_STATUS_STREAM_OVERRUN : Fld := ⟨NI_CHART_STATUS, 9, 9⟩
def NI_CHART_STATUS_CHART_MISMATCH : Fld := ⟨NI_CHART_STATUS, 8, 8⟩
def NI_CHART_STATUS_CHART_CONFLICT : Fld := ⟨NI_CHART_STATUS, 7, 7⟩
def NI_CHART_STATUS_ENTRY_UE : Fld := ⟨NI_CHART_STATUS, 6, 6⟩
def NI_CHART_STATUS_ENTRY_CE : Fld := ⟨NI_CHART_STATUS, 5, 5⟩
def NI_CHART_STATUS_STALE : Fld := ⟨NI_CHART_STATUS, 4, 4⟩
def NI_CHART_STATUS_LOAD_WAIT : Fld := ⟨NI_CHART_STATUS, 3, 3⟩
def NI_CHART_STATUS_LOADED : Fld := ⟨NI_CHART_STATUS, 2, 2⟩
def NI_CHART_STATUS_BANK : Fld := ⟨NI_CHART_STATUS, 1, 1⟩
def NI_CHART_STATUS_RUNNING : Fld := ⟨NI_CHART_STATUS, 0, 0⟩
/-- NI_CHART_BEAT, 03_scheduled_plane.md, table after R91. -/
def NI_CHART_BEAT : RegDef := ⟨.ni, 0x608, 1, 0x0, .island, false, [⟨17, 0, .ro, 0x0⟩]⟩
def NI_CHART_BEAT_BEAT : Fld := ⟨NI_CHART_BEAT, 17, 0⟩
/-- NI_CHART_ID, 03_scheduled_plane.md, table after R91. -/
def NI_CHART_ID : RegDef := ⟨.ni, 0x60c, 1, 0x0, .island, false, [⟨31, 0, .ro, 0x0⟩]⟩
def NI_CHART_ID_CHART_ID : Fld := ⟨NI_CHART_ID, 31, 0⟩
/-- NI_CHART_PATCH, 03_scheduled_plane.md, table after R91. -/
def NI_CHART_PATCH : RegDef := ⟨.ni, 0x610, 1, 0x0, .island, false, [⟨31, 31, .rw, 0x0⟩, ⟨15, 0, .rw, 0x0⟩]⟩
def NI_CHART_PATCH_VALID : Fld := ⟨NI_CHART_PATCH, 31, 31⟩
def NI_CHART_PATCH_NUM : Fld := ⟨NI_CHART_PATCH, 15, 0⟩
/-- NI_PATCH_FROMn, 03_scheduled_plane.md, table after R91. -/
def NI_PATCH_FROM : RegDef := ⟨.ni, 0x620, 8, 0x4, .island, false, [⟨31, 0, .rw, 0x0⟩]⟩
def NI_PATCH_FROM_DIGEST : Fld := ⟨NI_PATCH_FROM, 31, 0⟩
/-- RG_BUS_STATUS, 03_scheduled_plane.md, table after R91. -/
def RG_BUS_STATUS : RegDef := ⟨.rg, 0x120, 1, 0x0, .region, false, [⟨11, 8, .ro, 0x0⟩, ⟨6, 4, .ro, 0x0⟩, ⟨0, 0, .w1c, 0x0⟩]⟩
def RG_BUS_STATUS_SLOT : Fld := ⟨RG_BUS_STATUS, 11, 8⟩
def RG_BUS_STATUS_ROW : Fld := ⟨RG_BUS_STATUS, 6, 4⟩
def RG_BUS_STATUS_BUS_CONFLICT : Fld := ⟨RG_BUS_STATUS, 0, 0⟩
/-- OL_LAND_CFG, 03_scheduled_plane.md, table after R91. -/
def OL_LAND_CFG : RegDef := ⟨.ol, 0x200, 1, 0x0, .link, false, [⟨15, 8, .rw, 0x40⟩, ⟨0, 0, .rw, 0x0⟩]⟩
def OL_LAND_CFG_DELAY : Fld := ⟨OL_LAND_CFG, 15, 8⟩
def OL_LAND_CFG_ENABLE : Fld := ⟨OL_LAND_CFG, 0, 0⟩
/-- OL_LAND_STATUS, 03_scheduled_plane.md, table after R91. -/
def OL_LAND_STATUS : RegDef := ⟨.ol, 0x204, 1, 0x0, .link, false, [⟨31, 24, .ro, 0x0⟩, ⟨2, 2, .w1c, 0x0⟩, ⟨1, 1, .w1c, 0x0⟩, ⟨0, 0, .w1c, 0x0⟩]⟩
def OL_LAND_STATUS_LINES_USED : Fld := ⟨OL_LAND_STATUS, 31, 24⟩
def OL_LAND_STATUS_DELAY_LOW : Fld := ⟨OL_LAND_STATUS, 2, 2⟩
def OL_LAND_STATUS_LAND_MISMATCH : Fld := ⟨OL_LAND_STATUS, 1, 1⟩
def OL_LAND_STATUS_LATE : Fld := ⟨OL_LAND_STATUS, 0, 0⟩
/-- OL_LAND_LATE_CNT, 03_scheduled_plane.md, table after R91. -/
def OL_LAND_LATE_CNT : RegDef := ⟨.ol, 0x208, 1, 0x0, .link, false, [⟨31, 0, .ro, 0x0⟩]⟩
def OL_LAND_LATE_CNT_LATE : Fld := ⟨OL_LAND_LATE_CNT, 31, 0⟩
/-- RT_CFG, 04_open_plane.md, table after R121. -/
def RT_CFG : RegDef := ⟨.rt, 0x0, 1, 0x0, .island, false, [⟨31, 24, .rw, 0x60⟩, ⟨23, 16, .rw, 0x40⟩, ⟨15, 8, .rw, 0x40⟩, ⟨0, 0, .rw, 0x0⟩]⟩
def RT_CFG_HOP_LIMIT : Fld := ⟨RT_CFG, 31, 24⟩
def RT_CFG_AGE_LIMIT : Fld := ⟨RT_CFG, 23, 16⟩
def RT_CFG_ESC_WAIT : Fld := ⟨RT_CFG, 15, 8⟩
def RT_CFG_ESC_GEN : Fld := ⟨RT_CFG, 0, 0⟩
/-- RT_CTRL, 04_open_plane.md, table after R121. -/
def RT_CTRL : RegDef := ⟨.rt, 0x4, 1, 0x0, .island, false, [⟨1, 1, .wo, 0x0⟩, ⟨0, 0, .wo, 0x0⟩]⟩
def RT_CTRL_PURGE1 : Fld := ⟨RT_CTRL, 1, 1⟩
def RT_CTRL_PURGE0 : Fld := ⟨RT_CTRL, 0, 0⟩
/-- RT_ROUTE_n, 04_open_plane.md, table after R121. -/
def RT_ROUTE : RegDef := ⟨.rt, 0x100, 1153, 0x4, .island, false, [⟨31, 16, .rw, 0x0⟩, ⟨15, 0, .rw, 0x0⟩]⟩
def RT_ROUTE_ENTRY_ODD : Fld := ⟨RT_ROUTE, 31, 16⟩
def RT_ROUTE_ENTRY_EVEN : Fld := ⟨RT_ROUTE, 15, 0⟩
/-- NI_FLOW_CFGn, 04_open_plane.md, table after R121. -/
def NI_FLOW_CFG : RegDef := ⟨.ni, 0x800, 32, 0x10, .island, false, [⟨31, 31, .rw, 0x0⟩, ⟨30, 30, .rw, 0x0⟩, ⟨29, 24, .rw, 0x0⟩, ⟨20, 16, .rw, 0x0⟩, ⟨7, 0, .rw, 0x1⟩]⟩
def NI_FLOW_CFG_ENABLE : Fld := ⟨NI_FLOW_CFG, 31, 31⟩
def NI_FLOW_CFG_RESET_FULL : Fld := ⟨NI_FLOW_CFG, 30, 30⟩
def NI_FLOW_CFG_TENANCY : Fld := ⟨NI_FLOW_CFG, 29, 24⟩
def NI_FLOW_CFG_OLINK : Fld := ⟨NI_FLOW_CFG, 20, 16⟩
def NI_FLOW_CFG_WEIGHT : Fld := ⟨NI_FLOW_CFG, 7, 0⟩
/-- NI_FLOW_RATEn, 04_open_plane.md, table after R121. -/
def NI_FLOW_RATE : RegDef := ⟨.ni, 0x804, 32, 0x10, .island, false, [⟨31, 20, .rw, 0x10⟩, ⟨19, 0, .rw, 0x0⟩]⟩
def NI_FLOW_RATE_BURST : Fld := ⟨NI_FLOW_RATE, 31, 20⟩
def NI_FLOW_RATE_RATE : Fld := ⟨NI_FLOW_RATE, 19, 0⟩
/-- NI_FLOW_OVHn, 04_open_plane.md, table after R121. -/
def NI_FLOW_OVH : RegDef := ⟨.ni, 0x808, 32, 0x10, .island, false, [⟨23, 12, .rw, 0x0⟩, ⟨11, 0, .rw, 0x100⟩]⟩
def NI_FLOW_OVH_GAP_OVH : Fld := ⟨NI_FLOW_OVH, 23, 12⟩
def NI_FLOW_OVH_HDR_OVH : Fld := ⟨NI_FLOW_OVH, 11, 0⟩
/-- NI_FLOW_STATUSn, 04_open_plane.md, table after R121. -/
def NI_FLOW_STATUS : RegDef := ⟨.ni, 0x80c, 32, 0x10, .island, false, [⟨31, 24, .ro, 0x0⟩, ⟨23, 23, .ro, 0x0⟩, ⟨20, 0, .ro, 0x0⟩]⟩
def NI_FLOW_STATUS_QUEUED : Fld := ⟨NI_FLOW_STATUS, 31, 24⟩
def NI_FLOW_STATUS_PARKED : Fld := ⟨NI_FLOW_STATUS, 23, 23⟩
def NI_FLOW_STATUS_LEVEL : Fld := ⟨NI_FLOW_STATUS, 20, 0⟩
/-- NI_SHAPER_CFG, 04_open_plane.md, table after R121. -/
def NI_SHAPER_CFG : RegDef := ⟨.ni, 0xa00, 1, 0x0, .island, false, [⟨15, 8, .rw, 0x40⟩, ⟨2, 0, .rw, 0x0⟩]⟩
def NI_SHAPER_CFG_RESP_WEIGHT : Fld := ⟨NI_SHAPER_CFG, 15, 8⟩
def NI_SHAPER_CFG_GRAN : Fld := ⟨NI_SHAPER_CFG, 2, 0⟩
/-- NI_OPEN_CFG, 04_open_plane.md, table after R121. -/
def NI_OPEN_CFG : RegDef := ⟨.ni, 0xa04, 1, 0x0, .island, false, [⟨15, 0, .rw, 0x3e8⟩]⟩
def NI_OPEN_CFG_TIMEOUT : Fld := ⟨NI_OPEN_CFG, 15, 0⟩
/-- NI_OPEN_STATUS, 04_open_plane.md, table after R121. -/
def NI_OPEN_STATUS : RegDef := ⟨.ni, 0xa08, 1, 0x0, .island, false, [⟨3, 3, .w1c, 0x0⟩, ⟨2, 2, .w1c, 0x0⟩, ⟨1, 1, .w1c, 0x0⟩, ⟨0, 0, .w1c, 0x0⟩]⟩
def NI_OPEN_STATUS_LATE_RSP : Fld := ⟨NI_OPEN_STATUS, 3, 3⟩
def NI_OPEN_STATUS_TIMEOUT : Fld := ⟨NI_OPEN_STATUS, 2, 2⟩
def NI_OPEN_STATUS_DROP : Fld := ⟨NI_OPEN_STATUS, 1, 1⟩
def NI_OPEN_STATUS_FLOW_DENIED : Fld := ⟨NI_OPEN_STATUS, 0, 0⟩
/-- NI_CREDIT_CFG, 05_remote_memory_and_multicast.md, table after R167. -/
def NI_CREDIT_CFG : RegDef := ⟨.ni, 0xc00, 1, 0x0, .island, false, [⟨15, 8, .rw, 0x64⟩, ⟨7, 0, .rw, 0x14⟩]⟩
def NI_CREDIT_CFG_WAIT_LIMIT : Fld := ⟨NI_CREDIT_CFG, 15, 8⟩
def NI_CREDIT_CFG_ROLL_TIME : Fld := ⟨NI_CREDIT_CFG, 7, 0⟩
/-- NI_CREDIT_STATUS, 05_remote_memory_and_multicast.md, table after R167. -/
def NI_CREDIT_STATUS : RegDef := ⟨.ni, 0xc04, 1, 0x0, .island, false, [⟨31, 24, .ro, 0x0⟩, ⟨23, 16, .ro, 0x0⟩, ⟨3, 3, .w1c, 0x0⟩, ⟨2, 2, .w1c, 0x0⟩, ⟨1, 1, .w1c, 0x0⟩, ⟨0, 0, .w1c, 0x0⟩]⟩
def NI_CREDIT_STATUS_WAITERS : Fld := ⟨NI_CREDIT_STATUS, 31, 24⟩
def NI_CREDIT_STATUS_LEDGER : Fld := ⟨NI_CREDIT_STATUS, 23, 16⟩
def NI_CREDIT_STATUS_LEDGER_FULL : Fld := ⟨NI_CREDIT_STATUS, 3, 3⟩
def NI_CREDIT_STATUS_WAITQ_FULL : Fld := ⟨NI_CREDIT_STATUS, 2, 2⟩
def NI_CREDIT_STATUS_STALE_WRITE : Fld := ⟨NI_CREDIT_STATUS, 1, 1⟩
def NI_CREDIT_STATUS_BAD_CREDIT : Fld := ⟨NI_CREDIT_STATUS, 0, 0⟩
/-- NI_WIN_SEL, 05_remote_memory_and_multicast.md, table after R167. -/
def NI_WIN_SEL : RegDef := ⟨.ni, 0xc08, 1, 0x0, .island, false, [⟨7, 0, .rw, 0x0⟩]⟩
def NI_WIN_SEL_HANDLE : Fld := ⟨NI_WIN_SEL, 7, 0⟩
/-- NI_WIN_STATE, 05_remote_memory_and_multicast.md, table after R167. -/
def NI_WIN_STATE : RegDef := ⟨.ni, 0xc0c, 1, 0x0, .island, false, [⟨31, 30, .ro, 0x0⟩, ⟨28, 16, .ro, 0x0⟩, ⟨15, 0, .ro, 0x0⟩]⟩
def NI_WIN_STATE_STATE : Fld := ⟨NI_WIN_STATE, 31, 30⟩
def NI_WIN_STATE_POOL : Fld := ⟨NI_WIN_STATE, 28, 16⟩
def NI_WIN_STATE_EPOCH : Fld := ⟨NI_WIN_STATE, 15, 0⟩
/-- NI_WIN_CREDIT, 05_remote_memory_and_multicast.md, table after R167. -/
def NI_WIN_CREDIT : RegDef := ⟨.ni, 0xc10, 1, 0x0, .island, false, [⟨28, 16, .ro, 0x0⟩, ⟨12, 0, .ro, 0x0⟩]⟩
def NI_WIN_CREDIT_GRANTED : Fld := ⟨NI_WIN_CREDIT, 28, 16⟩
def NI_WIN_CREDIT_FREE : Fld := ⟨NI_WIN_CREDIT, 12, 0⟩
/-- NI_AP_CFG, 05_remote_memory_and_multicast.md, table after R167. -/
def NI_AP_CFG : RegDef := ⟨.ni, 0xc20, 1, 0x0, .island, false, [⟨31, 31, .rw, 0x0⟩, ⟨30, 28, .rw, 0x0⟩, ⟨27, 25, .rw, 0x0⟩, ⟨21, 16, .rw, 0x0⟩, ⟨15, 8, .rw, 0x4⟩]⟩
def NI_AP_CFG_ENABLE : Fld := ⟨NI_AP_CFG, 31, 31⟩
def NI_AP_CFG_PAIR_LAND : Fld := ⟨NI_AP_CFG, 30, 28⟩
def NI_AP_CFG_PAIR_TGT : Fld := ⟨NI_AP_CFG, 27, 25⟩
def NI_AP_CFG_TENANCY : Fld := ⟨NI_AP_CFG, 21, 16⟩
def NI_AP_CFG_BACKOFF : Fld := ⟨NI_AP_CFG, 15, 8⟩
/-- NI_AP_STATUS, 05_remote_memory_and_multicast.md, table after R167. -/
def NI_AP_STATUS : RegDef := ⟨.ni, 0xc24, 1, 0x0, .island, false, [⟨31, 22, .ro, 0x0⟩, ⟨5, 5, .w1c, 0x0⟩, ⟨4, 4, .w1c, 0x0⟩, ⟨3, 3, .w1c, 0x0⟩, ⟨2, 2, .w1c, 0x0⟩, ⟨1, 1, .w1c, 0x0⟩, ⟨0, 0, .w1c, 0x0⟩]⟩
def NI_AP_STATUS_FILL : Fld := ⟨NI_AP_STATUS, 31, 22⟩
def NI_AP_STATUS_AP_STRICT : Fld := ⟨NI_AP_STATUS, 5, 5⟩
def NI_AP_STATUS_AP_DENIED : Fld := ⟨NI_AP_STATUS, 4, 4⟩
def NI_AP_STATUS_AP_FENCED : Fld := ⟨NI_AP_STATUS, 3, 3⟩
def NI_AP_STATUS_AP_RANGE : Fld := ⟨NI_AP_STATUS, 2, 2⟩
def NI_AP_STATUS_AP_ALIGN : Fld := ⟨NI_AP_STATUS, 1, 1⟩
def NI_AP_STATUS_AP_READ : Fld := ⟨NI_AP_STATUS, 0, 0⟩
/-- NI_AP_BUSY_CNT, 05_remote_memory_and_multicast.md, table after R167. -/
def NI_AP_BUSY_CNT : RegDef := ⟨.ni, 0xc28, 1, 0x0, .island, false, [⟨31, 0, .ro, 0x0⟩]⟩
def NI_AP_BUSY_CNT_BUSY : Fld := ⟨NI_AP_BUSY_CNT, 31, 0⟩
/-- RT_GROUPn, 05_remote_memory_and_multicast.md, table after R167. -/
def RT_GROUP : RegDef := ⟨.rt, 0x2000, 1024, 0x4, .island, false, [⟨31, 31, .rw, 0x0⟩, ⟨30, 25, .rw, 0x0⟩, ⟨24, 19, .rw, 0x0⟩, ⟨18, 14, .rw, 0x0⟩, ⟨13, 9, .rw, 0x0⟩]⟩
def RT_GROUP_VALID : Fld := ⟨RT_GROUP, 31, 31⟩
def RT_GROUP_ROOT_X : Fld := ⟨RT_GROUP, 30, 25⟩
def RT_GROUP_ROOT_Y : Fld := ⟨RT_GROUP, 24, 19⟩
def RT_GROUP_DOWN0 : Fld := ⟨RT_GROUP, 18, 14⟩
def RT_GROUP_DOWN1 : Fld := ⟨RT_GROUP, 13, 9⟩
/-- FB_GRP_DIR_LO, 05_remote_memory_and_multicast.md, table after R167. -/
def FB_GRP_DIR_LO : RegDef := ⟨.fb, 0x200, 1, 0x0, .warm, false, [⟨31, 12, .rw, 0x0⟩]⟩
def FB_GRP_DIR_LO_ADDR_LO : Fld := ⟨FB_GRP_DIR_LO, 31, 12⟩
/-- FB_GRP_DIR_HI, 05_remote_memory_and_multicast.md, table after R167. -/
def FB_GRP_DIR_HI : RegDef := ⟨.fb, 0x204, 1, 0x0, .warm, false, [⟨31, 0, .rw, 0x0⟩]⟩
def FB_GRP_DIR_HI_ADDR_HI : Fld := ⟨FB_GRP_DIR_HI, 31, 0⟩
/-- RT_RED_CFG, 06_in_network_computation.md, table after R201. -/
def RT_RED_CFG : RegDef := ⟨.rt, 0x3000, 1, 0x0, .island, false, [⟨15, 8, .rw, 0x4⟩, ⟨6, 0, .rw, 0x10⟩]⟩
def RT_RED_CFG_BACKOFF : Fld := ⟨RT_RED_CFG, 15, 8⟩
def RT_RED_CFG_OPEN_MAX : Fld := ⟨RT_RED_CFG, 6, 0⟩
/-- RT_RED_STATUS, 06_in_network_computation.md, table after R201. -/
def RT_RED_STATUS : RegDef := ⟨.rt, 0x3004, 1, 0x0, .island, false, [⟨31, 25, .ro, 0x0⟩, ⟨24, 18, .ro, 0x0⟩, ⟨17, 11, .ro, 0x0⟩, ⟨3, 3, .w1c, 0x0⟩, ⟨2, 2, .w1c, 0x0⟩, ⟨1, 1, .w1c, 0x0⟩, ⟨0, 0, .w1c, 0x0⟩]⟩
def RT_RED_STATUS_CHART : Fld := ⟨RT_RED_STATUS, 31, 25⟩
def RT_RED_STATUS_OPEN : Fld := ⟨RT_RED_STATUS, 24, 18⟩
def RT_RED_STATUS_STAGED : Fld := ⟨RT_RED_STATUS, 17, 11⟩
def RT_RED_STATUS_ORDER : Fld := ⟨RT_RED_STATUS, 3, 3⟩
def RT_RED_STATUS_GEN : Fld := ⟨RT_RED_STATUS, 2, 2⟩
def RT_RED_STATUS_NOCTX : Fld := ⟨RT_RED_STATUS, 1, 1⟩
def RT_RED_STATUS_SATURATED : Fld := ⟨RT_RED_STATUS, 0, 0⟩
/-- NI_RED_CFG, 06_in_network_computation.md, table after R201. -/
def NI_RED_CFG : RegDef := ⟨.ni, 0xc40, 1, 0x0, .island, false, [⟨15, 8, .rw, 0x32⟩, ⟨7, 0, .rw, 0x4⟩]⟩
def NI_RED_CFG_LIMIT : Fld := ⟨NI_RED_CFG, 15, 8⟩
def NI_RED_CFG_BACKOFF : Fld := ⟨NI_RED_CFG, 7, 0⟩
/-- NI_RED_STATUS, 06_in_network_computation.md, table after R201. -/
def NI_RED_STATUS : RegDef := ⟨.ni, 0xc44, 1, 0x0, .island, false, [⟨31, 28, .ro, 0x0⟩, ⟨2, 2, .w1c, 0x0⟩, ⟨1, 1, .w1c, 0x0⟩, ⟨0, 0, .w1c, 0x0⟩]⟩
def NI_RED_STATUS_ACTIVE : Fld := ⟨NI_RED_STATUS, 31, 28⟩
def NI_RED_STATUS_ABORTED : Fld := ⟨NI_RED_STATUS, 2, 2⟩
def NI_RED_STATUS_FAIL_SENT : Fld := ⟨NI_RED_STATUS, 1, 1⟩
def NI_RED_STATUS_BUSY : Fld := ⟨NI_RED_STATUS, 0, 0⟩
/-- FB_RED_DIR_LO, 06_in_network_computation.md, table after R201. -/
def FB_RED_DIR_LO : RegDef := ⟨.fb, 0x208, 1, 0x0, .warm, false, [⟨31, 12, .rw, 0x0⟩]⟩
def FB_RED_DIR_LO_ADDR_LO : Fld := ⟨FB_RED_DIR_LO, 31, 12⟩
/-- FB_RED_DIR_HI, 06_in_network_computation.md, table after R201. -/
def FB_RED_DIR_HI : RegDef := ⟨.fb, 0x20c, 1, 0x0, .warm, false, [⟨31, 0, .rw, 0x0⟩]⟩
def FB_RED_DIR_HI_ADDR_HI : Fld := ⟨FB_RED_DIR_HI, 31, 0⟩
/-- FB_BELL, 07_command_interface.md, table after R246. -/
def FB_BELL : RegDef := ⟨.fb, 0x300, 1, 0x0, .warm, false, [⟨11, 0, .wo, 0x0⟩]⟩
def FB_BELL_RING : Fld := ⟨FB_BELL, 11, 0⟩
/-- TN_BELL, 07_command_interface.md, table after R246. -/
def TN_BELL : RegDef := ⟨.tn, 0x0, 1, 0x0, .warm, true, [⟨11, 0, .wo, 0x0⟩]⟩
def TN_BELL_RING : Fld := ⟨TN_BELL, 11, 0⟩
/-- FB_RINGn_BASE_LO, 07_command_interface.md, table after R246. -/
def FB_RING_BASE_LO : RegDef := ⟨.fb, 0x10000, 4096, 0x20, .warm, false, [⟨31, 12, .rw, 0x0⟩]⟩
def FB_RING_BASE_LO_ADDR_LO : Fld := ⟨FB_RING_BASE_LO, 31, 12⟩
/-- FB_RINGn_BASE_HI, 07_command_interface.md, table after R246. -/
def FB_RING_BASE_HI : RegDef := ⟨.fb, 0x10004, 4096, 0x20, .warm, false, [⟨31, 0, .rw, 0x0⟩]⟩
def FB_RING_BASE_HI_ADDR_HI : Fld := ⟨FB_RING_BASE_HI, 31, 0⟩
/-- FB_RINGn_DBR_LO, 07_command_interface.md, table after R246. -/
def FB_RING_DBR_LO : RegDef := ⟨.fb, 0x10008, 4096, 0x20, .warm, false, [⟨31, 5, .rw, 0x0⟩]⟩
def FB_RING_DBR_LO_ADDR_LO : Fld := ⟨FB_RING_DBR_LO, 31, 5⟩
/-- FB_RINGn_DBR_HI, 07_command_interface.md, table after R246. -/
def FB_RING_DBR_HI : RegDef := ⟨.fb, 0x1000c, 4096, 0x20, .warm, false, [⟨31, 0, .rw, 0x0⟩]⟩
def FB_RING_DBR_HI_ADDR_HI : Fld := ⟨FB_RING_DBR_HI, 31, 0⟩
/-- FB_RINGn_CQ_LO, 07_command_interface.md, table after R246. -/
def FB_RING_CQ_LO : RegDef := ⟨.fb, 0x10010, 4096, 0x20, .warm, false, [⟨31, 12, .rw, 0x0⟩]⟩
def FB_RING_CQ_LO_ADDR_LO : Fld := ⟨FB_RING_CQ_LO, 31, 12⟩
/-- FB_RINGn_CQ_HI, 07_command_interface.md, table after R246. -/
def FB_RING_CQ_HI : RegDef := ⟨.fb, 0x10014, 4096, 0x20, .warm, false, [⟨31, 0, .rw, 0x0⟩]⟩
def FB_RING_CQ_HI_ADDR_HI : Fld := ⟨FB_RING_CQ_HI, 31, 0⟩
/-- FB_RINGn_CFG, 07_command_interface.md, table after R246. -/
def FB_RING_CFG : RegDef := ⟨.fb, 0x10018, 4096, 0x20, .warm, false, [⟨31, 31, .rw, 0x0⟩, ⟨30, 30, .rw, 0x0⟩, ⟨29, 24, .rw, 0x0⟩, ⟨23, 20, .rw, 0x0⟩, ⟨19, 16, .rw, 0x0⟩, ⟨15, 15, .ro, 0x0⟩, ⟨14, 14, .w1c, 0x0⟩, ⟨13, 13, .w1c, 0x0⟩, ⟨12, 12, .ro, 0x0⟩, ⟨11, 0, .rw, 0x0⟩]⟩
def FB_RING_CFG_ENABLE : Fld := ⟨FB_RING_CFG, 31, 31⟩
def FB_RING_CFG_HP : Fld := ⟨FB_RING_CFG, 30, 30⟩
def FB_RING_CFG_TENANCY : Fld := ⟨FB_RING_CFG, 29, 24⟩
def FB_RING_CFG_SIZE : Fld := ⟨FB_RING_CFG, 23, 20⟩
def FB_RING_CFG_CQ_SIZE : Fld := ⟨FB_RING_CFG, 19, 16⟩
def FB_RING_CFG_CFG_ERR : Fld := ⟨FB_RING_CFG, 15, 15⟩
def FB_RING_CFG_OVERRUN : Fld := ⟨FB_RING_CFG, 14, 14⟩
def FB_RING_CFG_FETCH_ERR : Fld := ⟨FB_RING_CFG, 13, 13⟩
def FB_RING_CFG_BUSY : Fld := ⟨FB_RING_CFG, 12, 12⟩
def FB_RING_CFG_SERVER : Fld := ⟨FB_RING_CFG, 11, 0⟩
/-- FB_RINGn_HEAD, 07_command_interface.md, table after R246. -/
def FB_RING_HEAD : RegDef := ⟨.fb, 0x1001c, 4096, 0x20, .warm, false, [⟨31, 0, .ro, 0x0⟩]⟩
def FB_RING_HEAD_HEAD : Fld := ⟨FB_RING_HEAD, 31, 0⟩
/-- FB_SIGt_LO, 07_command_interface.md, table after R246. -/
def FB_SIG_LO : RegDef := ⟨.fb, 0x1000, 64, 0x8, .warm, false, [⟨31, 12, .rw, 0x0⟩, ⟨1, 1, .rw, 0x0⟩, ⟨0, 0, .rw, 0x0⟩]⟩
def FB_SIG_LO_ADDR_LO : Fld := ⟨FB_SIG_LO, 31, 12⟩
def FB_SIG_LO_HP : Fld := ⟨FB_SIG_LO, 1, 1⟩
def FB_SIG_LO_VALID : Fld := ⟨FB_SIG_LO, 0, 0⟩
/-- FB_SIGt_HI, 07_command_interface.md, table after R246. -/
def FB_SIG_HI : RegDef := ⟨.fb, 0x1004, 64, 0x8, .warm, false, [⟨31, 0, .rw, 0x0⟩]⟩
def FB_SIG_HI_ADDR_HI : Fld := ⟨FB_SIG_HI, 31, 0⟩
/-- NI_TQn_CFG, 07_command_interface.md, table after R246. -/
def NI_TQn_CFG : RegDef := ⟨.ni, 0xd00, 4, 0x10, .island, false, [⟨31, 31, .rw, 0x0⟩, ⟨30, 30, .ro, 0x0⟩, ⟨29, 24, .rw, 0x0⟩, ⟨22, 20, .rw, 0x0⟩, ⟨19, 16, .rw, 0x0⟩, ⟨15, 12, .rw, 0x0⟩, ⟨1, 1, .w1c, 0x0⟩, ⟨0, 0, .ro, 0x0⟩]⟩
def NI_TQn_CFG_ENABLE : Fld := ⟨NI_TQn_CFG, 31, 31⟩
def NI_TQn_CFG_CFG_ERR : Fld := ⟨NI_TQn_CFG, 30, 30⟩
def NI_TQn_CFG_TENANCY : Fld := ⟨NI_TQn_CFG, 29, 24⟩
def NI_TQn_CFG_PAIR : Fld := ⟨NI_TQn_CFG, 22, 20⟩
def NI_TQn_CFG_SIZE : Fld := ⟨NI_TQn_CFG, 19, 16⟩
def NI_TQn_CFG_CQ_SIZE : Fld := ⟨NI_TQn_CFG, 15, 12⟩
def NI_TQn_CFG_OVERRUN : Fld := ⟨NI_TQn_CFG, 1, 1⟩
def NI_TQn_CFG_BUSY : Fld := ⟨NI_TQn_CFG, 0, 0⟩
/-- NI_TQn_BASE, 07_command_interface.md, table after R246. -/
def NI_TQn_BASE : RegDef := ⟨.ni, 0xd04, 4, 0x10, .island, false, [⟨31, 16, .rw, 0x0⟩, ⟨15, 0, .rw, 0x0⟩]⟩
def NI_TQn_BASE_CQ_OFF : Fld := ⟨NI_TQn_BASE, 31, 16⟩
def NI_TQn_BASE_DQ_OFF : Fld := ⟨NI_TQn_BASE, 15, 0⟩
/-- NI_TQn_PTR, 07_command_interface.md, table after R246. -/
def NI_TQn_PTR : RegDef := ⟨.ni, 0xd08, 4, 0x10, .island, false, [⟨31, 16, .rw, 0x0⟩, ⟨15, 0, .rw, 0x0⟩]⟩
def NI_TQn_PTR_CQ_HEAD : Fld := ⟨NI_TQn_PTR, 31, 16⟩
def NI_TQn_PTR_TAIL : Fld := ⟨NI_TQn_PTR, 15, 0⟩
/-- NI_TQn_STATE, 07_command_interface.md, table after R246. -/
def NI_TQn_STATE : RegDef := ⟨.ni, 0xd0c, 4, 0x10, .island, false, [⟨31, 16, .ro, 0x0⟩, ⟨15, 0, .ro, 0x0⟩]⟩
def NI_TQn_STATE_CQ_TAIL : Fld := ⟨NI_TQn_STATE, 31, 16⟩
def NI_TQn_STATE_HEAD : Fld := ⟨NI_TQn_STATE, 15, 0⟩
/-- NI_CMD_STATUS, 07_command_interface.md, table after R246. -/
def NI_CMD_STATUS : RegDef := ⟨.ni, 0xd40, 1, 0x0, .island, false, [⟨31, 25, .ro, 0x0⟩, ⟨7, 4, .ro, 0x0⟩, ⟨1, 1, .ro, 0x0⟩, ⟨0, 0, .w1c, 0x0⟩]⟩
def NI_CMD_STATUS_HELD : Fld := ⟨NI_CMD_STATUS, 31, 25⟩
def NI_CMD_STATUS_SIG_LINES : Fld := ⟨NI_CMD_STATUS, 7, 4⟩
def NI_CMD_STATUS_CPL_WAIT : Fld := ⟨NI_CMD_STATUS, 1, 1⟩
def NI_CMD_STATUS_CPL_LOST : Fld := ⟨NI_CMD_STATUS, 0, 0⟩
/-- FB_MODE, 08_determinism_and_replay.md, table after R250. -/
def FB_MODE : RegDef := ⟨.fb, 0x10, 1, 0x0, .warm, false, [⟨0, 0, .rw, 0x0⟩]⟩
def FB_MODE_STRICT : Fld := ⟨FB_MODE, 0, 0⟩
/-- FB_CONSORT_CFG, 08_determinism_and_replay.md, table after R266. -/
def FB_CONSORT_CFG : RegDef := ⟨.fb, 0x500, 1, 0x0, .warm, false, [⟨31, 31, .rw, 0x0⟩, ⟨30, 30, .rw, 0x0⟩, ⟨20, 16, .rw, 0x0⟩, ⟨11, 0, .rw, 0x100⟩]⟩
def FB_CONSORT_CFG_ENABLE : Fld := ⟨FB_CONSORT_CFG, 31, 31⟩
def FB_CONSORT_CFG_STOP : Fld := ⟨FB_CONSORT_CFG, 30, 30⟩
def FB_CONSORT_CFG_LINK : Fld := ⟨FB_CONSORT_CFG, 20, 16⟩
def FB_CONSORT_CFG_SPAN : Fld := ⟨FB_CONSORT_CFG, 11, 0⟩
/-- FB_CONSORT_STATUS, 08_determinism_and_replay.md, table after R266. -/
def FB_CONSORT_STATUS : RegDef := ⟨.fb, 0x504, 1, 0x0, .warm, false, [⟨31, 31, .ro, 0x0⟩, ⟨4, 4, .w1c, 0x0⟩, ⟨3, 3, .w1c, 0x0⟩, ⟨2, 2, .w1c, 0x0⟩, ⟨1, 1, .w1c, 0x0⟩, ⟨0, 0, .w1c, 0x0⟩]⟩
def FB_CONSORT_STATUS_ARMED : Fld := ⟨FB_CONSORT_STATUS, 31, 31⟩
def FB_CONSORT_STATUS_LINK_DOWN : Fld := ⟨FB_CONSORT_STATUS, 4, 4⟩
def FB_CONSORT_STATUS_MAP_DIFF : Fld := ⟨FB_CONSORT_STATUS, 3, 3⟩
def FB_CONSORT_STATUS_OVERFLOW : Fld := ⟨FB_CONSORT_STATUS, 2, 2⟩
def FB_CONSORT_STATUS_LOST : Fld := ⟨FB_CONSORT_STATUS, 1, 1⟩
def FB_CONSORT_STATUS_MISMATCH : Fld := ⟨FB_CONSORT_STATUS, 0, 0⟩
/-- FB_CONSORT_MIS_CHART, 08_determinism_and_replay.md, table after R266. -/
def FB_CONSORT_MIS_CHART : RegDef := ⟨.fb, 0x508, 1, 0x0, .warm, false, [⟨31, 0, .ro, 0x0⟩]⟩
def FB_CONSORT_MIS_CHART_CHART_ID : Fld := ⟨FB_CONSORT_MIS_CHART, 31, 0⟩
/-- FB_CONSORT_MIS_LOC, 08_determinism_and_replay.md, table after R266. -/
def FB_CONSORT_MIS_LOC : RegDef := ⟨.fb, 0x50c, 1, 0x0, .warm, false, [⟨29, 24, .ro, 0x0⟩, ⟨17, 0, .ro, 0x0⟩]⟩
def FB_CONSORT_MIS_LOC_REGION : Fld := ⟨FB_CONSORT_MIS_LOC, 29, 24⟩
def FB_CONSORT_MIS_LOC_SPAN_BEAT : Fld := ⟨FB_CONSORT_MIS_LOC, 17, 0⟩
/-- FB_REPLAY_CFG, 08_determinism_and_replay.md, table after R270. -/
def FB_REPLAY_CFG : RegDef := ⟨.fb, 0x600, 1, 0x0, .warm, false, [⟨31, 30, .rw, 0x0⟩, ⟨29, 29, .rw, 0x0⟩, ⟨23, 18, .rw, 0x0⟩, ⟨12, 8, .rw, 0x0⟩]⟩
def FB_REPLAY_CFG_MODE : Fld := ⟨FB_REPLAY_CFG, 31, 30⟩
def FB_REPLAY_CFG_HP : Fld := ⟨FB_REPLAY_CFG, 29, 29⟩
def FB_REPLAY_CFG_TENANCY : Fld := ⟨FB_REPLAY_CFG, 23, 18⟩
def FB_REPLAY_CFG_SIZE : Fld := ⟨FB_REPLAY_CFG, 12, 8⟩
/-- FB_REPLAY_BASE_LO, 08_determinism_and_replay.md, table after R270. -/
def FB_REPLAY_BASE_LO : RegDef := ⟨.fb, 0x604, 1, 0x0, .warm, false, [⟨31, 12, .rw, 0x0⟩]⟩
def FB_REPLAY_BASE_LO_ADDR_LO : Fld := ⟨FB_REPLAY_BASE_LO, 31, 12⟩
/-- FB_REPLAY_BASE_HI, 08_determinism_and_replay.md, table after R270. -/
def FB_REPLAY_BASE_HI : RegDef := ⟨.fb, 0x608, 1, 0x0, .warm, false, [⟨31, 0, .rw, 0x0⟩]⟩
def FB_REPLAY_BASE_HI_ADDR_HI : Fld := ⟨FB_REPLAY_BASE_HI, 31, 0⟩
/-- FB_REPLAY_T0_LO, 08_determinism_and_replay.md, table after R270. -/
def FB_REPLAY_T0_LO : RegDef := ⟨.fb, 0x60c, 1, 0x0, .warm, false, [⟨31, 0, .rw, 0x0⟩]⟩
def FB_REPLAY_T0_LO_T0_LO : Fld := ⟨FB_REPLAY_T0_LO, 31, 0⟩
/-- FB_REPLAY_T0_HI, 08_determinism_and_replay.md, table after R270. -/
def FB_REPLAY_T0_HI : RegDef := ⟨.fb, 0x610, 1, 0x0, .warm, false, [⟨27, 0, .rw, 0x0⟩]⟩
def FB_REPLAY_T0_HI_T0_HI : Fld := ⟨FB_REPLAY_T0_HI, 27, 0⟩
/-- FB_REPLAY_PTR, 08_determinism_and_replay.md, table after R270. -/
def FB_REPLAY_PTR : RegDef := ⟨.fb, 0x614, 1, 0x0, .warm, false, [⟨31, 0, .ro, 0x0⟩]⟩
def FB_REPLAY_PTR_UNITS : Fld := ⟨FB_REPLAY_PTR, 31, 0⟩
/-- FB_REPLAY_STATUS, 08_determinism_and_replay.md, table after R270. -/
def FB_REPLAY_STATUS : RegDef := ⟨.fb, 0x618, 1, 0x0, .warm, false, [⟨31, 31, .ro, 0x0⟩, ⟨3, 3, .w1c, 0x0⟩, ⟨2, 2, .w1c, 0x0⟩, ⟨1, 1, .w1c, 0x0⟩, ⟨0, 0, .w1c, 0x0⟩]⟩
def FB_REPLAY_STATUS_ACTIVE : Fld := ⟨FB_REPLAY_STATUS, 31, 31⟩
def FB_REPLAY_STATUS_DIVERGE : Fld := ⟨FB_REPLAY_STATUS, 3, 3⟩
def FB_REPLAY_STATUS_OVERFLOW : Fld := ⟨FB_REPLAY_STATUS, 2, 2⟩
def FB_REPLAY_STATUS_END : Fld := ⟨FB_REPLAY_STATUS, 1, 1⟩
def FB_REPLAY_STATUS_WRITE_ERR : Fld := ⟨FB_REPLAY_STATUS, 0, 0⟩
/-- FB_REPLAY_DIV, 08_determinism_and_replay.md, table after R270. -/
def FB_REPLAY_DIV : RegDef := ⟨.fb, 0x61c, 1, 0x0, .warm, false, [⟨31, 0, .ro, 0x0⟩]⟩
def FB_REPLAY_DIV_UNIT : Fld := ⟨FB_REPLAY_DIV, 31, 0⟩
/-- xx_ERR_STATUS, 09_faults_and_self_repair.md, table after R274. -/
def xx_ERR_STATUS (k : UnitKind) : RegDef :=
  ⟨k.blk, k.setBase + 0x0, 1, 0x0, .sticky, false, [⟨31, 31, .ro, 0x0⟩, ⟨30, 30, .w1c, 0x0⟩, ⟨29, 29, .w1c, 0x0⟩, ⟨28, 28, .w1c, 0x0⟩, ⟨27, 27, .ro, 0x0⟩, ⟨15, 0, .w1c, 0x0⟩]⟩
def xx_ERR_STATUS_SAFE (k : UnitKind) : Fld := ⟨xx_ERR_STATUS k, 31, 31⟩
def xx_ERR_STATUS_SEVERE (k : UnitKind) : Fld := ⟨xx_ERR_STATUS k, 30, 30⟩
def xx_ERR_STATUS_SELF_PARITY (k : UnitKind) : Fld := ⟨xx_ERR_STATUS k, 29, 29⟩
def xx_ERR_STATUS_LEAVE_REFUSED (k : UnitKind) : Fld := ⟨xx_ERR_STATUS k, 28, 28⟩
def xx_ERR_STATUS_MSG_PENDING (k : UnitKind) : Fld := ⟨xx_ERR_STATUS k, 27, 27⟩
def xx_ERR_STATUS_SOURCE (k : UnitKind) : Fld := ⟨xx_ERR_STATUS k, 15, 0⟩
/-- xx_ERR_MASK, 09_faults_and_self_repair.md, table after R274. -/
def xx_ERR_MASK (k : UnitKind) : RegDef :=
  ⟨k.blk, k.setBase + 0x4, 1, 0x0, .warm, false, [⟨15, 0, .rw, 0x0⟩]⟩
def xx_ERR_MASK_MASK (k : UnitKind) : Fld := ⟨xx_ERR_MASK k, 15, 0⟩
/-- xx_ERR_CTRL, 09_faults_and_self_repair.md, table after R274. -/
def xx_ERR_CTRL (k : UnitKind) : RegDef :=
  ⟨k.blk, k.setBase + 0x8, 1, 0x0, .warm, false, [⟨2, 2, .wo, 0x0⟩, ⟨1, 1, .wo, 0x0⟩, ⟨0, 0, .wo, 0x0⟩]⟩
def xx_ERR_CTRL_CLEAR_HIST (k : UnitKind) : Fld := ⟨xx_ERR_CTRL k, 2, 2⟩
def xx_ERR_CTRL_LEAVE_SAFE (k : UnitKind) : Fld := ⟨xx_ERR_CTRL k, 1, 1⟩
def xx_ERR_CTRL_CLEAR_WINDOWS (k : UnitKind) : Fld := ⟨xx_ERR_CTRL k, 0, 0⟩
/-- xx_ERR_INJECT, 09_faults_and_self_repair.md, table after R274. -/
def xx_ERR_INJECT (k : UnitKind) : RegDef :=
  ⟨k.blk, k.setBase + 0xc, 1, 0x0, .warm, false, [⟨31, 31, .rwl, 0x0⟩, ⟨23, 16, .rwl, 0x1⟩, ⟨7, 4, .rwl, 0x0⟩, ⟨1, 0, .rwl, 0x0⟩]⟩
def xx_ERR_INJECT_ARM (k : UnitKind) : Fld := ⟨xx_ERR_INJECT k, 31, 31⟩
def xx_ERR_INJECT_COUNT (k : UnitKind) : Fld := ⟨xx_ERR_INJECT k, 23, 16⟩
def xx_ERR_INJECT_SOURCE (k : UnitKind) : Fld := ⟨xx_ERR_INJECT k, 7, 4⟩
def xx_ERR_INJECT_KIND (k : UnitKind) : Fld := ⟨xx_ERR_INJECT k, 1, 0⟩
/-- xx_ERR_FIRST, 09_faults_and_self_repair.md, table after R274. -/
def xx_ERR_FIRST (k : UnitKind) : RegDef :=
  ⟨k.blk, k.setBase + 0x10, 1, 0x0, .sticky, false, [⟨31, 31, .ro, 0x0⟩, ⟨30, 30, .ro, 0x0⟩, ⟨7, 4, .ro, 0x0⟩, ⟨3, 0, .ro, 0x0⟩]⟩
def xx_ERR_FIRST_VALID (k : UnitKind) : Fld := ⟨xx_ERR_FIRST k, 31, 31⟩
def xx_ERR_FIRST_SEV_VALID (k : UnitKind) : Fld := ⟨xx_ERR_FIRST k, 30, 30⟩
def xx_ERR_FIRST_FIRST_SEVERE (k : UnitKind) : Fld := ⟨xx_ERR_FIRST k, 7, 4⟩
def xx_ERR_FIRST_FIRST (k : UnitKind) : Fld := ⟨xx_ERR_FIRST k, 3, 0⟩
/-- xx_ERR_MSG_LOST, 09_faults_and_self_repair.md, table after R274. -/
def xx_ERR_MSG_LOST (k : UnitKind) : RegDef :=
  ⟨k.blk, k.setBase + 0x14, 1, 0x0, .sticky, false, [⟨31, 0, .ro, 0x0⟩]⟩
def xx_ERR_MSG_LOST_LOST (k : UnitKind) : Fld := ⟨xx_ERR_MSG_LOST k, 31, 0⟩
/-- xx_ERR_HIST_PTR, 09_faults_and_self_repair.md, table after R274. -/
def xx_ERR_HIST_PTR (k : UnitKind) : RegDef :=
  ⟨k.blk, k.setBase + 0x18, 1, 0x0, .sticky, false, [⟨31, 8, .ro, 0x0⟩, ⟨2, 0, .ro, 0x0⟩]⟩
def xx_ERR_HIST_PTR_TOTAL (k : UnitKind) : Fld := ⟨xx_ERR_HIST_PTR k, 31, 8⟩
def xx_ERR_HIST_PTR_NEXT (k : UnitKind) : Fld := ⟨xx_ERR_HIST_PTR k, 2, 0⟩
/-- xx_ERR_CLASSn, 09_faults_and_self_repair.md, table after R274. -/
def xx_ERR_CLASS (k : UnitKind) : RegDef :=
  ⟨k.blk, k.setBase + 0x40, 16, 0x4, .warm, false, [⟨31, 16, .rw, 0x3e8⟩, ⟨7, 0, .rw, 0x10⟩]⟩
def xx_ERR_CLASS_WINDOW (k : UnitKind) : Fld := ⟨xx_ERR_CLASS k, 31, 16⟩
def xx_ERR_CLASS_THRESH (k : UnitKind) : Fld := ⟨xx_ERR_CLASS k, 7, 0⟩
/-- xx_ERR_COUNTn, 09_faults_and_self_repair.md, table after R274. -/
def xx_ERR_COUNT (k : UnitKind) : RegDef :=
  ⟨k.blk, k.setBase + 0x80, 16, 0x4, .sticky, false, [⟨31, 0, .ro, 0x0⟩]⟩
def xx_ERR_COUNT_EVENTS (k : UnitKind) : Fld := ⟨xx_ERR_COUNT k, 31, 0⟩
/-- xx_ERR_HISTk_TIME_LO, 09_faults_and_self_repair.md, table after R274. -/
def xx_ERR_HIST_TIME_LO (k : UnitKind) : RegDef :=
  ⟨k.blk, k.setBase + 0x100, 8, 0x10, .sticky, false, [⟨31, 0, .ro, 0x0⟩]⟩
def xx_ERR_HIST_TIME_LO_TIME (k : UnitKind) : Fld := ⟨xx_ERR_HIST_TIME_LO k, 31, 0⟩
/-- xx_ERR_HISTk_TIME_LO, 09_faults_and_self_repair.md, table after R274. -/
def xx_ERR_HIST_TIME_HI (k : UnitKind) : RegDef :=
  ⟨k.blk, k.setBase + 0x104, 8, 0x10, .sticky, false, [⟨31, 0, .ro, 0x0⟩]⟩
def xx_ERR_HIST_TIME_HI_TIME (k : UnitKind) : Fld := ⟨xx_ERR_HIST_TIME_HI k, 31, 0⟩
/-- xx_ERR_HISTk_INFO, 09_faults_and_self_repair.md, table after R274. -/
def xx_ERR_HIST_INFO (k : UnitKind) : RegDef :=
  ⟨k.blk, k.setBase + 0x108, 8, 0x10, .sticky, false, [⟨31, 24, .ro, 0x0⟩, ⟨23, 20, .ro, 0x0⟩, ⟨19, 19, .ro, 0x0⟩, ⟨18, 18, .ro, 0x0⟩, ⟨17, 0, .ro, 0x0⟩]⟩
def xx_ERR_HIST_INFO_EXT (k : UnitKind) : Fld := ⟨xx_ERR_HIST_INFO k, 31, 24⟩
def xx_ERR_HIST_INFO_SOURCE (k : UnitKind) : Fld := ⟨xx_ERR_HIST_INFO k, 23, 20⟩
def xx_ERR_HIST_INFO_SEVERE (k : UnitKind) : Fld := ⟨xx_ERR_HIST_INFO k, 19, 19⟩
def xx_ERR_HIST_INFO_INJECTED (k : UnitKind) : Fld := ⟨xx_ERR_HIST_INFO k, 18, 18⟩
def xx_ERR_HIST_INFO_DETAIL (k : UnitKind) : Fld := ⟨xx_ERR_HIST_INFO k, 17, 0⟩
/-- RG_FENCE_SEL, 09_faults_and_self_repair.md, table after R288. -/
def RG_FENCE_SEL : RegDef := ⟨.rg, 0x140, 1, 0x0, .region, false, [⟨5, 0, .rw, 0x0⟩]⟩
def RG_FENCE_SEL_TILE : Fld := ⟨RG_FENCE_SEL, 5, 0⟩
/-- RG_FENCE_STATE, 09_faults_and_self_repair.md, table after R288. -/
def RG_FENCE_STATE : RegDef := ⟨.rg, 0x144, 1, 0x0, .sticky, false, [⟨31, 31, .ro, 0x0⟩, ⟨11, 8, .ro, 0x0⟩, ⟨1, 0, .ro, 0x0⟩]⟩
def RG_FENCE_STATE_REGION_F3 : Fld := ⟨RG_FENCE_STATE, 31, 31⟩
def RG_FENCE_STATE_MLINK : Fld := ⟨RG_FENCE_STATE, 11, 8⟩
def RG_FENCE_STATE_LEVEL : Fld := ⟨RG_FENCE_STATE, 1, 0⟩
/-- RG_SELFTEST_CFG, 09_faults_and_self_repair.md, table after R290. -/
def RG_SELFTEST_CFG : RegDef := ⟨.rg, 0x150, 1, 0x0, .region, false, [⟨31, 31, .rw, 0x1⟩, ⟨30, 30, .rw, 0x1⟩, ⟨29, 24, .ro, 0x0⟩, ⟨23, 16, .rw, 0x4⟩, ⟨15, 0, .ro, 0x0⟩]⟩
def RG_SELFTEST_CFG_SOUND_EN : Fld := ⟨RG_SELFTEST_CFG, 31, 31⟩
def RG_SELFTEST_CFG_TEST_EN : Fld := ⟨RG_SELFTEST_CFG, 30, 30⟩
def RG_SELFTEST_CFG_ROUTER : Fld := ⟨RG_SELFTEST_CFG, 29, 24⟩
def RG_SELFTEST_CFG_SOUND_GAP : Fld := ⟨RG_SELFTEST_CFG, 23, 16⟩
def RG_SELFTEST_CFG_ROTATIONS : Fld := ⟨RG_SELFTEST_CFG, 15, 0⟩
/-- NI_MAP_DIGESTn, 09_faults_and_self_repair.md, table after R299. -/
def NI_MAP_DIGEST : RegDef := ⟨.ni, 0x640, 8, 0x4, .island, false, [⟨31, 0, .rw, 0x0⟩]⟩
def NI_MAP_DIGEST_DIGEST : Fld := ⟨NI_MAP_DIGEST, 31, 0⟩
/-- NI_LMAPn, 09_faults_and_self_repair.md, table after R299. -/
def NI_LMAP : RegDef := ⟨.ni, 0x4000, 1080, 0x4, .island, false, [⟨31, 31, .rw, 0x0⟩, ⟨27, 16, .rw, 0x0⟩, ⟨15, 15, .rw, 0x0⟩, ⟨11, 0, .rw, 0x0⟩]⟩
def NI_LMAP_VALID_ODD : Fld := ⟨NI_LMAP, 31, 31⟩
def NI_LMAP_SLOT_ODD : Fld := ⟨NI_LMAP, 27, 16⟩
def NI_LMAP_VALID_EVEN : Fld := ⟨NI_LMAP, 15, 15⟩
def NI_LMAP_SLOT_EVEN : Fld := ⟨NI_LMAP, 11, 0⟩
/-- NI_LMAPn, 09_faults_and_self_repair.md, table after R299. -/
def HP_LMAP : RegDef := ⟨.hp, 0x4000, 1080, 0x4, .warm, false, [⟨31, 31, .rw, 0x0⟩, ⟨27, 16, .rw, 0x0⟩, ⟨15, 15, .rw, 0x0⟩, ⟨11, 0, .rw, 0x0⟩]⟩
def HP_LMAP_VALID_ODD : Fld := ⟨HP_LMAP, 31, 31⟩
def HP_LMAP_SLOT_ODD : Fld := ⟨HP_LMAP, 27, 16⟩
def HP_LMAP_VALID_EVEN : Fld := ⟨HP_LMAP, 15, 15⟩
def HP_LMAP_SLOT_EVEN : Fld := ⟨HP_LMAP, 11, 0⟩
/-- FB_MAP_DIGESTn, 09_faults_and_self_repair.md, table after R299. -/
def FB_MAP_DIGEST : RegDef := ⟨.fb, 0x700, 8, 0x4, .warm, false, [⟨31, 0, .rw, 0x0⟩]⟩
def FB_MAP_DIGEST_DIGEST : Fld := ⟨FB_MAP_DIGEST, 31, 0⟩
/-- FB_MAP_GEN, 09_faults_and_self_repair.md, table after R299. -/
def FB_MAP_GEN : RegDef := ⟨.fb, 0x720, 1, 0x0, .warm, false, [⟨31, 31, .wo, 0x0⟩, ⟨15, 0, .ro, 0x0⟩]⟩
def FB_MAP_GEN_PUBLISH : Fld := ⟨FB_MAP_GEN, 31, 31⟩
def FB_MAP_GEN_GEN : Fld := ⟨FB_MAP_GEN, 15, 0⟩
/-- FB_REPAIR_CFG, 09_faults_and_self_repair.md, table after R299. -/
def FB_REPAIR_CFG : RegDef := ⟨.fb, 0x724, 1, 0x0, .warm, false, [⟨7, 0, .rw, 0x28⟩]⟩
def FB_REPAIR_CFG_HOLD : Fld := ⟨FB_REPAIR_CFG, 7, 0⟩
/-- FB_REPAIR_STATUS, 09_faults_and_self_repair.md, table after R299. -/
def FB_REPAIR_STATUS : RegDef := ⟨.fb, 0x728, 1, 0x0, .warm, false, [⟨31, 30, .ro, 0x0⟩, ⟨15, 0, .ro, 0x0⟩]⟩
def FB_REPAIR_STATUS_STATE : Fld := ⟨FB_REPAIR_STATUS, 31, 30⟩
def FB_REPAIR_STATUS_REPAIRS : Fld := ⟨FB_REPAIR_STATUS, 15, 0⟩
/-- FB_TICK_CTRL, 09_faults_and_self_repair.md, table after R300. -/
def FB_TICK_CTRL : RegDef := ⟨.fb, 0x72c, 1, 0x0, .warm, false, [⟨31, 31, .rw, 0x0⟩, ⟨30, 30, .wo, 0x0⟩, ⟨15, 0, .rw, 0x64⟩]⟩
def FB_TICK_CTRL_ENABLE : Fld := ⟨FB_TICK_CTRL, 31, 31⟩
def FB_TICK_CTRL_KICK : Fld := ⟨FB_TICK_CTRL, 30, 30⟩
def FB_TICK_CTRL_KICK_LIMIT : Fld := ⟨FB_TICK_CTRL, 15, 0⟩
/-- FB_TICK_STATUS, 09_faults_and_self_repair.md, table after R300. -/
def FB_TICK_STATUS : RegDef := ⟨.fb, 0x730, 1, 0x0, .warm, false, [⟨31, 31, .ro, 0x0⟩, ⟨30, 30, .w1c, 0x0⟩, ⟨7, 0, .ro, 0x0⟩]⟩
def FB_TICK_STATUS_RUNNING : Fld := ⟨FB_TICK_STATUS, 31, 31⟩
def FB_TICK_STATUS_KICK_MISSED : Fld := ⟨FB_TICK_STATUS, 30, 30⟩
def FB_TICK_STATUS_SAFE_KINDS : Fld := ⟨FB_TICK_STATUS, 7, 0⟩
/-- FB_STRAP, 10_outer_links.md, table after R335. -/
def FB_STRAP : RegDef := ⟨.fb, 0x800, 1, 0x0, .cold, false, [⟨14, 12, .ro, 0x0⟩, ⟨11, 0, .ro, 0x0⟩]⟩
def FB_STRAP_PLAN_SEL : Fld := ⟨FB_STRAP, 14, 12⟩
def FB_STRAP_CHIP : Fld := ⟨FB_STRAP, 11, 0⟩
/-- FB_PLAN_LO, 10_outer_links.md, table after R335. -/
def FB_PLAN_LO : RegDef := ⟨.fb, 0x804, 1, 0x0, .warm, false, [⟨31, 12, .rw, 0x0⟩]⟩
def FB_PLAN_LO_ADDR_LO : Fld := ⟨FB_PLAN_LO, 31, 12⟩
/-- FB_PLAN_HI, 10_outer_links.md, table after R335. -/
def FB_PLAN_HI : RegDef := ⟨.fb, 0x808, 1, 0x0, .warm, false, [⟨31, 0, .rw, 0x0⟩]⟩
def FB_PLAN_HI_ADDR_HI : Fld := ⟨FB_PLAN_HI, 31, 0⟩
/-- FB_PLAN_CTRL, 10_outer_links.md, table after R335. -/
def FB_PLAN_CTRL : RegDef := ⟨.fb, 0x80c, 1, 0x0, .warm, false, [⟨1, 1, .wo, 0x0⟩, ⟨0, 0, .rw, 0x0⟩]⟩
def FB_PLAN_CTRL_DISCOVER : Fld := ⟨FB_PLAN_CTRL, 1, 1⟩
def FB_PLAN_CTRL_HOLD_ALL : Fld := ⟨FB_PLAN_CTRL, 0, 0⟩
/-- FB_PLAN_STATUS, 10_outer_links.md, table after R335. -/
def FB_PLAN_STATUS : RegDef := ⟨.fb, 0x810, 1, 0x0, .warm, false, [⟨31, 30, .ro, 0x0⟩, ⟨26, 24, .ro, 0x0⟩, ⟨5, 0, .ro, 0x0⟩]⟩
def FB_PLAN_STATUS_STATE : Fld := ⟨FB_PLAN_STATUS, 31, 30⟩
def FB_PLAN_STATUS_CAUSE : Fld := ⟨FB_PLAN_STATUS, 26, 24⟩
def FB_PLAN_STATUS_BUNDLES_UP : Fld := ⟨FB_PLAN_STATUS, 5, 0⟩
/-- FB_BUNDLE_STATEn, 10_outer_links.md, table after R335. -/
def FB_BUNDLE_STATE : RegDef := ⟨.fb, 0x814, 2, 0x4, .warm, false, [⟨31, 0, .ro, 0x0⟩]⟩
def FB_BUNDLE_STATE_STATE : Fld := ⟨FB_BUNDLE_STATE, 31, 0⟩
/-- FB_SYNC_CFG, 10_outer_links.md, table after R335. -/
def FB_SYNC_CFG : RegDef := ⟨.fb, 0x81c, 1, 0x0, .warm, false, [⟨11, 0, .rw, 0x100⟩]⟩
def FB_SYNC_CFG_INTERVAL : Fld := ⟨FB_SYNC_CFG, 11, 0⟩
/-- FB_SYNC_STATUS, 10_outer_links.md, table after R335. -/
def FB_SYNC_STATUS : RegDef := ⟨.fb, 0x820, 1, 0x0, .warm, false, [⟨31, 31, .ro, 0x0⟩, ⟨30, 30, .w1c, 0x0⟩, ⟨29, 29, .ro, 0x0⟩, ⟨28, 28, .ro, 0x0⟩, ⟨27, 22, .ro, 0x3f⟩, ⟨11, 0, .ro, 0x0⟩]⟩
def FB_SYNC_STATUS_LOCKED : Fld := ⟨FB_SYNC_STATUS, 31, 31⟩
def FB_SYNC_STATUS_LOST : Fld := ⟨FB_SYNC_STATUS, 30, 30⟩
def FB_SYNC_STATUS_ALT : Fld := ⟨FB_SYNC_STATUS, 29, 29⟩
def FB_SYNC_STATUS_ROOT : Fld := ⟨FB_SYNC_STATUS, 28, 28⟩
def FB_SYNC_STATUS_PARENT : Fld := ⟨FB_SYNC_STATUS, 27, 22⟩
def FB_SYNC_STATUS_THETA : Fld := ⟨FB_SYNC_STATUS, 11, 0⟩
/-- FB_SYNC_STEPS, 10_outer_links.md, table after R335. -/
def FB_SYNC_STEPS : RegDef := ⟨.fb, 0x824, 1, 0x0, .warm, false, [⟨31, 16, .ro, 0x0⟩, ⟨15, 0, .ro, 0x0⟩]⟩
def FB_SYNC_STEPS_SKIPS : Fld := ⟨FB_SYNC_STEPS, 31, 16⟩
def FB_SYNC_STEPS_GAINS : Fld := ⟨FB_SYNC_STEPS, 15, 0⟩
/-- NI_REACHn, 10_outer_links.md, table after R335. -/
def NI_REACH : RegDef := ⟨.ni, 0x1000, 128, 0x4, .island, false, [⟨31, 0, .rw, 0x0⟩]⟩
def NI_REACH_CHIPS : Fld := ⟨NI_REACH, 31, 0⟩
/-- OL_CTRL, 10_outer_links.md, table after R335. -/
def OL_CTRL : RegDef := ⟨.ol, 0x0, 1, 0x0, .link, false, [⟨31, 31, .rw, 0x0⟩, ⟨30, 30, .wo, 0x0⟩, ⟨29, 29, .rw, 0x0⟩, ⟨7, 0, .rw, 0x14⟩]⟩
def OL_CTRL_ENABLE : Fld := ⟨OL_CTRL, 31, 31⟩
def OL_CTRL_RETRAIN : Fld := ⟨OL_CTRL, 30, 30⟩
def OL_CTRL_HOLD_DOWN : Fld := ⟨OL_CTRL, 29, 29⟩
def OL_CTRL_TRAIN_LIMIT : Fld := ⟨OL_CTRL, 7, 0⟩
/-- OL_STATUS, 10_outer_links.md, table after R335. -/
def OL_STATUS : RegDef := ⟨.ol, 0x4, 1, 0x0, .link, false, [⟨31, 28, .ro, 0x0⟩, ⟨27, 25, .ro, 0x0⟩, ⟨24, 20, .ro, 0x1f⟩, ⟨19, 18, .ro, 0x0⟩, ⟨17, 14, .ro, 0x0⟩, ⟨13, 9, .ro, 0x0⟩, ⟨8, 7, .ro, 0x0⟩, ⟨6, 6, .ro, 0x0⟩]⟩
def OL_STATUS_STATE : Fld := ⟨OL_STATUS, 31, 28⟩
def OL_STATUS_OUTCOME : Fld := ⟨OL_STATUS, 27, 25⟩
def OL_STATUS_BUNDLE : Fld := ⟨OL_STATUS, 24, 20⟩
def OL_STATUS_WIDTH : Fld := ⟨OL_STATUS, 19, 18⟩
def OL_STATUS_LANES : Fld := ⟨OL_STATUS, 17, 14⟩
def OL_STATUS_CARRIER : Fld := ⟨OL_STATUS, 13, 9⟩
def OL_STATUS_FAIL_CAUSE : Fld := ⟨OL_STATUS, 8, 7⟩
def OL_STATUS_ADOPTING : Fld := ⟨OL_STATUS, 6, 6⟩
/-- OL_IDENT_RX, 10_outer_links.md, table after R335. -/
def OL_IDENT_RX : RegDef := ⟨.ol, 0x8, 1, 0x0, .link, false, [⟨31, 20, .ro, 0x0⟩, ⟨19, 15, .ro, 0x0⟩, ⟨14, 10, .ro, 0x0⟩, ⟨9, 7, .ro, 0x0⟩, ⟨6, 6, .ro, 0x0⟩]⟩
def OL_IDENT_RX_R_CHIP : Fld := ⟨OL_IDENT_RX, 31, 20⟩
def OL_IDENT_RX_R_LINK : Fld := ⟨OL_IDENT_RX, 19, 15⟩
def OL_IDENT_RX_R_BUNDLE : Fld := ⟨OL_IDENT_RX, 14, 10⟩
def OL_IDENT_RX_R_PLAN_SEL : Fld := ⟨OL_IDENT_RX, 9, 7⟩
def OL_IDENT_RX_R_CONSORT : Fld := ⟨OL_IDENT_RX, 6, 6⟩
/-- OL_LOCK, 10_outer_links.md, table after R335. -/
def OL_LOCK : RegDef := ⟨.ol, 0xc, 1, 0x0, .link, false, [⟨31, 24, .ro, 0x0⟩, ⟨15, 0, .ro, 0x0⟩]⟩
def OL_LOCK_LOCK : Fld := ⟨OL_LOCK, 31, 24⟩
def OL_LOCK_RTT : Fld := ⟨OL_LOCK, 15, 0⟩
/-- OL_TX_WEIGHT, 10_outer_links.md, table after R335. -/
def OL_TX_WEIGHT : RegDef := ⟨.ol, 0x10, 1, 0x0, .link, false, [⟨23, 16, .rw, 0x8⟩, ⟨15, 8, .rw, 0x6⟩, ⟨7, 0, .rw, 0x2⟩]⟩
def OL_TX_WEIGHT_SCHED : Fld := ⟨OL_TX_WEIGHT, 23, 16⟩
def OL_TX_WEIGHT_OPEN : Fld := ⟨OL_TX_WEIGHT, 15, 8⟩
def OL_TX_WEIGHT_SMALL : Fld := ⟨OL_TX_WEIGHT, 7, 0⟩
/-- OL_XLAT, 10_outer_links.md, table after R335. -/
def OL_XLAT : RegDef := ⟨.ol, 0x14, 1, 0x0, .link, false, [⟨31, 16, .ro, 0x0⟩, ⟨7, 0, .rw, 0x14⟩]⟩
def OL_XLAT_IN_USE : Fld := ⟨OL_XLAT, 31, 16⟩
def OL_XLAT_IDLE : Fld := ⟨OL_XLAT, 7, 0⟩
/-- OL_XLAT_DISC, 10_outer_links.md, table after R335. -/
def OL_XLAT_DISC : RegDef := ⟨.ol, 0x18, 1, 0x0, .link, false, [⟨31, 0, .ro, 0x0⟩]⟩
def OL_XLAT_DISC_DISCARDED : Fld := ⟨OL_XLAT_DISC, 31, 0⟩
/-- OL_REDIRECT_CNT, 10_outer_links.md, table after R335. -/
def OL_REDIRECT_CNT : RegDef := ⟨.ol, 0x1c, 1, 0x0, .link, false, [⟨31, 0, .ro, 0x0⟩]⟩
def OL_REDIRECT_CNT_REDIRECTED : Fld := ⟨OL_REDIRECT_CNT, 31, 0⟩
/-- FB_HBM_ILV, 11_memory_ports.md, table after R351. -/
def FB_HBM_ILV : RegDef := ⟨.fb, 0x900, 1, 0x0, .warm, false, [⟨21, 16, .ro, 0x0⟩, ⟨5, 0, .rw, 0x0⟩]⟩
def FB_HBM_ILV_CAP : Fld := ⟨FB_HBM_ILV, 21, 16⟩
def FB_HBM_ILV_SIZE : Fld := ⟨FB_HBM_ILV, 5, 0⟩
/-- FB_HBM_STATUS, 11_memory_ports.md, table after R351. -/
def FB_HBM_STATUS : RegDef := ⟨.fb, 0x904, 1, 0x0, .warm, false, [⟨5, 4, .ro, 0x0⟩, ⟨1, 1, .w1c, 0x0⟩, ⟨0, 0, .ro, 0x0⟩]⟩
def FB_HBM_STATUS_CAUSE : Fld := ⟨FB_HBM_STATUS, 5, 4⟩
def FB_HBM_STATUS_MAP_ERR : Fld := ⟨FB_HBM_STATUS, 1, 1⟩
def FB_HBM_STATUS_BUSY : Fld := ⟨FB_HBM_STATUS, 0, 0⟩
/-- FB_DIST_LO, 11_memory_ports.md, table after R351. -/
def FB_DIST_LO : RegDef := ⟨.fb, 0x908, 1, 0x0, .warm, false, [⟨31, 12, .rw, 0x0⟩]⟩
def FB_DIST_LO_ADDR_LO : Fld := ⟨FB_DIST_LO, 31, 12⟩
/-- FB_DIST_HI, 11_memory_ports.md, table after R351. -/
def FB_DIST_HI : RegDef := ⟨.fb, 0x90c, 1, 0x0, .warm, false, [⟨31, 0, .rw, 0x0⟩]⟩
def FB_DIST_HI_ADDR_HI : Fld := ⟨FB_DIST_HI, 31, 0⟩
/-- FB_NEARn_BASE, 11_memory_ports.md, table after R351. -/
def FB_NEAR_BASE : RegDef := ⟨.fb, 0x940, 16, 0x8, .warm, false, [⟨9, 0, .rw, 0x0⟩]⟩
def FB_NEAR_BASE_BASE : Fld := ⟨FB_NEAR_BASE, 9, 0⟩
/-- FB_NEARn_CFG, 11_memory_ports.md, table after R351. -/
def FB_NEAR_CFG : RegDef := ⟨.fb, 0x944, 16, 0x8, .warm, false, [⟨31, 31, .rw, 0x0⟩, ⟨29, 26, .rw, 0x0⟩, ⟨21, 16, .rw, 0x0⟩, ⟨5, 0, .rw, 0x0⟩]⟩
def FB_NEAR_CFG_VALID : Fld := ⟨FB_NEAR_CFG, 31, 31⟩
def FB_NEAR_CFG_PORT : Fld := ⟨FB_NEAR_CFG, 29, 26⟩
def FB_NEAR_CFG_SIZE : Fld := ⟨FB_NEAR_CFG, 21, 16⟩
def FB_NEAR_CFG_PORT_OFS : Fld := ⟨FB_NEAR_CFG, 5, 0⟩
/-- MP_ARB_PRIO0, 11_memory_ports.md, table after R351. -/
def MP_ARB_PRIO0 : RegDef := ⟨.mp, 0x0, 1, 0x0, .warm, false, [⟨23, 0, .sh, 0xcccccc⟩]⟩
def MP_ARB_PRIO0_BOOK : Fld := ⟨MP_ARB_PRIO0, 23, 0⟩
/-- MP_ARB_PRIO1, 11_memory_ports.md, table after R351. -/
def MP_ARB_PRIO1 : RegDef := ⟨.mp, 0x4, 1, 0x0, .warm, false, [⟨27, 24, .sh, 0x8⟩, ⟨23, 0, .sh, 0x444444⟩]⟩
def MP_ARB_PRIO1_BN : Fld := ⟨MP_ARB_PRIO1, 27, 24⟩
def MP_ARB_PRIO1_OPEN : Fld := ⟨MP_ARB_PRIO1, 23, 0⟩
/-- MP_ARB_COMMIT, 11_memory_ports.md, table after R351. -/
def MP_ARB_COMMIT : RegDef := ⟨.mp, 0x8, 1, 0x0, .warm, false, [⟨0, 0, .wo, 0x0⟩]⟩
def MP_ARB_COMMIT_GO : Fld := ⟨MP_ARB_COMMIT, 0, 0⟩
/-- MP_STATUS, 11_memory_ports.md, table after R351. -/
def MP_STATUS : RegDef := ⟨.mp, 0xc, 1, 0x0, .warm, false, [⟨31, 16, .ro, 0x0⟩, ⟨15, 12, .ro, 0x0⟩, ⟨11, 11, .ro, 0x0⟩, ⟨10, 10, .ro, 0x0⟩, ⟨0, 0, .w1c, 0x0⟩]⟩
def MP_STATUS_COMMITS : Fld := ⟨MP_STATUS, 31, 16⟩
def MP_STATUS_OWNER : Fld := ⟨MP_STATUS, 15, 12⟩
def MP_STATUS_PARKED : Fld := ⟨MP_STATUS, 11, 11⟩
def MP_STATUS_SUSPENDED : Fld := ⟨MP_STATUS, 10, 10⟩
def MP_STATUS_BOOK_REFUSED : Fld := ⟨MP_STATUS, 0, 0⟩
/-- MP_REFRESH_CFG, 11_memory_ports.md, table after R351. -/
def MP_REFRESH_CFG : RegDef := ⟨.mp, 0x10, 1, 0x0, .warm, false, [⟨31, 31, .wo, 0x0⟩, ⟨15, 0, .rw, 0x14⟩]⟩
def MP_REFRESH_CFG_REARM : Fld := ⟨MP_REFRESH_CFG, 31, 31⟩
def MP_REFRESH_CFG_LIMIT : Fld := ⟨MP_REFRESH_CFG, 15, 0⟩
/-- MP_REFRESH_STATUS, 11_memory_ports.md, table after R351. -/
def MP_REFRESH_STATUS : RegDef := ⟨.mp, 0x14, 1, 0x0, .warm, false, [⟨31, 31, .ro, 0x0⟩, ⟨30, 30, .ro, 0x0⟩, ⟨15, 0, .ro, 0x0⟩]⟩
def MP_REFRESH_STATUS_STUCK : Fld := ⟨MP_REFRESH_STATUS, 31, 31⟩
def MP_REFRESH_STATUS_HELD : Fld := ⟨MP_REFRESH_STATUS, 30, 30⟩
def MP_REFRESH_STATUS_STUCK_CNT : Fld := ⟨MP_REFRESH_STATUS, 15, 0⟩
/-- MP_BOOKn_CFG, 11_memory_ports.md, table after R351. -/
def MP_BOOK_CFG : RegDef := ⟨.mp, 0x1000, 64, 0x20, .warm, false, [⟨31, 31, .rw, 0x0⟩, ⟨30, 30, .rw, 0x0⟩, ⟨29, 27, .rw, 0x0⟩, ⟨26, 26, .rw, 0x0⟩, ⟨25, 20, .rw, 0x0⟩, ⟨19, 0, .rw, 0x0⟩]⟩
def MP_BOOK_CFG_VALID : Fld := ⟨MP_BOOK_CFG, 31, 31⟩
def MP_BOOK_CFG_DIR : Fld := ⟨MP_BOOK_CFG, 30, 30⟩
def MP_BOOK_CFG_ATTACH : Fld := ⟨MP_BOOK_CFG, 29, 27⟩
def MP_BOOK_CFG_CLASS : Fld := ⟨MP_BOOK_CFG, 26, 26⟩
def MP_BOOK_CFG_TENANCY : Fld := ⟨MP_BOOK_CFG, 25, 20⟩
def MP_BOOK_CFG_FLITS : Fld := ⟨MP_BOOK_CFG, 19, 0⟩
/-- MP_BOOKn_CHART, 11_memory_ports.md, table after R351. -/
def MP_BOOK_CHART : RegDef := ⟨.mp, 0x1004, 64, 0x20, .warm, false, [⟨31, 0, .rw, 0x0⟩]⟩
def MP_BOOK_CHART_CHART : Fld := ⟨MP_BOOK_CHART, 31, 0⟩
/-- MP_BOOKn_SEG, 11_memory_ports.md, table after R351. -/
def MP_BOOK_SEG : RegDef := ⟨.mp, 0x1008, 64, 0x20, .warm, false, [⟨31, 16, .rw, 0x0⟩, ⟨15, 0, .rw, 0x0⟩]⟩
def MP_BOOK_SEG_SEG_LAST : Fld := ⟨MP_BOOK_SEG, 31, 16⟩
def MP_BOOK_SEG_SEG_FIRST : Fld := ⟨MP_BOOK_SEG, 15, 0⟩
/-- MP_BOOKn_ADDR_LO, 11_memory_ports.md, table after R351. -/
def MP_BOOK_ADDR_LO : RegDef := ⟨.mp, 0x100c, 64, 0x20, .warm, false, [⟨31, 8, .rw, 0x0⟩]⟩
def MP_BOOK_ADDR_LO_ADDR_LO : Fld := ⟨MP_BOOK_ADDR_LO, 31, 8⟩
/-- MP_BOOKn_ADDR_HI, 11_memory_ports.md, table after R351. -/
def MP_BOOK_ADDR_HI : RegDef := ⟨.mp, 0x1010, 64, 0x20, .warm, false, [⟨3, 0, .rw, 0x0⟩]⟩
def MP_BOOK_ADDR_HI_ADDR_HI : Fld := ⟨MP_BOOK_ADDR_HI, 3, 0⟩
/-- NI_HDLh_CFG, 12_tenancy_and_isolation.md, table after R377. -/
def NI_HDL_CFG : RegDef := ⟨.ni, 0x2000, 256, 0x10, .island, false, [⟨31, 31, .rw, 0x0⟩, ⟨30, 30, .rw, 0x0⟩, ⟨29, 29, .rw, 0x0⟩, ⟨21, 16, .rw, 0x0⟩]⟩
def NI_HDL_CFG_VALID : Fld := ⟨NI_HDL_CFG, 31, 31⟩
def NI_HDL_CFG_RETAIN : Fld := ⟨NI_HDL_CFG, 30, 30⟩
def NI_HDL_CFG_CLASS : Fld := ⟨NI_HDL_CFG, 29, 29⟩
def NI_HDL_CFG_TENANCY : Fld := ⟨NI_HDL_CFG, 21, 16⟩
/-- NI_HDLh_RANGE, 12_tenancy_and_isolation.md, table after R377. -/
def NI_HDL_RANGE : RegDef := ⟨.ni, 0x2004, 256, 0x10, .island, false, [⟨31, 16, .rw, 0x0⟩, ⟨15, 0, .rw, 0x0⟩]⟩
def NI_HDL_RANGE_SIZE : Fld := ⟨NI_HDL_RANGE, 31, 16⟩
def NI_HDL_RANGE_BASE : Fld := ⟨NI_HDL_RANGE, 15, 0⟩
/-- NI_HDLh_HOME, 12_tenancy_and_isolation.md, table after R377. -/
def NI_HDL_HOME : RegDef := ⟨.ni, 0x2008, 256, 0x10, .island, false, [⟨27, 0, .rw, 0x0⟩]⟩
def NI_HDL_HOME_ADDR : Fld := ⟨NI_HDL_HOME, 27, 0⟩
/-- NI_PAIRk_BASE, 12_tenancy_and_isolation.md, table after R377. -/
def NI_PAIR_BASE : RegDef := ⟨.ni, 0x1200, 8, 0x8, .island, false, [⟨31, 31, .rw, 0x0⟩, ⟨30, 30, .rw, 0x0⟩, ⟨21, 16, .rw, 0x0⟩, ⟨15, 0, .rw, 0x0⟩]⟩
def NI_PAIR_BASE_ENABLE : Fld := ⟨NI_PAIR_BASE, 31, 31⟩
def NI_PAIR_BASE_SYS : Fld := ⟨NI_PAIR_BASE, 30, 30⟩
def NI_PAIR_BASE_TENANCY : Fld := ⟨NI_PAIR_BASE, 21, 16⟩
def NI_PAIR_BASE_BASE : Fld := ⟨NI_PAIR_BASE, 15, 0⟩
/-- NI_PAIRk_BOUND, 12_tenancy_and_isolation.md, table after R377. -/
def NI_PAIR_BOUND : RegDef := ⟨.ni, 0x1204, 8, 0x8, .island, false, [⟨15, 0, .rw, 0x0⟩]⟩
def NI_PAIR_BOUND_SIZE : Fld := ⟨NI_PAIR_BOUND, 15, 0⟩
/-- NI_TN_STATE, 12_tenancy_and_isolation.md, table after R377. -/
def NI_TN_STATE : RegDef := ⟨.ni, 0x1240, 1, 0x0, .island, false, [⟨31, 29, .ro, 0x4⟩, ⟨28, 28, .w1c, 0x0⟩, ⟨27, 27, .w1c, 0x0⟩, ⟨26, 26, .w1c, 0x0⟩, ⟨25, 22, .ro, 0x0⟩, ⟨21, 16, .ro, 0x0⟩, ⟨15, 0, .ro, 0x0⟩]⟩
def NI_TN_STATE_STATE : Fld := ⟨NI_TN_STATE, 31, 29⟩
def NI_TN_STATE_HDL_REFUSED : Fld := ⟨NI_TN_STATE, 28, 28⟩
def NI_TN_STATE_PAIR_REFUSED : Fld := ⟨NI_TN_STATE, 27, 27⟩
def NI_TN_STATE_SCRUB_FAIL : Fld := ⟨NI_TN_STATE, 26, 26⟩
def NI_TN_STATE_CAUSE : Fld := ⟨NI_TN_STATE, 25, 22⟩
def NI_TN_STATE_OWNER : Fld := ⟨NI_TN_STATE, 21, 16⟩
def NI_TN_STATE_ZEROED : Fld := ⟨NI_TN_STATE, 15, 0⟩
/-- FB_GRANTn_BASE, 12_tenancy_and_isolation.md, table after R377. -/
def FB_GRANT_BASE : RegDef := ⟨.fb, 0xa00, 128, 0x8, .warm, false, [⟨15, 0, .rw, 0x0⟩]⟩
def FB_GRANT_BASE_BASE : Fld := ⟨FB_GRANT_BASE, 15, 0⟩
/-- FB_GRANTn_CFG, 12_tenancy_and_isolation.md, table after R377. -/
def FB_GRANT_CFG : RegDef := ⟨.fb, 0xa04, 128, 0x8, .warm, false, [⟨31, 31, .rw, 0x0⟩, ⟨30, 30, .rw, 0x0⟩, ⟨29, 24, .rw, 0x0⟩, ⟨15, 0, .rw, 0x0⟩]⟩
def FB_GRANT_CFG_VALID : Fld := ⟨FB_GRANT_CFG, 31, 31⟩
def FB_GRANT_CFG_CLASS : Fld := ⟨FB_GRANT_CFG, 30, 30⟩
def FB_GRANT_CFG_TENANCY : Fld := ⟨FB_GRANT_CFG, 29, 24⟩
def FB_GRANT_CFG_SIZE : Fld := ⟨FB_GRANT_CFG, 15, 0⟩
/-- FB_GRANT_STATUS, 12_tenancy_and_isolation.md, table after R377. -/
def FB_GRANT_STATUS : RegDef := ⟨.fb, 0xe00, 1, 0x0, .warm, false, [⟨5, 4, .ro, 0x0⟩, ⟨1, 1, .w1c, 0x0⟩, ⟨0, 0, .ro, 0x0⟩]⟩
def FB_GRANT_STATUS_CAUSE : Fld := ⟨FB_GRANT_STATUS, 5, 4⟩
def FB_GRANT_STATUS_GRANT_ERR : Fld := ⟨FB_GRANT_STATUS, 1, 1⟩
def FB_GRANT_STATUS_BUSY : Fld := ⟨FB_GRANT_STATUS, 0, 0⟩
/-- FB_SLICE_CMD, 12_tenancy_and_isolation.md, table after R377. -/
def FB_SLICE_CMD : RegDef := ⟨.fb, 0xe04, 1, 0x0, .warm, false, [⟨31, 29, .wo, 0x0⟩, ⟨28, 28, .wo, 0x0⟩, ⟨27, 22, .wo, 0x0⟩, ⟨9, 0, .wo, 0x0⟩]⟩
def FB_SLICE_CMD_ACTION : Fld := ⟨FB_SLICE_CMD, 31, 29⟩
def FB_SLICE_CMD_HOLD : Fld := ⟨FB_SLICE_CMD, 28, 28⟩
def FB_SLICE_CMD_TENANCY : Fld := ⟨FB_SLICE_CMD, 27, 22⟩
def FB_SLICE_CMD_GROUP : Fld := ⟨FB_SLICE_CMD, 9, 0⟩
/-- FB_SLICE_STATUS, 12_tenancy_and_isolation.md, table after R377. -/
def FB_SLICE_STATUS : RegDef := ⟨.fb, 0xe08, 1, 0x0, .warm, false, [⟨31, 31, .ro, 0x0⟩, ⟨30, 30, .w1c, 0x0⟩, ⟨29, 29, .w1c, 0x0⟩, ⟨28, 28, .w1c, 0x0⟩, ⟨27, 27, .w1c, 0x0⟩, ⟨23, 12, .ro, 0x0⟩, ⟨11, 0, .ro, 0x0⟩]⟩
def FB_SLICE_STATUS_BUSY : Fld := ⟨FB_SLICE_STATUS, 31, 31⟩
def FB_SLICE_STATUS_DONE : Fld := ⟨FB_SLICE_STATUS, 30, 30⟩
def FB_SLICE_STATUS_CMD_DROPPED : Fld := ⟨FB_SLICE_STATUS, 29, 29⟩
def FB_SLICE_STATUS_SCRUB_FAIL : Fld := ⟨FB_SLICE_STATUS, 28, 28⟩
def FB_SLICE_STATUS_REFUSED : Fld := ⟨FB_SLICE_STATUS, 27, 27⟩
def FB_SLICE_STATUS_FAILED : Fld := ⟨FB_SLICE_STATUS, 23, 12⟩
def FB_SLICE_STATUS_ANSWERED : Fld := ⟨FB_SLICE_STATUS, 11, 0⟩
/-- TN_INFO, 12_tenancy_and_isolation.md, table after R377. -/
def TN_INFO : RegDef := ⟨.tn, 0x4, 1, 0x0, .warm, true, [⟨31, 31, .ro, 0x0⟩, ⟨30, 30, .ro, 0x0⟩, ⟨29, 29, .ro, 0x0⟩, ⟨21, 16, .ro, 0x0⟩]⟩
def TN_INFO_BUSY : Fld := ⟨TN_INFO, 31, 31⟩
def TN_INFO_SCRUB_DONE : Fld := ⟨TN_INFO, 30, 30⟩
def TN_INFO_SCRUB_FAIL : Fld := ⟨TN_INFO, 29, 29⟩
def TN_INFO_TENANCY : Fld := ⟨TN_INFO, 21, 16⟩
/-- TN_RING_SEL, 12_tenancy_and_isolation.md, table after R377. -/
def TN_RING_SEL : RegDef := ⟨.tn, 0x10, 1, 0x0, .warm, true, [⟨31, 31, .ro, 0x0⟩, ⟨11, 0, .rw, 0x0⟩]⟩
def TN_RING_SEL_FOREIGN : Fld := ⟨TN_RING_SEL, 31, 31⟩
def TN_RING_SEL_RING : Fld := ⟨TN_RING_SEL, 11, 0⟩
/-- TN_RING_HEAD, 12_tenancy_and_isolation.md, table after R377. -/
def TN_RING_HEAD : RegDef := ⟨.tn, 0x14, 1, 0x0, .warm, true, [⟨31, 0, .ro, 0x0⟩]⟩
def TN_RING_HEAD_HEAD : Fld := ⟨TN_RING_HEAD, 31, 0⟩
/-- TN_RING_CQ, 12_tenancy_and_isolation.md, table after R377. -/
def TN_RING_CQ : RegDef := ⟨.tn, 0x18, 1, 0x0, .warm, true, [⟨31, 0, .ro, 0x0⟩]⟩
def TN_RING_CQ_CQ_TAIL : Fld := ⟨TN_RING_CQ, 31, 0⟩
/-- BN_LOCK, 13_binnacle_and_bring_up.md, table after R382. -/
def BN_LOCK : RegDef := ⟨.bn, 0x4, 1, 0x0, .cold, false, [⟨0, 0, .rw, 0x0⟩]⟩
def BN_LOCK_LOCK : Fld := ⟨BN_LOCK, 0, 0⟩
/-- BN_MBOX_DATAn, 13_binnacle_and_bring_up.md, table after R385. -/
def BN_MBOX_DATA : RegDef := ⟨.bn, 0x100, 16, 0x4, .bn, false, [⟨31, 0, .rw, 0x0⟩]⟩
def BN_MBOX_DATA_DATA : Fld := ⟨BN_MBOX_DATA, 31, 0⟩
/-- BN_MBOX_CMD, 13_binnacle_and_bring_up.md, table after R385. -/
def BN_MBOX_CMD : RegDef := ⟨.bn, 0x140, 1, 0x0, .bn, false, [⟨31, 8, .wo, 0x0⟩, ⟨7, 0, .wo, 0x0⟩]⟩
def BN_MBOX_CMD_ARG : Fld := ⟨BN_MBOX_CMD, 31, 8⟩
def BN_MBOX_CMD_REQ : Fld := ⟨BN_MBOX_CMD, 7, 0⟩
/-- BN_MBOX_STATUS, 13_binnacle_and_bring_up.md, table after R385. -/
def BN_MBOX_STATUS : RegDef := ⟨.bn, 0x144, 1, 0x0, .bn, false, [⟨31, 31, .ro, 0x0⟩, ⟨30, 30, .w1c, 0x0⟩, ⟨29, 29, .w1c, 0x0⟩, ⟨15, 8, .ro, 0x0⟩, ⟨7, 0, .ro, 0x0⟩]⟩
def BN_MBOX_STATUS_BUSY : Fld := ⟨BN_MBOX_STATUS, 31, 31⟩
def BN_MBOX_STATUS_DONE : Fld := ⟨BN_MBOX_STATUS, 30, 30⟩
def BN_MBOX_STATUS_DROPPED : Fld := ⟨BN_MBOX_STATUS, 29, 29⟩
def BN_MBOX_STATUS_STATUS : Fld := ⟨BN_MBOX_STATUS, 15, 8⟩
def BN_MBOX_STATUS_REQ : Fld := ⟨BN_MBOX_STATUS, 7, 0⟩
/-- RG_SENSOR, 13_binnacle_and_bring_up.md, table after R387. -/
def RG_SENSOR : RegDef := ⟨.rg, 0x160, 1, 0x0, .region, false, [⟨31, 24, .ro, 0x0⟩, ⟨23, 16, .ro, 0x0⟩, ⟨15, 8, .rw, 0x80⟩, ⟨1, 1, .ro, 0x0⟩, ⟨0, 0, .ro, 0x0⟩]⟩
def RG_SENSOR_TEMP : Fld := ⟨RG_SENSOR, 31, 24⟩
def RG_SENSOR_SAG : Fld := ⟨RG_SENSOR, 23, 16⟩
def RG_SENSOR_CAL : Fld := ⟨RG_SENSOR, 15, 8⟩
def RG_SENSOR_TEMP_BAD : Fld := ⟨RG_SENSOR, 1, 1⟩
def RG_SENSOR_SAG_BAD : Fld := ⟨RG_SENSOR, 0, 0⟩
/-- BN_PM_VI, 13_binnacle_and_bring_up.md, table after R389. -/
def BN_PM_VI : RegDef := ⟨.bn, 0x60, 1, 0x0, .bn, false, [⟨31, 16, .ro, 0x0⟩, ⟨15, 0, .ro, 0x0⟩]⟩
def BN_PM_VI_VIN : Fld := ⟨BN_PM_VI, 31, 16⟩
def BN_PM_VI_IIN : Fld := ⟨BN_PM_VI, 15, 0⟩
/-- BN_PM_PIN, 13_binnacle_and_bring_up.md, table after R389. -/
def BN_PM_PIN : RegDef := ⟨.bn, 0x64, 1, 0x0, .bn, false, [⟨31, 24, .ro, 0xff⟩, ⟨15, 0, .ro, 0x0⟩]⟩
def BN_PM_PIN_AGE : Fld := ⟨BN_PM_PIN, 31, 24⟩
def BN_PM_PIN_PIN : Fld := ⟨BN_PM_PIN, 15, 0⟩
/-- BN_HBM_TEMPn, 13_binnacle_and_bring_up.md, table after R389. -/
def BN_HBM_TEMP : RegDef := ⟨.bn, 0x70, 4, 0x4, .bn, false, [⟨31, 0, .ro, 0x80808080⟩]⟩
def BN_HBM_TEMP_TEMP : Fld := ⟨BN_HBM_TEMP, 31, 0⟩
/-- RG_POWER, 13_binnacle_and_bring_up.md, table after R390. -/
def RG_POWER : RegDef := ⟨.rg, 0x164, 1, 0x0, .region, false, [⟨31, 24, .rw, 0x14⟩, ⟨15, 0, .ro, 0x0⟩]⟩
def RG_POWER_STATIC : Fld := ⟨RG_POWER, 31, 24⟩
def RG_POWER_EST : Fld := ⟨RG_POWER, 15, 0⟩
/-- BN_GOV_CFG, 13_binnacle_and_bring_up.md, table after R393. -/
def BN_GOV_CFG : RegDef := ⟨.bn, 0x80, 1, 0x0, .bn, false, [⟨31, 31, .rw, 0x1⟩, ⟨23, 16, .rw, 0xa⟩, ⟨15, 8, .rw, 0x5f⟩, ⟨7, 0, .rw, 0x73⟩]⟩
def BN_GOV_CFG_ENABLE : Fld := ⟨BN_GOV_CFG, 31, 31⟩
def BN_GOV_CFG_HOLDOFF : Fld := ⟨BN_GOV_CFG, 23, 16⟩
def BN_GOV_CFG_T_HIGH : Fld := ⟨BN_GOV_CFG, 15, 8⟩
def BN_GOV_CFG_T_TRIP : Fld := ⟨BN_GOV_CFG, 7, 0⟩
/-- BN_GOV_LIMIT, 13_binnacle_and_bring_up.md, table after R393. -/
def BN_GOV_LIMIT : RegDef := ⟨.bn, 0x84, 1, 0x0, .bn, false, [⟨31, 16, .rw, 0x1194⟩, ⟨15, 0, .rw, 0x7d⟩]⟩
def BN_GOV_LIMIT_BUDGET : Fld := ⟨BN_GOV_LIMIT, 31, 16⟩
def BN_GOV_LIMIT_REGION : Fld := ⟨BN_GOV_LIMIT, 15, 0⟩
/-- BN_GOV_STATUS, 13_binnacle_and_bring_up.md, table after R393. -/
def BN_GOV_STATUS : RegDef := ⟨.bn, 0x88, 1, 0x0, .bn, false, [⟨31, 16, .ro, 0x0⟩, ⟨15, 8, .ro, 0x0⟩, ⟨7, 7, .ro, 0x0⟩, ⟨6, 6, .ro, 0x0⟩, ⟨5, 5, .w1c, 0x0⟩]⟩
def BN_GOV_STATUS_TOTAL : Fld := ⟨BN_GOV_STATUS, 31, 16⟩
def BN_GOV_STATUS_OVER : Fld := ⟨BN_GOV_STATUS, 15, 8⟩
def BN_GOV_STATUS_VIN_LOW : Fld := ⟨BN_GOV_STATUS, 7, 7⟩
def BN_GOV_STATUS_VIN_HIGH : Fld := ⟨BN_GOV_STATUS, 6, 6⟩
def BN_GOV_STATUS_TRIPPED : Fld := ⟨BN_GOV_STATUS, 5, 5⟩
/-- BN_LOG_STATUS, 13_binnacle_and_bring_up.md, table after R396. -/
def BN_LOG_STATUS : RegDef := ⟨.bn, 0x90, 1, 0x0, .bn, false, [⟨31, 23, .ro, 0x0⟩, ⟨15, 0, .ro, 0x0⟩]⟩
def BN_LOG_STATUS_WAITING : Fld := ⟨BN_LOG_STATUS, 31, 23⟩
def BN_LOG_STATUS_DROPPED : Fld := ⟨BN_LOG_STATUS, 15, 0⟩
/-- BN_STATE, 13_binnacle_and_bring_up.md, table after R406. -/
def BN_STATE : RegDef := ⟨.bn, 0x0, 1, 0x0, .cold, false, [⟨31, 28, .ro, 0x0⟩, ⟨27, 24, .ro, 0x0⟩, ⟨23, 23, .ro, 0x0⟩, ⟨22, 21, .ro, 0x0⟩, ⟨19, 16, .ro, 0x0⟩, ⟨15, 0, .ro, 0x0⟩]⟩
def BN_STATE_STATE : Fld := ⟨BN_STATE, 31, 28⟩
def BN_STATE_STEP : Fld := ⟨BN_STATE, 27, 24⟩
def BN_STATE_PENDING : Fld := ⟨BN_STATE, 23, 23⟩
def BN_STATE_BOOT_CAUSE : Fld := ⟨BN_STATE, 22, 21⟩
def BN_STATE_FAIL_CAUSE : Fld := ⟨BN_STATE, 19, 16⟩
def BN_STATE_READY_MS : Fld := ⟨BN_STATE, 15, 0⟩
/-- BN_FW_VERSION_LO, 13_binnacle_and_bring_up.md, table after R406. -/
def BN_FW_VERSION_LO : RegDef := ⟨.bn, 0x8, 1, 0x0, .bn, false, [⟨31, 0, .ro, 0x0⟩]⟩
def BN_FW_VERSION_LO_VERSION : Fld := ⟨BN_FW_VERSION_LO, 31, 0⟩
/-- BN_FW_VERSION_LO, 13_binnacle_and_bring_up.md, table after R406. -/
def BN_FW_VERSION_HI : RegDef := ⟨.bn, 0xc, 1, 0x0, .bn, false, [⟨31, 0, .ro, 0x0⟩]⟩
def BN_FW_VERSION_HI_VERSION : Fld := ⟨BN_FW_VERSION_HI, 31, 0⟩
/-- BN_PWR_EN0, 13_binnacle_and_bring_up.md, table after R406. -/
def BN_PWR_EN0 : RegDef := ⟨.bn, 0x10, 1, 0x0, .cold, false, [⟨31, 0, .rw, 0x0⟩]⟩
def BN_PWR_EN0_EN : Fld := ⟨BN_PWR_EN0, 31, 0⟩
/-- BN_PWR_EN1, 13_binnacle_and_bring_up.md, table after R406. -/
def BN_PWR_EN1 : RegDef := ⟨.bn, 0x14, 1, 0x0, .cold, false, [⟨3, 0, .rw, 0x0⟩]⟩
def BN_PWR_EN1_EN : Fld := ⟨BN_PWR_EN1, 3, 0⟩
/-- NI_FWLOAD_CFG, 13_binnacle_and_bring_up.md, table after R411. -/
def NI_FWLOAD_CFG : RegDef := ⟨.ni, 0x1300, 1, 0x0, .island, false, [⟨31, 31, .rw, 0x0⟩, ⟨30, 30, .rw, 0x0⟩, ⟨29, 27, .rw, 0x0⟩]⟩
def NI_FWLOAD_CFG_ENABLE : Fld := ⟨NI_FWLOAD_CFG, 31, 31⟩
def NI_FWLOAD_CFG_RELEASE : Fld := ⟨NI_FWLOAD_CFG, 30, 30⟩
def NI_FWLOAD_CFG_PAIR : Fld := ⟨NI_FWLOAD_CFG, 29, 27⟩
/-- NI_FWLOAD_STATUS, 13_binnacle_and_bring_up.md, table after R411. -/
def NI_FWLOAD_STATUS : RegDef := ⟨.ni, 0x1304, 1, 0x0, .island, false, [⟨31, 31, .ro, 0x0⟩, ⟨30, 30, .ro, 0x0⟩, ⟨29, 29, .w1c, 0x0⟩, ⟨28, 28, .w1c, 0x0⟩, ⟨10, 0, .ro, 0x0⟩]⟩
def NI_FWLOAD_STATUS_COMPLETE : Fld := ⟨NI_FWLOAD_STATUS, 31, 31⟩
def NI_FWLOAD_STATUS_DIGEST_OK : Fld := ⟨NI_FWLOAD_STATUS, 30, 30⟩
def NI_FWLOAD_STATUS_DIGEST_BAD : Fld := ⟨NI_FWLOAD_STATUS, 29, 29⟩
def NI_FWLOAD_STATUS_CRC_BAD : Fld := ⟨NI_FWLOAD_STATUS, 28, 28⟩
def NI_FWLOAD_STATUS_COUNT : Fld := ⟨NI_FWLOAD_STATUS, 10, 0⟩
/-- NI_FW_MAPn, 13_binnacle_and_bring_up.md, table after R411. -/
def NI_FW_MAP : RegDef := ⟨.ni, 0x1380, 32, 0x4, .island, false, [⟨31, 0, .ro, 0x0⟩]⟩
def NI_FW_MAP_MAP : Fld := ⟨NI_FW_MAP, 31, 0⟩
/-- FB_CNT_SNAP, 14_observation_and_debug.md, table after R419. -/
def FB_CNT_SNAP : RegDef := ⟨.fb, 0xf00, 1, 0x0, .warm, false, [⟨31, 31, .wo, 0x0⟩, ⟨30, 30, .rw, 0x0⟩, ⟨29, 29, .ro, 0x0⟩, ⟨28, 28, .w1c, 0x0⟩]⟩
def FB_CNT_SNAP_GO : Fld := ⟨FB_CNT_SNAP, 31, 31⟩
def FB_CNT_SNAP_VIEW : Fld := ⟨FB_CNT_SNAP, 30, 30⟩
def FB_CNT_SNAP_BUSY : Fld := ⟨FB_CNT_SNAP, 29, 29⟩
def FB_CNT_SNAP_PARTIAL : Fld := ⟨FB_CNT_SNAP, 28, 28⟩
/-- NI_TRACE_CFG, 14_observation_and_debug.md, table after R424. -/
def NI_TRACE_CFG : RegDef := ⟨.ni, 0x130, 1, 0x0, .island, false, [⟨31, 31, .rw, 0x0⟩, ⟨30, 30, .rw, 0x1⟩, ⟨29, 24, .rw, 0x0⟩, ⟨23, 16, .rw, 0x10⟩, ⟨15, 12, .rw, 0x6⟩, ⟨9, 0, .rw, 0x3ff⟩]⟩
def NI_TRACE_CFG_ENABLE : Fld := ⟨NI_TRACE_CFG, 31, 31⟩
def NI_TRACE_CFG_ALL_TEN : Fld := ⟨NI_TRACE_CFG, 30, 30⟩
def NI_TRACE_CFG_TENANCY : Fld := ⟨NI_TRACE_CFG, 29, 24⟩
def NI_TRACE_CFG_WEIGHT : Fld := ⟨NI_TRACE_CFG, 23, 16⟩
def NI_TRACE_CFG_FLUSH : Fld := ⟨NI_TRACE_CFG, 15, 12⟩
def NI_TRACE_CFG_TYPES : Fld := ⟨NI_TRACE_CFG, 9, 0⟩
/-- NI_TRACE_STATUS, 14_observation_and_debug.md, table after R424. -/
def NI_TRACE_STATUS : RegDef := ⟨.ni, 0x134, 1, 0x0, .island, false, [⟨31, 27, .ro, 0x0⟩, ⟨15, 0, .ro, 0x0⟩]⟩
def NI_TRACE_STATUS_BUFFERED : Fld := ⟨NI_TRACE_STATUS, 31, 27⟩
def NI_TRACE_STATUS_LOST : Fld := ⟨NI_TRACE_STATUS, 15, 0⟩
/-- TP_CFG, 14_observation_and_debug.md, table after R424. -/
def TP_CFG : RegDef := ⟨.tp, 0x0, 1, 0x0, .warm, false, [⟨31, 31, .rw, 0x0⟩]⟩
def TP_CFG_ENABLE : Fld := ⟨TP_CFG, 31, 31⟩
/-- TP_STATUS, 14_observation_and_debug.md, table after R424. -/
def TP_STATUS : RegDef := ⟨.tp, 0x4, 1, 0x0, .warm, false, [⟨31, 31, .ro, 0x0⟩, ⟨30, 30, .w1c, 0x0⟩, ⟨29, 29, .ro, 0x0⟩, ⟨12, 0, .ro, 0x0⟩]⟩
def TP_STATUS_READY : Fld := ⟨TP_STATUS, 31, 31⟩
def TP_STATUS_TRIGGERED : Fld := ⟨TP_STATUS, 30, 30⟩
def TP_STATUS_SCANNING : Fld := ⟨TP_STATUS, 29, 29⟩
def TP_STATUS_LEVEL : Fld := ⟨TP_STATUS, 12, 0⟩
/-- TP_TRIG_CFG, 14_observation_and_debug.md, table after R424. -/
def TP_TRIG_CFG : RegDef := ⟨.tp, 0x8, 1, 0x0, .warm, false, [⟨31, 31, .rw, 0x0⟩, ⟨28, 24, .rw, 0x0⟩, ⟨23, 23, .rw, 0x0⟩, ⟨22, 22, .rw, 0x0⟩, ⟨15, 0, .rw, 0x0⟩]⟩
def TP_TRIG_CFG_ENABLE : Fld := ⟨TP_TRIG_CFG, 31, 31⟩
def TP_TRIG_CFG_TYPE : Fld := ⟨TP_TRIG_CFG, 28, 24⟩
def TP_TRIG_CFG_TAG_EN : Fld := ⟨TP_TRIG_CFG, 23, 23⟩
def TP_TRIG_CFG_LAYER_EN : Fld := ⟨TP_TRIG_CFG, 22, 22⟩
def TP_TRIG_CFG_LAYER_ID : Fld := ⟨TP_TRIG_CFG, 15, 0⟩
/-- NI_WAIT_STATUS, 14_observation_and_debug.md, table after R427. -/
def NI_WAIT_STATUS : RegDef := ⟨.ni, 0x1500, 1, 0x0, .island, false, [⟨31, 16, .ro, 0x0⟩]⟩
def NI_WAIT_STATUS_OVERFLOW : Fld := ⟨NI_WAIT_STATUS, 31, 16⟩
/-- FB_PLOT_CTRL, 14_observation_and_debug.md, table after R428. -/
def FB_PLOT_CTRL : RegDef := ⟨.fb, 0xf10, 1, 0x0, .warm, false, [⟨31, 31, .wo, 0x0⟩, ⟨30, 30, .rw, 0x0⟩]⟩
def FB_PLOT_CTRL_GO : Fld := ⟨FB_PLOT_CTRL, 31, 31⟩
def FB_PLOT_CTRL_HP : Fld := ⟨FB_PLOT_CTRL, 30, 30⟩
/-- FB_PLOT_STATUS, 14_observation_and_debug.md, table after R428. -/
def FB_PLOT_STATUS : RegDef := ⟨.fb, 0xf1c, 1, 0x0, .warm, false, [⟨31, 31, .ro, 0x0⟩, ⟨30, 30, .w1c, 0x0⟩, ⟨29, 29, .w1c, 0x0⟩, ⟨28, 28, .w1c, 0x0⟩, ⟨15, 0, .ro, 0x0⟩]⟩
def FB_PLOT_STATUS_BUSY : Fld := ⟨FB_PLOT_STATUS, 31, 31⟩
def FB_PLOT_STATUS_DONE : Fld := ⟨FB_PLOT_STATUS, 30, 30⟩
def FB_PLOT_STATUS_REFUSED : Fld := ⟨FB_PLOT_STATUS, 29, 29⟩
def FB_PLOT_STATUS_WRITE_ERR : Fld := ⟨FB_PLOT_STATUS, 28, 28⟩
def FB_PLOT_STATUS_CYCLES : Fld := ⟨FB_PLOT_STATUS, 15, 0⟩
/-- FB_ANCHOR_CTRL, 14_observation_and_debug.md, table after R432. -/
def FB_ANCHOR_CTRL : RegDef := ⟨.fb, 0xf20, 1, 0x0, .warm, false, [⟨31, 31, .wo, 0x0⟩, ⟨30, 30, .wo, 0x0⟩, ⟨29, 29, .rw, 0x1⟩, ⟨28, 28, .rw, 0x1⟩]⟩
def FB_ANCHOR_CTRL_STOP : Fld := ⟨FB_ANCHOR_CTRL, 31, 31⟩
def FB_ANCHOR_CTRL_REARM : Fld := ⟨FB_ANCHOR_CTRL, 30, 30⟩
def FB_ANCHOR_CTRL_PIN_EN : Fld := ⟨FB_ANCHOR_CTRL, 29, 29⟩
def FB_ANCHOR_CTRL_TRIG_EN : Fld := ⟨FB_ANCHOR_CTRL, 28, 28⟩
/-- FB_ANCHOR_STATUS, 14_observation_and_debug.md, table after R432. -/
def FB_ANCHOR_STATUS : RegDef := ⟨.fb, 0xf24, 1, 0x0, .warm, false, [⟨31, 31, .ro, 0x0⟩, ⟨30, 30, .ro, 0x0⟩, ⟨29, 29, .ro, 0x0⟩, ⟨28, 28, .ro, 0x0⟩, ⟨27, 27, .ro, 0x0⟩, ⟨26, 26, .ro, 0x0⟩, ⟨25, 20, .ro, 0x0⟩, ⟨15, 8, .ro, 0x0⟩, ⟨7, 0, .ro, 0x0⟩]⟩
def FB_ANCHOR_STATUS_STOPPED : Fld := ⟨FB_ANCHOR_STATUS, 31, 31⟩
def FB_ANCHOR_STATUS_STUCK : Fld := ⟨FB_ANCHOR_STATUS, 30, 30⟩
def FB_ANCHOR_STATUS_SRC_PIN : Fld := ⟨FB_ANCHOR_STATUS, 29, 29⟩
def FB_ANCHOR_STATUS_SRC_HOST : Fld := ⟨FB_ANCHOR_STATUS, 28, 28⟩
def FB_ANCHOR_STATUS_SRC_BN : Fld := ⟨FB_ANCHOR_STATUS, 27, 27⟩
def FB_ANCHOR_STATUS_SRC_TRIG : Fld := ⟨FB_ANCHOR_STATUS, 26, 26⟩
def FB_ANCHOR_STATUS_PARTIAL : Fld := ⟨FB_ANCHOR_STATUS, 25, 20⟩
def FB_ANCHOR_STATUS_STUCK_CNT : Fld := ⟨FB_ANCHOR_STATUS, 15, 8⟩
def FB_ANCHOR_STATUS_EDGES : Fld := ⟨FB_ANCHOR_STATUS, 7, 0⟩
/-- FB_SCAN_CFG, 14_observation_and_debug.md, table after R435. -/
def FB_SCAN_CFG : RegDef := ⟨.fb, 0xf30, 1, 0x0, .warm, false, [⟨31, 31, .wo, 0x0⟩, ⟨30, 30, .rwl, 0x0⟩, ⟨29, 29, .rw, 0x0⟩, ⟨28, 28, .rw, 0x0⟩, ⟨27, 27, .rw, 0x0⟩]⟩
def FB_SCAN_CFG_GO : Fld := ⟨FB_SCAN_CFG, 31, 31⟩
def FB_SCAN_CFG_JTAG_EN : Fld := ⟨FB_SCAN_CFG, 30, 30⟩
def FB_SCAN_CFG_ROUTE : Fld := ⟨FB_SCAN_CFG, 29, 29⟩
def FB_SCAN_CFG_SPAD : Fld := ⟨FB_SCAN_CFG, 28, 28⟩
def FB_SCAN_CFG_LAND : Fld := ⟨FB_SCAN_CFG, 27, 27⟩
/-- FB_SCAN_STATUS, 14_observation_and_debug.md, table after R435. -/
def FB_SCAN_STATUS : RegDef := ⟨.fb, 0xf34, 1, 0x0, .warm, false, [⟨31, 31, .ro, 0x0⟩, ⟨30, 30, .w1c, 0x0⟩, ⟨29, 29, .w1c, 0x0⟩, ⟨27, 0, .ro, 0x0⟩]⟩
def FB_SCAN_STATUS_BUSY : Fld := ⟨FB_SCAN_STATUS, 31, 31⟩
def FB_SCAN_STATUS_DONE : Fld := ⟨FB_SCAN_STATUS, 30, 30⟩
def FB_SCAN_STATUS_REFUSED : Fld := ⟨FB_SCAN_STATUS, 29, 29⟩
def FB_SCAN_STATUS_FRAMES : Fld := ⟨FB_SCAN_STATUS, 27, 0⟩
/-- FB_INPUT_CTRL, 15_block_ports_and_signals.md, table after R458. -/
def FB_INPUT_CTRL : RegDef := ⟨.fb, 0xf40, 1, 0x0, .warm, false, [⟨31, 31, .wo, 0x0⟩, ⟨30, 30, .rw, 0x1⟩, ⟨15, 8, .rwl, 0x32⟩, ⟨7, 0, .rw, 0xa⟩]⟩
def FB_INPUT_CTRL_THR_REARM : Fld := ⟨FB_INPUT_CTRL, 31, 31⟩
def FB_INPUT_CTRL_THR_EN : Fld := ⟨FB_INPUT_CTRL, 30, 30⟩
def FB_INPUT_CTRL_THR_LIMIT : Fld := ⟨FB_INPUT_CTRL, 15, 8⟩
def FB_INPUT_CTRL_THR_MIN : Fld := ⟨FB_INPUT_CTRL, 7, 0⟩
/-- FB_INPUT_STATUS, 15_block_ports_and_signals.md, table after R458. -/
def FB_INPUT_STATUS : RegDef := ⟨.fb, 0xf44, 1, 0x0, .cold, false, [⟨31, 31, .ro, 0x0⟩, ⟨30, 30, .ro, 0x0⟩, ⟨29, 29, .ro, 0x0⟩, ⟨15, 8, .ro, 0x0⟩]⟩
def FB_INPUT_STATUS_THR_ACTIVE : Fld := ⟨FB_INPUT_STATUS, 31, 31⟩
def FB_INPUT_STATUS_THR_STUCK : Fld := ⟨FB_INPUT_STATUS, 30, 30⟩
def FB_INPUT_STATUS_STRAP_UNSTABLE : Fld := ⟨FB_INPUT_STATUS, 29, 29⟩
def FB_INPUT_STATUS_THR_STUCK_CNT : Fld := ⟨FB_INPUT_STATUS, 15, 8⟩
/-- FB_INPUT_CNT, 15_block_ports_and_signals.md, table after R458. -/
def FB_INPUT_CNT : RegDef := ⟨.fb, 0xf48, 1, 0x0, .warm, false, [⟨31, 16, .ro, 0x0⟩, ⟨15, 0, .ro, 0x0⟩]⟩
def FB_INPUT_CNT_THR_MERGED : Fld := ⟨FB_INPUT_CNT, 31, 16⟩
def FB_INPUT_CNT_THR_EDGES : Fld := ⟨FB_INPUT_CNT, 15, 0⟩
/-- FB_ID, 16_address_map.md, table after R466. -/
def FB_ID : RegDef := ⟨.fb, 0x0, 1, 0x0, .cold, false, [⟨31, 16, .ro, 0xc471⟩, ⟨15, 8, .ro, 0x1⟩, ⟨0, 0, .ro, 0x0⟩]⟩
def FB_ID_PART : Fld := ⟨FB_ID, 31, 16⟩
def FB_ID_REVISION : Fld := ⟨FB_ID, 15, 8⟩
def FB_ID_GRADE : Fld := ⟨FB_ID, 0, 0⟩
/-- NI_SCHED_TX_LO, 14_observation_and_debug.md, R418. -/
def NI_SCHED_TX_LO : RegDef := ⟨.ni, 0x100, 1, 0x0, .island, false, [⟨31, 0, .ro, 0x0⟩]⟩
def NI_SCHED_TX_LO_CNT : Fld := ⟨NI_SCHED_TX_LO, 31, 0⟩
/-- NI_SCHED_TX_HI, 14_observation_and_debug.md, R418. -/
def NI_SCHED_TX_HI : RegDef := ⟨.ni, 0x104, 1, 0x0, .island, false, [⟨31, 0, .ro, 0x0⟩]⟩
def NI_SCHED_TX_HI_CNT : Fld := ⟨NI_SCHED_TX_HI, 31, 0⟩
/-- NI_SCHED_RX_LO, 14_observation_and_debug.md, R418. -/
def NI_SCHED_RX_LO : RegDef := ⟨.ni, 0x108, 1, 0x0, .island, false, [⟨31, 0, .ro, 0x0⟩]⟩
def NI_SCHED_RX_LO_CNT : Fld := ⟨NI_SCHED_RX_LO, 31, 0⟩
/-- NI_SCHED_RX_HI, 14_observation_and_debug.md, R418. -/
def NI_SCHED_RX_HI : RegDef := ⟨.ni, 0x10c, 1, 0x0, .island, false, [⟨31, 0, .ro, 0x0⟩]⟩
def NI_SCHED_RX_HI_CNT : Fld := ⟨NI_SCHED_RX_HI, 31, 0⟩
/-- NI_OPEN_TX_LO, 14_observation_and_debug.md, R418. -/
def NI_OPEN_TX_LO : RegDef := ⟨.ni, 0x110, 1, 0x0, .island, false, [⟨31, 0, .ro, 0x0⟩]⟩
def NI_OPEN_TX_LO_CNT : Fld := ⟨NI_OPEN_TX_LO, 31, 0⟩
/-- NI_OPEN_TX_HI, 14_observation_and_debug.md, R418. -/
def NI_OPEN_TX_HI : RegDef := ⟨.ni, 0x114, 1, 0x0, .island, false, [⟨31, 0, .ro, 0x0⟩]⟩
def NI_OPEN_TX_HI_CNT : Fld := ⟨NI_OPEN_TX_HI, 31, 0⟩
/-- NI_OPEN_RX_LO, 14_observation_and_debug.md, R418. -/
def NI_OPEN_RX_LO : RegDef := ⟨.ni, 0x118, 1, 0x0, .island, false, [⟨31, 0, .ro, 0x0⟩]⟩
def NI_OPEN_RX_LO_CNT : Fld := ⟨NI_OPEN_RX_LO, 31, 0⟩
/-- NI_OPEN_RX_HI, 14_observation_and_debug.md, R418. -/
def NI_OPEN_RX_HI : RegDef := ⟨.ni, 0x11c, 1, 0x0, .island, false, [⟨31, 0, .ro, 0x0⟩]⟩
def NI_OPEN_RX_HI_CNT : Fld := ⟨NI_OPEN_RX_HI, 31, 0⟩
/-- NI_STALL_BEATS, 14_observation_and_debug.md, R418. -/
def NI_STALL_BEATS : RegDef := ⟨.ni, 0x120, 1, 0x0, .island, false, [⟨31, 0, .ro, 0x0⟩]⟩
def NI_STALL_BEATS_CNT : Fld := ⟨NI_STALL_BEATS, 31, 0⟩
/-- NI_CREDIT_WAITS, 14_observation_and_debug.md, R418. -/
def NI_CREDIT_WAITS : RegDef := ⟨.ni, 0x124, 1, 0x0, .island, false, [⟨31, 0, .ro, 0x0⟩]⟩
def NI_CREDIT_WAITS_CNT : Fld := ⟨NI_CREDIT_WAITS, 31, 0⟩
/-- NI_CREDIT_WAIT_US, 14_observation_and_debug.md, R418. -/
def NI_CREDIT_WAIT_US : RegDef := ⟨.ni, 0x128, 1, 0x0, .island, false, [⟨31, 0, .ro, 0x0⟩]⟩
def NI_CREDIT_WAIT_US_CNT : Fld := ⟨NI_CREDIT_WAIT_US, 31, 0⟩
/-- NI_FLOW_BYTES_LO, 14_observation_and_debug.md, R418. -/
def NI_FLOW_BYTES_LO : RegDef := ⟨.ni, 0x700, 32, 0x8, .island, false, [⟨31, 0, .ro, 0x0⟩]⟩
def NI_FLOW_BYTES_LO_CNT : Fld := ⟨NI_FLOW_BYTES_LO, 31, 0⟩
/-- NI_FLOW_BYTES_HI, 14_observation_and_debug.md, R418. -/
def NI_FLOW_BYTES_HI : RegDef := ⟨.ni, 0x704, 32, 0x8, .island, false, [⟨31, 0, .ro, 0x0⟩]⟩
def NI_FLOW_BYTES_HI_CNT : Fld := ⟨NI_FLOW_BYTES_HI, 31, 0⟩
/-- OL_FEC_CE_LO, 14_observation_and_debug.md, R418. -/
def OL_FEC_CE_LO : RegDef := ⟨.ol, 0x40, 1, 0x0, .link, false, [⟨31, 0, .ro, 0x0⟩]⟩
def OL_FEC_CE_LO_CNT : Fld := ⟨OL_FEC_CE_LO, 31, 0⟩
/-- OL_FEC_CE_HI, 14_observation_and_debug.md, R418. -/
def OL_FEC_CE_HI : RegDef := ⟨.ol, 0x44, 1, 0x0, .link, false, [⟨31, 0, .ro, 0x0⟩]⟩
def OL_FEC_CE_HI_CNT : Fld := ⟨OL_FEC_CE_HI, 31, 0⟩
/-- OL_FEC_UE, 14_observation_and_debug.md, R418. -/
def OL_FEC_UE : RegDef := ⟨.ol, 0x48, 1, 0x0, .link, false, [⟨31, 0, .ro, 0x0⟩]⟩
def OL_FEC_UE_CNT : Fld := ⟨OL_FEC_UE, 31, 0⟩
/-- OL_RETRY, 14_observation_and_debug.md, R418. -/
def OL_RETRY : RegDef := ⟨.ol, 0x4c, 1, 0x0, .link, false, [⟨31, 0, .ro, 0x0⟩]⟩
def OL_RETRY_CNT : Fld := ⟨OL_RETRY, 31, 0⟩
/-- OL_WIDTH_CHG, 14_observation_and_debug.md, R418. -/
def OL_WIDTH_CHG : RegDef := ⟨.ol, 0x50, 1, 0x0, .link, false, [⟨31, 0, .ro, 0x0⟩]⟩
def OL_WIDTH_CHG_CNT : Fld := ⟨OL_WIDTH_CHG, 31, 0⟩
/-- OL_LANE_ERR, 14_observation_and_debug.md, R418. -/
def OL_LANE_ERR : RegDef := ⟨.ol, 0x54, 1, 0x0, .link, false, [⟨31, 0, .ro, 0x0⟩]⟩
def OL_LANE_ERR_CNT : Fld := ⟨OL_LANE_ERR, 31, 0⟩
/-- OL_TX_BYTES_LO, 14_observation_and_debug.md, R418. -/
def OL_TX_BYTES_LO : RegDef := ⟨.ol, 0x58, 1, 0x0, .link, false, [⟨31, 0, .ro, 0x0⟩]⟩
def OL_TX_BYTES_LO_CNT : Fld := ⟨OL_TX_BYTES_LO, 31, 0⟩
/-- OL_TX_BYTES_HI, 14_observation_and_debug.md, R418. -/
def OL_TX_BYTES_HI : RegDef := ⟨.ol, 0x5c, 1, 0x0, .link, false, [⟨31, 0, .ro, 0x0⟩]⟩
def OL_TX_BYTES_HI_CNT : Fld := ⟨OL_TX_BYTES_HI, 31, 0⟩
/-- OL_RX_BYTES_LO, 14_observation_and_debug.md, R418. -/
def OL_RX_BYTES_LO : RegDef := ⟨.ol, 0x60, 1, 0x0, .link, false, [⟨31, 0, .ro, 0x0⟩]⟩
def OL_RX_BYTES_LO_CNT : Fld := ⟨OL_RX_BYTES_LO, 31, 0⟩
/-- OL_RX_BYTES_HI, 14_observation_and_debug.md, R418. -/
def OL_RX_BYTES_HI : RegDef := ⟨.ol, 0x64, 1, 0x0, .link, false, [⟨31, 0, .ro, 0x0⟩]⟩
def OL_RX_BYTES_HI_CNT : Fld := ⟨OL_RX_BYTES_HI, 31, 0⟩
/-- MP_RD_BYTES_LO, 14_observation_and_debug.md, R418. -/
def MP_RD_BYTES_LO : RegDef := ⟨.mp, 0x40, 1, 0x0, .warm, false, [⟨31, 0, .ro, 0x0⟩]⟩
def MP_RD_BYTES_LO_CNT : Fld := ⟨MP_RD_BYTES_LO, 31, 0⟩
/-- MP_RD_BYTES_HI, 14_observation_and_debug.md, R418. -/
def MP_RD_BYTES_HI : RegDef := ⟨.mp, 0x44, 1, 0x0, .warm, false, [⟨31, 0, .ro, 0x0⟩]⟩
def MP_RD_BYTES_HI_CNT : Fld := ⟨MP_RD_BYTES_HI, 31, 0⟩
/-- MP_WR_BYTES_LO, 14_observation_and_debug.md, R418. -/
def MP_WR_BYTES_LO : RegDef := ⟨.mp, 0x48, 1, 0x0, .warm, false, [⟨31, 0, .ro, 0x0⟩]⟩
def MP_WR_BYTES_LO_CNT : Fld := ⟨MP_WR_BYTES_LO, 31, 0⟩
/-- MP_WR_BYTES_HI, 14_observation_and_debug.md, R418. -/
def MP_WR_BYTES_HI : RegDef := ⟨.mp, 0x4c, 1, 0x0, .warm, false, [⟨31, 0, .ro, 0x0⟩]⟩
def MP_WR_BYTES_HI_CNT : Fld := ⟨MP_WR_BYTES_HI, 31, 0⟩
/-- MP_PREEMPT, 14_observation_and_debug.md, R418. -/
def MP_PREEMPT : RegDef := ⟨.mp, 0x50, 1, 0x0, .warm, false, [⟨31, 0, .ro, 0x0⟩]⟩
def MP_PREEMPT_CNT : Fld := ⟨MP_PREEMPT, 31, 0⟩
/-- MP_DBG, 14_observation_and_debug.md, R418. -/
def MP_DBG : RegDef := ⟨.mp, 0x54, 1, 0x0, .warm, false, [⟨31, 0, .ro, 0x0⟩]⟩
def MP_DBG_CNT : Fld := ⟨MP_DBG, 31, 0⟩
/-- HP_RX_BYTES_LO, 14_observation_and_debug.md, R418. -/
def HP_RX_BYTES_LO : RegDef := ⟨.hp, 0x40, 1, 0x0, .warm, false, [⟨31, 0, .ro, 0x0⟩]⟩
def HP_RX_BYTES_LO_CNT : Fld := ⟨HP_RX_BYTES_LO, 31, 0⟩
/-- HP_RX_BYTES_HI, 14_observation_and_debug.md, R418. -/
def HP_RX_BYTES_HI : RegDef := ⟨.hp, 0x44, 1, 0x0, .warm, false, [⟨31, 0, .ro, 0x0⟩]⟩
def HP_RX_BYTES_HI_CNT : Fld := ⟨HP_RX_BYTES_HI, 31, 0⟩
/-- HP_TX_BYTES_LO, 14_observation_and_debug.md, R418. -/
def HP_TX_BYTES_LO : RegDef := ⟨.hp, 0x48, 1, 0x0, .warm, false, [⟨31, 0, .ro, 0x0⟩]⟩
def HP_TX_BYTES_LO_CNT : Fld := ⟨HP_TX_BYTES_LO, 31, 0⟩
/-- HP_TX_BYTES_HI, 14_observation_and_debug.md, R418. -/
def HP_TX_BYTES_HI : RegDef := ⟨.hp, 0x4c, 1, 0x0, .warm, false, [⟨31, 0, .ro, 0x0⟩]⟩
def HP_TX_BYTES_HI_CNT : Fld := ⟨HP_TX_BYTES_HI, 31, 0⟩
/-- HP_BELLS, 14_observation_and_debug.md, R418. -/
def HP_BELLS : RegDef := ⟨.hp, 0x50, 1, 0x0, .warm, false, [⟨31, 0, .ro, 0x0⟩]⟩
def HP_BELLS_CNT : Fld := ⟨HP_BELLS, 31, 0⟩
/-- HP_BELL_MERGED, 14_observation_and_debug.md, R418. -/
def HP_BELL_MERGED : RegDef := ⟨.hp, 0x54, 1, 0x0, .warm, false, [⟨31, 0, .ro, 0x0⟩]⟩
def HP_BELL_MERGED_CNT : Fld := ⟨HP_BELL_MERGED, 31, 0⟩
/-- TP_RECORDS_LO, 14_observation_and_debug.md, R418. -/
def TP_RECORDS_LO : RegDef := ⟨.tp, 0x18, 1, 0x0, .warm, false, [⟨31, 0, .ro, 0x0⟩]⟩
def TP_RECORDS_LO_CNT : Fld := ⟨TP_RECORDS_LO, 31, 0⟩
/-- TP_RECORDS_HI, 14_observation_and_debug.md, R418. -/
def TP_RECORDS_HI : RegDef := ⟨.tp, 0x1c, 1, 0x0, .warm, false, [⟨31, 0, .ro, 0x0⟩]⟩
def TP_RECORDS_HI_CNT : Fld := ⟨TP_RECORDS_HI, 31, 0⟩
/-- TP_DROPPED, 14_observation_and_debug.md, R418. -/
def TP_DROPPED : RegDef := ⟨.tp, 0x20, 1, 0x0, .warm, false, [⟨31, 0, .ro, 0x0⟩]⟩
def TP_DROPPED_CNT : Fld := ⟨TP_DROPPED, 31, 0⟩
/-- TP_TRIG_TAG, 14_observation_and_debug.md, R424. -/
def TP_TRIG_TAG : RegDef := ⟨.tp, 0xc, 1, 0x0, .warm, false, [⟨31, 0, .rw, 0x0⟩]⟩
def TP_TRIG_TAG_TAG : Fld := ⟨TP_TRIG_TAG, 31, 0⟩
/-- FB_SNAP_BEAT_LO, 14_observation_and_debug.md, R419. -/
def FB_SNAP_BEAT_LO : RegDef := ⟨.fb, 0xf04, 1, 0x0, .warm, false, [⟨31, 0, .ro, 0x0⟩]⟩
def FB_SNAP_BEAT_LO_T : Fld := ⟨FB_SNAP_BEAT_LO, 31, 0⟩
/-- FB_SNAP_BEAT_HI, 14_observation_and_debug.md, R419. -/
def FB_SNAP_BEAT_HI : RegDef := ⟨.fb, 0xf08, 1, 0x0, .warm, false, [⟨27, 0, .ro, 0x0⟩]⟩
def FB_SNAP_BEAT_HI_T : Fld := ⟨FB_SNAP_BEAT_HI, 27, 0⟩
/-- FB_PLOT_LO, 14_observation_and_debug.md, R428. -/
def FB_PLOT_LO : RegDef := ⟨.fb, 0xf14, 1, 0x0, .warm, false, [⟨31, 12, .rw, 0x0⟩]⟩
def FB_PLOT_LO_ADDR : Fld := ⟨FB_PLOT_LO, 31, 12⟩
/-- FB_PLOT_HI, 14_observation_and_debug.md, R428. -/
def FB_PLOT_HI : RegDef := ⟨.fb, 0xf18, 1, 0x0, .warm, false, [⟨31, 0, .rw, 0x0⟩]⟩
def FB_PLOT_HI_ADDR : Fld := ⟨FB_PLOT_HI, 31, 0⟩
/-- FB_ANCHOR_BEAT_LO, 14_observation_and_debug.md, R432. -/
def FB_ANCHOR_BEAT_LO : RegDef := ⟨.fb, 0xf28, 1, 0x0, .warm, false, [⟨31, 0, .ro, 0x0⟩]⟩
def FB_ANCHOR_BEAT_LO_B : Fld := ⟨FB_ANCHOR_BEAT_LO, 31, 0⟩
/-- FB_ANCHOR_BEAT_HI, 14_observation_and_debug.md, R432. -/
def FB_ANCHOR_BEAT_HI : RegDef := ⟨.fb, 0xf2c, 1, 0x0, .warm, false, [⟨27, 0, .ro, 0x0⟩]⟩
def FB_ANCHOR_BEAT_HI_B : Fld := ⟨FB_ANCHOR_BEAT_HI, 27, 0⟩
/-- FB_CONSORT_MIS_SEG, 08_determinism_and_replay.md, R266. -/
def FB_CONSORT_MIS_SEG : RegDef := ⟨.fb, 0x510, 1, 0x0, .warm, false, [⟨31, 16, .ro, 0x0⟩]⟩
def FB_CONSORT_MIS_SEG_SEG : Fld := ⟨FB_CONSORT_MIS_SEG, 31, 16⟩
/-- NI_WAIT_INFO, 14_observation_and_debug.md, R427. -/
def NI_WAIT_INFO : RegDef := ⟨.ni, 0x1400, 16, 0x10, .island, false, [⟨31, 28, .ro, 0x0⟩, ⟨27, 24, .ro, 0x0⟩, ⟨23, 12, .ro, 0x0⟩]⟩
def NI_WAIT_INFO_KIND : Fld := ⟨NI_WAIT_INFO, 31, 28⟩
def NI_WAIT_INFO_AWAITED_KIND : Fld := ⟨NI_WAIT_INFO, 27, 24⟩
def NI_WAIT_INFO_AWAITED : Fld := ⟨NI_WAIT_INFO, 23, 12⟩
/-- NI_WAIT_OBJ, 14_observation_and_debug.md, R427. -/
def NI_WAIT_OBJ : RegDef := ⟨.ni, 0x1404, 16, 0x10, .island, false, [⟨31, 16, .ro, 0x0⟩, ⟨15, 0, .ro, 0x0⟩]⟩
def NI_WAIT_OBJ_OBJECT : Fld := ⟨NI_WAIT_OBJ, 31, 16⟩
def NI_WAIT_OBJ_LAYER_ID : Fld := ⟨NI_WAIT_OBJ, 15, 0⟩
/-- NI_WAIT_TAG, 14_observation_and_debug.md, R427. -/
def NI_WAIT_TAG : RegDef := ⟨.ni, 0x1408, 16, 0x10, .island, false, [⟨31, 0, .ro, 0x0⟩]⟩
def NI_WAIT_TAG_TAG : Fld := ⟨NI_WAIT_TAG, 31, 0⟩
/-- NI_WAIT_SINCE, 14_observation_and_debug.md, R427. -/
def NI_WAIT_SINCE : RegDef := ⟨.ni, 0x140c, 16, 0x10, .island, false, [⟨31, 0, .ro, 0x0⟩]⟩
def NI_WAIT_SINCE_SINCE : Fld := ⟨NI_WAIT_SINCE, 31, 0⟩
/-- TN_DESC_LO, 12_tenancy_and_isolation.md, R377. -/
def TN_DESC_LO : RegDef := ⟨.tn, 0x40, 1, 0x0, .warm, true, [⟨31, 0, .ro, 0x0⟩]⟩
def TN_DESC_LO_CNT : Fld := ⟨TN_DESC_LO, 31, 0⟩
/-- TN_DESC_HI, 12_tenancy_and_isolation.md, R377. -/
def TN_DESC_HI : RegDef := ⟨.tn, 0x44, 1, 0x0, .warm, true, [⟨31, 0, .ro, 0x0⟩]⟩
def TN_DESC_HI_CNT : Fld := ⟨TN_DESC_HI, 31, 0⟩
/-- TN_FAIL, 12_tenancy_and_isolation.md, R377. -/
def TN_FAIL : RegDef := ⟨.tn, 0x48, 1, 0x0, .warm, true, [⟨31, 0, .ro, 0x0⟩]⟩
def TN_FAIL_CNT : Fld := ⟨TN_FAIL, 31, 0⟩
/-- TN_BYTES_LO, 12_tenancy_and_isolation.md, R377. -/
def TN_BYTES_LO : RegDef := ⟨.tn, 0x50, 1, 0x0, .warm, true, [⟨31, 0, .ro, 0x0⟩]⟩
def TN_BYTES_LO_CNT : Fld := ⟨TN_BYTES_LO, 31, 0⟩
/-- TN_BYTES_HI, 12_tenancy_and_isolation.md, R377. -/
def TN_BYTES_HI : RegDef := ⟨.tn, 0x54, 1, 0x0, .warm, true, [⟨31, 0, .ro, 0x0⟩]⟩
def TN_BYTES_HI_CNT : Fld := ⟨TN_BYTES_HI, 31, 0⟩
/-- TN_BEATS_LO, 12_tenancy_and_isolation.md, R377. -/
def TN_BEATS_LO : RegDef := ⟨.tn, 0x58, 1, 0x0, .warm, true, [⟨31, 0, .ro, 0x0⟩]⟩
def TN_BEATS_LO_CNT : Fld := ⟨TN_BEATS_LO, 31, 0⟩
/-- TN_BEATS_HI, 12_tenancy_and_isolation.md, R377. -/
def TN_BEATS_HI : RegDef := ⟨.tn, 0x5c, 1, 0x0, .warm, true, [⟨31, 0, .ro, 0x0⟩]⟩
def TN_BEATS_HI_CNT : Fld := ⟨TN_BEATS_HI, 31, 0⟩
/-- TN_CREDIT_WAIT, 12_tenancy_and_isolation.md, R377. -/
def TN_CREDIT_WAIT : RegDef := ⟨.tn, 0x60, 1, 0x0, .warm, true, [⟨31, 0, .ro, 0x0⟩]⟩
def TN_CREDIT_WAIT_CNT : Fld := ⟨TN_CREDIT_WAIT, 31, 0⟩
/-! Logbooks of NIs, memory ports, outer links and host ports (14_observation_and_debug.md, R425, R426). -/
/-- xx_LOGk_TIME_LO, 14_observation_and_debug.md, R425. -/
def LOG_TIME_LO (k : UnitKind) : RegDef := ⟨k.blk, k.logBase + 0x0, 64, 0x10, .sticky, false, [⟨31, 0, .ro, 0⟩]⟩
/-- xx_LOGk_TIME_HI, 14_observation_and_debug.md, R425. -/
def LOG_TIME_HI (k : UnitKind) : RegDef := ⟨k.blk, k.logBase + 0x4, 64, 0x10, .sticky, false, [⟨31, 0, .ro, 0⟩]⟩
/-- xx_LOGk_INFO, 14_observation_and_debug.md, R425. -/
def LOG_INFO (k : UnitKind) : RegDef := ⟨k.blk, k.logBase + 0x8, 64, 0x10, .sticky, false, [⟨31, 24, .ro, 0⟩, ⟨23, 16, .ro, 0⟩, ⟨15, 12, .ro, 0⟩, ⟨11, 0, .ro, 0⟩]⟩
/-- xx_LOGk_DETAIL, 14_observation_and_debug.md, R425. -/
def LOG_DETAIL (k : UnitKind) : RegDef := ⟨k.blk, k.logBase + 0xc, 64, 0x10, .sticky, false, [⟨31, 0, .ro, 0⟩]⟩
/-- xx_LOG_PTR, 14_observation_and_debug.md, R426. -/
def LOG_PTR (k : UnitKind) : RegDef := ⟨k.blk, k.logPtr, 1, 0, .sticky, false, [⟨31, 31, .rw, 0⟩, ⟨30, 8, .ro, 0⟩, ⟨5, 0, .ro, 0⟩]⟩
def LOG_PTR_FREEZE (k : UnitKind) : Fld := ⟨LOG_PTR k, 31, 31⟩
def LOG_PTR_TOTAL (k : UnitKind) : Fld := ⟨LOG_PTR k, 30, 8⟩
def LOG_PTR_NEXT (k : UnitKind) : Fld := ⟨LOG_PTR k, 5, 0⟩

/-- Registers of block CH, part 0. -/
def regs_ch_0 : List RegDef :=
  [CH_CTRL, CH_STATUS, CH_TIME_LO, CH_TIME_HI, CH_HELD_LO, CH_HELD_HI, CH_LOAD_LO, CH_LOAD_HI, CH_HOLD_REQ0, CH_HOLD_REQ1]

/-- Registers of block RG, part 0. -/
def regs_rg_0 : List RegDef :=
  [RG_ESC_CTRL, RG_ESC_STATUS, RG_DIP_THR, RG_STRETCH_CTRL, RG_STRETCH_CNT, RG_DIP_EVENTS, RG_STALL_CNT, RG_BUS_STATUS, RG_FENCE_SEL, RG_FENCE_STATE, RG_SELFTEST_CFG, RG_SENSOR, RG_POWER]

/-- Registers of block NI, part 0. -/
def regs_ni_0 : List RegDef :=
  [NI_CHART_CTRL, NI_CHART_STATUS, NI_CHART_BEAT, NI_CHART_ID, NI_CHART_PATCH, NI_PATCH_FROM, NI_FLOW_CFG, NI_FLOW_RATE, NI_FLOW_OVH, NI_FLOW_STATUS, NI_SHAPER_CFG, NI_OPEN_CFG, NI_OPEN_STATUS, NI_CREDIT_CFG, NI_CREDIT_STATUS, NI_WIN_SEL, NI_WIN_STATE, NI_WIN_CREDIT, NI_AP_CFG, NI_AP_STATUS, NI_AP_BUSY_CNT, NI_RED_CFG, NI_RED_STATUS, NI_TQn_CFG]

/-- Registers of block NI, part 1. -/
def regs_ni_1 : List RegDef :=
  [NI_TQn_BASE, NI_TQn_PTR, NI_TQn_STATE, NI_CMD_STATUS, NI_MAP_DIGEST, NI_LMAP, NI_REACH, NI_HDL_CFG, NI_HDL_RANGE, NI_HDL_HOME, NI_PAIR_BASE, NI_PAIR_BOUND, NI_TN_STATE, NI_FWLOAD_CFG, NI_FWLOAD_STATUS, NI_FW_MAP, NI_TRACE_CFG, NI_TRACE_STATUS, NI_WAIT_STATUS, NI_SCHED_TX_LO, NI_SCHED_TX_HI, NI_SCHED_RX_LO, NI_SCHED_RX_HI, NI_OPEN_TX_LO]

/-- Registers of block NI, part 2. -/
def regs_ni_2 : List RegDef :=
  [NI_OPEN_TX_HI, NI_OPEN_RX_LO, NI_OPEN_RX_HI, NI_STALL_BEATS, NI_CREDIT_WAITS, NI_CREDIT_WAIT_US, NI_FLOW_BYTES_LO, NI_FLOW_BYTES_HI, NI_WAIT_INFO, NI_WAIT_OBJ, NI_WAIT_TAG, NI_WAIT_SINCE]

/-- Registers of block OL, part 0. -/
def regs_ol_0 : List RegDef :=
  [OL_LAND_CFG, OL_LAND_STATUS, OL_LAND_LATE_CNT, OL_CTRL, OL_STATUS, OL_IDENT_RX, OL_LOCK, OL_TX_WEIGHT, OL_XLAT, OL_XLAT_DISC, OL_REDIRECT_CNT, OL_FEC_CE_LO, OL_FEC_CE_HI, OL_FEC_UE, OL_RETRY, OL_WIDTH_CHG, OL_LANE_ERR, OL_TX_BYTES_LO, OL_TX_BYTES_HI, OL_RX_BYTES_LO, OL_RX_BYTES_HI]

/-- Registers of block RT, part 0. -/
def regs_rt_0 : List RegDef :=
  [RT_CFG, RT_CTRL, RT_ROUTE, RT_GROUP, RT_RED_CFG, RT_RED_STATUS]

/-- Registers of block FB, part 0. -/
def regs_fb_0 : List RegDef :=
  [FB_GRP_DIR_LO, FB_GRP_DIR_HI, FB_RED_DIR_LO, FB_RED_DIR_HI, FB_BELL, FB_RING_BASE_LO, FB_RING_BASE_HI, FB_RING_DBR_LO, FB_RING_DBR_HI, FB_RING_CQ_LO, FB_RING_CQ_HI, FB_RING_CFG, FB_RING_HEAD, FB_SIG_LO, FB_SIG_HI, FB_MODE, FB_CONSORT_CFG, FB_CONSORT_STATUS, FB_CONSORT_MIS_CHART, FB_CONSORT_MIS_LOC, FB_REPLAY_CFG, FB_REPLAY_BASE_LO, FB_REPLAY_BASE_HI, FB_REPLAY_T0_LO]

/-- Registers of block FB, part 1. -/
def regs_fb_1 : List RegDef :=
  [FB_REPLAY_T0_HI, FB_REPLAY_PTR, FB_REPLAY_STATUS, FB_REPLAY_DIV, FB_MAP_DIGEST, FB_MAP_GEN, FB_REPAIR_CFG, FB_REPAIR_STATUS, FB_TICK_CTRL, FB_TICK_STATUS, FB_STRAP, FB_PLAN_LO, FB_PLAN_HI, FB_PLAN_CTRL, FB_PLAN_STATUS, FB_BUNDLE_STATE, FB_SYNC_CFG, FB_SYNC_STATUS, FB_SYNC_STEPS, FB_HBM_ILV, FB_HBM_STATUS, FB_DIST_LO, FB_DIST_HI, FB_NEAR_BASE]

/-- Registers of block FB, part 2. -/
def regs_fb_2 : List RegDef :=
  [FB_NEAR_CFG, FB_GRANT_BASE, FB_GRANT_CFG, FB_GRANT_STATUS, FB_SLICE_CMD, FB_SLICE_STATUS, FB_CNT_SNAP, FB_PLOT_CTRL, FB_PLOT_STATUS, FB_ANCHOR_CTRL, FB_ANCHOR_STATUS, FB_SCAN_CFG, FB_SCAN_STATUS, FB_INPUT_CTRL, FB_INPUT_STATUS, FB_INPUT_CNT, FB_ID, FB_SNAP_BEAT_LO, FB_SNAP_BEAT_HI, FB_PLOT_LO, FB_PLOT_HI, FB_ANCHOR_BEAT_LO, FB_ANCHOR_BEAT_HI, FB_CONSORT_MIS_SEG]

/-- Registers of block TN, part 0. -/
def regs_tn_0 : List RegDef :=
  [TN_BELL, TN_INFO, TN_RING_SEL, TN_RING_HEAD, TN_RING_CQ, TN_DESC_LO, TN_DESC_HI, TN_FAIL, TN_BYTES_LO, TN_BYTES_HI, TN_BEATS_LO, TN_BEATS_HI, TN_CREDIT_WAIT]

/-- Registers of block HP, part 0. -/
def regs_hp_0 : List RegDef :=
  [HP_LMAP, HP_RX_BYTES_LO, HP_RX_BYTES_HI, HP_TX_BYTES_LO, HP_TX_BYTES_HI, HP_BELLS, HP_BELL_MERGED]

/-- Registers of block MP, part 0. -/
def regs_mp_0 : List RegDef :=
  [MP_ARB_PRIO0, MP_ARB_PRIO1, MP_ARB_COMMIT, MP_STATUS, MP_REFRESH_CFG, MP_REFRESH_STATUS, MP_BOOK_CFG, MP_BOOK_CHART, MP_BOOK_SEG, MP_BOOK_ADDR_LO, MP_BOOK_ADDR_HI, MP_RD_BYTES_LO, MP_RD_BYTES_HI, MP_WR_BYTES_LO, MP_WR_BYTES_HI, MP_PREEMPT, MP_DBG]

/-- Registers of block BN, part 0. -/
def regs_bn_0 : List RegDef :=
  [BN_LOCK, BN_MBOX_DATA, BN_MBOX_CMD, BN_MBOX_STATUS, BN_PM_VI, BN_PM_PIN, BN_HBM_TEMP, BN_GOV_CFG, BN_GOV_LIMIT, BN_GOV_STATUS, BN_LOG_STATUS, BN_STATE, BN_FW_VERSION_LO, BN_FW_VERSION_HI, BN_PWR_EN0, BN_PWR_EN1]

/-- Registers of block TP, part 0. -/
def regs_tp_0 : List RegDef :=
  [TP_CFG, TP_STATUS, TP_TRIG_CFG, TP_RECORDS_LO, TP_RECORDS_HI, TP_DROPPED, TP_TRIG_TAG]

/-- The error set of a unit kind (R274). -/
def errRegs (k : UnitKind) : List RegDef :=
  [xx_ERR_STATUS k, xx_ERR_MASK k, xx_ERR_CTRL k, xx_ERR_INJECT k, xx_ERR_FIRST k, xx_ERR_MSG_LOST k, xx_ERR_HIST_PTR k, xx_ERR_CLASS k, xx_ERR_COUNT k, xx_ERR_HIST_TIME_LO k, xx_ERR_HIST_TIME_HI k, xx_ERR_HIST_INFO k]

/-- The logbook of a unit kind (R425, R426). -/
def logRegs (k : UnitKind) : List RegDef :=
  [LOG_TIME_LO k, LOG_TIME_HI k, LOG_INFO k, LOG_DETAIL k, LOG_PTR k]

/-- Every register of a block. -/
def Blk.regs : Blk → List RegDef
  | .fb => regs_fb_0 ++ regs_fb_1 ++ regs_fb_2
  | .ch => regs_ch_0
  | .bn => regs_bn_0 ++ errRegs .bn
  | .tp => regs_tp_0 ++ errRegs .tp
  | .hp => regs_hp_0 ++ errRegs .hp ++ logRegs .hp
  | .mp => regs_mp_0 ++ errRegs .mp ++ logRegs .mp
  | .ol => regs_ol_0 ++ errRegs .ol ++ logRegs .ol
  | .rg => regs_rg_0 ++ errRegs .rg
  | .tn => regs_tn_0
  | .rt => regs_rt_0 ++ errRegs .red
  | .ni => regs_ni_0 ++ regs_ni_1 ++ regs_ni_2 ++ errRegs .ni ++ logRegs .ni

end Sys2Proof.Machine
end

