-- ==== Sys2Proof/Machine/State.lean ====
section
/-!
DEFINITION. The state of the block: plain data, one structure for each part of the block, and the state right after reset.
Registers of plain storage live in `State.regs` (RegTable.lean lists them); the status registers that only show other state
are computed when they are read (`readReg`, Machine/RegView.lean).
-/

namespace Sys2Proof.Machine

/-! ## Chronometer and regions -/

/-- The chronometer count C and the held marks H (R35, R36), 60 bits each. C is held once for the chronometer and its 36
repeaters, which count the same edges. -/
structure Chrono where
  c : Nat := 0
  h : Nat := 0
  deriving DecidableEq, Repr

/-- The rest of the chronometer: the anchor hold as last sampled (R46), the sync step to make at the next mark (R329), the
stop wire (R430), the level of TICK, whether its last kick came in time (R300), and the C that a domain may still hold because it has not
accepted the newest one (R55), and the C at which SYNC was last sent (R328) and last received, or awaited anew (R330). -/
structure ChrCtl where
  holdSample : Bool := false
  hold : Bool := false
  syncStep : Option Bool := none
  stopWire : Bool := false
  stopSeen : Nat := 0
  stopBeat : Nat := 0
  tick : Bool := false
  refGone : Bool := false
  kickOk : Bool := true
  prevC : Nat := 0
  syncSent : Nat := 0
  syncGot : Nat := 0
  deriving DecidableEq, Repr

/-- A region's escapement and controller (R40 to R52). `slot` is the next slot of local beat `L`; 16 means that the beat is
complete. -/
structure Region where
  L : Nat := 0
  s : Nat := 0
  slot : Nat := 16
  stalled : Bool := false
  absent : Bool := false
  holdReq : Bool := false
  loadPend : Bool := false
  held : Nat := 0
  demand : Nat := 0
  f3 : Bool := false
  frozen : Bool := false
  resync : Bool := true
  fenceMlink : Bool := false
  partialStop : Bool := false
  flits : Nat := 0
  reload : Bool := false
  sag : Nat := 0
  deriving DecidableEq, Repr

/-! ## Scheduled plane -/

/-- A decoded chart entry (R62). -/
structure Entry where
  beatStart : Nat
  repeatM1 : Nat
  period : Nat
  runM1 : Nat
  slotFirst : Nat
  slotLast : Nat
  slotStep : Nat
  inPort : Nat
  outMask : Nat
  action : Nat
  rctx : Nat
  stream : Nat
  cstep : Nat
  busDir : Nat
  busReach : Nat
  deriving DecidableEq, Repr

/-- A stream record of a segment image (R79). -/
structure StreamRec where
  handle : Nat
  dir : Nat
  waitReady : Bool
  cls : Nat
  offset : Nat
  signalEvery : Nat
  flits : Nat
  deriving DecidableEq, Repr

/-- A segment image as a bank holds it (R79, R80). -/
structure SegImg where
  chart : Nat
  seg : Nat
  last : Bool
  notify : Bool
  length : Nat
  reserve : Nat
  next : Nat
  digest : Nat
  streams : List StreamRec
  entries : List Entry
  landB : List (Nat × Nat)
  deriving DecidableEq, Repr

/-- A reduction context (R75, R169): who holds it (0 free, 1 a chart, 2 an open-plane reduction), whether it is full, its
accumulator (Machine/RedArith.lean says how it is written), the lead flit of a TOPK pair that waits for its tail (R181), the slot of
that lead and the number of its entry within the segment. -/
structure RCtx where
  owner : Nat := 0
  full : Bool := false
  acc : List Int := []
  lead : Option (List Int) := none
  leadSlot : Nat := 0
  leadEntry : Nat := 0
  deriving DecidableEq, Repr

/-- What a context is bound to (R171, R192): reduction id, operation, formats and K, and whether it is the tail of a TOPK
pair. -/
structure RBind where
  rid : Nat
  op : Nat
  inF : Nat
  outF : Nat
  k : Nat
  tail : Bool
  deriving DecidableEq, Repr

/-- A context slot of an open-plane reduction at a router (R189): its round, how many children have been combined, the
accumulator, the flags and phase of the partial, the packet of the result that waits for RED_ACK, and whether RED_BUSY holds it back. -/
structure RSlot where
  round : Nat
  got : Nat := 0
  acc : List Int := []
  sat : Bool := false
  err : Bool := false
  last : Bool := false
  phase : Nat := 0
  out : Option Pkt := none
  busy : Bool := false
  deriving DecidableEq, Repr

/-- An open-plane reduction at a router (R184 to R189): the root router of its group's tree, its children in combine order (4 for L, 0 to 3 for mesh ports, 16 + l
for level l of the rank tree), the merged exponent entries by round that its root keeps (R197), where its results go, its contexts and slots, and whether its route entry
reads ARRIVED, or it has rank 0: the root (R185, R186). -/
structure RRed where
  rid : Nat
  root : Nat
  gen : Nat
  kids : List Nat
  parent : Option Loc
  level : Nat
  bind : RBind
  wire : Bool
  toAll : Bool
  destTile : Nat
  group : Nat
  ten : Nat
  wide : Bool
  ctxs : List Nat
  slots : List RSlot
  air : SMap (List Int) := []
  fin : Bool := false
  top : Bool := false
  deriving DecidableEq, Repr

/-- A contribution staged at a router (R189): its child and the packet. -/
structure RStaged where
  kid : Nat
  pkt : Pkt
  deriving DecidableEq, Repr

/-- A flit handed to the NI and not yet written to scratchpad (R61): its stream, scratchpad offset, data and segment, and whether
its stream raises its signal with it (R74). -/
structure EjectE where
  stream : Nat
  ofs : Nat
  data : Nat
  seg : Nat
  signal : Bool
  deriving DecidableEq, Repr

/-- A packet waiting in a router's buffers (R95): input port (0–3 mesh, 4 L, 5 Binnacle, 6 the router's own combining slots), chosen output
(0–3 mesh or off-die, 4 L, 5 Binnacle, 6 a combining slot), the local beats in which no open run of its output could hold it, whether its
output is aged by it (R97), the route-table entry as it stood when the header arrived (R109), and the channel of the input in which it
waits: that in which it came. -/
structure Held where
  pkt : Pkt
  inPort : Nat
  out : Nat
  waited : Nat
  aged : Bool
  entry : Nat
  chan : Nat
  deriving DecidableEq, Repr

/-- A combining slot (R152): the packet's source and transaction, its opcode class (true for CREDIT_REQ), the packet number,
the input it came from, the answers expected and received, the counts of R154 or R156 so far, and the escape generation in which the packet
came (R111). -/
structure CombSlot where
  src : Loc
  txn : Nat
  credit : Bool
  pktNo : Nat
  group : Nat
  inPort : Nat
  expect : Nat
  got : Nat
  waitOn : List Nat
  counts : List Nat
  gen : Nat
  deriving DecidableEq, Repr

/-- A router and its NI's stream side (R61 to R112, R264): its chart banks, stream pointers and ready counts, contexts, open-plane buffers, combining slots
and the ports a fence has taken out of service. `start` is the local beat at which the current segment started; `fencedSeg` and
`lostSeg` ask for an abort at the next local beat (R285, R334), `stallSeen` says that this beat has stalled on a stream of the NI; `crc` and `crcFlits` are the consort sums of R264;
`shut` lists local beats whose gates were derived all ones (R67), and `prevDep` the departures to outer links in the last nine beats before
the current segment, latest first (R89); `ended` names the chart that the NI ran last, the last segment of it that ended and whether the
chart ended with it (R226, R227). -/
structure Router where
  cur : Option SegImg := none
  idle : Option SegImg := none
  bank : Nat := 0
  start : Nat := 0
  ptr : SMap Nat := []
  ready : SMap Nat := []
  readyNext : SMap Nat := []
  signals : SMap Nat := []
  ctx : SMap RCtx := []
  binds : SMap RBind := []
  strict : Bool := false
  sat : Bool := false
  reds : List RRed := []
  staged : List RStaged := []
  idHold : List Nat := []
  held : List Held := []
  rr : SMap Nat := []
  slots : List CombSlot := []
  oos : List Nat := []
  fencedSeg : Bool := false
  lostSeg : Bool := false
  stallSeen : Bool := false
  ejecting : List EjectE := []
  sound : SMap Nat := []
  sig : Nat := 0
  crc : Nat := 0xFFFFFFFFFFFFFFFF
  crcFlits : Nat := 0
  shut : List Nat := []
  prevDep : SMap (List Nat) := []
  ended : Option (Nat × Nat × Bool) := none
  deriving DecidableEq, Repr

/-- The chart an NI runs (R60, R80): launching NI, Lstart and the chart beat it stands for (R260), whether it is a system chart,
the save address of a pause, the offset of the next image to load, the ready counts a resume brings, the segment waiting for
contexts (R76), the local beat at which the next segment starts, the abort that waits for the next local beat, the pause
boundary, the segments whose SEG_DONE is still to be sent, the NI's own error status with whether SEG_ABORT has left, and
whether consort was armed at the launch (R263), the offset of the image of the segment that comes next, and whether that error status comes of a
fence (R295). -/
structure ChartRun where
  chart : Nat
  lstart : Nat
  cb : Nat
  launcher : Nat
  system : Bool
  ten : Nat
  saveAddr : Nat
  loading : Option Nat
  nextReady : SMap Nat
  waitSeg : Option SegImg
  nextStart : Nat
  abortPend : Option Nat
  pauseAt : Option Nat
  donePend : List (Nat × Nat)
  status : Nat
  sent : Bool
  armed : Bool
  nextOfs : Nat
  fence : Bool := false
  deriving DecidableEq, Repr

/-- A scheduled flit on its way (R61). `port` 0–3: input of the router at `slot`; 5: the row bus section, with `slot` the
row times 6 plus the region column, and `stream` the slot of the router that drove it; 8 + p: a result waiting to depart through output p (R67), to eject stream `stream` for L.
It is present at slot `v` of local beat `t`. -/
structure SFlit where
  slot : Nat
  port : Nat
  t : Nat
  v : Nat
  data : Nat
  ue : Bool
  crossing : Bool
  stream : Nat := 0
  deriving DecidableEq, Repr

/-- A segment of a launched chart (R83): its number, first local beat, LENGTH, LAST, NOTIFY and the timestamp taken when the
launching NI's region started it, with H and the map digest then (R233). -/
structure SegInfo where
  seg : Nat
  start : Nat
  length : Nat
  last : Bool
  notify : Bool
  ts : Nat
  h : Nat
  digest : List Nat
  deriving DecidableEq, Repr

/-- A chart launched by an NI (R60, R83, R254): its descriptor, slice group and members in order of logical tile, FB_MODE,
Lstart and the chart beat it stands for, the segment being reported, the segments known, what NIs have reported as
(segment, NI, status), the abort that decides its status with its segment, whether its completion is held for a repair and
the FB_MAP_GEN then (R295), the pause asked for: its descriptor, NEXT_SEG, CB and save address, and whether consort was armed at the launch (R263). -/
structure Launch where
  ni : Nat
  chart : Nat
  desc : Nat
  group : Nat
  ten : Nat
  mode : Nat
  members : List Nat
  lstart : Nat
  cb : Nat
  seg : Nat
  segs : List SegInfo
  done : List (Nat × Nat × Nat)
  abort : Option (Nat × Nat)
  holdGen : Option Nat
  pause : Option (Nat × Nat × Nat × Nat)
  saveBad : Option Nat
  armed : Bool
  deriving DecidableEq, Repr

/-! ## Open plane -/

/-- Where a packet is on its way to: the input `port` of the router at `slot` (4 is L, 5 the Binnacle attach, 0–3 the mesh
and off-die ports), or a unit. -/
inductive Place where
  | router (slot port : Nat)
  | unit (at_ : Loc)
  deriving DecidableEq, Repr

/-- A packet in flight. -/
structure Flight where
  place : Place
  pkt : Pkt
  deriving DecidableEq, Repr

/-- A flow context (R114 to R118): queued packets, bucket in sixteenths of a byte, tags, the head's charged length, the
eligible mark and the wheel position at which it is parked. -/
structure Flow where
  queue : List Pkt := []
  bucket : Nat := 0
  fLast : Nat := 0
  fHead : Nat := 0
  headLen : Nat := 0
  eligible : Bool := false
  parked : Option Nat := none
  deriving DecidableEq, Repr

/-- What an open transaction waits for (R121). -/
inductive TxUse where
  | read | credit | write | atomic | winOp | aperture | sigRead | hash | trace | record | descFetch | reg | headWr | cplWr | provWr
  deriving DecidableEq, Repr

/-- An open transaction of a source port (R102, R121). `src` is the key of the source port; `since` is the beat at which it was
opened, `noted` says that the wait table took it up (R427), and `lost` that a flushed queue held one of its packets (R54). -/
structure OTx where
  src : Nat
  txn : Nat
  use : TxUse
  desc : Nat
  xfer : Nat
  arg : Nat
  chip : Nat
  since : Nat
  noted : Bool
  lost : Bool
  deriving DecidableEq, Repr

/-! ## Remote memory -/

/-- A pending close of a window (R140, R141): drain or now, and who is answered (descriptor or remote issuer). -/
structure Close where
  drain : Bool
  desc : Option Nat
  issuer : Option Loc
  txn : Nat
  deriving DecidableEq, Repr

/-- A window (R128). -/
structure Window where
  state : Nat := 0
  epoch : Nat := 0
  pool : Nat := 0
  free : Nat := 0
  granted : Nat := 0
  used : Nat := 0
  notify : Nat := 0
  sinceSig : Nat := 0
  signals : Nat := 0
  opens : Nat := 0
  closes : List Close := []
  deriving DecidableEq, Repr

/-- A ledger entry (R134). -/
structure LedgerE where
  ni : Nat
  src : Loc
  txn : Nat
  handle : Nat
  epoch : Nat
  remaining : Nat
  deriving DecidableEq, Repr

/-- A waiter (R135). -/
structure Waiter where
  ni : Nat
  handle : Nat
  src : Loc
  txn : Nat
  credits : Nat
  ten : Nat
  flow : Nat
  deriving DecidableEq, Repr

/-- An entry of the receipt table (R158). -/
structure Receipt where
  ni : Nat
  src : Loc
  txn : Nat
  packets : Nat
  deriving DecidableEq, Repr

/-- One part of a transfer: at most 4,096 bytes read from one place and written to another. `st`: 0 to read, 1 being read,
2 data held, 3 packet formed, 4 answered. -/
structure Chunk where
  src : Nat
  dst : Nat
  len : Nat
  st : Nat
  data : List Nat
  deriving DecidableEq, Repr

/-- What a transfer is for: a COPY, an MCAST_WRITE, a result of an ATOMIC, or the miss bitmap of a roll call. -/
inductive XKind where
  | copy | mcast | result | roll
  deriving DecidableEq, Repr

/-- A transfer under way at an NI (R133, R146, R153, R219, R220). `cr`: 0 no credits needed, 1 asked, 2 SHORT and waiting,
3 granted, 4 ended. `early` and `earlyBad`: unicast grants of members that have come before the combined answer, and the first status of
those that were refused so (R155). `waitAt`: the beat of C at which the SHORT answer came (R418). -/
structure Xfer where
  id : Nat
  ni : Nat
  desc : Nat
  kind : XKind
  ten : Nat
  flow : Nat
  txn : Nat
  dstHost : Bool
  srcHost : Bool
  hp : Nat
  cls : Nat
  dstLoc : Loc
  early : Nat
  earlyBad : Nat
  policy : Nat
  cr : Nat
  shortLeft : Nat
  epoch : Nat
  revoked : Bool
  group : Option Nat
  members : Nat
  missAddr : Nat
  missHost : Bool
  missSeen : Bool
  rolls : List (Nat × Nat)
  rolling : Bool
  statuses : List Nat
  count : Nat
  low : Nat
  chunks : List Chunk
  waitAt : Nat := 0
  deriving DecidableEq, Repr

/-- Aperture state of an NI (R163 to R167): unanswered writes as a source (target slot, transaction, address, data, waiting
to resend), the granules in the landing area as a target (offset in the legacy region, place in the landing area), oldest first, and the
place of the next one. -/
structure Aperture where
  out : List (Nat × Nat × Nat × Nat × Bool) := []
  landing : List (Nat × Nat) := []
  place : Nat := 0
  deriving DecidableEq, Repr

/-! ## Commands -/

/-- A fetched descriptor (R210, R215). `origin`: ring number 0–4,095, or 4,096 + queue for a tile queue. `phase`: 0 not
started, 1 started, 2 waiting for answers. `denied`: it named another tenancy's flow when it arrived (R114, R119). -/
structure Desc where
  id : Nat
  ni : Nat
  origin : Nat
  index : Nat
  words : List Nat
  ten : Nat
  phase : Nat
  startTs : Nat
  startH : Nat
  startDigest : List Nat
  startMode : Nat
  late : Bool
  denied : Bool
  deriving DecidableEq, Repr

/-- A decided completion that waits to be written (R211, R232): its NI and ring or queue, its four words without PHASE, whether it
raises an interrupt, and for a provenance digest its descriptor and the map digest at END (R241), whether it is written only where its status is
not OK (R234), and the transaction of a write of RESULT that leaves the chip. -/
structure Cpl where
  ni : Nat
  origin : Nat
  words : List Nat
  irq : Bool
  prov : Option Desc
  digest : List Nat
  silent : Bool
  asked : Option Nat
  deriving DecidableEq, Repr

/-- The indices of a ring or tile queue, the NI that serves it and its record state (R204, R208, R211): a record read in flight,
one more asked for, the descriptors asked for, the descriptors abandoned by a fenced NI (R238), whether fetching has halted until a
bell brings a valid record (R209, R210), whether the read under way or asked for follows a bell, whether a write of HEAD waits for a tag (R102),
and for a tile queue the pulses of CPL_IRQ so far (R237, R443). -/
structure Ring where
  ni : Nat := 0
  tail : Nat := 0
  head : Nat := 0
  cqHead : Nat := 0
  cqTail : Nat := 0
  reading : Bool := false
  again : Bool := false
  fetching : Nat := 0
  gone : Nat := 0
  bell : Bool := false
  halted : Bool := false
  headDue : Bool := false
  irqs : Nat := 0
  deriving DecidableEq, Repr

/-- A WAIT in progress (R227): its descriptor, kind, what it names, the count at which it ends and the window opening from
which it counts. -/
structure Waiting where
  desc : Nat
  ni : Nat
  kind : Nat
  key : Nat
  sub : Nat
  target : Nat
  base : Nat
  deriving DecidableEq, Repr

/-- A signal line of a tenancy cached by an NI (R244). -/
structure SigLine where
  ni : Nat
  ten : Nat
  addr : Nat
  data : Option (List Nat)
  deriving DecidableEq, Repr

/-! ## Memory ports -/

/-- What a memory-port transaction does (R345). -/
inductive MKind where
  | read | write | atomic | bookRead | bookWrite | debug | bnRead
  deriving DecidableEq, Repr

/-- A transaction at a memory port: requester (0–5 BOOK, 6–11 OPEN, 12 BN, 13 DBG), in-port address, length, data to write,
the packet it answers (open plane), for booked traffic router slot, chart and segment, and whether data came with an error. The tag
`id` is given when the transaction is granted. -/
structure MTx where
  id : Nat
  kind : MKind
  req : Nat
  addr : Nat
  len : Nat
  data : List Nat
  pkt : Option Pkt
  slot : Nat
  chart : Nat
  seg : Nat
  ue : Bool
  deriving DecidableEq, Repr

/-- One entry of a port's copy of the HBM grants: valid, class, tenancy, base and size in 64 MiB units (R365). -/
structure Grant where
  valid : Bool
  cls : Nat
  ten : Nat
  base : Nat
  size : Nat
  deriving DecidableEq, Repr

/-- One near range of a copy of the HBM map (R338), in GiB. -/
structure Near where
  valid : Bool
  port : Nat
  base : Nat
  size : Nat
  ofs : Nat
  deriving DecidableEq, Repr

/-- A copy of the HBM map (R338, R339): I in GiB and the near ranges by number. -/
structure HbmMap where
  ilv : Nat := 0
  near : SMap Near := []
  deriving DecidableEq, Repr

/-- A flit read ahead for booked inputs (R343): its attach point, chart and segment, the in-port address it was read from, its data and whether
they came with an error. -/
structure RdFlit where
  attach : Nat
  chart : Nat
  seg : Nat
  addr : Nat
  data : Nat
  ue : Bool
  deriving DecidableEq, Repr

/-- A memory port (R337 to R352): transactions ready, the one in progress, the one suspended, a debug transaction suspended over it by refresh hold, and those issued and unanswered;
owner and parking; levels in force and those committed and not yet in force; refresh hold; the controller's readiness and CAP;
the flits read ahead; booked departures so far by 2·attach; the in-port address and length of the range that the current segment
writes, by attach point (R342); flits asked for ahead so far by chart, segment and attach point; the port's copies of the HBM map and of the grants; the beat, plus 1, from which each requester waits. -/
structure MPort where
  ready : List MTx := []
  cur : Option MTx := none
  suspended : Option MTx := none
  suspDbg : Option MTx := none
  issued : List MTx := []
  owner : Nat := 0
  parked : Bool := false
  prio0 : Nat := 0xCCCCCC
  prio1 : Nat := 0x8444444
  goPend : Option (Nat × Nat) := none
  held : Bool := false
  stuck : Bool := false
  inputHeld : Bool := false
  ctrlReady : Bool := false
  rdBuf : List RdFlit := []
  bookUsed : SMap Nat := []
  bookSpan : SMap (Nat × Nat) := []
  prefetched : SMap Nat := []
  map : HbmMap := {}
  grants : SMap Grant := []
  cap : Nat := 0
  everReady : Bool := false
  since : SMap Nat := []
  deriving DecidableEq, Repr

/-! ## Tenancy -/

/-- The slice engine (R370): the running command and the members that have answered. -/
structure SliceEng where
  action : Nat := 0
  hold : Bool := false
  ten : Nat := 0
  members : Nat := 0
  deriving DecidableEq, Repr

/-- A scrub under way at an NI (R371 to R373): full or partial, and the state and owner in which it ends. -/
structure Scrub where
  ni : Nat
  full : Bool
  endState : Nat
  endOwner : Nat
  answer : Bool
  deriving DecidableEq, Repr

/-! ## Faults -/

/-- A history entry (R274): timestamp, extension, source, SEVERE, INJECTED and detail. -/
structure HistE where
  ts : Nat
  ext : Nat
  src : Nat
  severe : Bool
  injected : Bool
  detail : Nat
  deriving DecidableEq, Repr

/-- The working part of a unit's error set (R274, R278, R33): window start and count by source, the history by entry
number, the message that waits for the Binnacle, the injection checks left, whether a parity injection is armed and whether an update has
met it (R301), and at-once conditions that persist. -/
structure ErrUnit where
  winStart : SMap Nat := []
  winCount : SMap Nat := []
  hist : SMap HistE := []
  pendMsg : Option Pkt := none
  injLeft : Nat := 0
  parityArmed : Bool := false
  met : Bool := false
  persist : List Nat := []
  deriving DecidableEq, Repr

/-- Fences in force (R283, R288): level by slot (1 F1, 2 F2) and the mesh links out of service, each as its west or north
end's slot and direction (1 E, 2 S). -/
structure Fences where
  level : SMap Nat := []
  mlinks : List (Nat × Nat) := []
  deriving DecidableEq, Repr

/-! ## Logbooks and traces -/

/-- A logbook entry (R425). -/
structure LogE where
  ts : Nat
  ext : Nat
  code : Nat
  peerKind : Nat
  peer : Nat
  detail : Nat
  deriving DecidableEq, Repr

/-- An NI's trace buffer (R422): records of four words, oldest first; records dropped since the last one kept; records sent
and not yet answered, by transaction; the local beat at which each record came. -/
structure TraceBuf where
  recs : List (List Nat) := []
  dropped : Nat := 0
  sent : List (Nat × Nat) := []
  ats : List Nat := []
  deriving DecidableEq, Repr

/-! ## Host ports -/

/-- A packet on the bridge (R449, R450). -/
structure BPkt where
  kind : Nat
  tag : Nat
  ten : Nat
  priv : Bool
  len : Nat
  status : Nat
  addr : Nat
  data : List Nat
  deriving DecidableEq, Repr

/-- Why the host port asks the bridge (R218, R245, R450): to serve a mesh packet, for the two halves of an atomic to a signal
line, or for traffic of Carlith's own that nobody waits for. -/
inductive HWhy where
  | serve (p : Pkt)
  | atomRead (p : Pkt)
  | atomWrite (p : Pkt) (old : Nat)
  | own (code : Nat)
  deriving DecidableEq, Repr

/-- A request for the bridge and why it is made. -/
structure HReq where
  b : BPkt
  why : HWhy
  deriving DecidableEq, Repr

/-- A register request of the bridge that waits for its answer (R450, R462, R463): its tag, mark, offset, data, transaction and whether its register packet has been sent. -/
structure RegReq where
  tag : Nat
  priv : Bool
  ten : Nat
  off : Nat
  write : Bool
  data : Nat
  txn : Nat
  sent : Bool
  deriving DecidableEq, Repr

/-- Something that waits for the sharers of a signal line to acknowledge (R245): a host write to answer (tag), or a request
of a tile held until then. -/
structure SigWait where
  lines : List Nat
  left : List (Nat × Nat)
  tag : Option Nat
  req : Option HReq
  deriving DecidableEq, Repr

/-- A host port (R448 to R452): requests not yet sent, requests sent and unanswered by tag, completions not yet sent, credits
held at the bridge by class, pending interrupt vectors, register requests, sharers by signal line, waits for sharers, the
lines and NIs whose SIG_INV nothing waits for, and the packet last sent to the bridge. -/
structure HPort where
  q : List HReq := []
  out : List HReq := []
  cpls : List BPkt := []
  crd0 : Nat := 0
  crd1 : Nat := 0
  irq : List Nat := []
  regs : List RegReq := []
  sharers : SMap (List Nat) := []
  sigWaits : List SigWait := []
  displaced : List (Nat × Nat) := []
  tx : Option BPkt := none
  deriving DecidableEq, Repr

/-! ## Outer links -/

/-- A link flit (R307 to R309): a scheduled flit with its landing tag and position, flit i of an open DAT packet, cells with
flits of REQ, RSP and SNP packets, or control items. -/
inductive LFlit where
  | sched (tag pos data : Nat) (ue : Bool)
  | openDat (p : Pkt) (i : Nat)
  | small (cells : List (Pkt × Nat))
  | control (items : List Nat)
  deriving DecidableEq, Repr

/-- A translation entry (R314, R316): the source and TXN on this chip and the link TXN that stands for them. -/
structure XlatE where
  src : Loc
  txn : Nat
  ltxn : Nat
  deriving DecidableEq, Repr

/-- An outer link beside its registers (R306 to R334). Transmit side: scheduled flits and packets waiting with their next flit,
control items, room at the far end by class, positions since the last CONTROL, round-robin weights left, the landing tag last
named, the pair under construction and its number (each flit with the link whose stream it belongs to), the retry buffer, the
pairs to send again, what an adopted stream has to send again first, the stream last named, and the pair that NAK named with how
often in a row it has been sent again. Receive side: the next pair in order, whether its even frame has come and whether later pairs are being discarded,
pairs since the last ACK, landing tag, stream, waiting scheduled flits, the landing buffer by 4·line + position (tag, data, error),
whether this beat has run late, flits gathered of packets, packets received whole. Then packets that wait for a translation entry,
the translation table, destination records, healthy lanes of both ends and whether the far end has told its own, the IDENT received at
discovery, the streams adopted, and the pairs of the link's own stream that a sibling may have to send again (R333). On the line: cell 0 of
the last link flit (R308), the 20 control bits of the even and the odd frame of the last pair (R306), frames since the last alignment marker,
and the lanes on which a marker word followed the last frame (R305). -/
structure OLink where
  txS : List (Nat × Nat × Nat × Bool) := []
  txP : List (Pkt × Nat) := []
  items : List Nat := []
  room : List Nat := [8, 34, 34, 32, 32, 16, 16]
  since : Nat := 32
  wrr : List Nat := [0, 0, 0]
  txMark : Option Nat := none
  cur : List (Nat × LFlit) := []
  txPair : Nat := 0
  retry : List (Nat × List (Nat × LFlit)) := []
  resend : List (Nat × List (Nat × LFlit)) := []
  carry : List LFlit := []
  txStream : Option Nat := none
  nak : Option Nat := none
  again : Nat := 0
  rxPair : Nat := 0
  rxHalf : Bool := false
  skip : Bool := false
  acked : Nat := 0
  mark : Nat := 0
  strm : Option Nat := none
  rxS : List (Nat × Nat × Nat × Bool) := []
  landing : SMap (Nat × Nat × Bool) := []
  late : Bool := false
  dropFrom : Option Nat := none
  rxPart : List (Pkt × Nat) := []
  rxq : List Pkt := []
  wait : List Pkt := []
  xlat : List XlatE := []
  dest : SMap Loc := []
  lanesNear : Nat := 0
  lanesFar : Nat := 15
  told : Bool := false
  ident : Nat := 0
  adopted : List Nat := []
  old : List (Nat × List (Nat × LFlit)) := []
  cell0 : Nat := 0
  ctl : Nat × Nat := (0, 0)
  frames : Nat := 0
  marker : Nat := 0
  deriving DecidableEq, Repr

/-- Chip-to-chip synchronisation and discovery (R321 to R330): the plan's PARENT, ALT_PARENT and CONSORT link, CHIP of the far end
by bundle, bundles that name this chip as parent, least links and width by bundle, ROOT_OFS and the link outcomes judged. -/
structure Plan where
  valid : Bool := false
  planId : Nat := 0
  parent : Nat := 63
  alt : Nat := 63
  consort : Option Nat := none
  bundle : List Nat := []
  rchip : List Nat := []
  rlink : List Nat := []
  minLinks : List Nat := []
  minWidth : List Nat := []
  weights : List (Nat × Nat × Nat) := []
  routes : SMap Nat := []
  theta : Int := 0
  synced : Bool := false
  held : Bool := false
  deriving DecidableEq, Repr
/-! ## Firmware loading and consort -/

/-- The load port of an NI (R408): flits of a chunk gathered so far, TOTAL and DIGEST of the first chunk accepted. -/
structure FwLoad where
  flits : List Nat := []
  total : Nat := 0
  digest : Nat := 0
  any : Bool := false
  deriving DecidableEq, Repr

/-- A consort frame (R265). -/
structure CFrame where
  chart : Nat
  seg : Nat
  region : Nat
  final : Bool
  spanBeat : Nat
  crc : Nat
  flits : Nat
  deriving DecidableEq, Repr

/-- Consort (R263 to R266): whether the partner's arming frame is awaited, the arming frames sent (map digest, Stolrel version and FB_MODE), this
chip's frames waiting for the partner's, the partner's frames waiting for this chip's, and a
first half of a frame received. -/
structure Consort where
  arming : Bool := false
  sent : List (List Nat × Nat × Nat) := []
  own : List CFrame := []
  theirs : List CFrame := []
  deriving DecidableEq, Repr

/-! ## Trace port -/

/-- The trace port (R423, R424, R453): records accepted and not sent, oldest first, whether its capture side is ready, and the last
beat: eight words, whether it carries a scan frame, and TP_LAST. -/
structure TracePort where
  fifo : List (List Nat) := []
  ready : Bool := false
  beat : List Nat := []
  scan : Bool := false
  last : Bool := false
  deriving DecidableEq, Repr


/-! ## Reductions at members, and the hash engine -/

/-- A REDUCE under way at a member NI (R187 to R191, R197): its flow, root router, contexts per router, bindings, strict
integer or aligned-integer form, whether it receives results, group, ROUNDS, scratchpad offsets of SRC, DST and WORK, the phase
under way, the next round, unacknowledged rounds with their packets and whether RED_BUSY holds them back, result rounds
written in this phase, whether the last has been, and statuses met. -/
structure RMember where
  ni : Nat
  desc : Nat
  flow : Nat
  rid : Nat
  root : Nat
  n : Nat
  bind : RBind
  strict : Bool
  recv : Bool
  group : Nat
  rounds : Nat
  src : Nat
  dst : Nat
  work : Nat
  phase : Nat
  next : Nat
  out : List (Nat × Pkt × Bool)
  got : Nat
  fin : Bool
  sts : List Nat
  deriving DecidableEq, Repr

/-- A HASH in the Binnacle's engine (R228): its descriptor and NI, the parts of the range, the transaction of the digest write
(4,096 before there is one) and whether its credits are asked for. -/
structure HashJob where
  desc : Nat
  ni : Nat
  chunks : List Chunk
  wtxn : Nat
  credit : Bool
  deriving DecidableEq, Repr

/-! ## Replay -/

/-- Host reads of a replay (R269): those that the log expects (ring, address, length, CRC-64 and the unit of the record), and those performed
whose record has not been read yet (ring, address, length and CRC-64), and signals whose WAIT has not begun yet (queue, line and descriptor index). -/
structure Replay where
  reads : List (Nat × Nat × Nat × Nat × Nat) := []
  live : List (Nat × Nat × Nat × Nat) := []
  signals : List (Nat × Nat × Nat) := []
  deriving DecidableEq, Repr


/-! ## The Binnacle's processor -/

/-- Stolrel's working data (R379, R383, R391, R396, R397, R413, R416): the inbox; log entries that wait, as words 0 to 6, the next
SEQ, BOOTS and the entry of the log area written next; the version and SVN of the running image; the power waves done, the 1 ms
loops of bring-up's step 9, whether its range in HBM is lost (R381); the governor's depths and calm counts and its copies of the
other fields of RG_STRETCH_CTRL; the image being staged; the chunks a recovery loader has received; the master copy of the
logical map; the generation at the last route change; the SVN blown in fuses (R414); and the tenancies whose charts a fence has ended while
Stolrel did not run (R31). -/
structure Stolrel where
  inbox : List Pkt := []
  waiting : List (List Nat) := []
  seq : Nat := 0
  boots : Nat := 0
  logNext : Nat := 0
  version : Nat := 0
  svn : Nat := 0
  fuseSvn : Nat := 0
  wave : Nat := 0
  step9 : Nat := 0
  lost : Bool := false
  g : SMap Nat := []
  calm : SMap Nat := []
  stretch : SMap Nat := []
  staged : Option (List Nat) := none
  recv : Nat := 0
  lmap : SMap Nat := []
  /-- Stolrel's mirror of OWNER for the slots that a fence has put into reset (R294, R375). -/
  owners : SMap Nat := []
  /-- Stolrel's mirror of the privileged NI settings that it has written, by register offset; a register not listed has its reset value
  (R294, R402). -/
  mirror : SMap Nat := []
  clockLost : Bool := false
  /-- CLEAR_FAULTS was written to a regulator after the last poll (R388). -/
  clearFaults : Bool := false
  halted : List Nat := []
  deriving DecidableEq, Repr

/-! ## Observation and pins -/

/-- A counter snapshot (R419): T, the units still to copy as block offsets, and the copies by register offset. -/
structure Snap where
  t : Nat := 0
  left : List Nat := []
  copies : SMap W32 := []
  deriving DecidableEq, Repr

/-- Scan-out (R433 to R435): under way, through JTAG, the sections still to leave as KIND, INDEX and SECTION, the 56-byte unit of
the first of them that leaves next, frames sent, and the CRC-64 register over them. -/
structure Scan where
  on : Bool := false
  jtag : Bool := false
  left : List (Nat × Nat × Nat) := []
  off : Nat := 0
  sent : Nat := 0
  crc : Nat := 0xFFFFFFFFFFFFFFFF
  deriving DecidableEq, Repr

/-- The last response of a tile port to its core (R443): CR_ERR and CR_RDATA. -/
structure CoreAns where
  err : Bool
  data : Nat
  deriving DecidableEq, Repr

/-- The TAP (R457): its instruction, its data register, and the data that the last MEMDBG read returned. -/
structure Tap where
  inst : Nat := 0x01
  dr : Nat := 0
  back : Nat := 0
  deriving DecidableEq, Repr

/-- The sideband inputs as last sampled (R429, R455) and whether ANCHOR_N is obeyed. -/
structure Pins where
  anchorLow : Bool := false
  anchorArmed : Bool := true
  thrLow : Bool := false
  deriving DecidableEq, Repr

/-- Fuses (R2, R401, R413, R457): GRADE, the SVN blown at manufacture, the key digest, the JEP106 code, and the level at which
each bad slot is out of service (1 F1, 2 F2). -/
structure Fuses where
  grade : Nat := 0
  svn : Nat := 0
  keyDigest : Nat := 0
  jep106 : Nat := 0
  bad : SMap Nat := []
  deriving DecidableEq, Repr

/-- Memory as address and byte, addresses rising, no byte zero: an unlisted byte reads zero. -/
abbrev Memory := List Host.Cell

/-- The state of the block. -/
structure State where
  time : Chrono := {}
  chr : ChrCtl := {}
  fuse : Fuses := {}
  regs : SMap W32 := []
  latch : List (Nat × Nat × Nat) := []
  rgn : SMap Region := []
  rtr : SMap Router := []
  chart : SMap (Option ChartRun) := []
  sched : List SFlit := []
  launches : List Launch := []
  net : List Flight := []
  flow : SMap Flow := []
  vt : SMap Nat := []
  otx : List OTx := []
  win : SMap Window := []
  ledger : List LedgerE := []
  waiters : List Waiter := []
  lastGrant : SMap Nat := []
  cancelled : List (Nat × Nat × Bool) := []
  receipts : List Receipt := []
  xfers : List Xfer := []
  ap : SMap Aperture := []
  descs : List Desc := []
  cplq : List Cpl := []
  ring : SMap Ring := []
  waits : List Waiting := []
  sigLines : List SigLine := []
  mp : SMap MPort := []
  slice : SliceEng := {}
  scrubs : List Scrub := []
  err : SMap ErrUnit := []
  fence : Fences := {}
  bnUp : Bool := false
  logs : SMap LogE := []
  trace : SMap TraceBuf := []
  hp : SMap HPort := []
  ol : SMap OLink := []
  plan : Plan := {}
  fw : SMap FwLoad := []
  consort : Consort := {}
  tp : TracePort := {}
  redm : List RMember := []
  redWait : List Nat := []
  hash : List HashJob := []
  replay : Replay := {}
  bn : Stolrel := {}
  snap : Snap := {}
  scan : Scan := {}
  tap : Tap := {}
  pins : Pins := {}
  nimap : SMap HbmMap := []
  plot : List BPkt := []
  cr : SMap CoreAns := []
  spad : Memory := []
  hbm : Memory := []
  flash : Memory := []
  stamp : SMap Nat := []
  woken : SMap Bool := []
  stopped : List Nat := []
  fresh : Nat := 0
  pending : List Instr := []
  deriving DecidableEq, Repr

/-- Why a step stops with a fault. -/
inductive Fault where
  /-- Raised by every command whose operands lie outside the ranges of `Instr.wf`: no interface of the block can carry
  them. Safe: the machine stops and nothing is claimed of it. -/
  | malformed
  deriving DecidableEq, Repr

/-- Why a command has no meaning. -/
inductive Refusal where
  /-- Raised by `exec` for a command whose meaning the model does not give. Safe. -/
  | notModelled (mnemonic : String)
  deriving DecidableEq, Repr

/-- The block right after a COLD reset (R12, R440): every register at the reset value of its table, no command waiting, no
packet in flight, every memory empty. -/
def State.reset : State := {}

end Sys2Proof.Machine
end

