-- ==== Sys2Proof/WellFormed.lean ====
section
/-!
DEFINITION. Which operands a command can carry: the ranges that the fields and units named by the spec give them.
-/

namespace Sys2Proof

open Sys2Proof.Machine

/-- A physical slot 48y + x (R460). -/
def okSlot (n : Nat) : Bool := n < 2304

/-- A region (R4). -/
def okRgn (n : Nat) : Bool := n < 36

/-- A 32-bit register value. -/
def okW (v : Nat) : Bool := v < 2 ^ 32

/-- A 64-bit value. -/
def okD (v : Nat) : Bool := v < 2 ^ 64

/-- A place on the mesh with a port of R98. -/
def okLoc (l : Loc) : Bool := l.x < 48 && l.y < 48 && l.port < 8

/-- A byte list. -/
def okBytes (l : List Nat) : Bool := l.all (· < 256)

/-- A packet whose header fields fit R101 and whose payload, if any, fits R104. -/
def okPkt (p : Pkt) : Bool :=
  okLoc p.src && p.dst.x < 64 && p.dst.y < 64 && p.dst.port < 8 && p.ten < 64 && p.flow < 32 && p.txn < 4096 &&
  p.egen < 2 && p.hops < 128 && p.op < 64 && okBytes p.data && p.data.length ≤ 4096 && p.args.all okD

/-- An outer link (R18). -/
def okOl (n : Nat) : Bool := n < 32

/-- A memory port (R18). -/
def okMp (n : Nat) : Bool := n < 16

/-- A unit that keeps an error set, by UNIT_KIND and number (R273). -/
def okUnit (k i : Nat) : Bool := k < 8 && i < [2304, 2304, 36, 16, 32, 2, 1, 1].getD k 0

/-- A host port (R18). -/
def okHp (n : Nat) : Bool := n < 2

/-- The operands that a command can carry: every number in the range of the field, list or unit it names. Log entry 6, DESIGN CHOICE. -/
def Instr.wf : Instr → Bool
  | .chRun v => okW v
  | .chLoad v => okW v
  | .holdForce v => okW v
  | .localBeatStart n => okRgn n
  | .slotExecute n ue => okRgn n && ue.all (· < 18432)
  | .stallResume n cycles => okRgn n && okW cycles
  | .stallTimeout n => okRgn n
  | .clockAbsent n => okRgn n
  | .clockAbsentClear n => okRgn n
  | .clockLost n => okRgn n
  | .dipDemand n sag => okRgn n && sag < 256
  | .stretchRelease n => okRgn n
  | .registerWrite off v => okW off && okW v
  | .pairLoRead who off => who < 131 && okW off
  | .regRd hp tag _ ten off len => okHp hp && tag < 4096 && ten < 64 && off < 2 ^ 64 && 1 ≤ len && len ≤ 4096
  | .regWr hp tag _ ten off data => okHp hp && tag < 4096 && ten < 64 && off < 2 ^ 64 && okBytes data && 1 ≤ data.length && data.length ≤ 4096
  | .regAns hp p => okHp hp && okPkt p
  | .regTimeout hp txn => okHp hp && txn < 4096
  | .start n p => okSlot n && okPkt p
  | .segmentLoaded n => okSlot n
  | .loadWaitEnd n => okSlot n
  | .segDone n p => okSlot n && okPkt p
  | .segDoneSend n => okSlot n
  | .segAbort n p => okSlot n && okPkt p
  | .abort n p => okSlot n && okPkt p
  | .ejectWrite n => okSlot n
  | .landingFlitArrive n flit => okOl n && [0, 4].contains flit.length && flit.getD 0 0 < 16 && flit.getD 1 0 < 4 && flit.getD 2 0 < 2 ^ 2048 && flit.getD 3 0 < 2
  | .olLandCfgWrite n v => okOl n && okW v
  | .routeHeader n port p chk => okSlot n && port < 7 && okPkt p && chk < 4
  | .escWaitExpire n p => okSlot n && okPkt p
  | .outputAged n p => okSlot n && okPkt p
  | .routerOutputArbitrate n out net => okSlot n && out < 6 && net < 4
  | .drop _ p => okPkt p
  | .purge0 n v => okSlot n && okW v
  | .purge1 n v => okSlot n && okW v
  | .openPacketStart n => okSlot n
  | .wheelUnpark n f => okSlot n && f < 34
  | .flowRateWrite n f v => okSlot n && f < 32 && okW v
  | .flowCfgWrite n f v => okSlot n && f < 32 && okW v
  | .openTimeout n txn => okSlot n && txn < 4096
  | .read _ p _ => okPkt p
  | .readData n p _ => okSlot n && okPkt p
  | .readErr n p => okSlot n && okPkt p
  | .creditReq n p => okSlot n && okPkt p
  | .creditAns n port p => okSlot n && port < 6 && okPkt p
  | .creditReturn n p => okSlot n && okPkt p
  | .creditCancel n p => okSlot n && okPkt p
  | .creditWaitExpire n txn us => okSlot n && txn < 4096 && okW us
  | .reqWinOpen n p => okSlot n && okPkt p
  | .reqWinReplenish n p => okSlot n && okPkt p
  | .snpWinClose n p => okSlot n && okPkt p
  | .closeTakesEffect n h => okSlot n && h < 256
  | .drainLimitExpire n h => okSlot n && h < 256
  | .winAns n p => okSlot n && okPkt p
  | .creditRevoke n p => okSlot n && okPkt p
  | .write _ p _ => okPkt p
  | .writeMc n p _ => okSlot n && okPkt p
  | .writeAck n port p => okSlot n && port < 6 && okPkt p
  | .reqAtomic _ p _ => okPkt p
  | .atomicAns n p => okSlot n && okPkt p
  | .rollcall n p => okSlot n && okPkt p
  | .rollAns n p => okSlot n && okPkt p
  | .rollTimeExpire n txn => okSlot n && txn < 4096
  | .combiningSlotFree n => okSlot n
  | .apStore n _ ofs len data => okSlot n && ofs < 2 ^ 26 && len ≤ 32 && okBytes data && data.length == len
  | .apWrite n p => okSlot n && okPkt p
  | .apResend n txn => okSlot n && txn < 4096
  | .redData n p _ => okSlot n && okPkt p
  | .redAck n p => okSlot n && okPkt p
  | .redBusy n p => okSlot n && okPkt p
  | .redResend n p => okSlot n && okPkt p
  | .redResult n p _ => okSlot n && okPkt p
  | .redFail n p => okSlot n && okPkt p
  | .redAbort n p => okSlot n && okPkt p
  | .redLimitExpire n rid => okSlot n && rid < 4096
  | .redIdHoldExpire n rid => okSlot n && rid < 4096
  | .tnBell hp t v => okHp hp && t < 64 && okW v
  | .fbBell hp v => okHp hp && okW v
  | .bell n p => okSlot n && okPkt p
  | .doorbellRecordRead n p => okSlot n && okPkt p
  | .descriptorFetch n o p => okSlot n && o < 4100 && okPkt p
  | .cqRecheck n o => okSlot n && o < 4096
  | .completionWrite n o host => okSlot n && o < 4100 && okBytes host
  | .ringCfgWrite r v => r < 4096 && okW v
  | .tqBell n q v => okSlot n && q < 4 && okW v
  | .tqCfgWrite n q v => okSlot n && q < 4 && okW v
  | .descriptorStart n _ => okSlot n
  | .notBeforeReached n _ => okSlot n
  | .nop n _ => okSlot n
  | .copy n _ => okSlot n
  | .mcastWrite n _ => okSlot n
  | .atomic n _ => okSlot n
  | .winOpen n _ => okSlot n
  | .winClose n _ => okSlot n
  | .winReplenish n _ => okSlot n
  | .chartRun n _ => okSlot n
  | .chartPause n _ => okSlot n
  | .pause n p => okSlot n && okPkt p
  | .reduce n _ => okSlot n
  | .airExtract n _ => okSlot n
  | .airConvert n _ => okSlot n
  | .airFinish n _ => okSlot n
  | .streamReady n _ => okSlot n
  | .wait n _ => okSlot n
  | .waitTimeout n _ => okSlot n
  | .hash n _ => okSlot n
  | .hashTimeout txn => txn < 4096
  | .sigRead hp p => okHp hp && okPkt p
  | .sigWritten hp tag addr => okHp hp && tag < 4096 && addr < 2 ^ 64
  | .sigInv n p => okSlot n && okPkt p
  | .sigInvAck hp p => okHp hp && okPkt p
  | .snoopTimeout hp line ni => okHp hp && line < 4096 && okSlot ni
  | .sigPageWrite t v => t < 64 && okW v
  | .consortArm v => okW v
  | .consort chart seg region _ beat crc flits => okW chart && seg < 2 ^ 16 && okRgn region && beat < 2 ^ 18 && crc < 2 ^ 64 && okW flits
  | .consortFrameLost chart seg region beat => okW chart && seg < 2 ^ 16 && okRgn region && beat < 2 ^ 18
  | .replayRecordStart v => okW v
  | .replayStart v => okW v
  | .replayStop v => okW v
  | .replayInject words => words.all (· < 2 ^ 64) && words.length % 4 == 0 && 0 < words.length && words.length ≤ 12
  | .errMsg p _ => okPkt p
  | .attn p _ => okPkt p
  | .clearHist k i v => okUnit k i && okW v
  | .leaveSafe k i v => okUnit k i && okW v
  | .clearWindows k i v => okUnit k i && okW v
  | .errInjectWrite k i v => okUnit k i && okW v
  | .fence n p => okSlot n && okPkt p
  | .fenceWire n port => okSlot n && port < 4
  | .repair patch => patch ≤ 9120
  | .publish v => okW v
  | .repairHoldExpire n chart => okSlot n && okW chart
  | .soundingFlit n port seed err => okSlot n && port < 4 && seed < 2 ^ 16 && err < 2 ^ 2048
  | .routerSelftest n step _ => okRgn n && step < 256
  | .kick v => okW v
  | .frameReceive n pair _ verdict => okOl n && pair < 65536 && verdict < 3
  | .linkFlitTransmit n => okOl n
  | .small n cells => okOl n && cells.length ≤ 15 && cells.all (fun c => okPkt c.1 && c.1.net != .dat && c.2 < 4)
  | .openFlit n p i => okOl n && okPkt p && p.net == .dat && i < 17
  | .ack n pair => okOl n && pair < 65536
  | .nak n pair => okOl n && pair < 65536
  | .credit n v => okOl n && okD v
  | .landMark n g => okOl n && g < 256
  | .stream n j => okOl n && okOl j
  | .ident n v => okOl n && v < 2 ^ 120
  | .identSend n => okOl n
  | .sync n c ofs => okOl n && c < 2 ^ 60 && ofs < 4096
  | .syncSend kids => kids.all (· < 32)
  | .linkLoss n j => okOl n && okOl j
  | .resume n j last => okOl n && okOl j && last < 65536
  | .train n mask => okOl n && mask < 16
  | .linkEgressPacket n p => okOl n && okPkt p
  | .linkIngressRequest n => okOl n
  | .linkIngressAnswer n => okOl n
  | .xlatIdleExpire n ltxn => okOl n && ltxn < 4096
  | .linkEnable n v => okOl n && okW v
  | .retrain n v => okOl n && okW v
  | .holdDown n v => okOl n && okW v
  | .pmaReady n mask => okOl n && mask < 16
  | .sigDetLoss n mask => okOl n && mask < 16
  | .alignDone n mask => okOl n && mask < 16
  | .widthChosen n => okOl n
  | .lockDone n rtt far => okOl n && rtt < 65536 && far < 256
  | .identDone n => okOl n
  | .trainLimitExpire n => okOl n
  | .discover v => okW v
  | .holdAll v => okW v
  | .arbitrate n => okMp n
  | .wrDone n tag => okMp n && tag < 256
  | .readReturn n tag _ => okMp n && tag < 256
  | .refreshHold n => okMp n
  | .refreshHoldEnd n => okMp n
  | .refreshStuck n => okMp n
  | .rearm n v => okMp n && okW v
  | .go n v => okMp n && okW v
  | .debugTransaction n addr _ data => okMp n && addr < 2 ^ 36 && data < 2 ^ 2048
  | .bookingCfgWrite n b v => okMp n && b < 64 && okW v
  | .nearCfgWrite k v => k < 33 && okW v
  | .mapCopyApply k => k < 2320
  | .ctrlReady n _ cap => okMp n && cap < 64
  | .grantCfgWrite k v => k < 256 && okW v
  | .grantCopyApply n => okMp n
  | .handleWrite n h k v => okSlot n && h < 256 && k < 3 && okW v
  | .pairWrite n k v => okSlot n && k < 8 && okW v
  | .assign v => okW v
  | .sliceEnd v => okW v
  | .kill v => okW v
  | .release v => okW v
  | .scrub v => okW v
  | .slice n p => okSlot n && okPkt p
  | .sliceAns p => okPkt p
  | .scrubDone n _ => okSlot n
  | .groupDefine v _ => okW v
  | .groupUndefine v _ => okW v
  | .ridDefine v _ => okW v
  | .ridUndefine v _ => okW v
  | .stageImage v _ => okW v
  | .logCopy v _ => okW v
  | .recvChunk v _ => okW v
  | .recvEnd v _ => okW v
  | .bnLock v => okW v
  | .sensorRefresh n temp sag _ => okRgn n && temp < 256 && okW sag
  | .govEnable v => okW v
  | .pmbusPoll _ vin iin pin st => vin < 65536 && iin < 65536 && pin < 65536 && st < 65536
  | .logWrite _ => true
  | .coldReset chip sel _ _ flash => chip < 4096 && sel < 8 && flash < 3
  | .regionReset n => okRgn n
  | .islandReset n => okSlot n
  | .linkReset n => okOl n
  | .bnReset flash => flash < 3
  | .powerWave bad f1 f2 f3 _ => bad.all okRgn && f1.all okSlot && f2.all okSlot && f3.all okRgn
  | .coreBistDone n sig => okSlot n && okD sig
  | .coreBistTimeout n => okSlot n
  | .fwloadEnable n v => okSlot n && okW v
  | .fwChunk n => okSlot n
  | .imageDigestDone n => okSlot n
  | .fwRelease n v => okSlot n && okW v
  | .unitClockLost d => 36 ≤ d && d < 64 && d ≠ 61 && d ≠ 62
  | .coreFatal n code => okSlot n && code < 256
  | .spErr n _ addr => okSlot n && addr < 2 ^ 18
  | .ctrlFatalIn n _ => n < 16
  | .hpFatalIn hp _ => okHp hp
  | .coreRequest n _ addr data be => okSlot n && okW addr && data < 2 ^ 256 && okW be
  | .memRd hp => okHp hp
  | .memWr hp => okHp hp
  | .cpl hp tag st data => okHp hp && tag < 4096 && st < 256 && okBytes data && data.length ≤ 4096
  | .hostTagTimeout hp tag => okHp hp && tag < 4096
  | .txCrd hp cls => okHp hp && cls < 2
  | .cntSnapGo v => okW v
  | .snapshotCopy k i => k < 6 && i < 2304
  | .traceFlush n => okSlot n
  | .tracePacketTimeout n txn => okSlot n && txn < 4096
  | .traceAccept p => okPkt p
  | .freeze k i v => k < 4 && i < 2304 && okW v
  | .plotGo v => okW v
  | .stop v => okW v
  | .anchorRearm v => okW v
  | .scanGo v => okW v
  | .thrRearm v => okW v
  | .memdbg d => d < 2 ^ 2112
  | .alignmentMarker n lane kind => okOl n && lane < 4 && kind < 3
  | .armingFrame digest version mode => digest.all (· < 2 ^ 32) && digest.length == 8 && version < 2 ^ 64 && okW mode
  | .stackTemperature n temp lim => okMp n && temp < 256 && lim < 256
  | .imageSlotWritten _ => true
  | .niReachWrite n k v => okSlot n && k < 128 && okW v
  | .beatMark => true
  | .refLost => true
  | .tickToggle => true
  | .kickMissed => true
  | .syncLost => true
  | .discoveryJudge => true
  | .sliceTimeout => true
  | .mboxCmdDropped => true
  | .powerEstimate => true
  | .governorLoop => true
  | .warmReset => true
  | .bcClockLost => true
  | .irq => true
  | .snapshotTimeout => true
  | .traceSend => true
  | .captureStall => true
  | .anchorN => true
  | .anchorNStuck => true
  | .anchorPartialFreeze => true
  | .throttleAssert => true
  | .thrMinExpire => true
  | .thrStuck => true
  | .idcode => true
  | .scan => true
  | .bypass => true
  | .trst => true

end Sys2Proof
end

