-- ==== Sys2Proof/Machine/Ops.lean ====
section
/-!
DEFINITION. The named operations over the state: registers, memories, packets in flight, timestamps, transactions and
counters. Meanings are written over these.
-/

namespace Sys2Proof.Machine

/-! ## Registers -/

/-- Reset value of a register: its fields at the reset values of the table (R12). -/
def RegDef.resetVal (r : RegDef) : Nat := r.fields.foldl (fun v f => v + f.reset <<< f.lo) 0

/-- Register-space offset of copy k of a register of instance i of its block (R460). -/
def RegDef.addr (r : RegDef) (i k : Nat) : Nat := r.blk.base i + r.off + r.stride * k

/-- The stored value of a register. Log entry 130, DESIGN CHOICE. -/
def State.rd (s : State) (r : RegDef) (i : Nat := 0) (k : Nat := 0) : Nat :=
  (s.regs.get (r.addr i k) (BitVec.ofNat 32 r.resetVal)).toNat

/-- Store a register. -/
def State.wr (s : State) (r : RegDef) (i k v : Nat) : State :=
  { s with regs := s.regs.put (r.addr i k) (BitVec.ofNat 32 v) }

/-- The stored value of a field. -/
def State.fld (s : State) (f : Fld) (i : Nat := 0) (k : Nat := 0) : Nat := bits (s.rd f.reg i k) f.hi f.lo

/-- A 32-bit word with bits hi:lo replaced. -/
def setBits (w hi lo v : Nat) : Nat :=
  w % 2 ^ lo + (v % 2 ^ (hi + 1 - lo)) <<< lo + (w >>> (hi + 1)) <<< (hi + 1)

/-- Store a field. -/
def State.setFld (s : State) (f : Fld) (v : Nat) (i : Nat := 0) (k : Nat := 0) : State :=
  s.wr f.reg i k (setBits (s.rd f.reg i k) f.hi f.lo v)

/-- Add to a field, wrapping. -/
def State.addFld (s : State) (f : Fld) (v : Nat) (i : Nat := 0) (k : Nat := 0) : State :=
  s.setFld f (s.fld f i k + v) i k

/-- Add to a field, saturating. -/
def State.satFld (s : State) (f : Fld) (v : Nat) (i : Nat := 0) (k : Nat := 0) : State :=
  s.setFld f (min (2 ^ (f.hi + 1 - f.lo) - 1) (s.fld f i k + v)) i k

/-- The 64-bit number in a LO and HI pair (R9). -/
def State.pair (s : State) (lo hi : RegDef) (i : Nat := 0) (k : Nat := 0) : Nat :=
  s.rd lo i k + s.rd hi i k <<< 32

/-- Store a LO and HI pair. -/
def State.setPair (s : State) (lo hi : RegDef) (v : Nat) (i : Nat := 0) (k : Nat := 0) : State :=
  (s.wr lo i k (v % 2 ^ 32)).wr hi i k (v / 2 ^ 32 % 2 ^ 32)

/-- Add to a 64-bit counter, wrapping. -/
def State.addPair (s : State) (lo hi : RegDef) (v : Nat) (i : Nat := 0) (k : Nat := 0) : State :=
  s.setPair lo hi (s.pair lo hi i k + v) i k

/-- The blocks of R460 in address order. -/
def allBlks : List Blk := [.fb, .ch, .bn, .tp, .hp, .mp, .ol, .rg, .tn, .rt, .ni]

/-- The block and instance that hold an offset (R460, R461). -/
def blockOf (off : Nat) : Option (Blk × Nat) :=
  (allBlks.filterMap (fun b =>
    let st := b.base 1 - b.base 0
    let d := off - b.base 0
    let i := if b.count = 1 then 0 else d / st
    if b.base 0 ≤ off ∧ i < b.count ∧ off - b.base i < b.size then some (b, i) else none)).head?

/-- The register at an offset: its table entry, instance and copy. -/
def locate (off : Nat) : Option (RegDef × Nat × Nat) :=
  match blockOf off with
  | none => none
  | some (b, i) =>
    let d := off - b.base i
    (b.regs.filterMap (fun r =>
      let k := if r.count ≤ 1 then 0 else (d - r.off) / r.stride
      if r.off ≤ d ∧ k < r.count ∧ d = r.off + r.stride * k then some (r, i, k) else none)).head?

/-- The value that a write of v leaves in a field of a type (R10). -/
def FTy.write (t : FTy) (locked : Bool) (old v : Nat) : Nat :=
  match t with
  | .rw | .sh => v
  | .ro => old
  | .w1c => old &&& (v ^^^ (old ||| v))
  | .wo => 0
  | .rwl => if locked then old else v

/-- The word that a write of v leaves in a register (R7, R10): reserved bits stay zero. -/
def RegDef.write (r : RegDef) (locked : Bool) (old v : Nat) : Nat :=
  r.fields.foldl (fun w f => w + (f.ty.write locked (bits old f.hi f.lo) (bits v f.hi f.lo)) <<< f.lo) 0

/-- BN_LOCK.LOCK is set (R382). -/
def State.locked (s : State) : Bool := s.fld BN_LOCK_LOCK = 1

/-- Write a register by the types of its fields (R10). -/
def State.writeTyped (s : State) (r : RegDef) (i k v : Nat) : State :=
  s.wr r i k (r.write s.locked (s.rd r i k) v)

/-- Registers of the given domains and instances take their reset values (R12). -/
def State.resetRegs (s : State) (p : RegDef → Nat → Bool) : State :=
  { s with regs := s.regs.filter (fun e =>
      match locate e.1 with
      | some (r, i, _) => !(p r i)
      | none => false) }

/-! ## Memories -/

/-- The byte at an address; an unlisted byte reads zero. Log entry 3, DESIGN CHOICE. -/
def Memory.read : Memory → Nat → Nat
  | [], _ => 0
  | (a', b) :: r, a => if a' = a then b.toNat else Memory.read r a

/-- Write a byte. The list keeps rising addresses and no zero byte. Log entry 3, DESIGN CHOICE. -/
def Memory.write : Memory → Nat → Nat → Memory
  | [], a, v => if v % 256 = 0 then [] else [(a, BitVec.ofNat 8 v)]
  | (a', b) :: r, a, v =>
    if a' = a then (if v % 256 = 0 then r else (a, BitVec.ofNat 8 v) :: r)
    else if a < a' then (if v % 256 = 0 then (a', b) :: r else (a, BitVec.ofNat 8 v) :: (a', b) :: r)
    else (a', b) :: Memory.write r a v

/-- The canonical form: addresses strictly rising and every listed byte not zero. Log entry 3, DESIGN CHOICE. -/
def Memory.wf : Memory → Bool
  | [] => true
  | [(_, b)] => b != 0
  | (a, b) :: (a', b') :: r => b != 0 && decide (a < a') && Memory.wf ((a', b') :: r)

/-- n bytes from an address. -/
def Memory.readN (m : Memory) (a n : Nat) : List Nat := (List.range n).map (fun i => m.read (a + i))

/-- Write bytes from an address on. -/
def Memory.writeN (m : Memory) (a : Nat) : List Nat → Memory
  | [] => m
  | v :: r => Memory.writeN (m.write a v) (a + 1) r

/-- A little-endian number of n bytes. -/
def Memory.readNum (m : Memory) (a n : Nat) : Nat := ofBytes (m.readN a n)

/-- The memory with every address of [lo, hi) zero. -/
def Memory.zero (m : Memory) (lo hi : Nat) : Memory := m.filter (fun c => !(decide (lo ≤ c.1 ∧ c.1 < hi)))

/-- Where a slot's scratchpad lies in `State.spad` (2 MiB apart; 1.5 MiB used, R358). -/
def spadKey (slot ofs : Nat) : Nat := slot * 2 ^ 21 + ofs

/-- Where a port's stack lies in `State.hbm`. -/
def hbmKey (port ofs : Nat) : Nat := port * 2 ^ 36 + ofs

def State.spadRead (s : State) (slot ofs n : Nat) : List Nat := s.spad.readN (spadKey slot ofs) n
def State.spadWrite (s : State) (slot ofs : Nat) (d : List Nat) : State :=
  { s with spad := s.spad.writeN (spadKey slot ofs) d }
def State.hbmWrite (s : State) (port ofs : Nat) (d : List Nat) : State :=
  { s with hbm := s.hbm.writeN (hbmKey port ofs) d }

/-! ## Parts of the state by number -/

def State.rg (s : State) (n : Nat) : Region := s.rgn.get n {}
def State.setRg (s : State) (n : Nat) (r : Region) : State := { s with rgn := s.rgn.put n r }
def State.modRg (s : State) (n : Nat) (f : Region → Region) : State := s.setRg n (f (s.rg n))
def State.rt (s : State) (n : Nat) : Router := s.rtr.get n {}
def State.setRt (s : State) (n : Nat) (r : Router) : State := { s with rtr := s.rtr.put n r }
def State.modRt (s : State) (n : Nat) (f : Router → Router) : State := s.setRt n (f (s.rt n))
def State.ch (s : State) (n : Nat) : Option ChartRun := s.chart.get n none
def State.setCh (s : State) (n : Nat) (c : Option ChartRun) : State := { s with chart := s.chart.put n c }
def State.mpt (s : State) (n : Nat) : MPort := s.mp.get n {}
def State.setMp (s : State) (n : Nat) (p : MPort) : State := { s with mp := s.mp.put n p }
def State.modMp (s : State) (n : Nat) (f : MPort → MPort) : State := s.setMp n (f (s.mpt n))
def State.fl (s : State) (ni f : Nat) : Flow := s.flow.get (64 * ni + f) {}
def State.setFl (s : State) (ni f : Nat) (x : Flow) : State := { s with flow := s.flow.put (64 * ni + f) x }
def State.window (s : State) (ni h : Nat) : Window := s.win.get (256 * ni + h) {}
def State.setWin (s : State) (ni h : Nat) (w : Window) : State := { s with win := s.win.put (256 * ni + h) w }
def State.apt (s : State) (ni : Nat) : Aperture := s.ap.get ni {}
def State.setAp (s : State) (ni : Nat) (a : Aperture) : State := { s with ap := s.ap.put ni a }
def State.rng (s : State) (o : Nat) : Ring := s.ring.get o {}
def State.setRing (s : State) (o : Nat) (r : Ring) : State := { s with ring := s.ring.put o r }
def State.hpt (s : State) (n : Nat) : HPort := s.hp.get n {}
def State.setHp (s : State) (n : Nat) (p : HPort) : State := { s with hp := s.hp.put n p }
def State.modHp (s : State) (n : Nat) (f : HPort → HPort) : State := s.setHp n (f (s.hpt n))
def State.modBn (s : State) (f : Stolrel → Stolrel) : State := { s with bn := f s.bn }

/-- Key of a unit's error set. -/
def errKey (k : UnitKind) (i : Nat) : Nat := 4096 * k.code + i
def State.eu (s : State) (k : UnitKind) (i : Nat) : ErrUnit := s.err.get (errKey k i) {}
def State.setEu (s : State) (k : UnitKind) (i : Nat) (e : ErrUnit) : State := { s with err := s.err.put (errKey k i) e }

/-! ## Time -/

/-- The beat count wraps at 2^60 (R58). -/
def beatMod : Nat := 2 ^ 60

/-- The schedule beat S = C − H (R36). -/
def State.S (s : State) : Nat := (s.time.c + beatMod - s.time.h % beatMod) % beatMod

/-- a − b modulo 2^60. -/
def beatSub (a b : Nat) : Nat := (a + beatMod - b % beatMod) % beatMod

/-- The lag S − L of a region, from the S it has accepted (R40). -/
def Region.lag (r : Region) : Nat := beatSub r.s r.L

/-- The clock domain of a unit (R34): 0–35 rc, 36–51 mc, 52–59 lc, 60 hc, 61 ref, 62 bc, 63 tc. -/
def domOf (k : UnitKind) (i : Nat) : Nat :=
  match k with
  | .ni | .red => regionOf i
  | .rg => i
  | .mp => 36 + i
  | .ol => 52 + i / 4
  | .hp => 60
  | .tp => 63
  | .bn => 62

/-- The slot constant K of a domain (R34); 0 in the ref domain, whose slot is 0 (R55). -/
def slotK (d : Nat) : Nat :=
  if d < 36 then 244 else if d < 52 then 273 else if d < 60 then 493 else if d = 60 then 410 else if d = 61 then 0
  else if d = 62 then 819 else 512

/-- C as accepted in a domain (R55): C, or the C before it that the domain may still hold. Log entry 7, DESIGN CHOICE. -/
def State.accC (s : State) (d : Nat) : Nat := if Config.sampleTrail s.fresh d % 2 = 1 then s.chr.prevC else s.time.c

/-- The timestamp a domain takes now (R15, R55): never below the domain's last one. Log entry 7, DESIGN CHOICE. -/
def State.stampOf (s : State) (d : Nat) : Nat :=
  max (s.stamp.get d 0) ((s.accC d * 16 + min 15 ((Config.sampleCycles s.fresh d * slotK d) >>> 8)) % 2 ^ 64)

/-- The depth applied in a region (R51): the largest of the dip sensor's held depth, the governor's and THROTTLE_N's; 5 to 7 act as D2,
which is 4 (R50). -/
def State.depth (s : State) (n : Nat) : Nat :=
  let d := if s.fld RG_STRETCH_CTRL_DIP_EN n = 1 then (s.rg n).held else 0
  let t := if s.fld FB_INPUT_STATUS_THR_ACTIVE = 1 ∧ s.fld FB_INPUT_CTRL_THR_EN = 1 then s.fld RG_STRETCH_CTRL_THR_DEPTH n else 0
  min 4 (max d (max (s.fld RG_STRETCH_CTRL_GOV_DEPTH n) t))

/-- The depth that a sag demands (R50): the largest whose threshold it meets, 0 disabling a threshold; D8 while the sensor's reading is bad
(R386). Log entry 121, DEDUCED. -/
def State.dipDemand (s : State) (n sag : Nat) : Nat :=
  let meets := fun (f : Fld) => decide (s.fld f n ≠ 0 ∧ s.fld f n ≤ sag)
  if s.fld RG_SENSOR_SAG_BAD n = 1 then 2
  else if meets RG_DIP_THR_THR4 then 4 else if meets RG_DIP_THR_THR3 then 3
  else if meets RG_DIP_THR_THR2 then 2 else if meets RG_DIP_THR_THR1 then 1 else 0

/-- The dip sensor reads a sag: a demand above the last one is counted, and one above the held depth raises that at once (R50). -/
def State.dipRead (s : State) (n sag : Nat) : State :=
  let d := s.dipDemand n sag
  let up := (s.rg n).demand < d
  let s := s.modRg n (fun r => { r with demand := d, held := max r.held d, sag := sag })
  if up then s.addFld RG_DIP_EVENTS_EVENTS 1 n else s

/-- Stretch removes rc pulses while a region runs at a depth: RG_STRETCH_CNT goes on by a free value. Log entry 14, DESIGN CHOICE. -/
def State.skipPulses (s : State) (n : Nat) : State :=
  if s.depth n = 0 then s else s.addFld RG_STRETCH_CNT_SKIPPED (Config.skipped s.fresh n) n

/-- The clock of a domain has stopped, as far as its monitor has seen (R47, R57, R439). Log entry 164, DEDUCED. -/
def State.clockOff (s : State) (d : Nat) : Bool := (decide (d < 36) && (s.rg d).absent) || s.stopped.contains d

/-- A domain has not taken a timestamp since its clock returned or its reset ended (R56, R57). -/
def State.unwoken (s : State) (d : Nat) : Bool := if d < 36 then (s.rg d).resync else !(s.woken.get d false)

/-- The 8-bit extension of a timestamp taken in a domain (R56). -/
def State.extOf (s : State) (d : Nat) : Nat :=
  (if d < 36 then min 7 (s.rg d).lag + b2n (s.depth d != 0) <<< 3 else 0) + b2n (s.unwoken d) <<< 5 + b2n s.chr.hold <<< 4

/-- The unit of a slot is frozen by an anchor stop (R430), or its clock has stopped (R57): nothing happens there. -/
def State.frozenAt (s : State) (slot : Nat) : Bool := (s.rg (regionOf slot)).frozen || (s.rg (regionOf slot)).absent

/-- Record that a domain has taken its timestamp. Log entry 7, DESIGN CHOICE. -/
def State.stamped (s : State) (d : Nat) : State :=
  let s := { s with stamp := s.stamp.put d (s.stampOf d) }
  if d < 36 then s.modRg d (fun r => { r with resync := false }) else { s with woken := s.woken.put d true }

/-- A domain's clock has returned or its reset has ended: its next timestamp carries RESYNC (R57). -/
def State.unwake (s : State) (d : Nat) : State :=
  if d < 36 then s.modRg d (fun r => { r with resync := true })
  else { s with woken := s.woken.put d false, stopped := s.stopped.filter (fun x => x != d) }

/-- The clock of a domain outside the regions stops (R439): it takes no timestamp until it returns, and its next one carries RESYNC (R57).
Log entry 164, DEDUCED. -/
def State.clockStop (s : State) (d : Nat) : State :=
  let s := s.unwake d
  { s with stopped := s.stopped ++ [d] }

/-- Something happens that the clock of a domain must run for: it has returned (R439). Log entry 164, DEDUCED. -/
def State.clockBack (s : State) (d : Nat) : State := if s.stopped.contains d then s.unwake d else s

/-! ## Packets -/

/-- Put a packet in flight towards a place. -/
def State.push (s : State) (pl : Place) (p : Pkt) : State := { s with net := s.net ++ [⟨pl, p⟩] }

/-- A slot's router is out of service: at F2, or in a region at F3 or without power. Log entry 52, DEDUCED. -/
def State.gone (s : State) (slot : Nat) : Bool :=
  let r := regionOf slot
  decide (2 ≤ s.fence.level.get slot 0) || (s.rg r).f3 ||
    !(if r < 32 then bit (s.fld BN_PWR_EN0_EN) r else bit (s.fld BN_PWR_EN1_EN) (r - 32))

/-- The router that the Binnacle sends from (R99): P(24,24) while P(23,23) is out of service. Log entry 52, DEDUCED. -/
def State.bnHome (s : State) : Loc := if s.gone bnLoc.slot then ⟨24, 24, 5⟩ else bnLoc

/-- A unit sends a packet: it enters the mesh at the unit's own router (R98, R99). Log entry 52, DEDUCED. -/
def State.emit (s : State) (p : Pkt) : State :=
  let p := if p.src.port = 5 then { p with src := s.bnHome } else p
  s.push (.router p.src.slot (if p.src.port = 0 then 4 else if p.src.port = 5 then 5 else p.src.port - 1)) p

/-- Take a packet out of flight, when the model holds it. Log entry 20, DESIGN CHOICE. -/
def State.takeNet (s : State) (pl : Place) (p : Pkt) : State :=
  { s with net := delFirst (fun f => decide (f.place = pl ∧ f.pkt = p)) s.net }

/-- An NI sends a packet of its own. -/
def State.niSend (s : State) (ni : Nat) (o : Op) (dst : Loc) (ten flow txn : Nat) (args : List Nat) : State :=
  s.emit (mkPkt o (niLoc ni) dst ten flow txn args)

/-- A unit answers a packet at its source. -/
def State.answer (s : State) (p : Pkt) (self : Loc) (o : Op) (args : List Nat) : State :=
  s.emit (mkPkt o self p.src p.ten p.flow p.txn args)

/-- The tile port responds to its core (R443). -/
def State.coreAns (s : State) (ni : Nat) (err : Bool) (data : Nat) : State := { s with cr := s.cr.put ni ⟨err, data⟩ }

/-! ## Tenancy and map -/

/-- The lifecycle state of an NI (R368). Log entry 126, DESIGN CHOICE. -/
def State.tnState (s : State) (ni : Nat) : Nat := s.fld NI_TN_STATE_STATE ni
def State.owner (s : State) (ni : Nat) : Nat := s.fld NI_TN_STATE_OWNER ni

/-- Logical tiles of the grade (R5). -/
def State.tiles (s : State) : Nat := if s.fuse.grade = 0 then 2160 else 2016

/-- The physical slot of logical tile t in the map of an NI, none where the entry is not valid. -/
def State.lmap (s : State) (ni t : Nat) : Option Nat :=
  if t % 2 = 0 then
    (if s.fld NI_LMAP_VALID_EVEN ni (t / 2) = 1 then some (s.fld NI_LMAP_SLOT_EVEN ni (t / 2)) else none)
  else (if s.fld NI_LMAP_VALID_ODD ni (t / 2) = 1 then some (s.fld NI_LMAP_SLOT_ODD ni (t / 2)) else none)

/-- The physical slot of logical tile t in a host port's map. -/
def State.hpLmap (s : State) (hp t : Nat) : Option Nat :=
  if t % 2 = 0 then
    (if s.fld HP_LMAP_VALID_EVEN hp (t / 2) = 1 then some (s.fld HP_LMAP_SLOT_EVEN hp (t / 2)) else none)
  else (if s.fld HP_LMAP_VALID_ODD hp (t / 2) = 1 then some (s.fld HP_LMAP_SLOT_ODD hp (t / 2)) else none)

/-- The logical tile of a slot in the map of an NI; 0xFFF where it has none. -/
def State.ltileOf (s : State) (ni slot : Nat) : Nat :=
  ((List.range s.tiles).find? (fun t => s.lmap ni t = some slot)).getD 0xFFF

/-- The chip's own id (R442). -/
def State.chipId (s : State) : Nat := s.fld FB_STRAP_CHIP

/-- Strict mode (R251). -/
def State.strict (s : State) : Bool := s.fld FB_MODE_STRICT = 1

/-- Fields of a fabric global address (R13). -/
def adChip (a : Nat) : Nat := bits a 63 52
def adSpace (a : Nat) : Nat := bits a 51 50
def adTile (a : Nat) : Nat := bits a 49 38
def adHandle (a : Nat) : Nat := bits a 37 30
def adOfs (a : Nat) : Nat := bits a 29 0
def adBig (a : Nat) : Nat := bits a 49 0

/-! ## Wait tables -/

/-- The wait table of an NI takes an entry for a wait that began at beat `since`, or counts OVERFLOW when all 16 are in use (R427). -/
def State.waitTakeAt (s : State) (ni kind ak aw obj layer tag since : Nat) : State :=
  match (List.range 16).find? (fun n => s.fld NI_WAIT_INFO_KIND ni n = 0) with
  | none => s.addFld NI_WAIT_STATUS_OVERFLOW 1 ni
  | some n =>
    let s := s.wr NI_WAIT_INFO ni n (kind <<< 28 + ak <<< 24 + (aw % 4096) <<< 12)
    let s := s.wr NI_WAIT_OBJ ni n ((obj % 65536) <<< 16 + layer)
    (s.wr NI_WAIT_TAG ni n tag).wr NI_WAIT_SINCE ni n (since % 2 ^ 32)

/-- As `waitTakeAt`, for a wait that begins now. -/
def State.waitTake (s : State) (ni kind ak aw obj layer tag : Nat) : State :=
  s.waitTakeAt ni kind ak aw obj layer tag (s.accC (regionOf ni))

/-- The wait table frees the entry of a wait (R427): the one with this kind, object and tag. -/
def State.waitFree (s : State) (ni kind obj tag : Nat) : State :=
  match (List.range 16).find? (fun n => s.fld NI_WAIT_INFO_KIND ni n = kind ∧
      s.fld NI_WAIT_OBJ_OBJECT ni n = obj % 65536 ∧ s.fld NI_WAIT_TAG_TAG ni n = tag) with
  | none => s
  | some n => (((s.wr NI_WAIT_INFO ni n 0).wr NI_WAIT_OBJ ni n 0).wr NI_WAIT_TAG ni n 0).wr NI_WAIT_SINCE ni n 0

/-- The wait table frees every entry of a kind (R427). Log entry 81, DEDUCED. -/
def State.waitClear (s : State) (ni kind : Nat) : State :=
  (List.range 16).foldl (fun s n =>
    if s.fld NI_WAIT_INFO_KIND ni n = kind then
      (((s.wr NI_WAIT_INFO ni n 0).wr NI_WAIT_OBJ ni n 0).wr NI_WAIT_TAG ni n 0).wr NI_WAIT_SINCE ni n 0
    else s) s

/-! ## Transactions -/

/-- The tags of a source port in use: of its open transactions, and of its transfers that have not ended (R101). -/
def State.txnsOf (s : State) (src : Nat) : List Nat :=
  ((s.otx.filter (fun o => o.src == src)).map (fun o => o.txn) ++ ((s.xfers.filter (fun x => x.ni == src)).map (fun x => x.txn))).dedup

/-- The lowest transaction tag of a source port that is not in use (R101, R102); a tag whose credit request was cancelled, and whose grant may
still come, only where no other is left. Log entry 148, DESIGN CHOICE. -/
def State.freeTxn (s : State) (src : Nat) : Nat :=
  let free := (List.range 4096).filter (fun t => !((s.txnsOf src).contains t))
  match free.find? (fun t => !(s.cancelled.any (fun c => c.1 == src && c.2.1 == t))) with
  | some t => t
  | none => free.headD 0

/-- A source has given up a credit request that its target may still grant (R137): by a cancel, or since it `late` timed out (R121). -/
def State.giveUp (s : State) (src txn : Nat) (late : Bool) : State := { s with cancelled := s.cancelled ++ [(src, txn, late)] }

/-- k free tags exist (R102): issue waits while all 4,096 are in use. -/
def State.txnRoom (s : State) (src : Nat) (k : Nat := 1) : Bool := decide ((s.txnsOf src).length + k ≤ 4096)

/-- A source port opens a transaction (R102); the beat is kept for the wait table (R427), and a cancelled request of its tag is forgotten. -/
def State.addTx (s : State) (o : OTx) : State :=
  { s with
    otx := s.otx ++ [{ o with since := if o.src < 2304 then s.accC (regionOf o.src) else s.S }]
    cancelled := s.cancelled.filter (fun c => !(c.1 == o.src && c.2.1 == o.txn)) }
def State.findTx (s : State) (src txn : Nat) : Option OTx := s.otx.find? (fun o => o.src == src && o.txn == txn)

/-- The TAG of the descriptor that a transaction serves; 0 where it serves none (R427). -/
def State.txTag (s : State) (o : OTx) : Nat :=
  match s.descs.find? (fun d => d.id == o.desc) with
  | some d => bits (d.words.getD 1 0) 31 0
  | none => 0

/-- The wait-table entry of an open answer ends with it (R427). Log entry 81, DEDUCED. -/
def State.txUnwait (s : State) (o : OTx) : State := if o.noted then s.waitFree o.src 7 o.txn (s.txTag o) else s

/-- A transaction ends (R102). -/
def State.delTx (s : State) (src txn : Nat) : State :=
  let s := match s.findTx src txn with
    | some o => s.txUnwait o
    | none => s
  { s with otx := delFirst (fun o => o.src == src && o.txn == txn) s.otx }

/-! ## One step's frame -/

/-- The shape of every meaning: a command with operands in range takes the state through `f`; C and H, the fuses and the
queue stay as they are (R37: only a mark, a LOAD or a sync adjustment changes C), and the sampling counter advances.
Log entry 2, DESIGN CHOICE; log entry 6, DESIGN CHOICE; log entry 19, DESIGN CHOICE. -/
def run (c : Instr) (s : State) (f : State → State) : Host.Outcome State Fault Refusal :=
  if c.wf then
    .next { f s with time := s.time, fuse := s.fuse, pending := s.pending, fresh := s.fresh + 1 }
  else .fault .malformed

/-- As `run`, for the commands that may change C or H (R37): a mark, a LOAD and the resets.
Log entry 2, DESIGN CHOICE; log entry 6, DESIGN CHOICE. -/
def runTime (c : Instr) (s : State) (f : State → State) : Host.Outcome State Fault Refusal :=
  if c.wf then .next { f s with fuse := s.fuse, pending := s.pending, fresh := s.fresh + 1 }
  else .fault .malformed

end Sys2Proof.Machine
end

