-- ==== Sys2Proof/Machine/Flags.lean ====
section
/-!
DEFINITION. Completion statuses, their order of precedence, and the flags of a completion (R233, R239, R467).
-/

namespace Sys2Proof.Machine

def stOK : Nat := 0x00
def stWINDOW_CLOSED : Nat := 0x10
def stNO_CREDIT : Nat := 0x11
def stWINDOW_UNKNOWN : Nat := 0x12
def stPARTIAL_MULTICAST : Nat := 0x13
def stDATA_ERROR : Nat := 0x20
def stLINK_LOST : Nat := 0x21
def stTARGET_FENCED : Nat := 0x22
def stSTRICT_FORBIDDEN : Nat := 0x30
def stACCESS_DENIED : Nat := 0x31
def stBAD_DESCRIPTOR : Nat := 0x32
def stCHART_STALE : Nat := 0x33
def stABORTED : Nat := 0x40
def stTIMEOUT : Nat := 0x41
def stREDUCE_OVERFLOW : Nat := 0x50
def stAP_BUSY : Nat := 0x60

/-- The order of R467, first to last. -/
def statusOrder : List Nat :=
  [stACCESS_DENIED, stBAD_DESCRIPTOR, stSTRICT_FORBIDDEN, stWINDOW_UNKNOWN, stCHART_STALE, stTARGET_FENCED, stABORTED,
   stTIMEOUT, stLINK_LOST, stDATA_ERROR, stWINDOW_CLOSED, stNO_CREDIT, stPARTIAL_MULTICAST, stREDUCE_OVERFLOW, stOK]

/-- The status that a completion carries when its parts ended with these: the first of R467 among them; OK for none. -/
def firstStatus (l : List Nat) : Nat := (statusOrder.find? (fun x => l.contains x)).getD stOK

/-- The status of a DROP at the source (R107). -/
def dropStatus (reason : Nat) : Nat := if reason = 3 then stBAD_DESCRIPTOR else stTARGET_FENCED

/-- The status of a CREDIT_ANS result that ends a unicast transfer (R127, R162). -/
def creditStatus (result : Nat) : Nat :=
  match result with
  | 1 | 2 => stNO_CREDIT
  | 3 => stWINDOW_CLOSED
  | 4 => stWINDOW_UNKNOWN
  | 5 => stACCESS_DENIED
  | _ => stTARGET_FENCED

/-- Bits 23:16 of completion word 0 (R233). -/
def cplFlags (repaired strict held prov last late : Bool) : Nat :=
  b2n repaired + 2 * b2n strict + 4 * b2n held + 8 * b2n prov + 16 * b2n last + 32 * b2n late

/-- PHASE of completion index w in a ring of 2^n entries (R236). -/
def phaseBit (w n : Nat) : Nat := (w / 2 ^ n + 1) % 2

end Sys2Proof.Machine
end

