-- ==== Sys2Proof/Machine/Combine.lean ====
section
/-!
DEFINITION. Combining of multicast answers at the routers of a tree (R152, R154, R156, R158).
-/

namespace Sys2Proof.Machine

/-- The counts of a combined CREDIT_ANS in the order of R154: N_OK, N_SHORT, LOW_SHORT, N_UNSAT, N_CLOSED, N_UNKNOWN,
N_DENIED, N_FENCED, LOW_BAD. -/
def addCredit (a b : List Nat) : List Nat :=
  (List.range 9).map (fun i =>
    if i = 2 ∨ i = 8 then min (a.getD i 0xFFF) (b.getD i 0xFFF) else a.getD i 0 + b.getD i 0)

/-- One member's answer as counts (R154). -/
def creditCounts (result lt : Nat) : List Nat :=
  [b2n (result == 0), b2n (result == 1), if result = 1 then lt else 0xFFF, b2n (result == 2), b2n (result == 3),
   b2n (result == 4), b2n (result == 5), b2n (result == 6), if result ≤ 1 then 0xFFF else lt]

/-- No answers yet. -/
def noCredit : List Nat := [0, 0, 0xFFF, 0, 0, 0, 0, 0, 0xFFF]

/-- The counts of a combined WRITE_ACK (R156): N_OK, N_ERR, N_CLOSED, N_DENIED, MISS. -/
def addAck (a b : List Nat) : List Nat :=
  (List.range 5).map (fun i => if i = 4 then max (a.getD i 0) (b.getD i 0) else a.getD i 0 + b.getD i 0)

/-- One member's acknowledgement as counts (R156). Log entry 174, DESIGN CHOICE. -/
def ackCounts (status : Nat) : List Nat :=
  [b2n (status == 0), b2n (status == stDATA_ERROR), b2n (status == stWINDOW_CLOSED || status == stNO_CREDIT ||
    status == stWINDOW_UNKNOWN), b2n (status == stACCESS_DENIED), 0]

/-- The input number that a combining slot of the root holds: its answer leaves by unicast (R152). -/
def rootIn : Nat := 9

/-- The input by which what a router's combining slots send competes for its outputs. -/
def slotIn : Nat := 6

/-- A combining slot that has all its answers sends one combined answer back and frees (R152): through the input the packet
came from, on the escape channel of the generation in which it came (R111), or from the root by unicast to the source. An answer on its way
up the tree keeps the source's coordinates and names the group as destination. Either waits for its output as other packets do (R97).
Log entry 57, DEDUCED. -/
def State.slotDone (s : State) (slot : Nat) (c : CombSlot) : State :=
  if c.got < c.expect then s else
    let s := s.modRt slot (fun r => { r with slots := delFirst (fun x => decide (x = c)) r.slots })
    let args := if c.credit then [0, 0, 0, 1] ++ c.counts else [0, c.pktNo, 1] ++ c.counts
    let op := if c.credit then opCREDIT_ANS else opWRITE_ACK
    if c.inPort = rootIn then s.push (.router slot slotIn) (mkPkt op (niLoc slot) c.src 0 0 c.txn args)
    else
      let p := { mkPkt op c.src (groupLoc c.group) 0 0 c.txn args with esc := true, egen := c.gen }
      s.modRt slot (fun r => { r with held := r.held ++ [(⟨p, slotIn, c.inPort, 0, false, 0, 4 + c.gen⟩ : Held)] })

/-- An answer has reached a combining slot. -/
def State.slotAnswer (s : State) (slot : Nat) (c : CombSlot) (port : Nat) (counts : List Nat) : State :=
  let c' := { c with got := c.got + 1, waitOn := c.waitOn.erase port,
                     counts := if c.credit then addCredit c.counts counts else addAck c.counts counts }
  (s.modRt slot (fun r => { r with slots := updFirst (fun x => decide (x = c)) (fun _ => c') r.slots })).slotDone slot c'

/-- The combining slot that an answer belongs to. -/
def State.slotFor (s : State) (slot : Nat) (p : Pkt) : Option CombSlot :=
  (s.rt slot).slots.find? (fun c => decide (c.src = p.src) && c.txn == p.txn && decide (groupLoc c.group = p.dst) &&
    c.credit == decide (p.kind = opCREDIT_ANS) && (c.credit || c.pktNo == p.arg 1))

/-- A branch of a combining slot has gone out of service: the router answers for it (R154, R158). Log entry 55, DEDUCED. -/
def State.combFenced (s : State) (slot port : Nat) : State :=
  let cs := (s.rt slot).slots.filter (fun c => c.waitOn.contains port)
  cs.foldl (fun s c =>
    s.slotAnswer slot c port
      (if c.credit then creditCounts 6 (if port = 4 then s.ltileOf slot slot else 0xFFF) else [0, 0, 0, 0, 1])) s

end Sys2Proof.Machine
end

