-- ==== Sys2Proof/Machine/ErrOps.lean ====
section
/-!
DEFINITION. Logbooks, traces, error events and fences: what any unit does when it records an event (R273 to R287, R420 to
R427).
-/

namespace Sys2Proof.Machine

/-! ## Logbooks -/

/-- Add an entry to a unit's logbook unless it is frozen (R425, R426). Log entry 45, DESIGN CHOICE. -/
def State.log (s : State) (k : UnitKind) (i code peerKind peer detail : Nat) : State :=
  if s.fld (LOG_PTR_FREEZE k) i = 1 ∨ s.clockOff (domOf k i) = true then s else
    let d := domOf k i
    let n := s.fld (LOG_PTR_NEXT k) i
    let e : LogE := ⟨s.stampOf d, s.extOf d, code, peerKind, peer % 4096, detail % 2 ^ 32⟩
    let s := { s with logs := s.logs.put (64 * errKey k i + n) e }
    ((s.addFld (LOG_PTR_TOTAL k) 1 i).setFld (LOG_PTR_NEXT k) (n + 1) i).stamped d

/-- Freeze a logbook: a 0x7F entry, then nothing more (R426). -/
def State.freezeLog (s : State) (k : UnitKind) (i : Nat) : State :=
  if s.fld (LOG_PTR_FREEZE k) i = 1 then s else (s.log k i 0x7F 15 0 0).setFld (LOG_PTR_FREEZE k) 1 i

/-! ## Traces -/

/-- What of a descriptor a trace record names (R420): word 0, TAG and word 2 of the descriptor. -/
structure TraceId where
  w0 : Nat
  tag : Nat
  w2 : Nat
  deriving DecidableEq, Repr

/-- The four words of a trace record (R420). -/
def State.traceWords (s : State) (ni ty ten : Nat) (d : Option TraceId) (ak aw obj arg : Nat) : List Nat :=
  let dom := regionOf ni
  let t := d.getD ⟨0, 0, 0⟩
  let layer := bits t.w0 47 32
  let oper := bits t.w0 63 48
  let noid := d.isSome && layer == 0xFFFF && oper == 0xFFFF
  let lay := if noid then bits arg 31 16 else layer
  let ope := if noid then bits arg 15 0 else oper
  [s.stampOf dom,
   s.extOf dom <<< 56 + ty <<< 51 + b2n noid <<< 50 + ten <<< 44 + s.ltileOf ni ni <<< 32 + t.tag,
   lay <<< 48 + ope <<< 32 + ak <<< 28 + (aw % 4096) <<< 16 + obj % 65536,
   if noid then t.w2 else arg % 2 ^ 32]

/-- Record a trace record of an enabled type, or count it lost when the buffer is full (R421, R422), or
holds no place for the LOST record before it. Log entry 78, DESIGN CHOICE. -/
def State.traceRec (s : State) (ni ty ten : Nat) (d : Option TraceId) (ak aw obj arg : Nat) : State :=
  let en := s.fld NI_TRACE_CFG_ENABLE ni = 1 ∧ bit (s.fld NI_TRACE_CFG_TYPES ni) (ty - 1) = true ∧
    (s.fld NI_TRACE_CFG_ALL_TEN ni = 1 ∨ s.fld NI_TRACE_CFG_TENANCY ni = ten) ∧ s.clockOff (regionOf ni) = false
  let dom := regionOf ni
  if en then
    let b := s.trace.get ni {}
    let need := if b.dropped = 0 then 1 else 2
    if 16 < b.recs.length + need then
      ({ s with trace := s.trace.put ni { b with dropped := b.dropped + 1 } }).addFld NI_TRACE_STATUS_LOST 1 ni
    else
      let pre := if b.dropped = 0 then [] else [s.traceWords ni 0x1E 0 none 15 0 0 b.dropped]
      let rs := b.recs ++ pre ++ [s.traceWords ni ty ten d ak aw obj arg]
      let ats := b.ats ++ List.replicate need (s.rg dom).L
      { s with trace := s.trace.put ni { b with recs := rs, dropped := 0, ats := ats } }.stamped dom
  else s

/-! ## The Binnacle's attention and log -/

/-- Stolrel raises vector 4,096 on host port 0 (R452). Log entry 49, DEDUCED. -/
def State.bnIrq (s : State) : State :=
  s.modHp 0 (fun p => { p with irq := if p.irq.contains 4096 then p.irq else p.irq ++ [4096] })

/-- Stolrel makes a log entry (R395): it waits in SRAM, or is dropped when 256 are waiting (R396). SEVERE, REPAIR, UNREPAIRED and TRIP
raise the attention (R452). Log entry 45, DESIGN CHOICE; log entry 46, DEDUCED. -/
def State.bnLog (s : State) (ty kind unit : Nat) (data : List Nat) : State :=
  if 256 ≤ s.bn.waiting.length then s.addFld BN_LOG_STATUS_DROPPED 1
  else
    let w0 := s.bn.seq <<< 32 + ty <<< 24 + kind <<< 20 + (unit % 4096) <<< 8 + s.extOf 62
    let e := [w0, s.stampOf 62, s.bn.version, s.bn.boots <<< 32, data.getD 0 0, data.getD 1 0, data.getD 2 0]
    let s := (s.modBn (fun b => { b with waiting := b.waiting ++ [e], seq := (b.seq + 1) % 2 ^ 32 })).stamped 62
    if ty = 3 ∨ ty = 4 ∨ ty = 5 ∨ ty = 7 then s.bnIrq else s

/-- Stolrel logs a SEVERE message (R395): the unit's kind and number, and the message's two flits. -/
def State.severeLog (s : State) (p : Pkt) : State :=
  let kind := p.arg 4
  let fl := p.flits
  s.bnLog 3 kind (if kind ≤ 1 ∨ kind = 6 then p.src.slot else p.arg 5) [fl.getD 0 0, fl.getD 1 0]

/-! ## Error events -/

/-- Where a unit's messages come from: its coordinates and port (R33, R279). Log entry 162, DESIGN CHOICE. -/
def unitLoc (k : UnitKind) (i : Nat) : Loc :=
  match k with
  | .ni | .red => niLoc i
  | .rg => niLoc (regionSlot i 0)   -- `sendMsg` names the router that serves
  | .mp => mpLoc i 0
  | .ol => olLoc i
  | .hp => hpLoc i
  | .tp => tpLoc
  | .bn => bnLoc

/-- Whether a source acts at once (R275, R276). -/
def atOnce (k : UnitKind) (src : Nat) : Bool :=
  match k with
  | .ni => src == 4 || src == 5 || src == 8
  | .red => src == 2 || src == 3
  | .rg => src == 1 || src == 2 || src == 3 || src == 4
  | .mp => src == 4 || src == 5
  | .ol => src == 3 || src == 4 || src == 6
  | .hp => src == 5 || src == 6
  | .tp => src == 2
  | .bn => src == 1 || src == 2 || src == 3

/-- The actions of R277. -/
inductive Act where
  | report | stop | mlink | f1 | f2 | f3 | safe | lane | link
  deriving DecidableEq, Repr

/-- The action of a source that becomes SEVERE (R275, R276). -/
def onSevere (k : UnitKind) (src : Nat) : Act :=
  match k, src with
  | .ni, 1 | .ni, 2 => .mlink
  | .ni, 3 | .ni, 4 => .f2
  | .ni, 5 | .ni, 7 | .ni, 8 => .f1
  | .red, 1 | .red, 2 | .red, 3 => .safe
  | .rg, 1 => .f3
  | .rg, 2 => .stop
  | .rg, 3 | .rg, 4 => .safe
  | .mp, 4 | .mp, 5 => .safe
  | .ol, 2 => .lane
  | .ol, 3 | .ol, 4 => .link
  | .ol, 6 => .safe
  | .hp, 5 | .hp, 6 => .safe
  | .tp, 2 => .safe
  | .bn, 1 | .bn, 2 | .bn, 3 => .safe
  | _, _ => .report

/-- A message leaves its unit (R33): a region controller's enters the mesh at the lowest-numbered router of its region that is in service,
and where there is none it goes over the region link. Log entry 162, DESIGN CHOICE. -/
def State.sendMsg (s : State) (p : Pkt) : State :=
  if p.arg 4 = UnitKind.rg.code then
    match ((List.range 64).map (regionSlot (p.arg 5))).find? (fun t => !(s.gone t)) with
    | some t => s.emit { p with src := niLoc t }
    | none => s.push (.unit { bnLoc with port := 5 }) p
  else s.emit p

/-- Send an error message (R279), or keep it while the Binnacle is in reset: one is held and the rest are counted (R33).
The Binnacle's own events go straight to Stolrel, and are lost while it does not run. Log entry 162, DESIGN CHOICE. -/
def State.errMsg (s : State) (k : UnitKind) (i src : Nat) (severe self : Bool) (detail : Nat) : State :=
  let idx := match k with | .ni | .red | .tp => 0 | _ => i
  let safe := s.fld (xx_ERR_STATUS_SAFE k) i
  let p := mkPkt opERR_MSG (unitLoc k i) { bnLoc with port := 5 } 0 0 0
    [if self then 0 else src, b2n severe, safe, b2n self, k.code, idx, detail, s.accC (domOf k i) % 2 ^ 32]
  if k = .bn then (if s.bnUp && severe then s.severeLog p else s) else
    let e := s.eu k i
    if s.bnUp then s.sendMsg p
    else if e.pendMsg.isNone then
      (s.setEu k i { e with pendMsg := some p }).setFld (xx_ERR_STATUS_MSG_PENDING k) 1 i
    else s.addFld (xx_ERR_MSG_LOST_LOST k) 1 i

/-- An event becomes SEVERE (R278). -/
def State.eventSevere (s : State) (k : UnitKind) (i src : Nat) : Bool :=
  if atOnce k src then true else
    let e := s.eu k i
    let t := s.accC (domOf k i)
    let c := e.winCount.get src 0
    let fresh := c = 0 ∨ zeroAsOne (s.fld (xx_ERR_CLASS_WINDOW k) i src) * 10000 ≤ beatSub t (e.winStart.get src 0)
    let n := if fresh then 1 else c + 1
    zeroAsOne (s.fld (xx_ERR_CLASS_THRESH k) i src) ≤ n

/-- The window count of a source after an event (R278). -/
def State.eventWindow (s : State) (k : UnitKind) (i src : Nat) (severe : Bool) : State :=
  let e := s.eu k i
  let t := s.accC (domOf k i)
  let c := e.winCount.get src 0
  let fresh := c = 0 ∨ zeroAsOne (s.fld (xx_ERR_CLASS_WINDOW k) i src) * 10000 ≤ beatSub t (e.winStart.get src 0)
  if atOnce k src then s.setEu k i { e with winCount := e.winCount.put src 0 }
  else s.setEu k i { e with
    winStart := if fresh then e.winStart.put src t else e.winStart
    winCount := e.winCount.put src (if severe then 0 else if fresh then 1 else c + 1) }

/-- A unit records no event of a source: the clock of its domain has stopped (R57). The clock monitor of a region controller reports the
loss all the same (R48). Log entry 139, DEDUCED. -/
def State.mute (s : State) (k : UnitKind) (i src : Nat) : Bool := !(k == .rg && decide (src < 2)) && s.clockOff (domOf k i)

/-- An event is reported: it becomes SEVERE, or its unmasked source bit rises (R278, R279). -/
def State.eventTold (s : State) (k : UnitKind) (i src : Nat) : Bool :=
  s.eventSevere k i src || (!bit (s.fld (xx_ERR_STATUS_SOURCE k) i) src && !bit (s.fld (xx_ERR_MASK_MASK k) i) src)

/-- The event of R278 in the error set: without the action of its source and without its message. -/
def State.noteEvent (s : State) (k : UnitKind) (i src detail : Nat) (injected : Bool) : State :=
  let d := domOf k i
  let severe := s.eventSevere k i src
  let old := s.fld (xx_ERR_STATUS_SOURCE k) i
  let s := s.satFld (xx_ERR_COUNT_EVENTS k) 1 i src
  let n := s.fld (xx_ERR_HIST_PTR_NEXT k) i
  let e := s.eu k i
  let h : HistE := ⟨s.stampOf d, s.extOf d, src, severe, injected, detail % 2 ^ 18⟩
  let s := (s.setEu k i { e with hist := e.hist.put n h, met := e.parityArmed }).stamped d
  let s := (s.addFld (xx_ERR_HIST_PTR_TOTAL k) 1 i).setFld (xx_ERR_HIST_PTR_NEXT k) (n + 1) i
  let s := if old = 0 then (s.setFld (xx_ERR_FIRST_FIRST k) src i).setFld (xx_ERR_FIRST_VALID k) 1 i else s
  let s := s.setFld (xx_ERR_STATUS_SOURCE k) (old ||| 2 ^ src) i
  let s := s.eventWindow k i src severe
  if severe then
    let s := s.setFld (xx_ERR_STATUS_SEVERE k) 1 i
    if s.fld (xx_ERR_FIRST_SEV_VALID k) i = 1 then s
    else (s.setFld (xx_ERR_FIRST_FIRST_SEVERE k) src i).setFld (xx_ERR_FIRST_SEV_VALID k) 1 i
  else s

/-- An event whose source has no action of its own (R278): it is recorded, and its message sent. -/
def State.recordEvent (s : State) (k : UnitKind) (i src detail : Nat) (injected : Bool) : State :=
  if s.mute k i src then s
  else if s.eventTold k i src then (s.noteEvent k i src detail injected).errMsg k i src (s.eventSevere k i src) false detail
  else s.noteEvent k i src detail injected

/-! ## Fences -/

/-- The fence level of a slot: 0 in service, 1 F1, 2 F2 (R283). -/
def State.level (s : State) (slot : Nat) : Nat := s.fence.level.get slot 0

/-- The power enable of a region (R441). -/
def State.powered (s : State) (r : Nat) : Bool :=
  if r < 32 then bit (s.fld BN_PWR_EN0_EN) r else bit (s.fld BN_PWR_EN1_EN) (r - 32)

/-- A slot's router is there: not at F2, its region neither at F3 nor unpowered. -/
def State.routerUp (s : State) (slot : Nat) : Bool :=
  !(s.gone slot)

/-- A slot's NI is in service: its router is, the slot is not at F1 and the NI is not in its safe state (R282, R283). -/
def State.niUp (s : State) (slot : Nat) : Bool :=
  s.routerUp slot && s.level slot == 0 && s.fld (xx_ERR_STATUS_SAFE .ni) slot == 0

/-- The mesh link of a port, named by its west or north end (R292). -/
def meshLink (slot port : Nat) : Nat × Nat :=
  match port with
  | 0 => (slot - 48, 2)
  | 1 => (slot, 1)
  | 2 => (slot, 2)
  | _ => (slot - 1, 1)

/-- An attachment is reachable: not in its safe state (R282). -/
def State.attachUp (s : State) (a : Attach) : Bool :=
  match a with
  | .mp n _ => s.fld (xx_ERR_STATUS_SAFE .mp) n == 0
  | .ol n => s.fld (xx_ERR_STATUS_SAFE .ol) n == 0
  | .hp n => s.fld (xx_ERR_STATUS_SAFE .hp) n == 0
  | .tp => true

/-- A port of a router is out of service or absent (R17, R109, R283). Port 4 is L. -/
def State.portOut (s : State) (slot port : Nat) : Bool :=
  if port = 4 then !(s.niUp slot) else
    match neighbour slot port with
    | some n => s.fence.mlinks.contains (meshLink slot port) || !(s.routerUp n)
    | none =>
      match attachOf ⟨slot % 48, slot / 48, port + 1⟩ with
      | some a => !(s.attachUp a)
      | none => true

/-- Ports that the entries of a segment claim or book (R285). -/
def SegImg.uses (g : SegImg) (port : Nat) : Bool :=
  g.entries.any (fun e => e.action != 0 &&
    ((e.inPort == port && !(e.action == 4 && e.cstep == 3)) || bit e.outMask port || (port == 4 && e.action == 3)))

/-- A reduction that awaits a child behind a port that has gone out of service fails (R190). -/
def State.redFenced (s : State) (slot port : Nat) : State :=
  ((s.rt slot).reds.filter (fun r => r.kids.contains port)).foldl (fun s r =>
    s.emit (mkPkt opRED_FAIL (niLoc slot) (niLoc r.root) r.ten 0 r.rid [r.rid, stTARGET_FENCED])) s

/-- Where a chart's reports go: its launching NI, or for a system chart the Binnacle (R410), by the router it sent START from (R99). -/
def ChartRun.home (c : ChartRun) : Loc := { niLoc c.launcher with port := if c.system then 5 else 0 }

/-- The job's side of a fence that Stolrel sees: FB_REPAIR_STATUS shows FENCED until a map is published (R293). -/
def State.repairFenced (s : State) : State := s.setFld FB_REPAIR_STATUS_STATE 1

/-- An NI or router has detected a segment error: it keeps its first status and sends SEG_ABORT once (R84). Log entry 95, DEDUCED. -/
def State.segFail (s : State) (slot seg status : Nat) : State :=
  match s.ch slot with
  | none => s
  | some c =>
    if c.sent then s else
      let st := if c.status = 0 then status else c.status
      let s := s.setCh slot (some { c with status := st, sent := true, loading := none })
      (s.emit (mkPkt opSEG_ABORT (niLoc slot) c.home 0 0 0 [st, c.chart, seg])).log .ni slot 0x09 15 0 st

/-- A segment error that comes of a fence: FENCED_PORT, or scheduled flits lost in a flushed queue (R54, R285, R295).
Log entry 62, DEDUCED. -/
def State.segFence (s : State) (slot seg : Nat) : State :=
  match s.ch slot with
  | none => s
  | some c => if c.sent then s else (s.setCh slot (some { c with fence := c.status == 0 })).segFail slot seg stABORTED

/-- A port of a router has gone out of service: a current segment that uses it is recorded FENCED_PORT, to be aborted at the
router's next local beat; one that is loaded or waits for contexts is refused, and completes TARGET_FENCED unless the current one aborts
(R66, R76, R285). Combining slots that await its answer are answered (R154). `note` records the event of the NI. -/
def State.portGone (s : State) (note : State → State) (slot port : Nat) : State :=
  let s := (s.combFenced slot port).redFenced slot port
  let r := s.rt slot
  let hit := fun (g : Option SegImg) => match g with | some g => g.uses port | none => false
  let curHit := hit r.cur
  let wait := (s.ch slot).bind (fun c => c.waitSeg)
  let s := if curHit && !r.fencedSeg then note (s.modRt slot (fun r => { r with fencedSeg := true })) else s
  let s := if hit r.idle then
      let s := note (s.modRt slot (fun r => { r with idle := none }))
      if curHit then s else s.segFail slot ((r.idle.map (fun g => g.seg)).getD 0) stTARGET_FENCED
    else s
  if hit wait then
    match s.ch slot with
    | none => s
    | some c =>
      let s := note (s.setCh slot (some { c with waitSeg := none }))
      if curHit then s else s.segFail slot ((wait.map (fun g => g.seg)).getD 0) stTARGET_FENCED
  else s

/-- The NIs of the slots that satisfy p abandon their descriptors (R238, R282): a ring keeps count of those it has lost.
Log entry 63, DEDUCED. -/
def State.abandon (s : State) (p : Nat → Bool) : State :=
  let lost := fun (o : Nat) => (s.descs.filter (fun d => p d.ni && d.origin == o)).length
  { s with
    descs := s.descs.filter (fun d => !(p d.ni))
    waits := s.waits.filter (fun w => !(p w.ni))
    cplq := s.cplq.filter (fun c => !(p c.ni))
    xfers := s.xfers.filter (fun x => !(p x.ni))
    redm := s.redm.filter (fun m => !(p m.ni))
    launches := s.launches.filter (fun l => !(p l.ni))
    ring := s.ring.map (fun e =>
      if e.1 < 4096 ∧ p e.2.ni = true then
        (e.1, { e.2 with gone := e.2.gone + lost e.1, reading := false, again := false, fetching := 0, bell := false })
      else e) }

/-- An armed parity injection of an NI's error set has met an update (R281, R282, R301): the NI enters its safe state, and its slot is at F1. -/
def State.niParity (s : State) (i : Nat) : State :=
  let s := ((s.setEu .ni i { s.eu .ni i with parityArmed := false, met := false }).setFld (xx_ERR_INJECT_ARM .ni) 0 i).setFld
    (xx_ERR_STATUS_SELF_PARITY .ni) 1 i
  let s := if s.fld (xx_ERR_STATUS_SAFE .ni) i = 1 then s else
    let s := (s.setFld (xx_ERR_STATUS_SAFE .ni) 1 i).freezeLog .ni i
    if s.level i = 0 then
      ((({ s with fence := { s.fence with level := s.fence.level.put i 1 } }).abandon (fun n => n == i)).portGone
        (fun s => s.recordEvent .ni i 9 31 false) i 4).repairFenced
    else s
  s.errMsg .ni i 0 false true 0

/-- An event of an NI that a fence raises: an armed parity injection meets the update (R301). -/
def State.niEvent (s : State) (i src detail : Nat) : State :=
  let t := s.recordEvent .ni i src detail false
  if (t.eu .ni i).parityArmed && !s.mute .ni i src then t.niParity i else t

/-- A port of a router has gone out of service (R66, R285). -/
def State.fencedPort (s : State) (slot port : Nat) : State := s.portGone (fun s => s.niEvent slot 9 31) slot port

/-- A packet belongs to an open transaction: the request that opened it, or an answer to it. -/
def OTx.has (o : OTx) (p : Pkt) : Bool :=
  o.txn == p.txn && srcKey (if p.net = .rsp ∨ p.kind = opREAD_DATA then p.dst else p.src) == o.src &&
    !([opRED_DATA, opRED_RESULT, opRED_FAIL, opRED_ACK, opRED_BUSY, opBELL, opCREDIT_RETURN, opSEG_DONE, opSLICE_ANS].contains p.kind) &&
    p.net != .snp

/-- Discard the scheduled flits and the packets of a queue that is flushed; an open transaction keeps that it has lost a packet (R54).
Log entry 144, DEDUCED. -/
def State.flushQueue (s : State) (hitS : SFlit → Bool) (hitN : Place → Bool) : State :=
  let lost := (s.net.filter (fun f => hitN f.place)).map (fun f => f.pkt)
  { s with
    sched := s.sched.filter (fun f => !(hitS f))
    net := s.net.filter (fun f => !(hitN f.place))
    otx := if lost.isEmpty then s.otx else s.otx.map (fun o => if lost.any o.has then { o with lost := true } else o) }

/-- A port or link on the surviving side of a flushed queue records QUEUE_FLUSH, and its event counter counts the n entries that were
discarded (R54, R276). Log entry 165, DEDUCED. -/
def State.flushCount (s : State) (k : UnitKind) (i src n : Nat) : State :=
  if s.mute k i src then s else (s.recordEvent k i src 0 false).satFld (xx_ERR_COUNT_EVENTS k) (n - 1) i src

/-- The unit on the surviving side of a flushed queue records QUEUE_FLUSH, an NI with the number of entries as DETAIL; where scheduled flits
were lost the segment is aborted, ABORTED (R54). Log entry 165, DEDUCED. -/
def State.flushSeen (s : State) (a : Attach ⊕ Nat) (flits packets : Nat) : State :=
  match a with
  | .inr n =>
    if flits + packets = 0 ∨ s.routerUp n = false then s
    else
      let s := s.niEvent n 14 (min 4095 (flits + packets))
      if flits = 0 then s else s.segFence n (((s.rt n).cur.map (fun g => g.seg)).getD 0)
  | .inl a =>
    if flits + packets = 0 then s
    else match a with
      | .mp n _ => s.flushCount .mp n 6 (flits + packets)
      | .ol n => s.flushCount .ol n 7 (flits + packets)
      | .hp n => s.flushCount .hp n 7 (flits + packets)
      | .tp => s

/-- Flush the crossing between a router and a neighbour in another region (R54, R284): what was on its way is discarded, and
the surviving NI counts it under QUEUE_FLUSH. -/
def State.flushCrossing (s : State) (slot port : Nat) : State :=
  match neighbour slot port with
  | none => s
  | some n =>
    if regionOf n = regionOf slot then s else
      let hitS := fun (f : SFlit) => f.slot == n && f.port == farPort port && f.crossing
      let hitN := fun (l : Place) => decide (l = .router n (farPort port))
      (s.flushQueue hitS hitN).flushSeen (.inr n) (s.sched.filter hitS).length (s.net.filter (fun f => hitN f.place)).length

/-- The crossings of a slot that is reset or fenced, to a neighbour in another region or to an attachment, are flushed, both ways: the
side that survives records QUEUE_FLUSH and counts what was discarded (R53, R54, R284). -/
def State.flushDead (s : State) (slot port : Nat) : State :=
  match neighbour slot port with
  | some n =>
    if regionOf n = regionOf slot then s else
      let hitS := fun (f : SFlit) => f.crossing &&
        ((f.slot == n && f.port == farPort port) || (f.slot == slot && f.port == port))
      let hitN := fun (l : Place) => decide (l = .router n (farPort port) ∨ l = .router slot port)
      (s.flushQueue hitS hitN).flushSeen (.inr n) (s.sched.filter hitS).length (s.net.filter (fun f => hitN f.place)).length
  | none =>
    let l : Loc := ⟨slot % 48, slot / 48, port + 1⟩
    match attachOf l with
    | none => s
    | some a =>
      let hitS := fun (f : SFlit) => f.crossing && f.slot == slot && f.port == port
      let hitN := fun (x : Place) => decide (x = .unit l ∨ x = .router slot port)
      (s.flushQueue hitS hitN).flushSeen (.inl a) (s.sched.filter hitS).length (s.net.filter (fun f => hitN f.place)).length

/-- The attach queues between a unit that is reset and its routers are flushed, both ways: the NI of the router records QUEUE_FLUSH
(R53, R54). -/
def State.flushUnit (s : State) (l : Loc) : State :=
  let hitS := fun (f : SFlit) => f.crossing && f.slot == l.slot && f.port == l.port - 1
  let hitN := fun (x : Place) => decide (x = .unit l ∨ x = .router l.slot (l.port - 1))
  (s.flushQueue hitS hitN).flushSeen (.inr l.slot) (s.sched.filter hitS).length (s.net.filter (fun f => hitN f.place)).length

/-- Both ends of a mesh link are out of service (R283). Log entry 64, DEDUCED. -/
def State.fenceLink (s : State) (slot port : Nat) : State :=
  match neighbour slot port with
  | none => s
  | some n =>
    let l := meshLink slot port
    if s.fence.mlinks.contains l then s else
      let s := { s with fence := { s.fence with mlinks := s.fence.mlinks ++ [l] } }
      ((((s.flushCrossing slot port).flushCrossing n (farPort port)).fencedPort slot port).fencedPort n (farPort port)).repairFenced

/-- The neighbours of a fenced slot take their ports towards it out of service and flush the crossings (R284). -/
def State.fenceSides (s : State) (slot : Nat) : State :=
  (List.range 4).foldl (fun s p =>
    match neighbour slot p with
    | none => s.flushDead slot p
    | some n => (s.flushDead slot p).fencedPort n (farPort p)) s

/-- Fence a slot at F1 (R283): core and NI isolated; the router forwards. -/
def State.fenceF1 (s : State) (slot : Nat) : State :=
  if s.level slot = 0 then
    ((({ s with fence := { s.fence with level := s.fence.level.put slot 1 } }).abandon (fun n => n == slot)).fencedPort slot 4).repairFenced
  else s

/-- What the islands of the slots that satisfy p hold is gone: router, NI, flows, transactions, windows, descriptors and charts. -/
def State.dropIslands (s : State) (p : Nat → Bool) : State :=
  { s with
    rtr := s.rtr.filter (fun e => !(p e.1))
    chart := s.chart.filter (fun e => !(p e.1))
    sched := s.sched.filter (fun f => f.port == 5 || !(p f.slot))
    net := s.net.filter (fun f => match f.place with
      | .router t _ => !(p t)
      | .unit l => !(l.port == 0 && p l.slot))
    launches := s.launches.filter (fun l => !(p l.ni))
    flow := s.flow.filter (fun e => !(p (e.1 / 64)))
    vt := s.vt.filter (fun e => !(p e.1))
    otx := s.otx.filter (fun o => !(decide (o.src < 2304) && p o.src))
    cancelled := s.cancelled.filter (fun c => !(decide (c.1 < 2304) && p c.1))
    win := s.win.filter (fun e => !(p (e.1 / 256)))
    ledger := s.ledger.filter (fun e => !(p e.ni))
    waiters := s.waiters.filter (fun e => !(p e.ni))
    lastGrant := s.lastGrant.filter (fun e => !(p e.1))
    receipts := s.receipts.filter (fun e => !(p e.ni))
    xfers := s.xfers.filter (fun e => !(p e.ni))
    ap := s.ap.filter (fun e => !(p e.1))
    descs := s.descs.filter (fun e => !(p e.ni))
    cplq := s.cplq.filter (fun e => !(p e.ni))
    ring := (s.ring.filter (fun e => !(decide (4096 ≤ e.1) && p ((e.1 - 4096) / 4)))).map (fun e =>
      if p e.2.ni then (e.1, { e.2 with reading := false, again := false, fetching := 0 }) else e)
    waits := s.waits.filter (fun e => !(p e.ni))
    sigLines := s.sigLines.filter (fun e => !(p e.ni))
    scrubs := s.scrubs.filter (fun e => !(p e.ni))
    trace := s.trace.filter (fun e => !(p e.1))
    fw := s.fw.filter (fun e => !(p e.1))
    redm := s.redm.filter (fun e => !(p e.ni))
    hash := s.hash.filter (fun e => !(p e.ni))
    cr := s.cr.filter (fun e => !(p e.1)) }

/-- A register of domain ISLAND of a slot. -/
def islandReg (n : Nat) (r : RegDef) (i : Nat) : Bool := r.dom == .island && (r.blk == .rt || r.blk == .ni) && i == n

/-- Stolrel's mirror keeps the OWNER of slots whose islands are about to be reset by a fence (R294, R375). Log entry 154, DEDUCED. -/
def State.mirrorOwners (s : State) (slots : List Nat) : State :=
  let m := slots.foldl (fun (m : SMap Nat) t => if s.tnState t = 0 then m.del t else m.put t (s.owner t)) s.bn.owners
  { s with bn := { s.bn with owners := m } }

/-- Fence a slot at F2 (R283): the island is held in ISLAND reset, and what its router held is gone with it (R286).
Log entry 154, DEDUCED. -/
def State.fenceF2 (s : State) (slot : Nat) : State :=
  if s.level slot = 2 then s else
    let s := s.mirrorOwners [slot]
    let s := { s with fence := { s.fence with level := s.fence.level.put slot 2 } }.abandon (fun n => n == slot)
    let s := s.fenceSides slot
    ((s.resetRegs (islandReg slot)).dropIslands (fun n => n == slot)).repairFenced

/-- A stall of a region ends otherwise than by its input: RG_STALL_CNT has counted its cycles, a free value (R42).
Log entry 138, DESIGN CHOICE. -/
def State.endStall (s : State) (n : Nat) : State :=
  if (s.rg n).stalled then s.addFld RG_STALL_CNT_STALLS (Config.stalledFor s.fresh n) n else s

/-- Fence a region at F3 (R27, R44, R283, R284): boundary links out of service, bus-section joins flushed, hold request off the
anchor line, and the region's islands held in reset. Log entry 138, DESIGN CHOICE; log entry 154, DEDUCED. -/
def State.fenceF3 (s : State) (n : Nat) : State :=
  if (s.rg n).f3 then s else
    let s := s.endStall n
    let s := s.modRg n (fun r => { r with f3 := true, holdReq := false, stalled := false })
    let s := if s.bnUp then s.setFld RG_ESC_CTRL_LOCKED 0 n else s
    let slots := (List.range 64).map (regionSlot n)
    let s := (s.mirrorOwners slots).abandon (fun m => regionOf m == n)
    let s := slots.foldl (fun s t => s.fenceSides t) s
    let s := { s with sched := s.sched.filter (fun f => !(f.port == 5 && 6 * (f.slot / 6 / 8) + f.slot % 6 == n)) }
    ((s.resetRegs (fun r i => islandReg i r i && regionOf i == n)).dropIslands (fun m => regionOf m == n)).repairFenced

/-! ## Reports -/

/-- The safe state of an NI or reduction unit that has met a parity fault in its error set (R281, R282). -/
def State.islandParity (s : State) (k : UnitKind) (i : Nat) : State :=
  if k = .ni then s.niParity i else
    let s := ((s.setEu k i { s.eu k i with parityArmed := false, met := false }).setFld (xx_ERR_INJECT_ARM k) 0 i).setFld
      (xx_ERR_STATUS_SELF_PARITY k) 1 i
    let s := if s.fld (xx_ERR_STATUS_SAFE k) i = 1 then s else (s.setFld (xx_ERR_STATUS_SAFE k) 1 i).fenceF2 i
    s.errMsg k i 0 false true 0

/-- An event of an NI or reduction unit whose source only reports, as CHART, OPEN, REMOTE, COMMAND, REDUCE and PROTOCOL do
(R275 to R278). An armed parity injection meets the update (R301). -/
def State.report (s : State) (k : UnitKind) (i src detail : Nat) : State :=
  let s := s.recordEvent k i src detail false
  if (s.eu k i).parityArmed && (k == .ni || k == .red) then s.islandParity k i else s

/-- A cause in a status register of an NI: its W1C bit is set and the event reported (R275). -/
def State.niCause (s : State) (ni : Nat) (f : Fld) (src detail : Nat) : State :=
  (s.setFld f 1 ni).report .ni ni src detail

end Sys2Proof.Machine
end

