-- ==== Sys2Proof/Machine/Operands.lean ====
section
/-!
DEFINITION. Operand forms: descriptors (R215 to R227), chart entries and segment images (R62, R79), and the addresses that
operations name (R13, R337, R338, R358, R361).
-/

namespace Sys2Proof.Machine

/-! ## Descriptors -/

def Desc.w (d : Desc) (i : Nat) : Nat := d.words.getD i 0
def Desc.opcode (d : Desc) : Nat := bits (d.w 0) 7 0
def Desc.flowNo (d : Desc) : Nat := bits (d.w 0) 24 20
def Desc.flag (d : Desc) (i : Nat) : Bool := bit (d.w 0) i
def Desc.fORDER (d : Desc) : Bool := d.flag 8
def Desc.fCPL (d : Desc) : Bool := d.flag 9
def Desc.fNB (d : Desc) : Bool := d.flag 10
def Desc.fPROV (d : Desc) : Bool := d.flag 11
def Desc.fIRQ (d : Desc) : Bool := d.flag 12
def Desc.hpsel (d : Desc) : Nat := b2n (d.flag 13)
def Desc.srcHost (d : Desc) : Bool := d.flag 14
def Desc.dstHost (d : Desc) : Bool := d.flag 15
def Desc.auxHost (d : Desc) : Bool := d.flag 16
def Desc.provHost (d : Desc) : Bool := d.flag 17
def Desc.tag (d : Desc) : Nat := bits (d.w 1) 31 0
def Desc.notBefore (d : Desc) : Nat := bits (d.w 1) 63 32
def Desc.layer (d : Desc) : Nat := bits (d.w 0) 47 32

/-- What a trace names of a descriptor (R420). -/
def Desc.trace (d : Desc) : TraceId := ⟨d.w 0, d.tag, d.w 2⟩

/-- Opcodes whose dispatch key is their flow (R217). -/
def flowKeyed (op : Nat) : Bool := op == 0x01 || op == 0x02 || op == 0x03 || op == 0x10

/-- The dispatch key of a descriptor (R229): its flow, or 32 for the common control key. -/
def Desc.key (d : Desc) : Nat := if flowKeyed d.opcode then d.flowNo else 32

/-- Opcodes that only a tile queue may issue (R217). -/
def tileOnly (op : Nat) : Bool := op == 0x11 || op == 0x12 || op == 0x13 || op == 0x18 || op == 0x19

/-- The opcodes of R217. -/
def listedOp (op : Nat) : Bool :=
  op ≤ 0x06 || op == 0x08 || op == 0x09 || op == 0x10 || op == 0x20 || tileOnly op

/-! ## Handles and pairs -/

/-- Byte range of a handle in its scratchpad (R358): base and size. -/
def State.hdlRange (s : State) (ni h : Nat) : Nat × Nat :=
  (32 * s.fld NI_HDL_RANGE_BASE ni h, 32 * s.fld NI_HDL_RANGE_SIZE ni h)

/-- The checks 1 to 4 of R125 on a request of a tenancy, in order: none passes, or the status of the first that fails. The
lifecycle state comes before them (R368). `act` is true for an ACT-class write or an atomic. -/
def State.check125 (s : State) (ni h ten ofs len : Nat) (act : Bool) : Option Nat :=
  if s.tnState ni ≠ 1 then some 0x31
  else if s.fld NI_HDL_CFG_VALID ni h = 0 then some 0x12
  else if s.fld NI_HDL_CFG_TENANCY ni h ≠ ten then some 0x31
  else if (s.hdlRange ni h).2 < ofs + len then some 0x31
  else if act = true ∧ s.fld NI_HDL_CFG_CLASS ni h = 1 then some 0x31
  else none

/-- Byte range of a privileged pair; a pair not enabled has bound zero (R361, R362). -/
def State.pairRange (s : State) (ni k : Nat) : Nat × Nat :=
  if s.fld NI_PAIR_BASE_ENABLE ni k = 1 then (32 * s.fld NI_PAIR_BASE_BASE ni k, 32 * s.fld NI_PAIR_BOUND_SIZE ni k)
  else (0, 0)

/-- A pair is a tenancy pair of another tenancy than t (R362). -/
def State.pairForeign (s : State) (ni k t : Nat) : Bool :=
  s.fld NI_PAIR_BASE_ENABLE ni k == 1 && s.fld NI_PAIR_BASE_SYS ni k == 0 && s.fld NI_PAIR_BASE_TENANCY ni k != t

/-! ## HBM -/

/-- The chip's HBM map as the FB registers hold it (R338). -/
def State.fbMap (s : State) : HbmMap :=
  { ilv := s.fld FB_HBM_ILV_SIZE,
    near := (List.range 16).filterMap (fun n =>
      if s.fld FB_NEAR_CFG_VALID 0 n = 1 then
        some (n, ⟨true, s.fld FB_NEAR_CFG_PORT 0 n, s.fld FB_NEAR_BASE_BASE 0 n, s.fld FB_NEAR_CFG_SIZE 0 n,
          s.fld FB_NEAR_CFG_PORT_OFS 0 n⟩)
      else none) }

/-- The copy of the HBM map that an NI decodes by: the old one until the copy has taken the new value (R339). -/
def State.niMap (s : State) (ni : Nat) : HbmMap := s.nimap.get ni s.fbMap

/-- Decode an HBM offset to port and in-port address; none where unmapped (R338). -/
def HbmMap.decode (m : HbmMap) (ofs : Nat) : Option (Nat × Nat) :=
  if ofs < 16 * m.ilv * 2 ^ 30 then
    let g := ofs >>> 12
    some (g % 16, (g / 16) <<< 12 + ofs % 4096)
  else
    match m.near.find? (fun e => e.2.valid && decide (e.2.base ≤ ofs / 2 ^ 30 ∧ ofs / 2 ^ 30 < e.2.base + e.2.size)) with
    | some e => some (e.2.port, (m.ilv + e.2.ofs) * 2 ^ 30 + ofs - e.2.base * 2 ^ 30)
    | none => none

/-- The HBM offset that an in-port address of a port holds (the map of R338 read back, R340). -/
def HbmMap.offsetOf (m : HbmMap) (port a : Nat) : Option Nat :=
  if a < m.ilv * 2 ^ 30 then some (((a >>> 12) * 16 + port) <<< 12 + a % 4096)
  else
    match m.near.find? (fun e => e.2.valid && decide (e.2.port = port ∧ (m.ilv + e.2.ofs) * 2 ^ 30 ≤ a ∧
        a < (m.ilv + e.2.ofs + e.2.size) * 2 ^ 30)) with
    | some e => some (e.2.base * 2 ^ 30 + a - (m.ilv + e.2.ofs) * 2 ^ 30)
    | none => none

/-- The attach point of a port nearest to a tile along the port's edge, ties to the lower one (R337). -/
def nearestAttach (port slot : Nat) : Nat :=
  let c := if port / 4 = 0 ∨ port / 4 = 2 then slot % 48 else slot / 48
  let p := fun a => 12 * (port % 4) + 3 + a
  let dist := fun a => (p a - c) + (c - p a)
  (List.range 6).foldl (fun best a => if dist a < dist best then a else best) 0

/-- Grants that cover bytes [ofs, ofs + len) for a tenancy with a condition on the class (R365): every 64 MiB unit touched
lies in some such grant. -/
def covered (g : SMap Grant) (ten ofs len : Nat) (ok : Nat → Bool) : Bool :=
  let u0 := ofs / 2 ^ 26
  let u1 := (ofs + len - 1) / 2 ^ 26
  (List.range (u1 + 1 - u0)).all (fun i =>
    g.any (fun e => e.2.valid && e.2.ten == ten && ok e.2.cls && decide (e.2.base ≤ u0 + i ∧ u0 + i < e.2.base + e.2.size)))

/-- The class of the one grant that covers a source range; none where no single grant does (R363). Log entry 106, DEDUCED. -/
def grantClass (g : SMap Grant) (ten ofs len : Nat) : Option Nat :=
  (g.find? (fun e => e.2.valid && e.2.ten == ten &&
    decide (e.2.base * 2 ^ 26 ≤ ofs ∧ ofs + len ≤ (e.2.base + e.2.size) * 2 ^ 26))).map (fun e => e.2.cls)

/-! ## Where an operation goes -/

/-- The places a remote operation can be sent to, or the status with which it completes unsent. -/
inductive Dest where
  | to (l : Loc)
  | bad (status : Nat)
  deriving DecidableEq, Repr

/-- The chip can be reached from an NI (R313). -/
def State.reach (s : State) (ni chip : Nat) : Bool := bit (s.fld NI_REACH_CHIPS ni (chip / 32)) (chip % 32)

/-- The unit that serves a fabric global address, seen from an NI and flow (R14, R100, R123, R124, R126, R337, R338). -/
def State.destOf (s : State) (ni flow addr : Nat) : Dest :=
  if 2 ≤ adSpace addr ∨ (adSpace addr = 0 ∧ s.tiles ≤ adTile addr) then .bad 0x32
  else if adChip addr ≠ s.chipId then
    (if s.reach ni (adChip addr) then .to (olLoc (s.fld NI_FLOW_CFG_OLINK ni flow)) else .bad 0x21)
  else if adSpace addr = 0 then
    (match s.lmap ni (adTile addr) with
     | some slot => .to (niLoc slot)
     | none => .bad 0x22)
  else match (s.niMap ni).decode (adBig addr) with
    | some (port, _) => .to (mpLoc port (nearestAttach port ni))
    | none => .bad 0x32

/-- Every byte of [ofs, ofs + len) is mapped (R338): the map is laid out in whole GiB. -/
def HbmMap.maps (m : HbmMap) (ofs len : Nat) : Bool :=
  (List.range ((ofs + len - 1) / 2 ^ 30 + 1 - ofs / 2 ^ 30)).all (fun i => (m.decode ((ofs / 2 ^ 30 + i) * 2 ^ 30)).isSome)

/-- A descriptor may not name these `len` bytes (R5, R14, R123, R338): a SPACE that no remote operation reaches, a logical tile at or beyond
the count, or own HBM that the map leaves out. -/
def State.nameBad (s : State) (ni : Nat) (host : Bool) (a len : Nat) : Bool :=
  !host && (decide (2 ≤ adSpace a) || (adSpace a == 0 && decide (s.tiles ≤ adTile a)) ||
    (adSpace a == 1 && adChip a == s.chipId && !((s.niMap ni).maps (adBig a) len)))

/-- The status of a destination that cannot be sent to. -/
def Dest.status : Dest → List Nat
  | .to _ => []
  | .bad st => [st]

/-- The unit that serves a descriptor's address: a host port for a host address (R218). -/
def State.destAddr (s : State) (ni flow : Nat) (host : Bool) (hp addr : Nat) : Dest :=
  if host then .to (hpLoc hp) else s.destOf ni flow addr

/-- What refuses a descriptor for `len` bytes that it names, before anything is sent (R5, R14, R126, R313, R338, R467). -/
def State.nameStatus (s : State) (ni flow : Nat) (host : Bool) (hp a len : Nat) : List Nat :=
  if s.nameBad ni host a len then [stBAD_DESCRIPTOR] else (s.destAddr ni flow host hp a).status

/-! ## Chart entries and segment images -/

/-- Decode the 128 bits of a chart entry (R62). -/
def decodeEntry (w : Nat) : Entry :=
  { beatStart := bits w 117 100, repeatM1 := bits w 99 88, period := bits w 87 76, runM1 := bits w 75 64,
    slotFirst := bits w 63 60, slotLast := bits w 59 56, slotStep := bits w 55 54, inPort := bits w 53 51,
    outMask := bits w 49 45, action := bits w 44 42, rctx := bits w 41 36, stream := bits w 35 32, cstep := bits w 31 30,
    busDir := bits w 29 28, busReach := bits w 27 25 }

/-- The data-bit numbers of the SECDED code: integers from 3 to 127 that are not powers of two, in order (R65). -/
def secdedP : List Nat :=
  (List.range 128).filter (fun n => 3 ≤ n && !(n == 4 || n == 8 || n == 16 || n == 32 || n == 64))

/-- Check bits 6:0 of an entry: the XOR of p_j over the data bits that are set (R65). Log entry 127, DESIGN CHOICE. -/
def secdedCheck (w : Nat) : Nat :=
  ((List.range 120).zip secdedP).foldl (fun c jp => if bit w jp.1 then c ^^^ jp.2 else c) 0

/-- Parity of the n low bits of a number. -/
def parity (w n : Nat) : Bool := (List.range n).foldl (fun b i => b != bit w i) false

/-- The check of a stored entry (R65): none for an uncorrectable error, else the corrected entry and whether it was
corrected. -/
def secdedFix (w : Nat) : Option (Nat × Bool) :=
  let syn := secdedCheck w ^^^ bits w 126 120
  let odd := parity w 128
  if syn = 0 ∧ odd = false then some (w, false)
  else if odd = false then none
  else if syn = 0 then some (w ^^^ 2 ^ 127, true)
  else if syn = 1 ∨ syn = 2 ∨ syn = 4 ∨ syn = 8 ∨ syn = 16 ∨ syn = 32 ∨ syn = 64 then some (w, true)
  else match ((List.range 120).zip secdedP).find? (fun jp => jp.2 == syn) with
    | some (j, _) => some (w ^^^ 2 ^ j, true)
    | none => none

/-- A stream record of a segment image, words 8 + 2n and 9 + 2n (R79). -/
def decodeStream (w0 w1 : Nat) : StreamRec :=
  { handle := bits w0 63 56, dir := bits w0 55 55, waitReady := bit w0 54, cls := bits w0 53 53, offset := bits w0 29 0,
    signalEvery := bits w1 63 32, flits := bits w1 31 0 }

/-- The slots an entry uses in an active beat, in order of their ordinal k (R62). -/
def Entry.slots (e : Entry) : List Nat :=
  (List.range ((e.slotLast + 1 - e.slotFirst + 2 ^ e.slotStep - 1) / 2 ^ e.slotStep)).map
    (fun k => e.slotFirst + k * 2 ^ e.slotStep)

/-- The entry is active in segment beat u (R66). -/
def Entry.active (e : Entry) (u : Nat) : Bool :=
  if u < e.beatStart then false else
    let d := u - e.beatStart
    if e.repeatM1 = 0 then d ≤ e.runM1
    else if e.period = 0 then d ≤ e.runM1
    else decide (d / e.period ≤ e.repeatM1 ∧ d % e.period ≤ e.runM1) ||
      decide (e.repeatM1 < d / e.period ∧ d ≤ e.repeatM1 * e.period + e.runM1)

/-- The last active beat of an entry (R66). -/
def Entry.lastBeat (e : Entry) : Nat := e.beatStart + e.repeatM1 * (if e.repeatM1 = 0 then 0 else e.period) + e.runM1

/-- Departure offset D (R67). -/
def Entry.D (e : Entry) : Nat := if e.action = 4 ∧ 2 ≤ e.cstep then 4 else 0

/-- The outputs an entry books: OUT_MASK, and L for an EJECT (R67). -/
def Entry.outs (e : Entry) : List Nat :=
  (List.range 5).filter (fun p => if p = 4 then e.action == 3 || bit e.outMask 4 else bit e.outMask p)

/-- An entry claims its input at its slots, but COMBINE with FLUSH claims none (R67). -/
def Entry.claims (e : Entry) : Bool := e.action != 0 && !(e.action == 4 && e.cstep == 3)

end Sys2Proof.Machine
end

