-- ==== Sys2Proof/Machine/FlowOps.lean ====
section
/-!
DEFINITION. Gates of the scheduled plane (R67, R70, R116), the flows of an NI (R115 to R119) and the room of router buffers
(R95).
-/

namespace Sys2Proof.Machine

/-! ## Gates -/

/-- What a router's banks say of a local beat. -/
inductive BeatPlan where
  /-- No segment runs in that beat: every position is open. -/
  | free
  /-- The beat lies in a segment that is not loaded: every position counts as booked (R67). -/
  | unknown
  /-- Segment beat u of a segment. -/
  | seg (g : SegImg) (u : Nat)
  deriving DecidableEq, Repr

/-- The chart at a router has no segment to come: its last one has ended, or a pause has taken effect (R83, R255). -/
def State.chartOver (s : State) (slot : Nat) : Bool :=
  match (s.rt slot).ended with
  | some (_, _, gone) => gone
  | none => false

/-- The plan of local beat t at a router (R67, R81). -/
def State.planAt (s : State) (slot t : Nat) : BeatPlan :=
  let r := s.rt slot
  let later := fun (n : Nat) =>
    match r.idle with
    | some g => if t < n + g.length then .seg g (t - n) else if g.last then .free else .unknown
    | none => match s.ch slot with
      | some _ => BeatPlan.unknown
      | none => .free
  match r.cur with
  | some g =>
    if t < r.start + g.length then .seg g (t - r.start)
    else if g.last then .free else later (r.start + g.length)
  | none =>
    match s.ch slot with
    | some c => if s.chartOver slot = true ∨ t < c.nextStart then .free else later c.nextStart
    | none => .free

/-- Position (t, v) of an output is booked (R67): by an entry active D positions earlier, or because the gate was derived while the segment
was not loaded. -/
def State.booked (s : State) (slot port t v : Nat) : Bool :=
  (s.rt slot).shut.contains t ||
  match s.planAt slot t with
  | .free => false
  | .unknown => true
  | .seg g u => g.entries.any (fun e => e.action != 0 && e.outs.contains port &&
      (let pos := 16 * u + v
       if pos < e.D then false
       else e.active ((pos - e.D) / 16) && e.slots.contains ((pos - e.D) % 16)))

/-- Position (t, v) of an input is claimed (R67). -/
def State.claimed (s : State) (slot port t v : Nat) : Bool :=
  (s.rt slot).shut.contains t ||
  match s.planAt slot t with
  | .free => false
  | .unknown => true
  | .seg g u => g.entries.any (fun e => e.claims && e.inPort == port && e.active u && e.slots.contains v)

/-- The number of consecutive positions, at most 17, from slot v of beat t on, at which p is false (R70). -/
def openRun (p : Nat → Nat → Bool) (t v : Nat) : Nat :=
  ((List.range 17).takeWhile (fun i => !(p (t + (v + i) / 16) ((v + i) % 16)))).length

/-- The open run of the L gate of an NI from its region's next position on (R116); none outside a running beat. -/
def State.openRunL (s : State) (ni : Nat) : Nat :=
  let r := s.rg (regionOf ni)
  if 16 ≤ r.slot ∨ r.stalled = true ∨ r.frozen = true then 0 else openRun (s.claimed ni 4) r.L r.slot

/-- The open run of a router's DAT output (R70). -/
def State.openRunOut (s : State) (slot port : Nat) : Nat :=
  let r := s.rg (regionOf slot)
  if 16 ≤ r.slot ∨ r.stalled = true ∨ r.frozen = true then 0 else openRun (s.booked slot port) r.L r.slot

/-! ## Router buffers -/

/-- Flits that an input buffer holds for a virtual channel (R95). Log entry 53, DESIGN CHOICE. -/
def vcRoom (n : Net) (fabric esc : Bool) : Nat :=
  match n with
  | .dat => 17
  | _ => if esc || fabric then 4 else 8

/-- Fabric commands ride the fabric-command channel (R96). -/
def Pkt.fabric (p : Pkt) : Bool := p.net = .snp && decide (1 ≤ p.op ∧ p.op ≤ 15)

/-- Class of an open DAT packet (R96, R106): read-return data is class 1. -/
def Pkt.cls (p : Pkt) : Nat := if p.net = .dat ∧ 8 ≤ p.op ∧ p.op ≤ 15 then 1 else 0

/-- The channel of a packet within an input (R95, R96). -/
def chanOf (p : Pkt) : Nat :=
  if p.esc then 4 + p.egen + 2 * p.cls else if p.fabric then 2 + p.egen else p.cls

/-- Two packets share a virtual channel buffer (R95). -/
def sameVc (a b : Pkt) : Bool := decide (a.net = b.net) && chanOf a == chanOf b

/-- Flits that wait at an input of a router in a packet's channel, that in which they came; the copies of a GROUP packet share its place
(R95, R151). Log entry 53, DESIGN CHOICE. -/
def State.heldFlits (s : State) (slot port : Nat) (p : Pkt) : Nat :=
  let here := ((s.rt slot).held.filter (fun h => h.inPort == port && decide (h.pkt.net = p.net) && h.chan == chanOf p)).map (fun h => h.pkt)
  let alone := here.filter (fun q => q.dst.port != 7)
  let group := ((here.filter (fun q => q.dst.port == 7)).map (fun q => { q with hops := 0 })).dedup
  ((alone ++ group).map nflits).sum

/-- An input has room for a packet beside what waits there (R95). Log entry 53, DESIGN CHOICE. -/
def State.heldRoom (s : State) (slot port : Nat) (p : Pkt) : Bool :=
  decide (s.heldFlits slot port p + nflits p ≤ vcRoom p.net p.fabric p.esc)

/-- Input `port` of a router has room for the whole packet in the packet's channel (R95): what waits there and what is on
its way there take room. Log entry 53, DESIGN CHOICE. -/
def State.roomFor (s : State) (slot port : Nat) (p : Pkt) : Bool :=
  let coming := (s.net.filter (fun f => decide (f.place = .router slot port) && sameVc f.pkt p)).map (fun f => nflits f.pkt)
  decide (s.heldFlits slot port p + coming.sum + nflits p ≤ vcRoom p.net p.fabric p.esc)

/-! ## Flows -/

/-- a is earlier than b in serial-number arithmetic (R118). -/
def earlier (a b : Nat) : Bool := decide (2 ^ 31 ≤ (a + 2 ^ 32 - b % 2 ^ 32) % 2 ^ 32)

/-- The later of two tags (R118). -/
def laterTag (a b : Nat) : Nat := if earlier a b then b else a

/-- Flow 32 is the response queue and 33 the trace queue (R118, R422). The open DAT packets that no flow's descriptor asks for, of the
aperture, of HEAD registers, completions and provenance, join the response queue. Log entry 58, DESIGN CHOICE. -/
def respFlow : Nat := 32
/-- Log entry 58, DESIGN CHOICE. -/
def traceFlow : Nat := 33

/-- Weight of a flow; 0 acts as 1. -/
def State.weight (s : State) (ni f : Nat) : Nat :=
  zeroAsOne (if f < 32 then s.fld NI_FLOW_CFG_WEIGHT ni f
    else if f = 32 then s.fld NI_SHAPER_CFG_RESP_WEIGHT ni else s.fld NI_TRACE_CFG_WEIGHT ni)

/-- RATE of a flow; the response and trace queues have none. -/
def State.rate (s : State) (ni f : Nat) : Nat := if f < 32 then s.fld NI_FLOW_RATE_RATE ni f else 0

/-- Room of a flow's bucket in sixteenths of a byte (R117); BURST 0 acts as 1. -/
def State.bucketMax (s : State) (ni f : Nat) : Nat := zeroAsOne (s.fld NI_FLOW_RATE_BURST ni f) * 4096

/-- Charged length of a packet (R115). The queues without overhead registers are charged a header flit of 256 bytes.
Log entry 58, DESIGN CHOICE. -/
def State.charge (s : State) (ni f : Nat) (p : Pkt) : Nat :=
  256 * (nflits p - 1) +
    (if f < 32 then s.fld NI_FLOW_OVH_HDR_OVH ni f + s.fld NI_FLOW_OVH_GAP_OVH ni f else 256)

/-- Virtual time V of an NI (R118). -/
def State.V (s : State) (ni : Nat) : Nat := s.vt.get ni 0

/-- A packet becomes the head of its flow (R118). -/
def State.onHead (s : State) (ni f : Nat) (p : Pkt) : State :=
  let x := s.fl ni f
  let len := s.charge ni f p
  let tag := (laterTag (s.V ni) x.fLast + len * 256 / s.weight ni f) % 2 ^ 32
  s.setFl ni f { x with headLen := len, fHead := tag, fLast := tag }

/-- Position of the timing wheel that a local beat falls in (R117). -/
def State.wheelPos (s : State) (ni : Nat) : Nat :=
  ((s.rg (regionOf ni)).L >>> s.fld NI_SHAPER_CFG_GRAN ni) % 256

/-- The parked mark of a flow that is to be checked at the next local beat (R119). -/
def checkNext : Nat := 256

/-- Whether a flow may send its head, or where it is parked (R117). -/
def State.checkFlow (s : State) (ni f : Nat) : State :=
  let x := s.fl ni f
  let need := 16 * x.headLen
  let rate := s.rate ni f
  if rate = 0 ∨ need ≤ x.bucket ∨ x.bucket = s.bucketMax ni f then s.setFl ni f { x with eligible := true, parked := none }
  else
    let beats := cdiv (need - x.bucket) rate
    let k := max 1 (min 255 (cdiv beats (2 ^ s.fld NI_SHAPER_CFG_GRAN ni)))
    s.setFl ni f { x with eligible := false, parked := some ((s.wheelPos ni + k) % 256) }

/-- A formed packet joins its flow's queue; the first becomes the head. -/
def State.enqueue (s : State) (ni f : Nat) (p : Pkt) : State :=
  let x := s.fl ni f
  let s := s.setFl ni f { x with queue := x.queue ++ [p] }
  if x.queue.isEmpty then (s.onHead ni f p).checkFlow ni f else s

/-- Queued packets of a flow that will not be sent any more leave it; the next one becomes the head. -/
def State.unqueue (s : State) (ni f : Nat) (mine : Pkt → Bool) : State :=
  let x := s.fl ni f
  if x.queue.any mine then
    let q := x.queue.filter (fun p => !(mine p))
    let s := s.setFl ni f { x with queue := q }
    match q with
    | p :: _ => if x.queue.head? = some p then s else (s.onHead ni f p).checkFlow ni f
    | [] => s
  else s

/-- Flows that may start a packet (R118): enabled, eligible and with a head. -/
def State.candidates (s : State) (ni : Nat) : List Nat :=
  (List.range 34).filter (fun f =>
    (f ≥ 32 || s.fld NI_FLOW_CFG_ENABLE ni f == 1) && (s.fl ni f).eligible && !(s.fl ni f).queue.isEmpty)

/-- The flow with the earliest head tag, ties to the lower number (R118). -/
def State.earliest (s : State) (ni : Nat) (l : List Nat) : Option Nat :=
  l.foldl (fun b f => match b with
    | none => some f
    | some g => if earlier (s.fl ni f).fHead (s.fl ni g).fHead then some f else some g) none

/-- The flow whose head starts at a run of open positions (R118), if any. -/
def State.selectFlow (s : State) (ni run : Nat) : Option Nat :=
  let e := s.candidates ni
  let fits := fun f => match (s.fl ni f).queue with
    | p :: _ => decide (nflits p ≤ run)
    | [] => false
  match s.earliest ni e with
  | none => none
  | some h => if fits h then some h else s.earliest ni (e.filter fits)

/-- Start the head packet of a flow (R118): it leaves for the NI's router, a contribution for the reduction unit there, and the next packet
becomes the head. -/
def State.startFlow (s : State) (ni f : Nat) : State :=
  let x := s.fl ni f
  match x.queue with
  | [] => s
  | p :: r =>
    let s := { s with vt := s.vt.put ni (laterTag (s.V ni) x.fHead) }
    let s := s.setFl ni f { x with
      queue := r,
      bucket := if s.rate ni f = 0 then x.bucket else x.bucket - 16 * x.headLen }
    let s := s.push (if p.kind = opRED_DATA then .unit (niLoc ni) else .router ni 4) p
    let s := s.addPair NI_OPEN_TX_LO NI_OPEN_TX_HI p.data.length ni
    let s := if f < 32 then s.addPair NI_FLOW_BYTES_LO NI_FLOW_BYTES_HI p.data.length ni f else s
    match r with
    | [] => s
    | q :: _ => (s.onHead ni f q).checkFlow ni f

/-- Buckets fill and parked flows whose position has come are checked, at a local beat start (R117). -/
def State.flowBeat (s : State) (ni : Nat) : State :=
  let t := (s.rg (regionOf ni)).L
  let gran := s.fld NI_SHAPER_CFG_GRAN ni
  (List.range 32).foldl (fun s f =>
    let r := s.rate ni f
    let x := s.fl ni f
    let s := if r = 0 then s else s.setFl ni f { x with bucket := min (s.bucketMax ni f) (x.bucket + r) }
    if (t % 2 ^ gran = 0 ∧ (s.fl ni f).parked = some (s.wheelPos ni)) ∨ (s.fl ni f).parked = some checkNext then
      (s.setFl ni f { (s.fl ni f) with parked := none }).checkFlow ni f
    else s) s

end Sys2Proof.Machine
end

