-- ==== Sys2Proof/Machine/XferOps.lean ====
section
/-!
DEFINITION. Deciding a descriptor's status (R232 to R235, R377) and carrying a transfer from its reads and credits to its
acknowledgements (R133, R137, R146, R147, R153 to R162, R219 to R221).
-/

namespace Sys2Proof.Machine

/-! ## Rings and tile queues (R203 to R213) -/

/-- The key of a descriptor's ring or queue in `State.ring`: rings by number, queue q of an NI at 4,096 + 4·NI + q. -/
def ringKey (ni origin : Nat) : Nat := if origin < 4096 then origin else 4096 + 4 * ni + (origin - 4096)

/-- The number by which causes name a ring or queue. -/
def ringNo (key : Nat) : Nat := if key < 4096 then key else key % 4

def State.ringBase (s : State) (o : Nat) : Nat := s.fld FB_RING_BASE_LO_ADDR_LO 0 o <<< 12 + s.fld FB_RING_BASE_HI_ADDR_HI 0 o <<< 32
def State.ringDbr (s : State) (o : Nat) : Nat := s.fld FB_RING_DBR_LO_ADDR_LO 0 o <<< 5 + s.fld FB_RING_DBR_HI_ADDR_HI 0 o <<< 32
def State.ringCq (s : State) (o : Nat) : Nat := s.fld FB_RING_CQ_LO_ADDR_LO 0 o <<< 12 + s.fld FB_RING_CQ_HI_ADDR_HI 0 o <<< 32

/-- Log2 of the entries of a ring's or queue's descriptor and completion sides. Log entry 31, DESIGN CHOICE. -/
def State.ringSize (s : State) (key : Nat) : Nat :=
  if key < 4096 then s.fld FB_RING_CFG_SIZE 0 key else s.fld NI_TQn_CFG_SIZE ((key - 4096) / 4) (key % 4)
/-- Log entry 31, DESIGN CHOICE. -/
def State.cqSize (s : State) (key : Nat) : Nat :=
  if key < 4096 then s.fld FB_RING_CFG_CQ_SIZE 0 key else s.fld NI_TQn_CFG_CQ_SIZE ((key - 4096) / 4) (key % 4)

/-- Modulus of the indices (R204, R213). -/
def idxMod (key : Nat) : Nat := if key < 4096 then 2 ^ 32 else 2 ^ 16

/-- The tenancy of a ring or queue (R214). -/
def State.ringTen (s : State) (key : Nat) : Nat :=
  if key < 4096 then s.fld FB_RING_CFG_TENANCY 0 key else s.fld NI_TQn_CFG_TENANCY ((key - 4096) / 4) (key % 4)

/-- Room for one more completion (R211). -/
def State.cqRoom (s : State) (key : Nat) : Bool :=
  let r := s.rng key
  let m := idxMod key
  decide ((r.cqTail + m - r.cqHead % m) % m < 2 ^ s.cqSize key)

/-- The rings of a tenancy are recorded (mode 1) or replayed (mode 2) (R267, R269). -/
def State.replayMode (s : State) (mode ten : Nat) : Bool :=
  s.fld FB_REPLAY_STATUS_ACTIVE == 1 && s.fld FB_REPLAY_CFG_MODE == mode && s.fld FB_REPLAY_CFG_TENANCY == ten

/-- Places for descriptors of a ring or queue at an NI (R210): 64 in all, 48 for host rings; what is being fetched counts. -/
def State.places (s : State) (ni key : Nat) : Nat :=
  let mine := s.descs.filter (fun d => d.ni == ni)
  let coming := ((s.ring.filter (fun e => e.2.ni == ni)).map (fun e => e.2.fetching)).sum
  let total := 64 - (mine.length + coming)
  if key < 4096 then min total (48 - ((mine.filter (fun d => decide (d.origin < 4096))).length + coming)) else total

/-- Read the record of a ring (R208, R209), after a bell or to look for room (R211): words 0 and 1, through the ring's host port. While a read
is under way, or no tag is free, one more is asked for. -/
def State.readRecord (s : State) (ni o : Nat) (bell : Bool) : State :=
  let r := s.rng o
  if r.reading = true then s.setRing o { r with again := r.again || bell }
  else if s.txnRoom ni = false then s.setRing o { r with ni := ni, again := true, bell := r.bell || bell }
  else
    let t := s.freeTxn ni
    let s := (s.setRing o { r with ni := ni, reading := true, again := false, bell := r.bell || bell }).addTx ⟨ni, t, .record, 0, 0, o, s.chipId, 0, false, false⟩
    s.niSend ni opREAD (hpLoc (s.fld FB_RING_CFG_HP 0 o)) (s.ringTen o) 0 t [s.ringDbr o, 15]

/-- Ask for the next descriptors of a host ring (R209 to R211): at most 16, not past the end of the ring, while there are places
and completions have room. A disabled ring fetches nothing more (R212), and a replayed one takes its descriptors from the log (R269). -/
def State.fetchRing (s : State) (ni o : Nat) : State :=
  let r := s.rng o
  let sz := 2 ^ s.ringSize o
  let k := min (min 16 (s.places ni o)) (min ((r.tail + 2 ^ 32 - r.head % 2 ^ 32) % 2 ^ 32) (sz - r.head % sz))
  if k = 0 ∨ r.halted = true ∨ r.fetching ≠ 0 ∨ s.txnRoom ni = false ∨ s.cqRoom o = false ∨ s.fld FB_RING_CFG_ENABLE 0 o = 0 ∨
      s.replayMode 2 (s.ringTen o) = true then s
  else
    let t := s.freeTxn ni
    let s := (s.setRing o { r with fetching := k }).addTx ⟨ni, t, .descFetch, 0, 0, o, s.chipId, 0, false, false⟩
    s.niSend ni opREAD (hpLoc (s.fld FB_RING_CFG_HP 0 o)) (s.ringTen o) 0 t [s.ringBase o + 64 * (r.head % sz), 64 * k - 1]

/-- The rings that an NI serves go on fetching once it has places again (R210). -/
def State.refetch (s : State) (ni : Nat) : State :=
  (s.ring.filter (fun e => decide (e.1 < 4096) && e.2.ni == ni && e.2.head != e.2.tail)).foldl (fun s e => s.fetchRing ni e.1) s

/-- HEAD of a host ring has moved (R209): its register, and record word 2 once a tag is free (R102), by the response queue. Log entry 58, DESIGN CHOICE. -/
def State.ringHead (s : State) (n o : Nat) : State :=
  let h := (s.rng o).head
  let s := s.wr FB_RING_HEAD 0 o h
  let hp := s.fld FB_RING_CFG_HP 0 o
  if s.txnRoom n then
    let t := s.freeTxn n
    ((s.setRing o { s.rng o with headDue := false }).addTx ⟨n, t, .headWr, 0, 0, o, s.chipId, 0, false, false⟩).enqueue n respFlow
      (mkDat opWRITE (niLoc n) (hpLoc hp) (s.ringTen o) 0 t [0] (s.ringDbr o + 16) 0 0 (toBytes 8 h))
  else s.setRing o { s.rng o with headDue := true }

/-- What the rings of an NI wait for a tag, room or places for goes on (R102, R208, R211). -/
def State.pumpRings (s : State) (n : Nat) : State :=
  (s.ring.filter (fun e => decide (e.1 < 4096) && e.2.ni == n)).foldl (fun s e =>
    let s := if e.2.again && !e.2.reading then s.readRecord n e.1 false else s
    let s := if e.2.headDue then s.ringHead n e.1 else s
    if e.2.head = e.2.tail then s else s.fetchRing n e.1) s

/-! ## Descriptors and completions -/

def State.desc? (s : State) (id : Nat) : Option Desc := s.descs.find? (fun d => d.id == id)
def State.updDesc (s : State) (id : Nat) (f : Desc → Desc) : State :=
  { s with descs := updFirst (fun d => d.id == id) f s.descs }

/-- The published map digest (R28). -/
def State.fbDigest (s : State) : List Nat := (List.range 8).map (fun k => s.fld FB_MAP_DIGEST_DIGEST 0 k)

/-- An arming frame goes to the partner (R263): at arming, and when the map changes. Log entry 67, DEDUCED. -/
def State.armFrame (s : State) (digest : List Nat) : State :=
  { s with consort := { s.consort with
    sent := s.consort.sent ++ [(digest, s.pair BN_FW_VERSION_LO BN_FW_VERSION_HI, s.rd FB_MODE)] } }

/-- Bytes that a descriptor completed OK counts in TN_BYTES (R377): LENGTH of a COPY, MCAST_WRITE or HASH; 8 or 4 of an
ATOMIC. -/
def Desc.moved (d : Desc) : Nat :=
  match d.opcode with
  | 0x01 | 0x02 | 0x20 => bits (d.w 4) 31 0
  | 0x03 => if bit (d.w 6) 4 then 8 else 4
  | _ => 0

/-- Queue a completion record (R232), without its PHASE. -/
def State.queueCpl (s : State) (d : Desc) (status count low detail : Nat) (last : Bool) (startTs : Nat) (silent : Bool := false) : State :=
  let dom := regionOf d.ni
  let fl := cplFlags (decide (s.fbDigest ≠ d.startDigest)) (decide (d.startMode % 2 = 1)) (decide (s.time.h ≠ d.startH)) false
    last d.late
  let w0 := d.tag <<< 32 + fl <<< 16 + d.opcode <<< 8 + status
  let w3 := (low % 4096) <<< 44 + (count % 4096) <<< 32 + (detail % 65536) <<< 16 + d.index % 65536
  let prov := if d.fPROV && last then some d else none
  ({ s with cplq := s.cplq ++ [(⟨d.ni, d.origin, [w0, startTs, s.stampOf dom, w3], d.fIRQ, prov, s.fbDigest, silent, none⟩ : Cpl)] }).stamped dom

/-- A member of a reduction sends nothing more (R190). -/
def State.redQuiet (s : State) (m : RMember) : State :=
  s.unqueue m.ni m.flow (fun p => decide (p.kind = opRED_DATA) && p.arg 0 == m.rid)

/-- A descriptor whose completions are decided leaves its NI (R190, R377, R425): its tenancy's counters move, and its transactions and queued
contributions go. -/
def State.retire (s : State) (d : Desc) (status : Nat) : State :=
  let s := s.addPair TN_DESC_LO TN_DESC_HI 1 d.ten
  let s := if status = 0 then s.addPair TN_BYTES_LO TN_BYTES_HI d.moved d.ten else s.addFld TN_FAIL_CNT 1 d.ten
  let s := s.log .ni d.ni 0x02 15 0 ((d.index % 65536) <<< 16 + status)
  let s := (s.otx.filter (fun o => o.desc == d.id)).foldl (fun s o => s.txUnwait o) s
  let s := (s.redm.filter (fun m => m.desc == d.id)).foldl State.redQuiet s
  { s with
    descs := s.descs.filter (fun e => e.id != d.id),
    xfers := s.xfers.filter (fun x => x.desc != d.id),
    redm := s.redm.filter (fun m => m.desc != d.id),
    hash := s.hash.filter (fun h => h.desc != d.id),
    otx := s.otx.filter (fun o => o.desc != d.id) }.refetch d.ni

/-- The status of a descriptor is decided (R234, R235): a completion is queued when it is not OK or CPL is set, or for the provenance that
PROV asks for (R241), and the descriptor leaves its NI. -/
def State.complete (s : State) (id status count low detail : Nat) : State :=
  match s.desc? id with
  | none => s
  | some d =>
    let s := if status ≠ 0 ∨ d.fCPL = true ∨ d.fPROV = true then
        s.queueCpl d status count low detail true d.startTs (decide (status = 0) && !d.fCPL) else s
    s.retire d status

/-- A descriptor with no object completes with a status. -/
def State.finish (s : State) (id status : Nat) : State := s.complete id status 0 0 0

/-! ## Transfers -/

def State.xfer? (s : State) (id : Nat) : Option Xfer := s.xfers.find? (fun x => x.id == id)
def State.updXfer (s : State) (id : Nat) (f : Xfer → Xfer) : State :=
  { s with xfers := updFirst (fun x => x.id == id) f s.xfers }

/-- Split a range into parts of at most 4,096 bytes that cross no 4 KiB boundary of an HBM source or destination (R133,
R147). The fuel is the number of parts at most. -/
def cutChunks (srcHbm dstHbm : Bool) : Nat → Nat → Nat → Nat → List Chunk
  | 0, _, _, _ => []
  | fuel + 1, src, dst, len =>
    if len = 0 then [] else
      let n := min len 4096
      let n := if srcHbm then min n (4096 - src % 4096) else n
      let n := if dstHbm then min n (4096 - dst % 4096) else n
      ⟨src, dst, n, 0, []⟩ :: cutChunks srcHbm dstHbm fuel (src + n) (dst + n) (len - n)

/-- Credits that a packet of n bytes costs (R133). -/
def cost (n : Nat) : Nat := cdiv n 512

/-- Credits that a transfer needs (R133). -/
def Xfer.total (x : Xfer) : Nat := (x.chunks.map (fun c => cost c.len)).sum

/-- Credits of the packets sent so far. -/
def Xfer.spent (x : Xfer) : Nat :=
  ((x.chunks.filter (fun c => !c.data.isEmpty && 3 ≤ c.st)).map (fun c => cost c.len)).sum

/-- Bytes of reads that an NI has asked for and waits for. -/
def State.readsOut (s : State) (ni : Nat) : Nat :=
  ((s.xfers.filter (fun x => x.ni == ni)).map (fun x => ((x.chunks.filter (fun c => c.st == 1)).map (fun c => c.len)).sum)).sum

/-- An NI holds room for the return of a read of `len` bytes (R113, R147): for one read at least, and for more as far as a free value allows.
Log entry 146, DESIGN CHOICE. -/
def State.readRoom (s : State) (ni len : Nat) : Bool := s.readsOut ni == 0 || decide (s.readsOut ni + len ≤ Config.readRoom)

/-- Send the reads of parts not yet asked for, as tags and room for their returns allow (R102, R113, R147). -/
def State.issueReads (s : State) (x : Xfer) : State :=
  (List.range x.chunks.length).foldl (fun s i =>
    match (s.xfer? x.id).bind (fun y => y.chunks[i]?) with
    | none => s
    | some c =>
      if c.st = 0 ∧ s.txnRoom x.ni = true ∧ s.readRoom x.ni c.len = true then
        match s.destAddr x.ni x.flow x.srcHost x.hp c.src with
        | .bad st => s.updXfer x.id (fun y => { y with
            statuses := y.statuses ++ [st], chunks := y.chunks.set i { c with st := 4 } })
        | .to l =>
          let t := s.freeTxn x.ni
          let s := s.addTx ⟨x.ni, t, .read, x.desc, x.id, i, if x.srcHost then s.chipId else adChip c.src, 0, false, false⟩
          let s := s.updXfer x.id (fun y => { y with chunks := y.chunks.set i { c with st := 1 } })
          s.niSend x.ni opREAD l x.ten x.flow t [c.src, c.len - 1]
      else s) s

/-- Form the write packets of the parts whose data is here, once the credits are held (R137, R146, R153). -/
def State.formWrites (s : State) (id : Nat) : State :=
  match s.xfer? id with
  | none => s
  | some x =>
    if x.revoked = true ∨ ¬(x.cr = 0 ∨ x.cr = 3) then s else
      (List.range x.chunks.length).foldl (fun s i =>
        match (s.xfer? id).bind (fun y => y.chunks[i]?) with
        | none => s
        | some c =>
          if c.st = 2 then
            let op := if x.group.isSome then opWRITE_MC else opWRITE
            let ep := if x.group.isSome then 0 else x.epoch
            let dest := if x.cr = 3 then Dest.to x.dstLoc else s.destAddr x.ni x.flow x.dstHost x.hp c.dst
            match dest with
            | .bad st => s.updXfer id (fun y => { y with
                statuses := y.statuses ++ [st], chunks := y.chunks.set i { c with st := 4 } })
            | .to l =>
              let p := mkDat op (niLoc x.ni) l x.ten x.flow x.txn [i] c.dst ep x.cls c.data
              (s.updXfer id (fun y => { y with chunks := y.chunks.set i { c with st := 3 } })).enqueue x.ni x.flow p
          else s) s

/-- Parts that will not be sent any more are closed; parts whose read or acknowledgement is still awaited stay open. -/
def Xfer.dropUnsent (x : Xfer) : Xfer :=
  { x with chunks := x.chunks.map (fun c => if c.st = 0 ∨ c.st = 2 then { c with st := 4, data := [] } else c) }

/-- No further packet of a transfer starts (R143): queued packets leave the flow. -/
def State.stopXfer (s : State) (id : Nat) : State :=
  match s.xfer? id with
  | none => s
  | some x =>
    let f := s.fl x.ni x.flow
    let mine := fun (p : Pkt) => p.txn == x.txn && (decide (p.kind = opWRITE) || decide (p.kind = opWRITE_MC))
    let gone := (f.queue.filter mine).map (fun p => p.arg 0)
    let s := s.unqueue x.ni x.flow mine
    s.updXfer id (fun y =>
      let y := y.dropUnsent
      { y with chunks := (List.range y.chunks.length).zipWith (fun i c =>
          if gone.contains i then { c with st := 4, data := [] } else c) y.chunks })

/-- Credits that a transfer holds and has not used go back (R137). -/
def State.returnUnused (s : State) (x : Xfer) : State :=
  let left := x.total - x.spent
  if x.cr = 3 ∧ 0 < left then s.niSend x.ni opCREDIT_RETURN x.dstLoc x.ten x.flow x.txn [left] else s

/-- The lowest logical tile among marked ones. -/
def lowest (l : List Nat) : Nat := l.foldl min 0xFFF

/-- A transfer ends (R137, R161, R235): unused credits go back, and its descriptor completes with the first status of its
parts. -/
def State.endXfer (s : State) (id : Nat) : State :=
  match s.xfer? id with
  | none => s
  | some x =>
    let st := firstStatus x.statuses
    let s := (s.returnUnused x).delTx x.ni x.txn
    let s := { s with xfers := s.xfers.filter (fun y => y.id != id) }
    match x.kind with
    | .mcast => s.complete x.desc st (if x.count ≠ 0 then x.count else if st = 0 then x.members else 0) x.low 0
    | .roll =>
      if x.statuses.head? = some stOK ∧ st ≠ stOK then s.finish x.desc st else s.complete x.desc st x.count x.low 0
    | _ => s.finish x.desc st

/-- Move a transfer on: reads, writes, and its end once no part is open (R146, R158). A multicast with a member missed takes
its roll call first. -/
def State.pump (s : State) (id : Nat) : State :=
  match s.xfer? id with
  | none => s
  | some x =>
    let s := if x.cr = 4 ∨ x.revoked = true then s.updXfer id Xfer.dropUnsent else s.issueReads x
    let s := s.formWrites id
    match s.xfer? id with
    | none => s
    | some y =>
      if y.chunks.all (fun c => c.st == 4) && !(y.cr == 1 || y.cr == 2) then
        if y.missSeen && !y.rolling && !y.revoked && (y.cr == 3) then
          (s.updXfer id (fun z => { z with rolling := true })).niSend y.ni opROLLCALL y.dstLoc y.ten y.flow y.txn [y.txn]
        else if y.rolling then s
        else s.endXfer id
      else s

/-- The transfers of an NI that wait for a tag or for room ask for their reads (R102, R113). -/
def State.pumpReads (s : State) (ni : Nat) : State :=
  (s.xfers.filter (fun x => x.ni == ni && x.chunks.any (fun c => c.st == 0) && x.cr != 4 && !x.revoked)).foldl
    (fun s x => s.pump x.id) s

/-- A transfer fails before or while it sends: the status joins the others and unsent parts are dropped. One that holds credits goes on
holding them until it ends (R137). -/
def State.failXfer (s : State) (id status : Nat) : State :=
  ((s.updXfer id (fun x => { x with
    cr := if x.cr = 3 then 3 else 4
    revoked := x.revoked || x.cr == 3
    statuses := x.statuses ++ [status] })).stopXfer id).pump id

/-- One part of a transfer has been answered with a status. -/
def State.partDone (s : State) (id i status : Nat) : State :=
  (s.updXfer id (fun x => { x with
    statuses := x.statuses ++ [status],
    chunks := match x.chunks[i]? with
      | some c => x.chunks.set i { c with st := 4 }
      | none => x.chunks })).pump id

/-- The class of a transfer of which no part has come yet. -/
def noClass : Nat := 2

/-- Read data has come back for part i, with its status and class (R147, R160, R363): a part of another class than those before it shows that
the source does not lie inside one handle or grant. -/
def State.partRead (s : State) (id i status cls : Nat) (data : List Nat) : State :=
  match s.xfer? id with
  | none => s
  | some x =>
    match x.chunks[i]? with
    | none => s
    | some c =>
      let cls := if x.srcHost then 1 else cls
      let other := x.cls ≠ noClass ∧ x.cls ≠ cls
      let s := s.updXfer id (fun x => { x with
        statuses := x.statuses ++ (if status = 0 then [] else [status]) ++ (if other then [stACCESS_DENIED] else []),
        cls := cls,
        chunks := x.chunks.set i (if other then { c with st := 4 } else { c with st := 2, data := data }) })
      s.pump id

/-- Ask for a transfer's credits (R133, R153). -/
def State.askCredits (s : State) (x : Xfer) (check epoch dst : Nat) : State :=
  let s := s.addTx ⟨x.ni, x.txn, .credit, x.desc, x.id, 0, adChip dst, 0, false, false⟩
  s.niSend x.ni opCREDIT_REQ x.dstLoc x.ten x.flow x.txn [dst, x.total, x.policy, check, epoch]

/-- The empty transfer of a descriptor. -/
def newXfer (s : State) (d : Desc) (kind : XKind) : Xfer :=
  { id := s.fresh * 4 + 1, ni := d.ni, desc := d.id, kind := kind, ten := d.ten, flow := d.flowNo, txn := s.freeTxn d.ni,
    dstHost := d.dstHost, srcHost := d.srcHost, hp := d.hpsel, cls := noClass, dstLoc := niLoc d.ni, early := 0, earlyBad := 0, policy := 0,
    cr := 0, shortLeft := 0, epoch := 0, revoked := false, group := none, members := 0, missAddr := 0, missHost := false,
    missSeen := false, rolls := [], rolling := false, statuses := [], count := 0, low := 0, chunks := [] }

/-- Start a transfer whose parts are known: credits first when the destination is scratchpad (R133, R137). -/
def State.startXfer (s : State) (x : Xfer) (credits : Bool) (check epoch dst : Nat) : State :=
  let x := { x with cr := if credits then 1 else 0 }
  let s := { s with xfers := s.xfers ++ [x] }
  let s := if credits then s.askCredits x check epoch dst
    else s.addTx ⟨x.ni, x.txn, .write, x.desc, x.id, 0, if x.dstHost then s.chipId else adChip dst, 0, false, false⟩
  s.pump x.id

/-- Write a few bytes to a descriptor's auxiliary address and then complete with a status (R158, R221): scratchpad takes
credits as a transfer of one packet, HBM and host memory do not. -/
def State.writeAux (s : State) (d : Desc) (addr : Nat) (host : Bool) (data : List Nat) (status count low : Nat) : State :=
  match s.destAddr d.ni d.flowNo host d.hpsel addr with
  | .bad st => if status = stOK then s.finish d.id st else s.complete d.id (firstStatus [status, st]) count low 0
  | .to l =>
    let x := newXfer s d .result
    let x := { x with id := s.fresh * 4 + 2, kind := if d.opcode = 0x02 then .roll else .result, dstHost := host, dstLoc := l, cls := 0,
                      statuses := [status], count := count, low := low, chunks := [⟨0, addr, data.length, 2, data⟩] }
    s.startXfer x (!host && adSpace addr == 0) 0 0 addr

end Sys2Proof.Machine
end

