-- ==== Sys2Proof/Machine/RemoteOps.lean ====
section
/-!
DEFINITION. Windows, ledgers and waiters at a target NI (R128 to R145), combining at routers (R152, R154, R156), the group
directory (R150), atomics (R148) and what the end of an open transaction does at its source.
-/

namespace Sys2Proof.Machine

/-! ## Windows -/

/-- Waiters of a window in queue order. -/
def State.waitersOf (s : State) (ni h : Nat) : List Waiter := s.waiters.filter (fun w => w.ni == ni && w.handle == h)

/-- Ledger entries in use at an NI. -/
def State.ledgerUse (s : State) (ni : Nat) : Nat := (s.ledger.filter (fun l => l.ni == ni)).length

/-- Answer a credit request at its source (R127): epoch, credits, result. -/
def State.creditAnswer (s : State) (ni : Nat) (src : Loc) (ten flow txn epoch credits result : Nat) : State :=
  s.niSend ni opCREDIT_ANS src ten flow txn [epoch, credits, result, 0]

/-- Grant credits (R134). -/
def State.grant (s : State) (ni h : Nat) (src : Loc) (txn n : Nat) : State :=
  let w := s.window ni h
  let s := s.setWin ni h { w with free := w.free - n, granted := w.granted + n }
  { s with ledger := s.ledger ++ [⟨ni, src, txn, h, w.epoch, n⟩] }

/-- The conditions of R134 on the window and the ledger, for a request of n credits with no waiter ahead. -/
def State.canGrant (s : State) (ni h n : Nat) : Bool :=
  let w := s.window ni h
  w.state == 1 && decide (n ≤ w.free) && decide (s.ledgerUse ni < 128)

/-- Grant the head waiters of a window while R134 allows (R135). The fuel is the number of waiter slots. -/
def State.serveWaiters (s : State) (ni h : Nat) : Nat → State
  | 0 => s
  | fuel + 1 =>
    match s.waitersOf ni h with
    | [] => s
    | w :: _ =>
      if s.canGrant ni h w.credits then
        let s := { s with waiters := delFirst (fun x => decide (x = w)) s.waiters }
        let s := s.grant ni h w.src w.txn w.credits
        (s.creditAnswer ni w.src w.ten w.flow w.txn (s.window ni h).epoch w.credits 0).serveWaiters ni h fuel
      else s

/-- A ledger entry has become free: the head waiters of every window are tried, from the handle after the last one granted in
this way (R135). -/
def State.ledgerFreed (s : State) (ni : Nat) : State :=
  let from_ := s.lastGrant.get ni 255
  let hs := (s.waiters.filter (fun w => w.ni == ni)).map (fun w => w.handle)
  if hs.isEmpty then s
  else (List.range 256).foldl (fun s i =>
    let h := (from_ + 1 + i) % 256
    let t := s.serveWaiters ni h 64
    if (t.waitersOf ni h).length < (s.waitersOf ni h).length then { t with lastGrant := t.lastGrant.put ni h } else t) s

/-- Lower a ledger entry, which goes at zero (R136). -/
def State.lowerLedger (s : State) (e : LedgerE) (n : Nat) : State :=
  if e.remaining ≤ n then { s with ledger := delFirst (fun x => decide (x = e)) s.ledger }
  else { s with ledger := updFirst (fun x => decide (x = e)) (fun x => { x with remaining := x.remaining - n }) s.ledger }

/-- Lower a ledger entry; a freed entry lets waiters in (R135, R136). -/
def State.useLedger (s : State) (e : LedgerE) (n : Nat) : State :=
  if e.remaining ≤ n then (s.lowerLedger e n).ledgerFreed e.ni else s.lowerLedger e n

/-- Credits of a ledger entry go back to FREE of its window (R135, R136): the window's waiters are served, and where the entry has become free,
then those of every window. -/
def State.giveBack (s : State) (e : LedgerE) (n : Nat) : State :=
  let w := s.window e.ni e.handle
  let s := ((s.setWin e.ni e.handle { w with free := w.free + n, granted := w.granted - n }).lowerLedger e n).serveWaiters e.ni e.handle 64
  if e.remaining ≤ n then s.ledgerFreed e.ni else s

/-- Answer every waiter of a window CLOSED (R129, R140, R141). -/
def State.closeWaiters (s : State) (ni h : Nat) : State :=
  let ws := s.waitersOf ni h
  let ep := (s.window ni h).epoch
  let s := { s with waiters := s.waiters.filter (fun w => !(w.ni == ni && w.handle == h)) }
  ws.foldl (fun s w => s.creditAnswer ni w.src w.ten w.flow w.txn ep 0 3) s

/-- A source on this chip, and not behind an outer link (R140). -/
def onChip (l : Loc) : Bool :=
  match attachOf l with
  | some (.ol _) => false
  | _ => true

/-- End the WAITs of KIND 1 on a window with a status (R227). -/
def State.endWinWaits (s : State) (ni h status : Nat) : State :=
  let ws := s.waits.filter (fun w => w.ni == ni && w.kind == 1 && w.key == h)
  let s := { s with waits := s.waits.filter (fun w => !(w.ni == ni && w.kind == 1 && w.key == h)) }
  ws.foldl (fun s w =>
    let s := match s.desc? w.desc with
      | some d => ((s.traceRec ni 2 d.ten (some d.trace) 15 0 h status).waitFree ni 2 h d.tag).log .ni ni 0x04 15 0 d.tag
      | none => s
    s.finish w.desc status) s

/-- Tell the issuer of a close how it ended (R142). -/
def State.answerClose (s : State) (ni h : Nat) (c : Close) (status : Nat) : State :=
  let s := match c.desc with
    | some d => s.finish d status
    | none => s
  match c.issuer with
  | some l => s.niSend ni opWIN_ANS l 0 0 c.txn [status, (s.window ni h).epoch]
  | none => s

/-- Who issues a window operation of a descriptor (R421): the host, or the tile. -/
def Desc.issuerKind (d : Desc) : Nat := if d.origin < 4096 then 3 else 0
def State.issuer (s : State) (d : Desc) : Nat := if d.origin < 4096 then 0 else s.ltileOf d.ni d.ni

/-- Whom the record of a close names (R421): the issuer of the pending close, else the tile itself. -/
def State.closeIssuer (s : State) (ni : Nat) (cs : List Close) : Nat × Nat :=
  match cs.head? with
  | none => (0, s.ltileOf ni ni)
  | some c => match c.issuer, c.desc.bind (fun id => s.desc? id) with
    | some l, _ => (0, s.ltileOf ni l.slot)
    | none, some d => (d.issuerKind, s.issuer d)
    | none, none => (0, s.ltileOf ni ni)

/-- A close takes effect (R140): EPOCH moves, the window closes, its ledger entries and waiters go, revokes leave, and every
pending close ends; a drain cut short ends TIMEOUT (R141, R145). -/
def State.closeNow (s : State) (ni h : Nat) (drained : Bool) : State :=
  let w := s.window ni h
  let by_ := s.closeIssuer ni w.closes
  let holders := s.ledger.filter (fun l => l.ni == ni && l.handle == h)
  let s := s.setWin ni h { w with state := 0, epoch := (w.epoch + 1) % 2 ^ 16, free := 0, granted := 0, used := 0, pool := 0,
                                  sinceSig := 0, closes := [] }
  let s := { s with ledger := s.ledger.filter (fun l => !(l.ni == ni && l.handle == h)) }
  let s := s.closeWaiters ni h
  let s := holders.foldl (fun s e =>
    if onChip e.src then s.niSend ni opCREDIT_REVOKE e.src 0 0 0 [e.txn] else s) s
  let s := s.endWinWaits ni h stWINDOW_CLOSED
  let s := s.traceRec ni 7 (s.fld NI_HDL_CFG_TENANCY ni h) none by_.1 by_.2 h
    ((s.window ni h).epoch <<< 16 + (if w.closes.any (fun c => c.drain) && !drained then stTIMEOUT else 0))
  let s := w.closes.foldl (fun s c => s.answerClose ni h c (if c.drain && !drained then stTIMEOUT else stOK)) s
  s.ledgerFreed ni

/-- Begin a close (R140 to R142): a CLOSED window completes OK at once; a drain answers waiters and waits for its grants; a
DRAIN_LIMIT of 0 acts as CLOSE_NOW. Log entry 87, DEDUCED. -/
def State.beginClose (s : State) (ni h : Nat) (drain : Bool) (limit : Nat) (c : Close) : State :=
  let w := s.window ni h
  let c := { c with drain := drain && limit != 0 }
  if w.state = 0 then s.answerClose ni h c stOK
  else if c.drain then
    let s := s.setWin ni h { w with state := 2, closes := w.closes ++ [c] }
    if w.state = 1 then s.closeWaiters ni h else s
  else s.setWin ni h { w with closes := w.closes ++ [c] }

/-- The number of the signal line of a tenancy that holds an address (R243). Log entry 44, DEDUCED. -/
def sigLineNo (ten addr : Nat) : Nat := 64 * ten + addr % 4096 / 64

/-- A condition that a WAIT waits for may hold now (R227): end those that hold with OK. `writer` is the tile whose packet
raised the last signal. -/
def State.checkWaits (s : State) (ni kind key sub count writer : Nat) : State :=
  let hit := fun (w : Waiting) => w.ni == ni && w.kind == kind && w.key == key && w.sub == sub && decide (w.target ≤ count)
  let ws := s.waits.filter hit
  let s := { s with waits := s.waits.filter (fun w => !(hit w)) }
  ws.foldl (fun s w =>
    let s := match s.desc? w.desc with
      | some d =>
        let obj := if kind = 0 then sub % 16 else if kind = 1 then key else sigLineNo d.ten key
        ((s.traceRec ni 2 d.ten (some d.trace) (if kind = 0 then 2 else if kind = 1 then 0 else 3)
          (if kind = 1 then writer else 0) obj stOK).waitFree ni (kind + 1) obj d.tag).log .ni ni 0x04 15 0 d.tag
      | none => s
    s.finish w.desc stOK) s

/-- Open a window (R130): the status, and the state when it is OK. -/
def State.openWindow (s : State) (ni h pool notify issuerKind issuer : Nat) : Nat × State :=
  let w := s.window ni h
  if w.state ≠ 0 ∨ pool = 0 ∨ 8191 < pool ∨ (s.hdlRange ni h).2 < pool * 512 then (stBAD_DESCRIPTOR, s)
  else
    let s := s.setWin ni h { w with state := 1, pool := pool, free := pool, granted := 0, used := 0, notify := notify,
                                    sinceSig := 0, signals := 0, opens := w.opens + 1 }
    (stOK, s.traceRec ni 6 (s.fld NI_HDL_CFG_TENANCY ni h) none issuerKind issuer h (w.epoch <<< 16 + pool)
      |>.checkWaits ni 1 h (w.opens + 1) 0 issuer)

/-- Replenish a window (R131): the status, and the state when it is OK. -/
def State.replenish (s : State) (ni h n issuerKind issuer : Nat) : Nat × State :=
  let w := s.window ni h
  if w.state = 0 then (stWINDOW_CLOSED, s)
  else if w.used < n then (stBAD_DESCRIPTOR, s)
  else
    let s := s.setWin ni h { w with free := w.free + n, used := w.used - n }
    let s := s.serveWaiters ni h 64
    (stOK, s.traceRec ni 8 (s.fld NI_HDL_CFG_TENANCY ni h) none issuerKind issuer h n)

/-- The handle and tenancy checks of a window operation (R125 steps 1 and 2, R368). -/
def State.winCheck (s : State) (ni h ten : Nat) : Option Nat :=
  if s.tnState ni ≠ 1 then some stACCESS_DENIED
  else if s.fld NI_HDL_CFG_VALID ni h = 0 then some stWINDOW_UNKNOWN
  else if s.fld NI_HDL_CFG_TENANCY ni h ≠ ten then some stACCESS_DENIED
  else none

/-- The signal lines that an NI's WAITs need (R244): lines that none uses are released, and missing ones are read while fewer
than four are cached. A replayed tenancy's WAITs take their values from the log (R269). -/
def State.sigPump (s : State) (ni : Nat) : State :=
  let live := fun (w : Waiting) => match s.desc? w.desc with
    | some d => !(s.replayMode 2 d.ten)
    | none => true
  let ws := s.waits.filter (fun w => w.ni == ni && w.kind == 2 && live w)
  let used := (ws.map (fun w => (w.sub, w.key / 64 * 64))).dedup
  let s := { s with sigLines := s.sigLines.filter (fun l => !(l.ni == ni) || used.contains (l.ten, l.addr)) }
  ws.foldl (fun s w =>
    let line := w.key / 64 * 64
    let mine := s.sigLines.filter (fun l => l.ni == ni)
    if mine.any (fun l => l.ten == w.sub && l.addr == line) ∨ 4 ≤ mine.length ∨ s.txnRoom ni = false then s
    else
      let ten := w.sub
      let t := s.freeTxn ni
      let s := { s with sigLines := s.sigLines ++ [(⟨ni, ten, line, none⟩ : SigLine)] }
      let s := s.addTx ⟨ni, t, .sigRead, 0, ten, line, s.chipId, 0, false, false⟩
      s.niSend ni opSIG_READ (hpLoc (s.fld FB_SIG_LO_HP 0 ten)) ten 0 t [line]) s

/-- The WAITs of KIND 2 of an NI for a tenancy's words that satisfy p end with a status (R227, R246). -/
def State.endSigWaits (s : State) (ni ten : Nat) (p : Nat → Bool) (status : Nat) : State :=
  let hit := fun (w : Waiting) => w.ni == ni && w.kind == 2 && w.sub == ten && p w.key
  let ws := s.waits.filter hit
  let s := { s with waits := s.waits.filter (fun w => !(hit w)) }
  (ws.foldl (fun s w =>
    let s := match s.desc? w.desc with
      | some d => ((s.traceRec ni 2 d.ten (some d.trace) 3 0 (sigLineNo d.ten w.key) status).waitFree ni 3
          (sigLineNo d.ten w.key) d.tag).log .ni ni 0x04 15 0 d.tag
      | none => s
    s.finish w.desc status) s).sigPump ni

/-- A signal line has been read (R244): WAITs whose word has reached its VALUE end (R227). -/
def State.sigLineIn (s : State) (n ten addr : Nat) (data : List Nat) : State :=
  let s := { s with sigLines := updFirst (fun l => l.ni == n && l.ten == ten && l.addr == addr) (fun l => { l with data := some data }) s.sigLines }
  ((List.range 8).foldl (fun s i =>
    s.checkWaits n 2 (addr + 8 * i) ten (ofBytes (Sys2Proof.Machine.slice data (8 * i) 8)) 0) s).sigPump n

/-- USED of a window has grown by n: raise its signal at every NOTIFY_EVERY (R132). -/
def State.windowUsed (s : State) (ni h n writer : Nat) : State :=
  let w := s.window ni h
  if w.notify = 0 then s else
    let k := (w.sinceSig + n) / w.notify
    let s := s.setWin ni h { w with sinceSig := (w.sinceSig + n) % w.notify, signals := w.signals + k }
    if k = 0 then s else
      let s := s.traceRec ni 3 (s.fld NI_HDL_CFG_TENANCY ni h) none 15 0 h (w.signals + k)
      s.checkWaits ni 1 h w.opens (w.signals + k) writer

/-- Judge a write packet at its target (R125, R138, R157): the status, and the ledger entry it uses. -/
def State.judgeWrite (s : State) (ni : Nat) (p : Pkt) (mc : Bool) : Nat × Option LedgerE :=
  let a := p.arg 1
  let h := adHandle a
  let act := p.arg 5 = 0
  match s.check125 ni h p.ten (adOfs a) p.data.length act with
  | some st => (st, none)
  | none =>
    let w := s.window ni h
    if w.state = 0 ∨ (mc = false ∧ p.arg 2 ≠ w.epoch) then (stWINDOW_CLOSED, none)
    else
      match s.ledger.find? (fun l => l.ni == ni && decide (l.src = p.src) && l.txn == p.txn && l.handle == h &&
          l.epoch == w.epoch && decide (cost p.data.length ≤ l.remaining)) with
      | some l => (stOK, some l)
      | none => (stNO_CREDIT, none)

/-- Write an accepted packet and account for its credits (R132, R136, R146). -/
def State.acceptWrite (s : State) (ni : Nat) (p : Pkt) (l : LedgerE) : State :=
  let h := l.handle
  let n := cost p.data.length
  let s := s.spadWrite ni ((s.hdlRange ni h).1 + adOfs (p.arg 1)) p.data
  let s := s.addPair NI_OPEN_RX_LO NI_OPEN_RX_HI p.data.length ni
  let w := s.window ni h
  let s := s.setWin ni h { w with granted := w.granted - n, used := w.used + n }
  let s := s.useLedger l n
  s.windowUsed ni h n (s.ltileOf ni p.src.slot)

/-- The cause bits of a discarded write (R138). -/
def State.writeCause (s : State) (ni status : Nat) : State :=
  if status = stWINDOW_CLOSED then s.niCause ni NI_CREDIT_STATUS_STALE_WRITE 11 1
  else if status = stNO_CREDIT then s.niCause ni NI_CREDIT_STATUS_BAD_CREDIT 11 0
  else s

/-- A multicast transfer asks for its credits: a receipt that an earlier transfer of the same source and TXN has left is no longer its own
(R158). -/
def State.receiptNew (s : State) (ni : Nat) (src : Loc) (txn : Nat) : State :=
  { s with receipts := s.receipts.filter (fun r => !(r.ni == ni && decide (r.src = src) && r.txn == txn)) }

/-- Count an accepted multicast packet in the receipt table of 16 entries, oldest replaced first (R158). -/
def State.receipt (s : State) (ni : Nat) (src : Loc) (txn : Nat) : State :=
  let same := fun (r : Receipt) => r.ni == ni && decide (r.src = src) && r.txn == txn
  if s.receipts.any same then
    { s with receipts := updFirst same (fun r => { r with packets := r.packets + 1 }) s.receipts }
  else
    let mine := s.receipts.filter (fun r => r.ni == ni)
    let rs := if 16 ≤ mine.length then delFirst (fun r => r.ni == ni) s.receipts else s.receipts
    { s with receipts := rs ++ [⟨ni, src, txn, 1⟩] }

/-! ## Group directory -/

/-- n bytes at an HBM offset through the current map; zero where unmapped. Log entry 166, DESIGN CHOICE. -/
def State.hbmBytes (s : State) (ofs n : Nat) : List Nat :=
  (List.range n).map (fun i =>
    match s.fbMap.decode (ofs + i) with
    | some (port, a) => s.hbm.read (hbmKey port a)
    | none => 0)

/-- Write bytes at an HBM offset through the current map; unmapped bytes are not written. Log entry 166, DESIGN CHOICE. -/
def State.hbmPut (s : State) (ofs : Nat) (d : List Nat) : State :=
  (List.range d.length).foldl (fun s i =>
    match s.fbMap.decode (ofs + i) with
    | some (port, a) => s.hbmWrite port a [d.getD i 0]
    | none => s) s

/-- The member record of a save area for this NI's logical tile (R258): NEXT_OFF and READY counts. -/
def State.savedMember (s : State) (ni save : Nat) : Nat × SMap Nat :=
  let w := fun (o : Nat) => ofBytes (s.hbmBytes (adBig save + o) 8)
  let k := bits (w 24) 61 50
  let lt := s.ltileOf ni ni
  let r := ((List.range k).find? (fun r => bits (w (256 + 128 * r)) 31 20 == lt)).getD 0
  let o := 256 + 128 * r
  (bits (w o) 63 32, (List.range 16).map (fun i => (i, bits (w (o + 8 + 8 * (i / 2))) (32 * (i % 2) + 31) (32 * (i % 2)))))

/-- The group directory's HBM offset (R152). -/
def State.grpDir (s : State) : Nat := adBig (s.pair FB_GRP_DIR_LO FB_GRP_DIR_HI)

/-- Word w of directory entry g (R152). Log entry 166, DESIGN CHOICE. -/
def State.grpWord (s : State) (g w : Nat) : Nat := ofBytes (s.hbmBytes (s.grpDir + 512 * g + 8 * w) 8)

def State.grpValid (s : State) (g : Nat) : Bool := bit (s.grpWord g 0) 63
def State.grpTen (s : State) (g : Nat) : Nat := bits (s.grpWord g 0) 62 57
def State.grpMembers (s : State) (g : Nat) : Nat := bits (s.grpWord g 0) 56 45

/-- The logical tiles of a group (R152). -/
def State.grpMap (s : State) (g : Nat) : List Nat :=
  (List.range 36).flatMap (fun w =>
    let v := s.grpWord g (w + 1)
    ((List.range 64).filter (fun i => bit v i)).map (fun i => 64 * w + i))

/-! ## Atomics -/

/-- Sign of a number of n bits. -/
def toSigned (n v : Nat) : Int := if v < 2 ^ (n - 1) then (v : Int) else (v : Int) - 2 ^ n

/-- The new value of an atomic but FADD32 (R148). -/
def atomicNew (aop n old opnd : Nat) : Nat :=
  match aop with
  | 0 => (old + opnd) % 2 ^ n
  | 1 => old &&& opnd
  | 2 => old ||| opnd
  | 3 => old ^^^ opnd
  | 4 => opnd
  | 5 => if toSigned n old < toSigned n opnd then opnd else old
  | 6 => if toSigned n opnd < toSigned n old then opnd else old
  | 7 => max old opnd
  | _ => min old opnd

end Sys2Proof.Machine
end

