-- ==== Sys2Proof/Machine/PortOps.lean ====
section
/-!
DEFINITION. What the memory ports and host ports do with mesh packets (R218, R244, R245, R339, R365), and how a packet that
finds nobody is dropped (R107).
-/

namespace Sys2Proof.Machine

/-! ## Drops -/

/-- Discard a REQ or DAT packet with a DROP to its source (R107); a RSP or SNP packet is reported under OPEN of the NI at
`slot`. A DROP is discarded without report. -/
def State.drop (s : State) (self : Loc) (slot port reason : Nat) (p : Pkt) : State :=
  match p.net with
  | .req => s.emit (mkPkt opDROP self p.src p.ten p.flow p.txn [reason, p.op, 0])
  | .dat => s.emit (mkPkt opDROP self p.src p.ten p.flow p.txn [reason, p.op, 1])
  | _ =>
    if p.kind = opDROP then s
    else s.report .ni slot 10 (30 + reason <<< 8 + port <<< 12 + (if p.net = .rsp then 1 else 2) <<< 15)

/-! ## Memory ports -/

/-- The smallest CAP of the 16 ports (R446). -/
def State.capMin (s : State) : Nat := (List.range 16).foldl (fun m n => min m (s.mpt n).cap) 63

/-- Answer a packet that a memory port refuses (R339, R365). -/
def State.mpRefuse (s : State) (p : Pkt) (self : Loc) (status : Nat) : State :=
  if p.kind = opREAD then s.answer p self opREAD_ERR [status]
  else if p.kind = opWRITE then s.answer p self opWRITE_ACK [status, p.arg 0, 0]
  else s.answer p self p.atomicAns [status, 0]

/-- Bytes that a request to a memory port covers. -/
def reqLen (p : Pkt) : Nat :=
  if p.kind = opREAD then p.arg 1 + 1
  else if p.kind = opWRITE then p.data.length
  else if (if p.kind = opATOMIC then p.arg 2 else p.arg 1) = 1 then 8 else 4

/-- The address of a request: after PKT in a write. -/
def reqAddr (p : Pkt) : Nat := if p.kind = opWRITE then p.arg 1 else p.arg 0

/-- An open-plane request reaches a memory port (R338, R339, R345, R365): placed by the port's own copy of the map, checked
against its copies of the grants, and queued for the arbiter. -/
def State.mpOpen (s : State) (n a : Nat) (p : Pkt) (ue : Bool) : State :=
  let self := mpLoc n a
  let m := s.mpt n
  let ofs := adBig (reqAddr p)
  let len := reqLen p
  let wr := p.kind = opWRITE
  if s.fld (xx_ERR_STATUS_SAFE .mp) n = 1 then s.drop self self.slot 4 1 p
  else
    match m.map.decode ofs with
    | none => s.mpRefuse p self stACCESS_DENIED
    | some (port, addr) =>
      if port ≠ n then s.mpRefuse p self stACCESS_DENIED
      else if covered m.grants p.ten ofs len
          (fun c => if wr then (p.arg 5 = 1 || c == 0) else true) = false then s.mpRefuse p self stACCESS_DENIED
      else
        let k : MKind := if p.kind = opREAD then (if p.src.port = 5 then .bnRead else .read) else if wr then .write else .atomic
        s.modMp n (fun m => { m with ready := m.ready ++
          [⟨0, k, if p.src.port = 5 then 12 else 6 + a, addr, len, p.data, some p, self.slot, 0, 0, ue⟩] })

/-! ## Host ports -/

/-- Bytes of a packet of the bridge: a header beat and the data beats (R449). -/
def BPkt.wire (b : BPkt) : Nat := 128 * (1 + cdiv b.data.length 128)

/-- A packet leaves for the bridge (R448). Log entry 129, DESIGN CHOICE. -/
def State.bridgeTx (s : State) (n : Nat) (b : BPkt) : State :=
  (s.modHp n (fun p => { p with tx := some b })).addPair HP_TX_BYTES_LO HP_TX_BYTES_HI b.wire n

/-- A completion for the bridge leaves when a credit of its class is held, and waits otherwise (R448). Log entry 129, DESIGN CHOICE. -/
def State.cplOut (s : State) (n : Nat) (b : BPkt) : State :=
  if (s.hpt n).cpls = [] ∧ 0 < (s.hpt n).crd1 then
    (s.modHp n (fun p => { p with crd1 := p.crd1 - 1 })).bridgeTx n b
  else s.modHp n (fun p => { p with cpls := p.cpls ++ [b] })

/-- Queue a request for the bridge; its tag is chosen when it is sent. -/
def State.hpPush (s : State) (n : Nat) (r : HReq) : State := s.modHp n (fun p => { p with q := p.q ++ [r] })

/-- The signal line 64t + line of tenancy t that holds a host address on a host port (R243). -/
def State.sigPageOf (s : State) (hp ten addr : Nat) : Option Nat :=
  if s.fld FB_SIG_LO_VALID 0 ten = 1 ∧ s.fld FB_SIG_LO_HP 0 ten = hp ∧
      addr / 4096 * 4096 = s.fld FB_SIG_LO_ADDR_LO 0 ten <<< 12 + s.fld FB_SIG_HI_ADDR_HI 0 ten <<< 32 then some (64 * ten + addr % 4096 / 64)
  else none

/-- The signal lines that `len` bytes from a host address on touch (R243, R245), of every tenancy whose page they lie in. -/
def State.sigLinesAt (s : State) (hp addr len : Nat) : List Nat :=
  (List.range 64).flatMap (fun t =>
    (List.range ((addr + len - 1) / 64 + 1 - addr / 64)).filterMap (fun i => s.sigPageOf hp t (64 * (addr / 64 + i))))

/-- The sharers of signal lines, with their lines (R244). -/
def State.sharersOf (s : State) (hp : Nat) (lines : List Nat) : List (Nat × Nat) :=
  lines.flatMap (fun l => ((s.hpt hp).sharers.get l []).map (fun ni => (l, ni)))

/-- Invalidate sharers of signal lines (R245): SIG_INV to each; a line's directory entry empties as they answer. -/
def State.sigInvalidate (s : State) (hp : Nat) (sh : List (Nat × Nat)) : State :=
  sh.foldl (fun s x => s.emit (mkPkt opSIG_INV (hpLoc hp) (niLoc x.2) 0 0 0 [x.1])) s

/-- Invalidate sharers for which nothing waits (R244, R246): they have left the directory, and their acknowledgements are awaited all the same. -/
def State.sigDismiss (s : State) (hp : Nat) (sh : List (Nat × Nat)) : State :=
  (s.sigInvalidate hp sh).modHp hp (fun h => { h with displaced := h.displaced ++ sh })

/-- Send a request to the bridge. A read of a signal line makes its NI a sharer, and a ninth displaces the oldest (R244).
Log entry 43, DEDUCED. -/
def State.hpGo (s : State) (hp : Nat) (r : HReq) : State :=
  match r.why with
  | .serve p =>
    match (if p.kind = opSIG_READ then s.sigPageOf hp p.ten r.b.addr else none) with
    | none => s.hpPush hp r
    | some line =>
      let l := ((s.hpt hp).sharers.get line []).filter (fun x => x != p.src.slot)
      let s := if 8 ≤ l.length then s.sigDismiss hp [(line, l.headD 0)] else s
      (s.modHp hp (fun h => { h with
        sharers := h.sharers.put line ((if 8 ≤ l.length then l.drop 1 else l) ++ [p.src.slot]) })).hpPush hp r
  | _ => s.hpPush hp r

/-- Two lists of signal lines meet. -/
def sameLine (a b : List Nat) : Bool := a.any (fun l => b.contains l)

/-- An atomic is under way on one of these signal lines at a host port, with its read or its write at the bridge (R218).
Log entry 72, DEDUCED. -/
def State.atomicOn (s : State) (hp : Nat) (lines : List Nat) : Bool :=
  ((s.hpt hp).q ++ (s.hpt hp).out).any (fun r =>
    (match r.why with
     | .atomRead _ | .atomWrite _ _ => true
     | _ => false) && sameLine (s.sigLinesAt hp r.b.addr r.b.len) lines)

/-- Send a request to the bridge, or first invalidate the sharers of every signal line that it writes (R218, R245). Accesses to a line
that is being invalidated wait for it. Log entry 72, DEDUCED; log entry 88, DEDUCED. -/
def State.hpServe (s : State) (hp : Nat) (r : HReq) (invalidates : Bool) : State :=
  match s.sigLinesAt hp r.b.addr r.b.len with
  | [] => s.hpPush hp r
  | l :: ls =>
    let sh := if invalidates then s.sharersOf hp (l :: ls) else []
    let busy := (s.hpt hp).sigWaits.any (fun w => sameLine w.lines (l :: ls)) || s.atomicOn hp (l :: ls)
    if busy || !sh.isEmpty then
      (s.sigInvalidate hp sh).modHp hp (fun p => { p with sigWaits := p.sigWaits ++ [⟨l :: ls, sh, none, some r⟩] })
    else s.hpGo hp r

/-- The first wait that nothing holds: its sharers have acknowledged, no earlier wait shares a line with it, and no atomic holds one. -/
def State.sigReady (s : State) (hp : Nat) : List SigWait → List SigWait → Option SigWait
  | _, [] => none
  | before, w :: ws =>
    if w.left = [] ∧ before.any (fun v => sameLine v.lines w.lines) = false ∧ s.atomicOn hp w.lines = false then some w
    else s.sigReady hp (before ++ [w]) ws

/-- A request of a tile that writes the signal lines it touches. -/
def HReq.writes (r : HReq) : Bool :=
  match r.why with
  | .serve p => decide (p.kind = opWRITE)
  | .atomRead _ => true
  | _ => false

/-- What waits for signal lines goes on, in order for each line: a host write is answered, and an access goes to the bridge (R218, R245). A
write of a tile first invalidates the sharers that reads before it have made. The fuel bounds the steps. -/
def State.sigRelease (s : State) (hp : Nat) : Nat → State
  | 0 => s
  | fuel + 1 =>
    match s.sigReady hp [] (s.hpt hp).sigWaits with
    | none => s
    | some w =>
      let sh := if (w.req.map HReq.writes).getD false then s.sharersOf hp w.lines else []
      if sh ≠ [] then
        ((s.sigInvalidate hp sh).modHp hp (fun p => { p with
          sigWaits := updFirst (fun x => decide (x = w)) (fun x => { x with left := sh }) p.sigWaits })).sigRelease hp fuel
      else
      let s := s.modHp hp (fun p => { p with sigWaits := delFirst (fun x => decide (x = w)) p.sigWaits })
      let s := match w.tag with
        | some t => s.cplOut hp ⟨4, t, 0, false, 0, 0, 0, []⟩
        | none => s
      let s := match w.req with
        | some r => s.hpGo hp r
        | none => s
      s.sigRelease hp fuel

/-- A sharer of a signal line has acknowledged, or its time is up (R245): it is gone, unless the acknowledgement answers a SIG_INV for which
nothing waits (R244). -/
def State.sharerGone (s : State) (hp line ni : Nat) : State :=
  let h := s.hpt hp
  if h.displaced.contains (line, ni) then s.setHp hp { h with displaced := h.displaced.erase (line, ni) } else
  let s := s.setHp hp { h with
    sharers := h.sharers.put line ((h.sharers.get line []).filter (fun x => x != ni))
    sigWaits := h.sigWaits.map (fun w => { w with left := w.left.filter (fun x => decide (x ≠ (line, ni))) }) }
  s.sigRelease hp (2 * h.sigWaits.length)

/-- Answer a register request of the bridge (R8, R450): reads carry four bytes. -/
def State.regReply (s : State) (n : Nat) (r : RegReq) (status v : Nat) : State :=
  s.cplOut n ⟨4, r.tag, 0, false, if r.write then 0 else 4, status, 0, if r.write then [] else toBytes 4 v⟩

/-- The place on the mesh that serves an offset (R460). -/
def regLoc (off : Nat) : Loc :=
  match blockOf off with
  | some (.tp, _) => tpLoc
  | some (.hp, i) => hpLoc i
  | some (.mp, i) => mpLoc i 0
  | some (.ol, i) => olLoc i
  | some (.rt, i) | some (.ni, i) => niLoc i
  | _ => bnLoc

/-- Send the oldest register request of each requester and unit that has none outstanding (R463). Log entry 27, DEDUCED. -/
def State.regPump (s : State) (n : Nat) : State :=
  (s.hpt n).regs.foldl (fun s r =>
    let h := s.hpt n
    if r.sent || h.regs.any (fun q => q.sent && blockOf q.off == blockOf r.off && q.priv == r.priv && q.ten == r.ten) || !(s.txnRoom (2305 + n)) then s
    else
      let t := s.freeTxn (2305 + n)
      let s := s.setHp n { h with regs := updFirst (fun q => decide (q = r)) (fun q => { q with sent := true, txn := t }) h.regs }
      let s := s.addTx ⟨2305 + n, t, .reg, 0, 0, 0, s.chipId, 0, false, false⟩
      s.emit (mkPkt (if r.write then opREG_WR else opREG_RD) (hpLoc n) (regLoc r.off) r.ten 0 t
        ([b2n r.priv, r.off] ++ if r.write then [r.data] else []))) s

/-- A register packet has ended (R462 to R464): the bridge is answered, and the next request for the unit leaves. -/
def State.hpRegDone (s : State) (n txn status v : Nat) : State :=
  match (s.hpt n).regs.find? (fun r => r.sent && r.txn == txn) with
  | none => s
  | some r =>
    let s := s.modHp n (fun p => { p with regs := delFirst (fun q => decide (q = r)) p.regs })
    ((s.regReply n r status v).delTx (2305 + n) txn).regPump n

/-- A mesh request reaches a host port (R218): reads and writes go to the bridge with the packet's tenancy; an atomic is a read
and a write of one signal line. A write whose payload came with an error is acknowledged so. -/
def State.hpOpen (s : State) (n : Nat) (p : Pkt) (ue : Bool) : State :=
  if s.fld (xx_ERR_STATUS_SAFE .hp) n = 1 then s.drop (hpLoc n) (hpLoc n).slot 4 1 p
  else
    let a := reqAddr p
    let len := reqLen p
    if p.kind = opREAD then
      s.hpServe n ⟨⟨2, 0, p.ten, false, len, 0, a, []⟩, .serve p⟩ false
    else if p.kind = opWRITE then
      s.hpServe n ⟨⟨3, 0, p.ten, false, len, if ue then stDATA_ERROR else 0, a, p.data⟩, .serve p⟩ true
    else s.hpServe n ⟨⟨2, 0, p.ten, false, len, 0, a, []⟩, .atomRead p⟩ true

end Sys2Proof.Machine
end

