-- ==== Sys2Proof/Machine/Fp.lean ====
section
/-!
DEFINITION. Floating point: formats as exact dyadic numbers, rounding to nearest even (R176, R177), and FADD32 (R148).
-/

namespace Sys2Proof.Machine

/-- A decoded floating-point value; a finite one is ±m · 2^e. -/
inductive FV where
  | nan
  | inf (neg : Bool)
  | fin (neg : Bool) (m : Nat) (e : Int)
  deriving DecidableEq, Repr

/-- A binary format: exponent bits, fraction bits, and whether the top exponent code holds infinities and NaNs (true) or, as in
E4M3, finite values with the all-ones code as NaN (false). -/
structure FFmt where
  eb : Nat
  mb : Nat
  ieee : Bool
  deriving DecidableEq, Repr

def fp32 : FFmt := ⟨8, 23, true⟩
def bf16 : FFmt := ⟨8, 7, true⟩
def fp16 : FFmt := ⟨5, 10, true⟩
def e5m2 : FFmt := ⟨5, 2, true⟩
def e4m3 : FFmt := ⟨4, 3, false⟩

def FFmt.bias (f : FFmt) : Nat := 2 ^ (f.eb - 1) - 1
def FFmt.width (f : FFmt) : Nat := 1 + f.eb + f.mb
/-- Top exponent code. -/
def FFmt.top (f : FFmt) : Nat := 2 ^ f.eb - 1
/-- Exponent of the last place of a subnormal. -/
def FFmt.emin (f : FFmt) : Int := 1 - (f.bias : Int) - (f.mb : Int)

/-- The value of a word. -/
def FFmt.decode (f : FFmt) (w : Nat) : FV :=
  let neg := bit w (f.eb + f.mb)
  let e := (w >>> f.mb) % 2 ^ f.eb
  let m := w % 2 ^ f.mb
  if e = f.top ∧ f.ieee = true then (if m = 0 then .inf neg else .nan)
  else if e = f.top ∧ m + 1 = 2 ^ f.mb then .nan
  else if e = 0 then .fin neg m f.emin
  else .fin neg (m + 2 ^ f.mb) (f.emin + ((e : Int) - 1))

/-- m · 2^e divided down to a multiple of 2^t, to nearest, ties to even: the multiple's factor. -/
def roundTo (m : Nat) (e t : Int) : Nat :=
  if t ≤ e then m * 2 ^ (e - t).toNat
  else
    let k := (t - e).toNat
    let q := m / 2 ^ k
    let r := m % 2 ^ k
    let h := 2 ^ (k - 1)
    if h < r ∨ (r = h ∧ q % 2 = 1) then q + 1 else q

/-- The NaN that the model writes: quiet, positive, only the top fraction bit set; 0x7FC0_0000 in FP32 (R148). -/
def FFmt.qnan (f : FFmt) : Nat :=
  if f.ieee then f.top <<< f.mb + 2 ^ (f.mb - 1) else f.top <<< f.mb + (2 ^ f.mb - 1)

/-- Largest finite word without its sign. -/
def FFmt.maxFin (f : FFmt) : Nat := if f.ieee then f.top <<< f.mb - 1 else f.top <<< f.mb + (2 ^ f.mb - 2)

/-- Encode a value, to nearest even, subnormals kept. Overflow gives infinity where the format has one, or the largest finite
value when `sat` is set or there is no infinity; an infinity in a format that has none becomes NaN (R177). -/
def FFmt.encode (f : FFmt) (sat : Bool) (v : FV) : Nat :=
  let sg := fun (neg : Bool) => if neg then 2 ^ (f.eb + f.mb) else 0
  let big := if f.ieee && !sat then f.top <<< f.mb else f.maxFin
  match v with
  | .nan => f.qnan
  | .inf neg => if f.ieee then sg neg + f.top <<< f.mb else f.qnan
  | .fin neg m e =>
    if m = 0 then sg neg else
      let len : Int := (Nat.log2 m : Int) + 1
      let t := max f.emin (e + len - ((f.mb : Int) + 1))
      let q := roundTo m e t
      -- q is below 2^(mb+1), or exactly that after a carry
      let w := if q < 2 ^ f.mb then q else ((t - f.emin).toNat <<< f.mb) + q
      if f.maxFin < w then sg neg + big else sg neg + w

/-- The exact sum of two values; a sum of zeros is negative only when both are. -/
def FV.add (a b : FV) : FV :=
  match a, b with
  | .nan, _ | _, .nan => .nan
  | .inf x, .inf y => if x = y then .inf x else .nan
  | .inf x, _ => .inf x
  | _, .inf y => .inf y
  | .fin x m e, .fin y n g =>
    let t := min e g
    let p : Int := (m * 2 ^ (e - t).toNat : Nat)
    let q : Int := (n * 2 ^ (g - t).toNat : Nat)
    let r := (if x then -p else p) + (if y then -q else q)
    if r = 0 then .fin (x && y) 0 t else .fin (decide (r < 0)) r.natAbs t

/-- The exact product of two values. -/
def FV.mul (a b : FV) : FV :=
  match a, b with
  | .nan, _ | _, .nan => .nan
  | .inf x, .inf y => .inf (x != y)
  | .inf x, .fin y m _ => if m = 0 then .nan else .inf (x != y)
  | .fin x m _, .inf y => if m = 0 then .nan else .inf (x != y)
  | .fin x m e, .fin y n g => .fin (x != y) (m * n) (e + g)

/-- The value with its sign turned. -/
def FV.neg : FV → FV
  | .nan => .nan
  | .inf x => .inf (!x)
  | .fin x m e => .fin (!x) m e

/-- a < b, for values that are not NaN; −0 equals +0. -/
def FV.lt (a b : FV) : Bool :=
  match a, b with
  | .nan, _ | _, .nan => false
  | .inf x, .inf y => x && !y
  | .inf x, _ => x
  | _, .inf y => !y
  | .fin x m e, .fin y n g =>
    let t := min e g
    let p : Int := (m * 2 ^ (e - t).toNat : Nat)
    let q : Int := (n * 2 ^ (g - t).toNat : Nat)
    decide ((if x then -p else p) < (if y then -q else q))

/-- FADD32: FP32 sum, to nearest even, subnormals kept, any NaN result 0x7FC0_0000 (R148). -/
def fadd32 (a b : Nat) : Nat := fp32.encode false ((fp32.decode a).add (fp32.decode b))

end Sys2Proof.Machine
end

