-- ==== Sys2Proof/Machine/RedArith.lean ====
section
/-!
DEFINITION. The arithmetic of reductions: formats (R173), combining (R176 to R183), encoding (R177, R193), MX blocks (R174,
R468) and aligned-integer reduction (R194 to R197). An accumulator is a list of integers: FP32 patterns for floating
formats, signed values for integers, (value, index) pairs flattened, m, s, o for LSE, and 16-bit entries for AIR_EMAX.
-/

namespace Sys2Proof.Machine

/-! ## Formats -/

/-- The floating-point format behind a format number (R173); MX formats travel as BF16. -/
def floatFmt (f : Nat) : Option FFmt :=
  if f = 0 then some fp32 else if f = 1 then some bf16 else if f = 2 then some fp16 else if f = 3 then some e4m3
  else if f = 4 then some e5m2 else if 8 ≤ f ∧ f ≤ 13 then some bf16 else none

/-- Bytes of an element (R173). -/
def elemSize (f : Nat) : Nat :=
  if f = 0 ∨ f = 5 then 4 else if f = 3 ∨ f = 4 ∨ f = 6 then 1 else 2

def isInt (f : Nat) : Bool := f == 5 || f == 6
def isMx (f : Nat) : Bool := decide (8 ≤ f ∧ f ≤ 13)
def knownFmt (f : Nat) : Bool := (floatFmt f).isSome || isInt f

/-- The formats that an operation accepts (R175). -/
def fmtOk (op inF outF k : Nat) : Bool :=
  if op ≤ 2 then
    knownFmt inF && (if isInt inF then isInt outF else decide (outF ≤ 4))
  else if op = 3 then inF == 0 && outF == 0
  else if op = 4 then inF == 0 && outF == 0 && decide (1 ≤ k ∧ k ≤ 64)
  else if op = 5 then decide (inF ≤ 2) && decide (outF ≤ 2)
  else decide (op ≤ 7)

/-- Elements of one flit of an operation (R173, R175). -/
def flitElems (op inF : Nat) : Nat :=
  if op ≤ 2 then 256 / elemSize inF
  else if op = 3 ∨ op = 4 then 64
  else if op = 5 then 2 + 248 / elemSize inF
  else if op = 6 then 128 else 32

/-- Element i of size n bytes at byte offset o. -/
def rawAt (d : List Nat) (o n : Nat) : Nat := ofBytes (slice d o n)

/-- Two's complement value of a number of n bits. -/
def signedOf (n v : Nat) : Int := if v < 2 ^ (n - 1) then (v : Int) else (v : Int) - 2 ^ n

/-- Two's complement pattern of n bits. -/
def patternOf (n : Nat) (v : Int) : Nat := (v % (2 ^ n : Nat)).toNat

/-- Decode an element to its accumulator format (R170, R173): an FP32 pattern, or a signed value. -/
def decodeElem (f raw : Nat) : Int :=
  match floatFmt f with
  | some g => (fp32.encode false (g.decode raw) : Nat)
  | none => if f = 5 then signedOf 32 raw else signedOf 8 raw

/-- Decode a flit of an operation (R175). -/
def decodeFlit (op inF : Nat) (d : List Nat) : List Int :=
  if op ≤ 2 then
    let n := elemSize inF
    (List.range (256 / n)).map (fun i => decodeElem inF (rawAt d (n * i) n))
  else if op = 3 ∨ op = 4 then
    (List.range 64).map (fun i => if i % 2 = 0 then decodeElem 0 (rawAt d (4 * i) 4) else (rawAt d (4 * i) 4 : Nat))
  else if op = 5 then
    let n := elemSize inF
    [decodeElem 0 (rawAt d 0 4), decodeElem 0 (rawAt d 4 4)] ++ (List.range (248 / n)).map (fun i => decodeElem inF (rawAt d (8 + n * i) n))
  else if op = 6 then (List.range 128).map (fun i => (rawAt d (2 * i) 2 : Nat))
  else (List.range 32).map (fun i => signedOf 64 (rawAt d (8 * i) 8))

/-! ## The exponential -/

/-- T[j] of R183: the nearest integer to 2^(30 + j/64). -/
def expTable : List Nat :=
  [1073741824, 1085434106, 1097253708, 1109202018, 1121280436, 1133490379, 1145833280, 1158310587, 1170923762, 1183674286,
   1196563654, 1209593378, 1222764986, 1236080024, 1249540052, 1263146652] ++
  [1276901417, 1290805962, 1304861917, 1319070932, 1333434672, 1347954824, 1362633090, 1377471191, 1392470869, 1407633882,
   1422962010, 1438457051, 1454120821, 1469955159, 1485961921, 1502142985] ++
  [1518500250, 1535035634, 1551751076, 1568648537, 1585730000, 1602997467, 1620452965, 1638098541, 1655936265, 1673968228,
   1692196547, 1710623359, 1729250827, 1748081133, 1767116489, 1786359126] ++
  [1805811301, 1825475297, 1845353420, 1865448001, 1885761398, 1906295993, 1927054196, 1948038440, 1969251188, 1990694927,
   2012372174, 2034285470, 2056437387, 2078830522, 2101467502, 2124350982]

def fpOne : Nat := 0x3F800000
def fpNaN : Nat := 0x7FC00000

/-- W(d) of R183, for d ≤ 0 or NaN, as FP32 patterns. -/
def expW (d : Nat) : Nat :=
  match fp32.decode d with
  | .nan => fpOne
  | .inf _ => 0
  | v =>
    let t := fp32.encode false (v.mul (fp32.decode 0x3FB8AA3B))
    match fp32.decode t with
    | .fin _ m e =>
      if (fp32.decode t).lt (.fin true 126 0) then 0
      else
        -- t is −m · 2^e: X is the floor of t · 2^30
        let a := e + 30
        let x : Int := if 0 ≤ a then -((m * 2 ^ a.toNat : Nat) : Int) else -((cdiv m (2 ^ (-a).toNat) : Nat) : Int)
        let n : Int := x / (2 ^ 30 : Nat)
        let f := (x - n * (2 ^ 30 : Nat)).toNat
        let j := f >>> 24
        let u := f % 2 ^ 24
        let a' := 257941248 + ((59597083 * u) >>> 30)
        let b := 744261118 + ((a' * u) >>> 30)
        let p := 2 ^ 30 + ((b * u) >>> 30)
        let r := (expTable.getD j 0 * p) >>> 30
        fp32.encode false (.fin false r (n - 30))
    | _ => 0

/-! ## Combining -/

def fmul32 (a b : Nat) : Nat := fp32.encode false ((fp32.decode a).mul (fp32.decode b))

/-- Greater of two FP32 patterns, or the canonical NaN (R179). -/
def fmax32 (a b : Nat) : Nat :=
  match fp32.decode a, fp32.decode b with
  | .nan, _ | _, .nan => fpNaN
  | x, y => if x.lt y then b else if y.lt x then a else if bit a 31 then b else a

/-- Lesser of two FP32 patterns, or the canonical NaN (R179). -/
def fmin32 (a b : Nat) : Nat :=
  match fp32.decode a, fp32.decode b with
  | .nan, _ | _, .nan => fpNaN
  | x, y => if x.lt y then a else if y.lt x then b else if bit a 31 then a else b

/-- Index of a padding pair (R180). -/
def padIndex : Int := 0xFFFFFFFF
def padPair : Int × Int := (0xFF800000, 0xFFFFFFFF)

/-- Pair a ranks above pair b (R180). -/
def ranksAbove (a b : Int × Int) : Bool :=
  if a.2 = padIndex then false
  else if b.2 = padIndex then true
  else
    match fp32.decode a.1.toNat, fp32.decode b.1.toNat with
    | .nan, .nan => decide (a.2 < b.2)
    | .nan, _ => true
    | _, .nan => false
    | x, y => if y.lt x then true else if x.lt y then false else decide (a.2 < b.2)

/-- Pairs of a flattened list. -/
def pairsOf : List Int → List (Int × Int)
  | v :: i :: r => (v, i) :: pairsOf r
  | _ => []

def unpairs (l : List (Int × Int)) : List Int := l.flatMap (fun p => [p.1, p.2])

/-- Merge two lists sorted from highest rank; the fuel is their joint length. -/
def mergeRank : Nat → List (Int × Int) → List (Int × Int) → List (Int × Int)
  | 0, _, _ => []
  | _, [], b => b
  | _, a, [] => a
  | n + 1, x :: a, y :: b => if ranksAbove y x then y :: mergeRank n (x :: a) b else x :: mergeRank n a (y :: b)

/-- The first K ranks of a list as a full list of n pairs, padded (R180). -/
def padTo (k n : Nat) (l : List (Int × Int)) : List (Int × Int) :=
  let l := ((l.take k).takeWhile (fun p => p.2 ≠ padIndex))
  l ++ List.replicate (n - l.length) padPair

/-- LSE merge (R182): a is accumulated, b arrives. -/
def lseMerge (a b : List Int) : List Int :=
  let g := fun (l : List Int) i => (l.getD i 0).toNat
  match fp32.decode (g a 0), fp32.decode (g b 0) with
  | .nan, _ | _, .nan => a.map (fun _ => (fpNaN : Int))
  | _, _ =>
    let m := fmax32 (g a 0) (g b 0)
    let sub := fun x => fp32.encode false ((fp32.decode x).add (fp32.decode m).neg)
    let wa := expW (sub (g a 0))
    let wb := expW (sub (g b 0))
    (m : Int) :: (List.range (a.length - 1)).map (fun i => (fadd32 (fmul32 (g a (i + 1)) wa) (fmul32 (g b (i + 1)) wb) : Nat))

/-- Merge of two exponent entries (R195). -/
def emaxMerge (a b : Nat) : Nat :=
  let ea := signedOf 9 (bits a 8 0)
  let eb := signedOf 9 (bits b 8 0)
  let za := bit a 12
  let zb := bit b 12
  let e := if za && zb then 0 else if za then patternOf 9 eb else if zb then patternOf 9 ea else patternOf 9 (max ea eb)
  ((bits a 15 13 ||| bits b 15 13) <<< 13) + b2n (za && zb) <<< 12 + e

/-- Clamp to two's complement of n bits. -/
def clampInt (n : Nat) (v : Int) : Int := max (-(2 ^ (n - 1) : Nat)) (min ((2 ^ (n - 1) : Nat) - 1) v)

/-- Wrap to two's complement of 64 bits. -/
def wrap64 (v : Int) : Int := signedOf 64 (patternOf 64 v)

/-- Combine an arriving list into an accumulator (R178 to R182, R195): the new accumulator, and whether an integer saturated.
`wide` is strict-mode integer SUM, exact in 64 bits. TOPK keeps 32 or 64 pairs, as the lists have. -/
def redCombine (op inF k : Nat) (wide : Bool) (a b : List Int) : List Int × Bool :=
  match op with
  | 0 =>
    if isInt inF then
      let s := a.zipWith (· + ·) b
      if wide then (s.map wrap64, false)
      else (s.map (clampInt 32), s.any (fun v => clampInt 32 v ≠ v))
    else (a.zipWith (fun x y => (fadd32 x.toNat y.toNat : Int)) b, false)
  | 1 => (a.zipWith (fun x y => if isInt inF then max x y else (fmax32 x.toNat y.toNat : Int)) b, false)
  | 2 => (a.zipWith (fun x y => if isInt inF then min x y else (fmin32 x.toNat y.toNat : Int)) b, false)
  | 3 => (unpairs ((pairsOf a).zipWith (fun x y => if ranksAbove y x then y else x) (pairsOf b)), false)
  | 4 =>
    let n := a.length / 2
    (unpairs (padTo k n (mergeRank (a.length + b.length) (padTo k n (pairsOf a)) (padTo k n (pairsOf b)))), false)
  | 5 => (lseMerge a b, false)
  | 6 => (a.zipWith (fun x y => (emaxMerge x.toNat y.toNat : Int)) b, false)
  | _ => ((a.zipWith (· + ·) b).map wrap64, false)

/-- The first contribution of a context (R184): a TOPK list is padded beyond rank K (R180), a NaN is canonical. -/
def redLoad (op k : Nat) (b : List Int) : List Int :=
  if op = 4 then unpairs (padTo k (b.length / 2) (pairsOf b)) else b

/-! ## Encoding -/

/-- Encode an element from its accumulator format (R177 to R179): its bytes and whether an integer saturated. -/
def encodeElem (f : Nat) (v : Int) : List Nat × Bool :=
  match floatFmt f with
  | some g => (toBytes (elemSize f) (g.encode false (fp32.decode v.toNat)), false)
  | none =>
    let n := 8 * elemSize f
    (toBytes (elemSize f) (patternOf n (clampInt n v)), decide (clampInt n v ≠ v))

/-- Encode a list of elements. -/
def encodeElems (f : Nat) (l : List Int) : List Nat × Bool :=
  (l.flatMap (fun v => (encodeElem f v).1), l.any (fun v => (encodeElem f v).2))

/-- Values o that one LSE flit holds beside m and s (R175). -/
def lsePer (f : Nat) : Nat := 248 / elemSize f

/-- An LSE list in a format: as many flits as its values o take, each with the same m and s (R175); the last may be short.
Log entry 137, DEDUCED. -/
def encodeLse (f : Nat) (l : List Int) : List Nat :=
  let o := l.drop 2
  (List.range (max 1 (cdiv o.length (lsePer f)))).flatMap (fun i =>
    (l.take 2).flatMap (fun v => toBytes 4 v.toNat) ++ (encodeElems f (slice o (lsePer f * i) (min (lsePer f) (o.length - lsePer f * i)))).1)

/-- Encode an accumulator of an operation in a format (R175, R193): the bytes and whether an integer saturated. A padding pair that is
written has the value −Inf (R180). -/
def encodeAcc (op f : Nat) (l : List Int) : List Nat × Bool :=
  if op ≤ 2 then encodeElems f l
  else if op = 3 ∨ op = 4 then
    ((pairsOf l).flatMap (fun p => toBytes 4 (if p.2 = padIndex then padPair.1 else p.1).toNat ++ toBytes 4 p.2.toNat), false)
  else if op = 5 then (encodeLse f l, false)
  else if op = 6 then (l.flatMap (fun v => toBytes 2 v.toNat), false)
  else (l.flatMap (fun v => toBytes 8 (patternOf 64 v)), false)

/-! ## MX blocks -/

/-- Bits of an element of an MX format, and its value as ±m · 2^e (R173, R174). -/
def mxBits (f : Nat) : Nat := if f = 8 ∨ f = 9 ∨ f = 13 then 8 else if f = 12 then 4 else 6

def e3m2 : FFmt := ⟨3, 2, false⟩
def e2m3 : FFmt := ⟨2, 3, false⟩
def e2m1 : FFmt := ⟨2, 1, false⟩

/-- A small format of OCP MX without infinity or NaN. -/
def decodeSmall (f : FFmt) (w : Nat) : FV :=
  let neg := bit w (f.eb + f.mb)
  let e := (w >>> f.mb) % 2 ^ f.eb
  let m := w % 2 ^ f.mb
  if e = 0 then .fin neg m f.emin else .fin neg (m + 2 ^ f.mb) (f.emin + ((e : Int) - 1))

/-- The value of an MX element (R174); MXINT8 is two's complement with six fraction bits. -/
def mxElem (f w : Nat) : FV :=
  if f = 8 then e4m3.decode w else if f = 9 then e5m2.decode w
  else if f = 10 then decodeSmall e3m2 w else if f = 11 then decodeSmall e2m3 w
  else if f = 12 then decodeSmall e2m1 w
  else .fin (bit w 7) (signedOf 8 w).natAbs (-6)

/-- Scale a value by 2^k. -/
def FV.scale (v : FV) (k : Int) : FV :=
  match v with
  | .fin n m e => .fin n m (e + k)
  | v => v

/-- Bytes of a group of 128 elements of an MX format (R468). -/
def mxGroup (f : Nat) : Nat := 16 + 16 * mxBits f

/-- Decode a group to its 128 BF16 patterns (R174, R468). -/
def mxDecode (f : Nat) (d : List Nat) : List Nat :=
  let body := ofBytes (d.drop 16)
  let b := mxBits f
  (List.range 128).map (fun i =>
    let sc := d.getD (i / 32) 0
    if sc = 0xFF then bf16.qnan
    else bf16.encode false ((mxElem f ((body >>> (b * i)) % 2 ^ b)).scale ((sc : Int) - 127)))

/-! ## Aligned-integer reduction -/

/-- The exponent entry of a block of FP32 patterns (R194, R195). -/
def airEntry (l : List Int) : Nat :=
  let vs := l.map (fun v => fp32.decode v.toNat)
  let es := vs.filterMap (fun v => match v with
    | .fin _ m e => if m = 0 then none else some ((Nat.log2 m : Int) + e)
    | _ => none)
  let nan := vs.any (fun v => decide (v = .nan))
  let pinf := vs.any (fun v => decide (v = .inf false))
  let ninf := vs.any (fun v => decide (v = .inf true))
  let e := match es with
    | [] => 0
    | x :: r => patternOf 9 (r.foldl max x)
  b2n nan <<< 15 + b2n pinf <<< 14 + b2n ninf <<< 13 + b2n es.isEmpty <<< 12 + e

/-- The integer of one value against a merged entry (R196). -/
def airConvert (g : Nat) (v : Int) : Int :=
  if bits g 15 12 ≠ 0 then 0 else
    match fp32.decode v.toNat with
    | .fin neg m e =>
      let q : Int := roundTo m (e + 34 - signedOf 9 (bits g 8 0)) 0
      if neg then -q else q
    | _ => 0

/-- The value of a sum on the grid of a merged entry (R196). -/
def airValue (g : Nat) (s : Int) : FV :=
  if bit g 15 ∨ (bit g 14 ∧ bit g 13) then .nan
  else if bit g 14 then .inf false
  else if bit g 13 then .inf true
  else if s = 0 then .fin false 0 0
  else .fin (decide (s < 0)) s.natAbs (signedOf 9 (bits g 8 0) - 34)

/-- The root's encoding of a sum in OUT_FMT, rounded once (R196). -/
def airFinish (f g : Nat) (s : Int) : List Nat :=
  match floatFmt f with
  | some h => toBytes (elemSize f) (h.encode false (airValue g s))
  | none => []

end Sys2Proof.Machine
end

