-- ==== Sys2Proof/Machine/RedOps.lean ====
section
/-!
DEFINITION. Open-plane reductions at the routers of a tree (R184 to R191, R197, R200): allocation, combining, staging, results
and aborts.
-/

namespace Sys2Proof.Machine

/-! ## Directory (R171) -/

/-- Word 0 of a reduction directory entry (R171). -/
def State.redEntry (s : State) (rid : Nat) : Nat :=
  ofBytes (s.hbmBytes (adBig (s.pair FB_RED_DIR_LO FB_RED_DIR_HI) + 64 * rid) 8)

def reTen (w : Nat) : Nat := bits w 62 57
def reGroup (w : Nat) : Nat := bits w 29 20
def reCtxs (w : Nat) : Nat := bits w 33 30 + 1

/-- The binding that an entry gives. -/
def reBind (rid w : Nat) : RBind := ⟨rid, bits w 56 53, bits w 52 48, bits w 46 42, bits w 41 35, false⟩

/-! ## Rounds (R188) -/

/-- List entries of one round of an operation. A TOPK list above 32 takes two flits (R181). Log entry 179, DESIGN CHOICE. -/
def RBind.elems (b : RBind) : Nat := if b.op = 4 ∧ 32 < b.k then 128 else flitElems b.op b.inF

/-- The operation by which rounds of a phase are combined, and their list entries (R188, R197, R252). -/
def redForm (b : RBind) (wide : Bool) (phase : Nat) : Nat × Nat :=
  if phase = 1 then (6, 128) else if phase = 2 ∨ wide = true then (7, 32) else (b.op, b.elems)

/-- Decode n list entries of an operation in a format (R173, R175). Log entry 137, DEDUCED. -/
def decodeList (op f n : Nat) (d : List Nat) : List Int :=
  if op ≤ 2 then (List.range n).map (fun i => decodeElem f (rawAt d (elemSize f * i) (elemSize f)))
  else if op = 3 ∨ op = 4 then
    (List.range n).map (fun i => if i % 2 = 0 then decodeElem 0 (rawAt d (4 * i) 4) else (rawAt d (4 * i) 4 : Nat))
  else if op = 5 then
    [decodeElem 0 (rawAt d 0 4), decodeElem 0 (rawAt d 4 4)] ++
      (List.range (n - 2)).map (fun i =>
        decodeElem f (rawAt d (256 * (i / lsePer f) + 8 + elemSize f * (i % lsePer f)) (elemSize f)))
  else if op = 6 then (List.range n).map (fun i => (rawAt d (2 * i) 2 : Nat))
  else (List.range n).map (fun i => signedOf 64 (rawAt d (8 * i) 8))

/-- The format of partial results between routers (R171). -/
def RRed.wireFmt (r : RRed) : Nat := if r.wire then (if isInt r.bind.inF then 5 else 0) else r.bind.inF

/-! ## Failing (R190) -/

/-- The root router of a group's tree, as a router's group table names it (R151). -/
def State.grpRoot (s : State) (n g : Nat) : Nat := 48 * s.fld RT_GROUP_ROOT_Y n g + s.fld RT_GROUP_ROOT_X n g

/-- Send RED_FAIL to the root of a reduction, with the reduction's tenancy (R353). -/
def State.redFail (s : State) (n rid status : Nat) : State :=
  s.emit (mkPkt opRED_FAIL (niLoc n) (niLoc (s.grpRoot n (reGroup (s.redEntry rid)))) (reTen (s.redEntry rid)) 0 rid [rid, status])

/-- Change a reduction at a router. -/
def State.updRed (s : State) (n rid : Nat) (f : RRed → RRed) : State :=
  s.modRt n (fun r => { r with reds := updFirst (fun x => x.rid == rid) f r.reds })

def State.red? (s : State) (n rid : Nat) : Option RRed := (s.rt n).reds.find? (fun x => x.rid == rid)

/-- Contexts, staging and the reduction itself go (R190, R200). -/
def State.redRelease (s : State) (n rid : Nat) : State :=
  match s.red? n rid with
  | none => s
  | some red => s.modRt n (fun r => { r with
      reds := r.reds.filter (fun x => x.rid != rid)
      staged := r.staged.filter (fun x => x.pkt.arg 0 != rid)
      ctx := r.ctx.filter (fun e => !(red.ctxs.contains e.1)) })

/-- RED_ABORT at a router (R190): the id is kept for 1 ms. -/
def State.redAbortAt (s : State) (n rid : Nat) : State :=
  (s.redRelease n rid).modRt n (fun r => { r with idHold := if r.idHold.contains rid then r.idHold else r.idHold ++ [rid] })

/-- A cause of RT_RED_STATUS (R276, source PROTOCOL). -/
def State.redCause (s : State) (n : Nat) (f : Fld) : State := (s.setFld f 1 n).report .red n 4 f.lo

/-! ## Combining (R184, R189) -/

/-- Answer a child: the unit of the own NI inside the island, another router over the mesh. -/
def State.redAnswer (s : State) (n kid : Nat) (p : Pkt) (o : Op) (args : List Nat) : State :=
  if kid = 4 then s.push (.unit (niLoc n)) (mkPkt o (niLoc n) (niLoc n) p.ten 0 0 args)
  else s.emit (mkPkt o (niLoc n) p.src p.ten 0 0 args)

/-- The bytes of a result in OUT_FMT, and whether an integer saturated (R178, R191, R196). -/
def RRed.result (r : RRed) (sl : RSlot) : List Nat × Bool :=
  if sl.phase = 1 then encodeAcc 6 0 sl.acc
  else if r.wide then encodeElems r.bind.outF sl.acc
  else if sl.phase = 2 then
    let g := ((r.air.get (sl.round / 128) []).getD (sl.round % 128) 0).toNat
    (sl.acc.flatMap (airFinish r.bind.outF g), false)
  else encodeAcc r.bind.op r.bind.outF sl.acc

/-- The bytes of a partial result. -/
def RRed.partial_ (r : RRed) (sl : RSlot) : List Nat × Bool :=
  encodeAcc (redForm r.bind r.wide sl.phase).1 r.wireFmt sl.acc

/-- A slot takes its next round (R189), the first of phase 2 where contributions to that phase are staged for it (R197); a reduction that is
over releases its contexts (R200). -/
def State.slotNext (s : State) (n rid i : Nat) : State :=
  let turns := fun (r : RRed) (sl : RSlot) => sl.phase == 1 &&
    (s.rt n).staged.any (fun x => x.pkt.arg 0 == rid && x.pkt.arg 2 == 2 && x.pkt.arg 1 % r.slots.length == i)
  let s := s.updRed n rid (fun r => match r.slots[i]? with
    | some sl => { r with
        slots := r.slots.set i (if turns r sl then { round := i, phase := 2 }
          else { round := sl.round + r.slots.length, phase := sl.phase })
        fin := r.fin || sl.last }
    | none => r)
  match s.red? n rid with
  | some r => if r.fin && r.slots.all (fun sl => sl.got == 0 && sl.out.isNone) then s.redRelease n rid else s
  | none => s

/-- Every child of a slot's round has been combined: the result goes up, or is delivered at the root (R189, R191). A router that is not the root
and has no parent cannot send: the reduction fails (R190). Log entry 54, DEDUCED. -/
def State.redDone (s : State) (n rid i : Nat) : State :=
  match s.red? n rid with
  | none => s
  | some r => match r.slots[i]? with
    | none => s
    | some sl =>
      let e := if r.top then r.result sl else r.partial_ sl
      let s := if e.2 then s.redCause n RT_RED_STATUS_SATURATED else s
      let route := [rid, sl.round, sl.phase, b2n sl.last, b2n (sl.sat || e.2), b2n sl.err, r.level]
      match r.parent with
      | some up =>
        let p := mkDat opRED_DATA (niLoc n) up r.ten 0 rid route 0 0 0 e.1
        (s.updRed n rid (fun r => { r with slots := r.slots.set i { sl with out := some p } })).emit p
      | none =>
        if r.top = false then s.redFail n rid stTARGET_FENCED else
        let s := if sl.phase = 1 then s.updRed n rid (fun r => { r with air := r.air.put sl.round sl.acc }) else s
        let send := fun (s : State) (dst : Loc) => s.emit (mkDat opRED_RESULT (niLoc n) dst r.ten 0 rid route 0 0 0 e.1)
        let s := if r.toAll = true ∨ sl.phase = 1 then send s (groupLoc r.group)
          else match s.lmap n r.destTile with
            | some t => send s (niLoc t)
            | none => s
        s.slotNext n rid i

/-- Combine the contribution of the child in turn and acknowledge it. -/
def State.redTake (s : State) (n kid : Nat) (p : Pkt) (ue : Bool) : State :=
  let rid := p.arg 0
  match s.red? n rid with
  | none => s
  | some r =>
    let i := p.arg 1 % r.slots.length
    match r.slots[i]? with
    | none => s
    | some sl =>
      let form := redForm r.bind r.wide (p.arg 2)
      let v := decodeList form.1 (if kid = 4 then r.bind.inF else r.wireFmt) form.2 p.data
      let c := if sl.got = 0 then (redLoad form.1 r.bind.k v, false) else redCombine form.1 r.bind.inF r.bind.k r.wide sl.acc v
      let s := if c.2 then s.redCause n RT_RED_STATUS_SATURATED else s
      let sl' := { sl with
        phase := p.arg 2
        got := sl.got + 1
        acc := c.1
        sat := sl.sat || c.2 || p.arg 4 == 1
        err := sl.err || ue || p.arg 5 == 1
        last := sl.last || p.arg 3 == 1 }
      let s := s.updRed n rid (fun r => { r with slots := r.slots.set i sl' })
      let s := s.redAnswer n kid p opRED_ACK [rid, p.arg 1]
      if sl'.got = r.kids.length then s.redDone n rid i else s

/-- A contribution is in turn at a reduction: the slot is in its round and phase and its child is next. The slots of phase 1 turn
to phase 2 as its first contributions come (R197). -/
def RRed.inTurn (r : RRed) (kid : Nat) (p : Pkt) : Bool :=
  match r.slots[p.arg 1 % r.slots.length]? with
  | some sl => sl.out.isNone && sl.round == p.arg 1 && sl.phase == p.arg 2 && r.kids[sl.got]? == some kid
  | none => false

/-- Combine staged contributions that are in turn. The fuel is the number of staged ones. -/
def State.redDrain (s : State) (n rid : Nat) : Nat → State
  | 0 => s
  | fuel + 1 =>
    match s.red? n rid with
    | none => s
    | some r =>
      match (s.rt n).staged.find? (fun x => x.pkt.arg 0 == rid && r.inTurn x.kid x.pkt) with
      | none => s
      | some x =>
        let s := s.modRt n (fun q => { q with staged := delFirst (fun y => decide (y = x)) q.staged })
        (s.redTake n x.kid x.pkt false).redDrain n rid fuel

/-! ## Trees (R185, R186) -/

/-- A route-table entry (R108). -/
def State.routeEntry (s : State) (n idx : Nat) : Nat :=
  if idx % 2 = 0 then s.fld RT_ROUTE_ENTRY_EVEN n (idx / 2) else s.fld RT_ROUTE_ENTRY_ODD n (idx / 2)

/-- The escape field of a generation (R108). -/
def escField (e gen : Nat) : Nat := if gen = 0 then bits e 11 9 else bits e 8 6

/-- DOWN outputs of a group at a router in a generation (R151): L first, then N, E, S, W. -/
def State.downOuts (s : State) (n g gen : Nat) : List Nat :=
  let m := if gen = 0 then s.fld RT_GROUP_DOWN0 n g else s.fld RT_GROUP_DOWN1 n g
  ([4, 0, 1, 2, 3] : List Nat).filter (fun p => bit m p)

/-- Rank of a router's own member in a group (R186). -/
def State.rankOf (s : State) (n g : Nat) : Option Nat := (s.grpMap g).findIdx? (fun t => s.lmap n t == some n)

/-- Children and parent in the rank tree of a group (R186): the levels at which this router receives, and where and at which level
it sends. -/
def State.rankTree (s : State) (n g : Nat) : List Nat × Option Loc × Nat :=
  let ms := s.grpMap g
  match s.rankOf n g with
  | none => ([4], none, 0)
  | some r =>
    let kids := (List.range 12).filter (fun l => r % 2 ^ (l + 1) == 0 && decide (r + 2 ^ l < ms.length))
    match (List.range 12).find? (fun l => r % 2 ^ (l + 1) == 2 ^ l) with
    | none => (4 :: kids.map (16 + ·), none, 0)
    | some l => (4 :: kids.map (16 + ·), ((ms[r - 2 ^ l]?).bind (fun t => s.lmap n t)).map niLoc, l)

/-- The escape generation of a contribution (R185, R189, R190): that of the channel by which it came. The own member's and those of the rank
tree, which comes by unicast, belong to the reduction here, and the first of them to the current generation. Log entry 54, DEDUCED. -/
def State.redGen (s : State) (n : Nat) (p : Pkt) : Nat :=
  if p.esc = true ∧ p.src.slot ≠ n ∧ p.arg 2 ≠ 3 then p.egen
  else match s.red? n (p.arg 0) with
    | some r => r.gen
    | none => s.fld RT_CFG_ESC_GEN n

/-- The reduction that a first contribution starts at a router (R184 to R186, R190): strict integer SUM where its phase says so (R251,
R252). Log entry 150, DEDUCED. -/
def State.newRed (s : State) (n : Nat) (p : Pkt) (ctxs : List Nat) : RRed :=
  let rid := p.arg 0
  let w := s.redEntry rid
  let g := reGroup w
  let root := s.grpRoot n g
  let gen := s.redGen n p
  let e := s.routeEntry n root
  let up := escField e gen
  let tree := if p.arg 2 = 3 then s.rankTree n g
    else (s.downOuts n g gen, if bit e 15 = true ∧ up < 4 then (neighbour n up).map niLoc else none, 0)
  { rid := rid
    root := root
    gen := gen
    top := if p.arg 2 = 3 then s.rankOf n g == some 0 else bit e 15 && up == 4
    kids := tree.1
    parent := tree.2.1
    level := tree.2.2
    bind := reBind rid w
    wire := bit w 47
    toAll := !(bit w 34)
    destTile := bits w 19 8
    group := g
    ten := reTen w
    wide := p.arg 2 == 2 && bits w 56 53 == 0 && isInt (bits w 52 48)
    ctxs := ctxs
    slots := (List.range (reCtxs w)).map (fun i => { round := i, phase := p.arg 2 }) }

/-- The child that sent a contribution: L for the own NI, a level of the rank tree, or the mesh port of the neighbour. -/
def kidOf (n : Nat) (p : Pkt) : Nat :=
  if p.src.slot = n then 4
  else if p.arg 2 = 3 then 16 + p.arg 6
  else ((List.range 4).find? (fun q => neighbour n q == some p.src.slot)).getD 5

/-- Payload flits of a packet. -/
def payFlits (p : Pkt) : Nat := cdiv p.data.length 256

/-- A contribution at a router that has the reduction (R189, R251, R368). -/
def State.redAt (s : State) (n : Nat) (p : Pkt) (ue : Bool) (r : RRed) : State :=
  let rid := p.arg 0
  let kid := kidOf n p
  let i := p.arg 1 % r.slots.length
  -- the slots of phase 1 that are idle turn to phase 2 with its first contributions
  let r := match r.slots[i]? with
    | some sl => if sl.phase = 1 ∧ p.arg 2 = 2 ∧ sl.got = 0 ∧ sl.out = none then
        { r with slots := r.slots.set i { round := i, phase := 2 } } else r
    | none => r
  let s := s.updRed n rid (fun _ => r)
  match r.slots[i]? with
  | none => s
  | some sl =>
    if s.redGen n p ≠ r.gen then (s.redCause n RT_RED_STATUS_GEN).redFail n rid stTARGET_FENCED
    else if (sl.phase = p.arg 2 ∧ p.arg 1 < sl.round) ∨ (sl.phase = 2 ∧ p.arg 2 = 1) then
      (s.redCause n RT_RED_STATUS_ORDER).redFail n rid stABORTED
    else if sl.phase ≠ p.arg 2 ∧ ¬(sl.phase = 1 ∧ p.arg 2 = 2) then s.redFail n rid stABORTED
    else if r.inTurn kid p then (s.redTake n kid p ue).redDrain n rid ((s.rt n).staged.length + 1)
    else if ((s.rt n).staged.map (fun x => payFlits x.pkt)).sum + payFlits p ≤ 64 then
      s.modRt n (fun q => { q with staged := q.staged ++ [(⟨kid, if ue then { p with args := p.args.set 5 1 } else p⟩ : RStaged)] })
    else s.redAnswer n kid p opRED_BUSY [rid, p.arg 1, 0]

/-- RED_DATA reaches a router's reduction unit (R188 to R190, R200). -/
def State.redArrive (s : State) (n : Nat) (p : Pkt) (ue : Bool) : State :=
  let rid := p.arg 0
  let npay := p.arg 9
  if npay = 2 ∨ 3 < npay then s.redFail n rid stABORTED
  else if (s.rt n).idHold.contains rid then s
  else
    match s.red? n rid with
    | some r => if r.kids.contains 4 && s.tnState n != 1 then s.redFail n rid stABORTED else s.redAt n p ue r
    | none =>
      let need := reCtxs (s.redEntry rid)
      let free := ((List.range 64).reverse).filter (fun c => ((s.rt n).ctx.get c {}).owner == 0)
      let used := ((s.rt n).ctx.filter (fun e => e.2.owner == 2)).length
      if free.length < need ∨ s.fld RT_RED_CFG_OPEN_MAX n < used + need then
        (s.redCause n RT_RED_STATUS_NOCTX).redAnswer n (kidOf n p) p opRED_BUSY [rid, p.arg 1, 1]
      else
        let cs := free.take need
        let r := s.newRed n p cs
        let s := s.modRt n (fun q => { q with
          reds := q.reds ++ [r]
          ctx := cs.foldl (fun m c => m.put c { owner := 2 }) q.ctx })
        if r.kids.contains 4 && s.tnState n != 1 then s.redFail n rid stABORTED
        else
          let s := if r.kids.any (fun k => decide (k < 5) && s.portOut n k) then s.redFail n rid stTARGET_FENCED else s
          s.redAt n p ue r

end Sys2Proof.Machine
end

