-- ==== Sys2Proof/Machine/Digest.lean ====
section
/-!
DEFINITION. Check codes and digests: CRC-64 (R256), CRC-32C (R408), SHA-256 (R28, R228, R241, R411) and the PRBS of R290.
-/

namespace Sys2Proof.Machine

/-! ## CRC -/

/-- One byte of a reflected CRC with the given reversed polynomial. -/
def crcByte (poly crc b : Nat) : Nat :=
  (List.range 8).foldl (fun c _ => if bit c 0 then (c >>> 1) ^^^ poly else c >>> 1) (crc ^^^ (b % 256))

/-- ECMA-182, processed least significant bit first (R256): the register after the bytes. -/
def crc64Reg (reg : Nat) (d : List Nat) : Nat := d.foldl (crcByte 0xC96C5795D7870F42) reg

def crc64Init : Nat := 0xFFFFFFFFFFFFFFFF
def crc64Out (reg : Nat) : Nat := reg ^^^ 0xFFFFFFFFFFFFFFFF
/-- CRC-64 of bytes (R256). Log entry 11, DESIGN CHOICE. -/
def crc64 (d : List Nat) : Nat := crc64Out (crc64Reg crc64Init d)

/-- CRC-32C of bytes (R408). -/
def crc32c (d : List Nat) : Nat := (d.foldl (crcByte 0x82F63B78) 0xFFFFFFFF) ^^^ 0xFFFFFFFF

/-! ## SHA-256 -/

/-- The integer k-th root of n, one bit at a time from bit b − 1 down. -/
def rootBits (k n : Nat) : Nat → Nat → Nat
  | 0, r => r
  | b + 1, r => rootBits k n b (if (r + 2 ^ b) ^ k ≤ n then r + 2 ^ b else r)

/-- The first 32 bits of the fractional part of the k-th root of p. -/
def rootFrac (k p : Nat) : Nat := rootBits k (p <<< (32 * k)) 36 0 % 2 ^ 32

/-- The 64 primes up to 311, from which SHA-256 draws its constants. -/
def shaPrimes : List Nat :=
  (List.range 312).filter (fun n => decide (2 ≤ n) && [2, 3, 5, 7, 11, 13, 17].all (fun d => decide (n = d) || n % d != 0))

/-- The exclusive or of a 32-bit word turned right by each of the amounts. -/
def turns (x : Nat) (by_ : List Nat) : Nat := by_.foldl (fun y n => y ^^^ ((x + x <<< 32) >>> n) % 2 ^ 32) 0

/-- The compression of a block in progress: the last four of the words A and of the words E, newest first, and the sixteen words of the
message schedule from the one that the next round takes. -/
structure ShaRun where
  as : List Nat
  es : List Nat
  win : List Nat

/-- One round, with its constant. -/
def ShaRun.round (r : ShaRun) (k : Nat) : ShaRun :=
  match r.as, r.es, r.win with
  | [a, b, c, d], [e, f, g, h], w :: ws =>
    let t := h + turns e [6, 11, 25] + (g ^^^ (e &&& (f ^^^ g))) + k + w
    let u := turns a [2, 13, 22] + ((a &&& b) ||| (c &&& (a ||| b)))
    let p := ws.getD 0 0
    let q := ws.getD 13 0
    let next := w + (turns p [7, 18] ^^^ p >>> 3) + ws.getD 8 0 + (turns q [17, 19] ^^^ q >>> 10)
    ⟨[(t + u) % 2 ^ 32, a, b, c], [(d + t) % 2 ^ 32, e, f, g], ws ++ [next % 2 ^ 32]⟩
  | _, _, _ => r

/-- The 64 constants of the rounds: from the cube roots of the primes. -/
def shaRounds : List Nat := shaPrimes.map (rootFrac 3)

/-- The eight words before the first block: from the square roots of the first eight primes. -/
def shaStart : List Nat := (shaPrimes.take 8).map (rootFrac 2)

/-- The words after one more block of 64 bytes. -/
def shaBlock (h blk : List Nat) : List Nat :=
  let win := (List.range 16).map (fun i => ofBytes (slice blk (4 * i) 4).reverse)
  let r := shaRounds.foldl ShaRun.round ⟨h.take 4, h.drop 4, win⟩
  h.zipWith (fun a b => (a + b) % 2 ^ 32) (r.as ++ r.es)

/-- A message with its end mark and its length in bits, in whole blocks. -/
def shaPadded (d : List Nat) : List Nat :=
  let whole := 64 * cdiv (d.length + 9) 64
  d ++ 0x80 :: List.replicate (whole - (d.length + 9)) 0 ++ (toBytes 8 (8 * d.length)).reverse

/-- SHA-256 of bytes: 32 bytes in the order of the standard. Log entry 11, DESIGN CHOICE. -/
def sha256 (d : List Nat) : List Nat :=
  let m := shaPadded d
  let h := (List.range (m.length / 64)).foldl (fun h i => shaBlock h (slice m (64 * i) 64)) shaStart
  h.flatMap (fun w => (toBytes 4 w).reverse)

end Sys2Proof.Machine
end

