-- ==== Sys2Proof/Machine/ReplayOps.lean ====
section
/-!
DEFINITION. The log of host inputs (R267 to R270).
-/

namespace Sys2Proof.Machine

/-- What the host port's own requests are for: 0 an interrupt line, 1 nothing that is looked at, 2 the replay log.
Log entry 90, DESIGN CHOICE. -/
def ownLog : Nat := 2

/-- The read of a log that is replayed. Log entry 90, DESIGN CHOICE. -/
def ownReplay : Nat := 4

/-- Units that the log holds. -/
def State.replayCap (s : State) : Nat :=
  let n := s.fld FB_REPLAY_CFG_SIZE
  2 ^ (if 10 ≤ n ∧ n ≤ 27 then n else 10)

def State.replayBase (s : State) : Nat := s.fld FB_REPLAY_BASE_LO_ADDR_LO <<< 12 + s.fld FB_REPLAY_BASE_HI_ADDR_HI <<< 32

def State.replayT0 (s : State) : Nat := s.fld FB_REPLAY_T0_LO_T0_LO + s.fld FB_REPLAY_T0_HI_T0_HI <<< 32

/-- First word of a log record taken now (R268). -/
def State.replayWord (s : State) (ty ext ring : Nat) : Nat :=
  ((s.accC 60 - s.replayT0) % 2 ^ 40) <<< 24 + ty <<< 16 + ext <<< 12 + ring

/-- Write the words of a record at the log's pointer, which moves on. -/
def State.replayPut (s : State) (words : List Nat) : State :=
  let p := s.fld FB_REPLAY_PTR_UNITS
  let d := words.flatMap (toBytes 8)
  (s.hpPush (s.fld FB_REPLAY_CFG_HP) ⟨⟨3, 0, 0, true, d.length, 0, s.replayBase + 32 * p, d⟩, .own ownLog⟩).setFld
    FB_REPLAY_PTR_UNITS (p + words.length / 4)

/-- A log write that the host port refuses ends recording with END, reason WRITE_ERR (R267, R268). -/
def State.logFailed (s : State) : State :=
  if s.fld FB_REPLAY_STATUS_ACTIVE = 1 ∧ s.fld FB_REPLAY_CFG_MODE = 1 then
    ((s.replayPut [s.replayWord 0x0F 0 0, 2, 0, 0]).setFld FB_REPLAY_STATUS_ACTIVE 0).setFld FB_REPLAY_STATUS_WRITE_ERR 1
  else s.setFld FB_REPLAY_STATUS_WRITE_ERR 1

/-- A write of Carlith's own has failed: of code 2, the replay log, which ends recording (R267), or of code 3, the plot, which it
ends (R428). Log entry 90, DESIGN CHOICE. -/
def State.ownFailed (s : State) (code : Nat) : State :=
  if code = ownLog then s.logFailed
  else if code = 3 then ({ s with plot := [] }.setFld FB_PLOT_STATUS_WRITE_ERR 1).setFld FB_PLOT_STATUS_BUSY 0
  else s

/-- Recording ends with an END record (R267). -/
def State.replayEnd (s : State) (reason : Nat) : State :=
  let s := (s.replayPut [s.replayWord 0x0F 0 0, reason, 0, 0]).setFld FB_REPLAY_STATUS_ACTIVE 0
  if reason = 1 then s.setFld FB_REPLAY_STATUS_OVERFLOW 1 else s

/-- Log an input of a ring of the recorded tenancy (R267, R268); `words` are words 1 to 3 and those of further units.
Log entry 89, DEDUCED. -/
def State.replayLog (s : State) (ten ty ring : Nat) (words : List Nat) : State :=
  if s.replayMode 1 ten = false then s else
    let units := (words.length + 1) / 4
    let left := s.replayCap - s.fld FB_REPLAY_PTR_UNITS
    if left < units + 1 then s.replayEnd 1
    else
      let s := s.replayPut (s.replayWord ty (units - 1) ring :: words)
      if left = units + 1 then s.replayEnd 1 else s

/-- A signal word has reached the VALUE of WAITs of KIND 2 (R268): each is logged by its queue. Log entry 89, DEDUCED. -/
def State.sigLog (s : State) (ni ten addr value : Nat) : State :=
  (s.waits.filter (fun w => w.ni == ni && w.kind == 2 && w.sub == ten && w.key == addr && decide (w.target ≤ value))).foldl (fun s w =>
    match s.desc? w.desc with
    | some d => s.replayLog d.ten 0x05 (d.origin % 4096) [sigLineNo d.ten addr, value, d.index]
    | none => s) s

/-- The first divergence of a replay (R270). Log entry 89, DEDUCED. -/
def State.diverge (s : State) (unit : Nat) : State :=
  if s.fld FB_REPLAY_STATUS_DIVERGE = 1 then s
  else (s.setFld FB_REPLAY_STATUS_DIVERGE 1).setFld FB_REPLAY_DIV_UNIT unit

/-- A host read of a descriptor has returned data (R268 to R270): it is logged, or its CRC-64 is compared with that of its record, where the
log has supplied it already. Log entry 89, DEDUCED. -/
def State.hostRead (s : State) (d : Desc) (addr : Nat) (data : List Nat) : State :=
  if 4096 ≤ d.origin then s else
    let s := s.replayLog d.ten 0x04 d.origin [addr, data.length, crc64 data]
    if s.replayMode 2 d.ten then
      match s.replay.reads.find? (fun r => r.1 == d.origin && r.2.1 == addr && r.2.2.1 == data.length) with
      | none => { s with replay := { s.replay with live := s.replay.live ++ [(d.origin, addr, data.length, crc64 data)] } }
      | some r =>
        let s := { s with replay := { s.replay with reads := delFirst (fun x => decide (x = r)) s.replay.reads } }
        if r.2.2.2.1 = crc64 data then s else s.diverge r.2.2.2.2
    else s

/-- A HOST_READ record of the log (R269, R270): compared with the read that was performed before it, or kept for the one that comes.
Log entry 89, DEDUCED. -/
def State.readLogged (s : State) (ring addr len crc unit : Nat) : State :=
  match s.replay.live.find? (fun r => r.1 == ring && r.2.1 == addr && r.2.2.1 == len) with
  | none => { s with replay := { s.replay with reads := s.replay.reads ++ [(ring, addr, len, crc, unit)] } }
  | some r =>
    let s := { s with replay := { s.replay with live := delFirst (fun x => decide (x = r)) s.replay.live } }
    if r.2.2.2 = crc then s else s.diverge unit

/-- Read ahead in the log that is replayed (R269): its next three units, through the host port. The data are the operand of REPLAY_INJECT.
Log entry 89, DEDUCED. -/
def State.replayAhead (s : State) : State :=
  s.hpPush (s.fld FB_REPLAY_CFG_HP) ⟨⟨2, 0, 0, true, 96, 0, s.replayBase + 32 * s.fld FB_REPLAY_PTR_UNITS, []⟩, .own ownReplay⟩

end Sys2Proof.Machine
end

