-- ==== Sys2Proof/Machine/HashOps.lean ====
section
/-!
DEFINITION. The Binnacle's SHA-256 engine at work on a HASH descriptor (R228): its reads, and the write of the digest.
-/

namespace Sys2Proof.Machine

/-- The Binnacle's key as a source of transactions. -/
def bnKey : Nat := 2304

/-- A packet for the Binnacle is taken there; its register interface answers while the processor is in reset, the engine does not
(R228). -/
def State.atBn (s : State) (p : Pkt) (f : State → State) : State :=
  let s := s.takeNet (.unit bnLoc) p
  if s.bnUp then f s else s

/-- Change the job of a descriptor. -/
def State.updHash (s : State) (desc : Nat) (f : HashJob → HashJob) : State :=
  { s with hash := updFirst (fun x => x.desc == desc) f s.hash }

/-- The Binnacle goes into reset, or loses its clock: every HASH of its engine ends (R228). -/
def State.hashAbort (s : State) : State := (s.hash.map (fun h => h.desc)).foldl (fun s d => s.finish d stABORTED) s

/-- The engine sends a packet. -/
def State.bnSend (s : State) (p : Pkt) : State := s.emit p

/-- `arg` of the engine's transactions beside the part numbers of its reads: the digest write and its credit request. -/
def hashWrite : Nat := 2 ^ 24
def hashCredit : Nat := 2 ^ 24 + 1

/-- The digest of a range whose parts have all come. -/
def HashJob.digest (h : HashJob) : List Nat := sha256 (h.chunks.flatMap (fun c => c.data))

/-- Send the digest with the epoch of its credits (R228, R363: an ACT write). Log entry 88, DEDUCED. -/
def State.hashSend (s : State) (h : HashJob) (d : Desc) (txn epoch : Nat) : State :=
  match s.destAddr d.ni d.flowNo d.dstHost d.hpsel (d.w 3) with
  | .bad st => s.finish d.id st
  | .to l => s.bnSend (mkDat opWRITE bnLoc l d.ten d.flowNo txn [0] (d.w 3) epoch 0 h.digest)

/-- Move a job on: reads as tags allow, then credits where DST is scratchpad, then the digest. -/
def State.hashPump (s : State) (desc : Nat) : State :=
  match s.hash.find? (fun h => h.desc == desc), s.desc? desc with
  | some h, some d =>
    if h.chunks.all (fun c => c.st == 2) then
      if h.wtxn ≠ 4096 ∨ s.txnRoom bnKey = false then s
      else
        let t := s.freeTxn bnKey
        let credit := !d.dstHost && adSpace (d.w 3) == 0
        let s := s.updHash desc (fun x => { x with wtxn := t, credit := credit })
        let s := s.addTx ⟨bnKey, t, .hash, desc, 0, if credit then hashCredit else hashWrite,
          if d.dstHost then s.chipId else adChip (d.w 3), 0, false, false⟩
        if credit then
          match s.destAddr d.ni d.flowNo false d.hpsel (d.w 3) with
          | .bad st => s.finish desc st
          | .to l => s.bnSend (mkPkt opCREDIT_REQ bnLoc l d.ten d.flowNo t [d.w 3, 1, 0, 0, 0])
        else s.hashSend h d t 0
    else
      (List.range h.chunks.length).foldl (fun s i =>
        match (s.hash.find? (fun h => h.desc == desc)).bind (fun y => y.chunks[i]?) with
        | none => s
        | some c =>
          if c.st = 0 ∧ s.txnRoom bnKey = true then
            match s.destAddr d.ni d.flowNo d.srcHost d.hpsel c.src with
            | .bad st => s.finish desc st
            | .to l =>
              let t := s.freeTxn bnKey
              let s := s.addTx ⟨bnKey, t, .hash, desc, 0, i, if d.srcHost then s.chipId else adChip c.src, 0, false, false⟩
              let s := s.updHash desc (fun x => { x with chunks := x.chunks.set i { c with st := 1 } })
              s.bnSend (mkPkt opREAD bnLoc l d.ten d.flowNo t [c.src, c.len - 1])
          else s) s
  | _, _ => s

/-- The jobs that wait for a tag of the engine go on (R102, R228). -/
def State.hashPumpAll (s : State) : State := (s.hash.map (fun h => h.desc)).foldl State.hashPump s

/-- An answer has come to the engine: a read's data or refusal, credits, or the acknowledgement of the digest. Log entry 88, DEDUCED. -/
def State.hashAnswer (s : State) (p : Pkt) (status : Nat) : State :=
  match s.findTx bnKey p.txn with
  | none => s
  | some t =>
    match s.hash.find? (fun h => h.desc == t.desc), s.desc? t.desc with
    | some h, some d =>
      if t.arg = hashCredit then
        if p.kind ≠ opCREDIT_ANS then s.finish d.id status
        else if p.arg 2 = 0 then
          let s := { s with otx := updFirst (fun o => decide (o = t)) (fun o => { o with arg := hashWrite }) s.otx }
          s.hashSend h d t.txn (p.arg 0)
        else if p.arg 2 = 1 then s
        else s.finish d.id (creditStatus (p.arg 2))
      else if t.arg = hashWrite then (s.delTx bnKey p.txn).finish d.id status
      else if status ≠ 0 then (s.delTx bnKey p.txn).finish d.id status
      else
        let s := s.delTx bnKey p.txn
        let s := s.updHash d.id (fun x => { x with chunks := match x.chunks[t.arg]? with
          | some c => x.chunks.set t.arg { c with st := 2, data := p.data }
          | none => x.chunks })
        (if d.srcHost then match h.chunks[t.arg]? with
          | some c => s.hostRead d c.src p.data
          | none => s
         else s).hashPump d.id
    | _, _ => s.delTx bnKey p.txn

/-- An answer at the engine, and what other jobs can do with the tag that it frees. Log entry 88, DEDUCED. -/
def State.hashIn (s : State) (p : Pkt) (status : Nat) : State := (s.hashAnswer p status).hashPumpAll

end Sys2Proof.Machine
end

