-- ==== Sys2Proof/Machine/TxEnd.lean ====
section
/-!
DEFINITION. The early end of an open transaction at its source: by timeout, DROP or a chip out of reach (R107, R121, R166,
R209, R313).
-/

namespace Sys2Proof.Machine

/-- The causes of a ring or tile queue that a serving NI flags (R209, R275): bit 14 OVERRUN and bit 13 FETCH_ERR of
FB_RINGn_CFG, bit 1 OVERRUN of NI_TQn_CFG. Log entry 33, DESIGN CHOICE. -/
def State.ringCause (s : State) (ni o cause : Nat) : State :=
  let s := if o < 4096 then
      (if cause = 14 then s.setFld FB_RING_CFG_OVERRUN 1 0 o else s.setFld FB_RING_CFG_FETCH_ERR 1 0 o)
    else s.setFld NI_TQn_CFG_OVERRUN 1 ni (o % 4)
  s.report .ni ni 12 (cause + (if o < 4096 then o else o % 4) <<< 5)

/-- The write of RESULT that a completion waits for has ended (R241, R242): the completion carries PROV, or ACCESS_DENIED where it would
have been OK. -/
def State.provAnswered (s : State) (ni txn : Nat) (ok : Bool) : State :=
  { s with cplq := updFirst (fun c => c.ni == ni && c.asked == some txn) (fun c =>
      let w0 := c.words.getD 0 0
      { c with
        words := c.words.set 0 (if ok then w0 + 2 ^ 19 else if w0 % 256 = 0 then w0 + stACCESS_DENIED else w0)
        prov := none
        asked := none }) s.cplq }

/-- The wait of a part of a transfer is over although nothing answered it: parts under way are closed. -/
def Xfer.closeAll (x : Xfer) : Xfer := { x with chunks := x.chunks.map (fun c => { c with st := 4 }) }

/-- The transaction `o` ends with a status and without its answer. -/
def State.txEnd (s : State) (o : OTx) (status : Nat) : State :=
  let s := s.delTx o.src o.txn
  match o.use with
  | .read => s.partDone o.xfer o.arg status
  | .credit =>
    match s.xfer? o.xfer with
    | some x =>
      let s := s.giveUp o.src o.txn true
      let s := if 0 < x.early then s.niSend x.ni opCREDIT_RETURN x.dstLoc x.ten x.flow x.txn [x.total] else s
      s.failXfer o.xfer status
    | none => s
  | .write => ((s.stopXfer o.xfer).updXfer o.xfer Xfer.closeAll).failXfer o.xfer status
  | .atomic | .winOp | .hash => s.finish o.desc status
  | .reg | .headWr => s
  | .cplWr => s.niCause o.src NI_CMD_STATUS_CPL_LOST 12 (ringNo (o.arg / 2) <<< 5)
  | .sigRead =>
    let s := { s with sigLines := s.sigLines.filter (fun l => !(l.ni == o.src && l.ten == o.xfer && l.addr == o.arg)) }
    s.endSigWaits o.src o.xfer (fun a => a / 64 * 64 == o.arg) status
  | .aperture =>
    let a := s.apt o.src
    let s := (s.setAp o.src { a with out := a.out.filter (fun e => e.2.1 != o.txn) }).coreAns o.src true 0
    if status = stTIMEOUT then s else s.niCause o.src NI_AP_STATUS_AP_FENCED 11 (3 + 2 ^ 17)
  | .trace =>
    let b := s.trace.get o.src {}
    let lost := ((b.sent.filter (fun e => e.1 == o.txn)).map (fun e => e.2)).sum
    { s with trace := s.trace.put o.src { b with sent := b.sent.filter (fun e => e.1 != o.txn) } }.addFld
      NI_TRACE_STATUS_LOST lost o.src
  | .record =>
    let again := (s.rng o.arg).again
    let s := (s.setRing o.arg { s.rng o.arg with reading := false, again := false, bell := false }).ringCause o.src o.arg 13
    if again then s.readRecord o.src o.arg true else s
  | .descFetch => (s.setRing o.arg { s.rng o.arg with fetching := 0, halted := true }).ringCause o.src o.arg 13
  | .provWr => s.provAnswered o.src o.txn false

/-- Every open transaction of an NI to a chip in `chips` completes LINK_LOST at once (R313). -/
def State.chipsLost (s : State) (nis chips : Nat → Bool) : State :=
  let os := s.otx.filter (fun o => decide (o.src < 2304) && nis o.src && o.chip != s.chipId && chips o.chip)
  os.foldl (fun s o => if (s.findTx o.src o.txn).isSome then s.txEnd o stLINK_LOST else s) s

/-- Clear the NI_REACH bits of chips in every NI, and end what is open to them (R313, R334). -/
def State.clearReach (s : State) (chips : Nat → Bool) : State :=
  let clear := fun (k v : Nat) => (List.range 32).foldl (fun v b => if chips (32 * k + b) then setBits v b b 0 else v) v
  let regs := s.regs.map (fun e => match locate e.1 with
    | some (r, _, k) => if r.blk = .ni ∧ r.off = NI_REACH.off then (e.1, BitVec.ofNat 32 (clear k e.2.toNat)) else e
    | none => e)
  { s with regs := regs }.chipsLost (fun _ => true) chips

end Sys2Proof.Machine
end

