-- ==== Sys2Proof/Machine/LinkOps.lean ====
section
/-!
DEFINITION. Outer links and bundles: control items (R309), bundle states, lane width (R318), and the loss of lanes, links and
bundles (R331 to R334).
-/

namespace Sys2Proof.Machine

def State.olk (s : State) (n : Nat) : OLink := s.ol.get n {}
def State.setOl (s : State) (n : Nat) (l : OLink) : State := { s with ol := s.ol.put n l }
def State.modOl (s : State) (n : Nat) (f : OLink → OLink) : State := s.setOl n (f (s.olk n))

/-! ## Control items (R309): type in bits 127:120 -/

def itemOf (ty body : Nat) : Nat := ty <<< 120 + body
def itemTy (i : Nat) : Nat := bits i 127 120

/-- Items that belong to a stream and not to the link that carries it: CREDIT and LAND_MARK. -/
def streamItem (i : Nat) : Bool := itemTy i == 0x03 || itemTy i == 0x04

/-- Queue a control item. -/
def State.item (s : State) (n ty body : Nat) : State := s.modOl n (fun l => { l with items := l.items ++ [itemOf ty body] })

/-! ## States -/

/-- OL_STATUS.STATE of R317. -/
def lsDISABLED : Nat := 0
def lsWAIT_PMA : Nat := 1
def lsALIGN : Nat := 2
def lsWIDTH : Nat := 3
def lsLOCK : Nat := 4
def lsIDENT : Nat := 5
def lsREADY : Nat := 6
def lsACTIVE : Nat := 7
def lsHELD : Nat := 8
def lsFAILED : Nat := 9

def State.linkState (s : State) (n : Nat) : Nat := s.fld OL_STATUS_STATE n

/-- A link changes state, which its logbook records (R425). -/
def State.setLink (s : State) (n st : Nat) : State :=
  let old := s.linkState n
  if old = st then s
  else (s.setFld OL_STATUS_STATE st n).log .ol n 0x40 4 (s.fld OL_IDENT_RX_R_CHIP n) (old * 16 + st)

def State.linkBundle (s : State) (n : Nat) : Nat := s.fld OL_STATUS_BUNDLE n

/-- Links of a bundle. -/
def State.bundleLinks (s : State) (b : Nat) : List Nat := (List.range 32).filter (fun n => s.linkBundle n == b)

/-- Links of a bundle that are MATCH and in service (R325). -/
def State.bundleUpLinks (s : State) (b : Nat) : List Nat :=
  (s.bundleLinks b).filter (fun n => s.linkState n == lsACTIVE && s.fld OL_STATUS_OUTCOME n == 1)

/-- FB_BUNDLE_STATE of a bundle. -/
def State.bundleState (s : State) (b : Nat) : Nat :=
  bits (s.rd FB_BUNDLE_STATE 0 (b / 16)) (2 * (b % 16) + 1) (2 * (b % 16))
def State.setBundle (s : State) (b v : Nat) : State :=
  s.wr FB_BUNDLE_STATE 0 (b / 16) (setBits (s.rd FB_BUNDLE_STATE 0 (b / 16)) (2 * (b % 16) + 1) (2 * (b % 16)) v)
def State.bundleUp (s : State) (b : Nat) : Bool := decide (b < 32) && s.bundleState b == 1

/-- Least links and width of a bundle (R321, R322). -/
def State.minLinks (s : State) (b : Nat) : Nat := s.plan.minLinks.getD b 1
def State.minWidth (s : State) (b : Nat) : Nat := s.plan.minWidth.getD b 1

/-- A sibling has adopted the link's stream (R333). -/
def State.isAdopted (s : State) (n : Nat) : Bool := (List.range 32).any (fun m => (s.olk m).adopted.contains n)

/-- The link's own stream is carried: it is ACTIVE, or a sibling has adopted it (R314, R333). Log entry 170, DEDUCED. -/
def State.carried (s : State) (n : Nat) : Bool := s.linkState n == lsACTIVE || s.isAdopted n

/-- Bundle 31 is no bundle, but for link 31 of preset 7, whose bundle it is (R321). Log entry 113, DEDUCED. -/
def State.noBundle (s : State) (b : Nat) : Bool := b == 31 && s.fld FB_STRAP_PLAN_SEL != 7

/-- The bundle that leads towards a chip (R314): none where no ROUTE entry is VALID. -/
def State.chipBundle (s : State) (chip : Nat) : Option Nat :=
  let e := s.plan.routes.get chip 0
  if bit e 7 then some (bits e 4 0) else none

/-! ## Width (R318) -/

/-- Width code and lanes in use for a set of usable lanes: the lowest-numbered ones. -/
def widthOf (usable : Nat) : Nat × Nat :=
  let l := (List.range 4).filter (fun i => bit usable i)
  let w := if l.length = 4 then 3 else if 2 ≤ l.length then 2 else if l.length = 1 then 1 else 0
  let k := if w = 3 then 4 else w
  (w, (l.take k).foldl (fun m i => m + 2 ^ i) 0)

/-! ## Losses -/

/-- The edge routers of a bundle's links whose current segment uses a bundle attachment will send SEG_ABORT LINK_LOST at their
next local beat (R334). -/
def State.bundleEdges (s : State) (b : Nat) : State :=
  (s.bundleLinks b).foldl (fun s n =>
    let l := olLoc n
    match (s.rt l.slot).cur with
    | some g => if g.uses (l.port - 1) then s.modRt l.slot (fun r => { r with lostSeg := true }) else s
    | none => s) s

/-- A link discards its queues, retry buffer, landing contents and translation entries (R334). -/
def OLink.flush (l : OLink) : OLink :=
  { l with txS := [], txP := [], items := [], cur := [], retry := [], resend := [], carry := [], txStream := none, nak := none,
           rxS := [], landing := [], rxPart := [], rxq := [], wait := [], xlat := [], dest := [], adopted := [], old := [], strm := none }

/-- FB_PLAN_STATUS.BUNDLES_UP. -/
def State.countBundles (s : State) : State :=
  s.setFld FB_PLAN_STATUS_BUNDLES_UP ((List.range 32).filter (fun b => s.bundleState b == 1)).length

/-- The sync parent is lost (R330): the alternate parent is used when one is named, else the chip runs free. -/
def State.parentLost (s : State) : State :=
  let s := { s with chr := { s.chr with syncGot := s.time.c } }.setFld FB_SYNC_STATUS_LOST 1
  let alt := s.plan.alt
  if alt ≠ 63 then (s.setFld FB_SYNC_STATUS_PARENT alt).setFld FB_SYNC_STATUS_ALT 1 else s

/-- A consort link carries frames no more: consort disarms with LOST (R266, R335). -/
def State.consortGone (s : State) (n : Nat) : State :=
  if s.fld FB_CONSORT_STATUS_ARMED = 1 ∧ s.fld FB_CONSORT_CFG_LINK = n then
    (s.setFld FB_CONSORT_STATUS_ARMED 0).setFld FB_CONSORT_STATUS_LOST 1
  else s

/-- A bundle is lost (R334): its links are held, its edges abort, and the chips routed through it become unreachable. -/
def State.bundleLost (s : State) (b : Nat) : State :=
  let s := s.bundleEdges b
  let s := (s.bundleLinks b).foldl (fun s n =>
    ((if s.linkState n = lsACTIVE then (s.setLink n lsHELD).consortGone n else s).modOl n OLink.flush).setFld OL_STATUS_ADOPTING 0
      n) s
  let s := s.setBundle b 2
  let s := s.clearReach (fun c => s.chipBundle c == some b)
  let s := s.countBundles
  if s.fld FB_SYNC_STATUS_PARENT = b then s.parentLost else s

/-- The sibling that adopts a lost link's stream (R333): the lowest-numbered in-service link of the bundle on the chip with the
lower chip id. -/
def State.sibling (s : State) (b : Nat) : Option Nat :=
  let l := (s.bundleUpLinks b).filter (fun n => s.plan.consort != some n)
  let low := fun (key : Nat → Nat) => l.foldl (fun m n => match m with
    | none => some n
    | some k => if key n < key k then some n else m) none
  match l with
  | [] => none
  | n :: _ => if s.chipId < s.fld OL_IDENT_RX_R_CHIP n then low id else low (fun n => s.fld OL_IDENT_RX_R_LINK n)

/-- Sibling `sib` adopts the stream of link j (R333): it carries LINK_LOSS where this end noticed, and RESUME. Log entry 109, DEDUCED. -/
def State.adopt (s : State) (j sib : Nat) (tell : Bool) : State :=
  let s := s.modOl sib (fun l => { l with adopted := l.adopted.filter (fun k => k != j) ++ [j] })
  let s := (s.setFld OL_STATUS_CARRIER sib j).setFld OL_STATUS_ADOPTING 1 sib
  let s := if tell then s.item sib 0x08 j else s
  let s := s.item sib 0x09 (j <<< 16 + ((s.olk j).rxPair + 65535) % 65536)
  (s.log .ol j 0x44 15 0 j).log .ol sib 0x44 15 0 j

/-- What the lost link's own stream may have to send again is kept for RESUME, whatever becomes of the link (R332, R333). -/
def OLink.retire (l : OLink) : OLink :=
  { l with old := l.old ++ l.retry ++ (if l.cur.isEmpty then [] else [(l.txPair, l.cur)]), retry := [], cur := [], resend := [],
           nak := none, again := 0 }

/-- A link is lost (R332, R333): it enters HELD; its stream and those it carries move to a sibling, or the bundle is lost
when too few links remain (R334). `tell` is false when the far end has told of it. -/
def State.linkLost (s : State) (n : Nat) (tell : Bool) : State :=
  if s.linkState n ≠ lsACTIVE then s else
    let b := s.linkBundle n
    let s := (s.setLink n lsHELD).consortGone n
    if s.plan.consort = some n then
      (if s.bundleState b = 1 ∧ (s.bundleUpLinks b).length < max 1 (s.minLinks b) then s.bundleLost b else s)
    else if (s.bundleUpLinks b).length < max 1 (s.minLinks b) then s.bundleLost b
    else match s.sibling b with
      | none => s.bundleLost b
      | some sib =>
        let mine := (s.olk n).adopted
        let s := (s.modOl n (fun l => { l.retire with adopted := [], items := l.items.filter streamItem })).setFld OL_STATUS_ADOPTING 0 n
        (n :: mine).foldl (fun s j => s.adopt j sib tell) s

/-- The LINK action of a fault (R275, R282, R317, R332): a READY link is held, an ACTIVE one is lost. Log entry 155, DEDUCED. -/
def State.linkAction (s : State) (n : Nat) : State :=
  if s.linkState n = lsREADY then s.setLink n lsHELD else s.linkLost n true

/-- The width is chosen again while the link is ACTIVE (R331): unacknowledged pairs go again, LOCK stands, and NAK names the pair after the
last one acknowledged; below MIN_WIDTH the link is lost. Log entry 169, DESIGN CHOICE. -/
def State.rewidth (s : State) (n near far : Nat) : State :=
  let w := widthOf (near &&& far)
  let s := s.modOl n (fun l => { l with lanesNear := near, lanesFar := far, resend := l.retry })
  let s := (s.setFld OL_STATUS_WIDTH w.1 n).setFld OL_STATUS_LANES w.2 n
  let s := (s.addFld OL_WIDTH_CHG_CNT 1 n).log .ol n 0x43 15 0 w.2
  let s := s.item n 0x02 (((s.olk n).rxPair + 65536 - (s.olk n).acked) % 65536)
  if w.1 < max 1 (s.minWidth (s.linkBundle n)) then s.linkLost n true else s

/-- A lane is shed (R331); a TRAIN item tells the far end, which sheds it too. Log entry 169, DESIGN CHOICE. -/
def State.shedLane (s : State) (n lane : Nat) : State :=
  let near := (s.olk n).lanesNear &&& (15 ^^^ 2 ^ lane)
  (s.item n 0x0B near).rewidth n near (s.olk n).lanesFar

/-- Training starts (R317): pairs are numbered anew (R306), lanes, width and latency are to be found, and nothing has been judged. What a
sibling has adopted of the link's stream stays with it (R332). -/
def State.trainStart (s : State) (n : Nat) : State :=
  if s.fld OL_CTRL_ENABLE n = 0 then s else
    let s := s.modOl n (fun l => { l with
      cur := [], txPair := 0, retry := [], resend := [], txStream := none, nak := none, again := 0, rxPair := 0, rxHalf := false, skip := false,
      acked := 0, strm := none, since := 32, wrr := [0, 0, 0], lanesNear := 0, lanesFar := 0, told := false, ident := 0, frames := 0,
      marker := 0 })
    let s := if s.isAdopted n then s
      else s.modOl n (fun l => { l with txMark := none, carry := [], old := [], rxPart := [], room := [8, 34, 34, 32, 32, 16, 16] })
    let s := ((s.setFld OL_STATUS_WIDTH 0 n).setFld OL_STATUS_LANES 0 n).setFld OL_STATUS_OUTCOME 0 n
    ((s.setFld OL_STATUS_FAIL_CAUSE 0 n).wr OL_LOCK n 0 0).setLink n lsWAIT_PMA

/-- The bundle of each link and MIN_LINKS and MIN_WIDTH of each bundle under a preset (R321); MIN_WIDTH is ×2, code 2. -/
def presetBundle (sel n : Nat) : Nat :=
  match sel with
  | 1 => n / 4
  | 2 => n / 8
  | 3 => n / 16
  | 4 => if n < 16 then 0 else if n < 24 then 1 else if n < 28 then 2 else 3
  | 5 => n / 2
  | 6 => if n < 28 then n / 4 else if n = 28 then 28 else 31
  | 7 => n
  | _ => 31

/-- Links of a preset bundle. -/
def presetSize (sel b : Nat) : Nat := ((List.range 32).filter (fun n => presetBundle sel n == b)).length

/-- The preset division is in force (R321). -/
def State.presetPlan (s : State) (sel : Nat) : State :=
  let s := (List.range 32).foldl (fun s n => s.setFld OL_STATUS_BUNDLE (presetBundle sel n) n) s
  let s := (List.range 32).foldl (fun s b => if presetSize sel b = 0 ∨ (b = 31 ∧ sel ≠ 7) then s else s.setBundle b 3) s
  { (s.setFld FB_PLAN_STATUS_STATE 1) with plan := { s.plan with
      valid := true, planId := 0, consort := if sel = 6 then some 28 else none,
      bundle := (List.range 32).map (presetBundle sel), rchip := [], rlink := [],
      minLinks := (List.range 32).map (fun b => cdiv (presetSize sel b) 2), minWidth := List.replicate 32 2, weights := [] } }

end Sys2Proof.Machine
end

