-- ==== Sys2Proof/Machine/Events.lean ====
section
/-!
DEFINITION. An error event whole: recorded, counted in its window and acted on when it is SEVERE (R277, R278), safe states
(R281, R282), and corruption of checks by injection (R301).
-/

namespace Sys2Proof.Machine

/-- What a memory port in its safe state owes to open transfers (R282): a DROP for each request it held, so that they complete
TARGET_FENCED. Log entry 69, DEDUCED. -/
def State.mpDropAll (s : State) (n : Nat) : State :=
  let m := s.mpt n
  let ts := m.ready ++ m.cur.toList ++ m.suspended.toList ++ m.suspDbg.toList ++ m.issued
  let s := s.modMp n (fun p => { p with ready := [], cur := none, suspended := none, suspDbg := none, issued := [], rdBuf := [] })
  let s := (List.range 6).foldl (fun s a =>
    s.flushSeen (.inr (mpLoc n a).slot)
      ((m.ready.filter (fun t => t.kind == .bookWrite && t.req == a)).length + (m.rdBuf.filter (fun f => f.attach == a)).length) 0) s
  ts.foldl (fun s t => match t.pkt with
    | some p => s.drop (mpLoc n 0) (mpLoc n 0).slot 4 1 p
    | none => s) s

/-- What a host port in its safe state owes to the tiles whose requests it held (R282). Log entry 69, DEDUCED. -/
def State.hpDropAll (s : State) (n : Nat) : State :=
  let h := s.hpt n
  let rs := h.q ++ h.out
  let s := s.modHp n (fun p => { p with q := [], out := [], sigWaits := [], displaced := [] })
  rs.foldl (fun s r => match r.why with
    | .serve p | .atomRead p | .atomWrite p _ => s.drop (hpLoc n) (hpLoc n).slot 4 1 p
    | .own c => s.ownFailed c) s

/-- The ports of routers that lead to an attachment go out of service (R282, R285). -/
def State.fencedAttach (s : State) (ls : List Loc) : State := ls.foldl (fun s l => s.fencedPort l.slot (l.port - 1)) s

/-- The safe state of a unit (R282), entered once; its logbook freezes (R426). Log entry 69, DEDUCED. -/
def State.enterSafe (s : State) (k : UnitKind) (i : Nat) : State :=
  if s.fld (xx_ERR_STATUS_SAFE k) i = 1 then s else
    let s := s.setFld (xx_ERR_STATUS_SAFE k) 1 i
    let s := match k with | .ni | .mp | .ol | .hp => s.freezeLog k i | _ => s
    match k with
    | .ni => s.fenceF1 i
    | .red => s.fenceF2 i
    | .rg => s.fenceF3 i
    | .mp => (s.mpDropAll i).fencedAttach ((List.range 6).map (mpLoc i))
    | .ol => s.linkAction i
    | .hp => s.hpDropAll i
    | .tp => s
    | .bn => { s.hashAbort with bnUp := false }

/-- A parity fault of an error set: SELF_PARITY, the safe state and a message of its own; no event of any source (R281). -/
def State.selfParity (s : State) (k : UnitKind) (i : Nat) : State :=
  ((s.setFld (xx_ERR_STATUS_SELF_PARITY k) 1 i).enterSafe k i).errMsg k i 0 false true 0

/-- The action of a source that has become SEVERE (R277). STOP is Stolrel's, which learns of it by the error message.
Log entry 132, DEDUCED. -/
def State.severeAct (s : State) (k : UnitKind) (i src detail : Nat) : State :=
  match onSevere k src with
  | .report | .stop | .lane => s
  | .mlink => if bits detail 14 12 < 4 then s.fenceLink i (bits detail 14 12) else s
  | .f1 => s.fenceF1 i
  | .f2 => s.fenceF2 i
  | .f3 => s.fenceF3 i
  | .safe => s.enterSafe k i
  | .link => s.linkAction i

/-- An injected KIND 2 error meets this update of the error set (R301). -/
def State.parityMet (s : State) (k : UnitKind) (i : Nat) : State :=
  if (s.eu k i).parityArmed then
    ((s.setEu k i { s.eu k i with parityArmed := false, met := false }).setFld (xx_ERR_INJECT_ARM k) 0 i).selfParity k i
  else s

/-- The error sets whose armed injection an update of this command has met: QUEUE_FLUSH of a port or link beside a fence or a reset (R54, R301). -/
def State.parityDue : Nat → State → State
  | 0, s => s
  | m + 1, s =>
    match s.err.find? (fun e => e.2.met && e.2.parityArmed) with
    | some e => State.parityDue m (s.parityMet ([UnitKind.ni, .red, .rg, .mp, .ol, .hp, .tp].getD (e.1 / 4096) .bn) (e.1 % 4096))
    | none => s

/-- An error event of a source (R278): recorded, acted on when SEVERE, and told to the Binnacle in one message (R279).
Log entry 132, DEDUCED. -/
def State.unitEvent (s : State) (k : UnitKind) (i src detail : Nat) (injected : Bool := false) : State :=
  if s.mute k i src then s else
  let sev := s.eventSevere k i src
  let told := s.eventTold k i src
  let s := s.noteEvent k i src detail injected
  let s := if sev then let t := s.severeAct k i src detail; t.parityDue t.err.length else s
  (if told then s.errMsg k i src sev false detail else s).parityMet k i

/-- A lane error (R305, R331, R447): SEVERE sheds that lane. Log entry 132, DEDUCED. -/
def State.laneEvent (s : State) (n lane : Nat) : State :=
  let sev := s.eventSevere .ol n 2
  let v := s.rd OL_LANE_ERR n
  let s := (s.recordEvent .ol n 2 0 false).wr OL_LANE_ERR n 0
    (setBits v (8 * lane + 7) (8 * lane) (min 255 (bits v (8 * lane + 7) (8 * lane) + 1)))
  (if sev then s.shedLane n lane else s).parityMet .ol n

/-! ## Injection (R301) -/

/-- The sources of each unit that a check code raises, with the source that one and two inverted check bits raise. ECC checks
report CE for one and UE for two; a parity, residue or comparison check reports its own source. Log entry 30, DESIGN CHOICE. -/
def injectRaises (k : UnitKind) (src kind : Nat) : Option Nat :=
  let pair := fun (ce ue : Nat) => some (if kind = 1 then ue else ce)
  match k, src with
  | .ni, 0 | .ni, 1 => pair 0 1
  | .ni, 4 => some 4
  | .ni, 5 => some 5
  | .ni, 6 | .ni, 7 => pair 6 7
  | .red, 0 | .red, 1 => pair 0 1
  | .red, 2 => some 2
  | .red, 3 => some 3
  | .rg, 3 => some 3
  | .rg, 4 => some 4
  | .mp, 0 | .mp, 1 => pair 0 1
  | .mp, 5 => some 5
  | .ol, 0 | .ol, 1 => pair 0 1
  | .ol, 6 => some 6
  | .hp, 6 => some 6
  | .tp, 2 => some 2
  | .bn, 0 | .bn, 1 => pair 0 1
  | .bn, 2 => some 2
  | .bn, 3 => some 3
  | _, _ => none

/-- A checker that raises one of `srcs` makes a check: the source that an armed injection makes it report, if any, and the
state with the check counted (R301). Log entry 30, DESIGN CHOICE. -/
def State.injCheck (s : State) (k : UnitKind) (i : Nat) (srcs : List Nat) : Option Nat × State :=
  if s.fld (xx_ERR_INJECT_ARM k) i = 0 then (none, s)
  else
    let src := s.fld (xx_ERR_INJECT_SOURCE k) i
    let kind := s.fld (xx_ERR_INJECT_KIND k) i
    if kind = 2 ∨ srcs.contains src = false then (none, s)
    else
      let e := s.eu k i
      let s := s.setEu k i { e with injLeft := e.injLeft - 1 }
      let s := if e.injLeft ≤ 1 then s.setFld (xx_ERR_INJECT_ARM k) 0 i else s
      (injectRaises k src kind, s)

/-- A check whose only consequence is its event. Log entry 30, DESIGN CHOICE. -/
def State.injEvent (s : State) (k : UnitKind) (i detail : Nat) (srcs : List Nat) : State :=
  let r := s.injCheck k i srcs
  match r.1 with
  | some src => r.2.unitEvent k i src detail true
  | none => r.2

end Sys2Proof.Machine
end

