-- ==== Sys2Proof/Machine/SegOps.lean ====
section
/-!
DEFINITION. Segments of charts: reading and checking a segment image (R65, R66, R72, R79, R82, R86, R87, R89, R192, R326, R341),
segment errors and aborts (R84), and consort frames (R264 to R266).
-/

namespace Sys2Proof.Machine

/-! ## Stopping the die -/

/-- A source raises the anchor stop (R429): a second one only adds its bit. -/
def State.anchorStop (s : State) (src : Fld) : State :=
  { s with chr := { s.chr with stopWire := true } }.setFld src 1

/-! ## Consort -/

/-- Two consort frames name the same span (R265). -/
def CFrame.same (a b : CFrame) : Bool :=
  a.chart == b.chart && a.seg == b.seg && a.region == b.region && a.spanBeat == b.spanBeat

/-- Compare a pair of frames (R266): nothing while a mismatch stands. -/
def State.consortPair (s : State) (a b : CFrame) : State :=
  if s.fld FB_CONSORT_STATUS_MISMATCH = 1 ∨ (a.crc = b.crc ∧ a.flits = b.flits) then s
  else
    let s := s.setFld FB_CONSORT_STATUS_MISMATCH 1
    let s := (s.setFld FB_CONSORT_MIS_CHART_CHART_ID a.chart).setFld FB_CONSORT_MIS_SEG_SEG a.seg
    let s := (s.setFld FB_CONSORT_MIS_LOC_REGION a.region).setFld FB_CONSORT_MIS_LOC_SPAN_BEAT a.spanBeat
    let s := s.emit (mkPkt opATTN (niLoc (regionSlot a.region 0)) bnLoc 0 0 0 [1])
    if s.fld FB_CONSORT_CFG_STOP = 1 then s.anchorStop FB_ANCHOR_STATUS_SRC_BN else s

/-- The four cells of a consort frame: two items and their payload cells (R309). -/
def CFrame.cells (f : CFrame) : List Nat :=
  let w0 := f.chart <<< 32 + f.seg <<< 16 + f.region <<< 10 + b2n f.final <<< 9
  [itemOf 0x0A 0, w0 + f.spanBeat <<< 64, itemOf 0x0A 1, f.crc + (f.flits <<< 32) <<< 64]

/-- This chip's region has a frame (R265): it is sent, and compared or kept for the partner's. -/
def State.consortOwn (s : State) (f : CFrame) : State :=
  if s.fld FB_CONSORT_STATUS_ARMED = 0 then s else
    let n := s.fld FB_CONSORT_CFG_LINK
    let s := s.modOl n (fun l => { l with items := l.items ++ f.cells })
    match s.consort.theirs.find? f.same with
    | some g => { s with consort := { s.consort with theirs := delFirst (fun x => decide (x = g)) s.consort.theirs } }.consortPair f g
    | none =>
      if 512 ≤ s.consort.own.length then
        (s.setFld FB_CONSORT_STATUS_OVERFLOW 1).setFld FB_CONSORT_STATUS_ARMED 0
      else { s with consort := { s.consort with own := s.consort.own ++ [f] } }

/-! ## Booking entries -/

/-- The valid entry of a port's booking table that matches (R340). `dir` is 0 for a departure towards the port. -/
def State.booking (s : State) (n a dir chart seg : Nat) : Option Nat :=
  (List.range 64).find? (fun b => s.fld MP_BOOK_CFG_VALID n b = 1 ∧ s.fld MP_BOOK_CFG_ATTACH n b = a ∧
    s.fld MP_BOOK_CFG_DIR n b = dir ∧ s.fld MP_BOOK_CHART_CHART n b = chart ∧
    s.fld MP_BOOK_SEG_SEG_FIRST n b ≤ seg ∧ seg ≤ s.fld MP_BOOK_SEG_SEG_LAST n b)

/-- In-port address of a booking entry. -/
def State.bookAddr (s : State) (n b : Nat) : Nat :=
  s.fld MP_BOOK_ADDR_LO_ADDR_LO n b <<< 8 + s.fld MP_BOOK_ADDR_HI_ADDR_HI n b <<< 32

/-- In-port address of the k-th flit of a segment under entry b (R340). -/
def State.bookFlit (s : State) (n b seg k : Nat) : Nat :=
  s.bookAddr n b + 256 * (s.fld MP_BOOK_CFG_FLITS n b * (seg - s.fld MP_BOOK_SEG_SEG_FIRST n b) + k)

/-- What hangs on mesh port p of a router, where no neighbour does. -/
def offDie (slot p : Nat) : Option Attach :=
  match neighbour slot p with
  | some _ => none
  | none => attachOf ⟨slot % 48, slot / 48, p + 1⟩

/-! ## Segment errors (R84) -/

/-- 64-bit word i of a range of scratchpad. -/
def State.spadWord (s : State) (slot ofs i : Nat) : Nat := s.spad.readNum (spadKey slot (ofs + 8 * i)) 8

/-- The segment number in the image at an offset of an NI's chart pair (R79). -/
def State.imageSeg (s : State) (slot ofs : Nat) : Nat :=
  bits (s.spadWord slot ((s.pairRange slot (s.fld NI_CHART_CTRL_PAIR slot)).1 + ofs) 0) 31 16

/-- The segment that a router runs, or waits for; after the chart's last, that one. -/
def State.segNow (s : State) (slot : Nat) : Nat :=
  let r := s.rt slot
  match r.cur, r.idle, r.ended with
  | some g, _, _ => g.seg
  | none, some g, _ => g.seg
  | none, none, some (_, seg, gone) => if gone then seg else seg + 1
  | none, none, none =>
    match s.ch slot with
    | some c => s.imageSeg slot c.nextOfs
    | none => 0

/-- A cause of NI_CHART_STATUS stops the running segment (R68, R69, R72). Once the NI has sent its SEG_ABORT, a cause that stands already
is not reported again. Log entry 140, DESIGN CHOICE. -/
def State.chartCause (s : State) (slot : Nat) (f : Fld) (status : Nat) : State :=
  match s.ch slot with
  | none => s
  | some c => if c.sent = true ∧ s.fld f slot = 1 then s else (s.niCause slot f 9 f.lo).segFail slot (s.segNow slot) status

/-- The byte range of a stream in its tile's scratchpad (R72, R79, R410). -/
def State.streamBase (s : State) (slot : Nat) (system : Bool) (r : StreamRec) : Nat :=
  (if system then (s.pairRange slot (r.handle % 8)).1 else (s.hdlRange slot r.handle).1) + r.offset

/-- A range of scratchpad whose contents the spec leaves undefined (R84). Log entry 8, DESIGN CHOICE. -/
def State.undefSpad (s : State) (slot ofs n : Nat) : State :=
  s.spadWrite slot ofs ((List.range n).map (fun i => Config.undefByte s.fresh (spadKey slot (ofs + i)) % 256))

/-- A range of a port's memory whose contents the spec leaves undefined (R342). Log entry 8, DESIGN CHOICE. -/
def State.undefHbm (s : State) (port ofs n : Nat) : State :=
  s.hbmWrite port ofs ((List.range n).map (fun i => Config.undefByte s.fresh (2 ^ 42 + hbmKey port (ofs + i)) % 256))

/-- Contexts that a segment's entries name. -/
def SegImg.ctxs (g : SegImg) : List Nat :=
  (g.entries.flatMap (fun e => if e.action = 4 then (List.range e.slots.length).map (fun k => e.rctx + k) else [])).dedup

/-- Release the contexts of charts that `keep` does not name. -/
def Router.releaseCtx (r : Router) (keep : List Nat) : Router :=
  { r with ctx := r.ctx.map (fun e => if e.2.owner = 1 ∧ keep.contains e.1 = false then (e.1, {}) else e) }

/-- WAITs of KIND 0 on a chart from a segment on end with a status (R227, R255). -/
def State.endChartWaits (s : State) (slot chart seg status : Nat) : State :=
  let hit := fun (w : Waiting) => w.ni == slot && w.kind == 0 && w.key == chart && decide (16 * seg ≤ w.sub)
  let ws := s.waits.filter hit
  let s := { s with waits := s.waits.filter (fun w => !(hit w)) }
  ws.foldl (fun s w =>
    let s := match s.desc? w.desc with
      | some d => ((s.traceRec slot 2 d.ten (some d.trace) 2 0 (w.sub % 16) status).waitFree slot 1 (w.sub % 16) d.tag).log
          .ni slot 0x04 15 0 d.tag
      | none => s
    s.finish w.desc status) s

/-- STREAM_READY commands that wait for a segment after `seg` of a chart end with a status (R226, R255). Log entry 39, DEDUCED. -/
def State.endReadyWaits (s : State) (slot chart seg status : Nat) : State :=
  let ds := s.descs.filter (fun d => d.ni == slot && d.opcode == 0x18 && bits (d.w 2) 31 0 == chart &&
    decide (seg < bits (d.w 2) 47 32))
  ds.foldl (fun s d => s.finish d.id status) s

/-- Key of a port's count of flits read ahead. -/
def preKey (chart seg a : Nat) : Nat := 8 * (2 ^ 16 * chart + seg) + a

/-- What a router's segment still holds at the memory ports: prefetched flits are dropped, and booked writes under way leave
their range undefined when the segment aborts (R342, R343), also where the entry that named it has since lost VALID (R344). -/
def State.dropBooked (s : State) (slot chart seg : Nat) (undefined : Bool) : State :=
  (List.range 4).foldl (fun s p =>
    match offDie slot p with
    | some (.mp n a) =>
      let s := s.modMp n (fun m => { m with
        rdBuf := m.rdBuf.filter (fun e => !(e.attach == a && e.chart == chart && e.seg == seg)),
        prefetched := m.prefetched.del (preKey chart seg a),
        ready := m.ready.filter (fun t => !(t.req == a && t.chart == chart && t.seg == seg &&
          (decide (t.kind = .bookRead) || (undefined && decide (t.kind = .bookWrite))))) })
      if undefined then
        let w := (s.mpt n).bookSpan.get a (0, 0)
        match s.booking n a 0 chart seg with
        | some b => if w.2 = 0 then s.undefHbm n (s.bookFlit n b seg 0) (256 * s.fld MP_BOOK_CFG_FLITS n b) else s.undefHbm n w.1 w.2
        | none => s.undefHbm n w.1 w.2
      else s
    | _ => s) s

/-- The segments whose booked reads the attach points of a router may ask for (R343): the one that runs, the one LOADED, and from START on
the chart's first. -/
def State.wantedSegs (s : State) (slot : Nat) (c : ChartRun) : List Nat :=
  let r := s.rt slot
  let gs := r.cur.toList ++ r.idle.toList
  if gs = [] ∧ c.nextStart = c.lstart ∧ r.ended = none then
    match c.loading, c.waitSeg with
    | some ofs, _ => [s.imageSeg slot ofs]
    | none, some g => [g.seg]
    | none, none => []
  else gs.map (fun g => g.seg)

/-- What was read ahead for a chart at a router is dropped (R343). -/
def State.dropAhead (s : State) (slot : Nat) (c : ChartRun) : State :=
  (s.wantedSegs slot c).foldl (fun s g => s.dropBooked slot c.chart g false) s

/-- Step 3 of R84 at a router: entries stop, both banks go, chart-named contexts are released, scheduled flits in its crossing
queues are discarded, and the ranges that the segment was writing hold undefined bytes. -/
def State.applyAbort (s : State) (slot status : Nat) : State :=
  match s.ch slot with
  | none => s
  | some c =>
    let r := s.rt slot
    let s := s.dropAhead slot c
    let s := match r.cur with
      | none => s
      | some g =>
        let s := ((s.waitClear slot 6).dropBooked slot c.chart g.seg true).log .ni slot 0x08 15 0 (g.seg <<< 16 + status)
        g.streams.foldl (fun (s : State) (x : StreamRec) => if x.dir = 1 then s.undefSpad slot (s.streamBase slot c.system x) (256 * x.flits) else s) s
    let seg := s.segNow slot
    let s := s.setRt slot { (r.releaseCtx []) with cur := none, idle := none, ejecting := [], ptr := [], ready := [],
                                                   readyNext := [], fencedSeg := false, lostSeg := false, sat := false,
                                                   shut := [], prevDep := [], ended := some (c.chart, seg, true),
                                                   binds := [] }
    let s := { s with sched := s.sched.filter (fun f => !(f.slot == slot && f.port != 5 && (f.crossing || decide (8 ≤ f.port)))) }
    let s := s.setCh slot none
    (s.endChartWaits slot c.chart seg stABORTED).endReadyWaits slot c.chart seg stABORTED

/-! ## Reading a segment image (R79) -/

/-- What a load makes of an image: the statuses of its failed checks, the image, and the causes it meets. -/
structure LoadRes where
  bad : List Nat
  img : SegImg
  ce : Bool
  ue : Bool
  stale : Bool
  fenced : Bool
  deriving DecidableEq, Repr

/-- The 256-bit digest held in eight registers. -/
def State.digestOf (s : State) (f : Fld) (ni : Nat) : Nat :=
  (List.range 8).foldl (fun d k => d + s.fld f ni k <<< (32 * k)) 0

/-- Checks of a stream record (R72, R79, R364, R408, R410). -/
def State.streamBad (s : State) (ni : Nat) (c : ChartRun) (i : Nat) (r : StreamRec) : List Nat :=
  (if r.offset % 256 = 0 then [] else [stBAD_DESCRIPTOR]) ++
  (if i = 15 ∧ s.fld NI_FWLOAD_CFG_ENABLE ni = 1 ∧ (r.dir = 1 ∨ c.system = true) then []
   else if c.system then
    (if (s.pairRange ni (r.handle % 8)).2 < r.offset + 256 * r.flits ∨ s.fld NI_PAIR_BASE_SYS ni (r.handle % 8) = 0 then
      [stACCESS_DENIED] else [])
   else if s.fld NI_HDL_CFG_VALID ni r.handle = 0 ∨ s.fld NI_HDL_CFG_TENANCY ni r.handle ≠ c.ten ∨
      (s.hdlRange ni r.handle).2 < r.offset + 256 * r.flits ∨
      (r.dir = 1 ∧ r.cls = 0 ∧ s.fld NI_HDL_CFG_CLASS ni r.handle = 1) then [stACCESS_DENIED] else [])

/-- Mesh outputs of an entry. -/
def Entry.meshOuts (e : Entry) : List Nat := e.outs.filter (· < 4)

/-- An entry writes an eject stream, or takes an inject stream (R63). -/
def Entry.ejects (e : Entry) : Bool :=
  e.action == 3 || (e.action == 6 && bit e.outMask 4) || (e.action == 4 && decide (2 ≤ e.cstep) && bit e.outMask 4)
def Entry.injects (e : Entry) : Bool :=
  e.action == 2 || ((e.action == 4 || e.action == 5) && e.inPort == 4 && e.claims)

/-- Ports of an entry that R63 does not allow (R66). R63 speaks of no L output of a BUS_DRIVE; one is not allowed here.
Log entry 158, DESIGN CHOICE. -/
def Entry.badPorts (e : Entry) : Bool :=
  let okIn := match e.action with
    | 1 | 3 => decide (e.inPort < 4)
    | 2 => e.inPort == 4
    | 4 => decide (e.inPort < 6)
    | 5 => decide (e.inPort < 5)
    | _ => e.inPort == 5
  let okOut := match e.action with
    | 1 | 2 | 5 => !(bit e.outMask 4)
    | 4 => if e.cstep < 2 then e.outMask == 0 else !(bit e.outMask 4 && e.inPort == 4)
    | _ => true
  decide (7 ≤ e.action) || !okIn || !okOut

/-- Regions of a row that a bus drive reaches from region column c, with their distances (R77). -/
def Entry.busRegions (e : Entry) (c : Nat) : List (Nat × Nat) :=
  (List.range 6).filterMap (fun x =>
    if x = c then some (x, 0)
    else if c < x ∧ bit e.busDir 0 = true ∧ x - c ≤ e.busReach then some (x, x - c)
    else if x < c ∧ bit e.busDir 1 = true ∧ c - x ≤ e.busReach then some (x, c - x)
    else none)

/-- Positions of a segment at which the last departure of an entry is over (R82): its own, the neighbour's, the farthest
tap's. -/
def Entry.endPositions (e : Entry) (slot : Nat) : List Nat :=
  let last := 16 * e.lastBeat + (e.slots.getLast?).getD 0
  let own := last + e.D
  (if e.outs.isEmpty && e.action != 5 then [] else [own]) ++
  e.meshOuts.filterMap (fun p => match neighbour slot p with
    | some n => some (if regionOf n = regionOf slot then own + 2 else own + 16)
    | none => none) ++
  (if e.action = 5 then (e.busRegions (slot % 48 / 8)).map (fun x => last + 16 * x.2 + 4) else [])

/-- A port is absent for charts: no neighbour and no attachment (R17). -/
def portAbsent (slot p : Nat) : Bool := decide (p < 4) && (neighbour slot p).isNone && (offDie slot p).isNone

/-- Checks of one entry, but fences (R66, R82, R86, R89, R192, R326). Log entry 136, DEDUCED. -/
def State.entryBad (s : State) (ni : Nat) (base : Bool) (g : SegImg) (nstr : Nat) (e : Entry) : List Nat :=
  let r := s.rt ni
  let ports := (if e.inPort < 4 then [e.inPort] else []) ++ e.meshOuts
  let str := g.streams[e.stream]?
  let dirBad := fun (d : Nat) => decide (nstr ≤ e.stream) || (match str with | some x => x.dir != d | none => true)
  let links := ports.filterMap (fun p => match offDie ni p with | some (.ol n) => some n | _ => none)
  let bad := e.badPorts || decide (6 ≤ e.inPort) || ports.any (portAbsent ni) || decide (e.slotLast < e.slotFirst) ||
    (decide (0 < e.repeatM1) && decide (e.period ≤ e.runM1)) || decide (g.length ≤ e.lastBeat) ||
    (e.action == 4 && decide (64 < e.rctx + e.slots.length)) ||
    (e.ejects && dirBad 1) || (e.injects && dirBad 0) ||
    (e.endPositions ni).any (fun q => decide (16 * g.length ≤ q)) ||
    (base && !e.meshOuts.isEmpty && e.slots.any (fun v => (v + e.D) % 16 == g.reserve)) ||
    links.any (fun n => s.fld OL_LAND_CFG_ENABLE n == 0) ||
    (e.action == 4 && ((List.range e.slots.length).any (fun k => !(r.binds.any (fun b => b.1 == e.rctx + k)))))
  (if bad then [stBAD_DESCRIPTOR] else []) ++
  (if links.any (fun n => !(s.bundleUp (s.linkBundle n))) then [stLINK_LOST] else [])

/-- Ports of a segment that are out of service (R66). -/
def State.segFenced (s : State) (ni : Nat) (g : SegImg) : Bool :=
  (List.range 4).any (fun p => g.uses p && !(portAbsent ni p) && s.portOut ni p)

/-- Flits that an entry moves in a segment. -/
def Entry.count (e : Entry) : Nat := (e.repeatM1 + 1) * (e.runM1 + 1) * e.slots.length

/-- Booked departures and inputs at the attach points of a router (R341). -/
def State.bookBad (s : State) (ni : Nat) (c : ChartRun) (g : SegImg) : List Nat :=
  (List.range 4).flatMap (fun p =>
    match offDie ni p with
    | some (.mp n a) =>
      [0, 1].flatMap (fun dir =>
        let k := ((g.entries.filter (fun e => if dir = 0 then e.outs.contains p && e.action != 0 else e.claims && e.inPort == p)).map
          Entry.count).sum
        if k = 0 then [] else
          match s.booking n a dir c.chart g.seg with
          | none => [stBAD_DESCRIPTOR]
          | some b =>
            (if s.fld MP_BOOK_CFG_FLITS n b < k then [stBAD_DESCRIPTOR] else []) ++
            (if !c.system && s.fld MP_BOOK_CFG_TENANCY n b != c.ten then [stACCESS_DENIED] else []))
    | _ => [])

/-- B of R89 for a link; a weight of 0 acts as 1. -/
def State.linkB (s : State) (n : Nat) : Nat :=
  let w := match s.fld OL_STATUS_WIDTH n with | 3 => 4 | v => v
  let wt := fun (f : Fld) => zeroAsOne (s.fld f n)
  37 * w * wt OL_TX_WEIGHT_SCHED / (4 * (wt OL_TX_WEIGHT_SCHED + wt OL_TX_WEIGHT_OPEN + wt OL_TX_WEIGHT_SMALL))

/-- Read and check the image at an offset of an NI's chart pair (R79, R87, R362). An image beyond the pair's bound is read all the same, and
its entries' errors are flagged beside ACCESS_DENIED. Log entry 160, DESIGN CHOICE. -/
def State.readSeg (s : State) (ni : Nat) (c : ChartRun) (ofs : Nat) : LoadRes :=
  let pr := s.pairRange ni (s.fld NI_CHART_CTRL_PAIR ni)
  let b := pr.1 + ofs
  let w := s.spadWord ni b
  let nst := bits (w 1) 30 26
  let npatch := bits (w 1) 25 10
  let necnt := bits (w 1) 45 35
  let last := bit (w 0) 2
  let next := bits (w 2) 63 32
  let dig := w 4 + w 5 <<< 64 + w 6 <<< 128 + w 7 <<< 192
  let streams := (List.range (min nst 16)).map (fun i => decodeStream (w (8 + 2 * i)) (w (9 + 2 * i)))
  let pw := 8 + 2 * nst
  let patches := (List.range npatch).map (fun i => (bits (w (pw + 2 * i)) 63 48, bits (w (pw + 2 * i)) 47 37, bits (w (pw + 2 * i + 1)) 63 32))
  let ew := pw + 2 * npatch
  let cur := s.digestOf NI_MAP_DIGEST_DIGEST ni
  let from_ := s.digestOf NI_PATCH_FROM_DIGEST ni
  let patched := dig ≠ cur ∧ s.fld NI_CHART_PATCH_VALID ni = 1 ∧ dig = from_
  let stale := dig ≠ cur ∧ ¬patched
  let mine := patches.filter (fun p => p.1 == s.fld NI_CHART_PATCH_NUM ni)
  let useRepl := patched ∧ mine ≠ []
  let lst : Nat × Nat := match mine with
    | p :: _ => if useRepl then (pr.1 + p.2.2, p.2.1) else (b + 8 * ew, necnt)
    | [] => (b + 8 * ew, necnt)
  let raw := if stale then [] else (List.range (min lst.2 1024)).map (fun i => ofBytes (s.spadRead ni (lst.1 + 16 * i) 16))
  let fixed := raw.map secdedFix
  let entries := fixed.filterMap (fun o => o.map (fun x => decodeEntry x.1))
  let ue := fixed.any (fun o => o.isNone)
  let g : SegImg := ⟨bits (w 0) 63 32, bits (w 0) 31 16, last, bit (w 0) 1, bits (w 1) 63 46, bits (w 1) 34 31, next, dig,
    streams, entries.filter (fun e => e.action != 0),
    ((List.range 4).filterMap (fun p => match offDie ni p with | some (.ol n) => some (p, s.linkB n) | _ => none))⟩
  let inside := fun (o n : Nat) => decide (o + n ≤ pr.2)
  let bad :=
    (if c.system = false ∧ s.pairForeign ni (s.fld NI_CHART_CTRL_PAIR ni) c.ten = true then [stACCESS_DENIED] else []) ++
    (if ofs % 64 ≠ 0 ∨ (¬last ∧ next % 64 ≠ 0) then [stBAD_DESCRIPTOR] else []) ++
    (if inside ofs (8 * ew + 16 * necnt) = false ∨ inside ofs 64 = false then [stACCESS_DENIED] else []) ++
    (if bits (w 0) 15 8 ≠ 1 ∨ g.length = 0 ∨ 1024 < necnt ∨ 16 < nst then [stBAD_DESCRIPTOR] else []) ++
    ((List.range streams.length).zip streams).flatMap (fun x => s.streamBad ni c x.1 x.2) ++
    (if patches.any (fun p => decide (1024 < p.2.1 ∨ p.2.2 % 64 ≠ 0)) then [stBAD_DESCRIPTOR] else []) ++
    (if 1 < mine.length then [stBAD_DESCRIPTOR] else []) ++
    (if patches.any (fun p => !(inside p.2.2 (16 * p.2.1))) then [stACCESS_DENIED] else []) ++
    (if stale then [stCHART_STALE] else
      (if ue then [stDATA_ERROR] else []) ++
      g.entries.flatMap (s.entryBad ni (!(decide useRepl)) g nst) ++ s.bookBad ni c g ++
      (if s.segFenced ni g then [stTARGET_FENCED] else []))
  ⟨bad, g, fixed.any (fun o => match o with | some x => x.2 | none => false), ue, stale, !stale && s.segFenced ni g⟩

/-- Contexts that a segment names and an open-plane reduction holds (R76). -/
def State.ctxHeld (s : State) (slot : Nat) (g : SegImg) : Bool :=
  g.ctxs.any (fun c => ((s.rt slot).ctx.get c {}).owner == 2)

/-- A checked segment enters the idle bank: its contexts are allocated, or the load waits for them (R76, R80). -/
def State.bankSeg (s : State) (slot : Nat) (c : ChartRun) (g : SegImg) : State :=
  if s.ctxHeld slot g then s.setCh slot (some { c with loading := none, waitSeg := some g })
  else
    let s := s.modRt slot (fun r => { r with
      idle := some g
      ctx := g.ctxs.foldl (fun m k => if (m.get k {}).owner = 1 then m else m.put k { owner := 1 }) r.ctx })
    s.setCh slot (some { c with loading := none, waitSeg := none })

/-! ## Consort sums (R264) -/

/-- The region's value and count over the NIs that run a segment of a chart; both restart. Log entry 133, DESIGN CHOICE. -/
def State.consortSpan (s : State) (n chart seg spanBeat : Nat) (final : Bool) : State :=
  let slots := ((List.range 64).map (regionSlot n)).filter (fun t => match s.ch t with | some c => c.chart == chart && c.armed | none => false)
  if slots.isEmpty then s else
    let crc := slots.foldl (fun x t => x ^^^ crc64Out (s.rt t).crc) 0
    let k := (slots.map (fun t => (s.rt t).crcFlits)).sum
    let s := slots.foldl (fun s t => s.modRt t (fun r => { r with crc := crc64Init, crcFlits := 0 })) s
    s.consortOwn ⟨chart, seg, n, final, spanBeat, crc, k % 2 ^ 32⟩

end Sys2Proof.Machine
end

