-- ==== Sys2Proof/Machine/SlotOps.lean ====
section
/-!
DEFINITION. The scheduled plane in motion: what a region does at the start of a local beat (R40, R67, R81, R83, R84, R90, R255,
R264) and in one slot (R42, R61, R68, R69, R72, R75, R77, R78, R88, R89, R193).
-/

namespace Sys2Proof.Machine

/-! ## Positions of entries -/

/-- Slots of segment beat u in which an entry departs (R67). -/
def Entry.depSlots (e : Entry) (u : Nat) : List Nat :=
  (if e.active u then ((e.slots.map (· + e.D)).filter (· < 16)) else []) ++
  (if 0 < u && e.active (u - 1) then ((e.slots.map (· + e.D)).filter (16 ≤ ·)).map (· - 16) else [])

/-- Slots of segment beat u in which an output is booked, with repetitions. -/
def SegImg.outSlots (g : SegImg) (p u : Nat) : List Nat :=
  (g.entries.filter (fun e => e.outs.contains p)).flatMap (fun e => e.depSlots u)

/-- Slots of segment beat u in which an input is claimed, with repetitions. -/
def SegImg.inSlots (g : SegImg) (p u : Nat) : List Nat :=
  (g.entries.filter (fun e => e.claims && e.inPort == p && e.active u)).flatMap Entry.slots

/-- A list holds an element twice. -/
def hasDup (l : List Nat) : Bool := decide (¬ l.Nodup)

/-- Departures through a port in the beats before segment beat u, latest first, at most nine; `prev` lists those before the segment. -/
def SegImg.departed (g : SegImg) (p u : Nat) (prev : List Nat) : List Nat :=
  (((List.range (min 9 u)).map (fun i => (g.outSlots p (u - 1 - i)).length)) ++ prev).take 9

/-- The departures to outer links in the last nine beats, at the end of a segment (R89). -/
def SegImg.tail (g : SegImg) (prev : SMap (List Nat)) : SMap (List Nat) :=
  g.landB.map (fun pb => (pb.1, g.departed pb.1 g.length (prev.get pb.1 [])))

/-- Two bookings of one output or two claims of one input in segment beat u (R68), or more departures to an outer link than R89
allows in the beat or in ten beats, those of the segment before among them. -/
def SegImg.conflict (g : SegImg) (u : Nat) (prev : SMap (List Nat)) : Bool :=
  (List.range 5).any (fun p => hasDup (g.outSlots p u)) || (List.range 6).any (fun p => hasDup (g.inSlots p u)) ||
  g.landB.any (fun pb =>
    decide (4 < (g.outSlots pb.1 u).length) ||
    decide (pb.2 < (g.outSlots pb.1 u).length + (g.departed pb.1 u (prev.get pb.1 [])).sum))

/-- The entries that act in slot v of segment beat u, with the ordinal of the slot (R62). Log entry 180, DESIGN CHOICE. -/
def SegImg.acting (g : SegImg) (u v : Nat) : List (Entry × Nat) :=
  g.entries.filterMap (fun e => if e.active u then (e.slots.findIdx? (· == v)).map (fun k => (e, k)) else none)

/-- The entry shares an input or an output with another at this position (R68). -/
def SegImg.clashes (g : SegImg) (u v : Nat) (e : Entry) : Bool :=
  (e.claims && decide (1 < (g.inSlots e.inPort u).count v)) ||
  e.outs.any (fun p => if v + e.D < 16 then decide (1 < (g.outSlots p u).count (v + e.D))
    else decide (1 < (g.outSlots p (u + 1)).count (v + e.D - 16)))

/-- Chart beat of a local beat (R59, R260). -/
def ChartRun.beat (c : ChartRun) (t : Nat) : Nat := c.cb + (t - c.lstart)

/-! ## Departures -/

/-- Put a flit among those on their way. -/
def State.addSched (s : State) (f : SFlit) : State := { s with sched := s.sched ++ [f] }

/-- A presence flit of the load port (R409). -/
def State.presence (s : State) (slot k : Nat) : Nat :=
  let total := (s.fw.get slot {}).total
  ofBytes ((List.range 256).map (fun c =>
    let m := 256 * k + c
    b2n (total ≤ m || bit (s.fld NI_FW_MAP_MAP slot (m / 32)) (m % 32))))

/-- A flit departs through L to an eject stream (R61, R72): handed to the NI, or to the load port (R408). Log entry 134, DESIGN CHOICE. -/
def State.ejectFlit (s : State) (slot stream data : Nat) : State :=
  match s.ch slot, (s.rt slot).cur with
  | some c, some g =>
    if stream = 15 ∧ s.fld NI_FWLOAD_CFG_ENABLE slot = 1 then
      let w := s.fw.get slot {}
      { s with fw := s.fw.put slot { w with flits := w.flits ++ [data] } }
    else
      match g.streams[stream]? with
      | none => s
      | some r =>
        let i := (s.rt slot).ptr.get stream 0
        if r.flits ≤ i then s.chartCause slot NI_CHART_STATUS_STREAM_OVERRUN stABORTED
        else
          let ofs := s.streamBase slot c.system r + 256 * i
          s.modRt slot (fun q => { q with
            ptr := q.ptr.put stream (i + 1)
            ejecting := q.ejecting ++ [⟨stream, ofs, data, g.seg,
              (r.signalEvery != 0 && (i + 1) % r.signalEvery == 0) || i + 1 == r.flits⟩]
            crc := crc64Reg q.crc (toBytes 256 data)
            crcFlits := q.crcFlits + 1 })
  | _, _ => s

/-- A booked flit is discarded (R344, R425): a BOOKING event, an entry of the logbook with the attach point above bits 23:0 of CHART,
and SEG_ABORT with ABORTED. Log entry 157, DEDUCED. -/
def State.bookLost (s : State) (slot n a chart seg : Nat) : State :=
  ((s.unitEvent .mp n 3 0).log .mp n 0x24 15 0 (a <<< 24 + chart % 2 ^ 24)).segFail slot seg stABORTED

/-- A booked departure enters an attach queue (R88, R342), or matches no entry (R344). -/
def State.bookDepart (s : State) (slot n a data : Nat) : State :=
  match s.ch slot, (s.rt slot).cur with
  | some c, some g =>
    let key := 2 * a
    let k := (s.mpt n).bookUsed.get key 0
    match s.booking n a 0 c.chart g.seg with
    | some b =>
      if k < s.fld MP_BOOK_CFG_FLITS n b then
        s.modMp n (fun m => { m with
          bookUsed := m.bookUsed.put key (k + 1)
          bookSpan := if k = 0 then m.bookSpan.put a (s.bookFlit n b g.seg 0, 256 * s.fld MP_BOOK_CFG_FLITS n b) else m.bookSpan
          ready := m.ready ++ [⟨0, .bookWrite, a, s.bookFlit n b g.seg k, 256, toBytes 256 data, none, slot,
            c.chart, g.seg, false⟩] })
      else s.bookLost slot n a c.chart g.seg
    | none => s.bookLost slot n a c.chart g.seg
  | _, _ => s

/-- A flit departs from a router at position (t, v) through an output (R61, R89). Log entry 172, DESIGN CHOICE. -/
def State.depart (s : State) (slot p t v data : Nat) (ue : Bool) (stream : Nat) : State :=
  let s := s.modRg (regionOf slot) (fun r => { r with flits := r.flits + 1 })
  if p = 4 then s.ejectFlit slot stream data
  else match neighbour slot p with
  | some n =>
    if s.portOut slot p then s
    else if regionOf n = regionOf slot then s.addSched ⟨n, farPort p, t + (v + 2) / 16, (v + 2) % 16, data, ue, false, 0⟩
    else s.addSched ⟨n, farPort p, t + 1, v, data, ue, true, 0⟩
  | none =>
    match offDie slot p with
    | some (.ol n) =>
      match s.ch slot, (s.rt slot).cur with
      | some c, some g =>
        let k := ((g.outSlots p (t - (s.rt slot).start)).filter (· < v)).length
        let tag := (c.beat t + min 127 (s.fld OL_LAND_CFG_DELAY n)) % 256
        s.modOl n (fun l => { l with txS := l.txS ++ [(tag, k, data, ue)] })
      | _, _ => s
    | some (.mp n a) => s.bookDepart slot n a data
    | _ => s

/-- A flit is driven onto the row bus at (t, v) (R77). -/
def State.busDrive (s : State) (slot t v data : Nat) (ue : Bool) (e : Entry) : State :=
  (e.busRegions (slot % 48 / 8)).foldl (fun s x =>
    let q := 16 * (t + x.2) + v + 4
    s.addSched ⟨6 * (slot / 48) + x.1, 5, q / 16, q % 16, data, ue, x.2 != 0, slot⟩) s

/-! ## Combining in charts (R75, R181, R193) -/

/-- An integer has saturated in a chart's context (R184): the flag, the status and the report. -/
def State.chartSat (s : State) (slot : Nat) (sat : Bool) : State :=
  if sat then
    ((s.modRt slot (fun r => { r with sat := true })).setFld RT_RED_STATUS_SATURATED 1 slot).report .red slot 4 0
  else s

/-- The bytes of a result as flits of 256 bytes, zero beyond its end (R193). -/
def resultFlits (d : List Nat) : List Nat :=
  (List.range (max 1 (cdiv d.length 256))).map (fun i => ofBytes (slice d (256 * i) 256))

/-- A result waits to depart at position q (R67), or departs at the position `now` that has come: all its flits at L, one on each mesh output.
Log entry 94, DEDUCED. -/
def State.pendResult (s : State) (slot now q : Nat) (e : Entry) (fl : List Nat) (ue : Bool) : State :=
  e.outs.foldl (fun s p =>
    (if p = 4 then fl else fl.take 1).foldl (fun s d =>
      if q ≤ now then s.depart slot p (now / 16) (now % 16) d ue e.stream
      else s.addSched ⟨slot, 8 + p, q / 16, q % 16, d, ue, false, e.stream⟩) s) s

/-- Formats of a departing result (R193). -/
def Entry.resultFmt (e : Entry) (b : RBind) : Nat := if e.outMask = 16 then b.outF else b.inF

/-- One combine step on a context with a whole list or flit (R75), at position `now`. `q` lists the departure positions of its flits. -/
def State.combineOn (s : State) (slot now ck : Nat) (e : Entry) (b : RBind) (vals : Option (List Int)) (q : List Nat) (ue : Bool) :
    State :=
  let r := s.rt slot
  let x := r.ctx.get ck {}
  let put := fun (s : State) (y : RCtx) => s.modRt slot (fun r => { r with ctx := r.ctx.put ck y })
  let conflict := s.chartCause slot NI_CHART_STATUS_CHART_CONFLICT stABORTED
  let emit := fun (s : State) (acc : List Int) =>
    let n := acc.length / q.length
    let s := if e.outMask = 0 then s else (List.range q.length).foldl (fun s i =>
      let part := encodeAcc b.op (e.resultFmt b) (Sys2Proof.Machine.slice acc (n * i) n)
      (s.pendResult slot now (q.getD i 0) e (resultFlits part.1) ue).chartSat slot part.2) s
    put s { x with full := false, acc := [], lead := none }
  match e.cstep, vals with
  | 0, some v => if x.full then conflict else put s { x with full := true, acc := redLoad b.op b.k v }
  | 1, some v =>
    if x.full then
      let c := redCombine b.op b.inF b.k r.strict x.acc v
      (put s { x with acc := c.1 }).chartSat slot c.2
    else conflict
  | 2, some v =>
    if x.full then
      let c := redCombine b.op b.inF b.k r.strict x.acc v
      emit (s.chartSat slot c.2) c.1
    else conflict
  | 3, _ => if x.full then emit s x.acc else conflict
  | _, _ => s

/-- COMBINE at position (t, v) with the flit that arrived, none for a FLUSH. The pair of contexts of a TOPK list with K above 32
acts on its second flit, which comes in the next slot ordinal of the same entry (R181). Log entry 94, DEDUCED. -/
def State.combine (s : State) (slot t v : Nat) (e : Entry) (k : Nat) (data : Option Nat) (ue : Bool) : State :=
  let ck := e.rctx + k
  let num := match (s.rt slot).cur with
    | some g => (g.entries.findIdx? (fun x => decide (x = e))).getD 0
    | none => 0
  match ((s.rt slot).binds.find? (fun b => b.1 == ck)).map (fun b => b.2) with
  | none => s
  | some b =>
    let q := 16 * t + v + 4
    let vals := data.map (fun d => decodeFlit b.op b.inF (toBytes 256 d))
    if b.op = 4 ∧ 32 < b.k then
      if b.tail then
        let x := (s.rt slot).ctx.get (ck - 1) {}
        match vals, (if x.leadEntry = num then x.lead else none) with
        | some w, some l =>
          s.modRt slot (fun r => { r with ctx := r.ctx.put (ck - 1) { x with lead := none } }) |>.combineOn slot (16 * t + v) (ck - 1) e b
            (some (l ++ w)) [max (16 * t + x.leadSlot + 4) (16 * t + v), q] ue
        | none, some _ => s.modRt slot (fun r => { r with ctx := r.ctx.put (ck - 1) { x with lead := none } }) |>.combineOn slot
            (16 * t + v) (ck - 1) e b none [max (16 * t + x.leadSlot + 4) (16 * t + v), q] ue
        | _, none => s.chartCause slot NI_CHART_STATUS_CHART_CONFLICT stABORTED
      else if ((s.rt slot).ctx.get ck {}).lead.isSome then s.chartCause slot NI_CHART_STATUS_CHART_CONFLICT stABORTED
      else
        s.modRt slot (fun r => { r with
          ctx := r.ctx.put ck { r.ctx.get ck {} with lead := some (vals.getD []), leadSlot := v, leadEntry := num } })
    else s.combineOn slot (16 * t + v) ck e b vals [q] ue

/-! ## Inputs -/

/-- What a booked input finds at a memory port (R343, R344): the next flit in address order, one that is still to come, or nothing, since
no valid entry names any more. -/
inductive BookIn where
  | flit (f : RdFlit)
  | wait
  | lost
  deriving DecidableEq, Repr

/-- The flit with the lowest address. -/
def lowestFlit (l : List RdFlit) : Option RdFlit :=
  l.foldl (fun b f => match b with
    | none => some f
    | some g => if f.addr < g.addr then some f else some g) none

/-- The booked input of a segment at an attach point. Flits read ahead are kept where the entry has lost VALID (R349). -/
def State.bookedIn (s : State) (n a chart seg : Nat) : BookIn :=
  let m := s.mpt n
  let out := (m.cur.toList ++ m.suspended.toList ++ m.issued).filter (fun t =>
    decide (t.kind = .bookRead) && t.req == a && t.chart == chart && t.seg == seg)
  match lowestFlit (m.rdBuf.filter (fun e => e.attach == a && e.chart == chart && e.seg == seg)) with
  | some f => if out.any (fun t => decide (t.addr < f.addr)) then .wait else .flit f
  | none =>
    if out ≠ [] then .wait
    else match s.booking n a 1 chart seg with
      | none => .lost
      | some b => if s.fld MP_BOOK_CFG_FLITS n b ≤ m.prefetched.get (preKey chart seg a) 0 then .lost else .wait

/-- Whether the input of a claim is there: present, absent (the region stalls), or not stallable (R42, R69, R73, R91). R69 speaks of no claim of
a row bus that carries no flit; it stalls the region. Log entry 159, DESIGN CHOICE; log entry 172, DESIGN CHOICE. -/
def State.inputReady (s : State) (slot t v : Nat) (e : Entry) : Bool :=
  let r := s.rt slot
  match r.cur, s.ch slot with
  | some g, some c =>
    if e.inPort = 4 then
      match g.streams[e.stream]? with
      | none => true
      | some x =>
        let i := r.ptr.get e.stream 0
        !(x.waitReady && decide (i < x.flits) && decide (r.ready.get e.stream 0 ≤ i))
    else if e.inPort = 5 then
      s.sched.any (fun f => f.port == 5 && f.slot == 6 * (slot / 48) + slot % 48 / 8 && f.t == t && f.v == v)
    else match neighbour slot e.inPort with
    | some n =>
      regionOf n == regionOf slot || s.sched.any (fun f => f.slot == slot && f.port == e.inPort && f.t == t && f.v == v)
    | none =>
      match offDie slot e.inPort with
      | some (.ol n) =>
        let k := ((g.inSlots e.inPort (t - r.start)).filter (· < v)).length
        match (s.olk n).landing.find? (fun x => x.1 == 4 * (c.beat t % 128) + k) with
        | some x => x.2.1 == c.beat t % 256
        | none => false
      | some (.mp n a) => s.bookedIn n a c.chart g.seg != .wait
      | _ => false
  | _, _ => true

/-- Room for a departure through an output (R42, R43, R88, R89). Log entry 9, DESIGN CHOICE; log entry 10, DESIGN CHOICE. -/
def State.outputRoom (s : State) (slot p : Nat) : Bool :=
  if p = 4 then decide ((s.rt slot).ejecting.length < 64)
  else match neighbour slot p with
  | some n =>
    regionOf n == regionOf slot || s.portOut slot p ||
      decide ((s.sched.filter (fun f => f.slot == n && f.port == farPort p && f.crossing)).length < 64)
  | none =>
    match offDie slot p with
    | some (.ol n) => decide ((s.olk n).txS.length < max 1 Config.linkQueue)
    | some (.mp n a) =>
      decide (((s.mpt n).ready.filter (fun t => t.req == a && decide (t.kind = .bookWrite))).length < max 1 Config.attachQueue)
    | _ => true

/-- Entries of a router that act at (t, v). While its abort waits for the next local beat, an entry that would stall is passed over, since
an abort ends a stall (R42, R84). -/
def State.actingAt (s : State) (slot t v : Nat) : List (Entry × Nat) :=
  match (s.rt slot).cur, s.ch slot with
  | some g, some c =>
    if decide (t < (s.rt slot).start) || decide ((s.rt slot).start + g.length ≤ t) || !(s.routerUp slot) then []
    else (g.acting (t - (s.rt slot).start) v).filter (fun x => !(g.clashes (t - (s.rt slot).start) v x.1) &&
      (c.abortPend.isNone || ((!x.1.claims || s.inputReady slot t v x.1) &&
        (x.1.D != 0 || x.1.outs.all (fun p => s.outputRoom slot p)))))
  | _, _ => []

/-- Results of a router that depart at (t, v). -/
def State.pendAt (s : State) (slot t v : Nat) : List SFlit :=
  s.sched.filter (fun f => f.slot == slot && decide (8 ≤ f.port) && f.t == t && f.v == v)

/-- A router waits at slot 0 for a segment that is not loaded (R60, R81), also where the next load has been refused and the abort is still to
come. -/
def State.segMissing (s : State) (slot t v : Nat) : Bool :=
  v == 0 && (s.rt slot).cur.isNone &&
  (match s.ch slot with
   | some c => !(s.chartOver slot) && c.abortPend.isNone && c.nextStart == t
   | none => false)

/-- Inputs of a router that are absent at (t, v). -/
def State.absentIn (s : State) (slot t v : Nat) : List Entry :=
  ((s.actingAt slot t v).filter (fun x => x.1.claims && !(s.inputReady slot t v x.1))).map (fun x => x.1)

/-- A router stalls its region at (t, v) (R42). -/
def State.stalls (s : State) (slot t v : Nat) : Bool :=
  s.routerUp slot &&
  (s.segMissing slot t v || !(s.absentIn slot t v).isEmpty ||
   (s.actingAt slot t v).any (fun x => x.1.D == 0 && x.1.outs.any (fun p => !(s.outputRoom slot p))) ||
   ((match s.ch slot with | some c => c.abortPend.isNone | none => true) &&
    (s.pendAt slot t v).any (fun f => !(s.outputRoom slot (f.port - 8)))))

/-- Whom an absent input waits for, in the encoding of R420 (R427): the tile of the neighbour or of the stream's owner, the chip that
lands data, or the HBM; a row bus names none. Log entry 81, DEDUCED. -/
def State.awaitedIn (s : State) (slot inPort : Nat) : Nat × Nat :=
  if inPort = 4 then (0, s.ltileOf slot slot)
  else if inPort = 5 then (15, 0)
  else match neighbour slot inPort with
    | some n => (0, s.ltileOf slot n)
    | none => match offDie slot inPort with
      | some (.ol n) => (4, s.fld OL_IDENT_RX_R_CHIP n)
      | some (.mp _ _) => (5, 0)
      | _ => (15, 0)

/-- What a stall leaves on record at a router: its wait-table entries (R427), late landings (R91) and stalls on the NI's streams
(R418, R425). Log entry 81, DEDUCED. -/
def State.noteStall (s : State) (slot t v : Nat) : State :=
  (s.absentIn slot t v).foldl (fun s e =>
    let w := s.awaitedIn slot e.inPort
    let s := s.waitTake slot 6 w.1 w.2 (if e.inPort = 4 then e.stream else 0) 0xFFFF 0
    if e.inPort = 4 then
      let s := if (s.rt slot).stallSeen then s
        else (s.addFld NI_STALL_BEATS_CNT 1 slot).modRt slot (fun r => { r with stallSeen := true })
      s.log .ni slot 0x0C 15 0 e.stream
    else match offDie slot e.inPort with
    | some (.ol n) =>
      if (s.olk n).late then s
      else
        let s := (s.modOl n (fun l => { l with late := true })).setFld OL_LAND_STATUS_LATE 1 n
        let cb := match s.ch slot with | some c => c.beat t | none => 0
        ((s.addFld OL_LAND_LATE_CNT_LATE 1 n).log .ol n 0x45 15 0 cb).unitEvent .ol n 5 0
    | _ => s) s

/-- Take the flit that a claim consumes (R61, R69, R72, R88, R90): the flit with its error mark, or none where a mesh input inside
the region holds none or a stream is used up. -/
def State.takeInput (s : State) (slot t v : Nat) (e : Entry) (ue : List Nat) : Option (Nat × Bool) × State :=
  let r := s.rt slot
  match r.cur, s.ch slot with
  | some g, some c =>
    if e.inPort = 4 then
      match g.streams[e.stream]? with
      | none => (none, s)
      | some x =>
        let i := r.ptr.get e.stream 0
        if x.flits ≤ i then (none, s.chartCause slot NI_CHART_STATUS_STREAM_OVERRUN stABORTED)
        else
          let d := if e.stream = 15 ∧ s.fld NI_FWLOAD_CFG_ENABLE slot = 1 ∧ c.system = true then s.presence slot i
            else ofBytes (s.spadRead slot (s.streamBase slot c.system x + 256 * i) 256)
          (some (d, false), (s.modRt slot (fun q => { q with ptr := q.ptr.put e.stream (i + 1) })).addPair NI_SCHED_TX_LO
            NI_SCHED_TX_HI 256 slot)
    else if e.inPort = 5 then
      match s.sched.filter (fun f => f.port == 5 && f.slot == 6 * (slot / 48) + slot % 48 / 8 && f.t == t && f.v == v) with
      | [f] => (some (f.data, f.ue || ue.contains (8 * slot + 5)), s)
      | _ => (none, s)
    else match neighbour slot e.inPort with
    | some _ =>
      match s.sched.find? (fun f => f.slot == slot && f.port == e.inPort && f.t == t && f.v == v) with
      | some f => (some (f.data, f.ue || ue.contains (8 * slot + e.inPort)), s)
      | none => (none, s.chartCause slot NI_CHART_STATUS_CHART_MISMATCH stABORTED)
    | none =>
      match offDie slot e.inPort with
      | some (.ol n) =>
        let k := 4 * (c.beat t % 128) + ((g.inSlots e.inPort (t - r.start)).filter (· < v)).length
        match (s.olk n).landing.find? (fun x => x.1 == k) with
        | some x => (some (x.2.2.1, x.2.2.2 || ue.contains (8 * slot + e.inPort)),
            s.modOl n (fun l => { l with landing := SMap.del l.landing k }))
        | none => (none, s)
      | some (.mp n a) =>
        match s.bookedIn n a c.chart g.seg with
        | .flit f => (some (f.data, f.ue || ue.contains (8 * slot + e.inPort)),
            s.modMp n (fun m => { m with rdBuf := delFirst (fun x => decide (x = f)) m.rdBuf }))
        | .lost => (none, s.bookLost slot n a c.chart g.seg)
        | .wait => (none, s)
      | _ => (none, s)
  | _, _ => (none, s)

/-- One entry acts at (t, v) (R61, R63, R75). -/
def State.actEntry (s : State) (slot t v : Nat) (ue : List Nat) (x : Entry × Nat) : State :=
  let e := x.1
  if e.action = 4 ∧ e.cstep = 3 then s.combine slot t v e x.2 none false
  else
    let i := s.takeInput slot t v e ue
    match i.1 with
    | none => i.2
    | some (d, bad) =>
      let s := i.2
      let s := if bad then
          let s := s.unitEvent .ni slot 1 (3 <<< 15 + e.inPort <<< 12)
          s.segFail slot (s.segNow slot) stDATA_ERROR
        else s
      if e.action = 4 then s.combine slot t v e x.2 (some d) bad
      else
        let s := if e.action = 5 then s.busDrive slot t v d bad e else s
        e.outs.foldl (fun s p => s.depart slot p t v d bad e.stream) s

/-- Scheduled flits that arrive at positions that no entry claims (R69): discarded, with CHART_MISMATCH where a segment runs. One from a
region that lags may come after its position. -/
def State.strayFlits (s : State) (slot t v : Nat) : State :=
  match (s.rt slot).cur with
  | none => s
  | some g =>
    let start := (s.rt slot).start
    if s.sched.any (fun f => f.slot == slot && decide (f.port < 4) && decide (16 * f.t + f.v ≤ 16 * t + v) &&
        (decide (f.t < start) || !((g.inSlots f.port (f.t - start)).contains f.v))) then
      s.chartCause slot NI_CHART_STATUS_CHART_MISMATCH stABORTED
    else s

/-- Two flits in one section and position (R78): both are discarded, and the segments of the routers that drove them abort.
Log entry 141, DEDUCED. -/
def State.busConflict (s : State) (n t v row : Nat) : State :=
  let key := 6 * (8 * (n / 6) + row) + n % 6
  let met := s.sched.filter (fun f => f.port == 5 && f.slot == key && f.t == t && f.v == v)
  if 1 < met.length then
    let s := if s.fld RG_BUS_STATUS_BUS_CONFLICT n = 1 then s
      else ((s.setFld RG_BUS_STATUS_BUS_CONFLICT 1 n).setFld RG_BUS_STATUS_ROW row n).setFld RG_BUS_STATUS_SLOT v n
    let s := s.unitEvent .rg n 5 0
    let s := (met.map (fun f => f.stream)).dedup.foldl (fun s d => s.segFail d (s.segNow d) stABORTED) s
    { s with sched := s.sched.filter (fun f => !(f.port == 5 && f.slot == key && f.t == t && f.v == v)) }
  else s

/-- The region of a flit on its way: of its router, or of its bus section. -/
def SFlit.region (f : SFlit) : Nat := if f.port = 5 then 6 * (f.slot / 6 / 8) + f.slot % 6 else regionOf f.slot

/-- The launching NI's region starts a segment: it runs slot 0 of the segment's first beat (R83). Log entry 142, DEDUCED. -/
def State.segStarts (s : State) (n t : Nat) : State :=
  let here := fun (l : Launch) => regionOf l.ni == n && l.segs.any (fun g => g.start == t && g.ts == 0)
  if s.launches.any here then
    { s.stamped n with launches := s.launches.map (fun l =>
      if here l then { l with segs := l.segs.map (fun g =>
        if g.start = t ∧ g.ts = 0 then { g with ts := s.stampOf n, h := s.time.h, digest := s.fbDigest } else g) } else l) }
  else s

/-- Every router of a region acts at (t, v) (R61): results depart, entries act, and what is left at the position is discarded. -/
def State.runSlot (s : State) (n t v : Nat) (ue : List Nat) : State :=
  let s := if v = 0 then s.segStarts n t else s
  let slots := (List.range 64).map (regionSlot n)
  let s := (List.range 8).foldl (fun s row => s.busConflict n t v row) s
  let s := slots.foldl (fun s slot =>
    let s := (s.pendAt slot t v).foldl (fun s f => if s.routerUp slot then s.depart slot (f.port - 8) t v f.data f.ue f.stream else s) s
    let s := s.strayFlits slot t v
    (s.actingAt slot t v).foldl (fun s x => s.actEntry slot t v ue x) s) s
  { s with sched := s.sched.filter (fun f => !(f.region == n && decide (16 * f.t + f.v ≤ 16 * t + v))) }

/-! ## Start of a local beat -/

/-- The loaded bank becomes current when its first beat has come (R81). The first NI of a launch to start the segment makes it known to the
launch, whose start timestamp is taken when the launching NI's region starts it (R83); a segment loaded only in its own first beat has the
gates of its third beat derived here (R67). Log entry 142, DEDUCED. -/
def State.switchIn (s : State) (slot t : Nat) : State :=
  match (s.rt slot).cur, (s.rt slot).idle, s.ch slot with
  | none, some g, some c =>
    if c.sent = true ∨ c.abortPend.isSome = true ∨ t < c.nextStart then s else
      let s := s.modRt slot (fun r => { r with
        cur := some g
        idle := none
        start := t
        bank := 1 - r.bank
        ptr := []
        ready := r.readyNext
        readyNext := []
        sat := false })
      let s := s.setCh slot (some { c with loading := if g.last then none else some g.next, nextOfs := g.next })
      let s := s.log .ni slot 0x07 15 0 (g.seg <<< 16)
      let s := (List.range 4).foldl (fun s p => match offDie slot p with
        | some (.mp n a) => s.modMp n (fun m => { m with bookUsed := m.bookUsed.put (2 * a) 0, bookSpan := m.bookSpan.del a })
        | _ => s) s
      let late := fun (l : Launch) => let q := s.rg (regionOf l.ni); decide (t < q.L) || (q.L == t && decide (0 < q.slot))
      let first := fun (l : Launch) => decide (l.ni = c.launcher ∧ l.chart = c.chart ∧ c.system = false ∧ l.members.contains slot = true) &&
        !(l.segs.any (fun x => x.seg == g.seg))
      let r := regionOf c.launcher
      let s' := { s with launches := s.launches.map (fun l =>
        if first l then { l with segs := l.segs ++
          [(⟨g.seg, t, g.length, g.last, g.notify, if late l then s.stampOf r else 0, s.time.h, s.fbDigest⟩ : SegInfo)] } else l) }
      let s := if s.launches.any (fun l => first l && late l) then { s.stamped r with launches := s'.launches } else s'
      let s := s.modRt slot (fun r => { r with shut := r.shut.filter (fun x => x != t + 2 || decide (g.length ≤ 2)) })
      if (List.range (min 3 g.length)).any (fun u => g.conflict u (s.rt slot).prevDep) then
        s.chartCause slot NI_CHART_STATUS_CHART_CONFLICT stABORTED
      else s
  | _, _, _ => s

/-- Why a write of `len` bytes of a save area would fail (R261): no memory port of this chip serves the address, the port is out of service,
or no grant lets the tenancy write there. Log entry 96, DEDUCED. -/
def State.saveFails (s : State) (ten a len : Nat) : Option Nat :=
  match s.fbMap.decode (adBig a) with
  | none => some stACCESS_DENIED
  | some (port, _) =>
    if (List.range 6).all (fun i => !(s.attachUp (.mp port i))) then some stTARGET_FENCED
    else if covered (s.mpt port).grants ten (adBig a) len (fun c => c == 0) then none
    else some stACCESS_DENIED

/-- Write an NI's member record of a save area (R258), or tell its launch that the write has failed (R261). Log entry 96, DEDUCED;
log entry 133, DESIGN CHOICE. -/
def State.memberRecord (s : State) (slot : Nat) (c : ChartRun) : State :=
  let mine := fun (l : Launch) => l.ni == c.launcher && l.chart == c.chart
  let r := match s.launches.find? mine with
    | some l => (l.members.findIdx? (· == slot)).getD 0
    | none => 0
  match s.saveFails c.ten (c.saveAddr + 256 + 128 * r) 128 with
  | some st => { s with launches := updFirst mine (fun l => { l with saveBad := some (l.saveBad.getD st) }) s.launches }
  | none =>
    let rd := (s.rt slot).readyNext
    let w0 := c.nextOfs <<< 32 + s.ltileOf slot slot <<< 20
    let ws := w0 :: (List.range 8).map (fun k => rd.get (2 * k) 0 % 2 ^ 32 + (rd.get (2 * k + 1) 0 % 2 ^ 32) <<< 32)
    s.hbmPut (adBig c.saveAddr + 256 + 128 * r) ((ws ++ List.replicate 7 0).flatMap (toBytes 8))

/-- A landing tag names chart beat `cb` or a later one (R90, R255). -/
def tagFrom (cb tag : Nat) : Bool := decide ((tag + 256 - cb % 256) % 256 < 128)

/-- At the pause boundary, before segment `next` (R255): the loaded bank is discarded, the member record written, later waits end, and
landing flits of chart beats from `cb` on are discarded, now and as they come. -/
def State.pauseHere (s : State) (slot : Nat) (c : ChartRun) (next cb : Nat) : State :=
  let s := (s.memberRecord slot c).dropAhead slot c
  let s := s.modRt slot (fun r => { (r.releaseCtx []) with idle := none, readyNext := [], ended := r.ended.map (fun e => (e.1, e.2.1, true)), prevDep := [] })
  let s := s.setCh slot (some { c with loading := none, waitSeg := none, sent := true, pauseAt := none })
  let s := (s.endChartWaits slot c.chart next stABORTED).endReadyWaits slot c.chart next stABORTED
  (List.range 4).foldl (fun s p => match offDie slot p with
    | some (.ol n) =>
      if s.fld OL_LAND_CFG_ENABLE n = 1 then
        let gone := ((s.olk n).rxS.filter (fun x => tagFrom cb x.1)).length
        let s := s.modOl n (fun l => { l with
          dropFrom := some cb
          landing := l.landing.filter (fun x => !(tagFrom cb x.2.1))
          rxS := l.rxS.filter (fun x => !(tagFrom cb x.1)) })
        (List.range gone).foldl (fun s _ => s.item n 0x03 1) s
      else s
    | _ => s) s

/-- The current segment of a router is over (R75, R83). One that leaves a full context stays current until its abort takes effect. -/
def State.segEnd (s : State) (slot t : Nat) : State :=
  match (s.rt slot).cur, s.ch slot with
  | some g, some c =>
    let r := s.rt slot
    if t < r.start + g.length then s
    else if g.ctxs.any (fun k => (r.ctx.get k {}).full) then
      s.chartCause slot NI_CHART_STATUS_CHART_CONFLICT stABORTED
    else
      let st := firstStatus ([c.status] ++ if r.sat then [stREDUCE_OVERFLOW] else [])
      let keep := match r.idle with | some h => h.ctxs | none => []
      let s := s.setRt slot { (r.releaseCtx keep) with
        cur := none
        sat := false
        prevDep := g.tail r.prevDep
        ended := some (c.chart, g.seg, g.last) }
      let s := (s.dropBooked slot c.chart g.seg false).log .ni slot 0x08 15 0 (g.seg <<< 16 + st)
      let c' := { c with donePend := c.donePend ++ [(g.seg, st)], nextStart := r.start + g.length, sent := c.sent || g.last }
      let s := s.setCh slot (some c')
      let s := s.endChartWaits slot c.chart 65536 stABORTED
      if c.pauseAt = some (g.seg + 1) then s.pauseHere slot c' (g.seg + 1) (c.beat (r.start + g.length)) else s
  | _, _ => s

/-- Landing lines of the chart beat that has ended are released (R90). -/
def State.releaseLine (s : State) (slot t : Nat) : State :=
  match s.ch slot with
  | none => s
  | some c =>
    (List.range 4).foldl (fun s p => match offDie slot p with
      | some (.ol n) =>
        let s := s.modOl n (fun l => { l with late := false })
        if t ≤ c.lstart then s else
          let u := c.beat (t - 1)
          let dead := fun (x : Nat × Nat × Nat × Bool) => decide (x.1 / 4 = u % 128 ∧ x.2.1 = u % 256)
          if (s.olk n).landing.any dead then
            let s := s.modOl n (fun l => { l with landing := l.landing.filter (fun x => !(dead x)) })
            ((s.setFld OL_LAND_STATUS_LAND_MISMATCH 1 n).unitEvent .ol n 5 0).segFail slot (s.segNow slot) stABORTED
          else s
      | _ => s) s

/-- The legacy funnel of an NI copies up to 16 granules, while both pairs are enabled (R167, R362). Log entry 149, DESIGN CHOICE. -/
def State.funnel (s : State) (slot : Nat) : State :=
  let a := s.apt slot
  let land := s.fld NI_AP_CFG_PAIR_LAND slot
  let tgt := s.fld NI_AP_CFG_PAIR_TGT slot
  if a.landing.isEmpty || !(s.niUp slot) || s.fld NI_PAIR_BASE_ENABLE slot land == 0 || s.fld NI_PAIR_BASE_ENABLE slot tgt == 0 then s else
    let from_ := (s.pairRange slot land).1
    let to_ := (s.pairRange slot tgt).1
    let s := s.setAp slot { a with landing := a.landing.drop 16 }
    (a.landing.take 16).foldl (fun s g => s.spadWrite slot (to_ + g.1) (s.spadRead slot (from_ + 32 * g.2) 32)) s

/-- A lead flit of a TOPK pair has no tail at the end of its beat (R181). -/
def State.leadLeft (s : State) (slot : Nat) : State :=
  if (s.rt slot).ctx.any (fun x => x.2.lead.isSome && x.2.owner == 1) then
    (s.chartCause slot NI_CHART_STATUS_CHART_CONFLICT stABORTED).modRt slot (fun r => { r with
      ctx := r.ctx.map (fun x => if x.2.owner = 1 then (x.1, { x.2 with lead := none }) else x) })
  else s

/-- The gates of beat t + 2 are derived during beat t (R67, R68): double bookings are found, and a beat whose segment is not loaded keeps
gates of all ones. -/
def State.gateCheck (s : State) (slot t : Nat) : State :=
  let r := s.rt slot
  let live := r.shut.filter (fun x => decide (t ≤ x))
  let s := if r.shut.isEmpty then s else s.modRt slot (fun r => { r with shut := live })
  match s.planAt slot (t + 2) with
  | .seg g u =>
    let prev := match r.cur with
      | some c => if c.seg = g.seg then r.prevDep else c.tail r.prevDep
      | none => r.prevDep
    if g.conflict u prev then s.chartCause slot NI_CHART_STATUS_CHART_CONFLICT stABORTED else s
  | .unknown => s.modRt slot (fun r => { r with shut := live ++ [t + 2] })
  | .free => s

/-- Segment errors that wait for a router's next local beat: a load of C (R470), a fenced port (R285), a lost bundle (R334). -/
def State.beatFails (s : State) (slot : Nat) (load : Bool) : State :=
  let r := s.rt slot
  let s := if load then s.segFail slot (s.segNow slot) stABORTED else s
  let s := if r.fencedSeg then s.segFence slot (s.segNow slot) else s
  let s := if r.lostSeg then s.segFail slot (s.segNow slot) stLINK_LOST else s
  s.modRt slot (fun r => { r with fencedSeg := false, lostSeg := false, stallSeen := false })

/-- Idle flits of REQ, RSP and SNP fill the idle cycles of every link, and are checked as FLIT_CE and FLIT_UE (R289). An armed injection meets
one of them in each beat, on the REQ network of the router's first mesh input in service. Log entry 167, DESIGN CHOICE. -/
def State.idleCheck (s : State) (slot : Nat) : State :=
  if s.fld (xx_ERR_INJECT_ARM .ni) slot = 0 then s
  else match (List.range 4).find? (fun p => (neighbour slot p).isSome && !(s.portOut slot p)) with
    | some p => s.injEvent .ni slot (p <<< 12) [0, 1]
    | none => s

/-- The open DAT packets of a router that no open run of beat t can hold have waited one beat more for want of one (R97). -/
def State.ageBeat (s : State) (slot t : Nat) : State :=
  let short := fun (h : Held) => decide (h.pkt.net = .dat) && decide (h.out < 6) &&
    (List.range 16).all (fun v => decide (openRun (s.booked slot h.out) t v < nflits h.pkt))
  if (s.rt slot).held.any short then
    s.modRt slot (fun r => { r with held := r.held.map (fun h => if short h then { h with waited := h.waited + 1 } else h) })
  else s

/-- What a router and its NI do at the start of local beat t. -/
def State.beatRouter (s : State) (slot t : Nat) (load : Bool) : State :=
  let s := s.idleCheck slot
  let s := match s.ch slot with
    | some c => match c.abortPend with
      | some st => s.applyAbort slot st
      | none => s
    | none => s
  let s := s.releaseLine slot t
  let s := ((s.beatFails slot load).leadLeft slot).segEnd slot t
  let s := ((s.switchIn slot t).gateCheck slot t).ageBeat slot t
  let s := ((s.flowBeat slot).funnel slot).pumpReads slot
  if s.niUp slot then s.pumpRings slot else s

/-- Consort spans that end with the beat before t (R264). -/
def State.consortBeat (s : State) (n t : Nat) : State :=
    let span := s.fld FB_CONSORT_CFG_SPAN
    let runs := ((List.range 64).filterMap (fun k =>
      let slot := regionSlot n k
      match s.ch slot, (s.rt slot).cur with
      | some c, some g => if c.armed then some (c.chart, g.seg, (s.rt slot).start, g.length) else none
      | _, _ => none)).dedup
    runs.foldl (fun s x =>
      let u := t - x.2.2.1
      if u = 0 ∨ x.2.2.2 < u then s
      else
        let first := if span = 0 then 0 else (u - 1) / span * span
        if u = x.2.2.2 then s.consortSpan n x.1 x.2.1 first true
        else if span ≠ 0 ∧ u % span = 0 then s.consortSpan n x.1 x.2.1 first false
        else s) s

/-- What serves an address of this chip, in the encoding of R420: a tile, or the HBM. -/
def awaitedAt (a : Nat) : Nat × Nat := if adSpace a = 0 then (0, adTile a) else (5, 0)

/-- Whom an open answer waits for, in the encoding of R420 (R427). Log entry 81, DEDUCED. -/
def State.awaitedOf (s : State) (o : OTx) : Nat × Nat :=
  if o.chip ≠ s.chipId then (4, o.chip)
  else match o.use with
    | .read =>
      match s.xfer? o.xfer with
      | some x => if x.srcHost then (3, 0) else awaitedAt ((x.chunks[o.arg]?.map Chunk.src).getD 0)
      | none => (15, 0)
    | .credit | .write =>
      match s.xfer? o.xfer with
      | some x =>
        match x.group with
        | some g => (1, g)
        | none => if x.dstHost then (3, 0) else awaitedAt ((x.chunks.head?.map Chunk.dst).getD 0)
      | none => (15, 0)
    | .atomic =>
      match s.desc? o.desc with
      | some d => if d.srcHost then (3, 0) else awaitedAt (d.w 2)
      | none => (15, 0)
    | .winOp =>
      match s.desc? o.desc with
      | some d => awaitedAt (d.w 2)
      | none => (15, 0)
    | .aperture =>
      match (s.apt o.src).out.find? (fun e => e.2.1 == o.txn) with
      | some e => (0, s.ltileOf o.src e.1)
      | none => (15, 0)
    | .sigRead | .record | .descFetch | .headWr | .cplWr | .provWr => (3, 0)
    | .hash | .trace | .reg => (15, 0)

/-- The wait tables of a region's NIs take up the answers that have been open for more than 100 µs, 10,000 beats (R427).
Log entry 24, DESIGN CHOICE; log entry 81, DEDUCED. -/
def State.noteOpen (s : State) (n : Nat) : State :=
  let now := s.accC n
  (s.otx.filter (fun o => decide (o.src < 2304) && regionOf o.src == n && !o.noted && o.use != .trace &&
      decide (o.since + 10000 < now))).foldl (fun s o =>
    let w := s.awaitedOf o
    let lay := match s.desc? o.desc with
      | some d => d.layer
      | none => 0xFFFF
    let s := s.waitTakeAt o.src 7 w.1 w.2 o.txn lay (s.txTag o) o.since
    { s with otx := updFirst (fun x => x.src == o.src && x.txn == o.txn) (fun x => { x with noted := true }) s.otx }) s

/-- A region starts its next local beat (R40). -/
def State.beatStart (s : State) (n : Nat) : State :=
  let r := s.rg n
  let t := r.L + 1
  let s := (s.noteOpen n).consortBeat n t
  let s := s.setRg n { r with L := t, slot := 0, loadPend := false }
  ((List.range 64).map (regionSlot n)).foldl (fun s slot =>
    if s.routerUp slot then s.beatRouter slot t r.loadPend else s) s

end Sys2Proof.Machine
end

