-- ==== Sys2Proof/Machine/RegOps.lean ====
section
/-!
DEFINITION. How registers are served (R460 to R464): which unit answers an offset, and the answer to a register packet that a
write carries out.
-/

namespace Sys2Proof.Machine

/-- The unit that holds an offset answers register packets (R463, R464): not a slot at F2, nor a router or NI of a region at F3,
without power, frozen or without a clock, nor a region controller without power. Log entry 28, DEDUCED. -/
def State.regAlive (s : State) (off : Nat) : Bool :=
  match blockOf off with
  | some (.rt, i) | some (.ni, i) => s.routerUp i && !(s.rg (regionOf i)).frozen && !(s.rg (regionOf i)).absent
  | some (.rg, i) => s.powered i
  | some _ => true
  | none => false

/-- The privileged NI settings that Stolrel mirrors (R294): handle table, base/bound pairs, flows, tile queues, NI_CHART_CTRL and NI_AP_CFG.
Log entry 163, DESIGN CHOICE. -/
def mirrored : List RegDef :=
  [NI_HDL_CFG, NI_HDL_RANGE, NI_HDL_HOME, NI_PAIR_BASE, NI_PAIR_BOUND, NI_FLOW_CFG, NI_FLOW_RATE, NI_FLOW_OVH, NI_TQn_CFG, NI_TQn_BASE,
   NI_CHART_CTRL, NI_AP_CFG]

/-- Stolrel keeps what it writes to a mirrored setting (R294). Log entry 163, DESIGN CHOICE. -/
def State.mirrorWrite (s : State) (off v : Nat) : State :=
  match locate off with
  | some (r, _, _) => if mirrored.contains r then s.modBn (fun b => { b with mirror := b.mirror.put off v }) else s
  | none => s

/-- A write that travelled as a register packet is answered at its issuer (R462). One that answers no host's packet is Stolrel's.
Log entry 26, DESIGN CHOICE; log entry 163, DESIGN CHOICE. -/
def State.serveWrite (s : State) (off v : Nat) : State :=
  match s.net.find? (fun f => decide (f.pkt.kind = opREG_WR) && f.pkt.arg 1 == off && f.pkt.arg 2 == v) with
  | none => s.mirrorWrite off v
  | some f =>
    let s := (s.takeNet f.place f.pkt).answer f.pkt (regLoc off) opREG_ANS [0, 0]
    if f.pkt.src.port = 5 then s.mirrorWrite off v else s

/-- A write of value v reaches the register at an offset: the unit acts on it and answers. Log entry 26, DESIGN CHOICE. -/
def State.regWrite (s : State) (off v : Nat) (f : State → State) : State :=
  if s.regAlive off then f (s.serveWrite off v) else s

/-- Every logbook freezes (R426). -/
def State.freezeAll (s : State) : State :=
  let s := (List.range 2304).foldl (fun s i => s.freezeLog .ni i) s
  let s := (List.range 16).foldl (fun s i => s.freezeLog .mp i) s
  let s := (List.range 32).foldl (fun s i => s.freezeLog .ol i) s
  (List.range 2).foldl (fun s i => s.freezeLog .hp i) s

/-- SOURCES of an anchor stop (R430): bits 3:0 pin, host, Binnacle, trigger. -/
def State.anchorSources (s : State) : Nat := bits (s.rd FB_ANCHOR_STATUS) 29 26

/-- STOPPED is set once every region is frozen (R430): b and the time are recorded, the trace port writes its ANCHOR
record, and logbooks freeze. -/
def State.stopDone (s : State) : State :=
  if s.fld FB_ANCHOR_STATUS_STOPPED = 1 ∨ s.chr.stopSeen = 0 then s
  else if (List.range 36).all (fun n => (s.rg n).frozen) then
    let s := s.setFld FB_ANCHOR_STATUS_STOPPED 1
    let s := s.setPair FB_ANCHOR_BEAT_LO FB_ANCHOR_BEAT_HI s.chr.stopBeat
    let w1 := s.extOf 63 <<< 56 + 0x1F <<< 51 + 0xFFF <<< 32
    let w2 := 15 <<< 28 + s.anchorSources
    let s := { s with tp := { s.tp with fifo := s.tp.fifo ++ [[s.stampOf 63, w1, w2, s.chr.stopBeat % 2 ^ 32]] } }.stamped 63
    s.freezeAll
  else s

/-- A region that has completed local beat b + 2 freezes (R430). -/
def State.freezeCheck (s : State) (n : Nat) : State :=
  let r := s.rg n
  if s.chr.stopSeen ≠ 0 ∧ r.frozen = false ∧ 16 ≤ r.slot ∧ s.chr.stopBeat + 2 ≤ r.L then
    (s.setRg n { r with frozen := true }).stopDone
  else s

end Sys2Proof.Machine
end

