-- ==== Sys2Proof/Machine/Remote.lean ====
section
/-!
DEFINITION. Remote memory, windows, credits and multicast (R123 to R168): what each message does where it arrives, and the
Hjello aperture.
-/

namespace Sys2Proof.Machine

/-- A packet is taken by the NI of a slot: it leaves flight; an NI out of service takes nothing (R283), and a frozen one leaves
it where it is (R430). Log entry 20, DESIGN CHOICE; log entry 135, DESIGN CHOICE. -/
def State.atNi (s : State) (n : Nat) (p : Pkt) (f : State → State) : State :=
  if s.frozenAt n then s else
    let s := s.takeNet (.unit (niLoc n)) p
    if s.niUp n then f s else s

/-- A packet for a unit off the mesh is taken there. Log entry 20, DESIGN CHOICE. -/
def State.atUnit (s : State) (l : Loc) (p : Pkt) (f : State → State) : State := f (s.takeNet (.unit l) p)

/-- An answer with no open transaction is discarded and sets LATE_RSP (R121). -/
def State.lateRsp (s : State) (n : Nat) : State := s.niCause n NI_OPEN_STATUS_LATE_RSP 10 3

/-! ## Reads -/

/-- READ at an NI (R125, R147, R160): the answer waits in the response queue (R114). -/
def State.readAtNi (s : State) (n : Nat) (p : Pkt) (ue : Bool) : State :=
  let a := p.arg 0
  let len := p.arg 1 + 1
  let h := adHandle a
  match s.check125 n h p.ten (adOfs a) len false with
  | some st => s.answer p (niLoc n) opREAD_ERR [st]
  | none =>
    let data := s.spadRead n ((s.hdlRange n h).1 + adOfs a) len
    s.enqueue n respFlow (mkDat opREAD_DATA (niLoc n) p.src p.ten p.flow p.txn [if ue then stDATA_ERROR else 0] a 0
      (s.fld NI_HDL_CFG_CLASS n h) data)

/-- READ (R147): the NI or memory port or host port that the packet names checks it and answers. Log entry 152, DESIGN CHOICE. -/
def execRead (at_ : Nat) (p : Pkt) (ue : Bool) (s : State) : Host.Outcome State Fault Refusal :=
  run (.read at_ p ue) s (fun s =>
    if p.kind ≠ opREAD then s else
      match attachOf p.dst with
      | some (.mp n a) => s.atUnit p.dst p (fun s => s.mpOpen n a p false)
      | some (.hp n) => s.atUnit p.dst p (fun s => s.hpOpen n p false)
      | _ => if p.dst.port = 0 ∧ p.dst.slot = at_ ∧ at_ < 2304 then
          s.atNi at_ p (fun s =>
            let s := s.injEvent .ni at_ (bits ((s.hdlRange at_ (adHandle (p.arg 0))).1 + adOfs (p.arg 0)) 22 5) [6, 7]
            if s.niUp at_ then s.readAtNi at_ p ue else s)
        else s)

/-- A read answer of a doorbell record or of descriptors, which DOORBELL_RECORD_READ and DESCRIPTOR_FETCH take. -/
def State.ringAnswer (s : State) (n : Nat) (p : Pkt) : Bool :=
  match s.findTx n p.txn with
  | some t => decide (t.use = .record ∨ t.use = .descFetch)
  | none => false

/-- Data of a host read is logged or checked by replay (R268, R269). -/
def State.hostReadOf (s : State) (t : OTx) (data : List Nat) : State :=
  match s.xfer? t.xfer, s.desc? t.desc with
  | some x, some d =>
    match x.chunks[t.arg]? with
    | some c => if x.srcHost then s.hostRead d c.src data else s
    | none => s
  | _, _ => s

/-- READ_DATA (R147, R160): the data joins the transfer that asked for it. A payload error on the way or a DATA_ERROR at the
target is the read's status, and the data is used all the same. -/
def execReadData (n : Nat) (p : Pkt) (ue : Bool) (s : State) : Host.Outcome State Fault Refusal :=
  run (.readData n p ue) s (fun s =>
    if p.kind ≠ opREAD_DATA then s
    else if p.dst.port = 5 then s.atBn p (fun s => s.hashIn p (if ue then stDATA_ERROR else p.arg 0))
    else if s.ringAnswer n p then s
    else
      s.atNi n p (fun s =>
        match s.findTx n p.txn with
        | none => s.lateRsp n
        | some t =>
          let st := if ue then stDATA_ERROR else p.arg 0
          let s := if ue then s.report .ni n 10 (29 + 3 <<< 15) else s
          match t.use with
          | .read => ((s.delTx n p.txn).hostReadOf t p.data).partRead t.xfer t.arg st (p.arg 5) p.data
          | .sigRead =>
            let s := (List.range 8).foldl (fun s i =>
              s.sigLog n t.xfer (t.arg + 8 * i) (ofBytes (Sys2Proof.Machine.slice p.data (8 * i) 8))) s
            (s.delTx n p.txn).sigLineIn n t.xfer t.arg p.data
          | _ => s.lateRsp n))

/-- READ_ERR (R147): the read completes with its status. Log entry 135, DESIGN CHOICE. -/
def execReadErr (n : Nat) (p : Pkt) (s : State) : Host.Outcome State Fault Refusal :=
  run (.readErr n p) s (fun s =>
    if p.kind ≠ opREAD_ERR then s
    else if p.dst.port = 5 then s.atBn p (fun s => s.hashIn p (p.arg 0))
    else if s.ringAnswer n p then s
    else
      s.atNi n p (fun s =>
        match s.findTx n p.txn with
        | none => s.lateRsp n
        | some t =>
          match t.use with
          | .read => (s.delTx n p.txn).partDone t.xfer t.arg (p.arg 0)
          | .sigRead =>
            let s := { s with sigLines := s.sigLines.filter (fun l => !(l.ni == n && l.ten == t.xfer && l.addr == t.arg)) }
            (s.delTx n p.txn).endSigWaits n t.xfer (fun a => a / 64 * 64 == t.arg) (p.arg 0)
          | _ => s.lateRsp n))

/-! ## Credits -/

/-- The result of a credit request and the state after it (R125, R134, R135, R144): result of R127, epoch and credits.
Log entry 173, DESIGN CHOICE. -/
def State.creditJudge (s : State) (n : Nat) (p : Pkt) : Nat × State :=
  let h := adHandle (p.arg 0)
  let k := p.arg 1
  let w := s.window n h
  if s.tnState n ≠ 1 then (5, s)
  else if s.fld NI_HDL_CFG_VALID n h = 0 then (4, s)
  else if s.fld NI_HDL_CFG_TENANCY n h ≠ p.ten then (5, s)
  else if (s.hdlRange n h).2 < adOfs (p.arg 0) then (5, s)
  else if w.state ≠ 1 ∨ (p.arg 3 = 1 ∧ p.arg 4 ≠ w.epoch) then (3, s)
  else if w.pool < k then (2, s)
  else if (s.waitersOf n h).isEmpty = true ∧ s.canGrant n h k = true then (0, s.grant n h p.src p.txn k)
  else
    let s := if k ≤ w.free ∧ 128 ≤ s.ledgerUse n then s.niCause n NI_CREDIT_STATUS_LEDGER_FULL 11 3 else s
    if p.arg 2 = 1 then (1, s)
    else if 64 ≤ (s.waiters.filter (fun x => x.ni == n)).length then (2, s.niCause n NI_CREDIT_STATUS_WAITQ_FULL 11 2)
    else (1, { s with waiters := s.waiters ++ [⟨n, h, p.src, p.txn, k, p.ten, p.flow⟩] })

/-- CREDIT_REQ (R134, R135, R154): a unicast request is answered at its source; a multicast one through the tree. -/
def execCreditReq (n : Nat) (p : Pkt) (s : State) : Host.Outcome State Fault Refusal :=
  run (.creditReq n p) s (fun s =>
    if p.kind ≠ opCREDIT_REQ then s else
      s.atNi n p (fun s =>
        let r := s.creditJudge n p
        let ep := (s.window n (adHandle (p.arg 0))).epoch
        if p.dst.port = 7 then
          (r.2.receiptNew n p.src p.txn).push (.router n 4) (mkPkt opCREDIT_ANS p.src p.dst p.ten p.flow p.txn
            ([ep, p.arg 1, r.1, 0] ++ creditCounts r.1 (s.ltileOf n n)))
        else r.2.creditAnswer n p.src p.ten p.flow p.txn ep (if r.1 = 0 then p.arg 1 else 0) r.1))

/-- A SHORT answer has come (R135, R137, R155, R377). Log entry 86, DEDUCED. -/
def State.shortAnswer (s : State) (x : Xfer) (waitOn nShort low : Nat) : State :=
  let s := s.addFld NI_CREDIT_WAITS_CNT 1 x.ni
  let s := s.addFld TN_CREDIT_WAIT_CNT 1 x.ten
  let h := match x.chunks with | c :: _ => adHandle c.dst | [] => 0
  let d := s.desc? x.desc
  let s := s.traceRec x.ni 4 x.ten (d.map Desc.trace) 0 low h nShort
  let s := s.waitTake x.ni 4 0 low h ((d.map Desc.layer).getD 0xFFFF) ((d.map Desc.tag).getD 0)
  let s := s.log .ni x.ni 0x05 0 low x.total
  (s.delTx x.ni x.txn).updXfer x.id (fun y =>
    let y := { y with cr := 2, shortLeft := waitOn, waitAt := s.time.c }
    if y.kind = .roll then y else { y with count := nShort, low := low })

/-- The whole µs, of 100 beats of C each, since a transfer's SHORT answer (R418). Log entry 182, DESIGN CHOICE. -/
def State.waitedUs (s : State) (x : Xfer) : Nat := beatSub s.time.c x.waitAt / 100

/-- A credit wait of `us` µs ends (R418, R421, R425, R427). Log entry 182, DESIGN CHOICE. -/
def State.creditWaitEnd (s : State) (x : Xfer) (status us : Nat) : State :=
  let s := s.addFld NI_CREDIT_WAIT_US_CNT us x.ni
  let h := match x.chunks with | c :: _ => adHandle c.dst | [] => 0
  let d := s.desc? x.desc
  let s := s.traceRec x.ni 5 x.ten (d.map Desc.trace) 0 x.low h status
  (s.waitFree x.ni 4 h ((d.map Desc.tag).getD 0)).log .ni x.ni 0x06 0 x.low x.total

/-- All credits are held: delivery starts (R137, R153). -/
def State.creditsHeld (s : State) (x : Xfer) (epoch : Nat) : State :=
  let s := if (s.findTx x.ni x.txn).isSome then s.delTx x.ni x.txn else s
  let chip := match x.chunks with | c :: _ => if x.group.isSome then s.chipId else adChip c.dst | [] => s.chipId
  let s := s.addTx ⟨x.ni, x.txn, .write, x.desc, x.id, 0, chip, 0, false, false⟩
  (s.updXfer x.id (fun y =>
    let y := { y with cr := 3, epoch := epoch }
    if y.kind = .roll then y else { y with count := 0, low := 0 })).pump x.id

/-- The source decides by a combined answer (R155); a wait that a refusal has already met ends at once; an answer with N_SHORT above 0 counts once, whatever else it says (R377).
Log entry 182, DESIGN CHOICE. -/
def State.decideCombined (s : State) (x : Xfer) (p : Pkt) : State :=
  let c := fun i => p.arg (4 + i)
  let t := if 0 < c 1 then (s.addFld NI_CREDIT_WAITS_CNT 1 x.ni).addFld TN_CREDIT_WAIT_CNT 1 x.ten else s
  let refuse := fun (s : State) (st count low : Nat) =>
    let s := s.niSend x.ni opCREDIT_RETURN x.dstLoc x.ten x.flow x.txn [x.total]
    (((s.delTx x.ni x.txn).updXfer x.id (fun y => { y with count := count, low := low })).failXfer x.id st)
  if 0 < c 6 then refuse t stACCESS_DENIED (c 6) (c 8)
  else if 0 < c 5 then refuse t stWINDOW_UNKNOWN (c 5) (c 8)
  else if 0 < c 7 then refuse t stTARGET_FENCED (c 7) (c 8)
  else if 0 < c 4 then refuse t stWINDOW_CLOSED (c 4) (c 8)
  else if 0 < c 3 then refuse t stNO_CREDIT (c 3) (c 8)
  else if 0 < c 1 then
    (if x.policy = 1 then refuse t stNO_CREDIT (c 1) (c 2)
     else if x.earlyBad ≠ 0 then
       refuse ((s.shortAnswer x (c 1) (c 1) (c 2)).creditWaitEnd { x with low := c 2 } x.earlyBad 0) x.earlyBad (c 1) (c 2)
     else if c 1 ≤ x.early then t.creditsHeld x 0
     else s.shortAnswer x (c 1 - x.early) (c 1) (c 2))
  else if c 0 = x.members then s.creditsHeld x 0
  else s

/-- CREDIT_ANS at the source (R121, R137, R155). A grant that comes after the cancel goes back at once; an answer to no request that is open
or was cancelled sets LATE_RSP. A multicast decides by the combined
answer, and until it comes keeps the unicast answers of members that had answered SHORT. Log entry 175, DESIGN CHOICE. -/
def State.creditAnsAtNi (s : State) (n : Nat) (p : Pkt) : State :=
  match s.xfers.find? (fun x => x.ni == n && x.txn == p.txn && (x.cr == 1 || x.cr == 2)) with
  | none =>
    let cut := s.cancelled.find? (fun c => c.1 == n && c.2.1 == p.txn)
    let s := match cut with
      | some (_, _, false) => s
      | _ => s.lateRsp n
    if p.arg 2 = 0 ∧ p.arg 3 = 0 then s.niSend n opCREDIT_RETURN p.src p.ten p.flow p.txn [p.arg 1] else s
  | some x =>
    if p.arg 3 = 1 then s.decideCombined x p
    else if x.cr = 1 ∧ x.group.isSome = true then
      s.updXfer x.id (fun y => if p.arg 2 = 0 then { y with early := y.early + 1 }
        else { y with earlyBad := if y.earlyBad = 0 then creditStatus (p.arg 2) else y.earlyBad })
    else if p.arg 2 = 0 then
      (if x.cr = 2 ∧ 1 < x.shortLeft then s.updXfer x.id (fun y => { y with shortLeft := y.shortLeft - 1 })
       else (if x.cr = 2 then s.creditWaitEnd x stOK (s.waitedUs x) else s).creditsHeld x (p.arg 0))
    else if p.arg 2 = 1 ∧ x.policy = 0 then s.shortAnswer x 1 1 (s.ltileOf n p.src.slot)
    else
      let s := if p.arg 2 = 1 then (s.addFld NI_CREDIT_WAITS_CNT 1 n).addFld TN_CREDIT_WAIT_CNT 1 x.ten else s
      let s := if x.cr = 2 then s.creditWaitEnd x (creditStatus (p.arg 2)) (s.waitedUs x) else s
      let s := if x.group.isSome then
          s.niSend n opCREDIT_RETURN x.dstLoc x.ten x.flow x.txn [x.total] else s
      (s.delTx n x.txn).failXfer x.id (creditStatus (p.arg 2))

/-- CREDIT_ANS (R152, R155): combined at a router of the tree where its slot awaits an answer by that port, or decided at the source. -/
def execCreditAns (n port : Nat) (p : Pkt) (s : State) : Host.Outcome State Fault Refusal :=
  run (.creditAns n port p) s (fun s =>
    if p.kind ≠ opCREDIT_ANS then s
    else if p.dst.port = 5 then s.atBn p (fun s => s.hashIn p 0)
    else if p.dst.port = 7 then
      let s := s.takeNet (.router n port) p
      match (s.slotFor n p).filter (fun c => c.waitOn.contains port) with
      | some c => s.slotAnswer n c port (p.args.drop 4)
      | none => s
    else s.atNi n p (fun s => s.creditAnsAtNi n p))

/-- The ledger entry that a return or cancel names by source fields and TXN (R127). -/
def State.ledgerOf (s : State) (n : Nat) (p : Pkt) : Option LedgerE :=
  s.ledger.find? (fun l => l.ni == n && decide (l.src = p.src) && l.txn == p.txn)

/-- CREDIT_RETURN (R136). -/
def execCreditReturn (n : Nat) (p : Pkt) (s : State) : Host.Outcome State Fault Refusal :=
  run (.creditReturn n p) s (fun s =>
    if p.kind ≠ opCREDIT_RETURN then s else
      s.atNi n p (fun s =>
        match s.ledgerOf n p with
        | none => s
        | some l =>
          s.giveBack l (min (p.arg 0) l.remaining)))

/-- CREDIT_CANCEL (R136, R137): the waiter goes, and the next one is tried; or the grant made meanwhile is freed.
Log entry 148, DESIGN CHOICE. -/
def execCreditCancel (n : Nat) (p : Pkt) (s : State) : Host.Outcome State Fault Refusal :=
  run (.creditCancel n p) s (fun s =>
    if p.kind ≠ opCREDIT_CANCEL then s else
      s.atNi n p (fun s =>
        match s.waiters.find? (fun w => w.ni == n && decide (w.src = p.src) && w.txn == p.txn) with
        | some w => ({ s with waiters := delFirst (fun x => decide (x = w)) s.waiters }).serveWaiters n w.handle 64
        | none =>
          match s.ledgerOf n p with
          | none => s
          | some l => s.giveBack l l.remaining))

/-- CREDIT_WAIT_EXPIRE (R137): after a wait of `us` µs the sender cancels and completes NO_CREDIT.
Log entry 17, DESIGN CHOICE; log entry 86, DEDUCED. -/
def execCreditWaitExpire (n txn us : Nat) (s : State) : Host.Outcome State Fault Refusal :=
  run (.creditWaitExpire n txn us) s (fun s =>
    match s.xfers.find? (fun x => x.ni == n && x.txn == txn && x.cr == 2) with
    | none => s
    | some x =>
      let s := (s.niSend n opCREDIT_CANCEL x.dstLoc x.ten x.flow x.txn []).giveUp n x.txn false
      (s.creditWaitEnd x stNO_CREDIT us).failXfer x.id stNO_CREDIT)

/-! ## Windows -/

/-- REQ_WIN_OPEN (R130). -/
def execReqWinOpen (n : Nat) (p : Pkt) (s : State) : Host.Outcome State Fault Refusal :=
  run (.reqWinOpen n p) s (fun s =>
    if p.kind ≠ opWIN_OPEN then s else
      s.atNi n p (fun s =>
        let h := adHandle (p.arg 0)
        match s.winCheck n h p.ten with
        | some st => s.answer p (niLoc n) opWIN_ANS [st, (s.window n h).epoch]
        | none =>
          let r := s.openWindow n h (p.arg 1) (p.arg 2) 0 (s.ltileOf n p.src.slot)
          r.2.answer p (niLoc n) opWIN_ANS [r.1, (r.2.window n h).epoch]))

/-- REQ_WIN_REPLENISH (R131). -/
def execReqWinReplenish (n : Nat) (p : Pkt) (s : State) : Host.Outcome State Fault Refusal :=
  run (.reqWinReplenish n p) s (fun s =>
    if p.kind ≠ opWIN_REPLENISH then s else
      s.atNi n p (fun s =>
        let h := adHandle (p.arg 0)
        match s.winCheck n h p.ten with
        | some st => s.answer p (niLoc n) opWIN_ANS [st, (s.window n h).epoch]
        | none =>
          let r := s.replenish n h (p.arg 1) 0 (s.ltileOf n p.src.slot)
          r.2.answer p (niLoc n) opWIN_ANS [r.1, (r.2.window n h).epoch]))

/-- SNP_WIN_CLOSE (R140 to R142). The SNP header carries no tenancy (R103): only the handle is checked. Log entry 87, DEDUCED. -/
def execSnpWinClose (n : Nat) (p : Pkt) (s : State) : Host.Outcome State Fault Refusal :=
  run (.snpWinClose n p) s (fun s =>
    if p.kind ≠ opWIN_CLOSE then s else
      s.atNi n p (fun s =>
        let h := p.arg 1
        if s.tnState n ≠ 1 then s.niSend n opWIN_ANS p.src 0 0 (p.arg 3) [stACCESS_DENIED, (s.window n h).epoch]
        else if s.fld NI_HDL_CFG_VALID n h = 0 then
          s.niSend n opWIN_ANS p.src 0 0 (p.arg 3) [stWINDOW_UNKNOWN, (s.window n h).epoch]
        else s.beginClose n h (p.arg 0 == 1) (p.arg 2) ⟨p.arg 0 == 1, none, some p.src, p.arg 3⟩))

/-- CLOSE_TAKES_EFFECT (R140, R141): a pending CLOSE_NOW once accepted packets are written, a drain once GRANTED is zero. -/
def execCloseTakesEffect (n h : Nat) (s : State) : Host.Outcome State Fault Refusal :=
  run (.closeTakesEffect n h) s (fun s =>
    let w := s.window n h
    if w.closes.isEmpty then s
    else if w.closes.any (fun c => !c.drain) then s.closeNow n h false
    else if w.granted = 0 then s.closeNow n h true
    else s)

/-- DRAIN_LIMIT_EXPIRE (R141). -/
def execDrainLimitExpire (n h : Nat) (s : State) : Host.Outcome State Fault Refusal :=
  run (.drainLimitExpire n h) s (fun s =>
    if (s.window n h).state = 2 then s.closeNow n h false else s)

/-- WIN_ANS (R142): the window operation completes at its issuer. -/
def execWinAns (n : Nat) (p : Pkt) (s : State) : Host.Outcome State Fault Refusal :=
  run (.winAns n p) s (fun s =>
    if p.kind ≠ opWIN_ANS then s else
      s.atNi n p (fun s =>
        match s.findTx n p.txn with
        | some t => if t.use = .winOp then (s.delTx n p.txn).finish t.desc (p.arg 0) else s.lateRsp n
        | none => s.lateRsp n))

/-- CREDIT_REVOKE (R143): no further packet of the unicast transfer starts; it completes WINDOW_CLOSED once what it has started
is answered. -/
def execCreditRevoke (n : Nat) (p : Pkt) (s : State) : Host.Outcome State Fault Refusal :=
  run (.creditRevoke n p) s (fun s =>
    if p.kind ≠ opCREDIT_REVOKE then s else
      s.atNi n p (fun s =>
        match s.xfers.find? (fun x => x.ni == n && x.txn == p.arg 0 && x.group.isNone && x.cr == 3) with
        | none => s
        | some x =>
          ((s.updXfer x.id (fun y => { y with revoked := true, statuses := y.statuses ++ [stWINDOW_CLOSED] })).stopXfer
            x.id).pump x.id))

/-! ## Writes -/

/-- WRITE at an NI (R125, R138, R146, R160). -/
def State.writeAtNi (s : State) (n : Nat) (p : Pkt) (ue : Bool) : State :=
  let j := s.judgeWrite n p false
  match j.2 with
  | none => (s.writeCause n j.1).answer p (niLoc n) opWRITE_ACK [j.1, p.arg 0, 0]
  | some l =>
    let s := s.acceptWrite n p l
    let s := if ue then s.report .ni n 10 (29 + 3 <<< 15) else s
    s.answer p (niLoc n) opWRITE_ACK [if ue then stDATA_ERROR else stOK, p.arg 0, 0]

/-- WRITE (R138): at the NI, memory port or host port that the packet names. -/
def execWrite (at_ : Nat) (p : Pkt) (ue : Bool) (s : State) : Host.Outcome State Fault Refusal :=
  run (.write at_ p ue) s (fun s =>
    if p.kind ≠ opWRITE then s else
      match attachOf p.dst with
      | some (.mp n a) => s.atUnit p.dst p (fun s => (if ue then s.unitEvent .mp n 1 0 else s).mpOpen n a p ue)
      | some (.hp n) => s.atUnit p.dst p (fun s => s.hpOpen n p ue)
      | _ => if p.dst.port = 0 ∧ p.dst.slot = at_ ∧ at_ < 2304 then s.atNi at_ p (fun s => s.writeAtNi at_ p ue) else s)

/-- WRITE_MC (R156, R157): a member judges its copy by its ledger entry and acknowledges to its router. -/
def execWriteMc (n : Nat) (p : Pkt) (ue : Bool) (s : State) : Host.Outcome State Fault Refusal :=
  run (.writeMc n p ue) s (fun s =>
    if p.kind ≠ opWRITE_MC then s else
      s.atNi n p (fun s =>
        let j := s.judgeWrite n p true
        let st := if j.1 = 0 ∧ ue = true then stDATA_ERROR else j.1
        let s := match j.2 with
          | none => s.writeCause n j.1
          | some l =>
            let s := (s.acceptWrite n p l).receipt n p.src p.txn
            if ue then s.report .ni n 10 (29 + 3 <<< 15) else s
        s.push (.router n 4) (mkPkt opWRITE_ACK p.src p.dst p.ten p.flow p.txn ([st, p.arg 0, 1] ++ ackCounts st))))

/-- The statuses that the counts of a combined acknowledgement stand for (R156). -/
def ackStatuses (p : Pkt) : List Nat :=
  (if 0 < p.arg 4 then [stDATA_ERROR] else []) ++ (if 0 < p.arg 5 then [stWINDOW_CLOSED] else []) ++
  (if 0 < p.arg 6 then [stACCESS_DENIED] else []) ++ (if p.arg 7 = 1 then [stPARTIAL_MULTICAST] else [])

/-- An aperture write is answered at its source (R165, R166). Log entry 177, DESIGN CHOICE. -/
def State.apAnswer (s : State) (n txn status : Nat) : State :=
  let a := s.apt n
  if status = stAP_BUSY then
    s.setAp n { a with out := a.out.map (fun o => if o.2.1 = txn then (o.1, o.2.1, o.2.2.1, o.2.2.2.1, true) else o) }
  else
    let s := ((s.setAp n { a with out := a.out.filter (fun o => o.2.1 != txn) }).delTx n txn).coreAns n (decide (status ≠ stOK)) 0
    if status = stACCESS_DENIED then s.niCause n NI_AP_STATUS_AP_DENIED 11 (4 + 2 ^ 17) else s

/-- WRITE_ACK at the source (R146, R156, R158). -/
def State.writeAckAtNi (s : State) (n : Nat) (p : Pkt) : State :=
  match s.findTx n p.txn with
  | none => s.lateRsp n
  | some t =>
    match t.use with
    | .aperture => s.apAnswer n p.txn (p.arg 0)
    | .trace =>
      let b := s.trace.get n {}
      let lost := ((b.sent.filter (fun e => e.1 == p.txn)).map (fun e => e.2)).sum
      let s := { s with trace := s.trace.put n { b with sent := b.sent.filter (fun e => e.1 != p.txn) } }
      let s := s.delTx n p.txn
      if p.arg 0 = 0 then s else s.addFld NI_TRACE_STATUS_LOST lost n
    | .write =>
      if p.arg 2 = 1 then
        let s := if p.arg 7 = 1 then s.updXfer t.xfer (fun x => { x with missSeen := true }) else s
        let sts := ackStatuses p
        let s := s.updXfer t.xfer (fun x => { x with statuses := x.statuses ++ sts })
        s.partDone t.xfer (p.arg 1) stOK
      else s.partDone t.xfer (p.arg 1) (p.arg 0)
    | .headWr => s.delTx n p.txn
    | .provWr => (s.delTx n p.txn).provAnswered n p.txn (p.arg 0 == 0)
    | .cplWr =>
      let s := s.delTx n p.txn
      if p.arg 0 = 0 then s else s.niCause n NI_CMD_STATUS_CPL_LOST 12 (ringNo (t.arg / 2) <<< 5)
    | _ => s.lateRsp n

/-- WRITE_ACK (R146, R152, R156). -/
def execWriteAck (n port : Nat) (p : Pkt) (s : State) : Host.Outcome State Fault Refusal :=
  run (.writeAck n port p) s (fun s =>
    if p.kind ≠ opWRITE_ACK then s
    else if p.dst.port = 5 then s.atBn p (fun s => s.hashIn p (p.arg 0))
    else if p.dst.port = 7 then
      let s := s.takeNet (.router n port) p
      match (s.slotFor n p).filter (fun c => c.waitOn.contains port) with
      | some c => s.slotAnswer n c port (p.args.drop 3)
      | none => s
    else s.atNi n p (fun s => s.writeAckAtNi n p))

/-! ## Atomics -/

/-- The old value, the new value and whether it is written, for a location of SIZE (R148). -/
def atomicResult (p : Pkt) (old : Nat) : Nat :=
  if p.kind = opATOMIC then
    let n := if p.arg 2 = 1 then 64 else 32
    if p.arg 1 = 9 then fadd32 old (p.arg 3 % 2 ^ 32) else atomicNew (p.arg 1) n old (p.arg 3 % 2 ^ n)
  else
    let n := if p.arg 1 = 1 then 64 else 32
    if old = p.arg 2 % 2 ^ n then p.arg 3 % 2 ^ n else old

/-- An atomic at an NI (R125, R148, R160). -/
def State.atomicAtNi (s : State) (n : Nat) (p : Pkt) (ue : Bool) : State :=
  let a := p.arg 0
  let len := reqLen p
  let h := adHandle a
  match s.check125 n h p.ten (adOfs a) len true with
  | some st => s.answer p (niLoc n) p.atomicAns [st, 0]
  | none =>
    let ofs := (s.hdlRange n h).1 + adOfs a
    let old := ofBytes (s.spadRead n ofs len)
    let s := if ue then s else s.spadWrite n ofs (toBytes len (atomicResult p old))
    s.answer p (niLoc n) p.atomicAns [if ue then stDATA_ERROR else stOK, old]

/-- REQ_ATOMIC (R148): ATOMIC and ATOMIC_CAS at the unit that the packet names. -/
def execReqAtomic (at_ : Nat) (p : Pkt) (ue : Bool) (s : State) : Host.Outcome State Fault Refusal :=
  run (.reqAtomic at_ p ue) s (fun s =>
    if p.kind ≠ opATOMIC ∧ p.kind ≠ opATOMIC_CAS then s else
      match attachOf p.dst with
      | some (.mp n a) => s.atUnit p.dst p (fun s => s.mpOpen n a p false)
      | some (.hp n) => s.atUnit p.dst p (fun s => s.hpOpen n p false)
      | _ => if p.dst.port = 0 ∧ p.dst.slot = at_ ∧ at_ < 2304 then s.atNi at_ p (fun s => s.atomicAtNi at_ p ue) else s)

/-- ATOMIC_ANS (R148, R221): the old value is written to RESULT_ADDR when one is named; the descriptor then completes. -/
def execAtomicAns (n : Nat) (p : Pkt) (s : State) : Host.Outcome State Fault Refusal :=
  run (.atomicAns n p) s (fun s =>
    if p.kind ≠ opATOMIC_ANS ∧ p.kind ≠ opATOMIC_CAS_ANS then s else
      s.atNi n p (fun s =>
        match s.findTx n p.txn with
        | none => s.lateRsp n
        | some t =>
          let s := s.delTx n p.txn
          match s.desc? t.desc with
          | none => s
          | some d =>
            if p.arg 0 ≠ 0 ∧ p.arg 0 ≠ stDATA_ERROR then s.finish d.id (p.arg 0)
            else if d.w 5 = 0 then s.finish d.id (p.arg 0)
            else s.writeAux d (d.w 5) d.auxHost (toBytes 8 (if bit (d.w 6) 4 then p.arg 1 else p.arg 1 % 2 ^ 32))
              (p.arg 0) 0 0))

/-! ## Roll call -/

/-- ROLLCALL (R158): a member answers with the packets it accepted. -/
def execRollcall (n : Nat) (p : Pkt) (s : State) : Host.Outcome State Fault Refusal :=
  run (.rollcall n p) s (fun s =>
    if p.kind ≠ opROLLCALL then s else
      s.atNi n p (fun s =>
        let k := match s.receipts.find? (fun r => r.ni == n && decide (r.src = p.src) && r.txn == p.arg 0) with
          | some r => r.packets
          | none => 0
        s.answer p (niLoc n) opROLL_ANS [k, s.ltileOf n n]))

/-- ROLL_ANS (R158); one whose transfer has ended sets LATE_RSP (R121). -/
def execRollAns (n : Nat) (p : Pkt) (s : State) : Host.Outcome State Fault Refusal :=
  run (.rollAns n p) s (fun s =>
    if p.kind ≠ opROLL_ANS then s else
      s.atNi n p (fun s =>
        match s.xfers.find? (fun x => x.ni == n && x.txn == p.txn && x.rolling) with
        | none => s.lateRsp n
        | some x => s.updXfer x.id (fun y => { y with rolls := y.rolls ++ [(p.arg 1, p.arg 0)] })))

/-- The 288-byte miss bitmap (R158). -/
def missBitmap (l : List Nat) : List Nat :=
  (List.range 288).map (fun i => (List.range 8).foldl (fun b j => b + b2n (l.contains (8 * i + j)) * 2 ^ j) 0)

/-- ROLL_TIME_EXPIRE (R158, R161): members without the full count are missed, the bitmap is written, and the transfer
completes. Log entry 17, DESIGN CHOICE. -/
def execRollTimeExpire (n txn : Nat) (s : State) : Host.Outcome State Fault Refusal :=
  run (.rollTimeExpire n txn) s (fun s =>
    match s.xfers.find? (fun x => x.ni == n && x.txn == txn && x.rolling) with
    | none => s
    | some x =>
      let full := x.chunks.length
      let missed := (s.grpMap (x.group.getD 0)).filter (fun t => !(x.rolls.contains (t, full)))
      let st := firstStatus (x.statuses ++ (if missed.isEmpty then [] else [stPARTIAL_MULTICAST]))
      let st := if missed.isEmpty ∧ st = stPARTIAL_MULTICAST then stOK else st
      let s := (s.returnUnused x).delTx n txn
      let s := { s with xfers := s.xfers.filter (fun y => y.id != x.id) }
      let low := if missed.isEmpty then 0 else lowest missed
      let count := if missed.isEmpty = false then missed.length else if st = stOK then x.members else 0
      match s.desc? x.desc with
      | some d =>
        if x.missAddr ≠ 0 then s.writeAux d x.missAddr x.missHost (missBitmap missed) st count low
        else s.complete x.desc st count low 0
      | none => s)

/-! ## Aperture -/

/-- An access to the aperture that the NI refuses: its causes, and an error response that carries zero (R164). -/
def State.apRefuse (s : State) (n : Nat) (causes : List (Fld × Nat)) : State :=
  causes.foldl (fun s c => s.niCause n c.1 11 (c.2 + 2 ^ 17)) (s.coreAns n true 0)

/-- The causes for which the NI refuses an access to the aperture itself (R164). -/
def State.apCauses (s : State) (store : Bool) (ofs len : Nat) : List (Fld × Nat) :=
  (if store = false then [(NI_AP_STATUS_AP_READ, 0)] else []) ++
  (if store = true ∧ (len ≠ 32 ∨ ofs % 32 ≠ 0) then [(NI_AP_STATUS_AP_ALIGN, 1)] else []) ++
  (if s.tiles ≤ bits ofs 25 15 then [(NI_AP_STATUS_AP_RANGE, 2)] else []) ++
  (if s.strict then [(NI_AP_STATUS_AP_STRICT, 5)] else [])

/-- A core's access to the aperture (R163 to R166): the NI refuses it, holds the core, or sends one AP_WRITE, of FLOW 0,
by the response queue. Log entry 58, DESIGN CHOICE; log entry 176, DESIGN CHOICE. -/
def State.apStore (s : State) (n : Nat) (store : Bool) (ofs len : Nat) (data : List Nat) : State :=
  let tile := bits ofs 25 15
  if s.niUp n = false ∨ s.frozenAt n = true then s
  else if s.apCauses store ofs len ≠ [] then s.apRefuse n (s.apCauses store ofs len)
  else
    match s.lmap n tile with
    | none => s.apRefuse n [(NI_AP_STATUS_AP_FENCED, 3)]
    | some t =>
      let a := s.apt n
      if 8 ≤ a.out.length ∨ a.out.any (fun o => o.1 == t) = true ∨ s.txnRoom n = false then s
      else
        let txn := s.freeTxn n
        let s := s.addTx ⟨n, txn, .aperture, 0, 0, 0, s.chipId, 0, false, false⟩
        let s := s.setAp n { a with out := a.out ++ [(t, txn, ofs % 2 ^ 15, ofBytes data, false)] }
        s.enqueue n respFlow (mkDat opAP_WRITE (niLoc n) (niLoc t) (s.owner n) 0 txn [0] (ofs % 2 ^ 15) 0 0 data)

/-- AP_STORE (R163 to R166). A core held for want of room presents the access again. -/
def execApStore (n : Nat) (store : Bool) (ofs len : Nat) (data : List Nat) (s : State) :
    Host.Outcome State Fault Refusal :=
  run (.apStore n store ofs len data) s (fun s => s.apStore n store ofs len data)

/-- AP_WRITE (R165): a target admits a granule into its landing area, or answers AP_BUSY or ACCESS_DENIED. A granule of a payload flit with an
uncorrectable error lands as it came and is answered DATA_ERROR (R105, R160). Log entry 149, DESIGN CHOICE. -/
def execApWrite (n : Nat) (p : Pkt) (s : State) : Host.Outcome State Fault Refusal :=
  run (.apWrite n p) s (fun s =>
    if p.kind ≠ opAP_WRITE then s else
      s.atNi n p.asSent (fun s =>
        let land := s.fld NI_AP_CFG_PAIR_LAND n
        let tgt := s.fld NI_AP_CFG_PAIR_TGT n
        let ten := s.fld NI_AP_CFG_TENANCY n
        let a := s.apt n
        let st :=
          if s.tnState n ≠ 1 ∨ s.fld NI_AP_CFG_ENABLE n = 0 ∨ (s.pairRange n land).2 < 16384 ∨
             (s.pairRange n tgt).2 < max 16384 (p.arg 1 + 32) ∨ ten ≠ p.ten ∨ s.owner n ≠ ten ∨ s.pairForeign n land ten = true ∨
             s.pairForeign n tgt ten = true then stACCESS_DENIED
          else if 512 ≤ a.landing.length then stAP_BUSY else stOK
        let s := if st = stOK then
            let s := s.setAp n { a with landing := a.landing ++ [(p.arg 1, a.place)], place := (a.place + 1) % 512 }
            let s := (s.spadWrite n ((s.pairRange n land).1 + 32 * a.place) p.data).addPair NI_OPEN_RX_LO NI_OPEN_RX_HI p.data.length n
            if p.payBad then s.report .ni n 10 (29 + 3 <<< 15) else s
          else if st = stAP_BUSY then s.addFld NI_AP_BUSY_CNT_BUSY 1 n else s
        s.answer p (niLoc n) opWRITE_ACK [if st = stOK ∧ p.payBad = true then stDATA_ERROR else st, p.arg 0, 0]))

/-- AP_RESEND (R165): the source sends a refused write again, by the response queue. Log entry 58, DESIGN CHOICE. -/
def execApResend (n txn : Nat) (s : State) : Host.Outcome State Fault Refusal :=
  run (.apResend n txn) s (fun s =>
    let a := s.apt n
    match a.out.find? (fun o => o.2.1 == txn && o.2.2.2.2) with
    | none => s
    | some o =>
      let s := s.setAp n { a with out := a.out.map (fun q => if q.2.1 = txn then (q.1, q.2.1, q.2.2.1, q.2.2.2.1, false) else q) }
      s.enqueue n respFlow (mkDat opAP_WRITE (niLoc n) (niLoc o.1) (s.owner n) 0 txn [0] o.2.2.1 0 0
        (toBytes 32 o.2.2.2.1)))

end Sys2Proof.Machine
end

