-- ==== Sys2Proof/Machine/RouteOps.lean ====
section
/-!
DEFINITION. Routing in the open networks (R94 to R112) and along multicast trees (R151, R152).
-/

namespace Sys2Proof.Machine

/-- A network's number in causes and operands: 0 REQ, 1 RSP, 2 SNP, 3 DAT (R275). -/
def netCode (n : Net) : Nat := match n with | .req => 0 | .rsp => 1 | .snp => 2 | .dat => 3

/-- Out of `Held`: waiting for a combining slot (R152). -/
def outSlot : Nat := 6

/-- What a router decides for a packet (R109, R151). -/
inductive Route where
  | drop (reason : Nat)
  | out (o : Nat) (p : Pkt)
  | copies (root : Bool) (p : Pkt)
  deriving DecidableEq, Repr

/-- Register packets reach units that take no data traffic (R464). -/
def Pkt.isReg (p : Pkt) : Bool := decide (p.kind = opREG_RD ∨ p.kind = opREG_WR ∨ p.kind = opFENCE)

/-- A packet has arrived at its router (R98, R99, R107, R109). -/
def State.arrived (s : State) (n : Nat) (p : Pkt) : Route :=
  if p.dst.port = 0 then (if s.portOut n 4 && !p.isReg then .drop 1 else .out 4 p)
  else if p.dst.port = 5 then (if n = bnLoc.slot ∨ n = 48 * 24 + 24 then .out 5 p else .drop 1)
  else match attachOf ⟨n % 48, n / 48, p.dst.port⟩ with
    | some a => if s.attachUp a || p.isReg then .out (p.dst.port - 1) p else .drop 1
    | none => .drop 1

/-- A packet leaves by a mesh output, when there is one in service (R109). -/
def State.meshHop (s : State) (n o : Nat) (p : Pkt) : Route :=
  if o < 4 ∧ (neighbour n o).isSome = true ∧ s.portOut n o = false then .out o { p with hops := min 127 (p.hops + 1) }
  else .drop 1

/-- Follow an output field of a route-table entry. -/
def State.follow (s : State) (n o : Nat) (p : Pkt) : Route := if o = 4 then s.arrived n p else s.meshHop n o p

/-- Group number of a GROUP destination (R98). -/
def grpOf (l : Loc) : Nat := 16 * l.y + l.x % 16

/-- The path of a GROUP packet (R111, R151): towards the root, or from the root along the tree. It comes from the root when it
arrives through the port that leads to the root. Log entry 54, DEDUCED. -/
def State.routeGroup (s : State) (n port : Nat) (p : Pkt) : Route :=
  let g := grpOf p.dst
  if s.fld RT_GROUP_VALID n g = 0 then .drop 0
  else
    let p := if p.esc || p.fabric then p else { p with esc := true, egen := s.fld RT_CFG_ESC_GEN n }
    let p := if p.fabric then { p with egen := s.fld RT_CFG_ESC_GEN n } else p
    let root := s.grpRoot n g
    let e := s.routeEntry n root
    if root = n then .copies true p
    else if bit e 15 = false then .drop 0
    else if port < 4 ∧ escField e p.egen = port then .copies false p
    else s.meshHop n (escField e p.egen) p

/-- The route-table entry that a unicast packet needs (R99, R108). -/
def State.entryFor (s : State) (n : Nat) (p : Pkt) : Nat := s.routeEntry n (if p.dst.port = 5 then 2304 else p.dst.slot)

/-- The reduction whose partial result leaves the router of its own reduction unit along the group's tree: on the escape channel of its
generation (R111, R185, R190). Log entry 54, DEDUCED. -/
def State.ownPartial (s : State) (n : Nat) (p : Pkt) : Option RRed :=
  if p.kind = opRED_DATA ∧ p.src.slot = n ∧ p.arg 2 ≠ 3 then s.red? n (p.arg 0) else none

/-- The decision of R109 for a header at a router. A fabric command takes EGEN anew at each router. Log entry 54, DEDUCED. -/
def State.route (s : State) (n port : Nat) (p : Pkt) : Route :=
  if p.dst.port = 7 then s.routeGroup n port p
  else
    let gen := s.fld RT_CFG_ESC_GEN n
    let e := s.entryFor n p
    let o := bits e 14 12
    if bit e 15 = false then .drop 0
    else if let some r := s.ownPartial n p then s.follow n (escField e r.gen) { p with esc := true, egen := r.gen }
    else if p.esc then s.follow n (escField e p.egen) p
    else if p.fabric then s.follow n (escField e gen) { p with egen := gen }
    else if (o < 4 ∧ s.portOut n o = true) ∨ zeroAsOne (s.fld RT_CFG_HOP_LIMIT n) ≤ p.hops then
      s.follow n (escField e gen) { p with esc := true, egen := gen }
    else s.follow n o p

/-- A packet waits for an output in the channel of the input in which it came, with the entry read when its header arrived.
Log entry 53, DESIGN CHOICE. -/
def State.hold (s : State) (n port chan o entry : Nat) (p : Pkt) : State :=
  s.modRt n (fun r => { r with held := r.held ++ [(⟨p, port, o, 0, false, entry, chan⟩ : Held)] })

/-- A multicast packet that takes a combining slot (R152). -/
def Pkt.combines (p : Pkt) : Bool := decide (p.kind = opCREDIT_REQ ∨ p.kind = opWRITE_MC)

/-- Copy a GROUP packet to the DOWN outputs (R151, R152); a branch out of service is answered for, or its copy discarded with a DROP
(R107, R154, R158). A router that RED_ABORT passes releases the reduction (R190). Log entry 54, DEDUCED; log entry 55, DEDUCED. -/
def State.copyDown (s : State) (n port chan : Nat) (root : Bool) (p : Pkt) : State :=
  let g := grpOf p.dst
  let outs := s.downOuts n g p.egen
  let s := if p.kind = opRED_ABORT then s.redAbortAt n (p.arg 0) else s
  let c : CombSlot := ⟨p.src, p.txn, decide (p.kind = opCREDIT_REQ), if p.kind = opWRITE_MC then p.arg 0 else 0, g,
    if root then rootIn else port, outs.length, 0, outs, if p.kind = opCREDIT_REQ then noCredit else [0, 0, 0, 0, 0], p.egen⟩
  let s := if p.combines then
      (s.modRt n (fun r => { r with slots := r.slots ++ [c] })).slotDone n c
    else s
  outs.foldl (fun s o =>
    if s.portOut n o = true ∨ (o < 4 ∧ neighbour n o = none) then
      (if p.combines then s.combFenced n o else s.drop (niLoc n) n port 1 p)
    else s.hold n port chan o 0 (if o = 4 then p else { p with hops := min 127 (p.hops + 1) })) s

/-- Act on a decision. -/
def State.routed (s : State) (n port : Nat) (p : Pkt) : Route → State
  | .drop reason => s.drop (niLoc n) n port reason p
  | .out o q => s.hold n port (chanOf p) o (s.entryFor n p) q
  | .copies root q =>
    if q.combines && decide (32 ≤ (s.rt n).slots.length) then s.hold n port (chanOf p) (if root then outSlot + 1 else outSlot) 0 q
    else s.copyDown n port (chanOf p) root q

/-- The output of a waiting packet has gone out of service: it takes escape by the entry it was routed with, or is dropped (R109, R286); a
multicast copy is discarded, with a DROP where no combining slot has answered for it (R107, R158). -/
def State.reroute (s : State) (n : Nat) (h : Held) : State :=
  let s := s.modRt n (fun r => { r with held := delFirst (fun x => decide (x = h)) r.held })
  if h.pkt.dst.port = 7 then (if h.pkt.combines then s else s.drop (niLoc n) n h.inPort 1 h.pkt)
  else if h.pkt.esc || h.pkt.fabric then s.drop (niLoc n) n h.inPort 1 h.pkt
  else
    let gen := s.fld RT_CFG_ESC_GEN n
    match s.follow n (escField h.entry gen) { h.pkt with esc := true, egen := gen } with
    | .out o q => s.hold n h.inPort h.chan o h.entry { q with hops := h.pkt.hops }
    | _ => s.drop (niLoc n) n h.inPort 1 h.pkt

/-! ## Outputs -/

/-- The place that an output leads to. -/
def outPlace (n o : Nat) : Place :=
  if o = 4 then .unit (niLoc n) else if o = 5 then .unit bnLoc
  else match neighbour n o with
    | some m => .router m (farPort o)
    | none => .unit ⟨n % 48, n / 48, o + 1⟩

/-- A unit has room for a packet (R95, R113): it takes RSP, SNP and read-return data without waiting, and a request or DAT class 0 packet
while what waits before it leaves room. Log entry 53, DESIGN CHOICE; log entry 146, DESIGN CHOICE. -/
def State.unitRoom (s : State) (l : Loc) (p : Pkt) : Bool :=
  if p.net = .rsp ∨ p.net = .snp ∨ p.cls = 1 then true
  else
    let coming := ((s.net.filter (fun f => decide (f.place = .unit l) && sameVc f.pkt p)).map (fun f => nflits f.pkt)).sum
    coming == 0 || decide (coming + nflits p ≤ Config.unitQueue)

/-- A waiting packet may start (R95, R70): room behind the output, and for DAT an open run. Log entry 53, DESIGN CHOICE. -/
def State.mayStart (s : State) (n : Nat) (h : Held) : Bool :=
  (match outPlace n h.out with
   | .router m q => s.roomFor m q h.pkt
   | .unit l => s.unitRoom l h.pkt) &&
  (h.pkt.net != .dat || decide (nflits h.pkt ≤ s.openRunOut n h.out))

/-- Packets that wait for an output on a network, the first of each input and channel, as R97 lets them compete: an aged output
starts its aged packet only, and SNP fabric commands come before the rest. Log entry 57, DEDUCED. -/
def State.competing (s : State) (n o net : Nat) : List Held :=
  let w := (s.rt n).held.filter (fun h => h.out == o && netCode h.pkt.net == net)
  let key := fun (h : Held) => 16 * h.inPort + h.chan
  let heads := (w.foldl (fun (l : List Held) h => if l.any (fun x => key x == key h) then l else l ++ [h]) [])
  let ready := match heads.find? (fun h => h.aged) with
    | some h => [h].filter (s.mayStart n)
    | none => heads.filter (s.mayStart n)
  if ready.any (fun h => h.pkt.fabric) then ready.filter (fun h => h.pkt.fabric) else ready

/-- Round robin over input and channel (R97): the first key from the one after the last served. Log entry 57, DEDUCED. -/
def State.robin (s : State) (n o net : Nat) (l : List Held) : Option Held :=
  let last := (s.rt n).rr.get (8 * o + net) 0
  let dist := fun (h : Held) => (16 * h.inPort + h.chan + 128 - last % 128) % 128
  l.foldl (fun b h => match b with
    | none => some h
    | some x => if dist h < dist x then some h else some x) none

/-- Start a waiting packet on its output (R95, R97). Log entry 57, DEDUCED. -/
def State.startOut (s : State) (n net : Nat) (h : Held) : State :=
  let s := s.modRt n (fun r => { r with
    held := delFirst (fun x => decide (x = h)) r.held
    rr := r.rr.put (8 * h.out + net) ((16 * h.inPort + h.chan + 1) % 128) })
  let s := if h.pkt.net = .dat then
      s.modRg (regionOf n) (fun r => { r with flits := r.flits + nflits h.pkt }) else s
  s.push (outPlace n h.out) h.pkt

end Sys2Proof.Machine
end

