-- ==== Sys2Proof/Machine/OpenPlane.lean ====
section
/-!
DEFINITION. The open plane (R94 to R121): routers, drops, purges, the flows of an NI and the timeout of open transactions.
-/

namespace Sys2Proof.Machine

/-! ## Routers -/

/-- The DETAIL of a flit check and of a discarded packet (R275). -/
def flitDetail (p : Pkt) (port : Nat) : Nat := netCode p.net <<< 15 + port <<< 12

/-- A header reaches a router in service (R105, R109). An injected check error counts like a real one (R301). -/
def State.headerAt (s : State) (n port : Nat) (p : Pkt) (chk : Nat) : State :=
  let inj := s.injCheck .ni n [0, 1, 4]
  let s := inj.2
  let chk := if inj.1 = some 0 then 1 else if inj.1 = some 1 then 2 else chk
  let injected := inj.1.isSome
  let s := if inj.1 = some 4 then s.unitEvent .ni n 4 (Config.parityAt s.fresh n % 2 ^ 18) true else s
  let det := flitDetail p port
  let s := if chk = 1 then s.unitEvent .ni n 0 det injected
    else if chk = 2 then (s.unitEvent .ni n 1 det injected).report .ni n 10 (30 + 15 <<< 8 + det)
    else if chk = 3 then s.unitEvent .ni n 1 det injected else s
  if s.routerUp n = false ∨ chk = 2 then s else s.routed n port p (s.route n port p)

/-- A router has an input port: a neighbour or an attachment is there (R17), L, or the Binnacle beside P(23,23) and P(24,24) (R99). -/
def portThere (n port : Nat) : Bool :=
  if port < 4 then (neighbour n port).isSome || (attachOf ⟨n % 48, n / 48, port + 1⟩).isSome
  else port == 4 || (port == 5 && (n == bnLoc.slot || n == 48 * 24 + 24))

/-- A header can arrive by an input (R17): by a port that is there, or from the router's own combining slots. -/
def State.arrives (s : State) (n port : Nat) (p : Pkt) : Bool :=
  if port = slotIn then s.net.any (fun f => decide (f.place = .router n slotIn) && decide (f.pkt = p)) else portThere n port

/-- A packet of a unit starts on the unit's link into the router (R22, R94, R95): the input has room for it, and an open DAT packet of an
attachment finds an open run of the positions that the chart leaves on that link. An NI's DAT packets have found theirs when they started
(R116), and mesh packets when the router before sent them. Log entry 147, DESIGN CHOICE. -/
def State.admitted (s : State) (n port : Nat) (p : Pkt) : Bool :=
  if (port < 4 ∧ (neighbour n port).isSome = true) ∨ port = slotIn then true
  else
    let r := s.rg (regionOf n)
    s.heldRoom n port p &&
      (p.net != .dat || decide (4 ≤ port) ||
        (decide (r.slot < 16) && !r.stalled && !r.frozen && decide (nflits p ≤ openRun (s.claimed n port) r.L r.slot)))

/-- ROUTE_HEADER (R109). Combined answers go back along their tree and are not routed (R152); an input with nothing behind it receives
nothing (R17). Log entry 127, DESIGN CHOICE; log entry 147, DESIGN CHOICE. -/
def execRouteHeader (n port : Nat) (p : Pkt) (chk : Nat) (s : State) : Host.Outcome State Fault Refusal :=
  run (.routeHeader n port p chk) s (fun s =>
    if s.frozenAt n = true ∨ (p.net = .rsp ∧ p.dst.port = 7) ∨ s.arrives n port p = false then s
    else if s.routerUp n = false then s.takeNet (.router n port) p
    else if s.admitted n port p then (s.takeNet (.router n port) p).headerAt n port p chk
    else s)

/-- ESC_WAIT_EXPIRE (R109): the packet moves to escape when escape has room, and waits on otherwise. -/
def execEscWaitExpire (n : Nat) (p : Pkt) (s : State) : Host.Outcome State Fault Refusal :=
  run (.escWaitExpire n p) s (fun s =>
    match (s.rt n).held.find? (fun h => decide (h.pkt = p)) with
    | none => s
    | some h =>
      if p.esc || p.fabric || s.frozenAt n || decide (outSlot ≤ h.out) then s
      else
        let gen := s.fld RT_CFG_ESC_GEN n
        let q := { p with esc := true, egen := gen }
        match s.follow n (escField h.entry gen) q with
        | .out o _ =>
          let room := match outPlace n o with
            | .router m i => s.roomFor m i q
            | .unit l => s.unitRoom l q
          if room then
            (s.modRt n (fun r => { r with held := delFirst (fun x => decide (x = h)) r.held })).hold n h.inPort h.chan o h.entry q
          else s
        | _ => s.reroute n h)

/-- OUTPUT_AGED (R97): in AGE_LIMIT local beats no open run was long enough. -/
def execOutputAged (n : Nat) (p : Pkt) (s : State) : Host.Outcome State Fault Refusal :=
  run (.outputAged n p) s (fun s =>
    match (s.rt n).held.find? (fun h => decide (h.pkt = p)) with
    | none => s
    | some h =>
      if p.net = .dat ∧ zeroAsOne (s.fld RT_CFG_AGE_LIMIT n) ≤ h.waited ∧ s.openRunOut n h.out < nflits p then
        s.modRt n (fun r => { r with held := updFirst (fun x => decide (x = h)) (fun x => { x with aged := true }) r.held })
      else s)

/-- COMBINING_SLOT_FREE (R152): the oldest packet that waits for a slot takes it. -/
def execCombiningSlotFree (n : Nat) (s : State) : Host.Outcome State Fault Refusal :=
  run (.combiningSlotFree n) s (fun s =>
    if 32 ≤ (s.rt n).slots.length ∨ s.frozenAt n = true then s
    else
      match (s.rt n).held.find? (fun h => decide (outSlot ≤ h.out)) with
      | some h =>
        (s.modRt n (fun r => { r with held := delFirst (fun x => decide (x = h)) r.held })).copyDown n h.inPort h.chan
          (h.out == outSlot + 1) h.pkt
      | none => s)

/-- A purge of a generation (R112): its packets in the escape buffers are discarded with DROP PURGED, and reductions of that generation
that have not ended fail (R190). -/
def State.purge (s : State) (n gen : Nat) : State :=
  let gone := (s.rt n).held.filter (fun h => decide (4 ≤ h.chan) && h.chan % 2 == gen)
  let s := s.modRt n (fun r => { r with held := r.held.filter (fun h => !(decide (4 ≤ h.chan) && h.chan % 2 == gen)) })
  let s := ((s.rt n).reds.filter (fun r => r.gen == gen)).foldl (fun s r => s.redFail n r.rid stTARGET_FENCED) s
  gone.foldl (fun s h => s.drop (niLoc n) n h.inPort 2 h.pkt) s

/-- A write of RT_CTRL (R112). -/
def State.rtCtrl (s : State) (n v : Nat) : State :=
  s.regWrite (RT_CTRL.addr n 0) v (fun s =>
    let s := if bit v 0 then s.purge n 0 else s
    if bit v 1 then s.purge n 1 else s)

/-- PURGE0 (R112): a write of RT_CTRL. -/
def execPurge0 (n v : Nat) (s : State) : Host.Outcome State Fault Refusal :=
  run (.purge0 n v) s (fun s => s.rtCtrl n v)

/-- PURGE1 (R112): a write of RT_CTRL. -/
def execPurge1 (n v : Nat) (s : State) : Host.Outcome State Fault Refusal :=
  run (.purge1 n v) s (fun s => s.rtCtrl n v)

/-! ## Sources -/

/-- A DROP ends a transfer at its NI (R107), or a contribution's reduction (R190). No transaction waits on a CREDIT_RETURN, a CREDIT_CANCEL,
a ROLLCALL, a RED_RESULT or a RED_FAIL. Log entry 51, DESIGN CHOICE. -/
def State.dropAtNi (s : State) (n : Nat) (p : Pkt) : State :=
  let st := dropStatus (p.arg 0)
  let s := (s.niCause n NI_OPEN_STATUS_DROP 10 1).log .ni n 0x0B 0 (s.ltileOf n p.src.slot) (p.arg 0)
  if p.arg 2 = 1 ∧ p.arg 1 = 0x20 then s.redFail n p.txn stTARGET_FENCED
  else if (p.arg 2 = 1 ∧ p.arg 1 = 0x21) ∨ (p.arg 2 = 0 ∧ [0x03, 0x04, 0x0E, 0x20].contains (p.arg 1) = true) then s
  else match s.findTx n p.txn with
    | some t => s.txEnd t st
    | none => s

/-- DROP (R107): the transfer ends at the NI, the Binnacle's engine or the host port that sent the packet; of a host port's packets only
register packets wait for an answer. -/
def execDrop (at_ : Nat) (p : Pkt) (s : State) : Host.Outcome State Fault Refusal :=
  run (.drop at_ p) s (fun s =>
    if p.kind ≠ opDROP then s
    else if p.dst.port = 5 then s.atBn p (fun s => s.hashIn p (dropStatus (p.arg 0)))
    else match attachOf p.dst with
      | some (.hp h) => s.atUnit p.dst p (fun s =>
        if p.arg 2 = 0 ∧ (p.arg 1 = 0x10 ∨ p.arg 1 = 0x11) then s.hpRegDone h p.txn (dropStatus (p.arg 0)) 0 else s)
      | _ => if p.dst.port = 0 ∧ p.dst.slot = at_ ∧ at_ < 2304 then s.atNi at_ p (fun s => s.dropAtNi at_ p) else s)

/-- OPEN_PACKET_START (R118): at an open position of the L link with room in the router, fair queueing starts a packet.
Without room for the head that fair queueing selects, nothing starts. Log entry 161, DESIGN CHOICE. -/
def execOpenPacketStart (n : Nat) (s : State) : Host.Outcome State Fault Refusal :=
  run (.openPacketStart n) s (fun s =>
    if s.niUp n = false ∨ s.frozenAt n = true then s
    else
      match s.selectFlow n (s.openRunL n) with
      | none => s
      | some f =>
        match (s.fl n f).queue with
        | [] => s
        | p :: _ =>
          if p.kind = opRED_DATA ∨ s.roomFor n 4 p = true then (s.startFlow n f).injEvent .ni n (Config.parityAt s.fresh n % 2 ^ 18) [5] else s)

/-- WHEEL_UNPARK (R117). -/
def execWheelUnpark (n f : Nat) (s : State) : Host.Outcome State Fault Refusal :=
  run (.wheelUnpark n f) s (fun s =>
    let x := s.fl n f
    if x.parked = some (s.wheelPos n) ∧ s.frozenAt n = false then (s.setFl n f { x with parked := none }).checkFlow n f else s)

/-- FLOW_RATE_WRITE (R119): the bucket is emptied or filled, and a parked flow is checked at the next local beat. -/
def execFlowRateWrite (n f v : Nat) (s : State) : Host.Outcome State Fault Refusal :=
  run (.flowRateWrite n f v) s (fun s =>
    s.regWrite (NI_FLOW_RATE.addr n f) v (fun s =>
      let s := s.writeTyped NI_FLOW_RATE n f v
      let x := s.fl n f
      s.setFl n f { x with
        bucket := if s.fld NI_FLOW_CFG_RESET_FULL n f = 1 then s.bucketMax n f else 0
        parked := x.parked.map (fun _ => checkNext) }))

/-- FLOW_CFG_WRITE (R119): settings take effect, and enabling gives the head a fresh tag. -/
def execFlowCfgWrite (n f v : Nat) (s : State) : Host.Outcome State Fault Refusal :=
  run (.flowCfgWrite n f v) s (fun s =>
    s.regWrite (NI_FLOW_CFG.addr n f) v (fun s =>
      let was := s.fld NI_FLOW_CFG_ENABLE n f
      let s := s.writeTyped NI_FLOW_CFG n f v
      let x := s.fl n f
      match x.queue with
      | p :: _ =>
        if was = 0 ∧ bit v 31 = true then
          let len := s.charge n f p
          let tag := (s.V n + len * 256 / s.weight n f) % 2 ^ 32
          (s.setFl n f { x with headLen := len, fHead := tag, fLast := tag }).checkFlow n f
        else s
      | [] => s))

/-- OPEN_TIMEOUT (R121); of a transaction that a flushed queue has cost a packet, TARGET_FENCED (R54). Trace packets are not timed here (R422).
Log entry 17, DESIGN CHOICE; log entry 144, DEDUCED; log entry 177, DESIGN CHOICE. -/
def execOpenTimeout (n txn : Nat) (s : State) : Host.Outcome State Fault Refusal :=
  run (.openTimeout n txn) s (fun s =>
    match s.findTx n txn with
    | none => s
    | some t =>
      if t.use = .trace ∨ s.frozenAt n = true then s
      else if t.lost then s.txEnd t stTARGET_FENCED
      else
        let w := s.awaitedOf t
        let peer := if w.1 = 0 then w else (4, t.chip)
        ((s.niCause n NI_OPEN_STATUS_TIMEOUT 10 2).log .ni n 0x0A peer.1 peer.2 txn).txEnd t stTIMEOUT)

end Sys2Proof.Machine
end

