-- ==== Sys2Proof/Machine/BnOps.lean ====
section
/-!
DEFINITION. The Binnacle: its persistent log (R394 to R396), its attention (R452), jobs stopped by Stolrel (R277), and what
Stolrel does with a message of its inbox (R279, R280, R380, R381).
-/

namespace Sys2Proof.Machine

/-! ## Flash: the model holds each byte inverted, so that an unlisted byte is an erased one -/

/-- Log entry 3, DESIGN CHOICE. -/
def State.flashRead (s : State) (a n : Nat) : List Nat := (s.flash.readN a n).map (fun b => b ^^^ 0xFF)
/-- Log entry 119, DESIGN CHOICE. -/
def State.flashWrite (s : State) (a : Nat) (d : List Nat) : State :=
  { s with flash := s.flash.writeN a (d.map (fun b => (b % 256) ^^^ 0xFF)) }
/-- Log entry 119, DESIGN CHOICE. -/
def State.flashErase (s : State) (lo hi : Nat) : State := { s with flash := s.flash.zero lo hi }

/-- Offset and size of the event log in flash (R394). -/
def logBase : Nat := 0x03800000
def logEntries : Nat := 131072

/-! ## The log in flash -/

/-- The 64 bytes of a log entry: words 0 to 6, then the CRC over bytes 0 to 59 (R395). Log entry 45, DESIGN CHOICE. -/
def logBytes (e : List Nat) : List Nat :=
  let d := e.flatMap (toBytes 8)
  let d := d ++ [0, 0, 0, 0]
  d ++ toBytes 4 (crc32c d)

/-! ## Jobs -/

/-- Stolrel stops a running job (R39, R277): the launching NI is told to abort its chart. Log entry 68, DEDUCED. -/
def State.stopJob (s : State) (l : Launch) : State :=
  s.emit (mkPkt opSEG_ABORT bnLoc (niLoc l.ni) 0 0 0 [stABORTED, l.chart, l.seg])

/-- Stolrel stops the jobs that satisfy p. Nothing happens while the Binnacle is in reset (R31). -/
def State.stopJobs (s : State) (p : Launch → Bool) : State :=
  if s.bnUp then (s.launches.filter p).foldl (fun s l => s.stopJob l) s else s

/-- A job uses a region. -/
def Launch.inRegion (l : Launch) (r : Nat) : Bool := l.members.any (fun m => regionOf m == r)

/-- A tenancy holds memory that a port serves (R338, R365). -/
def State.portServes (s : State) (port ten : Nat) : Bool :=
  let m := s.fbMap
  ((s.mpt port).grants).any (fun e => e.2.valid && e.2.ten == ten &&
    (decide (e.2.base * 2 ^ 26 < 16 * m.ilv * 2 ^ 30) ||
      m.near.any (fun r => r.2.valid && r.2.port == port && decide (e.2.base < 16 * (r.2.base + r.2.size) ∧
        16 * r.2.base < e.2.base + e.2.size))))

/-! ## Messages -/

/-- Stolrel's range of HBM is lost in part (R381): it logs the register concerned and does no more requests or repairs. -/
def State.rangeLost (s : State) (off v : Nat) : State :=
  if s.bn.lost then s else (s.modBn (fun b => { b with lost := true })).bnLog 0x0A 0 0 [off <<< 32 + v % 2 ^ 32]

/-- Stolrel acts on a message (R48, R277, R279, R282, R283, R381). Log entry 68, DEDUCED. -/
def State.takeMsg (s : State) (p : Pkt) : State :=
  if p.kind ≠ opERR_MSG then s else
    let kind := p.arg 4
    let severe := p.arg 1 = 1
    let safe := p.arg 2 = 1
    let s := if severe then s.severeLog p else s
    if kind = 2 ∧ (safe ∨ (severe ∧ (p.arg 0 = 1 ∨ p.arg 0 = 2))) then s.stopJobs (fun l => l.inRegion (p.arg 5))
    else if kind = 3 ∧ safe then
      (s.rangeLost ((xx_ERR_STATUS .mp).addr (p.arg 5) 0) (s.rd (xx_ERR_STATUS .mp) (p.arg 5))).stopJobs
        (fun l => s.portServes (p.arg 5) l.ten)
    else s

/-- Stolrel takes every message of its inbox, in order. Log entry 48, DEDUCED. -/
def State.drainInbox (s : State) : State :=
  let ms := s.bn.inbox
  ms.foldl (fun s p => s.takeMsg p) (s.modBn (fun b => { b with inbox := [] }))

/-- A message reaches the Binnacle: it takes a place of the inbox, or is discarded as an INBOX event (R380).
Log entry 48, DEDUCED; log entry 50, DEDUCED. -/
def State.inboxIn (s : State) (p : Pkt) : State :=
  if s.bn.inbox.length < 64 then s.modBn (fun b => { b with inbox := b.inbox ++ [p] }) else s.unitEvent .bn 0 6 0

/-! ## TICK -/

/-- Instances of a unit kind that keeps an error set (R273). -/
def UnitKind.count : UnitKind → Nat
  | .ni | .red => 2304
  | .rg => 36
  | .mp => 16
  | .ol => 32
  | .hp => 2
  | .tp | .bn => 1

/-- The unit kinds in order of UNIT_KIND. -/
def unitKinds : List UnitKind := [.ni, .red, .rg, .mp, .ol, .hp, .tp, .bn]

/-- Bit k: a unit of UNIT_KIND k is in its safe state (FB_TICK_STATUS). -/
def State.safeKinds (s : State) : Nat :=
  unitKinds.foldl (fun m k => if (List.range k.count).any (fun i => s.fld (xx_ERR_STATUS_SAFE k) i == 1) then m + 2 ^ k.code else m) 0

/-- The conditions under which TICK toggles (R300, R439); it stays low under the recovery loader (R416). -/
def State.tickRuns (s : State) : Bool :=
  s.fld FB_TICK_CTRL_ENABLE == 1 && s.safeKinds == 0 && (s.fld FB_TICK_CTRL_KICK_LIMIT == 0 || s.chr.kickOk) &&
    s.fld CH_STATUS_REF_LOST == 0 && !s.bn.clockLost && s.fld BN_STATE_STATE != 1

/-! ## The mailbox -/

/-- A mailbox request ends (R383, R452). -/
def State.mboxEnd (s : State) (req status : Nat) (result : Option Nat) : State :=
  let s := match result with
    | some v => s.wr BN_MBOX_DATA 0 0 v
    | none => s
  let s := (s.setFld BN_MBOX_STATUS_STATUS status).setFld BN_MBOX_STATUS_REQ req
  ((s.setFld BN_MBOX_STATUS_DONE 1).setFld BN_MBOX_STATUS_BUSY 0).bnIrq

end Sys2Proof.Machine
end

