-- ==== Sys2Proof/Machine/Time.lean ====
section
/-!
DEFINITION. Chronometer, escapements and clock stretch (R35 to R51, R61, R470): what each event of the clocks does.
-/

namespace Sys2Proof.Machine

/-! ## The anchor hold and the mark -/

/-- A region requests the hold on the anchor line (R27, R44). -/
def State.holdsLine (s : State) (n : Nat) : Bool :=
  (s.rg n).holdReq && !(s.rg n).f3 && s.fld RG_ESC_CTRL_LOCKED n == 1

/-- The anchor hold: the OR of all requests (R45). -/
def State.holdLine (s : State) : Bool :=
  s.fld CH_CTRL_HOLD_FORCE == 1 || (List.range 36).any (fun n => s.holdsLine n)

/-- A region's hold request after its lag or its clock has changed (R45). Log entry 25, DEDUCED. -/
def Region.updHold (r : Region) : Region :=
  if 3 < r.lag ∨ r.absent = true then { r with holdReq := true }
  else if r.lag = 0 then { r with holdReq := false }
  else r

/-- A region with a running clock accepts the new S (R40). The first one after a LOAD becomes its local count too (R470).
Log entry 12, DESIGN CHOICE. -/
def State.acceptS (s : State) (n : Nat) : State :=
  let r := s.rg n
  if r.absent || r.f3 || !(s.powered n) then s.setRg n r.updHold
  else if r.reload then s.setRg n ({ r with L := s.S, s := s.S, slot := 16, stalled := false, reload := false }).updHold
  else s.setRg n ({ r with s := s.S }).updHold

/-- How far C and H move at a mark, with the sync step that waits for it (R36, R329): at a held mark they move by the same, so that S
stands. Log entry 23, DEDUCED. -/
def markSteps (step : Option Bool) (held : Bool) : Nat × Nat :=
  let c := match step with
    | none => 1
    | some true => 2
    | some false => 0
  (c, if held then c else 0)

/-- Count a sync step that has taken effect (R329). -/
def State.countStep (s : State) (step : Option Bool) : State :=
  match step with
  | none => s
  | some true => s.addFld FB_SYNC_STEPS_GAINS 1
  | some false => s.addFld FB_SYNC_STEPS_SKIPS 1

/-- A beat mark (R35, R36, R46, R430). Log entry 21, DESIGN CHOICE; log entry 23, DEDUCED. -/
def State.mark (s : State) : State :=
  let stop := s.chr.stopSeen ≠ 0 ∧ s.chr.stopBeat + 2 ≤ s.S
  let held := s.chr.holdSample || decide stop
  let st := markSteps s.chr.syncStep held
  let s := s.countStep s.chr.syncStep
  let s := { s with
    time := ⟨(s.time.c + st.1) % beatMod, (s.time.h + st.2) % beatMod⟩,
    stamp := if beatMod ≤ s.time.c + st.1 then [] else s.stamp,
    chr := { s.chr with hold := held, syncStep := none, prevC := if beatMod ≤ s.time.c + st.1 then (s.time.c + st.1) % beatMod else s.time.c } }
  let s := if s.chr.stopWire ∧ s.chr.stopSeen = 0 then { s with chr := { s.chr with stopSeen := 1, stopBeat := s.S } } else s
  let s := (List.range 36).foldl (fun s n => s.acceptS n) s
  (List.range 36).foldl (fun s n => s.freezeCheck n) s

/-- BEAT_MARK (R35, R36, R46, R430): a rising edge of ref. While RUN is 0 it is no mark, and only the hold is sampled. The edge samples
the line before any region has answered this mark, so that a request raised after one mark takes effect two marks later (R46).
Log entry 22, DEDUCED. -/
def execBeatMark (s : State) : Host.Outcome State Fault Refusal :=
  runTime .beatMark s (fun s =>
    let t := if s.fld CH_CTRL_RUN = 1 then s.mark else s
    { t with chr := { t.chr with holdSample := s.holdLine, refGone := false } })

/-! ## CH_CTRL -/

/-- C is loaded (R38, R470): H is 0; each region that accepts S takes it as its local count with lag 0, and ends a stall of the beat
that it leaves; one that cannot accept does so when it next can; charts abort at the next local beat.
Log entry 12, DESIGN CHOICE; log entry 25, DEDUCED. -/
def State.loadC (s : State) : State :=
  let c := s.pair CH_LOAD_LO CH_LOAD_HI % beatMod
  let move := fun (x : Nat) => (c + x + beatMod - s.time.c) % beatMod
  let s := { s with time := ⟨c, 0⟩, stamp := [],
                    chr := { s.chr with prevC := c, syncSent := move s.chr.syncSent, syncGot := move s.chr.syncGot } }
  (List.range 36).foldl (fun s n => ((s.endStall n).modRg n (fun r =>
    { r with reload := true, loadPend := true, holdReq := false })).acceptS n) s

/-- A write of CH_CTRL (R38): LOAD is judged by the RUN that the write leaves, and a write of both is discarded; any other gives RUN and
HOLD_FORCE their values. -/
def State.chCtrl (s : State) (v : Nat) : State :=
  if bit v 1 = true ∧ bit v 0 = true then s.setFld CH_STATUS_LOAD_IGNORED 1
  else
    let s := (s.setFld CH_CTRL_RUN (bits v 0 0)).setFld CH_CTRL_HOLD_FORCE (bits v 2 2)
    let s := if bit v 0 then s else { s with chr := { s.chr with prevC := s.time.c } }
    if bit v 1 then s.loadC else s

/-- The offset of CH_CTRL. -/
def chCtrlOff : Nat := CH_CTRL.addr 0 0

/-- CH_RUN (R38): a write of CH_CTRL. -/
def execChRun (v : Nat) (s : State) : Host.Outcome State Fault Refusal :=
  runTime (.chRun v) s (fun s => s.regWrite chCtrlOff v (fun s => s.chCtrl v))

/-- CH_LOAD (R38, R470): a write of CH_CTRL. -/
def execChLoad (v : Nat) (s : State) : Host.Outcome State Fault Refusal :=
  runTime (.chLoad v) s (fun s => s.regWrite chCtrlOff v (fun s => s.chCtrl v))

/-- HOLD_FORCE (R45): a write of CH_CTRL. -/
def execHoldForce (v : Nat) (s : State) : Host.Outcome State Fault Refusal :=
  runTime (.holdForce v) s (fun s => s.regWrite chCtrlOff v (fun s => s.chCtrl v))

/-- REF_LOST (R39). TICK stops without ref, which no edge then toggles (R300). -/
def execRefLost (s : State) : Host.Outcome State Fault Refusal :=
  run .refLost s (fun s =>
    ({ s with chr := { s.chr with refGone := true, prevC := s.time.c } }.setFld CH_STATUS_REF_LOST 1).stopJobs (fun _ => true))

/-! ## Beats and slots -/

/-- LOCAL_BEAT_START (R40, R41): after slot 15, with lag above 0. -/
def execLocalBeatStart (n : Nat) (s : State) : Host.Outcome State Fault Refusal :=
  run (.localBeatStart n) s (fun s =>
    let r := s.rg n
    if 16 ≤ r.slot ∧ 0 < r.lag ∧ r.frozen = false ∧ r.f3 = false ∧ r.absent = false ∧ s.powered n = true then
      let s := s.injEvent .rg n 0 [3, 4]
      if (s.rg n).f3 then s else ((s.skipPulses n).beatStart n).modRg n Region.updHold
    else s)

/-- SLOT_EXECUTE (R42, R61): the region runs its next slot, or stalls when a booked input or room is missing.
Log entry 18, DESIGN CHOICE; log entry 127, DESIGN CHOICE. -/
def execSlotExecute (n : Nat) (ue : List Nat) (s : State) : Host.Outcome State Fault Refusal :=
  run (.slotExecute n ue) s (fun s =>
    let r := s.rg n
    if r.slot < 16 ∧ r.stalled = false ∧ r.frozen = false ∧ r.f3 = false ∧ r.absent = false ∧ s.powered n = true then
      let slots := (List.range 64).map (regionSlot n)
      let s := if r.slot = 0 then slots.foldl (fun s t => s.switchIn t r.L) s else s
      let who := slots.filter (fun t => s.stalls t r.L r.slot)
      if who.isEmpty then
        (((s.skipPulses n).runSlot n r.L r.slot ue).modRg n (fun r => { r with slot := r.slot + 1 })).freezeCheck n
      else (who.foldl (fun s t => s.noteStall t r.L r.slot) s).modRg n (fun r => { r with stalled := true })
    else s)

/-- STALL_RESUME (R42): every booked input is present and every booked output has room. A segment that has come late may leave the region
stalled for an input of its own (R91). -/
def execStallResume (n cycles : Nat) (s : State) : Host.Outcome State Fault Refusal :=
  run (.stallResume n cycles) s (fun s =>
    let r := s.rg n
    if r.stalled = true ∧ r.frozen = false ∧ r.f3 = false ∧ r.absent = false ∧ s.powered n = true then
      let slots := (List.range 64).map (regionSlot n)
      let before := s
      let s := if r.slot = 0 then slots.foldl (fun s t => s.switchIn t r.L) s else s
      if slots.any (fun t => s.stalls t r.L r.slot) then
        (slots.filter (fun t => (before.rt t).cur.isNone && (s.rt t).cur.isSome)).foldl (fun s t => s.noteStall t r.L r.slot) s
      else
        let s := slots.foldl (fun s t =>
          if (s.rt t).stallSeen then
            (s.actingAt t r.L r.slot).foldl (fun s x => if x.1.injects then s.log .ni t 0x0D 15 0 x.1.stream else s) s
          else s) s
        let s := slots.foldl (fun s t => if (s.rt t).cur.isSome then s.waitClear t 6 else s) s
        ((s.skipPulses n).addFld RG_STALL_CNT_STALLS cycles n).modRg n (fun r => { r with stalled := false })
    else s)

/-- STALL_TIMEOUT (R48): SEVERE at once; the error message makes Stolrel stop the job. Log entry 17, DESIGN CHOICE. -/
def execStallTimeout (n : Nat) (s : State) : Host.Outcome State Fault Refusal :=
  run (.stallTimeout n) s (fun s =>
    if (s.rg n).stalled = true ∧ (s.rg n).frozen = false then s.unitEvent .rg n 2 0 else s)

/-! ## Clock monitor -/

/-- CLOCK_ABSENT (R45, R47). -/
def execClockAbsent (n : Nat) (s : State) : Host.Outcome State Fault Refusal :=
  run (.clockAbsent n) s (fun s => s.modRg n (fun r => { r with absent := true }.updHold))

/-- CLOCK_ABSENT_CLEAR (R47, R48): the region accepts S again, and a gap within GAP_LIMIT is a CLOCK_GAP event. -/
def execClockAbsentClear (n : Nat) (s : State) : Host.Outcome State Fault Refusal :=
  run (.clockAbsentClear n) s (fun s =>
    if (s.rg n).absent = true then
      let s := (s.modRg n (fun r => { r with absent := false, resync := true })).acceptS n
      if (s.rg n).f3 then s else s.unitEvent .rg n 0 0
    else s)

/-- CLOCK_LOST (R48): SEVERE at once, and the region is fenced at F3. -/
def execClockLost (n : Nat) (s : State) : Host.Outcome State Fault Refusal :=
  run (.clockLost n) s (fun s => if (s.rg n).absent = true then s.unitEvent .rg n 1 0 else s)

/-! ## Stretch -/

/-- DIP_DEMAND (R50): a greater demand raises the held depth at once. -/
def execDipDemand (n sag : Nat) (s : State) : Host.Outcome State Fault Refusal :=
  run (.dipDemand n sag) s (fun s => s.dipRead n sag)

/-- STRETCH_RELEASE (R50): the held depth falls straight to the demand. -/
def execStretchRelease (n : Nat) (s : State) : Host.Outcome State Fault Refusal :=
  run (.stretchRelease n) s (fun s => s.modRg n (fun r => if r.demand < r.held then { r with held := r.demand } else r))

end Sys2Proof.Machine
end

