-- ==== Sys2Proof/Machine/Sched.lean ====
section
/-!
DEFINITION. Charts and their segments (R60, R76, R80, R83, R84, R90, R92, R192): START, loading, SEG_DONE, aborts, ejected flits
and landing flits.
-/

namespace Sys2Proof.Machine

/-! ## Launch -/

/-- What a binding entry of 16 bits and its directory entry bind a context to (R171, R192). -/
def State.bindOf (s : State) (b : Nat) : RBind :=
  let w := s.redEntry (bits b 11 0)
  ⟨bits b 11 0, bits w 56 53, bits w 52 48, bits w 46 42, bits w 41 35, bit b 14⟩

/-- A COMBINE of a segment image, or of one that follows it in the chart, names a context without a binding (R192). The fuel is the number
of segments that an index can name. -/
def State.unbound (s : State) (ni : Nat) (c : ChartRun) (bs : SMap RBind) : Nat → Nat → Bool
  | 0, _ => false
  | fuel + 1, ofs =>
    let g := (s.readSeg ni c ofs).img
    g.entries.any (fun e => e.action == 4 && (List.range e.slots.length).any (fun k => !(bs.any (fun b => b.1 == e.rctx + k)))) ||
    (!g.last && decide (g.next + 64 ≤ (s.pairRange ni (s.fld NI_CHART_CTRL_PAIR ni)).2) && s.unbound ni c bs fuel g.next)

/-- The mode against which a chart is checked (R192, R251): that in which its launch started, and the chip's for a system chart. -/
def State.chartStrict (s : State) (c : ChartRun) : Bool :=
  match s.launches.find? (fun l => l.ni == c.launcher && l.chart == c.chart && !c.system) with
  | some l => l.mode % 2 == 1
  | none => s.strict

/-- The checks of a binding list in order (R192): the first status that fails, and the bindings. -/
def State.bindings (s : State) (ni : Nat) (c : ChartRun) (first : Nat) : Option Nat × SMap RBind :=
  let pr := s.pairRange ni (s.fld NI_CHART_CTRL_PAIR ni)
  let b := pr.1 + first - 192
  if first < 192 ∨ pr.2 < first then (some stACCESS_DENIED, [])
  else
    let strict := bit (s.spadWord ni b 0) 63
    let raw := (List.range 64).map (fun i => (i, bits (s.spadWord ni b (1 + i / 4)) (16 * (i % 4) + 15) (16 * (i % 4))))
    let live := raw.filter (fun x => bit x.2 15)
    let bs := live.map (fun x => (x.1, s.bindOf x.2))
    let okTen := fun (x : Nat × RBind) =>
      let w := s.redEntry x.2.rid
      bit w 63 && (c.system || bits w 62 57 == c.ten)
    let okFmt := fun (x : Nat × RBind) =>
      fmtOk x.2.op x.2.inF x.2.outF x.2.k &&
      (x.2.op != 4 || decide (x.2.k ≤ 32) || x.2.tail || bs.any (fun y => y.1 == x.1 + 1 && y.2.tail))
    let st :=
      if strict ≠ s.chartStrict c then some stSTRICT_FORBIDDEN
      else if bs.all okTen = false then some stACCESS_DENIED
      else if bs.all okFmt = false ∨ s.unbound ni c bs 65536 first = true then some stBAD_DESCRIPTOR
      else if strict = true ∧ bs.any (fun x => x.2.op == 0) = true then some stSTRICT_FORBIDDEN
      else none
    (st, bs)

/-- A chart starts at an NI: its links take landing flits again (R90, R255). -/
def State.landAgain (s : State) (n : Nat) : State :=
  (List.range 4).foldl (fun s p => match offDie n p with
    | some (.ol x) => s.modOl x (fun l => { l with dropFrom := none })
    | _ => s) s

/-- The launch that a START tells of: the record at the NI it comes from. -/
def State.launchOf (s : State) (p : Pkt) : Option Launch := s.launches.find? (fun l => l.ni == p.src.slot && l.chart == p.arg 0)

/-- Tenancy of the chart that START launches at an NI (R353, R410): of the chart run's ring; a system chart has its NI's owner. -/
def State.chartTen (s : State) (n : Nat) (p : Pkt) : Nat :=
  match s.launchOf p with
  | some l => l.ten
  | none => s.owner n

/-- Consort was armed when the chart that START tells of was launched (R263). -/
def State.armedAt (s : State) (p : Pkt) : Bool :=
  match s.launchOf p with
  | some l => l.armed
  | none => s.fld FB_CONSORT_STATUS_ARMED == 1

/-- START at an NI in service (R60, R192, R260, R368, R375, R410): a member of another owner than the chart's tenancy refuses it. A START that
comes during local beat Lstart itself, after its slot 0, is late too.
Log entry 95, DEDUCED; log entry 143, DESIGN CHOICE; log entry 153, DESIGN CHOICE; log entry 156, DEDUCED. -/
def State.startAt (s : State) (n : Nat) (p : Pkt) : State :=
  let system := p.arg 3 == 1
  if system && p.src.port != 5 then s.report .ni n 15 (p.src.x <<< 6 + p.src.y)
  else if (if system then decide (2 ≤ s.tnState n) else s.tnState n != 1 || s.owner n != s.chartTen n p) then
    s.emit (mkPkt opSEG_ABORT (niLoc n) p.src 0 0 0 [stACCESS_DENIED, p.arg 0, 0])
  else
    let s := s.applyAbort n stABORTED
    let resume := p.arg 2 == 1
    let saved := if resume then s.savedMember n (p.arg 5) else (p.arg 1, [])
    let cb := if resume then ofBytes (s.hbmBytes (adBig (p.arg 5) + 8) 8) else 0
    let c : ChartRun := {
      chart := p.arg 0, lstart := p.arg 4, cb := cb, launcher := p.src.slot, system := system, ten := s.chartTen n p, saveAddr := 0,
      loading := some saved.1, nextReady := saved.2, waitSeg := none, nextStart := p.arg 4, abortPend := none, pauseAt := none, donePend := [],
      status := 0, sent := false, armed := s.armedAt p, nextOfs := saved.1 }
    let b := s.bindings n c (p.arg 1)
    let s := (s.setCh n (some c)).landAgain n
    let s := s.modRt n (fun r => { r with
      binds := b.2
      ended := none
      strict := s.chartStrict c
      sat := false
      readyNext := saved.2
      signals := []
      prevDep := []
      crc := crc64Init
      crcFlits := 0 })
    if s.fld NI_CHART_CTRL_ENABLE n = 0 then s.segFail n 0 stABORTED
    else if p.arg 4 < (s.rg (regionOf n)).L ∨ (p.arg 4 = (s.rg (regionOf n)).L ∧ 0 < (s.rg (regionOf n)).slot) then
      (s.niCause n NI_CHART_STATUS_LAUNCH_LATE 9 10).segFail n 0 stABORTED
    else match b.1 with
    | some st => s.segFail n 0 st
    | none => s

/-- START (R60). Log entry 95, DEDUCED. -/
def execStart (n : Nat) (p : Pkt) (s : State) : Host.Outcome State Fault Refusal :=
  run (.start n p) s (fun s => if p.kind ≠ opSTART then s else s.atNi n p (fun s => s.startAt n p))

/-- SEGMENT_LOADED (R65, R66, R80, R87): the segment that streams is refused, waits for contexts, or fills the idle bank. -/
def execSegmentLoaded (n : Nat) (s : State) : Host.Outcome State Fault Refusal :=
  run (.segmentLoaded n) s (fun s =>
    match s.ch n, (s.rt n).idle with
    | some c, none =>
      match c.loading with
      | none => s
      | some ofs =>
        if s.niUp n = false ∨ s.frozenAt n = true ∨ c.abortPend.isSome = true then s else
          let r := s.readSeg n c ofs
          let s := if r.ce then s.niCause n NI_CHART_STATUS_ENTRY_CE 9 5 else s
          let s := if r.ue then s.niCause n NI_CHART_STATUS_ENTRY_UE 9 6 else s
          let s := if r.stale then s.niCause n NI_CHART_STATUS_STALE 9 4 else s
          let s := if r.fenced then s.report .ni n 9 31 else s
          if r.bad.isEmpty then s.bankSeg n c r.img else s.segFail n r.img.seg (firstStatus r.bad)
    | _, _ => s)

/-- LOAD_WAIT_END (R76): the contexts that a load waited for are released. -/
def execLoadWaitEnd (n : Nat) (s : State) : Host.Outcome State Fault Refusal :=
  run (.loadWaitEnd n) s (fun s =>
    match s.ch n with
    | some c => match c.waitSeg with
      | some g => if s.ctxHeld n g ∨ c.sent = true then s else s.bankSeg n c g
      | none => s
    | none => s)

/-! ## Reports of a chart -/

/-- The segment that an abort completes (R84). -/
def Launch.abortSeg (l : Launch) : Nat := (l.abort.map (fun a => a.2)).getD l.seg

/-- A segment of a launched chart completes (R83, R233, R234): its completion record, whose START is the segment's, and the end of the
descriptor with the last one. -/
def State.segComplete (s : State) (l : Launch) (seg status : Nat) (last : Bool) : State :=
  match s.desc? l.desc with
  | none => s
  | some d =>
    let from_ := match l.segs.find? (fun g => g.seg == seg) with
      | some g => { d with startTs := g.ts, startH := g.h, startDigest := g.digest }
      | none => d
    let s := s.queueCpl from_ status 0 0 seg last from_.startTs
    if last then { s with launches := s.launches.filter (fun x => x.desc != l.desc) }.retire d status else s

/-- Write the header of a save area (R257). Log entry 96, DEDUCED. -/
def State.saveHeader (s : State) (l : Launch) (nextSeg cb save : Nat) : State :=
  let base := adBig save
  let k := l.members.length
  let fw := s.pair BN_FW_VERSION_LO BN_FW_VERSION_HI
  let ws := [l.chart <<< 32 + nextSeg <<< 16 + 1 <<< 8, cb, fw, k <<< 50 + l.group <<< 40 + l.ten <<< 32 + l.mode] ++
    (List.range 4).map (fun i => s.fld FB_MAP_DIGEST_DIGEST 0 (2 * i) + s.fld FB_MAP_DIGEST_DIGEST 0 (2 * i + 1) <<< 32) ++
    [s.stampOf (regionOf l.ni)] ++ List.replicate 22 0
  let head := ws.flatMap (toBytes 8)
  let crc := crc64 (head ++ s.hbmBytes (base + 256) (128 * k))
  s.hbmPut base (head ++ toBytes 8 crc)

/-- Report the segments that every NI of the slice has reported (R83, R256). An NI that has reported NEXT_SEG is past the boundary of a pause:
its abort follows (R261). The fuel is the number of reports held. -/
def State.report83 (s : State) (id : Nat) : Nat → State
  | 0 => s
  | fuel + 1 =>
    match s.launches.find? (fun l => l.desc == id) with
    | none => s
    | some l =>
      let mine := l.done.filter (fun d => d.1 == l.seg)
      if l.abort.isSome || !(l.members.all (fun m => mine.any (fun d => d.2.1 == m))) then s
      else
        let st := firstStatus (mine.map (fun d => d.2.2))
        let info := l.segs.find? (fun g => g.seg == l.seg)
        let len := match info with | some g => g.length | none => 0
        let last := match info with | some g => g.last | none => false
        let notify := match info with | some g => g.notify | none => false
        let s := if st = 0 then s.addPair TN_BEATS_LO TN_BEATS_HI len l.ten else s
        match l.pause with
        | some (d, next, cb, save) =>
          if l.seg + 1 = next ∧ l.done.any (fun d => decide (next ≤ d.1)) = true then s
          else if l.seg + 1 = next then
            match l.saveBad.orElse (fun _ => s.saveFails l.ten save 256) with
            | some bad => (s.segComplete l l.seg st true).finish d bad
            | none => ((s.saveHeader l next cb save).segComplete l l.seg st true).finish d stOK
          else
            let s := if notify || st != 0 then s.segComplete l l.seg st false else s
            { s with launches := updFirst (fun x => x.desc == id) (fun x => { x with seg := x.seg + 1 }) s.launches }.report83 id fuel
        | none =>
          if last then s.segComplete l l.seg st true
          else
            let s := if notify || st != 0 then s.segComplete l l.seg st false else s
            { s with launches := updFirst (fun x => x.desc == id) (fun x => { x with seg := x.seg + 1 }) s.launches }.report83 id fuel

/-- A SEG_ABORT of a system chart reaches Stolrel (R84, R410): ABORT goes to every NI that runs the chart. Log entry 153, DESIGN CHOICE. -/
def State.systemAbort (s : State) (p : Pkt) : State :=
  let runs := s.chart.filter (fun e => match e.2 with
    | some c => c.system && c.chart == p.arg 1 && c.abortPend.isNone
    | none => false)
  runs.foldl (fun s e => s.emit (mkPkt opABORT bnLoc (niLoc e.1) 0 0 0 [p.arg 0, p.arg 1, p.arg 2])) s

/-- SEG_DONE (R83) at the launching NI, or of a system chart at the Binnacle (R410). -/
def execSegDone (n : Nat) (p : Pkt) (s : State) : Host.Outcome State Fault Refusal :=
  run (.segDone n p) s (fun s =>
    if p.kind ≠ opSEG_DONE then s
    else if p.dst.port = 5 then s.takeNet (.unit bnLoc) p
    else
      s.atNi n p (fun s =>
        match s.launches.find? (fun l => l.ni == n && l.chart == p.arg 0) with
        | none => s
        | some l =>
          let s := { s with launches := updFirst (fun x => x.desc == l.desc) (fun x => { x with
            done := x.done ++ [(p.arg 1, p.src.slot, p.arg 2)] }) s.launches }
          s.report83 l.desc (l.done.length + 1)))

/-- SEG_DONE_SEND (R83, R342): every ejected flit of the segment is in scratchpad and every booked write committed. -/
def execSegDoneSend (n : Nat) (s : State) : Host.Outcome State Fault Refusal :=
  run (.segDoneSend n) s (fun s =>
    match s.ch n with
    | none => s
    | some c =>
      match c.donePend with
      | [] => s
      | (seg, st) :: rest =>
        let open_ := (List.range 4).any (fun q => match offDie n q with
          | some (.mp m a) =>
            let x := s.mpt m
            (x.ready ++ x.cur.toList ++ x.suspended.toList ++ x.issued).any (fun t =>
              decide (t.kind = .bookWrite) && t.req == a && t.chart == c.chart && t.seg == seg)
          | _ => false)
        if s.niUp n = false ∨ s.frozenAt n = true ∨ open_ = true ∨ (s.rt n).ejecting.any (fun e => e.seg == seg) = true then s
        else
          let s := s.niSend n opSEG_DONE c.home c.ten 0 0 [c.chart, seg, st]
          let c' := { c with donePend := rest }
          let ended := rest.isEmpty && c.sent && c.status == 0 && (s.rt n).cur.isNone && (s.rt n).idle.isNone
          s.setCh n (if ended then none else some c'))

/-! ## Aborts -/

/-- A repair may still publish a map for this abort (R295): the NI that reports it, in `slot`, met a fenced port or a queue flushed by a
fence. Log entry 62, DEDUCED. -/
def State.heldForRepair (s : State) (slot chart status : Nat) : Bool :=
  status == stABORTED && (match s.ch slot with | some c => c.chart == chart && c.fence | none => false)

/-- SEG_ABORT (R84) at the launching NI: the first one decides the status of the segment that it names, and ABORT goes to every NI of the slice. A pause that
was asked for ends with the chart (R262). While Stolrel does not run, no further chart of a tenancy whose chart a fence has ended starts
(R31). Log entry 62, DEDUCED; log entry 145, DEDUCED. -/
def execSegAbort (n : Nat) (p : Pkt) (s : State) : Host.Outcome State Fault Refusal :=
  run (.segAbort n p) s (fun s =>
    if p.kind ≠ opSEG_ABORT then s
    else if p.dst.port = 5 then
      let s := s.takeNet (.unit bnLoc) p
      if s.bnUp then s.systemAbort p else s
    else
      s.atNi n p (fun s =>
        match s.launches.find? (fun l => l.ni == n && l.chart == p.arg 1 && l.abort.isNone) with
        | none => s
        | some l =>
          let s := l.members.foldl (fun s m => s.niSend n opABORT (niLoc m) 0 0 0 [p.arg 0, l.chart, p.arg 2]) s
          let s := match l.pause with
            | some (d, _) => s.finish d stABORTED
            | none => s
          let l' := { l with abort := some (p.arg 0, p.arg 2), pause := none,
                             holdGen := if s.heldForRepair p.src.slot l.chart (p.arg 0) then some (s.fld FB_MAP_GEN_GEN) else none }
          let s := { s with launches := updFirst (fun x => x.desc == l.desc) (fun _ => l') s.launches }
          let s := if l'.holdGen.isSome = true ∧ s.bnUp = false then s.modBn (fun b => { b with halted := b.halted ++ [l.ten] }) else s
          if l'.holdGen.isSome then s else s.segComplete l' (p.arg 2) (p.arg 0) true))

/-- ABORT (R84) at an NI of the slice: its router acts on it at its next local beat. -/
def execAbort (n : Nat) (p : Pkt) (s : State) : Host.Outcome State Fault Refusal :=
  run (.abort n p) s (fun s =>
    if p.kind ≠ opABORT then s else
      s.atNi n p (fun s =>
        match s.ch n with
        | some c => if c.chart = p.arg 1 then s.setCh n (some { c with abortPend := some (p.arg 0), sent := true }) else s
        | none => s))

/-! ## Ejected and landing flits -/

/-- EJECT_WRITE (R61, R74): the oldest ejected flit is written, and its stream may raise its signal. -/
def execEjectWrite (n : Nat) (s : State) : Host.Outcome State Fault Refusal :=
  run (.ejectWrite n) s (fun s =>
    match (s.rt n).ejecting with
    | [] => s
    | e :: rest =>
      if s.frozenAt n then s else
        let s := s.modRt n (fun r => { r with ejecting := rest })
        if s.niUp n = false then s else
          let s := (s.spadWrite n e.ofs (toBytes 256 e.data)).addPair NI_SCHED_RX_LO NI_SCHED_RX_HI 256 n
          if e.signal = false then s else
            let key := 16 * e.seg + e.stream
            let k := (s.rt n).signals.get key 0 + 1
            let s := s.modRt n (fun r => { r with signals := r.signals.put key k })
            let chart := match s.ch n with | some c => c.chart | none => 0
            (s.traceRec n 3 (s.owner n) none 15 0 e.stream k).checkWaits n 0 chart key k 0)

/-- Chart beat of the chart that receives a link's flits (R90): 0 before it is launched. -/
def State.landBeat (s : State) (n : Nat) : Nat :=
  let slot := (olLoc n).slot
  match s.ch slot with
  | some c => c.beat (s.rg (regionOf slot)).L
  | none => 0

/-- OL_LAND_CFG_WRITE (R92): ENABLE is judged by the DELAY that the same write leaves. -/
def execOlLandCfgWrite (n v : Nat) (s : State) : Host.Outcome State Fault Refusal :=
  run (.olLandCfgWrite n v) s (fun s =>
    s.regWrite (OL_LAND_CFG.addr n 0) v (fun s =>
      let s := s.setFld OL_LAND_CFG_DELAY (bits v 15 8) n
      if bit v 0 = false then s.setFld OL_LAND_CFG_ENABLE 0 n
      else if s.fld OL_LOCK_LOCK n + 8 ≤ min 127 (bits v 15 8) then s.setFld OL_LAND_CFG_ENABLE 1 n
      else (s.setFld OL_LAND_CFG_ENABLE 0 n).setFld OL_LAND_STATUS_DELAY_LOW 1 n))

end Sys2Proof.Machine
end

