-- ==== Sys2Proof/Machine/MapOps.lean ====
section
/-!
DEFINITION. What Stolrel computes and writes for the whole chip: the disabled map and its digest (R401, R469), route tables and
multicast trees (R108 to R112, R150 to R152), the logical map (R293), the distance sheet (R350, R351) and publication.
-/

namespace Sys2Proof.Machine

/-! ## The logical map -/

/-- Home positions of each region (R4). -/
def State.perRegion (s : State) : Nat := if s.fuse.grade = 0 then 60 else 56

/-- A spare position (R4). -/
def State.isSpare (s : State) (slot : Nat) : Bool := slot % 8 == 7 && (s.fuse.grade != 0 || decide (4 ≤ slot / 48 % 8))

def State.regionSlots (r : Nat) : List Nat := (List.range 64).map (regionSlot r)
def State.homes (s : State) (r : Nat) : List Nat := (State.regionSlots r).filter (fun t => !(s.isSpare t))
def State.spares (s : State) (r : Nat) : List Nat := (State.regionSlots r).filter s.isSpare

/-- A slot is healthy: at no fence, in a powered region that is not at F3. -/
def State.slotOk (s : State) (slot : Nat) : Bool :=
  s.level slot == 0 && !(s.rg (regionOf slot)).f3 && s.powered (regionOf slot)

/-- Give each home position of a region its logical tile, an unhealthy one's to the healthy spare with the lowest index (R401). -/
def State.regionMap (s : State) (r : Nat) : SMap Nat :=
  if (s.rg r).f3 || !(s.powered r) then [] else
    let good := (s.spares r).filter s.slotOk
    let hs := (s.homes r).zip (List.range s.perRegion)
    (hs.foldl (fun (a : SMap Nat × List Nat) h =>
      if s.slotOk h.1 then (a.1.put (s.perRegion * r + h.2) h.1, a.2)
      else match a.2 with
        | [] => a
        | sp :: rest => (a.1.put (s.perRegion * r + h.2) sp, rest)) (([] : SMap Nat), good)).1

/-- The map of a fresh bring-up (R401). -/
def State.freshMap (s : State) : SMap Nat := (List.range 36).flatMap (fun r => s.regionMap r)

/-- A region cannot field its grade's count of healthy tiles (R2). -/
def State.regionShort (s : State) (r : Nat) : Bool :=
  decide (((State.regionSlots r).filter s.slotOk).length < s.perRegion)

/-- The logical tile that a slot holds in the master copy. -/
def State.tileAt (s : State) (slot : Nat) : Option Nat := (s.bn.lmap.find? (fun e => e.2 == slot)).map (fun e => e.1)

/-- The unassigned healthy spare of a slot's region with the lowest index (R291). -/
def State.spareFor (s : State) (slot : Nat) : Option Nat :=
  (s.spares (regionOf slot)).find? (fun t => s.slotOk t && (s.tileAt t).isNone)

/-! ## The disabled map as bytes (R469) -/

/-- State of a physical slot in the disabled map. -/
def State.slotState (s : State) (slot : Nat) : Nat :=
  if (s.rg (regionOf slot)).f3 || !(s.powered (regionOf slot)) then 3 else s.level slot

/-- Bytes of a bit field of n bytes. -/
def bitBytes (n : Nat) (p : Nat → Bool) : List Nat :=
  (List.range n).map (fun i => (List.range 8).foldl (fun b j => if p (8 * i + j) then b + 2 ^ j else b) 0)

/-- A mesh link is out of service by an MLINK fence alone. -/
def State.mlinkOnly (s : State) (slot dir : Nat) : Bool :=
  s.fence.mlinks.contains (slot, dir) && decide (s.slotState slot < 2) &&
    (match neighbour slot dir with
     | some n => decide (s.slotState n < 2)
     | none => false)

/-- The string of R469. -/
def State.mapString (s : State) : List Nat :=
  [1, s.fuse.grade % 2] ++ List.replicate 14 0 ++ (List.range 2304).map s.slotState ++
    bitBytes 282 (fun i => s.mlinkOnly (48 * (i / 47) + i % 47) 1) ++ bitBytes 282 (fun i => s.mlinkOnly i 2) ++
    (List.range s.tiles).flatMap (fun t => toBytes 2 (s.bn.lmap.get t 0xFFFF))

/-- Eight words of a digest, byte 0 in bits 7:0 of word 0. -/
def digestWords (d : List Nat) : List Nat := (List.range 8).map (fun k => ofBytes (slice d (4 * k) 4))

/-- The map digest (R28). -/
def State.mapDigest (s : State) : List Nat := digestWords (sha256 s.mapString)

/-- Write eight digest registers. -/
def State.wrDigest (s : State) (r : RegDef) (i : Nat) (d : List Nat) : State :=
  (List.range 8).foldl (fun s k => s.wr r i k (d.getD k 0)) s

/-- Slots whose NIs are in service. -/
def State.nisUp (s : State) : List Nat := (List.range 2304).filter s.niUp
def State.routersUp (s : State) : List Nat := (List.range 2304).filter s.routerUp

/-- Half a word of a logical-map register: VALID and SLOT of a tile. -/
def lmapHalf (m : SMap Nat) (t : Nat) : Nat := match m.find? (fun e => e.1 == t) with
  | some e => 0x8000 + e.2
  | none => 0

/-- Write the registers that hold logical tiles 2k and 2k + 1 in every NI in service and both host ports (R293, R401). -/
def State.writeLmap (s : State) (k : Nat) : State :=
  let v := lmapHalf s.bn.lmap (2 * k) + lmapHalf s.bn.lmap (2 * k + 1) <<< 16
  let s := s.nisUp.foldl (fun s n => s.wr NI_LMAP n k v) s
  (s.wr HP_LMAP 0 k v).wr HP_LMAP 1 k v

/-! ## Routes -/

/-- A mesh link can carry packets: both routers and the link are in service. -/
def State.linkUp (s : State) (slot port : Nat) : Bool :=
  s.routerUp slot && (match neighbour slot port with
    | some n => s.routerUp n && !(s.fence.mlinks.contains (meshLink slot port))
    | none => false)

/-- Breadth-first search from a slot: for each router reached, its distance and the port that leads back. Log entry 60, DEDUCED. -/
def State.bfs (s : State) : Nat → Nat → List Nat → SMap (Nat × Nat) → SMap (Nat × Nat)
  | 0, _, _, t => t
  | fuel + 1, d, front, t =>
    match front with
    | [] => t
    | _ =>
      let r := front.foldl (fun (a : List Nat × SMap (Nat × Nat)) x =>
        (List.range 4).foldl (fun (a : List Nat × SMap (Nat × Nat)) p =>
          match neighbour x p with
          | some n => if s.linkUp x p && !(a.2.any (fun e => e.1 == n)) then (a.1 ++ [n], a.2.put n (d, farPort p)) else a
          | none => a) a) (([] : List Nat), t)
      s.bfs fuel (d + 1) r.1 r.2

/-- The tree of shortest paths to a slot. Log entry 60, DEDUCED. -/
def State.pathsTo (s : State) (slot : Nat) : SMap (Nat × Nat) :=
  if s.routerUp slot then s.bfs 2304 1 [slot] [(slot, (0, 4))] else []

/-- The dimension-order port, x first and then y (R108). -/
def dorPort (slot dest : Nat) : Nat :=
  if slot % 48 < dest % 48 then 1 else if dest % 48 < slot % 48 then 3
  else if slot / 48 < dest / 48 then 2 else if dest / 48 < slot / 48 then 0 else 4

/-- The dimension-order path is in service; the fuel bounds its length. -/
def State.dorUp (s : State) : Nat → Nat → Nat → Bool
  | 0, _, _ => false
  | fuel + 1, slot, dest =>
    let p := dorPort slot dest
    if p = 4 then s.routerUp slot
    else s.linkUp slot p && (match neighbour slot p with | some n => s.dorUp fuel n dest | none => false)

/-- OUT of an entry (R108): dimension order, or a shortest detour where that path is out of service. -/
def State.outPort (s : State) (paths : SMap (Nat × Nat)) (slot dest : Nat) : Option Nat :=
  match paths.find? (fun e => e.1 == slot) with
  | none => none
  | some e => some (if slot = dest then 4 else if s.dorUp 96 slot dest then dorPort slot dest else e.2.2)

/-- The slots from one to the root of a tree, itself first; the fuel bounds the length. -/
def toRoot (tree : SMap (Nat × Nat)) : Nat → Nat → List Nat
  | 0, _ => []
  | fuel + 1, x =>
    match tree.find? (fun e => e.1 == x) with
    | none => []
    | some e => if e.2.2 = 4 then [x] else x :: (match neighbour x e.2.2 with | some n => toRoot tree fuel n | none => [])

/-- The escape output from a slot towards a destination: first towards the root, then away from it (R110). `up` is the
destination's path to the root. -/
def escPort (tree : SMap (Nat × Nat)) (up : List Nat) (slot dest : Nat) : Nat :=
  if slot = dest then 4 else
    let back := (tree.find? (fun e => e.1 == slot)).map (fun e => e.2.2)
    match (up.zip (up.drop 1)).find? (fun x => x.2 == slot) with
    | some (c, _) => ((List.range 4).find? (fun p => neighbour slot p == some c)).getD 4
    | none => back.getD 4

/-- Where packets for the Binnacle arrive (R99). -/
def State.bnSlot (s : State) : Option Nat :=
  if s.routerUp 1127 then some 1127 else if s.routerUp 1176 then some 1176 else none

/-- The destination slot of a route-table entry: a router, or the Binnacle for entry 2,304. -/
def State.entryDest (s : State) (e : Nat) : Option Nat := if e < 2304 then some e else s.bnSlot

/-- Store a route-table entry. -/
def State.setEntry (s : State) (slot e v : Nat) : State :=
  if e % 2 = 0 then s.setFld RT_ROUTE_ENTRY_EVEN v slot (e / 2) else s.setFld RT_ROUTE_ENTRY_ODD v slot (e / 2)

/-- Field of an entry: 0 OUT, 1 ESC0, 2 ESC1. -/
def entryField (v k : Nat) : Nat := bits v (14 - 3 * k) (12 - 3 * k)

/-- The root of the escape trees that Stolrel builds: the router at which the Binnacle's packets arrive, or else the lowest in service
(R99, R110). Log entry 60, DEDUCED. -/
def State.escTree (s : State) : SMap (Nat × Nat) :=
  match s.bnSlot, s.routersUp with
  | some r, _ => s.pathsTo r
  | none, r :: _ => s.pathsTo r
  | none, [] => []

/-- Write OUT, and the escape field of generation g, of every entry of every router in service (R108, R112); an entry that leads nowhere
loses VALID, and its escape fields stay. At bring-up both generations are written. -/
def State.writeRoutes (s : State) (g : Nat) (both : Bool) : State :=
  let tree := s.escTree
  (List.range 2305).foldl (fun s e =>
    match s.entryDest e with
    | none => s.routersUp.foldl (fun s r => s.setEntry r e (setBits (s.routeEntry r e) 15 15 0)) s
    | some d =>
      let paths := s.pathsTo d
      let up := toRoot tree 2304 d
      s.routersUp.foldl (fun s r =>
        match s.outPort paths r d with
        | none => s.setEntry r e (setBits (s.routeEntry r e) 15 15 0)
        | some o =>
          let x := escPort tree up r d
          let old := s.routeEntry r e
          let v := setBits (setBits old 14 12 o) 15 15 1
          let v := setBits v (11 - 3 * g) (9 - 3 * g) x
          s.setEntry r e (if both then setBits v (8 + 3 * g) (6 + 3 * g) x else v)) s) s

/-! ## Multicast trees -/

/-- The routers and outputs from a router to a slot along the escape entries of a generation, the last with output 4. -/
def State.escPath (s : State) (g : Nat) : Nat → Nat → Nat → List (Nat × Nat)
  | 0, _, _ => []
  | fuel + 1, slot, dest =>
    let v := s.routeEntry slot dest
    if bit v 15 = false then []
    else
      let p := entryField v (1 + g)
      if p = 4 then [(slot, 4)]
      else match neighbour slot p with
        | some n => (slot, p) :: s.escPath g fuel n dest
        | none => []

/-- The slots of a group's members, in order of logical tile. -/
def State.grpSlots (s : State) (tiles : List Nat) : List Nat :=
  tiles.filterMap (fun t => (s.bn.lmap.find? (fun e => e.1 == t)).map (fun e => e.2))

/-- The copies that the tree of a group makes in a generation: pairs of a router and an output (R151). -/
def State.treeOf (s : State) (slots : List Nat) (g : Nat) : List (Nat × Nat) :=
  match slots with
  | [] => []
  | root :: _ => (slots.flatMap (fun m => s.escPath g 2304 root m)).dedup

/-- DOWN mask of a router in a tree: bits 3:0 N, E, S, W and bit 4 L. -/
def downOf (t : List (Nat × Nat)) (r : Nat) : Nat := (List.range 5).foldl (fun m p => if t.contains (r, p) then m + 2 ^ p else m) 0

/-- Write RT_GROUPg of the routers of its tree for the generations given (R150, R112). -/
def State.writeTree (s : State) (grp : Nat) (tiles : List Nat) (gens : List Nat) : State :=
  let slots := s.grpSlots tiles
  let root := slots.headD 0
  let t0 := s.treeOf slots 0
  let t1 := s.treeOf slots 1
  s.routersUp.foldl (fun s r =>
    let old := s.rd RT_GROUP r grp
    let d0 := if gens.contains 0 then downOf t0 r else bits old 18 14
    let d1 := if gens.contains 1 then downOf t1 r else bits old 13 9
    let v := if d0 + d1 = 0 then 0 else 2 ^ 31 + (root % 48) <<< 25 + (root / 48) <<< 19 + d0 <<< 14 + d1 <<< 9
    if v = old then s else s.wr RT_GROUP r grp v) s

/-- Rewrite the trees of every VALID group of the directory. Log entry 60, DEDUCED. -/
def State.writeTrees (s : State) (gens : List Nat) : State :=
  (List.range 1024).foldl (fun s g => if s.grpValid g then s.writeTree g (s.grpMap g) gens else s) s

/-- The generation in force: ESC_GEN of the routers in service. -/
def State.genNow (s : State) : Nat := match s.routersUp with
  | r :: _ => s.fld RT_CFG_ESC_GEN r
  | [] => 0

/-- A route change (R112). -/
def State.routeChange (s : State) : State :=
  let g := 1 - s.genNow
  let up := s.routersUp
  let s := up.foldl (fun s r => s.purge r g) s
  let s := s.writeRoutes g false
  let s := up.foldl (fun s r => s.setFld RT_CFG_ESC_GEN g r) s
  s.writeTrees [g]

/-! ## The distance sheet -/

/-- Hops and region boundaries along the route tables in force (R351); none where there is no route. -/
def State.routeLen (s : State) : Nat → Nat → Nat → Option (Nat × Nat)
  | 0, _, _ => none
  | fuel + 1, slot, dest =>
    let v := s.routeEntry slot dest
    if bit v 15 = false then none
    else
      let p := entryField v 0
      if p = 4 then some (0, 0)
      else match neighbour slot p with
        | none => none
        | some n =>
          match s.routeLen fuel n dest with
          | none => none
          | some (h, x) => some (h + 1, x + b2n (regionOf n != regionOf slot))

/-- An entry of the sheet (R351). Log entry 59, DEDUCED. -/
def State.distEntry (s : State) (t port : Nat) : Nat :=
  match s.bn.lmap.find? (fun e => e.1 == t) with
  | none => 2 ^ 31
  | some e =>
    let a := nearestAttach port e.2
    match s.routeLen 256 e.2 (mpLoc port a).slot with
    | none => 2 ^ 31
    | some (h, x) => a <<< 24 + (cdiv (2 * (h - x) + 16 * x) 16 % 256) <<< 16 + (x % 16) <<< 8 + h % 256

/-- Stolrel writes the distance sheet: word 0 with VALID 0, the rows, the digest, word 0 with VALID 1 (R350). -/
def State.writeSheet (s : State) : State :=
  let base := adBig (s.pair FB_DIST_LO FB_DIST_HI)
  let w0 := (s.fld FB_MAP_GEN_GEN) <<< 32 + s.tiles <<< 20 + 1
  let s := s.hbmPut base (toBytes 8 w0 ++ List.replicate 24 0)
  let s := (List.range s.tiles).foldl (fun s t =>
    s.hbmPut (base + 64 + 64 * t) ((List.range 16).flatMap (fun j => toBytes 4 (s.distEntry t j)))) s
  let s := s.hbmPut (base + 32) (s.fbDigest.flatMap (toBytes 4))
  s.hbmPut base (toBytes 8 (2 ^ 63 + w0))

/-! ## Publication -/

/-- A write of FB_MAP_GEN.PUBLISH (R293, R295): GEN advances, and completions held for another generation are decided. -/
def State.publishGen (s : State) : State :=
  let s := s.addFld FB_MAP_GEN_GEN 1
  let g := s.fld FB_MAP_GEN_GEN
  (s.launches.filter (fun l => match l.holdGen with | some h => h != g | none => false)).foldl (fun s l =>
    s.segComplete l l.abortSeg ((l.abort.map (fun a => a.1)).getD stABORTED) true) s

/-- Stolrel publishes the map (R28): FB_MAP_DIGEST, then PUBLISH. A change of the map disarms consort, and the partner is told (R263).
Log entry 67, DEDUCED. -/
def State.publishMap (s : State) : State :=
  let d := s.mapDigest
  let s := if s.fld FB_CONSORT_STATUS_ARMED = 1 ∧ d ≠ s.fbDigest then
      ((s.setFld FB_CONSORT_STATUS_ARMED 0).setFld FB_CONSORT_STATUS_MAP_DIFF 1).armFrame d
    else s
  (s.wrDigest FB_MAP_DIGEST 0 d).publishGen

end Sys2Proof.Machine
end

