-- ==== Sys2Proof/Machine/ResetOps.lean ====
section
/-!
DEFINITION. Resets (R12, R302, R369, R440), the boot of the Binnacle (R413, R416) and bring-up (R397 to R406).
-/

namespace Sys2Proof.Machine

/-! ## Islands, regions, links and the other units -/

/-- An ISLAND reset of a slot (R12, R369): its crossings are flushed (R54), its registers take their reset values, among them
NI_TN_STATE at SCRUB_FULL with OWNER 0, and the scrub that follows ends in FREE. Log entry 126, DESIGN CHOICE. -/
def State.islandReset (s : State) (n : Nat) : State :=
  let s := (List.range 4).foldl (fun s p => s.flushDead n p) s
  (s.resetRegs (islandReg n)).dropIslands (fun m => m == n)

/-- A REGION reset (R12): the controller and its 64 islands. The escapement takes S as its local count, with lag 0.
Log entry 124, DEDUCED. -/
def State.regionReset (s : State) (n : Nat) : State :=
  let slots := State.regionSlots n
  let s := slots.foldl (fun s t => (List.range 4).foldl (fun s p => s.flushDead t p) s) s
  let s := s.resetRegs (fun r i => (r.dom == .region && i == n) ||
    (r.dom == .island && (r.blk == .rt || r.blk == .ni) && regionOf i == n))
  let s := s.dropIslands (fun m => regionOf m == n)
  let s := { s with sched := s.sched.filter (fun f => !(f.port == 5 && f.region == n)) }
  let r := s.rg n
  s.setRg n { L := s.S, s := s.S, absent := r.absent, f3 := r.f3, frozen := r.frozen, holdReq := false }

/-- A LINK reset (R12): a link that was ACTIVE is lost first (R332); its lanes and buffers start afresh. -/
def State.linkReset (s : State) (n : Nat) : State :=
  let s := (s.linkLost n true).flushUnit (olLoc n)
  (s.resetRegs (fun r i => r.dom == .link && i == n)).setOl n {}

/-- What a memory port holds after its own reset: its copies of the map and the grants, its priorities and inputs stay.
Log entry 124, DEDUCED. -/
def MPort.fresh (m : MPort) : MPort :=
  { map := m.map, grants := m.grants, cap := m.cap, everReady := m.everReady, ctrlReady := m.ctrlReady, prio0 := m.prio0, prio1 := m.prio1,
    stuck := m.stuck, inputHeld := m.inputHeld, held := m.held }

/-- The Binnacle's messages: units that held one while it was in reset send it now (R33). Log entry 162, DESIGN CHOICE. -/
def State.sendPending (s : State) : State :=
  let es := s.err.filter (fun e => e.2.pendMsg.isSome)
  es.foldl (fun s e =>
    match e.2.pendMsg, unitKinds.find? (fun k => k.code == e.1 / 4096) with
    | some p, some k =>
      ((s.setEu k (e.1 % 4096) { e.2 with pendMsg := none }).setFld (xx_ERR_STATUS_MSG_PENDING k) 0 (e.1 % 4096)).sendMsg p
    | _, _ => s) s

/-! ## The image (R412, R413) -/

/-- Word i of an image. -/
def imgWord (d : List Nat) (i : Nat) : Nat := ofBytes (Sys2Proof.Machine.slice d (8 * i) 8)

def imgStolrelLen (d : List Nat) : Nat := bits (imgWord d 2) 31 0
def imgCalLen (d : List Nat) : Nat := bits (imgWord d 3) 63 32
def imgCoreLen (d : List Nat) : Nat := bits (imgWord d 3) 31 0
def imgSvn (d : List Nat) : Nat := bits (imgWord d 2) 63 58

/-- Round up to 4 KiB. -/
def pageUp (n : Nat) : Nat := cdiv n 4096 * 4096

/-- Where the core firmware and the calibration data start, and where the image ends. -/
def imgCoreAt (d : List Nat) : Nat := 4096 + pageUp (imgStolrelLen d)
def imgCalAt (d : List Nat) : Nat := imgCoreAt d + pageUp (imgCoreLen d)
def imgEnd (d : List Nat) : Nat := imgCalAt d + imgCalLen d

/-- The first check of R413 that an image fails, as FAIL_CAUSE; 0 when it passes. `svn` is the fuse SVN. Log entry 11, DESIGN CHOICE. -/
def imageCause (keyDigest svn : Nat) (d : List Nat) : Nat :=
  if bits (imgWord d 0) 63 32 ≠ 0x53544C52 ∨ bits (imgWord d 0) 31 24 ≠ 1 then 2
  else if 896 * 1024 < imgStolrelLen d ∨ 64 * 1024 < imgCalLen d ∨ 4 * 2 ^ 20 < imgCoreLen d ∨ 8 * 2 ^ 20 < imgEnd d then 7
  else
    let key := Sys2Proof.Machine.slice d 64 96
    let sig := Sys2Proof.Machine.slice d 160 96
    let body := (d.take 160) ++ List.replicate 96 0 ++ Sys2Proof.Machine.slice d 256 (imgEnd d - 256)
    if Config.sha384 key ≠ keyDigest then 3
    else if Config.ecdsaOk (ofBytes key) (ofBytes sig) (Config.sha384 body) = false then 4
    else if imgSvn d < svn then 5
    else 0

/-- Fuse SVN: what was blown at manufacture or since (R414). -/
def State.svnNow (s : State) : Nat := max s.fuse.svn s.bn.fuseSvn

/-- The image slot of the flash (R394). -/
def State.slotImage (s : State) : List Nat := s.flashRead 0 (8 * 2 ^ 20)

/-- The newest entry of the log area with a matching CRC: SEQ, BOOTS and entry number (R396). -/
def State.logNewest (s : State) : Option (Nat × Nat × Nat) :=
  let ns := (s.flash.filterMap (fun c => if logBase ≤ c.1 ∧ c.1 < logBase + 64 * logEntries then some ((c.1 - logBase) / 64) else none)).dedup
  ns.foldl (fun best n =>
    let d := s.flashRead (logBase + 64 * n) 64
    let seq := ofBytes (Sys2Proof.Machine.slice d 4 4)
    if crc32c (d.take 60) = ofBytes (Sys2Proof.Machine.slice d 60 4) then
      (match best with
       | some b => if b.1 < seq then some (seq, ofBytes (Sys2Proof.Machine.slice d 28 4), n) else best
       | none => some (seq, ofBytes (Sys2Proof.Machine.slice d 28 4), n))
    else best) none

/-- The recovery loader (R416): it waits for chunk 0. Log entry 124, DEDUCED. -/
def State.recovery (s : State) (cause : Nat) (flash : Nat) : State :=
  let s := (((s.setFld BN_STATE_STATE 1).setFld BN_STATE_FAIL_CAUSE cause).modBn (fun b => { b with recv := 0, wave := 0 }))
  if flash = 0 then s.bnLog 0x09 0 0 [cause] else s

/-- The ROM boots (R413, R456): the image is checked, and Stolrel runs, or the recovery loader. `flash`: 0 the device answers, 1 no
device or no parameter table, 2 a flash error. An armed injection meets the check of the ROM or of the engines (R301), and the boot ends there.
Log entry 181, DESIGN CHOICE. -/
def State.romBoot (s : State) (flash : Nat) : State × Bool :=
  let inj := s.injCheck .bn 0 [2, 3]
  let s := inj.2
  match inj.1 with
  | some src => (s.unitEvent .bn 0 src 0 true, false)
  | none =>
  let last := s.logNewest
  let s := s.modBn (fun b => { b with
    seq := match last with | some l => l.1 + 1 | none => b.seq
    boots := match last with | some l => max b.boots l.2.1 | none => b.boots
    logNext := match last with | some l => (l.2.2 + 1) % logEntries | none => b.logNext })
  let img := s.slotImage
  let cause := if flash = 1 then 1 else if flash = 2 then 6 else imageCause s.fuse.keyDigest s.svnNow img
  let s := s.setFld BN_STATE_PENDING 0
  if cause ≠ 0 then (s.recovery cause flash, false)
  else
    let v := imgWord img 1
    let s := (s.modBn (fun b => { b with version := v, svn := imgSvn img })).setPair BN_FW_VERSION_LO BN_FW_VERSION_HI v
    let s := { (s.setFld BN_STATE_FAIL_CAUSE 0).modBn (fun b => { b with halted := [] }) with bnUp := true }
    (s.sendPending.bnLog 0x01 0 0 [s.rd BN_STATE], true)

/-! ## READY -/

/-- READY (R404, R414), the map being published: TICK is enabled, and the entry logged, with the lack of lock in its word 6 (R403).
Log entry 15, DESIGN CHOICE; log entry 171, DESIGN CHOICE. -/
def State.nowReady (s : State) (fresh : Bool) : State :=
  let s := (s.setFld FB_REPAIR_STATUS_STATE 0).setFld FB_TICK_CTRL_ENABLE 1
  let s := if fresh then { s with chr := { s.chr with kickOk := true } } else s
  let s := (s.setFld BN_STATE_STATE 3).setFld BN_STATE_STEP 0
  let s := if fresh then s.setFld BN_STATE_READY_MS (Config.readyMs s.fresh) else s
  let out := ((List.range 2304).filter (fun t => s.slotState t != 0)).length
  let f3 := ((List.range 36).filter (fun r => (s.rg r).f3)).length
  let unlocked := fresh && s.fld FB_SYNC_STATUS_ROOT == 0 && s.fld FB_SYNC_STATUS_LOCKED == 0
  let s : State := s.bnLog 0x02 0 0 [(s.fld BN_STATE_READY_MS <<< 32) + out <<< 16 + f3, s.fld FB_MAP_GEN_GEN, b2n unlocked]
  if fresh = true ∧ s.fld BN_STATE_BOOT_CAUSE = 0 ∧ s.svnNow < s.bn.svn then
    (s.modBn (fun b => { b with fuseSvn := b.svn })).bnLog 0x06 0 0 [s.bn.version, s.bn.svn, s.bn.svn]
  else s

/-- READY with a map to publish (R401, R404): the map first, then the distance sheet. -/
def State.becomeReady (s : State) (fresh : Bool) : State := s.publishMap.writeSheet.nowReady fresh

/-- Stolrel rereads RG_STRETCH_CTRL of every region into its own copy (R393). -/
def State.rereadStretch (s : State) : State :=
  let copy := (List.range 36).map (fun r => (r, s.rd RG_STRETCH_CTRL r))
  s.modBn (fun b => { b with stretch := copy })

/-- The map that Stolrel builds before READY, without a patch (R401): a region with fewer healthy tiles than the grade's count is fenced
at F3 (R2), and NI_LMAP, HP_LMAP and NI_MAP_DIGEST take the map. -/
def State.rebuildMap (s : State) : State :=
  let s := (List.range 36).foldl (fun s r => if s.regionShort r then s.fenceF3 r else s) s
  let s := s.modBn (fun b => { b with lmap := s.freshMap })
  let s := (List.range 1080).foldl (fun s k => s.writeLmap k) s
  let d := s.mapDigest
  s.nisUp.foldl (fun s n => s.wrDigest NI_MAP_DIGEST n d) s

/-- Faults of bring-up that have appeared since the map was built change it, and the routes, before READY (R401). Log entry 123, DEDUCED. -/
def State.lateFaults (s : State) : State :=
  let d := s.mapDigest
  if s.nisUp.all (fun n => decide ((List.range 8).map (fun k => s.rd NI_MAP_DIGEST n k) = d)) then s else s.routeChange.rebuildMap

/-- Bring-up waits in step 9 for sync (R403): it ends when the chip is locked or a root, after 300 ms, or at once with PLAN_SEL 0.
Log entry 123, DEDUCED. -/
def State.tryReady (s : State) : State :=
  if s.bnUp = true ∧ s.fld BN_STATE_STATE = 2 ∧ s.fld BN_STATE_STEP = 9 ∧
      (s.fld FB_STRAP_PLAN_SEL = 0 ∨ s.fld FB_SYNC_STATUS_LOCKED = 1 ∨ s.fld FB_SYNC_STATUS_ROOT = 1 ∨ 300 ≤ s.bn.step9) then
    s.lateFaults.becomeReady true
  else s

/-! ## Bring-up -/

/-- A fabric global address in this chip's HBM (R13). -/
def State.hbmAddr (s : State) (ofs : Nat) : Nat := s.chipId <<< 52 + 2 ^ 50 + ofs

/-- Bring-up starts from step 2 (R397): the map is built afresh, so that no fence stays. Log entry 123, DEDUCED. -/
def State.bringUp (s : State) : State :=
  let s := (List.range 36).foldl (fun s r => s.modRg r (fun g => { g with f3 := false })) { s with fence := {} }
  ((s.setFld BN_STATE_STATE 2).setFld BN_STATE_STEP 2).rereadStretch.modBn (fun b => { b with
    wave := 0, step9 := 0, lmap := [], g := [], calm := [] })

/-- The slot is at a fence level in the map from now on. -/
def State.markSlot (s : State) (slot lev : Nat) : State :=
  { s with fence := { s.fence with level := s.fence.level.put slot (max lev (s.level slot)) } }

/-- Entry word 0 of reduction id 4,095, which Stolrel keeps: MIN over INT8 in group 1,023 (R402, R171). -/
def rid4095 : Nat := 2 ^ 63 + 2 <<< 53 + 6 <<< 48 + 6 <<< 42 + 1023 <<< 20

/-- Step 6 (R402): directories, empty but for what Stolrel keeps for itself, and the mirror of every NI's reset settings. -/
def State.directories (s : State) : State :=
  let s := s.modBn (fun b => { b with mirror := [] })
  let s := s.setPair FB_GRP_DIR_LO FB_GRP_DIR_HI (s.hbmAddr 0)
  let s := s.setPair FB_RED_DIR_LO FB_RED_DIR_HI (s.hbmAddr 0x80000)
  let s := s.setPair FB_DIST_LO FB_DIST_HI (s.hbmAddr 0x100000)
  let s := (List.range 1023).foldl (fun s g => s.hbmPut (512 * g) (List.replicate 8 0)) s
  let s := (List.range 4095).foldl (fun s r => s.hbmPut (0x80000 + 64 * r) (List.replicate 8 0)) s
  let tiles := s.bn.lmap.map (fun e => e.1)
  let map := (List.range 36).map (fun w => (List.range 64).foldl (fun m i => if tiles.contains (64 * w + i) then m + 2 ^ i else m) 0)
  let s := s.hbmPut (512 * 1023) (((2 ^ 63 + tiles.length <<< 45) :: map).flatMap (toBytes 8))
  let s := s.hbmPut (0x80000 + 64 * 4095) (toBytes 8 rid4095)
  s.writeTree 1023 tiles [0, 1]

/-! ## Core firmware (R407 to R411) -/

/-- A 0-to-1 write of ENABLE clears the map, COUNT and the status bits (R408). -/
def State.fwClear (s : State) (n : Nat) : State :=
  let s := (List.range 32).foldl (fun s k => s.wr NI_FW_MAP n k 0) s
  { s.wr NI_FWLOAD_STATUS n 0 0 with fw := s.fw.del n }

/-- The load port takes a group of 17 flits (R408): the chunk is written, or discarded. Log entry 128, DEDUCED. -/
def State.fwChunk (s : State) (n : Nat) : State :=
  let w := s.fw.get n {}
  if s.fld NI_FWLOAD_CFG_ENABLE n = 0 ∨ w.flits.length < 17 then s
  else
    let h := w.flits.headD 0
    let d := (Sys2Proof.Machine.slice w.flits 1 16).flatMap (toBytes 256)
    let w := { w with flits := w.flits.drop 17 }
    let c := bits h 15 0
    let total := bits h 31 16
    let dig := bits h 383 128
    let r := s.pairRange n (s.fld NI_FWLOAD_CFG_PAIR n)
    let ok := decide (crc32c d = bits h 63 32 ∧ c < total ∧ total ≤ 1024 ∧ (w.any = true → total = w.total ∧ dig = w.digest) ∧
      4096 * (c + 1) ≤ r.2)
    if !ok then ({ s with fw := s.fw.put n w }).setFld NI_FWLOAD_STATUS_CRC_BAD 1 n
    else
      let s : State := { s with fw := s.fw.put n { w with any := true, total := total, digest := dig } }
      let m := s.fld NI_FW_MAP_MAP n (c / 32)
      if bit m (c % 32) then s
      else
        let s := (s.spadWrite n (r.1 + 4096 * c) d).setFld NI_FW_MAP_MAP (m + 2 ^ (c % 32)) n (c / 32)
        let s := s.addFld NI_FWLOAD_STATUS_COUNT 1 n
        if s.fld NI_FWLOAD_STATUS_COUNT n = total then s.setFld NI_FWLOAD_STATUS_COMPLETE 1 n else s

/-- The image hasher has finished (R411). Log entry 128, DEDUCED. -/
def State.fwDigest (s : State) (n : Nat) : State :=
  if s.fld NI_FWLOAD_STATUS_COMPLETE n = 0 ∨ s.fld NI_FWLOAD_STATUS_DIGEST_OK n = 1 ∨ s.fld NI_FWLOAD_STATUS_DIGEST_BAD n = 1 then s
  else
    let w := s.fw.get n {}
    let r := s.pairRange n (s.fld NI_FWLOAD_CFG_PAIR n)
    if ofBytes (sha256 (s.spadRead n r.1 (4096 * w.total))) = w.digest then s.setFld NI_FWLOAD_STATUS_DIGEST_OK 1 n
    else s.setFld NI_FWLOAD_STATUS_DIGEST_BAD 1 n

/-- Chunks of an image's core firmware, and chunk c, the last one padded with zeros (R407). -/
def imgChunks (d : List Nat) : Nat := cdiv (imgCoreLen d) 4096
def imgChunk (d : List Nat) (c : Nat) : List Nat :=
  let b := Sys2Proof.Machine.slice d (imgCoreAt d + 4096 * c) (min 4096 (imgCoreLen d - 4096 * c))
  b ++ List.replicate (4096 - b.length) 0

/-- CORE_DIGEST of an image (R412). -/
def imgDigest (d : List Nat) : Nat := ofBytes (Sys2Proof.Machine.slice d 32 32)

/-- The 17 flits of a chunk (R407): the header, with CHUNK, TOTAL, CRC and DIGEST, and the data. Log entry 153, DESIGN CHOICE. -/
def chunkFlits (d : List Nat) (c : Nat) : List Nat :=
  let b := imgChunk d c
  (c + imgChunks d <<< 16 + crc32c b <<< 32 + imgDigest d <<< 128) ::
    (List.range 16).map (fun i => ofBytes (Sys2Proof.Machine.slice b (256 * i) 256))

/-- A chunk reaches the load port of an NI. -/
def State.sendChunk (s : State) (n : Nat) (d : List Nat) (c : Nat) : State :=
  let w := s.fw.get n {}
  { s with fw := s.fw.put n { w with flits := w.flits ++ chunkFlits d c } }.fwChunk n

/-- Stolrel opens the load port of an NI (R408): a system pair for the image, as large as a pair may be at most, and ENABLE.
Log entry 153, DESIGN CHOICE. -/
def State.fwOpen (s : State) (n chunks : Nat) : State :=
  let size := min 49152 (128 * chunks)
  let k := s.fld NI_FWLOAD_CFG_PAIR n
  let s := (s.setFld NI_PAIR_BOUND_SIZE size n k).setFld NI_PAIR_BASE_BASE (Config.fwBase n % (49152 - size + 1)) n k
  let s := (s.setFld NI_PAIR_BASE_SYS 1 n k).setFld NI_PAIR_BASE_ENABLE 1 n k
  (s.fwClear n).setFld NI_FWLOAD_CFG_ENABLE 1 n

/-- A pass over every NI in service (R409, R411): one whose digest is bad starts afresh, one that lacks chunks gets those, and the image hasher
of one that is COMPLETE runs. The first pass is the broadcast. Log entry 153, DESIGN CHOICE. -/
def State.loadPass (s : State) (d : List Nat) : State :=
  s.nisUp.foldl (fun s n =>
    let s := if s.fld NI_FWLOAD_STATUS_DIGEST_BAD n = 1 then s.fwClear n else s
    let lacks := (List.range (imgChunks d)).filter (fun c => !(bit (s.fld NI_FW_MAP_MAP n (c / 32)) (c % 32)))
    (lacks.foldl (fun s c => s.sendChunk n d c) s).fwDigest n) s

/-- Step 7 (R409, R411): the broadcast, at most three repair passes, F1 for a slot that is still not loaded, the release of the other
cores, and the load ports off. The charts that carry the chunks are not modelled. Log entry 153, DESIGN CHOICE. -/
def State.coresLoaded (s : State) (d : List Nat) : State :=
  if imgChunks d = 0 then s else
    let s := s.nisUp.foldl (fun s n => s.fwOpen n (imgChunks d)) s
    let s := (List.range 4).foldl (fun s _ => s.loadPass d) s
    s.nisUp.foldl (fun s n =>
      let s := s.setFld NI_FWLOAD_CFG_ENABLE 0 n
      if s.fld NI_FWLOAD_STATUS_DIGEST_OK n = 1 then s.setFld NI_FWLOAD_CFG_RELEASE 1 n else s.markSlot n 1) s

/-- Steps 2 to 8 once the last wave has settled (R397 to R403), each named in STEP while it runs. With a preset, step 8 ends when discovery has
judged the links. `f1` and `f2` are the slots that the self-tests, the known-answer
runs and the core firmware leave at F1 and F2, `f3` the regions whose controller fails; `eng` says that an engine of the
Binnacle fails. Log entry 13, DESIGN CHOICE; log entry 123, DEDUCED; log entry 153, DESIGN CHOICE. -/
def State.bringUpRest (s : State) (f1 f2 f3 : List Nat) (eng : Bool) : State :=
  let s := s.setFld CH_CTRL_RUN 1
  let s := s.setFld FB_HBM_ILV_CAP s.capMin
  let ready := (List.range 16).all (fun n => (s.mpt n).ctrlReady)
  let s := if ready then s.setFld FB_HBM_ILV_SIZE (s.fld FB_HBM_ILV_CAP) else s
  let s := (List.range 16).foldl (fun s n => s.modMp n (fun m => { m with map := s.fbMap })) s
  let s := s.setFld BN_STATE_STEP 3
  let regs := (List.range 36).filter (fun r => !(s.rg r).f3 && s.powered r)
  let s := regs.foldl (fun s r => s.setFld RG_SENSOR_CAL (Config.dipCal s.fresh r) r) s
  let s := s.fuse.bad.foldl (fun s e => s.markSlot e.1 e.2) s
  let s := f1.foldl (fun s t => s.markSlot t 1) (f2.foldl (fun s t => s.markSlot t 2) s)
  let s := f3.foldl (fun s r => s.fenceF3 r) s
  let s := s.setFld BN_STATE_STEP 4
  if eng then s.unitEvent .bn 0 3 0
  else
    let s := s.setFld BN_STATE_STEP 5
    let img := s.slotImage
    let cal := Sys2Proof.Machine.slice img (imgCalAt img) (imgCalLen img)
    let s := regs.foldl (fun s r => match Config.calThr cal r with
      | some v => s.writeTyped RG_DIP_THR r 0 v
      | none => s) s
    let s := s.rebuildMap.setFld BN_STATE_STEP 6
    let s := (s.writeRoutes 0 true).directories
    let s := s.hbmPut 0x4000000 (Sys2Proof.Machine.slice img (imgCoreAt img) (imgCoreLen img))
    let s := if s.fld FB_HBM_ILV_SIZE = 0 then s.rangeLost (FB_HBM_ILV.addr 0 0) (s.rd FB_HBM_ILV) else s
    let s := (List.range 36).foldl (fun s r =>
      if (s.rg r).f3 || !(s.powered r) then s
      else (s.setFld RG_ESC_CTRL_LOCKED 1 r).setFld RG_POWER_STATIC (Config.calStatic cal r) r) s
    let s := ((s.setFld BN_STATE_STEP 7).coresLoaded img).setFld BN_STATE_STEP 8
    let sel := s.fld FB_STRAP_PLAN_SEL
    let s := if sel = 0 then s else s.presetPlan sel
    let s := (List.range 32).foldl (fun s n => (s.setFld OL_CTRL_ENABLE 1 n).trainStart n) s
    if sel = 0 then (s.setFld BN_STATE_STEP 9).tryReady else s

/-- Drive the power enable of a region (R398). -/
def State.setPower (s : State) (r : Nat) (on : Bool) : State :=
  if r < 32 then s.setFld BN_PWR_EN0_EN (setBits (s.fld BN_PWR_EN0_EN) r r (b2n on))
  else s.setFld BN_PWR_EN1_EN (setBits (s.fld BN_PWR_EN1_EN) (r - 32) (r - 32) (b2n on))

/-- A region's dip sensor has settled (R398): SAG below the reset value of THR1, with SAG_BAD clear. -/
def State.settled (s : State) (r : Nat) : Bool := decide (s.fld RG_SENSOR_SAG r < 10) && s.fld RG_SENSOR_SAG_BAD r == 0

/-- Dimension-order routes from the fuse map alone (R416): fences put up since do not count. -/
def State.fuseRoutes (s : State) : State :=
  let f := (s.fuse.bad.foldl (fun s e => s.markSlot e.1 e.2) s).fence
  { (s.fuse.bad.foldl (fun (s : State) e => s.markSlot e.1 e.2) { s with fence := {} }).writeRoutes 0 true with fence := f }

/-- A power wave (R398): the enables of its regions rise; a region of the wave whose clock is absent or whose dip sensor has not
settled is left without power and at F3, and so is one of an earlier wave whose sensor says so now. After the last, bring-up goes on, or the
recovery loader writes routes (R416). -/
def State.powerWave (s : State) (bad f1 f2 f3 : List Nat) (eng : Bool) : State :=
  let w := s.bn.wave
  let st := s.fld BN_STATE_STATE
  if (st = 1 ∨ st = 2) ∧ w < 4 then
    let late := (List.range 36).filter (fun r => decide (r % 4 < w) && s.powered r && !(s.rg r).f3 && !(s.settled r))
    let s := late.foldl (fun s r => (s.setPower r false).fenceF3 r) s
    let s := ((List.range 36).filter (fun r => r % 4 == w)).foldl (fun s r =>
      let fail := bad.contains r || (s.rg r).absent || !(s.settled r)
      let s := s.setPower r (!fail)
      if fail then s.fenceF3 r else s) s
    let s := s.modBn (fun b => { b with wave := w + 1 })
    if w < 3 then s
    else if st = 1 then s.fuseRoutes
    else s.bringUpRest f1 f2 f3 eng
  else s

/-! ## COLD, WARM and BN resets -/

/-- A COLD reset (R440, R442): every register and every queue starts afresh; fuses, flash and memory contents stay. The straps
are taken; the ROM boots. Log entry 124, DEDUCED. -/
def State.coldReset (s : State) (chip sel : Nat) (unstable anchor : Bool) (flash : Nat) : State :=
  let old := s.bn
  let s : State := { fuse := s.fuse, flash := s.flash, hbm := s.hbm, spad := s.spad, fresh := s.fresh, pending := s.pending,
                     pins := { anchorArmed := !anchor },
                     bn := { boots := old.boots, fuseSvn := old.fuseSvn, seq := old.seq, logNext := old.logNext } }
  let s := (s.setFld FB_STRAP_CHIP chip).setFld FB_STRAP_PLAN_SEL sel
  let s := s.setFld FB_ID_GRADE s.fuse.grade
  let s := if unstable then s.setFld FB_INPUT_STATUS_STRAP_UNSTABLE 1 else s
  let s := (s.modBn (fun b => { b with boots := b.boots + 1 })).setFld BN_STATE_STEP 1
  let r := s.romBoot flash
  let s := if r.2 then r.1.bringUp else r.1
  if unstable && s.bnUp then s.bnLog 0x0A 0 0 [FB_STRAP.addr 0 0 <<< 32 + s.rd FB_STRAP] else s

/-- A WARM reset (R12, R432): the WARM, REGION, ISLAND and LINK domains; the Binnacle runs on and brings up from step 2.
Log entry 124, DEDUCED. -/
def State.warmReset (s : State) : State :=
  let s := s.resetRegs (fun r _ => r.dom == .warm || r.dom == .region || r.dom == .island || r.dom == .link)
  let s : State := { s with
    time := {}, chr := { tick := s.chr.tick },
    latch := [], rgn := s.rgn.map (fun e => (e.1, { f3 := e.2.f3, absent := e.2.absent })),
    rtr := [], chart := [], sched := [], launches := [], net := [], flow := [], vt := [], otx := [], cancelled := [], win := [], ledger := [],
    waiters := [], lastGrant := [], receipts := [], xfers := [], ap := [], descs := [], cplq := [], ring := [], waits := [],
    sigLines := [], mp := s.mp.map (fun e => (e.1, { ctrlReady := e.2.ctrlReady, cap := e.2.cap, everReady := e.2.ctrlReady })),
    slice := {}, scrubs := [], trace := [], hp := [], ol := [], plan := {}, fw := [], consort := {}, tp := {}, redm := [],
    hash := [], replay := {}, snap := {}, scan := {}, plot := [], cr := [], nimap := [], stamp := [], woken := s.woken.filter (fun e => e.1 == 62),
    err := s.err.map (fun e => (e.1, { hist := e.2.hist, pendMsg := e.2.pendMsg, persist := e.2.persist })) }
  if s.bnUp then s.bringUp else s

/-- The logical tiles of regions at F3 have no slot (R5). -/
def State.dropFenced (s : State) : State :=
  s.modBn (fun b => { b with lmap := b.lmap.filter (fun e => !(s.rg (regionOf e.2)).f3) })

/-- The map that a restarted Stolrel finds (R406): the entries of NI_LMAP whose slots are in service, and spares for the others. -/
def State.remap (s : State) : State :=
  let ni := s.nisUp.headD 0
  let found := (List.range s.tiles).filterMap (fun t => (s.lmap ni t).map (fun x => (t, x)))
  let s := s.modBn (fun b => { b with lmap := found.filter (fun e => s.slotOk e.2) })
  (found.filter (fun e => !(s.slotOk e.2))).foldl (fun s e =>
    match s.spareFor e.2 with
    | some sp => s.modBn (fun b => { b with lmap := b.lmap.put e.1 sp })
    | none => if (s.rg (regionOf e.2)).f3 then s
        else (s.fenceF3 (regionOf e.2)).stopJobs (fun l => l.inRegion (regionOf e.2))) s |>.dropFenced

/-- A BN reset (R406, R415): the Binnacle's registers and processor; the ROM boots, and Stolrel rebuilds and, where it differs,
publishes the map without a patch. Stolrel booted from RECOVERY removes every power enable and brings up from the start
(R416). Log entry 124, DEDUCED. -/
def State.bnReset (s : State) (flash : Nat) : State :=
  let was := s.fld BN_STATE_STATE
  let old := s.bn
  let s := s.resetRegs (fun r _ => r.dom == .bn)
  let s := { s with bnUp := false, bn :=
    { boots := old.boots, fuseSvn := old.fuseSvn, seq := old.seq, logNext := old.logNext, lost := old.lost, lmap := old.lmap, owners := old.owners,
      mirror := old.mirror, halted := old.halted } }
  let s := ((s.setFld BN_STATE_BOOT_CAUSE 1).unwake 62).hashAbort
  let r := s.romBoot flash
  let s := r.1
  if r.2 = false then s
  else if was = 1 then ((s.wr BN_PWR_EN0 0 0 0).wr BN_PWR_EN1 0 0 0).bringUp
  else
    let s := (s.setFld BN_STATE_STATE 4).rereadStretch
    let s := s.remap
    let s := (s.setFld BN_STATE_STATE 3)
    if s.mapDigest = s.fbDigest then s.nowReady false
    else
      let s := s.routeChange
      let s := (List.range 1080).foldl (fun s k => s.writeLmap k) s
      let d := s.mapDigest
      let s := s.nisUp.foldl (fun s n => (s.wr NI_CHART_PATCH n 0 0).wrDigest NI_MAP_DIGEST n d) s
      s.becomeReady false

/-! ## Leaving a safe state (R302) -/

/-- The reset of a unit in its domain when LEAVE_SAFE is accepted. Log entry 124, DEDUCED. -/
def State.unitReset (s : State) (k : UnitKind) (i : Nat) : State :=
  match k with
  | .ni | .red => s.islandReset i
  | .rg => s.regionReset i
  | .ol => (s.linkReset i).unwake (52 + i / 4)
  | .mp => (((List.range 6).foldl (fun s a => s.flushUnit (mpLoc i a)) s).modMp i MPort.fresh).unwake (36 + i)
  | .hp =>
    let s := s.flushUnit (hpLoc i)
    { s.setHp i {} with otx := s.otx.filter (fun o => o.src != 2305 + i) }.unwake 60
  | .tp =>
    let s := s.flushUnit tpLoc
    { s with tp := { ready := s.tp.ready } }.unwake 63
  | .bn => s.bnReset 0

/-- Routers whose island a reset has cleared get their tables again, and NIs the chip-wide settings, from Stolrel's copies (R302).
Tenancy settings are not restored, and a fence stays in force. -/
def State.rewriteIslands (s : State) (slots : List Nat) : State :=
  if s.bnUp = false ∨ s.fld BN_STATE_STATE ≠ 3 then s else
    let g := match (s.routersUp.filter (fun r => !(slots.contains r))) with
      | r :: _ => s.fld RT_CFG_ESC_GEN r
      | [] => 0
    let mine := slots.filter s.routerUp
    let ref := (s.routersUp.filter (fun r => !(slots.contains r))).headD 0
    let tree := s.escTree
    let s := (List.range 2305).foldl (fun s e =>
      match s.entryDest e with
      | none => s
      | some d =>
        let paths := s.pathsTo d
        let up := toRoot tree 2304 d
        mine.foldl (fun s r =>
          match s.outPort paths r d with
          | none => s
          | some o => s.setEntry r e (2 ^ 15 + o <<< 12 + escPort tree up r d <<< 9 + escPort tree up r d <<< 6)) s) s
    let s := mine.foldl (fun s r => s.setFld RT_CFG_ESC_GEN g r) s
    let s := (List.range 1024).foldl (fun s x => if s.grpValid x then s.writeTree x (s.grpMap x) [0, 1] else s) s
    mine.foldl (fun s n =>
      let s := (List.range 1080).foldl (fun s k =>
        s.wr NI_LMAP n k (lmapHalf s.bn.lmap (2 * k) + lmapHalf s.bn.lmap (2 * k + 1) <<< 16)) s
      let s := s.wrDigest NI_MAP_DIGEST n s.fbDigest
      let s := (List.range 8).foldl (fun s k => s.wr NI_PATCH_FROM n k (s.rd NI_PATCH_FROM ref k)) s
      let s := s.wr NI_CHART_PATCH n 0 (s.rd NI_CHART_PATCH ref)
      (List.range 128).foldl (fun s k => s.wr NI_REACH n k (s.rd NI_REACH ref k)) s) s

end Sys2Proof.Machine
end

