-- ==== Sys2Proof/Machine/MailOps.lean ====
section
/-!
DEFINITION. The mailbox of the Binnacle (R383 to R385), images and the recovery loader (R412 to R416), the governor (R390 to R392)
and the load port (R408 to R411).
-/

namespace Sys2Proof.Machine

/-! ## What a request reads -/

/-- Word k of the request's data. -/
def State.mboxData (s : State) (k : Nat) : Nat := s.rd BN_MBOX_DATA 0 k

/-- The HBM offset that DATAk and DATA(k + 1) name. -/
def State.mboxOfs (s : State) (k : Nat) : Nat := s.mboxData k + s.mboxData (k + 1) <<< 32

/-- A range of HBM offsets lies outside Stolrel's range and is mapped whole (R381, R385). -/
def State.softRange (s : State) (ofs len : Nat) : Bool :=
  decide (2 ^ 30 ≤ ofs ∨ len = 0) && decide (ofs + len ≤ 2 ^ 50) &&
    (List.range (cdiv (ofs % 4096 + len) 4096)).all (fun i => (s.fbMap.decode (ofs / 4096 * 4096 + 4096 * i)).isSome)

/-- How a request ends: its status and its result word. -/
abbrev MboxRes := Nat × Option Nat × State

/-! ## Groups and reduction ids (R384) -/

/-- The logical tiles of a member map of 36 words. -/
def mapTiles (d : List Nat) : List Nat :=
  (List.range (8 * d.length)).filter (fun t => bit (d.getD (t / 8) 0) (t % 8))

/-- GROUP_DEFINE (R384, R385). -/
def State.mboxGroup (s : State) (bad : Bool) : MboxRes :=
  let g := bits (s.mboxData 0) 9 0
  let ofs := s.mboxOfs 1
  let map := s.hbmBytes ofs 288
  let tiles := mapTiles map
  if g = 1023 then (stACCESS_DENIED, none, s)
  else if s.grpValid g = true then (stBAD_DESCRIPTOR, none, s)
  else if tiles = [] ∨ tiles.any (fun t => decide (s.tiles ≤ t)) = true then (stBAD_DESCRIPTOR, none, s)
  else if s.softRange ofs 288 = false then (stBAD_DESCRIPTOR, none, s)
  else if bad then (stDATA_ERROR, none, s)
  else
    let w0 := bits (s.mboxData 0) 21 16 <<< 57 + tiles.length <<< 45
    let at_ := s.grpDir + 512 * g
    let s := s.writeTree g tiles [0, 1]
    let s := s.hbmPut at_ (toBytes 8 w0 ++ map)
    (stOK, none, s.hbmPut at_ (toBytes 8 (2 ^ 63 + w0)))

/-- GROUP_UNDEFINE (R384, R385). -/
def State.mboxUngroup (s : State) (bad : Bool) : MboxRes :=
  let g := bits (s.mboxData 0) 9 0
  if g = 1023 then (stACCESS_DENIED, none, s)
  else if bad then (stDATA_ERROR, none, s)
  else
    let s := s.hbmPut (s.grpDir + 512 * g) (toBytes 8 (s.grpWord g 0 % 2 ^ 63))
    (stOK, none, s.routersUp.foldl (fun s r => if s.fld RT_GROUP_VALID r g = 1 then s.setFld RT_GROUP_VALID 0 r g else s) s)

/-- HBM offset of entry `rid` of the reduction directory (R171). -/
def State.ridAt (s : State) (rid : Nat) : Nat := adBig (s.pair FB_RED_DIR_LO FB_RED_DIR_HI) + 64 * rid

/-- RID_DEFINE (R175, R384, R385): the entry is written VALID. Log entry 118, DEDUCED. -/
def State.mboxRid (s : State) (bad : Bool) : MboxRes :=
  let rid := bits (s.mboxData 0) 11 0
  let w := s.mboxOfs 1
  let b := reBind rid w
  if rid = 4095 then (stACCESS_DENIED, none, s)
  else if bit (s.redEntry rid) 63 = true then (stBAD_DESCRIPTOR, none, s)
  else if fmtOk b.op b.inF b.outF b.k = false ∨ s.tiles ≤ bits w 19 8 then (stBAD_DESCRIPTOR, none, s)
  else if s.grpValid (reGroup w) = false ∨ s.grpTen (reGroup w) ≠ reTen w then (stACCESS_DENIED, none, s)
  else if bad then (stDATA_ERROR, none, s)
  else (stOK, none, s.hbmPut (s.ridAt rid) (toBytes 8 (setBits w 63 63 1) ++ List.replicate 56 0))

/-- RID_UNDEFINE (R384, R385). -/
def State.mboxUnrid (s : State) (bad : Bool) : MboxRes :=
  let rid := bits (s.mboxData 0) 11 0
  if rid = 4095 then (stACCESS_DENIED, none, s)
  else if bad then (stDATA_ERROR, none, s)
  else (stOK, none, s.hbmPut (s.ridAt rid) (toBytes 8 (s.redEntry rid % 2 ^ 63)))

/-! ## Images (R412 to R416) -/

/-- The first check of R413 that an image of a given length fails; 0 when it passes. -/
def State.checkImage (s : State) (img : List Nat) (len : Nat) : Nat :=
  let c := imageCause s.fuse.keyDigest s.svnNow img
  if c ≠ 2 ∧ (len < imgEnd img ∨ 8 * 2 ^ 20 < len) then 7 else c

/-- STAGE_IMAGE (R384, R385, R413): an image that passes is on its way to the slot, which is erased first; the request goes on until
IMAGE_SLOT_WRITTEN. -/
def State.mboxStage (s : State) (bad : Bool) : Option MboxRes :=
  let ofs := s.mboxOfs 0
  let len := s.mboxData 2
  if s.softRange ofs len = false then some (stBAD_DESCRIPTOR, none, s)
  else if bad then some (stDATA_ERROR, none, s)
  else
    let img := s.hbmBytes ofs (min len (8 * 2 ^ 20))
    let c := s.checkImage img len
    if c ≠ 0 then some (stBAD_DESCRIPTOR, some c, s) else none

/-- The slot is erased, and the image waits to be written (R413). Log entry 117, DESIGN CHOICE. -/
def State.stageImage (s : State) : State :=
  let img := s.hbmBytes (s.mboxOfs 0) (min (s.mboxData 2) (8 * 2 ^ 20))
  (s.flashErase 0 (8 * 2 ^ 20)).modBn (fun b => { b with staged := some img })

/-- The log's entries in flash by SEQ, those whose CRC matches (R395, R396). -/
def State.logBySeq (s : State) : SMap (List Nat) :=
  let ns := (s.flash.filterMap (fun c => if logBase ≤ c.1 ∧ c.1 < logBase + 64 * logEntries then some ((c.1 - logBase) / 64) else none)).dedup
  ns.foldl (fun m n =>
    let d := s.flashRead (logBase + 64 * n) 64
    if crc32c (d.take 60) = ofBytes (Sys2Proof.Machine.slice d 60 4) then m.put (ofBytes (Sys2Proof.Machine.slice d 4 4)) d else m) []

/-- LOG_COPY (R384, R385): the newest entries, oldest first. Log entry 119, DESIGN CHOICE. -/
def State.mboxLog (s : State) (bad : Bool) : MboxRes :=
  let ofs := s.mboxOfs 0
  let all := s.logBySeq
  let k := min (s.mboxData 2) all.length
  if s.softRange ofs (64 * k) = false then (stBAD_DESCRIPTOR, none, s)
  else if bad then (stDATA_ERROR, none, s)
  else (stOK, some k, s.hbmPut ofs ((all.drop (all.length - k)).flatMap (fun e => e.2)))

/-- RECV_CHUNK (R416). -/
def State.mboxChunk (s : State) (arg : Nat) (bad : Bool) : MboxRes :=
  if arg ≠ s.bn.recv ∨ 8 * 2 ^ 20 < 64 * (arg + 1) then (stBAD_DESCRIPTOR, none, s)
  else if bad then (stDATA_ERROR, none, s)
  else
    let d := (List.range 16).flatMap (fun k => toBytes 4 (s.mboxData k))
    (stOK, none, (s.flashWrite (64 * arg) d).modBn (fun b => { b with recv := arg + 1 }))

/-- RECV_END (R416): the cause of a failure, 0 when the slot passes. Log entry 118, DEDUCED. -/
def State.recvCause (s : State) : Nat := s.checkImage s.slotImage (s.mboxData 0)

/-! ## A request (R383) -/

/-- Stolrel or the recovery loader ends a request with this result. Log entry 117, DESIGN CHOICE. -/
def State.mboxRes (req : Nat) (r : MboxRes) : State := r.2.2.mboxEnd req r.1 r.2.1

/-- The recovery loader answers (R416). Log entry 118, DEDUCED. -/
def State.mboxLoader (s : State) (req arg : Nat) (bad : Bool) : State :=
  if req = 6 then State.mboxRes 6 (s.mboxLog bad)
  else if req = 7 then State.mboxRes 7 (s.mboxChunk arg bad)
  else if req = 8 then
    let c := s.recvCause
    if bad then s.mboxEnd 8 stDATA_ERROR (some 6)
    else if c ≠ 0 then (s.modBn (fun b => { b with recv := 0 })).mboxEnd 8 stBAD_DESCRIPTOR (some c)
    else (s.mboxEnd 8 stOK none).bnReset 0
  else s.mboxEnd req stABORTED none

/-- Stolrel answers, or goes on with STAGE_IMAGE (R383 to R385). -/
def State.mboxStolrel (s : State) (req : Nat) (bad : Bool) : State :=
  if req = 6 then State.mboxRes 6 (s.mboxLog bad)
  else if (s.fld BN_STATE_STATE ≠ 3 ∨ s.bn.lost = true) ∧ req ≠ 7 ∧ req ≠ 8 then s.mboxEnd req stABORTED none
  else match req with
    | 1 => State.mboxRes 1 (s.mboxGroup bad)
    | 2 => State.mboxRes 2 (s.mboxUngroup bad)
    | 3 => State.mboxRes 3 (s.mboxRid bad)
    | 4 => State.mboxRes 4 (s.mboxUnrid bad)
    | 5 => (match s.mboxStage bad with
      | some r => State.mboxRes 5 r
      | none => s.stageImage)
    | _ => s.mboxEnd req stBAD_DESCRIPTOR none

/-- A write of BN_MBOX_CMD (R383): discarded while BUSY; a request that nobody serves, with the Binnacle in reset, stays BUSY. `bad`
says that an HBM or flash access of the request fails. Log entry 117, DESIGN CHOICE. -/
def State.mboxCmd (s : State) (v : Nat) (bad : Bool) : State :=
  s.regWrite (BN_MBOX_CMD.addr 0 0) v (fun s =>
    let req := bits v 7 0
    if s.fld BN_MBOX_STATUS_BUSY = 1 then s.setFld BN_MBOX_STATUS_DROPPED 1
    else if req = 0 then s
    else
      let s := s.setFld BN_MBOX_STATUS_BUSY 1
      if s.bnUp then s.mboxStolrel req bad
      else if s.fld BN_STATE_STATE = 1 ∧ s.bn.clockLost = false then s.mboxLoader req (bits v 31 8) bad
      else s)

/-- The data of a register packet that waits to be carried out at an offset; 0 when there is none. -/
def State.waitingWrite (s : State) (off : Nat) : Nat :=
  match s.net.find? (fun f => decide (f.pkt.kind = opREG_WR) && f.pkt.arg 1 == off) with
  | some f => f.pkt.arg 2
  | none => 0

/-- The staged image is in the slot and has been read back (R413); `bad`: the flash failed. Log entry 117, DESIGN CHOICE. -/
def State.slotWritten (s : State) (bad : Bool) : State :=
  match s.bn.staged with
  | none => s
  | some img =>
    let s := s.modBn (fun b => { b with staged := none })
    if bad then s.mboxEnd 5 stDATA_ERROR (some 6)
    else
      let s := (s.flashWrite 0 img).setFld BN_STATE_PENDING 1
      (s.bnLog 0x06 0 0 [imgWord img 1, imgSvn img, s.svnNow]).mboxEnd 5 stOK none

/-! ## Power and temperature -/

/-- TEMP of a region in degrees. Log entry 121, DEDUCED. -/
def State.temp (s : State) (r : Nat) : Int := toSigned 8 (s.fld RG_SENSOR_TEMP r)

/-- A region that has power has reached T_TRIP (R392). Log entry 47, DESIGN CHOICE; log entry 121, DEDUCED. -/
def State.trip (s : State) (r : Nat) : State :=
  if s.bnUp = true ∧ s.powered r = true ∧ (s.fld BN_GOV_CFG_T_TRIP : Int) ≤ s.temp r then
    let t := s.fld RG_SENSOR_TEMP r
    let s := s.stopJobs (fun l => l.inRegion r)
    let s := ((s.fenceF3 r).setPower r false).setFld RG_ESC_CTRL_LOCKED 0 r
    (s.setFld BN_GOV_STATUS_TRIPPED 1).bnLog 0x07 2 r [r <<< 32 + t]
  else s

/-- A refresh of RG_SENSOR (R386): TEMP, SAG and whether the dip sensor's reading is bad.
Log entry 47, DESIGN CHOICE; log entry 120, DEDUCED. -/
def State.sensorIn (s : State) (r temp sag : Nat) (bad : Bool) : State :=
  let t := toSigned 8 temp
  let tbad := decide (t < -40 ∨ 125 < t)
  let was := s.fld RG_SENSOR_TEMP_BAD r = 1 ∨ s.fld RG_SENSOR_SAG_BAD r = 1
  let s := ((s.setFld RG_SENSOR_TEMP temp r).setFld RG_SENSOR_TEMP_BAD (b2n tbad) r).setFld RG_SENSOR_SAG_BAD (b2n bad) r
  let s := if bad then s.dipRead r (s.rg r).sag else (s.setFld RG_SENSOR_SAG (min 255 sag) r).dipRead r sag
  let s := if tbad then s.unitEvent .rg r 6 0 else s
  let s := if bad then s.unitEvent .rg r 6 0 else s
  let s := if (tbad ∨ bad) ∧ ¬ was ∧ s.bnUp = true then s.bnLog 0x08 2 r [r <<< 32 + s.rd RG_SENSOR r] else s
  s.trip r

/-- Regions in service (R391). -/
def State.regionsUp (s : State) : List Nat := (List.range 36).filter (fun r => !(s.rg r).f3 && s.powered r)

/-- EST from the DAT flits of the last millisecond (R390): 0.07 pJ for each of 2,048 bits is 14,336 / 10^10 tenths of a watt a
flit. Log entry 13, DESIGN CHOICE. -/
def powerEst (static flits : Nat) : Nat := static + flits * 14336 / 10 ^ 10

/-- A region controller sets EST and counts flits afresh. Log entry 120, DEDUCED. -/
def State.estimate (s : State) (n : Nat) : State :=
  (s.setFld RG_POWER_EST (min 65535 (powerEst (s.fld RG_POWER_STATIC n) (s.rg n).flits)) n).modRg n (fun r => { r with flits := 0 })

/-- A region is over, or under, what R391 allows. -/
def State.govOver (s : State) (total n r : Nat) : Bool :=
  let est := s.fld RG_POWER_EST r
  decide (s.fld BN_GOV_LIMIT_REGION < est ∨ (s.fld BN_GOV_CFG_T_HIGH : Int) ≤ s.temp r ∨ s.fld RG_SENSOR_TEMP_BAD r = 1 ∨
    (s.fld BN_GOV_LIMIT_BUDGET < total ∧ total < est * n))
def State.govUnder (s : State) (r : Nat) : Bool :=
  decide (8 * s.fld RG_POWER_EST r ≤ 7 * s.fld BN_GOV_LIMIT_REGION ∧ s.temp r < (s.fld BN_GOV_CFG_T_HIGH : Int) - 5)

/-- Depth and calm count of a region after a loop (R391). -/
def govNext (hot cool : Bool) (holdoff floor g calm : Nat) : Nat × Nat :=
  let x := if hot then (min 4 (g + 1), 0)
    else if cool then (if zeroAsOne holdoff ≤ calm + 1 then (g - 1, 0) else (g, calm + 1))
    else (g, 0)
  (max floor x.1, x.2)

/-- A pass of the governor (R391, R393): RG_STRETCH_CTRL is written whole from Stolrel's copy. -/
def State.governor (s : State) : State :=
  let rs := s.regionsUp
  let total := (rs.map (fun r => s.fld RG_POWER_EST r)).sum
  let hot := rs.filter (fun r => s.govOver total rs.length r)
  let floor := if s.fld BN_GOV_STATUS_VIN_LOW = 1 then 2 else 0
  let s := (s.setFld BN_GOV_STATUS_TOTAL (min 65535 total)).setFld BN_GOV_STATUS_OVER hot.length
  rs.foldl (fun s r =>
    let x := govNext (hot.contains r) (s.govUnder r) (s.fld BN_GOV_CFG_HOLDOFF) floor (s.bn.g.get r 0) (s.bn.calm.get r 0)
    let s := s.modBn (fun b => { b with g := b.g.put r x.1, calm := b.calm.put r x.2 })
    let own := (s.bn.stretch.get r (BitVec.ofNat 32 RG_STRETCH_CTRL.resetVal).toNat)
    s.wr RG_STRETCH_CTRL r 0 (setBits own 3 1 x.1)) s

/-- A number in LINEAR11 times k (R388), truncated, within 16 bits. Log entry 120, DEDUCED. -/
def linear11 (k w : Nat) : Nat :=
  let m := toSigned 11 (bits w 10 0)
  let e := toSigned 5 (bits w 15 11)
  if m < 0 then 0 else min 65535 (if 0 ≤ e then m.toNat * k * 2 ^ e.toNat else m.toNat * k / 2 ^ (-e).toNat)

/-- A good read of the regulators (R388). `st` is the STATUS_WORD of a core-rail regulator; CLEAR_FAULTS
follows the log of one that is not zero. Log entry 120, DEDUCED. -/
def State.regulators (s : State) (vin iin pin st : Nat) : State :=
  let v := linear11 100 vin
  let s := s.wr BN_PM_VI 0 0 (v <<< 16 + linear11 100 iin)
  let s := s.wr BN_PM_PIN 0 0 (linear11 10 pin)
  let s := if v < 5400 then s.setFld BN_GOV_STATUS_VIN_LOW 1 else if 5450 ≤ v then s.setFld BN_GOV_STATUS_VIN_LOW 0 else s
  let s := if 6000 < v ∧ s.fld BN_GOV_STATUS_VIN_HIGH = 0 then (s.setFld BN_GOV_STATUS_VIN_HIGH 1).bnLog 0x08 0 0 [0x100 <<< 32 + v] else s
  let s := s.modBn (fun b => { b with clearFaults := st != 0 })
  if st = 0 then s else s.bnLog 0x08 0 0 [0x101 <<< 32 + st]

/-! ## Known-answer runs (R400, R443) -/

/-- A core has failed its run during bring-up: its slot is at F1, and until READY the map is built again without a patch (R401). -/
def State.coreFailed (s : State) (n : Nat) : State :=
  if s.bnUp = true ∧ s.fld BN_STATE_STATE = 2 ∧ s.level n = 0 then
    let s := s.markSlot n 1
    if s.fld BN_STATE_STEP < 8 then s
    else
      ((s.abandon (fun m => m == n)).fencedPort n 4).rebuildMap
  else s

/-- The signature that the running image's calibration data gives for a core. Log entry 15, DESIGN CHOICE. -/
def State.coreSig (s : State) : Nat :=
  let img := s.slotImage
  Config.coreSig (Sys2Proof.Machine.slice img (imgCalAt img) (imgCalLen img))

/-! ## The load port -/

/-- A write of NI_FWLOAD_CFG (R408, R411): discarded when it enables an NI that is not FREE, or releases a core without DIGEST_OK.
Log entry 128, DEDUCED. -/
def State.fwCfg (s : State) (n v : Nat) : State :=
  s.regWrite (NI_FWLOAD_CFG.addr n 0) v (fun s =>
    if (bit v 31 = true ∧ s.tnState n ≠ 0) ∨ (bit v 30 = true ∧ s.fld NI_FWLOAD_STATUS_DIGEST_OK n = 0) then s
    else
      let start := bit v 31 = true ∧ s.fld NI_FWLOAD_CFG_ENABLE n = 0
      let s := s.writeTyped NI_FWLOAD_CFG n 0 v
      if start then s.fwClear n else s)

end Sys2Proof.Machine
end

