-- ==== Sys2Proof/Machine/Faults.lean ====
section
/-!
DEFINITION. Faults, fencing and self-repair (R273 to R302): messages to the Binnacle, the control of error sets, fences, repair,
self-test and TICK.
-/

namespace Sys2Proof.Machine

/-! ## Messages -/

/-- A message arrives at the Binnacle; Stolrel, when it is idle, takes what the inbox holds. -/
def State.msgIn (s : State) (p : Pkt) (idle : Bool) : State :=
  let s := (s.takeNet (.unit { bnLoc with port := 5 }) p).inboxIn p
  if idle then s.drainInbox else s

/-- ERR_MSG (R279, R380). While the Binnacle is in reset no message travels (R33). Log entry 48, DEDUCED. -/
def execErrMsg (p : Pkt) (idle : Bool) (s : State) : Host.Outcome State Fault Refusal :=
  run (.errMsg p idle) s (fun s => if p.kind = opERR_MSG ∧ s.bnUp = true then s.msgIn p idle else s)

/-- ATTN (R280). Log entry 49, DEDUCED. -/
def execAttn (p : Pkt) (idle : Bool) (s : State) : Host.Outcome State Fault Refusal :=
  run (.attn p idle) s (fun s => if p.kind = opATTN ∧ s.bnUp = true then s.msgIn p idle else s)

/-! ## Error sets -/

/-- The unit kind of a UNIT_KIND code. -/
def kindOf (k : Nat) : UnitKind := unitKinds.getD k .ni

/-- An at-once condition of a unit persists (R302). -/
def State.condPersists (s : State) (k : UnitKind) (i : Nat) : Bool :=
  !(s.eu k i).persist.isEmpty || (k == .rg && (s.rg i).absent)

/-- LEAVE_SAFE (R302): accepted with SOURCE, SEVERE and SELF_PARITY clear and no at-once condition, when the unit is reset in its
domain, its window counts are zeroed and, for an island, Stolrel writes its tables again. Log entry 125, DEDUCED. -/
def State.tryLeaveSafe (s : State) (k : UnitKind) (i : Nat) : State :=
  if s.fld (xx_ERR_STATUS_SAFE k) i = 0 then s
  else if s.fld (xx_ERR_STATUS_SOURCE k) i ≠ 0 ∨ s.fld (xx_ERR_STATUS_SEVERE k) i = 1 ∨
      s.fld (xx_ERR_STATUS_SELF_PARITY k) i = 1 ∨ s.condPersists k i = true then
    s.setFld (xx_ERR_STATUS_LEAVE_REFUSED k) 1 i
  else
    let s := (s.setFld (xx_ERR_STATUS_SAFE k) 0 i).setEu k i { s.eu k i with winCount := [], winStart := [] }
    let s := s.unitReset k i
    match k with
    | .ni | .red => s.rewriteIslands [i]
    | .rg => s.rewriteIslands (State.regionSlots i)
    | _ => s

/-- A write of ERR_CTRL (R274). -/
def State.errCtrl (s : State) (k : UnitKind) (i v : Nat) : State :=
  s.regWrite ((xx_ERR_CTRL k).addr i 0) v (fun s =>
    let s := if bit v 2 then (s.setEu k i { s.eu k i with hist := [] }).setFld (xx_ERR_HIST_PTR_NEXT k) 0 i else s
    let s := if bit v 0 then s.setEu k i { s.eu k i with winCount := [], winStart := [] } else s
    (if bit v 1 then s.tryLeaveSafe k i else s).parityMet k i)

/-- CLEAR_HIST (R274): a write of ERR_CTRL. -/
def execClearHist (k i v : Nat) (s : State) : Host.Outcome State Fault Refusal :=
  run (.clearHist k i v) s (fun s => s.errCtrl (kindOf k) i v)

/-- LEAVE_SAFE (R302): a write of ERR_CTRL. Log entry 125, DEDUCED. -/
def execLeaveSafe (k i v : Nat) (s : State) : Host.Outcome State Fault Refusal :=
  run (.leaveSafe k i v) s (fun s => s.errCtrl (kindOf k) i v)

/-- CLEAR_WINDOWS (R274): a write of ERR_CTRL. -/
def execClearWindows (k i v : Nat) (s : State) : Host.Outcome State Fault Refusal :=
  run (.clearWindows k i v) s (fun s => s.errCtrl (kindOf k) i v)

/-- A write of ERR_INJECT that BN_LOCK does not discard (R10, R301): ARM stays 0 for a source that no check code raises. -/
def State.injectWrite (s : State) (k : UnitKind) (i v : Nat) : State :=
  s.regWrite ((xx_ERR_INJECT k).addr i 0) v (fun s =>
    if s.locked then s
    else
      let s := s.writeTyped (xx_ERR_INJECT k) i 0 v
      let par := bits v 1 0 = 2
      let armed := bit v 31 = true ∧ (injectRaises k (bits v 7 4) (bits v 1 0)).isSome = true
      let e := s.eu k i
      let s := s.setEu k i { e with injLeft := if armed then zeroAsOne (bits v 23 16) else 0, parityArmed := decide (armed ∧ par) }
      if armed then s else s.setFld (xx_ERR_INJECT_ARM k) 0 i)

/-- ERR_INJECT_WRITE (R301). Log entry 30, DESIGN CHOICE. -/
def execErrInjectWrite (k i v : Nat) (s : State) : Host.Outcome State Fault Refusal :=
  run (.errInjectWrite k i v) s (fun s => s.injectWrite (kindOf k) i v)

/-! ## Fences -/

/-- FENCE (R287): from the Binnacle the router fences at LEVEL; from any other source it is discarded as FENCE_CMD. -/
def execFence (n : Nat) (p : Pkt) (s : State) : Host.Outcome State Fault Refusal :=
  run (.fence n p) s (fun s =>
    if p.kind ≠ opFENCE ∨ s.routerUp n = false ∨ s.frozenAt n = true then s else
      let s := s.takeNet (.unit (niLoc n)) p
      if p.src.port ≠ 5 then s.report .ni n 15 (p.src.x <<< 6 + p.src.y)
      else match p.arg 0 with
        | 0 => s.fenceF1 n
        | 1 => s.fenceF2 n
        | 2 => (s.fenceF3 (regionOf n)).stopJobs (fun l => l.inRegion (regionOf n))
        | _ => if p.arg 1 < 4 then (s.fenceLink n (p.arg 1)).repairFenced else s)

/-- FENCE_WIRE (R284): the port goes out of service, and what it crossed is flushed. Log entry 64, DEDUCED. -/
def execFenceWire (n port : Nat) (s : State) : Host.Outcome State Fault Refusal :=
  run (.fenceWire n port) s (fun s => if s.routerUp n = true ∧ s.portOut n port = false then s.fenceLink n port else s)

/-! ## Repair -/

/-- The mesh link of a patch number (R292), as its west or north end and its direction. -/
def patchLink (patch : Nat) : Nat × Nat :=
  if patch ≤ 6864 then (48 * ((patch - 4609) / 47) + (patch - 4609) % 47, 1) else (patch - 6865, 2)

/-- The slot of a patch number of an F1 or F2 (R292); none for a link. Log entry 61, DEDUCED. -/
def patchSlot (patch : Nat) : Option Nat :=
  if patch = 0 then none else if patch ≤ 2304 then some (patch - 1) else if patch ≤ 4608 then some (patch - 2305) else none

/-- The fault that a patch number names is in force. -/
def State.faultStands (s : State) (patch : Nat) : Bool :=
  if patch = 0 then (List.range 36).any (fun r => (s.rg r).f3 && (s.bn.lmap.any (fun e => regionOf e.2 == r)))
  else if patch ≤ 2304 then s.level (patch - 1) == 1
  else if patch ≤ 4608 then s.level (patch - 2305) == 2
  else s.fence.mlinks.contains (patchLink patch)

/-- Move the rings that a lost tile served (R238): each writes a ring-reset record and resumes fetching at its HEAD.
Log entry 63, DEDUCED. -/
def State.moveRings (s : State) (tile new : Nat) : State :=
  let os := (s.ring.filter (fun e => decide (e.1 < 4096) && s.fld FB_RING_CFG_SERVER 0 e.1 == tile &&
    s.fld FB_RING_CFG_ENABLE 0 e.1 == 1)).map (fun e => e.1)
  os.foldl (fun s o =>
    let r := s.rng o
    let ts := s.stampOf (regionOf new)
    let w0 := 1 <<< 16 + 0xFF <<< 8 + stABORTED
    let w3 := (r.gone % 4096) <<< 32 + r.head % 65536
    let s := { s with cplq := s.cplq ++ [(⟨new, o, [w0, ts, ts, w3], false, none, [], false, none⟩ : Cpl)] }
    ((s.setRing o { r with ni := new, gone := 0, reading := false, again := false, fetching := 0, halted := false, bell := false }).stamped
      (regionOf new)).fetchRing new o) s

/-- One setting of the mirror written into the spare (R294). A tile queue that is enabled starts with its indices at 0 (R213), and a window
starts CLOSED with a new epoch (R129); a RETAIN handle is VALID once its contents are copied from its HBM home.
Log entry 163, DESIGN CHOICE. -/
def State.restoreSetting (s : State) (spare : Nat) (r : RegDef) (k v : Nat) : State :=
  if r = NI_HDL_CFG then
    let s := s.setWin spare k { epoch := ((s.window spare k).epoch + 1) % 2 ^ 16 }
    let s := if bit v 31 && bit v 30 then
        s.spadWrite spare (32 * s.fld NI_HDL_RANGE_BASE spare k)
          (s.hbmBytes (4096 * s.fld NI_HDL_HOME_ADDR spare k) (32 * s.fld NI_HDL_RANGE_SIZE spare k))
      else s
    s.writeTyped r spare k v
  else
    let s := s.writeTyped r spare k v
    if r = NI_TQn_CFG ∧ bit v 31 = true then s.setRing (4096 + 4 * spare + k) { ni := spare } else s

/-- Stolrel restores the spare's NI from the mirror of the lost one (R294): settings that it did not write have their reset values, and the
handle entries come last. The mirror names the spare from then on. Log entry 163, DESIGN CHOICE. -/
def State.restoreSettings (s : State) (lost spare : Nat) : State :=
  let mine := s.bn.mirror.filterMap (fun e =>
    match locate e.1 with
    | some (r, i, k) => if r.blk = .ni ∧ i = lost then some (r, k, e.2) else none
    | none => none)
  let s := s.resetRegs (fun r i => mirrored.contains r && i == spare)
  let rest := s.bn.mirror.filter (fun e => blockOf e.1 != some (.ni, lost) && blockOf e.1 != some (.ni, spare))
  let mirror := mine.foldl (fun (m : SMap Nat) e => m.put (e.1.addr spare e.2.1) e.2.2) rest
  let s := s.modBn (fun b => { b with mirror := mirror })
  (mine.filter (fun e => e.1 != NI_HDL_CFG) ++ mine.filter (fun e => e.1 == NI_HDL_CFG)).foldl (fun s e =>
    s.restoreSetting spare e.1 e.2.1 e.2.2) s

/-- Stolrel restores the spare (R294, R375): it takes the lost tile's OWNER, its scratchpad is zeroed, its NI takes the settings of the
mirror, and its core is released once its image digest matches. Log entry 61, DEDUCED. -/
def State.restoreSpare (s : State) (lost spare : Nat) : State :=
  let owner := if s.level lost = 1 then (if s.tnState lost = 0 then 64 else s.owner lost) else s.bn.owners.get lost 64
  let s := if owner = 64 then s else (s.setFld NI_TN_STATE_STATE 1 spare).setFld NI_TN_STATE_OWNER owner spare
  let s := { s with spad := s.spad.zero (spadKey spare 0) (spadKey (spare + 1) 0) }
  let s := s.restoreSettings lost spare
  if s.fld NI_FWLOAD_STATUS_DIGEST_OK spare = 1 then s.setFld NI_FWLOAD_CFG_RELEASE 1 spare else s

/-- Steps 2 to 5 of R293: routes, the logical map, patch and digests in every NI in service, and publication. -/
def State.newMap (s : State) (tiles : List Nat) (patch : Nat) : State :=
  let d := s.fbDigest
  let s := s.routeChange
  let s := ((tiles.map (fun t => t / 2)).dedup).foldl (fun s k => s.writeLmap k) s
  let d' := s.mapDigest
  let s := s.nisUp.foldl (fun s n =>
    let s := (s.setFld NI_CHART_PATCH_VALID 0 n).wrDigest NI_PATCH_FROM n d
    let s := if patch = 0 then s else (s.setFld NI_CHART_PATCH_NUM patch n).setFld NI_CHART_PATCH_VALID 1 n
    s.wrDigest NI_MAP_DIGEST n d') s
  s.publishMap

/-- A fault that Stolrel cannot repair (R291, R298): the region is at F3, and its logical tiles have no slot. `why` is the case of R298, by row of its
table, which the log entry carries where there is no new slot. Log entry 61, DEDUCED. -/
def State.unrepaired (s : State) (patch tile slot why : Nat) : State :=
  let gone := (s.bn.lmap.filter (fun e => (s.rg (regionOf e.2)).f3)).map (fun e => e.1)
  let s := s.modBn (fun b => { b with lmap := b.lmap.filter (fun e => !(gone.contains e.1)) })
  let s := (s.newMap gone 0).setFld FB_REPAIR_STATUS_STATE 3
  s.writeSheet.bnLog 0x05 0 slot [patch <<< 48 + tile <<< 32 + slot <<< 16 + why, s.fld FB_MAP_GEN_GEN]

/-- The repair of a fault (R291 to R295). Log entry 61, DEDUCED. -/
def State.repairFault (s : State) (patch : Nat) : State :=
  match patchSlot patch with
  | none =>
    if patch = 0 then s.unrepaired 0 0xFFF 0xFFFF 6
    else
      let s := s.newMap [] patch
      let s := (s.setFld FB_REPAIR_STATUS_STATE 2).addFld FB_REPAIR_STATUS_REPAIRS 1
      let l := patchLink patch
      (s.writeSheet.setFld FB_REPAIR_STATUS_STATE 0).bnLog 0x04 0 l.1
        [patch <<< 48 + 0xFFF <<< 32 + l.1 <<< 16 + l.1, s.fld FB_MAP_GEN_GEN]
  | some x =>
    match s.tileAt x with
    | none =>
      let s := s.newMap [] patch
      let s := (s.setFld FB_REPAIR_STATUS_STATE 2).addFld FB_REPAIR_STATUS_REPAIRS 1
      (s.writeSheet.setFld FB_REPAIR_STATUS_STATE 0).bnLog 0x04 0 x [patch <<< 48 + 0xFFF <<< 32 + x <<< 16 + x, s.fld FB_MAP_GEN_GEN]
    | some t =>
      match s.spareFor x with
      | none => ((s.fenceF3 (regionOf x)).stopJobs (fun l => l.inRegion (regionOf x))).unrepaired patch t x 2
      | some sp =>
        let s := s.modBn (fun b => { b with lmap := b.lmap.put t sp })
        let s := s.newMap [t] patch
        let s := (s.setFld FB_REPAIR_STATUS_STATE 2).addFld FB_REPAIR_STATUS_REPAIRS 1
        let s := (s.restoreSpare x sp).writeSheet.moveRings t sp
        (s.setFld FB_REPAIR_STATUS_STATE 0).bnLog 0x04 0 x [patch <<< 48 + t <<< 32 + x <<< 16 + sp, s.fld FB_MAP_GEN_GEN]

/-- REPAIR (R293): by Stolrel in READY, outside an anchor stop (R431) and while its range of HBM is whole (R381). -/
def execRepair (patch : Nat) (s : State) : Host.Outcome State Fault Refusal :=
  run (.repair patch) s (fun s =>
    if s.bnUp = true ∧ s.fld BN_STATE_STATE = 3 ∧ s.fld FB_ANCHOR_STATUS_STOPPED = 0 then
      let s := s.drainInbox
      if s.bn.lost = true ∨ s.faultStands patch = false then s else s.repairFault patch
    else s)

/-- PUBLISH (R293, R295): a write of FB_MAP_GEN. -/
def execPublish (v : Nat) (s : State) : Host.Outcome State Fault Refusal :=
  run (.publish v) s (fun s => s.regWrite (FB_MAP_GEN.addr 0 0) v (fun s => if bit v 31 then s.publishGen else s))

/-- REPAIR_HOLD_EXPIRE (R295): the completion that was held is written ABORTED. -/
def execRepairHoldExpire (n chart : Nat) (s : State) : Host.Outcome State Fault Refusal :=
  run (.repairHoldExpire n chart) s (fun s =>
    match s.launches.find? (fun l => l.ni == n && l.chart == chart && l.holdGen.isSome) with
    | some l => s.segComplete l l.abortSeg ((l.abort.map (fun a => a.1)).getD stABORTED) true
    | none => s)

/-! ## Continual self-test -/

/-- The PRBS-31 bits of a sounding flit (R289): n output bits from register s, first bit lowest. -/
def prbsBits : Nat → Nat → Nat → Nat
  | 0, _, _ => 0
  | n + 1, s, k =>
    let b := (b2n (bit s 30) + b2n (bit s 27)) % 2
    b <<< k + prbsBits n ((2 * s + b) % 2 ^ 31) (k + 1)

/-- A sounding flit (R289). -/
def soundFlit (seed : Nat) : Nat :=
  seed + (0xFFFF - seed) <<< 16 + prbsBits 2016 (0x7FFF0000 ||| seed) 32

/-- Bits set among the n low ones. -/
def ones (n w : Nat) : Nat := ((List.range n).filter (fun i => bit w i)).length

/-- A router may send a sounding flit on an output (R289). Log entry 66, DEDUCED. -/
def State.maySound (s : State) (n port : Nat) : Bool :=
  let r := s.rg (regionOf n)
  s.routerUp n && !(s.portOut n port) && (neighbour n port).isSome && s.fld RG_SELFTEST_CFG_SOUND_EN (regionOf n) == 1 &&
    decide (r.slot < 16) && !r.stalled && !r.frozen && !(s.booked n port r.L r.slot) &&
    (s.competing n port (netCode .dat)).isEmpty &&
    (match (s.rt n).sound.find? (fun e => e.1 == port) with
     | some e => decide (e.2 + zeroAsOne (s.fld RG_SELFTEST_CFG_SOUND_GAP (regionOf n)) ≤ r.L)
     | none => true)

/-- SOUNDING_FLIT (R289): sent in an open position, regenerated from its SEED by the receiver and compared (source SOUND).
Log entry 66, DEDUCED. -/
def execSoundingFlit (n port seed err : Nat) (s : State) : Host.Outcome State Fault Refusal :=
  run (.soundingFlit n port seed err) s (fun s =>
    if s.maySound n port then
      let s := (s.modRt n (fun r => { r with sound := r.sound.put port (s.rg (regionOf n)).L })).modRg (regionOf n) (fun r =>
        { r with flits := r.flits + 1 })
      match neighbour n port with
      | some m =>
        let got := soundFlit seed ^^^ err
        let wrong := ones 2048 (got ^^^ soundFlit (got % 2 ^ 16))
        if wrong = 0 ∨ s.frozenAt m = true then s
        else s.unitEvent .ni m 2 ((farPort port) <<< 12 + min 4095 wrong)
      | none => s
    else s)

/-- ROUTER_SELFTEST (R290): the router under test is compared, and the next one follows. -/
def execRouterSelftest (n step : Nat) (bad : Bool) (s : State) : Host.Outcome State Fault Refusal :=
  run (.routerSelftest n step bad) s (fun s =>
    if s.fld RG_SELFTEST_CFG_TEST_EN n = 1 ∧ (s.rg n).lag = 0 ∧ (s.rg n).frozen = false ∧ (s.rg n).f3 = false ∧ s.powered n = true then
      let k := s.fld RG_SELFTEST_CFG_ROUTER n
      let s := if k = 63 then (s.setFld RG_SELFTEST_CFG_ROUTER 0 n).addFld RG_SELFTEST_CFG_ROTATIONS 1 n
        else s.setFld RG_SELFTEST_CFG_ROUTER (k + 1) n
      if bad = true ∧ s.routerUp (regionSlot n k) = true then s.unitEvent .ni (regionSlot n k) 3 step else s
    else s)

/-! ## TICK -/

/-- TICK_TOGGLE (R300): a boundary of 50,000 ref edges. Log entry 65, DESIGN CHOICE. -/
def execTickToggle (s : State) : Host.Outcome State Fault Refusal :=
  run .tickToggle s (fun s => if s.tickRuns then { s with chr := { s.chr with tick := !s.chr.tick } } else s)

/-- KICK (R300): a write of FB_TICK_CTRL. Log entry 65, DESIGN CHOICE. -/
def execKick (v : Nat) (s : State) : Host.Outcome State Fault Refusal :=
  run (.kick v) s (fun s => s.regWrite (FB_TICK_CTRL.addr 0 0) v (fun s =>
    let s := s.writeTyped FB_TICK_CTRL 0 0 v
    if bit v 30 then { s with chr := { s.chr with kickOk := true } } else s))

/-- KICK_MISSED (R300): KICK_LIMIT ms have passed without a kick. Log entry 65, DESIGN CHOICE. -/
def execKickMissed (s : State) : Host.Outcome State Fault Refusal :=
  run .kickMissed s (fun s =>
    if s.fld FB_TICK_CTRL_ENABLE = 1 ∧ s.fld FB_TICK_CTRL_KICK_LIMIT ≠ 0 ∧ s.chr.kickOk = true then
      (({ s with chr := { s.chr with kickOk := false } }).setFld FB_TICK_STATUS_KICK_MISSED 1).unitEvent .bn 0 7 0
    else s)

end Sys2Proof.Machine
end

