-- ==== Sys2Proof/Machine/MemOps.lean ====
section
/-!
DEFINITION. The arbiter of a memory port (R345 to R349), its prefetch (R343), its copies of the HBM map and of the grants (R339,
R366) and the checks of near ranges, grants and booking entries (R339, R340, R366).
-/

namespace Sys2Proof.Machine

/-! ## Requests -/

/-- A transaction moves booked flits from HBM at attach point a. -/
def MTx.readsFor (t : MTx) (a : Nat) : Bool := decide (t.kind = .bookRead) && t.req == a

/-- Flits that attach point a holds or has asked for (R343): its read buffer has room for 64. Log entry 103, DEDUCED. -/
def MPort.ahead (m : MPort) (a : Nat) : Nat :=
  (m.rdBuf.filter (fun b => b.attach == a)).length +
    (((m.cur.toList ++ m.suspended.toList ++ m.issued).filter (fun t => t.readsFor a)).map (fun t => t.len / 256)).sum

/-- The next booked read of an attach point (R343): of the segment that runs, and once all of its reads are issued, of the one that
is LOADED; from START on, of a chart's first. Log entry 103, DEDUCED. -/
def State.bookedRead (s : State) (n a : Nat) : Option MTx :=
  let slot := (mpLoc n a).slot
  match s.ch slot with
  | none => none
  | some c =>
    let left := fun (g : Nat) => match s.booking n a 1 c.chart g with
      | some b => (s.fld MP_BOOK_CFG_FLITS n b - (s.mpt n).prefetched.get (preKey c.chart g a) 0, some b)
      | none => (0, none)
    match ((s.wantedSegs slot c).find? (fun g => decide (0 < (left g).1))).map (fun g => (g, left g)) with
    | some (g, k, some b) =>
      let room := 64 - min 64 ((s.mpt n).ahead a)
      let c' := min 16 (min k room)
      if c' = 0 then none
      else some ⟨0, .bookRead, a, s.bookFlit n b g ((s.mpt n).prefetched.get (preKey c.chart g a) 0), 256 * c', [], none,
        slot, c.chart, g, false⟩
    | _ => none

/-- Two transactions meet in a 32-byte granule. -/
def MTx.meets (t u : MTx) : Bool :=
  decide (t.addr / 32 ≤ (u.addr + u.len - 1) / 32 ∧ u.addr / 32 ≤ (t.addr + t.len - 1) / 32)

/-- No other transaction to the granule of an atomic starts until it has finished (R345), and atomics on one location start in the order
in which they came to the port (R148). -/
def MPort.blocked (m : MPort) (t : MTx) : Bool :=
  (m.cur.toList ++ m.suspended.toList ++ m.suspDbg.toList ++ m.issued).any (fun u => decide (u.kind = .atomic) && u.meets t) ||
    (decide (t.kind = .atomic) && (m.ready.takeWhile (fun u => decide (u ≠ t))).any (fun u => decide (u.kind = .atomic) && u.meets t))

/-- What requester k has ready: 0 to 5 BOOK, 6 to 11 OPEN, 12 BN, 13 DBG. Log entry 103, DEDUCED. -/
def State.head (s : State) (n k : Nat) : Option MTx :=
  let m := s.mpt n
  let t := match m.ready.find? (fun t => t.req == k) with
    | some t => some t
    | none => if k < 6 then s.bookedRead n k else none
  match t with
  | some t => if m.blocked t then none else some t
  | none => none

/-- The level of a requester (R349). -/
def MPort.level (m : MPort) (k : Nat) : Nat :=
  if k < 6 then bits m.prio0 (4 * k + 3) (4 * k) else bits m.prio1 (4 * (k - 6) + 3) (4 * (k - 6))

/-! ## Grants of the arbiter -/

/-- A tag that no outstanding command of the port uses (R445). -/
def MPort.tag (m : MPort) : Option Nat :=
  (List.range 256).find? (fun t => !((m.cur.toList ++ m.suspended.toList ++ m.suspDbg.toList ++ m.issued).any (fun u => u.id == t)))

/-- Transaction t of requester k starts; the one before it is issued whole. A requester that has waited more than 1 µs, 100 beats,
is on record (R425). Log entry 102, DEDUCED; log entry 157, DEDUCED. -/
def State.grantTx (s : State) (n k : Nat) (t : MTx) (parked : Bool) : State :=
  let m := s.mpt n
  match m.tag with
  | none => s
  | some id =>
    let began := m.since.get k 0
    let s := if 1 ≤ began ∧ 100 < beatSub s.time.c (began - 1) then s.log .mp n 0x25 15 0 k else s
    let pre := if t.kind = .bookRead then
        m.prefetched.put (preKey t.chart t.seg t.req) (m.prefetched.get (preKey t.chart t.seg t.req) 0 + t.len / 256)
      else m.prefetched
    s.setMp n { m with
      issued := m.issued ++ m.cur.toList, cur := some { t with id := id }, owner := k, parked := parked,
      ready := delFirst (fun u => decide (u = t)) m.ready, prefetched := pre, since := m.since.put k 0 }

/-- The debug port's request that may start: not one to the granule of an atomic that has not finished (R345). -/
def MPort.debugHead (m : MPort) : Option MTx := (m.ready.find? (fun t => t.req == 13)).bind (fun t => if m.blocked t then none else some t)

/-- The debug port takes the grant (R347): the transaction in progress is suspended, and the pre-emption counted (R418). -/
def State.grantDbg (s : State) (n : Nat) : State :=
  let m := s.mpt n
  match m.debugHead with
  | none => s
  | some t =>
    if m.held then s
    else
      let s := if m.suspended.isNone then s.setMp n { m with suspended := m.cur, cur := none } else s
      let s := if m.cur.isSome || m.suspended.isSome then s.addFld MP_DBG_CNT 1 n else s
      (s.log .mp n 0x22 15 0 t.addr).grantTx n 13 t false

/-- The debug port asks for a transaction of 256 bytes (R347): it is taken at once, or waits for the end of refresh hold. -/
def State.debugTx (s : State) (n addr : Nat) (wr : Bool) (data : Nat) : State :=
  let t : MTx := ⟨0, .debug, 13, addr, 256, if wr then toBytes 256 data else [], none, 0, 0, 0, false⟩
  let s := s.modMp n (fun m => { m with ready := m.ready ++ [t] })
  if (s.mpt n).ctrlReady = true ∧ s.fld (xx_ERR_STATUS_SAFE .mp) n = 0 then s.grantDbg n else s

/-- Refresh hold is in effect: the transaction in progress is suspended, a debug transaction that runs over a suspended one too (R347,
R348). -/
def MPort.hold (m : MPort) : MPort :=
  if m.suspended.isNone then { m with held := true, suspended := m.cur, cur := none }
  else { m with held := true, suspDbg := m.suspDbg.orElse (fun _ => m.cur), cur := none }

/-- As `MPort.hold`, with the entry of the logbook (R425): the requester suspended. -/
def State.holdMp (s : State) (n : Nat) : State :=
  let s := s.modMp n MPort.hold
  s.log .mp n 0x20 15 0 (((s.mpt n).suspended.map MTx.req).getD (s.mpt n).owner)

/-- The suspended transaction resumes, unless a debug request goes first (R347, R349); a suspended debug transaction goes on before it. -/
def MPort.resume (m : MPort) : MPort :=
  if m.suspDbg.isSome ∧ m.cur.isNone then { m with cur := m.suspDbg, suspDbg := none }
  else if m.suspended.isSome ∧ m.cur.isNone ∧ m.debugHead = none then { m with cur := m.suspended, suspended := none }
  else m

/-- Refresh hold ends with a change of the port; the logbook names the requester that was suspended (R425). -/
def State.endHold (s : State) (n : Nat) (f : MPort → MPort) : State :=
  let m := s.mpt n
  let s := if m.held then s.log .mp n 0x21 15 0 ((m.suspended.map MTx.req).getD m.owner) else s
  s.modMp n (fun m => (f { m with held := false }).resume)

/-- Levels committed come into force (R349). Log entry 104, DEDUCED. -/
def State.commitPrio (s : State) (n : Nat) : State :=
  match (s.mpt n).goPend with
  | none => s
  | some (p0, p1) =>
    let s := (s.modMp n (fun m => { m with prio0 := p0, prio1 := p1, goPend := none })).addFld MP_STATUS_COMMITS 1 n
    s.log .mp n 0x23 15 0 (s.fld MP_STATUS_COMMITS n)

/-- The requester served (R345): the highest level, and of it the first after the last one granted. Log entry 105, DEDUCED. -/
def MPort.winner (m : MPort) (q : List Nat) : Option Nat :=
  let h := q.foldl (fun x k => max x (m.level k)) 0
  let c := q.filter (fun k => m.level k == h)
  match c.find? (fun k => m.owner < k) with
  | some k => some k
  | none => c.head?

/-- The requesters with a transaction ready wait from now on, unless they waited already (R425). A wait is held as its first beat
plus 1; 0 is none. Log entry 157, DEDUCED. -/
def State.noteWaits (s : State) (n : Nat) : State :=
  let q := (List.range 13).filter (fun k => (s.head n k).isSome && (s.mpt n).since.get k 0 == 0)
  s.modMp n (fun m => { m with since := q.foldl (fun x k => x.put k (s.time.c + 1)) m.since })

/-- An open transaction that no grant of the port's copies covers any more (R366): the copy changed while it waited. -/
def MPort.denied (m : MPort) (t : MTx) : Bool :=
  match t.pkt with
  | some p => !(covered m.grants p.ten (adBig (reqAddr p)) t.len (fun c => if t.kind = .write then (p.arg 5 = 1 || c == 0) else true))
  | none => false

/-- The arbiter serves requester k: its transaction starts, or, met by a copy that no longer covers it, is refused (R366). -/
def State.serveTx (s : State) (n k : Nat) (t : MTx) (parked : Bool) : State :=
  if (s.mpt n).denied t then
    let s := s.modMp n (fun m => { m with ready := delFirst (fun u => decide (u = t)) m.ready, since := m.since.put k 0 })
    match t.pkt with
    | some p => s.mpRefuse p (mpLoc n (k - 6)) stACCESS_DENIED
    | none => s
  else s.grantTx n k t parked

/-- An mc cycle with the request channel free (R345, R346, R431). Log entry 105, DEDUCED. -/
def State.arbitrate (s : State) (n : Nat) : State :=
  let m := s.mpt n
  if m.held || !m.ctrlReady || s.fld (xx_ERR_STATUS_SAFE .mp) n == 1 then s
  else if m.debugHead.isSome then s.grantDbg n
  else if m.suspended.isSome then s.modMp n (fun m => { m with cur := m.suspended, suspended := none, issued := m.issued ++ m.cur.toList })
  else
    let all := if s.fld FB_ANCHOR_STATUS_STOPPED = 1 then [12] else List.range 13
    let q := all.filter (fun k => (s.head n k).isSome)
    if q = [] then s.modMp n (fun m => { m with parked := true })
    else if q = [m.owner] then
      match s.head n m.owner with
      | some t => s.serveTx n m.owner t true
      | none => s
    else
      let s := s.commitPrio n
      match (s.mpt n).winner q with
      | none => s
      | some k => match s.head n k with
        | some t => s.serveTx n k t false
        | none => s

/-! ## Answers of the controller -/

/-- Take the outstanding transaction with a tag. A suspended one cannot end. -/
def State.takeTx (s : State) (n tag : Nat) : Option MTx × State :=
  let m := s.mpt n
  match m.cur.toList.find? (fun t => t.id == tag) with
  | some t => (some t, s.setMp n { m with cur := none })
  | none => match m.issued.find? (fun t => t.id == tag) with
    | some t => (some t, s.setMp n { m with issued := delFirst (fun u => u.id == tag) m.issued })
    | none => (none, s)

/-- A write is committed: its packet is answered (R146), or SEG_DONE need not wait for it any longer (R342). -/
def State.committed (s : State) (n : Nat) (t : MTx) : State :=
  let s := (s.hbmWrite n t.addr t.data).addPair MP_WR_BYTES_LO MP_WR_BYTES_HI t.len n
  match t.pkt with
  | some p => s.answer p p.dst opWRITE_ACK [if t.ue then stDATA_ERROR else stOK, p.arg 0, 0]
  | none => s

/-- Flits of booked data join the read buffer while their segment is still wanted (R343). -/
def State.bufferFlits (s : State) (n : Nat) (t : MTx) (d : List Nat) (ue : Bool) : State :=
  let want := match s.ch t.slot with
    | some c => c.chart == t.chart && (s.wantedSegs t.slot c).contains t.seg
    | none => false
  if want then
    s.modMp n (fun m => { m with rdBuf := m.rdBuf ++
      (List.range (t.len / 256)).map (fun i =>
        ⟨t.req, t.chart, t.seg, t.addr + 256 * i, ofBytes (Sys2Proof.Machine.slice d (256 * i) 256), ue⟩) })
  else s

/-- The controller returns the flits of a read, or an atomic's old value (R446, R148, R160). -/
def State.returned (s : State) (n : Nat) (t : MTx) (ue : Bool) : State :=
  let d := s.hbm.readN (hbmKey n t.addr) t.len
  let s := s.addPair MP_RD_BYTES_LO MP_RD_BYTES_HI t.len n
  let s := if ue then s.unitEvent .mp n 2 0 else s
  let st := if ue then stDATA_ERROR else stOK
  match t.kind, t.pkt with
  | .bookRead, _ => s.bufferFlits n t d ue
  | .atomic, some p =>
    let old := ofBytes d
    let s := if ue then s else
      (s.hbmWrite n t.addr (toBytes t.len (atomicResult p old))).addPair MP_WR_BYTES_LO MP_WR_BYTES_HI t.len n
    s.answer p p.dst p.atomicAns [st, old]
  | .debug, _ => { s with tap := { s.tap with back := ofBytes d } }
  | _, some p =>
    let cls := (grantClass (s.mpt n).grants p.ten (adBig (reqAddr p)) t.len).getD 0
    s.emit (mkDat opREAD_DATA p.dst p.src p.ten p.flow p.txn [st] (reqAddr p) 0 cls d)
  | _, none => s

/-! ## Copies -/

/-- The chip's grants as the FB registers hold them (R365). -/
def State.fbGrants (s : State) : SMap Grant :=
  (List.range 128).filterMap (fun k =>
    if s.fld FB_GRANT_CFG_VALID 0 k = 1 then
      some (k, ⟨true, s.fld FB_GRANT_CFG_CLASS 0 k, s.fld FB_GRANT_CFG_TENANCY 0 k, s.fld FB_GRANT_BASE_BASE 0 k,
        s.fld FB_GRANT_CFG_SIZE 0 k⟩)
    else none)

/-- Bytes of a booking entry's whole range (R340). -/
def State.bookBytes (s : State) (n b : Nat) : Nat :=
  s.fld MP_BOOK_CFG_FLITS n b * 256 * (s.fld MP_BOOK_SEG_SEG_LAST n b + 1 - s.fld MP_BOOK_SEG_SEG_FIRST n b)

/-- Grants of the entry's tenancy cover its range, with a class that they admit (R340, R364, R365): each granule is mapped back to
its HBM offset by the port's copy of the map. -/
def State.bookCovered (s : State) (n b : Nat) : Bool :=
  let m := s.mpt n
  let a := s.bookAddr n b
  let len := s.bookBytes n b
  let weight := s.fld MP_BOOK_CFG_DIR n b = 1 ∨ s.fld MP_BOOK_CFG_CLASS n b = 1
  (List.range (cdiv (a % 4096 + len) 4096)).all (fun i =>
    match m.map.offsetOf n (a / 4096 * 4096 + 4096 * i) with
    | some ofs => covered m.grants (s.fld MP_BOOK_CFG_TENANCY n b) ofs 4096 (fun c => decide weight || c == 0)
    | none => false)

/-- A copy has changed: entries that are no longer covered lose VALID (R340). Log entry 106, DEDUCED. -/
def State.recheckBooks (s : State) (n : Nat) : State :=
  (List.range 64).foldl (fun s b =>
    if s.fld MP_BOOK_CFG_VALID n b = 1 ∧ s.bookCovered n b = false then
      (s.setFld MP_BOOK_CFG_VALID 0 n b).setFld MP_STATUS_BOOK_REFUSED 1 n
    else s) s

/-- Every NI that is not already behind keeps the old map until its copy has taken the new one (R339). -/
def State.mapChanged (s : State) (old : HbmMap) : State :=
  if s.fbMap = old then s
  else { s with nimap := (List.range 2304).foldl (fun m ni => if m.any (fun e => e.1 == ni) then m else m.put ni old) s.nimap }

/-- The first reason to refuse near range k, as CAUSE (R339). -/
def State.nearCause (s : State) (k : Nat) : Option Nat :=
  let i := s.fld FB_HBM_ILV_SIZE
  let b := s.fld FB_NEAR_BASE_BASE 0 k
  let z := s.fld FB_NEAR_CFG_SIZE 0 k
  let o := s.fld FB_NEAR_CFG_PORT_OFS 0 k
  let other := ((List.range 16).filter (fun j => j != k && s.fld FB_NEAR_CFG_VALID 0 j == 1))
  let hits := fun (b1 z1 b2 z2 : Nat) => decide (b1 < b2 + z2 ∧ b2 < b1 + z1)
  if z = 0 ∨ b < 16 * i then some 0
  else if other.any (fun j => hits b z (s.fld FB_NEAR_BASE_BASE 0 j) (s.fld FB_NEAR_CFG_SIZE 0 j)) then some 1
  else if other.any (fun j => s.fld FB_NEAR_CFG_PORT 0 j == s.fld FB_NEAR_CFG_PORT 0 k &&
      hits o z (s.fld FB_NEAR_CFG_PORT_OFS 0 j) (s.fld FB_NEAR_CFG_SIZE 0 j)) then some 2
  else if s.fld FB_HBM_ILV_CAP < i + o + z then some 3
  else none

/-- The first reason to refuse grant k, as CAUSE in the order of R366. -/
def State.grantCause (s : State) (k : Nat) : Option Nat :=
  let b := s.fld FB_GRANT_BASE_BASE 0 k
  let z := s.fld FB_GRANT_CFG_SIZE 0 k
  if z = 0 then some 0
  else if (List.range 128).any (fun j => j != k && s.fld FB_GRANT_CFG_VALID 0 j == 1 &&
      decide (b < s.fld FB_GRANT_BASE_BASE 0 j + s.fld FB_GRANT_CFG_SIZE 0 j ∧ s.fld FB_GRANT_BASE_BASE 0 j < b + z)) then some 1
  else if 16 * s.fld FB_HBM_ILV_CAP * 2 ^ 30 < (b + z) * 2 ^ 26 then some 2
  else none

/-- A booking entry may become VALID (R340). -/
def State.bookOk (s : State) (n b : Nat) : Bool :=
  let other := (List.range 64).filter (fun j => j != b && s.fld MP_BOOK_CFG_VALID n j == 1)
  let same := fun (j : Nat) => s.fld MP_BOOK_CFG_ATTACH n j == s.fld MP_BOOK_CFG_ATTACH n b &&
    s.fld MP_BOOK_CFG_DIR n j == s.fld MP_BOOK_CFG_DIR n b && s.fld MP_BOOK_CHART_CHART n j == s.fld MP_BOOK_CHART_CHART n b &&
    decide (s.fld MP_BOOK_SEG_SEG_FIRST n j ≤ s.fld MP_BOOK_SEG_SEG_LAST n b ∧
      s.fld MP_BOOK_SEG_SEG_FIRST n b ≤ s.fld MP_BOOK_SEG_SEG_LAST n j)
  decide (s.fld MP_BOOK_CFG_ATTACH n b < 6) && !(other.any same) &&
    decide (s.bookAddr n b + s.bookBytes n b ≤ s.fld FB_HBM_ILV_CAP * 2 ^ 30) && s.bookCovered n b

end Sys2Proof.Machine
end

