-- ==== Sys2Proof/Machine/MemPorts.lean ====
section
/-!
DEFINITION. Memory ports: arbitration, answers of the controller, refresh hold, priorities, bookings, and the copies of the HBM map
and of the grants.
-/

namespace Sys2Proof.Machine

/-- ARBITRATE (R345, R346, R347): an mc cycle with the controller's request channel free. An armed injection meets the checks of
the attach paths and of the arbiter (R301). -/
def execArbitrate (n : Nat) (s : State) : Host.Outcome State Fault Refusal :=
  run (.arbitrate n) s (fun s => ((s.injEvent .mp n 0 [0, 1, 5]).noteWaits n).arbitrate n)

/-- WR_DONE (R146, R342, R446). Log entry 102, DEDUCED; log entry 106, DEDUCED. -/
def execWrDone (n tag : Nat) (s : State) : Host.Outcome State Fault Refusal :=
  run (.wrDone n tag) s (fun s =>
    match s.takeTx n tag with
    | (some t, s') => if t.kind = .write ∨ t.kind = .bookWrite ∨ (t.kind = .debug ∧ t.data ≠ []) then s'.committed n t else s
    | (none, _) => s)

/-- READ_RETURN (R343, R446): the flits of a read, or the old value of an atomic; `ue` where one is flagged.
Log entry 18, DESIGN CHOICE; log entry 102, DEDUCED; log entry 106, DEDUCED. -/
def execReadReturn (n tag : Nat) (ue : Bool) (s : State) : Host.Outcome State Fault Refusal :=
  run (.readReturn n tag ue) s (fun s =>
    match s.takeTx n tag with
    | (some t, s') => if t.kind = .write ∨ t.kind = .bookWrite ∨ (t.kind = .debug ∧ t.data ≠ []) then s else s'.returned n t ue
    | (none, _) => s)

/-- REFRESH_HOLD (R347, R348): the input is asserted; a port that ignores it does not count it. -/
def execRefreshHold (n : Nat) (s : State) : Host.Outcome State Fault Refusal :=
  run (.refreshHold n) s (fun s =>
    let m := s.mpt n
    if m.inputHeld then s
    else if m.stuck then s.setMp n { m with inputHeld := true }
    else ((s.setMp n { m with inputHeld := true }).holdMp n).addFld MP_PREEMPT_CNT 1 n)

/-- REFRESH_HOLD_END (R347, R348). -/
def execRefreshHoldEnd (n : Nat) (s : State) : Host.Outcome State Fault Refusal :=
  run (.refreshHoldEnd n) s (fun s => s.endHold n (fun m => { m with inputHeld := false }))

/-- REFRESH_STUCK (R348): the hold has lasted beyond LIMIT. -/
def execRefreshStuck (n : Nat) (s : State) : Host.Outcome State Fault Refusal :=
  run (.refreshStuck n) s (fun s =>
    if (s.mpt n).held = false then s else
      let s := s.unitEvent .mp n 7 0
      (s.endHold n (fun m => { m with stuck := true })).addFld MP_REFRESH_STATUS_STUCK_CNT 1 n)

/-- REARM (R348): a write of MP_REFRESH_CFG. -/
def execRearm (n v : Nat) (s : State) : Host.Outcome State Fault Refusal :=
  run (.rearm n v) s (fun s =>
    s.regWrite (MP_REFRESH_CFG.addr n 0) v (fun s =>
      let s := s.writeTyped MP_REFRESH_CFG n 0 v
      if bit v 31 = false ∨ (s.mpt n).stuck = false then s
      else
        let s := s.modMp n (fun m => { m with stuck := false })
        if (s.mpt n).inputHeld then s.holdMp n else s))

/-- GO (R349): a write of MP_ARB_COMMIT commits what the shadows hold at this moment. Log entry 104, DEDUCED. -/
def execGo (n v : Nat) (s : State) : Host.Outcome State Fault Refusal :=
  run (.go n v) s (fun s =>
    s.regWrite (MP_ARB_COMMIT.addr n 0) v (fun s =>
      if bit v 0 then s.modMp n (fun m => { m with goPend := some (s.rd MP_ARB_PRIO0 n, s.rd MP_ARB_PRIO1 n) }) else s))

/-- DEBUG_TRANSACTION (R347): the debug port's request is taken at once, or waits for the end of refresh hold. -/
def execDebugTransaction (n addr : Nat) (wr : Bool) (data : Nat) (s : State) : Host.Outcome State Fault Refusal :=
  run (.debugTransaction n addr wr data) s (fun s => s.debugTx n addr wr data)

/-- BOOKING_CFG_WRITE (R340). -/
def execBookingCfgWrite (n b v : Nat) (s : State) : Host.Outcome State Fault Refusal :=
  run (.bookingCfgWrite n b v) s (fun s =>
    s.regWrite (MP_BOOK_CFG.addr n b) v (fun s =>
      let s := (s.writeTyped MP_BOOK_CFG n b v)
      if bit v 31 = true ∧ s.bookOk n b = false then
        (s.setFld MP_BOOK_CFG_VALID 0 n b).setFld MP_STATUS_BOOK_REFUSED 1 n
      else s))

/-- NEAR_CFG_WRITE (R339, R381): `k` 0 to 15 names FB_NEARk_CFG, 16 to 31 FB_NEARk_BASE and 32 FB_HBM_ILV. Log entry 107, DESIGN CHOICE. -/
def execNearCfgWrite (k v : Nat) (s : State) : Host.Outcome State Fault Refusal :=
  run (.nearCfgWrite k v) s (fun s =>
    let old := s.fbMap
    if k < 16 then
      s.regWrite (FB_NEAR_CFG.addr 0 k) v (fun s =>
        let s := s.writeTyped FB_NEAR_CFG 0 k v
        let s := if bit v 31 then
            match s.nearCause k with
            | some c => ((s.setFld FB_NEAR_CFG_VALID 0 0 k).setFld FB_HBM_STATUS_MAP_ERR 1).setFld FB_HBM_STATUS_CAUSE c
            | none => s
          else s
        s.mapChanged old)
    else if k < 32 then
      s.regWrite (FB_NEAR_BASE.addr 0 (k - 16)) v (fun s => (s.writeTyped FB_NEAR_BASE 0 (k - 16) v).mapChanged old)
    else
      s.regWrite (FB_HBM_ILV.addr 0 0) v (fun s =>
        let s := (s.setFld FB_HBM_ILV_SIZE (min (bits v 5 0) (s.fld FB_HBM_ILV_CAP))).mapChanged old
        if s.bnUp = true ∧ old.ilv ≠ 0 ∧ s.fld FB_HBM_ILV_SIZE = 0 then s.rangeLost (FB_HBM_ILV.addr 0 0) (s.rd FB_HBM_ILV) else s))

/-- MAP_COPY_APPLY (R339, R340): the copy of NI `k`, or of memory port `k` − 2,304, takes the map in the registers. -/
def execMapCopyApply (k : Nat) (s : State) : Host.Outcome State Fault Refusal :=
  run (.mapCopyApply k) s (fun s =>
    if k < 2304 then { s with nimap := s.nimap.del k }
    else
      let m := s.fbMap
      (s.modMp (k - 2304) (fun p => { p with map := m })).recheckBooks (k - 2304))

/-- CTRL_READY (R446): the level and CAP as the port samples them. Log entry 70, DESIGN CHOICE. -/
def execCtrlReady (n : Nat) (up : Bool) (cap : Nat) (s : State) : Host.Outcome State Fault Refusal :=
  run (.ctrlReady n up cap) s (fun s =>
    let m := s.mpt n
    if up then
      let e := s.eu .mp n
      let s := s.setEu .mp n { e with persist := e.persist.filter (fun x => x != 1) }
      let s := s.setMp n { m with ctrlReady := true, everReady := true, cap := cap }
      s.setFld FB_HBM_ILV_CAP s.capMin
    else
      let s := s.setMp n { m with ctrlReady := false }
      if m.ctrlReady = true ∧ m.everReady = true then
        let e := s.eu .mp n
        (s.setEu .mp n { e with persist := e.persist ++ [1] }).unitEvent .mp n 4 0
      else s)

/-- GRANT_CFG_WRITE (R366): `k` 0 to 127 names FB_GRANTk_CFG, 128 to 255 FB_GRANTk_BASE. Log entry 107, DESIGN CHOICE. -/
def execGrantCfgWrite (k v : Nat) (s : State) : Host.Outcome State Fault Refusal :=
  run (.grantCfgWrite k v) s (fun s =>
    if k < 128 then
      s.regWrite (FB_GRANT_CFG.addr 0 k) v (fun s =>
        let s := s.writeTyped FB_GRANT_CFG 0 k v
        if bit v 31 then
          match s.grantCause k with
          | some c => ((s.setFld FB_GRANT_CFG_VALID 0 0 k).setFld FB_GRANT_STATUS_GRANT_ERR 1).setFld FB_GRANT_STATUS_CAUSE c
          | none => s
        else s)
    else s.regWrite (FB_GRANT_BASE.addr 0 (k - 128)) v (fun s => s.writeTyped FB_GRANT_BASE 0 (k - 128) v))

/-- GRANT_COPY_APPLY (R366, R340): port `n` takes the grants in the registers. -/
def execGrantCopyApply (n : Nat) (s : State) : Host.Outcome State Fault Refusal :=
  run (.grantCopyApply n) s (fun s =>
    let g := s.fbGrants
    (s.modMp n (fun p => { p with grants := g })).recheckBooks n)

end Sys2Proof.Machine
end

