-- ==== Sys2Proof/Machine/Tenancy.lean ====
section
/-!
DEFINITION. Tenancy and isolation (R358 to R377): handle and pair writes, slice commands, the lifecycle of an NI and its scrub.
-/

namespace Sys2Proof.Machine

/-! ## Handles and pairs -/

/-- Two ranges of granules meet. -/
def granMeet (b1 z1 b2 z2 : Nat) : Bool := decide (b1 < b2 + z2 ∧ b2 < b1 + z1)

/-- BASE and SIZE of a handle, and of a pair, in granules. -/
def State.hdlGran (s : State) (n h : Nat) : Nat × Nat := (s.fld NI_HDL_RANGE_BASE n h, s.fld NI_HDL_RANGE_SIZE n h)
def State.pairGran (s : State) (n k : Nat) : Nat × Nat := (s.fld NI_PAIR_BASE_BASE n k, s.fld NI_PAIR_BOUND_SIZE n k)

/-- A range meets an enabled pair other than `skip`, or a VALID handle that satisfies p. -/
def State.meetsPair (s : State) (n b z skip : Nat) : Bool :=
  (List.range 8).any (fun k => k != skip && s.fld NI_PAIR_BASE_ENABLE n k == 1 &&
    granMeet b z (s.pairGran n k).1 (s.pairGran n k).2)
def State.meetsHandle (s : State) (n b z : Nat) (p : Nat → Bool) : Bool :=
  (List.range 256).any (fun h => p h && s.fld NI_HDL_CFG_VALID n h == 1 && granMeet b z (s.hdlGran n h).1 (s.hdlGran n h).2)

/-- The first reason to refuse a VALID handle, as CAUSE (R359). Log entry 100, DEDUCED. -/
def State.hdlCause (s : State) (n h : Nat) : Option Nat :=
  let g := s.hdlGran n h
  let cls := s.fld NI_HDL_CFG_CLASS n h
  if s.tnState n ≠ 1 then some 0
  else if s.fld NI_HDL_CFG_TENANCY n h ≠ s.owner n then some 1
  else if g.2 = 0 ∨ 49152 < g.1 + g.2 then some 2
  else if s.fld NI_HDL_CFG_RETAIN n h = 1 ∧ cls = 0 then some 3
  else if s.meetsHandle n g.1 g.2 (fun j => j != h && s.fld NI_HDL_CFG_CLASS n j != cls) then some 4
  else if s.meetsPair n g.1 g.2 8 then some 5
  else none

/-- The first reason to refuse an enabled pair, as CAUSE (R361). Log entry 100, DEDUCED. -/
def State.pairCause (s : State) (n k : Nat) : Option Nat :=
  let g := s.pairGran n k
  if g.2 = 0 ∨ 49152 < g.1 + g.2 then some 2
  else if s.meetsPair n g.1 g.2 k = true ∨ s.meetsHandle n g.1 g.2 (fun _ => true) = true then some 5
  else if s.fld NI_PAIR_BASE_SYS n k = 1 then none
  else if s.tnState n ≠ 1 then some 0
  else if s.fld NI_PAIR_BASE_TENANCY n k ≠ s.owner n then some 1
  else none

/-- A handle entry is written (R129): its window is CLOSED with counts 0 and a new epoch, waiters are answered CLOSED, the ledger
is freed without revoke, and a close that was pending completes ABORTED. -/
def State.entryWritten (s : State) (n h : Nat) : State :=
  let w := s.window n h
  let s := s.setWin n h { epoch := (w.epoch + 1) % 2 ^ 16 }
  let s := { s with ledger := s.ledger.filter (fun l => !(l.ni == n && l.handle == h)) }
  let s := (s.closeWaiters n h).endWinWaits n h stWINDOW_CLOSED
  (w.closes.foldl (fun s c => s.answerClose n h c stABORTED) s).ledgerFreed n

/-- HANDLE_WRITE (R129, R358, R359): `k` 0 writes CFG, 1 RANGE and 2 HOME. -/
def execHandleWrite (n h k v : Nat) (s : State) : Host.Outcome State Fault Refusal :=
  run (.handleWrite n h k v) s (fun s =>
    let r := if k = 0 then NI_HDL_CFG else if k = 1 then NI_HDL_RANGE else NI_HDL_HOME
    s.regWrite (r.addr n h) v (fun s =>
      let s := (s.writeTyped r n h v).entryWritten n h
      if k = 0 ∧ bit v 31 = true then
        match s.hdlCause n h with
        | some c => ((s.setFld NI_HDL_CFG_VALID 0 n h).setFld NI_TN_STATE_CAUSE c n).niCause n NI_TN_STATE_HDL_REFUSED 11
            (28 + 2 ^ 16)
        | none => s
      else s))

/-- PAIR_WRITE (R361): a write of NI_PAIRk_BASE. -/
def execPairWrite (n k v : Nat) (s : State) : Host.Outcome State Fault Refusal :=
  run (.pairWrite n k v) s (fun s =>
    s.regWrite (NI_PAIR_BASE.addr n k) v (fun s =>
      let s := s.writeTyped NI_PAIR_BASE n k v
      if bit v 31 then
        match s.pairCause n k with
        | some c => ((s.setFld NI_PAIR_BASE_ENABLE 0 n k).setFld NI_TN_STATE_CAUSE c n).niCause n NI_TN_STATE_PAIR_REFUSED 11
            (27 + 2 ^ 16)
        | none => s
      else s))

/-! ## The slice engine (R370) -/

/-- A slice command has ended: DONE, and what TN_INFO of its tenancy shows (R370, R374). Log entry 99, DEDUCED. -/
def State.sliceEnd (s : State) : State :=
  let t := s.slice.ten
  let ok := s.fld FB_SLICE_STATUS_FAILED = 0
  let s := (s.setFld FB_SLICE_STATUS_BUSY 0).setFld FB_SLICE_STATUS_DONE 1
  ((s.setFld TN_INFO_BUSY 0 t).setFld TN_INFO_SCRUB_DONE (b2n (decide ok)) t).setFld TN_INFO_SCRUB_FAIL (b2n (!(decide ok))) t

/-- A write of FB_SLICE_CMD (R370). Log entry 99, DEDUCED. -/
def State.sliceCmd (s : State) (v : Nat) : State :=
  s.regWrite (FB_SLICE_CMD.addr 0 0) v (fun s =>
    let act := bits v 31 29
    let t := bits v 27 22
    let g := bits v 9 0
    if s.fld FB_SLICE_STATUS_BUSY = 1 then s.setFld FB_SLICE_STATUS_CMD_DROPPED 1
    else if act = 0 ∨ 6 ≤ act then s
    else
      let s := (s.setFld FB_SLICE_STATUS_ANSWERED 0).setFld FB_SLICE_STATUS_FAILED 0
      let s := { s with slice := ⟨act, bit v 28, t, s.grpMembers g⟩ }
      if s.grpValid g = false then (s.setFld FB_SLICE_STATUS_REFUSED 1).sliceEnd
      else
        let s := s.setFld FB_SLICE_STATUS_BUSY 1
        let s := ((s.setFld TN_INFO_BUSY 1 t).setFld TN_INFO_SCRUB_DONE 0 t).setFld TN_INFO_SCRUB_FAIL 0 t
        let s := s.emit (mkPkt opSLICE bnLoc (groupLoc g) 0 0 0 [act, bits v 28 28, t])
        if s.slice.members = 0 then s.sliceEnd else s)

/-- ASSIGN, END, KILL, RELEASE and SCRUB (R370, R371): writes of FB_SLICE_CMD. -/
def execAssign (v : Nat) (s : State) : Host.Outcome State Fault Refusal := run (.assign v) s (fun s => s.sliceCmd v)
def execSliceEnd (v : Nat) (s : State) : Host.Outcome State Fault Refusal := run (.sliceEnd v) s (fun s => s.sliceCmd v)
def execKill (v : Nat) (s : State) : Host.Outcome State Fault Refusal := run (.kill v) s (fun s => s.sliceCmd v)
def execRelease (v : Nat) (s : State) : Host.Outcome State Fault Refusal := run (.release v) s (fun s => s.sliceCmd v)
def execScrub (v : Nat) (s : State) : Host.Outcome State Fault Refusal := run (.scrub v) s (fun s => s.sliceCmd v)

/-! ## Members (R371 to R373) -/

/-- An NI is idle (R371): no fetched descriptor, no chart segment, no REDUCE and no queued flow packet. -/
def State.niIdle (s : State) (n : Nat) : Bool :=
  !(s.descs.any (fun d => d.ni == n)) && (s.rt n).cur.isNone && (s.rt n).idle.isNone && !(s.redm.any (fun m => m.ni == n)) &&
    (List.range 32).all (fun f => (s.fl n f).queue.isEmpty)

/-- Every window that is open or closing closes at once (R372). -/
def State.closeAll (s : State) (n : Nat) : State :=
  (List.range 256).foldl (fun s h =>
    if (s.window n h).state ≠ 0 ∨ (s.window n h).closes ≠ [] then s.closeNow n h false else s) s

/-- A member enters BLOCKED (R372). Log entry 98, DEDUCED. -/
def State.blockNi (s : State) (n : Nat) : State :=
  let o := s.owner n
  let s := s.setFld NI_TN_STATE_STATE 2 n
  let s := s.closeAll n
  let rids := (s.redm.filter (fun m => m.ni == n)).map (fun m => m.rid)
  let s := ((s.descs.filter (fun d => d.ni == n)).foldl (fun s d => s.finish d.id stABORTED) s).hashPumpAll
  let s := s.segFail n (s.segNow n) stABORTED
  let s := rids.foldl (fun s rid => (s.redFail n rid stABORTED).redRelease n rid) s
  let s := (List.range 32).foldl (fun s f =>
    if s.fld NI_FLOW_CFG_TENANCY n f = o then (s.setFld NI_FLOW_CFG_ENABLE 0 n f).setFl n f { s.fl n f with queue := [], eligible := false }
    else s) s
  (List.range 4).foldl (fun s q =>
    if s.fld NI_TQn_CFG_TENANCY n q = o then s.setFld NI_TQn_CFG_ENABLE 0 n q else s) s

/-- A scrub starts (R373): windows are closed, handles other than kept ones are not VALID, and tenancy pairs are disabled.
Log entry 98, DEDUCED; log entry 178, DESIGN CHOICE. -/
def State.startScrub (s : State) (n : Nat) (full : Bool) (endState endOwner : Nat) : State :=
  let s := s.closeAll n
  let s := s.setFld NI_TN_STATE_STATE (if full then 4 else 3) n
  let s := (List.range 256).foldl (fun s h =>
    if full = true ∨ s.fld NI_HDL_CFG_RETAIN n h = 0 then s.setFld NI_HDL_CFG_VALID 0 n h else s) s
  let s := (List.range 8).foldl (fun s k =>
    if s.fld NI_PAIR_BASE_SYS n k = 0 then s.setFld NI_PAIR_BASE_ENABLE 0 n k else s) s
  { s with scrubs := s.scrubs.filter (fun x => x.ni != n) ++ [(⟨n, full, endState, endOwner, true⟩ : Scrub)] }

/-- A member answers with its state (R370). -/
def State.sliceAns (s : State) (n : Nat) (refused : Bool) : State :=
  s.niSend n opSLICE_ANS bnLoc 0 0 0 [s.tnState n, b2n refused]

/-- A member moves by the table of R371: action 1 ASSIGN, 2 END, 3 KILL, 4 RELEASE, 5 SCRUB.
Log entry 99, DEDUCED; log entry 101, DEDUCED. -/
def State.sliceMember (s : State) (n act : Nat) (hold : Bool) (t : Nat) : State :=
  let o := s.owner n
  let other := (act = 3 ∨ act = 4) ∧ o ≠ t
  match s.tnState n with
  | 0 =>
    if act = 1 then ((s.setFld NI_TN_STATE_STATE 1 n).setFld NI_TN_STATE_OWNER t n).sliceAns n false else s.sliceAns n false
  | 1 =>
    if other then s.sliceAns n true
    else match act with
    | 1 => if t = o then s.sliceAns n false else (s.blockNi n).startScrub n true 1 t
    | 2 => if s.niIdle n then s.startScrub n false 1 o else s.sliceAns n true
    | 3 => if hold then (s.blockNi n).sliceAns n false else (s.blockNi n).startScrub n false 1 o
    | 4 => (s.blockNi n).startScrub n true 0 0
    | _ => s.sliceAns n true
  | 2 =>
    if other then s.sliceAns n true
    else match act with
    | 1 => s.startScrub n true 1 t
    | 2 => s.sliceAns n true
    | 3 => if hold then s.sliceAns n false else s.startScrub n false 1 o
    | 4 => s.startScrub n true 0 0
    | _ => s.startScrub n false 1 o
  | _ => s.sliceAns n true

/-- SLICE (R370, R371, R372) at a member; one that does not come from the Binnacle's port is discarded as FENCE_CMD. -/
def execSlice (n : Nat) (p : Pkt) (s : State) : Host.Outcome State Fault Refusal :=
  run (.slice n p) s (fun s =>
    if p.kind ≠ opSLICE then s else
      s.atNi n p (fun s =>
        if p.src.port ≠ 5 then s.report .ni n 15 (p.src.x <<< 6 + p.src.y)
        else s.sliceMember n (p.arg 0) (p.arg 1 == 1) (p.arg 2)))

/-- SLICE_ANS (R370): the slice engine counts an answer, and ends the command when all have come. -/
def execSliceAns (p : Pkt) (s : State) : Host.Outcome State Fault Refusal :=
  run (.sliceAns p) s (fun s =>
    if p.kind ≠ opSLICE_ANS then s else
      let s := s.takeNet (.unit bnLoc) p
      if s.fld FB_SLICE_STATUS_BUSY = 0 then s
      else
        let s := s.addFld FB_SLICE_STATUS_ANSWERED 1
        let s := if p.arg 1 = 1 then
            let s := (s.addFld FB_SLICE_STATUS_FAILED 1).setFld FB_SLICE_STATUS_REFUSED 1
            if s.fld NI_TN_STATE_SCRUB_FAIL p.src.slot = 1 ∧ 3 ≤ p.arg 0 then s.setFld FB_SLICE_STATUS_SCRUB_FAIL 1 else s
          else s
        if s.slice.members ≤ s.fld FB_SLICE_STATUS_ANSWERED then s.sliceEnd else s)

/-- SLICE_TIMEOUT (R370): 10 ms after the write, silent members have failed. -/
def execSliceTimeout (s : State) : Host.Outcome State Fault Refusal :=
  run .sliceTimeout s (fun s =>
    if s.fld FB_SLICE_STATUS_BUSY = 0 then s
    else (s.addFld FB_SLICE_STATUS_FAILED (s.slice.members - s.fld FB_SLICE_STATUS_ANSWERED)).sliceEnd)

/-- A granule of the scratchpad that a scrub keeps (R368, R373): in a system pair, or for a partial scrub in a RETAIN handle.
Log entry 101, DEDUCED. -/
def State.keptGran (s : State) (n : Nat) (full : Bool) (g : Nat) : Bool :=
  (List.range 8).any (fun k => s.fld NI_PAIR_BASE_ENABLE n k == 1 && s.fld NI_PAIR_BASE_SYS n k == 1 &&
      granMeet g 1 (s.pairGran n k).1 (s.pairGran n k).2) ||
    (!full && s.meetsHandle n g 1 (fun h => s.fld NI_HDL_CFG_RETAIN n h == 1))

/-- The scratchpad outside the kept ranges is zero, and ZEROED counts it in KiB (R373). Log entry 98, DEDUCED. -/
def State.zeroSpad (s : State) (n : Nat) (full : Bool) : State :=
  let kept := (List.range 49152).filter (s.keptGran n full)
  let s := { s with spad := s.spad.filter (fun c =>
    !(decide (spadKey n 0 ≤ c.1 ∧ c.1 < spadKey n 0 + 49152 * 32)) || s.keptGran n full ((c.1 - spadKey n 0) / 32)) }
  s.setFld NI_TN_STATE_ZEROED ((49152 - kept.length) / 32) n

/-- SCRUB_DONE (R369, R371, R373): the scratchpad is zeroed and read back; `fail` when a line does not read zero. A scrub that no
command has asked for is the one after a reset, and ends FREE. One that has failed never ends.
Log entry 98, DEDUCED; log entry 152, DESIGN CHOICE. -/
def execScrubDone (n : Nat) (fail : Bool) (s : State) : Host.Outcome State Fault Refusal :=
  run (.scrubDone n fail) s (fun s =>
    if s.tnState n < 3 ∨ s.niUp n = false ∨ s.frozenAt n = true then s
    else
      let x := (s.scrubs.find? (fun x => x.ni == n)).getD ⟨n, true, 0, 0, false⟩
      if 3 ≤ x.endState then s else
      let s := { s with scrubs := s.scrubs.filter (fun x => x.ni != n) }
      let s := s.zeroSpad n x.full
      if fail then
        let s : State := { s with scrubs := s.scrubs ++ [{ x with endState := s.tnState n, answer := false }] }
        let s := (s.niCause n NI_TN_STATE_SCRUB_FAIL 11 (26 + 2 ^ 16)).unitEvent .ni n 7 (Config.parityAt s.fresh n % 2 ^ 18)
        if x.answer then s.sliceAns n true else s
      else
        let s := (s.setFld NI_TN_STATE_STATE x.endState n).setFld NI_TN_STATE_OWNER x.endOwner n
        if x.answer then s.sliceAns n false else s)

end Sys2Proof.Machine
end

