-- ==== Sys2Proof/Machine/Binnacle.lean ====
section
/-!
DEFINITION. The Binnacle (R379 to R417): mailbox requests, sensors and governor, the log, resets and bring-up, known-answer runs, the
load port of core firmware, and the clock monitors (R439).
-/

namespace Sys2Proof.Machine

/-! ## The mailbox: writes of BN_MBOX_CMD (R383 to R385, R413, R416) -/

def execGroupDefine (v : Nat) (bad : Bool) (s : State) : Host.Outcome State Fault Refusal :=
  run (.groupDefine v bad) s (fun s => s.mboxCmd v bad)
def execGroupUndefine (v : Nat) (bad : Bool) (s : State) : Host.Outcome State Fault Refusal :=
  run (.groupUndefine v bad) s (fun s => s.mboxCmd v bad)
def execRidDefine (v : Nat) (bad : Bool) (s : State) : Host.Outcome State Fault Refusal :=
  run (.ridDefine v bad) s (fun s => s.mboxCmd v bad)
def execRidUndefine (v : Nat) (bad : Bool) (s : State) : Host.Outcome State Fault Refusal :=
  run (.ridUndefine v bad) s (fun s => s.mboxCmd v bad)
def execStageImage (v : Nat) (bad : Bool) (s : State) : Host.Outcome State Fault Refusal :=
  run (.stageImage v bad) s (fun s => s.mboxCmd v bad)
def execLogCopy (v : Nat) (bad : Bool) (s : State) : Host.Outcome State Fault Refusal :=
  run (.logCopy v bad) s (fun s => s.mboxCmd v bad)
def execRecvChunk (v : Nat) (bad : Bool) (s : State) : Host.Outcome State Fault Refusal :=
  run (.recvChunk v bad) s (fun s => s.mboxCmd v bad)
def execRecvEnd (v : Nat) (bad : Bool) (s : State) : Host.Outcome State Fault Refusal :=
  run (.recvEnd v bad) s (fun s => s.mboxCmd v bad)

/-- MBOX_CMD_DROPPED (R383): a write of BN_MBOX_CMD while BUSY. -/
def execMboxCmdDropped (s : State) : Host.Outcome State Fault Refusal :=
  run .mboxCmdDropped s (fun s => if s.fld BN_MBOX_STATUS_BUSY = 1 then s.mboxCmd (s.waitingWrite (BN_MBOX_CMD.addr 0 0)) false else s)

/-- IMAGE_SLOT_WRITTEN (R413, R383, R452). -/
def execImageSlotWritten (bad : Bool) (s : State) : Host.Outcome State Fault Refusal :=
  run (.imageSlotWritten bad) s (fun s => if s.bnUp then s.slotWritten bad else s)

/-- BN_LOCK (R382): a write of 0 has no effect. -/
def execBnLock (v : Nat) (s : State) : Host.Outcome State Fault Refusal :=
  run (.bnLock v) s (fun s =>
    s.regWrite (BN_LOCK.addr 0 0) v (fun s => if bit v 0 then s.setFld BN_LOCK_LOCK 1 else s))

/-! ## Sensors, telemetry and the governor -/

/-- SENSOR_REFRESH (R386, R392). -/
def execSensorRefresh (n temp sag : Nat) (bad : Bool) (s : State) : Host.Outcome State Fault Refusal :=
  run (.sensorRefresh n temp sag bad) s (fun s => if s.powered n then s.sensorIn n temp sag bad else s)

/-- POWER_ESTIMATE (R390): every region controller with power. Log entry 121, DEDUCED. -/
def execPowerEstimate (s : State) : Host.Outcome State Fault Refusal :=
  run .powerEstimate s (fun s => (List.range 36).foldl (fun s n => if s.powered n then s.estimate n else s) s)

/-- GOVERNOR_LOOP (R391). -/
def execGovernorLoop (s : State) : Host.Outcome State Fault Refusal :=
  run .governorLoop s (fun s => if s.bnUp = true ∧ s.fld BN_GOV_CFG_ENABLE = 1 then s.governor else s)

/-- GOV_ENABLE (R393): a write of BN_GOV_CFG; when ENABLE becomes 1, Stolrel rereads RG_STRETCH_CTRL of every region. -/
def execGovEnable (v : Nat) (s : State) : Host.Outcome State Fault Refusal :=
  run (.govEnable v) s (fun s =>
    s.regWrite (BN_GOV_CFG.addr 0 0) v (fun s =>
      let rise := bit v 31 = true ∧ s.fld BN_GOV_CFG_ENABLE = 0 ∧ s.bnUp = true
      let s := s.writeTyped BN_GOV_CFG 0 0 v
      if rise then
        s.rereadStretch
      else s))

/-- PMBUS_POLL (R388, R403): a failed read keeps the last good values; bring-up's wait for sync counts the milliseconds. -/
def execPmbusPoll (bad : Bool) (vin iin pin st : Nat) (s : State) : Host.Outcome State Fault Refusal :=
  run (.pmbusPoll bad vin iin pin st) s (fun s =>
    if s.bnUp = false then s else
      let s := if bad then (s.satFld BN_PM_PIN_AGE 1).unitEvent .bn 0 5 0 else s.regulators vin iin pin st
      if s.fld BN_STATE_STATE = 2 ∧ s.fld BN_STATE_STEP = 9 then
        (s.modBn (fun b => { b with step9 := b.step9 + 1 })).tryReady
      else s)

/-- STACK_TEMPERATURE (R389, R446): TEMP and TEMP_LIM of a controller. Log entry 122, DEDUCED. -/
def execStackTemperature (n temp lim : Nat) (s : State) : Host.Outcome State Fault Refusal :=
  run (.stackTemperature n temp lim) s (fun s =>
    if s.bnUp = false then s else
      let k := n % 4
      let s := s.wr BN_HBM_TEMP 0 (n / 4) (setBits (s.rd BN_HBM_TEMP 0 (n / 4)) (8 * k + 7) (8 * k) temp)
      if temp ≠ 0x80 ∧ lim ≠ 0x80 ∧ toSigned 8 lim ≤ toSigned 8 temp then s.bnLog 0x08 3 n [(0x200 + n) <<< 32 + temp] else s)

/-! ## The log -/

/-- LOG_WRITE (R396): the oldest waiting entry is written; before the first entry of a sector the following sector is erased. A flash
error is a FLASH event and the entry stays. The entry comes from SRAM, whose check an armed injection meets (R301).
Log entry 119, DESIGN CHOICE; log entry 181, DESIGN CHOICE. -/
def execLogWrite (bad : Bool) (s : State) : Host.Outcome State Fault Refusal :=
  run (.logWrite bad) s (fun s =>
    match s.bn.waiting with
    | [] => s
    | e :: rest =>
      if s.bn.clockLost = true ∨ (s.bnUp = false ∧ s.fld BN_STATE_STATE ≠ 1) then s
      else if bad then s.unitEvent .bn 0 4 0
      else
        let n := s.bn.logNext
        let next := logBase + 65536 * ((n / 1024 + 1) % 128)
        let s := if n % 1024 = 0 then s.flashErase next (next + 65536) else s
        let s := (s.flashWrite (logBase + 64 * n) (logBytes e)).modBn (fun b => { b with
          waiting := rest
          logNext := (n + 1) % logEntries })
        s.injEvent .bn 0 0 [0, 1])

/-! ## Resets and bring-up -/

/-- COLD_RESET (R440, R442, R397, R416, R429): chip id and PLAN_SEL as the straps are taken, whether they disagreed, whether ANCHOR_N
is asserted at its end, and how the flash answers the ROM: 0 well, 1 no device or no parameter table, 2 with an error.
Log entry 123, DEDUCED. -/
def execColdReset (chip sel : Nat) (unstable anchor : Bool) (flash : Nat) (s : State) : Host.Outcome State Fault Refusal :=
  runTime (.coldReset chip sel unstable anchor flash) s (fun s => s.coldReset chip sel unstable anchor flash)

/-- WARM_RESET (R12, R397, R432). -/
def execWarmReset (s : State) : Host.Outcome State Fault Refusal := runTime .warmReset s (fun s => s.warmReset)

/-- REGION_RESET (R12, R53, R54, R302). -/
def execRegionReset (n : Nat) (s : State) : Host.Outcome State Fault Refusal :=
  run (.regionReset n) s (fun s => (s.regionReset n).rewriteIslands (State.regionSlots n))

/-- ISLAND_RESET (R12, R369, R302). -/
def execIslandReset (n : Nat) (s : State) : Host.Outcome State Fault Refusal :=
  run (.islandReset n) s (fun s => (s.islandReset n).rewriteIslands [n])

/-- LINK_RESET (R12). -/
def execLinkReset (n : Nat) (s : State) : Host.Outcome State Fault Refusal := run (.linkReset n) s (fun s => s.linkReset n)

/-- BN_RESET (R406, R415, R439). -/
def execBnReset (flash : Nat) (s : State) : Host.Outcome State Fault Refusal := run (.bnReset flash) s (fun s => s.bnReset flash)

/-- POWER_WAVE (R398 to R405): `bad` lists regions of the wave whose sag has not settled. The others are the outcomes of steps 3, 4 and
7, which the last wave leads to: slots left at F1 and F2, regions whose controller fails, and whether an engine of the Binnacle
does. Log entry 123, DEDUCED. -/
def execPowerWave (bad f1 f2 f3 : List Nat) (eng : Bool) (s : State) : Host.Outcome State Fault Refusal :=
  run (.powerWave bad f1 f2 f3 eng) s (fun s => s.powerWave bad f1 f2 f3 eng)

/-! ## Known-answer runs -/

/-- CORE_BIST_DONE (R400, R443): the signature is compared with that of the calibration data. -/
def execCoreBistDone (n sig : Nat) (s : State) : Host.Outcome State Fault Refusal :=
  run (.coreBistDone n sig) s (fun s => if sig = s.coreSig then s else s.coreFailed n)

/-- CORE_BIST_TIMEOUT (R443). -/
def execCoreBistTimeout (n : Nat) (s : State) : Host.Outcome State Fault Refusal :=
  run (.coreBistTimeout n) s (fun s => s.coreFailed n)

/-! ## The load port -/

/-- FWLOAD_ENABLE and FW_RELEASE (R408, R411): writes of NI_FWLOAD_CFG. -/
def execFwloadEnable (n v : Nat) (s : State) : Host.Outcome State Fault Refusal :=
  run (.fwloadEnable n v) s (fun s => s.fwCfg n v)
def execFwRelease (n v : Nat) (s : State) : Host.Outcome State Fault Refusal :=
  run (.fwRelease n v) s (fun s => s.fwCfg n v)

/-- FW_CHUNK (R408). -/
def execFwChunk (n : Nat) (s : State) : Host.Outcome State Fault Refusal :=
  run (.fwChunk n) s (fun s => if s.niUp n = true ∧ s.frozenAt n = false then s.fwChunk n else s)

/-- IMAGE_DIGEST_DONE (R411). -/
def execImageDigestDone (n : Nat) (s : State) : Host.Outcome State Fault Refusal :=
  run (.imageDigestDone n) s (fun s => if s.niUp n = true ∧ s.frozenAt n = false then s.fwDigest n else s)

/-! ## Clock monitors -/

/-- BC_CLOCK_LOST (R439): TICK stops, and the Binnacle is as in BN reset until a BN_RESET, when bc returns. -/
def execBcClockLost (s : State) : Host.Outcome State Fault Refusal :=
  run .bcClockLost s (fun s => { ((s.modBn (fun b => { b with clockLost := true })).unwake 62).hashAbort with bnUp := false })

/-- UNIT_CLOCK_LOST (R439): the domain is numbered as for timestamps, 36 to 51 mc, 52 to 59 lc, 60 hc and 63 tc. The Binnacle finds the loss,
which the unit records before its own clock counts as stopped. Log entry 164, DEDUCED. -/
def execUnitClockLost (d : Nat) (s : State) : Host.Outcome State Fault Refusal :=
  run (.unitClockLost d) s (fun s =>
    if s.stopped.contains d then s
    else
      (if s.bn.clockLost then s
      else if d < 52 then s.unitEvent .mp (d - 36) 4 0
      else if d < 60 then (List.range 4).foldl (fun s i => s.unitEvent .ol (4 * (d - 52) + i) 3 0) s
      else if d = 60 then (s.unitEvent .hp 0 5 0).unitEvent .hp 1 5 0
      else s.unitEvent .tp 0 1 0).clockStop d)

end Sys2Proof.Machine
end

