-- ==== Sys2Proof/Machine/DescOps.lean ====
section
/-!
DEFINITION. What the opcodes of descriptors share (R215 to R231): acting on a started descriptor, and ranges in the issuing NI's
own scratchpad.
-/

namespace Sys2Proof.Machine

/-- A started descriptor of an opcode at an NI in service acts. Log entry 36, DESIGN CHOICE. -/
def State.onDesc (s : State) (n id op : Nat) (f : Desc → State → State) : State :=
  if s.niUp n = false ∨ s.frozenAt n = true then s
  else
    match s.descs.find? (fun d => d.id == id && d.ni == n && d.phase == 1 && d.opcode == op) with
    | some d => f d s
    | none => s

/-- A started descriptor goes on to wait for answers. -/
def State.descBusy (s : State) (id : Nat) : State := s.updDesc id (fun d => { d with phase := 2 })

/-- An address in scratchpad of the NI's own tile (R13, R26). -/
def State.ownAddr (s : State) (n : Nat) (host : Bool) (a : Nat) : Bool :=
  !host && adChip a == s.chipId && adSpace a == 0 && decide (s.lmap n (adTile a) = some n)

/-- Where an address of the own tile lies in scratchpad (R358). -/
def State.ownOfs (s : State) (n a : Nat) : Nat := (s.hdlRange n (adHandle a)).1 + adOfs a

/-- Statuses of a range that must lie in the own scratchpad: `bad` where it lies elsewhere, and the checks of R125. An output is an
ACT write (R363). -/
def State.ownRange (s : State) (d : Desc) (host : Bool) (a len : Nat) (out : Bool) (bad : Nat) : List Nat :=
  if s.ownAddr d.ni host a then (s.check125 d.ni (adHandle a) d.ten (adOfs a) len out).toList else [bad]

end Sys2Proof.Machine
end

