-- ==== Sys2Proof/Machine/Reduce.lean ====
section
/-!
DEFINITION. Open-plane reductions at members and routers (R184 to R191, R197, R200), and the AIR commands (R198, R225).
-/

namespace Sys2Proof.Machine

/-! ## Members -/

def State.redm? (s : State) (n rid : Nat) : Option RMember := s.redm.find? (fun m => m.ni == n && m.rid == rid)
def State.updRedm (s : State) (n rid : Nat) (f : RMember → RMember) : State :=
  { s with redm := updFirst (fun m => m.ni == n && m.rid == rid) f s.redm }

/-- Strict integer SUM: rounds of 32 partials (R252). -/
def RMember.wide (m : RMember) : Bool := m.strict && m.bind.op == 0 && isInt m.bind.inF

/-- Strict floating-point SUM: aligned-integer reduction (R197). -/
def RMember.aligned (m : RMember) : Bool := m.strict && m.bind.op == 0 && !(isInt m.bind.inF)

/-- Elements of one input flit (R173). -/
def RMember.fe (m : RMember) : Nat := flitElems m.bind.op m.bind.inF

/-- Blocks of 32 elements of the whole reduction (R194). -/
def RMember.blocks (m : RMember) : Nat := m.rounds * m.fe / 32

/-- Rounds of the phase under way (R188, R197, R252). -/
def RMember.total (m : RMember) : Nat :=
  if m.phase = 1 then cdiv m.blocks 128 else if m.phase = 2 ∨ m.wide = true then m.blocks else m.rounds

/-- The elements of input flit r of a member (R174, R188, R468). -/
def State.redElems (s : State) (m : RMember) (r : Nat) : List Int :=
  if isMx m.bind.inF then
    (mxDecode m.bind.inF (s.spadRead m.ni (m.src + mxGroup m.bind.inF * r) (mxGroup m.bind.inF))).map
      (fun w => decodeElem 1 w)
  else decodeList m.bind.op m.bind.inF m.fe (s.spadRead m.ni (m.src + 256 * r) 256)

/-- Block k of a member's elements (R194). -/
def State.redBlock (s : State) (m : RMember) (k : Nat) : List Int :=
  Sys2Proof.Machine.slice (s.redElems m (32 * k / m.fe)) (32 * k % m.fe) 32

/-- The payload of a member's contribution to a round (R188, R196, R197, R252). Entries beyond the last block are ZERO. -/
def State.redBytes (s : State) (m : RMember) (r : Nat) : List Nat :=
  if m.phase = 1 then
    (List.range 128).flatMap (fun i =>
      toBytes 2 (airEntry (if 128 * r + i < m.blocks then s.redBlock m (128 * r + i) else [])))
  else if m.wide then (s.redBlock m r).flatMap (fun v => toBytes 8 (patternOf 64 v))
  else if m.phase = 2 then
    let g := ofBytes (s.spadRead m.ni (m.work + 2 * r) 2)
    (s.redBlock m r).flatMap (fun v => toBytes 8 (patternOf 64 (airConvert g v)))
  else if isMx m.bind.inF then
    (mxDecode m.bind.inF (s.spadRead m.ni (m.src + mxGroup m.bind.inF * r) (mxGroup m.bind.inF))).flatMap (toBytes 2)
  else
    let n := if m.bind.op = 4 ∧ 32 < m.bind.k then 512 else 256
    s.spadRead m.ni (m.src + n * r) n

/-- The contribution of a member to a round (R188); LAST marks the last round of the reduction. Log entry 91, DEDUCED. -/
def State.redContribution (s : State) (m : RMember) (ten r : Nat) : Pkt :=
  let last := m.phase != 1 && r + 1 == m.total
  mkDat opRED_DATA (niLoc m.ni) (niLoc m.ni) ten m.flow m.rid [m.rid, r, m.phase, b2n last, 0, 0, 0] 0 0 0 (s.redBytes m r)

/-- A REDUCE ends with a status (R191, R201, R421). Log entry 91, DEDUCED. -/
def State.redEnd (s : State) (m : RMember) (status : Nat) : State :=
  let s := { s.redQuiet m with redm := s.redm.filter (fun x => !(x.ni == m.ni && x.rid == m.rid)) }
  match s.desc? m.desc with
  | none => s
  | some d =>
    let s := s.traceRec m.ni 0x0A d.ten (some d.trace) 1 m.group m.rid status
    (s.waitFree m.ni 5 m.rid d.tag).finish m.desc status

/-- A member sends rounds while it has fewer than NCTX_M1 + 1 unacknowledged (R190). Log entry 56, DESIGN CHOICE. -/
def State.redSend (s : State) (n rid ten : Nat) : Nat → State
  | 0 => s
  | fuel + 1 =>
    match s.redm? n rid with
    | none => s
    | some m =>
      if m.n ≤ m.out.length ∨ m.total ≤ m.next then s
      else
        let p := s.redContribution m ten m.next
        let s := s.updRedm n rid (fun x => { x with next := m.next + 1, out := m.out ++ [(m.next, p, false)] })
        (s.enqueue n m.flow p).redSend n rid ten fuel

/-- Move a member on: phase 2 begins once every merged entry is here (R197); the end of its contributions is traced (R421); it
completes when its part is acknowledged and, where it receives, the LAST round is written (R191). Log entry 91, DEDUCED. -/
def State.redPump (s : State) (n rid : Nat) : State :=
  match s.redm? n rid, (s.redm? n rid).bind (fun m => s.desc? m.desc) with
  | some m, some d =>
    let s := if m.phase = 1 ∧ m.total ≤ m.got ∧ m.out = [] then
        s.updRedm n rid (fun x => { x with phase := 2, next := 0, got := 0 }) else s
    let s := s.redSend n rid d.ten 16
    match s.redm? n rid with
    | none => s
    | some x =>
      let s := if m.out = [] ∧ x.out ≠ [] then s.waitTake n 5 1 m.group rid d.layer d.tag else s
      if x.phase ≠ 1 ∧ x.total ≤ x.next ∧ x.out = [] ∧ (x.fin = true ∨ x.recv = false) then s.redEnd x (firstStatus x.sts)
      else s
  | _, _ => s

/-- RED_ACK at a member (R189, R190). -/
def State.redAckMember (s : State) (n : Nat) (p : Pkt) : State :=
  let rid := p.arg 0
  match s.redm? n rid, (s.redm? n rid).bind (fun m => s.desc? m.desc) with
  | some m, some d =>
    if m.out.any (fun e => e.1 == p.arg 1) then
      let out := delFirst (fun e => e.1 == p.arg 1) m.out
      let s := s.updRedm n rid (fun x => { x with out := out })
      let s := if out = [] then s.waitFree n 5 rid d.tag else s
      let s := if out = [] ∧ m.phase ≠ 1 ∧ m.total ≤ m.next then
          s.traceRec n 0x09 d.ten (some d.trace) 1 m.group rid m.rounds else s
      s.redPump n rid
    else s
  | _, _ => s

/-! ## Messages -/

/-- A packet for the reduction unit of a router in service. -/
def State.atRed (s : State) (n : Nat) (p : Pkt) (f : State → State) : State :=
  if s.frozenAt n then s else
    let s := s.takeNet (.unit (niLoc n)) p
    if s.routerUp n then f s else s

/-- RED_DATA (R188, R189). -/
def execRedData (n : Nat) (p : Pkt) (ue : Bool) (s : State) : Host.Outcome State Fault Refusal :=
  run (.redData n p ue) s (fun s =>
    if p.kind ≠ opRED_DATA then s else
      s.atRed n p (fun s =>
        let s := s.injEvent .red n 0 [0, 1, 2, 3]
        if s.routerUp n then s.redArrive n p ue else s))

/-- Which context slot of a router waits for the acknowledgement of a round. -/
def State.redWaiting (s : State) (n rid round : Nat) : Option Nat :=
  (s.red? n rid).bind (fun r => r.slots.findIdx? (fun sl => sl.round == round && sl.out.isSome))

/-- RED_ACK (R189, R190): from the own router to the member, or from a parent to the router's context. -/
def execRedAck (n : Nat) (p : Pkt) (s : State) : Host.Outcome State Fault Refusal :=
  run (.redAck n p) s (fun s =>
    if p.kind ≠ opRED_ACK then s else
      s.atRed n p (fun s =>
        if p.src.slot = n then (if s.niUp n then s.redAckMember n p else s)
        else match s.redWaiting n (p.arg 0) (p.arg 1) with
          | some i => (s.slotNext n (p.arg 0) i).redDrain n (p.arg 0) ((s.rt n).staged.length + 1)
          | none => s))

/-- RED_BUSY (R189): the packet is kept to be sent again. -/
def execRedBusy (n : Nat) (p : Pkt) (s : State) : Host.Outcome State Fault Refusal :=
  run (.redBusy n p) s (fun s =>
    if p.kind ≠ opRED_BUSY then s else
      s.atRed n p (fun s =>
        if p.src.slot = n then
          match s.redm? n (p.arg 0) with
          | some m =>
            if m.out.any (fun e => e.1 == p.arg 1) then
              (s.updRedm n (p.arg 0) (fun x => { x with
                out := updFirst (fun e => e.1 == p.arg 1) (fun e => (e.1, e.2.1, true)) x.out })).niCause n NI_RED_STATUS_BUSY 13 0
            else s
          | none => s
        else match s.redWaiting n (p.arg 0) (p.arg 1) with
          | some i => s.updRed n (p.arg 0) (fun r => match r.slots[i]? with
              | some sl => { r with slots := r.slots.set i { sl with busy := true } }
              | none => r)
          | none => s))

/-- RED_RESEND (R189): BACKOFF is over. -/
def execRedResend (n : Nat) (p : Pkt) (s : State) : Host.Outcome State Fault Refusal :=
  run (.redResend n p) s (fun s =>
    if p.kind ≠ opRED_DATA ∨ s.frozenAt n = true ∨ s.routerUp n = false then s
    else
      let mine := match s.redm? n (p.arg 0) with
        | some m => m.out.any (fun e => decide (e.2.1 = p) && e.2.2)
        | none => false
      if mine then
        if s.niUp n then
          (s.updRedm n (p.arg 0) (fun x => { x with
            out := updFirst (fun e => decide (e.2.1 = p)) (fun e => (e.1, p, false)) x.out })).enqueue n p.flow p
        else s
      else match (s.red? n (p.arg 0)).bind (fun r => r.slots.findIdx? (fun sl => decide (sl.out = some p) && sl.busy)) with
        | some i =>
          (s.updRed n (p.arg 0) (fun r => match r.slots[i]? with
            | some sl => { r with slots := r.slots.set i { sl with busy := false } }
            | none => r)).emit p
        | none => s)

/-- RED_RESULT (R191, R197): the round is written to DST, or merged entries to WORK. -/
def execRedResult (n : Nat) (p : Pkt) (ue : Bool) (s : State) : Host.Outcome State Fault Refusal :=
  run (.redResult n p ue) s (fun s =>
    if p.kind ≠ opRED_RESULT then s else
      s.atNi n p (fun s =>
        match s.redm? n (p.arg 0) with
        | none => s
        | some m =>
          let s := if ue then s.report .ni n 10 (29 + 3 <<< 15) else s
          let r := p.arg 1
          let s := if p.arg 2 = 1 then s.spadWrite n (m.work + 256 * r) (p.data.take (2 * m.blocks - 256 * r))
            else s.spadWrite n (m.dst + p.data.length * r) p.data
          let sts := (if ue = true ∨ p.arg 5 = 1 then [stDATA_ERROR] else []) ++ (if p.arg 4 = 1 then [stREDUCE_OVERFLOW] else [])
          (s.updRedm n (p.arg 0) (fun x => { x with
            got := x.got + 1
            fin := x.fin || p.arg 3 == 1
            sts := x.sts ++ sts })).redPump n (p.arg 0)))

/-- RED_FAIL at the root (R190): the first decides, and the root multicasts RED_ABORT. -/
def execRedFail (n : Nat) (p : Pkt) (s : State) : Host.Outcome State Fault Refusal :=
  run (.redFail n p) s (fun s =>
    if p.kind ≠ opRED_FAIL then s else
      s.atRed n p (fun s =>
        if (s.rt n).idHold.contains (p.arg 0) then s
        else
          let g := reGroup (s.redEntry (p.arg 0))
          (s.redAbortAt n (p.arg 0)).push (.router n 4)
            (mkPkt opRED_ABORT (niLoc n) (groupLoc g) 0 0 0 [p.arg 0, p.arg 1])))

/-- RED_ABORT at an island (R190): the router releases the reduction, and the member's REDUCE completes with the status. -/
def execRedAbort (n : Nat) (p : Pkt) (s : State) : Host.Outcome State Fault Refusal :=
  run (.redAbort n p) s (fun s =>
    if p.kind ≠ opRED_ABORT then s else
      s.atRed n p (fun s =>
        let s := s.redAbortAt n (p.arg 0)
        match s.redm? n (p.arg 0) with
        | some m => if s.niUp n then (s.niCause n NI_RED_STATUS_ABORTED 13 2).redEnd m (p.arg 1) else s
        | none => s))

/-- RED_LIMIT_EXPIRE (R190): a round has stayed unacknowledged for LIMIT. -/
def execRedLimitExpire (n rid : Nat) (s : State) : Host.Outcome State Fault Refusal :=
  run (.redLimitExpire n rid) s (fun s =>
    match s.redm? n rid with
    | some m =>
      if m.out = [] ∨ s.niUp n = false ∨ s.frozenAt n = true then s
      else (s.redFail n rid stTIMEOUT).niCause n NI_RED_STATUS_FAIL_SENT 13 1
    | none => s)

/-- RED_ID_HOLD_EXPIRE (R190): 1 ms after the abort. -/
def execRedIdHoldExpire (n rid : Nat) (s : State) : Host.Outcome State Fault Refusal :=
  run (.redIdHoldExpire n rid) s (fun s =>
    s.modRt n (fun r => { r with idHold := r.idHold.filter (fun x => x != rid) }))

/-! ## REDUCE -/

/-- Bytes of one round's input in scratchpad (R188, R468). -/
def RMember.inBytes (m : RMember) : Nat :=
  if isMx m.bind.inF then mxGroup m.bind.inF else if m.bind.op = 4 ∧ 32 < m.bind.k then 512 else 256

/-- Bytes of one input round's results in OUT_FMT (R191). Log entry 137, DEDUCED. -/
def RMember.outBytes (m : RMember) : Nat :=
  if m.bind.op ≤ 2 then m.fe * elemSize m.bind.outF
  else if m.bind.op = 5 then 8 * cdiv (m.fe - 2) (lsePer m.bind.outF) + (m.fe - 2) * elemSize m.bind.outF
  else m.inBytes

/-- The member that a REDUCE descriptor makes (R187, R188, R224), in the mode in which it started (R251). Log entry 92, DEDUCED;
log entry 150, DEDUCED. -/
def State.redMember (s : State) (d : Desc) : RMember :=
  let rid := bits (d.w 5) 11 0
  let w := s.redEntry rid
  let b := reBind rid w
  let strict := d.startMode % 2 == 1
  { ni := d.ni, desc := d.id, flow := d.flowNo, rid := rid, root := s.grpRoot d.ni (reGroup w), n := reCtxs w,
    bind := b, strict := strict
    recv := !(bit w 34) || s.ltileOf d.ni d.ni == bits w 19 8
    group := reGroup w, rounds := bits (d.w 5) 63 32
    src := s.ownOfs d.ni (d.w 2), dst := s.ownOfs d.ni (d.w 3), work := s.ownOfs d.ni (d.w 4)
    phase := if strict = true ∧ b.op = 0 then (if isInt b.inF then 2 else 1) else if strict = true ∧ b.op = 5 then 3 else 0
    next := 0, out := [], got := 0, fin := false, sts := [] }

/-- The checks of a REDUCE (R175, R187, R197, R202, R224, R468): statuses of those that fail. Log entry 92, DEDUCED. -/
def State.redBad (s : State) (d : Desc) (m : RMember) : List Nat :=
  let w := s.redEntry m.rid
  if bit w 63 = false then [stBAD_DESCRIPTOR]
  else
    (if reTen w ≠ d.ten ∨ (s.grpValid m.group = true ∧ s.grpTen m.group ≠ d.ten) then [stACCESS_DENIED] else []) ++
    (if 6 ≤ m.bind.op ∨ fmtOk m.bind.op m.bind.inF m.bind.outF m.bind.k = false ∨ m.rounds = 0 ∨ 2 ^ 20 < m.rounds ∨
        s.grpValid m.group = false ∨ (s.grpMap m.group).contains (s.ltileOf d.ni d.ni) = false ∨
        (isMx m.bind.inF = true ∧ m.src % 16 ≠ 0) then [stBAD_DESCRIPTOR] else []) ++
    s.ownRange d d.srcHost (d.w 2) (m.rounds * m.inBytes) false stBAD_DESCRIPTOR ++
    (if m.recv then s.ownRange d d.dstHost (d.w 3) (m.rounds * m.outBytes) true stBAD_DESCRIPTOR
     else if s.ownAddr d.ni d.dstHost (d.w 3) then [] else [stBAD_DESCRIPTOR]) ++
    (if m.aligned then
      (if s.ownAddr d.ni false (d.w 4) = false ∨ (s.hdlRange d.ni (adHandle (d.w 4))).2 < adOfs (d.w 4) + 2 * m.blocks then
        [stBAD_DESCRIPTOR] else (s.check125 d.ni (adHandle (d.w 4)) d.ten (adOfs (d.w 4)) (2 * m.blocks) true).toList)
     else [])

/-- The REDUCE descriptors of an NI that wait because eight ran, in order (R187). -/
def State.redQueue (s : State) (n : Nat) : List Nat :=
  s.redWait.filter (fun i => s.descs.any (fun d => d.id == i && d.ni == n && d.phase == 1))

/-- A REDUCE waits no more for one of the eight places. -/
def State.dequeueRed (s : State) (id : Nat) : State := { s with redWait := s.redWait.filter (· != id) }

/-- REDUCE (R187, R188, R224): the member starts to contribute. A ninth REDUCE of an NI waits, and those that wait go in order.
One whose reduction id still runs there meets a round lower than expected: both uses end ABORTED (R201). Log entry 92, DEDUCED. -/
def execReduce (n id : Nat) (s : State) : Host.Outcome State Fault Refusal :=
  run (.reduce n id) s (fun s =>
    s.onDesc n id 0x10 (fun d s =>
      let m := s.redMember d
      match s.redBad d m with
      | _ :: _ =>
        (s.traceRec n 0x0A d.ten (some d.trace) 1 m.group m.rid (firstStatus (s.redBad d m))).finish id
          (firstStatus (s.redBad d m))
      | [] =>
        let q := s.redQueue n
        let behind := match q.head? with | some i => i != id | none => false
        if 8 ≤ (s.redm.filter (fun x => x.ni == n)).length ∨ behind = true then
          (if q.contains id then s else { s with redWait := s.redWait ++ [id] })
        else if (s.redm? n m.rid).isSome = true then
          ((((s.redCause n RT_RED_STATUS_ORDER).redFail n m.rid stABORTED).traceRec n 0x0A d.ten (some d.trace) 1 m.group m.rid
            stABORTED).dequeueRed id).finish id stABORTED
        else (({ s with redm := s.redm ++ [m] }.dequeueRed id).descBusy id).redPump n m.rid))

/-! ## AIR commands -/

/-- Values of an AIR range: COUNT elements, completed with zeros to whole blocks (R225, R468). -/
def State.airValues (s : State) (n ofs fmt count : Nat) : List Int :=
  let vs : List Int :=
    if isMx fmt then
      (List.range (cdiv count 128)).flatMap (fun g =>
        (mxDecode fmt (s.spadRead n (ofs + mxGroup fmt * g) (mxGroup fmt))).map (fun w => decodeElem 1 w))
    else (List.range count).map (fun i => decodeElem fmt (ofBytes (s.spadRead n (ofs + elemSize fmt * i) (elemSize fmt))))
  vs.take count ++ List.replicate (32 * cdiv count 32 - count) 0

/-- Bytes of COUNT elements in a format. -/
def airBytes (fmt count : Nat) : Nat := if isMx fmt then cdiv count 128 * mxGroup fmt else count * elemSize fmt

/-- An AIR command (R225): its checks, and `f` on its COUNT and FMT. Log entry 93, DEDUCED. -/
def State.airCommand (s : State) (n id op : Nat) (inLen outLen entLen : Nat → Nat → Nat) (fmtOk_ : Nat → Bool)
    (f : Desc → Nat → Nat → State → State) : State :=
  s.onDesc n id op (fun d s =>
    let count := bits (d.w 5) 31 0
    let fmt := bits (d.w 5) 36 32
    let bad :=
      (if count = 0 ∨ fmtOk_ fmt = false ∨ (op ≠ 0x13 ∧ isMx fmt = true ∧ s.ownOfs n (d.w 2) % 16 ≠ 0) then [stBAD_DESCRIPTOR] else []) ++
      s.ownRange d d.srcHost (d.w 2) (inLen fmt count) false stACCESS_DENIED ++
      s.ownRange d d.dstHost (d.w 3) (outLen fmt count) true stACCESS_DENIED ++
      (if entLen fmt count = 0 then [] else s.ownRange d false (d.w 4) (entLen fmt count) false stACCESS_DENIED)
    match bad with
    | _ :: _ => s.finish id (firstStatus bad)
    | [] => (f d fmt count s).finish id stOK)

/-- A floating-point or MX format. -/
def floatIn (f : Nat) : Bool := (floatFmt f).isSome

/-- AIR_EXTRACT (R195, R225): exponent entries of a range. -/
def execAirExtract (n id : Nat) (s : State) : Host.Outcome State Fault Refusal :=
  run (.airExtract n id) s (fun s =>
    s.airCommand n id 0x11 airBytes (fun _ c => 2 * cdiv c 32) (fun _ _ => 0) floatIn (fun d fmt count s =>
      let vs := s.airValues n (s.ownOfs n (d.w 2)) fmt count
      s.spadWrite n (s.ownOfs n (d.w 3)) ((List.range (cdiv count 32)).flatMap (fun k =>
        toBytes 2 (airEntry (Sys2Proof.Machine.slice vs (32 * k) 32))))))

/-- AIR_CONVERT (R196, R225): integer blocks of a range against merged entries. -/
def execAirConvert (n id : Nat) (s : State) : Host.Outcome State Fault Refusal :=
  run (.airConvert n id) s (fun s =>
    s.airCommand n id 0x12 airBytes (fun _ c => 256 * cdiv c 32) (fun _ c => 2 * cdiv c 32) floatIn (fun d fmt count s =>
      let vs := s.airValues n (s.ownOfs n (d.w 2)) fmt count
      s.spadWrite n (s.ownOfs n (d.w 3)) ((List.range (cdiv count 32)).flatMap (fun k =>
        let g := ofBytes (s.spadRead n (s.ownOfs n (d.w 4) + 2 * k) 2)
        (Sys2Proof.Machine.slice vs (32 * k) 32).flatMap (fun v => toBytes 8 (patternOf 64 (airConvert g v)))))))

/-- AIR_FINISH (R196, R225): summed blocks in OUT_FMT. -/
def execAirFinish (n id : Nat) (s : State) : Host.Outcome State Fault Refusal :=
  run (.airFinish n id) s (fun s =>
    s.airCommand n id 0x13 (fun _ c => 8 * c) (fun f c => c * elemSize f) (fun _ c => 2 * cdiv c 32) (fun f => decide (f ≤ 4))
      (fun d fmt count s =>
        s.spadWrite n (s.ownOfs n (d.w 3)) ((List.range count).flatMap (fun i =>
          let g := ofBytes (s.spadRead n (s.ownOfs n (d.w 4) + 2 * (i / 32)) 2)
          airFinish fmt g (signedOf 64 (ofBytes (s.spadRead n (s.ownOfs n (d.w 2) + 8 * i) 8)))))))

end Sys2Proof.Machine
end

