-- ==== Sys2Proof/Machine/CmdOps.lean ====
section
/-!
DEFINITION. Operations of the command interface: bells and records, fetched descriptors, their start, completions with their
provenance (R203 to R242), and WAITs (R227).
-/

namespace Sys2Proof.Machine

/-! ## Bells (R207, R208) -/

/-- Send BELL to a serving NI, or merge it into one that has not left the host port's attach queue. Log entry 34, DEDUCED. -/
def State.sendBell (s : State) (hp o slot : Nat) : State :=
  let mine := fun (f : Flight) => decide (f.place = .router (hpLoc hp).slot ((hpLoc hp).port - 1) ∧ f.pkt.kind = opBELL ∧
    f.pkt.dst = niLoc slot) && f.pkt.arg 0 == o
  if s.net.any mine then
    { s with net := updFirst mine (fun f => { f with pkt := { f.pkt with args := [o, min 65535 (f.pkt.arg 1 + 1)] } }) s.net }.addFld
      HP_BELL_MERGED_CNT 1 hp
  else s.emit (mkPkt opBELL (hpLoc hp) (niLoc slot) (s.ringTen o) 0 0 [o, 0])

/-- A bell of a ring at a host port (R207, R269): `page` is the tenancy of the page through which it came, none for FB_BELL.
A host port in its safe state discards it (R282). Log entry 34, DEDUCED. -/
def State.ringBell (s : State) (hp o : Nat) (page : Option Nat) : State :=
  if s.fld (xx_ERR_STATUS_SAFE .hp) hp = 1 then s
  else if s.fld FB_RING_CFG_ENABLE 0 o = 0 ∨ s.replayMode 2 (s.ringTen o) = true then s.unitEvent .hp hp 1 o
  else if page.isSome = true ∧ page ≠ some (s.ringTen o) then s.unitEvent .hp hp 2 o
  else
    match s.hpLmap hp (s.fld FB_RING_CFG_SERVER 0 o) with
    | none => s
    | some slot =>
      let s := (s.addFld HP_BELLS_CNT 1 hp).log .hp hp 0x60 15 0 o
      s.sendBell hp o slot

/-! ## Records and fetches -/

/-- TAIL and CQ_HEAD of a record that has been read (R209, R211, R268, R269). Where fetching has halted, a valid record that a bell has brought
lets it go on; another one tells only how far completions have been consumed. -/
def State.recordIn (s : State) (n o tail cqHead : Nat) : State :=
  let ten := s.ringTen o
  let s := s.replayLog ten 0x02 o [tail + cqHead <<< 32, 0, 0]
  let bell := (s.rng o).bell
  let r : Ring := { s.rng o with bell := false }
  if s.replayMode 2 ten then s.setRing o { r with cqHead := cqHead }
  else if 2 ^ s.ringSize o < (tail + 2 ^ 32 - r.head % 2 ^ 32) % 2 ^ 32 then (s.setRing o { r with halted := true }).ringCause n o 14
  else if r.halted = true ∧ bell = false then s.setRing o { r with cqHead := cqHead }
  else (s.setRing o { r with tail := tail, cqHead := cqHead, halted := false }).fetchRing n o

/-- The 64-bit words of bytes. -/
def wordsOf (d : List Nat) : List Nat :=
  (List.range (d.length / 8)).map (fun i => ofBytes (Sys2Proof.Machine.slice d (8 * i) 8))

/-- Descriptors are accepted into an NI (R209, R231); the tenancy of a flow is checked as they arrive (R119). -/
def State.acceptDescs (s : State) (n origin first ten : Nat) (ds : List (List Nat)) : State :=
  (List.range ds.length).foldl (fun s i =>
    let d : Desc := ⟨s.fresh * 64 + i + 1, n, origin, (first + i) % idxMod (ringKey n origin), ds.getD i [], ten, 0, 0, 0, [], 0, false, false⟩
    let late := (s.accC (regionOf n) + 2 ^ 32 - d.notBefore) % 2 ^ 32
    { s with descs := s.descs ++ [{ d with
      late := d.fNB && decide (1 ≤ late ∧ late < 2 ^ 31)
      denied := flowKeyed d.opcode && s.fld NI_FLOW_CFG_TENANCY n d.flowNo != ten }] }) s

/-- Descriptors of a host ring have been read (R209, R268). -/
def State.descsIn (s : State) (n o : Nat) (data : List Nat) : State :=
  let r := s.rng o
  let ds := (List.range (data.length / 64)).map (fun i => wordsOf (Sys2Proof.Machine.slice data (64 * i) 64))
  let ten := s.ringTen o
  let s := s.setRing o { r with fetching := 0, head := (r.head + ds.length) % 2 ^ 32 }
  let s := s.acceptDescs n o r.head ten ds
  let s := (List.range ds.length).foldl (fun s i =>
    s.replayLog ten 0x03 o ([(r.head + i) % 2 ^ 32, 0, 0] ++ ds.getD i [])) s
  (s.ringHead n o).fetchRing n o

/-- An NI fetches the next descriptors of a tile queue from its scratchpad (R209 to R211, R213). Log entry 32, DEDUCED. -/
def State.fetchQueue (s : State) (n q : Nat) : State :=
  let key := 4096 + 4 * n + q
  let r := s.rng key
  let sz := 2 ^ s.ringSize key
  let k := min (min 16 (s.places n key)) (min ((r.tail + 2 ^ 16 - r.head % 2 ^ 16) % 2 ^ 16) (sz - r.head % sz))
  if k = 0 ∨ r.halted = true ∨ s.cqRoom key = false ∨ s.fld NI_TQn_CFG_ENABLE n q = 0 then s
  else
    let base := (s.pairRange n (s.fld NI_TQn_CFG_PAIR n q)).1 + 64 * s.fld NI_TQn_BASE_DQ_OFF n q
    let ds := (List.range k).map (fun i => wordsOf (s.spadRead n (base + 64 * (r.head % sz + i)) 64))
    let s := s.setRing key { r with ni := n, head := (r.head + k) % 2 ^ 16 }
    (s.acceptDescs n (4096 + q) r.head (s.ringTen key) ds).setFld NI_TQn_STATE_HEAD ((r.head + k) % 2 ^ 16) n q

/-! ## Starting (R229 to R231) -/

/-- Descriptors of the same ring or queue and key that come before one. Log entry 24, DESIGN CHOICE. -/
def State.before (s : State) (d : Desc) : List Desc :=
  (s.descs.takeWhile (fun e => e.id != d.id)).filter (fun e => e.ni == d.ni && e.origin == d.origin && e.key == d.key)

/-- NOT_BEFORE has been reached, or there is none (R230). Log entry 24, DESIGN CHOICE. -/
def State.nbPassed (s : State) (d : Desc) : Bool :=
  !d.fNB || decide ((s.accC (regionOf d.ni) + 2 ^ 32 - d.notBefore) % 2 ^ 32 < 2 ^ 31)

/-- A descriptor may start (R114, R229): its turn has come, ORDER is met, and its flow is enabled or foreign. Log entry 36, DESIGN CHOICE. -/
def State.turn (s : State) (d : Desc) : Bool :=
  let b := s.before d
  b.all (fun e => e.phase != 0) && (!d.fORDER || b.isEmpty) &&
  (!(flowKeyed d.opcode) || s.fld NI_FLOW_CFG_ENABLE d.ni d.flowNo == 1 || d.denied)

/-- An NI lets a descriptor act (R368, R375): it is ASSIGNED, to the tenancy of the ring that the descriptor comes from. -/
def State.mayAct (s : State) (d : Desc) : Bool := s.tnState d.ni == 1 && (decide (4096 ≤ d.origin) || d.ten == s.owner d.ni)

/-- A descriptor starts (R114, R217, R251, R368, R375): START and the mode are taken, and what refuses it at once is decided; one that may not
act waits neither for its turn nor for NOT_BEFORE.
Log entry 36, DESIGN CHOICE. -/
def State.startDesc (s : State) (n id : Nat) (nb : Bool) : State :=
  match s.desc? id with
  | none => s
  | some d =>
    if d.ni ≠ n ∨ d.phase ≠ 0 ∨ s.niUp n = false ∨ s.frozenAt n = true ∨ (nb = true ∧ d.fNB = false) ∨
        (s.mayAct d = true ∧ (s.nbPassed d = false ∨ s.turn d = false)) then s
    else
      let dom := regionOf n
      let s := s.updDesc id (fun x => { x with
        phase := 1, startTs := s.stampOf dom, startH := s.time.h, startDigest := s.fbDigest, startMode := s.rd FB_MODE })
      let s := (s.stamped dom).log .ni n 0x01 15 0 ((d.index % 65536) <<< 16 + (d.origin % 256) <<< 8 + d.opcode)
      if s.mayAct d = false then s.finish id stACCESS_DENIED
      else if listedOp d.opcode = false ∨ (tileOnly d.opcode = true ∧ d.origin < 4096) then s.finish id stBAD_DESCRIPTOR
      else if d.denied then (s.niCause n NI_OPEN_STATUS_FLOW_DENIED 10 0).finish id stACCESS_DENIED
      else s

/-! ## Completions (R211, R232, R236, R241, R242) -/

/-- The grants at the ports that serve bytes [ofs, ofs + len) of mapped HBM let a tenancy reach them (R365); a block of at most a granule lies
at two ports at most. -/
def State.granted (s : State) (ten ofs len : Nat) (ok : Nat → Bool) : Bool :=
  [ofs, ofs + len - 1].all (fun a => match s.fbMap.decode a with
    | some (port, _) => covered (s.mpt port).grants ten ofs len ok
    | none => false)

/-- Bytes 0 to 95 of a provenance block as the NI may read and write it under the descriptor's tenancy (R240, R242): from the own
chip's scratchpad or HBM, or as the host or another chip has answered. Log entry 37, DEDUCED. -/
def State.provRead (s : State) (d : Desc) (host : List Nat) : Option (List Nat) :=
  let a := d.w 7
  if a % 64 ≠ 0 then none
  else if d.provHost then (if host.length = 96 then some host else none)
  else match s.destOf d.ni d.flowNo a with
    | .bad _ => none
    | .to l =>
      if adChip a ≠ s.chipId then (if host.length = 96 then some host else none)
      else if adSpace a = 0 then
        if (s.check125 l.slot (adHandle a) d.ten (adOfs a) 128 true).isNone then
          some (s.spadRead l.slot ((s.hdlRange l.slot (adHandle a)).1 + adOfs a) 96)
        else none
      else if s.fbMap.maps (adBig a) 128 && s.granted d.ten (adBig a) 96 (fun _ => true) &&
          s.granted d.ten (adBig a + 96) 32 (fun c => c == 0) then some (s.hbmBytes (adBig a) 96)
      else none

/-- The provenance digest (R241). Log entry 37, DEDUCED. -/
def State.provDigest (s : State) (d : Desc) (endDigest block : List Nat) : List Nat :=
  sha256 (block ++ toBytes 8 (s.pair BN_FW_VERSION_LO BN_FW_VERSION_HI) ++ endDigest.flatMap (toBytes 4) ++
    toBytes 4 d.startMode ++ [0, 0, 0, 0])

/-- RESULT is written on this chip (R241). Log entry 37, DEDUCED. -/
def State.provWrite (s : State) (d : Desc) (dig : List Nat) : State :=
  let a := d.w 7 + 96
  match s.destOf d.ni d.flowNo a with
  | .bad _ => s
  | .to l =>
    if adSpace a = 0 then s.spadWrite l.slot ((s.hdlRange l.slot (adHandle a)).1 + adOfs a) dig
    else s.hbmPut (adBig a) dig

/-- RESULT lies beyond this chip's memory: in the host's, or on another chip. -/
def State.provAway (s : State) (d : Desc) : Bool := d.provHost || adChip (d.w 7) != s.chipId

/-- The write of RESULT leaves, and its completion waits for the answer (R241, R242).
It leaves by the response queue. Log entry 37, DEDUCED; log entry 58, DESIGN CHOICE. -/
def State.provSend (s : State) (c : Cpl) (d : Desc) (dig : List Nat) : State :=
  let t := s.freeTxn d.ni
  match s.destAddr d.ni d.flowNo d.provHost d.hpsel (d.w 7 + 96) with
  | .bad _ => s
  | .to l =>
    ({ s with cplq := updFirst (fun x => decide (x = c)) (fun x => { x with asked := some t }) s.cplq }.addTx
      ⟨d.ni, t, .provWr, 0, 0, 0, if d.provHost then s.chipId else adChip (d.w 7), 0, false, false⟩).enqueue d.ni respFlow
      (mkDat opWRITE (niLoc d.ni) l d.ten 0 t [0] (d.w 7 + 96) 0 0 dig)

/-- The provenance step of a completion (R241, R242): its word 0, whether the write of RESULT must be waited for, and the state after it. While
the Binnacle is down, or where the block cannot be read, none is made. Log entry 37, DEDUCED. -/
def State.prove (s : State) (c : Cpl) (host : List Nat) : Nat × Bool × State :=
  let w0 := c.words.getD 0 0
  match c.prov with
  | none => (w0, false, s)
  | some d =>
    if s.bnUp = false then (w0, false, s)
    else match s.provRead d host with
      | none => (if w0 % 256 = 0 then w0 + stACCESS_DENIED else w0, false, s)
      | some b =>
        let dig := s.provDigest d c.digest b
        if s.provAway d then (w0, true, s.provSend c d dig) else (w0 + 2 ^ 19, false, s.provWrite d dig)

/-- The oldest completion of a ring or queue is written (R211, R236, R237), once its provenance is settled; one of an OK descriptor without
CPL ends there (R234). A host ring's record leaves by the response queue.
Log entry 35, DESIGN CHOICE; log entry 58, DESIGN CHOICE; log entry 157, DEDUCED. -/
def State.writeCpl (s : State) (n o : Nat) (host : List Nat) : State :=
  let key := ringKey n o
  match s.cplq.find? (fun c => c.ni == n && c.origin == o) with
  | none => s
  | some c =>
    if s.cqRoom key = false ∨ s.txnRoom n = false ∨ s.niUp n = false ∨ s.frozenAt n = true ∨ c.asked.isSome = true then s
    else
      let pr := s.prove c host
      let s := pr.2.2
      if pr.2.1 then s
      else if c.silent = true ∧ pr.1 % 256 = 0 then { s with cplq := delFirst (fun x => decide (x = c)) s.cplq } else
      let r := s.rng key
      let sz := s.cqSize key
      let ws := [pr.1, c.words.getD 1 0, c.words.getD 2 0, c.words.getD 3 0 + phaseBit r.cqTail sz <<< 63]
      let data := ws.flatMap (toBytes 8)
      let at_ := 32 * (r.cqTail % 2 ^ sz)
      let tail := (r.cqTail + 1) % idxMod key
      let s := { s with cplq := delFirst (fun x => decide (x = c)) s.cplq }.setRing key { r with cqTail := tail }
      if o < 4096 then
        let t := s.freeTxn n
        (s.addTx ⟨n, t, .cplWr, 0, 0, 2 * key + b2n c.irq, s.chipId, 0, false, false⟩).enqueue n respFlow
          (mkDat opWRITE (niLoc n) (hpLoc (s.fld FB_RING_CFG_HP 0 o)) (s.ringTen o) 0 t [0] (s.ringCq o + at_) 0 0 data)
      else
        let q := o - 4096
        let base := (s.pairRange n (s.fld NI_TQn_CFG_PAIR n q)).1 + 64 * s.fld NI_TQn_BASE_CQ_OFF n q
        let s := s.setRing key { r with cqTail := tail, irqs := r.irqs + b2n c.irq }
        (s.spadWrite n (base + at_) data).setFld NI_TQn_STATE_CQ_TAIL tail n q

/-- TAIL and CQ_HEAD of a tile queue are written: its bell (R213). Log entry 32, DEDUCED. -/
def State.tqBell (s : State) (n q v : Nat) : State :=
  let s := s.writeTyped NI_TQn_PTR n q v
  let key := 4096 + 4 * n + q
  let r := s.rng key
  let tail := bits v 15 0
  if s.fld NI_TQn_CFG_ENABLE n q = 0 then s
  else if 2 ^ s.ringSize key < (tail + 2 ^ 16 - r.head % 2 ^ 16) % 2 ^ 16 then (s.setRing key { r with ni := n, halted := true }).ringCause n key 1
  else s.setRing key { r with ni := n, tail := tail, cqHead := bits v 31 16, halted := false }

/-! ## Groups and WAITs -/

/-- The group of a descriptor may be used by its tenancy (R150, R223). -/
def State.grpOk (s : State) (g ten : Nat) : Bool := s.grpValid g && s.grpTen g == ten

/-- A WAIT ends with a status (R227, R421, R425, R427). -/
def State.endWait (s : State) (w : Waiting) (d : Desc) (status : Nat) : State :=
  let obj := if w.kind = 0 then w.sub % 16 else if w.kind = 1 then w.key else sigLineNo d.ten w.key
  let s := { s with waits := s.waits.filter (fun x => x.desc != w.desc) }
  let s := s.traceRec w.ni 2 d.ten (some d.trace) (if w.kind = 0 then 2 else if w.kind = 1 then 15 else 3) 0 obj status
  let s := ((s.waitFree w.ni (w.kind + 1) obj d.tag).log .ni w.ni 0x04 15 0 d.tag).finish w.desc status
  if w.kind = 2 then s.sigPump w.ni else s

/-- The log of a replay has named a WAIT's signal before it began (R269): it ends. Log entry 89, DEDUCED. -/
def State.keptSignal (s : State) (w : Waiting) (d : Desc) : State :=
  let mine := fun (r : Nat × Nat × Nat) => decide (r = (d.origin % 4096, sigLineNo d.ten w.key, d.index % 2 ^ 32))
  if s.replayMode 2 d.ten && s.replay.signals.any mine then
    { s with replay := { s.replay with signals := delFirst mine s.replay.signals } }.endWait w d stOK
  else s

/-- A WAIT begins (R227, R421, R425, R427). -/
def State.beginWait (s : State) (w : Waiting) (d : Desc) : State :=
  let obj := if w.kind = 0 then w.sub % 16 else if w.kind = 1 then w.key else sigLineNo d.ten w.key
  let arg := if w.kind = 0 then w.key else w.target
  let ak := if w.kind = 0 then 2 else if w.kind = 1 then 15 else 3
  let s := { s with waits := s.waits ++ [w] }.descBusy d.id
  let s := s.traceRec w.ni 1 d.ten (some d.trace) ak 0 obj arg
  let s := (s.waitTake w.ni (w.kind + 1) ak 0 obj d.layer d.tag).log .ni w.ni 0x03 15 0 d.tag
  if w.kind = 2 then (s.sigPump w.ni).keptSignal w d else s

end Sys2Proof.Machine
end

