-- ==== Sys2Proof/Machine/Command.lean ====
section
/-!
DEFINITION. The command interface (R203 to R246): bells, records, descriptors, every opcode but REDUCE and the AIR commands
(Machine/Reduce.lean), completions and signal lines; pause and resume (R254 to R261).
-/

namespace Sys2Proof.Machine

/-! ## Bells, records and fetches -/

/-- TN_BELL (R207): a ring bell through the page of tenancy t. -/
def execTnBell (hp t v : Nat) (s : State) : Host.Outcome State Fault Refusal :=
  run (.tnBell hp t v) s (fun s => s.regWrite (TN_BELL.addr t 0) v (fun s => s.ringBell hp (bits v 11 0) (some t)))

/-- FB_BELL (R207): a ring bell of privileged software. -/
def execFbBell (hp v : Nat) (s : State) : Host.Outcome State Fault Refusal :=
  run (.fbBell hp v) s (fun s => s.regWrite (FB_BELL.addr 0 0) v (fun s => s.ringBell hp (bits v 11 0) none))

/-- BELL at the serving NI (R208); a recorded ring's is logged with the bells merged into it (R268). -/
def execBell (n : Nat) (p : Pkt) (s : State) : Host.Outcome State Fault Refusal :=
  run (.bell n p) s (fun s => if p.kind ≠ opBELL then s else s.atNi n p (fun s =>
    (s.replayLog (s.ringTen (p.arg 0)) 0x01 (p.arg 0) [p.arg 1, 0, 0]).readRecord n (p.arg 0) true))

/-- DOORBELL_RECORD_READ (R208, R209): the answer to a record read. A pending mark starts one more. -/
def execDoorbellRecordRead (n : Nat) (p : Pkt) (s : State) : Host.Outcome State Fault Refusal :=
  run (.doorbellRecordRead n p) s (fun s =>
    match s.findTx n p.txn with
    | some t =>
      if t.use ≠ .record ∨ (p.kind ≠ opREAD_DATA ∧ p.kind ≠ opREAD_ERR) then s
      else
        s.atNi n p (fun s =>
          let o := t.arg
          let again := (s.rng o).again
          let s := (s.delTx n p.txn).setRing o { s.rng o with reading := false, again := false }
          let s := if p.kind = opREAD_ERR ∨ p.arg 0 ≠ 0 then (s.setRing o { s.rng o with bell := false }).ringCause n o 13
            else s.recordIn n o (ofBytes (p.data.take 4)) (ofBytes (Sys2Proof.Machine.slice p.data 8 4))
          if again then s.readRecord n o true else s)
    | none => s)

/-- DESCRIPTOR_FETCH (R209, R210): the answer to a ring's read, or a tile queue's next descriptors. -/
def execDescriptorFetch (n o : Nat) (p : Pkt) (s : State) : Host.Outcome State Fault Refusal :=
  run (.descriptorFetch n o p) s (fun s =>
    if 4096 ≤ o then (if s.niUp n = false ∨ s.frozenAt n = true then s else s.fetchQueue n (o - 4096))
    else match s.findTx n p.txn with
      | some t =>
        if t.use ≠ .descFetch ∨ t.arg ≠ o ∨ (p.kind ≠ opREAD_DATA ∧ p.kind ≠ opREAD_ERR) then s
        else
          s.atNi n p (fun s =>
            let s := s.delTx n p.txn
            if p.kind = opREAD_ERR ∨ p.arg 0 ≠ 0 then (s.setRing o { s.rng o with fetching := 0, halted := true }).ringCause n o 13
            else s.descsIn n o p.data)
      | none => s)

/-- CQ_RECHECK (R211): completions of a ring have no room, and its record is read again. A tile queue has registers in place of a record. -/
def execCqRecheck (n o : Nat) (s : State) : Host.Outcome State Fault Refusal :=
  run (.cqRecheck n o) s (fun s =>
    if o < 4096 ∧ s.niUp n = true ∧ s.frozenAt n = false ∧ (s.rng o).ni = n ∧ s.cqRoom o = false ∧ (s.rng o).reading = false ∧
        (s.fld FB_RING_CFG_ENABLE 0 o = 1 ∨ s.cplq.any (fun c => c.ni == n && c.origin == o) = true) then s.readRecord n o false else s)

/-- COMPLETION_WRITE (R211, R232, R241). Log entry 35, DESIGN CHOICE. -/
def execCompletionWrite (n o : Nat) (host : List Nat) (s : State) : Host.Outcome State Fault Refusal :=
  run (.completionWrite n o host) s (fun s => s.writeCpl n o host)

/-- RING_CFG_WRITE (R212): with ENABLE 1 the configuration is checked and the indices restart. Log entry 31, DESIGN CHOICE. -/
def execRingCfgWrite (r v : Nat) (s : State) : Host.Outcome State Fault Refusal :=
  run (.ringCfgWrite r v) s (fun s =>
    s.regWrite (FB_RING_CFG.addr 0 r) v (fun s =>
      let s := s.writeTyped FB_RING_CFG 0 r v
      if bit v 31 = false then s
      else if s.fld FB_RING_CFG_SIZE 0 r < 6 ∨ s.fld FB_RING_CFG_CQ_SIZE 0 r < 6 ∨ s.tiles ≤ s.fld FB_RING_CFG_SERVER 0 r then
        (s.setFld FB_RING_CFG_CFG_ERR 1 0 r).setFld FB_RING_CFG_ENABLE 0 0 r
      else ((s.setFld FB_RING_CFG_CFG_ERR 0 0 r).wr FB_RING_HEAD 0 r 0).setRing r
        { ni := (s.hpLmap (s.fld FB_RING_CFG_HP 0 r) (s.fld FB_RING_CFG_SERVER 0 r)).getD 2304 }))

/-- TQ_BELL (R213): a write of NI_TQn_PTR. -/
def execTqBell (n q v : Nat) (s : State) : Host.Outcome State Fault Refusal :=
  run (.tqBell n q v) s (fun s => s.regWrite (NI_TQn_PTR.addr n q) v (fun s => s.tqBell n q v))

/-- TQ_CFG_WRITE (R213, R362): the indices restart where ENABLE rises. -/
def execTqCfgWrite (n q v : Nat) (s : State) : Host.Outcome State Fault Refusal :=
  run (.tqCfgWrite n q v) s (fun s =>
    s.regWrite (NI_TQn_CFG.addr n q) v (fun s =>
      let was := s.fld NI_TQn_CFG_ENABLE n q
      let s := s.writeTyped NI_TQn_CFG n q v
      if bit v 31 = false then s
      else
        let sz := s.fld NI_TQn_CFG_SIZE n q
        let cq := s.fld NI_TQn_CFG_CQ_SIZE n q
        let bound := (s.pairRange n (s.fld NI_TQn_CFG_PAIR n q)).2
        if sz < 6 ∨ 12 < sz ∨ cq < 6 ∨ 12 < cq ∨ bound < 64 * s.fld NI_TQn_BASE_DQ_OFF n q + 64 * 2 ^ sz ∨
            bound < 64 * s.fld NI_TQn_BASE_CQ_OFF n q + 32 * 2 ^ cq ∨
            s.pairForeign n (s.fld NI_TQn_CFG_PAIR n q) (s.fld NI_TQn_CFG_TENANCY n q) = true then
          (s.setFld NI_TQn_CFG_CFG_ERR 1 n q).setFld NI_TQn_CFG_ENABLE 0 n q
        else if was = 1 then s.setFld NI_TQn_CFG_CFG_ERR 0 n q
        else (((s.setFld NI_TQn_CFG_CFG_ERR 0 n q).wr NI_TQn_STATE n q 0).wr NI_TQn_PTR n q 0).setRing (4096 + 4 * n + q) { ni := n }))

/-! ## Starting -/

/-- DESCRIPTOR_START (R229). Log entry 36, DESIGN CHOICE. -/
def execDescriptorStart (n id : Nat) (s : State) : Host.Outcome State Fault Refusal :=
  run (.descriptorStart n id) s (fun s => s.startDesc n id false)

/-- NOT_BEFORE_REACHED (R230): a descriptor with NB starts once the accepted C has reached its beat. -/
def execNotBeforeReached (n id : Nat) (s : State) : Host.Outcome State Fault Refusal :=
  run (.notBeforeReached n id) s (fun s => s.startDesc n id true)

/-- NOP (R217). -/
def execNop (n id : Nat) (s : State) : Host.Outcome State Fault Refusal :=
  run (.nop n id) s (fun s => s.onDesc n id 0x00 (fun _ s => s.finish id stOK))

/-! ## Data -/

/-- Start a transfer of a descriptor, unless no transaction is free (R102). -/
def State.beginXfer (s : State) (d : Desc) (x : Xfer) (credits : Bool) (check epoch : Nat) : State :=
  if s.txnRoom d.ni then (s.descBusy d.id).startXfer x credits check epoch (d.w 3) else s

/-- A COPY or MCAST_WRITE from this chip's HBM whose source does not lie inside one grant (R363), by the grants of the port that serves its
first byte. Log entry 168, DEDUCED. -/
def State.classStatus (s : State) (d : Desc) (len : Nat) : List Nat :=
  if d.srcHost = false ∧ adSpace (d.w 2) = 1 ∧ adChip (d.w 2) = s.chipId then
    match (s.niMap d.ni).decode (adBig (d.w 2)) with
    | some (port, _) => if (grantClass (s.mpt port).grants d.ten (adBig (d.w 2)) len).isNone then [stACCESS_DENIED] else []
    | none => []
  else []

/-- COPY (R219): every refusal of what it names applies before anything is sent (R338, R467). -/
def execCopy (n id : Nat) (s : State) : Host.Outcome State Fault Refusal :=
  run (.copy n id) s (fun s =>
    s.onDesc n id 0x01 (fun d s =>
      let len := bits (d.w 4) 31 0
      let bad := (if len = 0 ∨ (d.srcHost = true ∧ d.dstHost = true) then [stBAD_DESCRIPTOR] else []) ++
        s.nameStatus n d.flowNo d.srcHost d.hpsel (d.w 2) len ++ s.nameStatus n d.flowNo d.dstHost d.hpsel (d.w 3) len ++
        s.classStatus d len
      match bad with
      | _ :: _ => s.finish id (firstStatus bad)
      | [] => match s.destAddr n d.flowNo d.dstHost d.hpsel (d.w 3) with
        | .bad st => s.finish id st
        | .to l =>
          let credits := !d.dstHost && adSpace (d.w 3) == 0
          let srcHbm := !d.srcHost && adSpace (d.w 2) == 1
          let dstHbm := !d.dstHost && adSpace (d.w 3) == 1
          s.beginXfer d { newXfer s d .copy with
            dstLoc := l, policy := bits (d.w 4) 32 32
            chunks := cutChunks srcHbm dstHbm (2 * (len / 4096) + 4) (d.w 2) (d.w 3) len }
            credits (bits (d.w 4) 33 33) (bits (d.w 4) 49 34)))

/-- MCAST_WRITE (R150, R153, R220). Log entry 38, DEDUCED. -/
def execMcastWrite (n id : Nat) (s : State) : Host.Outcome State Fault Refusal :=
  run (.mcastWrite n id) s (fun s =>
    s.onDesc n id 0x02 (fun d s =>
      let len := bits (d.w 4) 31 0
      let g := bits (d.w 4) 41 32
      let bad := (if s.grpOk g d.ten then [] else [stACCESS_DENIED]) ++
        (if len = 0 ∨ d.dstHost = true ∨ adChip (d.w 3) ≠ s.chipId ∨ adSpace (d.w 3) ≠ 0 ∨ d.w 5 % 32 ≠ 0 then [stBAD_DESCRIPTOR] else []) ++
        s.nameStatus n d.flowNo d.srcHost d.hpsel (d.w 2) len ++ s.classStatus d len ++
        (if d.w 5 = 0 then [] else s.nameStatus n d.flowNo d.auxHost d.hpsel (d.w 5) 288)
      match bad with
      | _ :: _ => s.finish id (firstStatus bad)
      | [] =>
        let srcHbm := !d.srcHost && adSpace (d.w 2) == 1
        s.beginXfer d { newXfer s d .mcast with
          dstLoc := groupLoc g, group := some g, members := s.grpMembers g, policy := bits (d.w 4) 42 42
          missAddr := d.w 5, missHost := d.auxHost
          chunks := cutChunks srcHbm false (2 * (len / 4096) + 4) (d.w 2) (d.w 3) len }
          true (bits (d.w 4) 43 43) (bits (d.w 4) 59 44)))

/-- ATOMIC (R148, R218, R221). -/
def execAtomic (n id : Nat) (s : State) : Host.Outcome State Fault Refusal :=
  run (.atomic n id) s (fun s =>
    s.onDesc n id 0x03 (fun d s =>
      let a := d.w 2
      let cas := bit (d.w 6) 5
      let size := bits (d.w 6) 4 4
      let aop := bits (d.w 6) 3 0
      let inPage := (s.sigPageOf d.hpsel d.ten a).isSome
      let bad :=
        (if a % (if size = 1 then 8 else 4) ≠ 0 ∨ (cas = false ∧ (10 ≤ aop ∨ (aop = 9 ∧ size = 1))) ∨
            (d.srcHost = true ∧ inPage = false) then [stBAD_DESCRIPTOR] else []) ++
        s.nameStatus n d.flowNo d.srcHost d.hpsel a (if size = 1 then 8 else 4) ++
        (if d.w 5 = 0 then [] else s.nameStatus n d.flowNo d.auxHost d.hpsel (d.w 5) 8) ++
        (if cas = false ∧ aop = 9 ∧ d.startMode % 2 = 1 then [stSTRICT_FORBIDDEN] else [])
      match bad with
      | _ :: _ => s.finish id (firstStatus bad)
      | [] =>
        match s.destAddr n d.flowNo d.srcHost d.hpsel a with
        | .bad st => s.finish id st
        | .to l =>
          if s.txnRoom n then
            let t := s.freeTxn n
            let s := (s.descBusy id).addTx ⟨n, t, .atomic, id, 0, 0, if d.srcHost then s.chipId else adChip a, 0, false, false⟩
            if cas then s.niSend n opATOMIC_CAS l d.ten d.flowNo t [a, size, d.w 4, d.w 3]
            else s.niSend n opATOMIC l d.ten d.flowNo t [a, aop, size, d.w 3]
          else s))

/-! ## Windows (R222) -/

/-- A window descriptor (R222): `own` acts on a window of the NI's own, and otherwise the message `o` goes to its owner. -/
def State.winDesc (s : State) (n id op : Nat) (own : Desc → Nat → State → State)
    (send : Desc → Nat → Loc → Nat → State → State) : State :=
  s.onDesc n id op (fun d s =>
    let a := d.w 2
    if adSpace a ≠ 0 then s.finish id stBAD_DESCRIPTOR
    else if s.ownAddr n false a then
      match s.winCheck n (adHandle a) d.ten with
      | some st => s.finish id st
      | none => own d (adHandle a) s
    else match s.destOf n d.flowNo a with
      | .bad st => s.finish id st
      | .to l =>
        if s.txnRoom n then
          let t := s.freeTxn n
          send d (adHandle a) l t ((s.descBusy id).addTx ⟨n, t, .winOp, id, 0, 0, adChip a, 0, false, false⟩)
        else s)

/-- WIN_OPEN (R130, R222). -/
def execWinOpen (n id : Nat) (s : State) : Host.Outcome State Fault Refusal :=
  run (.winOpen n id) s (fun s =>
    s.winDesc n id 0x04
      (fun d h s =>
        let r := s.openWindow n h (bits (d.w 3) 12 0) (bits (d.w 3) 25 13) (d.issuerKind) (s.issuer d)
        r.2.finish id r.1)
      (fun d _ l t s => s.niSend n opWIN_OPEN l d.ten d.flowNo t [d.w 2, bits (d.w 3) 12 0, bits (d.w 3) 25 13]))

/-- WIN_CLOSE (R140 to R142, R222). -/
def execWinClose (n id : Nat) (s : State) : Host.Outcome State Fault Refusal :=
  run (.winClose n id) s (fun s =>
    s.winDesc n id 0x05
      (fun d h s => (s.descBusy id).beginClose n h (bit (d.w 3) 0) (bits (d.w 3) 31 16) ⟨bit (d.w 3) 0, some id, none, 0⟩)
      (fun d h l t s => s.niSend n opWIN_CLOSE l d.ten d.flowNo t ([bits (d.w 3) 0 0, h, bits (d.w 3) 31 16, t] ++
        (if adChip (d.w 2) = s.chipId then [0, 0] else [adChip (d.w 2), adTile (d.w 2)]))))

/-- WIN_REPLENISH (R131, R222). -/
def execWinReplenish (n id : Nat) (s : State) : Host.Outcome State Fault Refusal :=
  run (.winReplenish n id) s (fun s =>
    s.winDesc n id 0x06
      (fun d h s =>
        let r := s.replenish n h (bits (d.w 3) 12 0) (d.issuerKind) (s.issuer d)
        r.2.finish id r.1)
      (fun d _ l t s => s.niSend n opWIN_REPLENISH l d.ten d.flowNo t [d.w 2, bits (d.w 3) 12 0]))

/-! ## Charts (R60, R223, R254 to R261) -/

/-- Word i of a save area. -/
def State.saveWord (s : State) (a i : Nat) : Nat := ofBytes (s.hbmBytes (adBig a + 8 * i) 8)

/-- Checks 1 and 2 of R259 on a save area of k members. Log entry 41, DEDUCED. -/
def State.saveAreaBad (s : State) (ten a k : Nat) : Option Nat :=
  if adSpace a ≠ 1 ∨ a % 4096 ≠ 0 then some stBAD_DESCRIPTOR
  else if adChip a ≠ s.chipId then some stACCESS_DENIED
  else match s.fbMap.decode (adBig a) with
    | none => some stACCESS_DENIED
    | some (port, _) =>
      if covered (s.mpt port).grants ten (adBig a) (256 + 128 * k) (fun _ => true) then none else some stACCESS_DENIED

/-- The checks of R259 in order. -/
def State.resumeBad (s : State) (d : Desc) (k : Nat) : Option Nat :=
  let a := d.w 4
  match s.saveAreaBad d.ten a k with
  | some st => some st
  | none =>
    let w := s.saveWord a
    let body := s.hbmBytes (adBig a) 248 ++ s.hbmBytes (adBig a + 256) (128 * bits (w 3) 61 50)
    if bits (w 0) 15 8 ≠ 1 ∨ crc64 body ≠ w 31 then some stBAD_DESCRIPTOR
    else if bits (w 0) 63 32 ≠ bits (d.w 2) 31 0 ∨ bits (w 3) 49 40 ≠ bits (d.w 3) 9 0 ∨ bits (w 3) 61 50 ≠ k then
      some stBAD_DESCRIPTOR
    else if bits (w 3) 37 32 ≠ d.ten then some stACCESS_DENIED
    else if bits (w 3) 31 0 ≠ d.startMode then some stSTRICT_FORBIDDEN
    else if w 2 ≠ s.pair BN_FW_VERSION_LO BN_FW_VERSION_HI then some stBAD_DESCRIPTOR
    else if (List.range 8).map (fun i => bits (w (4 + i / 2)) (32 * (i % 2) + 31) (32 * (i % 2))) ≠ s.fbDigest then some stCHART_STALE
    else none

/-- No chart of a tenancy can start now: the recovery loader runs (R30), or Stolrel does not and a fence has ended a chart of it (R31).
Log entry 145, DEDUCED. -/
def State.noStart (s : State) (ten : Nat) : Bool := s.fld BN_STATE_STATE == 1 || (!s.bnUp && s.bn.halted.contains ten)

/-- CHART_RUN (R60, R223, R259, R260): launches or resumes a chart. Log entry 40, DEDUCED; log entry 145, DEDUCED. -/
def execChartRun (n id : Nat) (s : State) : Host.Outcome State Fault Refusal :=
  run (.chartRun n id) s (fun s =>
    s.onDesc n id 0x08 (fun d s =>
      let g := bits (d.w 3) 9 0
      let save := d.w 4
      let tiles := s.grpMap g
      let slots := tiles.filterMap (s.lmap n)
      if s.grpOk g d.ten = false then s.finish id stACCESS_DENIED
      else match (if save = 0 then none else s.resumeBad d tiles.length) with
        | some st => s.finish id st
        | none =>
          if tiles.isEmpty then s.finish id stBAD_DESCRIPTOR
          else if slots.length ≠ tiles.length then s.finish id stTARGET_FENCED
          else if s.noStart d.ten then s else
          let chart := bits (d.w 2) 31 0
          let lstart := (s.rg (regionOf n)).s + 32
          let cb := if save = 0 then 0 else s.saveWord save 1
          let seg := if save = 0 then 0 else bits (s.saveWord save 0) 31 16
          let s := { s.descBusy id with launches := s.launches ++
            [(⟨n, chart, id, g, d.ten, d.startMode, slots, lstart, cb, seg, [], [], none, none, none, none,
              s.fld FB_CONSORT_STATUS_ARMED == 1⟩ : Launch)] }
          slots.foldl (fun s m =>
            s.niSend n opSTART (niLoc m) 0 0 0 [chart, bits (d.w 2) 63 32, b2n (save != 0), 0, lstart, save]) s))

/-- A segment by its image at an offset of a member's chart pair: index, LENGTH, LAST and the offset of the next. -/
def State.imageAt (s : State) (m ofs : Nat) : Nat × Nat × Bool × Nat :=
  let b := (s.pairRange m (s.fld NI_CHART_CTRL_PAIR m)).1 + ofs
  (bits (s.spadWord m b 0) 31 16, bits (s.spadWord m b 1) 63 46, bit (s.spadWord m b 0) 2, bits (s.spadWord m b 2) 63 32)

/-- The first segment that starts at local beat B or later (R254), from the one that starts at `t` with its image at `ofs` on: its index and
start. Log entry 42, DEDUCED. -/
def State.walkSegs (s : State) (m B : Nat) : Nat → Nat → Nat → Option (Nat × Nat)
  | 0, _, _ => none
  | fuel + 1, t, ofs =>
    let i := s.imageAt m ofs
    if B ≤ t then some (i.1, t)
    else if i.2.2.1 = true ∨ i.2.1 = 0 then none else s.walkSegs m B fuel (t + i.2.1) i.2.2.2

/-- The pause boundary of a launched chart seen at a member: NEXT_SEG and its local beat. A member that START has not reached yet has the
whole chart before it. Log entry 42, DEDUCED. -/
def State.pausePoint (s : State) (m B : Nat) (l : Launch) : Option (Nat × Nat) :=
  match (s.ch m).filter (fun c => c.chart == l.chart), (s.rt m).cur with
  | some c, some g => if g.last then none else s.walkSegs m B 96 ((s.rt m).start + g.length) c.nextOfs
  | some c, none =>
    if c.sent then none else s.walkSegs m B 96 c.nextStart c.nextOfs
  | none, _ =>
    match s.desc? l.desc with
    | some d =>
      if l.segs.isEmpty && l.done.isEmpty then
        s.walkSegs m B 96 l.lstart (if d.w 4 = 0 then bits (d.w 2) 63 32 else (s.savedMember m (d.w 4)).1)
      else none
    | none => none

/-- CHART_PAUSE (R254, R261). Before the chart's first beat its current chart beat counts as 0. Log entry 42, DEDUCED. -/
def execChartPause (n id : Nat) (s : State) : Host.Outcome State Fault Refusal :=
  run (.chartPause n id) s (fun s =>
    s.onDesc n id 0x09 (fun d s =>
      if s.grpOk (bits (d.w 3) 9 0) d.ten = false then s.finish id stACCESS_DENIED
      else match s.launches.find? (fun l => l.chart == bits (d.w 2) 31 0 && l.abort.isNone) with
      | none => s.finish id stBAD_DESCRIPTOR
      | some l =>
        if l.ten ≠ d.ten then s.finish id stACCESS_DENIED
        else if l.pause.isSome then s.finish id stBAD_DESCRIPTOR
        else
          let B := max (s.rg (regionOf l.ni)).L l.lstart + 64
          let m := if l.members.contains l.ni then l.ni else l.members.headD l.ni
          match s.pausePoint m B l with
          | none => s.finish id stABORTED
          | some (next, t) =>
            match s.saveAreaBad d.ten (d.w 4) l.members.length with
            | some st => s.finish id st
            | none =>
              let cb := l.cb + (t - l.lstart)
              let s := { s.descBusy id with launches := updFirst (fun x => x.desc == l.desc) (fun x =>
                { x with pause := some (id, next, cb, d.w 4) }) s.launches }
              l.members.foldl (fun s x => s.niSend l.ni opPAUSE (niLoc x) 0 0 0 [l.chart, next, cb, d.w 4]) s))

/-- PAUSE at an NI of the slice (R255, R261): an NI that has begun NEXT_SEG aborts, also one whose chart has ended its last segment, and one
that waits for it stops there.
Log entry 42, DEDUCED. -/
def execPause (n : Nat) (p : Pkt) (s : State) : Host.Outcome State Fault Refusal :=
  run (.pause n p) s (fun s =>
    if p.kind ≠ opPAUSE then s else
      s.atNi n p (fun s =>
        match s.ch n with
        | none =>
          match (s.rt n).ended with
          | some (chart, seg, _) => if chart = p.arg 0 ∧ p.arg 1 ≤ seg then s.niSend n opSEG_ABORT p.src 0 0 0 [stABORTED, chart, seg] else s
          | none => s
        | some c =>
          if c.chart ≠ p.arg 0 then s
          else
            let c' := { c with pauseAt := some (p.arg 1), saveAddr := p.arg 3 }
            let last := match (s.rt n).cur, (s.rt n).ended with
              | some g, _ => some g.seg
              | none, some e => if e.1 = c.chart then some e.2.1 else none
              | none, none => none
            if last.any (fun g => decide (p.arg 1 ≤ g)) then
              (if c.sent = true ∧ c.status = 0 then s.niSend n opSEG_ABORT c.home 0 0 0 [stABORTED, c.chart, s.segNow n]
               else s.segFail n (s.segNow n) stABORTED)
            else if (s.rt n).cur.isNone && last.any (fun g => g + 1 == p.arg 1) && !c.sent then
              let s := s.pauseHere n c' (p.arg 1) (p.arg 2)
              if c.donePend.isEmpty then s.setCh n none else s
            else s.setCh n (some c')))

/-! ## Tile commands -/

/-- STREAM_READY (R73, R226): for a later segment the command waits, and for one of a chart or segment that has ended it is refused.
Log entry 39, DEDUCED. -/
def execStreamReady (n id : Nat) (s : State) : Host.Outcome State Fault Refusal :=
  run (.streamReady n id) s (fun s =>
    s.onDesc n id 0x18 (fun d s =>
      let st := bits (d.w 2) 51 48
      let seg := bits (d.w 2) 47 32
      let k := bits (d.w 3) 31 0
      let ok := fun (g : SegImg) => match g.streams[st]? with
        | some x => x.dir == 0 && x.waitReady
        | none => false
      let done_ := match (s.rt n).ended with
        | some (c, g, last) => c == bits (d.w 2) 31 0 && (last || decide (seg ≤ g))
        | none => false
      if done_ then s.finish id stBAD_DESCRIPTOR else
      match s.ch n with
      | none => s
      | some c =>
        if c.chart ≠ bits (d.w 2) 31 0 then s
        else
          let r := s.rt n
          let onIdle := match r.idle with
            | some g =>
              if g.seg = seg then
                (if ok g then (s.setRt n { r with readyNext := r.readyNext.put st (r.readyNext.get st 0 + k) }).finish id stOK
                 else s.finish id stBAD_DESCRIPTOR)
              else if seg < g.seg ∨ g.last = true then s.finish id stBAD_DESCRIPTOR
              else s
            | none => s
          match r.cur with
          | some g =>
            if g.seg = seg then
              (if ok g then (s.setRt n { r with ready := r.ready.put st (r.ready.get st 0 + k) }).finish id stOK
               else s.finish id stBAD_DESCRIPTOR)
            else if seg < g.seg ∨ g.last = true then s.finish id stBAD_DESCRIPTOR
            else onIdle
          | none => onIdle))

/-- The signal page of a tenancy holds an aligned word of a host port (R218, R227, R243). -/
def State.inSigPage (s : State) (hp ten a : Nat) : Bool := a % 8 == 0 && (s.sigPageOf hp ten a).isSome

/-- WAIT (R227). -/
def execWait (n id : Nat) (s : State) : Host.Outcome State Fault Refusal :=
  run (.wait n id) s (fun s =>
    s.onDesc n id 0x19 (fun d s =>
      let kind := bits (d.w 2) 1 0
      let count := bits (d.w 3) 63 32
      if kind = 0 then
        let chart := bits (d.w 3) 31 0
        let sub := 16 * bits (d.w 2) 47 32 + bits (d.w 2) 19 16
        let mine := match s.ch n with
          | some c => c.chart == chart
          | none => match (s.rt n).ended with | some (c, _) => c == chart | none => false
        if count = 0 ∨ (mine = true ∧ count ≤ (s.rt n).signals.get sub 0) then s.finish id stOK
        else s.beginWait ⟨id, n, 0, chart, sub, count, 0⟩ d
      else if kind = 1 then
        let h := bits (d.w 2) 15 8
        let w := s.window n h
        if s.fld NI_HDL_CFG_VALID n h = 0 then s.finish id stWINDOW_UNKNOWN
        else if s.fld NI_HDL_CFG_TENANCY n h ≠ d.ten then s.finish id stACCESS_DENIED
        else if w.state ≠ 0 ∧ count ≤ w.signals then s.finish id stOK
        else s.beginWait ⟨id, n, 1, h, if w.state = 0 then w.opens + 1 else w.opens, count, 0⟩ d
      else if kind = 2 then
        let a := d.w 4
        if d.auxHost = false ∨ s.inSigPage d.hpsel d.ten a = false then s.finish id stACCESS_DENIED
        else
          let held := (s.sigLines.find? (fun l => l.ni == n && l.ten == d.ten && l.addr == a / 64 * 64)).bind (fun l => l.data)
          let value := held.map (fun b => ofBytes (Sys2Proof.Machine.slice b (a % 64) 8))
          match value with
          | some v =>
            if d.w 5 ≤ v ∧ s.replayMode 2 d.ten = false then
              (s.replayLog d.ten 0x05 (d.origin % 4096) [sigLineNo d.ten a, v, d.index]).finish id stOK
            else s.beginWait ⟨id, n, 2, a, d.ten, d.w 5, 0⟩ d
          | none => s.beginWait ⟨id, n, 2, a, d.ten, d.w 5, 0⟩ d
      else s.finish id stBAD_DESCRIPTOR))

/-- WAIT_TIMEOUT (R227): LIMIT has passed; a LIMIT of 0 sets none. -/
def execWaitTimeout (n id : Nat) (s : State) : Host.Outcome State Fault Refusal :=
  run (.waitTimeout n id) s (fun s =>
    match s.waits.find? (fun w => w.ni == n && w.desc == id), s.desc? id with
    | some w, some d => if bits (d.w 6) 15 0 = 0 ∨ s.frozenAt n = true then s else s.endWait w d stTIMEOUT
    | _, _ => s)

/-! ## HASH -/

/-- HASH (R228). -/
def execHash (n id : Nat) (s : State) : Host.Outcome State Fault Refusal :=
  run (.hash n id) s (fun s =>
    s.onDesc n id 0x20 (fun d s =>
      let len := bits (d.w 4) 31 0
      let bad := (if len = 0 ∨ d.w 3 % 32 ≠ 0 then [stBAD_DESCRIPTOR] else []) ++
        s.nameStatus n d.flowNo d.srcHost d.hpsel (d.w 2) len ++ s.nameStatus n d.flowNo d.dstHost d.hpsel (d.w 3) 32 ++
        (if s.bnUp then [] else [stABORTED])
      match bad with
      | _ :: _ => s.finish id (firstStatus bad)
      | [] =>
        let srcHbm := !d.srcHost && adSpace (d.w 2) == 1
        let s := { s.descBusy id with hash := s.hash ++
          [(⟨id, n, cutChunks srcHbm false (2 * (len / 4096) + 4) (d.w 2) 0 len, 4096, false⟩ : HashJob)] }
        s.hashPump id))

/-- HASH_TIMEOUT (R228): a read or write of the engine is unanswered for 10 ms. -/
def execHashTimeout (txn : Nat) (s : State) : Host.Outcome State Fault Refusal :=
  run (.hashTimeout txn) s (fun s =>
    match s.findTx bnKey txn with
    | some t => if t.use = .hash then ((s.delTx bnKey txn).finish t.desc stTIMEOUT).hashPumpAll else s
    | none => s)

/-! ## Signal lines (R243 to R246) -/

/-- SIG_READ (R244): the line goes to its NI, which becomes a sharer. Log entry 43, DEDUCED. -/
def execSigRead (hp : Nat) (p : Pkt) (s : State) : Host.Outcome State Fault Refusal :=
  run (.sigRead hp p) s (fun s =>
    if p.kind ≠ opSIG_READ then s else
      s.atUnit (hpLoc hp) p (fun s =>
        if s.fld (xx_ERR_STATUS_SAFE .hp) hp = 1 then s.drop (hpLoc hp) (hpLoc hp).slot 4 1 p
        else if (s.sigPageOf hp p.ten (p.arg 0)).isNone then s.answer p (hpLoc hp) opREAD_ERR [stACCESS_DENIED]
        else s.hpServe hp ⟨⟨2, 0, p.ten, false, 64, 0, p.arg 0 / 64 * 64, []⟩, .serve p⟩ false))

/-- SIG_WRITTEN (R245): the bridge reports that the host has written a signal line. -/
def execSigWritten (hp tag addr : Nat) (s : State) : Host.Outcome State Fault Refusal :=
  run (.sigWritten hp tag addr) s (fun s =>
    let s := s.addPair HP_RX_BYTES_LO HP_RX_BYTES_HI 128 hp
    let lines := s.sigLinesAt hp addr 1
    let sh := s.sharersOf hp lines
    if sh.isEmpty then s.cplOut hp ⟨4, tag, 0, false, 0, 0, 0, []⟩
    else (s.sigInvalidate hp sh).modHp hp (fun h => { h with sigWaits := h.sigWaits ++ [(⟨lines, sh, some tag, none⟩ : SigWait)] }))

/-- SIG_INV (R245): the NI drops the line, acknowledges, and reads it again if a WAIT needs it. Log entry 44, DEDUCED. -/
def execSigInv (n : Nat) (p : Pkt) (s : State) : Host.Outcome State Fault Refusal :=
  run (.sigInv n p) s (fun s =>
    if p.kind ≠ opSIG_INV then s else
      s.atNi n p (fun s =>
        let s := { s with sigLines := s.sigLines.filter (fun l => !(l.ni == n && sigLineNo l.ten l.addr == p.arg 0)) }
        (s.niSend n opSIG_INV_ACK p.src 0 0 0 [p.arg 0]).sigPump n))

/-- SIG_INV_ACK (R245) at the host port. -/
def execSigInvAck (hp : Nat) (p : Pkt) (s : State) : Host.Outcome State Fault Refusal :=
  run (.sigInvAck hp p) s (fun s =>
    if p.kind ≠ opSIG_INV_ACK then s else
      s.atUnit (hpLoc hp) p (fun s => s.sharerGone hp (p.arg 0) p.src.slot))

/-- SNOOP_TIMEOUT (R245): a sharer has not acknowledged within 10 µs. Its NI will read the line again. Log entry 44, DEDUCED. -/
def execSnoopTimeout (hp line ni : Nat) (s : State) : Host.Outcome State Fault Refusal :=
  run (.snoopTimeout hp line ni) s (fun s =>
    if (s.hpt hp).sigWaits.any (fun w => w.left.contains (line, ni)) || (s.hpt hp).displaced.contains (line, ni) then
      let s := (s.sharerGone hp line ni).log .hp hp 0x63 0 (s.ltileOf ni ni) line
      let s := s.unitEvent .hp hp 3 line
      let s := { s with sigLines := s.sigLines.filter (fun l => !(l.ni == ni && sigLineNo l.ten l.addr == line)) }
      if s.niUp ni then s.sigPump ni else s
    else s)

/-- SIG_PAGE_WRITE (R246): clearing VALID invalidates the page's lines and ends its tenancy's WAITs. -/
def execSigPageWrite (t v : Nat) (s : State) : Host.Outcome State Fault Refusal :=
  run (.sigPageWrite t v) s (fun s =>
    s.regWrite (FB_SIG_LO.addr 0 t) v (fun s =>
      let was := s.fld FB_SIG_LO_VALID 0 t
      let hp := s.fld FB_SIG_LO_HP 0 t
      let s := s.writeTyped FB_SIG_LO 0 t v
      if was = 1 ∧ bit v 0 = false then
        let s := s.sigDismiss hp (s.sharersOf hp ((List.range 64).map (64 * t + ·)))
        let s := s.modHp hp (fun h => { h with sharers := h.sharers.filter (fun e => e.1 / 64 != t) })
        let nis := ((s.waits.filter (fun w => w.kind == 2 && w.sub == t)).map (fun w => w.ni)).dedup
        nis.foldl (fun s ni => s.endSigWaits ni t (fun _ => true) stABORTED) s
      else s))

end Sys2Proof.Machine
end

