-- ==== Sys2Proof/Machine/Determinism.lean ====
section
/-!
DEFINITION. Consort mode (R263 to R266) and the replay of host inputs (R267 to R270).
-/

namespace Sys2Proof.Machine

/-! ## Consort -/

/-- Consort ends: frames that wait are forgotten. Log entry 67, DEDUCED. -/
def State.unarm (s : State) : State :=
  { s.setFld FB_CONSORT_STATUS_ARMED 0 with consort := {} }

/-- CONSORT_ARM (R263): with ENABLE 1 the chips exchange arming frames, and consort is unarmed until they match; with ENABLE 0 it is off.
Log entry 67, DEDUCED. -/
def execConsortArm (v : Nat) (s : State) : Host.Outcome State Fault Refusal :=
  run (.consortArm v) s (fun s =>
    s.regWrite (FB_CONSORT_CFG.addr 0 0) v (fun s =>
      let s := (s.writeTyped FB_CONSORT_CFG 0 0 v).unarm
      if bit v 31 = false then s
      else if s.linkState (s.fld FB_CONSORT_CFG_LINK) = lsACTIVE then
        { s with consort := { s.consort with arming := true } }.armFrame s.fbDigest
      else s.setFld FB_CONSORT_STATUS_LINK_DOWN 1))

/-- ARMING_FRAME (R263): the partner's frame is compared with this chip's map, version and mode. One that comes while consort is armed tells
of a change at the partner. Log entry 67, DEDUCED. -/
def execArmingFrame (digest : List Nat) (version mode : Nat) (s : State) : Host.Outcome State Fault Refusal :=
  run (.armingFrame digest version mode) s (fun s =>
    if s.consort.arming = false ∧ s.fld FB_CONSORT_STATUS_ARMED = 0 then s
    else if digest = s.fbDigest ∧ version = s.pair BN_FW_VERSION_LO BN_FW_VERSION_HI ∧ mode = s.rd FB_MODE then
      { s with consort := { s.consort with arming := false } }.setFld FB_CONSORT_STATUS_ARMED 1
    else s.unarm.setFld FB_CONSORT_STATUS_MAP_DIFF 1)

/-- CONSORT (R265, R266): the partner's frame is compared with this chip's, or waits for it. -/
def execConsort (chart seg region : Nat) (final : Bool) (beat crc flits : Nat) (s : State) : Host.Outcome State Fault Refusal :=
  run (.consort chart seg region final beat crc flits) s (fun s =>
    if s.fld FB_CONSORT_STATUS_ARMED = 0 then s
    else
      let f : CFrame := ⟨chart, seg, region, final, beat, crc, flits⟩
      match s.consort.own.find? f.same with
      | some g => { s with consort := { s.consort with own := delFirst (fun x => decide (x = g)) s.consort.own } }.consortPair g f
      | none => { s with consort := { s.consort with theirs := s.consort.theirs ++ [f] } })

/-- CONSORT_FRAME_LOST (R265): a frame of this chip has waited beyond 1 ms. -/
def execConsortFrameLost (chart seg region beat : Nat) (s : State) : Host.Outcome State Fault Refusal :=
  run (.consortFrameLost chart seg region beat) s (fun s =>
    if s.consort.own.any (fun f => f.chart == chart && f.seg == seg && f.region == region && f.spanBeat == beat) then
      (s.setFld FB_CONSORT_STATUS_LOST 1).unarm
    else s)

/-! ## Replay -/

/-- A write of FB_REPLAY_CFG (R267, R269): what was under way ends, and MODE 1 or 2 begins; a replay reads its log ahead. -/
def State.replayCfg (s : State) (v : Nat) : State :=
  s.regWrite (FB_REPLAY_CFG.addr 0 0) v (fun s =>
    let active := s.fld FB_REPLAY_STATUS_ACTIVE = 1
    let s := if active ∧ s.fld FB_REPLAY_CFG_MODE = 1 then s.replayEnd 0 else s
    let s := (s.writeTyped FB_REPLAY_CFG 0 0 v).setFld FB_REPLAY_STATUS_ACTIVE 0
    let begin_ := fun (s : State) =>
      { (s.wr FB_REPLAY_PTR 0 0 0).setFld FB_REPLAY_STATUS_ACTIVE 1 with replay := {} }
    match bits v 31 30 with
    | 1 => (begin_ s).setPair FB_REPLAY_T0_LO FB_REPLAY_T0_HI (s.accC 60)
    | 2 => (begin_ s).replayAhead
    | _ => s)

/-- REPLAY_RECORD_START (R267): a write with MODE 1. -/
def execReplayRecordStart (v : Nat) (s : State) : Host.Outcome State Fault Refusal :=
  run (.replayRecordStart v) s (fun s => s.replayCfg v)

/-- REPLAY_START (R269): a write with MODE 2. Log entry 89, DEDUCED. -/
def execReplayStart (v : Nat) (s : State) : Host.Outcome State Fault Refusal :=
  run (.replayStart v) s (fun s => s.replayCfg v)

/-- REPLAY_STOP (R267): a write with MODE 0. -/
def execReplayStop (v : Nat) (s : State) : Host.Outcome State Fault Refusal :=
  run (.replayStop v) s (fun s => s.replayCfg v)

/-- A logged descriptor is injected (R269, R270): one out of index order is a divergence. -/
def State.injectDesc (s : State) (o n unit index : Nat) (words : List Nat) : State :=
  let r := s.rng o
  let s := if index = r.head then s else s.diverge unit
  let s := s.setRing o { r with ni := n, head := (index + 1) % 2 ^ 32 }
  (s.acceptDescs n o index (s.ringTen o) [words]).ringHead n o

/-- A SIGNAL record completes the WAIT that it names, now or when it begins (R269). Log entry 89, DEDUCED. -/
def State.injectSignal (s : State) (o line index : Nat) : State :=
  let hit := s.waits.find? (fun x => x.kind == 2 && (match s.desc? x.desc with
    | some d => d.origin % 4096 == o && sigLineNo d.ten x.key == line && d.index % 2 ^ 32 == index && d.ten == s.fld FB_REPLAY_CFG_TENANCY
    | none => false))
  match hit with
  | some x => match s.desc? x.desc with
    | some d => s.endWait x d stOK
    | none => s
  | none => { s with replay := { s.replay with signals := s.replay.signals ++ [(o, line, index)] } }

/-- Inject a log record (R268, R269). Log entry 89, DEDUCED. -/
def State.inject (s : State) (ws : List Nat) (unit : Nat) : State :=
  let w := fun i => ws.getD i 0
  let o := bits (w 0) 11 0
  if bits (w 0) 23 16 = 0x05 then s.injectSignal o (bits (w 1) 11 0) (bits (w 3) 31 0) else
  let hp := s.fld FB_RING_CFG_HP 0 o
  match s.hpLmap hp (s.fld FB_RING_CFG_SERVER 0 o) with
  | none => s
  | some n =>
    match bits (w 0) 23 16 with
    | 0x01 => s.sendBell hp o n
    | 0x02 =>
      let r := s.rng o
      let tail := bits (w 1) 31 0
      if 2 ^ s.ringSize o < (tail + 2 ^ 32 - r.head % 2 ^ 32) % 2 ^ 32 then s.ringCause n o 14
      else s.setRing o { r with ni := n, tail := tail }
    | 0x03 => s.injectDesc o n unit (bits (w 1) 31 0) (ws.drop 4)
    | 0x04 => s.readLogged o (w 1) (bits (w 2) 31 0) (w 3) unit
    | _ => s

/-- REPLAY_INJECT (R269): the record at the log's pointer, as its read has brought it, once its beat has come and, for a descriptor, its NI has
a place. Log entry 89, DEDUCED. -/
def execReplayInject (words : List Nat) (s : State) : Host.Outcome State Fault Refusal :=
  run (.replayInject words) s (fun s =>
    let w0 := words.headD 0
    let units := bits w0 13 12 + 1
    let o := bits w0 11 0
    let ty := bits w0 23 16
    let full := match s.hpLmap (s.fld FB_RING_CFG_HP 0 o) (s.fld FB_RING_CFG_SERVER 0 o) with
      | some n => ty == 3 && (s.places n o == 0 || !(s.cqRoom o))
      | none => false
    if s.fld FB_REPLAY_STATUS_ACTIVE = 0 ∨ s.fld FB_REPLAY_CFG_MODE ≠ 2 ∨ words.length ≠ 4 * units ∨
        s.accC 60 < s.replayT0 + bits w0 63 24 ∨ full = true then s
    else
      let unit := s.fld FB_REPLAY_PTR_UNITS
      let s := s.wr FB_REPLAY_PTR 0 0 (unit + units)
      if ty = 0x0F then (s.setFld FB_REPLAY_STATUS_ACTIVE 0).setFld FB_REPLAY_STATUS_END 1
      else (s.inject words unit).replayAhead)

end Sys2Proof.Machine
end

