-- ==== Sys2Proof/Machine/LinkFlow.lean ====
section
/-!
DEFINITION. Link flits and packets on an outer link: what a link-flit position sends (R309 to R311, R333), what a pair brings
(R310), and how packets cross to another chip and back (R312 to R316).
-/

namespace Sys2Proof.Machine

/-! ## Classes (R311) -/

/-- Receive class of a packet: 1 OPEN0, 2 OPEN1, 3 REQ, 4 RSP, 5 SNP_CMD, 6 SNP_INT. -/
def linkClass (p : Pkt) : Nat :=
  match p.net with
  | .dat => 1 + p.cls
  | .req => 3
  | .rsp => 4
  | .snp => if p.fabric then 5 else 6

/-- A CREDIT item that returns k of class c. -/
def creditItem (c k : Nat) : Nat := k <<< (8 * c)

/-- Room left at the far end for a class. -/
def OLink.roomOf (l : OLink) (c : Nat) : Nat := l.room.getD c 0
def OLink.useRoom (l : OLink) (c k : Nat) : OLink := { l with room := l.room.set c (l.roomOf c - k) }

/-- The links whose streams a link carries: its own and those it has adopted. Log entry 109, DEDUCED. -/
def State.streamsOf (s : State) (n : Nat) : List Nat := n :: (s.olk n).adopted

/-- A stream has something to send. -/
def OLink.waiting (l : OLink) : Bool :=
  l.items.any streamItem || !l.carry.isEmpty || !l.txS.isEmpty || !l.txP.isEmpty

/-! ## What the line carries (R305 to R308) -/

/-- The tag of a link flit (R307): KIND, and POS and TAGLO of a scheduled flit or CLASS, HEAD and TAIL of an open one.
Log entry 110, DESIGN CHOICE. -/
def LFlit.tag : LFlit → Nat
  | .control _ => 0
  | .sched g k _ _ => 1 <<< 6 + (k % 4) <<< 4 + g % 16
  | .openDat p i => 2 <<< 6 + (p.cls % 2) <<< 5 + b2n (i == 0) <<< 4 + b2n (decide (nflits p ≤ i + 1)) <<< 3
  | .small _ => 3 <<< 6

/-- The map byte of a used cell (R308): NET, HEAD, TAIL and USED. -/
def mapByte (c : Pkt × Nat) : Nat :=
  ((linkClass c.1 - 3) % 4) <<< 6 + b2n (c.2 == 0) <<< 5 + b2n (decide (nflits c.1 ≤ c.2 + 1)) <<< 4 + 1 <<< 3

/-- Cell 0 of a link flit that holds no data there: the map of a SMALL one (R308), the first item of a CONTROL one (R309).
Log entry 110, DESIGN CHOICE. -/
def LFlit.cell0 : LFlit → Nat
  | .small cells => ofBytes (cells.map mapByte)
  | .control items => items.headD 0
  | _ => 0

/-- The 40 control bits of a pair: tag i in bits 8i + 7 : 8i (R306). Log entry 110, DESIGN CHOICE. -/
def pairCtl (p : List (Nat × LFlit)) : Nat := ofBytes (p.map (fun f => f.2.tag))

/-- A pair goes out as two frames (R306): the even one carries control bits 19:0. Once in 1,024 frames a marker word follows on every lane in
use (R305). Log entry 110, DESIGN CHOICE. -/
def OLink.sentPair (l : OLink) (lanes : Nat) (p : List (Nat × LFlit)) : OLink :=
  { l with ctl := (pairCtl p % 2 ^ 20, pairCtl p / 2 ^ 20), frames := (l.frames + 2) % 1024,
           marker := if 1024 ≤ l.frames + 2 then lanes else 0 }

/-! ## What a position sends -/

/-- A data class has both data and room: 0 SCHED, 1 OPEN, 2 SMALL. Of each receive class only the oldest packet may go. A
scheduled flit waits until its landing tag has been named. -/
def OLink.ready (l : OLink) : Nat → Bool
  | 0 => (match l.txS with
    | [] => false
    | f :: _ => l.txMark == some f.1 && decide (0 < l.roomOf 0))
  | 1 => l.txP.any (fun e => e.1.net == .dat && decide (0 < l.roomOf (linkClass e.1)))
  | _ => l.txP.any (fun e => e.1.net != .dat && decide (0 < l.roomOf (linkClass e.1)))

/-- The LAND_MARK that the oldest scheduled flit still needs. -/
def OLink.needMark (l : OLink) : Option Nat :=
  match l.carry, l.txS with
  | [], f :: _ => if l.txMark = some f.1 then none else some f.1
  | _, _ => none

/-- Cells that fit: the four cells of a consort frame travel in one link flit (R309). -/
def cellsThatFit : Nat → Nat → List Nat → Nat
  | 0, _, _ => 0
  | _, _, [] => 0
  | fuel + 1, room, i :: r =>
    let k := if itemTy i = 0x0A then 4 else 1
    if k ≤ room then k + cellsThatFit fuel (room - k) ((i :: r).drop k) else 0

/-- Weighted round robin over the classes that are ready (R311): the class served and the weights left. -/
def wrrPick (ready : Nat → Bool) (left weights : List Nat) : Nat × List Nat :=
  match (List.range 3).find? (fun c => ready c && decide (0 < left.getD c 0)) with
  | some c => (c, left.set c (left.getD c 0 - 1))
  | none => match (List.range 3).find? ready with
    | some c => (c, weights.set c (weights.getD c 0 - 1))
    | none => (0, left)

/-- Fill the cells of a SMALL link flit: cells taken, packets left with their next flit, the link with less room, and the
classes whose packet has not gone whole. -/
def OLink.fillSmall (l : OLink) : List (Pkt × Nat) × OLink :=
  let r := l.txP.foldl (fun (a : List (Pkt × Nat) × OLink × List Nat × List (Pkt × Nat)) e =>
    let c := linkClass e.1
    if e.1.net = .dat ∨ a.2.2.1.contains c = true then (a.1, a.2.1, a.2.2.1, a.2.2.2 ++ [e])
    else
      let k := min (15 - a.1.length) (min (a.2.1.roomOf c) (nflits e.1 - e.2))
      let cells := a.1 ++ (List.range k).map (fun i => (e.1, e.2 + i))
      let m := a.2.1.useRoom c k
      if e.2 + k < nflits e.1 then (cells, m, a.2.2.1 ++ [c], a.2.2.2 ++ [(e.1, e.2 + k)])
      else (cells, m, a.2.2.1, a.2.2.2)) (([] : List (Pkt × Nat)), l, ([] : List Nat), ([] : List (Pkt × Nat)))
  (r.1, { r.2.1 with txP := r.2.2.2 })

/-- Send one flit of the oldest open DAT packet whose class has room. -/
def OLink.takeOpen (l : OLink) : Option (LFlit × OLink) :=
  match l.txP.find? (fun e => e.1.net == .dat && decide (0 < l.roomOf (linkClass e.1))) with
  | none => none
  | some e =>
    let same := fun (x : Pkt × Nat) => decide (x = e)
    let q := if e.2 + 1 < nflits e.1 then updFirst same (fun x => (x.1, x.2 + 1)) l.txP else delFirst same l.txP
    some (.openDat e.1 e.2, { l.useRoom (linkClass e.1) 1 with txP := q })

/-- The link flit of a data class, taken from a stream. -/
def OLink.takeClass (l : OLink) (c : Nat) : Option (LFlit × OLink) :=
  match c with
  | 0 => match l.txS with
    | [] => none
    | f :: rest => some (.sched f.1 f.2.1 f.2.2.1 f.2.2.2, { l.useRoom 0 1 with txS := rest })
  | 1 => l.takeOpen
  | _ => let r := l.fillSmall
    some (.small r.1, r.2)

/-- A link flit takes the next position (R306, R310): five complete a pair, which the retry buffer keeps. -/
def State.sendFlit (s : State) (n x : Nat) (f : LFlit) (control : Bool) : State :=
  let lanes := s.fld OL_STATUS_LANES n
  let s := s.modOl n (fun l =>
    let cur := l.cur ++ [(x, f)]
    let l := { l with since := if control then 1 else min 32 (l.since + 1), cell0 := f.cell0 }
    if cur.length < 5 then { l with cur := cur }
    else { l.sentPair lanes cur with cur := [], txPair := (l.txPair + 1) % 65536, retry := l.retry ++ [(l.txPair, cur)] })
  match f with
  | .control _ => s
  | _ => s.addPair OL_TX_BYTES_LO OL_TX_BYTES_HI 256 n

/-- An item may leave now (R317): while the width is being chosen only TRAIN goes. -/
def State.maySend (s : State) (n i : Nat) : Bool := decide (lsIDENT ≤ s.linkState n) || itemTy i == 0x0B

/-- A CONTROL link flit for stream x on link n: items of the link and of the stream, and at its end the name of the stream that
comes next, when another waits. Log entry 109, DEDUCED. -/
def State.sendControl (s : State) (n x : Nat) (next : Option Nat) : State :=
  let l := s.olk n
  let own := l.items.filter (fun i => s.maySend n i && (x == n || !(streamItem i)))
  let rest := l.items.filter (fun i => !(s.maySend n i && (x == n || !(streamItem i))))
  let theirs := if x = n then [] else ((s.olk x).items.filter streamItem)
  let room := if next.isSome then 15 else 16
  let k := cellsThatFit 16 room own
  let a := own.take k
  let b := theirs.take (room - k)
  let keep := own.drop k
  let s := s.modOl n (fun l => { l with items := keep ++ rest })
  let s := if x = n then s else s.modOl x (fun l => { l with items := theirs.drop (room - k) })
  let mark := ((a ++ b).filter (fun i => itemTy i == 0x04)).getLast?
  let s := match mark with
    | some m => s.modOl x (fun l => { l with txMark := some (bits m 7 0) })
    | none => s
  let tail := match next with
    | some y => [itemOf 0x05 y]
    | none => []
  let s := s.sendFlit n x (.control (a ++ b ++ tail)) true
  match next with
  | some y => s.modOl n (fun l => { l with txStream := if y = n then none else some y })
  | none => s

/-- A link-flit position of link n (R311, R431): pairs that NAK has named go again; else CONTROL, at most once in 32 positions
while other classes wait, or a class by weight; an idle position carries an empty CONTROL. From WIDTH on the link sends (R317), and
a held one carries nothing of its own. -/
def State.transmit (s : State) (n : Nat) : State :=
  if s.linkState n < lsWIDTH ∨ lsACTIVE < s.linkState n then s else
  let l := s.olk n
  match l.resend with
  | p :: rest => (s.modOl n (fun l =>
      { l.sentPair (s.fld OL_STATUS_LANES n) p.2 with resend := rest, again := if l.nak = some p.1 then l.again + 1 else l.again })).addFld
        OL_RETRY_CNT 1 n
  | [] =>
    if 256 ≤ l.retry.length ∧ l.cur = [] then s
    else
      let x := l.txStream.getD n
      -- the landing tag that the oldest scheduled flit needs
      let s := match (s.olk x).needMark with
        | some g => if (s.olk x).items.contains (itemOf 0x04 g) then s else s.item x 0x04 g
        | none => s
      let l := s.olk n
      let e := s.olk x
      let active := s.linkState n = lsACTIVE
      let go := decide active && s.fld FB_ANCHOR_STATUS_STOPPED == 0 && (x == n || l.adopted.contains x)
      let other := (s.streamsOf n).filter (fun y => y != x)
      let next := if active then
          ((other.filter (fun y => x < y) ++ other.filter (fun y => y < x)).find? (fun y => (s.olk y).waiting))
        else none
      let data := go && (!e.carry.isEmpty || (List.range 3).any e.ready)
      let items := if x = n then l.items.any (s.maySend n)
        else l.items.any (fun i => !(streamItem i)) || e.items.any streamItem
      if (items || next.isSome) && (!data || decide (32 ≤ l.since)) then s.sendControl n x next
      else if data then
        match e.carry with
        | f :: rest => (s.modOl x (fun l => { l with carry := rest })).sendFlit n x f false
        | [] =>
          let w := [zeroAsOne (s.fld OL_TX_WEIGHT_SCHED n), zeroAsOne (s.fld OL_TX_WEIGHT_OPEN n),
            zeroAsOne (s.fld OL_TX_WEIGHT_SMALL n)]
          let p := wrrPick e.ready l.wrr w
          match e.takeClass p.1 with
          | some (f, e') => ((s.setOl x e').modOl n (fun l => { l with wrr := p.2 })).sendFlit n x f false
          | none => s
      else s.sendFlit n x (.control []) false

/-! ## What a pair brings -/

/-- The link's receive path works: from alignment on (R317). -/
def State.receiving (s : State) (n : Nat) : Bool := decide (lsWIDTH ≤ s.linkState n ∧ s.linkState n ≤ lsHELD)

/-- Link flits are taken: the pair was whole and in order (R310), and the link is not held (R317, R335). -/
def State.taking (s : State) (n : Nat) : Bool := decide (lsWIDTH ≤ s.linkState n ∧ s.linkState n ≤ lsACTIVE) && !(s.olk n).skip

/-- Traffic is taken (R324, R332): the link is ACTIVE, or awaits only its own end's judgement while nobody carries its stream.
Log entry 170, DEDUCED. -/
def State.accepts (s : State) (n : Nat) : Bool :=
  s.taking n && (s.linkState n == lsACTIVE || s.linkState n == lsREADY && !(s.isAdopted n))

/-- The link into whose receive logic the flits on a link are delivered (R333). -/
def State.streamOn (s : State) (n : Nat) : Nat := (s.olk n).strm.getD n

/-- A frame arrives (R310); the link flits of a pair that is not the next one in order are not taken. On a held link frames are checked, and
none is taken or acknowledged (R335). `v`: 0 clean, 1 corrected, 2 uncorrectable. Log entry 108, DEDUCED; log entry 110, DESIGN CHOICE. -/
def State.frame (s : State) (n pair : Nat) (odd : Bool) (v : Nat) : State :=
  let s := if v = 1 then s.addPair OL_FEC_CE_LO OL_FEC_CE_HI 1 n else if v = 2 then s.addFld OL_FEC_UE_CNT 1 n else s
  let l := s.olk n
  if s.linkState n = lsHELD then s
  else if pair ≠ l.rxPair ∨ (odd = true ∧ l.rxHalf = false) then s.modOl n (fun l => { l with skip := true })
  else if v = 2 then
    ((s.modOl n (fun l => { l with skip := true, rxHalf := false })).item n 0x02 pair).log .ol n 0x41 15 0 pair
  else if odd = false then s.modOl n (fun l => { l with skip := false, rxHalf := true })
  else
    let s := s.modOl n (fun l => { l with rxHalf := false, rxPair := (l.rxPair + 1) % 65536, acked := l.acked + 1 })
    if (s.olk n).acked < 32 then s
    else (s.modOl n (fun l => { l with acked := 0 })).item n 0x01 pair

/-- Flit i of a packet is received on stream x: the last one makes the packet whole (R307, R308). Log entry 110, DESIGN CHOICE. -/
def State.gather (s : State) (x : Nat) (p : Pkt) (i : Nat) : State :=
  if nflits p ≤ i + 1 then
    s.modOl x (fun l => { l with rxPart := l.rxPart.filter (fun e => !(decide (e.1 = p))), rxq := l.rxq ++ [p] })
  else if i = 0 then s.modOl x (fun l => { l with rxPart := l.rxPart ++ [(p, 1)] })
  else s.modOl x (fun l => { l with rxPart := updFirst (fun e => decide (e.1 = p)) (fun e => (e.1, i + 1)) l.rxPart })

/-- The flit expected next of a packet. Log entry 110, DESIGN CHOICE. -/
def OLink.nextFlit (l : OLink) (p : Pkt) : Nat :=
  match l.rxPart.find? (fun e => decide (e.1 = p)) with
  | some e => e.2
  | none => 0

/-- ACK (R309, R310): pairs up to the named one leave the retry buffer. Log entry 108, DEDUCED. -/
def OLink.ack (l : OLink) (pair : Nat) : OLink :=
  if l.retry.any (fun e => e.1 == pair) then
    let left := (l.retry.dropWhile (fun e => e.1 != pair)).drop 1
    { l with retry := left, resend := l.resend.filter (fun e => left.any (fun r => r.1 == e.1)), nak := none, again := 0 }
  else l

/-- NAK (R310, R336): resend from the pair; one that has been sent again 8 times in a row is the loss of lock. Log entry 108, DEDUCED. -/
def State.nakked (s : State) (n pair : Nat) : State :=
  let l := s.olk n
  let same := l.nak = some pair
  let pairs := l.retry.dropWhile (fun e => e.1 != pair)
  let s := (s.modOl n (fun l => { l with nak := some pair, again := if same then l.again else 0, resend := pairs })).log .ol n 0x42 15 0 pair
  if same ∧ 8 ≤ l.again then (s.modOl n (fun l => { l with nak := none, again := 0 })).unitEvent .ol n 3 0 else s

/-- RESUME (R333): what link j sent after the pair goes again, stream by stream, before anything new. -/
def State.resume (s : State) (j last : Nat) : State :=
  let l := s.olk j
  let pairs := if l.old.any (fun e => e.1 == last) then (l.old.dropWhile (fun e => e.1 != last)).drop 1 else l.old
  let flits := pairs.flatMap (fun e => e.2)
  let keep := fun (f : LFlit) => match f with
    | .control items =>
      let m := items.filter streamItem
      if m.isEmpty then none else some (LFlit.control m)
    | f => some f
  let s := s.modOl j (fun l => { l with old := [] })
  ((flits.map (fun f => f.1)).dedup).foldl (fun s x =>
    s.modOl x (fun l => { l with carry := (flits.filter (fun f => f.1 == x)).filterMap (fun f => keep f.2) ++ l.carry })) s

/-! ## Landing flits -/

/-- Place the scheduled flits that wait on a link, as far as their lines are free (R90). Each one taken returns a credit (R311). A second one of
the same tag and position, which the spec does not name, is a LAND_MISMATCH; past a pause boundary flits are discarded (R255).
Log entry 151, DESIGN CHOICE. -/
def State.land (s : State) : Nat → Nat → (Nat → Nat) → State
  | 0, _, _ => s
  | fuel + 1, x, beat =>
    match (s.olk x).rxS with
    | [] => s
    | (g, k, d, ue) :: rest =>
      let slot := (olLoc x).slot
      let line := g % 128
      let mine := (s.olk x).landing.filter (fun e => e.1 / 4 == line)
      let late := match (s.olk x).dropFrom with | some cb => tagFrom cb g | none => false
      if late then ((s.modOl x (fun l => { l with rxS := rest })).item x 0x03 (creditItem 0 1)).land fuel x beat
      else if 128 ≤ (g + 256 - beat x % 256) % 256 ∨ mine.any (fun e => e.1 == 4 * line + k % 4 && e.2.1 == g) = true then
        let s := s.modOl x (fun l => { l with rxS := rest })
        let s := (s.setFld OL_LAND_STATUS_LAND_MISMATCH 1 x).unitEvent .ol x 5 0
        ((s.item x 0x03 (creditItem 0 1)).segFail slot (s.segNow slot) stABORTED).land fuel x beat
      else if mine.any (fun e => e.2.1 != g) then s
      else
        ((s.modOl x (fun l => { l with rxS := rest, landing := SMap.put l.landing (4 * line + k % 4) (g, d, ue) })).item x 0x03
          (creditItem 0 1)).land fuel x beat

/-! ## Crossing chips -/

/-- The address of a request, and nothing for one without (R315). -/
def Pkt.address (p : Pkt) : Option Nat :=
  if p.kind = opREAD ∨ p.kind = opCREDIT_REQ ∨ p.kind = opWIN_OPEN ∨ p.kind = opWIN_REPLENISH ∨ p.kind = opATOMIC ∨
      p.kind = opATOMIC_CAS then some (p.arg 0)
  else if p.kind = opWRITE ∨ p.kind = opAP_WRITE then some (p.arg 1)
  else if p.kind = opWIN_CLOSE then some (p.arg 4 <<< 52 + p.arg 5 <<< 38 + p.arg 1 <<< 30)
  else none

/-- An answer (R316). -/
def Pkt.isAnswer (p : Pkt) : Bool := p.net == .rsp || decide (p.kind = opREAD_DATA)

/-- TXN of a packet; WIN_CLOSE carries it in flit 1 (R127). -/
def Pkt.tag (p : Pkt) : Nat := if p.kind = opWIN_CLOSE then p.arg 3 else p.txn
def Pkt.withTag (p : Pkt) (t : Nat) : Pkt :=
  if p.kind = opWIN_CLOSE then { p with args := p.args.set 3 t } else { p with txn := t }

/-- The lowest-numbered in-service link of a bundle that carries packets (R314). -/
def State.bundleLink (s : State) (b : Nat) : Option Nat := (s.bundleUpLinks b).find? (fun n => s.plan.consort != some n)

/-- A link puts a packet into the mesh at its own attachment. -/
def State.fromLink (s : State) (n : Nat) (p : Pkt) : State := s.push (.router (olLoc n).slot ((olLoc n).port - 1)) p

/-- Queue a packet on a link with ESC, EGEN and HOPS zero (R314). -/
def State.queueOn (s : State) (n : Nat) (p : Pkt) : State :=
  s.modOl n (fun l => { l with txP := l.txP ++ [({ p with esc := false, egen := 0, hops := 0 }, 0)] })

/-- Translate and queue a request, or let it wait while no entry is free (R314). -/
def State.translate (s : State) (n : Nat) (p : Pkt) : State :=
  let l := s.olk n
  match l.xlat.find? (fun e => decide (e.src = p.src) && e.txn == p.tag) with
  | some e => s.queueOn n (p.withTag e.ltxn)
  | none =>
    match (List.range 4096).find? (fun t => !(l.xlat.any (fun e => e.ltxn == t))) with
    | some t => (s.modOl n (fun l => { l with xlat := l.xlat ++ [(⟨p.src, p.tag, t⟩ : XlatE)] })).queueOn n (p.withTag t)
    | none => (s.modOl n (fun l => { l with wait := l.wait ++ [p] })).log .ol n 0x46 15 0 0

/-- A packet goes back to the mesh, to the lowest-numbered in-service link of a bundle (R314); with none it is discarded. -/
def State.redirect (s : State) (n b : Nat) (p : Pkt) : State :=
  match s.bundleLink b with
  | some m => if m = n then s else (s.fromLink n { p with dst := olLoc m }).addFld OL_REDIRECT_CNT_REDIRECTED 1 n
  | none => s

/-- A packet reaches a link's attachment (R312, R314). One that names no chip belongs to the link's own bundle. Log entry 111, DEDUCED. -/
def State.egress (s : State) (n : Nat) (p : Pkt) : State :=
  if p.net = .snp ∧ p.kind ≠ opWIN_CLOSE then s
  else
    let home := match p.address with
      | some a => if p.isAnswer then some (s.linkBundle n) else s.chipBundle (adChip a)
      | none => some (s.linkBundle n)
    match home with
    | none => s
    | some b =>
      if b = s.linkBundle n ∧ s.carried n = true ∧ s.plan.consort ≠ some n then
        (if p.isAnswer then s.queueOn n p else s.translate n p)
      else s.redirect n b p

/-- The unit that a request from another chip names (R315); none where the spec names no place. -/
def State.ingressDest (s : State) (n a : Nat) : Option Loc :=
  let slot := (olLoc n).slot
  if adChip a ≠ s.chipId then
    (match s.chipBundle (adChip a) with
     | some b => (s.bundleLink b).map olLoc
     | none => none)
  else if adSpace a = 0 then (s.lmap slot (adTile a)).map niLoc
  else if adSpace a = 1 then ((s.niMap slot).decode (adBig a)).map (fun x => mpLoc x.1 (nearestAttach x.1 slot))
  else none

/-- Why a request that names no place on this chip is discarded (R5, R107): a tile without a slot, as a route that is not valid; an address
of no memory or an undefined space, as an opcode that nothing serves. Log entry 111, DEDUCED. -/
def State.lostReason (s : State) (a : Nat) : Nat := if adSpace a = 0 ∧ adTile a < s.tiles then 0 else 3

/-- A request enters the mesh (R315); one that names no place on this chip is discarded, and its source told (R5, R107), and one for a chip
that no link leads to is discarded. Log entry 111, DEDUCED. -/
def State.ingress (s : State) (n : Nat) (p : Pkt) : State :=
  let dest : Option Loc := match p.address with
    | some a => s.ingressDest n a
    | none => ((s.olk n).dest.find? (fun e => e.1 == p.tag)).map (fun e => e.2)
  match dest with
  | none =>
    (match p.address with
     | some a =>
       if adChip a = s.chipId then
         s.queueOn n (mkPkt opDROP (olLoc n) p.src p.ten p.flow p.tag [s.lostReason a, p.op, b2n (p.net == .dat)])
       else s
     | none => s)
  | some d => (s.modOl n (fun l => { l with dest := l.dest.put p.tag d })).fromLink n { p with src := olLoc n, dst := d }

/-- An answer enters the mesh with its translation undone, or is discarded and counted (R316). Log entry 111, DEDUCED. -/
def State.ingressAnswer (s : State) (n : Nat) (p : Pkt) : State :=
  match (s.olk n).xlat.find? (fun e => e.ltxn == p.txn) with
  | some e => s.fromLink n { p with dst := e.src, txn := e.txn }
  | none => s.addFld OL_XLAT_DISC_DISCARDED 1 n

/-- Take the oldest packet received that satisfies q; the room it leaves is returned (R311). A link whose stream nothing carries lets nothing
into the mesh (R324). -/
def State.takeRx (s : State) (n : Nat) (q : Pkt → Bool) (f : State → Pkt → State) : State :=
  if s.fld FB_ANCHOR_STATUS_STOPPED = 1 ∨ s.carried n = false then s else
    match (s.olk n).rxq.find? q with
    | none => s
    | some p =>
      let s := s.modOl n (fun l => { l with rxq := delFirst (fun x => decide (x = p)) l.rxq })
      f (s.item n 0x03 (creditItem (linkClass p) (nflits p))) p

end Sys2Proof.Machine
end

