-- ==== Sys2Proof/Machine/Discovery.lean ====
section
/-!
DEFINITION. Training of a link (R317 to R320), the passage plan (R322, R323), discovery (R324, R325), holding every link (R327) and
chronometer sync between chips (R328 to R330).
-/

namespace Sys2Proof.Machine

/-! ## OL_CTRL -/

/-- An ACTIVE link is held without adoption (R317): its bundle may be lost for want of links. A READY one awaits discovery, which holds it
(R324). -/
def State.holdLink (s : State) (n : Nat) : State :=
  if s.linkState n = lsACTIVE then
    let b := s.linkBundle n
    let s := (s.setLink n lsHELD).consortGone n
    if (s.bundleUpLinks b).length < max 1 (s.minLinks b) then s.bundleLost b else s
  else s

/-- A write of OL_CTRL (R317, R332). A link that is disabled, or trained again, while ACTIVE is lost first. -/
def State.olCtrl (s : State) (n v : Nat) : State :=
  s.regWrite (OL_CTRL.addr n 0) v (fun s =>
    let was := s.fld OL_CTRL_ENABLE n
    let s := s.writeTyped OL_CTRL n 0 v
    if bit v 31 = false then (if was = 1 then (s.linkLost n true).setLink n lsDISABLED else s)
    else
      let s := if was = 0 then s.trainStart n
        else if bit v 30 then ((s.clockBack (52 + n / 4)).linkLost n true).trainStart n
        else s
      if bit v 29 then s.holdLink n else s)

/-- A link cannot train on (R317). Log entry 112, DEDUCED. -/
def State.linkFailed (s : State) (n cause : Nat) : State := (s.setFld OL_STATUS_FAIL_CAUSE cause n).setLink n lsFAILED

/-- WIDTH ends (R318). -/
def State.chooseWidth (s : State) (n : Nat) : State :=
  let l := s.olk n
  let w := widthOf (l.lanesNear &&& l.lanesFar)
  if w.1 = 0 then s.linkFailed n 2
  else (((s.setFld OL_STATUS_WIDTH w.1 n).setFld OL_STATUS_LANES w.2 n).addFld OL_WIDTH_CHG_CNT 1 n).setLink n lsLOCK

/-- LOCK of a round trip in lck cycles (R319): a cycle is 1,024 ÷ 850 ns, so RTT ÷ 20 ns is 128·rtt ÷ 2,125. Log entry 115, DEDUCED. -/
def lockOf (rtt : Nat) : Nat := cdiv (128 * rtt) 2125 + 1

/-- LOCK ends (R319, R92). Log entry 115, DEDUCED. -/
def State.lockDone (s : State) (n rtt far : Nat) : State :=
  let k := max (lockOf rtt) far
  let s := (s.setFld OL_LOCK_RTT rtt n).setFld OL_LOCK_LOCK (min 255 k) n
  if 150 < k then s.linkFailed n 3
  else
    let s := if s.fld OL_LAND_CFG_ENABLE n = 1 ∧ min 127 (s.fld OL_LAND_CFG_DELAY n) < k + 8 then
        (s.setFld OL_LAND_CFG_ENABLE 0 n).setFld OL_LAND_STATUS_DELAY_LOW 1 n
      else s
    s.setLink n lsIDENT

/-! ## IDENT (R320) -/

/-- Bits 119:0 of the IDENT item that a link sends. -/
def State.identBody (s : State) (n : Nat) : Nat :=
  s.chipId <<< 108 + n <<< 103 + s.linkBundle n <<< 98 + s.fld FB_STRAP_PLAN_SEL <<< 95 +
    b2n (s.plan.consort == some n) <<< 94 + (if s.fld FB_STRAP_PLAN_SEL = 0 then s.plan.planId else 0)

/-- IDENT is received: recorded while it is exchanged, compared while ACTIVE. -/
def State.identIn (s : State) (n v : Nat) : State :=
  if s.linkState n = lsIDENT then
    (s.modOl n (fun l => { l with ident := v })).wr OL_IDENT_RX n 0
      (bits v 119 108 <<< 20 + bits v 107 103 <<< 15 + bits v 102 98 <<< 10 + bits v 97 95 <<< 7 + bits v 94 94 <<< 6)
  else if s.linkState n = lsACTIVE ∧ (s.olk n).ident ≠ v then s.unitEvent .ol n 4 0
  else s

/-! ## The passage plan (R322, R323) -/

/-- Word i of a plan image. -/
def planWord (d : List Nat) (i : Nat) : Nat := ofBytes (slice d (8 * i) 8)

/-- BUNDLE, R_CHIP and R_LINK of link n. -/
def planBundle (d : List Nat) (n : Nat) : Nat := bits (planWord d (8 + n)) 63 59
def planRChip (d : List Nat) (n : Nat) : Nat := bits (planWord d (8 + n)) 58 47

/-- The first reason to refuse a plan, as CAUSE, in the order of R323. -/
def planCause (chip : Nat) (d : List Nat) : Option Nat :=
  if bits (planWord d 0) 63 56 ≠ 1 then some 0
  else if crc64 (d.take 8184) ≠ planWord d 1023 then some 1
  else if bits (planWord d 0) 55 44 ≠ chip then some 2
  else if (List.range 32).any (fun n => planBundle d n != 31 && (List.range 32).any (fun m =>
      planBundle d m == planBundle d n && planRChip d m != planRChip d n)) then some 3
  else if (slice d 576 4096).any (fun e => bit e 7 && !((List.range 32).any (fun n => planBundle d n == bits e 4 0 &&
      planBundle d n != 31))) then some 4
  else none

/-- The plan that an image holds. -/
def planOf (d : List Nat) : Plan :=
  let b := fun (f : Nat → Nat) => (List.range 32).map f
  { valid := true, planId := planWord d 1, parent := bits (planWord d 0) 43 38, alt := bits (planWord d 0) 37 32,
    consort := if bit (planWord d 0) 28 then some (bits (planWord d 0) 27 23) else none,
    bundle := b (planBundle d), rchip := b (planRChip d), rlink := b (fun n => bits (planWord d (8 + n)) 46 42),
    minLinks := b (fun k => bits (planWord d (40 + k)) 63 58), minWidth := b (fun k => bits (planWord d (40 + k)) 57 56),
    weights := (List.range 32).map (fun k =>
      (bits (planWord d (40 + k)) 55 48, bits (planWord d (40 + k)) 47 40, bits (planWord d (40 + k)) 39 32)),
    routes := ((slice d 576 4096).zip (List.range 4096)).filterMap (fun e => if e.1 = 0 then none else some (e.2, e.1)) }

/-! ## Holding and discovering -/

/-- Every link is held (R327): bundles that are UP are lost, each reads DOWN, and no chip is reachable. Log entry 116, DEDUCED. -/
def State.holdAll (s : State) : State :=
  let used := (List.range 32).filter (fun b => s.bundleState b != 0)
  let s := used.foldl (fun s b => if s.bundleState b = 1 then s.bundleLost b else s.setBundle b 2) s
  let s := (List.range 32).foldl (fun s n =>
    let st := s.linkState n
    let s := if st = lsDISABLED ∨ st = lsFAILED then s else (s.setLink n lsHELD).consortGone n
    (s.modOl n (fun l => { l with adopted := [], carry := [], old := [] })).setFld OL_STATUS_ADOPTING 0 n) s
  (s.clearReach (fun _ => true)).countBundles

/-- Training starts again on every link that is enabled, and its bundles are being discovered. Log entry 116, DEDUCED. -/
def State.startDiscovery (s : State) : State :=
  let s := (List.range 32).foldl (fun s n => s.setFld OL_STATUS_BUNDLE (s.plan.bundle.getD n 31) n) s
  let s := (List.range 32).foldl (fun s b =>
    s.setBundle b (if s.noBundle b = false ∧ (s.bundleLinks b).isEmpty = false then 3 else 0)) s
  let s := (List.range 32).foldl (fun s n => s.trainStart n) s
  { (s.setFld FB_PLAN_STATUS_STATE 1).countBundles with plan := { s.plan with synced := false } }

/-- DISCOVER (R323, R327): with PLAN_SEL 0 the plan is read and checked; a refused one leaves every link held. Log entry 116, DEDUCED. -/
def State.discover (s : State) : State :=
  let s := s.holdAll
  if s.fld FB_STRAP_PLAN_SEL ≠ 0 then s.startDiscovery
  else
    let d := s.hbmBytes (adBig (s.pair FB_PLAN_LO FB_PLAN_HI)) 8192
    match planCause s.chipId d with
    | some c => { (s.setFld FB_PLAN_STATUS_STATE 3).setFld FB_PLAN_STATUS_CAUSE c with plan := {} }
    | none => { s with plan := planOf d }.startDiscovery

/-- A write of FB_PLAN_CTRL (R323, R327). -/
def State.planCtrl (s : State) (v : Nat) : State :=
  s.regWrite (FB_PLAN_CTRL.addr 0 0) v (fun s =>
    let s := s.setFld FB_PLAN_CTRL_HOLD_ALL (bits v 0 0)
    if bit v 1 then s.discover else if bit v 0 then s.holdAll else s)

/-- Write bits of NI_REACH in an NI: what becomes unreachable is lost at once (R313). -/
def State.setReach (s : State) (ni k v : Nat) : State :=
  let old := s.rd NI_REACH ni k
  (s.wr NI_REACH ni k v).chipsLost (fun n => n == ni) (fun c => c / 32 == k && bit old (c % 32) && !(bit v (c % 32)))

/-- A link is trained and has not been judged yet. -/
def State.linkReady (s : State) (n : Nat) : Bool := s.linkState n == lsREADY

/-- The link whose IDENT a preset bundle's links must agree with: its lowest-numbered trained one. Log entry 113, DEDUCED. -/
def State.presetRef (s : State) (b : Nat) : Nat := ((s.bundleLinks b).find? (fun n => s.linkReady n || s.linkState n == lsACTIVE)).getD 0

/-- What discovery finds of a link (R324); 0 where it finds nothing to judge. Log entry 116, DEDUCED. -/
def State.outcome (s : State) (n : Nat) : Nat :=
  let b := s.linkBundle n
  let ready := s.linkReady n
  let chip := s.fld OL_IDENT_RX_R_CHIP n
  let same := if s.fld FB_STRAP_PLAN_SEL = 0 then
      chip == s.plan.rchip.getD n 0 && s.fld OL_IDENT_RX_R_LINK n == s.plan.rlink.getD n 0 &&
        (s.olk n).ident % 2 ^ 64 == s.plan.planId
    else
      let r := s.presetRef b
      chip == s.fld OL_IDENT_RX_R_CHIP r && s.fld OL_IDENT_RX_R_BUNDLE n == s.fld OL_IDENT_RX_R_BUNDLE r
  if ready = false then (if s.noBundle b then 0 else 3)
  else if s.noBundle b then 2
  else if same = false ∨ (s.fld OL_IDENT_RX_R_BUNDLE n = 31 ∧ s.fld OL_IDENT_RX_R_PLAN_SEL n ≠ 7) then 5
  else if s.fld OL_STATUS_WIDTH n < s.minWidth b then 4
  else 1

/-- Held whatever discovery finds (R317, R327), a link in its safe state among them (R282). Log entry 155, DEDUCED. -/
def State.heldDown (s : State) (n : Nat) : Bool :=
  s.fld OL_CTRL_HOLD_DOWN n == 1 || s.fld FB_PLAN_CTRL_HOLD_ALL == 1 || s.fld (xx_ERR_STATUS_SAFE .ol) n == 1

/-- Chip route table of a preset: the neighbour of each bundle (R321). Log entry 113, DEDUCED. -/
def State.presetRoutes (s : State) : SMap Nat :=
  (List.range 32).foldl (fun m k =>
    let b := 31 - k
    match (s.bundleLinks b).find? (fun n => s.fld OL_STATUS_OUTCOME n == 1) with
    | some n => if s.noBundle b then m else m.put (s.fld OL_IDENT_RX_R_CHIP n) (128 + b)
    | none => m) []

/-- Sync parent under a preset: the bundle whose neighbour has the lowest chip id below this chip's own; 63 for a root (R328).
Log entry 113, DEDUCED. -/
def State.presetParent (s : State) : Nat :=
  match s.plan.routes.find? (fun e => decide (e.1 < s.chipId)) with
  | some e => bits e.2 4 0
  | none => 63

/-- A judged link goes into service, carrying its own stream unless a sibling has adopted it, or is held (R324, R333); what came over one
that is no MATCH goes no further. -/
def State.settle (s : State) (n : Nat) (up : Bool) : State :=
  if up then
    let s := s.setLink n lsACTIVE
    if s.isAdopted n then s else s.setFld OL_STATUS_CARRIER n n
  else
    let s := if s.fld OL_STATUS_OUTCOME n = 1 ∨ s.isAdopted n = true then s else s.modOl n (fun l => { l with rxS := [], rxPart := [], rxq := [] })
    s.setLink n lsHELD

/-- A link that has trained again while discovery stands is judged by itself (R317, R332). Log entry 155, DEDUCED. -/
def State.judgeAgain (s : State) : State :=
  (List.range 32).foldl (fun s n =>
    if s.linkReady n = false then s
    else
      let o := s.outcome n
      (s.setFld OL_STATUS_OUTCOME o n).settle n (o == 1 && !(s.heldDown n) && s.bundleUp (s.linkBundle n))) s

/-- Discovery judges every link and every bundle, and loads weights, routes, NI_REACH and the sync tree (R324, R325, R328). -/
def State.judge (s : State) : State :=
  let s := (List.range 32).foldl (fun s n => s.setFld OL_STATUS_OUTCOME (s.outcome n) n) s
  let serves := fun (n : Nat) => s.fld OL_STATUS_OUTCOME n == 1 && !(s.heldDown n)
  let up := fun (b : Nat) => decide (max 1 (s.minLinks b) ≤ ((s.bundleLinks b).filter serves).length)
  let s := (List.range 32).foldl (fun s b =>
    if s.noBundle b = true ∨ (s.bundleLinks b).isEmpty = true then s.setBundle b 0 else s.setBundle b (if up b then 1 else 2)) s
  let s := (List.range 32).foldl (fun s n =>
    if s.linkReady n = false then s
    else s.settle n (serves n && s.bundleUp (s.linkBundle n))) s
  let sel := s.fld FB_STRAP_PLAN_SEL
  let s := if sel = 0 then
      (List.range 32).foldl (fun s n =>
        match s.plan.weights[s.linkBundle n]? with
        | some w => if s.linkBundle n = 31 then s else s.wr OL_TX_WEIGHT n 0 (w.1 <<< 16 + w.2.1 <<< 8 + w.2.2)
        | none => s) s
    else { s with plan := { s.plan with routes := s.presetRoutes } }
  let s := s.nisUp.foldl (fun s ni => (List.range 128).foldl (fun s k =>
    s.setReach ni k ((List.range 32).foldl (fun v i =>
      match s.chipBundle (32 * k + i) with
      | some b => if s.bundleUp b then v + 2 ^ i else v
      | none => v) 0)) s) s
  let s := (s.setFld FB_PLAN_STATUS_STATE 2).countBundles
  let parent := if sel = 0 then s.plan.parent else s.presetParent
  let s := ({ s with chr := { s.chr with syncGot := s.time.c } }.setFld FB_SYNC_STATUS_PARENT parent).setFld FB_SYNC_STATUS_ALT 0
  let s := s.setFld FB_SYNC_STATUS_ROOT (b2n (parent == 63))
  (if s.bnUp = true ∧ s.fld BN_STATE_STATE = 2 ∧ s.fld BN_STATE_STEP = 8 then s.setFld BN_STATE_STEP 9 else s).tryReady

/-! ## Sync (R328 to R330) -/

/-- Beats of C since a beat of it (R328, R330). -/
def State.sinceSync (s : State) (c : Nat) : Nat := (s.time.c + beatMod - c) % beatMod

/-- A signed number in 12 bits, saturating. -/
def sat12 (x : Int) : Nat := ((max (-2048) (min 2047 x)) % 4096).toNat

/-- Root time minus this chip's, in sixteenths of a beat (R328). Log entry 114, DEDUCED. -/
def State.thetaOf (s : State) (n c ofs : Nat) : Int :=
  let root : Int := 16 * ((c : Int) + s.fld OL_LOCK_LOCK n) + signedOf 12 ofs
  signedOf 64 ((root - (s.stampOf (domOf .ol n) : Int)) % 2 ^ 64).toNat

/-- No chart runs (R329). -/
def State.noChart (s : State) : Bool := s.chart.all (fun e => e.2.isNone)

/-- Stolrel loads C with root time under R38 (R329). Log entry 114, DEDUCED. -/
def State.syncLoad (s : State) (n c ofs : Nat) : State :=
  let t := (16 * ((c : Int) + s.fld OL_LOCK_LOCK n) + signedOf 12 ofs) / 16
  let s := s.setFld CH_CTRL_RUN 0
  let s := (s.setPair CH_LOAD_LO CH_LOAD_HI (t % 2 ^ 60).toNat).loadC
  s.setFld CH_CTRL_RUN 1

/-- SYNC is received on a link of the parent bundle (R328, R329). -/
def State.syncIn (s : State) (n c ofs : Nat) : State :=
  if s.linkState n ≠ lsACTIVE ∨ s.fld FB_SYNC_STATUS_ROOT = 1 ∨ s.fld FB_SYNC_STATUS_PARENT ≠ s.linkBundle n then s
  else
    let th := s.thetaOf n c ofs
    let s := s.stamped (domOf .ol n)
    let s : State := { s with chr := { s.chr with syncGot := s.time.c } }
    let s : State := { s with plan := { s.plan with theta := th } }
    let s := (s.setFld FB_SYNC_STATUS_THETA (sat12 th)).setFld FB_SYNC_STATUS_LOCKED (b2n (decide (-16 ≤ th ∧ th ≤ 16)))
    let first := !s.plan.synced && s.bnUp
    let s : State := { s with plan := { s.plan with synced := s.plan.synced || s.bnUp } }
    if first = true ∧ (16 < th ∨ th < -16) ∧ s.noChart = true then
      let s := s.syncLoad n c ofs
      { s.tryReady with time := s.time }
    else
      let step := if 8 < th then some true else if th < -8 then some false else none
      { { s with chr := { s.chr with syncStep := step } }.tryReady with time := s.time }

/-- SYNC is sent to the bundles whose far end names them as parent (R328). -/
def State.syncOut (s : State) (kids : List Nat) : State :=
  let ofs := if s.fld FB_SYNC_STATUS_ROOT = 1 then 0 else sat12 s.plan.theta
  kids.foldl (fun s b =>
    match (s.bundleLinks b).find? (fun n => s.linkState n == lsACTIVE) with
    | some n => s.item n 0x07 (s.time.c + ofs <<< 64)
    | none => s) s

end Sys2Proof.Machine
end

