-- ==== Sys2Proof/Machine/Links.lean ====
section
/-!
DEFINITION. Outer links: what each event of a link, each item received and each step of training and discovery does.
-/

namespace Sys2Proof.Machine

/-! ## Frames and link flits -/

/-- FRAME_RECEIVE (R310): a frame is corrected, or its pair is discarded and NAK sent. An armed injection makes the check see
inverted bits (R301). Log entry 18, DESIGN CHOICE; log entry 108, DEDUCED; log entry 127, DESIGN CHOICE. -/
def execFrameReceive (n pair : Nat) (odd : Bool) (verdict : Nat) (s : State) : Host.Outcome State Fault Refusal :=
  run (.frameReceive n pair odd verdict) s (fun s =>
    if s.receiving n = false then s else
      let r := s.injCheck .ol n [0, 1]
      let v := match r.1 with
        | some src => max verdict (src + 1)
        | none => verdict
      let s := r.2.frame n pair odd v
      if v = 0 then s else s.unitEvent .ol n (v - 1) 0 r.1.isSome)

/-- LINK_FLIT_TRANSMIT (R309 to R311, R333, R431). -/
def execLinkFlitTransmit (n : Nat) (s : State) : Host.Outcome State Fault Refusal :=
  run (.linkFlitTransmit n) s (fun s => (s.injEvent .ol n 0 [6]).transmit n)

/-- LANDING_FLIT_ARRIVE (R90, R307): a SCHED link flit joins the SCHED buffer of its stream, and those that wait there are placed
as far as their lines are free. -/
def execLandingFlitArrive (n : Nat) (flit : List Nat) (s : State) : Host.Outcome State Fault Refusal :=
  run (.landingFlitArrive n flit) s (fun s =>
    let x := s.streamOn n
    let s := match flit with
      | [lo, pos, data, ue] =>
        if s.accepts n = false then s else
          let s := s.addPair OL_RX_BYTES_LO OL_RX_BYTES_HI 256 n
          let g := (s.olk x).mark
          if g % 16 ≠ lo then
            ((((s.setFld OL_LAND_STATUS_LAND_MISMATCH 1 x).unitEvent .ol x 5 0).item x 0x03 (creditItem 0 1)).segFail
              (olLoc x).slot (s.segNow (olLoc x).slot) stABORTED)
          else s.modOl x (fun l => { l with rxS := l.rxS ++ [(g, pos, data, ue != 0)] })
      | _ => s
    s.land ((s.olk x).rxS.length) x (fun x => s.landBeat x))

/-- SMALL (R308): the cells of a SMALL link flit are taken, each flit in the order of its packet. -/
def execSmall (n : Nat) (cells : List (Pkt × Nat)) (s : State) : Host.Outcome State Fault Refusal :=
  run (.small n cells) s (fun s =>
    if s.accepts n = false then s else
      cells.foldl (fun s c =>
        let x := s.streamOn n
        if (s.olk x).nextFlit c.1 = c.2 then s.gather x c.1 c.2 else s) (s.addPair OL_RX_BYTES_LO OL_RX_BYTES_HI 256 n))

/-- OPEN (R307): flit i of an open DAT packet is taken. -/
def execOpenFlit (n : Nat) (p : Pkt) (i : Nat) (s : State) : Host.Outcome State Fault Refusal :=
  run (.openFlit n p i) s (fun s =>
    if s.accepts n = false then s else
      let x := s.streamOn n
      let s := s.addPair OL_RX_BYTES_LO OL_RX_BYTES_HI 256 n
      if (s.olk x).nextFlit p = i then s.gather x p i else s)

/-! ## Control items -/

/-- The command that a received control item is (R309), by its type in bits 127:120 and its fields; an empty item and one of an unlisted type
are none, and CONSORT belongs to the frame whose payload follows it. -/
def controlItem (n i : Nat) : Option Instr :=
  match itemTy i with
  | 0x01 => some (.ack n (bits i 15 0))
  | 0x02 => some (.nak n (bits i 15 0))
  | 0x03 => some (.credit n (bits i 63 0))
  | 0x04 => some (.landMark n (bits i 7 0))
  | 0x05 => some (.stream n (bits i 4 0))
  | 0x06 => some (.ident n (bits i 119 0))
  | 0x07 => some (.sync n (bits i 59 0) (bits i 75 64))
  | 0x08 => some (.linkLoss n (bits i 4 0))
  | 0x09 => some (.resume n (bits i 20 16) (bits i 15 0))
  | 0x0B => some (.train n (bits i 3 0))
  | _ => none

/-- ACK (R309, R310). -/
def execAck (n pair : Nat) (s : State) : Host.Outcome State Fault Refusal :=
  run (.ack n pair) s (fun s => if s.taking n then s.modOl n (fun l => l.ack pair) else s)

/-- NAK (R310). -/
def execNak (n pair : Nat) (s : State) : Host.Outcome State Fault Refusal :=
  run (.nak n pair) s (fun s => if s.taking n then s.nakked n pair else s)

/-- CREDIT (R311): byte k returns room for class k of the stream. -/
def execCredit (n v : Nat) (s : State) : Host.Outcome State Fault Refusal :=
  run (.credit n v) s (fun s =>
    if s.accepts n = false then s else
      s.modOl (s.streamOn n) (fun l => { l with room := (List.range 7).map (fun c => l.roomOf c + bits v (8 * c + 7) (8 * c)) }))

/-- LAND_MARK (R307): the landing tag of the SCHED flits that follow in the stream. -/
def execLandMark (n g : Nat) (s : State) : Host.Outcome State Fault Refusal :=
  run (.landMark n g) s (fun s => if s.accepts n then s.modOl (s.streamOn n) (fun l => { l with mark := g }) else s)

/-- STREAM (R333): the link whose stream the following link flits belong to. -/
def execStream (n j : Nat) (s : State) : Host.Outcome State Fault Refusal :=
  run (.stream n j) s (fun s =>
    if s.accepts n then s.modOl n (fun l => { l with strm := if j = n then none else some j }) else s)

/-- IDENT (R320). -/
def execIdent (n v : Nat) (s : State) : Host.Outcome State Fault Refusal :=
  run (.ident n v) s (fun s => if s.taking n then s.identIn n v else s)

/-- IDENT_SEND (R320): every 1 ms while ACTIVE, and while IDENT is exchanged. -/
def execIdentSend (n : Nat) (s : State) : Host.Outcome State Fault Refusal :=
  run (.identSend n) s (fun s =>
    if s.linkState n = lsACTIVE ∨ s.linkState n = lsIDENT then s.item n 0x06 (s.identBody n) else s)

/-- SYNC (R328, R329). Log entry 114, DEDUCED. -/
def execSync (n c ofs : Nat) (s : State) : Host.Outcome State Fault Refusal :=
  runTime (.sync n c ofs) s (fun s => if s.taking n then s.syncIn n c ofs else s)

/-- SYNC_SEND (R328): INTERVAL beats after the last one. Log entry 114, DEDUCED. -/
def execSyncSend (kids : List Nat) (s : State) : Host.Outcome State Fault Refusal :=
  run (.syncSend kids) s (fun s =>
    if s.sinceSync s.chr.syncSent < zeroAsOne (s.fld FB_SYNC_CFG_INTERVAL) then s
    else { s with chr := { s.chr with syncSent := s.time.c } }.syncOut kids)

/-- SYNC_LOST (R330): 64 intervals without SYNC. Log entry 114, DEDUCED. -/
def execSyncLost (s : State) : Host.Outcome State Fault Refusal :=
  run .syncLost s (fun s =>
    if s.fld FB_SYNC_STATUS_ROOT = 1 ∨ s.fld FB_SYNC_STATUS_PARENT = 63 ∨
        s.sinceSync s.chr.syncGot < 64 * zeroAsOne (s.fld FB_SYNC_CFG_INTERVAL) then s
    else s.parentLost)

/-- LINK_LOSS (R333): the far end has found link j lost. -/
def execLinkLoss (n j : Nat) (s : State) : Host.Outcome State Fault Refusal :=
  run (.linkLoss n j) s (fun s =>
    if s.taking n = true ∧ s.linkState n = lsACTIVE ∧ s.linkBundle j = s.linkBundle n then s.linkLost j false else s)

/-- RESUME (R333): what the far end has not received of stream j goes again on the link that carries it. -/
def execResume (n j last : Nat) (s : State) : Host.Outcome State Fault Refusal :=
  run (.resume n j last) s (fun s =>
    if s.taking n = true ∧ (s.olk n).adopted.contains j = true then s.resume j last else s)

/-- TRAIN (R309, R317): the far end's healthy lanes; on an ACTIVE link, those that it has left after shedding (R331). Log entry 169,
DESIGN CHOICE. Log entry 169, DESIGN CHOICE. -/
def execTrain (n mask : Nat) (s : State) : Host.Outcome State Fault Refusal :=
  run (.train n mask) s (fun s =>
    if s.linkState n = lsALIGN ∨ s.linkState n = lsWIDTH then s.modOl n (fun l => { l with lanesFar := mask, told := true })
    else if s.linkState n = lsACTIVE ∧ s.taking n = true ∧ mask &&& s.fld OL_STATUS_LANES n ≠ s.fld OL_STATUS_LANES n then
      s.rewidth n (s.olk n).lanesNear mask
    else s)

/-! ## Packets -/

/-- LINK_EGRESS_PACKET (R312, R314). An anchor stop lets nothing of the mesh out (R431). -/
def execLinkEgressPacket (n : Nat) (p : Pkt) (s : State) : Host.Outcome State Fault Refusal :=
  run (.linkEgressPacket n p) s (fun s =>
    if s.fld FB_ANCHOR_STATUS_STOPPED = 1 ∨ p.isReg = true ∨ decide (p.dst = olLoc n) = false then s
    else (s.takeNet (.unit (olLoc n)) p).egress n p)

/-- LINK_INGRESS_REQUEST (R315): the oldest request received enters the mesh. -/
def execLinkIngressRequest (n : Nat) (s : State) : Host.Outcome State Fault Refusal :=
  run (.linkIngressRequest n) s (fun s => s.takeRx n (fun p => !p.isAnswer) (fun s p => s.ingress n p))

/-- LINK_INGRESS_ANSWER (R316): the oldest answer received enters the mesh, or is discarded. -/
def execLinkIngressAnswer (n : Nat) (s : State) : Host.Outcome State Fault Refusal :=
  run (.linkIngressAnswer n) s (fun s => s.takeRx n (fun p => p.isAnswer) (fun s p => s.ingressAnswer n p))

/-- XLAT_IDLE_EXPIRE (R316): the entry is freed, and the oldest packet that waits for one takes it. -/
def execXlatIdleExpire (n ltxn : Nat) (s : State) : Host.Outcome State Fault Refusal :=
  run (.xlatIdleExpire n ltxn) s (fun s =>
    let s := s.modOl n (fun l => { l with xlat := l.xlat.filter (fun e => e.ltxn != ltxn) })
    match (s.olk n).wait with
    | [] => s
    | p :: rest => (s.modOl n (fun l => { l with wait := rest })).translate n p)

/-! ## Training -/

/-- LINK_ENABLE (R317): a write of OL_CTRL. Log entry 112, DEDUCED. -/
def execLinkEnable (n v : Nat) (s : State) : Host.Outcome State Fault Refusal :=
  run (.linkEnable n v) s (fun s => s.olCtrl n v)

/-- RETRAIN (R317, R332): a write of OL_CTRL. -/
def execRetrain (n v : Nat) (s : State) : Host.Outcome State Fault Refusal :=
  run (.retrain n v) s (fun s => s.olCtrl n v)

/-- HOLD_DOWN (R317): a write of OL_CTRL. Log entry 112, DEDUCED. -/
def execHoldDown (n v : Nat) (s : State) : Host.Outcome State Fault Refusal :=
  run (.holdDown n v) s (fun s => s.olCtrl n v)

/-- PMA_READY (R317): the PMA is ready with signal on the lanes of `mask`. -/
def execPmaReady (n mask : Nat) (s : State) : Host.Outcome State Fault Refusal :=
  run (.pmaReady n mask) s (fun s =>
    if s.linkState n = lsWAIT_PMA ∧ mask ≠ 0 then s.setLink n lsALIGN else s)

/-- SIG_DET_LOSS (R447): lanes in use have lost signal while the link is ACTIVE. -/
def execSigDetLoss (n mask : Nat) (s : State) : Host.Outcome State Fault Refusal :=
  run (.sigDetLoss n mask) s (fun s =>
    let use := s.fld OL_STATUS_LANES n
    if s.linkState n ≠ lsACTIVE ∨ mask &&& use = 0 then s
    else if mask &&& use = use then s.unitEvent .ol n 3 0
    else ((List.range 4).filter (fun i => bit (mask &&& use) i)).foldl (fun s i => s.laneEvent n i) s)

/-- ALIGN_DONE (R317, R318): `mask` lists the lanes that align with at most 16 errors; it goes to the far end in TRAIN items. -/
def execAlignDone (n mask : Nat) (s : State) : Host.Outcome State Fault Refusal :=
  run (.alignDone n mask) s (fun s =>
    if s.linkState n = lsALIGN then
      ((s.modOl n (fun l => { l with lanesNear := mask })).item n 0x0B mask).setLink n lsWIDTH
    else s)

/-- WIDTH_CHOSEN (R317, R318): once the far end has told its healthy lanes. -/
def execWidthChosen (n : Nat) (s : State) : Host.Outcome State Fault Refusal :=
  run (.widthChosen n) s (fun s => if s.linkState n = lsWIDTH ∧ (s.olk n).told = true then s.chooseWidth n else s)

/-- LOCK_DONE (R319, R92). -/
def execLockDone (n rtt far : Nat) (s : State) : Host.Outcome State Fault Refusal :=
  run (.lockDone n rtt far) s (fun s => if s.linkState n = lsLOCK then s.lockDone n rtt far else s)

/-- IDENT_DONE (R317, R321): READY, or held while no plan is loaded. -/
def execIdentDone (n : Nat) (s : State) : Host.Outcome State Fault Refusal :=
  run (.identDone n) s (fun s =>
    if s.linkState n ≠ lsIDENT then s
    else if s.fld FB_STRAP_PLAN_SEL = 0 ∧ s.plan.valid = false then s.setLink n lsHELD
    else s.setLink n lsREADY)

/-- TRAIN_LIMIT_EXPIRE (R317). -/
def execTrainLimitExpire (n : Nat) (s : State) : Host.Outcome State Fault Refusal :=
  run (.trainLimitExpire n) s (fun s =>
    if lsWAIT_PMA ≤ s.linkState n ∧ s.linkState n ≤ lsIDENT then s.linkFailed n 1 else s)

/-! ## Discovery -/

/-- DISCOVERY_JUDGE (R324, R325, R328): every link has trained, failed or run out of time; later, those that have trained again.
Log entry 155, DEDUCED. -/
def execDiscoveryJudge (s : State) : Host.Outcome State Fault Refusal :=
  run .discoveryJudge s (fun s =>
    if s.bnUp = false then s
    else if s.fld FB_PLAN_STATUS_STATE = 1 then s.judge
    else if s.fld FB_PLAN_STATUS_STATE = 2 then s.judgeAgain
    else s)

/-- DISCOVER (R323, R327): a write of FB_PLAN_CTRL. -/
def execDiscover (v : Nat) (s : State) : Host.Outcome State Fault Refusal :=
  run (.discover v) s (fun s => s.planCtrl v)

/-- HOLD_ALL (R327): a write of FB_PLAN_CTRL. -/
def execHoldAll (v : Nat) (s : State) : Host.Outcome State Fault Refusal :=
  run (.holdAll v) s (fun s => s.planCtrl v)

/-- ALIGNMENT_MARKER (R305, R447): a lane's marker is taken (`kind` 0), dropped or repeated beyond absorption (1), or lock is lost
(2). -/
def execAlignmentMarker (n lane kind : Nat) (s : State) : Host.Outcome State Fault Refusal :=
  run (.alignmentMarker n lane kind) s (fun s =>
    if s.receiving n = false ∨ kind = 0 then s
    else if kind = 1 then s.laneEvent n lane
    else s.unitEvent .ol n 3 0)

/-- NI_REACH_WRITE (R313). -/
def execNiReachWrite (n k v : Nat) (s : State) : Host.Outcome State Fault Refusal :=
  run (.niReachWrite n k v) s (fun s => s.regWrite (NI_REACH.addr n k) v (fun s => s.setReach n k v))

end Sys2Proof.Machine
end

