-- ==== Sys2Proof/Machine/PlotOps.lean ====
section
/-!
DEFINITION. The plot of waits (R428), the trace port (R422 to R424) and the anchor stop's pin and end (R429, R430).
-/

namespace Sys2Proof.Machine

/-! ## The plot -/

/-- An edge of the plot: WAITER, KIND, AWAITED_KIND, AWAITED, OBJ, TAG and SINCE. -/
structure Edge where
  waiter : Nat
  kind : Nat
  ak : Nat
  awaited : Nat
  obj : Nat
  tag : Nat
  since : Nat
  deriving DecidableEq, Repr

/-- The edges in the wait table of an NI (R427). Log entry 80, DEDUCED. -/
def State.niEdges (s : State) (n : Nat) : List Edge :=
  (List.range 16).filterMap (fun k =>
    if s.fld NI_WAIT_INFO_KIND n k = 0 then none
    else some ⟨s.ltileOf n n, s.fld NI_WAIT_INFO_KIND n k, s.fld NI_WAIT_INFO_AWAITED_KIND n k, s.fld NI_WAIT_INFO_AWAITED n k,
      s.rd NI_WAIT_OBJ n k, s.rd NI_WAIT_TAG n k, s.rd NI_WAIT_SINCE n k⟩)

/-- The edges of every NI in service, region by region (R428). -/
def State.edges (s : State) : List Edge :=
  (List.range 36).flatMap (fun r => ((List.range 64).map (regionSlot r)).flatMap (fun n => if s.niUp n then s.niEdges n else []))

/-- Tiles reached from a set along edges that await a TILE. The fuel is the number of edges. -/
def reachTiles (es : List Edge) : Nat → List Nat → List Nat
  | 0, l => l
  | fuel + 1, l =>
    let more := ((es.filter (fun e => e.ak == 0 && l.contains e.waiter)).map (fun e => e.awaited)).filter (fun t => !(l.contains t))
    if more.isEmpty then l else reachTiles es fuel (l ++ more.dedup)

/-- An edge lies on a directed cycle of edges that await a TILE (R428). -/
def onCycle (es : List Edge) (e : Edge) : Bool :=
  e.ak == 0 && (reachTiles es es.length [e.awaited]).contains e.waiter

/-- The four words of an edge (R428). -/
def Edge.words (es : List Edge) (e : Edge) : List Nat :=
  [e.waiter <<< 52 + e.kind <<< 48 + e.ak <<< 44 + e.awaited <<< 32 + e.obj, e.since <<< 32 + e.tag, b2n (onCycle es e), 0]

/-- The writes of the plot in order (R428): the header with VALID 0, the edges in pieces of at most 4,096 bytes, word 0 with VALID 1.
Until they are queued, their TAG holds the number of the host port. Log entry 80, DEDUCED. -/
def State.plotWrites (s : State) (es : List Edge) : List BPkt :=
  let addr := s.fld FB_PLOT_LO_ADDR <<< 12 + s.rd FB_PLOT_HI <<< 32
  let w0 := s.fld FB_MAP_GEN_GEN <<< 16 + 1
  let put := fun (a : Nat) (d : List Nat) => (⟨3, s.fld FB_PLOT_CTRL_HP, 0, true, d.length, 0, a, d⟩ : BPkt)
  let body := es.flatMap (fun e => (e.words es).flatMap (toBytes 8))
  [put addr ([w0, s.time.c, s.time.c, es.length <<< 32, 0, 0, 0, 0].flatMap (toBytes 8))] ++
    (List.range (cdiv body.length 4096)).map (fun i =>
      put (addr + 64 + 4096 * i) (Sys2Proof.Machine.slice body (4096 * i) 4096)) ++
    [put addr (toBytes 8 (2 ^ 63 + w0))]

/-- What the host port's own requests of code 3 are for: the plot. Log entry 90, DESIGN CHOICE. -/
def ownPlot : Nat := 3

/-- The next write of the plot goes to its host port, or the plot is done. A host port in its safe state takes nothing. -/
def State.plotNext (s : State) : State :=
  match s.plot with
  | [] => (s.setFld FB_PLOT_STATUS_DONE 1).setFld FB_PLOT_STATUS_BUSY 0
  | b :: rest =>
    if s.fld (xx_ERR_STATUS_SAFE .hp) b.tag = 1 then s.ownFailed ownPlot
    else { s with plot := rest }.hpPush b.tag ⟨{ b with tag := 0 }, .own ownPlot⟩

/-- Stolrel builds the plot (R428), in READY and with no plot under way. Log entry 80, DEDUCED. -/
def State.plotGo (s : State) : State :=
  if s.bnUp = false ∨ s.fld BN_STATE_STATE ≠ 3 ∨ s.fld FB_PLOT_STATUS_BUSY = 1 then s.setFld FB_PLOT_STATUS_REFUSED 1
  else
    let es := s.edges
    let s := s.setFld FB_PLOT_STATUS_CYCLES (min 65535 (es.filter (onCycle es)).length)
    ({ s with plot := s.plotWrites es }.setFld FB_PLOT_STATUS_BUSY 1).plotNext

/-! ## The trace port -/

/-- A record matches the trigger (R424). -/
def State.triggers (s : State) (r : List Nat) : Bool :=
  s.fld TP_TRIG_CFG_ENABLE == 1 && bits (r.getD 1 0) 55 51 == s.fld TP_TRIG_CFG_TYPE &&
    (s.fld TP_TRIG_CFG_LAYER_EN == 0 || bits (r.getD 2 0) 63 48 == s.fld TP_TRIG_CFG_LAYER_ID) &&
    (s.fld TP_TRIG_CFG_TAG_EN == 0 || bits (r.getD 1 0) 31 0 == s.fld TP_TRIG_TAG_TAG)

/-- A record reaches the trace port (R282, R423, R424). -/
def State.recordAt (s : State) (r : List Nat) : State :=
  if s.fld TP_CFG_ENABLE = 0 ∨ 4096 ≤ s.tp.fifo.length ∨ s.fld (xx_ERR_STATUS_SAFE .tp) = 1 then
    (s.addFld TP_DROPPED_CNT 1).unitEvent .tp 0 0 0
  else
    let s := { s with tp := { s.tp with fifo := s.tp.fifo ++ [r] } }
    if s.triggers r = true ∧ s.fld TP_STATUS_TRIGGERED = 0 then
      let s := s.setFld TP_STATUS_TRIGGERED 1
      if s.fld FB_ANCHOR_CTRL_TRIG_EN = 1 then s.anchorStop FB_ANCHOR_STATUS_SRC_TRIG else s
    else s

/-- Words of a trace record, 32 bytes each. -/
def recordsOf (d : List Nat) : List (List Nat) :=
  (List.range (d.length / 32)).map (fun i => (List.range 4).map (fun j => ofBytes (Sys2Proof.Machine.slice d (32 * i + 8 * j) 8)))

/-- Up to two records leave as one beat; a single one is followed by zeros (R423, R453). -/
def State.sendRecords (s : State) : State :=
  let rs := s.tp.fifo.take 2
  let ws := rs.flatten
  let s := s.addPair TP_RECORDS_LO TP_RECORDS_HI rs.length
  { s with tp := { s.tp with fifo := s.tp.fifo.drop 2, beat := ws ++ List.replicate (8 - ws.length) 0, scan := false, last := false } }

/-- The trace port has records to send (R423). -/
def State.recordsWait (s : State) : Bool :=
  s.fld TP_CFG_ENABLE == 1 && s.fld (xx_ERR_STATUS_SAFE .tp) == 0 && !s.tp.fifo.isEmpty

/-- Scan-out goes through the trace port (R433). -/
def State.scanWaits (s : State) : Bool := s.scan.on && !s.scan.jtag && s.fld (xx_ERR_STATUS_SAFE .tp) == 0

/-! ## The anchor line -/

/-- STOPPED by the 1 ms limit (R430): regions that have not completed b + 2 are frozen where they stand. Log entry 83, DEDUCED. -/
def State.freezePartial (s : State) : State :=
  let rs := (List.range 36).filter (fun n => !(s.rg n).frozen)
  let s := rs.foldl (fun s n => s.modRg n (fun r => { r with frozen := true, partialStop := true })) s
  (s.addFld FB_ANCHOR_STATUS_PARTIAL rs.length).stopDone

end Sys2Proof.Machine
end

