-- ==== Sys2Proof/Machine/RegView.lean ====
section
/-!
DEFINITION. What a read of a register returns (R10, R461): the stored value, with the fields that only show other state put in, and
the copies of a counter snapshot (R419).
-/

namespace Sys2Proof.Machine

/-! ## Counters of a snapshot (R418, R419) -/

/-- The counters of R418 and the RG_ counters, by block. -/
def snapRegs : Blk → List RegDef
  | .ni => [NI_SCHED_TX_LO, NI_SCHED_TX_HI, NI_SCHED_RX_LO, NI_SCHED_RX_HI, NI_OPEN_TX_LO, NI_OPEN_TX_HI, NI_OPEN_RX_LO, NI_OPEN_RX_HI,
      NI_STALL_BEATS, NI_CREDIT_WAITS, NI_CREDIT_WAIT_US, NI_FLOW_BYTES_LO, NI_FLOW_BYTES_HI]
  | .ol => [OL_FEC_CE_LO, OL_FEC_CE_HI, OL_FEC_UE, OL_RETRY, OL_WIDTH_CHG, OL_LANE_ERR, OL_TX_BYTES_LO, OL_TX_BYTES_HI, OL_RX_BYTES_LO,
      OL_RX_BYTES_HI]
  | .mp => [MP_RD_BYTES_LO, MP_RD_BYTES_HI, MP_WR_BYTES_LO, MP_WR_BYTES_HI, MP_PREEMPT, MP_DBG]
  | .hp => [HP_RX_BYTES_LO, HP_RX_BYTES_HI, HP_TX_BYTES_LO, HP_TX_BYTES_HI, HP_BELLS, HP_BELL_MERGED]
  | .tp => [TP_RECORDS_LO, TP_RECORDS_HI, TP_DROPPED]
  | .rg => [RG_DIP_EVENTS, RG_STRETCH_CNT, RG_STALL_CNT]
  | _ => []

/-! ## Fields that show other state -/

/-- A list's length as a register field shows it. -/
def cnt {α : Type} (l : List α) : Nat := l.length

/-- Bit n of a word for each n that satisfies p. -/
def maskOf (n : Nat) (p : Nat → Bool) : Nat := (List.range n).foldl (fun m i => if p i then m + 2 ^ i else m) 0

/-- CH_ registers (R38, R45, R55). -/
def State.showCh (s : State) (r : RegDef) : List (Fld × Nat) :=
  let t := s.stampOf 62
  if r = CH_STATUS then [(CH_STATUS_HOLD, b2n s.chr.hold), (CH_STATUS_RUNNING, b2n (s.fld CH_CTRL_RUN == 1 && !s.chr.refGone))]
  else if r = CH_TIME_LO then [(CH_TIME_LO_BEAT_LO, bits t 31 4), (CH_TIME_LO_SLOT, bits t 3 0)]
  else if r = CH_TIME_HI then [(CH_TIME_HI_BEAT_HI, bits t 63 32)]
  else if r = CH_HELD_LO then [(CH_HELD_LO_HELD_LO, bits s.time.h 31 0)]
  else if r = CH_HELD_HI then [(CH_HELD_HI_HELD_HI, bits s.time.h 59 32)]
  else if r = CH_HOLD_REQ0 then [(CH_HOLD_REQ0_REQ, maskOf 32 (fun n => (s.rg n).holdReq))]
  else if r = CH_HOLD_REQ1 then [(CH_HOLD_REQ1_REQ, maskOf 4 (fun n => (s.rg (32 + n)).holdReq))]
  else []

/-- RG_ registers (R40, R45, R51, R283). Log entry 14, DESIGN CHOICE. -/
def State.showRg (s : State) (r : RegDef) (i : Nat) : List (Fld × Nat) :=
  let g := s.rg i
  if r = RG_ESC_STATUS then
    [(RG_ESC_STATUS_DEPTH, s.depth i), (RG_ESC_STATUS_STALLED, b2n g.stalled), (RG_ESC_STATUS_CLOCK_ABSENT, b2n g.absent),
     (RG_ESC_STATUS_HOLD_REQ, b2n g.holdReq), (RG_ESC_STATUS_LAG, min 7 g.lag)]
  else if r = RG_FENCE_STATE then
    let t := regionSlot i (s.fld RG_FENCE_SEL_TILE i)
    [(RG_FENCE_STATE_REGION_F3, b2n g.f3), (RG_FENCE_STATE_MLINK, maskOf 4 (fun p => s.fence.mlinks.contains (meshLink t p))),
     (RG_FENCE_STATE_LEVEL, s.level t)]
  else []

/-- NI_ and RT_ registers of charts, flows, windows, reductions and commands. -/
def State.showNi (s : State) (r : RegDef) (i k : Nat) : List (Fld × Nat) :=
  let rt := s.rt i
  if r = NI_CHART_STATUS then
    [(NI_CHART_STATUS_SEG_INDEX, (rt.cur.map (fun g => g.seg)).getD 0),
     (NI_CHART_STATUS_LOAD_WAIT, b2n (match s.ch i with | some c => c.waitSeg.isSome | none => false)),
     (NI_CHART_STATUS_LOADED, b2n rt.idle.isSome), (NI_CHART_STATUS_BANK, rt.bank), (NI_CHART_STATUS_RUNNING, b2n rt.cur.isSome)]
  else if r = NI_CHART_BEAT then [(NI_CHART_BEAT_BEAT, if rt.cur.isSome then beatSub (s.rg (regionOf i)).L rt.start else 0)]
  else if r = NI_CHART_ID then [(NI_CHART_ID_CHART_ID, (rt.cur.map (fun g => g.chart)).getD 0)]
  else if r = NI_FLOW_STATUS then
    let f := s.fl i k
    let forming := s.xfers.filter (fun x => x.ni == i && x.flow == k && x.chunks.any (fun c => decide (c.st < 3)))
    let waiting := s.descs.filter (fun d => d.ni == i && d.key == k && decide (d.phase ≤ 1))
    [(NI_FLOW_STATUS_QUEUED, min 255 (cnt waiting + cnt forming + cnt f.queue)), (NI_FLOW_STATUS_PARKED, b2n f.parked.isSome),
     (NI_FLOW_STATUS_LEVEL, f.bucket / 16)]
  else if r = NI_CREDIT_STATUS then
    [(NI_CREDIT_STATUS_WAITERS, cnt (s.waiters.filter (fun w => w.ni == i))),
     (NI_CREDIT_STATUS_LEDGER, cnt (s.ledger.filter (fun l => l.ni == i)))]
  else if r = NI_WIN_STATE then
    let w := s.window i (s.fld NI_WIN_SEL_HANDLE i)
    [(NI_WIN_STATE_STATE, w.state), (NI_WIN_STATE_POOL, w.pool), (NI_WIN_STATE_EPOCH, w.epoch)]
  else if r = NI_WIN_CREDIT then
    let w := s.window i (s.fld NI_WIN_SEL_HANDLE i)
    [(NI_WIN_CREDIT_GRANTED, w.granted), (NI_WIN_CREDIT_FREE, w.free)]
  else if r = NI_AP_STATUS then [(NI_AP_STATUS_FILL, cnt (s.apt i).landing)]
  else if r = RT_RED_STATUS then
    [(RT_RED_STATUS_CHART, cnt (rt.ctx.filter (fun c => c.2.owner == 1))),
     (RT_RED_STATUS_OPEN, cnt (rt.ctx.filter (fun c => c.2.owner == 2))),
     (RT_RED_STATUS_STAGED, (rt.staged.map (fun x => payFlits x.pkt)).sum)]
  else if r = NI_RED_STATUS then [(NI_RED_STATUS_ACTIVE, cnt (s.redm.filter (fun m => m.ni == i)))]
  else if r = NI_TQn_CFG then
    [(NI_TQn_CFG_BUSY, b2n (s.descs.any (fun d => d.ni == i && d.origin == 4096 + k) || s.cplq.any (fun c => c.ni == i && c.origin == 4096 + k)))]
  else if r = NI_CMD_STATUS then
    [(NI_CMD_STATUS_HELD, cnt (s.descs.filter (fun d => d.ni == i))),
     (NI_CMD_STATUS_SIG_LINES, cnt (s.sigLines.filter (fun l => l.ni == i))),
     (NI_CMD_STATUS_CPL_WAIT, b2n (s.cplq.any (fun c => c.ni == i && !(s.cqRoom (ringKey i c.origin)))))]
  else if r = NI_TRACE_STATUS then [(NI_TRACE_STATUS_BUFFERED, cnt (s.trace.get i {}).recs)]
  else []

/-- FB_ and TN_ registers. -/
def State.showFb (s : State) (r : RegDef) (i k : Nat) : List (Fld × Nat) :=
  if r = FB_RING_CFG then
    [(FB_RING_CFG_BUSY, b2n (s.descs.any (fun d => d.origin == k) || s.cplq.any (fun c => c.origin == k)))]
  else if r = FB_TICK_STATUS then [(FB_TICK_STATUS_RUNNING, b2n s.tickRuns), (FB_TICK_STATUS_SAFE_KINDS, s.safeKinds)]
  else if r = FB_HBM_STATUS then
    [(FB_HBM_STATUS_BUSY, b2n (!s.nimap.isEmpty || (List.range 16).any (fun n => decide ((s.mpt n).map ≠ s.fbMap))))]
  else if r = FB_GRANT_STATUS then
    [(FB_GRANT_STATUS_BUSY, b2n ((List.range 16).any (fun n => decide ((s.mpt n).grants ≠ s.fbGrants))))]
  else
    let o := s.fld TN_RING_SEL_RING i
    let foreign := s.fld FB_RING_CFG_TENANCY 0 o != i
    if r = TN_INFO then [(TN_INFO_TENANCY, i)]
    else if r = TN_RING_SEL then [(TN_RING_SEL_FOREIGN, b2n foreign)]
    else if r = TN_RING_HEAD then [(TN_RING_HEAD_HEAD, if foreign then 0 else s.rd FB_RING_HEAD 0 o)]
    else if r = TN_RING_CQ then [(TN_RING_CQ_CQ_TAIL, if foreign then 0 else (s.rng o).cqTail)]
    else []

/-- BN_, TP_, MP_ and OL_ registers. -/
def State.showUnit (s : State) (r : RegDef) (i : Nat) : List (Fld × Nat) :=
  if r = BN_LOG_STATUS then [(BN_LOG_STATUS_WAITING, cnt s.bn.waiting)]
  else if r = TP_STATUS then
    [(TP_STATUS_READY, b2n s.tp.ready), (TP_STATUS_SCANNING, b2n (s.scan.on && !s.scan.jtag)), (TP_STATUS_LEVEL, cnt s.tp.fifo)]
  else if r = MP_STATUS then
    let m := s.mpt i
    [(MP_STATUS_OWNER, m.owner), (MP_STATUS_PARKED, b2n m.parked), (MP_STATUS_SUSPENDED, b2n m.suspended.isSome)]
  else if r = MP_REFRESH_STATUS then
    [(MP_REFRESH_STATUS_STUCK, b2n (s.mpt i).stuck), (MP_REFRESH_STATUS_HELD, b2n (s.mpt i).held)]
  else if r = OL_XLAT then [(OL_XLAT_IN_USE, cnt (s.olk i).xlat)]
  else if r = OL_LAND_STATUS then
    [(OL_LAND_STATUS_LINES_USED, cnt (((s.olk i).landing.map (fun e => e.1 / 4)).dedup))]
  else []

/-- The unit kind whose error set a block holds. -/
def Blk.kind : Blk → Option UnitKind
  | .ni => some .ni
  | .rt => some .red
  | .rg => some .rg
  | .mp => some .mp
  | .ol => some .ol
  | .hp => some .hp
  | .tp => some .tp
  | .bn => some .bn
  | _ => none

/-- Histories and logbooks (R274, R425). -/
def State.showLog (s : State) (r : RegDef) (i k : Nat) : List (Fld × Nat) :=
  match r.blk.kind with
  | none => []
  | some u =>
    let h := (s.eu u i).hist.get k ⟨0, 0, 0, false, false, 0⟩
    let l := s.logs.get (64 * errKey u i + k) ⟨0, 0, 0, 0, 0, 0⟩
    if r = xx_ERR_HIST_TIME_LO u then [(xx_ERR_HIST_TIME_LO_TIME u, bits h.ts 31 0)]
    else if r = xx_ERR_HIST_TIME_HI u then [(xx_ERR_HIST_TIME_HI_TIME u, bits h.ts 63 32)]
    else if r = xx_ERR_HIST_INFO u then
      [(xx_ERR_HIST_INFO_EXT u, h.ext), (xx_ERR_HIST_INFO_SOURCE u, h.src), (xx_ERR_HIST_INFO_SEVERE u, b2n h.severe),
       (xx_ERR_HIST_INFO_INJECTED u, b2n h.injected), (xx_ERR_HIST_INFO_DETAIL u, h.detail)]
    else if u = .ni ∨ u = .mp ∨ u = .ol ∨ u = .hp then
      if r = LOG_TIME_LO u then [(⟨r, 31, 0⟩, bits l.ts 31 0)]
      else if r = LOG_TIME_HI u then [(⟨r, 31, 0⟩, bits l.ts 63 32)]
      else if r = LOG_INFO u then [(⟨r, 31, 24⟩, l.ext), (⟨r, 23, 16⟩, l.code), (⟨r, 15, 12⟩, l.peerKind), (⟨r, 11, 0⟩, l.peer)]
      else if r = LOG_DETAIL u then [(⟨r, 31, 0⟩, l.detail)]
      else []
    else []

/-- The fields of a register that show other state. Log entry 130, DESIGN CHOICE. -/
def State.shown (s : State) (r : RegDef) (i k : Nat) : List (Fld × Nat) :=
  (match r.blk with
   | .ch => s.showCh r
   | .rg => s.showRg r i
   | .ni | .rt => s.showNi r i k
   | .fb | .tn => s.showFb r i k
   | .bn | .tp | .mp | .ol => s.showUnit r i
   | .hp => []) ++ s.showLog r i k

/-- The value of a register now. Log entry 130, DESIGN CHOICE. -/
def State.live (s : State) (r : RegDef) (i k : Nat) : Nat :=
  (s.shown r i k).foldl (fun v f => setBits v f.1.hi f.1.lo f.2) (s.rd r i k)

/-- The value that a read of an offset returns: zero where no register is defined (R461), the snapshot's copy of a counter while VIEW
is 1 (R419). Log entry 130, DESIGN CHOICE. -/
def State.readReg (s : State) (off : Nat) : Nat :=
  match locate off with
  | none => 0
  | some (r, i, k) =>
    if s.fld FB_CNT_SNAP_VIEW = 1 ∧ (snapRegs r.blk).contains r = true then (s.snap.copies.get off 0).toNat
    else s.live r i k

end Sys2Proof.Machine
end

