-- ==== Sys2Proof/Machine/ScanOps.lean ====
section
/-!
DEFINITION. The frames of scan-out (R434, R435): which sections leave, in which order, and the bytes of each.
-/

namespace Sys2Proof.Machine

/-- The registers of a block that satisfy p, every copy, in ascending offset. -/
def Blk.inOrder (b : Blk) (p : RegDef → Bool) : List (Nat × RegDef × Nat) :=
  ((b.regs.filter p).flatMap (fun r => (List.range (max 1 r.count)).map (fun k => (r.off + r.stride * k, r, k)))).insertionSort
    (fun x y => x.1 ≤ y.1)

/-- The registers of a unit as a section holds them: 32 bits each. -/
def State.regBytes (s : State) (b : Blk) (i : Nat) (p : RegDef → Bool) : List Nat :=
  (b.inOrder p).flatMap (fun x => toBytes 4 (s.live x.2.1 i x.2.2))

/-- A chart entry as R62 lays it out, with the check code of R65. -/
def encodeEntry (e : Entry) : Nat :=
  let w := e.beatStart <<< 100 + e.repeatM1 <<< 88 + e.period <<< 76 + e.runM1 <<< 64 + e.slotFirst <<< 60 + e.slotLast <<< 56 +
    e.slotStep <<< 54 + e.inPort <<< 51 + e.outMask <<< 45 + e.action <<< 42 + e.rctx <<< 36 + e.stream <<< 32 + e.cstep <<< 30 +
    e.busDir <<< 28 + e.busReach <<< 25
  let w := w + secdedCheck w <<< 120
  w + (b2n (parity w 127)) <<< 127

/-- Word 0 of a frame (R434). -/
def scanHead (kind idx sec off : Nat) : Nat := kind <<< 60 + idx <<< 48 + sec <<< 40 + off % 2 ^ 32

/-- The header's words 1 to 7 (R435): b; SOURCES, the chip id and FB_MAP_GEN; the map digest; the Stolrel version. Log entry 85, DEDUCED. -/
def State.scanHeader (s : State) : List Nat :=
  let d := s.fbDigest
  [s.chr.stopBeat, s.anchorSources + s.chipId <<< 16 + s.fld FB_MAP_GEN_GEN <<< 32] ++
    (List.range 4).map (fun i => d.getD (2 * i) 0 + d.getD (2 * i + 1) 0 <<< 32) ++ [s.pair BN_FW_VERSION_LO BN_FW_VERSION_HI]

/-- The bytes of a section whose form the spec gives; none for the other sections and for scratchpad. Log entry 85, DEDUCED. -/
def State.scanBytes (s : State) (kind idx sec : Nat) : Option (List Nat) :=
  let all := fun (_ : RegDef) => true
  match kind, sec with
  | 0, _ => some (s.scanHeader.flatMap (toBytes 8))
  | 1, _ => some (s.regBytes .ch 0 all ++ s.regBytes .fb 0 (fun r =>
      [FB_ANCHOR_CTRL, FB_ANCHOR_STATUS, FB_ANCHOR_BEAT_LO, FB_ANCHOR_BEAT_HI].contains r))
  | 2, _ =>
    let r := s.rg idx
    some (toBytes 8 (r.L % 2 ^ 58 + r.slot <<< 58 + b2n r.partialStop <<< 63) ++ s.regBytes .rg idx all)
  | 3, 0 => some (s.regBytes .rt idx (fun r => r != RT_ROUTE && r != RT_GROUP))
  | 3, 1 | 3, 2 =>
    let r := s.rt idx
    let g := if r.bank = sec - 1 then r.cur else r.idle
    some ((g.map (fun g => g.entries.flatMap (fun e => toBytes 16 (encodeEntry e)))).getD [])
  | 3, 3 => some (s.regBytes .rt idx (fun r => r == RT_ROUTE))
  | 3, 4 => some (s.regBytes .rt idx (fun r => r == RT_GROUP))
  | 4, 0 => some (s.regBytes .ni idx all)
  | 4, 1 => some ((s.descs.filter (fun d => d.ni == idx)).flatMap (fun d => d.words.flatMap (toBytes 8)))
  | 4, 4 => some ((s.trace.get idx {}).recs.flatMap (fun r => r.flatMap (toBytes 8)))
  | 6, 0 => some (s.regBytes .mp idx all)
  | 7, 0 => some (s.regBytes .ol idx all)
  | 8, 0 => some (s.regBytes .hp idx all)
  | 9, 0 => some (s.regBytes .tp 0 all)
  | 9, 1 => some (s.tp.fifo.flatMap (fun r => r.flatMap (toBytes 8)))
  | _, _ => none

/-- Bytes of a section: scratchpad's 1.5 MiB (R435); for a section without a given form, a free value. Log entry 16, DESIGN CHOICE. -/
def State.scanLen (s : State) (kind idx sec : Nat) : Nat :=
  if kind = 5 then 1572864
  else if kind = 15 then 16
  else match s.scanBytes kind idx sec with
    | some b => b.length
    | none => Config.scanUnits s.chr.stopBeat (scanHead kind idx sec 0)

/-- Slots at F2, and regions at F3 or without power, give frames of zeros (R435). -/
def State.scanDead (s : State) (kind idx : Nat) : Bool :=
  if kind = 2 then (s.rg idx).f3 || !(s.powered idx)
  else decide (3 ≤ kind ∧ kind ≤ 5) && !(s.routerUp idx)

/-- Words 1 to 7 of a frame: bytes 56·off on of its section. Log entry 16, DESIGN CHOICE. -/
def State.scanWords (s : State) (kind idx sec off : Nat) : List Nat :=
  if s.scanDead kind idx then List.replicate 7 0
  else if kind = 5 then (List.range 7).map (fun j => s.spad.readNum (spadKey idx (56 * off + 8 * j)) (min 8 (1572864 - (56 * off + 8 * j))))
  else if kind = 15 then [s.scan.sent, crc64Out s.scan.crc, 0, 0, 0, 0, 0]
  else match s.scanBytes kind idx sec with
    | some b => (List.range 7).map (fun j => ofBytes (Sys2Proof.Machine.slice b (56 * off + 8 * j) 8))
    | none => (List.range 7).map (fun j => Config.scanWord s.fresh (scanHead kind idx sec off) j % 2 ^ 64)

/-- The next frame: eight words, the sections that remain, and the unit of the first of them. Sections that hold nothing give
no frame. Log entry 85, DEDUCED. -/
def State.nextFrame (s : State) : List (Nat × Nat × Nat) → Nat → Option (List Nat × List (Nat × Nat × Nat) × Nat)
  | [], _ => none
  | (k, i, c) :: r, off =>
    if 56 * off < s.scanLen k i c then
      let f := scanHead k i c off :: s.scanWords k i c off
      if 56 * (off + 1) < s.scanLen k i c then some (f, (k, i, c) :: r, off + 1) else some (f, r, 0)
    else s.nextFrame r 0

/-- The sections in the order of R435. Log entry 85, DEDUCED. -/
def scanSections (spad land : Bool) : List (Nat × Nat × Nat) :=
  [(0, 0, 0), (1, 0, 0)] ++
  (List.range 36).flatMap (fun r => (2, r, 0) :: (List.range 64).flatMap (fun t =>
    let n := regionSlot r t
    (List.range 7).map (fun c => (3, n, c)) ++ (List.range 5).map (fun c => (4, n, c)) ++ if spad then [(5, n, 0)] else [])) ++
  (List.range 16).flatMap (fun n => [(6, n, 0), (6, n, 1)]) ++
  (List.range 32).flatMap (fun n => [(7, n, 0), (7, n, 1)] ++ (if land then [(7, n, 2)] else []) ++ [(7, n, 3)]) ++
  [(8, 0, 0), (8, 0, 1), (8, 1, 0), (8, 1, 1), (9, 0, 0), (9, 0, 1), (15, 0, 0)]

/-- A frame leaves (R433 to R435): it is counted, and after the end frame scan-out is done. The frame's words, when there is one. -/
def State.scanStep (s : State) : Option (List Nat × State) :=
  if s.scan.on = false then none else
    match s.nextFrame s.scan.left s.scan.off with
    | none => none
    | some (f, left, off) =>
      let s := s.satFld FB_SCAN_STATUS_FRAMES 1
      let s := { s with scan := { s.scan with
        left := left, off := off, sent := s.scan.sent + 1, crc := crc64Reg s.scan.crc (f.flatMap (toBytes 8)), on := !left.isEmpty } }
      some (f, if left.isEmpty then (s.setFld FB_SCAN_STATUS_BUSY 0).setFld FB_SCAN_STATUS_DONE 1 else s)

/-- TP_LAST: the frame is the end frame. -/
def isEndFrame (f : List Nat) : Bool := bits (f.headD 0) 63 60 == 15

end Sys2Proof.Machine
end

