-- ==== Sys2Proof/Machine/Observe.lean ====
section
/-!
DEFINITION. Observation (R418 to R435): counter snapshots, traces, logbooks, the plot, the anchor stop and scan-out; and the
events that a core and its scratchpad report (R443).
-/

namespace Sys2Proof.Machine

/-! ## Reports of a tile port (R443) -/

/-- CORE_FATAL (R443): a CORE event, at once, which fences the slot at F1. -/
def execCoreFatal (n code : Nat) (s : State) : Host.Outcome State Fault Refusal :=
  run (.coreFatal n code) s (fun s => if s.niUp n = true ∧ s.frozenAt n = false then s.unitEvent .ni n 8 code else s)

/-- SP_ERR (R443): SPAD_CE or SPAD_UE, with the address as DETAIL. -/
def execSpErr (n : Nat) (ue : Bool) (addr : Nat) (s : State) : Host.Outcome State Fault Refusal :=
  run (.spErr n ue addr) s (fun s =>
    if s.niUp n = true ∧ s.frozenAt n = false then s.unitEvent .ni n (if ue then 7 else 6) addr else s)

/-! ## Snapshots (R419) -/

/-- The blocks that copy in a snapshot, by kind. -/
def snapBlk (k : Nat) : Blk :=
  match k with
  | 0 => .ni | 1 => .rg | 2 => .mp | 3 => .ol | 4 => .hp | _ => .tp

/-- The units that copy in a snapshot, each as the base of its block. -/
def snapUnits : List Nat :=
  (List.range 6).flatMap (fun k => (List.range (snapBlk k).count).map (fun i => (snapBlk k).base i))

/-- CNT_SNAP_GO (R419): T := C + 4. While a snapshot is being taken, GO is discarded. Log entry 77, DEDUCED. -/
def execCntSnapGo (v : Nat) (s : State) : Host.Outcome State Fault Refusal :=
  run (.cntSnapGo v) s (fun s =>
    s.regWrite (FB_CNT_SNAP.addr 0 0) v (fun s =>
      let s := s.writeTyped FB_CNT_SNAP 0 0 v
      if bit v 31 = true ∧ s.fld FB_CNT_SNAP_BUSY = 0 then
        let t := (s.time.c + 4) % beatMod
        let s := s.setPair FB_SNAP_BEAT_LO FB_SNAP_BEAT_HI t
        { s with snap := { s.snap with t := t, left := snapUnits } }.setFld FB_CNT_SNAP_BUSY 1
      else s))

/-- A unit copies its counters. -/
def State.snapCopy (s : State) (b : Blk) (i : Nat) : State :=
  let copies := (snapRegs b).foldl (fun m r =>
    (List.range (max 1 r.count)).foldl (fun m k => m.put (r.addr i k) (BitVec.ofNat 32 (s.live r i k))) m) s.snap.copies
  let left := s.snap.left.filter (fun x => x != b.base i)
  let s := { s with snap := { s.snap with copies := copies, left := left } }
  if left.isEmpty then s.setFld FB_CNT_SNAP_BUSY 0 else s

/-- The clock domain of a unit that copies in a snapshot. -/
def snapDom (k i : Nat) : Nat := domOf ([UnitKind.ni, .rg, .mp, .ol, .hp].getD k .tp) i

/-- SNAPSHOT_COPY (R419): a unit that has not copied yet accepts a C at or past T. Log entry 24, DESIGN CHOICE; log entry 77, DEDUCED. -/
def execSnapshotCopy (k i : Nat) (s : State) : Host.Outcome State Fault Refusal :=
  run (.snapshotCopy k i) s (fun s =>
    if s.snap.left.contains ((snapBlk k).base i) = true ∧ beatSub s.time.c s.snap.t < 2 ^ 59 ∧ s.clockOff (snapDom k i) = false then
      s.snapCopy (snapBlk k) i
    else s)

/-- SNAPSHOT_TIMEOUT (R419): counters not copied keep their older copies. Log entry 77, DEDUCED. -/
def execSnapshotTimeout (s : State) : Host.Outcome State Fault Refusal :=
  run .snapshotTimeout s (fun s =>
    if s.fld FB_CNT_SNAP_BUSY = 1 then
      ({ s with snap := { s.snap with left := [] } }.setFld FB_CNT_SNAP_BUSY 0).setFld FB_CNT_SNAP_PARTIAL 1
    else s)

/-! ## Traces (R420 to R424, R453) -/

/-- A buffer flit is due at an NI (R422): eight records have gathered, or the oldest has waited 2^FLUSH local beats. -/
def State.traceDue (s : State) (n : Nat) : Bool :=
  let b := s.trace.get n {}
  !b.recs.isEmpty && (decide (8 ≤ b.recs.length) ||
    decide (2 ^ s.fld NI_TRACE_CFG_FLUSH n ≤ beatSub (s.rg (regionOf n)).L (b.ats.headD 0)))

/-- TRACE_FLUSH (R422): up to eight records leave the buffer as one packet, which joins the trace queue. Log entry 78, DESIGN CHOICE. -/
def execTraceFlush (n : Nat) (s : State) : Host.Outcome State Fault Refusal :=
  run (.traceFlush n) s (fun s =>
    let b := s.trace.get n {}
    if s.traceDue n = false ∨ s.niUp n = false ∨ s.frozenAt n = true ∨ s.txnRoom n = false then s
    else
      let rs := b.recs.take 8
      let txn := s.freeTxn n
      let s := s.addTx ⟨n, txn, .trace, 0, 0, 0, s.chipId, 0, false, false⟩
      let s := { s with trace := s.trace.put n { b with recs := b.recs.drop 8, ats := b.ats.drop 8, sent := b.sent ++ [(txn, rs.length)] } }
      s.enqueue n traceFlow (mkDat opWRITE (niLoc n) tpLoc 0 0 txn [0] 0 0 0 (rs.flatten.flatMap (toBytes 8))))

/-- TRACE_PACKET_TIMEOUT (R422): the records of a packet unanswered for 1 ms count as LOST. -/
def execTracePacketTimeout (n txn : Nat) (s : State) : Host.Outcome State Fault Refusal :=
  run (.tracePacketTimeout n txn) s (fun s =>
    match s.findTx n txn with
    | some t => if t.use = .trace ∧ s.frozenAt n = false then s.txEnd t stTIMEOUT else s
    | none => s)

/-- TRACE_ACCEPT (R422 to R424): the trace port takes the records of a buffer flit and answers. Log entry 78, DESIGN CHOICE. -/
def execTraceAccept (p : Pkt) (s : State) : Host.Outcome State Fault Refusal :=
  run (.traceAccept p) s (fun s =>
    if p.kind ≠ opWRITE ∨ p.dst ≠ tpLoc then s else
      let s := (s.clockBack 63).takeNet (.unit tpLoc) p
      let s := s.injEvent .tp 0 0 [2]
      let s := (recordsOf p.data).foldl (fun s r => s.recordAt r) s
      s.answer p tpLoc opWRITE_ACK [stOK, p.arg 0, 0])

/-- TRACE_SEND (R423, R431, R453): a cycle with the capture side ready: a beat of records leaves, or when none waits a scan
frame. Log entry 79, DEDUCED. -/
def execTraceSend (s : State) : Host.Outcome State Fault Refusal :=
  run .traceSend s (fun s =>
    let s := { s.clockBack 63 with tp := { s.tp with ready := true } }
    if s.recordsWait then s.sendRecords
    else if s.scanWaits then
      match s.scanStep with
      | some (f, t) => { t with tp := { t.tp with beat := f, scan := true, last := isEndFrame f } }
      | none => s
    else s)

/-- CAPTURE_STALL (R453): the capture side has not been ready for 1 ms while data waits. Log entry 79, DEDUCED. -/
def execCaptureStall (s : State) : Host.Outcome State Fault Refusal :=
  run .captureStall s (fun s =>
    let s := { s with tp := { s.tp with ready := false } }
    if s.recordsWait || s.scanWaits then s.unitEvent .tp 0 1 0 else s)

/-! ## Logbooks (R426) -/

/-- The unit kinds that keep a logbook. -/
def logKind (k : Nat) : UnitKind :=
  match k with
  | 0 => .ni | 1 => .mp | 2 => .ol | _ => .hp

/-- FREEZE (R426): a write of LOG_PTR freezes the logbook, or lets it record again. -/
def execFreeze (k i v : Nat) (s : State) : Host.Outcome State Fault Refusal :=
  run (.freeze k i v) s (fun s =>
    let u := logKind k
    if u.count ≤ i then s else
      s.regWrite ((LOG_PTR u).addr i 0) v (fun s => if bit v 31 then s.freezeLog u i else s.setFld (LOG_PTR_FREEZE u) 0 i))

/-! ## The plot (R428) -/

/-- PLOT_GO (R428): a write of FB_PLOT_CTRL. -/
def execPlotGo (v : Nat) (s : State) : Host.Outcome State Fault Refusal :=
  run (.plotGo v) s (fun s =>
    s.regWrite (FB_PLOT_CTRL.addr 0 0) v (fun s =>
      let s := s.writeTyped FB_PLOT_CTRL 0 0 v
      if bit v 31 then s.plotGo else s))

/-! ## The anchor stop (R429 to R432) -/

/-- ANCHOR_N (R429): an asserting edge stops the die while PIN_EN is 1 and the input is obeyed. Log entry 82, DEDUCED. -/
def execAnchorN (s : State) : Host.Outcome State Fault Refusal :=
  run .anchorN s (fun s =>
    let s := { s with pins := { s.pins with anchorLow := true } }.addFld FB_ANCHOR_STATUS_EDGES 1
    if s.fld FB_ANCHOR_CTRL_PIN_EN == 1 && s.pins.anchorArmed && s.fld FB_ANCHOR_STATUS_STUCK == 0 then
      s.anchorStop FB_ANCHOR_STATUS_SRC_PIN
    else s)

/-- ANCHOR_N_STUCK (R429): asserted beyond 1 s, the input is ignored until REARM. Log entry 82, DEDUCED. -/
def execAnchorNStuck (s : State) : Host.Outcome State Fault Refusal :=
  run .anchorNStuck s (fun s =>
    if s.fld FB_ANCHOR_STATUS_STUCK = 1 then s
    else (s.setFld FB_ANCHOR_STATUS_STUCK 1).addFld FB_ANCHOR_STATUS_STUCK_CNT 1)

/-- A write of FB_ANCHOR_CTRL (R429). Log entry 82, DEDUCED. -/
def State.anchorCtrl (s : State) (v : Nat) : State :=
  s.regWrite (FB_ANCHOR_CTRL.addr 0 0) v (fun s =>
    let s := s.writeTyped FB_ANCHOR_CTRL 0 0 v
    let s := if bit v 30 then { s with pins := { s.pins with anchorArmed := true } }.setFld FB_ANCHOR_STATUS_STUCK 0 else s
    if bit v 31 then s.anchorStop FB_ANCHOR_STATUS_SRC_HOST else s)

/-- STOP (R429): a write of FB_ANCHOR_CTRL. -/
def execStop (v : Nat) (s : State) : Host.Outcome State Fault Refusal := run (.stop v) s (fun s => s.anchorCtrl v)

/-- ANCHOR_REARM (R429): a write of FB_ANCHOR_CTRL. -/
def execAnchorRearm (v : Nat) (s : State) : Host.Outcome State Fault Refusal := run (.anchorRearm v) s (fun s => s.anchorCtrl v)

/-- ANCHOR_PARTIAL_FREEZE (R430): 1 ms has passed since the first mark that sampled the stop. Log entry 83, DEDUCED. -/
def execAnchorPartialFreeze (s : State) : Host.Outcome State Fault Refusal :=
  run .anchorPartialFreeze s (fun s => if s.chr.stopSeen ≠ 0 ∧ s.fld FB_ANCHOR_STATUS_STOPPED = 0 then s.freezePartial else s)

/-! ## Scan-out (R433 to R435) -/

/-- SCAN_GO (R433): a write of FB_SCAN_CFG starts scan-out, or sets REFUSED. The settings of a scan-out under way stay as they are.
Log entry 84, DEDUCED. -/
def execScanGo (v : Nat) (s : State) : Host.Outcome State Fault Refusal :=
  run (.scanGo v) s (fun s =>
    s.regWrite (FB_SCAN_CFG.addr 0 0) v (fun s =>
      let s := s.writeTyped FB_SCAN_CFG 0 0 v
      let jtag := s.fld FB_SCAN_CFG_ROUTE = 1
      if bit v 31 = false then s
      else if s.fld FB_ANCHOR_STATUS_STOPPED = 0 ∨ s.scan.on = true ∨
          (jtag ∧ s.fld FB_SCAN_CFG_JTAG_EN = 0) ∨ (¬ jtag ∧ s.fld (xx_ERR_STATUS_SAFE .tp) = 1) then
        s.setFld FB_SCAN_STATUS_REFUSED 1
      else
        let s := { s with scan := { on := true, jtag := decide jtag,
                                    left := scanSections (s.fld FB_SCAN_CFG_SPAD == 1) (s.fld FB_SCAN_CFG_LAND == 1) } }
        (s.setFld FB_SCAN_STATUS_FRAMES 0).setFld FB_SCAN_STATUS_BUSY 1))

end Sys2Proof.Machine
end

