-- ==== Sys2Proof/Machine/Ports.lean ====
section
/-!
DEFINITION. The ports of the block (R443 to R458): core requests, fatal inputs, the bridge, THROTTLE_N and JTAG.
-/

namespace Sys2Proof.Machine

/-! ## Fatal inputs (R445, R448, R458) -/

/-- A level that reports a fatal fault acts at its first assertion and persists while it is up (R302, R458). Log entry 70, DESIGN CHOICE. -/
def State.fatalIn (s : State) (k : UnitKind) (i src : Nat) (up : Bool) : State :=
  let e := s.eu k i
  if up = false then s.setEu k i { e with persist := e.persist.filter (fun x => x != 2) }
  else if e.persist.contains 2 then s
  else (s.setEu k i { e with persist := e.persist ++ [2] }).unitEvent k i src 0

/-- CTRL_FATAL_IN (R445): the event CTRL_FATAL. Log entry 70, DESIGN CHOICE. -/
def execCtrlFatalIn (n : Nat) (up : Bool) (s : State) : Host.Outcome State Fault Refusal :=
  run (.ctrlFatalIn n up) s (fun s => s.fatalIn .mp n 4 up)

/-- HP_FATAL_IN (R448): the event BRIDGE_FATAL. Log entry 70, DESIGN CHOICE. -/
def execHpFatalIn (hp : Nat) (up : Bool) (s : State) : Host.Outcome State Fault Refusal :=
  run (.hpFatalIn hp up) s (fun s => s.fatalIn .hp hp 5 up)

/-! ## The tile port's levels (R443) -/

/-- CORE_ISO (R443): the core's outputs must be clamped, from F1 on. -/
def State.coreIso (s : State) (n : Nat) : Bool := !(s.niUp n)

/-- CORE_RST_N (R443): low until RELEASE is accepted, and low again at F1. -/
def State.coreRstN (s : State) (n : Nat) : Bool := s.fld NI_FWLOAD_CFG_RELEASE n == 1 && s.niUp n

/-! ## Core requests (R444) -/

/-- A load or store of the tile-queue registers (R213, R444): one aligned word, or CR_ERR. -/
def State.coreTq (s : State) (n : Nat) (wr : Bool) (addr data be : Nat) : State :=
  let q := addr % 64 / 16
  if addr % 4 ≠ 0 ∨ (wr = true ∧ be ≠ 15 <<< (addr % 32)) then s.coreAns n true 0
  else if wr then
    (if addr % 16 = 8 then s.tqBell n q (bits data (8 * (addr % 32) + 31) (8 * (addr % 32))) else s).coreAns n false 0
  else s.coreAns n false
    (if addr % 16 = 8 then s.readReg (NI_TQn_PTR.addr n q) else if addr % 16 = 12 then s.readReg (NI_TQn_STATE.addr n q) else 0)

/-- CORE_REQUEST (R163, R164, R444). Log entry 71, DEDUCED. -/
def execCoreRequest (n : Nat) (wr : Bool) (addr data be : Nat) (s : State) : Host.Outcome State Fault Refusal :=
  run (.coreRequest n wr addr data be) s (fun s =>
    if s.niUp n = false ∨ s.frozenAt n = true then s
    else if 0x3FFF0000 ≤ addr ∧ addr ≤ 0x3FFF003F then s.coreTq n wr addr data be
    else if 0x40000000 ≤ addr ∧ addr ≤ 0x43FFFFFF then
      s.apStore n wr (addr - 0x40000000) (if be = 2 ^ 32 - 1 then 32 else 0) (toBytes 32 data)
    else s.coreAns n true 0)

/-! ## Requests to the bridge (R448 to R451) -/

/-- The oldest request of a host port leaves with a free tag, when it is of this KIND and a credit is held. -/
def State.hpSend (s : State) (hp kind : Nat) : State :=
  let h := s.hpt hp
  match h.q with
  | [] => s
  | r :: rest =>
    if r.b.kind ≠ kind ∨ h.crd0 = 0 ∨ 4096 ≤ h.out.length ∨ s.fld (xx_ERR_STATUS_SAFE .hp) hp = 1 then s
    else
      let tag := ((List.range 4096).find? (fun t => !(h.out.any (fun o => o.b.tag == t)))).getD 0
      let b := { r.b with tag := tag }
      let s := s.injEvent .hp hp 0 [6]
      if s.fld (xx_ERR_STATUS_SAFE .hp) hp = 1 then s
      else (s.modHp hp (fun h => { h with q := rest, out := h.out ++ [{ r with b := b }], crd0 := h.crd0 - 1 })).bridgeTx hp
        { b with status := 0 }

/-- MEM_RD (R450): a host memory read leaves for the bridge. -/
def execMemRd (hp : Nat) (s : State) : Host.Outcome State Fault Refusal := run (.memRd hp) s (fun s => s.hpSend hp 2)

/-- MEM_WR (R450): a host memory write leaves for the bridge. -/
def execMemWr (hp : Nat) (s : State) : Host.Outcome State Fault Refusal := run (.memWr hp) s (fun s => s.hpSend hp 3)

/-! ## Answers of the bridge -/

/-- What waits for signal lines goes on once an atomic has let go of its own (R218). -/
def State.lineFree (s : State) (hp : Nat) : State := s.sigRelease hp (2 * (s.hpt hp).sigWaits.length)

/-- The bridge has accepted a completion record (R237, R425): the host port logs it, and raises the interrupt it asks for.
Log entry 74, DEDUCED. -/
def State.cplWritten (s : State) (hp : Nat) (p : Pkt) : State :=
  match s.findTx (srcKey p.src) p.txn with
  | none => s
  | some o =>
    if o.use ≠ .cplWr then s
    else
      let key := o.arg / 2
      let s := s.log .hp hp 0x61 0 (s.ltileOf p.src.slot p.src.slot)
        ((key % 65536) <<< 16 + (p.arg 1 - s.ringCq key) / 32 % 65536)
      if o.arg % 2 = 1 then
        s.modHp hp (fun h => { h with irq := if h.irq.contains key then h.irq else h.irq ++ [key] })
      else s

/-- A mesh request is answered (R218, R244): with data, a status, or an acknowledgement. Log entry 74, DEDUCED. -/
def State.hpAnswer (s : State) (hp : Nat) (r : HReq) (p : Pkt) (st : Nat) (d : List Nat) : State :=
  if p.kind = opWRITE then
    let st := if st = stOK then r.b.status else st
    (if st = stOK then s.cplWritten hp p else s).answer p (hpLoc hp) opWRITE_ACK [st, p.arg 0, 0]
  else if st = stOK ∨ st = stDATA_ERROR then
    s.emit (mkDat opREAD_DATA (hpLoc hp) p.src p.ten p.flow p.txn [st] r.b.addr 0 0 ((List.range r.b.len).map (fun i => d.getD i 0)))
  else s.answer p (hpLoc hp) opREAD_ERR [st]

/-- The answer to a request (R218, R267, R428, R450). -/
def State.cplFor (s : State) (hp : Nat) (r : HReq) (st : Nat) (d : List Nat) : State :=
  match r.why with
  | .serve p => s.hpAnswer hp r p st d
  | .atomRead p =>
    if st = stOK then
      let old := ofBytes (Sys2Proof.Machine.slice d 0 r.b.len)
      s.hpPush hp ⟨⟨3, 0, r.b.ten, r.b.priv, r.b.len, 0, r.b.addr, toBytes r.b.len (atomicResult p old)⟩, .atomWrite p old⟩
    else (s.answer p (hpLoc hp) p.atomicAns [st, 0]).lineFree hp
  | .atomWrite p old => (s.answer p (hpLoc hp) p.atomicAns [st, if st = stOK then old else 0]).lineFree hp
  | .own c => if st ≠ stOK then s.ownFailed c else if c = ownPlot then s.plotNext else s

/-- Take the request outstanding under a tag. Log entry 74, DEDUCED. -/
def State.takeReq (s : State) (hp tag : Nat) : Option (HReq × State) :=
  ((s.hpt hp).out.find? (fun r => r.b.tag == tag)).map (fun r =>
    (r, s.modHp hp (fun h => { h with out := delFirst (fun x => x.b.tag == tag) h.out })))

/-- CPL (R450): the completion of the request with its TAG; with no such request it is discarded. Uncorrectable data is a BRIDGE_UE event
(R276). Log entry 129, DESIGN CHOICE. -/
def execCpl (hp tag st : Nat) (data : List Nat) (s : State) : Host.Outcome State Fault Refusal :=
  run (.cpl hp tag st data) s (fun s =>
    let s := s.addPair HP_RX_BYTES_LO HP_RX_BYTES_HI (128 * (1 + cdiv data.length 128)) hp
    match s.takeReq hp tag with
    | none => s
    | some (r, s) => (if st = stDATA_ERROR then s.unitEvent .hp hp 4 0 else s).cplFor hp r st data)

/-- HOST_TAG_TIMEOUT (R450): the tag is freed. Nothing answers the mesh; an atomic lets its line go, and Carlith's own writes have failed. -/
def execHostTagTimeout (hp tag : Nat) (s : State) : Host.Outcome State Fault Refusal :=
  run (.hostTagTimeout hp tag) s (fun s =>
    match s.takeReq hp tag with
    | none => s
    | some (r, s) =>
      match r.why with
      | .serve _ => s
      | .atomRead _ | .atomWrite _ _ => s.lineFree hp
      | .own c => s.ownFailed c)

/-! ## Interrupts and credits -/

/-- Send pending vectors, oldest first, while request credits allow (R452). Log entry 73, DEDUCED. -/
def State.irqOut (s : State) (hp : Nat) : State :=
  let h := s.hpt hp
  let vs := h.irq.take h.crd0
  let s := s.setHp hp { h with irq := h.irq.drop h.crd0, crd0 := h.crd0 - vs.length }
  vs.foldl (fun s v => s.bridgeTx hp ⟨5, 0, 0, true, 0, 0, v, []⟩) s

/-- IRQ (R452), at both host ports. Log entry 73, DEDUCED. -/
def execIrq (s : State) : Host.Outcome State Fault Refusal := run .irq s (fun s => (s.irqOut 0).irqOut 1)

/-- TX_CRD (R448): room for one more packet of a class; a completion that waits leaves with it. Log entry 73, DEDUCED. -/
def execTxCrd (hp cls : Nat) (s : State) : Host.Outcome State Fault Refusal :=
  run (.txCrd hp cls) s (fun s =>
    if cls = 0 then s.modHp hp (fun h => { h with crd0 := h.crd0 + 1 })
    else match (s.hpt hp).cpls with
      | b :: rest => (s.modHp hp (fun h => { h with cpls := rest })).bridgeTx hp b
      | [] => s.modHp hp (fun h => { h with crd1 := h.crd1 + 1 }))

/-! ## THROTTLE_N (R455) -/

/-- THROTTLE_ASSERT (R455): an asserting edge of an input that is obeyed. Log entry 97, DEDUCED. -/
def execThrottleAssert (s : State) : Host.Outcome State Fault Refusal :=
  run .throttleAssert s (fun s =>
    let s := { s with pins := { s.pins with thrLow := true } }
    if s.fld FB_INPUT_STATUS_THR_STUCK = 1 then s
    else
      let s := s.addFld FB_INPUT_CNT_THR_EDGES 1
      let s := if s.fld FB_INPUT_STATUS_THR_ACTIVE = 1 then s.addFld FB_INPUT_CNT_THR_MERGED 1 else s
      s.setFld FB_INPUT_STATUS_THR_ACTIVE 1)

/-- THR_MIN_EXPIRE (R455): THR_MIN after the input was last seen asserted. Log entry 76, DEDUCED. -/
def execThrMinExpire (s : State) : Host.Outcome State Fault Refusal :=
  run .thrMinExpire s (fun s => { s with pins := { s.pins with thrLow := false } }.setFld FB_INPUT_STATUS_THR_ACTIVE 0)

/-- THR_STUCK (R455): held beyond THR_LIMIT, the input is ignored. Log entry 76, DEDUCED; log entry 97, DEDUCED. -/
def execThrStuck (s : State) : Host.Outcome State Fault Refusal :=
  run .thrStuck s (fun s =>
    if s.pins.thrLow = true ∧ s.fld FB_INPUT_STATUS_THR_STUCK = 0 then
      ((s.setFld FB_INPUT_STATUS_THR_STUCK 1).addFld FB_INPUT_STATUS_THR_STUCK_CNT 1).setFld FB_INPUT_STATUS_THR_ACTIVE 0
    else s)

/-- THR_REARM (R455): a write of FB_INPUT_CTRL; an input still asserted acts again. Log entry 97, DEDUCED. -/
def execThrRearm (v : Nat) (s : State) : Host.Outcome State Fault Refusal :=
  run (.thrRearm v) s (fun s =>
    s.regWrite (FB_INPUT_CTRL.addr 0 0) v (fun s =>
      let s := s.writeTyped FB_INPUT_CTRL 0 0 v
      if bit v 31 = true ∧ s.fld FB_INPUT_STATUS_THR_STUCK = 1 then
        let s := s.setFld FB_INPUT_STATUS_THR_STUCK 0
        if s.pins.thrLow then s.setFld FB_INPUT_STATUS_THR_ACTIVE 1 else s
      else s))

/-! ## JTAG (R457) -/

/-- The TAP takes an instruction and captures a data register. -/
def State.tapIn (s : State) (inst dr : Nat) : State := { s with tap := { s.tap with inst := inst, dr := dr } }

/-- IDCODE (R457). -/
def execIdcode (s : State) : Host.Outcome State Fault Refusal :=
  run .idcode s (fun s => s.tapIn 0x01 (1 <<< 28 + 0xC471 <<< 12 + (s.fuse.jep106 % 2 ^ 11) <<< 1 + 1))

/-- SCAN (R433, R457): the next frame, or zeros. -/
def execScan (s : State) : Host.Outcome State Fault Refusal :=
  run .scan s (fun s =>
    if s.fld FB_SCAN_CFG_JTAG_EN = 1 ∧ s.scan.jtag = true then
      match s.scanStep with
      | some (f, t) => t.tapIn 0x20 (f.foldr (fun w n => w + n <<< 64) 0)
      | none => s.tapIn 0x20 0
    else s.tapIn 0x20 0)

/-- MEMDBG (R347, R457): what the last read returned is captured, and Update-DR runs a transaction of 256 bytes. Log entry 75, DEDUCED. -/
def execMemdbg (d : Nat) (s : State) : Host.Outcome State Fault Refusal :=
  run (.memdbg d) s (fun s =>
    if s.fld FB_SCAN_CFG_JTAG_EN = 1 then
      (s.tapIn 0x21 s.tap.back).debugTx (bits d 2087 2084) (bits d 2083 2048 / 256 * 256) (bit d 2088) (bits d 2047 0)
    else s.tapIn 0x21 0)

/-- BYPASS (R457): its one bit captures 0. -/
def execBypass (s : State) : Host.Outcome State Fault Refusal := run .bypass s (fun s => s.tapIn 0xFF 0)

/-- TRST (R457): Test-Logic-Reset, in which IDCODE is the instruction. Log entry 75, DEDUCED. -/
def execTrst (s : State) : Host.Outcome State Fault Refusal := run .trst s (fun s => { s with tap := { s.tap with inst := 0x01 } })

end Sys2Proof.Machine
end

