-- ==== Sys2Proof/Machine/RegAccess.lean ====
section
/-!
DEFINITION. Register access (R7 to R11, R354, R355, R450, R460 to R465): writes with no behaviour of their own, pairs, and the
requests of the bridge. An output of a router is arbitrated here, since a register read is performed where its packet arrives.
-/

namespace Sys2Proof.Machine

/-! ## Writes -/

/-- Registers whose writes act: each has commands of its own. Log entry 131, DESIGN CHOICE. -/
def ownWrites : List RegDef :=
  [CH_CTRL, BN_GOV_CFG, BN_LOCK, BN_MBOX_CMD, FB_BELL, FB_CONSORT_CFG, FB_GRANT_BASE, FB_GRANT_CFG, FB_HBM_ILV, FB_MAP_GEN, FB_NEAR_BASE,
   FB_NEAR_CFG, FB_PLAN_CTRL, FB_REPLAY_CFG, FB_RING_CFG, FB_SIG_LO, FB_SLICE_CMD, FB_TICK_CTRL, FB_CNT_SNAP, FB_PLOT_CTRL] ++
  [FB_ANCHOR_CTRL, FB_SCAN_CFG, FB_INPUT_CTRL, MP_ARB_COMMIT, MP_BOOK_CFG, MP_REFRESH_CFG, NI_FLOW_CFG, NI_FLOW_RATE, NI_FWLOAD_CFG,
   NI_PAIR_BASE, NI_HDL_CFG, NI_HDL_RANGE, NI_HDL_HOME, NI_REACH, NI_TQn_CFG, NI_TQn_PTR, OL_CTRL, OL_LAND_CFG, RT_CTRL, TN_BELL]

/-- A register has commands of its own: those of the list, ERR_CTRL, ERR_INJECT and LOG_PTR. Log entry 131, DESIGN CHOICE. -/
def RegDef.ownWrite (r : RegDef) : Bool :=
  ownWrites.contains r || [UnitKind.ni, .red, .rg, .mp, .ol, .hp, .tp, .bn].any (fun k =>
    r == xx_ERR_CTRL k || r == xx_ERR_INJECT k || (r == LOG_PTR k && (k == .ni || k == .mp || k == .ol || k == .hp)))

/-- An update of an error set by software: xx_ERR_FIRST clears when SOURCE reads zero after it (R274), and the update meets an armed
parity injection (R281, R301). -/
def State.errSetWritten (s : State) (r : RegDef) (i : Nat) : State :=
  match r.blk.kind with
  | none => s
  | some k =>
    if (errRegs k).contains r then
      let s := if r = xx_ERR_STATUS k ∧ s.fld (xx_ERR_STATUS_SOURCE k) i = 0 then s.wr (xx_ERR_FIRST k) i 0 0 else s
      s.parityMet k i
    else s

/-- A register write with no behaviour of its own (R7, R10, R461): nothing happens where no register is. New dip thresholds apply to the
sensor's last reading (R52). -/
def State.plainWrite (s : State) (off v : Nat) : State :=
  match locate off with
  | none => s
  | some (r, i, k) =>
    if r.ownWrite then s
    else
      let s := s.writeTyped r i k v
      (if r = RG_DIP_THR then s.dipRead i (s.rg i).sag else s).errSetWritten r i

/-- REGISTER_WRITE (R7, R10): fields change by their types. Log entry 131, DESIGN CHOICE. -/
def execRegisterWrite (off v : Nat) (s : State) : Host.Outcome State Fault Refusal :=
  run (.registerWrite off v) s (fun s => s.regWrite off v (fun s => s.plainWrite off v))

/-! ## Pairs -/

/-- The registers NAME_LO whose upper half is NAME_HI, 4 bytes above (R9). -/
def pairLos : List RegDef :=
  [CH_TIME_LO, CH_HELD_LO, CH_LOAD_LO, FB_GRP_DIR_LO, FB_RED_DIR_LO, FB_RING_BASE_LO, FB_RING_DBR_LO, FB_RING_CQ_LO, FB_SIG_LO,
   FB_REPLAY_BASE_LO, FB_REPLAY_T0_LO, FB_PLAN_LO, FB_DIST_LO, MP_BOOK_ADDR_LO, BN_FW_VERSION_LO, NI_SCHED_TX_LO, NI_SCHED_RX_LO] ++
  [NI_OPEN_TX_LO, NI_OPEN_RX_LO, NI_FLOW_BYTES_LO, OL_FEC_CE_LO, OL_TX_BYTES_LO, OL_RX_BYTES_LO, MP_RD_BYTES_LO, MP_WR_BYTES_LO,
   HP_RX_BYTES_LO, HP_TX_BYTES_LO, TP_RECORDS_LO, FB_SNAP_BEAT_LO, FB_PLOT_LO, FB_ANCHOR_BEAT_LO, TN_DESC_LO, TN_BYTES_LO, TN_BEATS_LO]

/-- A register is the lower half of a pair. -/
def RegDef.isLo (r : RegDef) : Bool :=
  pairLos.contains r || [UnitKind.ni, .red, .rg, .mp, .ol, .hp, .tp, .bn].any (fun k =>
    r == xx_ERR_HIST_TIME_LO k || (r == LOG_TIME_LO k && (k == .ni || k == .mp || k == .ol || k == .hp)))

/-- A requester of R463: 0 the Binnacle, and 1 + 65·h + t host port h with the mark of tenancy t, or t = 64 for a privileged request. -/
def requester (p : Pkt) : Nat :=
  if p.src.port = 5 then 0 else 1 + 65 * (srcKey p.src - 2305) + (if p.arg 0 = 1 then 64 else p.ten)

/-- A requester reads an offset (R9): a read of NAME_LO latches NAME_HI for it, and its next read of NAME_HI takes the latched value. -/
def State.readBy (s : State) (who off : Nat) : Nat × State :=
  let s := if off = CH_TIME_LO.addr 0 0 then s.stamped 62 else s
  let lo := match locate off with
    | some (r, _, _) => r.isLo
    | none => false
  if lo then
    (s.readReg off, { s with latch := s.latch.filter (fun e => !(e.1 == who && e.2.1 == off + 4)) ++ [(who, off + 4, s.readReg (off + 4))] })
  else match s.latch.find? (fun e => e.1 == who && e.2.1 == off) with
    | some e => (e.2.2, { s with latch := delFirst (fun x => decide (x = e)) s.latch })
    | none => (s.readReg off, s)

/-- PAIR_LO_READ (R9): a read of a NAME_LO. -/
def execPairLoRead (who off : Nat) (s : State) : Host.Outcome State Fault Refusal :=
  run (.pairLoRead who off) s (fun s => if s.regAlive off then (s.readBy who off).2 else s)

/-! ## Register packets at their units (R462 to R465) -/

/-- A register packet arrives where it is served: a read is performed and answered, and so is a write to an offset that no chapter
defines (R461). A region without power answers nothing over its link: TARGET_FENCED (R465). Other writes wait for the command that
carries them out. Log entry 26, DESIGN CHOICE; log entry 28, DEDUCED. -/
def State.serveReg (s : State) (pl : Place) (p : Pkt) : State :=
  let off := p.arg 1
  let dead := match blockOf off with
    | some (.rg, i) => !(s.powered i)
    | _ => false
  match pl with
  | .router _ _ => s
  | .unit _ =>
    if p.kind ≠ opREG_RD ∧ p.kind ≠ opREG_WR then s
    else if dead then (s.takeNet pl p).answer p (regLoc off) opREG_ANS [stTARGET_FENCED, 0]
    else if p.kind = opREG_WR then
      (if (locate off).isNone then (s.takeNet pl p).answer p (regLoc off) opREG_ANS [stOK, 0] else s)
    else
      let r := (s.takeNet pl p).readBy (requester p) off
      r.2.answer p (regLoc off) opREG_ANS [stOK, r.1]

/-- A packet that leaves a router's output for a unit: the unit discards one with a reserved opcode (R106, R107).
Log entry 51, DESIGN CHOICE. -/
def State.unitTakes (s : State) (pl : Place) (p : Pkt) : State :=
  match pl with
  | .router _ _ => s
  | .unit l =>
    if knownOp p.kind then s.serveReg pl p
    else (s.takeNet pl p).drop l l.slot (if l.port = 0 then 4 else if l.port = 5 then 5 else l.port - 1) 3 p

/-- ROUTER_OUTPUT_ARBITRATE (R97). Packets whose output has gone out of service take escape or are dropped first (R109).
Log entry 53, DESIGN CHOICE. -/
def execRouterOutputArbitrate (n out net : Nat) (s : State) : Host.Outcome State Fault Refusal :=
  run (.routerOutputArbitrate n out net) s (fun s =>
    if s.routerUp n = false ∨ s.frozenAt n = true then s
    else if (out < 4 ∧ (neighbour n out).isSome = true ∧ s.portOut n out = true) then
      ((s.rt n).held.filter (fun h => h.out == out && netCode h.pkt.net == net)).foldl (fun s h => s.reroute n h) s
    else
      match s.robin n out net (s.competing n out net) with
      | some h => (s.startOut n net h).unitTakes (outPlace n h.out) h.pkt
      | none => s)

/-! ## Requests of the bridge (R8, R354, R355, R450) -/

/-- A request may reach its offset: privileged anywhere in a block, and a tenancy in its own page (R354, R355, R461). -/
def regAllowed (priv : Bool) (ten off : Nat) : Bool :=
  (blockOf off).isSome && (priv || decide (blockOf off = some (.tn, ten)))

/-- A register request that the host port refuses is answered at once, counted under ACCESS and logged (R8, R355, R425).
Log entry 29, DESIGN CHOICE. -/
def State.regDeny (s : State) (hp : Nat) (r : RegReq) : State :=
  let s := (s.unitEvent .hp hp 0 (bits r.off 13 2)).log .hp hp 0x62 15 0 r.off
  s.regReply hp r stACCESS_DENIED 0

/-- A register request of the bridge (R8, R354, R463): one aligned word in its view is forwarded, after those before it at its
unit. Log entry 29, DESIGN CHOICE. -/
def State.regRequest (s : State) (hp : Nat) (r : RegReq) (len : Nat) : State :=
  let s := s.injEvent .hp hp 0 [6]
  if len = 4 ∧ r.off % 4 = 0 ∧ regAllowed r.priv r.ten r.off = true then
    (s.modHp hp (fun h => { h with regs := h.regs ++ [r] })).regPump hp
  else s.regDeny hp r

/-- REG_RD (R450): a register read of the bridge. -/
def execRegRd (hp tag : Nat) (priv : Bool) (ten off len : Nat) (s : State) : Host.Outcome State Fault Refusal :=
  run (.regRd hp tag priv ten off len) s (fun s =>
    (s.addPair HP_RX_BYTES_LO HP_RX_BYTES_HI 128 hp).regRequest hp ⟨tag, priv, if priv then 0 else ten, off, false, 0, 0, false⟩ len)

/-- REG_WR (R450): a register write of the bridge. -/
def execRegWr (hp tag : Nat) (priv : Bool) (ten off : Nat) (data : List Nat) (s : State) : Host.Outcome State Fault Refusal :=
  run (.regWr hp tag priv ten off data) s (fun s =>
    (s.addPair HP_RX_BYTES_LO HP_RX_BYTES_HI (128 * (1 + cdiv data.length 128)) hp).regRequest hp
      ⟨tag, priv, if priv then 0 else ten, off, true, ofBytes data, 0, false⟩ data.length)

/-- REG_ANS (R462): the bridge's request is completed with the answer. -/
def execRegAns (hp : Nat) (p : Pkt) (s : State) : Host.Outcome State Fault Refusal :=
  run (.regAns hp p) s (fun s =>
    if p.kind ≠ opREG_ANS then s
    else s.atUnit (hpLoc hp) p (fun s => s.hpRegDone hp p.txn (p.arg 0) (p.arg 1)))

/-- REG_TIMEOUT (R463): no answer within 100 µs. -/
def execRegTimeout (hp txn : Nat) (s : State) : Host.Outcome State Fault Refusal :=
  run (.regTimeout hp txn) s (fun s => s.hpRegDone hp txn stTIMEOUT 0)

end Sys2Proof.Machine
end

