-- ==== Sys2Proof/Machine/Dispatch.lean ====
section
/-!
DEFINITION. What each command does: one arm for each constructor of `Instr`, each a call of its meaning.
-/

namespace Sys2Proof.Machine

def exec (i : Instr) (s : State) : Host.Outcome State Fault Refusal :=
  match i with
  | .chRun v => Sys2Proof.Machine.execChRun v s
  | .chLoad v => Sys2Proof.Machine.execChLoad v s
  | .holdForce v => Sys2Proof.Machine.execHoldForce v s
  | .localBeatStart n => Sys2Proof.Machine.execLocalBeatStart n s
  | .slotExecute n ue => Sys2Proof.Machine.execSlotExecute n ue s
  | .stallResume n cycles => Sys2Proof.Machine.execStallResume n cycles s
  | .stallTimeout n => Sys2Proof.Machine.execStallTimeout n s
  | .clockAbsent n => Sys2Proof.Machine.execClockAbsent n s
  | .clockAbsentClear n => Sys2Proof.Machine.execClockAbsentClear n s
  | .clockLost n => Sys2Proof.Machine.execClockLost n s
  | .dipDemand n sag => Sys2Proof.Machine.execDipDemand n sag s
  | .stretchRelease n => Sys2Proof.Machine.execStretchRelease n s
  | .registerWrite off v => Sys2Proof.Machine.execRegisterWrite off v s
  | .pairLoRead who off => Sys2Proof.Machine.execPairLoRead who off s
  | .regRd hp tag priv ten off len => Sys2Proof.Machine.execRegRd hp tag priv ten off len s
  | .regWr hp tag priv ten off data => Sys2Proof.Machine.execRegWr hp tag priv ten off data s
  | .regAns hp p => Sys2Proof.Machine.execRegAns hp p s
  | .regTimeout hp txn => Sys2Proof.Machine.execRegTimeout hp txn s
  | .start n p => Sys2Proof.Machine.execStart n p s
  | .segmentLoaded n => Sys2Proof.Machine.execSegmentLoaded n s
  | .loadWaitEnd n => Sys2Proof.Machine.execLoadWaitEnd n s
  | .segDone n p => Sys2Proof.Machine.execSegDone n p s
  | .segDoneSend n => Sys2Proof.Machine.execSegDoneSend n s
  | .segAbort n p => Sys2Proof.Machine.execSegAbort n p s
  | .abort n p => Sys2Proof.Machine.execAbort n p s
  | .ejectWrite n => Sys2Proof.Machine.execEjectWrite n s
  | .landingFlitArrive n flit => Sys2Proof.Machine.execLandingFlitArrive n flit s
  | .olLandCfgWrite n v => Sys2Proof.Machine.execOlLandCfgWrite n v s
  | .routeHeader n port p chk => Sys2Proof.Machine.execRouteHeader n port p chk s
  | .escWaitExpire n p => Sys2Proof.Machine.execEscWaitExpire n p s
  | .outputAged n p => Sys2Proof.Machine.execOutputAged n p s
  | .routerOutputArbitrate n out net => Sys2Proof.Machine.execRouterOutputArbitrate n out net s
  | .drop at_ p => Sys2Proof.Machine.execDrop at_ p s
  | .purge0 n v => Sys2Proof.Machine.execPurge0 n v s
  | .purge1 n v => Sys2Proof.Machine.execPurge1 n v s
  | .openPacketStart n => Sys2Proof.Machine.execOpenPacketStart n s
  | .wheelUnpark n f => Sys2Proof.Machine.execWheelUnpark n f s
  | .flowRateWrite n f v => Sys2Proof.Machine.execFlowRateWrite n f v s
  | .flowCfgWrite n f v => Sys2Proof.Machine.execFlowCfgWrite n f v s
  | .openTimeout n txn => Sys2Proof.Machine.execOpenTimeout n txn s
  | .read at_ p ue => Sys2Proof.Machine.execRead at_ p ue s
  | .readData n p ue => Sys2Proof.Machine.execReadData n p ue s
  | .readErr n p => Sys2Proof.Machine.execReadErr n p s
  | .creditReq n p => Sys2Proof.Machine.execCreditReq n p s
  | .creditAns n port p => Sys2Proof.Machine.execCreditAns n port p s
  | .creditReturn n p => Sys2Proof.Machine.execCreditReturn n p s
  | .creditCancel n p => Sys2Proof.Machine.execCreditCancel n p s
  | .creditWaitExpire n txn us => Sys2Proof.Machine.execCreditWaitExpire n txn us s
  | .reqWinOpen n p => Sys2Proof.Machine.execReqWinOpen n p s
  | .reqWinReplenish n p => Sys2Proof.Machine.execReqWinReplenish n p s
  | .snpWinClose n p => Sys2Proof.Machine.execSnpWinClose n p s
  | .closeTakesEffect n h => Sys2Proof.Machine.execCloseTakesEffect n h s
  | .drainLimitExpire n h => Sys2Proof.Machine.execDrainLimitExpire n h s
  | .winAns n p => Sys2Proof.Machine.execWinAns n p s
  | .creditRevoke n p => Sys2Proof.Machine.execCreditRevoke n p s
  | .write at_ p ue => Sys2Proof.Machine.execWrite at_ p ue s
  | .writeMc n p ue => Sys2Proof.Machine.execWriteMc n p ue s
  | .writeAck n port p => Sys2Proof.Machine.execWriteAck n port p s
  | .reqAtomic at_ p ue => Sys2Proof.Machine.execReqAtomic at_ p ue s
  | .atomicAns n p => Sys2Proof.Machine.execAtomicAns n p s
  | .rollcall n p => Sys2Proof.Machine.execRollcall n p s
  | .rollAns n p => Sys2Proof.Machine.execRollAns n p s
  | .rollTimeExpire n txn => Sys2Proof.Machine.execRollTimeExpire n txn s
  | .combiningSlotFree n => Sys2Proof.Machine.execCombiningSlotFree n s
  | .apStore n store ofs len data => Sys2Proof.Machine.execApStore n store ofs len data s
  | .apWrite n p => Sys2Proof.Machine.execApWrite n p s
  | .apResend n txn => Sys2Proof.Machine.execApResend n txn s
  | .redData n p ue => Sys2Proof.Machine.execRedData n p ue s
  | .redAck n p => Sys2Proof.Machine.execRedAck n p s
  | .redBusy n p => Sys2Proof.Machine.execRedBusy n p s
  | .redResend n p => Sys2Proof.Machine.execRedResend n p s
  | .redResult n p ue => Sys2Proof.Machine.execRedResult n p ue s
  | .redFail n p => Sys2Proof.Machine.execRedFail n p s
  | .redAbort n p => Sys2Proof.Machine.execRedAbort n p s
  | .redLimitExpire n rid => Sys2Proof.Machine.execRedLimitExpire n rid s
  | .redIdHoldExpire n rid => Sys2Proof.Machine.execRedIdHoldExpire n rid s
  | .tnBell hp t v => Sys2Proof.Machine.execTnBell hp t v s
  | .fbBell hp v => Sys2Proof.Machine.execFbBell hp v s
  | .bell n p => Sys2Proof.Machine.execBell n p s
  | .doorbellRecordRead n p => Sys2Proof.Machine.execDoorbellRecordRead n p s
  | .descriptorFetch n o p => Sys2Proof.Machine.execDescriptorFetch n o p s
  | .cqRecheck n o => Sys2Proof.Machine.execCqRecheck n o s
  | .completionWrite n o host => Sys2Proof.Machine.execCompletionWrite n o host s
  | .ringCfgWrite r v => Sys2Proof.Machine.execRingCfgWrite r v s
  | .tqBell n q v => Sys2Proof.Machine.execTqBell n q v s
  | .tqCfgWrite n q v => Sys2Proof.Machine.execTqCfgWrite n q v s
  | .descriptorStart n id => Sys2Proof.Machine.execDescriptorStart n id s
  | .notBeforeReached n id => Sys2Proof.Machine.execNotBeforeReached n id s
  | .nop n id => Sys2Proof.Machine.execNop n id s
  | .copy n id => Sys2Proof.Machine.execCopy n id s
  | .mcastWrite n id => Sys2Proof.Machine.execMcastWrite n id s
  | .atomic n id => Sys2Proof.Machine.execAtomic n id s
  | .winOpen n id => Sys2Proof.Machine.execWinOpen n id s
  | .winClose n id => Sys2Proof.Machine.execWinClose n id s
  | .winReplenish n id => Sys2Proof.Machine.execWinReplenish n id s
  | .chartRun n id => Sys2Proof.Machine.execChartRun n id s
  | .chartPause n id => Sys2Proof.Machine.execChartPause n id s
  | .pause n p => Sys2Proof.Machine.execPause n p s
  | .reduce n id => Sys2Proof.Machine.execReduce n id s
  | .airExtract n id => Sys2Proof.Machine.execAirExtract n id s
  | .airConvert n id => Sys2Proof.Machine.execAirConvert n id s
  | .airFinish n id => Sys2Proof.Machine.execAirFinish n id s
  | .streamReady n id => Sys2Proof.Machine.execStreamReady n id s
  | .wait n id => Sys2Proof.Machine.execWait n id s
  | .waitTimeout n id => Sys2Proof.Machine.execWaitTimeout n id s
  | .hash n id => Sys2Proof.Machine.execHash n id s
  | .hashTimeout txn => Sys2Proof.Machine.execHashTimeout txn s
  | .sigRead hp p => Sys2Proof.Machine.execSigRead hp p s
  | .sigWritten hp tag addr => Sys2Proof.Machine.execSigWritten hp tag addr s
  | .sigInv n p => Sys2Proof.Machine.execSigInv n p s
  | .sigInvAck hp p => Sys2Proof.Machine.execSigInvAck hp p s
  | .snoopTimeout hp line ni => Sys2Proof.Machine.execSnoopTimeout hp line ni s
  | .sigPageWrite t v => Sys2Proof.Machine.execSigPageWrite t v s
  | .consortArm v => Sys2Proof.Machine.execConsortArm v s
  | .consort chart seg region final beat crc flits => Sys2Proof.Machine.execConsort chart seg region final beat crc flits s
  | .consortFrameLost chart seg region beat => Sys2Proof.Machine.execConsortFrameLost chart seg region beat s
  | .replayRecordStart v => Sys2Proof.Machine.execReplayRecordStart v s
  | .replayStart v => Sys2Proof.Machine.execReplayStart v s
  | .replayStop v => Sys2Proof.Machine.execReplayStop v s
  | .replayInject words => Sys2Proof.Machine.execReplayInject words s
  | .errMsg p idle => Sys2Proof.Machine.execErrMsg p idle s
  | .attn p idle => Sys2Proof.Machine.execAttn p idle s
  | .clearHist k unit v => Sys2Proof.Machine.execClearHist k unit v s
  | .leaveSafe k unit v => Sys2Proof.Machine.execLeaveSafe k unit v s
  | .clearWindows k unit v => Sys2Proof.Machine.execClearWindows k unit v s
  | .errInjectWrite k unit v => Sys2Proof.Machine.execErrInjectWrite k unit v s
  | .fence n p => Sys2Proof.Machine.execFence n p s
  | .fenceWire n port => Sys2Proof.Machine.execFenceWire n port s
  | .repair patch => Sys2Proof.Machine.execRepair patch s
  | .publish v => Sys2Proof.Machine.execPublish v s
  | .repairHoldExpire n chart => Sys2Proof.Machine.execRepairHoldExpire n chart s
  | .soundingFlit n port seed err => Sys2Proof.Machine.execSoundingFlit n port seed err s
  | .routerSelftest n step bad => Sys2Proof.Machine.execRouterSelftest n step bad s
  | .kick v => Sys2Proof.Machine.execKick v s
  | .frameReceive n pair odd verdict => Sys2Proof.Machine.execFrameReceive n pair odd verdict s
  | .linkFlitTransmit n => Sys2Proof.Machine.execLinkFlitTransmit n s
  | .small n cells => Sys2Proof.Machine.execSmall n cells s
  | .openFlit n p unit => Sys2Proof.Machine.execOpenFlit n p unit s
  | .ack n pair => Sys2Proof.Machine.execAck n pair s
  | .nak n pair => Sys2Proof.Machine.execNak n pair s
  | .credit n v => Sys2Proof.Machine.execCredit n v s
  | .landMark n g => Sys2Proof.Machine.execLandMark n g s
  | .stream n j => Sys2Proof.Machine.execStream n j s
  | .ident n v => Sys2Proof.Machine.execIdent n v s
  | .identSend n => Sys2Proof.Machine.execIdentSend n s
  | .sync n c ofs => Sys2Proof.Machine.execSync n c ofs s
  | .syncSend kids => Sys2Proof.Machine.execSyncSend kids s
  | .linkLoss n j => Sys2Proof.Machine.execLinkLoss n j s
  | .resume n j last => Sys2Proof.Machine.execResume n j last s
  | .train n mask => Sys2Proof.Machine.execTrain n mask s
  | .linkEgressPacket n p => Sys2Proof.Machine.execLinkEgressPacket n p s
  | .linkIngressRequest n => Sys2Proof.Machine.execLinkIngressRequest n s
  | .linkIngressAnswer n => Sys2Proof.Machine.execLinkIngressAnswer n s
  | .xlatIdleExpire n ltxn => Sys2Proof.Machine.execXlatIdleExpire n ltxn s
  | .linkEnable n v => Sys2Proof.Machine.execLinkEnable n v s
  | .retrain n v => Sys2Proof.Machine.execRetrain n v s
  | .holdDown n v => Sys2Proof.Machine.execHoldDown n v s
  | .pmaReady n mask => Sys2Proof.Machine.execPmaReady n mask s
  | .sigDetLoss n mask => Sys2Proof.Machine.execSigDetLoss n mask s
  | .alignDone n mask => Sys2Proof.Machine.execAlignDone n mask s
  | .widthChosen n => Sys2Proof.Machine.execWidthChosen n s
  | .lockDone n rtt far => Sys2Proof.Machine.execLockDone n rtt far s
  | .identDone n => Sys2Proof.Machine.execIdentDone n s
  | .trainLimitExpire n => Sys2Proof.Machine.execTrainLimitExpire n s
  | .discover v => Sys2Proof.Machine.execDiscover v s
  | .holdAll v => Sys2Proof.Machine.execHoldAll v s
  | .arbitrate n => Sys2Proof.Machine.execArbitrate n s
  | .wrDone n tag => Sys2Proof.Machine.execWrDone n tag s
  | .readReturn n tag ue => Sys2Proof.Machine.execReadReturn n tag ue s
  | .refreshHold n => Sys2Proof.Machine.execRefreshHold n s
  | .refreshHoldEnd n => Sys2Proof.Machine.execRefreshHoldEnd n s
  | .refreshStuck n => Sys2Proof.Machine.execRefreshStuck n s
  | .rearm n v => Sys2Proof.Machine.execRearm n v s
  | .go n v => Sys2Proof.Machine.execGo n v s
  | .debugTransaction n addr wr data => Sys2Proof.Machine.execDebugTransaction n addr wr data s
  | .bookingCfgWrite n b v => Sys2Proof.Machine.execBookingCfgWrite n b v s
  | .nearCfgWrite k v => Sys2Proof.Machine.execNearCfgWrite k v s
  | .mapCopyApply k => Sys2Proof.Machine.execMapCopyApply k s
  | .ctrlReady n up cap => Sys2Proof.Machine.execCtrlReady n up cap s
  | .grantCfgWrite k v => Sys2Proof.Machine.execGrantCfgWrite k v s
  | .grantCopyApply n => Sys2Proof.Machine.execGrantCopyApply n s
  | .handleWrite n h k v => Sys2Proof.Machine.execHandleWrite n h k v s
  | .pairWrite n k v => Sys2Proof.Machine.execPairWrite n k v s
  | .assign v => Sys2Proof.Machine.execAssign v s
  | .sliceEnd v => Sys2Proof.Machine.execSliceEnd v s
  | .kill v => Sys2Proof.Machine.execKill v s
  | .release v => Sys2Proof.Machine.execRelease v s
  | .scrub v => Sys2Proof.Machine.execScrub v s
  | .slice n p => Sys2Proof.Machine.execSlice n p s
  | .sliceAns p => Sys2Proof.Machine.execSliceAns p s
  | .scrubDone n fail => Sys2Proof.Machine.execScrubDone n fail s
  | .groupDefine v bad => Sys2Proof.Machine.execGroupDefine v bad s
  | .groupUndefine v bad => Sys2Proof.Machine.execGroupUndefine v bad s
  | .ridDefine v bad => Sys2Proof.Machine.execRidDefine v bad s
  | .ridUndefine v bad => Sys2Proof.Machine.execRidUndefine v bad s
  | .stageImage v bad => Sys2Proof.Machine.execStageImage v bad s
  | .logCopy v bad => Sys2Proof.Machine.execLogCopy v bad s
  | .recvChunk v bad => Sys2Proof.Machine.execRecvChunk v bad s
  | .recvEnd v bad => Sys2Proof.Machine.execRecvEnd v bad s
  | .bnLock v => Sys2Proof.Machine.execBnLock v s
  | .sensorRefresh n temp sag bad => Sys2Proof.Machine.execSensorRefresh n temp sag bad s
  | .govEnable v => Sys2Proof.Machine.execGovEnable v s
  | .pmbusPoll bad vin iin pin st => Sys2Proof.Machine.execPmbusPoll bad vin iin pin st s
  | .logWrite bad => Sys2Proof.Machine.execLogWrite bad s
  | .coldReset chip sel unstable anchor flash => Sys2Proof.Machine.execColdReset chip sel unstable anchor flash s
  | .regionReset n => Sys2Proof.Machine.execRegionReset n s
  | .islandReset n => Sys2Proof.Machine.execIslandReset n s
  | .linkReset n => Sys2Proof.Machine.execLinkReset n s
  | .bnReset flash => Sys2Proof.Machine.execBnReset flash s
  | .powerWave bad f1 f2 f3 eng => Sys2Proof.Machine.execPowerWave bad f1 f2 f3 eng s
  | .coreBistDone n sig => Sys2Proof.Machine.execCoreBistDone n sig s
  | .coreBistTimeout n => Sys2Proof.Machine.execCoreBistTimeout n s
  | .fwloadEnable n v => Sys2Proof.Machine.execFwloadEnable n v s
  | .fwChunk n => Sys2Proof.Machine.execFwChunk n s
  | .imageDigestDone n => Sys2Proof.Machine.execImageDigestDone n s
  | .fwRelease n v => Sys2Proof.Machine.execFwRelease n v s
  | .unitClockLost d => Sys2Proof.Machine.execUnitClockLost d s
  | .coreFatal n code => Sys2Proof.Machine.execCoreFatal n code s
  | .spErr n ue addr => Sys2Proof.Machine.execSpErr n ue addr s
  | .ctrlFatalIn n up => Sys2Proof.Machine.execCtrlFatalIn n up s
  | .hpFatalIn hp up => Sys2Proof.Machine.execHpFatalIn hp up s
  | .coreRequest n wr addr data be => Sys2Proof.Machine.execCoreRequest n wr addr data be s
  | .memRd hp => Sys2Proof.Machine.execMemRd hp s
  | .memWr hp => Sys2Proof.Machine.execMemWr hp s
  | .cpl hp tag st data => Sys2Proof.Machine.execCpl hp tag st data s
  | .hostTagTimeout hp tag => Sys2Proof.Machine.execHostTagTimeout hp tag s
  | .txCrd hp cls => Sys2Proof.Machine.execTxCrd hp cls s
  | .cntSnapGo v => Sys2Proof.Machine.execCntSnapGo v s
  | .snapshotCopy k unit => Sys2Proof.Machine.execSnapshotCopy k unit s
  | .traceFlush n => Sys2Proof.Machine.execTraceFlush n s
  | .tracePacketTimeout n txn => Sys2Proof.Machine.execTracePacketTimeout n txn s
  | .traceAccept p => Sys2Proof.Machine.execTraceAccept p s
  | .freeze k unit v => Sys2Proof.Machine.execFreeze k unit v s
  | .plotGo v => Sys2Proof.Machine.execPlotGo v s
  | .stop v => Sys2Proof.Machine.execStop v s
  | .anchorRearm v => Sys2Proof.Machine.execAnchorRearm v s
  | .scanGo v => Sys2Proof.Machine.execScanGo v s
  | .thrRearm v => Sys2Proof.Machine.execThrRearm v s
  | .memdbg d => Sys2Proof.Machine.execMemdbg d s
  | .alignmentMarker n lane kind => Sys2Proof.Machine.execAlignmentMarker n lane kind s
  | .armingFrame digest version mode => Sys2Proof.Machine.execArmingFrame digest version mode s
  | .stackTemperature n temp lim => Sys2Proof.Machine.execStackTemperature n temp lim s
  | .imageSlotWritten bad => Sys2Proof.Machine.execImageSlotWritten bad s
  | .niReachWrite n k v => Sys2Proof.Machine.execNiReachWrite n k v s
  | .beatMark => Sys2Proof.Machine.execBeatMark s
  | .refLost => Sys2Proof.Machine.execRefLost s
  | .tickToggle => Sys2Proof.Machine.execTickToggle s
  | .kickMissed => Sys2Proof.Machine.execKickMissed s
  | .syncLost => Sys2Proof.Machine.execSyncLost s
  | .discoveryJudge => Sys2Proof.Machine.execDiscoveryJudge s
  | .sliceTimeout => Sys2Proof.Machine.execSliceTimeout s
  | .mboxCmdDropped => Sys2Proof.Machine.execMboxCmdDropped s
  | .powerEstimate => Sys2Proof.Machine.execPowerEstimate s
  | .governorLoop => Sys2Proof.Machine.execGovernorLoop s
  | .warmReset => Sys2Proof.Machine.execWarmReset s
  | .bcClockLost => Sys2Proof.Machine.execBcClockLost s
  | .irq => Sys2Proof.Machine.execIrq s
  | .snapshotTimeout => Sys2Proof.Machine.execSnapshotTimeout s
  | .traceSend => Sys2Proof.Machine.execTraceSend s
  | .captureStall => Sys2Proof.Machine.execCaptureStall s
  | .anchorN => Sys2Proof.Machine.execAnchorN s
  | .anchorNStuck => Sys2Proof.Machine.execAnchorNStuck s
  | .anchorPartialFreeze => Sys2Proof.Machine.execAnchorPartialFreeze s
  | .throttleAssert => Sys2Proof.Machine.execThrottleAssert s
  | .thrMinExpire => Sys2Proof.Machine.execThrMinExpire s
  | .thrStuck => Sys2Proof.Machine.execThrStuck s
  | .idcode => Sys2Proof.Machine.execIdcode s
  | .scan => Sys2Proof.Machine.execScan s
  | .bypass => Sys2Proof.Machine.execBypass s
  | .trst => Sys2Proof.Machine.execTrst s

end Sys2Proof.Machine
end

