-- ==== Sys2Proof/Safety.lean ====
section
/-!
DEFINITION. What statements say of runs: the frame of a step, when a command completes, states in range and canonical memories.
-/

namespace Sys2Proof.Machine

/-- What `run` makes of the state t that a meaning computes from s: C and H, the fuses and the queue are those of s, and the counter
of samplings has advanced. -/
def State.after (s t : State) : State :=
  { t with time := s.time, fuse := s.fuse, pending := s.pending, fresh := s.fresh + 1 }

/-- As `State.after`, for the commands that may change C and H. -/
def State.afterTime (s t : State) : State := { t with fuse := s.fuse, pending := s.pending, fresh := s.fresh + 1 }

/-- A command completes at s, and its next state is t in the frame of a step. -/
def Gives (c : Sys2Proof.Instr) (s t : State) : Prop := exec c s = .next (s.after t)

/-- As `Gives`, for a command that may change C and H. -/
def GivesTime (c : Sys2Proof.Instr) (s t : State) : Prop := exec c s = .next (s.afterTime t)

/-- A command completes at a state in a next state that has a property. -/
def Does (c : Sys2Proof.Instr) (s : State) (p : State → Prop) : Prop := ∃ t, exec c s = .next t ∧ p t

/-- Registers outside a set of offsets hold what they held. -/
def State.RegsKept (s t : State) (touched : List Nat) : Prop :=
  ∀ off d, off ∉ touched → t.regs.get off d = s.regs.get off d

/-- Nothing but registers, and the counter of samplings, differs. -/
def State.OnlyRegs (s t : State) : Prop := { t with regs := s.regs, fresh := s.fresh } = s

/-- A descriptor of an opcode has started at an NI that is in service, and has not gone on yet. -/
def State.Started (s : State) (n id op : Nat) (d : Desc) : Prop :=
  s.niUp n = true ∧ s.frozenAt n = false ∧ s.desc? id = some d ∧ d.ni = n ∧ d.phase = 1 ∧ d.opcode = op

/-- C and H are numbers of 60 bits (R58). -/
def State.TimeInRange (s : State) : Prop := s.time.c < beatMod ∧ s.time.h < beatMod

/-- The memories have their canonical form. -/
def State.MemCanonical (s : State) : Prop := s.spad.wf = true ∧ s.hbm.wf = true ∧ s.flash.wf = true

/-- Every step goes on: no command of the queue is malformed. -/
def State.QueueWf (s : State) : Bool := s.pending.all Instr.wf

end Sys2Proof.Machine
end

