-- ==== Sys2Proof/Certificates/Slice0/Obligations.lean ====
section
/-!
DEFINITION. The statements for the provers, each with the rule of the spec that it formalises.
-/

open Sys2Proof Sys2Proof.Machine

/-! ## Chronometer, escapements and clock stretch (02_chronometer_and_clocking.md) -/

/-- R35, R36, R46, R430: a mark adds one to C, and one to H when the hold sampled at the edge before, or a stop, holds it; a sync step that
waits makes that two or none (R329; that H moves by the same at a held mark is the model's reading, assumption 23); every region with a
running clock takes the new S, and the first one after a LOAD as its local count; an edge while RUN is 0 only samples the hold. Without a
stop or a sync step nothing else changes, but that timestamps start again when C wraps. Completion of its own effect, from conditions on the
state and the operands alone: beatMark. -/
def Obligations.MarkCountsBeatsAndHeldMarks : Prop :=
  ∀ s : State,
    (s.fld CH_CTRL_RUN = 1 → s.chr.syncStep = none → Does .beatMark s fun t =>
      t.time.c = (s.time.c + 1) % 2 ^ 60 ∧
      t.time.h = (s.time.h + if s.chr.holdSample = true ∨ (s.chr.stopSeen ≠ 0 ∧ s.chr.stopBeat + 2 ≤ s.S) then 1 else 0) % 2 ^ 60) ∧
    (∀ gain, s.fld CH_CTRL_RUN = 1 → s.chr.syncStep = some gain → Does .beatMark s fun t =>
      let held := s.chr.holdSample = true ∨ (s.chr.stopSeen ≠ 0 ∧ s.chr.stopBeat + 2 ≤ s.S)
      t.time.c = (s.time.c + if gain then 2 else 0) % 2 ^ 60 ∧
      t.time.h = (s.time.h + if held then (if gain then 2 else 0) else 0) % 2 ^ 60) ∧
    (s.fld CH_CTRL_RUN = 1 → s.chr.syncStep = none → s.chr.stopSeen = 0 → s.chr.stopWire = false → Does .beatMark s fun t =>
      (∀ n < 36,
        let runs := (s.rg n).absent = false ∧ (s.rg n).f3 = false ∧ s.powered n = true
        ((s.rg n).reload = false ∨ ¬ runs → (t.rg n).L = (s.rg n).L ∧ (t.rg n).slot = (s.rg n).slot) ∧
        ((s.rg n).reload = true → runs → (t.rg n).L = t.S ∧ (t.rg n).lag = 0 ∧ (t.rg n).slot = 16) ∧
        (runs → (t.rg n).s = t.S)) ∧
      (s.time.c + 1 < 2 ^ 60 → t.stamp = s.stamp) ∧
      { t with time := s.time, chr := s.chr, rgn := s.rgn, stamp := s.stamp, fresh := s.fresh } = s) ∧
    Does .beatMark s (fun t => t.chr.holdSample = s.holdLine) ∧
    (s.fld CH_CTRL_RUN ≠ 1 → Gives .beatMark s { s with chr := { s.chr with holdSample := s.holdLine, refGone := false } })

/-- R27, R45: a region requests the anchor hold when its lag exceeds 3 beats or its clock is absent, and keeps requesting until its lag is 0
and its clock present; the request counts while the region is LOCKED and not at F3, and HOLD_FORCE adds one; the hold is the OR of all. -/
def Obligations.RegionsRequestTheAnchorHold : Prop :=
  ∀ (s : State) (r : Region),
    (3 < r.lag ∨ r.absent = true → r.updHold.holdReq = true) ∧
    (r.holdReq = true → 0 < r.lag ∨ r.absent = true → r.updHold.holdReq = true) ∧
    (r.lag = 0 → r.absent = false → r.updHold.holdReq = false) ∧
    (r.lag ≤ 3 → r.absent = false → r.holdReq = false → r.updHold.holdReq = false) ∧
    ({ r.updHold with holdReq := r.holdReq } = r) ∧
    (s.holdLine = true ↔ s.fld CH_CTRL_HOLD_FORCE = 1 ∨
      ∃ n, n < 36 ∧ (s.rg n).holdReq = true ∧ s.fld RG_ESC_CTRL_LOCKED n = 1 ∧ (s.rg n).f3 = false)

/-- R38, R470: a write of CH_CTRL sets RUN and HOLD_FORCE; LOAD is judged by the RUN that the write leaves: a write of both is discarded and
sets LOAD_IGNORED; with RUN 0 LOAD loads C and clears H, and L of a region whose clock runs becomes the new S with lag 0 (that these regions
accept it in the same step, and that a slot's stall ends with its beat, are the model's choices, assumption 12); another region takes it
when it next can. RG_STALL_CNT of a region that was stalled counts on; no other register and no memory changes. Completion of their own
effect, from conditions on the state and the operands alone: chLoad, holdForce, chRun. -/
def Obligations.ChCtrlWriteJudgesLoadByTheRunItLeaves : Prop :=
  ∀ (s : State) (v : Nat) (c : Instr), v < 2 ^ 32 → c ∈ [Instr.chRun v, .chLoad v, .holdForce v] →
    Does c s fun t =>
      (v / 2 % 2 = 0 ∨ v % 2 = 0 → t.fld CH_CTRL_RUN = v % 2 ∧ t.fld CH_CTRL_HOLD_FORCE = v / 4 % 2) ∧
      (v / 2 % 2 = 0 → t.time = s.time ∧ t.rgn = s.rgn) ∧
      (v / 2 % 2 = 1 → v % 2 = 1 → t.time = s.time ∧ t.rgn = s.rgn ∧ t.fld CH_STATUS_LOAD_IGNORED = 1 ∧
        t.rd CH_CTRL = s.rd CH_CTRL) ∧
      (v / 2 % 2 = 1 → v % 2 = 0 → t.time = ⟨s.pair CH_LOAD_LO CH_LOAD_HI % 2 ^ 60, 0⟩ ∧
        ∀ n < 36,
          let runs := (s.rg n).absent = false ∧ (s.rg n).f3 = false ∧ s.powered n = true
          (runs → (t.rg n).L = t.S ∧ (t.rg n).lag = 0 ∧ (t.rg n).stalled = false ∧ (t.rg n).reload = false) ∧
          (¬ runs → (t.rg n).L = (s.rg n).L ∧ (t.rg n).reload = true)) ∧
      s.RegsKept t ([CH_CTRL.addr 0 0, CH_STATUS.addr 0 0] ++
        if v / 2 % 2 = 1 ∧ v % 2 = 0 then ((List.range 36).filter fun n => (s.rg n).stalled).map fun n => RG_STALL_CNT.addr n 0 else []) ∧
      t.spad = s.spad ∧ t.hbm = s.hbm ∧ t.flash = s.flash

/-- R45, R47, R48, R50: the clock monitor and the dip sensor of a region. R40, R42, R48, R61: when a region starts a beat, runs a slot,
stalls and goes on. A region that runs has its clock and power, is not at F3 and not frozen. Completion of their own effect, from conditions
on the state and the operands alone: localBeatStart, slotExecute, stallResume, stallTimeout, clockAbsent, clockAbsentClear, dipDemand,
stretchRelease, refLost, clockLost. -/
def Obligations.RegionsKeepTimeAndRun : Prop :=
  (∀ (s : State) (n sag : Nat), n < 36 → sag < 256 →
    Gives (.clockAbsent n) s (s.modRg n fun r => { r with absent := true, holdReq := true }) ∧
    ((s.rg n).absent = false → Gives (.clockAbsentClear n) s s) ∧
    ((s.rg n).absent = true → (s.rg n).f3 = false → s.powered n = true →
      ((s.rg n).reload = false → Gives (.clockAbsentClear n) s ((s.modRg n fun r => { r with
        absent := false
        resync := true
        s := s.S
        holdReq := if 3 < beatSub s.S r.L then true else if beatSub s.S r.L = 0 then false else r.holdReq }).unitEvent .rg n 0 0)) ∧
      ((s.rg n).reload = true → Gives (.clockAbsentClear n) s ((s.modRg n fun r => { r with
        absent := false
        resync := true
        s := s.S
        L := s.S
        slot := 16
        stalled := false
        reload := false
        holdReq := false }).unitEvent .rg n 0 0))) ∧
    ((s.rg n).absent = true → Gives (.clockLost n) s (s.unitEvent .rg n 1 0)) ∧
    (s.fld RG_SENSOR_SAG_BAD n = 0 → s.fld RG_DIP_THR_THR4 n ≠ 0 → s.fld RG_DIP_THR_THR4 n ≤ sag →
      Does (.dipDemand n sag) s fun t => (t.rg n).demand = 4 ∧ (t.rg n).held = max (s.rg n).held 4) ∧
    (s.fld RG_SENSOR_SAG_BAD n = 0 → sag < s.fld RG_DIP_THR_THR1 n → sag < s.fld RG_DIP_THR_THR2 n →
      sag < s.fld RG_DIP_THR_THR3 n → sag < s.fld RG_DIP_THR_THR4 n → Does (.dipDemand n sag) s fun t =>
        (t.rg n).demand = 0 ∧ (t.rg n).held = (s.rg n).held ∧ t.regs = s.regs) ∧
    Does (.dipDemand n sag) s (fun t =>
      t.fld RG_DIP_EVENTS_EVENTS n = (s.fld RG_DIP_EVENTS_EVENTS n + if (s.rg n).demand < s.dipDemand n sag then 1 else 0) % 2 ^ 32 ∧
      s.RegsKept t [RG_DIP_EVENTS.addr n 0] ∧ { t with regs := s.regs, rgn := s.rgn, fresh := s.fresh } = s) ∧
    Gives (.stretchRelease n) s (s.modRg n fun r => { r with held := min r.held r.demand })) ∧
  (∀ (s : State) (n cycles : Nat) (ue : List Nat), n < 36 → cycles < 2 ^ 32 → (∀ t ∈ ue, t < 18432) →
    (s.rg n).frozen = false → (s.rg n).f3 = false → (s.rg n).absent = false → s.powered n = true →
    (16 ≤ (s.rg n).slot → 0 < (s.rg n).lag → s.fld (xx_ERR_INJECT_ARM .rg) n = 0 →
      Gives (.localBeatStart n) s (((s.skipPulses n).beatStart n).modRg n Region.updHold)) ∧
    ((s.rg n).slot < 16 ∨ (s.rg n).lag = 0 → Gives (.localBeatStart n) s s) ∧
    (0 < (s.rg n).slot → (s.rg n).slot < 16 → (s.rg n).stalled = false →
      (∀ k < 64, s.stalls (regionSlot n k) (s.rg n).L (s.rg n).slot = false) →
      Gives (.slotExecute n ue) s
        ((((s.skipPulses n).runSlot n (s.rg n).L (s.rg n).slot ue).modRg n fun r => { r with slot := r.slot + 1 }).freezeCheck n)) ∧
    (0 < (s.rg n).slot → (s.rg n).slot < 16 → (s.rg n).stalled = false →
      (∃ k < 64, s.stalls (regionSlot n k) (s.rg n).L (s.rg n).slot = true) →
      Does (.slotExecute n ue) s fun t => (t.rg n).stalled = true) ∧
    ((s.rg n).slot = 16 ∨ (s.rg n).stalled = true → Gives (.slotExecute n ue) s s) ∧
    ((s.rg n).stalled = true → 0 < (s.rg n).slot → (∃ k < 64, s.stalls (regionSlot n k) (s.rg n).L (s.rg n).slot = true) →
      Gives (.stallResume n cycles) s s) ∧
    ((s.rg n).stalled = true → 0 < (s.rg n).slot → (∀ k < 64, s.stalls (regionSlot n k) (s.rg n).L (s.rg n).slot = false) →
      Does (.stallResume n cycles) s fun t => (t.rg n).stalled = false) ∧
    ((s.rg n).stalled = true → Gives (.stallTimeout n) s (s.unitEvent .rg n 2 0)) ∧
    Gives .refLost s (({ s with chr := { s.chr with refGone := true, prevC := s.time.c } }.setFld CH_STATUS_REF_LOST 1).stopJobs fun _ => true))

/-! ## Registers and the bridge's register requests (00_scope.md, 15_block_ports_and_signals.md, 16_address_map.md) -/

/-- R7, R10: REGISTER_WRITE changes each field of a register as its type says and leaves reserved bits zero; it writes no other register,
but that new dip thresholds judge the last reading at once (R52) and that a SOURCE left zero clears the first error (R274). The hypotheses:
the register has no command of its own, its unit answers, and no injected parity fault waits (R301). R8, R354, R355, R450, R462, R463:
register requests of the bridge. A request of any size but four bytes, misaligned, or outside its view is refused; one in its view waits its
turn and is sent as a register packet; its answer, or the end of its time, completes it. In the hypotheses no injected parity fault waits
(R301). Completion of their own effect, from conditions on the state and the operands alone: registerWrite, regRd, regWr, regAns,
regTimeout. -/
def Obligations.RegisterWritesAndBridgeRequests : Prop :=
  (∀ (s : State) (off v : Nat) (r : RegDef) (i k : Nat), off < 2 ^ 32 → v < 2 ^ 32 → locate off = some (r, i, k) →
    r.ownWrite = false → s.regAlive off = true → (∀ u, (s.eu u i).parityArmed = false) →
    Does (.registerWrite off v) s fun t =>
      (∀ f ∈ r.fields,
        let old := bits (s.rd r i k) f.hi f.lo
        let put := bits v f.hi f.lo
        let new := bits (t.rd r i k) f.hi f.lo
        (f.ty = .rw ∨ f.ty = .sh → new = put) ∧ (f.ty = .ro → new = old) ∧ (f.ty = .wo → new = 0) ∧
        (f.ty = .w1c → ∀ b, new.testBit b = (old.testBit b && !put.testBit b))) ∧
      (∀ b, (∀ f ∈ r.fields, b < f.lo ∨ f.hi < b) → (t.rd r i k).testBit b = false) ∧
      (r = RG_DIP_THR → (t.rg i).demand = t.dipDemand i (s.rg i).sag ∧ (t.rg i).held = max (s.rg i).held (t.rg i).demand) ∧
      (r ≠ RG_DIP_THR → t.rgn = s.rgn) ∧
      (∀ u, r.blk.kind = some u → r = xx_ERR_STATUS u → t.fld (xx_ERR_STATUS_SOURCE u) i = 0 → t.rd (xx_ERR_FIRST u) i = 0) ∧
      s.RegsKept t (off :: ((if r = RG_DIP_THR then [RG_DIP_EVENTS.addr i 0] else []) ++
        match r.blk.kind with
        | some u => if r = xx_ERR_STATUS u ∧ t.fld (xx_ERR_STATUS_SOURCE u) i = 0 then [(xx_ERR_FIRST u).addr i 0] else []
        | none => [])) ∧
      t.time = s.time ∧ t.spad = s.spad ∧ t.hbm = s.hbm ∧ t.err = s.err) ∧
  (∀ (s : State) (hp tag ten off len txn : Nat) (priv : Bool) (data : List Nat) (p : Pkt),
    hp < 2 → tag < 4096 → ten < 64 → off < 2 ^ 64 → 1 ≤ len → len ≤ 4096 → txn < 4096 → data.length = len → (∀ b ∈ data, b < 256) →
    okPkt p = true → s.fld (xx_ERR_INJECT_ARM .hp) hp = 0 →
    let t := if priv then 0 else ten
    (len ≠ 4 ∨ off % 4 ≠ 0 ∨ blockOf off = none ∨ (priv = false ∧ blockOf off ≠ some (.tn, ten)) →
      Gives (.regRd hp tag priv ten off len) s
        ((s.addPair HP_RX_BYTES_LO HP_RX_BYTES_HI 128 hp).regDeny hp ⟨tag, priv, t, off, false, 0, 0, false⟩) ∧
      Gives (.regWr hp tag priv ten off data) s
        ((s.addPair HP_RX_BYTES_LO HP_RX_BYTES_HI (128 * (1 + (len + 127) / 128)) hp).regDeny hp
          ⟨tag, priv, t, off, true, ofBytes data, 0, false⟩)) ∧
    (len = 4 → off % 4 = 0 → (blockOf off).isSome → priv = true ∨ blockOf off = some (.tn, ten) →
      Gives (.regRd hp tag priv ten off len) s
        (((s.addPair HP_RX_BYTES_LO HP_RX_BYTES_HI 128 hp).modHp hp fun h =>
          { h with regs := h.regs ++ [⟨tag, priv, t, off, false, 0, 0, false⟩] }).regPump hp) ∧
      Gives (.regWr hp tag priv ten off data) s
        (((s.addPair HP_RX_BYTES_LO HP_RX_BYTES_HI 256 hp).modHp hp fun h =>
          { h with regs := h.regs ++ [⟨tag, priv, t, off, true, ofBytes data, 0, false⟩] }).regPump hp)) ∧
    (p.kind = opREG_ANS →
      Gives (.regAns hp p) s ((s.takeNet (.unit (hpLoc hp)) p).hpRegDone hp p.txn (p.arg 0) (p.arg 1))) ∧
    Gives (.regTimeout hp txn) s (s.hpRegDone hp txn stTIMEOUT 0))

/-- R9: a read of NAME_LO latches NAME_HI for its requester; the requester's next read of NAME_HI returns the latched value and spends it,
whatever it reads of other registers and whatever NAME_HI has become; without an unspent latch NAME_HI reads its current value; a new read
of NAME_LO replaces the latch. Completion of its own effect, from conditions on the state and the operands alone: pairLoRead. -/
def Obligations.PairReadsLatchTheUpperHalf : Prop :=
  (∀ (s : State) (who off : Nat), who < 131 → off < 2 ^ 32 →
    (s.regAlive off = true → Gives (.pairLoRead who off) s (s.readBy who off).2) ∧ (s.regAlive off = false → Gives (.pairLoRead who off) s s)) ∧
  ∀ (s u : State) (who off : Nat) (r q : RegDef) (i k j m : Nat), who < 131 → off < 2 ^ 32 → s.regAlive off = true →
    locate off = some (r, i, k) → r.isLo = true → locate (off + 4) = some (q, j, m) → q.isLo = false →
    Does (.pairLoRead who off) s fun t =>
      t.regs = s.regs ∧ (s.readBy who off).1 = s.readReg off ∧
      (∀ w o, (w, o) ≠ (who, off + 4) → t.latch.find? (fun e => e.1 == w && e.2.1 == o) = s.latch.find? (fun e => e.1 == w && e.2.1 == o)) ∧
      (u.latch = t.latch → (u.readBy who (off + 4)).1 = s.readReg (off + 4) ∧
        ((u.readBy who (off + 4)).2.readBy who (off + 4)).1 = (u.readBy who (off + 4)).2.readReg (off + 4)) ∧
      (u.latch.find? (fun e => e.1 == who && e.2.1 == off + 4) = none → (u.readBy who (off + 4)).1 = u.readReg (off + 4))

/-! ## Ports of the block (15_block_ports_and_signals.md) -/

/-- R444: core requests. Outside both ranges, and for an access to the tile-queue registers that is not one aligned word, the core gets
CR_ERR and nothing else happens; a load of NI_TQn_PTR or NI_TQn_STATE reads the register; a store to NI_TQn_PTR rings its bell; the aperture
takes the rest. R445, R448, R458: a fatal input is an event at its first assertion, and none while it stays up. Completion of their own
effect, from conditions on the state and the operands alone: ctrlFatalIn, hpFatalIn, coreRequest. -/
def Obligations.CoreRequestsAndFatalInputs : Prop :=
  ∀ (s : State) (n addr data be q hp mp : Nat) (wr : Bool), n < 2304 → addr < 2 ^ 32 → data < 2 ^ 256 → be < 2 ^ 32 → q < 4 → hp < 2 →
    mp < 16 → s.niUp n = true → s.frozenAt n = false →
    (addr < 0x3FFF0000 ∨ (0x3FFF003F < addr ∧ addr < 0x40000000) ∨ 0x43FFFFFF < addr →
      Gives (.coreRequest n wr addr data be) s { s with cr := s.cr.put n ⟨true, 0⟩ }) ∧
    (0x3FFF0000 ≤ addr → addr ≤ 0x3FFF003F → addr % 4 ≠ 0 → Gives (.coreRequest n wr addr data be) s { s with cr := s.cr.put n ⟨true, 0⟩ }) ∧
    Gives (.coreRequest n false (0x3FFF0008 + 16 * q) data be) s { s with cr := s.cr.put n ⟨false, s.readReg (NI_TQn_PTR.addr n q)⟩ } ∧
    Gives (.coreRequest n false (0x3FFF000C + 16 * q) data be) s { s with cr := s.cr.put n ⟨false, s.readReg (NI_TQn_STATE.addr n q)⟩ } ∧
    Gives (.coreRequest n true (0x3FFF0008 + 16 * q) data (15 <<< ((8 + 16 * q) % 32))) s
      ((s.tqBell n q (data / 2 ^ (8 * ((8 + 16 * q) % 32)) % 2 ^ 32)).coreAns n false 0) ∧
    (0x40000000 ≤ addr → addr ≤ 0x43FFFFFF → Gives (.coreRequest n wr addr data be) s
      (s.apStore n wr (addr - 0x40000000) (if be = 2 ^ 32 - 1 then 32 else 0) (toBytes 32 data))) ∧
    (2 ∉ (s.eu .mp mp).persist → Gives (.ctrlFatalIn mp true) s
      ((s.setEu .mp mp { s.eu .mp mp with persist := (s.eu .mp mp).persist ++ [2] }).unitEvent .mp mp 4 0)) ∧
    (2 ∉ (s.eu .hp hp).persist → Gives (.hpFatalIn hp true) s
      ((s.setEu .hp hp { s.eu .hp hp with persist := (s.eu .hp hp).persist ++ [2] }).unitEvent .hp hp 5 0)) ∧
    (2 ∈ (s.eu .mp mp).persist → Gives (.ctrlFatalIn mp true) s s) ∧ (2 ∈ (s.eu .hp hp).persist → Gives (.hpFatalIn hp true) s s) ∧
    Does (.ctrlFatalIn mp false) s (fun t => 2 ∉ (t.eu .mp mp).persist ∧ s.regs = t.regs) ∧
    Does (.hpFatalIn hp false) s (fun t => 2 ∉ (t.eu .hp hp).persist ∧ s.regs = t.regs)

/-- R448, R450, R452: the oldest request of a host port leaves under a free tag when a request credit is held, and only then; its
completion, or the end of its time, frees the tag; credits and pending vectors. In the hypotheses the port is not in its safe state and no
injected parity fault waits. Completion of their own effect, from conditions on the state and the operands alone: memRd, memWr, cpl,
hostTagTimeout, txCrd, irq. -/
def Obligations.BridgeRequestsHoldTagsAndCredits : Prop :=
  ∀ (s : State) (hp tag st kind : Nat) (data : List Nat) (r : HReq) (rest : List HReq) (c : Instr), hp < 2 → tag < 4096 → st < 256 →
    (∀ b ∈ data, b < 256) → data.length ≤ 4096 → (c, kind) ∈ [(Instr.memRd hp, 2), (.memWr hp, 3)] →
    s.fld (xx_ERR_STATUS_SAFE .hp) hp = 0 → s.fld (xx_ERR_INJECT_ARM .hp) hp = 0 →
    ((s.hpt hp).q = r :: rest → r.b.kind = kind → 0 < (s.hpt hp).crd0 → (s.hpt hp).out.length < 4096 →
      Does c s fun t => ∃ g < 4096, (∀ o ∈ (s.hpt hp).out, o.b.tag ≠ g) ∧
        t.hpt hp = { s.hpt hp with
          q := rest
          out := (s.hpt hp).out ++ [{ r with b := { r.b with tag := g } }]
          crd0 := (s.hpt hp).crd0 - 1
          tx := some { r.b with tag := g, status := 0 } } ∧
        t.pair HP_TX_BYTES_LO HP_TX_BYTES_HI hp =
          (s.pair HP_TX_BYTES_LO HP_TX_BYTES_HI hp + 128 * (1 + (r.b.data.length + 127) / 128)) % 2 ^ 64 ∧
        t.net = s.net) ∧
    ((s.hpt hp).crd0 = 0 → Gives c s s) ∧ ((s.hpt hp).q = [] → Gives c s s) ∧
    ((∀ o ∈ (s.hpt hp).out, o.b.tag ≠ tag) →
      Gives (.cpl hp tag st data) s (s.addPair HP_RX_BYTES_LO HP_RX_BYTES_HI (128 * (1 + (data.length + 127) / 128)) hp) ∧
      Gives (.hostTagTimeout hp tag) s s) ∧
    ((s.hpt hp).out.find? (fun o => o.b.tag == tag) = some r →
      (st ≠ stDATA_ERROR → Gives (.cpl hp tag st data) s
        (((s.addPair HP_RX_BYTES_LO HP_RX_BYTES_HI (128 * (1 + (data.length + 127) / 128)) hp).modHp hp fun h =>
          { h with out := delFirst (fun x => x.b.tag == tag) h.out }).cplFor hp r st data)) ∧
      (let u := s.modHp hp fun h => { h with out := delFirst (fun x => x.b.tag == tag) h.out };
        ((∃ p, r.why = .serve p) → Gives (.hostTagTimeout hp tag) s u) ∧
        (∀ p, r.why = .atomRead p ∨ (∃ old, r.why = .atomWrite p old) → Gives (.hostTagTimeout hp tag) s (u.lineFree hp)) ∧
        (∀ code, r.why = .own code → Gives (.hostTagTimeout hp tag) s (u.ownFailed code)))) ∧
    Gives (.txCrd hp 0) s (s.modHp hp fun h => { h with crd0 := h.crd0 + 1 }) ∧
    ((s.hpt hp).cpls = [] → Gives (.txCrd hp 1) s (s.modHp hp fun h => { h with crd1 := h.crd1 + 1 })) ∧
    (∀ b bs, (s.hpt hp).cpls = b :: bs → Gives (.txCrd hp 1) s ((s.modHp hp fun h => { h with cpls := bs }).bridgeTx hp b)) ∧
    Does .irq s (fun t => (t.hpt hp).irq = (s.hpt hp).irq.drop (s.hpt hp).crd0 ∧
      (t.hpt hp).crd0 = (s.hpt hp).crd0 - (s.hpt hp).irq.length ∧ (t.hpt hp).q = (s.hpt hp).q ∧ t.net = s.net)

/-- R455: THROTTLE_N. An asserting edge counts and sets THR_ACTIVE, and counts as merged while THR_ACTIVE is 1; THR_MIN after the input was
last asserted THR_ACTIVE clears; an input held beyond the limit is ignored until THR_REARM is written. That edges are not counted while the
input is ignored is the model's reading (assumption 97). R457: the TAP. IDCODE captures its 32 bits with the licensee's code; MEMDBG runs a
transaction of 256 bytes at its port and captures what the last read returned; SCAN captures the next frame; both capture zeros and do
nothing while JTAG_EN is 0; BYPASS captures one 0; TRST_N selects IDCODE. Completion of their own effect, from conditions on the state and
the operands alone: thrRearm, memdbg, throttleAssert, thrMinExpire, thrStuck, idcode, scan, bypass, trst. -/
def Obligations.ThrottleAndJtagInputs : Prop :=
  (∀ (s : State) (v : Nat), v < 2 ^ 32 →
    (s.fld FB_INPUT_STATUS_THR_STUCK = 0 → Does .throttleAssert s fun t =>
      t.fld FB_INPUT_STATUS_THR_ACTIVE = 1 ∧ t.fld FB_INPUT_STATUS_THR_STUCK = 0 ∧ t.pins.thrLow = true ∧
      t.fld FB_INPUT_CNT_THR_EDGES = (s.fld FB_INPUT_CNT_THR_EDGES + 1) % 2 ^ 16 ∧
      t.fld FB_INPUT_CNT_THR_MERGED =
        (s.fld FB_INPUT_CNT_THR_MERGED + if s.fld FB_INPUT_STATUS_THR_ACTIVE = 1 then 1 else 0) % 2 ^ 16 ∧
      s.RegsKept t [FB_INPUT_STATUS.addr 0 0, FB_INPUT_CNT.addr 0 0] ∧
      { t with regs := s.regs, pins := s.pins, fresh := s.fresh } = s) ∧
    Does .thrMinExpire s (fun t => t.fld FB_INPUT_STATUS_THR_ACTIVE = 0 ∧ t.pins.thrLow = false ∧
      s.RegsKept t [FB_INPUT_STATUS.addr 0 0] ∧ { t with regs := s.regs, pins := s.pins, fresh := s.fresh } = s) ∧
    (s.pins.thrLow = true → s.fld FB_INPUT_STATUS_THR_STUCK = 0 → Does .thrStuck s fun t =>
      t.fld FB_INPUT_STATUS_THR_STUCK = 1 ∧ t.fld FB_INPUT_STATUS_THR_ACTIVE = 0 ∧
      t.fld FB_INPUT_STATUS_THR_STUCK_CNT = (s.fld FB_INPUT_STATUS_THR_STUCK_CNT + 1) % 2 ^ 8 ∧
      s.RegsKept t [FB_INPUT_STATUS.addr 0 0] ∧ s.OnlyRegs t) ∧
    (s.pins.thrLow = false → Gives .thrStuck s s) ∧
    Does (.thrRearm v) s (fun t =>
      t.fld FB_INPUT_CTRL_THR_EN = v / 2 ^ 30 % 2 ∧ t.fld FB_INPUT_CTRL_THR_MIN = v % 256 ∧
      t.fld FB_INPUT_CTRL_THR_LIMIT = (if s.fld BN_LOCK_LOCK = 1 then s.fld FB_INPUT_CTRL_THR_LIMIT else v / 256 % 256) ∧
      (v / 2 ^ 31 % 2 = 1 → s.fld FB_INPUT_STATUS_THR_STUCK = 1 → t.fld FB_INPUT_STATUS_THR_STUCK = 0 ∧
        t.fld FB_INPUT_STATUS_THR_ACTIVE = if s.pins.thrLow then 1 else s.fld FB_INPUT_STATUS_THR_ACTIVE) ∧
      (v / 2 ^ 31 % 2 = 0 → t.rd FB_INPUT_STATUS = s.rd FB_INPUT_STATUS) ∧
      s.RegsKept t [FB_INPUT_CTRL.addr 0 0, FB_INPUT_STATUS.addr 0 0])) ∧
  (∀ (s : State) (d : Nat), d < 2 ^ 2112 → s.fuse.jep106 < 2 ^ 11 →
    Gives .idcode s { s with tap := { s.tap with inst := 0x01, dr := 1 * 2 ^ 28 + 0xC471 * 2 ^ 12 + s.fuse.jep106 * 2 + 1 } } ∧
    Gives .bypass s { s with tap := { s.tap with inst := 0xFF, dr := 0 } } ∧
    Gives .trst s { s with tap := { s.tap with inst := 0x01 } } ∧
    (s.fld FB_SCAN_CFG_JTAG_EN = 0 →
      Gives .scan s { s with tap := { s.tap with inst := 0x20, dr := 0 } } ∧
      Gives (.memdbg d) s { s with tap := { s.tap with inst := 0x21, dr := 0 } }) ∧
    (s.fld FB_SCAN_CFG_JTAG_EN = 1 →
      Gives (.memdbg d) s ({ s with tap := { s.tap with inst := 0x21, dr := s.tap.back } }.debugTx
        (d / 2 ^ 2084 % 2 ^ 4) (d / 2 ^ 2056 % 2 ^ 28 * 256) (d / 2 ^ 2088 % 2 == 1) (d % 2 ^ 2048)) ∧
      (s.scan.jtag = true → ∀ f t, s.scanStep = some (f, t) →
        Gives .scan s { t with tap := { t.tap with inst := 0x20, dr := f.foldr (fun w x => w + x * 2 ^ 64) 0 } })))

/-! ## The scheduled plane (03_scheduled_plane.md) -/

/-- R60, R76, R80, R192, R368: an NI in service that receives START for a tenancy it serves holds the chart with its Lstart and starts
loading at the offset that START names; an NI in no tenancy, or in another than the chart's (R375; that it compares with the tenancy of the
ring that launched the chart is the model's reading, assumption 156), answers ACCESS_DENIED; a local beat past Lstart is LAUNCH_LATE, and so is one within beat
Lstart after its slot 0 (the model's choice, assumption 143). A streamed segment that passes its checks fills the idle bank, or waits while
an open-plane reduction holds one of its contexts; a segment that fails them is refused with the first status. R83, R84, R342: SEG_DONE
leaves an NI once every ejected flit of the segment is written and every booked write committed, and the launching NI counts it; the first
SEG_ABORT decides the status and sends ABORT to every NI of the slice; an NI that ABORT reaches acts on it at its next local beat.
Completion of their own effect, from conditions on the state and the operands alone: start, segmentLoaded, loadWaitEnd, segDone,
segDoneSend, segAbort, abort. -/
def Obligations.ChartsStartLoadReportAndAbort : Prop :=
  (∀ (s : State) (n : Nat) (p : Pkt) (c : ChartRun) (ofs : Nat), n < 2304 → okPkt p = true → s.frozenAt n = false →
    s.niUp n = true →
    (p.kind = opSTART →
     let u := s.takeNet (.unit (niLoc n)) p
     let w := u.applyAbort n stABORTED
     let saved := if p.arg 2 = 1 then w.savedMember n (p.arg 5) else (p.arg 1, [])
     let run : ChartRun := ⟨p.arg 0, p.arg 4, if p.arg 2 = 1 then ofBytes (w.hbmBytes (adBig (p.arg 5) + 8) 8) else 0, p.src.slot,
       p.arg 3 == 1, w.chartTen n p, 0, some saved.1, saved.2, none, p.arg 4, none, none, [], 0, false, w.armedAt p, saved.1, false⟩
     let v := ((w.setCh n (some run)).landAgain n).modRt n fun r => { r with
       binds := (w.bindings n run (p.arg 1)).2, ended := none, strict := w.chartStrict run, sat := false, readyNext := saved.2, signals := [],
       prevDep := [], crc := crc64Init, crcFlits := 0 }
     let late := p.arg 4 < (w.rg (regionOf n)).L ∨ (p.arg 4 = (w.rg (regionOf n)).L ∧ 0 < (w.rg (regionOf n)).slot)
     let takes := if p.arg 3 = 1 then s.tnState n < 2 else s.tnState n = 1 ∧ s.owner n = s.chartTen n p
     (p.arg 3 = 1 → p.src.port ≠ 5 → Gives (.start n p) s (u.report .ni n 15 (p.src.x * 64 + p.src.y))) ∧
     (p.arg 3 ≠ 1 ∨ p.src.port = 5 →
       (¬ takes → Gives (.start n p) s (u.emit (mkPkt opSEG_ABORT (niLoc n) p.src 0 0 0 [stACCESS_DENIED, p.arg 0, 0]))) ∧
       (takes → v.fld NI_CHART_CTRL_ENABLE n = 0 → Gives (.start n p) s (v.segFail n 0 stABORTED)) ∧
       (takes → v.fld NI_CHART_CTRL_ENABLE n = 1 →
         (¬ late → (w.bindings n run (p.arg 1)).1 = none → Gives (.start n p) s v) ∧
         (¬ late → ∀ st, (w.bindings n run (p.arg 1)).1 = some st → Gives (.start n p) s (v.segFail n 0 st)) ∧
         (late → Gives (.start n p) s ((v.niCause n NI_CHART_STATUS_LAUNCH_LATE 9 10).segFail n 0 stABORTED))))) ∧
    (s.ch n = some c → (s.rt n).idle = none → c.loading = some ofs → c.abortPend = none →
      let r := s.readSeg n c ofs
      let s1 := if r.ce then s.niCause n NI_CHART_STATUS_ENTRY_CE 9 5 else s
      let s2 := if r.ue then s1.niCause n NI_CHART_STATUS_ENTRY_UE 9 6 else s1
      let s3 := if r.stale then s2.niCause n NI_CHART_STATUS_STALE 9 4 else s2
      let v := if r.fenced then s3.report .ni n 9 31 else s3
      (r.bad = [] → v.ctxHeld n r.img = false → Does (.segmentLoaded n) s fun t =>
        (t.rt n).idle = some r.img ∧ t.ch n = some { c with loading := none, waitSeg := none } ∧ t.regs = v.regs ∧ t.net = v.net) ∧
      (r.bad = [] → v.ctxHeld n r.img = true →
        Gives (.segmentLoaded n) s (v.setCh n (some { c with loading := none, waitSeg := some r.img }))) ∧
      (r.bad ≠ [] → Gives (.segmentLoaded n) s (v.segFail n r.img.seg (firstStatus r.bad)))) ∧
    (∀ g, s.ch n = some c → c.waitSeg = some g → c.sent = false →
      (s.ctxHeld n g = false → Does (.loadWaitEnd n) s fun t =>
        (t.rt n).idle = some g ∧ t.ch n = some { c with loading := none, waitSeg := none } ∧ t.regs = s.regs ∧ t.net = s.net) ∧
      (s.ctxHeld n g = true → Gives (.loadWaitEnd n) s s))) ∧
  (∀ (s : State) (n : Nat) (p : Pkt) (c : ChartRun) (l : Launch), n < 2304 → okPkt p = true → s.frozenAt n = false →
    s.niUp n = true →
    let u := s.takeNet (.unit (niLoc n)) p
    (∀ seg st rest, s.ch n = some c → c.donePend = (seg, st) :: rest → (∀ e ∈ (s.rt n).ejecting, e.seg ≠ seg) →
      (∀ q < 4, ∀ m a, offDie n q = some (.mp m a) →
        ∀ t ∈ (s.mpt m).ready ++ (s.mpt m).cur.toList ++ (s.mpt m).suspended.toList ++ (s.mpt m).issued,
          t.kind ≠ .bookWrite ∨ t.req ≠ a ∨ t.chart ≠ c.chart ∨ t.seg ≠ seg) →
      Does (.segDoneSend n) s fun t =>
        t.net = s.net ++ [⟨.router n 4, mkPkt opSEG_DONE (niLoc n) c.home c.ten 0 0 [c.chart, seg, st]⟩] ∧
        (rest ≠ [] → t.ch n = some { c with donePend := rest }) ∧ t.regs = s.regs ∧ t.spad = s.spad ∧ t.hbm = s.hbm) ∧
    (∀ seg st rest e, s.ch n = some c → c.donePend = (seg, st) :: rest → e ∈ (s.rt n).ejecting → e.seg = seg →
      Gives (.segDoneSend n) s s) ∧
    (p.kind = opSEG_DONE → p.dst.port = 5 → Gives (.segDone n p) s (s.takeNet (.unit bnLoc) p)) ∧
    (p.kind = opSEG_ABORT → p.dst.port = 5 → s.bnUp = true → Gives (.segAbort n p) s ((s.takeNet (.unit bnLoc) p).systemAbort p)) ∧
    (p.kind = opSEG_DONE → p.dst.port ≠ 5 → s.launches.find? (fun l => l.ni == n && l.chart == p.arg 0) = some l →
      Gives (.segDone n p) s (State.report83 { u with
        launches := updFirst (fun x => x.desc == l.desc) (fun x => { x with done := x.done ++ [(p.arg 1, p.src.slot, p.arg 2)] }) s.launches }
        l.desc (l.done.length + 1))) ∧
    (p.kind = opSEG_ABORT → p.dst.port ≠ 5 → s.launches.find? (fun l => l.ni == n && l.chart == p.arg 1 && l.abort.isNone) = none →
      Gives (.segAbort n p) s u) ∧
    (p.kind = opSEG_ABORT → p.dst.port ≠ 5 → s.launches.find? (fun l => l.ni == n && l.chart == p.arg 1 && l.abort.isNone) = some l →
      let sent := l.members.foldl (fun s m => s.niSend n opABORT (niLoc m) 0 0 0 [p.arg 0, l.chart, p.arg 2]) u
      let v := match l.pause with
        | some (d, _) => sent.finish d stABORTED
        | none => sent
      let k := { l with abort := some (p.arg 0, p.arg 2), pause := none, holdGen := none }
      (v.heldForRepair p.src.slot l.chart (p.arg 0) = false → Gives (.segAbort n p) s (State.segComplete
        { v with launches := updFirst (fun x => x.desc == l.desc) (fun _ => k) v.launches } k (p.arg 2) (p.arg 0) true)) ∧
      (v.heldForRepair p.src.slot l.chart (p.arg 0) = true →
        let y := { v with
          launches := updFirst (fun x => x.desc == l.desc) (fun _ => { k with holdGen := some (v.fld FB_MAP_GEN_GEN) }) v.launches }
        Gives (.segAbort n p) s (if v.bnUp then y else y.modBn fun b => { b with halted := b.halted ++ [l.ten] }))) ∧
    (p.kind = opABORT → s.ch n = some c → c.chart = p.arg 1 →
      Gives (.abort n p) s (u.setCh n (some { c with abortPend := some (p.arg 0), sent := true }))))

/-- R61, R74: the oldest ejected flit of an NI is written to scratchpad and counted, and no other byte changes; when its stream counts a
signal with it, the count rises and the WAITs that it ends complete. R92: every write of OL_LAND_CFG is judged by the DELAY that it leaves
and the LOCK in force. Completion of their own effect, from conditions on the state and the operands alone: ejectWrite, olLandCfgWrite. -/
def Obligations.EjectedFlitsAndLandingDelay : Prop :=
  ∀ (s : State) (n v : Nat) (e : EjectE) (rest : List EjectE),
    (n < 2304 → (s.rt n).ejecting = e :: rest → s.frozenAt n = false → s.niUp n = true →
      (e.signal = false → s.spad.wf = true → Does (.ejectWrite n) s fun t =>
        (∀ i < 256, t.spad.read (spadKey n e.ofs + i) = e.data / 2 ^ (8 * i) % 256) ∧
        (∀ a, a < spadKey n e.ofs ∨ spadKey n e.ofs + 256 ≤ a → t.spad.read a = s.spad.read a) ∧ t.spad.wf = true ∧
        t.rt n = { s.rt n with ejecting := rest } ∧
        t.pair NI_SCHED_RX_LO NI_SCHED_RX_HI n = (s.pair NI_SCHED_RX_LO NI_SCHED_RX_HI n + 256) % 2 ^ 64 ∧
        s.RegsKept t [NI_SCHED_RX_LO.addr n 0, NI_SCHED_RX_HI.addr n 0] ∧ t.net = s.net ∧ t.hbm = s.hbm) ∧
      (e.signal = true → ∀ c, s.ch n = some c →
        let key := 16 * e.seg + e.stream
        let k := (s.rt n).signals.get key 0 + 1
        let u := (s.spadWrite n e.ofs (toBytes 256 e.data)).addPair NI_SCHED_RX_LO NI_SCHED_RX_HI 256 n
        Gives (.ejectWrite n) s (((u.setRt n { s.rt n with ejecting := rest, signals := (s.rt n).signals.put key k }).traceRec n 3
          (s.owner n) none 15 0 e.stream k).checkWaits n 0 c.chart key k 0))) ∧
    (n < 32 → v < 2 ^ 32 → Does (.olLandCfgWrite n v) s fun t =>
      t.fld OL_LAND_CFG_DELAY n = v / 256 % 256 ∧
      t.fld OL_LAND_CFG_ENABLE n = (if v % 2 = 1 ∧ s.fld OL_LOCK_LOCK n + 8 ≤ min 127 (v / 256 % 256) then 1 else 0) ∧
      t.fld OL_LAND_STATUS_DELAY_LOW n =
        (if v % 2 = 1 ∧ min 127 (v / 256 % 256) < s.fld OL_LOCK_LOCK n + 8 then 1 else s.fld OL_LAND_STATUS_DELAY_LOW n) ∧
      s.RegsKept t [OL_LAND_CFG.addr n 0, OL_LAND_STATUS.addr n 0] ∧ t.spad = s.spad ∧ t.hbm = s.hbm)

/-! ## The open plane (04_open_plane.md) -/

/-- R105, R107, R109: what a router in service does with a header flit that is not a multicast: the entry of its destination decides the
output; a packet on escape follows its generation's field, a partial of the router's own reduction that of the reduction's generation, one at the hop limit or whose normal output is out of service moves to escape; an
ARRIVED packet waits for its unit; where no output serves it is dropped, a REQ or DAT packet with a DROP that names the reason; a header
with an uncorrectable error is discarded without DROP. In the hypotheses no injected error waits (R301). R97, R106, R107, R109, R112, R152:
what a router does with packets that wait. An output serves one of the packets that compete, a fabric command first; a unit discards a
reserved opcode with DROP; an aged DAT packet holds its output; a wait beyond ESC_WAIT takes escape where it has room; a purge discards its
generation with DROP PURGED; a DROP ends the transfer of its source. Completion of their own effect, from conditions on the state and the
operands alone: routeHeader, escWaitExpire, outputAged, routerOutputArbitrate, drop, purge0, purge1, combiningSlotFree. -/
def Obligations.RoutersRouteAndServePackets : Prop :=
  (∀ (s : State) (n port : Nat) (p : Pkt), n < 2304 → port < 6 → okPkt p = true → s.routerUp n = true →
    s.frozenAt n = false → s.fld (xx_ERR_INJECT_ARM .ni) n = 0 → p.dst.port ≠ 7 → portThere n port = true → s.admitted n port p = true →
    let u := s.takeNet (.router n port) p
    let e := s.routeEntry n (if p.dst.port = 5 then 2304 else p.dst.slot)
    let out := e / 2 ^ 12 % 8
    let gen := s.fld RT_CFG_ESC_GEN n
    let limit := max 1 (s.fld RT_CFG_HOP_LIMIT n)
    let serves := fun (o : Nat) => o < 4 ∧ (neighbour n o).isSome = true ∧ s.portOut n o = false
    let go := fun (o : Nat) (q : Pkt) => Gives (.routeHeader n port p 0) s (u.modRt n fun r => { r with
      held := r.held ++ [⟨{ q with hops := min 127 (p.hops + 1) }, port, o, 0, false, e, chanOf p⟩] })
    (e.testBit 15 = false → Gives (.routeHeader n port p 0) s (u.drop (niLoc n) n port 0 p)) ∧
    (∀ r, p.net = .req ∨ p.net = .dat → u.drop (niLoc n) n port r p =
      u.emit (mkPkt opDROP (niLoc n) p.src p.ten p.flow p.txn [r, p.op, if p.net = .dat then 1 else 0])) ∧
    (∀ r, e.testBit 15 = true → s.ownPartial n p = some r → serves (escField e r.gen) →
      go (escField e r.gen) { p with esc := true, egen := r.gen }) ∧
    (s.ownPartial n p = none →
    (e.testBit 15 = true → p.esc = true → serves (escField e p.egen) → go (escField e p.egen) p) ∧
    (e.testBit 15 = true → p.esc = true → escField e p.egen < 4 → ¬ serves (escField e p.egen) →
      Gives (.routeHeader n port p 0) s (u.drop (niLoc n) n port 1 p)) ∧
    (e.testBit 15 = true → p.esc = false → p.fabric = false → serves out → p.hops < limit → go out p) ∧
    (e.testBit 15 = true → p.esc = false → p.fabric = false → (out < 4 ∧ s.portOut n out = true) ∨ limit ≤ p.hops →
      serves (escField e gen) → go (escField e gen) { p with esc := true, egen := gen }) ∧
    (e.testBit 15 = true → p.fabric = true → p.esc = false → serves (escField e gen) → go (escField e gen) { p with egen := gen }) ∧
    (e.testBit 15 = true → p.esc = false → p.fabric = false → out = 4 → p.hops < limit → p.dst.port = 0 →
      s.portOut n 4 = false → Gives (.routeHeader n port p 0) s (u.modRt n fun r => { r with
        held := r.held ++ [⟨p, port, 4, 0, false, e, chanOf p⟩] }))) ∧
    Gives (.routeHeader n port p 2) s ((u.unitEvent .ni n 1 (flitDetail p port)).report .ni n 10 (30 + 15 * 2 ^ 8 + flitDetail p port))) ∧
  (∀ (s : State) (n port chk : Nat) (p : Pkt), n < 2304 → port < 7 → chk < 4 → okPkt p = true → s.frozenAt n = false →
    ¬ (p.net = .rsp ∧ p.dst.port = 7) →
    (s.arrives n port p = false → Gives (.routeHeader n port p chk) s s) ∧
    (s.arrives n port p = true → s.routerUp n = false → Gives (.routeHeader n port p chk) s (s.takeNet (.router n port) p)) ∧
    (s.arrives n port p = true → s.routerUp n = true → s.admitted n port p = false → Gives (.routeHeader n port p chk) s s) ∧
    (s.arrives n port p = true → s.routerUp n = true → s.admitted n port p = true →
      Gives (.routeHeader n port p chk) s ((s.takeNet (.router n port) p).headerAt n port p chk))) ∧
  (∀ (s : State) (n out net v : Nat) (p : Pkt) (h : Held), n < 2304 → out < 6 → net < 4 → v < 2 ^ 32 → okPkt p = true →
    s.routerUp n = true → s.frozenAt n = false →
    (∀ l, s.robin n out net l = some h → h ∈ l) ∧ (∀ l, l ≠ [] → s.robin n out net l ≠ none) ∧
    (h ∈ s.competing n out net → (∃ g ∈ s.competing n out net, g.pkt.fabric = true) → h.pkt.fabric = true) ∧
    (¬ (out < 4 ∧ (neighbour n out).isSome = true ∧ s.portOut n out = true) →
      (s.competing n out net = [] → Gives (.routerOutputArbitrate n out net) s s) ∧
      (s.robin n out net (s.competing n out net) = some h →
        Gives (.routerOutputArbitrate n out net) s ((s.startOut n net h).unitTakes (outPlace n h.out) h.pkt) ∧
        ((∀ l, outPlace n h.out = .unit l → knownOp h.pkt.kind = true ∧ h.pkt.kind ≠ opREG_RD ∧ h.pkt.kind ≠ opREG_WR) →
          Gives (.routerOutputArbitrate n out net) s (s.startOut n net h)) ∧
        (∀ l, outPlace n h.out = .unit l → l.port = 0 → knownOp h.pkt.kind = false → h.pkt.net = .req →
          Gives (.routerOutputArbitrate n out net) s (((s.startOut n net h).takeNet (.unit l) h.pkt).emit
            (mkPkt opDROP l h.pkt.src h.pkt.ten h.pkt.flow h.pkt.txn [3, h.pkt.op, 0]))))) ∧
    (out < 4 ∧ (neighbour n out).isSome = true ∧ s.portOut n out = true → Gives (.routerOutputArbitrate n out net) s
      (((s.rt n).held.filter (fun h => h.out == out && netCode h.pkt.net == net)).foldl (fun s h => s.reroute n h) s)) ∧
    ((s.rt n).held.find? (fun x => decide (x.pkt = p)) = none → Gives (.outputAged n p) s s ∧ Gives (.escWaitExpire n p) s s) ∧
    ((s.rt n).held.find? (fun x => decide (x.pkt = p)) = some h →
      (let aged := p.net = .dat ∧ max 1 (s.fld RT_CFG_AGE_LIMIT n) ≤ h.waited ∧ s.openRunOut n h.out < nflits p
       (aged → Gives (.outputAged n p) s (s.modRt n fun r => { r with
          held := updFirst (fun x => decide (x = h)) (fun x => { x with aged := true }) r.held })) ∧
       (¬ aged → Gives (.outputAged n p) s s)) ∧
      (p.esc = true ∨ p.fabric = true ∨ 6 ≤ h.out → Gives (.escWaitExpire n p) s s) ∧
      (p.esc = false → p.fabric = false → h.out < 6 →
        let q := { p with esc := true, egen := s.fld RT_CFG_ESC_GEN n }
        let way := s.follow n (escField h.entry (s.fld RT_CFG_ESC_GEN n)) q
        (∀ o x, way = .out o x →
          let room := match outPlace n o with
            | .router m i => s.roomFor m i q
            | .unit l => s.unitRoom l q
          (room = true → Gives (.escWaitExpire n p) s
            ((s.modRt n fun r => { r with held := delFirst (fun x => decide (x = h)) r.held }).hold n h.inPort h.chan o h.entry q)) ∧
          (room = false → Gives (.escWaitExpire n p) s s)) ∧
        ((∀ o x, way ≠ .out o x) → Gives (.escWaitExpire n p) s (s.reroute n h)))) ∧
    (32 ≤ (s.rt n).slots.length → Gives (.combiningSlotFree n) s s) ∧
    ((s.rt n).slots.length < 32 → (s.rt n).held.find? (fun x => decide (6 ≤ x.out)) = some h →
      Gives (.combiningSlotFree n) s ((s.modRt n fun r => { r with held := delFirst (fun x => decide (x = h)) r.held }).copyDown n h.inPort
        h.chan (h.out == 7) h.pkt)) ∧
    (∀ c ∈ [Instr.purge0 n v, .purge1 n v], ∀ u, u = s.serveWrite (RT_CTRL.addr n 0) v →
      (v % 4 = 0 → Gives c s u) ∧ (v % 4 = 1 → Gives c s (u.purge n 0)) ∧ (v % 4 = 2 → Gives c s (u.purge n 1)) ∧
      (v % 4 = 3 → Gives c s ((u.purge n 0).purge n 1))) ∧
    (∀ t, p.kind = opDROP → p.dst = niLoc n → s.niUp n = true →
      let u := (s.takeNet (.unit (niLoc n)) p).niCause n NI_OPEN_STATUS_DROP 10 1
      let w := u.log .ni n 0x0B 0 (u.ltileOf n p.src.slot) (p.arg 0)
      let contribution := p.arg 2 = 1 ∧ p.arg 1 = 0x20
      let single := (p.arg 2 = 1 ∧ p.arg 1 = 0x21) ∨ (p.arg 2 = 0 ∧ p.arg 1 ∈ [0x03, 0x04, 0x0E, 0x20])
      (contribution → Gives (.drop n p) s (w.redFail n p.txn stTARGET_FENCED)) ∧
      (single → Gives (.drop n p) s w) ∧
      (¬ contribution → ¬ single →
        (w.findTx n p.txn = some t → Gives (.drop n p) s (w.txEnd t (if p.arg 0 = 3 then stBAD_DESCRIPTOR else stTARGET_FENCED))) ∧
        (w.findTx n p.txn = none → Gives (.drop n p) s w))) ∧
    (∀ hp, hp < 2 → p.kind = opDROP → p.dst = hpLoc hp →
      let u := s.takeNet (.unit (hpLoc hp)) p
      (p.arg 2 = 0 ∧ (p.arg 1 = 0x10 ∨ p.arg 1 = 0x11) →
        Gives (.drop n p) s (u.hpRegDone hp p.txn (if p.arg 0 = 3 then stBAD_DESCRIPTOR else stTARGET_FENCED) 0)) ∧
      (¬ (p.arg 2 = 0 ∧ (p.arg 1 = 0x10 ∨ p.arg 1 = 0x11)) → Gives (.drop n p) s u)))

/-- R115 to R119, R121: an NI starts the head that fair queueing selects, which is one whose flow may send and whose flits fit the open run;
a write of a flow's RATE empties or fills its bucket; enabling a flow gives its head a fresh tag; a transaction without its answer ends
TIMEOUT. In the hypotheses no injected error waits (R301). Completion of their own effect, from conditions on the state and the operands
alone: openPacketStart, wheelUnpark, flowRateWrite, flowCfgWrite, openTimeout. -/
def Obligations.FlowsStartPacketsAndTimeOut : Prop :=
  ∀ (s : State) (n f v txn run : Nat) (p : Pkt) (rest : List Pkt), n < 2304 → f < 34 → v < 2 ^ 32 → txn < 4096 →
    s.frozenAt n = false → s.niUp n = true → s.fld (xx_ERR_INJECT_ARM .ni) n = 0 →
    (s.selectFlow n run = some f → (s.fl n f).eligible = true ∧ (f < 32 → s.fld NI_FLOW_CFG_ENABLE n f = 1) ∧
      ∃ q l, (s.fl n f).queue = q :: l ∧ nflits q ≤ run) ∧
    (s.selectFlow n (s.openRunL n) = none → Gives (.openPacketStart n) s s) ∧
    (s.selectFlow n (s.openRunL n) = some f → (s.fl n f).queue = p :: rest →
      (p.kind = opRED_DATA ∨ s.roomFor n 4 p = true → Does (.openPacketStart n) s fun t =>
        t.net = s.net ++ [⟨if p.kind = opRED_DATA then .unit (niLoc n) else .router n 4, p⟩] ∧ (t.fl n f).queue = rest ∧
        t.vt.get n 0 = laterTag (s.vt.get n 0) (s.fl n f).fHead ∧
        (f < 32 → s.fld NI_FLOW_RATE_RATE n f ≠ 0 → (t.fl n f).bucket = (s.fl n f).bucket - 16 * (s.fl n f).headLen)) ∧
      (p.kind ≠ opRED_DATA → s.roomFor n 4 p = false → Gives (.openPacketStart n) s s)) ∧
    ((s.fl n f).parked = some (s.wheelPos n) →
      Gives (.wheelUnpark n f) s ((s.setFl n f { s.fl n f with parked := none }).checkFlow n f)) ∧
    ((s.fl n f).parked ≠ some (s.wheelPos n) → Gives (.wheelUnpark n f) s s) ∧
    (f < 32 → Does (.flowRateWrite n f v) s fun t =>
      (t.fl n f).bucket = (if s.fld NI_FLOW_CFG_RESET_FULL n f = 1 then t.bucketMax n f else 0) ∧
      (t.fl n f).queue = (s.fl n f).queue ∧ (t.fl n f).fHead = (s.fl n f).fHead ∧
      ((s.fl n f).parked = none → (t.fl n f).parked = none) ∧ s.RegsKept t [NI_FLOW_RATE.addr n f] ∧ t.spad = s.spad) ∧
    (f < 32 → (s.fl n f).queue = p :: rest → s.fld NI_FLOW_CFG_ENABLE n f = 0 → v / 2 ^ 31 % 2 = 1 → Does (.flowCfgWrite n f v) s fun t =>
      (t.fl n f).headLen = t.charge n f p ∧ (t.fl n f).queue = (s.fl n f).queue ∧
      (t.fl n f).fHead = (s.vt.get n 0 + t.charge n f p * 256 / t.weight n f) % 2 ^ 32 ∧ (t.fl n f).fLast = (t.fl n f).fHead ∧
      s.RegsKept t [NI_FLOW_CFG.addr n f]) ∧
    (f < 32 → (s.fl n f).queue = [] ∨ s.fld NI_FLOW_CFG_ENABLE n f = 1 ∨ v / 2 ^ 31 % 2 = 0 → Does (.flowCfgWrite n f v) s fun t =>
      t.fl n f = s.fl n f ∧ s.RegsKept t [NI_FLOW_CFG.addr n f]) ∧
    (s.findTx n txn = none → Gives (.openTimeout n txn) s s) ∧
    (∀ t, s.findTx n txn = some t → t.use = .trace → Gives (.openTimeout n txn) s s) ∧
    (∀ t, s.findTx n txn = some t → t.use ≠ .trace →
      let peer := if (s.awaitedOf t).1 = 0 then s.awaitedOf t else (4, t.chip)
      (t.lost = false → Gives (.openTimeout n txn) s
        (((s.niCause n NI_OPEN_STATUS_TIMEOUT 10 2).log .ni n 0x0A peer.1 peer.2 txn).txEnd t stTIMEOUT)) ∧
      (t.lost = true → Gives (.openTimeout n txn) s (s.txEnd t stTARGET_FENCED)))

/-! ## Remote memory, windows, credits and multicast (05_remote_memory_and_multicast.md) -/

/-- R125, R121, R147, R148, R368: reads and atomics. A request at a tile is checked in the order of R125; a read that passes is answered
with the bytes, an atomic writes its result and answers with the old value, and one that fails is answered with its status and changes no
memory; requests at memory and host ports go to them; an answer ends its transaction, and one without a transaction is LATE_RSP. In the
hypotheses no injected error waits (R301). Completion of their own effect, from conditions on the state and the operands alone: read,
readData, readErr, reqAtomic, atomicAns. -/
def Obligations.ReadsAndAtomicsAreCheckedAndAnswered : Prop :=
  ∀ (s : State) (n : Nat) (p : Pkt) (ue : Bool) (t : OTx), n < 2304 → okPkt p = true → s.frozenAt n = false →
    s.niUp n = true → s.fld (xx_ERR_INJECT_ARM .ni) n = 0 →
    let u := s.takeNet (.unit (niLoc n)) p
    let h := adHandle (p.arg 0)
    let base := (s.hdlRange n h).1 + adOfs (p.arg 0)
    (∀ ten ofs len act, s.check125 n h ten ofs len act = none ↔ s.tnState n = 1 ∧ s.fld NI_HDL_CFG_VALID n h ≠ 0 ∧
      s.fld NI_HDL_CFG_TENANCY n h = ten ∧ ofs + len ≤ (s.hdlRange n h).2 ∧ ¬(act = true ∧ s.fld NI_HDL_CFG_CLASS n h = 1)) ∧
    (p.kind = opREAD → p.dst = niLoc n →
      (s.check125 n h p.ten (adOfs (p.arg 0)) (p.arg 1 + 1) false = none → Gives (.read n p ue) s (u.enqueue n 32
        (mkDat opREAD_DATA (niLoc n) p.src p.ten p.flow p.txn [if ue then stDATA_ERROR else stOK] (p.arg 0) 0
          (s.fld NI_HDL_CFG_CLASS n h) (s.spadRead n base (p.arg 1 + 1))))) ∧
      (∀ st, s.check125 n h p.ten (adOfs (p.arg 0)) (p.arg 1 + 1) false = some st →
        Gives (.read n p ue) s (u.emit (mkPkt opREAD_ERR (niLoc n) p.src p.ten p.flow p.txn [st])))) ∧
    (p.kind = opATOMIC ∨ p.kind = opATOMIC_CAS → p.dst = niLoc n →
      (s.check125 n h p.ten (adOfs (p.arg 0)) (reqLen p) true = none → Gives (.reqAtomic n p false) s
        ((u.spadWrite n base (toBytes (reqLen p) (atomicResult p (ofBytes (s.spadRead n base (reqLen p)))))).emit
          (mkPkt p.atomicAns (niLoc n) p.src p.ten p.flow p.txn [stOK, ofBytes (s.spadRead n base (reqLen p))])) ∧
        Gives (.reqAtomic n p true) s (u.emit
          (mkPkt p.atomicAns (niLoc n) p.src p.ten p.flow p.txn [stDATA_ERROR, ofBytes (s.spadRead n base (reqLen p))]))) ∧
      (∀ st, s.check125 n h p.ten (adOfs (p.arg 0)) (reqLen p) true = some st →
        Gives (.reqAtomic n p ue) s (u.emit (mkPkt p.atomicAns (niLoc n) p.src p.ten p.flow p.txn [st, 0])))) ∧
    (p.kind = opATOMIC → p.atomicAns = opATOMIC_ANS) ∧ (p.kind = opATOMIC_CAS → p.atomicAns = opATOMIC_CAS_ANS) ∧
    (∀ m a, attachOf p.dst = some (.mp m a) → (p.kind = opREAD → Gives (.read n p ue) s ((s.takeNet (.unit p.dst) p).mpOpen m a p false)) ∧
      (p.kind = opATOMIC ∨ p.kind = opATOMIC_CAS → Gives (.reqAtomic n p ue) s ((s.takeNet (.unit p.dst) p).mpOpen m a p false))) ∧
    (∀ m, attachOf p.dst = some (.hp m) → (p.kind = opREAD → Gives (.read n p ue) s ((s.takeNet (.unit p.dst) p).hpOpen m p false)) ∧
      (p.kind = opATOMIC ∨ p.kind = opATOMIC_CAS → Gives (.reqAtomic n p ue) s ((s.takeNet (.unit p.dst) p).hpOpen m p false))) ∧
    (p.dst = niLoc n → s.findTx n p.txn = none →
      let late := u.niCause n NI_OPEN_STATUS_LATE_RSP 10 3
      (p.kind = opREAD_DATA → Gives (.readData n p ue) s late) ∧ (p.kind = opREAD_ERR → Gives (.readErr n p) s late) ∧
      (p.kind = opATOMIC_ANS ∨ p.kind = opATOMIC_CAS_ANS → Gives (.atomicAns n p) s late)) ∧
    (p.dst = niLoc n → s.findTx n p.txn = some t → t.use = .read →
      (p.kind = opREAD_DATA → Gives (.readData n p false) s (((u.delTx n p.txn).hostReadOf t p.data).partRead t.xfer t.arg (p.arg 0)
        (p.arg 5) p.data)) ∧
      (p.kind = opREAD_ERR → Gives (.readErr n p) s ((u.delTx n p.txn).partDone t.xfer t.arg (p.arg 0)))) ∧
    (∀ d, p.kind = opATOMIC_ANS ∨ p.kind = opATOMIC_CAS_ANS → s.findTx n p.txn = some t → s.desc? t.desc = some d → d.id = t.desc →
      (p.arg 0 ≠ stOK ∧ p.arg 0 ≠ stDATA_ERROR) ∨ d.w 5 = 0 →
      Gives (.atomicAns n p) s ((u.delTx n p.txn).finish t.desc (p.arg 0)))

/-- R127, R134 to R137, R143, R144: credits. A unicast request whose window is open, whose need the pool covers and ahead of which no waiter
is queued is granted in full when FREE covers it and a ledger entry is free; otherwise it is answered SHORT, UNSAT or CLOSED; a return moves
what is left of its grant; a cancel takes the waiter away; the source starts to send with the grant, waits after SHORT, and stops after a
revoke; a grant that comes after its cancel goes back, and one for nothing that was asked sets LATE_RSP too. R129 to R131, R139 to R142: windows. A closed window opens with its whole pool free and its EPOCH kept; an open one does not open
again; a replenish moves credits from USED to FREE; a close of a closed window completes at once; a close that takes effect moves EPOCH by
one, zeroes the counts and frees the ledger entries of the window, as far as stated here when nothing else waits at the NI; the drain limit
ends a drain. Completion of their own effect, from conditions on the state and the operands alone: creditReq, creditAns, creditReturn,
creditCancel, creditWaitExpire, reqWinOpen, reqWinReplenish, snpWinClose, closeTakesEffect, drainLimitExpire, winAns, creditRevoke. -/
def Obligations.WindowsGrantCreditsAndClose : Prop :=
  (∀ (s : State) (n us : Nat) (p : Pkt) (x : Xfer) (l : LedgerE) (w : Waiter), n < 2304 → okPkt p = true →
    us < 2 ^ 32 → s.frozenAt n = false → s.niUp n = true →
    let u := s.takeNet (.unit (niLoc n)) p
    let h := adHandle (p.arg 0)
    let win := s.window n h
    let k := p.arg 1
    let ans := fun (v : State) (credits result : Nat) =>
      v.emit (mkPkt opCREDIT_ANS (niLoc n) p.src p.ten p.flow p.txn [win.epoch, credits, result, 0])
    (p.kind = opCREDIT_REQ → p.dst.port ≠ 7 → s.tnState n = 1 → s.fld NI_HDL_CFG_VALID n h = 1 → s.fld NI_HDL_CFG_TENANCY n h = p.ten →
      adOfs (p.arg 0) ≤ (s.hdlRange n h).2 →
      (win.state ≠ 1 ∨ (p.arg 3 = 1 ∧ p.arg 4 ≠ win.epoch) → Gives (.creditReq n p) s (ans u 0 3)) ∧
      (win.state = 1 → p.arg 3 ≠ 1 ∨ p.arg 4 = win.epoch → win.pool < k → Gives (.creditReq n p) s (ans u 0 2)) ∧
      (win.state = 1 → p.arg 3 ≠ 1 ∨ p.arg 4 = win.epoch → k ≤ win.pool → s.waitersOf n h = [] → k ≤ win.free → s.ledgerUse n < 128 →
        Gives (.creditReq n p) s (ans { u.setWin n h { win with free := win.free - k, granted := win.granted + k } with
          ledger := s.ledger ++ [⟨n, p.src, p.txn, h, win.epoch, k⟩] } k 0)) ∧
      (win.state = 1 → p.arg 3 ≠ 1 ∨ p.arg 4 = win.epoch → k ≤ win.pool → win.free < k →
        (p.arg 2 = 1 → Gives (.creditReq n p) s (ans u 0 1)) ∧
        (p.arg 2 ≠ 1 → (s.waiters.filter (fun x => x.ni == n)).length < 64 →
          Gives (.creditReq n p) s (ans { u with waiters := s.waiters ++ [⟨n, h, p.src, p.txn, k, p.ten, p.flow⟩] } 0 1)))) ∧
    (p.kind = opCREDIT_RETURN → s.ledgerOf n p = none → Gives (.creditReturn n p) s u) ∧
    (p.kind = opCREDIT_RETURN → s.ledgerOf n p = some l → l.ni = n → p.arg 0 < l.remaining → s.waitersOf n l.handle = [] →
      Gives (.creditReturn n p) s (State.setWin
        { u with ledger := updFirst (fun y => decide (y = l)) (fun y => { y with remaining := y.remaining - p.arg 0 }) s.ledger }
        n l.handle { s.window n l.handle with
          free := (s.window n l.handle).free + p.arg 0
          granted := (s.window n l.handle).granted - p.arg 0 })) ∧
    (p.kind = opCREDIT_CANCEL → s.waiters.find? (fun y => y.ni == n && decide (y.src = p.src) && y.txn == p.txn) = some w →
      Gives (.creditCancel n p) s
        (State.serveWaiters { u with waiters := delFirst (fun y => decide (y = w)) s.waiters } n w.handle 64)) ∧
    (p.kind = opCREDIT_ANS → p.dst = niLoc n → p.arg 2 = 0 → p.arg 3 = 0 →
      (s.xfers.find? (fun y => y.ni == n && y.txn == p.txn && (y.cr == 1 || y.cr == 2)) = none →
        ∀ port < 6,
          let cut := s.cancelled.find? fun c => c.1 == n && c.2.1 == p.txn
          let back := mkPkt opCREDIT_RETURN (niLoc n) p.src p.ten p.flow p.txn [p.arg 1]
          ((∃ a b, cut = some (a, b, false)) → Gives (.creditAns n port p) s (u.emit back)) ∧
          ((∀ a b, cut ≠ some (a, b, false)) →
            Gives (.creditAns n port p) s ((u.niCause n NI_OPEN_STATUS_LATE_RSP 10 3).emit back))) ∧
      (s.xfers.find? (fun y => y.ni == n && y.txn == p.txn && (y.cr == 1 || y.cr == 2)) = some x → x.cr = 1 →
        ∀ port < 6,
          (x.group = none → Gives (.creditAns n port p) s (u.creditsHeld x (p.arg 0))) ∧
          (x.group ≠ none → Gives (.creditAns n port p) s (u.updXfer x.id fun y => { y with early := y.early + 1 })))) ∧
    (s.xfers.find? (fun y => y.ni == n && y.txn == p.txn && y.cr == 2) = some x →
      let v := (s.emit (mkPkt opCREDIT_CANCEL (niLoc n) x.dstLoc x.ten x.flow x.txn [])).giveUp n x.txn false
      Gives (.creditWaitExpire n p.txn us) s ((v.creditWaitEnd x stNO_CREDIT us).failXfer x.id stNO_CREDIT)) ∧
    (p.kind = opCREDIT_REVOKE →
      s.xfers.find? (fun y => y.ni == n && y.txn == p.arg 0 && y.group.isNone && y.cr == 3) = some x →
      Gives (.creditRevoke n p) s (((u.updXfer x.id fun y => { y with revoked := true, statuses := y.statuses ++ [stWINDOW_CLOSED] }).stopXfer
        x.id).pump x.id)) ∧
    (p.kind = opCREDIT_REVOKE →
      s.xfers.find? (fun y => y.ni == n && y.txn == p.arg 0 && y.group.isNone && y.cr == 3) = none → Gives (.creditRevoke n p) s u)) ∧
  (∀ (s : State) (n h : Nat) (p : Pkt) (t : OTx), n < 2304 → h < 256 → okPkt p = true → s.frozenAt n = false →
    s.niUp n = true →
    let u := s.takeNet (.unit (niLoc n)) p
    let w := s.window n h
    let ans := fun (v : State) (st ep : Nat) => v.emit (mkPkt opWIN_ANS (niLoc n) p.src p.ten p.flow p.txn [st, ep])
    (adHandle (p.arg 0) = h → s.tnState n = 1 → s.fld NI_HDL_CFG_VALID n h = 1 → s.fld NI_HDL_CFG_TENANCY n h = p.ten →
      (p.kind = opWIN_OPEN → w.state ≠ 0 ∨ p.arg 1 = 0 ∨ 8191 < p.arg 1 ∨ (s.hdlRange n h).2 < p.arg 1 * 512 →
        Gives (.reqWinOpen n p) s (ans u stBAD_DESCRIPTOR w.epoch)) ∧
      (p.kind = opWIN_OPEN →
        let r := u.openWindow n h (p.arg 1) (p.arg 2) 0 (s.ltileOf n p.src.slot)
        Gives (.reqWinOpen n p) s (ans r.2 r.1 (r.2.window n h).epoch)) ∧
      (p.kind = opWIN_OPEN → w.state = 0 → 1 ≤ p.arg 1 → p.arg 1 ≤ 8191 → p.arg 1 * 512 ≤ (s.hdlRange n h).2 →
        (∀ y ∈ s.waits, y.ni ≠ n ∨ y.kind ≠ 1 ∨ y.key ≠ h) → Does (.reqWinOpen n p) s fun t =>
          t.window n h = { w with
            state := 1
            pool := p.arg 1
            free := p.arg 1
            granted := 0
            used := 0
            notify := p.arg 2
            sinceSig := 0
            signals := 0
            opens := w.opens + 1 } ∧
          t.net = (ans u stOK w.epoch).net ∧ t.spad = s.spad ∧ t.ledger = s.ledger) ∧
      (p.kind = opWIN_REPLENISH → w.state = 0 → Gives (.reqWinReplenish n p) s (ans u stWINDOW_CLOSED w.epoch)) ∧
      (p.kind = opWIN_REPLENISH → w.state ≠ 0 → w.used < p.arg 1 → Gives (.reqWinReplenish n p) s (ans u stBAD_DESCRIPTOR w.epoch)) ∧
      (p.kind = opWIN_REPLENISH → w.state ≠ 0 → p.arg 1 ≤ w.used → s.waitersOf n h = [] → Does (.reqWinReplenish n p) s fun t =>
        t.window n h = { w with free := w.free + p.arg 1, used := w.used - p.arg 1 } ∧ t.net = (ans u stOK w.epoch).net ∧
        t.spad = s.spad ∧ t.ledger = s.ledger)) ∧
    (p.kind = opWIN_CLOSE → p.arg 1 = h → s.tnState n = 1 → s.fld NI_HDL_CFG_VALID n h = 1 →
      (w.state = 0 → Gives (.snpWinClose n p) s (u.emit (mkPkt opWIN_ANS (niLoc n) p.src 0 0 (p.arg 3) [stOK, w.epoch]))) ∧
      (w.state = 1 → p.arg 0 = 1 → p.arg 2 ≠ 0 → s.waitersOf n h = [] → Gives (.snpWinClose n p) s
        (u.setWin n h { w with state := 2, closes := w.closes ++ [⟨true, none, some p.src, p.arg 3⟩] })) ∧
      (w.state ≠ 0 → p.arg 0 = 0 ∨ p.arg 2 = 0 → Gives (.snpWinClose n p) s
        (u.setWin n h { w with closes := w.closes ++ [⟨false, none, some p.src, p.arg 3⟩] }))) ∧
    (w.closes ≠ [] → (∃ c ∈ w.closes, c.drain = false) → Gives (.closeTakesEffect n h) s (s.closeNow n h false)) ∧
    (w.closes ≠ [] → (∀ c ∈ w.closes, c.drain = true) → w.granted = 0 → Gives (.closeTakesEffect n h) s (s.closeNow n h true)) ∧
    (w.closes = [] ∨ ((∀ c ∈ w.closes, c.drain = true) ∧ w.granted ≠ 0) → Gives (.closeTakesEffect n h) s s) ∧
    (w.closes ≠ [] → (∃ c ∈ w.closes, c.drain = false) → s.waits = [] → (∀ c ∈ w.closes, c.desc = none) → (∀ y ∈ s.waiters, y.ni ≠ n) →
      Does (.closeTakesEffect n h) s fun t =>
        t.window n h = { w with
          state := 0
          epoch := (w.epoch + 1) % 2 ^ 16
          free := 0
          granted := 0
          used := 0
          pool := 0
          sinceSig := 0
          closes := [] } ∧
        t.ledger = s.ledger.filter (fun l => !(l.ni == n && l.handle == h)) ∧ t.spad = s.spad) ∧
    (w.state = 2 → Gives (.drainLimitExpire n h) s (s.closeNow n h false)) ∧ (w.state ≠ 2 → Gives (.drainLimitExpire n h) s s) ∧
    (p.kind = opWIN_ANS → s.findTx n p.txn = some t → t.use = .winOp →
      Gives (.winAns n p) s ((u.delTx n p.txn).finish t.desc (p.arg 0))))

/-- R125, R138, R146, R152, R156 to R158: writes. A tile judges a write packet by the checks, the window's EPOCH and the ledger; an accepted
one is written, counted and acknowledged, another changes no memory and is acknowledged with its status; a member of a multicast
acknowledges with counts; roll call answers with the packets accepted, and its end tells which members missed some. Completion of their own
effect, from conditions on the state and the operands alone: write, writeMc, writeAck, rollcall, rollAns, rollTimeExpire. -/
def Obligations.WritesAreJudgedByEpochAndLedger : Prop :=
  ∀ (s : State) (n port : Nat) (p : Pkt) (l : LedgerE) (t : OTx) (c : CombSlot) (x : Xfer), n < 2304 → port < 6 → okPkt p = true →
    s.frozenAt n = false → s.niUp n = true →
    let u := s.takeNet (.unit (niLoc n)) p
    let h := adHandle (p.arg 1)
    let w := s.window n h
    (s.check125 n h p.ten (adOfs (p.arg 1)) p.data.length (decide (p.arg 5 = 0)) = none →
      (w.state = 0 ∨ p.arg 2 ≠ w.epoch → s.judgeWrite n p false = (stWINDOW_CLOSED, none)) ∧
      (w.state ≠ 0 → p.arg 2 = w.epoch → (∀ e ∈ s.ledger, e.ni ≠ n ∨ e.src ≠ p.src ∨ e.txn ≠ p.txn ∨ e.handle ≠ h ∨ e.epoch ≠ w.epoch ∨
        e.remaining < cost p.data.length) → s.judgeWrite n p false = (stNO_CREDIT, none))) ∧
    (∀ st, s.check125 n h p.ten (adOfs (p.arg 1)) p.data.length (decide (p.arg 5 = 0)) = some st →
      s.judgeWrite n p false = (st, none)) ∧
    (p.kind = opWRITE → p.dst = niLoc n →
      (∀ st, s.judgeWrite n p false = (st, none) →
        Gives (.write n p false) s ((u.writeCause n st).emit (mkPkt opWRITE_ACK (niLoc n) p.src p.ten p.flow p.txn [st, p.arg 0, 0]))) ∧
      (s.judgeWrite n p false = (stOK, some l) →
        Gives (.write n p false) s ((u.acceptWrite n p l).emit (mkPkt opWRITE_ACK (niLoc n) p.src p.ten p.flow p.txn [stOK, p.arg 0, 0]))) ∧
      (s.judgeWrite n p false = (stOK, some l) → Gives (.write n p true) s (((u.acceptWrite n p l).report .ni n 10 (29 + 3 * 2 ^ 15)).emit
        (mkPkt opWRITE_ACK (niLoc n) p.src p.ten p.flow p.txn [stDATA_ERROR, p.arg 0, 0]))) ∧
      (s.judgeWrite n p false = (stOK, some l) → cost p.data.length < l.remaining → w.notify = 0 → Does (.write n p false) s fun t =>
        t.spad = s.spad.writeN (spadKey n ((s.hdlRange n h).1 + adOfs (p.arg 1))) p.data ∧
        t.window n h = { w with granted := w.granted - cost p.data.length, used := w.used + cost p.data.length } ∧
        t.hbm = s.hbm ∧ s.RegsKept t [NI_OPEN_RX_LO.addr n 0, NI_OPEN_RX_HI.addr n 0])) ∧
    (p.kind = opWRITE_MC → s.judgeWrite n p true = (stOK, some l) → Gives (.writeMc n p false) s
      (((u.acceptWrite n p l).receipt n p.src p.txn).push (.router n 4)
        (mkPkt opWRITE_ACK p.src p.dst p.ten p.flow p.txn ([stOK, p.arg 0, 1] ++ [1, 0, 0, 0, 0])))) ∧
    (p.kind = opWRITE_ACK → p.dst.port = 7 → (s.takeNet (.router n port) p).slotFor n p = some c →
      (port ∈ c.waitOn → Gives (.writeAck n port p) s ((s.takeNet (.router n port) p).slotAnswer n c port (p.args.drop 3))) ∧
      (port ∉ c.waitOn → Gives (.writeAck n port p) s (s.takeNet (.router n port) p))) ∧
    (p.kind = opWRITE_ACK → p.dst = niLoc n → s.findTx n p.txn = some t → t.use = .write → p.arg 2 ≠ 1 →
      Gives (.writeAck n port p) s (u.partDone t.xfer (p.arg 1) (p.arg 0))) ∧
    (p.kind = opROLLCALL → (∀ r ∈ s.receipts, r.ni ≠ n ∨ r.src ≠ p.src ∨ r.txn ≠ p.arg 0) →
      Gives (.rollcall n p) s (u.emit (mkPkt opROLL_ANS (niLoc n) p.src p.ten p.flow p.txn [0, s.ltileOf n n]))) ∧
    (∀ r, p.kind = opROLLCALL → s.receipts.find? (fun r => r.ni == n && decide (r.src = p.src) && r.txn == p.arg 0) = some r →
      Gives (.rollcall n p) s (u.emit (mkPkt opROLL_ANS (niLoc n) p.src p.ten p.flow p.txn [r.packets, s.ltileOf n n]))) ∧
    (p.kind = opROLL_ANS → s.xfers.find? (fun y => y.ni == n && y.txn == p.txn && y.rolling) = some x →
      Gives (.rollAns n p) s (u.updXfer x.id fun y => { y with rolls := y.rolls ++ [(p.arg 1, p.arg 0)] })) ∧
    (s.xfers.find? (fun y => y.ni == n && y.txn == p.txn && y.rolling) = none → Gives (.rollTimeExpire n p.txn) s s) ∧
    (∀ d, s.xfers.find? (fun y => y.ni == n && y.txn == p.txn && y.rolling) = some x → s.desc? x.desc = some d →
      let back := (s.returnUnused x).delTx n p.txn
      let v := { back with xfers := back.xfers.filter (fun y => y.id != x.id) }
      let missed := (s.grpMap (x.group.getD 0)).filter (fun y => !(x.rolls.contains (y, x.chunks.length)))
      let bits_ := missBitmap missed
      (missed = [] → x.statuses = [] →
        (x.missAddr = 0 → Gives (.rollTimeExpire n p.txn) s (v.complete x.desc stOK x.members 0 0)) ∧
        (x.missAddr ≠ 0 → Gives (.rollTimeExpire n p.txn) s (v.writeAux d x.missAddr x.missHost bits_ stOK x.members 0))) ∧
      (missed ≠ [] →
        let st := firstStatus (x.statuses ++ [stPARTIAL_MULTICAST])
        (x.statuses = [] → st = stPARTIAL_MULTICAST) ∧
        (x.missAddr = 0 → Gives (.rollTimeExpire n p.txn) s (v.complete x.desc st missed.length (lowest missed) 0)) ∧
        (x.missAddr ≠ 0 → Gives (.rollTimeExpire n p.txn) s (v.writeAux d x.missAddr x.missHost bits_ st missed.length (lowest missed)))))

/-- R163 to R166: the aperture. A load, a store that is not 32 aligned bytes, one to a tile beyond the grade or without a slot, and any in
strict mode is refused with zero and with each cause that holds; a store waits while the NI holds eight or one for the same target, and
otherwise joins the response queue (that it waits there, and its tag, the lowest free one, are the model's choices, assumptions 58 and 148);
a target denies a granule, admits it into its landing area, or answers AP_BUSY while that is full; a payload flit with an uncorrectable
error is answered DATA_ERROR (R105, R160; that its granule lands is the model's choice, assumption 149); a refused write is queued again.
Completion of their own effect, from conditions on the state and the operands alone: apStore, apWrite, apResend. -/
def Obligations.ApertureStoresAndLandings : Prop :=
  ∀ (s : State) (n ofs txn m : Nat) (data : List Nat) (p : Pkt) (o : Nat × Nat × Nat × Nat × Bool), n < 2304 → ofs < 2 ^ 26 → txn < 4096 →
    data.length = 32 → (∀ b ∈ data, b < 256) → okPkt p = true → s.niUp n = true → s.frozenAt n = false →
    let tile := ofs / 2 ^ 15 % 2 ^ 11
    (∀ (store : Bool) (d : List Nat), d.length ≤ 32 → (∀ b ∈ d, b < 256) →
      store = false ∨ d.length ≠ 32 ∨ ofs % 32 ≠ 0 ∨ s.tiles ≤ tile ∨ s.strict = true →
      Gives (.apStore n store ofs d.length d) s (s.apRefuse n (s.apCauses store ofs d.length)) ∧
      ((s.eu .ni n).parityArmed = false → Does (.apStore n store ofs d.length d) s fun t =>
        t.cr = s.cr.put n ⟨true, 0⟩ ∧ t.apt n = s.apt n ∧ t.spad = s.spad ∧
        (store = false → t.fld NI_AP_STATUS_AP_READ n = 1) ∧
        (store = true → d.length ≠ 32 ∨ ofs % 32 ≠ 0 → t.fld NI_AP_STATUS_AP_ALIGN n = 1) ∧ (s.tiles ≤ tile → t.fld NI_AP_STATUS_AP_RANGE n = 1) ∧ (s.strict = true → t.fld NI_AP_STATUS_AP_STRICT n = 1))) ∧
    (s.strict = false → ofs % 32 = 0 → tile < s.tiles → s.lmap n tile = none →
      Gives (.apStore n true ofs 32 data) s ((s.coreAns n true 0).niCause n NI_AP_STATUS_AP_FENCED 11 (3 + 2 ^ 17))) ∧
    (s.strict = false → ofs % 32 = 0 → tile < s.tiles → s.lmap n tile = some m →
      (8 ≤ (s.apt n).out.length ∨ (∃ q ∈ (s.apt n).out, q.1 = m) ∨ s.txnRoom n = false → Gives (.apStore n true ofs 32 data) s s) ∧
      ((s.apt n).out.length < 8 → (∀ q ∈ (s.apt n).out, q.1 ≠ m) → s.txnRoom n = true → Does (.apStore n true ofs 32 data) s fun t =>
        t.apt n = { s.apt n with out := (s.apt n).out ++ [(m, s.freeTxn n, ofs % 2 ^ 15, ofBytes data, false)] } ∧
        (t.fl n 32).queue = (s.fl n 32).queue ++ [mkDat opAP_WRITE (niLoc n) (niLoc m) (s.owner n) 0 (s.freeTxn n) [0] (ofs % 2 ^ 15) 0 0 data] ∧
        t.otx = s.otx ++ [⟨n, s.freeTxn n, .aperture, 0, 0, 0, s.chipId, s.accC (regionOf n), false, false⟩] ∧
        t.net = s.net ∧ t.regs = s.regs ∧ t.spad = s.spad)) ∧
    (p.kind = opAP_WRITE →
      let u := s.takeNet (.unit (niLoc n)) p.asSent
      let land := s.pairRange n (s.fld NI_AP_CFG_PAIR_LAND n)
      let tgt := s.pairRange n (s.fld NI_AP_CFG_PAIR_TGT n)
      let denied := s.tnState n ≠ 1 ∨ s.fld NI_AP_CFG_ENABLE n = 0 ∨ s.fld NI_AP_CFG_TENANCY n ≠ p.ten ∨
        s.owner n ≠ s.fld NI_AP_CFG_TENANCY n ∨ land.2 < 16384 ∨ tgt.2 < 16384 ∨ tgt.2 < p.arg 1 + 32 ∨
        s.pairForeign n (s.fld NI_AP_CFG_PAIR_LAND n) p.ten = true ∨ s.pairForeign n (s.fld NI_AP_CFG_PAIR_TGT n) p.ten = true
      let a := s.apt n
      let ack := fun (v : State) (st : Nat) => v.emit (mkPkt opWRITE_ACK (niLoc n) p.src p.ten p.flow p.txn [st, p.arg 0, 0])
      (denied → Gives (.apWrite n p) s (ack u stACCESS_DENIED)) ∧
      (¬ denied → 512 ≤ a.landing.length → Gives (.apWrite n p) s (ack (u.addFld NI_AP_BUSY_CNT_BUSY 1 n) stAP_BUSY)) ∧
      (¬ denied → a.landing.length < 512 →
        let v := ((u.setAp n { a with landing := a.landing ++ [(p.arg 1, a.place)], place := (a.place + 1) % 512 }).spadWrite n
          (land.1 + 32 * a.place) p.data).addPair NI_OPEN_RX_LO NI_OPEN_RX_HI p.data.length n
        (p.payBad = false → Gives (.apWrite n p) s (ack v stOK)) ∧
        (p.payBad = true → Gives (.apWrite n p) s (ack (v.report .ni n 10 (29 + 3 * 2 ^ 15)) stDATA_ERROR)))) ∧
    ((s.apt n).out.find? (fun q => q.2.1 == txn && q.2.2.2.2) = none → Gives (.apResend n txn) s s) ∧
    ((s.apt n).out.find? (fun q => q.2.1 == txn && q.2.2.2.2) = some o → Does (.apResend n txn) s fun t =>
      (t.fl n 32).queue = (s.fl n 32).queue ++
        [mkDat opAP_WRITE (niLoc n) (niLoc o.1) (s.owner n) 0 txn [0] o.2.2.1 0 0 (toBytes 32 o.2.2.2.1)] ∧
      (∀ q ∈ (t.apt n).out, q.2.1 = txn → q.2.2.2.2 = false) ∧ t.net = s.net ∧ t.regs = s.regs ∧ t.spad = s.spad ∧ t.otx = s.otx)

/-! ## In-network computation (06_in_network_computation.md) -/

/-- R184, R188, R189, R190: what a router does with a RED_DATA. A payload of a length that R188 does not give, a round below its slot's, and
another generation end in RED_FAIL at the root; a contribution in turn is combined in the slot's order and acknowledged; one out of turn is
staged where there is room and refused with RED_BUSY otherwise; a kept id discards; no free context refuses with NOCTX. In the hypotheses no
injected error or parity fault waits (R301). A contribution to a reduction in which the tile of the router takes part fails while that tile is
not ASSIGNED (R368). R189, R190, R200: what a router does with the answers of its parent and with failures. An acknowledged slot takes the round above by the number of contexts; a refused packet is kept and is sent again after its BACKOFF; the first
RED_FAIL at a root releases the reduction, keeps its id for 1 ms and is multicast as RED_ABORT; RED_ABORT releases it everywhere. Completion
of their own effect, from conditions on the state and the operands alone: redData, redAck, redBusy, redResend, redFail, redAbort,
redIdHoldExpire. -/
def Obligations.RoutersCombineAndReleaseReductions : Prop :=
  (∀ (s : State) (n : Nat) (p : Pkt) (ue : Bool) (r : RRed) (sl : RSlot), n < 2304 → okPkt p = true → s.routerUp n = true →
    s.frozenAt n = false → s.fld (xx_ERR_INJECT_ARM .red) n = 0 → (s.eu .red n).parityArmed = false →
    p.kind = opRED_DATA →
    let rid := p.arg 0
    let u := s.takeNet (.unit (niLoc n)) p
    let v := u.updRed n rid fun _ => r
    let i := p.arg 1 % r.slots.length
    let kid := kidOf n p
    let cut := p.arg 9 = 2 ∨ 3 < p.arg 9
    let held := (s.rt n).idHold.contains rid = true
    let form := redForm r.bind r.wide (p.arg 2)
    let x := decodeList form.1 (if kid = 4 then r.bind.inF else r.wireFmt) form.2 p.data
    let c := if sl.got = 0 then (redLoad form.1 r.bind.k x, false) else redCombine form.1 r.bind.inF r.bind.k r.wide sl.acc x
    let need := reCtxs (s.redEntry rid)
    let free := ((List.range 64).reverse).filter fun k => ((s.rt n).ctx.get k {}).owner == 0
    let used := ((s.rt n).ctx.filter fun e => e.2.owner == 2).length
    let shut := r.kids.contains 4 = true ∧ s.tnState n ≠ 1
    let alien := p.esc = true ∧ p.src.slot ≠ n ∧ p.arg 2 ≠ 3 ∧ p.egen ≠ r.gen
    (cut → Gives (.redData n p ue) s (u.redFail n rid stABORTED)) ∧
    (¬ cut → held → Gives (.redData n p ue) s u) ∧
    (¬ cut → ¬ held → s.red? n rid = some r → shut → Gives (.redData n p ue) s (u.redFail n rid stABORTED)) ∧
    (¬ cut → ¬ held → s.red? n rid = some r → ¬ shut → r.slots[i]? = some sl → sl.phase = p.arg 2 →
      (alien → Gives (.redData n p ue) s ((v.redCause n RT_RED_STATUS_GEN).redFail n rid stTARGET_FENCED)) ∧
      (¬ alien → p.arg 1 < sl.round →
        Gives (.redData n p ue) s ((v.redCause n RT_RED_STATUS_ORDER).redFail n rid stABORTED)) ∧
      (¬ alien → sl.round = p.arg 1 → sl.out = none → r.kids[sl.got]? = some kid → sl.got + 1 < r.kids.length →
        (s.rt n).staged = [] → Does (.redData n p ue) s fun t =>
          t.red? n rid = some { r with slots := r.slots.set i { sl with
            got := sl.got + 1
            acc := c.1
            sat := sl.sat || c.2 || p.arg 4 == 1
            err := sl.err || ue || p.arg 5 == 1
            last := sl.last || p.arg 3 == 1 } } ∧
          (kid = 4 → ⟨.unit (niLoc n), mkPkt opRED_ACK (niLoc n) (niLoc n) p.ten 0 0 [rid, p.arg 1]⟩ ∈ t.net) ∧
          (c.2 = false → t.regs = s.regs) ∧ t.spad = s.spad ∧ t.descs = s.descs ∧ t.redm = s.redm) ∧
      (¬ alien → sl.round ≤ p.arg 1 → r.inTurn kid p = false →
        let full := ((s.rt n).staged.map fun y => payFlits y.pkt).sum + payFlits p ≤ 64
        (full → Gives (.redData n p ue) s (v.modRt n fun q => { q with
          staged := q.staged ++ [⟨kid, if ue then { p with args := p.args.set 5 1 } else p⟩] })) ∧
        (¬ full → Gives (.redData n p ue) s (v.redAnswer n kid p opRED_BUSY [rid, p.arg 1, 0])))) ∧
    (¬ cut → ¬ held → s.red? n rid = none → free.length < need ∨ s.fld RT_RED_CFG_OPEN_MAX n < used + need →
      Gives (.redData n p ue) s ((u.redCause n RT_RED_STATUS_NOCTX).redAnswer n kid p opRED_BUSY [rid, p.arg 1, 1]))) ∧
  (∀ (s : State) (n i : Nat) (p : Pkt) (r : RRed) (sl : RSlot), n < 2304 → okPkt p = true → s.routerUp n = true →
    s.frozenAt n = false →
    let rid := p.arg 0
    let u := s.takeNet (.unit (niLoc n)) p
    (p.kind = opRED_ACK → p.src.slot ≠ n → s.redWaiting n rid (p.arg 1) = none → Gives (.redAck n p) s u) ∧
    (p.kind = opRED_ACK → p.src.slot ≠ n → s.red? n rid = some r → s.redWaiting n rid (p.arg 1) = some i → r.slots[i]? = some sl →
      r.fin = false → sl.last = false → (s.rt n).staged = [] → Does (.redAck n p) s fun t =>
        t.red? n rid = some { r with slots := r.slots.set i { round := sl.round + r.slots.length, phase := sl.phase } } ∧
        t.regs = s.regs ∧ t.spad = s.spad ∧ t.net = (s.takeNet (.unit (niLoc n)) p).net) ∧
    (p.kind = opRED_BUSY → p.src.slot ≠ n → s.red? n rid = some r → s.redWaiting n rid (p.arg 1) = some i → r.slots[i]? = some sl →
      Does (.redBusy n p) s fun t => t.red? n rid = some { r with slots := r.slots.set i { sl with busy := true } } ∧
        t.regs = s.regs ∧ t.spad = s.spad) ∧
    (p.kind = opRED_DATA → (s.redm? n rid).isNone = true → s.red? n rid = some r →
      r.slots.findIdx? (fun y => decide (y.out = some p) && y.busy) = some i → r.slots[i]? = some sl →
      Gives (.redResend n p) s ((s.updRed n rid fun q => match q.slots[i]? with
        | some y => { q with slots := q.slots.set i { y with busy := false } }
        | none => q).emit p)) ∧
    (p.kind = opRED_FAIL → (s.rt n).idHold.contains rid = true → Gives (.redFail n p) s u) ∧
    (p.kind = opRED_FAIL → (s.rt n).idHold.contains rid = false → Does (.redFail n p) s fun t =>
      t.red? n rid = none ∧ rid ∈ (t.rt n).idHold ∧ (∀ y ∈ (t.rt n).staged, y.pkt.arg 0 = rid → s.red? n rid = none) ∧
      ⟨.router n 4, mkPkt opRED_ABORT (niLoc n) (groupLoc (reGroup (s.redEntry rid))) 0 0 0 [rid, p.arg 1]⟩ ∈ t.net ∧
      t.regs = s.regs ∧ t.spad = s.spad ∧ t.descs = s.descs) ∧
    (p.kind = opRED_ABORT → s.redm? n rid = none → Gives (.redAbort n p) s (u.redAbortAt n rid)) ∧
    (∀ m, p.kind = opRED_ABORT → s.redm? n rid = some m → s.niUp n = true → Gives (.redAbort n p) s
      (((u.redAbortAt n rid).niCause n NI_RED_STATUS_ABORTED 13 2).redEnd m (p.arg 1))) ∧
    (∀ k, k < 4096 → Does (.redIdHoldExpire n k) s fun t => k ∉ (t.rt n).idHold ∧ (∀ j, j ≠ k → (j ∈ (t.rt n).idHold ↔ j ∈ (s.rt n).idHold)) ∧
      (t.rt n).reds = (s.rt n).reds ∧ t.regs = s.regs ∧ t.spad = s.spad ∧ t.net = s.net))

/-- R187, R188, R190, R191, R224: a member of a reduction. A REDUCE whose checks fail ends with the first status; one that runs contributes
at once, unless the NI runs eight: then it waits in its NI's line, and the head of the line goes first; one whose reduction id still runs
there makes both uses end ABORTED (R201: assumption 92, the model's reading); results are written
at DST in their rounds, with DATA_ERROR for a payload error and REDUCE_OVERFLOW for saturation; a round unacknowledged for LIMIT sends
RED_FAIL TIMEOUT to the root. Completion of their own effect, from conditions on the state and the operands alone: redResult,
redLimitExpire, reduce. -/
def Obligations.MembersContributeAndReceive : Prop :=
  ∀ (s : State) (n id rid : Nat) (p : Pkt) (ue : Bool) (d : Desc) (m : RMember), n < 2304 → rid < 4096 → okPkt p = true →
    s.niUp n = true → s.frozenAt n = false →
    (s.Started n id 0x10 d →
      (∀ st rest, s.redBad d (s.redMember d) = st :: rest → Gives (.reduce n id) s
        ((s.traceRec n 0x0A d.ten (some d.trace) 1 (s.redMember d).group (s.redMember d).rid (firstStatus (st :: rest))).finish id
          (firstStatus (st :: rest)))) ∧
      (s.redBad d (s.redMember d) = [] →
        let waits := 8 ≤ (s.redm.filter fun x => x.ni == n).length ∨ (s.redQueue n ≠ [] ∧ (s.redQueue n).head? ≠ some id)
        (waits → Gives (.reduce n id) s (if id ∈ s.redQueue n then s else { s with redWait := s.redWait ++ [id] })) ∧
        (¬ waits → s.redm? n (s.redMember d).rid ≠ none → Gives (.reduce n id) s
          (((((s.redCause n RT_RED_STATUS_ORDER).redFail n (s.redMember d).rid stABORTED).traceRec n 0x0A d.ten (some d.trace) 1
            (s.redMember d).group (s.redMember d).rid stABORTED).dequeueRed id).finish id stABORTED)) ∧
        (¬ waits → s.redm? n (s.redMember d).rid = none → Gives (.reduce n id) s (({ s with
          redm := s.redm ++ [s.redMember d]
          redWait := s.redWait.filter fun i => i != id }.descBusy id).redPump n (s.redMember d).rid)))) ∧
    (p.kind = opRED_ACK → p.src.slot = n → s.redm? n (p.arg 0) = some m → (m.out.any fun e => e.1 == p.arg 1) = false →
      Gives (.redAck n p) s (s.takeNet (.unit (niLoc n)) p)) ∧
    (p.kind = opRED_ACK → p.src.slot = n → s.redm? n (p.arg 0) = some m → (s.desc? m.desc).isSome = true →
      (m.out.any fun e => e.1 == p.arg 1) = true → m.total ≤ m.next → m.phase = 0 → 2 ≤ m.out.length →
      Does (.redAck n p) s fun t =>
        t.redm? n (p.arg 0) = some { m with out := delFirst (fun e => e.1 == p.arg 1) m.out } ∧ t.regs = s.regs ∧ t.spad = s.spad) ∧
    (p.kind = opRED_BUSY → p.src.slot = n → s.redm? n (p.arg 0) = some m → (m.out.any fun e => e.1 == p.arg 1) = true →
      Gives (.redBusy n p) s (((s.takeNet (.unit (niLoc n)) p).updRedm n (p.arg 0) fun x => { x with
        out := updFirst (fun e => e.1 == p.arg 1) (fun e => (e.1, e.2.1, true)) x.out }).niCause n NI_RED_STATUS_BUSY 13 0)) ∧
    (p.kind = opRED_DATA → s.redm? n (p.arg 0) = some m → (m.out.any fun e => decide (e.2.1 = p) && e.2.2) = true →
      Gives (.redResend n p) s ((s.updRedm n (p.arg 0) fun x => { x with
        out := updFirst (fun e => decide (e.2.1 = p)) (fun e => (e.1, p, false)) x.out }).enqueue n p.flow p)) ∧
    (p.kind = opRED_RESULT → s.redm? n (p.arg 0) = some m → ue = false →
      p.arg 2 = 0 → m.phase = 0 → p.arg 3 = 0 → m.fin = false → m.next = m.total → m.out ≠ [] → (s.desc? m.desc).isSome = true →
      Does (.redResult n p ue) s fun t =>
        t.spad = (s.spadWrite n (m.dst + p.data.length * p.arg 1) p.data).spad ∧
        t.redm? n (p.arg 0) = some { m with
          got := m.got + 1
          sts := m.sts ++ ((if p.arg 5 = 1 then [stDATA_ERROR] else []) ++ (if p.arg 4 = 1 then [stREDUCE_OVERFLOW] else [])) } ∧
        t.regs = s.regs) ∧
    (s.redm? n rid = none → Gives (.redLimitExpire n rid) s s) ∧
    (s.redm? n rid = some m → m.out = [] → Gives (.redLimitExpire n rid) s s) ∧
    (s.redm? n rid = some m → m.out ≠ [] → Gives (.redLimitExpire n rid) s
      ((s.redFail n rid stTIMEOUT).niCause n NI_RED_STATUS_FAIL_SENT 13 1))

/-- R195, R196, R225: the AIR commands. Each checks COUNT, FMT and its ranges, and ends with the first status; AIR_EXTRACT writes the
exponent entry of each block of 32 values, AIR_CONVERT their integers on the grid of the merged entry, and AIR_FINISH the sums rounded once
to the format; nothing else of scratchpad changes. Completion of their own effect, from conditions on the state and the operands alone:
airExtract, airConvert, airFinish. -/
def Obligations.AirCommandsWriteTheirRanges : Prop :=
  ∀ (s : State) (n id : Nat) (d : Desc), n < 2304 →
    let count := bits (d.w 5) 31 0
    let fmt := bits (d.w 5) 36 32
    let runs := fun (op : Nat) => s.Started n id op d
    let vs := s.airValues n (s.ownOfs n (d.w 2)) fmt count
    let ent := fun (k : Nat) => ofBytes (s.spadRead n (s.ownOfs n (d.w 4) + 2 * k) 2)
    (runs 0x11 → count ≠ 0 → floatIn fmt = true → (isMx fmt = true → s.ownOfs n (d.w 2) % 16 = 0) →
      s.ownRange d d.srcHost (d.w 2) (airBytes fmt count) false stACCESS_DENIED = [] →
      s.ownRange d d.dstHost (d.w 3) (2 * cdiv count 32) true stACCESS_DENIED = [] →
      Gives (.airExtract n id) s ((s.spadWrite n (s.ownOfs n (d.w 3)) ((List.range (cdiv count 32)).flatMap fun k =>
        toBytes 2 (airEntry (slice vs (32 * k) 32)))).finish id stOK)) ∧
    (runs 0x12 → count ≠ 0 → floatIn fmt = true → (isMx fmt = true → s.ownOfs n (d.w 2) % 16 = 0) →
      s.ownRange d d.srcHost (d.w 2) (airBytes fmt count) false stACCESS_DENIED = [] →
      s.ownRange d d.dstHost (d.w 3) (256 * cdiv count 32) true stACCESS_DENIED = [] →
      s.ownRange d false (d.w 4) (2 * cdiv count 32) false stACCESS_DENIED = [] →
      Gives (.airConvert n id) s ((s.spadWrite n (s.ownOfs n (d.w 3)) ((List.range (cdiv count 32)).flatMap fun k =>
        (slice vs (32 * k) 32).flatMap fun v => toBytes 8 (patternOf 64 (airConvert (ent k) v)))).finish id stOK)) ∧
    (runs 0x13 → count ≠ 0 → fmt ≤ 4 →
      s.ownRange d d.srcHost (d.w 2) (8 * count) false stACCESS_DENIED = [] →
      s.ownRange d d.dstHost (d.w 3) (count * elemSize fmt) true stACCESS_DENIED = [] →
      s.ownRange d false (d.w 4) (2 * cdiv count 32) false stACCESS_DENIED = [] →
      Gives (.airFinish n id) s ((s.spadWrite n (s.ownOfs n (d.w 3)) ((List.range count).flatMap fun i =>
        airFinish fmt (ent (i / 32)) (signedOf 64 (ofBytes (s.spadRead n (s.ownOfs n (d.w 2) + 8 * i) 8))))).finish id stOK)) ∧
    (∀ e ∈ [(0x11, Instr.airExtract n id), (0x12, .airConvert n id), (0x13, .airFinish n id)], runs e.1 → count = 0 →
      ∃ st rest, Gives e.2 s (s.finish id (firstStatus (st :: rest))) ∧ stBAD_DESCRIPTOR ∈ st :: rest)

/-- R178, R179, R195, R197, R252: what makes strict results independent of the order of the members. The exact sums, integer MAX and MIN and
the merge of exponent entries give one result whatever the order and grouping; a default integer SUM clamps to 32 bits and says so exactly
when it clamped. -/
def Obligations.StrictCombiningIsOrderFree : Prop :=
  ∀ (k : Nat) (a b c : List Int), a.length = b.length → b.length = c.length →
    (∀ op inF, (op = 0 ∧ isInt inF = true) ∨ op = 7 →
      (redCombine op inF k true a b).1 = (redCombine op inF k true b a).1 ∧
      (redCombine op inF k true (redCombine op inF k true a b).1 c).1 = (redCombine op inF k true a (redCombine op inF k true b c).1).1 ∧
      (redCombine op inF k true a b).2 = false ∧
      ∀ i : Nat, i < a.length → (redCombine op inF k true a b).1[i]? = some (wrap64 (a.getD i 0 + b.getD i 0))) ∧
    (∀ op inF, op = 1 ∨ op = 2 → isInt inF = true →
      redCombine op inF k true a b = redCombine op inF k true b a ∧
      redCombine op inF k true (redCombine op inF k true a b).1 c = redCombine op inF k true a (redCombine op inF k true b c).1) ∧
    (∀ x y z : Nat, x < 2 ^ 16 → y < 2 ^ 16 → z < 2 ^ 16 → emaxMerge x y = emaxMerge y x ∧
      emaxMerge (emaxMerge x y) z = emaxMerge x (emaxMerge y z)) ∧
    (∀ inF, isInt inF = true →
      (∀ v ∈ (redCombine 0 inF k false a b).1, -2147483648 ≤ v ∧ v ≤ 2147483647) ∧
      ((redCombine 0 inF k false a b).2 = true ↔ ∃ i : Nat, i < a.length ∧
        (a.getD i 0 + b.getD i 0 < -2147483648 ∨ 2147483647 < a.getD i 0 + b.getD i 0)))

/-! ## The command interface (07_command_interface.md) -/

/-- R207, R208, R209: ring bells and what they start. A host port in its safe state discards a bell (R282). A bell of an idle or replayed ring, or through a page of another tenancy, only counts
an event; any other becomes a BELL to the serving NI, which reads the ring's record; a record whose TAIL passes the ring's size sets OVERRUN
and halts fetching, and any other is taken and its descriptors fetched. R211, R212, R213, R236: rings and tile queues. Enabling one with a
size or place that the rules forbid sets CFG_ERR and leaves it disabled; otherwise its indices restart. A tile queue's bell takes its TAIL
and CQ_HEAD, or sets OVERRUN. A completion waits while the queue has no room, and is written with the PHASE of its index otherwise. In the
hypotheses no injected parity fault waits (R301). That a tag is the lowest free one, and that a record is written by the response queue, are
the model's choices (assumptions 148 and 58). Completion of their own effect, from conditions on the state and the operands alone: tnBell,
fbBell, bell, doorbellRecordRead, descriptorFetch, cqRecheck, completionWrite, ringCfgWrite, tqBell, tqCfgWrite. -/
def Obligations.BellsRingsAndQueues : Prop :=
  (∀ (s : State) (hp t v n o slot : Nat) (p : Pkt) (x : OTx), hp < 2 → t < 64 → v < 2 ^ 32 → n < 2304 → o < 4096 → okPkt p = true →
    let r := bits v 11 0
    let ten := s.ringTen r
    let tk := s.takeNet (.unit (niLoc n)) p
    (∀ c off, (c = .tnBell hp t v ∧ off = TN_BELL.addr t 0) ∨ (c = .fbBell hp v ∧ off = FB_BELL.addr 0 0) → s.regAlive off = true →
      let u := s.serveWrite off v
      let safe := s.fld (xx_ERR_STATUS_SAFE .hp) hp
      (safe = 1 → Gives c s u) ∧
      (safe = 0 → s.fld FB_RING_CFG_ENABLE 0 r = 0 ∨ s.replayMode 2 ten = true → Gives c s (u.unitEvent .hp hp 1 r)) ∧
      (safe = 0 → s.fld FB_RING_CFG_ENABLE 0 r = 1 → s.replayMode 2 ten = false →
        (c = .tnBell hp t v → t ≠ ten → Gives c s (u.unitEvent .hp hp 2 r)) ∧
        ((c = .tnBell hp t v → t = ten) → s.hpLmap hp (s.fld FB_RING_CFG_SERVER 0 r) = some slot → Gives c s
          (((u.addFld HP_BELLS_CNT 1 hp).log .hp hp 0x60 15 0 r).sendBell hp r slot)))) ∧
    (s.niUp n = true → s.frozenAt n = false →
      (p.kind = opBELL → Gives (.bell n p) s
        ((tk.replayLog (tk.ringTen (p.arg 0)) 0x01 (p.arg 0) [p.arg 1, 0, 0]).readRecord n (p.arg 0) true)) ∧
      ((s.rng o).reading = true → ∀ b, s.readRecord n o b = s.setRing o { s.rng o with again := (s.rng o).again || b }) ∧
      (s.findTx n p.txn = some x → x.use = .record → p.kind = opREAD_DATA ∨ p.kind = opREAD_ERR →
        let y := s.rng x.arg
        let u := (tk.delTx n p.txn).setRing x.arg { y with reading := false, again := false }
        let w := if p.kind = opREAD_ERR ∨ p.arg 0 ≠ 0 then
            (u.setRing x.arg { y with reading := false, again := false, bell := false }).ringCause n x.arg 13
          else u.recordIn n x.arg (ofBytes (p.data.take 4)) (ofBytes (slice p.data 8 4))
        (y.again = false → Gives (.doorbellRecordRead n p) s w) ∧
        (y.again = true → Gives (.doorbellRecordRead n p) s (w.readRecord n x.arg true))) ∧
      (∀ tail cq, tail < 2 ^ 32 → cq < 2 ^ 32 → s.replayMode 1 (s.ringTen o) = false → s.replayMode 2 (s.ringTen o) = false →
        let y := s.rng o
        let past := 2 ^ s.ringSize o < (tail + 2 ^ 32 - y.head % 2 ^ 32) % 2 ^ 32
        let waits := y.halted = true ∧ y.bell = false
        (past → s.recordIn n o tail cq = (s.setRing o { y with bell := false, halted := true }).ringCause n o 14) ∧
        (¬ past → waits → s.recordIn n o tail cq = s.setRing o { y with bell := false, cqHead := cq }) ∧
        (¬ past → ¬ waits → s.recordIn n o tail cq =
          (s.setRing o { y with bell := false, tail := tail, cqHead := cq, halted := false }).fetchRing n o)) ∧
      (s.findTx n p.txn = some x → x.use = .descFetch → x.arg = o →
        (p.kind = opREAD_DATA → p.arg 0 = 0 → Gives (.descriptorFetch n o p) s ((tk.delTx n p.txn).descsIn n o p.data)) ∧
        (p.kind = opREAD_ERR ∨ (p.kind = opREAD_DATA ∧ p.arg 0 ≠ 0) → Gives (.descriptorFetch n o p) s
          (((tk.delTx n p.txn).setRing o { s.rng o with fetching := 0, halted := true }).ringCause n o 13))) ∧
      (∀ q, q < 4 → Gives (.descriptorFetch n (4096 + q) p) s (s.fetchQueue n q)) ∧
      ((s.rng o).ni = n → s.cqRoom o = false → (s.rng o).reading = false →
        s.fld FB_RING_CFG_ENABLE 0 o = 1 ∨ s.cplq.any (fun c => c.ni == n && c.origin == o) = true →
        Gives (.cqRecheck n o) s (s.readRecord n o false)))) ∧
  (∀ (s : State) (r n q v o : Nat) (host : List Nat), r < 4096 → n < 2304 → q < 4 → v < 2 ^ 32 → o < 4096 → okBytes host = true →
    (∀ u i, (s.eu u i).parityArmed = false) →
    (s.regAlive (FB_RING_CFG.addr 0 r) = true → bits v 31 31 = 1 →
      let bad := bits v 23 20 < 6 ∨ bits v 19 16 < 6 ∨ s.tiles ≤ bits v FB_RING_CFG_SERVER.hi FB_RING_CFG_SERVER.lo
      (bad → Does (.ringCfgWrite r v) s fun t => t.fld FB_RING_CFG_CFG_ERR 0 r = 1 ∧ t.fld FB_RING_CFG_ENABLE 0 r = 0 ∧
        t.ring = s.ring ∧ s.RegsKept t [FB_RING_CFG.addr 0 r]) ∧
      (¬ bad → Does (.ringCfgWrite r v) s fun t => t.fld FB_RING_CFG_CFG_ERR 0 r = 0 ∧ t.fld FB_RING_CFG_ENABLE 0 r = 1 ∧
        t.fld FB_RING_CFG_SIZE 0 r = bits v 23 20 ∧ t.fld FB_RING_CFG_CQ_SIZE 0 r = bits v 19 16 ∧
        t.rd FB_RING_HEAD 0 r = 0 ∧
        t.rng r = { ni := (t.hpLmap (t.fld FB_RING_CFG_HP 0 r) (t.fld FB_RING_CFG_SERVER 0 r)).getD 2304 } ∧ (∀ k, k ≠ r → t.rng k = s.rng k) ∧
        s.RegsKept t [FB_RING_CFG.addr 0 r, FB_RING_HEAD.addr 0 r] ∧ t.spad = s.spad)) ∧
    (s.regAlive (NI_TQn_CFG.addr n q) = true → v / 2 ^ 31 % 2 = 1 →
      let sz := bits v 19 16
      let cq := bits v 15 12
      (sz < 6 ∨ 12 < sz ∨ cq < 6 ∨ 12 < cq → Does (.tqCfgWrite n q v) s fun t =>
        t.fld NI_TQn_CFG_CFG_ERR n q = 1 ∧ t.fld NI_TQn_CFG_ENABLE n q = 0 ∧ t.ring = s.ring ∧ s.RegsKept t [NI_TQn_CFG.addr n q]) ∧
      (∀ pair, pair = bits v NI_TQn_CFG_PAIR.hi NI_TQn_CFG_PAIR.lo → 6 ≤ sz → sz ≤ 12 → 6 ≤ cq → cq ≤ 12 →
        64 * s.fld NI_TQn_BASE_DQ_OFF n q + 64 * 2 ^ sz ≤ (s.pairRange n pair).2 →
        64 * s.fld NI_TQn_BASE_CQ_OFF n q + 32 * 2 ^ cq ≤ (s.pairRange n pair).2 →
        s.pairForeign n pair (bits v NI_TQn_CFG_TENANCY.hi NI_TQn_CFG_TENANCY.lo) = false →
        Does (.tqCfgWrite n q v) s fun t => t.fld NI_TQn_CFG_CFG_ERR n q = 0 ∧ t.fld NI_TQn_CFG_ENABLE n q = 1 ∧
          (s.fld NI_TQn_CFG_ENABLE n q = 1 → t.ring = s.ring ∧ s.RegsKept t [NI_TQn_CFG.addr n q]) ∧
          (s.fld NI_TQn_CFG_ENABLE n q = 0 → t.rd NI_TQn_STATE n q = 0 ∧ t.rd NI_TQn_PTR n q = 0 ∧
            t.rng (4096 + 4 * n + q) = { ni := n } ∧
            s.RegsKept t [NI_TQn_CFG.addr n q, NI_TQn_STATE.addr n q, NI_TQn_PTR.addr n q]))) ∧
    (s.regAlive (NI_TQn_PTR.addr n q) = true →
      let key := 4096 + 4 * n + q
      let y := s.rng key
      let past := 2 ^ s.ringSize key < (bits v 15 0 + 2 ^ 16 - y.head % 2 ^ 16) % 2 ^ 16
      (s.fld NI_TQn_CFG_ENABLE n q = 0 → Does (.tqBell n q v) s fun t => t.ring = s.ring ∧ s.RegsKept t [NI_TQn_PTR.addr n q]) ∧
      (s.fld NI_TQn_CFG_ENABLE n q = 1 → past → Does (.tqBell n q v) s fun t =>
        t.rng key = { y with ni := n, halted := true } ∧ t.fld NI_TQn_CFG_OVERRUN n q = 1) ∧
      (s.fld NI_TQn_CFG_ENABLE n q = 1 → ¬ past → Does (.tqBell n q v) s fun t =>
        t.rng key = { y with ni := n, tail := bits v 15 0, cqHead := bits v 31 16, halted := false } ∧
        s.RegsKept t [NI_TQn_PTR.addr n q] ∧ t.spad = s.spad ∧ t.descs = s.descs)) ∧
    (s.cplq.find? (fun c => c.ni == n && c.origin == o) = none ∨ s.cqRoom o = false → Gives (.completionWrite n o host) s s) ∧
    (∀ c, s.cplq.find? (fun c => c.ni == n && c.origin == o) = some c → c.prov = none → c.asked = none → s.cqRoom o = true →
      s.txnRoom n = true → s.niUp n = true → s.frozenAt n = false → c.silent = true → c.words.getD 0 0 % 256 = 0 →
      Gives (.completionWrite n o host) s { s with cplq := delFirst (fun x => decide (x = c)) s.cplq }) ∧
    (∀ c, s.cplq.find? (fun c => c.ni == n && c.origin == 4096 + q) = some c → c.prov = none → c.asked = none → c.silent = false →
      s.cqRoom (4096 + 4 * n + q) = true → s.txnRoom n = true → s.niUp n = true → s.frozenAt n = false →
      let y := s.rng (4096 + 4 * n + q)
      let sz := s.fld NI_TQn_CFG_CQ_SIZE n q
      let tail := (y.cqTail + 1) % 2 ^ 16
      let w3 := c.words.getD 3 0 + (((y.cqTail / 2 ^ sz) + 1) % 2) * 2 ^ 63
      let base := (s.pairRange n (s.fld NI_TQn_CFG_PAIR n q)).1 + 64 * s.fld NI_TQn_BASE_CQ_OFF n q
      Gives (.completionWrite n (4096 + q) host) s
        (((({ s with cplq := delFirst (fun x => decide (x = c)) s.cplq }.setRing (4096 + 4 * n + q) { y with
            cqTail := tail
            irqs := y.irqs + b2n c.irq }).spadWrite n (base + 32 * (y.cqTail % 2 ^ sz))
              ([c.words.getD 0 0, c.words.getD 1 0, c.words.getD 2 0, w3].flatMap (toBytes 8))).setFld NI_TQn_STATE_CQ_TAIL tail n q))) ∧
    (∀ c, s.cplq.find? (fun c => c.ni == n && c.origin == o) = some c → c.prov = none → c.asked = none → c.silent = false →
      s.cqRoom o = true → s.txnRoom n = true → s.niUp n = true → s.frozenAt n = false →
      let y := s.rng o
      let w3 := c.words.getD 3 0 + (((y.cqTail / 2 ^ s.fld FB_RING_CFG_CQ_SIZE 0 o) + 1) % 2) * 2 ^ 63
      Gives (.completionWrite n o host) s
        ((({ s with cplq := delFirst (fun x => decide (x = c)) s.cplq }.setRing o { y with cqTail := (y.cqTail + 1) % 2 ^ 32 }).addTx
          ⟨n, s.freeTxn n, .cplWr, 0, 0, 2 * o + b2n c.irq, s.chipId, 0, false, false⟩).enqueue n respFlow
          (mkDat opWRITE (niLoc n) (hpLoc (s.fld FB_RING_CFG_HP 0 o)) (s.ringTen o) 0 (s.freeTxn n) [0]
            (s.ringCq o + 32 * (y.cqTail % 2 ^ s.fld FB_RING_CFG_CQ_SIZE 0 o)) 0 0
            ([c.words.getD 0 0, c.words.getD 1 0, c.words.getD 2 0, w3].flatMap (toBytes 8))))))

/-- R114, R217, R229, R230, R231, R234, R368, R375: the start of a descriptor and its completion. One of a host ring at an NI that is not
ASSIGNED to the ring's tenancy ends ACCESS_DENIED whether its turn has come or not; another that waits for its turn or its beat does not
start; one that starts takes START and the mode, and one of an opcode that is not listed or not the ring's, or of another tenancy's flow ends at once, the last with FLOW_DENIED; whose flow it is was judged as the descriptor arrived. A NOP ends OK,
with a completion exactly when CPL is set; PROV without CPL queues one that is written only where its provenance fails. Completion of their
own effect, from conditions on the state and the operands alone: descriptorStart, notBeforeReached, nop. -/
def Obligations.DescriptorsStartInTurnAndComplete : Prop :=
  ∀ (s : State) (n id : Nat) (d : Desc) (c : Instr), n < 2304 → s.desc? id = some d → d.ni = n → s.niUp n = true →
    s.frozenAt n = false →
    let u := ((s.updDesc id fun x => { x with
      phase := 1
      startTs := s.stampOf (regionOf n)
      startH := s.time.h
      startDigest := s.fbDigest
      startMode := s.rd FB_MODE }).stamped (regionOf n)).log .ni n 0x01 15 0
        ((d.index % 65536) * 65536 + (d.origin % 256) * 256 + d.opcode)
    (c = .descriptorStart n id ∨ (c = .notBeforeReached n id ∧ d.fNB = true) →
      let may := s.tnState n = 1 ∧ (4096 ≤ d.origin ∨ d.ten = s.owner n)
      (d.phase ≠ 0 → Gives c s s) ∧
      (d.phase = 0 → ¬ may → Gives c s (u.finish id stACCESS_DENIED)) ∧
      (may → s.turn d = false ∨ (d.fNB = true ∧ 2 ^ 31 ≤ (s.accC (regionOf n) + 2 ^ 32 - d.notBefore) % 2 ^ 32) → Gives c s s) ∧
      (d.phase = 0 → may → s.turn d = true → s.nbPassed d = true →
        (listedOp d.opcode = false ∨ (tileOnly d.opcode = true ∧ d.origin < 4096) → Gives c s (u.finish id stBAD_DESCRIPTOR)) ∧
        (listedOp d.opcode = true → (tileOnly d.opcode = true → 4096 ≤ d.origin) →
          (d.denied = true → Gives c s ((u.niCause n NI_OPEN_STATUS_FLOW_DENIED 10 0).finish id stACCESS_DENIED)) ∧
          (d.denied = false → Does c s fun t =>
            t.desc? id = some { d with
              phase := 1
              startTs := s.stampOf (regionOf n)
              startH := s.time.h
              startDigest := s.fbDigest
              startMode := s.rd FB_MODE } ∧
            t.cplq = s.cplq ∧ t.spad = s.spad ∧ t.net = s.net)))) ∧
    (d.fNB = false → Gives (.notBeforeReached n id) s s) ∧
    (d.phase = 1 → d.opcode = 0x00 → Does (.nop n id) s fun t =>
      t.desc? id = none ∧ (∀ e ∈ s.descs, e.id ≠ id → e ∈ t.descs) ∧ t.spad = s.spad ∧
      (d.fCPL = false → d.fPROV = false → t.cplq = s.cplq) ∧
      (d.fCPL = false → d.fPROV = true → ∃ e, t.cplq = s.cplq ++ [e] ∧ e.silent = true ∧ e.prov = some d) ∧
      (d.fCPL = true → ∃ e, t.cplq = s.cplq ++ [e] ∧ e.ni = n ∧ e.origin = d.origin ∧ e.irq = d.fIRQ ∧
        bits (e.words.getD 0 0) 7 0 = stOK ∧ e.words.getD 1 0 = d.startTs ∧ bits (e.words.getD 3 0) 15 0 = d.index % 65536)) ∧
    (∀ o first ten ds, ∀ e ∈ (s.acceptDescs n o first ten ds).descs, e ∈ s.descs ∨ (e.ni = n ∧ e.phase = 0 ∧ e.ten = ten ∧
      (e.denied = true ↔ flowKeyed e.opcode = true ∧ s.fld NI_FLOW_CFG_TENANCY n e.flowNo ≠ ten)))

/-- R133, R147: the parts of a transfer. They cover the range in order with nothing left over; none is empty, longer than 4,096 bytes, or
crosses a 4 KiB boundary of an HBM source or destination. -/
def Obligations.TransfersAreCutIntoPackets : Prop :=
  ∀ (srcHbm dstHbm : Bool) (src dst len : Nat),
    let l := cutChunks srcHbm dstHbm (2 * (len / 4096) + 4) src dst len
    (l.map (·.len)).sum = len ∧ ∀ i c, l[i]? = some c →
      0 < c.len ∧ c.len ≤ 4096 ∧ c.src = src + ((l.take i).map (·.len)).sum ∧ c.dst = dst + ((l.take i).map (·.len)).sum ∧
      (srcHbm = true → c.src % 4096 + c.len ≤ 4096) ∧ (dstHbm = true → c.dst % 4096 + c.len ≤ 4096) ∧ c.st = 0 ∧ c.data = []

/-- R148, R150, R153, R218, R219, R220, R221: COPY, MCAST_WRITE and ATOMIC. What their bodies forbid and what is wrong with the addresses that
they name end them with the first status in the order of R467, before anything is sent (R5, R14, R338, R363); what they allow starts a transfer cut into packets, with credits first where the destination is scratchpad, or sends the atomic; they wait while no
transaction number is free, and take the lowest free one (the model's choice, assumption 148). R130, R131, R140, R142, R222: the window
descriptors. A SPACE other than 00 is refused; a window of another tenancy or unknown ends with its status; an own window opens with all its
pool free, takes credits back from USED, or starts to close; and the message goes to the owner of any other. Completion of their own effect,
from conditions on the state and the operands alone: copy, mcastWrite, atomic, winOpen, winClose, winReplenish. -/
def Obligations.DescriptorsStartTransfersAndActOnWindows : Prop :=
  (∀ (s : State) (n id : Nat) (d : Desc), n < 2304 →
    let len := bits (d.w 4) 31 0
    let srcHbm := !d.srcHost && adSpace (d.w 2) == 1
    let dstHbm := !d.dstHost && adSpace (d.w 3) == 1
    (s.Started n id 0x01 d →
      let bad := (if len = 0 ∨ (d.srcHost = true ∧ d.dstHost = true) then [stBAD_DESCRIPTOR] else []) ++
        s.nameStatus n d.flowNo d.srcHost d.hpsel (d.w 2) len ++ s.nameStatus n d.flowNo d.dstHost d.hpsel (d.w 3) len ++
        s.classStatus d len
      (bad ≠ [] → Gives (.copy n id) s (s.finish id (firstStatus bad))) ∧
      (bad = [] →
        (∃ l, s.destAddr n d.flowNo d.dstHost d.hpsel (d.w 3) = .to l ∧
          (s.txnRoom n = false → Gives (.copy n id) s s) ∧
          (s.txnRoom n = true → Gives (.copy n id) s ((s.descBusy id).startXfer
            { newXfer s d .copy with
              dstLoc := l
              policy := bits (d.w 4) 32 32
              chunks := cutChunks srcHbm dstHbm (2 * (len / 4096) + 4) (d.w 2) (d.w 3) len }
            (!d.dstHost && adSpace (d.w 3) == 0) (bits (d.w 4) 33 33) (bits (d.w 4) 49 34) (d.w 3)))))) ∧
    (s.Started n id 0x02 d →
      let g := bits (d.w 4) 41 32
      let bad := (if s.grpOk g d.ten = true then [] else [stACCESS_DENIED]) ++
        (if len = 0 ∨ d.dstHost = true ∨ adChip (d.w 3) ≠ s.chipId ∨ adSpace (d.w 3) ≠ 0 ∨ d.w 5 % 32 ≠ 0 then [stBAD_DESCRIPTOR] else []) ++
        s.nameStatus n d.flowNo d.srcHost d.hpsel (d.w 2) len ++ s.classStatus d len ++
        (if d.w 5 = 0 then [] else s.nameStatus n d.flowNo d.auxHost d.hpsel (d.w 5) 288)
      (bad ≠ [] → Gives (.mcastWrite n id) s (s.finish id (firstStatus bad))) ∧
      (bad = [] → (s.txnRoom n = false → Gives (.mcastWrite n id) s s) ∧
        (s.txnRoom n = true → Gives (.mcastWrite n id) s ((s.descBusy id).startXfer
          { newXfer s d .mcast with
            dstLoc := groupLoc g
            group := some g
            members := s.grpMembers g
            policy := bits (d.w 4) 42 42
            missAddr := d.w 5
            missHost := d.auxHost
            chunks := cutChunks srcHbm false (2 * (len / 4096) + 4) (d.w 2) (d.w 3) len }
          true (bits (d.w 4) 43 43) (bits (d.w 4) 59 44) (d.w 3))))) ∧
    (s.Started n id 0x03 d →
      let a := d.w 2
      let cas := (d.w 6).testBit 5
      let wide := bits (d.w 6) 4 4
      let aop := bits (d.w 6) 3 0
      let bytes := if wide = 1 then 8 else 4
      let bad := (if a % bytes ≠ 0 ∨ (cas = false ∧ (10 ≤ aop ∨ (aop = 9 ∧ wide = 1))) ∨
          (d.srcHost = true ∧ s.sigPageOf d.hpsel d.ten a = none) then [stBAD_DESCRIPTOR] else []) ++
        s.nameStatus n d.flowNo d.srcHost d.hpsel a bytes ++
        (if d.w 5 = 0 then [] else s.nameStatus n d.flowNo d.auxHost d.hpsel (d.w 5) 8) ++
        (if cas = false ∧ aop = 9 ∧ d.startMode % 2 = 1 then [stSTRICT_FORBIDDEN] else [])
      (bad ≠ [] → Gives (.atomic n id) s (s.finish id (firstStatus bad))) ∧
      (bad = [] →
        (∃ l, s.destAddr n d.flowNo d.srcHost d.hpsel a = .to l ∧
          (s.txnRoom n = false → Gives (.atomic n id) s s) ∧
          (s.txnRoom n = true →
            let u := (s.descBusy id).addTx ⟨n, s.freeTxn n, .atomic, id, 0, 0, if d.srcHost then s.chipId else adChip a, 0, false, false⟩
            (cas = true → Gives (.atomic n id) s (u.emit (mkPkt opATOMIC_CAS (niLoc n) l d.ten d.flowNo (s.freeTxn n) [a, wide, d.w 4, d.w 3]))) ∧
            (cas = false → Gives (.atomic n id) s (u.emit (mkPkt opATOMIC (niLoc n) l d.ten d.flowNo (s.freeTxn n) [a, aop, wide, d.w 3])))))))) ∧
  (∀ (s : State) (n flow hp a len : Nat),
    (2 ≤ adSpace a ∨ (adSpace a = 0 ∧ s.tiles ≤ adTile a) → s.nameStatus n flow false hp a len = [stBAD_DESCRIPTOR]) ∧
    (adSpace a = 1 → adChip a = s.chipId → (∃ k, k < len ∧ (s.niMap n).decode (adBig a + k) = none) →
      s.nameStatus n flow false hp a len = [stBAD_DESCRIPTOR]) ∧
    (adSpace a = 0 → adTile a < s.tiles → adChip a = s.chipId → s.lmap n (adTile a) = none →
      s.nameStatus n flow false hp a len = [stTARGET_FENCED]) ∧
    s.nameStatus n flow true hp a len = []) ∧
  (∀ (s : State) (n id : Nat) (d : Desc), n < 2304 →
    let a := d.w 2
    let h := adHandle a
    let w := s.window n h
    let pool := bits (d.w 3) 12 0
    (∀ e ∈ [(0x04, Instr.winOpen n id), (0x05, .winClose n id), (0x06, .winReplenish n id)], s.Started n id e.1 d →
      (adSpace a ≠ 0 → Gives e.2 s (s.finish id stBAD_DESCRIPTOR)) ∧
      (adSpace a = 0 → s.ownAddr n false a = true → ∀ st, s.winCheck n h d.ten = some st → Gives e.2 s (s.finish id st)) ∧
      (adSpace a = 0 → s.ownAddr n false a = false →
        (∀ st, s.destOf n d.flowNo a = .bad st → Gives e.2 s (s.finish id st)) ∧
        (∀ l, s.destOf n d.flowNo a = .to l → s.txnRoom n = false → Gives e.2 s s) ∧
        (∀ l, s.destOf n d.flowNo a = .to l → s.txnRoom n = true →
          let t := s.freeTxn n
          let u := (s.descBusy id).addTx ⟨n, t, .winOp, id, 0, 0, adChip a, 0, false, false⟩
          (e.1 = 0x04 → Gives e.2 s (u.emit (mkPkt opWIN_OPEN (niLoc n) l d.ten d.flowNo t [a, pool, bits (d.w 3) 25 13]))) ∧
          (e.1 = 0x06 → Gives e.2 s (u.emit (mkPkt opWIN_REPLENISH (niLoc n) l d.ten d.flowNo t [a, pool]))) ∧
          (e.1 = 0x05 → adChip a = s.chipId → Gives e.2 s (u.emit (mkPkt opWIN_CLOSE (niLoc n) l d.ten d.flowNo t
            [bits (d.w 3) 0 0, h, bits (d.w 3) 31 16, t, 0, 0]))) ∧
          (e.1 = 0x05 → adChip a ≠ s.chipId → Gives e.2 s (u.emit (mkPkt opWIN_CLOSE (niLoc n) l d.ten d.flowNo t
            [bits (d.w 3) 0 0, h, bits (d.w 3) 31 16, t, adChip a, adTile a])))))) ∧
    (adSpace a = 0 → s.ownAddr n false a = true → s.winCheck n h d.ten = none →
      (s.Started n id 0x04 d →
        let bad := w.state ≠ 0 ∨ pool = 0 ∨ (s.hdlRange n h).2 < pool * 512
        (bad → Gives (.winOpen n id) s (s.finish id stBAD_DESCRIPTOR)) ∧
        (¬ bad → Does (.winOpen n id) s fun t => t.window n h = { w with
            state := 1
            pool := pool
            free := pool
            granted := 0
            used := 0
            notify := bits (d.w 3) 25 13
            sinceSig := 0
            signals := 0
            opens := w.opens + 1 } ∧
          (∀ m k, (m, k) ≠ (n, h) → m < 2304 → k < 256 → t.window m k = s.window m k) ∧ t.desc? id = none ∧ t.spad = s.spad)) ∧
      (s.Started n id 0x06 d →
        Gives (.winReplenish n id) s ((s.replenish n h pool d.issuerKind (s.issuer d)).2.finish id
          (s.replenish n h pool d.issuerKind (s.issuer d)).1) ∧
        (w.state = 0 → Gives (.winReplenish n id) s (s.finish id stWINDOW_CLOSED)) ∧
        (w.state ≠ 0 → w.used < pool → Gives (.winReplenish n id) s (s.finish id stBAD_DESCRIPTOR)) ∧
        (w.state ≠ 0 → pool ≤ w.used → s.waitersOf n h = [] → Does (.winReplenish n id) s fun t =>
          t.window n h = { w with
            free := w.free + pool
            used := w.used - pool } ∧ t.desc? id = none ∧ t.spad = s.spad)) ∧
      (s.Started n id 0x05 d →
        let drain := (d.w 3).testBit 0 && bits (d.w 3) 31 16 != 0
        (w.state = 0 → Does (.winClose n id) s fun t => t.desc? id = none ∧ t.window n h = w) ∧
        (w.state ≠ 0 → drain = false → Does (.winClose n id) s fun t =>
          t.window n h = { w with closes := w.closes ++ [⟨false, some id, none, 0⟩] } ∧
          t.desc? id = some { d with phase := 2 } ∧ t.regs = s.regs ∧ t.spad = s.spad) ∧
        (w.state = 2 → drain = true → Does (.winClose n id) s fun t =>
          t.window n h = { w with closes := w.closes ++ [⟨true, some id, none, 0⟩] } ∧
          t.desc? id = some { d with phase := 2 } ∧ t.regs = s.regs ∧ t.spad = s.spad) ∧
        (w.state = 1 → drain = true → s.waitersOf n h = [] → Does (.winClose n id) s fun t =>
          (t.window n h).state = 2 ∧ (t.window n h).closes = w.closes ++ [⟨true, some id, none, 0⟩]))))

/-- R60, R73, R223, R226, R254, R255, R259: chart commands. A slice of another tenancy, an empty one, a fenced member or a save area that
fails its checks ends CHART_RUN; otherwise every member receives START for the local beat 32 beats ahead. CHART_PAUSE tells the members the
boundary, and a member already past it aborts, also one whose chart has ended. A launched chart takes with it whether consort is armed (R263).
STREAM_READY adds to the ready count of its inject stream, waits for a later segment, and
refuses one that has ended or a stream that does not wait. Completion of their own effect, from conditions on the state and the operands
alone: chartRun, chartPause, pause, streamReady. -/
def Obligations.ChartCommandsRunPauseAndReady : Prop :=
  ∀ (s : State) (n id : Nat) (d : Desc) (p : Pkt) (c : ChartRun) (g : SegImg) (l : Launch), n < 2304 → okPkt p = true →
    let grp := bits (d.w 3) 9 0
    let slots := (s.grpMap grp).filterMap (s.lmap n)
    let lstart := (s.rg (regionOf n)).s + 32
    (s.Started n id 0x08 d →
      (s.grpOk grp d.ten = false → Gives (.chartRun n id) s (s.finish id stACCESS_DENIED)) ∧
      (∀ st, s.grpOk grp d.ten = true → d.w 4 ≠ 0 → s.resumeBad d (s.grpMap grp).length = some st →
        Gives (.chartRun n id) s (s.finish id st)) ∧
      (s.grpOk grp d.ten = true → d.w 4 = 0 ∨ s.resumeBad d (s.grpMap grp).length = none →
        (s.grpMap grp = [] → Gives (.chartRun n id) s (s.finish id stBAD_DESCRIPTOR)) ∧
        (s.grpMap grp ≠ [] → slots.length ≠ (s.grpMap grp).length → Gives (.chartRun n id) s (s.finish id stTARGET_FENCED)) ∧
        (s.grpMap grp ≠ [] → slots.length = (s.grpMap grp).length → s.noStart d.ten = true → Gives (.chartRun n id) s s)) ∧
      (s.grpOk grp d.ten = true → s.grpMap grp ≠ [] → slots.length = (s.grpMap grp).length → s.noStart d.ten = false →
        (d.w 4 = 0 → Does (.chartRun n id) s fun t =>
          t.launches = s.launches ++ [⟨n, bits (d.w 2) 31 0, id, grp, d.ten, d.startMode, slots, lstart, 0, 0, [], [], none, none, none, none,
            s.fld FB_CONSORT_STATUS_ARMED == 1⟩] ∧
          t = s.after (slots.foldl (fun u m => u.niSend n opSTART (niLoc m) 0 0 0
            [bits (d.w 2) 31 0, bits (d.w 2) 63 32, 0, 0, lstart, 0]) { s.descBusy id with launches := t.launches }) ∧
          t.regs = s.regs ∧ t.spad = s.spad ∧ t.chart = s.chart) ∧
        (d.w 4 ≠ 0 → s.resumeBad d (s.grpMap grp).length = none → Does (.chartRun n id) s fun t =>
          t.launches = s.launches ++ [⟨n, bits (d.w 2) 31 0, id, grp, d.ten, d.startMode, slots, lstart, s.saveWord (d.w 4) 1,
            bits (s.saveWord (d.w 4) 0) 31 16, [], [], none, none, none, none, s.fld FB_CONSORT_STATUS_ARMED == 1⟩] ∧
          t = s.after (slots.foldl (fun u m => u.niSend n opSTART (niLoc m) 0 0 0
            [bits (d.w 2) 31 0, bits (d.w 2) 63 32, 1, 0, lstart, d.w 4]) { s.descBusy id with launches := t.launches }) ∧
          t.regs = s.regs ∧ t.spad = s.spad ∧ t.chart = s.chart))) ∧
    (adSpace (d.w 4) ≠ 1 ∨ d.w 4 % 4096 ≠ 0 → s.resumeBad d (s.grpMap grp).length = some stBAD_DESCRIPTOR) ∧
    (s.Started n id 0x09 d →
      (s.grpOk grp d.ten = false → Gives (.chartPause n id) s (s.finish id stACCESS_DENIED)) ∧
      (s.grpOk grp d.ten = true → (∀ x ∈ s.launches, x.chart = bits (d.w 2) 31 0 → x.abort ≠ none) →
        Gives (.chartPause n id) s (s.finish id stBAD_DESCRIPTOR)) ∧
      (s.grpOk grp d.ten = true → s.launches.find? (fun x => x.chart == bits (d.w 2) 31 0 && x.abort.isNone) = some l →
        (l.ten ≠ d.ten → Gives (.chartPause n id) s (s.finish id stACCESS_DENIED)) ∧
        (l.ten = d.ten → l.pause.isSome = true → Gives (.chartPause n id) s (s.finish id stBAD_DESCRIPTOR))) ∧
      (s.grpOk grp d.ten = true → s.launches.find? (fun x => x.chart == bits (d.w 2) 31 0 && x.abort.isNone) = some l → l.ten = d.ten →
        l.pause = none →
        let at_ := s.pausePoint (if l.members.contains l.ni then l.ni else l.members.headD l.ni)
          (max (s.rg (regionOf l.ni)).L l.lstart + 64) l
        (at_ = none → Gives (.chartPause n id) s (s.finish id stABORTED)) ∧
        (∀ next t, at_ = some (next, t) →
          (∀ st, s.saveAreaBad d.ten (d.w 4) l.members.length = some st → Gives (.chartPause n id) s (s.finish id st)) ∧
          (s.saveAreaBad d.ten (d.w 4) l.members.length = none →
          let cb := l.cb + (t - l.lstart)
          Gives (.chartPause n id) s (l.members.foldl (fun u x => u.niSend l.ni opPAUSE (niLoc x) 0 0 0 [l.chart, next, cb, d.w 4])
            { s.descBusy id with
              launches := updFirst (fun x => x.desc == l.desc) (fun x => { x with pause := some (id, next, cb, d.w 4) }) s.launches }))))) ∧
    (p.kind = opPAUSE → s.niUp n = true → s.frozenAt n = false → s.ch n = some c → c.chart = p.arg 0 →
      let u := s.takeNet (.unit (niLoc n)) p
      let c' := { c with
        pauseAt := some (p.arg 1)
        saveAddr := p.arg 3 }
      let reached := fun (k : Nat) => (∃ x, (s.rt n).cur = some x ∧ x.seg = k) ∨
        ((s.rt n).cur = none ∧ ∃ b, (s.rt n).ended = some (c.chart, k, b))
      (∀ k, reached k → p.arg 1 ≤ k → c.sent = false ∨ c.status ≠ 0 → Gives (.pause n p) s (u.segFail n (u.segNow n) stABORTED)) ∧
      (∀ k, reached k → p.arg 1 ≤ k → c.sent = true → c.status = 0 →
        Gives (.pause n p) s (u.emit (mkPkt opSEG_ABORT (niLoc n) c.home 0 0 0 [stABORTED, c.chart, u.segNow n]))) ∧
      (∀ k, reached k → p.arg 1 = k + 1 → (s.rt n).cur = none → c.sent = false →
        let v := u.pauseHere n c' (p.arg 1) (p.arg 2)
        Gives (.pause n p) s (if c.donePend = [] then v.setCh n none else v)) ∧
      (∀ k, reached k → k < p.arg 1 → (s.rt n).cur ≠ none ∨ k + 1 < p.arg 1 ∨ c.sent = true →
        Gives (.pause n p) s (u.setCh n (some c'))) ∧
      ((s.rt n).cur = none → (∀ k b, (s.rt n).ended ≠ some (c.chart, k, b)) → Gives (.pause n p) s (u.setCh n (some c')))) ∧
    (∀ k b, p.kind = opPAUSE → s.niUp n = true → s.frozenAt n = false → s.ch n = none → (s.rt n).ended = some (p.arg 0, k, b) →
      let u := s.takeNet (.unit (niLoc n)) p
      (p.arg 1 ≤ k → Gives (.pause n p) s (u.emit (mkPkt opSEG_ABORT (niLoc n) p.src 0 0 0 [stABORTED, p.arg 0, k]))) ∧
      (k < p.arg 1 → Gives (.pause n p) s u)) ∧
    (∀ k b, s.Started n id 0x18 d → (s.rt n).ended = some (bits (d.w 2) 31 0, k, b) → b = true ∨ bits (d.w 2) 47 32 ≤ k →
      Gives (.streamReady n id) s (s.finish id stBAD_DESCRIPTOR)) ∧
    (s.Started n id 0x18 d → (∀ k b, (s.rt n).ended = some (bits (d.w 2) 31 0, k, b) → b = false ∧ k < bits (d.w 2) 47 32) →
      (∀ x, s.ch n = some x → x.chart ≠ bits (d.w 2) 31 0) → Gives (.streamReady n id) s s) ∧
    (s.Started n id 0x18 d → (∀ k b, (s.rt n).ended = some (bits (d.w 2) 31 0, k, b) → b = false ∧ k < bits (d.w 2) 47 32) →
      s.ch n = some c → c.chart = bits (d.w 2) 31 0 → (s.rt n).cur = none ∨ (s.rt n).cur = some g →
      let st := bits (d.w 2) 51 48
      let seg := bits (d.w 2) 47 32
      let later := (s.rt n).cur = none ∨ (g.seg < seg ∧ g.last = false)
      ((s.rt n).cur = some g → seg < g.seg ∨ (g.seg < seg ∧ g.last = true) → Gives (.streamReady n id) s (s.finish id stBAD_DESCRIPTOR)) ∧
      ((s.rt n).cur = some g → seg = g.seg → (∀ x, g.streams[st]? = some x → x.dir ≠ 0 ∨ x.waitReady = false) →
        Gives (.streamReady n id) s (s.finish id stBAD_DESCRIPTOR)) ∧
      (∀ x, (s.rt n).cur = some g → seg = g.seg → g.streams[st]? = some x → x.dir = 0 → x.waitReady = true → Does (.streamReady n id) s fun t =>
        (t.rt n).ready.get st 0 = (s.rt n).ready.get st 0 + bits (d.w 3) 31 0 ∧
        (∀ k, k ≠ st → (t.rt n).ready.get k 0 = (s.rt n).ready.get k 0) ∧ t.desc? id = none ∧ t.spad = s.spad) ∧
      (later → (s.rt n).idle = none → Gives (.streamReady n id) s s) ∧
      (∀ y, later → (s.rt n).idle = some y → y.seg ≠ seg →
        Gives (.streamReady n id) s (if seg < y.seg ∨ y.last = true then s.finish id stBAD_DESCRIPTOR else s)) ∧
      (∀ y x, later → (s.rt n).idle = some y → y.seg = seg → y.streams[st]? = some x → x.dir = 0 →
        x.waitReady = true → Does (.streamReady n id) s fun t =>
          (t.rt n).readyNext.get st 0 = (s.rt n).readyNext.get st 0 + bits (d.w 3) 31 0 ∧ (t.rt n).ready = (s.rt n).ready ∧
          t.desc? id = none ∧ t.spad = s.spad))

/-- R227, R228, R121: WAIT and HASH. A WAIT whose condition holds ends OK; one that may not wait ends with its status; any other waits, with
its target, until LIMIT passes; a LIMIT of 0 sets none. A HASH of nothing or to a place that is not 32-byte aligned is refused, one while
the Binnacle is in reset is ABORTED, and one whose read or write is unanswered ends TIMEOUT. R243 to R246: signal lines. A SIG_READ of a
foreign page or none is refused; one of its own makes the NI a sharer of at most eight, the oldest giving way with SIG_INV, and is served
like a read of 64 bytes. A host write of a shared line is answered after its sharers; an NI drops an invalidated line and acknowledges; a
sharer that does not answer is removed. Clearing VALID ends the page's WAITs ABORTED. Completion of their own effect, from conditions on the
state and the operands alone: wait, waitTimeout, hash, hashTimeout, sigRead, sigWritten, sigInv, sigInvAck, snoopTimeout, sigPageWrite. -/
def Obligations.WaitsHashesAndSignalLines : Prop :=
  (∀ (s : State) (n id txn : Nat) (d : Desc) (w : Waiting) (x : OTx), n < 2304 → txn < 4096 →
    let kind := bits (d.w 2) 1 0
    let count := bits (d.w 3) 63 32
    let chart := bits (d.w 3) 31 0
    let sub := 16 * bits (d.w 2) 47 32 + bits (d.w 2) 19 16
    let h := bits (d.w 2) 15 8
    let a := d.w 4
    (s.Started n id 0x19 d →
      (kind = 3 → Gives (.wait n id) s (s.finish id stBAD_DESCRIPTOR)) ∧
      (kind = 0 →
        let mine := (∃ c, s.ch n = some c ∧ c.chart = chart) ∨ (s.ch n = none ∧ ∃ e, (s.rt n).ended = some (chart, e))
        let met := count = 0 ∨ (mine ∧ count ≤ (s.rt n).signals.get sub 0)
        (met → Gives (.wait n id) s (s.finish id stOK)) ∧
        (¬ met → Gives (.wait n id) s (s.beginWait ⟨id, n, 0, chart, sub, count, 0⟩ d))) ∧
      (kind = 1 → s.fld NI_HDL_CFG_VALID n h = 0 → Gives (.wait n id) s (s.finish id stWINDOW_UNKNOWN)) ∧
      (kind = 1 → s.fld NI_HDL_CFG_VALID n h = 1 →
        (s.fld NI_HDL_CFG_TENANCY n h ≠ d.ten → Gives (.wait n id) s (s.finish id stACCESS_DENIED)) ∧
        (s.fld NI_HDL_CFG_TENANCY n h = d.ten →
          let v := s.window n h
          (v.state ≠ 0 → count ≤ v.signals → Gives (.wait n id) s (s.finish id stOK)) ∧
          (v.state ≠ 0 → v.signals < count → Gives (.wait n id) s (s.beginWait ⟨id, n, 1, h, v.opens, count, 0⟩ d)) ∧
          (v.state = 0 → Gives (.wait n id) s (s.beginWait ⟨id, n, 1, h, v.opens + 1, count, 0⟩ d)))) ∧
      (kind = 2 → d.auxHost = false ∨ s.inSigPage d.hpsel d.ten a = false → Gives (.wait n id) s (s.finish id stACCESS_DENIED)) ∧
      (kind = 2 → d.auxHost = true → s.inSigPage d.hpsel d.ten a = true →
        let line := (s.sigLines.find? fun l => l.ni == n && l.ten == d.ten && l.addr == a / 64 * 64).bind fun l => l.data
        (line = none → Gives (.wait n id) s (s.beginWait ⟨id, n, 2, a, d.ten, d.w 5, 0⟩ d)) ∧
        (∀ b, line = some b → ofBytes (slice b (a % 64) 8) < d.w 5 → Gives (.wait n id) s (s.beginWait ⟨id, n, 2, a, d.ten, d.w 5, 0⟩ d)) ∧
        (∀ b, line = some b → d.w 5 ≤ ofBytes (slice b (a % 64) 8) → s.replayMode 1 d.ten = false → s.replayMode 2 d.ten = false →
          Gives (.wait n id) s (s.finish id stOK)))) ∧
    (w.desc = id → w.kind < 2 → s.desc? id = some d → (s.beginWait w d).waits = s.waits ++ [w] ∧
      (s.beginWait w d).desc? id = some { d with phase := 2 }) ∧
    (s.waits.find? (fun y => y.ni == n && y.desc == id) = some w → s.desc? id = some d → s.frozenAt n = false →
      (bits (d.w 6) 15 0 = 0 → Gives (.waitTimeout n id) s s) ∧
      (bits (d.w 6) 15 0 ≠ 0 → Gives (.waitTimeout n id) s (s.endWait w d stTIMEOUT))) ∧
    (s.waits.find? (fun y => y.ni == n && y.desc == id) = none → Gives (.waitTimeout n id) s s) ∧
    (s.Started n id 0x20 d →
      let len := bits (d.w 4) 31 0
      let bad := (if len = 0 ∨ d.w 3 % 32 ≠ 0 then [stBAD_DESCRIPTOR] else []) ++
        s.nameStatus n d.flowNo d.srcHost d.hpsel (d.w 2) len ++ s.nameStatus n d.flowNo d.dstHost d.hpsel (d.w 3) 32 ++
        (if s.bnUp = true then [] else [stABORTED])
      (bad ≠ [] → Gives (.hash n id) s (s.finish id (firstStatus bad))) ∧
      (len = 0 ∨ d.w 3 % 32 ≠ 0 → s.bnUp = true → (∀ x ∈ bad, x = stBAD_DESCRIPTOR) → Gives (.hash n id) s (s.finish id stBAD_DESCRIPTOR)) ∧
      (bad = [] → Gives (.hash n id) s (State.hashPump
        { s.descBusy id with
          hash := s.hash ++ [⟨id, n, cutChunks (!d.srcHost && adSpace (d.w 2) == 1) false (2 * (len / 4096) + 4) (d.w 2) 0 len, 4096, false⟩] }
        id))) ∧
    (s.findTx bnKey txn = none → Gives (.hashTimeout txn) s s) ∧
    (s.findTx bnKey txn = some x → x.use ≠ .hash → Gives (.hashTimeout txn) s s) ∧
    (s.findTx bnKey txn = some x → x.use = .hash → Gives (.hashTimeout txn) s
      (((s.delTx bnKey txn).finish x.desc stTIMEOUT).hashPumpAll))) ∧
  (∀ (s : State) (hp n t v tag addr line : Nat) (p : Pkt), hp < 2 → n < 2304 → t < 64 → v < 2 ^ 32 → tag < 4096 → addr < 2 ^ 64 →
    line < 4096 → okPkt p = true →
    let u := s.takeNet (.unit (hpLoc hp)) p
    let w := s.addPair HP_RX_BYTES_LO HP_RX_BYTES_HI 128 hp
    (p.kind = opSIG_READ → s.fld (xx_ERR_STATUS_SAFE .hp) hp = 0 →
      (s.sigPageOf hp p.ten (p.arg 0) = none → Gives (.sigRead hp p) s (u.answer p (hpLoc hp) opREAD_ERR [stACCESS_DENIED])) ∧
      (∀ k, s.sigPageOf hp p.ten (p.arg 0) = some k →
        let l := ((s.hpt hp).sharers.get k []).filter fun y => y != p.src.slot
        let req : HReq := ⟨⟨2, 0, p.ten, false, 64, 0, p.arg 0 / 64 * 64, []⟩, .serve p⟩
        let lines := s.sigLinesAt hp (p.arg 0 / 64 * 64) 64
        let busy := (s.hpt hp).sigWaits.any (fun y => sameLine y.lines lines) = true ∨ s.atomicOn hp lines = true
        k ∈ lines ∧
        (busy → Gives (.sigRead hp p) s (u.modHp hp fun h => { h with sigWaits := h.sigWaits ++ [⟨lines, [], none, some req⟩] })) ∧
        (¬ busy → l.length < 8 → Gives (.sigRead hp p) s
          ((u.modHp hp fun h => { h with sharers := h.sharers.put k (l ++ [p.src.slot]) }).hpPush hp req)) ∧
        (¬ busy → 8 ≤ l.length → Gives (.sigRead hp p) s
          ((((u.emit (mkPkt opSIG_INV (hpLoc hp) (niLoc (l.headD 0)) 0 0 0 [k])).modHp hp fun h =>
            { h with displaced := h.displaced ++ [(k, l.headD 0)] }).modHp hp fun h =>
            { h with sharers := h.sharers.put k (l.drop 1 ++ [p.src.slot]) }).hpPush hp req)))) ∧
    (p.kind = opSIG_READ → s.fld (xx_ERR_STATUS_SAFE .hp) hp = 1 → Gives (.sigRead hp p) s (u.drop (hpLoc hp) (hpLoc hp).slot 4 1 p)) ∧
    (let lines := s.sigLinesAt hp addr 1
      let sh := s.sharersOf hp lines
      (∀ k, k ∈ lines ↔ ∃ q, q < 64 ∧ s.sigPageOf hp q (64 * (addr / 64)) = some k) ∧
      (∀ k m, (k, m) ∈ sh ↔ k ∈ lines ∧ m ∈ (s.hpt hp).sharers.get k []) ∧
      (sh = [] → Gives (.sigWritten hp tag addr) s (w.cplOut hp ⟨4, tag, 0, false, 0, 0, 0, []⟩)) ∧
      (sh ≠ [] → Gives (.sigWritten hp tag addr) s ((w.sigInvalidate hp sh).modHp hp fun h =>
        { h with sigWaits := h.sigWaits ++ [⟨lines, sh, some tag, none⟩] }))) ∧
    (p.kind = opSIG_INV → s.niUp n = true → s.frozenAt n = false →
      Gives (.sigInv n p) s (((State.niSend
        { s.takeNet (.unit (niLoc n)) p with
          sigLines := s.sigLines.filter fun l => !(l.ni == n && sigLineNo l.ten l.addr == p.arg 0) }
        n opSIG_INV_ACK p.src 0 0 0 [p.arg 0]).sigPump n))) ∧
    (p.kind = opSIG_INV_ACK → Gives (.sigInvAck hp p) s (u.sharerGone hp (p.arg 0) p.src.slot)) ∧
    (p.kind = opSIG_INV_ACK → (s.hpt hp).sigWaits = [] → (p.arg 0, p.src.slot) ∉ (s.hpt hp).displaced → Does (.sigInvAck hp p) s fun y =>
      p.src.slot ∉ (y.hpt hp).sharers.get (p.arg 0) [] ∧ y.regs = s.regs ∧ y.spad = s.spad) ∧
    (p.kind = opSIG_INV_ACK → (p.arg 0, p.src.slot) ∈ (s.hpt hp).displaced → Does (.sigInvAck hp p) s fun y =>
      y.hpt hp = { s.hpt hp with displaced := (s.hpt hp).displaced.erase (p.arg 0, p.src.slot) } ∧ y.regs = s.regs ∧ y.spad = s.spad) ∧
    (let awaited := (s.hpt hp).sigWaits.any (fun y => y.left.contains (line, n)) = true ∨ (line, n) ∈ (s.hpt hp).displaced
    (¬ awaited → Gives (.snoopTimeout hp line n) s s) ∧
    (awaited → s.niUp n = false → Does (.snoopTimeout hp line n) s fun y =>
        (∀ l ∈ y.sigLines, ¬ (l.ni = n ∧ sigLineNo l.ten l.addr = line)) ∧ y.spad = s.spad)) ∧
    (s.regAlive (FB_SIG_LO.addr 0 t) = true → s.fld FB_SIG_LO_VALID 0 t = 0 ∨ v % 2 = 1 → Gives (.sigPageWrite t v) s
      ((s.serveWrite (FB_SIG_LO.addr 0 t) v).writeTyped FB_SIG_LO 0 t v)) ∧
    (s.regAlive (FB_SIG_LO.addr 0 t) = true → s.fld FB_SIG_LO_VALID 0 t = 1 → v % 2 = 0 →
      Does (.sigPageWrite t v) s fun y =>
        (∀ k, k < 64 → (y.hpt (s.fld FB_SIG_LO_HP 0 t)).sharers.get (64 * t + k) [] = []) ∧
        (∀ e ∈ y.waits, e.kind = 2 → e.sub ≠ t)))

/-! ## Consort and replay (08_determinism_and_replay.md) -/

/-- R263, R265, R266: consort. Enabling it needs its link up; the chips' map, version and mode decide ARMED or MAP_DIFF; a frame is compared
with its own counterpart, or waits; the first pair that differs in CRC or FLITS is recorded; a frame that waited too long disarms. In the
hypotheses no injected parity fault waits (R301). R267, R269, R270: recording and replay. Writing MODE 1 takes T0 from C, clears the pointer
and sets ACTIVE; MODE 2 does so without T0; MODE 0 ends what is under way. A log record is injected once its beat has come: an END record
ends the replay, a record of another type moves the pointer by its units, and a descriptor out of index order is a divergence. Completion of
their own effect, from conditions on the state and the operands alone: consortArm, consort, consortFrameLost, replayRecordStart,
replayStart, replayStop, replayInject, armingFrame. -/
def Obligations.ConsortComparesAndReplayRecords : Prop :=
  (∀ (s : State) (v chart seg region beat crc flits version mode : Nat) (final : Bool) (digest : List Nat) (g : CFrame), v < 2 ^ 32 →
    chart < 2 ^ 32 → seg < 2 ^ 16 → region < 36 → beat < 2 ^ 18 → crc < 2 ^ 64 → flits < 2 ^ 32 →
    digest.length = 8 → (∀ w ∈ digest, w < 2 ^ 32) → version < 2 ^ 64 → mode < 2 ^ 32 → (∀ u i, (s.eu u i).parityArmed = false) →
    let f : CFrame := ⟨chart, seg, region, final, beat, crc, flits⟩
    (s.regAlive (FB_CONSORT_CFG.addr 0 0) = true →
      (v / 2 ^ 31 = 0 → Does (.consortArm v) s fun t => t.fld FB_CONSORT_STATUS_ARMED = 0 ∧ t.consort = {} ∧
        s.RegsKept t [FB_CONSORT_CFG.addr 0 0, FB_CONSORT_STATUS.addr 0 0]) ∧
      (v / 2 ^ 31 = 1 → s.linkState (bits v FB_CONSORT_CFG_LINK.hi FB_CONSORT_CFG_LINK.lo) = lsACTIVE → Does (.consortArm v) s fun t =>
        t.consort.arming = true ∧ t.consort.own = [] ∧ t.consort.theirs = [] ∧ t.fld FB_CONSORT_STATUS_ARMED = 0 ∧
        t.consort.sent = [(s.fbDigest, s.pair BN_FW_VERSION_LO BN_FW_VERSION_HI, s.rd FB_MODE)] ∧
        s.RegsKept t [FB_CONSORT_CFG.addr 0 0, FB_CONSORT_STATUS.addr 0 0]) ∧
      (v / 2 ^ 31 = 1 → s.linkState (bits v FB_CONSORT_CFG_LINK.hi FB_CONSORT_CFG_LINK.lo) ≠ lsACTIVE → Does (.consortArm v) s fun t =>
        t.fld FB_CONSORT_STATUS_LINK_DOWN = 1 ∧ t.fld FB_CONSORT_STATUS_ARMED = 0 ∧ t.consort = {} ∧ s.RegsKept t [FB_CONSORT_CFG.addr 0 0, FB_CONSORT_STATUS.addr 0 0])) ∧
    (s.consort.arming = false → s.fld FB_CONSORT_STATUS_ARMED = 0 → Gives (.armingFrame digest version mode) s s) ∧
    (s.consort.arming = true ∨ s.fld FB_CONSORT_STATUS_ARMED = 1 → Does (.armingFrame digest version mode) s fun t =>
      t.consort.arming = false ∧ s.RegsKept t [FB_CONSORT_STATUS.addr 0 0] ∧
      (digest = s.fbDigest ∧ version = s.pair BN_FW_VERSION_LO BN_FW_VERSION_HI ∧ mode = s.rd FB_MODE →
        t.fld FB_CONSORT_STATUS_ARMED = 1) ∧
      (¬ (digest = s.fbDigest ∧ version = s.pair BN_FW_VERSION_LO BN_FW_VERSION_HI ∧ mode = s.rd FB_MODE) →
        t.fld FB_CONSORT_STATUS_MAP_DIFF = 1 ∧ t.fld FB_CONSORT_STATUS_ARMED = 0 ∧ t.consort = {})) ∧
    (s.fld FB_CONSORT_STATUS_ARMED = 0 → Gives (.consort chart seg region final beat crc flits) s s) ∧
    (s.fld FB_CONSORT_STATUS_ARMED = 1 →
      ((∀ x ∈ s.consort.own, ¬ (x.chart = chart ∧ x.seg = seg ∧ x.region = region ∧ x.spanBeat = beat)) →
        Gives (.consort chart seg region final beat crc flits) s
          { s with consort := { s.consort with theirs := s.consort.theirs ++ [f] } }) ∧
      (s.consort.own.find? f.same = some g →
        let u := { s with consort := { s.consort with own := delFirst (fun x => decide (x = g)) s.consort.own } }
        ((g.crc = crc ∧ g.flits = flits) ∨ s.fld FB_CONSORT_STATUS_MISMATCH = 1 →
          Gives (.consort chart seg region final beat crc flits) s u) ∧
        (¬ (g.crc = crc ∧ g.flits = flits) → s.fld FB_CONSORT_STATUS_MISMATCH = 0 → s.fld FB_CONSORT_CFG_STOP = 0 →
          Does (.consort chart seg region final beat crc flits) s fun t =>
            t.fld FB_CONSORT_STATUS_MISMATCH = 1 ∧ t.fld FB_CONSORT_MIS_CHART_CHART_ID = chart ∧ t.fld FB_CONSORT_MIS_SEG_SEG = seg ∧
            t.fld FB_CONSORT_MIS_LOC_REGION = region ∧ t.fld FB_CONSORT_MIS_LOC_SPAN_BEAT = beat ∧ t.launches = s.launches ∧
            t.spad = s.spad))) ∧
    (s.consort.own.any (fun x => x.chart == chart && x.seg == seg && x.region == region && x.spanBeat == beat) = false →
      Gives (.consortFrameLost chart seg region beat) s s) ∧
    (s.consort.own.any (fun x => x.chart == chart && x.seg == seg && x.region == region && x.spanBeat == beat) = true →
      Does (.consortFrameLost chart seg region beat) s fun t => t.fld FB_CONSORT_STATUS_LOST = 1 ∧ t.fld FB_CONSORT_STATUS_ARMED = 0 ∧
        t.consort = {} ∧ s.RegsKept t [FB_CONSORT_STATUS.addr 0 0])) ∧
  (∀ (s : State) (v n : Nat) (words : List Nat), v < 2 ^ 32 → (∀ w ∈ words, w < 2 ^ 64) → (∀ u i, (s.eu u i).parityArmed = false) →
    s.accC 60 < 2 ^ 60 →
    let off := FB_REPLAY_CFG.addr 0 0
    (s.regAlive off = true → s.fld FB_REPLAY_STATUS_ACTIVE = 0 →
      ∀ c ∈ [Instr.replayRecordStart v, .replayStart v, .replayStop v],
        (v / 2 ^ 30 = 1 → Does c s fun t => t.fld FB_REPLAY_STATUS_ACTIVE = 1 ∧ t.rd FB_REPLAY_PTR = 0 ∧ t.replayT0 = s.accC 60 ∧
          t.fld FB_REPLAY_CFG_MODE = 1 ∧
          s.RegsKept t [off, FB_REPLAY_STATUS.addr 0 0, FB_REPLAY_PTR.addr 0 0, FB_REPLAY_T0_LO.addr 0 0, FB_REPLAY_T0_HI.addr 0 0]) ∧
        (v / 2 ^ 30 = 2 → Does c s fun t => t.fld FB_REPLAY_STATUS_ACTIVE = 1 ∧ t.rd FB_REPLAY_PTR = 0 ∧ t.replayT0 = s.replayT0 ∧
          t.fld FB_REPLAY_CFG_MODE = 2 ∧ s.RegsKept t [off, FB_REPLAY_STATUS.addr 0 0, FB_REPLAY_PTR.addr 0 0]) ∧
        (v / 2 ^ 30 = 0 ∨ v / 2 ^ 30 = 3 → Does c s fun t => t.fld FB_REPLAY_STATUS_ACTIVE = 0 ∧ s.RegsKept t [off, FB_REPLAY_STATUS.addr 0 0])) ∧
    (s.regAlive off = true → s.fld FB_REPLAY_STATUS_ACTIVE = 1 → s.fld FB_REPLAY_CFG_MODE = 1 → v / 2 ^ 30 = 0 →
      Gives (.replayStop v) s
        ((((s.serveWrite off v).replayEnd 0).writeTyped FB_REPLAY_CFG 0 0 v).setFld FB_REPLAY_STATUS_ACTIVE 0)) ∧
    (words ≠ [] → words.length ≤ 12 → words.length % 4 = 0 →
      let w0 := words.headD 0
      let o := bits w0 11 0
      let ty := bits w0 23 16
      let units := bits w0 13 12 + 1
      let at_ := s.fld FB_REPLAY_PTR_UNITS
      let idle := s.fld FB_REPLAY_STATUS_ACTIVE = 0 ∨ s.fld FB_REPLAY_CFG_MODE ≠ 2 ∨ words.length ≠ 4 * units ∨
        s.accC 60 < s.replayT0 + bits w0 63 24
      (idle → Gives (.replayInject words) s s) ∧
      (¬ idle → ty = 0x0F → Does (.replayInject words) s fun t => t.fld FB_REPLAY_STATUS_ACTIVE = 0 ∧ t.fld FB_REPLAY_STATUS_END = 1 ∧
        s.RegsKept t [FB_REPLAY_PTR.addr 0 0, FB_REPLAY_STATUS.addr 0 0] ∧ t.spad = s.spad) ∧
      (¬ idle → ty = 0x01 → s.hpLmap (s.fld FB_RING_CFG_HP 0 o) (s.fld FB_RING_CFG_SERVER 0 o) = some n →
        Gives (.replayInject words) s (((s.wr FB_REPLAY_PTR 0 0 (at_ + units)).sendBell (s.fld FB_RING_CFG_HP 0 o) o n).replayAhead)) ∧
      (¬ idle → ty = 0x02 → s.hpLmap (s.fld FB_RING_CFG_HP 0 o) (s.fld FB_RING_CFG_SERVER 0 o) = some n →
        let u := s.wr FB_REPLAY_PTR 0 0 (at_ + units)
        let tail := bits (words.getD 1 0) 31 0
        let past := 2 ^ s.ringSize o < (tail + 2 ^ 32 - (s.rng o).head % 2 ^ 32) % 2 ^ 32
        (past → Gives (.replayInject words) s ((u.ringCause n o 14).replayAhead)) ∧
        (¬ past → Gives (.replayInject words) s ((u.setRing o { s.rng o with
          ni := n
          tail := tail }).replayAhead))) ∧
      (¬ idle → ty = 0x04 → s.hpLmap (s.fld FB_RING_CFG_HP 0 o) (s.fld FB_RING_CFG_SERVER 0 o) = some n → Gives (.replayInject words) s
        (((s.wr FB_REPLAY_PTR 0 0 (at_ + units)).readLogged o (words.getD 1 0) (bits (words.getD 2 0) 31 0) (words.getD 3 0) at_).replayAhead)) ∧
      (¬ idle → ty = 0x03 → s.hpLmap (s.fld FB_RING_CFG_HP 0 o) (s.fld FB_RING_CFG_SERVER 0 o) = some n →
        (s.places n o = 0 ∨ s.cqRoom o = false → Gives (.replayInject words) s s) ∧
        (s.places n o ≠ 0 → s.cqRoom o = true → bits (words.getD 1 0) 31 0 ≠ (s.rng o).head → s.fld FB_REPLAY_STATUS_DIVERGE = 0 →
          Does (.replayInject words) s fun t => t.fld FB_REPLAY_STATUS_DIVERGE = 1 ∧ t.fld FB_REPLAY_DIV_UNIT = at_ ∧ t.spad = s.spad))))

/-! ## Faults and self-repair (09_faults_and_self_repair.md) -/

/-- R278: an error event. It counts EVENTS of its source to its saturation, writes the history entry NEXT and moves NEXT on, sets the
source's bit and FIRST if none was set, and becomes SEVERE at once or when its count within the window reaches THRESH; a SEVERE event
restarts the count; an event below THRESH counts. A unit whose clock has stopped records none, but what the clock monitor of a region controller reports (R57). -/
def Obligations.ErrorEventsAreRecordedAndClassified : Prop :=
  ∀ (s : State) (k : UnitKind) (i src detail : Nat) (inj : Bool), i < k.count → src < 16 → detail < 2 ^ 18 →
    (s.mute k i src = true → s.recordEvent k i src detail inj = s) ∧ (s.mute k i src = false →
    let t := s.recordEvent k i src detail inj
    let at_ := fun (u : UnitKind) (x : Nat) => atOnce u x = true
    let c := (s.eu k i).winCount.get src 0
    let fresh := c = 0 ∨ zeroAsOne (s.fld (xx_ERR_CLASS_WINDOW k) i src) * 10000 ≤
      beatSub (s.accC (domOf k i)) ((s.eu k i).winStart.get src 0)
    let thresh := zeroAsOne (s.fld (xx_ERR_CLASS_THRESH k) i src)
    let next := s.fld (xx_ERR_HIST_PTR_NEXT k) i
    (s.eventSevere k i src = true ↔ at_ k src ∨ thresh ≤ (if fresh then 1 else c + 1)) ∧
    t.fld (xx_ERR_COUNT_EVENTS k) i src = min (2 ^ 32 - 1) (s.fld (xx_ERR_COUNT_EVENTS k) i src + 1) ∧
    t.fld (xx_ERR_HIST_PTR_NEXT k) i = (next + 1) % 8 ∧
    (∃ h, (∀ d, (t.eu k i).hist.get next d = h) ∧ h.src = src ∧ h.injected = inj ∧ h.detail = detail ∧ h.severe = s.eventSevere k i src) ∧
    (t.fld (xx_ERR_STATUS_SOURCE k) i).testBit src = true ∧
    (∀ b, b ≠ src → (t.fld (xx_ERR_STATUS_SOURCE k) i).testBit b = (s.fld (xx_ERR_STATUS_SOURCE k) i).testBit b) ∧
    (s.fld (xx_ERR_STATUS_SOURCE k) i = 0 → t.fld (xx_ERR_FIRST_FIRST k) i = src ∧ t.fld (xx_ERR_FIRST_VALID k) i = 1) ∧
    (s.fld (xx_ERR_STATUS_SOURCE k) i ≠ 0 → t.fld (xx_ERR_FIRST_FIRST k) i = s.fld (xx_ERR_FIRST_FIRST k) i) ∧
    (s.eventSevere k i src = true → t.fld (xx_ERR_STATUS_SEVERE k) i = 1 ∧ (t.eu k i).winCount.get src 0 = 0) ∧
    (s.eventSevere k i src = false → (t.eu k i).winCount.get src 0 = (if fresh then 1 else c + 1) ∧
      t.fld (xx_ERR_STATUS_SEVERE k) i = s.fld (xx_ERR_STATUS_SEVERE k) i))

/-- R274, R301, R302: the control of error sets. CLEAR_HIST empties the history, CLEAR_WINDOWS the window counts; LEAVE_SAFE does nothing
outside the safe state, sets LEAVE_REFUSED while a cause stands, and otherwise resets the unit with its window counts zeroed. ERR_INJECT is
discarded after BN_LOCK, and arms only a source that a check code raises. R279, R280, R283, R284, R287, R380: messages and fences. A message
takes one of the Binnacle's 64 places, or is an INBOX event; a FENCE from any other source than the Binnacle is discarded and counted; F1
takes the NI out and leaves the router, F2 takes both, F3 the region, and MLINK one link at both its ends. Completion of their own effect,
from conditions on the state and the operands alone: errMsg, attn, clearHist, leaveSafe, clearWindows, errInjectWrite, fence, fenceWire. -/
def Obligations.ErrorSetsMessagesAndFences : Prop :=
  (∀ (s : State) (k i v : Nat), k < 8 → i < (kindOf k).count → v < 2 ^ 32 → (∀ u j, (s.eu u j).parityArmed = false) →
    let u := kindOf k
    let ctrl := (xx_ERR_CTRL u).addr i 0
    let cause := s.fld (xx_ERR_STATUS_SOURCE u) i ≠ 0 ∨ s.fld (xx_ERR_STATUS_SEVERE u) i = 1 ∨
      s.fld (xx_ERR_STATUS_SELF_PARITY u) i = 1 ∨ s.condPersists u i = true
    (s.regAlive ctrl = true → ∀ c ∈ [Instr.clearHist k i v, .leaveSafe k i v, .clearWindows k i v],
      (v % 8 = 4 → Does c s fun t => (t.eu u i).hist = [] ∧ t.fld (xx_ERR_HIST_PTR_NEXT u) i = 0 ∧
        s.RegsKept t [(xx_ERR_HIST_PTR u).addr i 0] ∧ t.rgn = s.rgn ∧ t.spad = s.spad) ∧
      (v % 8 = 1 → Does c s fun t => (t.eu u i).winCount = [] ∧ (t.eu u i).hist = (s.eu u i).hist ∧ t.regs = s.regs ∧ t.spad = s.spad) ∧
      (v % 8 = 2 → s.fld (xx_ERR_STATUS_SAFE u) i = 0 → Gives c s (s.serveWrite ctrl v)) ∧
      (v % 8 = 2 → s.fld (xx_ERR_STATUS_SAFE u) i = 1 → cause →
        Gives c s ((s.serveWrite ctrl v).setFld (xx_ERR_STATUS_LEAVE_REFUSED u) 1 i)) ∧
      (v % 8 = 2 → s.fld (xx_ERR_STATUS_SAFE u) i = 1 → ¬ cause →
        let w := ((s.serveWrite ctrl v).setFld (xx_ERR_STATUS_SAFE u) 0 i).setEu u i { s.eu u i with
          winCount := []
          winStart := [] }
        (u = .ni ∨ u = .red → Gives c s ((w.unitReset u i).rewriteIslands [i])) ∧
        (u = .rg → Gives c s ((w.unitReset u i).rewriteIslands (State.regionSlots i))) ∧
        (u ≠ .ni → u ≠ .red → u ≠ .rg → Gives c s (w.unitReset u i))) ∧
      (v % 8 = 2 → s.fld (xx_ERR_STATUS_SAFE u) i = 1 → ¬ cause → u = .tp ∨ u = .hp ∨ u = .mp →
        Does c s fun t => t.fld (xx_ERR_STATUS_SAFE u) i = 0 ∧ (t.eu u i).winCount = [] ∧ (t.eu u i).hist = (s.eu u i).hist) ∧
      (v % 8 = 0 → Gives c s (s.serveWrite ctrl v))) ∧
    (s.regAlive ((xx_ERR_INJECT u).addr i 0) = true →
      let w := s.serveWrite ((xx_ERR_INJECT u).addr i 0) v
      let raises := (injectRaises u (bits v 7 4) (bits v 1 0)).isSome = true
      (s.locked = true → Gives (.errInjectWrite k i v) s w) ∧
      (s.locked = false → v / 2 ^ 31 = 1 → raises → Does (.errInjectWrite k i v) s fun t =>
        t.fld (xx_ERR_INJECT_ARM u) i = 1 ∧ (t.eu u i).injLeft = zeroAsOne (bits v 23 16) ∧
        ((t.eu u i).parityArmed = true ↔ bits v 1 0 = 2)) ∧
      (s.locked = false → ¬ (v / 2 ^ 31 = 1 ∧ raises) → Does (.errInjectWrite k i v) s fun t =>
        t.fld (xx_ERR_INJECT_ARM u) i = 0 ∧ (t.eu u i).parityArmed = false))) ∧
  (∀ (s : State) (n port : Nat) (p : Pkt), n < 2304 → port < 4 → okPkt p = true →
    let u := s.takeNet (.unit { bnLoc with port := 5 }) p
    let w := s.takeNet (.unit (niLoc n)) p
    (∀ c, (c = .errMsg p false ∧ p.kind = opERR_MSG) ∨ (c = .attn p false ∧ p.kind = opATTN) →
      (s.bnUp = false → Gives c s s) ∧
      (s.bnUp = true → s.bn.inbox.length < 64 → Gives c s (u.modBn fun b => { b with inbox := b.inbox ++ [p] })) ∧
      (s.bnUp = true → 64 ≤ s.bn.inbox.length → Gives c s (u.unitEvent .bn 0 6 0))) ∧
    (∀ c, (c = .errMsg p true ∧ p.kind = opERR_MSG) ∨ (c = .attn p true ∧ p.kind = opATTN) → s.bnUp = true →
      (s.bn.inbox.length < 64 → Gives c s ((u.modBn fun b => { b with inbox := b.inbox ++ [p] }).drainInbox)) ∧
      (64 ≤ s.bn.inbox.length → Gives c s ((u.unitEvent .bn 0 6 0).drainInbox))) ∧
    (p.kind = opFENCE → s.routerUp n = true → s.frozenAt n = false →
      (p.src.port ≠ 5 → Gives (.fence n p) s (w.report .ni n 15 (p.src.x * 64 + p.src.y))) ∧
      (p.src.port = 5 →
        (p.arg 0 = 0 → Does (.fence n p) s fun t => t.niUp n = false ∧ t.level n ≠ 0 ∧ (∀ m, m ≠ n → t.level m = s.level m) ∧
          (∀ d ∈ t.descs, d.ni ≠ n ∨ s.level n ≠ 0) ∧ t.spad = s.spad ∧ t.rgn = s.rgn) ∧
        (p.arg 0 = 1 → Does (.fence n p) s fun t => t.routerUp n = false ∧ (s.level n ≠ 2 → t.rt n = {}) ∧ t.spad = s.spad) ∧
        (p.arg 0 = 2 → Does (.fence n p) s fun t => (t.rg (regionOf n)).f3 = true ∧ t.routerUp n = false ∧
          ((s.rg (regionOf n)).f3 = false → (t.rg (regionOf n)).holdReq = false)) ∧
        (p.arg 0 = 3 → p.arg 1 < 4 → Gives (.fence n p) s ((w.fenceLink n (p.arg 1)).repairFenced)))) ∧
    (s.routerUp n = false ∨ s.portOut n port = true → Gives (.fenceWire n port) s s) ∧
    (neighbour n port = none → Gives (.fenceWire n port) s s) ∧
    (∀ m, s.routerUp n = true → s.portOut n port = false → neighbour n port = some m → Does (.fenceWire n port) s fun t =>
      t.portOut n port = true ∧ t.portOut m (farPort port) = true ∧ t.spad = s.spad))

/-- R28, R291 to R295: repair. Stolrel repairs only in READY, outside an anchor stop, while its range of HBM is whole and the fault stands.
Repairing a mesh link changes routes, publishes the map with the link's patch, counts the repair and logs it; a lost tile takes its spare; a
fault without a spare fences its region, stops the jobs of it and leaves the map UNREPAIRED (R298). Publication advances GEN and decides the completions held for another generation; a held
one whose time is up is written. Completion of their own effect, from conditions on the state and the operands alone: repair, publish,
repairHoldExpire. -/
def Obligations.RepairPublishesANewMap : Prop :=
  ∀ (s : State) (patch v n chart : Nat) (l : Launch), patch ≤ 9120 → v < 2 ^ 32 → n < 2304 → chart < 2 ^ 32 →
    let runs := s.bnUp = true ∧ s.fld BN_STATE_STATE = 3 ∧ s.fld FB_ANCHOR_STATUS_STOPPED = 0
    let u := s.drainInbox
    (¬ runs → Gives (.repair patch) s s) ∧
    (runs → u.bn.lost = true ∨ u.faultStands patch = false → Gives (.repair patch) s u) ∧
    (runs → u.bn.lost = false → u.faultStands patch = true →
      (4608 < patch →
        let a := (patchLink patch).1
        let w := ((u.newMap [] patch).setFld FB_REPAIR_STATUS_STATE 2).addFld FB_REPAIR_STATUS_REPAIRS 1
        Gives (.repair patch) s ((w.writeSheet.setFld FB_REPAIR_STATUS_STATE 0).bnLog 0x04 0 a
          [patch * 2 ^ 48 + 0xFFF * 2 ^ 32 + a * 2 ^ 16 + a, w.fld FB_MAP_GEN_GEN])) ∧
      (∀ a, patchSlot patch = some a → u.tileAt a = none →
        let w := ((u.newMap [] patch).setFld FB_REPAIR_STATUS_STATE 2).addFld FB_REPAIR_STATUS_REPAIRS 1
        Gives (.repair patch) s ((w.writeSheet.setFld FB_REPAIR_STATUS_STATE 0).bnLog 0x04 0 a
          [patch * 2 ^ 48 + 0xFFF * 2 ^ 32 + a * 2 ^ 16 + a, w.fld FB_MAP_GEN_GEN])) ∧
      (∀ slot t sp, patchSlot patch = some slot → u.tileAt slot = some t → u.spareFor slot = some sp →
        let w := ((((u.modBn fun b => { b with lmap := b.lmap.put t sp }).newMap [t] patch).setFld FB_REPAIR_STATUS_STATE 2).addFld
          FB_REPAIR_STATUS_REPAIRS 1)
        let x := (w.restoreSpare slot sp).writeSheet.moveRings t sp
        Gives (.repair patch) s ((x.setFld FB_REPAIR_STATUS_STATE 0).bnLog 0x04 0 slot
          [patch * 2 ^ 48 + t * 2 ^ 32 + slot * 2 ^ 16 + sp, x.fld FB_MAP_GEN_GEN])) ∧
      (∀ slot t, patchSlot patch = some slot → u.tileAt slot = some t → u.spareFor slot = none →
        Gives (.repair patch) s
          (((u.fenceF3 (regionOf slot)).stopJobs fun x => x.inRegion (regionOf slot)).unrepaired patch t slot 2)) ∧
      (patch = 0 → Gives (.repair patch) s (u.unrepaired 0 0xFFF 0xFFFF 6))) ∧
    (s.regAlive (FB_MAP_GEN.addr 0 0) = true → v / 2 ^ 31 = 0 → Gives (.publish v) s (s.serveWrite (FB_MAP_GEN.addr 0 0) v)) ∧
    (s.regAlive (FB_MAP_GEN.addr 0 0) = true → v / 2 ^ 31 = 1 → (∀ x ∈ s.launches, x.holdGen = none) → Does (.publish v) s fun t =>
      t.fld FB_MAP_GEN_GEN = (s.fld FB_MAP_GEN_GEN + 1) % 2 ^ (FB_MAP_GEN_GEN.hi - FB_MAP_GEN_GEN.lo + 1) ∧
      s.RegsKept t [FB_MAP_GEN.addr 0 0] ∧ t.cplq = s.cplq ∧ t.launches = s.launches ∧ t.spad = s.spad) ∧
    (s.launches.find? (fun x => x.ni == n && x.chart == chart && x.holdGen.isSome) = none → Gives (.repairHoldExpire n chart) s s) ∧
    (s.launches.find? (fun x => x.ni == n && x.chart == chart && x.holdGen.isSome) = some l →
      Gives (.repairHoldExpire n chart) s (s.segComplete l l.abortSeg ((l.abort.map fun a => a.1).getD stABORTED) true))

/-- R289, R290, R300: continual self-test and TICK. A sounding flit counts as one of its region's (R390); one that arrives as it left raises nothing, and one with wrong bits is a
SOUND event of the receiver with their number; the router under test is the next of the region's 64, and a difference is its event. TICK
toggles exactly while it is enabled, no unit is in its safe state, no kick is missed, ref runs and the recovery loader does not (R416); a missed kick sets KICK_MISSED.
Completion of their own effect, from conditions on the state and the operands alone: soundingFlit, routerSelftest, kick, tickToggle,
kickMissed. -/
def Obligations.SelfTestsAndTick : Prop :=
  ∀ (s : State) (n port seed err r step v : Nat) (bad : Bool), n < 2304 → port < 4 → seed < 2 ^ 16 → err < 2 ^ 2048 → r < 36 → step < 256 →
    v < 2 ^ 32 → (∀ u i, (s.eu u i).parityArmed = false) →
    let u := (s.modRt n fun q => { q with sound := q.sound.put port (s.rg (regionOf n)).L }).modRg (regionOf n) fun q =>
      { q with flits := q.flits + 1 }
    let got := soundFlit seed ^^^ err
    let wrong := ones 2048 (got ^^^ soundFlit (got % 2 ^ 16))
    let runs := s.fld RG_SELFTEST_CFG_TEST_EN r = 1 ∧ (s.rg r).lag = 0 ∧ (s.rg r).frozen = false ∧ (s.rg r).f3 = false ∧ s.powered r = true
    let k := s.fld RG_SELFTEST_CFG_ROUTER r
    let ok := s.fld FB_TICK_CTRL_ENABLE = 1 ∧ (∀ q i, i < UnitKind.count q → s.fld (xx_ERR_STATUS_SAFE q) i = 0) ∧
      (s.fld FB_TICK_CTRL_KICK_LIMIT = 0 ∨ s.chr.kickOk = true) ∧ s.fld CH_STATUS_REF_LOST = 0 ∧ s.bn.clockLost = false ∧
      s.fld BN_STATE_STATE ≠ 1
    (soundFlit seed % 2 ^ 16 = seed ∧ soundFlit seed / 2 ^ 16 % 2 ^ 16 = 2 ^ 16 - 1 - seed ∧ soundFlit seed < 2 ^ 2048) ∧
    (err = 0 → wrong = 0) ∧
    (s.maySound n port = false → Gives (.soundingFlit n port seed err) s s) ∧
    (∀ m, s.maySound n port = true → neighbour n port = some m →
      (wrong = 0 ∨ s.frozenAt m = true → Gives (.soundingFlit n port seed err) s u) ∧
      (wrong ≠ 0 → s.frozenAt m = false →
        Gives (.soundingFlit n port seed err) s (u.unitEvent .ni m 2 (farPort port * 4096 + min 4095 wrong)))) ∧
    ((¬ runs → Gives (.routerSelftest r step bad) s s) ∧
      (runs → bad = false → Does (.routerSelftest r step bad) s fun t => t.fld RG_SELFTEST_CFG_ROUTER r = (k + 1) % 64 ∧
        (k = 63 → t.fld RG_SELFTEST_CFG_ROTATIONS r = (s.fld RG_SELFTEST_CFG_ROTATIONS r + 1) %
          2 ^ (RG_SELFTEST_CFG_ROTATIONS.hi - RG_SELFTEST_CFG_ROTATIONS.lo + 1)) ∧
        (k ≠ 63 → t.fld RG_SELFTEST_CFG_ROTATIONS r = s.fld RG_SELFTEST_CFG_ROTATIONS r) ∧
        s.RegsKept t [RG_SELFTEST_CFG.addr r 0] ∧ s.OnlyRegs t) ∧
      (runs → bad = true → k ≠ 63 → s.routerUp (regionSlot r k) = true → Gives (.routerSelftest r step bad) s
        ((s.setFld RG_SELFTEST_CFG_ROUTER (k + 1) r).unitEvent .ni (regionSlot r k) 3 step))) ∧
    ((ok → Gives .tickToggle s { s with chr := { s.chr with tick := !s.chr.tick } }) ∧
      (¬ ok → Gives .tickToggle s s)) ∧
    (s.regAlive (FB_TICK_CTRL.addr 0 0) = true → Does (.kick v) s fun t =>
      t.chr.kickOk = ((v / 2 ^ 30 % 2 == 1) || s.chr.kickOk) ∧ t.chr.tick = s.chr.tick ∧ s.RegsKept t [FB_TICK_CTRL.addr 0 0]) ∧
    (s.fld FB_TICK_CTRL_ENABLE = 1 → s.fld FB_TICK_CTRL_KICK_LIMIT ≠ 0 → s.chr.kickOk = true → Does .kickMissed s fun t =>
      t.fld FB_TICK_STATUS_KICK_MISSED = 1 ∧ t.chr.kickOk = false ∧ t.chr.tick = s.chr.tick ∧ t.spad = s.spad) ∧
    (s.fld FB_TICK_CTRL_ENABLE = 0 ∨ s.fld FB_TICK_CTRL_KICK_LIMIT = 0 ∨ s.chr.kickOk = false → Gives .kickMissed s s)

/-! ## Outer links (10_outer_links.md) -/

/-- R309, R310: frames and the retry buffer. A frame out of order changes nothing but its counter; an uncorrectable one of the pair awaited
counts FEC_UE, discards on and sends NAK; a pair whole and in order moves the receiver on, and the 32nd sends ACK. ACK frees the pairs up to
its own, NAK sends again from its pair, and NAK of one that has gone again eight times in a row is LINK_DOWN. On a held link frames are
checked, and none is taken (R335). In the hypotheses no injected error or parity
fault waits (R301). Completion of their own effect, from conditions on the state and the operands alone: frameReceive, ack, nak. -/
def Obligations.FramesAreAcknowledgedOrSentAgain : Prop :=
  ∀ (s : State) (n pair : Nat) (odd : Bool) (verdict : Nat), n < 32 → pair < 65536 → verdict < 3 → s.receiving n = true →
    s.fld (xx_ERR_INJECT_ARM .ol) n = 0 →
    let l := s.olk n
    (s.linkState n = lsHELD →
      (verdict = 0 → Gives (.frameReceive n pair odd verdict) s s) ∧
      (verdict = 1 → Gives (.frameReceive n pair odd verdict) s ((s.addPair OL_FEC_CE_LO OL_FEC_CE_HI 1 n).unitEvent .ol n 0 0)) ∧
      (verdict = 2 → Gives (.frameReceive n pair odd verdict) s ((s.addFld OL_FEC_UE_CNT 1 n).unitEvent .ol n 1 0)) ∧
      Gives (.ack n pair) s s ∧ Gives (.nak n pair) s s) ∧
    (s.linkState n ≠ lsHELD →
    (verdict = 0 → pair ≠ l.rxPair ∨ (odd = true ∧ l.rxHalf = false) → Gives (.frameReceive n pair odd verdict) s
      (s.modOl n fun l => { l with skip := true })) ∧
    (verdict = 0 → pair = l.rxPair → odd = false → Gives (.frameReceive n pair odd verdict) s
      (s.modOl n fun l => { l with
        skip := false
        rxHalf := true })) ∧
    (verdict = 0 → pair = l.rxPair → odd = true → l.rxHalf = true →
      (l.acked + 1 < 32 → Gives (.frameReceive n pair odd verdict) s (s.modOl n fun l => { l with
        rxHalf := false
        rxPair := (pair + 1) % 65536
        acked := l.acked + 1 })) ∧
      (32 ≤ l.acked + 1 → Does (.frameReceive n pair odd verdict) s fun t => t.regs = s.regs ∧ t.olk n = { l with
        rxHalf := false
        rxPair := (pair + 1) % 65536
        acked := 0
        items := l.items ++ [itemOf 0x01 pair] })) ∧
    (verdict = 1 → (pair ≠ l.rxPair ∨ (odd = true ∧ l.rxHalf = false)) → Gives (.frameReceive n pair odd verdict) s
      (((s.addPair OL_FEC_CE_LO OL_FEC_CE_HI 1 n).modOl n fun l => { l with skip := true }).unitEvent .ol n 0 0)) ∧
    (verdict = 1 → pair = l.rxPair → odd = false → Gives (.frameReceive n pair odd verdict) s
      (((s.addPair OL_FEC_CE_LO OL_FEC_CE_HI 1 n).modOl n fun l => { l with
        skip := false
        rxHalf := true }).unitEvent .ol n 0 0)) ∧
    (verdict = 2 → pair = l.rxPair → odd = false ∨ l.rxHalf = true → Gives (.frameReceive n pair odd verdict) s
      (((((s.addFld OL_FEC_UE_CNT 1 n).modOl n fun l => { l with
        skip := true
        rxHalf := false }).item n 0x02 pair).log .ol n 0x41 15 0 pair).unitEvent .ol n 1 0)) ∧
    (l.skip = false →
      (l.retry.any (fun e => e.1 == pair) = false → Gives (.ack n pair) s (s.modOl n fun l => l)) ∧
      (∀ before e after, l.retry = before ++ e :: after → e.1 = pair → (∀ x ∈ before, x.1 ≠ pair) → Does (.ack n pair) s fun t =>
        (t.olk n).retry = after ∧ (t.olk n).nak = none ∧ (t.olk n).again = 0 ∧ (t.olk n).txPair = l.txPair ∧ t.regs = s.regs) ∧
      (l.nak ≠ some pair → Does (.nak n pair) s fun t => (t.olk n).resend = l.retry.dropWhile (fun e => e.1 != pair) ∧
        (t.olk n).nak = some pair ∧ (t.olk n).again = 0 ∧ (t.olk n).retry = l.retry ∧ t.spad = s.spad) ∧
      (l.nak = some pair → l.again < 8 → Does (.nak n pair) s fun t => (t.olk n).resend = l.retry.dropWhile (fun e => e.1 != pair) ∧
        (t.olk n).again = l.again ∧ (t.olk n).retry = l.retry) ∧
      (l.nak = some pair → 8 ≤ l.again → Gives (.nak n pair) s
        (((((s.modOl n fun l => { l with
          nak := some pair
          resend := l.retry.dropWhile fun e => e.1 != pair }).log .ol n 0x42 15 0 pair).modOl n fun l => { l with
            nak := none
            again := 0 })).unitEvent .ol n 3 0))))

/-- R306, R307, R308, R309, R310, R311: link flits. Nothing leaves before WIDTH or on a held link (R317, R335). Pairs that NAK names go first, and
that pair's own goings are counted; five flits make a pair, whose tags are its control bits, and a marker follows once in 1,024 frames (R305); a new flit needs room in the retry buffer; a flit of packets
needs room at the far end and spends it; an idle position carries an empty CONTROL. Cells and flits of packets are taken in the order of
their packet, and the last one makes it whole; CREDIT returns room class by class, LAND_MARK and STREAM name what follows. A landing flit
that does not agree with its mark is a mismatch, and another waits at its place of the landing buffer. In the hypotheses no injected error
waits (R301). Completion of their own effect, from conditions on the state and the operands alone: landingFlitArrive, linkFlitTransmit,
small, openFlit, credit, landMark, stream. -/
def Obligations.LinkFlitsCarryPacketsAndItems : Prop :=
  ∀ (s : State) (n : Nat) (p : Pkt) (i v g j : Nat) (cells : List (Pkt × Nat)), n < 32 → okPkt p = true → p.net = .dat → i < 17 →
    v < 2 ^ 64 → g < 256 → j < 32 → cells.length ≤ 15 → (∀ c ∈ cells, okPkt c.1 = true ∧ c.1.net ≠ .dat ∧ c.2 < 4) →
    s.fld (xx_ERR_INJECT_ARM .ol) n = 0 →
    let l := s.olk n
    let x := s.streamOn n
    let rx := s.addPair OL_RX_BYTES_LO OL_RX_BYTES_HI 256 n
    (s.linkState n < lsWIDTH ∨ lsACTIVE < s.linkState n → Gives (.linkFlitTransmit n) s s) ∧
    (lsWIDTH ≤ s.linkState n → s.linkState n ≤ lsACTIVE →
      (∀ e rest, l.resend = e :: rest → Gives (.linkFlitTransmit n) s ((s.modOl n fun l => { l with
        resend := rest
        again := if l.nak = some e.1 then l.again + 1 else l.again
        ctl := (pairCtl e.2 % 2 ^ 20, pairCtl e.2 / 2 ^ 20)
        frames := (l.frames + 2) % 1024
        marker := if 1024 ≤ l.frames + 2 then s.fld OL_STATUS_LANES n else 0 }).addFld OL_RETRY_CNT 1 n)) ∧
      (l.resend = [] → 256 ≤ l.retry.length → l.cur = [] → Gives (.linkFlitTransmit n) s s) ∧
      (l.resend = [] → l.retry.length < 256 → s.linkState n ≠ lsACTIVE → l.items = [] → l.txStream = none → l.txS = [] →
        Gives (.linkFlitTransmit n) s (s.sendFlit n n (.control []) false)) ∧
      (∀ e, l.resend = [] → l.retry.length < 256 → s.linkState n = lsACTIVE → s.fld FB_ANCHOR_STATUS_STOPPED = 0 → l.items = [] →
        l.txStream = none → l.adopted = [] → l.carry = [] → l.txS = [] → l.txP = [(e, i)] → e.net = .dat →
        0 < l.roomOf (linkClass e) → i + 1 = nflits e → l.cur.length < 4 → Does (.linkFlitTransmit n) s fun t =>
          (t.olk n).txP = [] ∧ (t.olk n).cur = l.cur ++ [(n, .openDat e i)] ∧
          (t.olk n).roomOf (linkClass e) = l.roomOf (linkClass e) - 1 ∧ (t.olk n).retry = l.retry ∧ t.spad = s.spad)) ∧
    (∀ f c, l.cur.length = 4 → ∃ cur, (s.sendFlit n n f c).olk n = { l with
        cur := []
        txPair := (l.txPair + 1) % 65536
        retry := l.retry ++ [(l.txPair, cur)]
        since := if c then 1 else min 32 (l.since + 1)
        cell0 := f.cell0
        ctl := (pairCtl cur % 2 ^ 20, pairCtl cur / 2 ^ 20)
        frames := (l.frames + 2) % 1024
        marker := if 1024 ≤ l.frames + 2 then s.fld OL_STATUS_LANES n else 0 } ∧ cur = l.cur ++ [(n, f)]) ∧
    (s.accepts n = false → ∀ c ∈ [Instr.small n cells, .openFlit n p i, .credit n v, .landMark n g, .stream n j], Gives c s s) ∧
    (s.accepts n = true →
      Gives (.small n []) s rx ∧
      (∀ c, cells = [c] → (s.olk x).nextFlit c.1 = c.2 → Gives (.small n cells) s (rx.gather x c.1 c.2)) ∧
      (∀ c, cells = [c] → (s.olk x).nextFlit c.1 ≠ c.2 → Gives (.small n cells) s rx) ∧
      ((s.olk x).nextFlit p = i → Gives (.openFlit n p i) s (rx.gather x p i)) ∧
      ((s.olk x).nextFlit p ≠ i → Gives (.openFlit n p i) s rx) ∧
      ((s.olk x).nextFlit p = i → i + 1 = nflits p → Does (.openFlit n p i) s fun t => (t.olk x).rxq = (s.olk x).rxq ++ [p]) ∧
      Does (.credit n v) s (fun t => t.regs = s.regs ∧
        ∀ c, c < 7 → (t.olk x).roomOf c = (s.olk x).roomOf c + v / 2 ^ (8 * c) % 256) ∧
      Gives (.landMark n g) s (s.modOl x fun l => { l with mark := g }) ∧
      Gives (.stream n j) s (s.modOl n fun l => { l with strm := if j = n then none else some j })) ∧
    (∀ lo pos data ue, lo < 16 → pos < 4 → data < 2 ^ 2048 → ue < 2 → (s.olk x).rxS = [] →
      let flit := [lo, pos, data, ue]
      let m := (s.olk x).mark
      let mis := (((rx.setFld OL_LAND_STATUS_LAND_MISMATCH 1 x).unitEvent .ol x 5 0).item x 0x03 (creditItem 0 1)).segFail (olLoc x).slot
        (rx.segNow (olLoc x).slot) stABORTED
      Gives (.landingFlitArrive n []) s s ∧
      (s.accepts n = false → Gives (.landingFlitArrive n flit) s s) ∧
      (s.accepts n = true → m % 16 ≠ lo → (mis.olk x).rxS = [] → Gives (.landingFlitArrive n flit) s mis) ∧
      (s.accepts n = true → m % 16 = lo → (∃ cb, (s.olk x).dropFrom = some cb ∧ tagFrom cb m = true) →
        Does (.landingFlitArrive n flit) s fun t => (t.olk x).landing = (s.olk x).landing ∧ (t.olk x).rxS = [] ∧ t.spad = s.spad) ∧
      (s.accepts n = true → m % 16 = lo → (∀ cb, (s.olk x).dropFrom = some cb → tagFrom cb m = false) → (m + 256 - s.landBeat x % 256) % 256 < 128 →
        (∀ e ∈ (s.olk x).landing, e.1 / 4 ≠ m % 128) → Does (.landingFlitArrive n flit) s fun t =>
          (∀ d, (t.olk x).landing.get (4 * (m % 128) + pos) d = (m, data, ue != 0)) ∧ (t.olk x).rxS = [] ∧ t.spad = s.spad))

/-- R312 to R316, R431: packets between chips. A request to a chip that the plan routes to this link's bundle takes a translation entry and
leaves with its link TXN; one for another bundle is redirected; nothing leaves or enters during an anchor stop, and nothing enters over a link
whose stream nobody carries (R324). A request enters with the
link as its source and its place recorded; an answer goes back to the original requester, or is discarded and counted; an idle entry is
freed for the oldest packet that waits. Bits of NI_REACH that clear end what is open to their chips. Completion of their own effect, from
conditions on the state and the operands alone: linkEgressPacket, linkIngressRequest, linkIngressAnswer, xlatIdleExpire, niReachWrite. -/
def Obligations.PacketsCrossBetweenChips : Prop :=
  ∀ (s : State) (n ni k v t b : Nat) (p q : Pkt) (e : XlatE), n < 32 → ni < 2304 → k < 128 → v < 2 ^ 32 → t < 4096 → okPkt p = true →
    let u := s.takeNet (.unit (olLoc n)) p
    let l := s.olk n
    let stop := s.fld FB_ANCHOR_STATUS_STOPPED = 1
    let out := fun (x : Pkt) => { x with
      esc := false
      egen := 0
      hops := 0 }
    (stop ∨ p.isReg = true ∨ p.dst ≠ olLoc n → Gives (.linkEgressPacket n p) s s) ∧
    (¬ stop → p.isReg = false → p.dst = olLoc n →
      (p.net = .snp → p.kind ≠ opWIN_CLOSE → Gives (.linkEgressPacket n p) s u) ∧
      (p.net ≠ .snp → p.isAnswer = true →
        (s.carried n = true → s.plan.consort ≠ some n →
          Gives (.linkEgressPacket n p) s (u.modOl n fun l => { l with txP := l.txP ++ [(out p, 0)] })) ∧
        (s.carried n = false ∨ s.plan.consort = some n → Gives (.linkEgressPacket n p) s (u.redirect n (s.linkBundle n) p))) ∧
      (∀ a, (p.net ≠ .snp ∨ p.kind = opWIN_CLOSE) → p.isAnswer = false → p.address = some a →
        (s.chipBundle (adChip a) = none → Gives (.linkEgressPacket n p) s u) ∧
        (s.chipBundle (adChip a) = some b → b = s.linkBundle n → s.carried n = true → s.plan.consort ≠ some n →
          (l.xlat.find? (fun x => decide (x.src = p.src) && x.txn == p.tag) = some e → Gives (.linkEgressPacket n p) s
            (u.modOl n fun l => { l with txP := l.txP ++ [(out (p.withTag e.ltxn), 0)] })) ∧
          (l.xlat.find? (fun x => decide (x.src = p.src) && x.txn == p.tag) = none →
            (List.range 4096).find? (fun x => !(l.xlat.any fun y => y.ltxn == x)) = some t → Gives (.linkEgressPacket n p) s
              ((u.modOl n fun l => { l with xlat := l.xlat ++ [⟨p.src, p.tag, t⟩] }).modOl n fun l =>
                { l with txP := l.txP ++ [(out (p.withTag t), 0)] }))) ∧
        (∀ m, s.chipBundle (adChip a) = some b → b ≠ s.linkBundle n ∨ s.carried n = false ∨ s.plan.consort = some n →
          s.bundleLink b = some m → m ≠ n → Gives (.linkEgressPacket n p) s
          ((u.fromLink n { p with dst := olLoc m }).addFld OL_REDIRECT_CNT_REDIRECTED 1 n)))) ∧
    (stop ∨ s.carried n = false → Gives (.linkIngressRequest n) s s ∧ Gives (.linkIngressAnswer n) s s) ∧
    (¬ stop → l.rxq.find? (fun x => !x.isAnswer) = none → Gives (.linkIngressRequest n) s s) ∧
    (¬ stop → l.rxq.find? (fun x => x.isAnswer) = none → Gives (.linkIngressAnswer n) s s) ∧
    (¬ stop → s.carried n = true → l.rxq.find? (fun x => !x.isAnswer) = some q →
      let w := (s.modOl n fun l => { l with rxq := delFirst (fun x => decide (x = q)) l.rxq }).item n 0x03
        (creditItem (linkClass q) (nflits q))
      (∀ a d, q.address = some a → s.ingressDest n a = some d → Gives (.linkIngressRequest n) s
        ((w.modOl n fun l => { l with dest := l.dest.put q.tag d }).fromLink n { q with
          src := olLoc n
          dst := d })) ∧
      (∀ a, q.address = some a → s.ingressDest n a = none →
        (adChip a ≠ s.chipId → Gives (.linkIngressRequest n) s w) ∧
        (adChip a = s.chipId → Gives (.linkIngressRequest n) s
          (w.queueOn n (mkPkt opDROP (olLoc n) q.src q.ten q.flow q.tag [s.lostReason a, q.op, b2n (q.net == .dat)]))))) ∧
    (¬ stop → s.carried n = true → l.rxq.find? (fun x => x.isAnswer) = some q →
      let w := (s.modOl n fun l => { l with rxq := delFirst (fun x => decide (x = q)) l.rxq }).item n 0x03
        (creditItem (linkClass q) (nflits q))
      (l.xlat.find? (fun x => x.ltxn == q.txn) = some e → Gives (.linkIngressAnswer n) s (w.fromLink n { q with
        dst := e.src
        txn := e.txn })) ∧
      (l.xlat.find? (fun x => x.ltxn == q.txn) = none → Gives (.linkIngressAnswer n) s (w.addFld OL_XLAT_DISC_DISCARDED 1 n))) ∧
    (l.wait = [] → Gives (.xlatIdleExpire n t) s (s.modOl n fun l => { l with xlat := l.xlat.filter fun x => x.ltxn != t })) ∧
    (∀ rest, l.wait = q :: rest → Gives (.xlatIdleExpire n t) s
      (((s.modOl n fun l => { l with xlat := l.xlat.filter fun x => x.ltxn != t }).modOl n fun l => { l with wait := rest }).translate n q)) ∧
    (s.regAlive (NI_REACH.addr ni k) = true → Gives (.niReachWrite ni k v) s
      (((s.serveWrite (NI_REACH.addr ni k) v).wr NI_REACH ni k v).chipsLost (fun x => x == ni)
        fun c => c / 32 == k && (s.rd NI_REACH ni k).testBit (c % 32) && !(v.testBit (c % 32)))) ∧
    (s.regAlive (NI_REACH.addr ni k) = true → s.otx = [] → Does (.niReachWrite ni k v) s fun y =>
      y.rd NI_REACH ni k = v ∧ s.RegsKept y [NI_REACH.addr ni k] ∧ y.spad = s.spad)

/-- R92, R317 to R320: training. ENABLE starts it and clearing it loses the link; what a sibling has adopted of its stream stands (R332); the width
is chosen once the far end has told its lanes, and an ACTIVE link whose far end has shed a lane sheds it too (R331, assumption 169); each state is left by its own event and by no other; the
width is ×4, ×2 or ×1 of the lowest lanes usable at both ends, and none is FAILED; LOCK is the larger of both ends, above 150 is FAILED, and
a landing DELAY below LOCK + 8 is refused; IDENT is recorded while it is exchanged, and one that differs later is an event. Completion of
their own effect, from conditions on the state and the operands alone: ident, identSend, train, linkEnable, retrain, holdDown, pmaReady,
alignDone, widthChosen, lockDone, identDone, trainLimitExpire. -/
def Obligations.LinksTrainStateByState : Prop :=
  ∀ (s : State) (n v mask rtt far : Nat) (c : Instr), n < 32 → v < 2 ^ 120 → mask < 16 → rtt < 65536 → far < 256 →
    let st := s.linkState n
    let l := s.olk n
    let off := OL_CTRL.addr n 0
    (∀ x, x < 2 ^ 32 → c ∈ [Instr.linkEnable n x, .retrain n x, .holdDown n x] → s.regAlive off = true →
      let u := (s.serveWrite off x).writeTyped OL_CTRL n 0 x
      (x / 2 ^ 31 = 0 → s.fld OL_CTRL_ENABLE n = 0 → Gives c s u) ∧
      (x / 2 ^ 31 = 0 → s.fld OL_CTRL_ENABLE n = 1 → Gives c s ((u.linkLost n true).setLink n lsDISABLED)) ∧
      (x / 2 ^ 29 = 4 → s.fld OL_CTRL_ENABLE n = 0 → Gives c s (u.trainStart n)) ∧
      (x / 2 ^ 29 = 6 → s.fld OL_CTRL_ENABLE n = 1 → Gives c s (((u.clockBack (52 + n / 4)).linkLost n true).trainStart n)) ∧
      (x / 2 ^ 29 = 5 → s.fld OL_CTRL_ENABLE n = 1 → Gives c s (u.holdLink n)) ∧
      (x / 2 ^ 29 = 4 → s.fld OL_CTRL_ENABLE n = 1 → Gives c s u)) ∧
    (s.fld OL_CTRL_ENABLE n = 1 → st ≠ lsWAIT_PMA → (s.trainStart n).linkState n = lsWAIT_PMA ∧
      ((s.trainStart n).olk n).retry = [] ∧ ((s.trainStart n).olk n).txPair = 0 ∧ ((s.trainStart n).olk n).rxPair = 0 ∧
      ((s.trainStart n).olk n).told = false ∧
      (s.isAdopted n = false → ((s.trainStart n).olk n).room = [8, 34, 34, 32, 32, 16, 16] ∧ ((s.trainStart n).olk n).old = []) ∧
      (s.isAdopted n = true → ((s.trainStart n).olk n).room = l.room ∧ ((s.trainStart n).olk n).old = l.old)) ∧
    (∀ x y, x ≠ y → x < 16 → y < 16 → s.fld OL_STATUS_STATE n = x → (s.setLink n y).linkState n = y) ∧
    (st = lsWAIT_PMA → mask ≠ 0 → Gives (.pmaReady n mask) s (s.setLink n lsALIGN)) ∧
    (st ≠ lsWAIT_PMA ∨ mask = 0 → Gives (.pmaReady n mask) s s) ∧
    (st = lsALIGN → Gives (.alignDone n mask) s (((s.modOl n fun l => { l with lanesNear := mask }).item n 0x0B mask).setLink n lsWIDTH)) ∧
    (st ≠ lsALIGN → Gives (.alignDone n mask) s s) ∧
    (st = lsALIGN ∨ st = lsWIDTH → Gives (.train n mask) s (s.modOl n fun l => { l with
      lanesFar := mask
      told := true })) ∧
    (let fewer := st = lsACTIVE ∧ s.taking n = true ∧ mask &&& s.fld OL_STATUS_LANES n ≠ s.fld OL_STATUS_LANES n;
      (fewer → Gives (.train n mask) s (s.rewidth n l.lanesNear mask)) ∧
      (¬ fewer → st ≠ lsALIGN → st ≠ lsWIDTH → Gives (.train n mask) s s)) ∧
    (∀ m, m < 16 → let count := ((List.range 4).filter fun i => m.testBit i).length
      ((widthOf m).1 = if count = 4 then 3 else if 2 ≤ count then 2 else count) ∧ ((widthOf m).2 &&& m = (widthOf m).2) ∧
      ((List.range 4).filter fun i => (widthOf m).2.testBit i).length = (if count = 3 then 2 else count) ∧
      (∀ i j, i < j → j < 4 → (widthOf m).2.testBit j = true → m.testBit i = true → (widthOf m).2.testBit i = true)) ∧
    (st = lsWIDTH → l.told = true → l.lanesNear &&& l.lanesFar &&& 15 = 0 → Gives (.widthChosen n) s ((s.setFld OL_STATUS_FAIL_CAUSE 2 n).setLink n lsFAILED)) ∧
    (st = lsWIDTH → l.told = true → l.lanesNear &&& l.lanesFar &&& 15 ≠ 0 → Does (.widthChosen n) s fun t => t.linkState n = lsLOCK ∧
      t.fld OL_STATUS_WIDTH n = (widthOf (l.lanesNear &&& l.lanesFar)).1 ∧ t.fld OL_STATUS_LANES n = (widthOf (l.lanesNear &&& l.lanesFar)).2) ∧
    (st ≠ lsWIDTH ∨ l.told = false → Gives (.widthChosen n) s s) ∧
    (st = lsLOCK → Does (.lockDone n rtt far) s fun t =>
      let k := max ((128 * rtt + 2124) / 2125 + 1) far
      t.fld OL_LOCK_RTT n = rtt ∧ t.fld OL_LOCK_LOCK n = min 255 k ∧ (150 < k → t.linkState n = lsFAILED ∧ t.fld OL_STATUS_FAIL_CAUSE n = 3) ∧
      (k ≤ 150 → t.linkState n = lsIDENT) ∧
      (k ≤ 150 → min 127 (s.fld OL_LAND_CFG_DELAY n) < k + 8 → t.fld OL_LAND_CFG_ENABLE n = 0) ∧
      (k ≤ 150 → k + 8 ≤ min 127 (s.fld OL_LAND_CFG_DELAY n) → t.fld OL_LAND_CFG_ENABLE n = s.fld OL_LAND_CFG_ENABLE n)) ∧
    (st ≠ lsLOCK → Gives (.lockDone n rtt far) s s) ∧
    (st = lsIDENT → s.fld FB_STRAP_PLAN_SEL = 0 → s.plan.valid = false → Gives (.identDone n) s (s.setLink n lsHELD)) ∧
    (st = lsIDENT → s.fld FB_STRAP_PLAN_SEL ≠ 0 ∨ s.plan.valid = true → Gives (.identDone n) s (s.setLink n lsREADY)) ∧
    (st ≠ lsIDENT → Gives (.identDone n) s s) ∧
    (lsWAIT_PMA ≤ st → st ≤ lsIDENT → Gives (.trainLimitExpire n) s ((s.setFld OL_STATUS_FAIL_CAUSE 1 n).setLink n lsFAILED)) ∧
    (st < lsWAIT_PMA ∨ lsIDENT < st → Gives (.trainLimitExpire n) s s) ∧
    (st = lsACTIVE ∨ st = lsIDENT → Gives (.identSend n) s (s.item n 0x06 (s.identBody n))) ∧
    (st ≠ lsACTIVE → st ≠ lsIDENT → Gives (.identSend n) s s) ∧
    (l.skip = false →
      (st = lsIDENT → Does (.ident n v) s fun t => (t.olk n).ident = v ∧ t.fld OL_IDENT_RX_R_CHIP n = v / 2 ^ 108 % 2 ^ 12 ∧
        t.fld OL_IDENT_RX_R_LINK n = v / 2 ^ 103 % 2 ^ 5 ∧ t.fld OL_IDENT_RX_R_BUNDLE n = v / 2 ^ 98 % 2 ^ 5 ∧
        s.RegsKept t [OL_IDENT_RX.addr n 0]) ∧
      (st = lsACTIVE → l.ident = v → Gives (.ident n v) s s) ∧
      (st = lsACTIVE → l.ident ≠ v → Gives (.ident n v) s (s.unitEvent .ol n 4 0)))

/-- R305, R331 to R334, R447: losses. Loss of signal on every lane in use is LINK_DOWN and on some is a lane event of each; a marker dropped
or repeated is a lane event, and loss of lock LINK_DOWN. A LINK_LOSS from the far end holds that link of the same bundle; RESUME sends again
what was not received, and is taken on the link that adopted the stream. A shed lane leaves the width of the lanes that remain, and TRAIN tells
of it (assumption 169). Completion
of their own effect, from conditions on the state and the operands alone: linkLoss, resume, sigDetLoss, alignmentMarker. -/
def Obligations.LanesAndLinksAreLostAndAdopted : Prop :=
  ∀ (s : State) (n j lane kind mask last : Nat), n < 32 → j < 32 → lane < 4 → kind < 3 → mask < 16 → last < 65536 →
    let use := s.fld OL_STATUS_LANES n
    (s.linkState n ≠ lsACTIVE ∨ mask &&& use = 0 → Gives (.sigDetLoss n mask) s s) ∧
    (s.linkState n = lsACTIVE → mask &&& use ≠ 0 → mask &&& use = use → Gives (.sigDetLoss n mask) s (s.unitEvent .ol n 3 0)) ∧
    (s.linkState n = lsACTIVE → mask &&& use = 2 ^ lane → mask &&& use ≠ use → Gives (.sigDetLoss n mask) s (s.laneEvent n lane)) ∧
    (s.receiving n = false ∨ kind = 0 → Gives (.alignmentMarker n lane kind) s s) ∧
    (s.receiving n = true → kind = 1 → Gives (.alignmentMarker n lane kind) s (s.laneEvent n lane)) ∧
    (s.receiving n = true → kind = 2 → Gives (.alignmentMarker n lane kind) s (s.unitEvent .ol n 3 0)) ∧
    (s.taking n = true → s.linkState n = lsACTIVE → s.linkBundle j = s.linkBundle n → Gives (.linkLoss n j) s (s.linkLost j false)) ∧
    (s.taking n = false ∨ s.linkState n ≠ lsACTIVE ∨ s.linkBundle j ≠ s.linkBundle n → Gives (.linkLoss n j) s s) ∧
    (s.taking n = true → (s.olk n).adopted.contains j = true → Gives (.resume n j last) s (s.resume j last)) ∧
    (s.taking n = false ∨ (s.olk n).adopted.contains j = false → Gives (.resume n j last) s s) ∧
    (∀ before e, (s.olk j).old = before ++ [e] → e.1 = last → (∀ x ∈ before, x.1 ≠ last) →
      ((s.resume j last).olk j).old = [] ∧ ((s.resume j last).olk j).carry = (s.olk j).carry) ∧
    (∀ e f, (s.olk j).old = [e] → e.1 ≠ last → e.2 = [(j, .sched f 0 0 0)] →
      ((s.resume j last).olk j).old = [] ∧ ((s.resume j last).olk j).carry = LFlit.sched f 0 0 0 :: (s.olk j).carry) ∧
    (s.linkState j ≠ lsACTIVE → s.linkLost j false = s) ∧
    (∀ sib, s.linkState j = lsACTIVE → s.fld FB_CONSORT_STATUS_ARMED = 0 → s.plan.consort = none →
      let u := s.setLink j lsHELD
      max 1 (s.minLinks (s.linkBundle j)) ≤ (u.bundleUpLinks (s.linkBundle j)).length → u.sibling (s.linkBundle j) = some sib →
      (s.olk j).adopted = [] → sib ≠ j →
      let t := s.linkLost j false
      t.linkState j = lsHELD ∧ j ∈ (t.olk sib).adopted ∧ (t.olk j).adopted = [] ∧ (t.olk j).retry = [] ∧
        (t.olk j).old = (s.olk j).old ++ (s.olk j).retry ++ (if (s.olk j).cur.isEmpty then [] else [((s.olk j).txPair, (s.olk j).cur)]) ∧ t.fld OL_STATUS_ADOPTING sib = 1 ∧
        t.fld OL_STATUS_CARRIER j = sib ∧ (∀ b, t.bundleState b = s.bundleState b) ∧ t.otx = s.otx) ∧
    (∀ l, s.olk n = l → s.minWidth (s.linkBundle n) ≤ 1 → (l.lanesNear &&& l.lanesFar) &&& (15 ^^^ 2 ^ lane) ≠ 0 →
      let t := s.shedLane n lane
      let w := widthOf ((l.lanesNear &&& l.lanesFar) &&& (15 ^^^ 2 ^ lane))
      t.fld OL_STATUS_WIDTH n = w.1 ∧ t.fld OL_STATUS_LANES n = w.2 ∧ (t.fld OL_STATUS_LANES n).testBit lane = false ∧
        (t.olk n).resend = l.retry ∧ t.linkState n = s.linkState n ∧
        itemOf 0x0B (l.lanesNear &&& (15 ^^^ 2 ^ lane)) ∈ (t.olk n).items)

/-- R321, R323, R324, R327, R328, R329, R330: sync and discovery. A SYNC from the parent bundle gives θ from the time sent, LOCK and the
root's offset; it steps C at the next mark only beyond 8 sixteenths, or lets Stolrel load C when the first is beyond 16 and no chart runs.
Every other SYNC changes nothing. A SYNC leaves once its INTERVAL is over, and 64 without one lose the parent, which gives way to the alternate. HOLD_ALL leaves no bundle UP; a plan that R323 refuses leaves
its cause; judging waits for discovery. Completion of their own effect, from conditions on the state and the operands alone: sync, syncSend,
discover, holdAll, syncLost, discoveryJudge. -/
def Obligations.SyncAndDiscoverySettleLinks : Prop :=
  ∀ (s : State) (n c ofs v : Nat) (kids : List Nat), n < 32 → c < 2 ^ 60 → ofs < 4096 → v < 2 ^ 32 → (∀ k ∈ kids, k < 32) →
    let mine := s.taking n = true ∧ s.linkState n = lsACTIVE ∧ s.fld FB_SYNC_STATUS_ROOT = 0 ∧ s.fld FB_SYNC_STATUS_PARENT = s.linkBundle n
    let th := s.thetaOf n c ofs
    let y := s.stamped (domOf .ol n)
    let u := { y with chr := { y.chr with syncGot := y.time.c } }
    let interval := zeroAsOne (s.fld FB_SYNC_CFG_INTERVAL)
    let since := fun (b : Nat) => (s.time.c + beatMod - b) % beatMod
    let sent := { s with chr := { s.chr with syncSent := s.time.c } }
    let x := ({ u with plan := { u.plan with theta := th } }.setFld FB_SYNC_STATUS_THETA (sat12 th)).setFld FB_SYNC_STATUS_LOCKED
      (b2n (decide (-16 ≤ th ∧ th ≤ 16)))
    let w := { x with plan := { x.plan with synced := s.plan.synced || s.bnUp } }
    let settles := fun x : State => { x.tryReady with time := x.time }
    let first := s.plan.synced = false ∧ (16 < th ∨ th < -16) ∧ s.noChart = true ∧ s.bnUp = true
    (¬ mine → GivesTime (.sync n c ofs) s s) ∧
    (mine → ¬ first → GivesTime (.sync n c ofs) s (settles
      { w with chr := { w.chr with syncStep := if 8 < th then some true else if th < -8 then some false else none } })) ∧
    (mine → first → GivesTime (.sync n c ofs) s (settles (w.syncLoad n c ofs))) ∧
    (mine → -(2 ^ 63 : Int) ≤ 16 * ((c : Int) + s.fld OL_LOCK_LOCK n) + signedOf 12 ofs - s.stampOf (domOf .ol n) →
      16 * ((c : Int) + s.fld OL_LOCK_LOCK n) + signedOf 12 ofs - s.stampOf (domOf .ol n) < 2 ^ 63 →
      th = 16 * ((c : Int) + s.fld OL_LOCK_LOCK n) + signedOf 12 ofs - s.stampOf (domOf .ol n)) ∧
    (since s.chr.syncSent < interval → Gives (.syncSend kids) s s) ∧
    (interval ≤ since s.chr.syncSent → Gives (.syncSend kids) s (sent.syncOut kids)) ∧
    (∀ b m, interval ≤ since s.chr.syncSent → kids = [b] → (s.bundleLinks b).find? (fun k => s.linkState k == lsACTIVE) = some m → s.fld FB_SYNC_STATUS_ROOT = 1 →
      Gives (.syncSend kids) s (sent.item m 0x07 s.time.c)) ∧
    (s.fld FB_SYNC_STATUS_ROOT = 1 ∨ s.fld FB_SYNC_STATUS_PARENT = 63 ∨ since s.chr.syncGot < 64 * interval → Gives .syncLost s s) ∧
    (s.fld FB_SYNC_STATUS_ROOT = 0 → s.fld FB_SYNC_STATUS_PARENT ≠ 63 → 64 * interval ≤ since s.chr.syncGot → s.plan.alt < 64 → Does .syncLost s fun t =>
      t.fld FB_SYNC_STATUS_LOST = 1 ∧ s.RegsKept t [FB_SYNC_STATUS.addr 0 0] ∧
      (s.plan.alt = 63 → t.fld FB_SYNC_STATUS_PARENT = s.fld FB_SYNC_STATUS_PARENT) ∧
      (s.plan.alt ≠ 63 → t.fld FB_SYNC_STATUS_PARENT = s.plan.alt ∧ t.fld FB_SYNC_STATUS_ALT = 1)) ∧
    ((s.fld FB_PLAN_STATUS_STATE ≠ 1 ∧ s.fld FB_PLAN_STATUS_STATE ≠ 2) ∨ s.bnUp = false → Gives .discoveryJudge s s) ∧
    (s.fld FB_PLAN_STATUS_STATE = 2 → s.bnUp = true → Gives .discoveryJudge s s.judgeAgain) ∧
    (s.fld FB_PLAN_STATUS_STATE = 1 → s.bnUp = true → Gives .discoveryJudge s s.judge) ∧
    (s.regAlive (FB_PLAN_CTRL.addr 0 0) = true → ∀ d ∈ [Instr.discover v, .holdAll v],
      let x := (s.serveWrite (FB_PLAN_CTRL.addr 0 0) v).setFld FB_PLAN_CTRL_HOLD_ALL (v % 2)
      (v / 2 % 2 = 1 → Gives d s x.discover) ∧ (v / 2 % 2 = 0 → v % 2 = 1 → Gives d s x.holdAll) ∧ (v % 4 = 0 → Gives d s x)) ∧
    (∀ b, b < 32 → s.bundleState b < 4 → s.holdAll.bundleState b ≠ 1) ∧
    (s.holdAll.fld FB_STRAP_PLAN_SEL = 0 → ∀ k,
      planCause s.holdAll.chipId (s.holdAll.hbmBytes (adBig (s.holdAll.pair FB_PLAN_LO FB_PLAN_HI)) 8192) = some k → k < 8 →
        s.discover.plan = {} ∧ s.discover.fld FB_PLAN_STATUS_STATE = 3 ∧ s.discover.fld FB_PLAN_STATUS_CAUSE = k)

/-! ## Memory ports (11_memory_ports.md) -/

/-- R345, R346, R347, R349, R431: arbitration. Nothing is granted in refresh hold, without the controller or in the safe state; the debug
port goes first, unless its granule belongs to an atomic that has not finished, then the suspended transaction; a requester alone that owns the grant keeps it parked; of several, one of the highest level
goes, the first after the last granted; committed levels come into force at a contested grant; one whose grant has gone from the port's copy while it waited is refused (R366). During an anchor stop only the Binnacle is
granted. In the hypotheses no injected error waits (R301). Completion of its own effect, from conditions on the state and the operands
alone: arbitrate. -/
def Obligations.ArbitersGrantByLevelAndTurn : Prop :=
  ∀ (s : State) (n : Nat), n < 16 → s.fld (xx_ERR_INJECT_ARM .mp) n = 0 →
    let m := s.mpt n
    let w := s.noteWaits n
    let stop := s.fld FB_ANCHOR_STATUS_STOPPED = 1
    let runs := m.held = false ∧ m.ctrlReady = true ∧ s.fld (xx_ERR_STATUS_SAFE .mp) n = 0
    let dbg := m.debugHead.isSome
    let q := (if stop then [12] else List.range 13).filter fun k => (s.head n k).isSome
    (w.mpt n = { m with since := (w.mpt n).since }) ∧
    (∀ t, m.ready.find? (fun x => x.req == 13) = some t → m.debugHead = if m.blocked t then none else some t) ∧
    (m.ready.find? (fun x => x.req == 13) = none → m.debugHead = none) ∧
    (¬ runs → Gives (.arbitrate n) s w) ∧
    (runs → dbg = true → Gives (.arbitrate n) s (w.grantDbg n)) ∧
    (runs → dbg = false → m.suspended.isSome = true → Gives (.arbitrate n) s (w.modMp n fun m => { m with
      cur := m.suspended
      suspended := none
      issued := m.issued ++ m.cur.toList })) ∧
    (runs → dbg = false → m.suspended = none → q = [] → Gives (.arbitrate n) s (w.modMp n fun m => { m with parked := true })) ∧
    (∀ t, runs → dbg = false → m.suspended = none → q = [m.owner] → s.head n m.owner = some t →
      Gives (.arbitrate n) s (w.serveTx n m.owner t true)) ∧
    (∀ t k, runs → dbg = false → m.suspended = none → q ≠ [] → q ≠ [m.owner] → m.goPend = none → m.winner q = some k → s.head n k = some t →
      Gives (.arbitrate n) s (w.serveTx n k t false)) ∧
    (∀ p0 p1, runs → dbg = false → m.suspended = none → q ≠ [] → q ≠ [m.owner] → m.goPend = some (p0, p1) →
      Does (.arbitrate n) s fun t => (t.mpt n).prio0 = p0 ∧ (t.mpt n).prio1 = p1 ∧ (t.mpt n).goPend = none ∧ t.spad = s.spad) ∧
    (∀ l, l ≠ [] → ∃ k, m.winner l = some k ∧ k ∈ l ∧ (∀ j ∈ l, m.level j ≤ m.level k) ∧
      (l.Pairwise (· < ·) → (∀ j ∈ l, m.level j = m.level k → m.owner < j → m.owner < k ∧ k ≤ j) ∧
        ((∀ j ∈ l, m.level j = m.level k → j ≤ m.owner) → ∀ j ∈ l, m.level j = m.level k → k ≤ j))) ∧
    (∀ t k b, m.denied t = false → s.serveTx n k t b = s.grantTx n k t b) ∧
    (∀ t p k b, t.pkt = some p → (covered m.grants p.ten (adBig (reqAddr p)) t.len fun c =>
      if t.kind = .write then (p.arg 5 = 1 || c == 0) else true) = false →
      s.serveTx n k t b = (s.setMp n { m with
        ready := delFirst (fun u => decide (u = t)) m.ready
        since := m.since.put k 0 }).mpRefuse p (mpLoc n (k - 6)) stACCESS_DENIED) ∧
    (∀ t k, m.tag = none → s.grantTx n k t false = s) ∧
    (∀ t k id, m.tag = some id → t.kind ≠ .bookRead → (s.grantTx n k t false).mpt n = { m with
      issued := m.issued ++ m.cur.toList
      cur := some { t with id := id }
      owner := k
      parked := false
      ready := delFirst (fun u => decide (u = t)) m.ready
      since := m.since.put k 0 } ∧ ∀ u ∈ m.cur.toList ++ m.suspended.toList ++ m.suspDbg.toList ++ m.issued, u.id ≠ id)

/-- R347, R348, R349: the inputs of an arbiter. Refresh hold suspends the transaction in progress, a debug transaction that runs over a suspended
one too, and counts a preemption, unless the port ignores the input; its end resumes, the debug transaction first; one that lasts too long is an event, after which the port ignores the input until it is armed again. GO
commits the levels that the shadows hold. A debug request is taken at once, or waits for the controller and refresh hold. Completion of
their own effect, from conditions on the state and the operands alone: refreshHold, refreshHoldEnd, refreshStuck, rearm, go,
debugTransaction. -/
def Obligations.RefreshHoldDebugAndPriorities : Prop :=
  ∀ (s : State) (n v addr data : Nat) (wr : Bool), n < 16 → v < 2 ^ 32 → addr < 2 ^ 36 → data < 2 ^ 2048 →
    (∀ u i, (s.eu u i).parityArmed = false) →
    let m := s.mpt n
    (m.inputHeld = true → Gives (.refreshHold n) s s) ∧
    (m.inputHeld = false → m.stuck = true → Gives (.refreshHold n) s (s.setMp n { m with inputHeld := true })) ∧
    (m.inputHeld = false → m.stuck = false → m.suspended = none → Gives (.refreshHold n) s (((s.setMp n { m with
      inputHeld := true
      held := true
      suspended := m.cur
      cur := none }).log .mp n 0x20 15 0 ((m.cur.map MTx.req).getD m.owner)).addFld MP_PREEMPT_CNT 1 n)) ∧
    (∀ x, m.inputHeld = false → m.stuck = false → m.suspended = some x → Gives (.refreshHold n) s (((s.setMp n { m with
      inputHeld := true
      held := true
      suspDbg := m.suspDbg.orElse fun _ => m.cur
      cur := none }).log .mp n 0x20 15 0 x.req).addFld MP_PREEMPT_CNT 1 n)) ∧
    (let u := if m.held then s.log .mp n 0x21 15 0 ((m.suspended.map MTx.req).getD m.owner) else s;
      (m.suspDbg.isSome = true → m.cur = none → Gives (.refreshHoldEnd n) s
        (u.setMp n { m with
          inputHeld := false
          held := false
          cur := m.suspDbg
          suspDbg := none })) ∧
      (m.suspDbg = none → m.suspended.isSome = true → m.cur = none → m.debugHead = none → Gives (.refreshHoldEnd n) s
        (u.setMp n { m with
          inputHeld := false
          held := false
          cur := m.suspended
          suspended := none })) ∧
      (m.cur ≠ none ∨ (m.suspDbg = none ∧ (m.suspended = none ∨ m.debugHead ≠ none)) → Gives (.refreshHoldEnd n) s (u.setMp n { m with
        inputHeld := false
        held := false }))) ∧
    (m.held = false → Gives (.refreshStuck n) s s) ∧
    (m.held = true → m.suspended = none → Does (.refreshStuck n) s fun t =>
      (t.mpt n).stuck = true ∧ (t.mpt n).held = false ∧ (t.mpt n).ready = m.ready ∧ t.spad = s.spad) ∧
    (s.regAlive (MP_REFRESH_CFG.addr n 0) = true →
      let u := (s.serveWrite (MP_REFRESH_CFG.addr n 0) v).writeTyped MP_REFRESH_CFG n 0 v
      (v / 2 ^ 31 = 0 ∨ m.stuck = false → Gives (.rearm n v) s u) ∧
      (v / 2 ^ 31 = 1 → m.stuck = true → m.inputHeld = false → Gives (.rearm n v) s (u.setMp n { m with stuck := false })) ∧
      (v / 2 ^ 31 = 1 → m.stuck = true → m.inputHeld = true → Does (.rearm n v) s fun t =>
        (t.mpt n).stuck = false ∧ (t.mpt n).held = true ∧ (m.suspended = none → (t.mpt n).suspended = m.cur ∧ (t.mpt n).cur = none))) ∧
    (s.regAlive (MP_ARB_COMMIT.addr n 0) = true →
      let u := s.serveWrite (MP_ARB_COMMIT.addr n 0) v
      (v % 2 = 0 → Gives (.go n v) s u) ∧
      (v % 2 = 1 → Gives (.go n v) s (u.setMp n { m with goPend := some (s.rd MP_ARB_PRIO0 n, s.rd MP_ARB_PRIO1 n) }))) ∧
    (let t : MTx := ⟨0, .debug, 13, addr, 256, if wr then toBytes 256 data else [], none, 0, 0, 0, false⟩
     let u := s.setMp n { m with ready := m.ready ++ [t] }
     let free := m.ctrlReady = true ∧ s.fld (xx_ERR_STATUS_SAFE .mp) n = 0
     (free → Gives (.debugTransaction n addr wr data) s (u.grantDbg n)) ∧
     (¬ free → Gives (.debugTransaction n addr wr data) s u) ∧
     (m.held = true → u.grantDbg n = u))

/-- R146, R148, R160, R342, R343, R446: the controller's answers. WR_DONE ends a write by its tag: its bytes are in HBM, they count, and its
packet is acknowledged with OK, or DATA_ERROR for a payload error. READ_RETURN ends a read: its bytes go to its requester; an atomic writes
its new value and returns the old. A tag that nothing outstanding has changes nothing, and neither does an answer of the wrong kind.
Completion of their own effect, from conditions on the state and the operands alone: wrDone, readReturn. -/
def Obligations.ControllerAnswersMoveData : Prop :=
  ∀ (s : State) (n tag : Nat) (ue : Bool) (t : MTx) (p : Pkt), n < 16 → tag < 256 →
    let m := s.mpt n
    let out := m.cur.toList ++ m.issued
    let u := (s.takeTx n tag).2
    (out.find? (fun x => x.id == tag) = none → Gives (.wrDone n tag) s s ∧ Gives (.readReturn n tag ue) s s) ∧
    (out.find? (fun x => x.id == tag) = some t →
      let stores := t.kind = .write ∨ t.kind = .bookWrite ∨ (t.kind = .debug ∧ t.data ≠ [])
      (s.takeTx n tag).1 = some t ∧ u.hbm = s.hbm ∧ u.regs = s.regs ∧ u.net = s.net ∧
      (¬ stores → Gives (.wrDone n tag) s s) ∧ (stores → Gives (.readReturn n tag ue) s s) ∧
      (stores → t.pkt = none → Gives (.wrDone n tag) s ((u.hbmWrite n t.addr t.data).addPair MP_WR_BYTES_LO MP_WR_BYTES_HI t.len n)) ∧
      (stores → t.pkt = some p → Gives (.wrDone n tag) s (((u.hbmWrite n t.addr t.data).addPair MP_WR_BYTES_LO MP_WR_BYTES_HI t.len n).answer
        p p.dst opWRITE_ACK [if t.ue then stDATA_ERROR else stOK, p.arg 0, 0])) ∧
      (t.kind = .read → t.pkt = some p → ue = false → Does (.readReturn n tag ue) s fun y =>
        y = s.after ((u.addPair MP_RD_BYTES_LO MP_RD_BYTES_HI t.len n).emit (mkDat opREAD_DATA p.dst p.src p.ten p.flow p.txn [stOK]
          (reqAddr p) 0 ((grantClass m.grants p.ten (adBig (reqAddr p)) t.len).getD 0) (s.hbm.readN (hbmKey n t.addr) t.len))) ∧
        y.hbm = s.hbm ∧ y.spad = s.spad) ∧
      (t.kind = .atomic → t.pkt = some p → ue = false → Does (.readReturn n tag ue) s fun y =>
        let old := ofBytes (s.hbm.readN (hbmKey n t.addr) t.len)
        y.hbm = ((u.addPair MP_RD_BYTES_LO MP_RD_BYTES_HI t.len n).hbmWrite n t.addr (toBytes t.len (atomicResult p old))).hbm ∧
        y.spad = s.spad) ∧
      (t.kind = .atomic → t.pkt = some p → ue = true → Does (.readReturn n tag ue) s fun y => y.hbm = s.hbm ∧ y.spad = s.spad) ∧
      (t.kind = .debug → t.data = [] → ue = false → Gives (.readReturn n tag ue) s
        { u.addPair MP_RD_BYTES_LO MP_RD_BYTES_HI t.len n with
          tap := { s.tap with back := ofBytes (s.hbm.readN (hbmKey n t.addr) t.len) } }))

/-- R339, R340, R364, R365, R366, R446: the map, the grants and the bookings. A near range, grant or booking that its rule refuses stays not
VALID and leaves its cause; one that is accepted is VALID. A memory port takes the map and the grants when its copy is applied, and a
booking that they no longer cover loses VALID; an NI keeps the map it had until its own copy is applied. A controller that is ready gives
its capacity, and one that goes away is an event. In the hypotheses no injected parity fault waits (R301). Completion of their own effect,
from conditions on the state and the operands alone: bookingCfgWrite, nearCfgWrite, mapCopyApply, ctrlReady, grantCfgWrite, grantCopyApply.
-/
def Obligations.MapsGrantsAndBookingsAreChecked : Prop :=
  ∀ (s : State) (n b k v cap : Nat), n < 16 → b < 64 → v < 2 ^ 32 → cap < 64 → (∀ u i, (s.eu u i).parityArmed = false) →
    let w := fun (off : Nat) => s.serveWrite off v
    (s.regAlive (MP_BOOK_CFG.addr n b) = true →
      let u := (w (MP_BOOK_CFG.addr n b)).writeTyped MP_BOOK_CFG n b v
      (v / 2 ^ 31 = 0 ∨ u.bookOk n b = true → Gives (.bookingCfgWrite n b v) s u) ∧
      (v / 2 ^ 31 = 1 → u.bookOk n b = false → Does (.bookingCfgWrite n b v) s fun t => t.fld MP_BOOK_CFG_VALID n b = 0 ∧
        t.fld MP_STATUS_BOOK_REFUSED n = 1 ∧ s.RegsKept t [MP_BOOK_CFG.addr n b, MP_STATUS.addr n 0])) ∧
    (k < 16 → s.regAlive (FB_NEAR_CFG.addr 0 k) = true →
      let u := (w (FB_NEAR_CFG.addr 0 k)).writeTyped FB_NEAR_CFG 0 k v
      (v / 2 ^ 31 = 0 ∨ u.nearCause k = none → Gives (.nearCfgWrite k v) s (u.mapChanged s.fbMap)) ∧
      (∀ c, v / 2 ^ 31 = 1 → u.nearCause k = some c → Does (.nearCfgWrite k v) s fun t => t.fld FB_NEAR_CFG_VALID 0 k = 0 ∧
        t.fld FB_HBM_STATUS_MAP_ERR = 1 ∧ t.fld FB_HBM_STATUS_CAUSE = c ∧ s.RegsKept t [FB_NEAR_CFG.addr 0 k, FB_HBM_STATUS.addr 0 0])) ∧
    (∀ j, k = 16 + j → j < 16 → s.regAlive (FB_NEAR_BASE.addr 0 j) = true →
      Gives (.nearCfgWrite k v) s (((w (FB_NEAR_BASE.addr 0 j)).writeTyped FB_NEAR_BASE 0 j v).mapChanged s.fbMap)) ∧
    (k = 32 → s.regAlive (FB_HBM_ILV.addr 0 0) = true → s.bnUp = true → s.fbMap.ilv ≠ 0 → min (v % 64) (s.fld FB_HBM_ILV_CAP) = 0 →
      s.bn.lost = false → Does (.nearCfgWrite k v) s fun t => t.fld FB_HBM_ILV_SIZE = 0 ∧ t.bn.lost = true ∧ t.spad = s.spad) ∧
    (k = 32 → s.regAlive (FB_HBM_ILV.addr 0 0) = true →
      s.bnUp = false ∨ s.fbMap.ilv = 0 ∨ min (v % 64) (s.fld FB_HBM_ILV_CAP) ≠ 0 → Does (.nearCfgWrite k v) s fun t =>
      t.fld FB_HBM_ILV_SIZE = min (v % 64) (s.fld FB_HBM_ILV_CAP) ∧ s.RegsKept t [FB_HBM_ILV.addr 0 0]) ∧
    (∀ ni old, ni < 2304 → ((∀ e ∈ s.nimap, e.1 ≠ ni) → (s.mapChanged old).niMap ni = old) ∧
      ((∃ e ∈ s.nimap, e.1 = ni) → (s.mapChanged old).niMap ni = s.niMap ni)) ∧
    (k < 2304 → Does (.mapCopyApply k) s fun t => t.niMap k = s.fbMap ∧ (∀ j, j ≠ k → t.niMap j = s.niMap j) ∧ t.regs = s.regs ∧ t.mp = s.mp) ∧
    (Does (.mapCopyApply (2304 + n)) s fun t => (t.mpt n).map = s.fbMap ∧ (t.mpt n).grants = (s.mpt n).grants ∧
      (∀ j, j < 64 → t.fld MP_BOOK_CFG_VALID n j = 1 → t.bookCovered n j = true) ∧ t.spad = s.spad) ∧
    (Does (.grantCopyApply n) s fun t => (t.mpt n).grants = s.fbGrants ∧ (t.mpt n).map = (s.mpt n).map ∧
      (∀ j, j < 64 → t.fld MP_BOOK_CFG_VALID n j = 1 → t.bookCovered n j = true) ∧ t.spad = s.spad) ∧
    (k < 128 → s.regAlive (FB_GRANT_CFG.addr 0 k) = true →
      let u := (w (FB_GRANT_CFG.addr 0 k)).writeTyped FB_GRANT_CFG 0 k v
      (v / 2 ^ 31 = 0 ∨ u.grantCause k = none → Gives (.grantCfgWrite k v) s u) ∧
      (∀ c, v / 2 ^ 31 = 1 → u.grantCause k = some c → Does (.grantCfgWrite k v) s fun t => t.fld FB_GRANT_CFG_VALID 0 k = 0 ∧
        t.fld FB_GRANT_STATUS_GRANT_ERR = 1 ∧ t.fld FB_GRANT_STATUS_CAUSE = c ∧
        s.RegsKept t [FB_GRANT_CFG.addr 0 k, FB_GRANT_STATUS.addr 0 0])) ∧
    (∀ j, k = 128 + j → j < 128 → s.regAlive (FB_GRANT_BASE.addr 0 j) = true →
      Gives (.grantCfgWrite k v) s ((w (FB_GRANT_BASE.addr 0 j)).writeTyped FB_GRANT_BASE 0 j v)) ∧
    Does (.ctrlReady n true cap) s (fun t => (t.mpt n).ctrlReady = true ∧ (t.mpt n).cap = cap ∧ s.RegsKept t [FB_HBM_ILV.addr 0 0]) ∧
    ((s.mpt n).ctrlReady = false ∨ (s.mpt n).everReady = false →
      Gives (.ctrlReady n false cap) s (s.setMp n { s.mpt n with ctrlReady := false })) ∧
    ((s.mpt n).ctrlReady = true → (s.mpt n).everReady = true → Does (.ctrlReady n false cap) s fun t =>
      (t.fld (xx_ERR_STATUS_SOURCE .mp) n).testBit 4 = true ∧ t.fld (xx_ERR_STATUS_SAFE .mp) n = 1 ∧ t.spad = s.spad)

/-! ## Tenancy (12_tenancy_and_isolation.md) -/

/-- R129, R358, R359, R361: handles and pairs. Writing a handle closes its window under a new epoch, frees its ledger and answers its
waiters; a handle or pair that its rule refuses stays off, with the cause; an enabled pair that is accepted meets no other enabled pair and
no VALID handle. In the hypotheses no injected parity fault waits (R301). Completion of their own effect, from conditions on the state and
the operands alone: handleWrite, pairWrite. -/
def Obligations.HandlesAndPairsAreChecked : Prop :=
  ∀ (s : State) (n h k v j : Nat), n < 2304 → h < 256 → k < 3 → j < 8 → v < 2 ^ 32 → (∀ u i, (s.eu u i).parityArmed = false) →
    let r := if k = 0 then NI_HDL_CFG else if k = 1 then NI_HDL_RANGE else NI_HDL_HOME
    let u := ((s.serveWrite (r.addr n h) v).writeTyped r n h v).entryWritten n h
    let w := (s.serveWrite (NI_PAIR_BASE.addr n j) v).writeTyped NI_PAIR_BASE n j v
    (s.regAlive (r.addr n h) = true →
      (k ≠ 0 ∨ v / 2 ^ 31 = 0 ∨ u.hdlCause n h = none → Gives (.handleWrite n h k v) s u) ∧
      (∀ c, k = 0 → v / 2 ^ 31 = 1 → u.hdlCause n h = some c → Gives (.handleWrite n h k v) s
        (((u.setFld NI_HDL_CFG_VALID 0 n h).setFld NI_TN_STATE_CAUSE c n).niCause n NI_TN_STATE_HDL_REFUSED 11 (28 + 2 ^ 16))) ∧
      (∀ c, k = 0 → v / 2 ^ 31 = 1 → u.hdlCause n h = some c → Does (.handleWrite n h k v) s fun t =>
        t.fld NI_HDL_CFG_VALID n h = 0 ∧ t.fld NI_TN_STATE_HDL_REFUSED n = 1 ∧ t.fld NI_TN_STATE_CAUSE n = c ∧ t.spad = s.spad)) ∧
    (s.waitersOf n h = [] → (s.window n h).closes = [] → (∀ x ∈ s.waits, ¬ (x.ni = n ∧ x.kind = 1 ∧ x.key = h)) →
      (s.entryWritten n h).window n h = { epoch := ((s.window n h).epoch + 1) % 2 ^ 16 } ∧
      (∀ e ∈ (s.entryWritten n h).ledger, ¬ (e.ni = n ∧ e.handle = h)) ∧ (s.entryWritten n h).spad = s.spad) ∧
    (s.hdlCause n h = none → s.tnState n = 1 ∧ s.fld NI_HDL_CFG_TENANCY n h = s.owner n ∧ 0 < s.fld NI_HDL_RANGE_SIZE n h ∧
      s.fld NI_HDL_RANGE_BASE n h + s.fld NI_HDL_RANGE_SIZE n h ≤ 49152 ∧
      ∀ i, i < 8 → s.fld NI_PAIR_BASE_ENABLE n i = 1 → ∀ g, s.fld NI_HDL_RANGE_BASE n h ≤ g →
        g < s.fld NI_HDL_RANGE_BASE n h + s.fld NI_HDL_RANGE_SIZE n h →
        ¬ (s.fld NI_PAIR_BASE_BASE n i ≤ g ∧ g < s.fld NI_PAIR_BASE_BASE n i + s.fld NI_PAIR_BOUND_SIZE n i)) ∧
    (s.regAlive (NI_PAIR_BASE.addr n j) = true →
      (v / 2 ^ 31 = 0 ∨ w.pairCause n j = none → Gives (.pairWrite n j v) s w) ∧
      (∀ c, v / 2 ^ 31 = 1 → w.pairCause n j = some c → Does (.pairWrite n j v) s fun t =>
        t.fld NI_PAIR_BASE_ENABLE n j = 0 ∧ t.fld NI_TN_STATE_PAIR_REFUSED n = 1 ∧ t.fld NI_TN_STATE_CAUSE n = c ∧ t.spad = s.spad)) ∧
    (s.pairCause n j = none → ∀ i, i < 8 → i ≠ j → s.fld NI_PAIR_BASE_ENABLE n i = 1 → ∀ g, s.fld NI_PAIR_BASE_BASE n j ≤ g →
      g < s.fld NI_PAIR_BASE_BASE n j + s.fld NI_PAIR_BOUND_SIZE n j →
      ¬ (s.fld NI_PAIR_BASE_BASE n i ≤ g ∧ g < s.fld NI_PAIR_BASE_BASE n i + s.fld NI_PAIR_BOUND_SIZE n i))

/-- R370, R374: slice commands. One runs at a time and any other write sets CMD_DROPPED; a group that is not VALID ends the command at
once, REFUSED; otherwise SLICE goes to the group, of at least one member; the command ends when MEMBERS answers have come, or when its time is up with the silent members
FAILED; TN_INFO of the tenancy shows how it ended. Completion of their own effect, from conditions on the state and the operands alone:
assign, sliceEnd, kill, release, scrub, sliceAns, sliceTimeout. -/
def Obligations.SliceCommandsRunOneAtATime : Prop :=
  ∀ (s : State) (v : Nat) (p : Pkt), v < 2 ^ 32 → okPkt p = true →
    let u := s.serveWrite (FB_SLICE_CMD.addr 0 0) v
    let act := v / 2 ^ 29
    let t := bits v 27 22
    let g := bits v 9 0
    (s.regAlive (FB_SLICE_CMD.addr 0 0) = true → ∀ c ∈ [Instr.assign v, .sliceEnd v, .kill v, .release v, .scrub v],
      (s.fld FB_SLICE_STATUS_BUSY = 1 → Gives c s (u.setFld FB_SLICE_STATUS_CMD_DROPPED 1)) ∧
      (s.fld FB_SLICE_STATUS_BUSY = 0 → act = 0 ∨ 6 ≤ act → Gives c s u) ∧
      (1 ≤ act → act ≤ 5 → s.fld FB_SLICE_STATUS_BUSY = 0 → s.grpValid g = false → Does c s fun y =>
        y.fld FB_SLICE_STATUS_BUSY = 0 ∧ y.fld FB_SLICE_STATUS_DONE = 1 ∧ y.fld FB_SLICE_STATUS_REFUSED = 1 ∧
        y.fld FB_SLICE_STATUS_ANSWERED = 0 ∧ y.fld FB_SLICE_STATUS_FAILED = 0 ∧ y.net = u.net ∧
        s.RegsKept y [FB_SLICE_STATUS.addr 0 0, TN_INFO.addr t 0]) ∧
      (1 ≤ act → act ≤ 5 → s.fld FB_SLICE_STATUS_BUSY = 0 → s.grpValid g = true → 0 < s.grpMembers g → Does c s fun y =>
        y.slice = ⟨act, v.testBit 28, t, s.grpMembers g⟩ ∧ y.fld FB_SLICE_STATUS_BUSY = 1 ∧ y.fld FB_SLICE_STATUS_ANSWERED = 0 ∧
        y.fld FB_SLICE_STATUS_FAILED = 0 ∧ y.fld TN_INFO_BUSY t = 1 ∧ y.fld TN_INFO_SCRUB_DONE t = 0 ∧
        y.net = (u.emit (mkPkt opSLICE bnLoc (groupLoc g) 0 0 0 [act, bits v 28 28, t])).net ∧
        s.RegsKept y [FB_SLICE_STATUS.addr 0 0, TN_INFO.addr t 0])) ∧
    (p.kind = opSLICE_ANS →
      let x := s.takeNet (.unit bnLoc) p
      let a := (s.fld FB_SLICE_STATUS_ANSWERED + 1) % 2 ^ (FB_SLICE_STATUS_ANSWERED.hi - FB_SLICE_STATUS_ANSWERED.lo + 1)
      (s.fld FB_SLICE_STATUS_BUSY = 0 → Gives (.sliceAns p) s x) ∧
      (s.fld FB_SLICE_STATUS_BUSY = 1 → a < s.slice.members → Does (.sliceAns p) s fun y =>
        y.fld FB_SLICE_STATUS_ANSWERED = a ∧ y.fld FB_SLICE_STATUS_BUSY = 1 ∧ s.RegsKept y [FB_SLICE_STATUS.addr 0 0] ∧
        (p.arg 1 ≠ 1 → y.fld FB_SLICE_STATUS_FAILED = s.fld FB_SLICE_STATUS_FAILED) ∧
        (p.arg 1 = 1 → y.fld FB_SLICE_STATUS_REFUSED = 1)) ∧
      (s.fld FB_SLICE_STATUS_BUSY = 1 → s.slice.members ≤ a → p.arg 1 ≠ 1 → s.slice.ten < 64 → Does (.sliceAns p) s fun y =>
        y.fld FB_SLICE_STATUS_ANSWERED = a ∧ y.fld FB_SLICE_STATUS_BUSY = 0 ∧ y.fld FB_SLICE_STATUS_DONE = 1 ∧
        y.fld TN_INFO_BUSY s.slice.ten = 0 ∧ (s.fld FB_SLICE_STATUS_FAILED = 0 → y.fld TN_INFO_SCRUB_DONE s.slice.ten = 1) ∧
        (s.fld FB_SLICE_STATUS_FAILED ≠ 0 → y.fld TN_INFO_SCRUB_DONE s.slice.ten = 0 ∧ y.fld TN_INFO_SCRUB_FAIL s.slice.ten = 1))) ∧
    (s.fld FB_SLICE_STATUS_BUSY = 0 → Gives .sliceTimeout s s) ∧
    (s.fld FB_SLICE_STATUS_BUSY = 1 → Gives .sliceTimeout s
      (s.addFld FB_SLICE_STATUS_FAILED (s.slice.members - s.fld FB_SLICE_STATUS_ANSWERED)).sliceEnd)

/-- R368, R369, R371, R373: the lifecycle of a member. Each state and action moves as the table says, and a refused member answers so and
does not change; a SLICE from another source than the Binnacle is discarded and counted. A scrub that reads back zero leaves no byte of the
scratchpad outside the kept ranges and takes its end state; one that does not stays in its state, refused. Completion of their own effect,
from conditions on the state and the operands alone: slice, scrubDone. -/
def Obligations.MembersMoveByTheirTable : Prop :=
  ∀ (s : State) (n t : Nat) (hold : Bool) (p : Pkt), n < 2304 → t < 64 → okPkt p = true → s.niUp n = true → s.frozenAt n = false →
    let u := s.takeNet (.unit (niLoc n)) p
    let st := s.tnState n
    let o := s.owner n
    (p.kind = opSLICE → p.src.port ≠ 5 → Gives (.slice n p) s (u.report .ni n 15 (p.src.x * 64 + p.src.y))) ∧
    (p.kind = opSLICE → p.src.port = 5 → p.arg 2 = t → p.arg 1 = b2n hold →
      (st = 0 → p.arg 0 = 1 → Does (.slice n p) s fun y => y.tnState n = 1 ∧ y.owner n = t ∧ y.spad = s.spad ∧
        s.RegsKept y [NI_TN_STATE.addr n 0]) ∧
      (st = 0 → 2 ≤ p.arg 0 → p.arg 0 ≤ 5 → Gives (.slice n p) s (u.sliceAns n false)) ∧
      (st = 1 → p.arg 0 = 1 → (t = o → Gives (.slice n p) s (u.sliceAns n false)) ∧
        (t ≠ o → Gives (.slice n p) s ((u.blockNi n).startScrub n true 1 t))) ∧
      (st = 1 → p.arg 0 = 2 → (s.niIdle n = true → Gives (.slice n p) s (u.startScrub n false 1 o)) ∧
        (s.niIdle n = false → Gives (.slice n p) s (u.sliceAns n true))) ∧
      (st = 1 → p.arg 0 = 5 → Gives (.slice n p) s (u.sliceAns n true)) ∧
      (st = 1 ∨ st = 2 → p.arg 0 = 3 ∨ p.arg 0 = 4 → o ≠ t → Gives (.slice n p) s (u.sliceAns n true)) ∧
      (st = 1 → p.arg 0 = 3 → o = t → (hold = true → Gives (.slice n p) s ((u.blockNi n).sliceAns n false)) ∧
        (hold = false → Gives (.slice n p) s ((u.blockNi n).startScrub n false 1 o))) ∧
      (st = 1 → p.arg 0 = 4 → o = t → Gives (.slice n p) s ((u.blockNi n).startScrub n true 0 0)) ∧
      (st = 2 → p.arg 0 = 1 → Gives (.slice n p) s (u.startScrub n true 1 t)) ∧
      (st = 2 → p.arg 0 = 2 → Gives (.slice n p) s (u.sliceAns n true)) ∧
      (st = 2 → p.arg 0 = 3 → o = t → (hold = true → Gives (.slice n p) s (u.sliceAns n false)) ∧
        (hold = false → Gives (.slice n p) s (u.startScrub n false 1 o))) ∧
      (st = 2 → p.arg 0 = 4 → o = t → Gives (.slice n p) s (u.startScrub n true 0 0)) ∧
      (st = 2 → p.arg 0 = 5 → Gives (.slice n p) s (u.startScrub n false 1 o)) ∧
      (3 ≤ st → Gives (.slice n p) s (u.sliceAns n true))) ∧
    (∀ full e w, let y := s.startScrub n full e w
      y.tnState n = (if full then 4 else 3) ∧
      (∀ h, h < 256 → full = true ∨ s.fld NI_HDL_CFG_RETAIN n h = 0 → y.fld NI_HDL_CFG_VALID n h = 0) ∧
      (∀ k, k < 8 → s.fld NI_PAIR_BASE_SYS n k = 0 → y.fld NI_PAIR_BASE_ENABLE n k = 0) ∧ y.spad = s.spad) ∧
    (st < 3 → Gives (.scrubDone n false) s s ∧ Gives (.scrubDone n true) s s) ∧
    (∀ x, 3 ≤ st → s.scrubs.find? (fun y => y.ni == n) = some x → x.endState < 3 → x.endOwner < 64 → Does (.scrubDone n false) s fun y =>
      y.tnState n = x.endState ∧ y.owner n = x.endOwner ∧
      (∀ g i, g < 49152 → i < 32 → s.keptGran n x.full g = false → y.spad.read (spadKey n (32 * g + i)) = 0) ∧
      (∀ g i, g < 49152 → i < 32 → s.keptGran n x.full g = true →
        y.spad.read (spadKey n (32 * g + i)) = s.spad.read (spadKey n (32 * g + i))) ∧ y.hbm = s.hbm) ∧
    (∀ x, 3 ≤ st → s.scrubs.find? (fun y => y.ni == n) = some x → x.endState < 3 → (∀ k i, (s.eu k i).parityArmed = false) →
      Does (.scrubDone n true) s fun y => y.tnState n = st ∧ y.fld NI_TN_STATE_SCRUB_FAIL n = 1 ∧
        (∀ g i, g < 49152 → i < 32 → s.keptGran n x.full g = false → y.spad.read (spadKey n (32 * g + i)) = 0)) ∧
    (∀ x fail, 3 ≤ st → s.scrubs.find? (fun y => y.ni == n) = some x → 3 ≤ x.endState → Gives (.scrubDone n fail) s s)

/-! ## The Binnacle (13_binnacle_and_bring_up.md) -/

/-- R383 to R385, R416: mailbox requests. While BUSY a write of BN_MBOX_CMD only sets DROPPED. With Stolrel out of READY, or its range of
HBM lost, a request ends ABORTED; an unlisted one ends BAD_DESCRIPTOR; GROUP and RID requests end as the first failing check says and
otherwise define or undefine; with the Binnacle in reset only the recovery loader answers. Completion of their own effect, from conditions
on the state and the operands alone: mboxCmdDropped, groupDefine, groupUndefine, ridDefine, ridUndefine. -/
def Obligations.MailboxRequestsAreServedOrRefused : Prop :=
  ∀ (s : State) (v req : Nat) (bad : Bool), v < 2 ^ 32 → v % 256 = req →
    let u := s.serveWrite (BN_MBOX_CMD.addr 0 0) v
    let w := u.setFld BN_MBOX_STATUS_BUSY 1
    let busy := s.fld BN_MBOX_STATUS_BUSY = 1
    let serves := s.bnUp = true ∧ s.fld BN_STATE_STATE = 3 ∧ s.bn.lost = false
    let loader := s.bnUp = false ∧ s.fld BN_STATE_STATE = 1 ∧ s.bn.clockLost = false
    let g := bits (w.rd BN_MBOX_DATA 0 0) 9 0
    let rid := bits (w.rd BN_MBOX_DATA 0 0) 11 0
    let e := w.rd BN_MBOX_DATA 0 1 + w.rd BN_MBOX_DATA 0 2 * 2 ^ 32
    let tiles := mapTiles (w.hbmBytes e 288)
    let w0 := bits (w.rd BN_MBOX_DATA 0 0) 21 16 * 2 ^ 57 + tiles.length * 2 ^ 45
    let b := reBind rid e
    (∀ c ∈ [Instr.groupDefine v bad, .groupUndefine v bad, .ridDefine v bad, .ridUndefine v bad, .stageImage v bad, .logCopy v bad,
        .recvChunk v bad, .recvEnd v bad],
      (busy → Gives c s (u.setFld BN_MBOX_STATUS_DROPPED 1)) ∧
      (¬ busy → req = 0 → Gives c s u) ∧
      (¬ busy → req ≠ 0 → s.bnUp = false → ¬ loader → Gives c s w) ∧
      (¬ busy → req ∉ [0, 6, 7, 8] → loader ∨ (s.bnUp = true ∧ ¬ serves) → Gives c s (w.mboxEnd req stABORTED none)) ∧
      (¬ busy → s.bnUp = true → req = 7 ∨ req = 8 ∨ (serves ∧ 9 ≤ req) → Gives c s (w.mboxEnd req stBAD_DESCRIPTOR none)) ∧
      (¬ busy → serves → req = 1 →
        (g = 1023 → Gives c s (w.mboxEnd 1 stACCESS_DENIED none)) ∧
        (g ≠ 1023 → w.grpValid g = true ∨ tiles = [] ∨ (∃ t ∈ tiles, w.tiles ≤ t) ∨ w.softRange e 288 = false →
          Gives c s (w.mboxEnd 1 stBAD_DESCRIPTOR none)) ∧
        (g ≠ 1023 → w.grpValid g = false → tiles ≠ [] → (∀ t ∈ tiles, t < w.tiles) → w.softRange e 288 = true →
          (bad = true → Gives c s (w.mboxEnd 1 stDATA_ERROR none)) ∧
          (bad = false → Gives c s ((((w.writeTree g tiles [0, 1]).hbmPut (w.grpDir + 512 * g)
            (toBytes 8 w0 ++ w.hbmBytes e 288)).hbmPut (w.grpDir + 512 * g) (toBytes 8 (2 ^ 63 + w0))).mboxEnd 1 stOK none)))) ∧
      (¬ busy → serves → req = 2 →
        (g = 1023 → Gives c s (w.mboxEnd 2 stACCESS_DENIED none)) ∧
        (g ≠ 1023 → bad = true → Gives c s (w.mboxEnd 2 stDATA_ERROR none)) ∧
        (g ≠ 1023 → bad = false → Does c s fun t => t.fld BN_MBOX_STATUS_STATUS = stOK ∧ t.fld BN_MBOX_STATUS_BUSY = 0 ∧
          (∀ r, r < 2304 → s.routerUp r = true → t.fld RT_GROUP_VALID r g = 0))) ∧
      (¬ busy → serves → req = 3 →
        (rid = 4095 → Gives c s (w.mboxEnd 3 stACCESS_DENIED none)) ∧
        (rid ≠ 4095 → bit (w.redEntry rid) 63 = true ∨ fmtOk b.op b.inF b.outF b.k = false ∨ w.tiles ≤ bits e 19 8 →
          Gives c s (w.mboxEnd 3 stBAD_DESCRIPTOR none)) ∧
        (rid ≠ 4095 → bit (w.redEntry rid) 63 = false → fmtOk b.op b.inF b.outF b.k = true → bits e 19 8 < w.tiles →
          (w.grpValid (reGroup e) = false ∨ w.grpTen (reGroup e) ≠ reTen e → Gives c s (w.mboxEnd 3 stACCESS_DENIED none)) ∧
          (w.grpValid (reGroup e) = true → w.grpTen (reGroup e) = reTen e → bad = true → Gives c s (w.mboxEnd 3 stDATA_ERROR none)) ∧
          (w.grpValid (reGroup e) = true → w.grpTen (reGroup e) = reTen e → bad = false → Gives c s
            ((w.hbmPut (w.ridAt rid) (toBytes 8 (setBits e 63 63 1) ++ List.replicate 56 0)).mboxEnd 3 stOK none)))) ∧
      (¬ busy → serves → req = 4 →
        (rid = 4095 → Gives c s (w.mboxEnd 4 stACCESS_DENIED none)) ∧
        (rid ≠ 4095 → bad = true → Gives c s (w.mboxEnd 4 stDATA_ERROR none)) ∧
        (rid ≠ 4095 → bad = false → Gives c s
          ((w.hbmPut (w.ridAt rid) (toBytes 8 (w.redEntry rid % 2 ^ 63))).mboxEnd 4 stOK none)))) ∧
    (¬ busy → Gives .mboxCmdDropped s s) ∧
    (busy → Does .mboxCmdDropped s fun t => t.fld BN_MBOX_STATUS_DROPPED = 1 ∧ t.fld BN_MBOX_STATUS_BUSY = 1 ∧
      s.RegsKept t [BN_MBOX_STATUS.addr 0 0] ∧ t.hbm = s.hbm ∧ t.flash = s.flash ∧ t.bn = s.bn) ∧
    (∀ x st res, let t := State.mboxEnd x req st res
      st < 256 → t.fld BN_MBOX_STATUS_STATUS = st ∧ t.fld BN_MBOX_STATUS_REQ = req ∧ t.fld BN_MBOX_STATUS_DONE = 1 ∧
        t.fld BN_MBOX_STATUS_BUSY = 0 ∧ 4096 ∈ (t.hpt 0).irq ∧ (∀ k, res = some k → k < 2 ^ 32 → t.rd BN_MBOX_DATA 0 0 = k) ∧
        x.RegsKept t [BN_MBOX_STATUS.addr 0 0, BN_MBOX_DATA.addr 0 0] ∧ t.hbm = x.hbm ∧ t.flash = x.flash)

/-- R382, R384, R385, R394 to R396, R413, R416: images and the log. STAGE_IMAGE judges the image, erases the slot and goes on until it is
written; then the slot holds the image, PENDING is set and the request ends. LOG_COPY copies the newest entries; the recovery loader takes
chunks in their order and starts the image that passes. A waiting entry is written to its place of the log area, with its CRC, and before
the first entry of a sector the next sector is erased, where no injection waits in the Binnacle. Completion of their own effect, from conditions on the state and the operands alone:
bnLock, logWrite, imageSlotWritten, stageImage, logCopy, recvChunk, recvEnd. -/
def Obligations.ImagesAndLogEntriesReachFlash : Prop :=
  ∀ (s : State) (v req : Nat) (bad : Bool), v < 2 ^ 32 → v % 256 = req → s.flash.wf = true →
    let w := (s.serveWrite (BN_MBOX_CMD.addr 0 0) v).setFld BN_MBOX_STATUS_BUSY 1
    let idle := s.fld BN_MBOX_STATUS_BUSY = 0
    let serves := s.bnUp = true ∧ s.fld BN_STATE_STATE = 3 ∧ s.bn.lost = false
    let loader := s.bnUp = false ∧ s.fld BN_STATE_STATE = 1 ∧ s.bn.clockLost = false
    let ofs := w.rd BN_MBOX_DATA 0 0 + w.rd BN_MBOX_DATA 0 1 * 2 ^ 32
    let len := w.rd BN_MBOX_DATA 0 2
    let img := w.hbmBytes ofs (min len (8 * 2 ^ 20))
    let k := min len w.logBySeq.length
    let chunk := (List.range 16).flatMap fun j => toBytes 4 (w.rd BN_MBOX_DATA 0 j)
    (∀ c ∈ [Instr.groupDefine v bad, .groupUndefine v bad, .ridDefine v bad, .ridUndefine v bad, .stageImage v bad, .logCopy v bad,
        .recvChunk v bad, .recvEnd v bad],
      (idle → serves → req = 5 →
        (w.softRange ofs len = false → Gives c s (w.mboxEnd 5 stBAD_DESCRIPTOR none)) ∧
        (w.softRange ofs len = true → bad = true → Gives c s (w.mboxEnd 5 stDATA_ERROR none)) ∧
        (w.softRange ofs len = true → bad = false → w.checkImage img len ≠ 0 →
          Gives c s (w.mboxEnd 5 stBAD_DESCRIPTOR (some (w.checkImage img len)))) ∧
        (w.softRange ofs len = true → bad = false → w.checkImage img len = 0 → Does c s fun t =>
          t.bn.staged = some img ∧ t.fld BN_MBOX_STATUS_BUSY = 1 ∧ (∀ a, a < 8 * 2 ^ 20 → t.flash.read a = 0) ∧
          (∀ a, 8 * 2 ^ 20 ≤ a → t.flash.read a = s.flash.read a) ∧ t.flash.wf = true ∧ t.hbm = s.hbm ∧
          s.RegsKept t [BN_MBOX_STATUS.addr 0 0])) ∧
      (idle → s.bnUp = true ∨ loader → req = 6 →
        (w.softRange ofs (64 * k) = false → Gives c s (w.mboxEnd 6 stBAD_DESCRIPTOR none)) ∧
        (w.softRange ofs (64 * k) = true → bad = true → Gives c s (w.mboxEnd 6 stDATA_ERROR none)) ∧
        (w.softRange ofs (64 * k) = true → bad = false → Gives c s
          ((w.hbmPut ofs ((w.logBySeq.drop (w.logBySeq.length - k)).flatMap fun x => x.2)).mboxEnd 6 stOK (some k)))) ∧
      (idle → loader → req = 7 →
        (v / 256 ≠ s.bn.recv ∨ 8 * 2 ^ 20 < 64 * (v / 256 + 1) → Gives c s (w.mboxEnd 7 stBAD_DESCRIPTOR none)) ∧
        (v / 256 = s.bn.recv → 64 * (v / 256 + 1) ≤ 8 * 2 ^ 20 → bad = true → Gives c s (w.mboxEnd 7 stDATA_ERROR none)) ∧
        (v / 256 = s.bn.recv → 64 * (v / 256 + 1) ≤ 8 * 2 ^ 20 → bad = false → Does c s fun t => t.bn.recv = v / 256 + 1 ∧
          t.fld BN_MBOX_STATUS_STATUS = stOK ∧ (∀ i, i < 64 → t.flash.read (64 * (v / 256) + i) = chunk.getD i 0 ^^^ 0xFF) ∧
          (∀ a, a < 64 * (v / 256) ∨ 64 * (v / 256) + 64 ≤ a → t.flash.read a = s.flash.read a) ∧ t.flash.wf = true)) ∧
      (idle → loader → req = 8 →
        (bad = true → Gives c s (w.mboxEnd 8 stDATA_ERROR (some 6))) ∧
        (bad = false → w.recvCause ≠ 0 →
          Gives c s ((w.modBn fun b => { b with recv := 0 }).mboxEnd 8 stBAD_DESCRIPTOR (some w.recvCause))) ∧
        (bad = false → w.recvCause = 0 → Gives c s ((w.mboxEnd 8 stOK none).bnReset 0)))) ∧
    (s.bnUp = false ∨ s.bn.staged = none → Gives (.imageSlotWritten bad) s s) ∧
    (∀ d, s.bnUp = true → s.bn.staged = some d →
      (bad = true → Gives (.imageSlotWritten bad) s ((s.modBn fun b => { b with staged := none }).mboxEnd 5 stDATA_ERROR (some 6))) ∧
      (bad = false → (∀ x ∈ d, x < 256) → Does (.imageSlotWritten bad) s fun t => t.bn.staged = none ∧ t.fld BN_STATE_PENDING = 1 ∧
        t.fld BN_MBOX_STATUS_STATUS = stOK ∧ t.fld BN_MBOX_STATUS_BUSY = 0 ∧ t.fld BN_MBOX_STATUS_DONE = 1 ∧
        (∀ i, i < d.length → t.flash.read i = d.getD i 0 ^^^ 0xFF) ∧ (∀ a, d.length ≤ a → t.flash.read a = s.flash.read a) ∧
        t.hbm = s.hbm)) ∧
    (s.bn.waiting = [] ∨ s.bn.clockLost = true ∨ (s.bnUp = false ∧ s.fld BN_STATE_STATE ≠ 1) → Gives (.logWrite bad) s s) ∧
    (∀ e rest, s.bn.waiting = e :: rest → s.bn.clockLost = false → s.bnUp = true ∨ s.fld BN_STATE_STATE = 1 →
      (bad = true → Gives (.logWrite bad) s (s.unitEvent .bn 0 4 0)) ∧
      (bad = false → e.length = 7 → s.bn.logNext < logEntries → s.fld (xx_ERR_INJECT_ARM .bn) = 0 → Does (.logWrite bad) s fun t =>
        let n := s.bn.logNext
        let next := logBase + 65536 * ((n / 1024 + 1) % 128)
        t.bn.waiting = rest ∧ t.bn.logNext = (n + 1) % logEntries ∧ t.regs = s.regs ∧ t.flash.wf = true ∧
        (∀ i, i < 64 → t.flash.read (logBase + 64 * n + i) = (logBytes e).getD i 0 ^^^ 0xFF) ∧
        (n % 1024 = 0 → ∀ a, next ≤ a → a < next + 65536 → t.flash.read a = 0) ∧
        (∀ a, a < logBase + 64 * n ∨ logBase + 64 * n + 64 ≤ a → n % 1024 ≠ 0 ∨ a < next ∨ next + 65536 ≤ a →
          t.flash.read a = s.flash.read a))) ∧
    (Does (.bnLock v) s fun t => t.fld BN_LOCK_LOCK = (if v % 2 = 1 then 1 else s.fld BN_LOCK_LOCK) ∧
      s.RegsKept t [BN_LOCK.addr 0 0] ∧ t.bn = s.bn ∧ t.flash = s.flash)

/-- R386 to R393: sensors and the governor. A region's sensor shows the refreshed values, and a region as hot as T_TRIP loses its power, and is
at F3. EST comes from STATIC and the flits moved; the governor deepens or eases each region's stretch by its depth and calm count, and writes
RG_STRETCH_CTRL from Stolrel's copy, taken when it is enabled. A failed PMBus read keeps the last good values. Completion of their own
effect, from conditions on the state and the operands alone: sensorRefresh, govEnable, pmbusPoll, stackTemperature, powerEstimate,
governorLoop. -/
def Obligations.SensorsAndGovernorSetStretch : Prop :=
  ∀ (s : State) (n temp sag m lim v vin iin pin st : Nat) (bad : Bool), n < 36 → temp < 256 → sag < 2 ^ 32 → m < 16 → lim < 256 →
    v < 2 ^ 32 → vin < 65536 → iin < 65536 → pin < 65536 → st < 65536 →
    let t8 := toSigned 8 temp
    let cool := -40 ≤ t8 ∧ t8 ≤ 125 ∧ bad = false
    let trips := s.bnUp = true ∧ (s.fld BN_GOV_CFG_T_TRIP : Int) ≤ t8
    let rs := s.regionsUp
    let total := (rs.map fun r => s.fld RG_POWER_EST r).sum
    let floor := if s.fld BN_GOV_STATUS_VIN_LOW = 1 then 2 else 0
    let x := if bad then (s.satFld BN_PM_PIN_AGE 1).unitEvent .bn 0 5 0 else s.regulators vin iin pin st
    (s.powered n = false → Gives (.sensorRefresh n temp sag bad) s s) ∧
    (s.powered n = true → Gives (.sensorRefresh n temp sag bad) s (s.sensorIn n temp sag bad)) ∧
    (s.powered n = true → cool → ¬ trips → Does (.sensorRefresh n temp sag bad) s fun t =>
      t.fld RG_SENSOR_TEMP n = temp ∧ t.fld RG_SENSOR_SAG n = min 255 sag ∧ t.fld RG_SENSOR_TEMP_BAD n = 0 ∧
      t.fld RG_SENSOR_SAG_BAD n = 0 ∧
      (let d := (s.setFld RG_SENSOR_SAG_BAD 0 n).dipDemand n sag;
        t.rg n = { s.rg n with
          demand := d
          held := max (s.rg n).held d
          sag := sag } ∧
        t.fld RG_DIP_EVENTS_EVENTS n = (s.fld RG_DIP_EVENTS_EVENTS n + if (s.rg n).demand < d then 1 else 0) %
          2 ^ (RG_DIP_EVENTS_EVENTS.hi - RG_DIP_EVENTS_EVENTS.lo + 1)) ∧
      s.RegsKept t [RG_SENSOR.addr n 0, RG_DIP_EVENTS.addr n 0] ∧ { t with regs := s.regs, rgn := s.rgn, fresh := s.fresh } = s ∧
      ∀ m, m ≠ n → t.rg m = s.rg m) ∧
    (s.powered n = true → cool → trips → Does (.sensorRefresh n temp sag bad) s fun t =>
      t.fld BN_GOV_STATUS_TRIPPED = 1 ∧ t.fld RG_ESC_CTRL_LOCKED n = 0 ∧ t.powered n = false) ∧
    (Does .powerEstimate s fun t => (∀ r, r < 36 → s.powered r = true → (t.rg r).flits = 0 ∧
        t.fld RG_POWER_EST r = min 65535 (s.fld RG_POWER_STATIC r + (s.rg r).flits * 14336 / 10 ^ 10)) ∧
      (∀ r, s.powered r = false → t.rg r = s.rg r ∧ t.fld RG_POWER_EST r = s.fld RG_POWER_EST r) ∧
      s.RegsKept t ((List.range 36).map fun r => RG_POWER.addr r 0) ∧ t.spad = s.spad ∧ t.net = s.net) ∧
    (s.bnUp = false ∨ s.fld BN_GOV_CFG_ENABLE = 0 → Gives .governorLoop s s) ∧
    (s.bnUp = true → s.fld BN_GOV_CFG_ENABLE = 1 → Does .governorLoop s fun t =>
      t.fld BN_GOV_STATUS_TOTAL = min 65535 total ∧
      t.fld BN_GOV_STATUS_OVER = (rs.filter fun r => s.govOver total rs.length r).length ∧
      (∀ r ∈ rs, t.fld RG_STRETCH_CTRL_GOV_DEPTH r = t.bn.g.get r 0 % 8 ∧ (t.bn.g.get r 0, t.bn.calm.get r 0) =
        govNext (s.govOver total rs.length r) (s.govUnder r) (s.fld BN_GOV_CFG_HOLDOFF) floor (s.bn.g.get r 0) (s.bn.calm.get r 0)) ∧
      (∀ r, r ∉ rs → t.bn.g.get r 0 = s.bn.g.get r 0) ∧
      s.RegsKept t (BN_GOV_STATUS.addr 0 0 :: (List.range 36).map fun r => RG_STRETCH_CTRL.addr r 0) ∧ t.rgn = s.rgn) ∧
    (∀ hot under hold g calm, let y := govNext hot under hold floor g calm
      g ≤ 4 → y.1 ≤ 4 ∧ floor ≤ y.1 ∧ (hot = true → y.1 = max floor (min 4 (g + 1))) ∧ (hot = false → y.1 ≤ max floor g)) ∧
    (Does (.govEnable v) s fun t => t.fld BN_GOV_CFG_ENABLE = v / 2 ^ 31 ∧ s.RegsKept t [BN_GOV_CFG.addr 0 0] ∧
      (v / 2 ^ 31 = 1 → s.fld BN_GOV_CFG_ENABLE = 0 → s.bnUp = true → ∀ r, r < 36 → t.bn.stretch.get r 0 = s.rd RG_STRETCH_CTRL r) ∧
      (v / 2 ^ 31 = 0 ∨ s.fld BN_GOV_CFG_ENABLE = 1 ∨ s.bnUp = false → t.bn = s.bn)) ∧
    (s.bnUp = false → Gives (.pmbusPoll bad vin iin pin st) s s) ∧
    (s.bnUp = true → x.fld BN_STATE_STATE ≠ 2 ∨ x.fld BN_STATE_STEP ≠ 9 → Gives (.pmbusPoll bad vin iin pin st) s x) ∧
    (s.bnUp = true → x.fld BN_STATE_STATE = 2 → x.fld BN_STATE_STEP = 9 →
      Gives (.pmbusPoll bad vin iin pin st) s (x.modBn fun b => { b with step9 := b.step9 + 1 }).tryReady) ∧
    (let y := s.regulators vin iin pin st;
      y.fld BN_PM_VI_VIN = linear11 100 vin ∧ y.fld BN_PM_VI_IIN = linear11 100 iin ∧ y.fld BN_PM_PIN_PIN = linear11 10 pin ∧
      y.fld BN_PM_PIN_AGE = 0 ∧ (y.bn.clearFaults = true ↔ st ≠ 0) ∧
      (linear11 100 vin < 5400 → y.fld BN_GOV_STATUS_VIN_LOW = 1) ∧
      (5450 ≤ linear11 100 vin → y.fld BN_GOV_STATUS_VIN_LOW = 0) ∧
      (5400 ≤ linear11 100 vin → linear11 100 vin < 5450 → y.fld BN_GOV_STATUS_VIN_LOW = s.fld BN_GOV_STATUS_VIN_LOW)) ∧
    (s.bnUp = false → Gives (.stackTemperature m temp lim) s s) ∧
    (s.bnUp = true → Does (.stackTemperature m temp lim) s fun t =>
      bits (t.rd BN_HBM_TEMP 0 (m / 4)) (8 * (m % 4) + 7) (8 * (m % 4)) = temp ∧
      s.RegsKept t [BN_HBM_TEMP.addr 0 (m / 4), BN_LOG_STATUS.addr 0 0] ∧
      (temp = 0x80 ∨ lim = 0x80 ∨ t8 < toSigned 8 lim → s.OnlyRegs t))

/-- R12, R302, R369, R397, R406, R413, R416, R432, R439, R440: resets and lost clocks. A COLD reset starts every register and queue afresh
and takes the straps; the ROM boots Stolrel when the image passes, which brings up from step 2, and the recovery loader otherwise. A WARM
reset resets its domains and starts C and H at 0. An ISLAND, a REGION and a LINK reset reset their own registers.
A domain's clock that is lost counts as stopped until it returns (assumption 164). Completion of their own
effect, from conditions on the state and the operands alone: coldReset, regionReset, islandReset, linkReset, bnReset, unitClockLost,
warmReset, bcClockLost. -/
def Obligations.ResetsStartTheirDomainsAfresh : Prop :=
  ∀ (s : State) (chip sel flash n r l d : Nat) (unstable anchor : Bool), chip < 4096 → sel < 8 → flash < 3 → n < 2304 → r < 36 → l < 32 →
    36 ≤ d → d < 64 → d ≠ 61 → d ≠ 62 →
    let cause := if flash = 1 then 1 else if flash = 2 then 6 else imageCause s.fuse.keyDigest s.svnNow s.slotImage
    (Does (.coldReset chip sel unstable anchor flash) s fun t =>
      t.time = {} ∧ t.chr = {} ∧ t.hbm = s.hbm ∧ t.spad = s.spad ∧ t.flash = s.flash ∧ t.pins.anchorArmed = !anchor ∧ t.net = [] ∧
      t.descs = [] ∧ t.fld FB_STRAP_CHIP = chip ∧ t.fld FB_STRAP_PLAN_SEL = sel ∧
      t.fld FB_INPUT_STATUS_STRAP_UNSTABLE = b2n unstable ∧
      (∀ off x, off ∉ [FB_STRAP.addr 0 0, FB_ID.addr 0 0, FB_INPUT_STATUS.addr 0 0, BN_STATE.addr 0 0, BN_FW_VERSION_LO.addr 0 0,
        BN_FW_VERSION_HI.addr 0 0] → t.regs.get off x = x) ∧
      (cause ≠ 0 → t.bnUp = false ∧ t.fld BN_STATE_STATE = 1 ∧ t.fld BN_STATE_FAIL_CAUSE = cause) ∧
      (cause = 0 → t.bnUp = true ∧ t.fld BN_STATE_STATE = 2 ∧ t.fld BN_STATE_STEP = 2 ∧ t.fld BN_STATE_FAIL_CAUSE = 0 ∧
        t.pair BN_FW_VERSION_LO BN_FW_VERSION_HI = imgWord s.slotImage 1)) ∧
    (Does .warmReset s fun t => t.time = {} ∧ t.hbm = s.hbm ∧ t.spad = s.spad ∧ t.flash = s.flash ∧ t.net = [] ∧ t.sched = [] ∧
      t.descs = [] ∧ t.xfers = [] ∧ t.otx = [] ∧ t.win = [] ∧ t.logs = s.logs ∧ t.bnUp = s.bnUp ∧
      (∀ off q i k x, locate off = some (q, i, k) → q.dom = .warm ∨ q.dom = .region ∨ q.dom = .island ∨ q.dom = .link →
        t.regs.get off x = x) ∧
      (∀ off q i k x, locate off = some (q, i, k) → q.dom = .cold ∨ q.dom = .bn → off ≠ BN_STATE.addr 0 0 →
        t.regs.get off x = s.regs.get off x) ∧
      (s.bnUp = true → t.fld BN_STATE_STATE = 2 ∧ t.fld BN_STATE_STEP = 2) ∧
      (s.bnUp = false → t.fld BN_STATE_STATE = s.fld BN_STATE_STATE)) ∧
    (Gives (.islandReset n) s ((s.islandReset n).rewriteIslands [n]) ∧
      (let t := s.islandReset n;
        t.tnState n = 4 ∧ t.owner n = 0 ∧ t.rt n = {} ∧ (∀ x ∈ t.descs, x.ni ≠ n) ∧ (∀ x ∈ t.xfers, x.ni ≠ n) ∧
        (∀ h, h < 256 → t.window n h = {}) ∧ (∀ x ∈ t.ledger, x.ni ≠ n) ∧ t.spad = s.spad ∧ t.hbm = s.hbm ∧
        (∀ off q k x, locate off = some (q, n, k) → q.dom = .island → q.blk = .ni ∨ q.blk = .rt → t.regs.get off x = x))) ∧
    (Gives (.regionReset r) s ((s.regionReset r).rewriteIslands (State.regionSlots r)) ∧
      (let t := s.regionReset r;
        (t.rg r).L = s.S ∧ (t.rg r).s = s.S ∧ (t.rg r).frozen = (s.rg r).frozen ∧ t.spad = s.spad ∧ t.hbm = s.hbm ∧
        (∀ off q k x, locate off = some (q, r, k) → q.dom = .region → t.regs.get off x = x) ∧
        (∀ off q i k x, locate off = some (q, i, k) → q.dom = .island → q.blk = .ni ∨ q.blk = .rt → regionOf i = r →
          t.regs.get off x = x))) ∧
    (Does (.linkReset l) s fun t => t.olk l = {} ∧
      (∀ off q k x, locate off = some (q, l, k) → q.dom = .link → t.regs.get off x = x)) ∧
    (Gives (.bnReset flash) s (s.bnReset flash) ∧
      (cause ≠ 0 → s.fld (xx_ERR_INJECT_ARM .bn) = 0 → let t := s.bnReset flash
        t.bnUp = false ∧ t.fld BN_STATE_STATE = 1 ∧ t.fld BN_STATE_FAIL_CAUSE = cause ∧ t.fld BN_STATE_BOOT_CAUSE = 1 ∧
        t.bn.inbox = [] ∧ t.time = s.time ∧ t.spad = s.spad ∧ t.hbm = s.hbm ∧
        (∀ off q i k x, locate off = some (q, i, k) → q.dom = .bn → t.regs.get off x = x))) ∧
    (let u := ((s.modBn fun b => { b with clockLost := true }).unwake 62).hashAbort;
      Gives .bcClockLost s { u with bnUp := false } ∧ (∀ j ∈ u.hash, s.desc? j.desc = none) ∧ (∀ j ∈ s.hash, u.desc? j.desc = none) ∧ u.bn.clockLost = true) ∧
    (s.stopped.contains d = true → Gives (.unitClockLost d) s s) ∧
    (s.stopped.contains d = false →
      (s.bn.clockLost = true → Gives (.unitClockLost d) s (s.clockStop d)) ∧
      (s.bn.clockLost = false →
        (d < 52 → Gives (.unitClockLost d) s ((s.unitEvent .mp (d - 36) 4 0).clockStop d)) ∧
        (52 ≤ d → d < 60 → Gives (.unitClockLost d) s
          (((List.range 4).foldl (fun s i => s.unitEvent .ol (4 * (d - 52) + i) 3 0) s).clockStop d)) ∧
        (d = 60 → Gives (.unitClockLost d) s (((s.unitEvent .hp 0 5 0).unitEvent .hp 1 5 0).clockStop d)) ∧
        (d = 63 → Gives (.unitClockLost d) s ((s.unitEvent .tp 0 1 0).clockStop d)))) ∧
    ((s.clockStop d).clockOff d = true ∧ ((s.clockStop d).clockBack d).clockOff d = false)

/-- R398 to R403, R408 to R411, R443: power waves, known-answer runs and the load port. The four waves raise their regions' enables in turn,
and the last leads to the rest of bring-up. A core whose signature differs during bring-up is at F1. A chunk is written only while its CRC,
number and total fit; the digest is judged once all have come; a release needs DIGEST_OK. Completion of their own effect, from conditions on
the state and the operands alone: powerWave, coreBistDone, coreBistTimeout, fwloadEnable, fwChunk, imageDigestDone, fwRelease. -/
def Obligations.BringUpAndCoreFirmware : Prop :=
  ∀ (s : State) (n v sig : Nat) (bad f1 f2 f3 : List Nat) (eng : Bool), n < 2304 → v < 2 ^ 32 → sig < 2 ^ 64 → (∀ x ∈ bad, x < 36) →
    (∀ x ∈ f1, x < 2304) → (∀ x ∈ f2, x < 2304) → (∀ x ∈ f3, x < 36) → s.spad.wf = true →
    let w := s.bn.wave
    let st := s.fld BN_STATE_STATE
    let mine := (List.range 36).filter fun r => r % 4 == w
    let y := (mine.foldl (fun x r => x.setPower r true) s).modBn fun b => { b with wave := w + 1 }
    let clean := (∀ r ∈ mine, r ∉ bad ∧ (s.rg r).absent = false ∧ s.settled r = true) ∧
      ∀ r, r < 36 → r % 4 < w → s.powered r = true → (s.rg r).f3 = false → s.settled r = true
    let f := s.fw.get n {}
    let h := f.flits.headD 0
    let data := (Sys2Proof.Machine.slice f.flits 1 16).flatMap (toBytes 256)
    let c := bits h 15 0
    let total := bits h 31 16
    let dig := bits h 383 128
    let q := s.pairRange n (s.fld NI_FWLOAD_CFG_PAIR n)
    let map := s.fld NI_FW_MAP_MAP n (c / 32)
    let fits := crc32c data = bits h 63 32 ∧ c < total ∧ total ≤ 1024 ∧ (f.any = true → total = f.total ∧ dig = f.digest) ∧
      4096 * (c + 1) ≤ q.2
    let open_ := s.niUp n = true ∧ s.frozenAt n = false
    let u := s.serveWrite (NI_FWLOAD_CFG.addr n 0) v
    (¬ ((st = 1 ∨ st = 2) ∧ w < 4) → Gives (.powerWave bad f1 f2 f3 eng) s s) ∧
    ((st = 1 ∨ st = 2) → w < 4 → Gives (.powerWave bad f1 f2 f3 eng) s (s.powerWave bad f1 f2 f3 eng)) ∧
    ((st = 1 ∨ st = 2) → clean →
      (w < 3 → Gives (.powerWave bad f1 f2 f3 eng) s y) ∧
      (w = 3 → st = 2 → Gives (.powerWave bad f1 f2 f3 eng) s (y.bringUpRest f1 f2 f3 eng)) ∧
      (w = 3 → st = 1 → Gives (.powerWave bad f1 f2 f3 eng) s y.fuseRoutes) ∧
      (∀ r, r < 36 → y.powered r = (s.powered r || r % 4 == w))) ∧
    (∀ r, s.settled r = true ↔ s.fld RG_SENSOR_SAG r < 10 ∧ s.fld RG_SENSOR_SAG_BAD r = 0) ∧
    (∀ k ∈ [Instr.coreBistDone n sig, .coreBistTimeout n],
      (k = .coreBistDone n sig → sig = s.coreSig → Gives k s s) ∧
      (k = .coreBistTimeout n ∨ sig ≠ s.coreSig → Gives k s (s.coreFailed n) ∧
        (s.bnUp = false ∨ st ≠ 2 ∨ s.level n ≠ 0 → Gives k s s) ∧
        (s.bnUp = true → st = 2 → s.level n = 0 → s.fld BN_STATE_STEP < 8 → Does k s fun t => t.level n = 1 ∧ t.regs = s.regs ∧
          ∀ m, m ≠ n → t.level m = s.level m))) ∧
    (s.regAlive (NI_FWLOAD_CFG.addr n 0) = true → ∀ k ∈ [Instr.fwloadEnable n v, .fwRelease n v],
      (v / 2 ^ 31 = 1 ∧ s.tnState n ≠ 0 ∨ v / 2 ^ 30 % 2 = 1 ∧ s.fld NI_FWLOAD_STATUS_DIGEST_OK n = 0 → Gives k s u) ∧
      ((v / 2 ^ 31 = 1 → s.tnState n = 0) → (v / 2 ^ 30 % 2 = 1 → s.fld NI_FWLOAD_STATUS_DIGEST_OK n = 1) → Does k s fun t =>
        t.fld NI_FWLOAD_CFG_ENABLE n = v / 2 ^ 31 ∧ t.fld NI_FWLOAD_CFG_RELEASE n = v / 2 ^ 30 % 2 ∧ t.spad = s.spad ∧
        (v / 2 ^ 31 = 1 → s.fld NI_FWLOAD_CFG_ENABLE n = 0 → t.fld NI_FWLOAD_STATUS_COUNT n = 0 ∧
          t.fld NI_FWLOAD_STATUS_DIGEST_OK n = 0 ∧ t.fw.get n {} = {} ∧ ∀ j, j < 32 → t.fld NI_FW_MAP_MAP n j = 0))) ∧
    (¬ open_ ∨ s.fld NI_FWLOAD_CFG_ENABLE n = 0 ∨ f.flits.length < 17 → Gives (.fwChunk n) s s) ∧
    (open_ → s.fld NI_FWLOAD_CFG_ENABLE n = 1 → 17 ≤ f.flits.length →
      (¬ fits → Does (.fwChunk n) s fun t => t.fld NI_FWLOAD_STATUS_CRC_BAD n = 1 ∧ t.spad = s.spad ∧
        (t.fw.get n {}).flits = f.flits.drop 17 ∧ s.RegsKept t [NI_FWLOAD_STATUS.addr n 0]) ∧
      (fits → map / 2 ^ (c % 32) % 2 = 1 → Does (.fwChunk n) s fun t => t.spad = s.spad ∧ t.regs = s.regs) ∧
      (fits → map / 2 ^ (c % 32) % 2 = 0 → Does (.fwChunk n) s fun t =>
        (∀ i, i < 4096 → t.spad.read (spadKey n (q.1 + 4096 * c + i)) = data.getD i 0) ∧
        (∀ a, a < spadKey n (q.1 + 4096 * c) ∨ spadKey n (q.1 + 4096 * c) + 4096 ≤ a → t.spad.read a = s.spad.read a) ∧
        t.fld NI_FW_MAP_MAP n (c / 32) = map + 2 ^ (c % 32) ∧
        t.fld NI_FWLOAD_STATUS_COUNT n = (s.fld NI_FWLOAD_STATUS_COUNT n + 1) %
          2 ^ (NI_FWLOAD_STATUS_COUNT.hi - NI_FWLOAD_STATUS_COUNT.lo + 1) ∧
        t.fld NI_FWLOAD_STATUS_COMPLETE n = (if t.fld NI_FWLOAD_STATUS_COUNT n = total then 1 else s.fld NI_FWLOAD_STATUS_COMPLETE n) ∧
        s.RegsKept t [NI_FWLOAD_STATUS.addr n 0, NI_FW_MAP.addr n (c / 32)])) ∧
    (let judged := s.fld NI_FWLOAD_STATUS_COMPLETE n = 0 ∨ s.fld NI_FWLOAD_STATUS_DIGEST_OK n = 1 ∨
        s.fld NI_FWLOAD_STATUS_DIGEST_BAD n = 1;
      let good := ofBytes (sha256 (s.spadRead n q.1 (4096 * f.total))) = f.digest;
      (¬ open_ ∨ judged → Gives (.imageDigestDone n) s s) ∧
      (open_ → ¬ judged → good → Gives (.imageDigestDone n) s (s.setFld NI_FWLOAD_STATUS_DIGEST_OK 1 n)) ∧
      (open_ → ¬ judged → ¬ good → Gives (.imageDigestDone n) s (s.setFld NI_FWLOAD_STATUS_DIGEST_BAD 1 n)))

/-! ## Observation (14_observation_and_debug.md) -/

/-- R418, R419, R426, R443: snapshots, logbooks and the reports of a core. A snapshot is taken at T = C + 4: every unit copies its counters
once, at or past T; BUSY clears after the last, or after the time limit with PARTIAL, and GO while BUSY is discarded. A logbook freezes with
one more entry and then takes none. Completion of their own effect, from conditions on the state and the operands alone: coreFatal, spErr,
cntSnapGo, snapshotCopy, freeze, snapshotTimeout. -/
def Obligations.SnapshotsAndLogbooks : Prop :=
  ∀ (s : State) (v k i n code addr : Nat) (ue : Bool), v < 2 ^ 32 → k < 6 → i < 2304 → n < 2304 → code < 256 → addr < 2 ^ 18 →
    let t0 := (s.time.c + 4) % 2 ^ 60
    let b := snapBlk k
    let due := s.snap.left.contains (b.base i) = true ∧ beatSub s.time.c s.snap.t < 2 ^ 59 ∧
      s.clockOff (snapDom k i) = false
    let rest := s.snap.left.filter fun x => x != b.base i
    let q := logKind k
    let u := s.serveWrite ((LOG_PTR q).addr i 0) v
    let open_ := s.niUp n = true ∧ s.frozenAt n = false
    (v / 2 ^ 31 = 1 → s.fld FB_CNT_SNAP_BUSY = 0 → Does (.cntSnapGo v) s fun t => t.snap.t = t0 ∧ t.snap.left = snapUnits ∧
      t.snap.copies = s.snap.copies ∧ t.fld FB_CNT_SNAP_BUSY = 1 ∧ t.fld FB_CNT_SNAP_VIEW = v / 2 ^ 30 % 2 ∧
      t.pair FB_SNAP_BEAT_LO FB_SNAP_BEAT_HI = t0 ∧
      s.RegsKept t [FB_CNT_SNAP.addr 0 0, FB_SNAP_BEAT_LO.addr 0 0, FB_SNAP_BEAT_HI.addr 0 0]) ∧
    (v / 2 ^ 31 = 0 ∨ s.fld FB_CNT_SNAP_BUSY = 1 → Does (.cntSnapGo v) s fun t => t.snap = s.snap ∧
      t.fld FB_CNT_SNAP_VIEW = v / 2 ^ 30 % 2 ∧ t.fld FB_CNT_SNAP_BUSY = s.fld FB_CNT_SNAP_BUSY ∧
      s.RegsKept t [FB_CNT_SNAP.addr 0 0]) ∧
    (¬ due → Gives (.snapshotCopy k i) s s) ∧
    (due → Does (.snapshotCopy k i) s fun t => t.snap.left = rest ∧ t.snap.t = s.snap.t ∧
      t.fld FB_CNT_SNAP_BUSY = (if rest = [] then 0 else s.fld FB_CNT_SNAP_BUSY) ∧ s.RegsKept t [FB_CNT_SNAP.addr 0 0] ∧
      (∀ r ∈ snapRegs b, ∀ j, j < max 1 r.count → t.snap.copies.get (r.addr i j) 0 = BitVec.ofNat 32 (s.live r i j)) ∧
      (∀ off x, (∀ r ∈ snapRegs b, ∀ j, j < max 1 r.count → off ≠ r.addr i j) → t.snap.copies.get off x = s.snap.copies.get off x)) ∧
    (s.fld FB_CNT_SNAP_BUSY = 0 → Gives .snapshotTimeout s s) ∧
    (s.fld FB_CNT_SNAP_BUSY = 1 → Does .snapshotTimeout s fun t => t.fld FB_CNT_SNAP_BUSY = 0 ∧ t.fld FB_CNT_SNAP_PARTIAL = 1 ∧
      t.snap = { s.snap with left := [] } ∧ s.RegsKept t [FB_CNT_SNAP.addr 0 0]) ∧
    (k < 4 → (q.count ≤ i → Gives (.freeze k i v) s s) ∧
      (i < q.count → s.regAlive ((LOG_PTR q).addr i 0) = true →
        (v / 2 ^ 31 = 1 → s.fld (LOG_PTR_FREEZE q) i = 1 → Gives (.freeze k i v) s u) ∧
        (v / 2 ^ 31 = 1 → s.fld (LOG_PTR_FREEZE q) i = 0 → Does (.freeze k i v) s fun t => t.fld (LOG_PTR_FREEZE q) i = 1 ∧
          (∃ e, e.code = 0x7F ∧ ∀ d, t.logs.get (64 * errKey q i + s.fld (LOG_PTR_NEXT q) i) d = e) ∧
          s.RegsKept t [(LOG_PTR q).addr i 0] ∧ t.spad = s.spad) ∧
        (v / 2 ^ 31 = 0 → Does (.freeze k i v) s fun t => t.fld (LOG_PTR_FREEZE q) i = 0 ∧ t.logs = s.logs ∧
          s.RegsKept t [(LOG_PTR q).addr i 0])) ∧
      (s.fld (LOG_PTR_FREEZE q) i = 1 → ∀ a x y z, s.log q i a x y z = s)) ∧
    (¬ open_ → Gives (.coreFatal n code) s s ∧ Gives (.spErr n ue addr) s s) ∧
    (open_ → Gives (.coreFatal n code) s (s.unitEvent .ni n 8 code) ∧
      Gives (.spErr n ue addr) s (s.unitEvent .ni n (if ue then 7 else 6) addr))

/-- R420 to R424, R453: traces. When eight records have gathered, or the oldest has waited 2^FLUSH local beats, up to eight leave an NI as one packet to the trace port, which takes a record while it is enabled
and has room, counts the others, and sets TRIGGERED at the first that matches; two records leave in a cycle with the capture side ready, and
a scan frame where no record waits. In the hypotheses of the counts no injected parity fault waits. The packet's tag is the lowest free one
(the model's choice, assumption 148). Completion of their own effect, from conditions on the state and the operands alone: traceFlush,
tracePacketTimeout, traceAccept, traceSend, captureStall. -/
def Obligations.TracesReachTheCaptureSide : Prop :=
  ∀ (s : State) (n txn : Nat) (p : Pkt) (r : List Nat), n < 2304 → txn < 4096 → okPkt p = true →
    let b := s.trace.get n {}
    let rs := b.recs.take 8
    let x := s.freeTxn n
    let due := b.recs ≠ [] ∧ (8 ≤ b.recs.length ∨
      2 ^ s.fld NI_TRACE_CFG_FLUSH n ≤ beatSub (s.rg (regionOf n)).L (b.ats.headD 0))
    let stops := ¬ due ∨ s.niUp n = false ∨ s.frozenAt n = true ∨ s.txnRoom n = false
    let y := s.addTx ⟨n, x, .trace, 0, 0, 0, s.chipId, 0, false, false⟩
    let z := { y with trace := s.trace.put n { b with
        recs := b.recs.drop 8
        ats := b.ats.drop 8
        sent := b.sent ++ [(x, rs.length)] } }
    let up := { s.clockBack 63 with tp := { s.tp with ready := true } }
    let down := { s with tp := { s.tp with ready := false } }
    let full := s.fld TP_CFG_ENABLE = 0 ∨ 4096 ≤ s.tp.fifo.length ∨ s.fld (xx_ERR_STATUS_SAFE .tp) = 1
    (stops → Gives (.traceFlush n) s s) ∧
    (¬ stops → Gives (.traceFlush n) s
      (z.enqueue n traceFlow (mkDat opWRITE (niLoc n) tpLoc 0 0 x [0] 0 0 0 (rs.flatten.flatMap (toBytes 8))))) ∧
    (∀ o, s.findTx n txn = some o → o.use = .trace → s.frozenAt n = false →
      Gives (.tracePacketTimeout n txn) s (s.txEnd o stTIMEOUT)) ∧
    (s.findTx n txn = none ∨ (∃ o, s.findTx n txn = some o ∧ o.use ≠ .trace) ∨ s.frozenAt n = true →
      Gives (.tracePacketTimeout n txn) s s) ∧
    (p.kind ≠ opWRITE ∨ p.dst ≠ tpLoc → Gives (.traceAccept p) s s) ∧
    (p.kind = opWRITE → p.dst = tpLoc → Gives (.traceAccept p) s
      (((recordsOf p.data).foldl (fun s r => s.recordAt r) (((s.clockBack 63).takeNet (.unit tpLoc) p).injEvent .tp 0 0 [2])).answer p tpLoc opWRITE_ACK
        [stOK, p.arg 0, 0])) ∧
    ((recordsOf p.data).length = p.data.length / 32 ∧ ∀ e ∈ recordsOf p.data, e.length = 4) ∧
    (full → s.recordAt r = (s.addFld TP_DROPPED_CNT 1).unitEvent .tp 0 0 0) ∧
    (¬ full → (s.recordAt r).tp.fifo = s.tp.fifo ++ [r] ∧
      (s.recordAt r).fld TP_STATUS_TRIGGERED = (if s.triggers r then 1 else s.fld TP_STATUS_TRIGGERED) ∧
      ((s.recordAt r).chr.stopWire = true ↔ s.chr.stopWire = true ∨ (s.triggers r = true ∧ s.fld TP_STATUS_TRIGGERED = 0 ∧
        s.fld FB_ANCHOR_CTRL_TRIG_EN = 1))) ∧
    (s.recordsWait = true → (∀ e ∈ s.tp.fifo, e.length = 4) → Does .traceSend s fun t => t.tp.fifo = s.tp.fifo.drop 2 ∧
      t.tp.beat.length = 8 ∧ t.tp.beat.take (4 * (s.tp.fifo.take 2).length) = (s.tp.fifo.take 2).flatten ∧ t.tp.scan = false ∧
      t.pair TP_RECORDS_LO TP_RECORDS_HI = (s.pair TP_RECORDS_LO TP_RECORDS_HI + (s.tp.fifo.take 2).length) % 2 ^ 64 ∧
      t.scan = s.scan ∧ s.RegsKept t [TP_RECORDS_LO.addr 0 0, TP_RECORDS_HI.addr 0 0]) ∧
    (s.recordsWait = false → s.scanWaits = false → Gives .traceSend s up) ∧
    (s.recordsWait = false → s.scanWaits = true → up.scanStep = none → Gives .traceSend s up) ∧
    (∀ f t, s.recordsWait = false → s.scanWaits = true → up.scanStep = some (f, t) → Gives .traceSend s { t with tp := { t.tp with
        beat := f
        scan := true
        last := isEndFrame f } }) ∧
    (∀ f t, up.scanStep = some (f, t) → f.length = 8 ∧ t.scan.sent = s.scan.sent + 1 ∧ t.scan.jtag = s.scan.jtag ∧
      t.scan.on = !t.scan.left.isEmpty ∧ (t.scan.on = false → t.fld FB_SCAN_STATUS_DONE = 1 ∧ t.fld FB_SCAN_STATUS_BUSY = 0)) ∧
    (s.recordsWait = false → s.scanWaits = false → Gives .captureStall s down) ∧
    (s.recordsWait = true ∨ s.scanWaits = true → Gives .captureStall s (down.unitEvent .tp 0 1 0))

/-- R427, R428: the plot. It is refused unless Stolrel is in READY and no plot is under way. Its writes are the header with VALID 0, the
edges in pieces of at most 4,096 bytes, 32 bytes an edge, and word 0 with VALID 1; an edge that awaits its own tile is on a cycle.
Completion of its own effect, from conditions on the state and the operands alone: plotGo. -/
def Obligations.PlotIsWrittenInOrder : Prop :=
  ∀ (s : State) (v : Nat) (es : List Edge), v < 2 ^ 32 →
    let u := (s.serveWrite (FB_PLOT_CTRL.addr 0 0) v).writeTyped FB_PLOT_CTRL 0 0 v
    let may := s.bnUp = true ∧ s.fld BN_STATE_STATE = 3 ∧ s.fld FB_PLOT_STATUS_BUSY = 0
    let es0 := u.edges
    let x := { u.setFld FB_PLOT_STATUS_CYCLES (min 65535 (es0.filter (onCycle es0)).length) with
      plot := (u.setFld FB_PLOT_STATUS_CYCLES (min 65535 (es0.filter (onCycle es0)).length)).plotWrites es0 }.setFld FB_PLOT_STATUS_BUSY 1
    let ws := s.plotWrites es
    let addr := s.fld FB_PLOT_LO_ADDR * 2 ^ 12 + s.rd FB_PLOT_HI * 2 ^ 32
    (v / 2 ^ 31 = 0 → Gives (.plotGo v) s u) ∧
    (v / 2 ^ 31 = 1 → ¬ may → Gives (.plotGo v) s (u.setFld FB_PLOT_STATUS_REFUSED 1)) ∧
    (v / 2 ^ 31 = 1 → may → Gives (.plotGo v) s x.plotNext) ∧
    (ws.length = 2 + cdiv (32 * es.length) 4096 ∧ (∀ w ∈ ws, w.data.length ≤ 4096 ∧ w.len = w.data.length) ∧
      (∃ first last, ws.head? = some first ∧ ws.getLast? = some last ∧ first.addr = addr ∧ last.addr = addr ∧
        first.data.length = 64 ∧ first.data.getD 7 0 = 0 ∧ last.data.length = 8 ∧ last.data.getD 7 0 = 0x80) ∧
      (ws.drop 1).dropLast.flatMap (fun w => w.data) = es.flatMap (fun e => (e.words es).flatMap (toBytes 8)) ∧
      (∀ i, i < cdiv (32 * es.length) 4096 → ∃ w, ws[i + 1]? = some w ∧ w.addr = addr + 64 + 4096 * i)) ∧
    (∀ e ∈ es, e.ak = 0 → e.awaited = e.waiter → onCycle es e = true) ∧
    (∀ e, e.ak ≠ 0 → onCycle es e = false)

/-- R429, R430, R433: the anchor stop and scan-out. An edge of ANCHOR_N stops the die while the input is armed, enabled and not stuck; STOP
stops it from the host, and REARM arms the input again. After 1 ms every region is frozen where it stands and STOPPED is set with the beat.
Scan-out starts only while STOPPED, with none under way, through JTAG only where that is enabled. Completion of their own effect, from
conditions on the state and the operands alone: stop, anchorRearm, scanGo, anchorN, anchorNStuck, anchorPartialFreeze. -/
def Obligations.AnchorStopAndScanOut : Prop :=
  ∀ (s : State) (v : Nat), v < 2 ^ 32 →
    let obeyed := s.fld FB_ANCHOR_CTRL_PIN_EN = 1 ∧ s.pins.anchorArmed = true ∧ s.fld FB_ANCHOR_STATUS_STUCK = 0
    let left := (List.range 36).filter fun n => !(s.rg n).frozen
    let u := (s.serveWrite (FB_SCAN_CFG.addr 0 0) v).writeTyped FB_SCAN_CFG 0 0 v
    let jtag := u.fld FB_SCAN_CFG_ROUTE = 1
    let may := s.fld FB_ANCHOR_STATUS_STOPPED = 1 ∧ s.scan.on = false ∧ (jtag → u.fld FB_SCAN_CFG_JTAG_EN = 1) ∧
      (¬ jtag → s.fld (xx_ERR_STATUS_SAFE .tp) = 0)
    (Does .anchorN s fun t => t.pins = { s.pins with anchorLow := true } ∧
      t.fld FB_ANCHOR_STATUS_EDGES = (s.fld FB_ANCHOR_STATUS_EDGES + 1) % 256 ∧
      (t.chr.stopWire = true ↔ s.chr.stopWire = true ∨ obeyed) ∧
      t.fld FB_ANCHOR_STATUS_SRC_PIN = (if obeyed then 1 else s.fld FB_ANCHOR_STATUS_SRC_PIN) ∧
      s.RegsKept t [FB_ANCHOR_STATUS.addr 0 0] ∧ t.rgn = s.rgn ∧ t.net = s.net) ∧
    (s.fld FB_ANCHOR_STATUS_STUCK = 1 → Gives .anchorNStuck s s) ∧
    (s.fld FB_ANCHOR_STATUS_STUCK = 0 → Does .anchorNStuck s fun t => t.fld FB_ANCHOR_STATUS_STUCK = 1 ∧
      t.fld FB_ANCHOR_STATUS_STUCK_CNT = (s.fld FB_ANCHOR_STATUS_STUCK_CNT + 1) % 256 ∧ s.RegsKept t [FB_ANCHOR_STATUS.addr 0 0] ∧
      s.OnlyRegs t) ∧
    (∀ c ∈ [Instr.stop v, .anchorRearm v], Does c s fun t =>
      (t.chr.stopWire = true ↔ s.chr.stopWire = true ∨ v / 2 ^ 31 = 1) ∧
      (t.pins.anchorArmed = true ↔ s.pins.anchorArmed = true ∨ v / 2 ^ 30 % 2 = 1) ∧
      t.fld FB_ANCHOR_STATUS_SRC_HOST = (if v / 2 ^ 31 = 1 then 1 else s.fld FB_ANCHOR_STATUS_SRC_HOST) ∧
      t.fld FB_ANCHOR_STATUS_STUCK = (if v / 2 ^ 30 % 2 = 1 then 0 else s.fld FB_ANCHOR_STATUS_STUCK) ∧
      t.fld FB_ANCHOR_CTRL_PIN_EN = v / 2 ^ 29 % 2 ∧ t.fld FB_ANCHOR_CTRL_TRIG_EN = v / 2 ^ 28 % 2 ∧
      s.RegsKept t [FB_ANCHOR_CTRL.addr 0 0, FB_ANCHOR_STATUS.addr 0 0] ∧ t.rgn = s.rgn) ∧
    (s.chr.stopSeen = 0 ∨ s.fld FB_ANCHOR_STATUS_STOPPED = 1 → Gives .anchorPartialFreeze s s) ∧
    (s.chr.stopSeen ≠ 0 → s.fld FB_ANCHOR_STATUS_STOPPED = 0 → Does .anchorPartialFreeze s fun t =>
      t.fld FB_ANCHOR_STATUS_STOPPED = 1 ∧ (∀ n, n < 36 → (t.rg n).frozen = true) ∧
      (∀ n, n < 36 → (t.rg n).partialStop = ((s.rg n).partialStop || !(s.rg n).frozen)) ∧
      t.fld FB_ANCHOR_STATUS_PARTIAL = (s.fld FB_ANCHOR_STATUS_PARTIAL + left.length) % 64 ∧
      (s.chr.stopBeat < 2 ^ 60 → t.pair FB_ANCHOR_BEAT_LO FB_ANCHOR_BEAT_HI = s.chr.stopBeat) ∧
      t.tp.fifo.length = s.tp.fifo.length + 1 ∧ t.spad = s.spad ∧ t.hbm = s.hbm ∧ t.net = s.net) ∧
    (v / 2 ^ 31 = 0 → Gives (.scanGo v) s u) ∧
    (v / 2 ^ 31 = 1 → ¬ may → Gives (.scanGo v) s (u.setFld FB_SCAN_STATUS_REFUSED 1)) ∧
    (v / 2 ^ 31 = 1 → may → Does (.scanGo v) s fun t => t.fld FB_SCAN_STATUS_BUSY = 1 ∧ t.fld FB_SCAN_STATUS_FRAMES = 0 ∧
      (t.scan.jtag = true ↔ jtag) ∧ t.scan.on = true ∧ t.scan.sent = 0 ∧ t.scan.off = 0 ∧
      t.scan.left = scanSections (v / 2 ^ 28 % 2 == 1) (v / 2 ^ 27 % 2 == 1) ∧
      s.RegsKept t [FB_SCAN_CFG.addr 0 0, FB_SCAN_STATUS.addr 0 0] ∧ t.spad = s.spad)

/-! ## The block (95_what_each_step_holds.md) -/

/-- A step runs the command at the front of the queue on the state with the queue's rest. An empty queue idles (assumption 1), and no word
of the opcode table spells a command, so that a word placed changes nothing. -/
def Obligations.StepRunsTheFrontCommandAndIdles : Prop :=
  (∀ (c : Sys2Proof.Instr) (rest : List Sys2Proof.Instr) (s : State),
    step { s with pending := c :: rest } = exec c { s with pending := rest } ∧
    (∀ t, exec c { s with pending := rest } = .next t → t.pending = rest)) ∧
  (∀ (s : State) (nbits w : Nat), (s.pending = [] → step s = .next s) ∧ s.withFetchWord nbits w = s ∧ Sys2Proof.decodeTableWord nbits w = none)

/-- Every command whose operands fit their fields completes, and keeps the fuses and the rest of the queue; any other stops as malformed,
and so nothing is ever refused. -/
def Obligations.WellFormedCommandsComplete : Prop :=
  ∀ (c : Sys2Proof.Instr) (s : State),
    (c.wf = true → ∃ t, exec c s = .next t ∧ t.fuse = s.fuse ∧ t.pending = s.pending ∧ t.fresh = s.fresh + 1) ∧
    (c.wf = false → exec c s = .fault .malformed)

/-- R37: C and H change only at a mark, by a LOAD while RUN is 0, by SYNC and by a COLD or WARM reset. At a mark C moves by at most two
beats and never backwards; a load sets H to zero. -/
def Obligations.OnlyMarksLoadsSyncAndResetsMoveTime : Prop :=
  ∀ (s t : State), step s = .next t → s.TimeInRange → t.time = s.time ∨ ∃ c rest, s.pending = c :: rest ∧
    ((c = .beatMark ∧ s.fld CH_CTRL_RUN = 1 ∧ (t.time.c = s.time.c ∨ t.time.c = (s.time.c + 1) % 2 ^ 60 ∨
        t.time.c = (s.time.c + 2) % 2 ^ 60) ∧ (t.time.h = s.time.h ∨ t.time.h = (s.time.h + 1) % 2 ^ 60 ∨
        t.time.h = (s.time.h + 2) % 2 ^ 60)) ∨
     ((∃ v, (c = .chRun v ∨ c = .chLoad v ∨ c = .holdForce v) ∧ v % 4 = 2) ∧ t.time.h = 0 ∧
        t.time.c = s.pair CH_LOAD_LO CH_LOAD_HI % 2 ^ 60) ∨
     ((∃ n x ofs, c = .sync n x ofs) ∧ s.plan.synced = false ∧ t.time.h = 0) ∨
     ((c = .warmReset ∨ ∃ a b u k f, c = .coldReset a b u k f) ∧ t.time = ⟨0, 0⟩))

/-- R58: C and H stay numbers of 60 bits at every step, whatever command runs. -/
def Obligations.EveryStepKeepsTimeInRange : Prop :=
  ∀ (s t : State), s.TimeInRange → step s = .next t → t.TimeInRange

/-- R12: reset leaves C and H at 0, the memories in canonical form with nothing listed, no command waiting and no register away from its
reset value. That scratchpad and HBM read zero there is the model's choice (assumption 3). -/
def Obligations.ResetStartsInTheInvariants : Prop :=
  State.reset.TimeInRange ∧ State.reset.MemCanonical ∧ State.reset.QueueWf = true ∧ State.reset.pending = [] ∧
    State.reset.time = ⟨0, 0⟩ ∧ State.reset.spad = [] ∧ State.reset.hbm = [] ∧ State.reset.flash = [] ∧
    State.reset.fld CH_CTRL_RUN = 0 ∧ State.reset.tnState 0 = 4 ∧ State.reset.tnState 2303 = 4 ∧
    (∀ r i k, State.reset.rd r i k = (BitVec.ofNat 32 r.resetVal).toNat)

/-- The memories (01_architecture.md) keep what is written, and nothing else: a scratchpad write reads back, byte by byte, at its slot, and
leaves every other byte of this and every other slot, HBM and flash as they are; an HBM write likewise; and the canonical form stays. -/
def Obligations.MemoriesKeepWhatIsWritten : Prop :=
  ∀ (s : State) (n ofs p a : Nat) (d : List Nat), s.MemCanonical → (∀ b ∈ d, b < 256) → ofs + d.length ≤ 2 ^ 21 → a + d.length ≤ 2 ^ 36 →
    let t := s.spadWrite n ofs d
    let h := s.hbmWrite p a d
    t.spadRead n ofs d.length = d ∧ t.MemCanonical ∧ t.hbm = s.hbm ∧ t.flash = s.flash ∧ t.regs = s.regs ∧
    (∀ m o, o < 2 ^ 21 → m ≠ n ∨ o < ofs ∨ ofs + d.length ≤ o → t.spad.read (spadKey m o) = s.spad.read (spadKey m o)) ∧
    h.hbm.readN (hbmKey p a) d.length = d ∧ h.MemCanonical ∧ h.spad = s.spad ∧ h.flash = s.flash ∧
    (∀ q o, o < 2 ^ 36 → q ≠ p ∨ o < a ∨ a + d.length ≤ o → h.hbm.read (hbmKey q o) = s.hbm.read (hbmKey q o)) ∧
    (s.spad.zero (spadKey n ofs) (spadKey n ofs + d.length)).wf = true ∧
    (∀ o, o < 2 ^ 21 → (s.spad.zero (spadKey n ofs) (spadKey n ofs + d.length)).read (spadKey n o) =
      if ofs ≤ o ∧ o < ofs + d.length then 0 else s.spad.read (spadKey n o))
end

