-- ==== Sys2Proof/Laws/Exec.lean ====
section
/-!
SUPPORT. What `exec` calls and which operands are in range, for each command.
-/

namespace Sys2Proof.Machine
@[simp] theorem exec_chRun (v : Nat) (s : State) : exec (.chRun v) s = execChRun v s := rfl
@[simp] theorem exec_chLoad (v : Nat) (s : State) : exec (.chLoad v) s = execChLoad v s := rfl
@[simp] theorem exec_holdForce (v : Nat) (s : State) : exec (.holdForce v) s = execHoldForce v s := rfl
@[simp] theorem exec_localBeatStart (n : Nat) (s : State) : exec (.localBeatStart n) s = execLocalBeatStart n s := rfl
@[simp] theorem exec_slotExecute (n : Nat) (ue : List Nat) (s : State) : exec (.slotExecute n ue) s = execSlotExecute n ue s := rfl
@[simp] theorem exec_stallResume (n : Nat) (cycles : Nat) (s : State) : exec (.stallResume n cycles) s = execStallResume n cycles s := rfl
@[simp] theorem exec_stallTimeout (n : Nat) (s : State) : exec (.stallTimeout n) s = execStallTimeout n s := rfl
@[simp] theorem exec_clockAbsent (n : Nat) (s : State) : exec (.clockAbsent n) s = execClockAbsent n s := rfl
@[simp] theorem exec_clockAbsentClear (n : Nat) (s : State) : exec (.clockAbsentClear n) s = execClockAbsentClear n s := rfl
@[simp] theorem exec_clockLost (n : Nat) (s : State) : exec (.clockLost n) s = execClockLost n s := rfl
@[simp] theorem exec_dipDemand (n : Nat) (sag : Nat) (s : State) : exec (.dipDemand n sag) s = execDipDemand n sag s := rfl
@[simp] theorem exec_stretchRelease (n : Nat) (s : State) : exec (.stretchRelease n) s = execStretchRelease n s := rfl
@[simp] theorem exec_registerWrite (off : Nat) (v : Nat) (s : State) : exec (.registerWrite off v) s = execRegisterWrite off v s := rfl
@[simp] theorem exec_pairLoRead (who : Nat) (off : Nat) (s : State) : exec (.pairLoRead who off) s = execPairLoRead who off s := rfl
@[simp] theorem exec_regRd (hp : Nat) (tag : Nat) (priv : Bool) (ten : Nat) (off : Nat) (len : Nat) (s : State) : exec (.regRd hp tag priv ten off len) s = execRegRd hp tag priv ten off len s := rfl
@[simp] theorem exec_regWr (hp : Nat) (tag : Nat) (priv : Bool) (ten : Nat) (off : Nat) (data : List Nat) (s : State) : exec (.regWr hp tag priv ten off data) s = execRegWr hp tag priv ten off data s := rfl
@[simp] theorem exec_regAns (hp : Nat) (p : Pkt) (s : State) : exec (.regAns hp p) s = execRegAns hp p s := rfl
@[simp] theorem exec_regTimeout (hp : Nat) (txn : Nat) (s : State) : exec (.regTimeout hp txn) s = execRegTimeout hp txn s := rfl
@[simp] theorem exec_start (n : Nat) (p : Pkt) (s : State) : exec (.start n p) s = execStart n p s := rfl
@[simp] theorem exec_segmentLoaded (n : Nat) (s : State) : exec (.segmentLoaded n) s = execSegmentLoaded n s := rfl
@[simp] theorem exec_loadWaitEnd (n : Nat) (s : State) : exec (.loadWaitEnd n) s = execLoadWaitEnd n s := rfl
@[simp] theorem exec_segDone (n : Nat) (p : Pkt) (s : State) : exec (.segDone n p) s = execSegDone n p s := rfl
@[simp] theorem exec_segDoneSend (n : Nat) (s : State) : exec (.segDoneSend n) s = execSegDoneSend n s := rfl
@[simp] theorem exec_segAbort (n : Nat) (p : Pkt) (s : State) : exec (.segAbort n p) s = execSegAbort n p s := rfl
@[simp] theorem exec_abort (n : Nat) (p : Pkt) (s : State) : exec (.abort n p) s = execAbort n p s := rfl
@[simp] theorem exec_ejectWrite (n : Nat) (s : State) : exec (.ejectWrite n) s = execEjectWrite n s := rfl
@[simp] theorem exec_landingFlitArrive (n : Nat) (flit : List Nat) (s : State) : exec (.landingFlitArrive n flit) s = execLandingFlitArrive n flit s := rfl
@[simp] theorem exec_olLandCfgWrite (n : Nat) (v : Nat) (s : State) : exec (.olLandCfgWrite n v) s = execOlLandCfgWrite n v s := rfl
@[simp] theorem exec_routeHeader (n : Nat) (port : Nat) (p : Pkt) (chk : Nat) (s : State) : exec (.routeHeader n port p chk) s = execRouteHeader n port p chk s := rfl
@[simp] theorem exec_escWaitExpire (n : Nat) (p : Pkt) (s : State) : exec (.escWaitExpire n p) s = execEscWaitExpire n p s := rfl
@[simp] theorem exec_outputAged (n : Nat) (p : Pkt) (s : State) : exec (.outputAged n p) s = execOutputAged n p s := rfl
@[simp] theorem exec_routerOutputArbitrate (n : Nat) (out : Nat) (net : Nat) (s : State) : exec (.routerOutputArbitrate n out net) s = execRouterOutputArbitrate n out net s := rfl
@[simp] theorem exec_drop (at_ : Nat) (p : Pkt) (s : State) : exec (.drop at_ p) s = execDrop at_ p s := rfl
@[simp] theorem exec_purge0 (n : Nat) (v : Nat) (s : State) : exec (.purge0 n v) s = execPurge0 n v s := rfl
@[simp] theorem exec_purge1 (n : Nat) (v : Nat) (s : State) : exec (.purge1 n v) s = execPurge1 n v s := rfl
@[simp] theorem exec_openPacketStart (n : Nat) (s : State) : exec (.openPacketStart n) s = execOpenPacketStart n s := rfl
@[simp] theorem exec_wheelUnpark (n : Nat) (f : Nat) (s : State) : exec (.wheelUnpark n f) s = execWheelUnpark n f s := rfl
@[simp] theorem exec_flowRateWrite (n : Nat) (f : Nat) (v : Nat) (s : State) : exec (.flowRateWrite n f v) s = execFlowRateWrite n f v s := rfl
@[simp] theorem exec_flowCfgWrite (n : Nat) (f : Nat) (v : Nat) (s : State) : exec (.flowCfgWrite n f v) s = execFlowCfgWrite n f v s := rfl
@[simp] theorem exec_openTimeout (n : Nat) (txn : Nat) (s : State) : exec (.openTimeout n txn) s = execOpenTimeout n txn s := rfl
@[simp] theorem exec_read (at_ : Nat) (p : Pkt) (ue : Bool) (s : State) : exec (.read at_ p ue) s = execRead at_ p ue s := rfl
@[simp] theorem exec_readData (n : Nat) (p : Pkt) (ue : Bool) (s : State) : exec (.readData n p ue) s = execReadData n p ue s := rfl
@[simp] theorem exec_readErr (n : Nat) (p : Pkt) (s : State) : exec (.readErr n p) s = execReadErr n p s := rfl
@[simp] theorem exec_creditReq (n : Nat) (p : Pkt) (s : State) : exec (.creditReq n p) s = execCreditReq n p s := rfl
@[simp] theorem exec_creditAns (n : Nat) (port : Nat) (p : Pkt) (s : State) : exec (.creditAns n port p) s = execCreditAns n port p s := rfl
@[simp] theorem exec_creditReturn (n : Nat) (p : Pkt) (s : State) : exec (.creditReturn n p) s = execCreditReturn n p s := rfl
@[simp] theorem exec_creditCancel (n : Nat) (p : Pkt) (s : State) : exec (.creditCancel n p) s = execCreditCancel n p s := rfl
@[simp] theorem exec_creditWaitExpire (n : Nat) (txn : Nat) (us : Nat) (s : State) : exec (.creditWaitExpire n txn us) s = execCreditWaitExpire n txn us s := rfl
@[simp] theorem exec_reqWinOpen (n : Nat) (p : Pkt) (s : State) : exec (.reqWinOpen n p) s = execReqWinOpen n p s := rfl
@[simp] theorem exec_reqWinReplenish (n : Nat) (p : Pkt) (s : State) : exec (.reqWinReplenish n p) s = execReqWinReplenish n p s := rfl
@[simp] theorem exec_snpWinClose (n : Nat) (p : Pkt) (s : State) : exec (.snpWinClose n p) s = execSnpWinClose n p s := rfl
@[simp] theorem exec_closeTakesEffect (n : Nat) (h : Nat) (s : State) : exec (.closeTakesEffect n h) s = execCloseTakesEffect n h s := rfl
@[simp] theorem exec_drainLimitExpire (n : Nat) (h : Nat) (s : State) : exec (.drainLimitExpire n h) s = execDrainLimitExpire n h s := rfl
@[simp] theorem exec_winAns (n : Nat) (p : Pkt) (s : State) : exec (.winAns n p) s = execWinAns n p s := rfl
@[simp] theorem exec_creditRevoke (n : Nat) (p : Pkt) (s : State) : exec (.creditRevoke n p) s = execCreditRevoke n p s := rfl
@[simp] theorem exec_write (at_ : Nat) (p : Pkt) (ue : Bool) (s : State) : exec (.write at_ p ue) s = execWrite at_ p ue s := rfl
@[simp] theorem exec_writeMc (n : Nat) (p : Pkt) (ue : Bool) (s : State) : exec (.writeMc n p ue) s = execWriteMc n p ue s := rfl
@[simp] theorem exec_writeAck (n : Nat) (port : Nat) (p : Pkt) (s : State) : exec (.writeAck n port p) s = execWriteAck n port p s := rfl
@[simp] theorem exec_reqAtomic (at_ : Nat) (p : Pkt) (ue : Bool) (s : State) : exec (.reqAtomic at_ p ue) s = execReqAtomic at_ p ue s := rfl
@[simp] theorem exec_atomicAns (n : Nat) (p : Pkt) (s : State) : exec (.atomicAns n p) s = execAtomicAns n p s := rfl
@[simp] theorem exec_rollcall (n : Nat) (p : Pkt) (s : State) : exec (.rollcall n p) s = execRollcall n p s := rfl
@[simp] theorem exec_rollAns (n : Nat) (p : Pkt) (s : State) : exec (.rollAns n p) s = execRollAns n p s := rfl
@[simp] theorem exec_rollTimeExpire (n : Nat) (txn : Nat) (s : State) : exec (.rollTimeExpire n txn) s = execRollTimeExpire n txn s := rfl
@[simp] theorem exec_combiningSlotFree (n : Nat) (s : State) : exec (.combiningSlotFree n) s = execCombiningSlotFree n s := rfl
@[simp] theorem exec_apStore (n : Nat) (store : Bool) (ofs : Nat) (len : Nat) (data : List Nat) (s : State) : exec (.apStore n store ofs len data) s = execApStore n store ofs len data s := rfl
@[simp] theorem exec_apWrite (n : Nat) (p : Pkt) (s : State) : exec (.apWrite n p) s = execApWrite n p s := rfl
@[simp] theorem exec_apResend (n : Nat) (txn : Nat) (s : State) : exec (.apResend n txn) s = execApResend n txn s := rfl
@[simp] theorem exec_redData (n : Nat) (p : Pkt) (ue : Bool) (s : State) : exec (.redData n p ue) s = execRedData n p ue s := rfl
@[simp] theorem exec_redAck (n : Nat) (p : Pkt) (s : State) : exec (.redAck n p) s = execRedAck n p s := rfl
@[simp] theorem exec_redBusy (n : Nat) (p : Pkt) (s : State) : exec (.redBusy n p) s = execRedBusy n p s := rfl
@[simp] theorem exec_redResend (n : Nat) (p : Pkt) (s : State) : exec (.redResend n p) s = execRedResend n p s := rfl
@[simp] theorem exec_redResult (n : Nat) (p : Pkt) (ue : Bool) (s : State) : exec (.redResult n p ue) s = execRedResult n p ue s := rfl
@[simp] theorem exec_redFail (n : Nat) (p : Pkt) (s : State) : exec (.redFail n p) s = execRedFail n p s := rfl
@[simp] theorem exec_redAbort (n : Nat) (p : Pkt) (s : State) : exec (.redAbort n p) s = execRedAbort n p s := rfl
@[simp] theorem exec_redLimitExpire (n : Nat) (rid : Nat) (s : State) : exec (.redLimitExpire n rid) s = execRedLimitExpire n rid s := rfl
@[simp] theorem exec_redIdHoldExpire (n : Nat) (rid : Nat) (s : State) : exec (.redIdHoldExpire n rid) s = execRedIdHoldExpire n rid s := rfl
@[simp] theorem exec_tnBell (hp : Nat) (t : Nat) (v : Nat) (s : State) : exec (.tnBell hp t v) s = execTnBell hp t v s := rfl
@[simp] theorem exec_fbBell (hp : Nat) (v : Nat) (s : State) : exec (.fbBell hp v) s = execFbBell hp v s := rfl
@[simp] theorem exec_bell (n : Nat) (p : Pkt) (s : State) : exec (.bell n p) s = execBell n p s := rfl
@[simp] theorem exec_doorbellRecordRead (n : Nat) (p : Pkt) (s : State) : exec (.doorbellRecordRead n p) s = execDoorbellRecordRead n p s := rfl
@[simp] theorem exec_descriptorFetch (n : Nat) (o : Nat) (p : Pkt) (s : State) : exec (.descriptorFetch n o p) s = execDescriptorFetch n o p s := rfl
@[simp] theorem exec_cqRecheck (n : Nat) (o : Nat) (s : State) : exec (.cqRecheck n o) s = execCqRecheck n o s := rfl
@[simp] theorem exec_completionWrite (n : Nat) (o : Nat) (host : List Nat) (s : State) : exec (.completionWrite n o host) s = execCompletionWrite n o host s := rfl
@[simp] theorem exec_ringCfgWrite (r : Nat) (v : Nat) (s : State) : exec (.ringCfgWrite r v) s = execRingCfgWrite r v s := rfl
@[simp] theorem exec_tqBell (n : Nat) (q : Nat) (v : Nat) (s : State) : exec (.tqBell n q v) s = execTqBell n q v s := rfl
@[simp] theorem exec_tqCfgWrite (n : Nat) (q : Nat) (v : Nat) (s : State) : exec (.tqCfgWrite n q v) s = execTqCfgWrite n q v s := rfl
@[simp] theorem exec_descriptorStart (n : Nat) (id : Nat) (s : State) : exec (.descriptorStart n id) s = execDescriptorStart n id s := rfl
@[simp] theorem exec_notBeforeReached (n : Nat) (id : Nat) (s : State) : exec (.notBeforeReached n id) s = execNotBeforeReached n id s := rfl
@[simp] theorem exec_nop (n : Nat) (id : Nat) (s : State) : exec (.nop n id) s = execNop n id s := rfl
@[simp] theorem exec_copy (n : Nat) (id : Nat) (s : State) : exec (.copy n id) s = execCopy n id s := rfl
@[simp] theorem exec_mcastWrite (n : Nat) (id : Nat) (s : State) : exec (.mcastWrite n id) s = execMcastWrite n id s := rfl
@[simp] theorem exec_atomic (n : Nat) (id : Nat) (s : State) : exec (.atomic n id) s = execAtomic n id s := rfl
@[simp] theorem exec_winOpen (n : Nat) (id : Nat) (s : State) : exec (.winOpen n id) s = execWinOpen n id s := rfl
@[simp] theorem exec_winClose (n : Nat) (id : Nat) (s : State) : exec (.winClose n id) s = execWinClose n id s := rfl
@[simp] theorem exec_winReplenish (n : Nat) (id : Nat) (s : State) : exec (.winReplenish n id) s = execWinReplenish n id s := rfl
@[simp] theorem exec_chartRun (n : Nat) (id : Nat) (s : State) : exec (.chartRun n id) s = execChartRun n id s := rfl
@[simp] theorem exec_chartPause (n : Nat) (id : Nat) (s : State) : exec (.chartPause n id) s = execChartPause n id s := rfl
@[simp] theorem exec_pause (n : Nat) (p : Pkt) (s : State) : exec (.pause n p) s = execPause n p s := rfl
@[simp] theorem exec_reduce (n : Nat) (id : Nat) (s : State) : exec (.reduce n id) s = execReduce n id s := rfl
@[simp] theorem exec_airExtract (n : Nat) (id : Nat) (s : State) : exec (.airExtract n id) s = execAirExtract n id s := rfl
@[simp] theorem exec_airConvert (n : Nat) (id : Nat) (s : State) : exec (.airConvert n id) s = execAirConvert n id s := rfl
@[simp] theorem exec_airFinish (n : Nat) (id : Nat) (s : State) : exec (.airFinish n id) s = execAirFinish n id s := rfl
@[simp] theorem exec_streamReady (n : Nat) (id : Nat) (s : State) : exec (.streamReady n id) s = execStreamReady n id s := rfl
@[simp] theorem exec_wait (n : Nat) (id : Nat) (s : State) : exec (.wait n id) s = execWait n id s := rfl
@[simp] theorem exec_waitTimeout (n : Nat) (id : Nat) (s : State) : exec (.waitTimeout n id) s = execWaitTimeout n id s := rfl
@[simp] theorem exec_hash (n : Nat) (id : Nat) (s : State) : exec (.hash n id) s = execHash n id s := rfl
@[simp] theorem exec_hashTimeout (txn : Nat) (s : State) : exec (.hashTimeout txn) s = execHashTimeout txn s := rfl
@[simp] theorem exec_sigRead (hp : Nat) (p : Pkt) (s : State) : exec (.sigRead hp p) s = execSigRead hp p s := rfl
@[simp] theorem exec_sigWritten (hp : Nat) (tag : Nat) (addr : Nat) (s : State) : exec (.sigWritten hp tag addr) s = execSigWritten hp tag addr s := rfl
@[simp] theorem exec_sigInv (n : Nat) (p : Pkt) (s : State) : exec (.sigInv n p) s = execSigInv n p s := rfl
@[simp] theorem exec_sigInvAck (hp : Nat) (p : Pkt) (s : State) : exec (.sigInvAck hp p) s = execSigInvAck hp p s := rfl
@[simp] theorem exec_snoopTimeout (hp : Nat) (line : Nat) (ni : Nat) (s : State) : exec (.snoopTimeout hp line ni) s = execSnoopTimeout hp line ni s := rfl
@[simp] theorem exec_sigPageWrite (t : Nat) (v : Nat) (s : State) : exec (.sigPageWrite t v) s = execSigPageWrite t v s := rfl
@[simp] theorem exec_consortArm (v : Nat) (s : State) : exec (.consortArm v) s = execConsortArm v s := rfl
@[simp] theorem exec_consort (chart : Nat) (seg : Nat) (region : Nat) (final : Bool) (beat : Nat) (crc : Nat) (flits : Nat) (s : State) : exec (.consort chart seg region final beat crc flits) s = execConsort chart seg region final beat crc flits s := rfl
@[simp] theorem exec_consortFrameLost (chart : Nat) (seg : Nat) (region : Nat) (beat : Nat) (s : State) : exec (.consortFrameLost chart seg region beat) s = execConsortFrameLost chart seg region beat s := rfl
@[simp] theorem exec_replayRecordStart (v : Nat) (s : State) : exec (.replayRecordStart v) s = execReplayRecordStart v s := rfl
@[simp] theorem exec_replayStart (v : Nat) (s : State) : exec (.replayStart v) s = execReplayStart v s := rfl
@[simp] theorem exec_replayStop (v : Nat) (s : State) : exec (.replayStop v) s = execReplayStop v s := rfl
@[simp] theorem exec_replayInject (words : List Nat) (s : State) : exec (.replayInject words) s = execReplayInject words s := rfl
@[simp] theorem exec_errMsg (p : Pkt) (idle : Bool) (s : State) : exec (.errMsg p idle) s = execErrMsg p idle s := rfl
@[simp] theorem exec_attn (p : Pkt) (idle : Bool) (s : State) : exec (.attn p idle) s = execAttn p idle s := rfl
@[simp] theorem exec_clearHist (k : Nat) (unit : Nat) (v : Nat) (s : State) : exec (.clearHist k unit v) s = execClearHist k unit v s := rfl
@[simp] theorem exec_leaveSafe (k : Nat) (unit : Nat) (v : Nat) (s : State) : exec (.leaveSafe k unit v) s = execLeaveSafe k unit v s := rfl
@[simp] theorem exec_clearWindows (k : Nat) (unit : Nat) (v : Nat) (s : State) : exec (.clearWindows k unit v) s = execClearWindows k unit v s := rfl
@[simp] theorem exec_errInjectWrite (k : Nat) (unit : Nat) (v : Nat) (s : State) : exec (.errInjectWrite k unit v) s = execErrInjectWrite k unit v s := rfl
@[simp] theorem exec_fence (n : Nat) (p : Pkt) (s : State) : exec (.fence n p) s = execFence n p s := rfl
@[simp] theorem exec_fenceWire (n : Nat) (port : Nat) (s : State) : exec (.fenceWire n port) s = execFenceWire n port s := rfl
@[simp] theorem exec_repair (patch : Nat) (s : State) : exec (.repair patch) s = execRepair patch s := rfl
@[simp] theorem exec_publish (v : Nat) (s : State) : exec (.publish v) s = execPublish v s := rfl
@[simp] theorem exec_repairHoldExpire (n : Nat) (chart : Nat) (s : State) : exec (.repairHoldExpire n chart) s = execRepairHoldExpire n chart s := rfl
@[simp] theorem exec_soundingFlit (n : Nat) (port : Nat) (seed : Nat) (err : Nat) (s : State) : exec (.soundingFlit n port seed err) s = execSoundingFlit n port seed err s := rfl
@[simp] theorem exec_routerSelftest (n : Nat) (step : Nat) (bad : Bool) (s : State) : exec (.routerSelftest n step bad) s = execRouterSelftest n step bad s := rfl
@[simp] theorem exec_kick (v : Nat) (s : State) : exec (.kick v) s = execKick v s := rfl
@[simp] theorem exec_frameReceive (n : Nat) (pair : Nat) (odd : Bool) (verdict : Nat) (s : State) : exec (.frameReceive n pair odd verdict) s = execFrameReceive n pair odd verdict s := rfl
@[simp] theorem exec_linkFlitTransmit (n : Nat) (s : State) : exec (.linkFlitTransmit n) s = execLinkFlitTransmit n s := rfl
@[simp] theorem exec_small (n : Nat) (cells : List (Pkt × Nat)) (s : State) : exec (.small n cells) s = execSmall n cells s := rfl
@[simp] theorem exec_openFlit (n : Nat) (p : Pkt) (unit : Nat) (s : State) : exec (.openFlit n p unit) s = execOpenFlit n p unit s := rfl
@[simp] theorem exec_ack (n : Nat) (pair : Nat) (s : State) : exec (.ack n pair) s = execAck n pair s := rfl
@[simp] theorem exec_nak (n : Nat) (pair : Nat) (s : State) : exec (.nak n pair) s = execNak n pair s := rfl
@[simp] theorem exec_credit (n : Nat) (v : Nat) (s : State) : exec (.credit n v) s = execCredit n v s := rfl
@[simp] theorem exec_landMark (n : Nat) (g : Nat) (s : State) : exec (.landMark n g) s = execLandMark n g s := rfl
@[simp] theorem exec_stream (n : Nat) (j : Nat) (s : State) : exec (.stream n j) s = execStream n j s := rfl
@[simp] theorem exec_ident (n : Nat) (v : Nat) (s : State) : exec (.ident n v) s = execIdent n v s := rfl
@[simp] theorem exec_identSend (n : Nat) (s : State) : exec (.identSend n) s = execIdentSend n s := rfl
@[simp] theorem exec_sync (n : Nat) (c : Nat) (ofs : Nat) (s : State) : exec (.sync n c ofs) s = execSync n c ofs s := rfl
@[simp] theorem exec_syncSend (kids : List Nat) (s : State) : exec (.syncSend kids) s = execSyncSend kids s := rfl
@[simp] theorem exec_linkLoss (n : Nat) (j : Nat) (s : State) : exec (.linkLoss n j) s = execLinkLoss n j s := rfl
@[simp] theorem exec_resume (n : Nat) (j : Nat) (last : Nat) (s : State) : exec (.resume n j last) s = execResume n j last s := rfl
@[simp] theorem exec_train (n : Nat) (mask : Nat) (s : State) : exec (.train n mask) s = execTrain n mask s := rfl
@[simp] theorem exec_linkEgressPacket (n : Nat) (p : Pkt) (s : State) : exec (.linkEgressPacket n p) s = execLinkEgressPacket n p s := rfl
@[simp] theorem exec_linkIngressRequest (n : Nat) (s : State) : exec (.linkIngressRequest n) s = execLinkIngressRequest n s := rfl
@[simp] theorem exec_linkIngressAnswer (n : Nat) (s : State) : exec (.linkIngressAnswer n) s = execLinkIngressAnswer n s := rfl
@[simp] theorem exec_xlatIdleExpire (n : Nat) (ltxn : Nat) (s : State) : exec (.xlatIdleExpire n ltxn) s = execXlatIdleExpire n ltxn s := rfl
@[simp] theorem exec_linkEnable (n : Nat) (v : Nat) (s : State) : exec (.linkEnable n v) s = execLinkEnable n v s := rfl
@[simp] theorem exec_retrain (n : Nat) (v : Nat) (s : State) : exec (.retrain n v) s = execRetrain n v s := rfl
@[simp] theorem exec_holdDown (n : Nat) (v : Nat) (s : State) : exec (.holdDown n v) s = execHoldDown n v s := rfl
@[simp] theorem exec_pmaReady (n : Nat) (mask : Nat) (s : State) : exec (.pmaReady n mask) s = execPmaReady n mask s := rfl
@[simp] theorem exec_sigDetLoss (n : Nat) (mask : Nat) (s : State) : exec (.sigDetLoss n mask) s = execSigDetLoss n mask s := rfl
@[simp] theorem exec_alignDone (n : Nat) (mask : Nat) (s : State) : exec (.alignDone n mask) s = execAlignDone n mask s := rfl
@[simp] theorem exec_widthChosen (n : Nat) (s : State) : exec (.widthChosen n) s = execWidthChosen n s := rfl
@[simp] theorem exec_lockDone (n : Nat) (rtt : Nat) (far : Nat) (s : State) : exec (.lockDone n rtt far) s = execLockDone n rtt far s := rfl
@[simp] theorem exec_identDone (n : Nat) (s : State) : exec (.identDone n) s = execIdentDone n s := rfl
@[simp] theorem exec_trainLimitExpire (n : Nat) (s : State) : exec (.trainLimitExpire n) s = execTrainLimitExpire n s := rfl
@[simp] theorem exec_discover (v : Nat) (s : State) : exec (.discover v) s = execDiscover v s := rfl
@[simp] theorem exec_holdAll (v : Nat) (s : State) : exec (.holdAll v) s = execHoldAll v s := rfl
@[simp] theorem exec_arbitrate (n : Nat) (s : State) : exec (.arbitrate n) s = execArbitrate n s := rfl
@[simp] theorem exec_wrDone (n : Nat) (tag : Nat) (s : State) : exec (.wrDone n tag) s = execWrDone n tag s := rfl
@[simp] theorem exec_readReturn (n : Nat) (tag : Nat) (ue : Bool) (s : State) : exec (.readReturn n tag ue) s = execReadReturn n tag ue s := rfl
@[simp] theorem exec_refreshHold (n : Nat) (s : State) : exec (.refreshHold n) s = execRefreshHold n s := rfl
@[simp] theorem exec_refreshHoldEnd (n : Nat) (s : State) : exec (.refreshHoldEnd n) s = execRefreshHoldEnd n s := rfl
@[simp] theorem exec_refreshStuck (n : Nat) (s : State) : exec (.refreshStuck n) s = execRefreshStuck n s := rfl
@[simp] theorem exec_rearm (n : Nat) (v : Nat) (s : State) : exec (.rearm n v) s = execRearm n v s := rfl
@[simp] theorem exec_go (n : Nat) (v : Nat) (s : State) : exec (.go n v) s = execGo n v s := rfl
@[simp] theorem exec_debugTransaction (n : Nat) (addr : Nat) (wr : Bool) (data : Nat) (s : State) : exec (.debugTransaction n addr wr data) s = execDebugTransaction n addr wr data s := rfl
@[simp] theorem exec_bookingCfgWrite (n : Nat) (b : Nat) (v : Nat) (s : State) : exec (.bookingCfgWrite n b v) s = execBookingCfgWrite n b v s := rfl
@[simp] theorem exec_nearCfgWrite (k : Nat) (v : Nat) (s : State) : exec (.nearCfgWrite k v) s = execNearCfgWrite k v s := rfl
@[simp] theorem exec_mapCopyApply (k : Nat) (s : State) : exec (.mapCopyApply k) s = execMapCopyApply k s := rfl
@[simp] theorem exec_ctrlReady (n : Nat) (up : Bool) (cap : Nat) (s : State) : exec (.ctrlReady n up cap) s = execCtrlReady n up cap s := rfl
@[simp] theorem exec_grantCfgWrite (k : Nat) (v : Nat) (s : State) : exec (.grantCfgWrite k v) s = execGrantCfgWrite k v s := rfl
@[simp] theorem exec_grantCopyApply (n : Nat) (s : State) : exec (.grantCopyApply n) s = execGrantCopyApply n s := rfl
@[simp] theorem exec_handleWrite (n : Nat) (h : Nat) (k : Nat) (v : Nat) (s : State) : exec (.handleWrite n h k v) s = execHandleWrite n h k v s := rfl
@[simp] theorem exec_pairWrite (n : Nat) (k : Nat) (v : Nat) (s : State) : exec (.pairWrite n k v) s = execPairWrite n k v s := rfl
@[simp] theorem exec_assign (v : Nat) (s : State) : exec (.assign v) s = execAssign v s := rfl
@[simp] theorem exec_sliceEnd (v : Nat) (s : State) : exec (.sliceEnd v) s = execSliceEnd v s := rfl
@[simp] theorem exec_kill (v : Nat) (s : State) : exec (.kill v) s = execKill v s := rfl
@[simp] theorem exec_release (v : Nat) (s : State) : exec (.release v) s = execRelease v s := rfl
@[simp] theorem exec_scrub (v : Nat) (s : State) : exec (.scrub v) s = execScrub v s := rfl
@[simp] theorem exec_slice (n : Nat) (p : Pkt) (s : State) : exec (.slice n p) s = execSlice n p s := rfl
@[simp] theorem exec_sliceAns (p : Pkt) (s : State) : exec (.sliceAns p) s = execSliceAns p s := rfl
@[simp] theorem exec_scrubDone (n : Nat) (fail : Bool) (s : State) : exec (.scrubDone n fail) s = execScrubDone n fail s := rfl
@[simp] theorem exec_groupDefine (v : Nat) (bad : Bool) (s : State) : exec (.groupDefine v bad) s = execGroupDefine v bad s := rfl
@[simp] theorem exec_groupUndefine (v : Nat) (bad : Bool) (s : State) : exec (.groupUndefine v bad) s = execGroupUndefine v bad s := rfl
@[simp] theorem exec_ridDefine (v : Nat) (bad : Bool) (s : State) : exec (.ridDefine v bad) s = execRidDefine v bad s := rfl
@[simp] theorem exec_ridUndefine (v : Nat) (bad : Bool) (s : State) : exec (.ridUndefine v bad) s = execRidUndefine v bad s := rfl
@[simp] theorem exec_stageImage (v : Nat) (bad : Bool) (s : State) : exec (.stageImage v bad) s = execStageImage v bad s := rfl
@[simp] theorem exec_logCopy (v : Nat) (bad : Bool) (s : State) : exec (.logCopy v bad) s = execLogCopy v bad s := rfl
@[simp] theorem exec_recvChunk (v : Nat) (bad : Bool) (s : State) : exec (.recvChunk v bad) s = execRecvChunk v bad s := rfl
@[simp] theorem exec_recvEnd (v : Nat) (bad : Bool) (s : State) : exec (.recvEnd v bad) s = execRecvEnd v bad s := rfl
@[simp] theorem exec_bnLock (v : Nat) (s : State) : exec (.bnLock v) s = execBnLock v s := rfl
@[simp] theorem exec_sensorRefresh (n : Nat) (temp : Nat) (sag : Nat) (bad : Bool) (s : State) : exec (.sensorRefresh n temp sag bad) s = execSensorRefresh n temp sag bad s := rfl
@[simp] theorem exec_govEnable (v : Nat) (s : State) : exec (.govEnable v) s = execGovEnable v s := rfl
@[simp] theorem exec_pmbusPoll (bad : Bool) (vin : Nat) (iin : Nat) (pin : Nat) (st : Nat) (s : State) : exec (.pmbusPoll bad vin iin pin st) s = execPmbusPoll bad vin iin pin st s := rfl
@[simp] theorem exec_logWrite (bad : Bool) (s : State) : exec (.logWrite bad) s = execLogWrite bad s := rfl
@[simp] theorem exec_coldReset (chip : Nat) (sel : Nat) (unstable : Bool) (anchor : Bool) (flash : Nat) (s : State) : exec (.coldReset chip sel unstable anchor flash) s = execColdReset chip sel unstable anchor flash s := rfl
@[simp] theorem exec_regionReset (n : Nat) (s : State) : exec (.regionReset n) s = execRegionReset n s := rfl
@[simp] theorem exec_islandReset (n : Nat) (s : State) : exec (.islandReset n) s = execIslandReset n s := rfl
@[simp] theorem exec_linkReset (n : Nat) (s : State) : exec (.linkReset n) s = execLinkReset n s := rfl
@[simp] theorem exec_bnReset (flash : Nat) (s : State) : exec (.bnReset flash) s = execBnReset flash s := rfl
@[simp] theorem exec_powerWave (bad : List Nat) (f1 : List Nat) (f2 : List Nat) (f3 : List Nat) (eng : Bool) (s : State) : exec (.powerWave bad f1 f2 f3 eng) s = execPowerWave bad f1 f2 f3 eng s := rfl
@[simp] theorem exec_coreBistDone (n : Nat) (sig : Nat) (s : State) : exec (.coreBistDone n sig) s = execCoreBistDone n sig s := rfl
@[simp] theorem exec_coreBistTimeout (n : Nat) (s : State) : exec (.coreBistTimeout n) s = execCoreBistTimeout n s := rfl
@[simp] theorem exec_fwloadEnable (n : Nat) (v : Nat) (s : State) : exec (.fwloadEnable n v) s = execFwloadEnable n v s := rfl
@[simp] theorem exec_fwChunk (n : Nat) (s : State) : exec (.fwChunk n) s = execFwChunk n s := rfl
@[simp] theorem exec_imageDigestDone (n : Nat) (s : State) : exec (.imageDigestDone n) s = execImageDigestDone n s := rfl
@[simp] theorem exec_fwRelease (n : Nat) (v : Nat) (s : State) : exec (.fwRelease n v) s = execFwRelease n v s := rfl
@[simp] theorem exec_unitClockLost (d : Nat) (s : State) : exec (.unitClockLost d) s = execUnitClockLost d s := rfl
@[simp] theorem exec_coreFatal (n : Nat) (code : Nat) (s : State) : exec (.coreFatal n code) s = execCoreFatal n code s := rfl
@[simp] theorem exec_spErr (n : Nat) (ue : Bool) (addr : Nat) (s : State) : exec (.spErr n ue addr) s = execSpErr n ue addr s := rfl
@[simp] theorem exec_ctrlFatalIn (n : Nat) (up : Bool) (s : State) : exec (.ctrlFatalIn n up) s = execCtrlFatalIn n up s := rfl
@[simp] theorem exec_hpFatalIn (hp : Nat) (up : Bool) (s : State) : exec (.hpFatalIn hp up) s = execHpFatalIn hp up s := rfl
@[simp] theorem exec_coreRequest (n : Nat) (wr : Bool) (addr : Nat) (data : Nat) (be : Nat) (s : State) : exec (.coreRequest n wr addr data be) s = execCoreRequest n wr addr data be s := rfl
@[simp] theorem exec_memRd (hp : Nat) (s : State) : exec (.memRd hp) s = execMemRd hp s := rfl
@[simp] theorem exec_memWr (hp : Nat) (s : State) : exec (.memWr hp) s = execMemWr hp s := rfl
@[simp] theorem exec_cpl (hp : Nat) (tag : Nat) (st : Nat) (data : List Nat) (s : State) : exec (.cpl hp tag st data) s = execCpl hp tag st data s := rfl
@[simp] theorem exec_hostTagTimeout (hp : Nat) (tag : Nat) (s : State) : exec (.hostTagTimeout hp tag) s = execHostTagTimeout hp tag s := rfl
@[simp] theorem exec_txCrd (hp : Nat) (cls : Nat) (s : State) : exec (.txCrd hp cls) s = execTxCrd hp cls s := rfl
@[simp] theorem exec_cntSnapGo (v : Nat) (s : State) : exec (.cntSnapGo v) s = execCntSnapGo v s := rfl
@[simp] theorem exec_snapshotCopy (k : Nat) (unit : Nat) (s : State) : exec (.snapshotCopy k unit) s = execSnapshotCopy k unit s := rfl
@[simp] theorem exec_traceFlush (n : Nat) (s : State) : exec (.traceFlush n) s = execTraceFlush n s := rfl
@[simp] theorem exec_tracePacketTimeout (n : Nat) (txn : Nat) (s : State) : exec (.tracePacketTimeout n txn) s = execTracePacketTimeout n txn s := rfl
@[simp] theorem exec_traceAccept (p : Pkt) (s : State) : exec (.traceAccept p) s = execTraceAccept p s := rfl
@[simp] theorem exec_freeze (k : Nat) (unit : Nat) (v : Nat) (s : State) : exec (.freeze k unit v) s = execFreeze k unit v s := rfl
@[simp] theorem exec_plotGo (v : Nat) (s : State) : exec (.plotGo v) s = execPlotGo v s := rfl
@[simp] theorem exec_stop (v : Nat) (s : State) : exec (.stop v) s = execStop v s := rfl
@[simp] theorem exec_anchorRearm (v : Nat) (s : State) : exec (.anchorRearm v) s = execAnchorRearm v s := rfl
@[simp] theorem exec_scanGo (v : Nat) (s : State) : exec (.scanGo v) s = execScanGo v s := rfl
@[simp] theorem exec_thrRearm (v : Nat) (s : State) : exec (.thrRearm v) s = execThrRearm v s := rfl
@[simp] theorem exec_memdbg (d : Nat) (s : State) : exec (.memdbg d) s = execMemdbg d s := rfl
@[simp] theorem exec_alignmentMarker (n : Nat) (lane : Nat) (kind : Nat) (s : State) : exec (.alignmentMarker n lane kind) s = execAlignmentMarker n lane kind s := rfl
@[simp] theorem exec_armingFrame (digest : List Nat) (version : Nat) (mode : Nat) (s : State) : exec (.armingFrame digest version mode) s = execArmingFrame digest version mode s := rfl
@[simp] theorem exec_stackTemperature (n : Nat) (temp : Nat) (lim : Nat) (s : State) : exec (.stackTemperature n temp lim) s = execStackTemperature n temp lim s := rfl
@[simp] theorem exec_imageSlotWritten (bad : Bool) (s : State) : exec (.imageSlotWritten bad) s = execImageSlotWritten bad s := rfl
@[simp] theorem exec_niReachWrite (n : Nat) (k : Nat) (v : Nat) (s : State) : exec (.niReachWrite n k v) s = execNiReachWrite n k v s := rfl
@[simp] theorem exec_beatMark (s : State) : exec (.beatMark) s = execBeatMark s := rfl
@[simp] theorem exec_refLost (s : State) : exec (.refLost) s = execRefLost s := rfl
@[simp] theorem exec_tickToggle (s : State) : exec (.tickToggle) s = execTickToggle s := rfl
@[simp] theorem exec_kickMissed (s : State) : exec (.kickMissed) s = execKickMissed s := rfl
@[simp] theorem exec_syncLost (s : State) : exec (.syncLost) s = execSyncLost s := rfl
@[simp] theorem exec_discoveryJudge (s : State) : exec (.discoveryJudge) s = execDiscoveryJudge s := rfl
@[simp] theorem exec_sliceTimeout (s : State) : exec (.sliceTimeout) s = execSliceTimeout s := rfl
@[simp] theorem exec_mboxCmdDropped (s : State) : exec (.mboxCmdDropped) s = execMboxCmdDropped s := rfl
@[simp] theorem exec_powerEstimate (s : State) : exec (.powerEstimate) s = execPowerEstimate s := rfl
@[simp] theorem exec_governorLoop (s : State) : exec (.governorLoop) s = execGovernorLoop s := rfl
@[simp] theorem exec_warmReset (s : State) : exec (.warmReset) s = execWarmReset s := rfl
@[simp] theorem exec_bcClockLost (s : State) : exec (.bcClockLost) s = execBcClockLost s := rfl
@[simp] theorem exec_irq (s : State) : exec (.irq) s = execIrq s := rfl
@[simp] theorem exec_snapshotTimeout (s : State) : exec (.snapshotTimeout) s = execSnapshotTimeout s := rfl
@[simp] theorem exec_traceSend (s : State) : exec (.traceSend) s = execTraceSend s := rfl
@[simp] theorem exec_captureStall (s : State) : exec (.captureStall) s = execCaptureStall s := rfl
@[simp] theorem exec_anchorN (s : State) : exec (.anchorN) s = execAnchorN s := rfl
@[simp] theorem exec_anchorNStuck (s : State) : exec (.anchorNStuck) s = execAnchorNStuck s := rfl
@[simp] theorem exec_anchorPartialFreeze (s : State) : exec (.anchorPartialFreeze) s = execAnchorPartialFreeze s := rfl
@[simp] theorem exec_throttleAssert (s : State) : exec (.throttleAssert) s = execThrottleAssert s := rfl
@[simp] theorem exec_thrMinExpire (s : State) : exec (.thrMinExpire) s = execThrMinExpire s := rfl
@[simp] theorem exec_thrStuck (s : State) : exec (.thrStuck) s = execThrStuck s := rfl
@[simp] theorem exec_idcode (s : State) : exec (.idcode) s = execIdcode s := rfl
@[simp] theorem exec_scan (s : State) : exec (.scan) s = execScan s := rfl
@[simp] theorem exec_bypass (s : State) : exec (.bypass) s = execBypass s := rfl
@[simp] theorem exec_trst (s : State) : exec (.trst) s = execTrst s := rfl

end Sys2Proof.Machine
end

