-- ==== Sys2Proof/Laws/Memory.lean ====
section
/-!
SUPPORT. Laws of the memories: a read after a write, and that every operation keeps the canonical form.
-/

namespace Sys2Proof.Machine

/-- Every address of the list lies above a. -/
def Memory.above (a : Nat) (m : Memory) : Prop := ∀ c ∈ m, a < c.1

theorem Memory.wf_cons {a : Nat} {b : BitVec 8} {m : Memory} :
    Memory.wf ((a, b) :: m) = true ↔ b ≠ 0 ∧ Memory.above a m ∧ Memory.wf m = true := by
  induction m generalizing a b with
  | nil => simp [Memory.wf, Memory.above]
  | cons c r ih =>
    obtain ⟨a', b'⟩ := c
    constructor
    · intro h
      simp only [Memory.wf, Bool.and_eq_true, bne_iff_ne, decide_eq_true_eq] at h
      obtain ⟨⟨h1, h2⟩, h3⟩ := h
      refine ⟨h1, ?_, h3⟩
      obtain ⟨-, hab, -⟩ := ih.mp h3
      intro c hc
      rcases List.mem_cons.mp hc with rfl | hc
      · exact h2
      · exact Nat.lt_trans h2 (hab c hc)
    · rintro ⟨h1, h2, h3⟩
      simp only [Memory.wf, Bool.and_eq_true, bne_iff_ne, decide_eq_true_eq]
      exact ⟨⟨h1, h2 (a', b') (by simp)⟩, h3⟩

theorem Memory.above_write {x a v : Nat} {m : Memory} (hx : x < a) (h : Memory.above x m) : Memory.above x (m.write a v) := by
  induction m with
  | nil =>
    unfold Memory.write
    split
    · exact h
    · intro c hc; simp at hc; subst hc; exact hx
  | cons c r ih =>
    obtain ⟨a', b⟩ := c
    have hr : Memory.above x r := fun c hc => h c (by simp [hc])
    have h0 : x < a' := h (a', b) (by simp)
    simp only [Memory.write]
    split
    · split
      · exact hr
      · intro c hc
        rcases List.mem_cons.mp hc with rfl | hc
        · exact hx
        · exact hr c hc
    · split
      · split
        · exact h
        · intro c hc
          rcases List.mem_cons.mp hc with rfl | hc
          · exact hx
          · exact h c hc
      · intro c hc
        rcases List.mem_cons.mp hc with rfl | hc
        · exact h0
        · exact ih hr c hc

theorem Memory.byte_ne_zero {v : Nat} (h : v % 256 ≠ 0) : BitVec.ofNat 8 v ≠ 0 := by
  intro e
  have := congrArg BitVec.toNat e
  simp at this
  omega

/-- A write keeps the canonical form. -/
theorem Memory.wf_write (m : Memory) (a v : Nat) (h : m.wf = true) : (m.write a v).wf = true := by
  induction m with
  | nil =>
    unfold Memory.write
    split
    · rfl
    · simpa [Memory.wf] using Memory.byte_ne_zero ‹_›
  | cons c r ih =>
    obtain ⟨a', b⟩ := c
    obtain ⟨hb, hab, hr⟩ := Memory.wf_cons.mp h
    simp only [Memory.write]
    split
    · rename_i e
      split
      · exact hr
      · exact Memory.wf_cons.mpr ⟨Memory.byte_ne_zero ‹_›, e ▸ hab, hr⟩
    · split
      · split
        · exact h
        · refine Memory.wf_cons.mpr ⟨Memory.byte_ne_zero ‹_›, ?_, h⟩
          intro c hc
          rcases List.mem_cons.mp hc with rfl | hc
          · assumption
          · exact Nat.lt_trans ‹a < a'› (hab c hc)
      · exact Memory.wf_cons.mpr ⟨hb, Memory.above_write (by omega) hab, ih hr⟩

/-- Writing bytes keeps the canonical form. -/
theorem Memory.wf_writeN (m : Memory) (a : Nat) (d : List Nat) (h : m.wf = true) : (m.writeN a d).wf = true := by
  induction d generalizing m a with
  | nil => exact h
  | cons v r ih => exact ih _ _ (m.wf_write a v h)

theorem Memory.wf_filter (m : Memory) (p : Host.Cell → Bool) (h : m.wf = true) : Memory.wf (m.filter p) = true := by
  induction m with
  | nil => rfl
  | cons c r ih =>
    obtain ⟨a, b⟩ := c
    obtain ⟨hb, hab, hr⟩ := Memory.wf_cons.mp h
    simp only [List.filter_cons]
    split
    · exact Memory.wf_cons.mpr ⟨hb, fun c hc => hab c (List.mem_of_mem_filter hc), ih hr⟩
    · exact ih hr

/-- Zeroing a range keeps the canonical form. -/
theorem Memory.wf_zero (m : Memory) (lo hi : Nat) (h : m.wf = true) : (m.zero lo hi).wf = true := m.wf_filter _ h

/-- A byte that was written reads so. -/
theorem Memory.read_write_same (m : Memory) (a v : Nat) (h : m.wf = true) : (m.write a v).read a = v % 256 := by
  induction m with
  | nil =>
    unfold Memory.write
    split
    · simp [Memory.read, *]
    · simp [Memory.read]
  | cons c r ih =>
    obtain ⟨a', b⟩ := c
    obtain ⟨-, hab, hr⟩ := Memory.wf_cons.mp h
    have none_at : ∀ (m : Memory), Memory.above a m → m.read a = 0 := by
      intro m
      induction m with
      | nil => intro _; rfl
      | cons c r ih =>
        intro hm
        obtain ⟨x, y⟩ := c
        have : a < x := hm (x, y) (by simp)
        simp only [Memory.read, if_neg (Nat.ne_of_gt this)]
        exact ih (fun c hc => hm c (by simp [hc]))
    simp only [Memory.write]
    split
    · rename_i e
      subst e
      split
      · rw [none_at r hab]; omega
      · simp [Memory.read]
    · rename_i ne
      split
      · rename_i lt
        split
        · have : Memory.above a ((a', b) :: r) := by
            intro c hc
            rcases List.mem_cons.mp hc with rfl | hc
            · exact lt
            · exact Nat.lt_trans lt (hab c hc)
          rw [none_at _ this]; omega
        · simp [Memory.read]
      · simp only [Memory.read, if_neg ne]
        exact ih hr

/-- A write leaves every other byte alone. -/
theorem Memory.read_write_ne (m : Memory) (a b v : Nat) (h : b ≠ a) : (m.write a v).read b = m.read b := by
  induction m with
  | nil =>
    unfold Memory.write
    split
    · rfl
    · simp [Memory.read, Ne.symm h]
  | cons c r ih =>
    obtain ⟨a', x⟩ := c
    simp only [Memory.write]
    split
    · rename_i e
      subst e
      split <;> simp [Memory.read, Ne.symm h]
    · split
      · split <;> simp [Memory.read, Ne.symm h]
      · simp only [Memory.read, ih]

/-- Writing bytes leaves every byte outside them alone. -/
theorem Memory.read_writeN_ne (m : Memory) (a b : Nat) (d : List Nat) (h : b < a ∨ a + d.length ≤ b) :
    (m.writeN a d).read b = m.read b := by
  induction d generalizing m a with
  | nil => rfl
  | cons v r ih =>
    simp only [Memory.writeN]
    have hb : b ≠ a := by simp at h; omega
    rw [ih _ _ (by simp at h; omega), m.read_write_ne a b v hb]

/-- Bytes that were written read so. -/
theorem Memory.read_writeN_same (m : Memory) (a : Nat) (d : List Nat) (i : Nat) (h : m.wf = true) (hi : i < d.length) :
    (m.writeN a d).read (a + i) = d.getD i 0 % 256 := by
  induction d generalizing m a i with
  | nil => simp at hi
  | cons v r ih =>
    simp only [Memory.writeN]
    cases i with
    | zero => rw [Memory.read_writeN_ne _ _ _ _ (by omega)]; simpa using m.read_write_same a v h
    | succ i =>
      have := ih (m.write a v) (a + 1) i (m.wf_write a v h) (by simpa using hi)
      rw [show a + (i + 1) = a + 1 + i by omega, this]
      simp

/-- The memory of reset is canonical. -/
theorem Memory.wf_reset : Memory.wf State.reset.spad = true ∧ Memory.wf State.reset.hbm = true ∧ Memory.wf State.reset.flash = true :=
  ⟨rfl, rfl, rfl⟩

end Sys2Proof.Machine
end

