-- ==== Sys2Proof/Laws/Word.lean ====
section
/-!
SUPPORT. Laws of bit fields, sparse tables and lists.
-/

namespace Sys2Proof.Machine

/-! ## Sparse tables -/

/-- A key that was put reads what was put. -/
@[simp] theorem SMap.get_put_same {α : Type} (m : SMap α) (k : Nat) (v d : α) : (m.put k v).get k d = v := by
  induction m with
  | nil => simp [SMap.put, SMap.get]
  | cons e r ih =>
    obtain ⟨k', w⟩ := e
    simp only [SMap.put]
    split
    · simp [SMap.get]
    · split
      · simp [SMap.get]
      · rename_i h _
        simp [SMap.get, h, ih]

/-- A put leaves the other keys alone. -/
theorem SMap.get_put_ne {α : Type} (m : SMap α) {k j : Nat} (v d : α) (h : j ≠ k) : (m.put k v).get j d = m.get j d := by
  induction m with
  | nil => simp [SMap.put, SMap.get, Ne.symm h]
  | cons e r ih =>
    obtain ⟨k', w⟩ := e
    simp only [SMap.put]
    split
    · rename_i hk
      subst hk
      simp [SMap.get, Ne.symm h]
    · split
      · simp [SMap.get, Ne.symm h]
      · simp only [SMap.get, ih]

/-- The later of two puts at a key stays. -/
@[simp] theorem SMap.put_put {α : Type} (m : SMap α) (k : Nat) (v w : α) : (m.put k v).put k w = m.put k w := by
  induction m with
  | nil => simp [SMap.put]
  | cons e r ih =>
    obtain ⟨k', x⟩ := e
    simp only [SMap.put]
    split
    · simp [SMap.put]
    · split
      · simp [SMap.put]
      · rename_i h1 h2
        simp [SMap.put, h1, h2, ih]

/-- What a table holds after a put, by cases on the key. -/
theorem SMap.get_put {α : Type} (m : SMap α) (k j : Nat) (v d : α) :
    (m.put k v).get j d = if j = k then v else m.get j d := by
  by_cases h : j = k
  · subst h; simp
  · simp [h, SMap.get_put_ne m v d h]

/-! ## Bit fields -/

/-- A field that was set reads what was set. -/
theorem bits_setBits_same (w hi lo v : Nat) (h : v < 2 ^ (hi + 1 - lo)) (hl : lo ≤ hi) : bits (setBits w hi lo v) hi lo = v := by
  have e : (w >>> (hi + 1)) <<< (hi + 1) = (w / 2 ^ (hi + 1)) * 2 ^ (hi + 1 - lo) * 2 ^ lo := by
    rw [Nat.shiftRight_eq_div_pow, Nat.shiftLeft_eq, Nat.mul_assoc, ← Nat.pow_add, Nat.sub_add_cancel (by omega)]
  unfold bits setBits
  rw [Nat.shiftRight_eq_div_pow, Nat.mod_eq_of_lt h, e, Nat.shiftLeft_eq]
  have q : (w % 2 ^ lo + v * 2 ^ lo + w / 2 ^ (hi + 1) * 2 ^ (hi + 1 - lo) * 2 ^ lo) =
      w % 2 ^ lo + 2 ^ lo * (v + 2 ^ (hi + 1 - lo) * (w / 2 ^ (hi + 1))) := by ring
  rw [q, Nat.add_mul_div_left _ _ (Nat.two_pow_pos lo), Nat.div_eq_of_lt (Nat.mod_lt _ (Nat.two_pow_pos lo)), Nat.zero_add,
    Nat.add_mul_mod_self_left, Nat.mod_eq_of_lt h]

/-- A field that was set reads what was set, cut to its width. -/
theorem bits_setBits (w hi lo v : Nat) (hl : lo ≤ hi) : bits (setBits w hi lo v) hi lo = v % 2 ^ (hi + 1 - lo) := by
  have : setBits w hi lo v = setBits w hi lo (v % 2 ^ (hi + 1 - lo)) := by simp [setBits]
  rw [this, bits_setBits_same _ _ _ _ (Nat.mod_lt _ (Nat.two_pow_pos _)) hl]

/-- Bit i of a word with a field set: of the field inside it, of the old word outside. -/
theorem testBit_setBits (w hi lo v i : Nat) (hl : lo ≤ hi) :
    (setBits w hi lo v).testBit i = if lo ≤ i ∧ i ≤ hi then v.testBit (i - lo) else w.testBit i := by
  have e : setBits w hi lo v =
      (w % 2 ^ lo + (v % 2 ^ (hi + 1 - lo)) * 2 ^ lo) + (w / 2 ^ (hi + 1)) * 2 ^ (hi + 1) := by
    simp [setBits, Nat.shiftLeft_eq, Nat.shiftRight_eq_div_pow]
  have hlow : w % 2 ^ lo < 2 ^ lo := Nat.mod_lt _ (Nat.two_pow_pos lo)
  have hv : v % 2 ^ (hi + 1 - lo) < 2 ^ (hi + 1 - lo) := Nat.mod_lt _ (Nat.two_pow_pos _)
  have hmid : w % 2 ^ lo + (v % 2 ^ (hi + 1 - lo)) * 2 ^ lo < 2 ^ (hi + 1) := by
    have : 2 ^ (hi + 1) = 2 ^ (hi + 1 - lo) * 2 ^ lo := by rw [← Nat.pow_add]; congr 1; omega
    rw [this]
    calc w % 2 ^ lo + (v % 2 ^ (hi + 1 - lo)) * 2 ^ lo
        < 2 ^ lo + (v % 2 ^ (hi + 1 - lo)) * 2 ^ lo := by omega
      _ = (v % 2 ^ (hi + 1 - lo) + 1) * 2 ^ lo := by ring
      _ ≤ 2 ^ (hi + 1 - lo) * 2 ^ lo := Nat.mul_le_mul_right _ hv
  rw [e]
  by_cases h1 : hi < i
  · rw [if_neg (by omega)]
    rw [Nat.testBit_eq_decide_div_mod_eq, Nat.testBit_eq_decide_div_mod_eq]
    have hp : 2 ^ i = 2 ^ (hi + 1) * 2 ^ (i - (hi + 1)) := by rw [← Nat.pow_add]; congr 1; omega
    rw [hp, ← Nat.div_div_eq_div_mul, ← Nat.div_div_eq_div_mul, Nat.mul_comm (w / 2 ^ (hi + 1)),
      Nat.add_mul_div_left _ _ (Nat.two_pow_pos _), Nat.div_eq_of_lt hmid, Nat.zero_add]
  · have hA : ((w % 2 ^ lo + (v % 2 ^ (hi + 1 - lo)) * 2 ^ lo) + (w / 2 ^ (hi + 1)) * 2 ^ (hi + 1)).testBit i =
        (w % 2 ^ lo + (v % 2 ^ (hi + 1 - lo)) * 2 ^ lo).testBit i := by
      have := Nat.testBit_mod_two_pow
        ((w % 2 ^ lo + (v % 2 ^ (hi + 1 - lo)) * 2 ^ lo) + (w / 2 ^ (hi + 1)) * 2 ^ (hi + 1)) (hi + 1) i
      rw [Nat.add_mul_mod_self_right, Nat.mod_eq_of_lt hmid] at this
      rw [this]
      simp [show i < hi + 1 by omega]
    rw [hA]
    by_cases h2 : lo ≤ i
    · rw [if_pos ⟨h2, by omega⟩, Nat.testBit_eq_decide_div_mod_eq, Nat.testBit_eq_decide_div_mod_eq]
      have hp : 2 ^ i = 2 ^ lo * 2 ^ (i - lo) := by rw [← Nat.pow_add]; congr 1; omega
      rw [hp, ← Nat.div_div_eq_div_mul, Nat.mul_comm (v % 2 ^ (hi + 1 - lo)),
        Nat.add_mul_div_left _ _ (Nat.two_pow_pos _), Nat.div_eq_of_lt hlow, Nat.zero_add]
      have t := Nat.testBit_mod_two_pow v (hi + 1 - lo) (i - lo)
      rw [Nat.testBit_eq_decide_div_mod_eq, Nat.testBit_eq_decide_div_mod_eq] at t
      rw [t]
      simp [show i - lo < hi + 1 - lo by omega]
    · rw [if_neg (by omega)]
      have t := Nat.testBit_mod_two_pow (w % 2 ^ lo + (v % 2 ^ (hi + 1 - lo)) * 2 ^ lo) lo i
      rw [Nat.add_mul_mod_self_right, Nat.mod_mod] at t
      have u := Nat.testBit_mod_two_pow w lo i
      rw [t] at u
      simpa [show i < lo by omega] using u

/-- Bit i of a field. -/
theorem testBit_bits (w hi lo i : Nat) : (bits w hi lo).testBit i = (decide (i < hi + 1 - lo) && w.testBit (lo + i)) := by
  simp [bits, Nat.testBit_mod_two_pow, Nat.testBit_shiftRight]

/-- Setting a field leaves a field apart from it alone. -/
theorem bits_setBits_ne (w hi lo v hi' lo' : Nat) (hl : lo ≤ hi) (h : hi < lo' ∨ hi' < lo) :
    bits (setBits w hi lo v) hi' lo' = bits w hi' lo' := by
  apply Nat.eq_of_testBit_eq
  intro i
  rw [testBit_bits, testBit_bits, testBit_setBits _ _ _ _ _ hl]
  by_cases hi1 : i < hi' + 1 - lo'
  · rw [if_neg (by omega)]
  · simp [hi1]

/-- A field is smaller than its width allows. -/
theorem bits_lt (w hi lo : Nat) : bits w hi lo < 2 ^ (hi + 1 - lo) := Nat.mod_lt _ (Nat.two_pow_pos _)

/-- Setting a field of a 32-bit word leaves a 32-bit word. -/
theorem setBits_lt (w hi lo v : Nat) (hw : w < 2 ^ 32) (hl : lo ≤ hi) (hh : hi < 32) : setBits w hi lo v < 2 ^ 32 := by
  apply Nat.lt_pow_two_of_testBit
  intro i hi32
  rw [testBit_setBits _ _ _ _ _ hl, if_neg (by omega)]
  exact Nat.testBit_lt_two_pow (Nat.lt_of_lt_of_le hw (Nat.pow_le_pow_right (by decide) hi32))

/-! ## Lists -/

/-- The first element that satisfies p is replaced: one that does not satisfy p stays. -/
theorem length_updFirst {α : Type} (p : α → Bool) (f : α → α) (l : List α) : (updFirst p f l).length = l.length := by
  induction l with
  | nil => rfl
  | cons a r ih => simp only [updFirst]; split <;> simp [ih]

/-- Without an element that satisfies p, nothing is removed. -/
theorem delFirst_eq_self {α : Type} (p : α → Bool) (l : List α) (h : ∀ a ∈ l, p a = false) : delFirst p l = l := by
  induction l with
  | nil => rfl
  | cons a r ih =>
    simp only [delFirst, h a (by simp)]
    simp [ih (fun b hb => h b (by simp [hb]))]

end Sys2Proof.Machine
end

