-- ==== Sys2Proof/Laws/Parts.lean ====
section
/-!
SUPPORT. The parts of the state by number: what is read after a part has been put, and what updates of registers and of other parts leave.
-/

namespace Sys2Proof.Machine

variable (s : State)

@[simp] theorem State.rg_setRg_same (n : Nat) (x : Region) : (s.setRg n x).rg n = x := SMap.get_put_same _ _ _ _
theorem State.rg_setRg_ne (n m : Nat) (x : Region) (h : m ≠ n) : (s.setRg n x).rg m = s.rg m := SMap.get_put_ne _ _ _ h
@[simp] theorem State.rg_modRg_same (n : Nat) (f : Region → Region) : (s.modRg n f).rg n = f (s.rg n) := SMap.get_put_same _ _ _ _
theorem State.rg_modRg_ne (n m : Nat) (f : Region → Region) (h : m ≠ n) : (s.modRg n f).rg m = s.rg m := SMap.get_put_ne _ _ _ h
@[simp] theorem State.setRg_setRg (n : Nat) (x y : Region) : (s.setRg n x).setRg n y = s.setRg n y := by simp [State.setRg]
@[simp] theorem State.modRg_modRg (n : Nat) (f g : Region → Region) : (s.modRg n f).modRg n g = s.modRg n (fun x => g (f x)) := by simp [State.modRg]
@[simp] theorem State.modRg_setRg (n : Nat) (f : Region → Region) (y : Region) : (s.modRg n f).setRg n y = s.setRg n y := by simp [State.modRg]
@[simp] theorem State.rg_wr (r : RegDef) (i k v : Nat) (n : Nat) : (s.wr r i k v).rg n = s.rg n := rfl
@[simp] theorem State.rg_setFld (f : Fld) (v i k : Nat) (n : Nat) : (s.setFld f v i k).rg n = s.rg n := rfl
@[simp] theorem State.rg_addFld (f : Fld) (v i k : Nat) (n : Nat) : (s.addFld f v i k).rg n = s.rg n := rfl
@[simp] theorem State.rg_satFld (f : Fld) (v i k : Nat) (n : Nat) : (s.satFld f v i k).rg n = s.rg n := rfl
@[simp] theorem State.rg_setPair (lo hi : RegDef) (v i k : Nat) (n : Nat) : (s.setPair lo hi v i k).rg n = s.rg n := rfl
@[simp] theorem State.rg_addPair (lo hi : RegDef) (v i k : Nat) (n : Nat) : (s.addPair lo hi v i k).rg n = s.rg n := rfl
@[simp] theorem State.rg_setRt (i n : Nat) (x : Router) : (s.setRt i x).rg n = s.rg n := rfl
@[simp] theorem State.rg_modRt (i n : Nat) (f : Router → Router) : (s.modRt i f).rg n = s.rg n := rfl
@[simp] theorem State.rg_setCh (i n : Nat) (x : Option ChartRun) : (s.setCh i x).rg n = s.rg n := rfl
@[simp] theorem State.rg_setMp (i n : Nat) (x : MPort) : (s.setMp i x).rg n = s.rg n := rfl
@[simp] theorem State.rg_modMp (i n : Nat) (f : MPort → MPort) : (s.modMp i f).rg n = s.rg n := rfl
@[simp] theorem State.rg_setHp (i n : Nat) (x : HPort) : (s.setHp i x).rg n = s.rg n := rfl
@[simp] theorem State.rg_modHp (i n : Nat) (f : HPort → HPort) : (s.modHp i f).rg n = s.rg n := rfl
@[simp] theorem State.rg_setOl (i n : Nat) (x : OLink) : (s.setOl i x).rg n = s.rg n := rfl
@[simp] theorem State.rg_modOl (i n : Nat) (f : OLink → OLink) : (s.modOl i f).rg n = s.rg n := rfl
@[simp] theorem State.rg_setAp (i n : Nat) (x : Aperture) : (s.setAp i x).rg n = s.rg n := rfl
@[simp] theorem State.rg_setRing (i n : Nat) (x : Ring) : (s.setRing i x).rg n = s.rg n := rfl
@[simp] theorem State.rt_setRt_same (n : Nat) (x : Router) : (s.setRt n x).rt n = x := SMap.get_put_same _ _ _ _
theorem State.rt_setRt_ne (n m : Nat) (x : Router) (h : m ≠ n) : (s.setRt n x).rt m = s.rt m := SMap.get_put_ne _ _ _ h
@[simp] theorem State.rt_modRt_same (n : Nat) (f : Router → Router) : (s.modRt n f).rt n = f (s.rt n) := SMap.get_put_same _ _ _ _
theorem State.rt_modRt_ne (n m : Nat) (f : Router → Router) (h : m ≠ n) : (s.modRt n f).rt m = s.rt m := SMap.get_put_ne _ _ _ h
@[simp] theorem State.setRt_setRt (n : Nat) (x y : Router) : (s.setRt n x).setRt n y = s.setRt n y := by simp [State.setRt]
@[simp] theorem State.modRt_modRt (n : Nat) (f g : Router → Router) : (s.modRt n f).modRt n g = s.modRt n (fun x => g (f x)) := by simp [State.modRt]
@[simp] theorem State.modRt_setRt (n : Nat) (f : Router → Router) (y : Router) : (s.modRt n f).setRt n y = s.setRt n y := by simp [State.modRt]
@[simp] theorem State.rt_wr (r : RegDef) (i k v : Nat) (n : Nat) : (s.wr r i k v).rt n = s.rt n := rfl
@[simp] theorem State.rt_setFld (f : Fld) (v i k : Nat) (n : Nat) : (s.setFld f v i k).rt n = s.rt n := rfl
@[simp] theorem State.rt_addFld (f : Fld) (v i k : Nat) (n : Nat) : (s.addFld f v i k).rt n = s.rt n := rfl
@[simp] theorem State.rt_satFld (f : Fld) (v i k : Nat) (n : Nat) : (s.satFld f v i k).rt n = s.rt n := rfl
@[simp] theorem State.rt_setPair (lo hi : RegDef) (v i k : Nat) (n : Nat) : (s.setPair lo hi v i k).rt n = s.rt n := rfl
@[simp] theorem State.rt_addPair (lo hi : RegDef) (v i k : Nat) (n : Nat) : (s.addPair lo hi v i k).rt n = s.rt n := rfl
@[simp] theorem State.rt_setRg (i n : Nat) (x : Region) : (s.setRg i x).rt n = s.rt n := rfl
@[simp] theorem State.rt_modRg (i n : Nat) (f : Region → Region) : (s.modRg i f).rt n = s.rt n := rfl
@[simp] theorem State.rt_setCh (i n : Nat) (x : Option ChartRun) : (s.setCh i x).rt n = s.rt n := rfl
@[simp] theorem State.rt_setMp (i n : Nat) (x : MPort) : (s.setMp i x).rt n = s.rt n := rfl
@[simp] theorem State.rt_modMp (i n : Nat) (f : MPort → MPort) : (s.modMp i f).rt n = s.rt n := rfl
@[simp] theorem State.rt_setHp (i n : Nat) (x : HPort) : (s.setHp i x).rt n = s.rt n := rfl
@[simp] theorem State.rt_modHp (i n : Nat) (f : HPort → HPort) : (s.modHp i f).rt n = s.rt n := rfl
@[simp] theorem State.rt_setOl (i n : Nat) (x : OLink) : (s.setOl i x).rt n = s.rt n := rfl
@[simp] theorem State.rt_modOl (i n : Nat) (f : OLink → OLink) : (s.modOl i f).rt n = s.rt n := rfl
@[simp] theorem State.rt_setAp (i n : Nat) (x : Aperture) : (s.setAp i x).rt n = s.rt n := rfl
@[simp] theorem State.rt_setRing (i n : Nat) (x : Ring) : (s.setRing i x).rt n = s.rt n := rfl
@[simp] theorem State.ch_setCh_same (n : Nat) (x : Option ChartRun) : (s.setCh n x).ch n = x := SMap.get_put_same _ _ _ _
theorem State.ch_setCh_ne (n m : Nat) (x : Option ChartRun) (h : m ≠ n) : (s.setCh n x).ch m = s.ch m := SMap.get_put_ne _ _ _ h
@[simp] theorem State.setCh_setCh (n : Nat) (x y : Option ChartRun) : (s.setCh n x).setCh n y = s.setCh n y := by simp [State.setCh]
@[simp] theorem State.ch_wr (r : RegDef) (i k v : Nat) (n : Nat) : (s.wr r i k v).ch n = s.ch n := rfl
@[simp] theorem State.ch_setFld (f : Fld) (v i k : Nat) (n : Nat) : (s.setFld f v i k).ch n = s.ch n := rfl
@[simp] theorem State.ch_addFld (f : Fld) (v i k : Nat) (n : Nat) : (s.addFld f v i k).ch n = s.ch n := rfl
@[simp] theorem State.ch_satFld (f : Fld) (v i k : Nat) (n : Nat) : (s.satFld f v i k).ch n = s.ch n := rfl
@[simp] theorem State.ch_setPair (lo hi : RegDef) (v i k : Nat) (n : Nat) : (s.setPair lo hi v i k).ch n = s.ch n := rfl
@[simp] theorem State.ch_addPair (lo hi : RegDef) (v i k : Nat) (n : Nat) : (s.addPair lo hi v i k).ch n = s.ch n := rfl
@[simp] theorem State.ch_setRg (i n : Nat) (x : Region) : (s.setRg i x).ch n = s.ch n := rfl
@[simp] theorem State.ch_modRg (i n : Nat) (f : Region → Region) : (s.modRg i f).ch n = s.ch n := rfl
@[simp] theorem State.ch_setRt (i n : Nat) (x : Router) : (s.setRt i x).ch n = s.ch n := rfl
@[simp] theorem State.ch_modRt (i n : Nat) (f : Router → Router) : (s.modRt i f).ch n = s.ch n := rfl
@[simp] theorem State.ch_setMp (i n : Nat) (x : MPort) : (s.setMp i x).ch n = s.ch n := rfl
@[simp] theorem State.ch_modMp (i n : Nat) (f : MPort → MPort) : (s.modMp i f).ch n = s.ch n := rfl
@[simp] theorem State.ch_setHp (i n : Nat) (x : HPort) : (s.setHp i x).ch n = s.ch n := rfl
@[simp] theorem State.ch_modHp (i n : Nat) (f : HPort → HPort) : (s.modHp i f).ch n = s.ch n := rfl
@[simp] theorem State.ch_setOl (i n : Nat) (x : OLink) : (s.setOl i x).ch n = s.ch n := rfl
@[simp] theorem State.ch_modOl (i n : Nat) (f : OLink → OLink) : (s.modOl i f).ch n = s.ch n := rfl
@[simp] theorem State.ch_setAp (i n : Nat) (x : Aperture) : (s.setAp i x).ch n = s.ch n := rfl
@[simp] theorem State.ch_setRing (i n : Nat) (x : Ring) : (s.setRing i x).ch n = s.ch n := rfl
@[simp] theorem State.mpt_setMp_same (n : Nat) (x : MPort) : (s.setMp n x).mpt n = x := SMap.get_put_same _ _ _ _
theorem State.mpt_setMp_ne (n m : Nat) (x : MPort) (h : m ≠ n) : (s.setMp n x).mpt m = s.mpt m := SMap.get_put_ne _ _ _ h
@[simp] theorem State.mpt_modMp_same (n : Nat) (f : MPort → MPort) : (s.modMp n f).mpt n = f (s.mpt n) := SMap.get_put_same _ _ _ _
theorem State.mpt_modMp_ne (n m : Nat) (f : MPort → MPort) (h : m ≠ n) : (s.modMp n f).mpt m = s.mpt m := SMap.get_put_ne _ _ _ h
@[simp] theorem State.setMp_setMp (n : Nat) (x y : MPort) : (s.setMp n x).setMp n y = s.setMp n y := by simp [State.setMp]
@[simp] theorem State.modMp_modMp (n : Nat) (f g : MPort → MPort) : (s.modMp n f).modMp n g = s.modMp n (fun x => g (f x)) := by simp [State.modMp]
@[simp] theorem State.modMp_setMp (n : Nat) (f : MPort → MPort) (y : MPort) : (s.modMp n f).setMp n y = s.setMp n y := by simp [State.modMp]
@[simp] theorem State.mpt_wr (r : RegDef) (i k v : Nat) (n : Nat) : (s.wr r i k v).mpt n = s.mpt n := rfl
@[simp] theorem State.mpt_setFld (f : Fld) (v i k : Nat) (n : Nat) : (s.setFld f v i k).mpt n = s.mpt n := rfl
@[simp] theorem State.mpt_addFld (f : Fld) (v i k : Nat) (n : Nat) : (s.addFld f v i k).mpt n = s.mpt n := rfl
@[simp] theorem State.mpt_satFld (f : Fld) (v i k : Nat) (n : Nat) : (s.satFld f v i k).mpt n = s.mpt n := rfl
@[simp] theorem State.mpt_setPair (lo hi : RegDef) (v i k : Nat) (n : Nat) : (s.setPair lo hi v i k).mpt n = s.mpt n := rfl
@[simp] theorem State.mpt_addPair (lo hi : RegDef) (v i k : Nat) (n : Nat) : (s.addPair lo hi v i k).mpt n = s.mpt n := rfl
@[simp] theorem State.mpt_setRg (i n : Nat) (x : Region) : (s.setRg i x).mpt n = s.mpt n := rfl
@[simp] theorem State.mpt_modRg (i n : Nat) (f : Region → Region) : (s.modRg i f).mpt n = s.mpt n := rfl
@[simp] theorem State.mpt_setRt (i n : Nat) (x : Router) : (s.setRt i x).mpt n = s.mpt n := rfl
@[simp] theorem State.mpt_modRt (i n : Nat) (f : Router → Router) : (s.modRt i f).mpt n = s.mpt n := rfl
@[simp] theorem State.mpt_setCh (i n : Nat) (x : Option ChartRun) : (s.setCh i x).mpt n = s.mpt n := rfl
@[simp] theorem State.mpt_setHp (i n : Nat) (x : HPort) : (s.setHp i x).mpt n = s.mpt n := rfl
@[simp] theorem State.mpt_modHp (i n : Nat) (f : HPort → HPort) : (s.modHp i f).mpt n = s.mpt n := rfl
@[simp] theorem State.mpt_setOl (i n : Nat) (x : OLink) : (s.setOl i x).mpt n = s.mpt n := rfl
@[simp] theorem State.mpt_modOl (i n : Nat) (f : OLink → OLink) : (s.modOl i f).mpt n = s.mpt n := rfl
@[simp] theorem State.mpt_setAp (i n : Nat) (x : Aperture) : (s.setAp i x).mpt n = s.mpt n := rfl
@[simp] theorem State.mpt_setRing (i n : Nat) (x : Ring) : (s.setRing i x).mpt n = s.mpt n := rfl
@[simp] theorem State.hpt_setHp_same (n : Nat) (x : HPort) : (s.setHp n x).hpt n = x := SMap.get_put_same _ _ _ _
theorem State.hpt_setHp_ne (n m : Nat) (x : HPort) (h : m ≠ n) : (s.setHp n x).hpt m = s.hpt m := SMap.get_put_ne _ _ _ h
@[simp] theorem State.hpt_modHp_same (n : Nat) (f : HPort → HPort) : (s.modHp n f).hpt n = f (s.hpt n) := SMap.get_put_same _ _ _ _
theorem State.hpt_modHp_ne (n m : Nat) (f : HPort → HPort) (h : m ≠ n) : (s.modHp n f).hpt m = s.hpt m := SMap.get_put_ne _ _ _ h
@[simp] theorem State.setHp_setHp (n : Nat) (x y : HPort) : (s.setHp n x).setHp n y = s.setHp n y := by simp [State.setHp]
@[simp] theorem State.modHp_modHp (n : Nat) (f g : HPort → HPort) : (s.modHp n f).modHp n g = s.modHp n (fun x => g (f x)) := by simp [State.modHp]
@[simp] theorem State.modHp_setHp (n : Nat) (f : HPort → HPort) (y : HPort) : (s.modHp n f).setHp n y = s.setHp n y := by simp [State.modHp]
@[simp] theorem State.hpt_wr (r : RegDef) (i k v : Nat) (n : Nat) : (s.wr r i k v).hpt n = s.hpt n := rfl
@[simp] theorem State.hpt_setFld (f : Fld) (v i k : Nat) (n : Nat) : (s.setFld f v i k).hpt n = s.hpt n := rfl
@[simp] theorem State.hpt_addFld (f : Fld) (v i k : Nat) (n : Nat) : (s.addFld f v i k).hpt n = s.hpt n := rfl
@[simp] theorem State.hpt_satFld (f : Fld) (v i k : Nat) (n : Nat) : (s.satFld f v i k).hpt n = s.hpt n := rfl
@[simp] theorem State.hpt_setPair (lo hi : RegDef) (v i k : Nat) (n : Nat) : (s.setPair lo hi v i k).hpt n = s.hpt n := rfl
@[simp] theorem State.hpt_addPair (lo hi : RegDef) (v i k : Nat) (n : Nat) : (s.addPair lo hi v i k).hpt n = s.hpt n := rfl
@[simp] theorem State.hpt_setRg (i n : Nat) (x : Region) : (s.setRg i x).hpt n = s.hpt n := rfl
@[simp] theorem State.hpt_modRg (i n : Nat) (f : Region → Region) : (s.modRg i f).hpt n = s.hpt n := rfl
@[simp] theorem State.hpt_setRt (i n : Nat) (x : Router) : (s.setRt i x).hpt n = s.hpt n := rfl
@[simp] theorem State.hpt_modRt (i n : Nat) (f : Router → Router) : (s.modRt i f).hpt n = s.hpt n := rfl
@[simp] theorem State.hpt_setCh (i n : Nat) (x : Option ChartRun) : (s.setCh i x).hpt n = s.hpt n := rfl
@[simp] theorem State.hpt_setMp (i n : Nat) (x : MPort) : (s.setMp i x).hpt n = s.hpt n := rfl
@[simp] theorem State.hpt_modMp (i n : Nat) (f : MPort → MPort) : (s.modMp i f).hpt n = s.hpt n := rfl
@[simp] theorem State.hpt_setOl (i n : Nat) (x : OLink) : (s.setOl i x).hpt n = s.hpt n := rfl
@[simp] theorem State.hpt_modOl (i n : Nat) (f : OLink → OLink) : (s.modOl i f).hpt n = s.hpt n := rfl
@[simp] theorem State.hpt_setAp (i n : Nat) (x : Aperture) : (s.setAp i x).hpt n = s.hpt n := rfl
@[simp] theorem State.hpt_setRing (i n : Nat) (x : Ring) : (s.setRing i x).hpt n = s.hpt n := rfl
@[simp] theorem State.olk_setOl_same (n : Nat) (x : OLink) : (s.setOl n x).olk n = x := SMap.get_put_same _ _ _ _
theorem State.olk_setOl_ne (n m : Nat) (x : OLink) (h : m ≠ n) : (s.setOl n x).olk m = s.olk m := SMap.get_put_ne _ _ _ h
@[simp] theorem State.olk_modOl_same (n : Nat) (f : OLink → OLink) : (s.modOl n f).olk n = f (s.olk n) := SMap.get_put_same _ _ _ _
theorem State.olk_modOl_ne (n m : Nat) (f : OLink → OLink) (h : m ≠ n) : (s.modOl n f).olk m = s.olk m := SMap.get_put_ne _ _ _ h
@[simp] theorem State.setOl_setOl (n : Nat) (x y : OLink) : (s.setOl n x).setOl n y = s.setOl n y := by simp [State.setOl]
@[simp] theorem State.modOl_modOl (n : Nat) (f g : OLink → OLink) : (s.modOl n f).modOl n g = s.modOl n (fun x => g (f x)) := by simp [State.modOl]
@[simp] theorem State.modOl_setOl (n : Nat) (f : OLink → OLink) (y : OLink) : (s.modOl n f).setOl n y = s.setOl n y := by simp [State.modOl]
@[simp] theorem State.olk_wr (r : RegDef) (i k v : Nat) (n : Nat) : (s.wr r i k v).olk n = s.olk n := rfl
@[simp] theorem State.olk_setFld (f : Fld) (v i k : Nat) (n : Nat) : (s.setFld f v i k).olk n = s.olk n := rfl
@[simp] theorem State.olk_addFld (f : Fld) (v i k : Nat) (n : Nat) : (s.addFld f v i k).olk n = s.olk n := rfl
@[simp] theorem State.olk_satFld (f : Fld) (v i k : Nat) (n : Nat) : (s.satFld f v i k).olk n = s.olk n := rfl
@[simp] theorem State.olk_setPair (lo hi : RegDef) (v i k : Nat) (n : Nat) : (s.setPair lo hi v i k).olk n = s.olk n := rfl
@[simp] theorem State.olk_addPair (lo hi : RegDef) (v i k : Nat) (n : Nat) : (s.addPair lo hi v i k).olk n = s.olk n := rfl
@[simp] theorem State.olk_setRg (i n : Nat) (x : Region) : (s.setRg i x).olk n = s.olk n := rfl
@[simp] theorem State.olk_modRg (i n : Nat) (f : Region → Region) : (s.modRg i f).olk n = s.olk n := rfl
@[simp] theorem State.olk_setRt (i n : Nat) (x : Router) : (s.setRt i x).olk n = s.olk n := rfl
@[simp] theorem State.olk_modRt (i n : Nat) (f : Router → Router) : (s.modRt i f).olk n = s.olk n := rfl
@[simp] theorem State.olk_setCh (i n : Nat) (x : Option ChartRun) : (s.setCh i x).olk n = s.olk n := rfl
@[simp] theorem State.olk_setMp (i n : Nat) (x : MPort) : (s.setMp i x).olk n = s.olk n := rfl
@[simp] theorem State.olk_modMp (i n : Nat) (f : MPort → MPort) : (s.modMp i f).olk n = s.olk n := rfl
@[simp] theorem State.olk_setHp (i n : Nat) (x : HPort) : (s.setHp i x).olk n = s.olk n := rfl
@[simp] theorem State.olk_modHp (i n : Nat) (f : HPort → HPort) : (s.modHp i f).olk n = s.olk n := rfl
@[simp] theorem State.olk_setAp (i n : Nat) (x : Aperture) : (s.setAp i x).olk n = s.olk n := rfl
@[simp] theorem State.olk_setRing (i n : Nat) (x : Ring) : (s.setRing i x).olk n = s.olk n := rfl
@[simp] theorem State.apt_setAp_same (n : Nat) (x : Aperture) : (s.setAp n x).apt n = x := SMap.get_put_same _ _ _ _
theorem State.apt_setAp_ne (n m : Nat) (x : Aperture) (h : m ≠ n) : (s.setAp n x).apt m = s.apt m := SMap.get_put_ne _ _ _ h
@[simp] theorem State.setAp_setAp (n : Nat) (x y : Aperture) : (s.setAp n x).setAp n y = s.setAp n y := by simp [State.setAp]
@[simp] theorem State.apt_wr (r : RegDef) (i k v : Nat) (n : Nat) : (s.wr r i k v).apt n = s.apt n := rfl
@[simp] theorem State.apt_setFld (f : Fld) (v i k : Nat) (n : Nat) : (s.setFld f v i k).apt n = s.apt n := rfl
@[simp] theorem State.apt_addFld (f : Fld) (v i k : Nat) (n : Nat) : (s.addFld f v i k).apt n = s.apt n := rfl
@[simp] theorem State.apt_satFld (f : Fld) (v i k : Nat) (n : Nat) : (s.satFld f v i k).apt n = s.apt n := rfl
@[simp] theorem State.apt_setPair (lo hi : RegDef) (v i k : Nat) (n : Nat) : (s.setPair lo hi v i k).apt n = s.apt n := rfl
@[simp] theorem State.apt_addPair (lo hi : RegDef) (v i k : Nat) (n : Nat) : (s.addPair lo hi v i k).apt n = s.apt n := rfl
@[simp] theorem State.apt_setRg (i n : Nat) (x : Region) : (s.setRg i x).apt n = s.apt n := rfl
@[simp] theorem State.apt_modRg (i n : Nat) (f : Region → Region) : (s.modRg i f).apt n = s.apt n := rfl
@[simp] theorem State.apt_setRt (i n : Nat) (x : Router) : (s.setRt i x).apt n = s.apt n := rfl
@[simp] theorem State.apt_modRt (i n : Nat) (f : Router → Router) : (s.modRt i f).apt n = s.apt n := rfl
@[simp] theorem State.apt_setCh (i n : Nat) (x : Option ChartRun) : (s.setCh i x).apt n = s.apt n := rfl
@[simp] theorem State.apt_setMp (i n : Nat) (x : MPort) : (s.setMp i x).apt n = s.apt n := rfl
@[simp] theorem State.apt_modMp (i n : Nat) (f : MPort → MPort) : (s.modMp i f).apt n = s.apt n := rfl
@[simp] theorem State.apt_setHp (i n : Nat) (x : HPort) : (s.setHp i x).apt n = s.apt n := rfl
@[simp] theorem State.apt_modHp (i n : Nat) (f : HPort → HPort) : (s.modHp i f).apt n = s.apt n := rfl
@[simp] theorem State.apt_setOl (i n : Nat) (x : OLink) : (s.setOl i x).apt n = s.apt n := rfl
@[simp] theorem State.apt_modOl (i n : Nat) (f : OLink → OLink) : (s.modOl i f).apt n = s.apt n := rfl
@[simp] theorem State.apt_setRing (i n : Nat) (x : Ring) : (s.setRing i x).apt n = s.apt n := rfl
@[simp] theorem State.rng_setRing_same (n : Nat) (x : Ring) : (s.setRing n x).rng n = x := SMap.get_put_same _ _ _ _
theorem State.rng_setRing_ne (n m : Nat) (x : Ring) (h : m ≠ n) : (s.setRing n x).rng m = s.rng m := SMap.get_put_ne _ _ _ h
@[simp] theorem State.setRing_setRing (n : Nat) (x y : Ring) : (s.setRing n x).setRing n y = s.setRing n y := by simp [State.setRing]
@[simp] theorem State.rng_wr (r : RegDef) (i k v : Nat) (n : Nat) : (s.wr r i k v).rng n = s.rng n := rfl
@[simp] theorem State.rng_setFld (f : Fld) (v i k : Nat) (n : Nat) : (s.setFld f v i k).rng n = s.rng n := rfl
@[simp] theorem State.rng_addFld (f : Fld) (v i k : Nat) (n : Nat) : (s.addFld f v i k).rng n = s.rng n := rfl
@[simp] theorem State.rng_satFld (f : Fld) (v i k : Nat) (n : Nat) : (s.satFld f v i k).rng n = s.rng n := rfl
@[simp] theorem State.rng_setPair (lo hi : RegDef) (v i k : Nat) (n : Nat) : (s.setPair lo hi v i k).rng n = s.rng n := rfl
@[simp] theorem State.rng_addPair (lo hi : RegDef) (v i k : Nat) (n : Nat) : (s.addPair lo hi v i k).rng n = s.rng n := rfl
@[simp] theorem State.rng_setRg (i n : Nat) (x : Region) : (s.setRg i x).rng n = s.rng n := rfl
@[simp] theorem State.rng_modRg (i n : Nat) (f : Region → Region) : (s.modRg i f).rng n = s.rng n := rfl
@[simp] theorem State.rng_setRt (i n : Nat) (x : Router) : (s.setRt i x).rng n = s.rng n := rfl
@[simp] theorem State.rng_modRt (i n : Nat) (f : Router → Router) : (s.modRt i f).rng n = s.rng n := rfl
@[simp] theorem State.rng_setCh (i n : Nat) (x : Option ChartRun) : (s.setCh i x).rng n = s.rng n := rfl
@[simp] theorem State.rng_setMp (i n : Nat) (x : MPort) : (s.setMp i x).rng n = s.rng n := rfl
@[simp] theorem State.rng_modMp (i n : Nat) (f : MPort → MPort) : (s.modMp i f).rng n = s.rng n := rfl
@[simp] theorem State.rng_setHp (i n : Nat) (x : HPort) : (s.setHp i x).rng n = s.rng n := rfl
@[simp] theorem State.rng_modHp (i n : Nat) (f : HPort → HPort) : (s.modHp i f).rng n = s.rng n := rfl
@[simp] theorem State.rng_setOl (i n : Nat) (x : OLink) : (s.setOl i x).rng n = s.rng n := rfl
@[simp] theorem State.rng_modOl (i n : Nat) (f : OLink → OLink) : (s.modOl i f).rng n = s.rng n := rfl
@[simp] theorem State.rng_setAp (i n : Nat) (x : Aperture) : (s.setAp i x).rng n = s.rng n := rfl
@[simp] theorem State.rd_setRg (n : Nat) (x : Region) (r : RegDef) (i k : Nat) : (s.setRg n x).rd r i k = s.rd r i k := rfl
@[simp] theorem State.fld_setRg (n : Nat) (x : Region) (f : Fld) (i k : Nat) : (s.setRg n x).fld f i k = s.fld f i k := rfl
@[simp] theorem State.rd_modRg (n : Nat) (f : Region → Region) (r : RegDef) (i k : Nat) : (s.modRg n f).rd r i k = s.rd r i k := rfl
@[simp] theorem State.fld_modRg (n : Nat) (f : Region → Region) (g : Fld) (i k : Nat) : (s.modRg n f).fld g i k = s.fld g i k := rfl
@[simp] theorem State.regs_modRg (n : Nat) (f : Region → Region) : (s.modRg n f).regs = s.regs := rfl
@[simp] theorem State.rd_setRt (n : Nat) (x : Router) (r : RegDef) (i k : Nat) : (s.setRt n x).rd r i k = s.rd r i k := rfl
@[simp] theorem State.fld_setRt (n : Nat) (x : Router) (f : Fld) (i k : Nat) : (s.setRt n x).fld f i k = s.fld f i k := rfl
@[simp] theorem State.rd_modRt (n : Nat) (f : Router → Router) (r : RegDef) (i k : Nat) : (s.modRt n f).rd r i k = s.rd r i k := rfl
@[simp] theorem State.fld_modRt (n : Nat) (f : Router → Router) (g : Fld) (i k : Nat) : (s.modRt n f).fld g i k = s.fld g i k := rfl
@[simp] theorem State.regs_modRt (n : Nat) (f : Router → Router) : (s.modRt n f).regs = s.regs := rfl
@[simp] theorem State.rd_setCh (n : Nat) (x : Option ChartRun) (r : RegDef) (i k : Nat) : (s.setCh n x).rd r i k = s.rd r i k := rfl
@[simp] theorem State.fld_setCh (n : Nat) (x : Option ChartRun) (f : Fld) (i k : Nat) : (s.setCh n x).fld f i k = s.fld f i k := rfl
@[simp] theorem State.rd_setMp (n : Nat) (x : MPort) (r : RegDef) (i k : Nat) : (s.setMp n x).rd r i k = s.rd r i k := rfl
@[simp] theorem State.fld_setMp (n : Nat) (x : MPort) (f : Fld) (i k : Nat) : (s.setMp n x).fld f i k = s.fld f i k := rfl
@[simp] theorem State.rd_modMp (n : Nat) (f : MPort → MPort) (r : RegDef) (i k : Nat) : (s.modMp n f).rd r i k = s.rd r i k := rfl
@[simp] theorem State.fld_modMp (n : Nat) (f : MPort → MPort) (g : Fld) (i k : Nat) : (s.modMp n f).fld g i k = s.fld g i k := rfl
@[simp] theorem State.regs_modMp (n : Nat) (f : MPort → MPort) : (s.modMp n f).regs = s.regs := rfl
@[simp] theorem State.rd_setHp (n : Nat) (x : HPort) (r : RegDef) (i k : Nat) : (s.setHp n x).rd r i k = s.rd r i k := rfl
@[simp] theorem State.fld_setHp (n : Nat) (x : HPort) (f : Fld) (i k : Nat) : (s.setHp n x).fld f i k = s.fld f i k := rfl
@[simp] theorem State.rd_modHp (n : Nat) (f : HPort → HPort) (r : RegDef) (i k : Nat) : (s.modHp n f).rd r i k = s.rd r i k := rfl
@[simp] theorem State.fld_modHp (n : Nat) (f : HPort → HPort) (g : Fld) (i k : Nat) : (s.modHp n f).fld g i k = s.fld g i k := rfl
@[simp] theorem State.regs_modHp (n : Nat) (f : HPort → HPort) : (s.modHp n f).regs = s.regs := rfl
@[simp] theorem State.rd_setOl (n : Nat) (x : OLink) (r : RegDef) (i k : Nat) : (s.setOl n x).rd r i k = s.rd r i k := rfl
@[simp] theorem State.fld_setOl (n : Nat) (x : OLink) (f : Fld) (i k : Nat) : (s.setOl n x).fld f i k = s.fld f i k := rfl
@[simp] theorem State.rd_modOl (n : Nat) (f : OLink → OLink) (r : RegDef) (i k : Nat) : (s.modOl n f).rd r i k = s.rd r i k := rfl
@[simp] theorem State.fld_modOl (n : Nat) (f : OLink → OLink) (g : Fld) (i k : Nat) : (s.modOl n f).fld g i k = s.fld g i k := rfl
@[simp] theorem State.regs_modOl (n : Nat) (f : OLink → OLink) : (s.modOl n f).regs = s.regs := rfl
@[simp] theorem State.rd_setAp (n : Nat) (x : Aperture) (r : RegDef) (i k : Nat) : (s.setAp n x).rd r i k = s.rd r i k := rfl
@[simp] theorem State.fld_setAp (n : Nat) (x : Aperture) (f : Fld) (i k : Nat) : (s.setAp n x).fld f i k = s.fld f i k := rfl
@[simp] theorem State.rd_setRing (n : Nat) (x : Ring) (r : RegDef) (i k : Nat) : (s.setRing n x).rd r i k = s.rd r i k := rfl
@[simp] theorem State.fld_setRing (n : Nat) (x : Ring) (f : Fld) (i k : Nat) : (s.setRing n x).fld f i k = s.fld f i k := rfl

end Sys2Proof.Machine
end

