-- ==== Sys2Proof/Laws/Regs.lean ====
section
/-!
SUPPORT. Laws of the register file: what a write of a register or of a field leaves in every register and field.
-/

namespace Sys2Proof.Machine

/-- A register reads what was written, cut to 32 bits. -/
@[simp] theorem State.rd_wr_same (s : State) (r : RegDef) (i k v : Nat) : (s.wr r i k v).rd r i k = v % 2 ^ 32 := by
  simp [State.rd, State.wr]

/-- A write leaves the registers at other offsets alone. -/
theorem State.rd_wr_ne (s : State) (r r' : RegDef) (i k i' k' v : Nat) (h : r'.addr i' k' ≠ r.addr i k) :
    (s.wr r i k v).rd r' i' k' = s.rd r' i' k' := by
  simp [State.rd, State.wr, SMap.get_put_ne _ _ _ h]

/-- A register holds 32 bits. -/
theorem State.rd_lt (s : State) (r : RegDef) (i k : Nat) : s.rd r i k < 2 ^ 32 := BitVec.isLt _

/-- A field reads what was stored, cut to its width. -/
theorem State.fld_setFld_same (s : State) (f : Fld) (v i k : Nat) (hl : f.lo ≤ f.hi) (hh : f.hi < 32) :
    (s.setFld f v i k).fld f i k = v % 2 ^ (f.hi + 1 - f.lo) := by
  unfold State.fld State.setFld
  rw [State.rd_wr_same, Nat.mod_eq_of_lt (setBits_lt _ _ _ _ (s.rd_lt _ _ _) hl hh), bits_setBits _ _ _ _ hl]

/-- Storing a field leaves a field apart from it in the same register alone. -/
theorem State.fld_setFld_apart (s : State) (f g : Fld) (v i k : Nat) (hr : g.reg = f.reg) (hl : f.lo ≤ f.hi) (hh : f.hi < 32)
    (h : f.hi < g.lo ∨ g.hi < f.lo) : (s.setFld f v i k).fld g i k = s.fld g i k := by
  unfold State.fld State.setFld
  rw [hr, State.rd_wr_same, Nat.mod_eq_of_lt (setBits_lt _ _ _ _ (s.rd_lt _ _ _) hl hh), bits_setBits_ne _ _ _ _ _ _ hl h]

/-- Storing a field leaves the registers at other offsets alone. -/
theorem State.rd_setFld_ne (s : State) (f : Fld) (r : RegDef) (v i k i' k' : Nat) (h : r.addr i' k' ≠ f.reg.addr i k) :
    (s.setFld f v i k).rd r i' k' = s.rd r i' k' := s.rd_wr_ne _ _ _ _ _ _ _ h

/-- Storing a field leaves the fields of registers at other offsets alone. -/
theorem State.fld_setFld_ne (s : State) (f g : Fld) (v i k i' k' : Nat) (h : g.reg.addr i' k' ≠ f.reg.addr i k) :
    (s.setFld f v i k).fld g i' k' = s.fld g i' k' := by
  unfold State.fld
  rw [State.rd_setFld_ne _ _ _ _ _ _ _ _ h]

/-- Adding to a field wraps at its width. -/
theorem State.fld_addFld_same (s : State) (f : Fld) (v i k : Nat) (hl : f.lo ≤ f.hi) (hh : f.hi < 32) :
    (s.addFld f v i k).fld f i k = (s.fld f i k + v) % 2 ^ (f.hi + 1 - f.lo) := s.fld_setFld_same _ _ _ _ hl hh

/-- Adding to a saturating field stops at its largest value. -/
theorem State.fld_satFld_same (s : State) (f : Fld) (v i k : Nat) (hl : f.lo ≤ f.hi) (hh : f.hi < 32) :
    (s.satFld f v i k).fld f i k = min (2 ^ (f.hi + 1 - f.lo) - 1) (s.fld f i k + v) := by
  unfold State.satFld
  rw [State.fld_setFld_same _ _ _ _ _ hl hh]
  exact Nat.mod_eq_of_lt (by have := Nat.two_pow_pos (f.hi + 1 - f.lo); omega)

/-- A stored field is smaller than its width allows. -/
theorem State.fld_lt (s : State) (f : Fld) (i k : Nat) : s.fld f i k < 2 ^ (f.hi + 1 - f.lo) := bits_lt _ _ _

/-- Registers outside those written keep what they hold, read at any offset. -/
theorem State.regs_wr_ne (s : State) (r : RegDef) (i k v off : Nat) (d : W32) (h : off ≠ r.addr i k) :
    (s.wr r i k v).regs.get off d = s.regs.get off d := SMap.get_put_ne _ _ _ h

/-- As `State.regs_wr_ne`, for a field. -/
theorem State.regs_setFld_ne (s : State) (f : Fld) (v i k off : Nat) (d : W32) (h : off ≠ f.reg.addr i k) :
    (s.setFld f v i k).regs.get off d = s.regs.get off d := s.regs_wr_ne _ _ _ _ _ _ h

/-- As `State.regs_wr_ne`, for an addition. -/
theorem State.regs_addFld_ne (s : State) (f : Fld) (v i k off : Nat) (d : W32) (h : off ≠ f.reg.addr i k) :
    (s.addFld f v i k).regs.get off d = s.regs.get off d := s.regs_wr_ne _ _ _ _ _ _ h

/-- As `State.regs_wr_ne`, for a saturating addition. -/
theorem State.regs_satFld_ne (s : State) (f : Fld) (v i k off : Nat) (d : W32) (h : off ≠ f.reg.addr i k) :
    (s.satFld f v i k).regs.get off d = s.regs.get off d := s.regs_wr_ne _ _ _ _ _ _ h

/-- A 64-bit pair reads what was stored. -/
theorem State.pair_setPair_same (s : State) (lo hi : RegDef) (v i k : Nat) (h : lo.addr i k ≠ hi.addr i k) (hv : v < 2 ^ 64) :
    (s.setPair lo hi v i k).pair lo hi i k = v := by
  unfold State.pair State.setPair
  rw [State.rd_wr_ne _ _ _ _ _ _ _ _ h, State.rd_wr_same, State.rd_wr_same, Nat.mod_mod, Nat.mod_mod, Nat.shiftLeft_eq,
    Nat.mod_eq_of_lt (a := v / 2 ^ 32) (by omega)]
  omega

end Sys2Proof.Machine
end

