-- ==== Sys2Proof/Laws/Run.lean ====
section
/-!
SUPPORT. Laws of a command's run: what `exec` calls for each command, and what every meaning leaves alone.
-/

namespace Sys2Proof.Machine

/-- A command whose operands are in range goes on, in the state that its meaning computes. -/
theorem run_wf {c : Instr} (s : State) (f : State → State) (h : c.wf = true) : run c s f = .next (s.after (f s)) := by
  simp [run, h, State.after]

/-- As `run_wf`, for the commands that may change C and H. -/
theorem runTime_wf {c : Instr} (s : State) (f : State → State) (h : c.wf = true) :
    runTime c s f = .next (s.afterTime (f s)) := by
  simp [runTime, h, State.afterTime]

/-- A command with an operand out of range stops by name. -/
theorem run_malformed {c : Instr} (s : State) (f : State → State) (h : c.wf = false) : run c s f = .fault .malformed := by
  simp [run, h]

/-- As `run_malformed`, for the commands that may change C and H. -/
theorem runTime_malformed {c : Instr} (s : State) (f : State → State) (h : c.wf = false) :
    runTime c s f = .fault .malformed := by
  simp [runTime, h]

/-- The next state of a meaning is its frame around what the meaning computes. -/
theorem run_next {c : Instr} {s t : State} {f : State → State} (h : run c s f = .next t) : c.wf = true ∧ t = s.after (f s) := by
  unfold run at h
  split at h
  · next hc => exact ⟨hc, by cases h; rfl⟩
  · cases h

/-- As `run_next`, for the commands that may change C and H. -/
theorem runTime_next {c : Instr} {s t : State} {f : State → State} (h : runTime c s f = .next t) :
    c.wf = true ∧ t = s.afterTime (f s) := by
  unfold runTime at h
  split at h
  · next hc => exact ⟨hc, by cases h; rfl⟩
  · cases h

@[simp] theorem State.after_time (s t : State) : (s.after t).time = s.time := rfl
@[simp] theorem State.after_fuse (s t : State) : (s.after t).fuse = s.fuse := rfl
@[simp] theorem State.after_pending (s t : State) : (s.after t).pending = s.pending := rfl
@[simp] theorem State.after_fresh (s t : State) : (s.after t).fresh = s.fresh + 1 := rfl
@[simp] theorem State.after_rd (s t : State) (r : RegDef) (i k : Nat) : (s.after t).rd r i k = t.rd r i k := rfl
@[simp] theorem State.after_fld (s t : State) (f : Fld) (i k : Nat) : (s.after t).fld f i k = t.fld f i k := rfl
@[simp] theorem State.after_rg (s t : State) (n : Nat) : (s.after t).rg n = t.rg n := rfl
@[simp] theorem State.afterTime_time (s t : State) : (s.afterTime t).time = t.time := rfl
@[simp] theorem State.afterTime_fuse (s t : State) : (s.afterTime t).fuse = s.fuse := rfl
@[simp] theorem State.afterTime_pending (s t : State) : (s.afterTime t).pending = s.pending := rfl
@[simp] theorem State.afterTime_fresh (s t : State) : (s.afterTime t).fresh = s.fresh + 1 := rfl

end Sys2Proof.Machine
end

