-- ==== Sys2Proof/Laws/State.lean ====
section
/-!
SUPPORT. What each update of the state leaves alone, field by field; each holds by computation.
-/

namespace Sys2Proof.Machine

variable (s : State)

/-! ## wr -/

@[simp] theorem State.wr_time (r : RegDef) (i k v : Nat) : (s.wr r i k v).time = s.time := rfl
@[simp] theorem State.wr_chr (r : RegDef) (i k v : Nat) : (s.wr r i k v).chr = s.chr := rfl
@[simp] theorem State.wr_fuse (r : RegDef) (i k v : Nat) : (s.wr r i k v).fuse = s.fuse := rfl
@[simp] theorem State.wr_latch (r : RegDef) (i k v : Nat) : (s.wr r i k v).latch = s.latch := rfl
@[simp] theorem State.wr_rgn (r : RegDef) (i k v : Nat) : (s.wr r i k v).rgn = s.rgn := rfl
@[simp] theorem State.wr_rtr (r : RegDef) (i k v : Nat) : (s.wr r i k v).rtr = s.rtr := rfl
@[simp] theorem State.wr_chart (r : RegDef) (i k v : Nat) : (s.wr r i k v).chart = s.chart := rfl
@[simp] theorem State.wr_sched (r : RegDef) (i k v : Nat) : (s.wr r i k v).sched = s.sched := rfl
@[simp] theorem State.wr_launches (r : RegDef) (i k v : Nat) : (s.wr r i k v).launches = s.launches := rfl
@[simp] theorem State.wr_net (r : RegDef) (i k v : Nat) : (s.wr r i k v).net = s.net := rfl
@[simp] theorem State.wr_flow (r : RegDef) (i k v : Nat) : (s.wr r i k v).flow = s.flow := rfl
@[simp] theorem State.wr_vt (r : RegDef) (i k v : Nat) : (s.wr r i k v).vt = s.vt := rfl
@[simp] theorem State.wr_otx (r : RegDef) (i k v : Nat) : (s.wr r i k v).otx = s.otx := rfl
@[simp] theorem State.wr_win (r : RegDef) (i k v : Nat) : (s.wr r i k v).win = s.win := rfl
@[simp] theorem State.wr_ledger (r : RegDef) (i k v : Nat) : (s.wr r i k v).ledger = s.ledger := rfl
@[simp] theorem State.wr_waiters (r : RegDef) (i k v : Nat) : (s.wr r i k v).waiters = s.waiters := rfl
@[simp] theorem State.wr_lastGrant (r : RegDef) (i k v : Nat) : (s.wr r i k v).lastGrant = s.lastGrant := rfl
@[simp] theorem State.wr_cancelled (r : RegDef) (i k v : Nat) : (s.wr r i k v).cancelled = s.cancelled := rfl
@[simp] theorem State.wr_receipts (r : RegDef) (i k v : Nat) : (s.wr r i k v).receipts = s.receipts := rfl
@[simp] theorem State.wr_xfers (r : RegDef) (i k v : Nat) : (s.wr r i k v).xfers = s.xfers := rfl
@[simp] theorem State.wr_ap (r : RegDef) (i k v : Nat) : (s.wr r i k v).ap = s.ap := rfl
@[simp] theorem State.wr_descs (r : RegDef) (i k v : Nat) : (s.wr r i k v).descs = s.descs := rfl
@[simp] theorem State.wr_cplq (r : RegDef) (i k v : Nat) : (s.wr r i k v).cplq = s.cplq := rfl
@[simp] theorem State.wr_ring (r : RegDef) (i k v : Nat) : (s.wr r i k v).ring = s.ring := rfl
@[simp] theorem State.wr_waits (r : RegDef) (i k v : Nat) : (s.wr r i k v).waits = s.waits := rfl
@[simp] theorem State.wr_sigLines (r : RegDef) (i k v : Nat) : (s.wr r i k v).sigLines = s.sigLines := rfl
@[simp] theorem State.wr_mp (r : RegDef) (i k v : Nat) : (s.wr r i k v).mp = s.mp := rfl
@[simp] theorem State.wr_slice (r : RegDef) (i k v : Nat) : (s.wr r i k v).slice = s.slice := rfl
@[simp] theorem State.wr_scrubs (r : RegDef) (i k v : Nat) : (s.wr r i k v).scrubs = s.scrubs := rfl
@[simp] theorem State.wr_err (r : RegDef) (i k v : Nat) : (s.wr r i k v).err = s.err := rfl
@[simp] theorem State.wr_fence (r : RegDef) (i k v : Nat) : (s.wr r i k v).fence = s.fence := rfl
@[simp] theorem State.wr_bnUp (r : RegDef) (i k v : Nat) : (s.wr r i k v).bnUp = s.bnUp := rfl
@[simp] theorem State.wr_logs (r : RegDef) (i k v : Nat) : (s.wr r i k v).logs = s.logs := rfl
@[simp] theorem State.wr_trace (r : RegDef) (i k v : Nat) : (s.wr r i k v).trace = s.trace := rfl
@[simp] theorem State.wr_hp (r : RegDef) (i k v : Nat) : (s.wr r i k v).hp = s.hp := rfl
@[simp] theorem State.wr_ol (r : RegDef) (i k v : Nat) : (s.wr r i k v).ol = s.ol := rfl
@[simp] theorem State.wr_plan (r : RegDef) (i k v : Nat) : (s.wr r i k v).plan = s.plan := rfl
@[simp] theorem State.wr_fw (r : RegDef) (i k v : Nat) : (s.wr r i k v).fw = s.fw := rfl
@[simp] theorem State.wr_consort (r : RegDef) (i k v : Nat) : (s.wr r i k v).consort = s.consort := rfl
@[simp] theorem State.wr_tp (r : RegDef) (i k v : Nat) : (s.wr r i k v).tp = s.tp := rfl
@[simp] theorem State.wr_redm (r : RegDef) (i k v : Nat) : (s.wr r i k v).redm = s.redm := rfl
@[simp] theorem State.wr_redWait (r : RegDef) (i k v : Nat) : (s.wr r i k v).redWait = s.redWait := rfl
@[simp] theorem State.wr_hash (r : RegDef) (i k v : Nat) : (s.wr r i k v).hash = s.hash := rfl
@[simp] theorem State.wr_replay (r : RegDef) (i k v : Nat) : (s.wr r i k v).replay = s.replay := rfl
@[simp] theorem State.wr_bn (r : RegDef) (i k v : Nat) : (s.wr r i k v).bn = s.bn := rfl
@[simp] theorem State.wr_snap (r : RegDef) (i k v : Nat) : (s.wr r i k v).snap = s.snap := rfl
@[simp] theorem State.wr_scan (r : RegDef) (i k v : Nat) : (s.wr r i k v).scan = s.scan := rfl
@[simp] theorem State.wr_tap (r : RegDef) (i k v : Nat) : (s.wr r i k v).tap = s.tap := rfl
@[simp] theorem State.wr_pins (r : RegDef) (i k v : Nat) : (s.wr r i k v).pins = s.pins := rfl
@[simp] theorem State.wr_nimap (r : RegDef) (i k v : Nat) : (s.wr r i k v).nimap = s.nimap := rfl
@[simp] theorem State.wr_plot (r : RegDef) (i k v : Nat) : (s.wr r i k v).plot = s.plot := rfl
@[simp] theorem State.wr_cr (r : RegDef) (i k v : Nat) : (s.wr r i k v).cr = s.cr := rfl
@[simp] theorem State.wr_spad (r : RegDef) (i k v : Nat) : (s.wr r i k v).spad = s.spad := rfl
@[simp] theorem State.wr_hbm (r : RegDef) (i k v : Nat) : (s.wr r i k v).hbm = s.hbm := rfl
@[simp] theorem State.wr_flash (r : RegDef) (i k v : Nat) : (s.wr r i k v).flash = s.flash := rfl
@[simp] theorem State.wr_stamp (r : RegDef) (i k v : Nat) : (s.wr r i k v).stamp = s.stamp := rfl
@[simp] theorem State.wr_woken (r : RegDef) (i k v : Nat) : (s.wr r i k v).woken = s.woken := rfl
@[simp] theorem State.wr_stopped (r : RegDef) (i k v : Nat) : (s.wr r i k v).stopped = s.stopped := rfl
@[simp] theorem State.wr_fresh (r : RegDef) (i k v : Nat) : (s.wr r i k v).fresh = s.fresh := rfl
@[simp] theorem State.wr_pending (r : RegDef) (i k v : Nat) : (s.wr r i k v).pending = s.pending := rfl

/-! ## setFld -/

@[simp] theorem State.setFld_time (f : Fld) (v i k : Nat) : (s.setFld f v i k).time = s.time := rfl
@[simp] theorem State.setFld_chr (f : Fld) (v i k : Nat) : (s.setFld f v i k).chr = s.chr := rfl
@[simp] theorem State.setFld_fuse (f : Fld) (v i k : Nat) : (s.setFld f v i k).fuse = s.fuse := rfl
@[simp] theorem State.setFld_latch (f : Fld) (v i k : Nat) : (s.setFld f v i k).latch = s.latch := rfl
@[simp] theorem State.setFld_rgn (f : Fld) (v i k : Nat) : (s.setFld f v i k).rgn = s.rgn := rfl
@[simp] theorem State.setFld_rtr (f : Fld) (v i k : Nat) : (s.setFld f v i k).rtr = s.rtr := rfl
@[simp] theorem State.setFld_chart (f : Fld) (v i k : Nat) : (s.setFld f v i k).chart = s.chart := rfl
@[simp] theorem State.setFld_sched (f : Fld) (v i k : Nat) : (s.setFld f v i k).sched = s.sched := rfl
@[simp] theorem State.setFld_launches (f : Fld) (v i k : Nat) : (s.setFld f v i k).launches = s.launches := rfl
@[simp] theorem State.setFld_net (f : Fld) (v i k : Nat) : (s.setFld f v i k).net = s.net := rfl
@[simp] theorem State.setFld_flow (f : Fld) (v i k : Nat) : (s.setFld f v i k).flow = s.flow := rfl
@[simp] theorem State.setFld_vt (f : Fld) (v i k : Nat) : (s.setFld f v i k).vt = s.vt := rfl
@[simp] theorem State.setFld_otx (f : Fld) (v i k : Nat) : (s.setFld f v i k).otx = s.otx := rfl
@[simp] theorem State.setFld_win (f : Fld) (v i k : Nat) : (s.setFld f v i k).win = s.win := rfl
@[simp] theorem State.setFld_ledger (f : Fld) (v i k : Nat) : (s.setFld f v i k).ledger = s.ledger := rfl
@[simp] theorem State.setFld_waiters (f : Fld) (v i k : Nat) : (s.setFld f v i k).waiters = s.waiters := rfl
@[simp] theorem State.setFld_lastGrant (f : Fld) (v i k : Nat) : (s.setFld f v i k).lastGrant = s.lastGrant := rfl
@[simp] theorem State.setFld_cancelled (f : Fld) (v i k : Nat) : (s.setFld f v i k).cancelled = s.cancelled := rfl
@[simp] theorem State.setFld_receipts (f : Fld) (v i k : Nat) : (s.setFld f v i k).receipts = s.receipts := rfl
@[simp] theorem State.setFld_xfers (f : Fld) (v i k : Nat) : (s.setFld f v i k).xfers = s.xfers := rfl
@[simp] theorem State.setFld_ap (f : Fld) (v i k : Nat) : (s.setFld f v i k).ap = s.ap := rfl
@[simp] theorem State.setFld_descs (f : Fld) (v i k : Nat) : (s.setFld f v i k).descs = s.descs := rfl
@[simp] theorem State.setFld_cplq (f : Fld) (v i k : Nat) : (s.setFld f v i k).cplq = s.cplq := rfl
@[simp] theorem State.setFld_ring (f : Fld) (v i k : Nat) : (s.setFld f v i k).ring = s.ring := rfl
@[simp] theorem State.setFld_waits (f : Fld) (v i k : Nat) : (s.setFld f v i k).waits = s.waits := rfl
@[simp] theorem State.setFld_sigLines (f : Fld) (v i k : Nat) : (s.setFld f v i k).sigLines = s.sigLines := rfl
@[simp] theorem State.setFld_mp (f : Fld) (v i k : Nat) : (s.setFld f v i k).mp = s.mp := rfl
@[simp] theorem State.setFld_slice (f : Fld) (v i k : Nat) : (s.setFld f v i k).slice = s.slice := rfl
@[simp] theorem State.setFld_scrubs (f : Fld) (v i k : Nat) : (s.setFld f v i k).scrubs = s.scrubs := rfl
@[simp] theorem State.setFld_err (f : Fld) (v i k : Nat) : (s.setFld f v i k).err = s.err := rfl
@[simp] theorem State.setFld_fence (f : Fld) (v i k : Nat) : (s.setFld f v i k).fence = s.fence := rfl
@[simp] theorem State.setFld_bnUp (f : Fld) (v i k : Nat) : (s.setFld f v i k).bnUp = s.bnUp := rfl
@[simp] theorem State.setFld_logs (f : Fld) (v i k : Nat) : (s.setFld f v i k).logs = s.logs := rfl
@[simp] theorem State.setFld_trace (f : Fld) (v i k : Nat) : (s.setFld f v i k).trace = s.trace := rfl
@[simp] theorem State.setFld_hp (f : Fld) (v i k : Nat) : (s.setFld f v i k).hp = s.hp := rfl
@[simp] theorem State.setFld_ol (f : Fld) (v i k : Nat) : (s.setFld f v i k).ol = s.ol := rfl
@[simp] theorem State.setFld_plan (f : Fld) (v i k : Nat) : (s.setFld f v i k).plan = s.plan := rfl
@[simp] theorem State.setFld_fw (f : Fld) (v i k : Nat) : (s.setFld f v i k).fw = s.fw := rfl
@[simp] theorem State.setFld_consort (f : Fld) (v i k : Nat) : (s.setFld f v i k).consort = s.consort := rfl
@[simp] theorem State.setFld_tp (f : Fld) (v i k : Nat) : (s.setFld f v i k).tp = s.tp := rfl
@[simp] theorem State.setFld_redm (f : Fld) (v i k : Nat) : (s.setFld f v i k).redm = s.redm := rfl
@[simp] theorem State.setFld_redWait (f : Fld) (v i k : Nat) : (s.setFld f v i k).redWait = s.redWait := rfl
@[simp] theorem State.setFld_hash (f : Fld) (v i k : Nat) : (s.setFld f v i k).hash = s.hash := rfl
@[simp] theorem State.setFld_replay (f : Fld) (v i k : Nat) : (s.setFld f v i k).replay = s.replay := rfl
@[simp] theorem State.setFld_bn (f : Fld) (v i k : Nat) : (s.setFld f v i k).bn = s.bn := rfl
@[simp] theorem State.setFld_snap (f : Fld) (v i k : Nat) : (s.setFld f v i k).snap = s.snap := rfl
@[simp] theorem State.setFld_scan (f : Fld) (v i k : Nat) : (s.setFld f v i k).scan = s.scan := rfl
@[simp] theorem State.setFld_tap (f : Fld) (v i k : Nat) : (s.setFld f v i k).tap = s.tap := rfl
@[simp] theorem State.setFld_pins (f : Fld) (v i k : Nat) : (s.setFld f v i k).pins = s.pins := rfl
@[simp] theorem State.setFld_nimap (f : Fld) (v i k : Nat) : (s.setFld f v i k).nimap = s.nimap := rfl
@[simp] theorem State.setFld_plot (f : Fld) (v i k : Nat) : (s.setFld f v i k).plot = s.plot := rfl
@[simp] theorem State.setFld_cr (f : Fld) (v i k : Nat) : (s.setFld f v i k).cr = s.cr := rfl
@[simp] theorem State.setFld_spad (f : Fld) (v i k : Nat) : (s.setFld f v i k).spad = s.spad := rfl
@[simp] theorem State.setFld_hbm (f : Fld) (v i k : Nat) : (s.setFld f v i k).hbm = s.hbm := rfl
@[simp] theorem State.setFld_flash (f : Fld) (v i k : Nat) : (s.setFld f v i k).flash = s.flash := rfl
@[simp] theorem State.setFld_stamp (f : Fld) (v i k : Nat) : (s.setFld f v i k).stamp = s.stamp := rfl
@[simp] theorem State.setFld_woken (f : Fld) (v i k : Nat) : (s.setFld f v i k).woken = s.woken := rfl
@[simp] theorem State.setFld_stopped (f : Fld) (v i k : Nat) : (s.setFld f v i k).stopped = s.stopped := rfl
@[simp] theorem State.setFld_fresh (f : Fld) (v i k : Nat) : (s.setFld f v i k).fresh = s.fresh := rfl
@[simp] theorem State.setFld_pending (f : Fld) (v i k : Nat) : (s.setFld f v i k).pending = s.pending := rfl

/-! ## addFld -/

@[simp] theorem State.addFld_time (f : Fld) (v i k : Nat) : (s.addFld f v i k).time = s.time := rfl
@[simp] theorem State.addFld_chr (f : Fld) (v i k : Nat) : (s.addFld f v i k).chr = s.chr := rfl
@[simp] theorem State.addFld_fuse (f : Fld) (v i k : Nat) : (s.addFld f v i k).fuse = s.fuse := rfl
@[simp] theorem State.addFld_latch (f : Fld) (v i k : Nat) : (s.addFld f v i k).latch = s.latch := rfl
@[simp] theorem State.addFld_rgn (f : Fld) (v i k : Nat) : (s.addFld f v i k).rgn = s.rgn := rfl
@[simp] theorem State.addFld_rtr (f : Fld) (v i k : Nat) : (s.addFld f v i k).rtr = s.rtr := rfl
@[simp] theorem State.addFld_chart (f : Fld) (v i k : Nat) : (s.addFld f v i k).chart = s.chart := rfl
@[simp] theorem State.addFld_sched (f : Fld) (v i k : Nat) : (s.addFld f v i k).sched = s.sched := rfl
@[simp] theorem State.addFld_launches (f : Fld) (v i k : Nat) : (s.addFld f v i k).launches = s.launches := rfl
@[simp] theorem State.addFld_net (f : Fld) (v i k : Nat) : (s.addFld f v i k).net = s.net := rfl
@[simp] theorem State.addFld_flow (f : Fld) (v i k : Nat) : (s.addFld f v i k).flow = s.flow := rfl
@[simp] theorem State.addFld_vt (f : Fld) (v i k : Nat) : (s.addFld f v i k).vt = s.vt := rfl
@[simp] theorem State.addFld_otx (f : Fld) (v i k : Nat) : (s.addFld f v i k).otx = s.otx := rfl
@[simp] theorem State.addFld_win (f : Fld) (v i k : Nat) : (s.addFld f v i k).win = s.win := rfl
@[simp] theorem State.addFld_ledger (f : Fld) (v i k : Nat) : (s.addFld f v i k).ledger = s.ledger := rfl
@[simp] theorem State.addFld_waiters (f : Fld) (v i k : Nat) : (s.addFld f v i k).waiters = s.waiters := rfl
@[simp] theorem State.addFld_lastGrant (f : Fld) (v i k : Nat) : (s.addFld f v i k).lastGrant = s.lastGrant := rfl
@[simp] theorem State.addFld_cancelled (f : Fld) (v i k : Nat) : (s.addFld f v i k).cancelled = s.cancelled := rfl
@[simp] theorem State.addFld_receipts (f : Fld) (v i k : Nat) : (s.addFld f v i k).receipts = s.receipts := rfl
@[simp] theorem State.addFld_xfers (f : Fld) (v i k : Nat) : (s.addFld f v i k).xfers = s.xfers := rfl
@[simp] theorem State.addFld_ap (f : Fld) (v i k : Nat) : (s.addFld f v i k).ap = s.ap := rfl
@[simp] theorem State.addFld_descs (f : Fld) (v i k : Nat) : (s.addFld f v i k).descs = s.descs := rfl
@[simp] theorem State.addFld_cplq (f : Fld) (v i k : Nat) : (s.addFld f v i k).cplq = s.cplq := rfl
@[simp] theorem State.addFld_ring (f : Fld) (v i k : Nat) : (s.addFld f v i k).ring = s.ring := rfl
@[simp] theorem State.addFld_waits (f : Fld) (v i k : Nat) : (s.addFld f v i k).waits = s.waits := rfl
@[simp] theorem State.addFld_sigLines (f : Fld) (v i k : Nat) : (s.addFld f v i k).sigLines = s.sigLines := rfl
@[simp] theorem State.addFld_mp (f : Fld) (v i k : Nat) : (s.addFld f v i k).mp = s.mp := rfl
@[simp] theorem State.addFld_slice (f : Fld) (v i k : Nat) : (s.addFld f v i k).slice = s.slice := rfl
@[simp] theorem State.addFld_scrubs (f : Fld) (v i k : Nat) : (s.addFld f v i k).scrubs = s.scrubs := rfl
@[simp] theorem State.addFld_err (f : Fld) (v i k : Nat) : (s.addFld f v i k).err = s.err := rfl
@[simp] theorem State.addFld_fence (f : Fld) (v i k : Nat) : (s.addFld f v i k).fence = s.fence := rfl
@[simp] theorem State.addFld_bnUp (f : Fld) (v i k : Nat) : (s.addFld f v i k).bnUp = s.bnUp := rfl
@[simp] theorem State.addFld_logs (f : Fld) (v i k : Nat) : (s.addFld f v i k).logs = s.logs := rfl
@[simp] theorem State.addFld_trace (f : Fld) (v i k : Nat) : (s.addFld f v i k).trace = s.trace := rfl
@[simp] theorem State.addFld_hp (f : Fld) (v i k : Nat) : (s.addFld f v i k).hp = s.hp := rfl
@[simp] theorem State.addFld_ol (f : Fld) (v i k : Nat) : (s.addFld f v i k).ol = s.ol := rfl
@[simp] theorem State.addFld_plan (f : Fld) (v i k : Nat) : (s.addFld f v i k).plan = s.plan := rfl
@[simp] theorem State.addFld_fw (f : Fld) (v i k : Nat) : (s.addFld f v i k).fw = s.fw := rfl
@[simp] theorem State.addFld_consort (f : Fld) (v i k : Nat) : (s.addFld f v i k).consort = s.consort := rfl
@[simp] theorem State.addFld_tp (f : Fld) (v i k : Nat) : (s.addFld f v i k).tp = s.tp := rfl
@[simp] theorem State.addFld_redm (f : Fld) (v i k : Nat) : (s.addFld f v i k).redm = s.redm := rfl
@[simp] theorem State.addFld_redWait (f : Fld) (v i k : Nat) : (s.addFld f v i k).redWait = s.redWait := rfl
@[simp] theorem State.addFld_hash (f : Fld) (v i k : Nat) : (s.addFld f v i k).hash = s.hash := rfl
@[simp] theorem State.addFld_replay (f : Fld) (v i k : Nat) : (s.addFld f v i k).replay = s.replay := rfl
@[simp] theorem State.addFld_bn (f : Fld) (v i k : Nat) : (s.addFld f v i k).bn = s.bn := rfl
@[simp] theorem State.addFld_snap (f : Fld) (v i k : Nat) : (s.addFld f v i k).snap = s.snap := rfl
@[simp] theorem State.addFld_scan (f : Fld) (v i k : Nat) : (s.addFld f v i k).scan = s.scan := rfl
@[simp] theorem State.addFld_tap (f : Fld) (v i k : Nat) : (s.addFld f v i k).tap = s.tap := rfl
@[simp] theorem State.addFld_pins (f : Fld) (v i k : Nat) : (s.addFld f v i k).pins = s.pins := rfl
@[simp] theorem State.addFld_nimap (f : Fld) (v i k : Nat) : (s.addFld f v i k).nimap = s.nimap := rfl
@[simp] theorem State.addFld_plot (f : Fld) (v i k : Nat) : (s.addFld f v i k).plot = s.plot := rfl
@[simp] theorem State.addFld_cr (f : Fld) (v i k : Nat) : (s.addFld f v i k).cr = s.cr := rfl
@[simp] theorem State.addFld_spad (f : Fld) (v i k : Nat) : (s.addFld f v i k).spad = s.spad := rfl
@[simp] theorem State.addFld_hbm (f : Fld) (v i k : Nat) : (s.addFld f v i k).hbm = s.hbm := rfl
@[simp] theorem State.addFld_flash (f : Fld) (v i k : Nat) : (s.addFld f v i k).flash = s.flash := rfl
@[simp] theorem State.addFld_stamp (f : Fld) (v i k : Nat) : (s.addFld f v i k).stamp = s.stamp := rfl
@[simp] theorem State.addFld_woken (f : Fld) (v i k : Nat) : (s.addFld f v i k).woken = s.woken := rfl
@[simp] theorem State.addFld_stopped (f : Fld) (v i k : Nat) : (s.addFld f v i k).stopped = s.stopped := rfl
@[simp] theorem State.addFld_fresh (f : Fld) (v i k : Nat) : (s.addFld f v i k).fresh = s.fresh := rfl
@[simp] theorem State.addFld_pending (f : Fld) (v i k : Nat) : (s.addFld f v i k).pending = s.pending := rfl

/-! ## satFld -/

@[simp] theorem State.satFld_time (f : Fld) (v i k : Nat) : (s.satFld f v i k).time = s.time := rfl
@[simp] theorem State.satFld_chr (f : Fld) (v i k : Nat) : (s.satFld f v i k).chr = s.chr := rfl
@[simp] theorem State.satFld_fuse (f : Fld) (v i k : Nat) : (s.satFld f v i k).fuse = s.fuse := rfl
@[simp] theorem State.satFld_latch (f : Fld) (v i k : Nat) : (s.satFld f v i k).latch = s.latch := rfl
@[simp] theorem State.satFld_rgn (f : Fld) (v i k : Nat) : (s.satFld f v i k).rgn = s.rgn := rfl
@[simp] theorem State.satFld_rtr (f : Fld) (v i k : Nat) : (s.satFld f v i k).rtr = s.rtr := rfl
@[simp] theorem State.satFld_chart (f : Fld) (v i k : Nat) : (s.satFld f v i k).chart = s.chart := rfl
@[simp] theorem State.satFld_sched (f : Fld) (v i k : Nat) : (s.satFld f v i k).sched = s.sched := rfl
@[simp] theorem State.satFld_launches (f : Fld) (v i k : Nat) : (s.satFld f v i k).launches = s.launches := rfl
@[simp] theorem State.satFld_net (f : Fld) (v i k : Nat) : (s.satFld f v i k).net = s.net := rfl
@[simp] theorem State.satFld_flow (f : Fld) (v i k : Nat) : (s.satFld f v i k).flow = s.flow := rfl
@[simp] theorem State.satFld_vt (f : Fld) (v i k : Nat) : (s.satFld f v i k).vt = s.vt := rfl
@[simp] theorem State.satFld_otx (f : Fld) (v i k : Nat) : (s.satFld f v i k).otx = s.otx := rfl
@[simp] theorem State.satFld_win (f : Fld) (v i k : Nat) : (s.satFld f v i k).win = s.win := rfl
@[simp] theorem State.satFld_ledger (f : Fld) (v i k : Nat) : (s.satFld f v i k).ledger = s.ledger := rfl
@[simp] theorem State.satFld_waiters (f : Fld) (v i k : Nat) : (s.satFld f v i k).waiters = s.waiters := rfl
@[simp] theorem State.satFld_lastGrant (f : Fld) (v i k : Nat) : (s.satFld f v i k).lastGrant = s.lastGrant := rfl
@[simp] theorem State.satFld_cancelled (f : Fld) (v i k : Nat) : (s.satFld f v i k).cancelled = s.cancelled := rfl
@[simp] theorem State.satFld_receipts (f : Fld) (v i k : Nat) : (s.satFld f v i k).receipts = s.receipts := rfl
@[simp] theorem State.satFld_xfers (f : Fld) (v i k : Nat) : (s.satFld f v i k).xfers = s.xfers := rfl
@[simp] theorem State.satFld_ap (f : Fld) (v i k : Nat) : (s.satFld f v i k).ap = s.ap := rfl
@[simp] theorem State.satFld_descs (f : Fld) (v i k : Nat) : (s.satFld f v i k).descs = s.descs := rfl
@[simp] theorem State.satFld_cplq (f : Fld) (v i k : Nat) : (s.satFld f v i k).cplq = s.cplq := rfl
@[simp] theorem State.satFld_ring (f : Fld) (v i k : Nat) : (s.satFld f v i k).ring = s.ring := rfl
@[simp] theorem State.satFld_waits (f : Fld) (v i k : Nat) : (s.satFld f v i k).waits = s.waits := rfl
@[simp] theorem State.satFld_sigLines (f : Fld) (v i k : Nat) : (s.satFld f v i k).sigLines = s.sigLines := rfl
@[simp] theorem State.satFld_mp (f : Fld) (v i k : Nat) : (s.satFld f v i k).mp = s.mp := rfl
@[simp] theorem State.satFld_slice (f : Fld) (v i k : Nat) : (s.satFld f v i k).slice = s.slice := rfl
@[simp] theorem State.satFld_scrubs (f : Fld) (v i k : Nat) : (s.satFld f v i k).scrubs = s.scrubs := rfl
@[simp] theorem State.satFld_err (f : Fld) (v i k : Nat) : (s.satFld f v i k).err = s.err := rfl
@[simp] theorem State.satFld_fence (f : Fld) (v i k : Nat) : (s.satFld f v i k).fence = s.fence := rfl
@[simp] theorem State.satFld_bnUp (f : Fld) (v i k : Nat) : (s.satFld f v i k).bnUp = s.bnUp := rfl
@[simp] theorem State.satFld_logs (f : Fld) (v i k : Nat) : (s.satFld f v i k).logs = s.logs := rfl
@[simp] theorem State.satFld_trace (f : Fld) (v i k : Nat) : (s.satFld f v i k).trace = s.trace := rfl
@[simp] theorem State.satFld_hp (f : Fld) (v i k : Nat) : (s.satFld f v i k).hp = s.hp := rfl
@[simp] theorem State.satFld_ol (f : Fld) (v i k : Nat) : (s.satFld f v i k).ol = s.ol := rfl
@[simp] theorem State.satFld_plan (f : Fld) (v i k : Nat) : (s.satFld f v i k).plan = s.plan := rfl
@[simp] theorem State.satFld_fw (f : Fld) (v i k : Nat) : (s.satFld f v i k).fw = s.fw := rfl
@[simp] theorem State.satFld_consort (f : Fld) (v i k : Nat) : (s.satFld f v i k).consort = s.consort := rfl
@[simp] theorem State.satFld_tp (f : Fld) (v i k : Nat) : (s.satFld f v i k).tp = s.tp := rfl
@[simp] theorem State.satFld_redm (f : Fld) (v i k : Nat) : (s.satFld f v i k).redm = s.redm := rfl
@[simp] theorem State.satFld_redWait (f : Fld) (v i k : Nat) : (s.satFld f v i k).redWait = s.redWait := rfl
@[simp] theorem State.satFld_hash (f : Fld) (v i k : Nat) : (s.satFld f v i k).hash = s.hash := rfl
@[simp] theorem State.satFld_replay (f : Fld) (v i k : Nat) : (s.satFld f v i k).replay = s.replay := rfl
@[simp] theorem State.satFld_bn (f : Fld) (v i k : Nat) : (s.satFld f v i k).bn = s.bn := rfl
@[simp] theorem State.satFld_snap (f : Fld) (v i k : Nat) : (s.satFld f v i k).snap = s.snap := rfl
@[simp] theorem State.satFld_scan (f : Fld) (v i k : Nat) : (s.satFld f v i k).scan = s.scan := rfl
@[simp] theorem State.satFld_tap (f : Fld) (v i k : Nat) : (s.satFld f v i k).tap = s.tap := rfl
@[simp] theorem State.satFld_pins (f : Fld) (v i k : Nat) : (s.satFld f v i k).pins = s.pins := rfl
@[simp] theorem State.satFld_nimap (f : Fld) (v i k : Nat) : (s.satFld f v i k).nimap = s.nimap := rfl
@[simp] theorem State.satFld_plot (f : Fld) (v i k : Nat) : (s.satFld f v i k).plot = s.plot := rfl
@[simp] theorem State.satFld_cr (f : Fld) (v i k : Nat) : (s.satFld f v i k).cr = s.cr := rfl
@[simp] theorem State.satFld_spad (f : Fld) (v i k : Nat) : (s.satFld f v i k).spad = s.spad := rfl
@[simp] theorem State.satFld_hbm (f : Fld) (v i k : Nat) : (s.satFld f v i k).hbm = s.hbm := rfl
@[simp] theorem State.satFld_flash (f : Fld) (v i k : Nat) : (s.satFld f v i k).flash = s.flash := rfl
@[simp] theorem State.satFld_stamp (f : Fld) (v i k : Nat) : (s.satFld f v i k).stamp = s.stamp := rfl
@[simp] theorem State.satFld_woken (f : Fld) (v i k : Nat) : (s.satFld f v i k).woken = s.woken := rfl
@[simp] theorem State.satFld_stopped (f : Fld) (v i k : Nat) : (s.satFld f v i k).stopped = s.stopped := rfl
@[simp] theorem State.satFld_fresh (f : Fld) (v i k : Nat) : (s.satFld f v i k).fresh = s.fresh := rfl
@[simp] theorem State.satFld_pending (f : Fld) (v i k : Nat) : (s.satFld f v i k).pending = s.pending := rfl

/-! ## setPair -/

@[simp] theorem State.setPair_time (lo hi : RegDef) (v i k : Nat) : (s.setPair lo hi v i k).time = s.time := rfl
@[simp] theorem State.setPair_chr (lo hi : RegDef) (v i k : Nat) : (s.setPair lo hi v i k).chr = s.chr := rfl
@[simp] theorem State.setPair_fuse (lo hi : RegDef) (v i k : Nat) : (s.setPair lo hi v i k).fuse = s.fuse := rfl
@[simp] theorem State.setPair_latch (lo hi : RegDef) (v i k : Nat) : (s.setPair lo hi v i k).latch = s.latch := rfl
@[simp] theorem State.setPair_rgn (lo hi : RegDef) (v i k : Nat) : (s.setPair lo hi v i k).rgn = s.rgn := rfl
@[simp] theorem State.setPair_rtr (lo hi : RegDef) (v i k : Nat) : (s.setPair lo hi v i k).rtr = s.rtr := rfl
@[simp] theorem State.setPair_chart (lo hi : RegDef) (v i k : Nat) : (s.setPair lo hi v i k).chart = s.chart := rfl
@[simp] theorem State.setPair_sched (lo hi : RegDef) (v i k : Nat) : (s.setPair lo hi v i k).sched = s.sched := rfl
@[simp] theorem State.setPair_launches (lo hi : RegDef) (v i k : Nat) : (s.setPair lo hi v i k).launches = s.launches := rfl
@[simp] theorem State.setPair_net (lo hi : RegDef) (v i k : Nat) : (s.setPair lo hi v i k).net = s.net := rfl
@[simp] theorem State.setPair_flow (lo hi : RegDef) (v i k : Nat) : (s.setPair lo hi v i k).flow = s.flow := rfl
@[simp] theorem State.setPair_vt (lo hi : RegDef) (v i k : Nat) : (s.setPair lo hi v i k).vt = s.vt := rfl
@[simp] theorem State.setPair_otx (lo hi : RegDef) (v i k : Nat) : (s.setPair lo hi v i k).otx = s.otx := rfl
@[simp] theorem State.setPair_win (lo hi : RegDef) (v i k : Nat) : (s.setPair lo hi v i k).win = s.win := rfl
@[simp] theorem State.setPair_ledger (lo hi : RegDef) (v i k : Nat) : (s.setPair lo hi v i k).ledger = s.ledger := rfl
@[simp] theorem State.setPair_waiters (lo hi : RegDef) (v i k : Nat) : (s.setPair lo hi v i k).waiters = s.waiters := rfl
@[simp] theorem State.setPair_lastGrant (lo hi : RegDef) (v i k : Nat) : (s.setPair lo hi v i k).lastGrant = s.lastGrant := rfl
@[simp] theorem State.setPair_cancelled (lo hi : RegDef) (v i k : Nat) : (s.setPair lo hi v i k).cancelled = s.cancelled := rfl
@[simp] theorem State.setPair_receipts (lo hi : RegDef) (v i k : Nat) : (s.setPair lo hi v i k).receipts = s.receipts := rfl
@[simp] theorem State.setPair_xfers (lo hi : RegDef) (v i k : Nat) : (s.setPair lo hi v i k).xfers = s.xfers := rfl
@[simp] theorem State.setPair_ap (lo hi : RegDef) (v i k : Nat) : (s.setPair lo hi v i k).ap = s.ap := rfl
@[simp] theorem State.setPair_descs (lo hi : RegDef) (v i k : Nat) : (s.setPair lo hi v i k).descs = s.descs := rfl
@[simp] theorem State.setPair_cplq (lo hi : RegDef) (v i k : Nat) : (s.setPair lo hi v i k).cplq = s.cplq := rfl
@[simp] theorem State.setPair_ring (lo hi : RegDef) (v i k : Nat) : (s.setPair lo hi v i k).ring = s.ring := rfl
@[simp] theorem State.setPair_waits (lo hi : RegDef) (v i k : Nat) : (s.setPair lo hi v i k).waits = s.waits := rfl
@[simp] theorem State.setPair_sigLines (lo hi : RegDef) (v i k : Nat) : (s.setPair lo hi v i k).sigLines = s.sigLines := rfl
@[simp] theorem State.setPair_mp (lo hi : RegDef) (v i k : Nat) : (s.setPair lo hi v i k).mp = s.mp := rfl
@[simp] theorem State.setPair_slice (lo hi : RegDef) (v i k : Nat) : (s.setPair lo hi v i k).slice = s.slice := rfl
@[simp] theorem State.setPair_scrubs (lo hi : RegDef) (v i k : Nat) : (s.setPair lo hi v i k).scrubs = s.scrubs := rfl
@[simp] theorem State.setPair_err (lo hi : RegDef) (v i k : Nat) : (s.setPair lo hi v i k).err = s.err := rfl
@[simp] theorem State.setPair_fence (lo hi : RegDef) (v i k : Nat) : (s.setPair lo hi v i k).fence = s.fence := rfl
@[simp] theorem State.setPair_bnUp (lo hi : RegDef) (v i k : Nat) : (s.setPair lo hi v i k).bnUp = s.bnUp := rfl
@[simp] theorem State.setPair_logs (lo hi : RegDef) (v i k : Nat) : (s.setPair lo hi v i k).logs = s.logs := rfl
@[simp] theorem State.setPair_trace (lo hi : RegDef) (v i k : Nat) : (s.setPair lo hi v i k).trace = s.trace := rfl
@[simp] theorem State.setPair_hp (lo hi : RegDef) (v i k : Nat) : (s.setPair lo hi v i k).hp = s.hp := rfl
@[simp] theorem State.setPair_ol (lo hi : RegDef) (v i k : Nat) : (s.setPair lo hi v i k).ol = s.ol := rfl
@[simp] theorem State.setPair_plan (lo hi : RegDef) (v i k : Nat) : (s.setPair lo hi v i k).plan = s.plan := rfl
@[simp] theorem State.setPair_fw (lo hi : RegDef) (v i k : Nat) : (s.setPair lo hi v i k).fw = s.fw := rfl
@[simp] theorem State.setPair_consort (lo hi : RegDef) (v i k : Nat) : (s.setPair lo hi v i k).consort = s.consort := rfl
@[simp] theorem State.setPair_tp (lo hi : RegDef) (v i k : Nat) : (s.setPair lo hi v i k).tp = s.tp := rfl
@[simp] theorem State.setPair_redm (lo hi : RegDef) (v i k : Nat) : (s.setPair lo hi v i k).redm = s.redm := rfl
@[simp] theorem State.setPair_redWait (lo hi : RegDef) (v i k : Nat) : (s.setPair lo hi v i k).redWait = s.redWait := rfl
@[simp] theorem State.setPair_hash (lo hi : RegDef) (v i k : Nat) : (s.setPair lo hi v i k).hash = s.hash := rfl
@[simp] theorem State.setPair_replay (lo hi : RegDef) (v i k : Nat) : (s.setPair lo hi v i k).replay = s.replay := rfl
@[simp] theorem State.setPair_bn (lo hi : RegDef) (v i k : Nat) : (s.setPair lo hi v i k).bn = s.bn := rfl
@[simp] theorem State.setPair_snap (lo hi : RegDef) (v i k : Nat) : (s.setPair lo hi v i k).snap = s.snap := rfl
@[simp] theorem State.setPair_scan (lo hi : RegDef) (v i k : Nat) : (s.setPair lo hi v i k).scan = s.scan := rfl
@[simp] theorem State.setPair_tap (lo hi : RegDef) (v i k : Nat) : (s.setPair lo hi v i k).tap = s.tap := rfl
@[simp] theorem State.setPair_pins (lo hi : RegDef) (v i k : Nat) : (s.setPair lo hi v i k).pins = s.pins := rfl
@[simp] theorem State.setPair_nimap (lo hi : RegDef) (v i k : Nat) : (s.setPair lo hi v i k).nimap = s.nimap := rfl
@[simp] theorem State.setPair_plot (lo hi : RegDef) (v i k : Nat) : (s.setPair lo hi v i k).plot = s.plot := rfl
@[simp] theorem State.setPair_cr (lo hi : RegDef) (v i k : Nat) : (s.setPair lo hi v i k).cr = s.cr := rfl
@[simp] theorem State.setPair_spad (lo hi : RegDef) (v i k : Nat) : (s.setPair lo hi v i k).spad = s.spad := rfl
@[simp] theorem State.setPair_hbm (lo hi : RegDef) (v i k : Nat) : (s.setPair lo hi v i k).hbm = s.hbm := rfl
@[simp] theorem State.setPair_flash (lo hi : RegDef) (v i k : Nat) : (s.setPair lo hi v i k).flash = s.flash := rfl
@[simp] theorem State.setPair_stamp (lo hi : RegDef) (v i k : Nat) : (s.setPair lo hi v i k).stamp = s.stamp := rfl
@[simp] theorem State.setPair_woken (lo hi : RegDef) (v i k : Nat) : (s.setPair lo hi v i k).woken = s.woken := rfl
@[simp] theorem State.setPair_stopped (lo hi : RegDef) (v i k : Nat) : (s.setPair lo hi v i k).stopped = s.stopped := rfl
@[simp] theorem State.setPair_fresh (lo hi : RegDef) (v i k : Nat) : (s.setPair lo hi v i k).fresh = s.fresh := rfl
@[simp] theorem State.setPair_pending (lo hi : RegDef) (v i k : Nat) : (s.setPair lo hi v i k).pending = s.pending := rfl

/-! ## addPair -/

@[simp] theorem State.addPair_time (lo hi : RegDef) (v i k : Nat) : (s.addPair lo hi v i k).time = s.time := rfl
@[simp] theorem State.addPair_chr (lo hi : RegDef) (v i k : Nat) : (s.addPair lo hi v i k).chr = s.chr := rfl
@[simp] theorem State.addPair_fuse (lo hi : RegDef) (v i k : Nat) : (s.addPair lo hi v i k).fuse = s.fuse := rfl
@[simp] theorem State.addPair_latch (lo hi : RegDef) (v i k : Nat) : (s.addPair lo hi v i k).latch = s.latch := rfl
@[simp] theorem State.addPair_rgn (lo hi : RegDef) (v i k : Nat) : (s.addPair lo hi v i k).rgn = s.rgn := rfl
@[simp] theorem State.addPair_rtr (lo hi : RegDef) (v i k : Nat) : (s.addPair lo hi v i k).rtr = s.rtr := rfl
@[simp] theorem State.addPair_chart (lo hi : RegDef) (v i k : Nat) : (s.addPair lo hi v i k).chart = s.chart := rfl
@[simp] theorem State.addPair_sched (lo hi : RegDef) (v i k : Nat) : (s.addPair lo hi v i k).sched = s.sched := rfl
@[simp] theorem State.addPair_launches (lo hi : RegDef) (v i k : Nat) : (s.addPair lo hi v i k).launches = s.launches := rfl
@[simp] theorem State.addPair_net (lo hi : RegDef) (v i k : Nat) : (s.addPair lo hi v i k).net = s.net := rfl
@[simp] theorem State.addPair_flow (lo hi : RegDef) (v i k : Nat) : (s.addPair lo hi v i k).flow = s.flow := rfl
@[simp] theorem State.addPair_vt (lo hi : RegDef) (v i k : Nat) : (s.addPair lo hi v i k).vt = s.vt := rfl
@[simp] theorem State.addPair_otx (lo hi : RegDef) (v i k : Nat) : (s.addPair lo hi v i k).otx = s.otx := rfl
@[simp] theorem State.addPair_win (lo hi : RegDef) (v i k : Nat) : (s.addPair lo hi v i k).win = s.win := rfl
@[simp] theorem State.addPair_ledger (lo hi : RegDef) (v i k : Nat) : (s.addPair lo hi v i k).ledger = s.ledger := rfl
@[simp] theorem State.addPair_waiters (lo hi : RegDef) (v i k : Nat) : (s.addPair lo hi v i k).waiters = s.waiters := rfl
@[simp] theorem State.addPair_lastGrant (lo hi : RegDef) (v i k : Nat) : (s.addPair lo hi v i k).lastGrant = s.lastGrant := rfl
@[simp] theorem State.addPair_cancelled (lo hi : RegDef) (v i k : Nat) : (s.addPair lo hi v i k).cancelled = s.cancelled := rfl
@[simp] theorem State.addPair_receipts (lo hi : RegDef) (v i k : Nat) : (s.addPair lo hi v i k).receipts = s.receipts := rfl
@[simp] theorem State.addPair_xfers (lo hi : RegDef) (v i k : Nat) : (s.addPair lo hi v i k).xfers = s.xfers := rfl
@[simp] theorem State.addPair_ap (lo hi : RegDef) (v i k : Nat) : (s.addPair lo hi v i k).ap = s.ap := rfl
@[simp] theorem State.addPair_descs (lo hi : RegDef) (v i k : Nat) : (s.addPair lo hi v i k).descs = s.descs := rfl
@[simp] theorem State.addPair_cplq (lo hi : RegDef) (v i k : Nat) : (s.addPair lo hi v i k).cplq = s.cplq := rfl
@[simp] theorem State.addPair_ring (lo hi : RegDef) (v i k : Nat) : (s.addPair lo hi v i k).ring = s.ring := rfl
@[simp] theorem State.addPair_waits (lo hi : RegDef) (v i k : Nat) : (s.addPair lo hi v i k).waits = s.waits := rfl
@[simp] theorem State.addPair_sigLines (lo hi : RegDef) (v i k : Nat) : (s.addPair lo hi v i k).sigLines = s.sigLines := rfl
@[simp] theorem State.addPair_mp (lo hi : RegDef) (v i k : Nat) : (s.addPair lo hi v i k).mp = s.mp := rfl
@[simp] theorem State.addPair_slice (lo hi : RegDef) (v i k : Nat) : (s.addPair lo hi v i k).slice = s.slice := rfl
@[simp] theorem State.addPair_scrubs (lo hi : RegDef) (v i k : Nat) : (s.addPair lo hi v i k).scrubs = s.scrubs := rfl
@[simp] theorem State.addPair_err (lo hi : RegDef) (v i k : Nat) : (s.addPair lo hi v i k).err = s.err := rfl
@[simp] theorem State.addPair_fence (lo hi : RegDef) (v i k : Nat) : (s.addPair lo hi v i k).fence = s.fence := rfl
@[simp] theorem State.addPair_bnUp (lo hi : RegDef) (v i k : Nat) : (s.addPair lo hi v i k).bnUp = s.bnUp := rfl
@[simp] theorem State.addPair_logs (lo hi : RegDef) (v i k : Nat) : (s.addPair lo hi v i k).logs = s.logs := rfl
@[simp] theorem State.addPair_trace (lo hi : RegDef) (v i k : Nat) : (s.addPair lo hi v i k).trace = s.trace := rfl
@[simp] theorem State.addPair_hp (lo hi : RegDef) (v i k : Nat) : (s.addPair lo hi v i k).hp = s.hp := rfl
@[simp] theorem State.addPair_ol (lo hi : RegDef) (v i k : Nat) : (s.addPair lo hi v i k).ol = s.ol := rfl
@[simp] theorem State.addPair_plan (lo hi : RegDef) (v i k : Nat) : (s.addPair lo hi v i k).plan = s.plan := rfl
@[simp] theorem State.addPair_fw (lo hi : RegDef) (v i k : Nat) : (s.addPair lo hi v i k).fw = s.fw := rfl
@[simp] theorem State.addPair_consort (lo hi : RegDef) (v i k : Nat) : (s.addPair lo hi v i k).consort = s.consort := rfl
@[simp] theorem State.addPair_tp (lo hi : RegDef) (v i k : Nat) : (s.addPair lo hi v i k).tp = s.tp := rfl
@[simp] theorem State.addPair_redm (lo hi : RegDef) (v i k : Nat) : (s.addPair lo hi v i k).redm = s.redm := rfl
@[simp] theorem State.addPair_redWait (lo hi : RegDef) (v i k : Nat) : (s.addPair lo hi v i k).redWait = s.redWait := rfl
@[simp] theorem State.addPair_hash (lo hi : RegDef) (v i k : Nat) : (s.addPair lo hi v i k).hash = s.hash := rfl
@[simp] theorem State.addPair_replay (lo hi : RegDef) (v i k : Nat) : (s.addPair lo hi v i k).replay = s.replay := rfl
@[simp] theorem State.addPair_bn (lo hi : RegDef) (v i k : Nat) : (s.addPair lo hi v i k).bn = s.bn := rfl
@[simp] theorem State.addPair_snap (lo hi : RegDef) (v i k : Nat) : (s.addPair lo hi v i k).snap = s.snap := rfl
@[simp] theorem State.addPair_scan (lo hi : RegDef) (v i k : Nat) : (s.addPair lo hi v i k).scan = s.scan := rfl
@[simp] theorem State.addPair_tap (lo hi : RegDef) (v i k : Nat) : (s.addPair lo hi v i k).tap = s.tap := rfl
@[simp] theorem State.addPair_pins (lo hi : RegDef) (v i k : Nat) : (s.addPair lo hi v i k).pins = s.pins := rfl
@[simp] theorem State.addPair_nimap (lo hi : RegDef) (v i k : Nat) : (s.addPair lo hi v i k).nimap = s.nimap := rfl
@[simp] theorem State.addPair_plot (lo hi : RegDef) (v i k : Nat) : (s.addPair lo hi v i k).plot = s.plot := rfl
@[simp] theorem State.addPair_cr (lo hi : RegDef) (v i k : Nat) : (s.addPair lo hi v i k).cr = s.cr := rfl
@[simp] theorem State.addPair_spad (lo hi : RegDef) (v i k : Nat) : (s.addPair lo hi v i k).spad = s.spad := rfl
@[simp] theorem State.addPair_hbm (lo hi : RegDef) (v i k : Nat) : (s.addPair lo hi v i k).hbm = s.hbm := rfl
@[simp] theorem State.addPair_flash (lo hi : RegDef) (v i k : Nat) : (s.addPair lo hi v i k).flash = s.flash := rfl
@[simp] theorem State.addPair_stamp (lo hi : RegDef) (v i k : Nat) : (s.addPair lo hi v i k).stamp = s.stamp := rfl
@[simp] theorem State.addPair_woken (lo hi : RegDef) (v i k : Nat) : (s.addPair lo hi v i k).woken = s.woken := rfl
@[simp] theorem State.addPair_stopped (lo hi : RegDef) (v i k : Nat) : (s.addPair lo hi v i k).stopped = s.stopped := rfl
@[simp] theorem State.addPair_fresh (lo hi : RegDef) (v i k : Nat) : (s.addPair lo hi v i k).fresh = s.fresh := rfl
@[simp] theorem State.addPair_pending (lo hi : RegDef) (v i k : Nat) : (s.addPair lo hi v i k).pending = s.pending := rfl

/-! ## writeTyped -/

@[simp] theorem State.writeTyped_time (r : RegDef) (i k v : Nat) : (s.writeTyped r i k v).time = s.time := rfl
@[simp] theorem State.writeTyped_chr (r : RegDef) (i k v : Nat) : (s.writeTyped r i k v).chr = s.chr := rfl
@[simp] theorem State.writeTyped_fuse (r : RegDef) (i k v : Nat) : (s.writeTyped r i k v).fuse = s.fuse := rfl
@[simp] theorem State.writeTyped_latch (r : RegDef) (i k v : Nat) : (s.writeTyped r i k v).latch = s.latch := rfl
@[simp] theorem State.writeTyped_rgn (r : RegDef) (i k v : Nat) : (s.writeTyped r i k v).rgn = s.rgn := rfl
@[simp] theorem State.writeTyped_rtr (r : RegDef) (i k v : Nat) : (s.writeTyped r i k v).rtr = s.rtr := rfl
@[simp] theorem State.writeTyped_chart (r : RegDef) (i k v : Nat) : (s.writeTyped r i k v).chart = s.chart := rfl
@[simp] theorem State.writeTyped_sched (r : RegDef) (i k v : Nat) : (s.writeTyped r i k v).sched = s.sched := rfl
@[simp] theorem State.writeTyped_launches (r : RegDef) (i k v : Nat) : (s.writeTyped r i k v).launches = s.launches := rfl
@[simp] theorem State.writeTyped_net (r : RegDef) (i k v : Nat) : (s.writeTyped r i k v).net = s.net := rfl
@[simp] theorem State.writeTyped_flow (r : RegDef) (i k v : Nat) : (s.writeTyped r i k v).flow = s.flow := rfl
@[simp] theorem State.writeTyped_vt (r : RegDef) (i k v : Nat) : (s.writeTyped r i k v).vt = s.vt := rfl
@[simp] theorem State.writeTyped_otx (r : RegDef) (i k v : Nat) : (s.writeTyped r i k v).otx = s.otx := rfl
@[simp] theorem State.writeTyped_win (r : RegDef) (i k v : Nat) : (s.writeTyped r i k v).win = s.win := rfl
@[simp] theorem State.writeTyped_ledger (r : RegDef) (i k v : Nat) : (s.writeTyped r i k v).ledger = s.ledger := rfl
@[simp] theorem State.writeTyped_waiters (r : RegDef) (i k v : Nat) : (s.writeTyped r i k v).waiters = s.waiters := rfl
@[simp] theorem State.writeTyped_lastGrant (r : RegDef) (i k v : Nat) : (s.writeTyped r i k v).lastGrant = s.lastGrant := rfl
@[simp] theorem State.writeTyped_cancelled (r : RegDef) (i k v : Nat) : (s.writeTyped r i k v).cancelled = s.cancelled := rfl
@[simp] theorem State.writeTyped_receipts (r : RegDef) (i k v : Nat) : (s.writeTyped r i k v).receipts = s.receipts := rfl
@[simp] theorem State.writeTyped_xfers (r : RegDef) (i k v : Nat) : (s.writeTyped r i k v).xfers = s.xfers := rfl
@[simp] theorem State.writeTyped_ap (r : RegDef) (i k v : Nat) : (s.writeTyped r i k v).ap = s.ap := rfl
@[simp] theorem State.writeTyped_descs (r : RegDef) (i k v : Nat) : (s.writeTyped r i k v).descs = s.descs := rfl
@[simp] theorem State.writeTyped_cplq (r : RegDef) (i k v : Nat) : (s.writeTyped r i k v).cplq = s.cplq := rfl
@[simp] theorem State.writeTyped_ring (r : RegDef) (i k v : Nat) : (s.writeTyped r i k v).ring = s.ring := rfl
@[simp] theorem State.writeTyped_waits (r : RegDef) (i k v : Nat) : (s.writeTyped r i k v).waits = s.waits := rfl
@[simp] theorem State.writeTyped_sigLines (r : RegDef) (i k v : Nat) : (s.writeTyped r i k v).sigLines = s.sigLines := rfl
@[simp] theorem State.writeTyped_mp (r : RegDef) (i k v : Nat) : (s.writeTyped r i k v).mp = s.mp := rfl
@[simp] theorem State.writeTyped_slice (r : RegDef) (i k v : Nat) : (s.writeTyped r i k v).slice = s.slice := rfl
@[simp] theorem State.writeTyped_scrubs (r : RegDef) (i k v : Nat) : (s.writeTyped r i k v).scrubs = s.scrubs := rfl
@[simp] theorem State.writeTyped_err (r : RegDef) (i k v : Nat) : (s.writeTyped r i k v).err = s.err := rfl
@[simp] theorem State.writeTyped_fence (r : RegDef) (i k v : Nat) : (s.writeTyped r i k v).fence = s.fence := rfl
@[simp] theorem State.writeTyped_bnUp (r : RegDef) (i k v : Nat) : (s.writeTyped r i k v).bnUp = s.bnUp := rfl
@[simp] theorem State.writeTyped_logs (r : RegDef) (i k v : Nat) : (s.writeTyped r i k v).logs = s.logs := rfl
@[simp] theorem State.writeTyped_trace (r : RegDef) (i k v : Nat) : (s.writeTyped r i k v).trace = s.trace := rfl
@[simp] theorem State.writeTyped_hp (r : RegDef) (i k v : Nat) : (s.writeTyped r i k v).hp = s.hp := rfl
@[simp] theorem State.writeTyped_ol (r : RegDef) (i k v : Nat) : (s.writeTyped r i k v).ol = s.ol := rfl
@[simp] theorem State.writeTyped_plan (r : RegDef) (i k v : Nat) : (s.writeTyped r i k v).plan = s.plan := rfl
@[simp] theorem State.writeTyped_fw (r : RegDef) (i k v : Nat) : (s.writeTyped r i k v).fw = s.fw := rfl
@[simp] theorem State.writeTyped_consort (r : RegDef) (i k v : Nat) : (s.writeTyped r i k v).consort = s.consort := rfl
@[simp] theorem State.writeTyped_tp (r : RegDef) (i k v : Nat) : (s.writeTyped r i k v).tp = s.tp := rfl
@[simp] theorem State.writeTyped_redm (r : RegDef) (i k v : Nat) : (s.writeTyped r i k v).redm = s.redm := rfl
@[simp] theorem State.writeTyped_redWait (r : RegDef) (i k v : Nat) : (s.writeTyped r i k v).redWait = s.redWait := rfl
@[simp] theorem State.writeTyped_hash (r : RegDef) (i k v : Nat) : (s.writeTyped r i k v).hash = s.hash := rfl
@[simp] theorem State.writeTyped_replay (r : RegDef) (i k v : Nat) : (s.writeTyped r i k v).replay = s.replay := rfl
@[simp] theorem State.writeTyped_bn (r : RegDef) (i k v : Nat) : (s.writeTyped r i k v).bn = s.bn := rfl
@[simp] theorem State.writeTyped_snap (r : RegDef) (i k v : Nat) : (s.writeTyped r i k v).snap = s.snap := rfl
@[simp] theorem State.writeTyped_scan (r : RegDef) (i k v : Nat) : (s.writeTyped r i k v).scan = s.scan := rfl
@[simp] theorem State.writeTyped_tap (r : RegDef) (i k v : Nat) : (s.writeTyped r i k v).tap = s.tap := rfl
@[simp] theorem State.writeTyped_pins (r : RegDef) (i k v : Nat) : (s.writeTyped r i k v).pins = s.pins := rfl
@[simp] theorem State.writeTyped_nimap (r : RegDef) (i k v : Nat) : (s.writeTyped r i k v).nimap = s.nimap := rfl
@[simp] theorem State.writeTyped_plot (r : RegDef) (i k v : Nat) : (s.writeTyped r i k v).plot = s.plot := rfl
@[simp] theorem State.writeTyped_cr (r : RegDef) (i k v : Nat) : (s.writeTyped r i k v).cr = s.cr := rfl
@[simp] theorem State.writeTyped_spad (r : RegDef) (i k v : Nat) : (s.writeTyped r i k v).spad = s.spad := rfl
@[simp] theorem State.writeTyped_hbm (r : RegDef) (i k v : Nat) : (s.writeTyped r i k v).hbm = s.hbm := rfl
@[simp] theorem State.writeTyped_flash (r : RegDef) (i k v : Nat) : (s.writeTyped r i k v).flash = s.flash := rfl
@[simp] theorem State.writeTyped_stamp (r : RegDef) (i k v : Nat) : (s.writeTyped r i k v).stamp = s.stamp := rfl
@[simp] theorem State.writeTyped_woken (r : RegDef) (i k v : Nat) : (s.writeTyped r i k v).woken = s.woken := rfl
@[simp] theorem State.writeTyped_stopped (r : RegDef) (i k v : Nat) : (s.writeTyped r i k v).stopped = s.stopped := rfl
@[simp] theorem State.writeTyped_fresh (r : RegDef) (i k v : Nat) : (s.writeTyped r i k v).fresh = s.fresh := rfl
@[simp] theorem State.writeTyped_pending (r : RegDef) (i k v : Nat) : (s.writeTyped r i k v).pending = s.pending := rfl

/-! ## push -/

@[simp] theorem State.push_time (pl : Place) (p : Pkt) : (s.push pl p).time = s.time := rfl
@[simp] theorem State.push_chr (pl : Place) (p : Pkt) : (s.push pl p).chr = s.chr := rfl
@[simp] theorem State.push_fuse (pl : Place) (p : Pkt) : (s.push pl p).fuse = s.fuse := rfl
@[simp] theorem State.push_regs (pl : Place) (p : Pkt) : (s.push pl p).regs = s.regs := rfl
@[simp] theorem State.push_latch (pl : Place) (p : Pkt) : (s.push pl p).latch = s.latch := rfl
@[simp] theorem State.push_rgn (pl : Place) (p : Pkt) : (s.push pl p).rgn = s.rgn := rfl
@[simp] theorem State.push_rtr (pl : Place) (p : Pkt) : (s.push pl p).rtr = s.rtr := rfl
@[simp] theorem State.push_chart (pl : Place) (p : Pkt) : (s.push pl p).chart = s.chart := rfl
@[simp] theorem State.push_sched (pl : Place) (p : Pkt) : (s.push pl p).sched = s.sched := rfl
@[simp] theorem State.push_launches (pl : Place) (p : Pkt) : (s.push pl p).launches = s.launches := rfl
@[simp] theorem State.push_flow (pl : Place) (p : Pkt) : (s.push pl p).flow = s.flow := rfl
@[simp] theorem State.push_vt (pl : Place) (p : Pkt) : (s.push pl p).vt = s.vt := rfl
@[simp] theorem State.push_otx (pl : Place) (p : Pkt) : (s.push pl p).otx = s.otx := rfl
@[simp] theorem State.push_win (pl : Place) (p : Pkt) : (s.push pl p).win = s.win := rfl
@[simp] theorem State.push_ledger (pl : Place) (p : Pkt) : (s.push pl p).ledger = s.ledger := rfl
@[simp] theorem State.push_waiters (pl : Place) (p : Pkt) : (s.push pl p).waiters = s.waiters := rfl
@[simp] theorem State.push_lastGrant (pl : Place) (p : Pkt) : (s.push pl p).lastGrant = s.lastGrant := rfl
@[simp] theorem State.push_cancelled (pl : Place) (p : Pkt) : (s.push pl p).cancelled = s.cancelled := rfl
@[simp] theorem State.push_receipts (pl : Place) (p : Pkt) : (s.push pl p).receipts = s.receipts := rfl
@[simp] theorem State.push_xfers (pl : Place) (p : Pkt) : (s.push pl p).xfers = s.xfers := rfl
@[simp] theorem State.push_ap (pl : Place) (p : Pkt) : (s.push pl p).ap = s.ap := rfl
@[simp] theorem State.push_descs (pl : Place) (p : Pkt) : (s.push pl p).descs = s.descs := rfl
@[simp] theorem State.push_cplq (pl : Place) (p : Pkt) : (s.push pl p).cplq = s.cplq := rfl
@[simp] theorem State.push_ring (pl : Place) (p : Pkt) : (s.push pl p).ring = s.ring := rfl
@[simp] theorem State.push_waits (pl : Place) (p : Pkt) : (s.push pl p).waits = s.waits := rfl
@[simp] theorem State.push_sigLines (pl : Place) (p : Pkt) : (s.push pl p).sigLines = s.sigLines := rfl
@[simp] theorem State.push_mp (pl : Place) (p : Pkt) : (s.push pl p).mp = s.mp := rfl
@[simp] theorem State.push_slice (pl : Place) (p : Pkt) : (s.push pl p).slice = s.slice := rfl
@[simp] theorem State.push_scrubs (pl : Place) (p : Pkt) : (s.push pl p).scrubs = s.scrubs := rfl
@[simp] theorem State.push_err (pl : Place) (p : Pkt) : (s.push pl p).err = s.err := rfl
@[simp] theorem State.push_fence (pl : Place) (p : Pkt) : (s.push pl p).fence = s.fence := rfl
@[simp] theorem State.push_bnUp (pl : Place) (p : Pkt) : (s.push pl p).bnUp = s.bnUp := rfl
@[simp] theorem State.push_logs (pl : Place) (p : Pkt) : (s.push pl p).logs = s.logs := rfl
@[simp] theorem State.push_trace (pl : Place) (p : Pkt) : (s.push pl p).trace = s.trace := rfl
@[simp] theorem State.push_hp (pl : Place) (p : Pkt) : (s.push pl p).hp = s.hp := rfl
@[simp] theorem State.push_ol (pl : Place) (p : Pkt) : (s.push pl p).ol = s.ol := rfl
@[simp] theorem State.push_plan (pl : Place) (p : Pkt) : (s.push pl p).plan = s.plan := rfl
@[simp] theorem State.push_fw (pl : Place) (p : Pkt) : (s.push pl p).fw = s.fw := rfl
@[simp] theorem State.push_consort (pl : Place) (p : Pkt) : (s.push pl p).consort = s.consort := rfl
@[simp] theorem State.push_tp (pl : Place) (p : Pkt) : (s.push pl p).tp = s.tp := rfl
@[simp] theorem State.push_redm (pl : Place) (p : Pkt) : (s.push pl p).redm = s.redm := rfl
@[simp] theorem State.push_redWait (pl : Place) (p : Pkt) : (s.push pl p).redWait = s.redWait := rfl
@[simp] theorem State.push_hash (pl : Place) (p : Pkt) : (s.push pl p).hash = s.hash := rfl
@[simp] theorem State.push_replay (pl : Place) (p : Pkt) : (s.push pl p).replay = s.replay := rfl
@[simp] theorem State.push_bn (pl : Place) (p : Pkt) : (s.push pl p).bn = s.bn := rfl
@[simp] theorem State.push_snap (pl : Place) (p : Pkt) : (s.push pl p).snap = s.snap := rfl
@[simp] theorem State.push_scan (pl : Place) (p : Pkt) : (s.push pl p).scan = s.scan := rfl
@[simp] theorem State.push_tap (pl : Place) (p : Pkt) : (s.push pl p).tap = s.tap := rfl
@[simp] theorem State.push_pins (pl : Place) (p : Pkt) : (s.push pl p).pins = s.pins := rfl
@[simp] theorem State.push_nimap (pl : Place) (p : Pkt) : (s.push pl p).nimap = s.nimap := rfl
@[simp] theorem State.push_plot (pl : Place) (p : Pkt) : (s.push pl p).plot = s.plot := rfl
@[simp] theorem State.push_cr (pl : Place) (p : Pkt) : (s.push pl p).cr = s.cr := rfl
@[simp] theorem State.push_spad (pl : Place) (p : Pkt) : (s.push pl p).spad = s.spad := rfl
@[simp] theorem State.push_hbm (pl : Place) (p : Pkt) : (s.push pl p).hbm = s.hbm := rfl
@[simp] theorem State.push_flash (pl : Place) (p : Pkt) : (s.push pl p).flash = s.flash := rfl
@[simp] theorem State.push_stamp (pl : Place) (p : Pkt) : (s.push pl p).stamp = s.stamp := rfl
@[simp] theorem State.push_woken (pl : Place) (p : Pkt) : (s.push pl p).woken = s.woken := rfl
@[simp] theorem State.push_stopped (pl : Place) (p : Pkt) : (s.push pl p).stopped = s.stopped := rfl
@[simp] theorem State.push_fresh (pl : Place) (p : Pkt) : (s.push pl p).fresh = s.fresh := rfl
@[simp] theorem State.push_pending (pl : Place) (p : Pkt) : (s.push pl p).pending = s.pending := rfl

/-! ## emit -/

@[simp] theorem State.emit_time (p : Pkt) : (s.emit p).time = s.time := rfl
@[simp] theorem State.emit_chr (p : Pkt) : (s.emit p).chr = s.chr := rfl
@[simp] theorem State.emit_fuse (p : Pkt) : (s.emit p).fuse = s.fuse := rfl
@[simp] theorem State.emit_regs (p : Pkt) : (s.emit p).regs = s.regs := rfl
@[simp] theorem State.emit_latch (p : Pkt) : (s.emit p).latch = s.latch := rfl
@[simp] theorem State.emit_rgn (p : Pkt) : (s.emit p).rgn = s.rgn := rfl
@[simp] theorem State.emit_rtr (p : Pkt) : (s.emit p).rtr = s.rtr := rfl
@[simp] theorem State.emit_chart (p : Pkt) : (s.emit p).chart = s.chart := rfl
@[simp] theorem State.emit_sched (p : Pkt) : (s.emit p).sched = s.sched := rfl
@[simp] theorem State.emit_launches (p : Pkt) : (s.emit p).launches = s.launches := rfl
@[simp] theorem State.emit_flow (p : Pkt) : (s.emit p).flow = s.flow := rfl
@[simp] theorem State.emit_vt (p : Pkt) : (s.emit p).vt = s.vt := rfl
@[simp] theorem State.emit_otx (p : Pkt) : (s.emit p).otx = s.otx := rfl
@[simp] theorem State.emit_win (p : Pkt) : (s.emit p).win = s.win := rfl
@[simp] theorem State.emit_ledger (p : Pkt) : (s.emit p).ledger = s.ledger := rfl
@[simp] theorem State.emit_waiters (p : Pkt) : (s.emit p).waiters = s.waiters := rfl
@[simp] theorem State.emit_lastGrant (p : Pkt) : (s.emit p).lastGrant = s.lastGrant := rfl
@[simp] theorem State.emit_cancelled (p : Pkt) : (s.emit p).cancelled = s.cancelled := rfl
@[simp] theorem State.emit_receipts (p : Pkt) : (s.emit p).receipts = s.receipts := rfl
@[simp] theorem State.emit_xfers (p : Pkt) : (s.emit p).xfers = s.xfers := rfl
@[simp] theorem State.emit_ap (p : Pkt) : (s.emit p).ap = s.ap := rfl
@[simp] theorem State.emit_descs (p : Pkt) : (s.emit p).descs = s.descs := rfl
@[simp] theorem State.emit_cplq (p : Pkt) : (s.emit p).cplq = s.cplq := rfl
@[simp] theorem State.emit_ring (p : Pkt) : (s.emit p).ring = s.ring := rfl
@[simp] theorem State.emit_waits (p : Pkt) : (s.emit p).waits = s.waits := rfl
@[simp] theorem State.emit_sigLines (p : Pkt) : (s.emit p).sigLines = s.sigLines := rfl
@[simp] theorem State.emit_mp (p : Pkt) : (s.emit p).mp = s.mp := rfl
@[simp] theorem State.emit_slice (p : Pkt) : (s.emit p).slice = s.slice := rfl
@[simp] theorem State.emit_scrubs (p : Pkt) : (s.emit p).scrubs = s.scrubs := rfl
@[simp] theorem State.emit_err (p : Pkt) : (s.emit p).err = s.err := rfl
@[simp] theorem State.emit_fence (p : Pkt) : (s.emit p).fence = s.fence := rfl
@[simp] theorem State.emit_bnUp (p : Pkt) : (s.emit p).bnUp = s.bnUp := rfl
@[simp] theorem State.emit_logs (p : Pkt) : (s.emit p).logs = s.logs := rfl
@[simp] theorem State.emit_trace (p : Pkt) : (s.emit p).trace = s.trace := rfl
@[simp] theorem State.emit_hp (p : Pkt) : (s.emit p).hp = s.hp := rfl
@[simp] theorem State.emit_ol (p : Pkt) : (s.emit p).ol = s.ol := rfl
@[simp] theorem State.emit_plan (p : Pkt) : (s.emit p).plan = s.plan := rfl
@[simp] theorem State.emit_fw (p : Pkt) : (s.emit p).fw = s.fw := rfl
@[simp] theorem State.emit_consort (p : Pkt) : (s.emit p).consort = s.consort := rfl
@[simp] theorem State.emit_tp (p : Pkt) : (s.emit p).tp = s.tp := rfl
@[simp] theorem State.emit_redm (p : Pkt) : (s.emit p).redm = s.redm := rfl
@[simp] theorem State.emit_redWait (p : Pkt) : (s.emit p).redWait = s.redWait := rfl
@[simp] theorem State.emit_hash (p : Pkt) : (s.emit p).hash = s.hash := rfl
@[simp] theorem State.emit_replay (p : Pkt) : (s.emit p).replay = s.replay := rfl
@[simp] theorem State.emit_bn (p : Pkt) : (s.emit p).bn = s.bn := rfl
@[simp] theorem State.emit_snap (p : Pkt) : (s.emit p).snap = s.snap := rfl
@[simp] theorem State.emit_scan (p : Pkt) : (s.emit p).scan = s.scan := rfl
@[simp] theorem State.emit_tap (p : Pkt) : (s.emit p).tap = s.tap := rfl
@[simp] theorem State.emit_pins (p : Pkt) : (s.emit p).pins = s.pins := rfl
@[simp] theorem State.emit_nimap (p : Pkt) : (s.emit p).nimap = s.nimap := rfl
@[simp] theorem State.emit_plot (p : Pkt) : (s.emit p).plot = s.plot := rfl
@[simp] theorem State.emit_cr (p : Pkt) : (s.emit p).cr = s.cr := rfl
@[simp] theorem State.emit_spad (p : Pkt) : (s.emit p).spad = s.spad := rfl
@[simp] theorem State.emit_hbm (p : Pkt) : (s.emit p).hbm = s.hbm := rfl
@[simp] theorem State.emit_flash (p : Pkt) : (s.emit p).flash = s.flash := rfl
@[simp] theorem State.emit_stamp (p : Pkt) : (s.emit p).stamp = s.stamp := rfl
@[simp] theorem State.emit_woken (p : Pkt) : (s.emit p).woken = s.woken := rfl
@[simp] theorem State.emit_stopped (p : Pkt) : (s.emit p).stopped = s.stopped := rfl
@[simp] theorem State.emit_fresh (p : Pkt) : (s.emit p).fresh = s.fresh := rfl
@[simp] theorem State.emit_pending (p : Pkt) : (s.emit p).pending = s.pending := rfl

/-! ## takeNet -/

@[simp] theorem State.takeNet_time (pl : Place) (p : Pkt) : (s.takeNet pl p).time = s.time := rfl
@[simp] theorem State.takeNet_chr (pl : Place) (p : Pkt) : (s.takeNet pl p).chr = s.chr := rfl
@[simp] theorem State.takeNet_fuse (pl : Place) (p : Pkt) : (s.takeNet pl p).fuse = s.fuse := rfl
@[simp] theorem State.takeNet_regs (pl : Place) (p : Pkt) : (s.takeNet pl p).regs = s.regs := rfl
@[simp] theorem State.takeNet_latch (pl : Place) (p : Pkt) : (s.takeNet pl p).latch = s.latch := rfl
@[simp] theorem State.takeNet_rgn (pl : Place) (p : Pkt) : (s.takeNet pl p).rgn = s.rgn := rfl
@[simp] theorem State.takeNet_rtr (pl : Place) (p : Pkt) : (s.takeNet pl p).rtr = s.rtr := rfl
@[simp] theorem State.takeNet_chart (pl : Place) (p : Pkt) : (s.takeNet pl p).chart = s.chart := rfl
@[simp] theorem State.takeNet_sched (pl : Place) (p : Pkt) : (s.takeNet pl p).sched = s.sched := rfl
@[simp] theorem State.takeNet_launches (pl : Place) (p : Pkt) : (s.takeNet pl p).launches = s.launches := rfl
@[simp] theorem State.takeNet_flow (pl : Place) (p : Pkt) : (s.takeNet pl p).flow = s.flow := rfl
@[simp] theorem State.takeNet_vt (pl : Place) (p : Pkt) : (s.takeNet pl p).vt = s.vt := rfl
@[simp] theorem State.takeNet_otx (pl : Place) (p : Pkt) : (s.takeNet pl p).otx = s.otx := rfl
@[simp] theorem State.takeNet_win (pl : Place) (p : Pkt) : (s.takeNet pl p).win = s.win := rfl
@[simp] theorem State.takeNet_ledger (pl : Place) (p : Pkt) : (s.takeNet pl p).ledger = s.ledger := rfl
@[simp] theorem State.takeNet_waiters (pl : Place) (p : Pkt) : (s.takeNet pl p).waiters = s.waiters := rfl
@[simp] theorem State.takeNet_lastGrant (pl : Place) (p : Pkt) : (s.takeNet pl p).lastGrant = s.lastGrant := rfl
@[simp] theorem State.takeNet_cancelled (pl : Place) (p : Pkt) : (s.takeNet pl p).cancelled = s.cancelled := rfl
@[simp] theorem State.takeNet_receipts (pl : Place) (p : Pkt) : (s.takeNet pl p).receipts = s.receipts := rfl
@[simp] theorem State.takeNet_xfers (pl : Place) (p : Pkt) : (s.takeNet pl p).xfers = s.xfers := rfl
@[simp] theorem State.takeNet_ap (pl : Place) (p : Pkt) : (s.takeNet pl p).ap = s.ap := rfl
@[simp] theorem State.takeNet_descs (pl : Place) (p : Pkt) : (s.takeNet pl p).descs = s.descs := rfl
@[simp] theorem State.takeNet_cplq (pl : Place) (p : Pkt) : (s.takeNet pl p).cplq = s.cplq := rfl
@[simp] theorem State.takeNet_ring (pl : Place) (p : Pkt) : (s.takeNet pl p).ring = s.ring := rfl
@[simp] theorem State.takeNet_waits (pl : Place) (p : Pkt) : (s.takeNet pl p).waits = s.waits := rfl
@[simp] theorem State.takeNet_sigLines (pl : Place) (p : Pkt) : (s.takeNet pl p).sigLines = s.sigLines := rfl
@[simp] theorem State.takeNet_mp (pl : Place) (p : Pkt) : (s.takeNet pl p).mp = s.mp := rfl
@[simp] theorem State.takeNet_slice (pl : Place) (p : Pkt) : (s.takeNet pl p).slice = s.slice := rfl
@[simp] theorem State.takeNet_scrubs (pl : Place) (p : Pkt) : (s.takeNet pl p).scrubs = s.scrubs := rfl
@[simp] theorem State.takeNet_err (pl : Place) (p : Pkt) : (s.takeNet pl p).err = s.err := rfl
@[simp] theorem State.takeNet_fence (pl : Place) (p : Pkt) : (s.takeNet pl p).fence = s.fence := rfl
@[simp] theorem State.takeNet_bnUp (pl : Place) (p : Pkt) : (s.takeNet pl p).bnUp = s.bnUp := rfl
@[simp] theorem State.takeNet_logs (pl : Place) (p : Pkt) : (s.takeNet pl p).logs = s.logs := rfl
@[simp] theorem State.takeNet_trace (pl : Place) (p : Pkt) : (s.takeNet pl p).trace = s.trace := rfl
@[simp] theorem State.takeNet_hp (pl : Place) (p : Pkt) : (s.takeNet pl p).hp = s.hp := rfl
@[simp] theorem State.takeNet_ol (pl : Place) (p : Pkt) : (s.takeNet pl p).ol = s.ol := rfl
@[simp] theorem State.takeNet_plan (pl : Place) (p : Pkt) : (s.takeNet pl p).plan = s.plan := rfl
@[simp] theorem State.takeNet_fw (pl : Place) (p : Pkt) : (s.takeNet pl p).fw = s.fw := rfl
@[simp] theorem State.takeNet_consort (pl : Place) (p : Pkt) : (s.takeNet pl p).consort = s.consort := rfl
@[simp] theorem State.takeNet_tp (pl : Place) (p : Pkt) : (s.takeNet pl p).tp = s.tp := rfl
@[simp] theorem State.takeNet_redm (pl : Place) (p : Pkt) : (s.takeNet pl p).redm = s.redm := rfl
@[simp] theorem State.takeNet_redWait (pl : Place) (p : Pkt) : (s.takeNet pl p).redWait = s.redWait := rfl
@[simp] theorem State.takeNet_hash (pl : Place) (p : Pkt) : (s.takeNet pl p).hash = s.hash := rfl
@[simp] theorem State.takeNet_replay (pl : Place) (p : Pkt) : (s.takeNet pl p).replay = s.replay := rfl
@[simp] theorem State.takeNet_bn (pl : Place) (p : Pkt) : (s.takeNet pl p).bn = s.bn := rfl
@[simp] theorem State.takeNet_snap (pl : Place) (p : Pkt) : (s.takeNet pl p).snap = s.snap := rfl
@[simp] theorem State.takeNet_scan (pl : Place) (p : Pkt) : (s.takeNet pl p).scan = s.scan := rfl
@[simp] theorem State.takeNet_tap (pl : Place) (p : Pkt) : (s.takeNet pl p).tap = s.tap := rfl
@[simp] theorem State.takeNet_pins (pl : Place) (p : Pkt) : (s.takeNet pl p).pins = s.pins := rfl
@[simp] theorem State.takeNet_nimap (pl : Place) (p : Pkt) : (s.takeNet pl p).nimap = s.nimap := rfl
@[simp] theorem State.takeNet_plot (pl : Place) (p : Pkt) : (s.takeNet pl p).plot = s.plot := rfl
@[simp] theorem State.takeNet_cr (pl : Place) (p : Pkt) : (s.takeNet pl p).cr = s.cr := rfl
@[simp] theorem State.takeNet_spad (pl : Place) (p : Pkt) : (s.takeNet pl p).spad = s.spad := rfl
@[simp] theorem State.takeNet_hbm (pl : Place) (p : Pkt) : (s.takeNet pl p).hbm = s.hbm := rfl
@[simp] theorem State.takeNet_flash (pl : Place) (p : Pkt) : (s.takeNet pl p).flash = s.flash := rfl
@[simp] theorem State.takeNet_stamp (pl : Place) (p : Pkt) : (s.takeNet pl p).stamp = s.stamp := rfl
@[simp] theorem State.takeNet_woken (pl : Place) (p : Pkt) : (s.takeNet pl p).woken = s.woken := rfl
@[simp] theorem State.takeNet_stopped (pl : Place) (p : Pkt) : (s.takeNet pl p).stopped = s.stopped := rfl
@[simp] theorem State.takeNet_fresh (pl : Place) (p : Pkt) : (s.takeNet pl p).fresh = s.fresh := rfl
@[simp] theorem State.takeNet_pending (pl : Place) (p : Pkt) : (s.takeNet pl p).pending = s.pending := rfl

/-! ## addTx -/

@[simp] theorem State.addTx_time (o : OTx) : (s.addTx o).time = s.time := rfl
@[simp] theorem State.addTx_chr (o : OTx) : (s.addTx o).chr = s.chr := rfl
@[simp] theorem State.addTx_fuse (o : OTx) : (s.addTx o).fuse = s.fuse := rfl
@[simp] theorem State.addTx_regs (o : OTx) : (s.addTx o).regs = s.regs := rfl
@[simp] theorem State.addTx_latch (o : OTx) : (s.addTx o).latch = s.latch := rfl
@[simp] theorem State.addTx_rgn (o : OTx) : (s.addTx o).rgn = s.rgn := rfl
@[simp] theorem State.addTx_rtr (o : OTx) : (s.addTx o).rtr = s.rtr := rfl
@[simp] theorem State.addTx_chart (o : OTx) : (s.addTx o).chart = s.chart := rfl
@[simp] theorem State.addTx_sched (o : OTx) : (s.addTx o).sched = s.sched := rfl
@[simp] theorem State.addTx_launches (o : OTx) : (s.addTx o).launches = s.launches := rfl
@[simp] theorem State.addTx_net (o : OTx) : (s.addTx o).net = s.net := rfl
@[simp] theorem State.addTx_flow (o : OTx) : (s.addTx o).flow = s.flow := rfl
@[simp] theorem State.addTx_vt (o : OTx) : (s.addTx o).vt = s.vt := rfl
@[simp] theorem State.addTx_win (o : OTx) : (s.addTx o).win = s.win := rfl
@[simp] theorem State.addTx_ledger (o : OTx) : (s.addTx o).ledger = s.ledger := rfl
@[simp] theorem State.addTx_waiters (o : OTx) : (s.addTx o).waiters = s.waiters := rfl
@[simp] theorem State.addTx_lastGrant (o : OTx) : (s.addTx o).lastGrant = s.lastGrant := rfl
@[simp] theorem State.addTx_receipts (o : OTx) : (s.addTx o).receipts = s.receipts := rfl
@[simp] theorem State.addTx_xfers (o : OTx) : (s.addTx o).xfers = s.xfers := rfl
@[simp] theorem State.addTx_ap (o : OTx) : (s.addTx o).ap = s.ap := rfl
@[simp] theorem State.addTx_descs (o : OTx) : (s.addTx o).descs = s.descs := rfl
@[simp] theorem State.addTx_cplq (o : OTx) : (s.addTx o).cplq = s.cplq := rfl
@[simp] theorem State.addTx_ring (o : OTx) : (s.addTx o).ring = s.ring := rfl
@[simp] theorem State.addTx_waits (o : OTx) : (s.addTx o).waits = s.waits := rfl
@[simp] theorem State.addTx_sigLines (o : OTx) : (s.addTx o).sigLines = s.sigLines := rfl
@[simp] theorem State.addTx_mp (o : OTx) : (s.addTx o).mp = s.mp := rfl
@[simp] theorem State.addTx_slice (o : OTx) : (s.addTx o).slice = s.slice := rfl
@[simp] theorem State.addTx_scrubs (o : OTx) : (s.addTx o).scrubs = s.scrubs := rfl
@[simp] theorem State.addTx_err (o : OTx) : (s.addTx o).err = s.err := rfl
@[simp] theorem State.addTx_fence (o : OTx) : (s.addTx o).fence = s.fence := rfl
@[simp] theorem State.addTx_bnUp (o : OTx) : (s.addTx o).bnUp = s.bnUp := rfl
@[simp] theorem State.addTx_logs (o : OTx) : (s.addTx o).logs = s.logs := rfl
@[simp] theorem State.addTx_trace (o : OTx) : (s.addTx o).trace = s.trace := rfl
@[simp] theorem State.addTx_hp (o : OTx) : (s.addTx o).hp = s.hp := rfl
@[simp] theorem State.addTx_ol (o : OTx) : (s.addTx o).ol = s.ol := rfl
@[simp] theorem State.addTx_plan (o : OTx) : (s.addTx o).plan = s.plan := rfl
@[simp] theorem State.addTx_fw (o : OTx) : (s.addTx o).fw = s.fw := rfl
@[simp] theorem State.addTx_consort (o : OTx) : (s.addTx o).consort = s.consort := rfl
@[simp] theorem State.addTx_tp (o : OTx) : (s.addTx o).tp = s.tp := rfl
@[simp] theorem State.addTx_redm (o : OTx) : (s.addTx o).redm = s.redm := rfl
@[simp] theorem State.addTx_redWait (o : OTx) : (s.addTx o).redWait = s.redWait := rfl
@[simp] theorem State.addTx_hash (o : OTx) : (s.addTx o).hash = s.hash := rfl
@[simp] theorem State.addTx_replay (o : OTx) : (s.addTx o).replay = s.replay := rfl
@[simp] theorem State.addTx_bn (o : OTx) : (s.addTx o).bn = s.bn := rfl
@[simp] theorem State.addTx_snap (o : OTx) : (s.addTx o).snap = s.snap := rfl
@[simp] theorem State.addTx_scan (o : OTx) : (s.addTx o).scan = s.scan := rfl
@[simp] theorem State.addTx_tap (o : OTx) : (s.addTx o).tap = s.tap := rfl
@[simp] theorem State.addTx_pins (o : OTx) : (s.addTx o).pins = s.pins := rfl
@[simp] theorem State.addTx_nimap (o : OTx) : (s.addTx o).nimap = s.nimap := rfl
@[simp] theorem State.addTx_plot (o : OTx) : (s.addTx o).plot = s.plot := rfl
@[simp] theorem State.addTx_cr (o : OTx) : (s.addTx o).cr = s.cr := rfl
@[simp] theorem State.addTx_spad (o : OTx) : (s.addTx o).spad = s.spad := rfl
@[simp] theorem State.addTx_hbm (o : OTx) : (s.addTx o).hbm = s.hbm := rfl
@[simp] theorem State.addTx_flash (o : OTx) : (s.addTx o).flash = s.flash := rfl
@[simp] theorem State.addTx_stamp (o : OTx) : (s.addTx o).stamp = s.stamp := rfl
@[simp] theorem State.addTx_woken (o : OTx) : (s.addTx o).woken = s.woken := rfl
@[simp] theorem State.addTx_stopped (o : OTx) : (s.addTx o).stopped = s.stopped := rfl
@[simp] theorem State.addTx_fresh (o : OTx) : (s.addTx o).fresh = s.fresh := rfl
@[simp] theorem State.addTx_pending (o : OTx) : (s.addTx o).pending = s.pending := rfl

/-! ## setRg -/

@[simp] theorem State.setRg_time (n : Nat) (r : Region) : (s.setRg n r).time = s.time := rfl
@[simp] theorem State.setRg_chr (n : Nat) (r : Region) : (s.setRg n r).chr = s.chr := rfl
@[simp] theorem State.setRg_fuse (n : Nat) (r : Region) : (s.setRg n r).fuse = s.fuse := rfl
@[simp] theorem State.setRg_regs (n : Nat) (r : Region) : (s.setRg n r).regs = s.regs := rfl
@[simp] theorem State.setRg_latch (n : Nat) (r : Region) : (s.setRg n r).latch = s.latch := rfl
@[simp] theorem State.setRg_rtr (n : Nat) (r : Region) : (s.setRg n r).rtr = s.rtr := rfl
@[simp] theorem State.setRg_chart (n : Nat) (r : Region) : (s.setRg n r).chart = s.chart := rfl
@[simp] theorem State.setRg_sched (n : Nat) (r : Region) : (s.setRg n r).sched = s.sched := rfl
@[simp] theorem State.setRg_launches (n : Nat) (r : Region) : (s.setRg n r).launches = s.launches := rfl
@[simp] theorem State.setRg_net (n : Nat) (r : Region) : (s.setRg n r).net = s.net := rfl
@[simp] theorem State.setRg_flow (n : Nat) (r : Region) : (s.setRg n r).flow = s.flow := rfl
@[simp] theorem State.setRg_vt (n : Nat) (r : Region) : (s.setRg n r).vt = s.vt := rfl
@[simp] theorem State.setRg_otx (n : Nat) (r : Region) : (s.setRg n r).otx = s.otx := rfl
@[simp] theorem State.setRg_win (n : Nat) (r : Region) : (s.setRg n r).win = s.win := rfl
@[simp] theorem State.setRg_ledger (n : Nat) (r : Region) : (s.setRg n r).ledger = s.ledger := rfl
@[simp] theorem State.setRg_waiters (n : Nat) (r : Region) : (s.setRg n r).waiters = s.waiters := rfl
@[simp] theorem State.setRg_lastGrant (n : Nat) (r : Region) : (s.setRg n r).lastGrant = s.lastGrant := rfl
@[simp] theorem State.setRg_cancelled (n : Nat) (r : Region) : (s.setRg n r).cancelled = s.cancelled := rfl
@[simp] theorem State.setRg_receipts (n : Nat) (r : Region) : (s.setRg n r).receipts = s.receipts := rfl
@[simp] theorem State.setRg_xfers (n : Nat) (r : Region) : (s.setRg n r).xfers = s.xfers := rfl
@[simp] theorem State.setRg_ap (n : Nat) (r : Region) : (s.setRg n r).ap = s.ap := rfl
@[simp] theorem State.setRg_descs (n : Nat) (r : Region) : (s.setRg n r).descs = s.descs := rfl
@[simp] theorem State.setRg_cplq (n : Nat) (r : Region) : (s.setRg n r).cplq = s.cplq := rfl
@[simp] theorem State.setRg_ring (n : Nat) (r : Region) : (s.setRg n r).ring = s.ring := rfl
@[simp] theorem State.setRg_waits (n : Nat) (r : Region) : (s.setRg n r).waits = s.waits := rfl
@[simp] theorem State.setRg_sigLines (n : Nat) (r : Region) : (s.setRg n r).sigLines = s.sigLines := rfl
@[simp] theorem State.setRg_mp (n : Nat) (r : Region) : (s.setRg n r).mp = s.mp := rfl
@[simp] theorem State.setRg_slice (n : Nat) (r : Region) : (s.setRg n r).slice = s.slice := rfl
@[simp] theorem State.setRg_scrubs (n : Nat) (r : Region) : (s.setRg n r).scrubs = s.scrubs := rfl
@[simp] theorem State.setRg_err (n : Nat) (r : Region) : (s.setRg n r).err = s.err := rfl
@[simp] theorem State.setRg_fence (n : Nat) (r : Region) : (s.setRg n r).fence = s.fence := rfl
@[simp] theorem State.setRg_bnUp (n : Nat) (r : Region) : (s.setRg n r).bnUp = s.bnUp := rfl
@[simp] theorem State.setRg_logs (n : Nat) (r : Region) : (s.setRg n r).logs = s.logs := rfl
@[simp] theorem State.setRg_trace (n : Nat) (r : Region) : (s.setRg n r).trace = s.trace := rfl
@[simp] theorem State.setRg_hp (n : Nat) (r : Region) : (s.setRg n r).hp = s.hp := rfl
@[simp] theorem State.setRg_ol (n : Nat) (r : Region) : (s.setRg n r).ol = s.ol := rfl
@[simp] theorem State.setRg_plan (n : Nat) (r : Region) : (s.setRg n r).plan = s.plan := rfl
@[simp] theorem State.setRg_fw (n : Nat) (r : Region) : (s.setRg n r).fw = s.fw := rfl
@[simp] theorem State.setRg_consort (n : Nat) (r : Region) : (s.setRg n r).consort = s.consort := rfl
@[simp] theorem State.setRg_tp (n : Nat) (r : Region) : (s.setRg n r).tp = s.tp := rfl
@[simp] theorem State.setRg_redm (n : Nat) (r : Region) : (s.setRg n r).redm = s.redm := rfl
@[simp] theorem State.setRg_redWait (n : Nat) (r : Region) : (s.setRg n r).redWait = s.redWait := rfl
@[simp] theorem State.setRg_hash (n : Nat) (r : Region) : (s.setRg n r).hash = s.hash := rfl
@[simp] theorem State.setRg_replay (n : Nat) (r : Region) : (s.setRg n r).replay = s.replay := rfl
@[simp] theorem State.setRg_bn (n : Nat) (r : Region) : (s.setRg n r).bn = s.bn := rfl
@[simp] theorem State.setRg_snap (n : Nat) (r : Region) : (s.setRg n r).snap = s.snap := rfl
@[simp] theorem State.setRg_scan (n : Nat) (r : Region) : (s.setRg n r).scan = s.scan := rfl
@[simp] theorem State.setRg_tap (n : Nat) (r : Region) : (s.setRg n r).tap = s.tap := rfl
@[simp] theorem State.setRg_pins (n : Nat) (r : Region) : (s.setRg n r).pins = s.pins := rfl
@[simp] theorem State.setRg_nimap (n : Nat) (r : Region) : (s.setRg n r).nimap = s.nimap := rfl
@[simp] theorem State.setRg_plot (n : Nat) (r : Region) : (s.setRg n r).plot = s.plot := rfl
@[simp] theorem State.setRg_cr (n : Nat) (r : Region) : (s.setRg n r).cr = s.cr := rfl
@[simp] theorem State.setRg_spad (n : Nat) (r : Region) : (s.setRg n r).spad = s.spad := rfl
@[simp] theorem State.setRg_hbm (n : Nat) (r : Region) : (s.setRg n r).hbm = s.hbm := rfl
@[simp] theorem State.setRg_flash (n : Nat) (r : Region) : (s.setRg n r).flash = s.flash := rfl
@[simp] theorem State.setRg_stamp (n : Nat) (r : Region) : (s.setRg n r).stamp = s.stamp := rfl
@[simp] theorem State.setRg_woken (n : Nat) (r : Region) : (s.setRg n r).woken = s.woken := rfl
@[simp] theorem State.setRg_stopped (n : Nat) (r : Region) : (s.setRg n r).stopped = s.stopped := rfl
@[simp] theorem State.setRg_fresh (n : Nat) (r : Region) : (s.setRg n r).fresh = s.fresh := rfl
@[simp] theorem State.setRg_pending (n : Nat) (r : Region) : (s.setRg n r).pending = s.pending := rfl

/-! ## setRt -/

@[simp] theorem State.setRt_time (n : Nat) (r : Router) : (s.setRt n r).time = s.time := rfl
@[simp] theorem State.setRt_chr (n : Nat) (r : Router) : (s.setRt n r).chr = s.chr := rfl
@[simp] theorem State.setRt_fuse (n : Nat) (r : Router) : (s.setRt n r).fuse = s.fuse := rfl
@[simp] theorem State.setRt_regs (n : Nat) (r : Router) : (s.setRt n r).regs = s.regs := rfl
@[simp] theorem State.setRt_latch (n : Nat) (r : Router) : (s.setRt n r).latch = s.latch := rfl
@[simp] theorem State.setRt_rgn (n : Nat) (r : Router) : (s.setRt n r).rgn = s.rgn := rfl
@[simp] theorem State.setRt_chart (n : Nat) (r : Router) : (s.setRt n r).chart = s.chart := rfl
@[simp] theorem State.setRt_sched (n : Nat) (r : Router) : (s.setRt n r).sched = s.sched := rfl
@[simp] theorem State.setRt_launches (n : Nat) (r : Router) : (s.setRt n r).launches = s.launches := rfl
@[simp] theorem State.setRt_net (n : Nat) (r : Router) : (s.setRt n r).net = s.net := rfl
@[simp] theorem State.setRt_flow (n : Nat) (r : Router) : (s.setRt n r).flow = s.flow := rfl
@[simp] theorem State.setRt_vt (n : Nat) (r : Router) : (s.setRt n r).vt = s.vt := rfl
@[simp] theorem State.setRt_otx (n : Nat) (r : Router) : (s.setRt n r).otx = s.otx := rfl
@[simp] theorem State.setRt_win (n : Nat) (r : Router) : (s.setRt n r).win = s.win := rfl
@[simp] theorem State.setRt_ledger (n : Nat) (r : Router) : (s.setRt n r).ledger = s.ledger := rfl
@[simp] theorem State.setRt_waiters (n : Nat) (r : Router) : (s.setRt n r).waiters = s.waiters := rfl
@[simp] theorem State.setRt_lastGrant (n : Nat) (r : Router) : (s.setRt n r).lastGrant = s.lastGrant := rfl
@[simp] theorem State.setRt_cancelled (n : Nat) (r : Router) : (s.setRt n r).cancelled = s.cancelled := rfl
@[simp] theorem State.setRt_receipts (n : Nat) (r : Router) : (s.setRt n r).receipts = s.receipts := rfl
@[simp] theorem State.setRt_xfers (n : Nat) (r : Router) : (s.setRt n r).xfers = s.xfers := rfl
@[simp] theorem State.setRt_ap (n : Nat) (r : Router) : (s.setRt n r).ap = s.ap := rfl
@[simp] theorem State.setRt_descs (n : Nat) (r : Router) : (s.setRt n r).descs = s.descs := rfl
@[simp] theorem State.setRt_cplq (n : Nat) (r : Router) : (s.setRt n r).cplq = s.cplq := rfl
@[simp] theorem State.setRt_ring (n : Nat) (r : Router) : (s.setRt n r).ring = s.ring := rfl
@[simp] theorem State.setRt_waits (n : Nat) (r : Router) : (s.setRt n r).waits = s.waits := rfl
@[simp] theorem State.setRt_sigLines (n : Nat) (r : Router) : (s.setRt n r).sigLines = s.sigLines := rfl
@[simp] theorem State.setRt_mp (n : Nat) (r : Router) : (s.setRt n r).mp = s.mp := rfl
@[simp] theorem State.setRt_slice (n : Nat) (r : Router) : (s.setRt n r).slice = s.slice := rfl
@[simp] theorem State.setRt_scrubs (n : Nat) (r : Router) : (s.setRt n r).scrubs = s.scrubs := rfl
@[simp] theorem State.setRt_err (n : Nat) (r : Router) : (s.setRt n r).err = s.err := rfl
@[simp] theorem State.setRt_fence (n : Nat) (r : Router) : (s.setRt n r).fence = s.fence := rfl
@[simp] theorem State.setRt_bnUp (n : Nat) (r : Router) : (s.setRt n r).bnUp = s.bnUp := rfl
@[simp] theorem State.setRt_logs (n : Nat) (r : Router) : (s.setRt n r).logs = s.logs := rfl
@[simp] theorem State.setRt_trace (n : Nat) (r : Router) : (s.setRt n r).trace = s.trace := rfl
@[simp] theorem State.setRt_hp (n : Nat) (r : Router) : (s.setRt n r).hp = s.hp := rfl
@[simp] theorem State.setRt_ol (n : Nat) (r : Router) : (s.setRt n r).ol = s.ol := rfl
@[simp] theorem State.setRt_plan (n : Nat) (r : Router) : (s.setRt n r).plan = s.plan := rfl
@[simp] theorem State.setRt_fw (n : Nat) (r : Router) : (s.setRt n r).fw = s.fw := rfl
@[simp] theorem State.setRt_consort (n : Nat) (r : Router) : (s.setRt n r).consort = s.consort := rfl
@[simp] theorem State.setRt_tp (n : Nat) (r : Router) : (s.setRt n r).tp = s.tp := rfl
@[simp] theorem State.setRt_redm (n : Nat) (r : Router) : (s.setRt n r).redm = s.redm := rfl
@[simp] theorem State.setRt_redWait (n : Nat) (r : Router) : (s.setRt n r).redWait = s.redWait := rfl
@[simp] theorem State.setRt_hash (n : Nat) (r : Router) : (s.setRt n r).hash = s.hash := rfl
@[simp] theorem State.setRt_replay (n : Nat) (r : Router) : (s.setRt n r).replay = s.replay := rfl
@[simp] theorem State.setRt_bn (n : Nat) (r : Router) : (s.setRt n r).bn = s.bn := rfl
@[simp] theorem State.setRt_snap (n : Nat) (r : Router) : (s.setRt n r).snap = s.snap := rfl
@[simp] theorem State.setRt_scan (n : Nat) (r : Router) : (s.setRt n r).scan = s.scan := rfl
@[simp] theorem State.setRt_tap (n : Nat) (r : Router) : (s.setRt n r).tap = s.tap := rfl
@[simp] theorem State.setRt_pins (n : Nat) (r : Router) : (s.setRt n r).pins = s.pins := rfl
@[simp] theorem State.setRt_nimap (n : Nat) (r : Router) : (s.setRt n r).nimap = s.nimap := rfl
@[simp] theorem State.setRt_plot (n : Nat) (r : Router) : (s.setRt n r).plot = s.plot := rfl
@[simp] theorem State.setRt_cr (n : Nat) (r : Router) : (s.setRt n r).cr = s.cr := rfl
@[simp] theorem State.setRt_spad (n : Nat) (r : Router) : (s.setRt n r).spad = s.spad := rfl
@[simp] theorem State.setRt_hbm (n : Nat) (r : Router) : (s.setRt n r).hbm = s.hbm := rfl
@[simp] theorem State.setRt_flash (n : Nat) (r : Router) : (s.setRt n r).flash = s.flash := rfl
@[simp] theorem State.setRt_stamp (n : Nat) (r : Router) : (s.setRt n r).stamp = s.stamp := rfl
@[simp] theorem State.setRt_woken (n : Nat) (r : Router) : (s.setRt n r).woken = s.woken := rfl
@[simp] theorem State.setRt_stopped (n : Nat) (r : Router) : (s.setRt n r).stopped = s.stopped := rfl
@[simp] theorem State.setRt_fresh (n : Nat) (r : Router) : (s.setRt n r).fresh = s.fresh := rfl
@[simp] theorem State.setRt_pending (n : Nat) (r : Router) : (s.setRt n r).pending = s.pending := rfl

/-! ## setCh -/

@[simp] theorem State.setCh_time (n : Nat) (c : Option ChartRun) : (s.setCh n c).time = s.time := rfl
@[simp] theorem State.setCh_chr (n : Nat) (c : Option ChartRun) : (s.setCh n c).chr = s.chr := rfl
@[simp] theorem State.setCh_fuse (n : Nat) (c : Option ChartRun) : (s.setCh n c).fuse = s.fuse := rfl
@[simp] theorem State.setCh_regs (n : Nat) (c : Option ChartRun) : (s.setCh n c).regs = s.regs := rfl
@[simp] theorem State.setCh_latch (n : Nat) (c : Option ChartRun) : (s.setCh n c).latch = s.latch := rfl
@[simp] theorem State.setCh_rgn (n : Nat) (c : Option ChartRun) : (s.setCh n c).rgn = s.rgn := rfl
@[simp] theorem State.setCh_rtr (n : Nat) (c : Option ChartRun) : (s.setCh n c).rtr = s.rtr := rfl
@[simp] theorem State.setCh_sched (n : Nat) (c : Option ChartRun) : (s.setCh n c).sched = s.sched := rfl
@[simp] theorem State.setCh_launches (n : Nat) (c : Option ChartRun) : (s.setCh n c).launches = s.launches := rfl
@[simp] theorem State.setCh_net (n : Nat) (c : Option ChartRun) : (s.setCh n c).net = s.net := rfl
@[simp] theorem State.setCh_flow (n : Nat) (c : Option ChartRun) : (s.setCh n c).flow = s.flow := rfl
@[simp] theorem State.setCh_vt (n : Nat) (c : Option ChartRun) : (s.setCh n c).vt = s.vt := rfl
@[simp] theorem State.setCh_otx (n : Nat) (c : Option ChartRun) : (s.setCh n c).otx = s.otx := rfl
@[simp] theorem State.setCh_win (n : Nat) (c : Option ChartRun) : (s.setCh n c).win = s.win := rfl
@[simp] theorem State.setCh_ledger (n : Nat) (c : Option ChartRun) : (s.setCh n c).ledger = s.ledger := rfl
@[simp] theorem State.setCh_waiters (n : Nat) (c : Option ChartRun) : (s.setCh n c).waiters = s.waiters := rfl
@[simp] theorem State.setCh_lastGrant (n : Nat) (c : Option ChartRun) : (s.setCh n c).lastGrant = s.lastGrant := rfl
@[simp] theorem State.setCh_cancelled (n : Nat) (c : Option ChartRun) : (s.setCh n c).cancelled = s.cancelled := rfl
@[simp] theorem State.setCh_receipts (n : Nat) (c : Option ChartRun) : (s.setCh n c).receipts = s.receipts := rfl
@[simp] theorem State.setCh_xfers (n : Nat) (c : Option ChartRun) : (s.setCh n c).xfers = s.xfers := rfl
@[simp] theorem State.setCh_ap (n : Nat) (c : Option ChartRun) : (s.setCh n c).ap = s.ap := rfl
@[simp] theorem State.setCh_descs (n : Nat) (c : Option ChartRun) : (s.setCh n c).descs = s.descs := rfl
@[simp] theorem State.setCh_cplq (n : Nat) (c : Option ChartRun) : (s.setCh n c).cplq = s.cplq := rfl
@[simp] theorem State.setCh_ring (n : Nat) (c : Option ChartRun) : (s.setCh n c).ring = s.ring := rfl
@[simp] theorem State.setCh_waits (n : Nat) (c : Option ChartRun) : (s.setCh n c).waits = s.waits := rfl
@[simp] theorem State.setCh_sigLines (n : Nat) (c : Option ChartRun) : (s.setCh n c).sigLines = s.sigLines := rfl
@[simp] theorem State.setCh_mp (n : Nat) (c : Option ChartRun) : (s.setCh n c).mp = s.mp := rfl
@[simp] theorem State.setCh_slice (n : Nat) (c : Option ChartRun) : (s.setCh n c).slice = s.slice := rfl
@[simp] theorem State.setCh_scrubs (n : Nat) (c : Option ChartRun) : (s.setCh n c).scrubs = s.scrubs := rfl
@[simp] theorem State.setCh_err (n : Nat) (c : Option ChartRun) : (s.setCh n c).err = s.err := rfl
@[simp] theorem State.setCh_fence (n : Nat) (c : Option ChartRun) : (s.setCh n c).fence = s.fence := rfl
@[simp] theorem State.setCh_bnUp (n : Nat) (c : Option ChartRun) : (s.setCh n c).bnUp = s.bnUp := rfl
@[simp] theorem State.setCh_logs (n : Nat) (c : Option ChartRun) : (s.setCh n c).logs = s.logs := rfl
@[simp] theorem State.setCh_trace (n : Nat) (c : Option ChartRun) : (s.setCh n c).trace = s.trace := rfl
@[simp] theorem State.setCh_hp (n : Nat) (c : Option ChartRun) : (s.setCh n c).hp = s.hp := rfl
@[simp] theorem State.setCh_ol (n : Nat) (c : Option ChartRun) : (s.setCh n c).ol = s.ol := rfl
@[simp] theorem State.setCh_plan (n : Nat) (c : Option ChartRun) : (s.setCh n c).plan = s.plan := rfl
@[simp] theorem State.setCh_fw (n : Nat) (c : Option ChartRun) : (s.setCh n c).fw = s.fw := rfl
@[simp] theorem State.setCh_consort (n : Nat) (c : Option ChartRun) : (s.setCh n c).consort = s.consort := rfl
@[simp] theorem State.setCh_tp (n : Nat) (c : Option ChartRun) : (s.setCh n c).tp = s.tp := rfl
@[simp] theorem State.setCh_redm (n : Nat) (c : Option ChartRun) : (s.setCh n c).redm = s.redm := rfl
@[simp] theorem State.setCh_redWait (n : Nat) (c : Option ChartRun) : (s.setCh n c).redWait = s.redWait := rfl
@[simp] theorem State.setCh_hash (n : Nat) (c : Option ChartRun) : (s.setCh n c).hash = s.hash := rfl
@[simp] theorem State.setCh_replay (n : Nat) (c : Option ChartRun) : (s.setCh n c).replay = s.replay := rfl
@[simp] theorem State.setCh_bn (n : Nat) (c : Option ChartRun) : (s.setCh n c).bn = s.bn := rfl
@[simp] theorem State.setCh_snap (n : Nat) (c : Option ChartRun) : (s.setCh n c).snap = s.snap := rfl
@[simp] theorem State.setCh_scan (n : Nat) (c : Option ChartRun) : (s.setCh n c).scan = s.scan := rfl
@[simp] theorem State.setCh_tap (n : Nat) (c : Option ChartRun) : (s.setCh n c).tap = s.tap := rfl
@[simp] theorem State.setCh_pins (n : Nat) (c : Option ChartRun) : (s.setCh n c).pins = s.pins := rfl
@[simp] theorem State.setCh_nimap (n : Nat) (c : Option ChartRun) : (s.setCh n c).nimap = s.nimap := rfl
@[simp] theorem State.setCh_plot (n : Nat) (c : Option ChartRun) : (s.setCh n c).plot = s.plot := rfl
@[simp] theorem State.setCh_cr (n : Nat) (c : Option ChartRun) : (s.setCh n c).cr = s.cr := rfl
@[simp] theorem State.setCh_spad (n : Nat) (c : Option ChartRun) : (s.setCh n c).spad = s.spad := rfl
@[simp] theorem State.setCh_hbm (n : Nat) (c : Option ChartRun) : (s.setCh n c).hbm = s.hbm := rfl
@[simp] theorem State.setCh_flash (n : Nat) (c : Option ChartRun) : (s.setCh n c).flash = s.flash := rfl
@[simp] theorem State.setCh_stamp (n : Nat) (c : Option ChartRun) : (s.setCh n c).stamp = s.stamp := rfl
@[simp] theorem State.setCh_woken (n : Nat) (c : Option ChartRun) : (s.setCh n c).woken = s.woken := rfl
@[simp] theorem State.setCh_stopped (n : Nat) (c : Option ChartRun) : (s.setCh n c).stopped = s.stopped := rfl
@[simp] theorem State.setCh_fresh (n : Nat) (c : Option ChartRun) : (s.setCh n c).fresh = s.fresh := rfl
@[simp] theorem State.setCh_pending (n : Nat) (c : Option ChartRun) : (s.setCh n c).pending = s.pending := rfl

/-! ## setMp -/

@[simp] theorem State.setMp_time (n : Nat) (p : MPort) : (s.setMp n p).time = s.time := rfl
@[simp] theorem State.setMp_chr (n : Nat) (p : MPort) : (s.setMp n p).chr = s.chr := rfl
@[simp] theorem State.setMp_fuse (n : Nat) (p : MPort) : (s.setMp n p).fuse = s.fuse := rfl
@[simp] theorem State.setMp_regs (n : Nat) (p : MPort) : (s.setMp n p).regs = s.regs := rfl
@[simp] theorem State.setMp_latch (n : Nat) (p : MPort) : (s.setMp n p).latch = s.latch := rfl
@[simp] theorem State.setMp_rgn (n : Nat) (p : MPort) : (s.setMp n p).rgn = s.rgn := rfl
@[simp] theorem State.setMp_rtr (n : Nat) (p : MPort) : (s.setMp n p).rtr = s.rtr := rfl
@[simp] theorem State.setMp_chart (n : Nat) (p : MPort) : (s.setMp n p).chart = s.chart := rfl
@[simp] theorem State.setMp_sched (n : Nat) (p : MPort) : (s.setMp n p).sched = s.sched := rfl
@[simp] theorem State.setMp_launches (n : Nat) (p : MPort) : (s.setMp n p).launches = s.launches := rfl
@[simp] theorem State.setMp_net (n : Nat) (p : MPort) : (s.setMp n p).net = s.net := rfl
@[simp] theorem State.setMp_flow (n : Nat) (p : MPort) : (s.setMp n p).flow = s.flow := rfl
@[simp] theorem State.setMp_vt (n : Nat) (p : MPort) : (s.setMp n p).vt = s.vt := rfl
@[simp] theorem State.setMp_otx (n : Nat) (p : MPort) : (s.setMp n p).otx = s.otx := rfl
@[simp] theorem State.setMp_win (n : Nat) (p : MPort) : (s.setMp n p).win = s.win := rfl
@[simp] theorem State.setMp_ledger (n : Nat) (p : MPort) : (s.setMp n p).ledger = s.ledger := rfl
@[simp] theorem State.setMp_waiters (n : Nat) (p : MPort) : (s.setMp n p).waiters = s.waiters := rfl
@[simp] theorem State.setMp_lastGrant (n : Nat) (p : MPort) : (s.setMp n p).lastGrant = s.lastGrant := rfl
@[simp] theorem State.setMp_cancelled (n : Nat) (p : MPort) : (s.setMp n p).cancelled = s.cancelled := rfl
@[simp] theorem State.setMp_receipts (n : Nat) (p : MPort) : (s.setMp n p).receipts = s.receipts := rfl
@[simp] theorem State.setMp_xfers (n : Nat) (p : MPort) : (s.setMp n p).xfers = s.xfers := rfl
@[simp] theorem State.setMp_ap (n : Nat) (p : MPort) : (s.setMp n p).ap = s.ap := rfl
@[simp] theorem State.setMp_descs (n : Nat) (p : MPort) : (s.setMp n p).descs = s.descs := rfl
@[simp] theorem State.setMp_cplq (n : Nat) (p : MPort) : (s.setMp n p).cplq = s.cplq := rfl
@[simp] theorem State.setMp_ring (n : Nat) (p : MPort) : (s.setMp n p).ring = s.ring := rfl
@[simp] theorem State.setMp_waits (n : Nat) (p : MPort) : (s.setMp n p).waits = s.waits := rfl
@[simp] theorem State.setMp_sigLines (n : Nat) (p : MPort) : (s.setMp n p).sigLines = s.sigLines := rfl
@[simp] theorem State.setMp_slice (n : Nat) (p : MPort) : (s.setMp n p).slice = s.slice := rfl
@[simp] theorem State.setMp_scrubs (n : Nat) (p : MPort) : (s.setMp n p).scrubs = s.scrubs := rfl
@[simp] theorem State.setMp_err (n : Nat) (p : MPort) : (s.setMp n p).err = s.err := rfl
@[simp] theorem State.setMp_fence (n : Nat) (p : MPort) : (s.setMp n p).fence = s.fence := rfl
@[simp] theorem State.setMp_bnUp (n : Nat) (p : MPort) : (s.setMp n p).bnUp = s.bnUp := rfl
@[simp] theorem State.setMp_logs (n : Nat) (p : MPort) : (s.setMp n p).logs = s.logs := rfl
@[simp] theorem State.setMp_trace (n : Nat) (p : MPort) : (s.setMp n p).trace = s.trace := rfl
@[simp] theorem State.setMp_hp (n : Nat) (p : MPort) : (s.setMp n p).hp = s.hp := rfl
@[simp] theorem State.setMp_ol (n : Nat) (p : MPort) : (s.setMp n p).ol = s.ol := rfl
@[simp] theorem State.setMp_plan (n : Nat) (p : MPort) : (s.setMp n p).plan = s.plan := rfl
@[simp] theorem State.setMp_fw (n : Nat) (p : MPort) : (s.setMp n p).fw = s.fw := rfl
@[simp] theorem State.setMp_consort (n : Nat) (p : MPort) : (s.setMp n p).consort = s.consort := rfl
@[simp] theorem State.setMp_tp (n : Nat) (p : MPort) : (s.setMp n p).tp = s.tp := rfl
@[simp] theorem State.setMp_redm (n : Nat) (p : MPort) : (s.setMp n p).redm = s.redm := rfl
@[simp] theorem State.setMp_redWait (n : Nat) (p : MPort) : (s.setMp n p).redWait = s.redWait := rfl
@[simp] theorem State.setMp_hash (n : Nat) (p : MPort) : (s.setMp n p).hash = s.hash := rfl
@[simp] theorem State.setMp_replay (n : Nat) (p : MPort) : (s.setMp n p).replay = s.replay := rfl
@[simp] theorem State.setMp_bn (n : Nat) (p : MPort) : (s.setMp n p).bn = s.bn := rfl
@[simp] theorem State.setMp_snap (n : Nat) (p : MPort) : (s.setMp n p).snap = s.snap := rfl
@[simp] theorem State.setMp_scan (n : Nat) (p : MPort) : (s.setMp n p).scan = s.scan := rfl
@[simp] theorem State.setMp_tap (n : Nat) (p : MPort) : (s.setMp n p).tap = s.tap := rfl
@[simp] theorem State.setMp_pins (n : Nat) (p : MPort) : (s.setMp n p).pins = s.pins := rfl
@[simp] theorem State.setMp_nimap (n : Nat) (p : MPort) : (s.setMp n p).nimap = s.nimap := rfl
@[simp] theorem State.setMp_plot (n : Nat) (p : MPort) : (s.setMp n p).plot = s.plot := rfl
@[simp] theorem State.setMp_cr (n : Nat) (p : MPort) : (s.setMp n p).cr = s.cr := rfl
@[simp] theorem State.setMp_spad (n : Nat) (p : MPort) : (s.setMp n p).spad = s.spad := rfl
@[simp] theorem State.setMp_hbm (n : Nat) (p : MPort) : (s.setMp n p).hbm = s.hbm := rfl
@[simp] theorem State.setMp_flash (n : Nat) (p : MPort) : (s.setMp n p).flash = s.flash := rfl
@[simp] theorem State.setMp_stamp (n : Nat) (p : MPort) : (s.setMp n p).stamp = s.stamp := rfl
@[simp] theorem State.setMp_woken (n : Nat) (p : MPort) : (s.setMp n p).woken = s.woken := rfl
@[simp] theorem State.setMp_stopped (n : Nat) (p : MPort) : (s.setMp n p).stopped = s.stopped := rfl
@[simp] theorem State.setMp_fresh (n : Nat) (p : MPort) : (s.setMp n p).fresh = s.fresh := rfl
@[simp] theorem State.setMp_pending (n : Nat) (p : MPort) : (s.setMp n p).pending = s.pending := rfl

/-! ## setHp -/

@[simp] theorem State.setHp_time (n : Nat) (p : HPort) : (s.setHp n p).time = s.time := rfl
@[simp] theorem State.setHp_chr (n : Nat) (p : HPort) : (s.setHp n p).chr = s.chr := rfl
@[simp] theorem State.setHp_fuse (n : Nat) (p : HPort) : (s.setHp n p).fuse = s.fuse := rfl
@[simp] theorem State.setHp_regs (n : Nat) (p : HPort) : (s.setHp n p).regs = s.regs := rfl
@[simp] theorem State.setHp_latch (n : Nat) (p : HPort) : (s.setHp n p).latch = s.latch := rfl
@[simp] theorem State.setHp_rgn (n : Nat) (p : HPort) : (s.setHp n p).rgn = s.rgn := rfl
@[simp] theorem State.setHp_rtr (n : Nat) (p : HPort) : (s.setHp n p).rtr = s.rtr := rfl
@[simp] theorem State.setHp_chart (n : Nat) (p : HPort) : (s.setHp n p).chart = s.chart := rfl
@[simp] theorem State.setHp_sched (n : Nat) (p : HPort) : (s.setHp n p).sched = s.sched := rfl
@[simp] theorem State.setHp_launches (n : Nat) (p : HPort) : (s.setHp n p).launches = s.launches := rfl
@[simp] theorem State.setHp_net (n : Nat) (p : HPort) : (s.setHp n p).net = s.net := rfl
@[simp] theorem State.setHp_flow (n : Nat) (p : HPort) : (s.setHp n p).flow = s.flow := rfl
@[simp] theorem State.setHp_vt (n : Nat) (p : HPort) : (s.setHp n p).vt = s.vt := rfl
@[simp] theorem State.setHp_otx (n : Nat) (p : HPort) : (s.setHp n p).otx = s.otx := rfl
@[simp] theorem State.setHp_win (n : Nat) (p : HPort) : (s.setHp n p).win = s.win := rfl
@[simp] theorem State.setHp_ledger (n : Nat) (p : HPort) : (s.setHp n p).ledger = s.ledger := rfl
@[simp] theorem State.setHp_waiters (n : Nat) (p : HPort) : (s.setHp n p).waiters = s.waiters := rfl
@[simp] theorem State.setHp_lastGrant (n : Nat) (p : HPort) : (s.setHp n p).lastGrant = s.lastGrant := rfl
@[simp] theorem State.setHp_cancelled (n : Nat) (p : HPort) : (s.setHp n p).cancelled = s.cancelled := rfl
@[simp] theorem State.setHp_receipts (n : Nat) (p : HPort) : (s.setHp n p).receipts = s.receipts := rfl
@[simp] theorem State.setHp_xfers (n : Nat) (p : HPort) : (s.setHp n p).xfers = s.xfers := rfl
@[simp] theorem State.setHp_ap (n : Nat) (p : HPort) : (s.setHp n p).ap = s.ap := rfl
@[simp] theorem State.setHp_descs (n : Nat) (p : HPort) : (s.setHp n p).descs = s.descs := rfl
@[simp] theorem State.setHp_cplq (n : Nat) (p : HPort) : (s.setHp n p).cplq = s.cplq := rfl
@[simp] theorem State.setHp_ring (n : Nat) (p : HPort) : (s.setHp n p).ring = s.ring := rfl
@[simp] theorem State.setHp_waits (n : Nat) (p : HPort) : (s.setHp n p).waits = s.waits := rfl
@[simp] theorem State.setHp_sigLines (n : Nat) (p : HPort) : (s.setHp n p).sigLines = s.sigLines := rfl
@[simp] theorem State.setHp_mp (n : Nat) (p : HPort) : (s.setHp n p).mp = s.mp := rfl
@[simp] theorem State.setHp_slice (n : Nat) (p : HPort) : (s.setHp n p).slice = s.slice := rfl
@[simp] theorem State.setHp_scrubs (n : Nat) (p : HPort) : (s.setHp n p).scrubs = s.scrubs := rfl
@[simp] theorem State.setHp_err (n : Nat) (p : HPort) : (s.setHp n p).err = s.err := rfl
@[simp] theorem State.setHp_fence (n : Nat) (p : HPort) : (s.setHp n p).fence = s.fence := rfl
@[simp] theorem State.setHp_bnUp (n : Nat) (p : HPort) : (s.setHp n p).bnUp = s.bnUp := rfl
@[simp] theorem State.setHp_logs (n : Nat) (p : HPort) : (s.setHp n p).logs = s.logs := rfl
@[simp] theorem State.setHp_trace (n : Nat) (p : HPort) : (s.setHp n p).trace = s.trace := rfl
@[simp] theorem State.setHp_ol (n : Nat) (p : HPort) : (s.setHp n p).ol = s.ol := rfl
@[simp] theorem State.setHp_plan (n : Nat) (p : HPort) : (s.setHp n p).plan = s.plan := rfl
@[simp] theorem State.setHp_fw (n : Nat) (p : HPort) : (s.setHp n p).fw = s.fw := rfl
@[simp] theorem State.setHp_consort (n : Nat) (p : HPort) : (s.setHp n p).consort = s.consort := rfl
@[simp] theorem State.setHp_tp (n : Nat) (p : HPort) : (s.setHp n p).tp = s.tp := rfl
@[simp] theorem State.setHp_redm (n : Nat) (p : HPort) : (s.setHp n p).redm = s.redm := rfl
@[simp] theorem State.setHp_redWait (n : Nat) (p : HPort) : (s.setHp n p).redWait = s.redWait := rfl
@[simp] theorem State.setHp_hash (n : Nat) (p : HPort) : (s.setHp n p).hash = s.hash := rfl
@[simp] theorem State.setHp_replay (n : Nat) (p : HPort) : (s.setHp n p).replay = s.replay := rfl
@[simp] theorem State.setHp_bn (n : Nat) (p : HPort) : (s.setHp n p).bn = s.bn := rfl
@[simp] theorem State.setHp_snap (n : Nat) (p : HPort) : (s.setHp n p).snap = s.snap := rfl
@[simp] theorem State.setHp_scan (n : Nat) (p : HPort) : (s.setHp n p).scan = s.scan := rfl
@[simp] theorem State.setHp_tap (n : Nat) (p : HPort) : (s.setHp n p).tap = s.tap := rfl
@[simp] theorem State.setHp_pins (n : Nat) (p : HPort) : (s.setHp n p).pins = s.pins := rfl
@[simp] theorem State.setHp_nimap (n : Nat) (p : HPort) : (s.setHp n p).nimap = s.nimap := rfl
@[simp] theorem State.setHp_plot (n : Nat) (p : HPort) : (s.setHp n p).plot = s.plot := rfl
@[simp] theorem State.setHp_cr (n : Nat) (p : HPort) : (s.setHp n p).cr = s.cr := rfl
@[simp] theorem State.setHp_spad (n : Nat) (p : HPort) : (s.setHp n p).spad = s.spad := rfl
@[simp] theorem State.setHp_hbm (n : Nat) (p : HPort) : (s.setHp n p).hbm = s.hbm := rfl
@[simp] theorem State.setHp_flash (n : Nat) (p : HPort) : (s.setHp n p).flash = s.flash := rfl
@[simp] theorem State.setHp_stamp (n : Nat) (p : HPort) : (s.setHp n p).stamp = s.stamp := rfl
@[simp] theorem State.setHp_woken (n : Nat) (p : HPort) : (s.setHp n p).woken = s.woken := rfl
@[simp] theorem State.setHp_stopped (n : Nat) (p : HPort) : (s.setHp n p).stopped = s.stopped := rfl
@[simp] theorem State.setHp_fresh (n : Nat) (p : HPort) : (s.setHp n p).fresh = s.fresh := rfl
@[simp] theorem State.setHp_pending (n : Nat) (p : HPort) : (s.setHp n p).pending = s.pending := rfl

/-! ## setEu -/

@[simp] theorem State.setEu_time (k : UnitKind) (i : Nat) (e : ErrUnit) : (s.setEu k i e).time = s.time := rfl
@[simp] theorem State.setEu_chr (k : UnitKind) (i : Nat) (e : ErrUnit) : (s.setEu k i e).chr = s.chr := rfl
@[simp] theorem State.setEu_fuse (k : UnitKind) (i : Nat) (e : ErrUnit) : (s.setEu k i e).fuse = s.fuse := rfl
@[simp] theorem State.setEu_regs (k : UnitKind) (i : Nat) (e : ErrUnit) : (s.setEu k i e).regs = s.regs := rfl
@[simp] theorem State.setEu_latch (k : UnitKind) (i : Nat) (e : ErrUnit) : (s.setEu k i e).latch = s.latch := rfl
@[simp] theorem State.setEu_rgn (k : UnitKind) (i : Nat) (e : ErrUnit) : (s.setEu k i e).rgn = s.rgn := rfl
@[simp] theorem State.setEu_rtr (k : UnitKind) (i : Nat) (e : ErrUnit) : (s.setEu k i e).rtr = s.rtr := rfl
@[simp] theorem State.setEu_chart (k : UnitKind) (i : Nat) (e : ErrUnit) : (s.setEu k i e).chart = s.chart := rfl
@[simp] theorem State.setEu_sched (k : UnitKind) (i : Nat) (e : ErrUnit) : (s.setEu k i e).sched = s.sched := rfl
@[simp] theorem State.setEu_launches (k : UnitKind) (i : Nat) (e : ErrUnit) : (s.setEu k i e).launches = s.launches := rfl
@[simp] theorem State.setEu_net (k : UnitKind) (i : Nat) (e : ErrUnit) : (s.setEu k i e).net = s.net := rfl
@[simp] theorem State.setEu_flow (k : UnitKind) (i : Nat) (e : ErrUnit) : (s.setEu k i e).flow = s.flow := rfl
@[simp] theorem State.setEu_vt (k : UnitKind) (i : Nat) (e : ErrUnit) : (s.setEu k i e).vt = s.vt := rfl
@[simp] theorem State.setEu_otx (k : UnitKind) (i : Nat) (e : ErrUnit) : (s.setEu k i e).otx = s.otx := rfl
@[simp] theorem State.setEu_win (k : UnitKind) (i : Nat) (e : ErrUnit) : (s.setEu k i e).win = s.win := rfl
@[simp] theorem State.setEu_ledger (k : UnitKind) (i : Nat) (e : ErrUnit) : (s.setEu k i e).ledger = s.ledger := rfl
@[simp] theorem State.setEu_waiters (k : UnitKind) (i : Nat) (e : ErrUnit) : (s.setEu k i e).waiters = s.waiters := rfl
@[simp] theorem State.setEu_lastGrant (k : UnitKind) (i : Nat) (e : ErrUnit) : (s.setEu k i e).lastGrant = s.lastGrant := rfl
@[simp] theorem State.setEu_cancelled (k : UnitKind) (i : Nat) (e : ErrUnit) : (s.setEu k i e).cancelled = s.cancelled := rfl
@[simp] theorem State.setEu_receipts (k : UnitKind) (i : Nat) (e : ErrUnit) : (s.setEu k i e).receipts = s.receipts := rfl
@[simp] theorem State.setEu_xfers (k : UnitKind) (i : Nat) (e : ErrUnit) : (s.setEu k i e).xfers = s.xfers := rfl
@[simp] theorem State.setEu_ap (k : UnitKind) (i : Nat) (e : ErrUnit) : (s.setEu k i e).ap = s.ap := rfl
@[simp] theorem State.setEu_descs (k : UnitKind) (i : Nat) (e : ErrUnit) : (s.setEu k i e).descs = s.descs := rfl
@[simp] theorem State.setEu_cplq (k : UnitKind) (i : Nat) (e : ErrUnit) : (s.setEu k i e).cplq = s.cplq := rfl
@[simp] theorem State.setEu_ring (k : UnitKind) (i : Nat) (e : ErrUnit) : (s.setEu k i e).ring = s.ring := rfl
@[simp] theorem State.setEu_waits (k : UnitKind) (i : Nat) (e : ErrUnit) : (s.setEu k i e).waits = s.waits := rfl
@[simp] theorem State.setEu_sigLines (k : UnitKind) (i : Nat) (e : ErrUnit) : (s.setEu k i e).sigLines = s.sigLines := rfl
@[simp] theorem State.setEu_mp (k : UnitKind) (i : Nat) (e : ErrUnit) : (s.setEu k i e).mp = s.mp := rfl
@[simp] theorem State.setEu_slice (k : UnitKind) (i : Nat) (e : ErrUnit) : (s.setEu k i e).slice = s.slice := rfl
@[simp] theorem State.setEu_scrubs (k : UnitKind) (i : Nat) (e : ErrUnit) : (s.setEu k i e).scrubs = s.scrubs := rfl
@[simp] theorem State.setEu_fence (k : UnitKind) (i : Nat) (e : ErrUnit) : (s.setEu k i e).fence = s.fence := rfl
@[simp] theorem State.setEu_bnUp (k : UnitKind) (i : Nat) (e : ErrUnit) : (s.setEu k i e).bnUp = s.bnUp := rfl
@[simp] theorem State.setEu_logs (k : UnitKind) (i : Nat) (e : ErrUnit) : (s.setEu k i e).logs = s.logs := rfl
@[simp] theorem State.setEu_trace (k : UnitKind) (i : Nat) (e : ErrUnit) : (s.setEu k i e).trace = s.trace := rfl
@[simp] theorem State.setEu_hp (k : UnitKind) (i : Nat) (e : ErrUnit) : (s.setEu k i e).hp = s.hp := rfl
@[simp] theorem State.setEu_ol (k : UnitKind) (i : Nat) (e : ErrUnit) : (s.setEu k i e).ol = s.ol := rfl
@[simp] theorem State.setEu_plan (k : UnitKind) (i : Nat) (e : ErrUnit) : (s.setEu k i e).plan = s.plan := rfl
@[simp] theorem State.setEu_fw (k : UnitKind) (i : Nat) (e : ErrUnit) : (s.setEu k i e).fw = s.fw := rfl
@[simp] theorem State.setEu_consort (k : UnitKind) (i : Nat) (e : ErrUnit) : (s.setEu k i e).consort = s.consort := rfl
@[simp] theorem State.setEu_tp (k : UnitKind) (i : Nat) (e : ErrUnit) : (s.setEu k i e).tp = s.tp := rfl
@[simp] theorem State.setEu_redm (k : UnitKind) (i : Nat) (e : ErrUnit) : (s.setEu k i e).redm = s.redm := rfl
@[simp] theorem State.setEu_redWait (k : UnitKind) (i : Nat) (e : ErrUnit) : (s.setEu k i e).redWait = s.redWait := rfl
@[simp] theorem State.setEu_hash (k : UnitKind) (i : Nat) (e : ErrUnit) : (s.setEu k i e).hash = s.hash := rfl
@[simp] theorem State.setEu_replay (k : UnitKind) (i : Nat) (e : ErrUnit) : (s.setEu k i e).replay = s.replay := rfl
@[simp] theorem State.setEu_bn (k : UnitKind) (i : Nat) (e : ErrUnit) : (s.setEu k i e).bn = s.bn := rfl
@[simp] theorem State.setEu_snap (k : UnitKind) (i : Nat) (e : ErrUnit) : (s.setEu k i e).snap = s.snap := rfl
@[simp] theorem State.setEu_scan (k : UnitKind) (i : Nat) (e : ErrUnit) : (s.setEu k i e).scan = s.scan := rfl
@[simp] theorem State.setEu_tap (k : UnitKind) (i : Nat) (e : ErrUnit) : (s.setEu k i e).tap = s.tap := rfl
@[simp] theorem State.setEu_pins (k : UnitKind) (i : Nat) (e : ErrUnit) : (s.setEu k i e).pins = s.pins := rfl
@[simp] theorem State.setEu_nimap (k : UnitKind) (i : Nat) (e : ErrUnit) : (s.setEu k i e).nimap = s.nimap := rfl
@[simp] theorem State.setEu_plot (k : UnitKind) (i : Nat) (e : ErrUnit) : (s.setEu k i e).plot = s.plot := rfl
@[simp] theorem State.setEu_cr (k : UnitKind) (i : Nat) (e : ErrUnit) : (s.setEu k i e).cr = s.cr := rfl
@[simp] theorem State.setEu_spad (k : UnitKind) (i : Nat) (e : ErrUnit) : (s.setEu k i e).spad = s.spad := rfl
@[simp] theorem State.setEu_hbm (k : UnitKind) (i : Nat) (e : ErrUnit) : (s.setEu k i e).hbm = s.hbm := rfl
@[simp] theorem State.setEu_flash (k : UnitKind) (i : Nat) (e : ErrUnit) : (s.setEu k i e).flash = s.flash := rfl
@[simp] theorem State.setEu_stamp (k : UnitKind) (i : Nat) (e : ErrUnit) : (s.setEu k i e).stamp = s.stamp := rfl
@[simp] theorem State.setEu_woken (k : UnitKind) (i : Nat) (e : ErrUnit) : (s.setEu k i e).woken = s.woken := rfl
@[simp] theorem State.setEu_stopped (k : UnitKind) (i : Nat) (e : ErrUnit) : (s.setEu k i e).stopped = s.stopped := rfl
@[simp] theorem State.setEu_fresh (k : UnitKind) (i : Nat) (e : ErrUnit) : (s.setEu k i e).fresh = s.fresh := rfl
@[simp] theorem State.setEu_pending (k : UnitKind) (i : Nat) (e : ErrUnit) : (s.setEu k i e).pending = s.pending := rfl

/-! ## setWin -/

@[simp] theorem State.setWin_time (n h : Nat) (w : Window) : (s.setWin n h w).time = s.time := rfl
@[simp] theorem State.setWin_chr (n h : Nat) (w : Window) : (s.setWin n h w).chr = s.chr := rfl
@[simp] theorem State.setWin_fuse (n h : Nat) (w : Window) : (s.setWin n h w).fuse = s.fuse := rfl
@[simp] theorem State.setWin_regs (n h : Nat) (w : Window) : (s.setWin n h w).regs = s.regs := rfl
@[simp] theorem State.setWin_latch (n h : Nat) (w : Window) : (s.setWin n h w).latch = s.latch := rfl
@[simp] theorem State.setWin_rgn (n h : Nat) (w : Window) : (s.setWin n h w).rgn = s.rgn := rfl
@[simp] theorem State.setWin_rtr (n h : Nat) (w : Window) : (s.setWin n h w).rtr = s.rtr := rfl
@[simp] theorem State.setWin_chart (n h : Nat) (w : Window) : (s.setWin n h w).chart = s.chart := rfl
@[simp] theorem State.setWin_sched (n h : Nat) (w : Window) : (s.setWin n h w).sched = s.sched := rfl
@[simp] theorem State.setWin_launches (n h : Nat) (w : Window) : (s.setWin n h w).launches = s.launches := rfl
@[simp] theorem State.setWin_net (n h : Nat) (w : Window) : (s.setWin n h w).net = s.net := rfl
@[simp] theorem State.setWin_flow (n h : Nat) (w : Window) : (s.setWin n h w).flow = s.flow := rfl
@[simp] theorem State.setWin_vt (n h : Nat) (w : Window) : (s.setWin n h w).vt = s.vt := rfl
@[simp] theorem State.setWin_otx (n h : Nat) (w : Window) : (s.setWin n h w).otx = s.otx := rfl
@[simp] theorem State.setWin_ledger (n h : Nat) (w : Window) : (s.setWin n h w).ledger = s.ledger := rfl
@[simp] theorem State.setWin_waiters (n h : Nat) (w : Window) : (s.setWin n h w).waiters = s.waiters := rfl
@[simp] theorem State.setWin_lastGrant (n h : Nat) (w : Window) : (s.setWin n h w).lastGrant = s.lastGrant := rfl
@[simp] theorem State.setWin_cancelled (n h : Nat) (w : Window) : (s.setWin n h w).cancelled = s.cancelled := rfl
@[simp] theorem State.setWin_receipts (n h : Nat) (w : Window) : (s.setWin n h w).receipts = s.receipts := rfl
@[simp] theorem State.setWin_xfers (n h : Nat) (w : Window) : (s.setWin n h w).xfers = s.xfers := rfl
@[simp] theorem State.setWin_ap (n h : Nat) (w : Window) : (s.setWin n h w).ap = s.ap := rfl
@[simp] theorem State.setWin_descs (n h : Nat) (w : Window) : (s.setWin n h w).descs = s.descs := rfl
@[simp] theorem State.setWin_cplq (n h : Nat) (w : Window) : (s.setWin n h w).cplq = s.cplq := rfl
@[simp] theorem State.setWin_ring (n h : Nat) (w : Window) : (s.setWin n h w).ring = s.ring := rfl
@[simp] theorem State.setWin_waits (n h : Nat) (w : Window) : (s.setWin n h w).waits = s.waits := rfl
@[simp] theorem State.setWin_sigLines (n h : Nat) (w : Window) : (s.setWin n h w).sigLines = s.sigLines := rfl
@[simp] theorem State.setWin_mp (n h : Nat) (w : Window) : (s.setWin n h w).mp = s.mp := rfl
@[simp] theorem State.setWin_slice (n h : Nat) (w : Window) : (s.setWin n h w).slice = s.slice := rfl
@[simp] theorem State.setWin_scrubs (n h : Nat) (w : Window) : (s.setWin n h w).scrubs = s.scrubs := rfl
@[simp] theorem State.setWin_err (n h : Nat) (w : Window) : (s.setWin n h w).err = s.err := rfl
@[simp] theorem State.setWin_fence (n h : Nat) (w : Window) : (s.setWin n h w).fence = s.fence := rfl
@[simp] theorem State.setWin_bnUp (n h : Nat) (w : Window) : (s.setWin n h w).bnUp = s.bnUp := rfl
@[simp] theorem State.setWin_logs (n h : Nat) (w : Window) : (s.setWin n h w).logs = s.logs := rfl
@[simp] theorem State.setWin_trace (n h : Nat) (w : Window) : (s.setWin n h w).trace = s.trace := rfl
@[simp] theorem State.setWin_hp (n h : Nat) (w : Window) : (s.setWin n h w).hp = s.hp := rfl
@[simp] theorem State.setWin_ol (n h : Nat) (w : Window) : (s.setWin n h w).ol = s.ol := rfl
@[simp] theorem State.setWin_plan (n h : Nat) (w : Window) : (s.setWin n h w).plan = s.plan := rfl
@[simp] theorem State.setWin_fw (n h : Nat) (w : Window) : (s.setWin n h w).fw = s.fw := rfl
@[simp] theorem State.setWin_consort (n h : Nat) (w : Window) : (s.setWin n h w).consort = s.consort := rfl
@[simp] theorem State.setWin_tp (n h : Nat) (w : Window) : (s.setWin n h w).tp = s.tp := rfl
@[simp] theorem State.setWin_redm (n h : Nat) (w : Window) : (s.setWin n h w).redm = s.redm := rfl
@[simp] theorem State.setWin_redWait (n h : Nat) (w : Window) : (s.setWin n h w).redWait = s.redWait := rfl
@[simp] theorem State.setWin_hash (n h : Nat) (w : Window) : (s.setWin n h w).hash = s.hash := rfl
@[simp] theorem State.setWin_replay (n h : Nat) (w : Window) : (s.setWin n h w).replay = s.replay := rfl
@[simp] theorem State.setWin_bn (n h : Nat) (w : Window) : (s.setWin n h w).bn = s.bn := rfl
@[simp] theorem State.setWin_snap (n h : Nat) (w : Window) : (s.setWin n h w).snap = s.snap := rfl
@[simp] theorem State.setWin_scan (n h : Nat) (w : Window) : (s.setWin n h w).scan = s.scan := rfl
@[simp] theorem State.setWin_tap (n h : Nat) (w : Window) : (s.setWin n h w).tap = s.tap := rfl
@[simp] theorem State.setWin_pins (n h : Nat) (w : Window) : (s.setWin n h w).pins = s.pins := rfl
@[simp] theorem State.setWin_nimap (n h : Nat) (w : Window) : (s.setWin n h w).nimap = s.nimap := rfl
@[simp] theorem State.setWin_plot (n h : Nat) (w : Window) : (s.setWin n h w).plot = s.plot := rfl
@[simp] theorem State.setWin_cr (n h : Nat) (w : Window) : (s.setWin n h w).cr = s.cr := rfl
@[simp] theorem State.setWin_spad (n h : Nat) (w : Window) : (s.setWin n h w).spad = s.spad := rfl
@[simp] theorem State.setWin_hbm (n h : Nat) (w : Window) : (s.setWin n h w).hbm = s.hbm := rfl
@[simp] theorem State.setWin_flash (n h : Nat) (w : Window) : (s.setWin n h w).flash = s.flash := rfl
@[simp] theorem State.setWin_stamp (n h : Nat) (w : Window) : (s.setWin n h w).stamp = s.stamp := rfl
@[simp] theorem State.setWin_woken (n h : Nat) (w : Window) : (s.setWin n h w).woken = s.woken := rfl
@[simp] theorem State.setWin_stopped (n h : Nat) (w : Window) : (s.setWin n h w).stopped = s.stopped := rfl
@[simp] theorem State.setWin_fresh (n h : Nat) (w : Window) : (s.setWin n h w).fresh = s.fresh := rfl
@[simp] theorem State.setWin_pending (n h : Nat) (w : Window) : (s.setWin n h w).pending = s.pending := rfl

/-! ## setFl -/

@[simp] theorem State.setFl_time (n f : Nat) (x : Flow) : (s.setFl n f x).time = s.time := rfl
@[simp] theorem State.setFl_chr (n f : Nat) (x : Flow) : (s.setFl n f x).chr = s.chr := rfl
@[simp] theorem State.setFl_fuse (n f : Nat) (x : Flow) : (s.setFl n f x).fuse = s.fuse := rfl
@[simp] theorem State.setFl_regs (n f : Nat) (x : Flow) : (s.setFl n f x).regs = s.regs := rfl
@[simp] theorem State.setFl_latch (n f : Nat) (x : Flow) : (s.setFl n f x).latch = s.latch := rfl
@[simp] theorem State.setFl_rgn (n f : Nat) (x : Flow) : (s.setFl n f x).rgn = s.rgn := rfl
@[simp] theorem State.setFl_rtr (n f : Nat) (x : Flow) : (s.setFl n f x).rtr = s.rtr := rfl
@[simp] theorem State.setFl_chart (n f : Nat) (x : Flow) : (s.setFl n f x).chart = s.chart := rfl
@[simp] theorem State.setFl_sched (n f : Nat) (x : Flow) : (s.setFl n f x).sched = s.sched := rfl
@[simp] theorem State.setFl_launches (n f : Nat) (x : Flow) : (s.setFl n f x).launches = s.launches := rfl
@[simp] theorem State.setFl_net (n f : Nat) (x : Flow) : (s.setFl n f x).net = s.net := rfl
@[simp] theorem State.setFl_vt (n f : Nat) (x : Flow) : (s.setFl n f x).vt = s.vt := rfl
@[simp] theorem State.setFl_otx (n f : Nat) (x : Flow) : (s.setFl n f x).otx = s.otx := rfl
@[simp] theorem State.setFl_win (n f : Nat) (x : Flow) : (s.setFl n f x).win = s.win := rfl
@[simp] theorem State.setFl_ledger (n f : Nat) (x : Flow) : (s.setFl n f x).ledger = s.ledger := rfl
@[simp] theorem State.setFl_waiters (n f : Nat) (x : Flow) : (s.setFl n f x).waiters = s.waiters := rfl
@[simp] theorem State.setFl_lastGrant (n f : Nat) (x : Flow) : (s.setFl n f x).lastGrant = s.lastGrant := rfl
@[simp] theorem State.setFl_cancelled (n f : Nat) (x : Flow) : (s.setFl n f x).cancelled = s.cancelled := rfl
@[simp] theorem State.setFl_receipts (n f : Nat) (x : Flow) : (s.setFl n f x).receipts = s.receipts := rfl
@[simp] theorem State.setFl_xfers (n f : Nat) (x : Flow) : (s.setFl n f x).xfers = s.xfers := rfl
@[simp] theorem State.setFl_ap (n f : Nat) (x : Flow) : (s.setFl n f x).ap = s.ap := rfl
@[simp] theorem State.setFl_descs (n f : Nat) (x : Flow) : (s.setFl n f x).descs = s.descs := rfl
@[simp] theorem State.setFl_cplq (n f : Nat) (x : Flow) : (s.setFl n f x).cplq = s.cplq := rfl
@[simp] theorem State.setFl_ring (n f : Nat) (x : Flow) : (s.setFl n f x).ring = s.ring := rfl
@[simp] theorem State.setFl_waits (n f : Nat) (x : Flow) : (s.setFl n f x).waits = s.waits := rfl
@[simp] theorem State.setFl_sigLines (n f : Nat) (x : Flow) : (s.setFl n f x).sigLines = s.sigLines := rfl
@[simp] theorem State.setFl_mp (n f : Nat) (x : Flow) : (s.setFl n f x).mp = s.mp := rfl
@[simp] theorem State.setFl_slice (n f : Nat) (x : Flow) : (s.setFl n f x).slice = s.slice := rfl
@[simp] theorem State.setFl_scrubs (n f : Nat) (x : Flow) : (s.setFl n f x).scrubs = s.scrubs := rfl
@[simp] theorem State.setFl_err (n f : Nat) (x : Flow) : (s.setFl n f x).err = s.err := rfl
@[simp] theorem State.setFl_fence (n f : Nat) (x : Flow) : (s.setFl n f x).fence = s.fence := rfl
@[simp] theorem State.setFl_bnUp (n f : Nat) (x : Flow) : (s.setFl n f x).bnUp = s.bnUp := rfl
@[simp] theorem State.setFl_logs (n f : Nat) (x : Flow) : (s.setFl n f x).logs = s.logs := rfl
@[simp] theorem State.setFl_trace (n f : Nat) (x : Flow) : (s.setFl n f x).trace = s.trace := rfl
@[simp] theorem State.setFl_hp (n f : Nat) (x : Flow) : (s.setFl n f x).hp = s.hp := rfl
@[simp] theorem State.setFl_ol (n f : Nat) (x : Flow) : (s.setFl n f x).ol = s.ol := rfl
@[simp] theorem State.setFl_plan (n f : Nat) (x : Flow) : (s.setFl n f x).plan = s.plan := rfl
@[simp] theorem State.setFl_fw (n f : Nat) (x : Flow) : (s.setFl n f x).fw = s.fw := rfl
@[simp] theorem State.setFl_consort (n f : Nat) (x : Flow) : (s.setFl n f x).consort = s.consort := rfl
@[simp] theorem State.setFl_tp (n f : Nat) (x : Flow) : (s.setFl n f x).tp = s.tp := rfl
@[simp] theorem State.setFl_redm (n f : Nat) (x : Flow) : (s.setFl n f x).redm = s.redm := rfl
@[simp] theorem State.setFl_redWait (n f : Nat) (x : Flow) : (s.setFl n f x).redWait = s.redWait := rfl
@[simp] theorem State.setFl_hash (n f : Nat) (x : Flow) : (s.setFl n f x).hash = s.hash := rfl
@[simp] theorem State.setFl_replay (n f : Nat) (x : Flow) : (s.setFl n f x).replay = s.replay := rfl
@[simp] theorem State.setFl_bn (n f : Nat) (x : Flow) : (s.setFl n f x).bn = s.bn := rfl
@[simp] theorem State.setFl_snap (n f : Nat) (x : Flow) : (s.setFl n f x).snap = s.snap := rfl
@[simp] theorem State.setFl_scan (n f : Nat) (x : Flow) : (s.setFl n f x).scan = s.scan := rfl
@[simp] theorem State.setFl_tap (n f : Nat) (x : Flow) : (s.setFl n f x).tap = s.tap := rfl
@[simp] theorem State.setFl_pins (n f : Nat) (x : Flow) : (s.setFl n f x).pins = s.pins := rfl
@[simp] theorem State.setFl_nimap (n f : Nat) (x : Flow) : (s.setFl n f x).nimap = s.nimap := rfl
@[simp] theorem State.setFl_plot (n f : Nat) (x : Flow) : (s.setFl n f x).plot = s.plot := rfl
@[simp] theorem State.setFl_cr (n f : Nat) (x : Flow) : (s.setFl n f x).cr = s.cr := rfl
@[simp] theorem State.setFl_spad (n f : Nat) (x : Flow) : (s.setFl n f x).spad = s.spad := rfl
@[simp] theorem State.setFl_hbm (n f : Nat) (x : Flow) : (s.setFl n f x).hbm = s.hbm := rfl
@[simp] theorem State.setFl_flash (n f : Nat) (x : Flow) : (s.setFl n f x).flash = s.flash := rfl
@[simp] theorem State.setFl_stamp (n f : Nat) (x : Flow) : (s.setFl n f x).stamp = s.stamp := rfl
@[simp] theorem State.setFl_woken (n f : Nat) (x : Flow) : (s.setFl n f x).woken = s.woken := rfl
@[simp] theorem State.setFl_stopped (n f : Nat) (x : Flow) : (s.setFl n f x).stopped = s.stopped := rfl
@[simp] theorem State.setFl_fresh (n f : Nat) (x : Flow) : (s.setFl n f x).fresh = s.fresh := rfl
@[simp] theorem State.setFl_pending (n f : Nat) (x : Flow) : (s.setFl n f x).pending = s.pending := rfl

/-! ## delTx -/

/-- An entry of the wait table that is freed changes registers only. -/
theorem State.waitFree_frame (ni kind obj tag : Nat) : ∃ m, s.waitFree ni kind obj tag = { s with regs := m } := by
  unfold State.waitFree
  split
  · exact ⟨s.regs, rfl⟩
  · exact ⟨_, rfl⟩

/-- All that the end of a transaction does: it leaves the list, and its entry of the wait table is freed. -/
theorem State.delTx_frame (src txn : Nat) :
    ∃ m, s.delTx src txn = { s with regs := m, otx := delFirst (fun o => o.src == src && o.txn == txn) s.otx } := by
  unfold State.delTx State.txUnwait
  split
  · split
    · obtain ⟨m, h⟩ := s.waitFree_frame _ _ _ _
      exact ⟨m, by rw [h]⟩
    · exact ⟨s.regs, rfl⟩
  · exact ⟨s.regs, rfl⟩

@[simp] theorem State.delTx_time (src txn : Nat) : (s.delTx src txn).time = s.time := by
  obtain ⟨_, h⟩ := s.delTx_frame src txn
  rw [h]
@[simp] theorem State.delTx_chr (src txn : Nat) : (s.delTx src txn).chr = s.chr := by
  obtain ⟨_, h⟩ := s.delTx_frame src txn
  rw [h]
@[simp] theorem State.delTx_fuse (src txn : Nat) : (s.delTx src txn).fuse = s.fuse := by
  obtain ⟨_, h⟩ := s.delTx_frame src txn
  rw [h]
@[simp] theorem State.delTx_latch (src txn : Nat) : (s.delTx src txn).latch = s.latch := by
  obtain ⟨_, h⟩ := s.delTx_frame src txn
  rw [h]
@[simp] theorem State.delTx_rgn (src txn : Nat) : (s.delTx src txn).rgn = s.rgn := by
  obtain ⟨_, h⟩ := s.delTx_frame src txn
  rw [h]
@[simp] theorem State.delTx_rtr (src txn : Nat) : (s.delTx src txn).rtr = s.rtr := by
  obtain ⟨_, h⟩ := s.delTx_frame src txn
  rw [h]
@[simp] theorem State.delTx_chart (src txn : Nat) : (s.delTx src txn).chart = s.chart := by
  obtain ⟨_, h⟩ := s.delTx_frame src txn
  rw [h]
@[simp] theorem State.delTx_sched (src txn : Nat) : (s.delTx src txn).sched = s.sched := by
  obtain ⟨_, h⟩ := s.delTx_frame src txn
  rw [h]
@[simp] theorem State.delTx_launches (src txn : Nat) : (s.delTx src txn).launches = s.launches := by
  obtain ⟨_, h⟩ := s.delTx_frame src txn
  rw [h]
@[simp] theorem State.delTx_net (src txn : Nat) : (s.delTx src txn).net = s.net := by
  obtain ⟨_, h⟩ := s.delTx_frame src txn
  rw [h]
@[simp] theorem State.delTx_flow (src txn : Nat) : (s.delTx src txn).flow = s.flow := by
  obtain ⟨_, h⟩ := s.delTx_frame src txn
  rw [h]
@[simp] theorem State.delTx_vt (src txn : Nat) : (s.delTx src txn).vt = s.vt := by
  obtain ⟨_, h⟩ := s.delTx_frame src txn
  rw [h]
@[simp] theorem State.delTx_win (src txn : Nat) : (s.delTx src txn).win = s.win := by
  obtain ⟨_, h⟩ := s.delTx_frame src txn
  rw [h]
@[simp] theorem State.delTx_ledger (src txn : Nat) : (s.delTx src txn).ledger = s.ledger := by
  obtain ⟨_, h⟩ := s.delTx_frame src txn
  rw [h]
@[simp] theorem State.delTx_waiters (src txn : Nat) : (s.delTx src txn).waiters = s.waiters := by
  obtain ⟨_, h⟩ := s.delTx_frame src txn
  rw [h]
@[simp] theorem State.delTx_lastGrant (src txn : Nat) : (s.delTx src txn).lastGrant = s.lastGrant := by
  obtain ⟨_, h⟩ := s.delTx_frame src txn
  rw [h]
@[simp] theorem State.delTx_cancelled (src txn : Nat) : (s.delTx src txn).cancelled = s.cancelled := by
  obtain ⟨_, h⟩ := s.delTx_frame src txn
  rw [h]
@[simp] theorem State.delTx_receipts (src txn : Nat) : (s.delTx src txn).receipts = s.receipts := by
  obtain ⟨_, h⟩ := s.delTx_frame src txn
  rw [h]
@[simp] theorem State.delTx_xfers (src txn : Nat) : (s.delTx src txn).xfers = s.xfers := by
  obtain ⟨_, h⟩ := s.delTx_frame src txn
  rw [h]
@[simp] theorem State.delTx_ap (src txn : Nat) : (s.delTx src txn).ap = s.ap := by
  obtain ⟨_, h⟩ := s.delTx_frame src txn
  rw [h]
@[simp] theorem State.delTx_descs (src txn : Nat) : (s.delTx src txn).descs = s.descs := by
  obtain ⟨_, h⟩ := s.delTx_frame src txn
  rw [h]
@[simp] theorem State.delTx_cplq (src txn : Nat) : (s.delTx src txn).cplq = s.cplq := by
  obtain ⟨_, h⟩ := s.delTx_frame src txn
  rw [h]
@[simp] theorem State.delTx_ring (src txn : Nat) : (s.delTx src txn).ring = s.ring := by
  obtain ⟨_, h⟩ := s.delTx_frame src txn
  rw [h]
@[simp] theorem State.delTx_waits (src txn : Nat) : (s.delTx src txn).waits = s.waits := by
  obtain ⟨_, h⟩ := s.delTx_frame src txn
  rw [h]
@[simp] theorem State.delTx_sigLines (src txn : Nat) : (s.delTx src txn).sigLines = s.sigLines := by
  obtain ⟨_, h⟩ := s.delTx_frame src txn
  rw [h]
@[simp] theorem State.delTx_mp (src txn : Nat) : (s.delTx src txn).mp = s.mp := by
  obtain ⟨_, h⟩ := s.delTx_frame src txn
  rw [h]
@[simp] theorem State.delTx_slice (src txn : Nat) : (s.delTx src txn).slice = s.slice := by
  obtain ⟨_, h⟩ := s.delTx_frame src txn
  rw [h]
@[simp] theorem State.delTx_scrubs (src txn : Nat) : (s.delTx src txn).scrubs = s.scrubs := by
  obtain ⟨_, h⟩ := s.delTx_frame src txn
  rw [h]
@[simp] theorem State.delTx_err (src txn : Nat) : (s.delTx src txn).err = s.err := by
  obtain ⟨_, h⟩ := s.delTx_frame src txn
  rw [h]
@[simp] theorem State.delTx_fence (src txn : Nat) : (s.delTx src txn).fence = s.fence := by
  obtain ⟨_, h⟩ := s.delTx_frame src txn
  rw [h]
@[simp] theorem State.delTx_bnUp (src txn : Nat) : (s.delTx src txn).bnUp = s.bnUp := by
  obtain ⟨_, h⟩ := s.delTx_frame src txn
  rw [h]
@[simp] theorem State.delTx_logs (src txn : Nat) : (s.delTx src txn).logs = s.logs := by
  obtain ⟨_, h⟩ := s.delTx_frame src txn
  rw [h]
@[simp] theorem State.delTx_trace (src txn : Nat) : (s.delTx src txn).trace = s.trace := by
  obtain ⟨_, h⟩ := s.delTx_frame src txn
  rw [h]
@[simp] theorem State.delTx_hp (src txn : Nat) : (s.delTx src txn).hp = s.hp := by
  obtain ⟨_, h⟩ := s.delTx_frame src txn
  rw [h]
@[simp] theorem State.delTx_ol (src txn : Nat) : (s.delTx src txn).ol = s.ol := by
  obtain ⟨_, h⟩ := s.delTx_frame src txn
  rw [h]
@[simp] theorem State.delTx_plan (src txn : Nat) : (s.delTx src txn).plan = s.plan := by
  obtain ⟨_, h⟩ := s.delTx_frame src txn
  rw [h]
@[simp] theorem State.delTx_fw (src txn : Nat) : (s.delTx src txn).fw = s.fw := by
  obtain ⟨_, h⟩ := s.delTx_frame src txn
  rw [h]
@[simp] theorem State.delTx_consort (src txn : Nat) : (s.delTx src txn).consort = s.consort := by
  obtain ⟨_, h⟩ := s.delTx_frame src txn
  rw [h]
@[simp] theorem State.delTx_tp (src txn : Nat) : (s.delTx src txn).tp = s.tp := by
  obtain ⟨_, h⟩ := s.delTx_frame src txn
  rw [h]
@[simp] theorem State.delTx_redm (src txn : Nat) : (s.delTx src txn).redm = s.redm := by
  obtain ⟨_, h⟩ := s.delTx_frame src txn
  rw [h]
@[simp] theorem State.delTx_redWait (src txn : Nat) : (s.delTx src txn).redWait = s.redWait := by
  obtain ⟨_, h⟩ := s.delTx_frame src txn
  rw [h]
@[simp] theorem State.delTx_hash (src txn : Nat) : (s.delTx src txn).hash = s.hash := by
  obtain ⟨_, h⟩ := s.delTx_frame src txn
  rw [h]
@[simp] theorem State.delTx_replay (src txn : Nat) : (s.delTx src txn).replay = s.replay := by
  obtain ⟨_, h⟩ := s.delTx_frame src txn
  rw [h]
@[simp] theorem State.delTx_bn (src txn : Nat) : (s.delTx src txn).bn = s.bn := by
  obtain ⟨_, h⟩ := s.delTx_frame src txn
  rw [h]
@[simp] theorem State.delTx_snap (src txn : Nat) : (s.delTx src txn).snap = s.snap := by
  obtain ⟨_, h⟩ := s.delTx_frame src txn
  rw [h]
@[simp] theorem State.delTx_scan (src txn : Nat) : (s.delTx src txn).scan = s.scan := by
  obtain ⟨_, h⟩ := s.delTx_frame src txn
  rw [h]
@[simp] theorem State.delTx_tap (src txn : Nat) : (s.delTx src txn).tap = s.tap := by
  obtain ⟨_, h⟩ := s.delTx_frame src txn
  rw [h]
@[simp] theorem State.delTx_pins (src txn : Nat) : (s.delTx src txn).pins = s.pins := by
  obtain ⟨_, h⟩ := s.delTx_frame src txn
  rw [h]
@[simp] theorem State.delTx_nimap (src txn : Nat) : (s.delTx src txn).nimap = s.nimap := by
  obtain ⟨_, h⟩ := s.delTx_frame src txn
  rw [h]
@[simp] theorem State.delTx_plot (src txn : Nat) : (s.delTx src txn).plot = s.plot := by
  obtain ⟨_, h⟩ := s.delTx_frame src txn
  rw [h]
@[simp] theorem State.delTx_cr (src txn : Nat) : (s.delTx src txn).cr = s.cr := by
  obtain ⟨_, h⟩ := s.delTx_frame src txn
  rw [h]
@[simp] theorem State.delTx_spad (src txn : Nat) : (s.delTx src txn).spad = s.spad := by
  obtain ⟨_, h⟩ := s.delTx_frame src txn
  rw [h]
@[simp] theorem State.delTx_hbm (src txn : Nat) : (s.delTx src txn).hbm = s.hbm := by
  obtain ⟨_, h⟩ := s.delTx_frame src txn
  rw [h]
@[simp] theorem State.delTx_flash (src txn : Nat) : (s.delTx src txn).flash = s.flash := by
  obtain ⟨_, h⟩ := s.delTx_frame src txn
  rw [h]
@[simp] theorem State.delTx_stamp (src txn : Nat) : (s.delTx src txn).stamp = s.stamp := by
  obtain ⟨_, h⟩ := s.delTx_frame src txn
  rw [h]
@[simp] theorem State.delTx_woken (src txn : Nat) : (s.delTx src txn).woken = s.woken := by
  obtain ⟨_, h⟩ := s.delTx_frame src txn
  rw [h]
@[simp] theorem State.delTx_stopped (src txn : Nat) : (s.delTx src txn).stopped = s.stopped := by
  obtain ⟨_, h⟩ := s.delTx_frame src txn
  rw [h]
@[simp] theorem State.delTx_fresh (src txn : Nat) : (s.delTx src txn).fresh = s.fresh := by
  obtain ⟨_, h⟩ := s.delTx_frame src txn
  rw [h]
@[simp] theorem State.delTx_pending (src txn : Nat) : (s.delTx src txn).pending = s.pending := by
  obtain ⟨_, h⟩ := s.delTx_frame src txn
  rw [h]

end Sys2Proof.Machine
end

