-- ==== Sys2Proof/Tests/Slice0.lean ====
section
/-!
SUPPORT. Tests: ill-formed operands are refused, known answers of the spec's worked examples and of published check values, single steps, and
for each statement a state and operands that meet its hypotheses.
-/

open Sys2Proof Sys2Proof.Machine

namespace Sys2Proof.Tests

set_option Elab.async false

/-! ## States and packets that the tests use -/

/-- Every region has power and Stolrel is in READY. -/
def up : State :=
  (({ State.reset with bnUp := true }.setFld BN_PWR_EN0_EN (2 ^ 32 - 1)).setFld BN_PWR_EN1_EN 15).setFld BN_STATE_STATE 3

/-- As `up`, with NI 0 in tenancy 0. -/
def owned : State := up.setFld NI_TN_STATE_STATE 1

/-- A packet from the NI of slot 1 to that of slot 0. -/
def pk (o : Op) (args : List Nat) (data : List Nat := []) : Pkt := mkPkt o (niLoc 1) (niLoc 0) 0 0 0 args data

/-- A packet without operands, and one that carries data. -/
def aPkt : Pkt := pk opPAUSE []
def datPkt : Pkt := pk opWRITE [] [0]

/-! ## WellFormed: each check refuses a term -/

theorem test_wf_named : ([.regionReset 36, .islandReset 2304, .chRun (2 ^ 32), .credit 0 (2 ^ 64), .linkReset 32, .arbitrate 16, .clearHist 8 0 0,
 .clearHist 3 16 0, .memRd 2, .linkLoss 0 32, .handleWrite 0 0 0 (2 ^ 32)] : List Instr).all (fun c => c.wf == false) = true := by decide +kernel

theorem test_wf_packet :
    ([{ aPkt with src := ⟨48, 0, 0⟩ }, { aPkt with src := ⟨0, 48, 0⟩ }, { aPkt with src := ⟨0, 0, 8⟩ }, { aPkt with dst := ⟨64, 0, 0⟩ },
 { aPkt with dst := ⟨0, 64, 0⟩ }, { aPkt with dst := ⟨0, 0, 8⟩ }, { aPkt with ten := 64 }, { aPkt with flow := 32 },
 { aPkt with txn := 4096 }, { aPkt with egen := 2 }, { aPkt with hops := 128 }, { aPkt with op := 64 }, { aPkt with data := [256] },
 { aPkt with data := List.replicate 4097 0 }, { aPkt with args := [2 ^ 64] }] : List Pkt).all
      (fun p => Instr.wf (.start 0 p) == false) = true := by decide +kernel

def wfRange1 : List Instr :=
    [.dipDemand 0 256, .pairLoRead 131 0, .regRd 0 4096 false 0 0 1, .regRd 0 0 false 64 0 1, .regRd 0 0 false 0 (2 ^ 64) 1,
     .regRd 0 0 false 0 0 4097, .regWr 0 4096 false 0 0 [0], .regWr 0 0 false 64 0 [0], .regWr 0 0 false 0 (2 ^ 64) [0],
     .regTimeout 0 4096, .routeHeader 0 7 aPkt 0, .routeHeader 0 0 aPkt 4, .routerOutputArbitrate 0 6 0, .routerOutputArbitrate 0 0 4,
     .wheelUnpark 0 34, .flowRateWrite 0 32 0, .flowCfgWrite 0 32 0, .openTimeout 0 4096, .creditAns 0 6 aPkt,
     .creditWaitExpire 0 4096 0, .closeTakesEffect 0 256, .drainLimitExpire 0 256, .writeAck 0 6 aPkt, .rollTimeExpire 0 4096,
     .apStore 0 false (2 ^ 26) 0 [], .apStore 0 false 0 33 [], .apResend 0 4096, .redLimitExpire 0 4096, .redIdHoldExpire 0 4096,
     .tnBell 0 64 0, .descriptorFetch 0 4100 aPkt, .cqRecheck 0 4096, .completionWrite 0 4100 [], .ringCfgWrite 4096 0, .tqBell 0 4 0,
     .tqCfgWrite 0 4 0, .hashTimeout 4096, .sigWritten 0 4096 0, .sigWritten 0 0 (2 ^ 64), .snoopTimeout 0 4096 0]
def wfRange2 : List Instr :=
    [.sigPageWrite 64 0, .consort 0 (2 ^ 16) 0 false 0 0 0, .consort 0 0 0 false (2 ^ 18) 0 0, .consort 0 0 0 false 0 (2 ^ 64) 0,
     .consortFrameLost 0 (2 ^ 16) 0 0, .consortFrameLost 0 0 0 (2 ^ 18), .fenceWire 0 4, .repair 9121, .soundingFlit 0 4 0 0,
     .soundingFlit 0 0 (2 ^ 16) 0, .soundingFlit 0 0 0 (2 ^ 2048), .routerSelftest 0 256 false, .frameReceive 0 65536 false 0,
     .frameReceive 0 0 false 3, .openFlit 0 datPkt 17, .ack 0 65536, .nak 0 65536, .landMark 0 256, .ident 0 (2 ^ 120),
     .sync 0 (2 ^ 60) 0, .sync 0 0 4096, .resume 0 0 65536, .train 0 16, .xlatIdleExpire 0 4096, .pmaReady 0 16, .sigDetLoss 0 16,
     .alignDone 0 16, .lockDone 0 65536 0, .lockDone 0 0 256, .wrDone 0 256, .readReturn 0 256 false,
     .debugTransaction 0 (2 ^ 36) false 0, .debugTransaction 0 0 false (2 ^ 2048), .bookingCfgWrite 0 64 0, .nearCfgWrite 33 0,
     .mapCopyApply 2320, .ctrlReady 0 false 64, .grantCfgWrite 256 0, .handleWrite 0 256 0 0, .handleWrite 0 0 3 0]
def wfRange3 : List Instr :=
    [.pairWrite 0 8 0, .sensorRefresh 0 256 0 false, .pmbusPoll false 65536 0 0 0, .pmbusPoll false 0 65536 0 0,
     .pmbusPoll false 0 0 65536 0, .pmbusPoll false 0 0 0 65536, .coldReset 4096 0 false false 0, .coldReset 0 8 false false 0,
     .coldReset 0 0 false false 3, .bnReset 3, .unitClockLost 64, .coreFatal 0 256, .spErr 0 false (2 ^ 18), .ctrlFatalIn 16 false,
     .coreRequest 0 false 0 (2 ^ 256) 0, .cpl 0 4096 0 [], .cpl 0 0 256 [], .hostTagTimeout 0 4096, .txCrd 0 2, .snapshotCopy 6 0,
     .snapshotCopy 0 2304, .tracePacketTimeout 0 4096, .freeze 4 0 0, .freeze 0 2304 0, .memdbg (2 ^ 2112), .alignmentMarker 0 4 0,
     .alignmentMarker 0 0 3, .armingFrame (List.replicate 8 0) (2 ^ 64) 0, .stackTemperature 0 256 0, .stackTemperature 0 0 256,
     .niReachWrite 0 128 0]

theorem test_wf_range : ([wfRange1, wfRange2, wfRange3].flatten).all (fun c => c.wf == false) = true := by decide +kernel

def wfShape : List Instr :=
    [.landingFlitArrive 0 [0], .landingFlitArrive 0 [16, 0, 0, 0], .landingFlitArrive 0 [0, 4, 0, 0],
     .landingFlitArrive 0 [0, 0, 2 ^ 2048, 0], .landingFlitArrive 0 [0, 0, 0, 2], .slotExecute 0 [18432], .regRd 0 0 false 0 0 0,
     .regWr 0 0 false 0 0 [], .regWr 0 0 false 0 0 [256], .apStore 0 true 0 2 [0], .replayInject [0, 0, 0], .replayInject [],
     .replayInject [2 ^ 64, 0, 0, 0], .replayInject (List.replicate 16 0), .small 0 [(aPkt, 4)], .small 0 [(datPkt, 0)],
     .small 0 (List.replicate 16 (aPkt, 0)), .openFlit 0 aPkt 0, .syncSend [32], .unitClockLost 35, .unitClockLost 61,
     .unitClockLost 62, .powerWave [36] [] [] [] false, .powerWave [] [2304] [] [] false, .powerWave [] [] [2304] [] false,
     .powerWave [] [] [] [36] false, .armingFrame [0] 0 0, .armingFrame (List.replicate 8 (2 ^ 32)) 0 0, .completionWrite 0 0 [256],
     .cpl 0 0 0 (List.replicate 4097 0)]

theorem test_wf_shape : (wfShape).all (fun c => c.wf == false) = true := by decide +kernel

/-! Every constructor has a well-formed term. -/

def wfAccepts1 : List Instr :=
    [.chRun 0, .chLoad 0, .holdForce 0, .localBeatStart 0, .slotExecute 0 [], .stallResume 0 0, .stallTimeout 0, .clockAbsent 0,
     .clockAbsentClear 0, .clockLost 0, .dipDemand 0 0, .stretchRelease 0, .registerWrite 0 0, .pairLoRead 0 0, .regRd 0 0 false 0 0 1,
     .regWr 0 0 false 0 0 [0], .regAns 0 aPkt, .regTimeout 0 0, .start 0 aPkt, .segmentLoaded 0, .loadWaitEnd 0, .segDone 0 aPkt,
     .segDoneSend 0, .segAbort 0 aPkt, .abort 0 aPkt, .ejectWrite 0, .landingFlitArrive 0 [], .olLandCfgWrite 0 0,
     .routeHeader 0 0 aPkt 0, .escWaitExpire 0 aPkt, .outputAged 0 aPkt, .routerOutputArbitrate 0 0 0, .drop 0 aPkt, .purge0 0 0,
     .purge1 0 0, .openPacketStart 0, .wheelUnpark 0 0, .flowRateWrite 0 0 0, .flowCfgWrite 0 0 0, .openTimeout 0 0,
     .read 0 aPkt false, .readData 0 aPkt false, .readErr 0 aPkt, .creditReq 0 aPkt, .creditAns 0 0 aPkt]
def wfAccepts2 : List Instr :=
    [.creditReturn 0 aPkt, .creditCancel 0 aPkt, .creditWaitExpire 0 0 0, .reqWinOpen 0 aPkt, .reqWinReplenish 0 aPkt,
     .snpWinClose 0 aPkt, .closeTakesEffect 0 0, .drainLimitExpire 0 0, .winAns 0 aPkt, .creditRevoke 0 aPkt, .write 0 aPkt false,
     .writeMc 0 aPkt false, .writeAck 0 0 aPkt, .reqAtomic 0 aPkt false, .atomicAns 0 aPkt, .rollcall 0 aPkt, .rollAns 0 aPkt,
     .rollTimeExpire 0 0, .combiningSlotFree 0, .apStore 0 false 0 0 [], .apWrite 0 aPkt, .apResend 0 0, .redData 0 aPkt false,
     .redAck 0 aPkt, .redBusy 0 aPkt, .redResend 0 aPkt, .redResult 0 aPkt false, .redFail 0 aPkt, .redAbort 0 aPkt,
     .redLimitExpire 0 0, .redIdHoldExpire 0 0, .tnBell 0 0 0, .fbBell 0 0, .bell 0 aPkt, .doorbellRecordRead 0 aPkt,
     .descriptorFetch 0 0 aPkt, .cqRecheck 0 0, .completionWrite 0 0 [], .ringCfgWrite 0 0, .tqBell 0 0 0, .tqCfgWrite 0 0 0,
     .descriptorStart 0 0, .notBeforeReached 0 0, .nop 0 0, .copy 0 0]
def wfAccepts3 : List Instr :=
    [.mcastWrite 0 0, .atomic 0 0, .winOpen 0 0, .winClose 0 0, .winReplenish 0 0, .chartRun 0 0, .chartPause 0 0, .pause 0 aPkt,
     .reduce 0 0, .airExtract 0 0, .airConvert 0 0, .airFinish 0 0, .streamReady 0 0, .wait 0 0, .waitTimeout 0 0, .hash 0 0,
     .hashTimeout 0, .sigRead 0 aPkt, .sigWritten 0 0 0, .sigInv 0 aPkt, .sigInvAck 0 aPkt, .snoopTimeout 0 0 0, .sigPageWrite 0 0,
     .consortArm 0, .consort 0 0 0 false 0 0 0, .consortFrameLost 0 0 0 0, .replayRecordStart 0, .replayStart 0, .replayStop 0,
     .replayInject [0, 0, 0, 0], .errMsg aPkt false, .attn aPkt false, .clearHist 0 0 0, .leaveSafe 0 0 0, .clearWindows 0 0 0,
     .errInjectWrite 0 0 0, .fence 0 aPkt, .fenceWire 0 0, .repair 0, .publish 0, .repairHoldExpire 0 0, .soundingFlit 0 0 0 0,
     .routerSelftest 0 0 false, .kick 0, .frameReceive 0 0 false 0]
def wfAccepts4 : List Instr :=
    [.linkFlitTransmit 0, .small 0 [], .openFlit 0 datPkt 0, .ack 0 0, .nak 0 0, .credit 0 0, .landMark 0 0, .stream 0 0, .ident 0 0,
     .identSend 0, .sync 0 0 0, .syncSend [], .linkLoss 0 0, .resume 0 0 0, .train 0 0, .linkEgressPacket 0 aPkt,
     .linkIngressRequest 0, .linkIngressAnswer 0, .xlatIdleExpire 0 0, .linkEnable 0 0, .retrain 0 0, .holdDown 0 0, .pmaReady 0 0,
     .sigDetLoss 0 0, .alignDone 0 0, .widthChosen 0, .lockDone 0 0 0, .identDone 0, .trainLimitExpire 0, .discover 0, .holdAll 0,
     .arbitrate 0, .wrDone 0 0, .readReturn 0 0 false, .refreshHold 0, .refreshHoldEnd 0, .refreshStuck 0, .rearm 0 0, .go 0 0,
     .debugTransaction 0 0 false 0, .bookingCfgWrite 0 0 0, .nearCfgWrite 0 0, .mapCopyApply 0, .ctrlReady 0 false 0,
     .grantCfgWrite 0 0]
def wfAccepts5 : List Instr :=
    [.grantCopyApply 0, .handleWrite 0 0 0 0, .pairWrite 0 0 0, .assign 0, .sliceEnd 0, .kill 0, .release 0, .scrub 0, .slice 0 aPkt,
     .sliceAns aPkt, .scrubDone 0 false, .groupDefine 0 false, .groupUndefine 0 false, .ridDefine 0 false, .ridUndefine 0 false,
     .stageImage 0 false, .logCopy 0 false, .recvChunk 0 false, .recvEnd 0 false, .bnLock 0, .sensorRefresh 0 0 0 false, .govEnable 0,
     .pmbusPoll false 0 0 0 0, .logWrite false, .coldReset 0 0 false false 0, .regionReset 0, .islandReset 0, .linkReset 0, .bnReset 0,
     .powerWave [] [] [] [] false, .coreBistDone 0 0, .coreBistTimeout 0, .fwloadEnable 0 0, .fwChunk 0, .imageDigestDone 0,
     .fwRelease 0 0, .unitClockLost 36, .coreFatal 0 0, .spErr 0 false 0, .ctrlFatalIn 0 false, .hpFatalIn 0 false,
     .coreRequest 0 false 0 0 0, .memRd 0, .memWr 0, .cpl 0 0 0 []]
def wfAccepts6 : List Instr :=
    [.hostTagTimeout 0 0, .txCrd 0 0, .cntSnapGo 0, .snapshotCopy 0 0, .traceFlush 0, .tracePacketTimeout 0 0, .traceAccept aPkt,
     .freeze 0 0 0, .plotGo 0, .stop 0, .anchorRearm 0, .scanGo 0, .thrRearm 0, .memdbg 0, .alignmentMarker 0 0 0,
     .armingFrame (List.replicate 8 0) 0 0, .stackTemperature 0 0 0, .imageSlotWritten false, .niReachWrite 0 0 0, .beatMark, .refLost,
     .tickToggle, .kickMissed, .syncLost, .discoveryJudge, .sliceTimeout, .mboxCmdDropped, .powerEstimate, .governorLoop, .warmReset,
     .bcClockLost, .irq, .snapshotTimeout, .traceSend, .captureStall, .anchorN, .anchorNStuck, .anchorPartialFreeze, .throttleAssert,
     .thrMinExpire, .thrStuck, .idcode, .scan, .bypass, .trst]

theorem test_wf_accepts : ([wfAccepts1, wfAccepts2, wfAccepts3, wfAccepts4, wfAccepts5, wfAccepts6].flatten).all (fun c => c.wf) = true := by decide +kernel

theorem test_malformed_stops : exec (.islandReset 2304) up = .fault .malformed ∧ exec (.chRun (2 ^ 32)) up = .fault .malformed := ⟨rfl, rfl⟩

/-! ## Known answers: worked examples of the spec, and published check values of its algorithms -/

/-- 00_scope.md: P(19,42) lies in region 32; 16_address_map.md: the offsets of NI_FLOW_CFG5 at P(12,30) and RG_ESC_STATUS of region 20. -/
theorem test_places : regionOf (48 * 42 + 19) = 32 ∧ NI_FLOW_CFG.addr (48 * 30 + 12) 5 = 0x06D60850 ∧ RG_ESC_STATUS.addr 20 0 = 0x000B4104 := by
  decide +kernel

/-- 00_scope.md: the fabric global address of chip 5, tile 1,234, handle 17, offset 0x4000. -/
theorem test_address : adChip 0x0051348440004000 = 5 ∧ adSpace 0x0051348440004000 = 0 ∧ adTile 0x0051348440004000 = 1234 ∧
    adHandle 0x0051348440004000 = 17 ∧ adOfs 0x0051348440004000 = 0x4000 := by decide +kernel

/-- 11_memory_ports.md: with I = 48, HBM offset 64 GiB is at MP0, in-port address 4 GiB. -/
theorem test_interleave : HbmMap.decode { ilv := 48 } 0x1000000000 = some (0, 2 ^ 32) := by decide +kernel

/-- R180: the worked merge of two TOPK lists with K = 4. -/
theorem test_topk : padTo 4 4 (mergeRank 8 [(0x41180000, 12), (0x40E00000, 3), (0x40E00000, 40), (0x40000000, 8)]
    [(0x41000000, 100), (0x40E00000, 5), (0x3FC00000, 7), padPair]) =
    [(0x41180000, 12), (0x41000000, 100), (0x40E00000, 3), (0x40E00000, 5)] := by decide +kernel

/-- R182, R183: the worked W and LSE merge. -/
theorem test_lse : expW 0xBF840000 = 0x3EB68F29 ∧ lseMerge [0x40000000, 0x3FC00000, 0x3F400000, 0xBE800000]
    [0x3F780000, 0x40000000, 0x3F800000, 0x3F000000] = [0x40000000, 0x400DA3CA, 0x3F8DA3CA, 0xBD92E1AE] := by decide +kernel

/-- R177: a finite value beyond the largest becomes ±448 in E4M3 and ±Inf in FP16; an infinity in E4M3 is NaN. -/
theorem test_narrow : e4m3.encode false (fp32.decode 0x49742400) = 0x7E ∧ e4m3.encode false (.inf false) = 0x7F ∧
    fp16.encode false (fp32.decode 0xC9742400) = 0xFC00 := by decide +kernel

/-- CRC-32C, CRC-64/XZ and SHA-256 at the check values their publications give. -/
theorem test_digests : crc32c [49, 50, 51, 52, 53, 54, 55, 56, 57] = 0xE3069283 ∧
    crc64 [49, 50, 51, 52, 53, 54, 55, 56, 57] = 0x995DC9BBDF1939FA ∧
    (sha256 [97, 98, 99]).take 8 = [0xBA, 0x78, 0x16, 0xBF, 0x8F, 0x01, 0xCF, 0xEA] := by decide +kernel

/-- 13_binnacle_and_bring_up.md: in grade A the home position of rank 19 in region 20 is P(19,26), and of rank 12 in region 35 P(44,41). -/
theorem test_homes : (State.reset.homes 20).getD 19 0 = 48 * 26 + 19 ∧ (State.reset.homes 35).getD 12 0 = 48 * 41 + 44 := by decide +kernel

/-- R236: PHASE is 1 in the first pass and 0 in the second. -/
theorem test_phase : phaseBit 0 8 = 1 ∧ phaseBit 255 8 = 1 ∧ phaseBit 256 8 = 0 := by decide +kernel

/-! ## Single steps -/

/-- The state after a step, or the state itself where it stops. -/
def after (c : Instr) (s : State) : State :=
  match step { s with pending := [c] } with
  | .next t => t
  | _ => s

/-- R35: an edge with RUN 1 is a mark; with RUN 0 it is none. -/
theorem test_mark : (after .beatMark (up.setFld CH_CTRL_RUN 1)).time = ⟨1, 0⟩ ∧ (after .beatMark up).time = ⟨0, 0⟩ := by decide +kernel

/-- R46: a request raised after a mark is in effect from the second mark on. -/
theorem test_hold : (after .beatMark (after .beatMark (after (.holdForce 5) (up.setFld CH_CTRL_RUN 1)))).time = ⟨2, 1⟩ := by decide +kernel

/-- R38: LOAD is discarded while RUN is 1. -/
theorem test_load : (after (.chLoad 2) (up.setFld CH_LOAD_LO_LOAD_LO 7)).time = ⟨7, 0⟩ ∧
    (after (.chLoad 3) (up.setFld CH_LOAD_LO_LOAD_LO 7)).fld CH_STATUS_LOAD_IGNORED = 1 := by decide +kernel

/-- R383: a write of BN_MBOX_CMD while BUSY sets DROPPED; an unlisted request ends BAD_DESCRIPTOR. -/
theorem test_mailbox : (after (.stageImage 5 false) (up.setFld BN_MBOX_STATUS_BUSY 1)).fld BN_MBOX_STATUS_DROPPED = 1 ∧
    (after (.stageImage 9 false) up).fld BN_MBOX_STATUS_STATUS = 0x32 ∧ (after (.stageImage 9 false) up).fld BN_MBOX_STATUS_DONE = 1 := by
  decide +kernel

/-- R371: ASSIGN takes a FREE member to a tenancy; END at a FREE member changes nothing. -/
theorem test_slice : (after (.slice 0 { pk opSLICE [1, 0, 9] with src := bnLoc }) (up.setFld NI_TN_STATE_STATE 0)).tnState 0 = 1 ∧
    (after (.slice 0 { pk opSLICE [1, 0, 9] with src := bnLoc }) (up.setFld NI_TN_STATE_STATE 0)).owner 0 = 9 ∧
    (after (.slice 0 { pk opSLICE [2, 0, 9] with src := bnLoc }) (up.setFld NI_TN_STATE_STATE 0)).tnState 0 = 0 := by decide +kernel

/-- R369: an ISLAND reset leaves the NI in SCRUB_FULL. -/
theorem test_island : (State.islandReset (up.setFld NI_TN_STATE_STATE 1 7) 7).tnState 7 = 4 := by decide +kernel

/-- R388: 12.5 V in LINEAR11 with exponent −5 is 400 · 2^−5. -/
theorem test_linear11 : linear11 100 0xD990 = 1250 := by decide +kernel

/-- R429: an edge of ANCHOR_N stops the die; R455: an edge of THROTTLE_N counts. -/
theorem test_pins : (after .anchorN up).chr.stopWire = true ∧ (after .anchorN up).fld FB_ANCHOR_STATUS_EDGES = 1 ∧
    (after .throttleAssert up).fld FB_INPUT_CNT_THR_EDGES = 1 := by decide +kernel

/-! ## Witnesses: states and operands that meet the hypotheses of each statement, clause by clause -/

/-- No injected parity fault waits in `up`. -/
theorem witness_parity : ∀ u i, (up.eu u i).parityArmed = false := fun _ _ => rfl

/-- The mark with RUN 1: `ticking`. -/
def ticking : State := up.setFld CH_CTRL_RUN 1

theorem witness_MarkCountsBeatsAndHeldMarks : ticking.fld CH_CTRL_RUN = 1 ∧ ticking.chr.syncStep = none ∧ ticking.chr.stopSeen = 0 ∧
    ticking.chr.stopWire = false ∧ (ticking.rg 35).absent = false ∧ (ticking.rg 35).f3 = false ∧ ticking.powered 35 = true ∧
    up.fld CH_CTRL_RUN ≠ 1 := by decide +kernel

theorem witness_RegionsRequestTheAnchorHold : 3 < Region.lag { s := 4 } ∧ 0 < Region.lag { s := 1, holdReq := true } ∧
    Region.lag {} = 0 ∧ Region.lag { s := 3 } ≤ 3 ∧ up.holdLine = false ∧ (up.setFld CH_CTRL_HOLD_FORCE 1).holdLine = true := by decide +kernel

theorem witness_ChCtrlWriteJudgesLoadByTheRunItLeaves : Instr.chLoad 2 ∈ [Instr.chRun 2, .chLoad 2, .holdForce 2] ∧
    2 / 2 % 2 = 1 ∧ 2 % 2 = 0 ∧ 3 / 2 % 2 = 1 ∧ 3 % 2 = 1 := by decide +kernel

/-- Region 35 between beats, in a slot, and stalled. -/
def lagging : State := up.modRg 35 (fun r => { r with s := 1, slot := 16 })
def inSlot : State := up.modRg 35 (fun r => { r with slot := 1 })

theorem witness_RegionsKeepTimeAndRun :
    ((up.modRg 35 fun r => { r with absent := true }).rg 35).absent = true ∧ up.fld RG_SENSOR_SAG_BAD 35 = 0 ∧
    (up.setFld RG_DIP_THR_THR4 5 35).fld RG_DIP_THR_THR4 35 ≤ 5 ∧
    (lagging.rg 35).frozen = false ∧ (lagging.rg 35).f3 = false ∧ (lagging.rg 35).absent = false ∧ lagging.powered 35 = true ∧
    16 ≤ (lagging.rg 35).slot ∧ 0 < (lagging.rg 35).lag ∧ lagging.fld (xx_ERR_INJECT_ARM .rg) 35 = 0 ∧
    0 < (inSlot.rg 35).slot ∧ (inSlot.rg 35).slot < 16 ∧ (inSlot.rg 35).stalled = false ∧
    (∀ k < 64, inSlot.stalls (regionSlot 35 k) (inSlot.rg 35).L (inSlot.rg 35).slot = false) ∧
    ((inSlot.modRg 35 fun r => { r with stalled := true }).rg 35).stalled = true := by decide +kernel

/-- NI 0's FB_MODE is a register without commands of its own; a host port's requests of every kind. -/
theorem witness_RegisterWritesAndBridgeRequests : locate (FB_MODE.addr 0 0) = some (FB_MODE, 0, 0) ∧ FB_MODE.ownWrite = false ∧
    up.regAlive (FB_MODE.addr 0 0) = true ∧ blockOf (TN_BELL.addr 63 0) = some (.tn, 63) ∧ TN_BELL.addr 63 0 % 4 = 0 ∧
    (blockOf (FB_MODE.addr 0 0)).isSome ∧ blockOf (2 ^ 64 - 1) = none ∧ up.fld (xx_ERR_INJECT_ARM .hp) 1 = 0 ∧
    (pk opREG_ANS [0, 0]).kind = opREG_ANS ∧ okPkt (pk opREG_ANS [0, 0]) = true := by decide +kernel

theorem witness_PairReadsLatchTheUpperHalf : up.regAlive (CH_TIME_LO.addr 0 0) = true ∧
    locate (CH_TIME_LO.addr 0 0) = some (CH_TIME_LO, 0, 0) ∧ CH_TIME_LO.isLo = true ∧
    locate (CH_TIME_LO.addr 0 0 + 4) = some (CH_TIME_HI, 0, 0) ∧ CH_TIME_HI.isLo = false := by decide +kernel

theorem witness_CoreRequestsAndFatalInputs : up.niUp 2303 = true ∧ up.frozenAt 2303 = false ∧
    0x3FFF003F < 0x3FFF0040 ∧ 0x3FFF0001 % 4 ≠ 0 ∧ 2 ∉ (up.eu .mp 15).persist ∧
    2 ∈ ((up.setEu .hp 1 { persist := [2] }).eu .hp 1).persist := by decide +kernel

/-- Host port 1 with a read of tag 5 waiting and one of tag 6 out. -/
def aReq (tag : Nat) : HReq := ⟨⟨2, tag, 0, true, 4, 0, 0, []⟩, .serve aPkt⟩
def asking : State := up.modHp 1 fun h => { h with
  q := [aReq 5]
  crd0 := 1
  out := [aReq 6] }

theorem witness_BridgeRequestsHoldTagsAndCredits : (Instr.memRd 1, 2) ∈ [(Instr.memRd 1, 2), (.memWr 1, 3)] ∧
    asking.fld (xx_ERR_STATUS_SAFE .hp) 1 = 0 ∧ asking.fld (xx_ERR_INJECT_ARM .hp) 1 = 0 ∧ (asking.hpt 1).q = [aReq 5] ∧
    (aReq 5).b.kind = 2 ∧ 0 < (asking.hpt 1).crd0 ∧ (asking.hpt 1).out.length < 4096 ∧ (up.hpt 0).q = [] ∧
    (asking.hpt 1).out.find? (fun o => o.b.tag == 6) = some (aReq 6) ∧ (∀ o ∈ (asking.hpt 1).out, o.b.tag ≠ 4095) ∧
    stOK ≠ stDATA_ERROR ∧ (asking.hpt 1).cpls = [] := by decide +kernel

theorem witness_ThrottleAndJtagInputs : up.fld FB_INPUT_STATUS_THR_STUCK = 0 ∧
    ({ up with pins := { up.pins with thrLow := true } }).pins.thrLow = true ∧ up.pins.thrLow = false ∧ up.fuse.jep106 < 2 ^ 11 ∧
    up.fld FB_SCAN_CFG_JTAG_EN = 0 ∧ (up.setFld FB_SCAN_CFG_JTAG_EN 1).fld FB_SCAN_CFG_JTAG_EN = 1 ∧
    (State.scanStep { up with scan := { on := true, jtag := true, left := [(15, 0, 0)] } }).isSome := by decide +kernel

/-- A chart that NI 0 runs, and the launch of chart 9 at NI 0. -/
def aRun : ChartRun := ⟨9, 0, 0, 0, false, 0, 0, none, [], none, 0, none, none, [], 0, false, false, 0, false⟩
def aLaunch : Launch := ⟨0, 9, 3, 0, 0, 0, [0], 0, 0, 0, [], [], none, none, none, none, false⟩
def running : State := { owned.setCh 0 (some { aRun with donePend := [(0, 0)] }) with launches := [aLaunch] }
/-- The same where the chart's abort comes of a fence. -/
def fencedRun : State := running.setCh 0 (some { aRun with fence := true })

theorem witness_ChartsStartLoadReportAndAbort : owned.niUp 0 = true ∧ owned.frozenAt 0 = false ∧
    (pk opSTART [9, 0, 0, 0, 0]).kind = opSTART ∧ (pk opSTART [9, 0, 0, 0, 0]).arg 3 ≠ 1 ∧ up.tnState 0 ≠ 1 ∧ owned.tnState 0 = 1 ∧
    owned.ch 0 = none ∧ (owned.setFld NI_CHART_CTRL_ENABLE 1).fld NI_CHART_CTRL_ENABLE 0 = 1 ∧ (owned.rg (regionOf 0)).L ≤ 0 ∧
    (running.rt 0).idle = none ∧ (running.rt 0).ejecting = [] ∧ running.niUp 0 = true ∧
    running.ch 0 = some { aRun with donePend := [(0, 0)] } ∧ running.launches.find? (fun l => l.ni == 0 && l.chart == 9) = some aLaunch ∧
    running.launches.find? (fun l => l.ni == 0 && l.chart == 9 && l.abort.isNone) = some aLaunch ∧ aLaunch.pause = none ∧
    (pk opSEG_DONE [9, 0, 0]).kind = opSEG_DONE ∧ (pk opSEG_ABORT [0x20, 9, 0]).arg 0 ≠ stABORTED ∧
    running.heldForRepair 0 9 stABORTED = false ∧ fencedRun.heldForRepair 0 9 stABORTED = true ∧ fencedRun.heldForRepair 0 9 stOK = false ∧
    (pk opABORT [0x20, 9]).arg 1 = aRun.chart := by decide +kernel

/-- An ejected flit of stream 2, with and without a signal. -/
def ejecting (sig : Bool) : State := (up.modRt 2303 fun r => { r with ejecting := [⟨2, 256, 7, 0, sig⟩] }).setCh 2303 (some aRun)

theorem witness_EjectedFlitsAndLandingDelay : ((ejecting true).rt 2303).ejecting = [⟨2, 256, 7, 0, true⟩] ∧ (ejecting false).niUp 2303 = true ∧
    (ejecting false).frozenAt 2303 = false ∧ (ejecting false).spad.wf = true ∧ (ejecting true).ch 2303 = some aRun ∧
    up.regAlive (OL_LAND_CFG.addr 31 0) = true := by decide +kernel

/-- A router whose entry for slot 0 leads west, and the router of slot 0, whose own leads to L. -/
def routed : State := (up.setEntry 1 0 (2 ^ 15 + 3 * 2 ^ 12 + 3 * 2 ^ 9 + 3 * 2 ^ 6)).setEntry 0 0 (2 ^ 15 + 4 * 2 ^ 12)
def rdPkt : Pkt := pk opREAD [0, 0]
def escd (p : Pkt) : Pkt := { p with esc := true }
def west : Nat := 2 ^ 15 + 3 * 2 ^ 12 + 3 * 2 ^ 9 + 3 * 2 ^ 6
def aHeld : Held := ⟨datPkt, 4, 3, 0, false, west, 0⟩
def rdHeld : Held := ⟨rdPkt, 4, 3, 0, false, west, 0⟩
def holding : State := routed.modRt 1 fun r => { r with held := [aHeld, rdHeld] }
def linkOut : State := { routed with fence := { mlinks := [meshLink 1 3] } }

theorem witness_RoutersRouteAndServePackets :
    okPkt aPkt = true ∧ okPkt datPkt = true ∧ routed.routerUp 1 = true ∧ routed.frozenAt 1 = false ∧
    routed.fld (xx_ERR_INJECT_ARM .ni) 1 = 0 ∧ aPkt.dst.port = 0 ∧ aPkt.dst.slot = 0 ∧
    (up.routeEntry 1 0).testBit 15 = false ∧ (routed.routeEntry 1 0).testBit 15 = true ∧ escField (routed.routeEntry 1 0) 0 = 3 ∧
    routed.routeEntry 1 0 / 2 ^ 12 % 8 = 3 ∧ (neighbour 1 3).isSome = true ∧ routed.portOut 1 3 = false ∧
    linkOut.portOut 1 3 = true ∧ rdPkt.esc = false ∧ rdPkt.fabric = false ∧
    (escd rdPkt).esc = true ∧ (pk opSTART []).fabric = true ∧
    aPkt.hops < routed.fld RT_CFG_HOP_LIMIT 1 ∧ routed.fld RT_CFG_HOP_LIMIT 1 ≤ 127 ∧ routed.routeEntry 0 0 / 2 ^ 12 % 8 = 4 ∧
    routed.portOut 0 4 = false ∧ rdPkt.net = .req ∧ okPkt rdPkt = true ∧
    holding.competing 1 3 0 = [rdHeld] ∧ up.competing 1 3 0 = [] ∧
    holding.robin 1 3 0 [rdHeld] = some rdHeld ∧ outPlace 1 3 = .router 0 1 ∧
    (holding.rt 1).held.find? (fun x => decide (x.pkt = datPkt)) = some aHeld ∧ datPkt.net = .dat ∧
    max 1 ((holding.setFld RT_CFG_AGE_LIMIT 0 1).fld RT_CFG_AGE_LIMIT 1) ≤ { aHeld with waited := 1 }.waited ∧ holding.openRunOut 1 3 < nflits datPkt ∧
    holding.follow 1 3 (escd datPkt) = .out 3 { escd datPkt with hops := 1 } ∧ holding.fld RT_CFG_ESC_GEN 1 = 0 ∧
    (up.rt 1).slots.length < 32 ∧ (pk opDROP [0, 0]).kind = opDROP ∧ up.niUp 0 = true ∧ up.findTx 0 0 = none := by
  decide +kernel

/-- A state with one more open transaction. -/
def withTx (s : State) (o : OTx) : State := { s with otx := s.otx ++ [o] }

/-- Flow 3 of NI 0 with a packet; the same, eligible with room to send; parked; with an open transaction. -/
def queued : State := owned.setFl 0 3 { queue := [datPkt] }
def sending : State := ((queued.setFl 0 3 { queue := [datPkt], eligible := true }).setFld NI_FLOW_CFG_ENABLE 1 0 3).modRg (regionOf 0) fun r =>
  { r with slot := 0 }
def parked : State := queued.setFl 0 3 { queue := [datPkt], parked := some (queued.wheelPos 0) }
def aTx (u : TxUse) : OTx := ⟨0, 7, u, 1, 1, 0, 0, 0, false, false⟩

theorem witness_FlowsStartPacketsAndTimeOut : sending.selectFlow 0 (sending.openRunL 0) = some 3 ∧ (sending.fl 0 3).queue = [datPkt] ∧
    sending.roomFor 0 4 datPkt = true ∧ ({ sending with net := List.replicate 20 ⟨.router 0 4, datPkt⟩ }).roomFor 0 4 datPkt = false ∧
    up.selectFlow 0 (up.openRunL 0) = none ∧ (sending.setFld NI_FLOW_RATE_RATE 1 0 3).fld NI_FLOW_RATE_RATE 0 3 ≠ 0 ∧
    (parked.fl 0 3).parked = some (parked.wheelPos 0) ∧ (queued.fl 0 3).parked ≠ some (queued.wheelPos 0) ∧ (queued.fl 0 3).parked = none ∧
    queued.fld NI_FLOW_CFG_ENABLE 0 3 = 0 ∧ 2 ^ 31 / 2 ^ 31 % 2 = 1 ∧ (up.fl 0 3).queue = [] ∧ up.findTx 0 7 = none ∧
    (withTx up (aTx .read)).findTx 0 7 = some (aTx .read) ∧ (aTx .read).use ≠ .trace := by decide +kernel

/-- NI 0 with handle 0 of 2,048 bytes and its map; `opened`: its window open with 10 credits, 4 of them granted to slot 1 for transaction 7. -/
def handled : State := (((((owned.setFld NI_HDL_CFG_VALID 1 0 0).setFld NI_HDL_RANGE_SIZE 64 0 0).setFld NI_LMAP_VALID_EVEN 1 0 0).setFld
  NI_LMAP_VALID_ODD 1 0 0).setFld NI_LMAP_SLOT_ODD 1 0 0)
def aLedger : LedgerE := ⟨0, niLoc 1, 7, 0, 0, 4⟩
def aWin : Window := { state := 1, pool := 10, free := 6, granted := 4 }
def opened : State := { handled.setWin 0 0 aWin with ledger := [aLedger] }
def aWaiter : Waiter := ⟨0, 0, niLoc 1, 7, 9, 0, 0⟩
/-- A transfer of NI 0 to slot 1 with a phase of its credits, of descriptor 1 or of the group 3. -/
def anXfer (cr : Nat) (group : Option Nat) : Xfer := ⟨5, 0, 1, if group.isSome then .mcast else .copy, 0, 0, 7, false, false, 0, 0, niLoc 1, 0, 0, 0, cr, 0,
  0, false, group, 0, 0, false, false, [], group.isSome, [], 0, 0, [⟨0, 0, 32, 3, []⟩], 0⟩
def moving (cr : Nat) (group : Option Nat) (u : TxUse) : State := { opened with
  xfers := [anXfer cr group]
  otx := [aTx u] }
def pk7 (o : Op) (args : List Nat) (data : List Nat := []) : Pkt := mkPkt o (niLoc 1) (niLoc 0) 0 0 7 args data

theorem witness_ReadsAndAtomicsAreCheckedAndAnswered : handled.frozenAt 0 = false ∧ handled.niUp 0 = true ∧
    handled.fld (xx_ERR_INJECT_ARM .ni) 0 = 0 ∧ okPkt (pk opREAD [0, 31]) = true ∧ (pk opREAD [0, 31]).kind = opREAD ∧
    (pk opREAD [0, 31]).dst = niLoc 0 ∧ handled.check125 0 0 0 0 32 false = none ∧ handled.check125 0 0 0 2000 64 false ≠ none ∧
    (pk opATOMIC [0, 0, 0, 1]).kind = opATOMIC ∧ reqLen (pk opATOMIC [0, 0, 0, 1]) = 4 ∧ handled.check125 0 0 0 0 4 true = none ∧
    attachOf (mpLoc 3 1) = some (.mp 3 1) ∧ attachOf (hpLoc 1) = some (.hp 1) ∧ handled.findTx 0 7 = none ∧
    (pk7 opREAD_DATA [0, 0, 0, 0, 0, 0] [1]).kind = opREAD_DATA ∧ okPkt (pk7 opREAD_DATA [0, 0, 0, 0, 0, 0] [1]) = true ∧
    (pk7 opREAD_ERR [0x30]).kind = opREAD_ERR ∧ (pk7 opATOMIC_ANS [0x30, 0]).kind = opATOMIC_ANS ∧
    (moving 3 none .read).findTx 0 7 = some (aTx .read) ∧ (aTx .read).use = .read := by decide +kernel

theorem witness_WindowsGrantCreditsAndClose : opened.frozenAt 0 = false ∧ opened.niUp 0 = true ∧ opened.tnState 0 = 1 ∧
    opened.fld NI_HDL_CFG_VALID 0 0 = 1 ∧ opened.fld NI_HDL_CFG_TENANCY 0 0 = 0 ∧ (opened.hdlRange 0 0).2 = 2048 ∧
    okPkt (pk opCREDIT_REQ [0, 6, 0, 0, 0]) = true ∧ (pk opCREDIT_REQ [0, 6, 0, 0, 0]).kind = opCREDIT_REQ ∧
    (handled.window 0 0).state ≠ 1 ∧ opened.window 0 0 = aWin ∧ (pk opCREDIT_REQ [0, 6, 0, 0, 0]).arg 1 ≤ aWin.free ∧
    aWin.pool < (pk opCREDIT_REQ [0, 11, 0, 0, 0]).arg 1 ∧ aWin.free < (pk opCREDIT_REQ [0, 7, 0, 0, 0]).arg 1 ∧
    opened.waitersOf 0 0 = [] ∧ opened.ledgerUse 0 < 128 ∧ (opened.waiters.filter (fun x => x.ni == 0)).length < 64 ∧
    opened.ledgerOf 0 (pk7 opCREDIT_RETURN [3]) = some aLedger ∧ 3 < aLedger.remaining ∧ handled.ledgerOf 0 (pk7 opCREDIT_RETURN [3]) = none ∧
    ({ opened with waiters := [aWaiter] }).waiters.find? (fun y => y.ni == 0 && decide (y.src = niLoc 1) && y.txn == 7) = some aWaiter ∧
    (pk7 opCREDIT_ANS [0, 2, 0, 0]).arg 2 = 0 ∧ opened.xfers.find? (fun y => y.ni == 0 && y.txn == 7 && (y.cr == 1 || y.cr == 2)) = none ∧
    (moving 1 none .credit).xfers.find? (fun y => y.ni == 0 && y.txn == 7 && (y.cr == 1 || y.cr == 2)) = some (anXfer 1 none) ∧
    (moving 2 none .credit).xfers.find? (fun y => y.ni == 0 && y.txn == 7 && y.cr == 2) = some (anXfer 2 none) ∧
    (moving 3 none .write).xfers.find? (fun y => y.ni == 0 && y.txn == 7 && y.group.isNone && y.cr == 3) = some (anXfer 3 none) ∧
    (pk opCREDIT_REVOKE [7]).kind = opCREDIT_REVOKE ∧ (pk opWIN_OPEN [0, 4, 0]).kind = opWIN_OPEN ∧ (handled.window 0 0).state = 0 ∧
    4 * 512 ≤ (handled.hdlRange 0 0).2 ∧ (handled.hdlRange 0 0).2 < 5 * 512 ∧ (pk opWIN_REPLENISH [0, 3]).kind = opWIN_REPLENISH ∧
    3 ≤ { aWin with used := 3 }.used ∧ aWin.used < 3 ∧ (pk opWIN_CLOSE [1, 0, 5, 0]).kind = opWIN_CLOSE ∧
    (pk opWIN_CLOSE [1, 0, 5, 0]).arg 1 = 0 ∧ { aWin with closes := [⟨false, none, none, 0⟩] }.closes ≠ [] ∧
    (∀ c ∈ { aWin with closes := [⟨true, none, none, 0⟩] }.closes, c.drain = true) ∧ aWin.granted ≠ 0 ∧ opened.waits = [] ∧
    (pk7 opWIN_ANS [0, 0]).kind = opWIN_ANS ∧ (moving 3 none .winOp).findTx 0 7 = some (aTx .winOp) := by decide +kernel

/-- A write of 32 bytes at handle 0 under EPOCH 0; the rest of what judges it. -/
def aWrite : Pkt := pk7 opWRITE [0, 0, 0, 0, 0, 1] (List.replicate 32 1)
def aComb : CombSlot := ⟨niLoc 1, 7, false, 0, 3, 4, 1, 0, [2], [0, 0, 0, 0, 0], 0⟩
def answering : State := { up.modRt 0 fun r => { r with slots := [aComb] } with receipts := [⟨0, niLoc 1, 7, 2⟩] }
def calling : State := { moving 3 (some 3) .write with
  xfers := [{ anXfer 3 (some 3) with members := 0 }]
  descs := [⟨1, 0, 4096, 0, [2, 0, 0, 0, 0, 0, 0, 0], 0, 2, 0, 0, [], 0, false, false⟩] }

theorem witness_WritesAreJudgedByEpochAndLedger : okPkt aWrite = true ∧ aWrite.kind = opWRITE ∧ aWrite.dst = niLoc 0 ∧ aWrite.data.length = 32 ∧
    handled.check125 0 0 0 0 32 false = none ∧ (handled.window 0 0).state = 0 ∧ (opened.window 0 0).state ≠ 0 ∧ aWrite.arg 2 = aWin.epoch ∧
    ({ opened with ledger := [] }).ledger = [] ∧ owned.check125 0 0 0 0 32 false ≠ none ∧
    handled.judgeWrite 0 aWrite false = (stWINDOW_CLOSED, none) ∧ opened.judgeWrite 0 aWrite false = (stOK, some aLedger) ∧
    cost 32 < aLedger.remaining ∧ aWin.notify = 0 ∧ (pk7 opWRITE_MC [0, 0, 0, 0, 0, 1] (List.replicate 32 1)).kind = opWRITE_MC ∧
    opened.judgeWrite 0 (pk7 opWRITE_MC [0, 0, 0, 0, 0, 1] (List.replicate 32 1)) true = (stOK, some aLedger) ∧
    (let a := mkPkt opWRITE_ACK (niLoc 1) (groupLoc 3) 0 0 7 [0, 0, 1, 1, 0, 0, 0, 0]
    a.kind = opWRITE_ACK ∧ a.dst.port = 7 ∧ (answering.takeNet (.router 0 2) a).slotFor 0 a = some aComb ∧ 2 ∈ aComb.waitOn ∧ 3 ∉ aComb.waitOn) ∧
    (pk7 opWRITE_ACK [0, 0, 0]).arg 2 ≠ 1 ∧ (moving 3 none .write).findTx 0 7 = some (aTx .write) ∧
    (pk opROLLCALL [7]).kind = opROLLCALL ∧ up.receipts = [] ∧
    answering.receipts.find? (fun r => r.ni == 0 && decide (r.src = niLoc 1) && r.txn == 7) = some ⟨0, niLoc 1, 7, 2⟩ ∧
    (pk7 opROLL_ANS [2, 1]).kind = opROLL_ANS ∧
    calling.xfers.find? (fun y => y.ni == 0 && y.txn == 7 && y.rolling) = some (anXfer 3 (some 3)) ∧ (calling.desc? 1).isSome = true ∧
    (anXfer 3 (some 3)).missAddr = 0 ∧ (anXfer 3 (some 3)).statuses = [] := by decide +kernel

/-- The aperture of NI 0: one write waiting to be sent again, eight under way, and pairs 0 and 1 as landing area and target with 0 or 512
granules landed. -/
def gradeB : State := { handled with fuse := { grade := 1 } }
def waitingStore : State := handled.setAp 0 { out := [(1, 7, 0, 0, true)] }
def fullStores : State := handled.setAp 0 { out := List.replicate 8 (9, 7, 0, 0, false) }
def landingArea (k : Nat) : State := ((((((handled.setFld NI_AP_CFG_ENABLE 1 0).setFld NI_AP_CFG_PAIR_TGT 1 0).setFld NI_PAIR_BASE_ENABLE 1 0 0).setFld
  NI_PAIR_BASE_ENABLE 1 0 1).setFld NI_PAIR_BOUND_SIZE 512 0 0).setFld NI_PAIR_BOUND_SIZE 1024 0 1).setAp 0 { landing := List.replicate k (0, 0) }

theorem witness_ApertureStoresAndLandings : handled.fld FB_MODE_STRICT ≠ 1 ∧ (handled.setFld FB_MODE_STRICT 1).fld FB_MODE_STRICT = 1 ∧
    (List.replicate 32 (7 : Nat)).length = 32 ∧ handled.niUp 0 = true ∧ handled.frozenAt 0 = false ∧ 33 % 32 ≠ 0 ∧
    gradeB.tiles ≤ (2 ^ 26 - 32) / 2 ^ 15 % 2 ^ 11 ∧ 2 ^ 16 / 2 ^ 15 % 2 ^ 11 < handled.tiles ∧ handled.lmap 0 (2 ^ 16 / 2 ^ 15 % 2 ^ 11) = none ∧
    handled.lmap 0 (2 ^ 15 / 2 ^ 15 % 2 ^ 11) = some 1 ∧ 8 ≤ (fullStores.apt 0).out.length ∧ (∃ q ∈ (waitingStore.apt 0).out, q.1 = 1) ∧
    (handled.apt 0).out = [] ∧ handled.txnRoom 0 = true ∧ (pk opAP_WRITE [0, 0, 0, 0] [1]).kind = opAP_WRITE ∧
    handled.fld NI_AP_CFG_ENABLE 0 = 0 ∧ (landingArea 0).fld NI_AP_CFG_ENABLE 0 = 1 ∧ (landingArea 0).fld NI_AP_CFG_TENANCY 0 = 0 ∧
    16384 ≤ ((landingArea 0).pairRange 0 ((landingArea 0).fld NI_AP_CFG_PAIR_LAND 0)).2 ∧
    32768 ≤ ((landingArea 0).pairRange 0 ((landingArea 0).fld NI_AP_CFG_PAIR_TGT 0)).2 ∧ (landingArea 0).pairForeign 0 0 0 = false ∧
    (landingArea 0).pairForeign 0 1 0 = false ∧ ((landingArea 0).apt 0).landing.length < 512 ∧
    512 ≤ ((landingArea 512).apt 0).landing.length ∧
    (waitingStore.apt 0).out.find? (fun q => q.2.1 == 7 && q.2.2.2.2) = some (1, 7, 0, 0, true) := by decide +kernel

/-- The HBM of the chip maps; reduction 5 over group 3, tiles 0 and 1, SUM of FP32; handle 0 as before. -/
def mapped : State := (handled.setFld FB_HBM_ILV_SIZE 48).wr FB_GRP_DIR_LO 0 0 0x100000
def dirs : State := ((mapped.hbmPut 320 (toBytes 8 (2 ^ 63 + 3 * 2 ^ 20))).hbmPut (0x100000 + 512 * 3) (toBytes 8 (2 ^ 63 + 2 * 2 ^ 45))).hbmPut
  (0x100000 + 512 * 3 + 8) (toBytes 8 3)

/-- Descriptor 1 of NI 0 from tile queue 0, started, and the state that holds it. -/
def dsc (words : List Nat) : Desc := ⟨1, 0, 4096, 0, words, 0, 1, 0, 0, [], 0, false, false⟩
def doing (words : List Nat) : State := { dirs with descs := [dsc words] }

/-- A reduction at router 0 with the children L and N, one context, whose slot has nothing; has its partial waiting for the parent; and is refused. -/
def aBind : RBind := ⟨5, 0, 0, 0, 0, false⟩
def aPart : Pkt := mkDat opRED_DATA (niLoc 0) (niLoc 1) 0 0 5 [5, 0, 0, 0, 0, 0, 0] 0 0 0 (List.replicate 128 0)
def aRed (sl : RSlot) : RRed := ⟨5, 1, 0, [4, 0], some (niLoc 1), 0, aBind, false, true, 0, 3, 0, false, [63], [sl], [], false, false⟩
def sWait : RSlot := { round := 0, got := 2, out := some aPart }
def sBusy : RSlot := { round := 0, got := 2, out := some aPart, busy := true }
def reducing (sl : RSlot) : State := dirs.modRt 0 fun r => { r with reds := [aRed sl] }
def keptId : State := dirs.modRt 0 fun r => { r with idHold := [5] }
def noCtx : State := dirs.setFld RT_RED_CFG_OPEN_MAX 0 0
def contrib (src : Loc) (round : Nat) : Pkt := mkDat opRED_DATA src (niLoc 0) 0 0 5 [5, round, 0, 0, 0, 0, 0] 0 0 0 (List.replicate 128 0)
def alienPart : Pkt := { contrib (niLoc 1) 0 with
  esc := true
  egen := 1 }

theorem witness_RoutersCombineAndReleaseReductions : okPkt (contrib (niLoc 0) 0) = true ∧ dirs.routerUp 0 = true ∧
    dirs.frozenAt 0 = false ∧ dirs.fld (xx_ERR_INJECT_ARM .red) 0 = 0 ∧ (dirs.eu .red 0).parityArmed = false ∧
    (contrib (niLoc 0) 0).kind = opRED_DATA ∧ (contrib (niLoc 0) 0).arg 0 = 5 ∧ (contrib (niLoc 0) 0).arg 9 ≠ 2 ∧
    (contrib (niLoc 0) 0).arg 9 ≤ 3 ∧ (keptId.rt 0).idHold.contains 5 = true ∧ ((dirs.rt 0).idHold.contains 5) = false ∧
    (reducing { round := 0 }).red? 0 5 = some (aRed { round := 0 }) ∧ (aRed { round := 0 }).slots[0 % 1]? = some { round := 0 } ∧
    (contrib (niLoc 0) 0).arg 2 = 0 ∧ (contrib (niLoc 0) 0).esc = false ∧ alienPart.esc = true ∧ alienPart.src.slot ≠ 0 ∧ alienPart.arg 2 ≠ 3 ∧
    alienPart.egen ≠ (aRed { round := 0 }).gen ∧ (aRed { round := 0 }).kids.contains 4 = true ∧ dirs.tnState 0 = 1 ∧
    ((reducing { round := 0 }).setFld NI_TN_STATE_STATE 0 0).tnState 0 ≠ 1 ∧
    (contrib (niLoc 0) 0).arg 1 < { round := 3 : RSlot }.round ∧ kidOf 0 (contrib (niLoc 0) 0) = 4 ∧
    (aRed { round := 0 }).kids[0]? = some 4 ∧ 0 + 1 < (aRed { round := 0 }).kids.length ∧ (dirs.rt 0).staged = [] ∧
    (aRed { round := 0 }).inTurn (kidOf 0 (contrib (niLoc 0) 1)) (contrib (niLoc 0) 1) = false ∧ dirs.red? 0 5 = none ∧
    noCtx.fld RT_RED_CFG_OPEN_MAX 0 = 0 ∧ (pk opRED_ACK [5, 0]).kind = opRED_ACK ∧ (pk opRED_ACK [5, 0]).src.slot ≠ 0 ∧
    dirs.redWaiting 0 5 0 = none ∧ (reducing sWait).redWaiting 0 5 0 = some 0 ∧ (aRed sWait).slots[0]? = some sWait ∧
    (aRed sWait).fin = false ∧ sWait.last = false ∧ (pk opRED_BUSY [5, 0, 0]).kind = opRED_BUSY ∧ (dirs.redm? 0 5).isNone = true ∧
    (reducing sBusy).red? 0 5 = some (aRed sBusy) ∧ (aRed sBusy).slots.findIdx? (fun y => decide (y.out = some aPart) && y.busy) = some 0 ∧
    (pk opRED_FAIL [5, 0x20]).kind = opRED_FAIL ∧ (pk opRED_ABORT [5, 0x20]).kind = opRED_ABORT := by decide +kernel

/-- NI 0 as a member of reduction 5 with two rounds unacknowledged, one of them refused. -/
def aMember : RMember := ⟨0, 1, 0, 5, 0, 1, aBind, false, true, 3, 2, 0, 0, 0, 0, 2, [(0, contrib (niLoc 0) 0, false), (1, contrib (niLoc 0) 1, true)],
  0, false, []⟩
def member : State := { doing [] with redm := [aMember] }
/-- A REDUCE of one round: SRC and DST at handle 0 of tile 0. -/
def aReduce : List Nat := [0x10, 0, 0, 1024, 0, 5 + 2 ^ 32]

theorem witness_MembersContributeAndReceive : (doing aReduce).Started 0 1 0x10 (dsc aReduce) ∧
    (doing aReduce).redBad (dsc aReduce) ((doing aReduce).redMember (dsc aReduce)) = [] ∧
    (doing [0x10, 0, 0, 0, 0, 6]).redBad (dsc [0x10, 0, 0, 0, 0, 6]) ((doing [0x10, 0, 0, 0, 0, 6]).redMember (dsc [0x10, 0, 0, 0, 0, 6])) =
      [stBAD_DESCRIPTOR] ∧
    ({ doing aReduce with redm := [aMember] }.redm? 0 5).isSome = true ∧ ((doing aReduce).redm? 0 5) = none ∧ (doing aReduce).redm = [] ∧
    (doing aReduce).redQueue 0 = [] ∧ ({ doing aReduce with redWait := [1] }).redQueue 0 = [1] ∧
    ({ doing aReduce with descs := [dsc aReduce, { dsc aReduce with id := 2 }], redWait := [2] }).redQueue 0 = [2] ∧
    (mkPkt opRED_ACK (niLoc 0) (niLoc 0) 0 0 0 [5, 0]).kind = opRED_ACK ∧ (niLoc 0).slot = 0 ∧ member.redm? 0 5 = some aMember ∧
    (aMember.out.any fun e => e.1 == 7) = false ∧ (aMember.out.any fun e => e.1 == 0) = true ∧ (member.desc? aMember.desc).isSome = true ∧
    aMember.total ≤ aMember.next ∧ aMember.phase = 0 ∧ 2 ≤ aMember.out.length ∧
    (aMember.out.any fun e => decide (e.2.1 = contrib (niLoc 0) 1) && e.2.2) = true ∧
    okPkt (mkDat opRED_RESULT (niLoc 1) (niLoc 0) 0 0 5 [5, 0, 0, 0, 0, 0] 0 0 0 (List.replicate 128 0)) = true ∧ aMember.fin = false ∧
    aMember.next = aMember.total ∧ aMember.out ≠ [] ∧ up.redm? 0 5 = none ∧ { aMember with out := [] }.out = [] ∧
    member.niUp 0 = true ∧ member.frozenAt 0 = false := by
  unfold State.Started
  decide +kernel

/-- AIR commands over 32 values of FP32 of handle 0. -/
def anAir (op : Nat) : List Nat := [op, 0, 0, 256, 1024, 32]

theorem witness_AirCommandsWriteTheirRanges :
    (∀ op ∈ [0x11, 0x12, 0x13], (doing (anAir op)).Started 0 1 op (dsc (anAir op)) ∧
      (doing [op]).Started 0 1 op (dsc [op]) ∧ bits ((dsc [op]).w 5) 31 0 = 0 ∧ bits ((dsc (anAir op)).w 5) 31 0 ≠ 0) ∧
    floatIn 0 = true ∧ isMx 0 = false ∧
    (doing (anAir 0x11)).ownRange (dsc (anAir 0x11)) false 0 (airBytes 0 32) false stACCESS_DENIED = [] ∧
    (doing (anAir 0x11)).ownRange (dsc (anAir 0x11)) false 256 (2 * cdiv 32 32) true stACCESS_DENIED = [] ∧
    (doing (anAir 0x12)).ownRange (dsc (anAir 0x12)) false 256 (256 * cdiv 32 32) true stACCESS_DENIED = [] ∧
    (doing (anAir 0x12)).ownRange (dsc (anAir 0x12)) false 1024 (2 * cdiv 32 32) false stACCESS_DENIED = [] ∧
    (doing (anAir 0x13)).ownRange (dsc (anAir 0x13)) false 0 (8 * 32) false stACCESS_DENIED = [] ∧
    (doing (anAir 0x13)).ownRange (dsc (anAir 0x13)) false 256 (32 * elemSize 0) true stACCESS_DENIED = [] := by
  unfold State.Started
  decide +kernel

theorem witness_StrictCombiningIsOrderFree : [1, 2].length = [3, (4 : Int)].length ∧ isInt 5 = true ∧ (0xFFFF : Nat) < 2 ^ 16 := by decide +kernel

/-- Ring 9 of tenancy 0 enabled, served by tile 1 at host port 0; the record read and a descriptor fetch in flight; a completion waits. -/
def ringed : State := (((((mapped.setFld FB_RING_CFG_ENABLE 1 0 9).setFld FB_RING_CFG_SERVER 1 0 9).setFld FB_RING_CFG_SIZE 6 0 9).setFld
  FB_RING_CFG_CQ_SIZE 6 0 9).setFld HP_LMAP_VALID_ODD 1 0 0).setFld HP_LMAP_SLOT_ODD 1 0 0
def ringTx (u : TxUse) : OTx := ⟨0, 7, u, 0, 0, 9, 0, 0, false, false⟩
def recordRead : State := ((withTx ringed (ringTx .record)).setRing 9 { ni := 0, reading := true })
def aCpl : Cpl := ⟨0, 9, [0, 0, 0, 0], false, none, [], false, none⟩
def haltedRing : State := ringed.setRing 9 { ni := 0, halted := true }
def cplWaits (full : Bool) : State := { ringed.setRing 9 { ni := 0, cqTail := if full then 64 else 0 } with cplq := [aCpl] }
def tileQueue : State := ((((mapped.setFld NI_PAIR_BASE_ENABLE 1 0 0).setFld NI_PAIR_BOUND_SIZE 1024 0 0).setFld NI_TQn_BASE_CQ_OFF 128 0 0).setFld
  NI_TQn_CFG_ENABLE 1 0 0).setFld NI_TQn_CFG_SIZE 6 0 0

theorem witness_BellsRingsAndQueues : ringed.regAlive (TN_BELL.addr 0 0) = true ∧ ringed.regAlive (FB_BELL.addr 0 0) = true ∧
    bits 9 11 0 = 9 ∧ mapped.fld FB_RING_CFG_ENABLE 0 9 = 0 ∧ ringed.fld FB_RING_CFG_ENABLE 0 9 = 1 ∧ ringed.replayMode 2 0 = false ∧
    ringed.replayMode 1 0 = false ∧ ringed.fld (xx_ERR_STATUS_SAFE .hp) 0 = 0 ∧ (ringed.setFld (xx_ERR_STATUS_SAFE .hp) 1 0).fld (xx_ERR_STATUS_SAFE .hp) 0 = 1 ∧ ringed.ringTen 9 = 0 ∧ 1 ≠ ringed.ringTen 9 ∧ ringed.hpLmap 0 (ringed.fld FB_RING_CFG_SERVER 0 9) = some 1 ∧
    (pk opBELL [9]).kind = opBELL ∧ (recordRead.rng 9).reading = true ∧ recordRead.findTx 0 7 = some (ringTx .record) ∧
    (pk7 opREAD_DATA [0] [0]).kind = opREAD_DATA ∧ (recordRead.rng 9).again = false ∧
    2 ^ ringed.ringSize 9 < (65 + 2 ^ 32 - (ringed.rng 9).head % 2 ^ 32) % 2 ^ 32 ∧
    ¬ 2 ^ ringed.ringSize 9 < (64 + 2 ^ 32 - (ringed.rng 9).head % 2 ^ 32) % 2 ^ 32 ∧
    (withTx ringed (ringTx .descFetch)).findTx 0 7 = some (ringTx .descFetch) ∧ (ringTx .descFetch).arg = 9 ∧
    (cplWaits true).cplq.any (fun c => c.ni == 0 && c.origin == 9) = true ∧ (cplWaits true).cqRoom 9 = false ∧
    ((cplWaits true).rng 9).reading = false ∧ ((cplWaits true).rng 9).ni = 0 ∧ aCpl.asked = none ∧ aCpl.silent = false ∧
    ({ aCpl with silent := true }).words.getD 0 0 % 256 = 0 ∧ (haltedRing.rng 9).halted = true ∧ (haltedRing.rng 9).bell = false ∧
    ((haltedRing.setRing 9 { ni := 0, halted := true, bell := true }).rng 9).bell = true ∧ (pk opREAD_DATA [5]).arg 0 ≠ 0 ∧
    ({ tileQueue with cplq := [{ aCpl with origin := 4096 }] }).cplq.find? (fun c => c.ni == 0 && c.origin == 4096 + 0) =
      some { aCpl with origin := 4096 } ∧ tileQueue.cqRoom (4096 + 4 * 0 + 0) = true ∧ tileQueue.niUp 0 = true ∧ tileQueue.frozenAt 0 = false ∧ (cplWaits false).cqRoom 9 = true ∧
    (cplWaits false).cplq.find? (fun c => c.ni == 0 && c.origin == 9) = some aCpl ∧ aCpl.prov = none ∧ (cplWaits false).txnRoom 0 = true ∧
    ringed.cplq.find? (fun c => c.ni == 0 && c.origin == 9) = none ∧ ringed.regAlive (FB_RING_CFG.addr 0 9) = true ∧
    bits (2 ^ 31 + 5 * 2 ^ 20 + 6 * 2 ^ 16) 23 20 < 6 ∧ bits (2 ^ 31 + 6 * 2 ^ 20 + 6 * 2 ^ 16) 31 31 = 1 ∧
    6 ≤ bits (2 ^ 31 + 6 * 2 ^ 20 + 6 * 2 ^ 16) 23 20 ∧ 6 ≤ bits (2 ^ 31 + 6 * 2 ^ 20 + 6 * 2 ^ 16) 19 16 ∧
    tileQueue.regAlive (NI_TQn_CFG.addr 0 0) = true ∧ bits (2 ^ 31 + 6 * 2 ^ 16 + 6 * 2 ^ 12) 19 16 = 6 ∧
    bits (2 ^ 31 + 6 * 2 ^ 16 + 6 * 2 ^ 12) 15 12 = 6 ∧ 12 < bits (2 ^ 31 + 13 * 2 ^ 16 + 6 * 2 ^ 12) 19 16 ∧
    64 * tileQueue.fld NI_TQn_BASE_DQ_OFF 0 0 + 64 * 2 ^ 6 ≤ (tileQueue.pairRange 0 0).2 ∧
    64 * tileQueue.fld NI_TQn_BASE_CQ_OFF 0 0 + 32 * 2 ^ 6 ≤ (tileQueue.pairRange 0 0).2 ∧ tileQueue.pairForeign 0 0 0 = false ∧
    tileQueue.fld NI_TQn_CFG_ENABLE 0 0 = 1 ∧ mapped.fld NI_TQn_CFG_ENABLE 0 0 = 0 ∧ tileQueue.ringSize 4096 = 6 := by decide +kernel

/-- Descriptor 1 before it starts: a NOP, one with NOT_BEFORE, an opcode not listed, COPY through flow 3, and STREAM_READY of a ring. -/
def unstarted (words : List Nat) (origin : Nat) : Desc := { dsc words with origin := origin, phase := 0 }
def waitingD (words : List Nat) (origin : Nat := 4096) : State := { mapped with descs := [unstarted words origin] }

theorem witness_DescriptorsStartInTurnAndComplete : (waitingD [0]).desc? 1 = some (unstarted [0] 4096) ∧ (unstarted [0] 4096).ni = 0 ∧
    (waitingD [0]).turn (unstarted [0] 4096) = true ∧ (waitingD [0]).nbPassed (unstarted [0] 4096) = true ∧
    (unstarted [0x400, 0x100000000] 4096).fNB = true ∧ (unstarted [0x400, 0x100000000] 4096).notBefore = 1 ∧ (unstarted [0x400] 4096).notBefore = 0 ∧
    (waitingD [0]).tnState 0 = 1 ∧ ((waitingD [0]).setFld NI_TN_STATE_STATE 0).tnState 0 ≠ 1 ∧ listedOp 7 = false ∧ listedOp 0 = true ∧
    tileOnly 0x18 = true ∧ (unstarted [0x18] 9).origin < 4096 ∧ (unstarted [0] 9).ten = (waitingD [0] 9).owner 0 ∧
    ({ unstarted [0] 9 with ten := 5 }).ten ≠ (waitingD [0] 9).owner 0 ∧ flowKeyed 1 = true ∧
    ({ unstarted [1 + 3 * 2 ^ 20] 4096 with denied := true }).denied = true ∧ (unstarted [1 + 3 * 2 ^ 20] 4096).denied = false ∧
    ({ waitingD [] with descs := [{ unstarted [1 + 3 * 2 ^ 20] 4096 with denied := true }] }).turn
      { unstarted [1 + 3 * 2 ^ 20] 4096 with denied := true } = true ∧ (dsc [0x800]).fPROV = true ∧ (unstarted [1 + 3 * 2 ^ 20] 4096).flowNo = 3 ∧
    (dsc [0]).phase = 1 ∧ (dsc [0]).opcode = 0 ∧ (dsc [0]).fCPL = false ∧ (dsc [0x200]).fCPL = true := by decide +kernel

/-- At C = 0 beat 1 has not come, and beat 0 has. -/
theorem witness_notBefore : (waitingD [0x400, 0x100000000]).nbPassed (unstarted [0x400, 0x100000000] 4096) = false ∧
    (waitingD [0x400]).nbPassed (unstarted [0x400] 4096) = true := by
  have h : ∀ s : State, s.time.c = 0 → s.chr.prevC = 0 → ∀ d, s.accC d = 0 := fun s hs hp d => by simp [State.accC, hs, hp]
  have a : (unstarted [0x400, 0x100000000] 4096).fNB = true ∧ (unstarted [0x400, 0x100000000] 4096).notBefore = 1 ∧
    (unstarted [0x400] 4096).notBefore = 0 := by decide +kernel
  have b : ∀ w, (waitingD w).time.c = 0 := fun _ => rfl
  have c : ∀ w, (waitingD w).chr.prevC = 0 := fun _ => rfl
  simp [State.nbPassed, h _ (b _) (c _), a]

/-- COPY of 32 bytes within handle 0 of tile 0, with and without a free transaction; MCAST_WRITE to group 3; ATOMIC by kind; one in strict mode. -/
def aCopy : List Nat := [1, 0, 0, 1024, 32]
def aMcast : List Nat := [2, 0, 0, 0, 32 + 3 * 2 ^ 32]
def anAtomic (a w6 : Nat) : List Nat := [3, 0, a, 1, 0, 0, w6]
/-- A state whose NI 0 has n open transactions. -/
def txns (n : Nat) (s : State) : State := { s with otx := (List.range n).map fun k => ⟨0, k, .read, 0, 0, 0, 0, 0, false, false⟩ }
/-- A port with n transactions of tags 0 to n - 1 and no transfer uses n tags, so with 4,096 of them nothing more is issued. -/
theorem txns_tags (s : State) (h : s.xfers = []) (n : Nat) : (txns n s).txnsOf 0 = List.range n := by
  simp only [State.txnsOf, h, txns, List.filter_map, List.filter_nil, List.map_nil, List.append_nil, List.map_map, Function.comp_def,
    beq_self_eq_true, List.filter_true, List.map_id']
  exact List.nodup_range.dedup
theorem txns_room (s : State) (h : s.xfers = []) (n : Nat) (k : Nat) : (txns n s).txnRoom 0 k = decide (n + k ≤ 4096) := by
  rw [State.txnRoom, txns_tags s h n, List.length_range]
def strictD : Desc := { dsc (anAtomic 0 9) with startMode := 1 }

/-- Window descriptors for handle 0 of tile 0 and of tile 1, and for HBM. -/
def aWinD (op : Nat) (w3 : Nat) (a : Nat := 0) : List Nat := [op, 0, a, w3]
def withWin (s : State) (w : Window) : State := s.setWin 0 0 w

theorem witness_DescriptorsStartTransfersAndActOnWindows : (doing aCopy).Started 0 1 1 (dsc aCopy) ∧
    (doing [1]).Started 0 1 1 (dsc [1]) ∧ bits ((dsc [1]).w 4) 31 0 = 0 ∧ bits ((dsc aCopy).w 4) 31 0 ≠ 0 ∧ (dsc aCopy).srcHost = false ∧
    2 ≤ adSpace (2 ^ 51) ∧
    (doing aCopy).destAddr 0 0 false 0 1024 = .to (niLoc 0) ∧ (doing aCopy).destAddr 0 0 false 0 (5 * 2 ^ 38) ≠ .to (niLoc 0) ∧
    (doing aCopy).txnRoom 0 = true ∧ (doing aCopy).xfers = [] ∧
    (doing aMcast).Started 0 1 2 (dsc aMcast) ∧ (doing aMcast).grpOk 3 0 = true ∧ (doing aMcast).grpOk 4 0 = false ∧
    adSpace 0 = 0 ∧ adChip 0 = (doing aMcast).chipId ∧ (dsc aMcast).dstHost = false ∧ (dsc aMcast).w 5 % 32 = 0 ∧
    (doing (anAtomic 0 0)).Started 0 1 3 (dsc (anAtomic 0 0)) ∧ (2 % 4 ≠ 0) ∧ ((dsc (anAtomic 0 0)).w 6).testBit 5 = false ∧
    ((dsc (anAtomic 0 32)).w 6).testBit 5 = true ∧ bits ((dsc (anAtomic 0 9)).w 6) 3 0 = 9 ∧ strictD.startMode % 2 = 1 ∧
    ({ doing [] with descs := [strictD] }).Started 0 1 3 strictD ∧ (dsc (anAtomic 0 0)).srcHost = false := by
  unfold State.Started
  decide +kernel

theorem witness_DescriptorsStartTransfersAndActOnWindows_windows :
    (∀ e ∈ [4, 5, 6], (doing (aWinD e 1)).Started 0 1 e (dsc (aWinD e 1))) ∧ adSpace (2 ^ 50) ≠ 0 ∧
    (doing (aWinD 4 1)).ownAddr 0 false 0 = true ∧ (doing (aWinD 4 1)).winCheck 0 0 0 = none ∧
    (doing (aWinD 4 1 (2 ^ 30))).winCheck 0 1 0 = some stWINDOW_UNKNOWN ∧ (doing (aWinD 4 1)).ownAddr 0 false (2 ^ 38) = false ∧
    (doing (aWinD 4 1)).destOf 0 0 (2 ^ 38) = .to (niLoc 1) ∧ adChip (2 ^ 38) = (doing (aWinD 4 1)).chipId ∧
    ((doing (aWinD 4 1)).window 0 0).state = 0 ∧ 4 * 512 ≤ ((doing (aWinD 4 4)).hdlRange 0 0).2 ∧ bits ((dsc (aWinD 4 4)).w 3) 12 0 = 4 ∧
    ((withWin (doing (aWinD 6 1)) { aWin with used := 1 }).window 0 0).used = 1 ∧ aWin.used < 1 ∧ aWin.state = 1 ∧ { aWin with state := 2 }.state = 2 ∧
    (withWin (doing (aWinD 6 1)) aWin).waitersOf 0 0 = [] ∧ ((dsc (aWinD 5 (1 + 5 * 2 ^ 16))).w 3).testBit 0 = true ∧
    bits ((dsc (aWinD 5 (1 + 5 * 2 ^ 16))).w 3) 31 16 ≠ 0 ∧ ((dsc (aWinD 5 0)).w 3).testBit 0 = false := by
  unfold State.Started
  decide +kernel

/-- COPY, MCAST_WRITE and ATOMIC with nothing wrong in the addresses that they name, and with a space that names nothing. -/
theorem witness_names_good : (doing aCopy).nameStatus 0 0 false 0 0 32 = [] ∧ (doing aCopy).nameStatus 0 0 false 0 1024 32 = [] ∧
    (doing aCopy).classStatus (dsc aCopy) 32 = [] ∧ (doing aCopy).nameStatus 0 0 false 0 (2 ^ 51) 32 = [stBAD_DESCRIPTOR] := by decide +kernel
theorem witness_names_mcast : (doing aMcast).nameStatus 0 0 false 0 0 32 = [] ∧ (doing aMcast).classStatus (dsc aMcast) 32 = [] ∧
    (doing (anAtomic 0 0)).nameStatus 0 0 false 0 0 4 = [] := by decide +kernel

/-- What each kind of wrong name gives: a tile that the grade lacks, HBM that no range maps, and a tile without a slot. -/
theorem witness_names : 2 ≤ adSpace (2 ^ 51) ∧ gradeB.tiles ≤ adTile (2047 * 2 ^ 38) ∧ adSpace (2047 * 2 ^ 38) = 0 ∧ adSpace (2 ^ 50) = 1 ∧
    adChip (2 ^ 50) = handled.chipId ∧ (handled.niMap 0).decode (adBig (2 ^ 50) + 0) = none ∧ adTile (5 * 2 ^ 38) < handled.tiles ∧
    handled.lmap 0 (adTile (5 * 2 ^ 38)) = none := by decide +kernel

theorem witness_TransfersAreCutIntoPackets : (cutChunks true true (2 * (8192 / 4096) + 4) 100 4000 8192)[0]? = some ⟨100, 4000, 96, 0, []⟩ := by
  decide +kernel

/-- A save area of chart 9 over group 3 at HBM offset 2 MiB, granted to tenancy 0; CHART_RUN from it and anew, CHART_PAUSE and STREAM_READY. -/
def saveHdr : List Nat := [0x100 + 9 * 2 ^ 32, 5, 0, 3 * 2 ^ 40 + 2 * 2 ^ 50].flatMap (toBytes 8)
def granted : State := (List.range 16).foldl (fun s k => s.setMp k { s.mpt k with grants := [(0, ⟨true, 0, 0, 0, 1⟩)] }) dirs
def saved : State := (granted.hbmPut 0x200000 saveHdr).hbmPut (0x200000 + 248) (toBytes 8 0x61a26353d030435c)
def saveAt : Nat := 2 ^ 50 + 0x200000
def aChartRun (save : Nat) (g : Nat := 3) : List Nat := [8, 0, 9, g, save]
def doingS (w : List Nat) : State := { saved with descs := [dsc w] }
def aSeg : SegImg := ⟨9, 2, false, false, 100, 0, 0, 0, [⟨0, 0, true, 0, 0, 0, 1⟩, ⟨0, 1, false, 0, 0, 0, 1⟩], [], []⟩
def launched : Launch := { aLaunch with
  desc := 6
  group := 3 }
def chartOn (w : List Nat) : State := { ((doingS w).modRt 0 fun r => { r with cur := some aSeg }).setCh 0 (some aRun) with launches := [launched] }
def nextIdle (w : List Nat) : State := (chartOn w).modRt 0 fun r => { r with idle := some { aSeg with seg := 3 } }
/-- No segment of chart 9 is current at NI 0; segment k was the last one that ended. -/
def ended (k : Nat) (last : Bool) (w : List Nat) : State := (chartOn w).modRt 0 fun r => { r with
  cur := none
  ended := some (9, k, last) }
def aPause : List Nat := [9, 0, 9, 3, saveAt]
/-- STREAM_READY of 4 flits for stream k of segment g of chart 9. -/
def aReady (g k : Nat) : List Nat := [0x18, 0, 9 + g * 2 ^ 32 + k * 2 ^ 48, 4]

/-- The CRC-64 of the save area, in pieces. -/
theorem save_crc : crc64 (saveHdr ++ List.replicate 472 0) = 0x61a26353d030435c := by
  have a : crc64Reg crc64Init (saveHdr ++ List.replicate 24 0) = 0x13a34a96563c8b12 := by decide +kernel
  have a1 : crc64Reg 0x13a34a96563c8b12 (List.replicate 56 0) = 0x9c5955f59bf06cec := by decide +kernel
  have a2 : crc64Reg 0x9c5955f59bf06cec (List.replicate 56 0) = 0x4049e0fb034832ef := by decide +kernel
  have a3 : crc64Reg 0x4049e0fb034832ef (List.replicate 56 0) = 0x4aec59d9f5d87596 := by decide +kernel
  have a4 : crc64Reg 0x4aec59d9f5d87596 (List.replicate 56 0) = 0x3606e4409275cd3a := by decide +kernel
  have a5 : crc64Reg 0x3606e4409275cd3a (List.replicate 56 0) = 0x686fdd7c8362d332 := by decide +kernel
  have a6 : crc64Reg 0x686fdd7c8362d332 (List.replicate 56 0) = 0xc1dceb7e990f341 := by decide +kernel
  have a7 : crc64Reg 0xc1dceb7e990f341 (List.replicate 56 0) = 0x5d3436fc441adf18 := by decide +kernel
  have a8 : crc64Reg 0x5d3436fc441adf18 (List.replicate 56 0) = 0x9e5d9cac2fcfbca3 := by decide +kernel
  have e : saveHdr ++ List.replicate 472 0 = (saveHdr ++ List.replicate 24 0) ++ ((List.replicate 56 0) ++ ((List.replicate 56 0) ++ ((List.replicate 56 0) ++ ((List.replicate 56 0) ++ ((List.replicate 56 0) ++ ((List.replicate 56 0) ++ ((List.replicate 56 0) ++ ((List.replicate 56 0))))))))) := by decide +kernel
  have f : ∀ r x y, crc64Reg r (x ++ y) = crc64Reg (crc64Reg r x) y := fun r x y => List.foldl_append ..
  rw [e, crc64, f, a, f, a1, f, a2, f, a3, f, a4, f, a5, f, a6, f, a7, a8]
  decide +kernel

theorem witness_resume : (doingS (aChartRun saveAt)).resumeBad (dsc (aChartRun saveAt)) 2 = none := by
  have b : (doingS (aChartRun saveAt)).hbmBytes (adBig saveAt) 248 ++ (doingS (aChartRun saveAt)).hbmBytes (adBig saveAt + 256)
      (128 * bits ((doingS (aChartRun saveAt)).saveWord saveAt 3) 61 50) = saveHdr ++ List.replicate 472 0 := by decide +kernel
  have c : (dsc (aChartRun saveAt)).w 4 = saveAt := by decide +kernel
  simp only [State.resumeBad, c, b, save_crc]
  decide +kernel

theorem witness_ChartCommandsRunPauseAndReady : (doingS (aChartRun 0)).Started 0 1 8 (dsc (aChartRun 0)) ∧
    (doingS (aChartRun 0)).grpOk 3 0 = true ∧ (doingS (aChartRun 0 4)).grpOk 4 0 = false ∧ (doingS (aChartRun 0)).grpMap 3 = [0, 1] ∧
    ((doingS (aChartRun 0)).hbmPut (0x100000 + 512 * 3 + 8) (toBytes 8 0)).grpMap 3 = [] ∧
    (([0, 1] : List Nat).filterMap ((doingS (aChartRun 0)).lmap 0)).length = 2 ∧
    (([0, 1] : List Nat).filterMap (((doingS (aChartRun 0)).setFld NI_LMAP_VALID_ODD 0 0 0).lmap 0)).length ≠ 2 ∧
    (dsc (aChartRun saveAt)).w 4 ≠ 0 ∧ (doingS (aChartRun 0)).noStart 0 = false ∧
    ((doingS (aChartRun 0)).setFld BN_STATE_STATE 1).noStart 0 = true ∧
    (doingS (aChartRun (2 ^ 50))).resumeBad (dsc (aChartRun (2 ^ 50))) 2 = some stBAD_DESCRIPTOR := by
  unfold State.Started
  decide +kernel

theorem witness_ChartCommandsRunPauseAndReady_pause : (chartOn aPause).Started 0 1 9 (dsc aPause) ∧ (doingS aPause).launches = [] ∧
    (chartOn aPause).launches.find? (fun x => x.chart == bits ((dsc aPause).w 2) 31 0 && x.abort.isNone) = some launched ∧
    launched.ten = 0 ∧ ({ launched with ten := 5 }).ten ≠ 0 ∧ launched.pause = none ∧ ({ launched with pause := some (1, 1, 1, 1) }).pause.isSome = true ∧
    launched.members.contains launched.ni = true ∧ ((chartOn aPause).pausePoint 0 64 launched).isSome = true ∧
    ((chartOn aPause).modRt 0 fun r => { r with cur := some { aSeg with last := true } }).pausePoint 0 64 launched = none ∧
    ((ended 2 false aPause).rt 0).ended = some (9, 2, false) ∧ ((ended 2 false aPause).rt 0).cur = none ∧ (ended 2 false aPause).ch 0 = some aRun ∧
    aRun.sent = false ∧ (pk opPAUSE [9, 3, 0, 0]).arg 1 = 2 + 1 ∧ ((doingS aPause).rt 0).ended = none ∧
    (chartOn aPause).saveAreaBad 0 saveAt 1 = none ∧ (chartOn aPause).saveAreaBad 0 0 1 = some stBAD_DESCRIPTOR ∧
    (pk opPAUSE [9, 2, 0, 0]).kind = opPAUSE ∧ (chartOn aPause).niUp 0 = true ∧ (chartOn aPause).ch 0 = some aRun ∧ aRun.chart = 9 ∧
    ((chartOn aPause).rt 0).cur = some aSeg ∧ aSeg.seg < 3 := by
  unfold State.Started
  decide +kernel

theorem witness_ChartCommandsRunPauseAndReady_ready : (chartOn (aReady 2 0)).Started 0 1 0x18 (dsc (aReady 2 0)) ∧ (doingS (aReady 2 0)).ch 0 = none ∧
    (chartOn (aReady 2 0)).ch 0 = some aRun ∧ bits ((dsc (aReady 2 0)).w 2) 31 0 = aRun.chart ∧ bits ((dsc (aReady 2 0)).w 2) 47 32 = aSeg.seg ∧
    bits ((dsc (aReady 1 0)).w 2) 47 32 < aSeg.seg ∧ (aSeg.streams[0]?.map fun x => (x.dir, x.waitReady)) = some (0, true) ∧
    (aSeg.streams[1]?.map fun x => x.dir) = some 1 ∧ aSeg.seg < bits ((dsc (aReady 3 0)).w 2) 47 32 ∧ ({ aSeg with last := true }).last = true ∧
    aSeg.last = false ∧ ((chartOn (aReady 3 0)).rt 0).idle = none ∧ ((chartOn (aReady 2 0)).rt 0).ended = none ∧
    ((ended 2 true (aReady 2 0)).rt 0).ended = some (bits ((dsc (aReady 2 0)).w 2) 31 0, 2, true) ∧
    ((nextIdle (aReady 3 0)).rt 0).idle = some { aSeg with seg := 3 } := by
  unfold State.Started
  decide +kernel

/-- WAIT by kind, one under way, and HASH of 32 bytes; signal page of tenancy 0 at 4 KiB of host port 0, its lines cached and shared. -/
def aWait (kind : Nat) (count : Nat := 0) : List Nat := [0x19 + 2 ^ 16, 0, kind, count * 2 ^ 32, 0x1008, 3, 7]
def aWaitW : Waiting := ⟨1, 0, 0, 9, 0, 1, 0⟩
def waitOn (w : List Nat) : State := { doing w with waits := [aWaitW] }
def aHash : List Nat := [0x20, 0, 0, 64, 32]
def hashTx (u : TxUse) : OTx := ⟨bnKey, 7, u, 1, 0, 0, 0, 0, false, false⟩
def paged (w : List Nat) : State := ((doing w).setFld FB_SIG_LO_VALID 1 0 0).setFld FB_SIG_LO_ADDR_LO 1 0 0
def lineAt (v : Nat) : State := { paged (aWait 2) with sigLines := [⟨0, 0, 0x1000, some [List.replicate 8 0, toBytes 8 v].flatten⟩] }
def sharing (l : List Nat) (waits : List SigWait) : State := (paged []).modHp 0 fun h => { h with
  sharers := [(0, l)]
  sigWaits := waits }

theorem witness_WaitsHashesAndSignalLines : (doing (aWait 0)).Started 0 1 0x19 (dsc (aWait 0)) ∧
    (∀ k ∈ [0, 1, 2, 3], bits ((dsc (aWait k)).w 2) 1 0 = k) ∧ bits ((dsc (aWait 0)).w 3) 63 32 = 0 ∧ bits ((dsc (aWait 0 1)).w 3) 63 32 = 1 ∧
    (doing (aWait 0 1)).ch 0 = none ∧ (doing (aWait 1)).fld NI_HDL_CFG_VALID 0 0 = 1 ∧ (doing (aWait 1)).fld NI_HDL_CFG_TENANCY 0 0 = 0 ∧
    ((doing (aWait 1)).setFld NI_HDL_CFG_TENANCY 5 0 0).fld NI_HDL_CFG_TENANCY 0 0 ≠ 0 ∧ owned.fld NI_HDL_CFG_VALID 0 0 = 0 ∧
    ((doing (aWait 1)).window 0 0).state = 0 ∧ ((withWin (doing (aWait 1)) aWin).window 0 0).state ≠ 0 ∧
    ((withWin (doing (aWait 1)) aWin).window 0 0).signals < 1 ∧ (dsc (aWait 2)).auxHost = true ∧ (doing (aWait 2)).inSigPage 0 0 0x1008 = false ∧
    (paged (aWait 2)).inSigPage 0 0 0x1008 = true ∧ (paged (aWait 2)).sigLines = [] ∧
    (((lineAt 3).sigLines.find? fun l => l.ni == 0 && l.ten == 0 && l.addr == 0x1008 / 64 * 64).bind fun l => l.data).isSome = true ∧
    3 ≤ ofBytes (slice [List.replicate 8 0, toBytes 8 3].flatten (0x1008 % 64) 8) ∧
    ofBytes (slice [List.replicate 8 0, toBytes 8 2].flatten (0x1008 % 64) 8) < 3 ∧ aWaitW.kind < 2 ∧
    (waitOn (aWait 0)).waits.find? (fun y => y.ni == 0 && y.desc == 1) = some aWaitW ∧ bits ((dsc (aWait 0)).w 6) 15 0 = 7 ∧
    bits ((dsc [0x19]).w 6) 15 0 = 0 ∧ (doing []).waits = [] := by
  unfold State.Started
  decide +kernel

theorem witness_WaitsHashesAndSignalLines_hash : (doing aHash).Started 0 1 0x20 (dsc aHash) ∧ bits ((dsc aHash).w 4) 31 0 = 32 ∧
    (dsc aHash).w 3 % 32 = 0 ∧ bits ((dsc [0x20]).w 4) 31 0 = 0 ∧ (doing aHash).bnUp = true ∧ ({ doing aHash with bnUp := false }).bnUp = false ∧
    up.findTx bnKey 7 = none ∧ (withTx up (hashTx .hash)).findTx bnKey 7 = some (hashTx .hash) ∧ (hashTx .sigRead).use ≠ .hash ∧
    (pk opSIG_READ [0x1000, 63]).kind = opSIG_READ ∧ (paged []).fld (xx_ERR_STATUS_SAFE .hp) 0 = 0 ∧
    ((paged []).setFld (xx_ERR_STATUS_SAFE .hp) 1 0).fld (xx_ERR_STATUS_SAFE .hp) 0 = 1 ∧ (paged []).sigPageOf 0 0 0x1000 = some 0 ∧
    (doing []).sigPageOf 0 0 0x1000 = none ∧ ((paged []).hpt 0).sigWaits.any (fun y => sameLine y.lines [0]) = false ∧
    (paged []).atomicOn 0 [0] = false ∧ ((sharing [] [⟨[0], [], none, none⟩]).hpt 0).sigWaits.any (fun y => sameLine y.lines [0]) = true ∧
    (sharing [1, 2] []).sharersOf 0 [0] ≠ [] ∧ (paged []).sharersOf 0 [0] = [] ∧ (((sharing [1, 2] []).hpt 0).sharers.get 0 []).length < 8 ∧
    8 ≤ ((((sharing (List.range 9) []).hpt 0).sharers.get 0 []).filter fun y => y != 1).length ∧ ((paged []).hpt 0).sharers.get 0 [] = [] ∧
    (pk opSIG_INV [0]).kind = opSIG_INV ∧ (pk opSIG_INV_ACK [0]).kind = opSIG_INV_ACK ∧ ((paged []).hpt 0).sigWaits = [] ∧ (0, 1) ∉ ((paged []).hpt 0).displaced ∧
    (0, 1) ∈ (((paged []).modHp 0 fun h => { h with displaced := [(0, 1)] }).hpt 0).displaced ∧
    (doing aHash).nameStatus 0 0 false 0 0 32 = [] ∧ (doing aHash).nameStatus 0 0 false 0 64 32 = [] ∧
    ((sharing [] [⟨[0], [(0, 1)], none, none⟩]).hpt 0).sigWaits.any (fun y => y.left.contains (0, 1)) = true ∧
    ({ sharing [] [⟨[0], [(0, 1)], none, none⟩] with fence := { level := [(1, 1)] } }).niUp 1 = false ∧ (paged []).regAlive (FB_SIG_LO.addr 0 0) = true ∧
    (doing []).fld FB_SIG_LO_VALID 0 0 = 0 ∧ (paged []).fld FB_SIG_LO_VALID 0 0 = 1 ∧ (sharing [] []).niUp 0 = true := by
  unfold State.Started
  decide +kernel

/-- Consort armed with a frame of its own waiting; a link ACTIVE; a replay under way at C = 100. -/
def aFrame : CFrame := ⟨9, 1, 4, false, 7, 0xAA, 3⟩
def armed : State := { up.setFld FB_CONSORT_STATUS_ARMED 1 with consort := { own := [aFrame] } }
def linkUp : State := up.setFld OL_STATUS_STATE lsACTIVE 2
def replaying : State := { (((ringed.setFld FB_REPLAY_STATUS_ACTIVE 1).setFld FB_REPLAY_CFG_MODE 2).setRing 9 { ni := 1, head := 1 }) with
  time := { c := 100 }
  chr := { ringed.chr with prevC := 99 } }
/-- Word 0 of a record: beat offset, type, units less one and ring. -/
def rec0 (at_ ty o : Nat) (units : Nat := 1) : Nat := at_ * 2 ^ 24 + ty * 2 ^ 16 + (units - 1) * 2 ^ 12 + o

theorem witness_ConsortComparesAndReplayRecords : up.regAlive (FB_CONSORT_CFG.addr 0 0) = true ∧ 0 / 2 ^ 31 = 0 ∧ (2 ^ 31 + 2 * 2 ^ 24) / 2 ^ 31 = 1 ∧
    linkUp.linkState 2 = lsACTIVE ∧ up.linkState 2 ≠ lsACTIVE ∧ up.consort.arming = false ∧
    ({ up with consort := { arming := true } }).consort.arming = true ∧ up.fbDigest.length = 8 ∧ (∀ w ∈ up.fbDigest, w < 2 ^ 32) ∧
    up.fld FB_CONSORT_STATUS_ARMED = 0 ∧ armed.fld FB_CONSORT_STATUS_ARMED = 1 ∧ (9 ≠ aFrame.chart ∨ 2 ≠ aFrame.seg) ∧
    armed.consort.own.find? (CFrame.same ⟨9, 1, 4, false, 7, 0xAB, 3⟩) = some aFrame ∧ armed.fld FB_CONSORT_STATUS_MISMATCH = 0 ∧
    armed.fld FB_CONSORT_CFG_STOP = 0 ∧ (armed.setFld FB_CONSORT_STATUS_MISMATCH 1).fld FB_CONSORT_STATUS_MISMATCH = 1 ∧
    armed.consort.own.any (fun x => x.chart == 9 && x.seg == 1 && x.region == 4 && x.spanBeat == 7) = true ∧
    up.consort.own.any (fun x => x.chart == 9 && x.seg == 1 && x.region == 4 && x.spanBeat == 7) = false ∧
    up.regAlive (FB_REPLAY_CFG.addr 0 0) = true ∧ up.fld FB_REPLAY_STATUS_ACTIVE = 0 ∧ 2 ^ 30 / 2 ^ 30 = 1 ∧ 2 ^ 31 / 2 ^ 30 = 2 ∧
    (3 * 2 ^ 30) / 2 ^ 30 = 3 ∧ ((up.setFld FB_REPLAY_STATUS_ACTIVE 1).setFld FB_REPLAY_CFG_MODE 1).fld FB_REPLAY_CFG_MODE = 1 ∧
    replaying.fld FB_REPLAY_STATUS_ACTIVE = 1 ∧ replaying.fld FB_REPLAY_CFG_MODE = 2 ∧ replaying.replayT0 = 0 ∧
    bits (rec0 50 0x0F 0) 63 24 = 50 ∧ bits (rec0 50 0x0F 0) 23 16 = 0x0F ∧ bits (rec0 50 0x01 9) 11 0 = 9 ∧ bits (rec0 50 0x03 9 3) 13 12 + 1 = 3 ∧
    replaying.hpLmap (replaying.fld FB_RING_CFG_HP 0 9) (replaying.fld FB_RING_CFG_SERVER 0 9) = some 1 ∧ replaying.places 1 9 ≠ 0 ∧
    replaying.cqRoom 9 = true ∧ (replaying.setRing 9 { ni := 1, cqTail := 64 }).cqRoom 9 = false ∧
    bits 0 31 0 ≠ (replaying.rng 9).head ∧ replaying.fld FB_REPLAY_STATUS_DIVERGE = 0 := by decide +kernel

/-- The accessible time of a replay at C = 100 is 99 or 100, so a record of beat 50 is due and one of beat 200 is not. -/
theorem witness_recordDue : replaying.accC 60 < 2 ^ 60 ∧ ¬ replaying.accC 60 < 0 + 50 ∧ replaying.accC 60 < 0 + 200 := by
  have h : replaying.time.c = 100 := rfl
  have g : replaying.chr.prevC = 99 := rfl
  simp only [State.accC, h, g]
  split <;> omega

theorem witness_ErrorEventsAreRecordedAndClassified : 2303 < UnitKind.ni.count ∧ atOnce .ni 4 = true ∧ atOnce .ni 1 = false ∧
    (up.eu .ni 0).winCount.get 1 0 = 0 ∧ up.fld (xx_ERR_STATUS_SOURCE .ni) 0 = 0 ∧
    (up.setFld (xx_ERR_STATUS_SOURCE .ni) 2 0).fld (xx_ERR_STATUS_SOURCE .ni) 0 ≠ 0 ∧ up.eventSevere .ni 0 4 = true ∧
    (up.setFld (xx_ERR_CLASS_THRESH .ni) 2 0 1).eventSevere .ni 0 1 = false := by decide +kernel

/-- Memory port 3 in its safe state; a fence by the Binnacle; the inbox full. -/
def safePort : State := up.setFld (xx_ERR_STATUS_SAFE .mp) 1 3
def aFence (level : Nat) : Pkt := mkPkt opFENCE bnLoc (niLoc 5) 0 0 0 [level, 1]
def fullInbox : State := up.modBn fun b => { b with inbox := List.replicate 64 aPkt }

theorem witness_ErrorSetsMessagesAndFences : kindOf 3 = .mp ∧ safePort.regAlive ((xx_ERR_CTRL .mp).addr 3 0) = true ∧ 12 % 8 = 4 ∧ 9 % 8 = 1 ∧
    10 % 8 = 2 ∧ up.fld (xx_ERR_STATUS_SAFE .mp) 3 = 0 ∧ safePort.fld (xx_ERR_STATUS_SAFE .mp) 3 = 1 ∧
    safePort.fld (xx_ERR_STATUS_SOURCE .mp) 3 = 0 ∧ safePort.fld (xx_ERR_STATUS_SEVERE .mp) 3 = 0 ∧
    safePort.fld (xx_ERR_STATUS_SELF_PARITY .mp) 3 = 0 ∧ safePort.condPersists .mp 3 = false ∧
    (safePort.setEu .mp 3 { persist := [1] }).condPersists .mp 3 = true ∧ (∀ k ∈ [0, 1, 2], kindOf k ∈ [.ni, .red, .rg]) ∧
    up.regAlive ((xx_ERR_INJECT .mp).addr 3 0) = true ∧ up.locked = false ∧ (up.setFld BN_LOCK_LOCK 1).locked = true ∧
    (injectRaises .ni 4 1).isSome = true ∧ (injectRaises .ni 15 1).isSome = false ∧
    (pk opERR_MSG []).kind = opERR_MSG ∧ (pk opATTN [1]).kind = opATTN ∧ up.bnUp = true ∧ ({ up with bnUp := false }).bnUp = false ∧
    up.bn.inbox.length < 64 ∧ 64 ≤ fullInbox.bn.inbox.length ∧ (aFence 0).kind = opFENCE ∧ (aFence 0).src.port = 5 ∧ (pk opFENCE [0, 0]).src.port ≠ 5 ∧
    okPkt (aFence 3) = true ∧ (∀ k ∈ [0, 1, 2, 3], (aFence k).arg 0 = k) ∧ (aFence 3).arg 1 < 4 ∧ up.routerUp 5 = true ∧
    up.frozenAt 5 = false ∧ up.level 5 ≠ 2 ∧ (up.rg (regionOf 5)).f3 = false ∧
    ({ up with fence := { level := [(5, 2)] } }).routerUp 5 = false ∧ linkOut.portOut 1 3 = true ∧ neighbour 0 0 = none ∧ up.portOut 1 3 = false ∧
    neighbour 1 3 = some 0 := by decide +kernel

/-- A mesh link out; an F1 at slot 1 with a spare at slot 7 of its region, without one, and at a slot with no tile; F3 of region 0. -/
def faultF1 : State := { up with fence := { level := [(1, 1)] } }
def tileOn1 : State := faultF1.modBn fun b => { b with lmap := [(0, 1)] }
def noSpare : State := { tileOn1 with fence := { level := (State.regionSlots 0).map fun n => (n, 1) } }
def heldLaunch : State := { up with launches := [{ aLaunch with holdGen := some 3 }] }

theorem witness_RepairPublishesANewMap : up.bnUp = true ∧ up.fld BN_STATE_STATE = 3 ∧ up.fld FB_ANCHOR_STATUS_STOPPED = 0 ∧
    State.reset.bnUp = false ∧ up.drainInbox.faultStands 4609 = false ∧ (up.modBn fun b => { b with lost := true }).drainInbox.bn.lost = true ∧
    linkOut.drainInbox.bn.lost = false ∧ patchLink 4609 = meshLink 1 3 ∧ linkOut.drainInbox.faultStands 4609 = true ∧ 4608 < 4609 ∧
    patchSlot 2 = some 1 ∧ faultF1.drainInbox.faultStands 2 = true ∧ faultF1.drainInbox.tileAt 1 = none ∧
    tileOn1.drainInbox.faultStands 2 = true ∧ tileOn1.drainInbox.tileAt 1 = some 0 ∧ (tileOn1.drainInbox.spareFor 1).isSome = true ∧
    noSpare.drainInbox.faultStands 2 = true ∧ noSpare.drainInbox.tileAt 1 = some 0 ∧ noSpare.drainInbox.spareFor 1 = none ∧
    ((tileOn1.modRg 0 fun r => { r with f3 := true }).drainInbox).faultStands 0 = true ∧ up.regAlive (FB_MAP_GEN.addr 0 0) = true ∧
    2 ^ 31 / 2 ^ 31 = 1 ∧ up.launches = [] ∧
    heldLaunch.launches.find? (fun x => x.ni == 0 && x.chart == 9 && x.holdGen.isSome) = some { aLaunch with holdGen := some 3 } ∧
    up.launches.find? (fun x => x.ni == 0 && x.chart == 9 && x.holdGen.isSome) = none := by decide +kernel

/-- Region 0 in a slot with sounding enabled, and with the router test on. -/
def sounding : State := (up.setFld RG_SELFTEST_CFG_SOUND_EN 1 (regionOf 1)).modRg (regionOf 1) fun r => { r with slot := 3 }
def testing (k : Nat) : State := (up.setFld RG_SELFTEST_CFG_TEST_EN 1 0).setFld RG_SELFTEST_CFG_ROUTER k 0
def tickOn : State := (up.setFld FB_TICK_CTRL_ENABLE 1).setFld FB_TICK_CTRL_KICK_LIMIT 3

theorem witness_SelfTestsAndTick : sounding.maySound 1 3 = true ∧ up.maySound 1 3 = false ∧ neighbour 1 3 = some 0 ∧
    ones 2048 ((soundFlit 5 ^^^ 0) ^^^ soundFlit ((soundFlit 5 ^^^ 0) % 2 ^ 16)) = 0 ∧
    ones 2048 ((soundFlit 5 ^^^ 2 ^ 40) ^^^ soundFlit ((soundFlit 5 ^^^ 2 ^ 40) % 2 ^ 16)) ≠ 0 ∧ sounding.frozenAt 0 = false ∧
    (testing 62).fld RG_SELFTEST_CFG_TEST_EN 0 = 1 ∧ ((testing 62).rg 0).lag = 0 ∧ ((testing 62).rg 0).frozen = false ∧
    ((testing 62).rg 0).f3 = false ∧ (testing 62).powered 0 = true ∧ (testing 63).fld RG_SELFTEST_CFG_ROUTER 0 = 63 ∧
    (testing 62).fld RG_SELFTEST_CFG_ROUTER 0 ≠ 63 ∧ (testing 62).routerUp (regionSlot 0 62) = true ∧ (up.setFld RG_SELFTEST_CFG_TEST_EN 0 0).fld RG_SELFTEST_CFG_TEST_EN 0 = 0 ∧
    tickOn.fld FB_TICK_CTRL_ENABLE = 1 ∧ tickOn.chr.kickOk = true ∧ tickOn.fld CH_STATUS_REF_LOST = 0 ∧ tickOn.bn.clockLost = false ∧ tickOn.fld BN_STATE_STATE ≠ 1 ∧
    tickOn.fld FB_TICK_CTRL_KICK_LIMIT ≠ 0 ∧ up.fld FB_TICK_CTRL_ENABLE = 0 ∧ up.regAlive (FB_TICK_CTRL.addr 0 0) = true := by decide +kernel

/-- No unit of `tickOn` is in its safe state. -/
theorem witness_noUnitSafe : ∀ q ∈ [UnitKind.ni, .red, .rg, .mp, .ol, .hp, .tp, .bn], ∀ i ∈ [0, 1, 2303], tickOn.fld (xx_ERR_STATUS_SAFE q) i = 0 := by
  decide +kernel

/-- Links 2 and 3 ACTIVE in bundle 5 and link 9 in bundle 6, all MATCH; chip 7 lies behind bundle 5, chip 8 behind bundle 6. -/
def link (s : State) (n st b : Nat) : State := ((s.setFld OL_STATUS_STATE st n).setFld OL_STATUS_BUNDLE b n).setFld OL_STATUS_OUTCOME 1 n
def linked : State := { link (link (link handled 2 lsACTIVE 5) 3 lsACTIVE 5) 9 lsACTIVE 6 with
  plan := { valid := true, routes := [(7, 0x85), (8, 0x86)] } }
def inLink (f : OLink → OLink) : State := linked.modOl 2 f
def inState (st : Nat) : State := link up 2 st 5
def aPair (k : Nat) : Nat × List (Nat × LFlit) := (k, [(2, .control [])])
def sent : State := inLink fun l => { l with retry := [aPair 4, aPair 5, aPair 6] }

theorem witness_FramesAreAcknowledgedOrSentAgain : linked.receiving 2 = true ∧ linked.fld (xx_ERR_INJECT_ARM .ol) 2 = 0 ∧
    (linked.olk 2).rxPair = 0 ∧ (linked.olk 2).rxHalf = false ∧ ((inLink fun l => { l with rxHalf := true }).olk 2).rxHalf = true ∧
    (linked.olk 2).acked + 1 < 32 ∧ 32 ≤ ((inLink fun l => { l with rxHalf := true, acked := 31 }).olk 2).acked + 1 ∧ 65535 ≠ (linked.olk 2).rxPair ∧
    (linked.olk 2).skip = false ∧ (linked.olk 2).retry.any (fun e => e.1 == 5) = false ∧ (sent.olk 2).retry = [aPair 4] ++ aPair 5 :: [aPair 6] ∧
    (∀ x ∈ [aPair 4], x.1 ≠ 5) ∧ (sent.olk 2).nak ≠ some 5 ∧ ((inLink fun l => { l with nak := some 5, again := 7 }).olk 2).again < 8 ∧
    ((inLink fun l => { l with nak := some 5, again := 8 }).olk 2).nak = some 5 ∧
    8 ≤ ((inLink fun l => { l with nak := some 5, again := 8 }).olk 2).again ∧ linked.linkState 2 ≠ lsHELD ∧
    (linked.setLink 2 lsHELD).linkState 2 = lsHELD ∧ (linked.setLink 2 lsHELD).receiving 2 = true := by decide +kernel

/-- Link 2 with one DAT packet to send, its last flit next. -/
def lastFlit : Nat := nflits datPkt - 1
def sendingL : State := inLink fun l => { l with txP := [(datPkt, lastFlit)] }
def marked (k : Nat) : State := inLink fun l => { l with mark := k }

theorem witness_LinkFlitsCarryPacketsAndItems : okPkt datPkt = true ∧ datPkt.net = .dat ∧ lastFlit < 17 ∧ aPkt.net ≠ .dat ∧ up.linkState 2 < lsWIDTH ∧
    lsACTIVE < (inState lsFAILED).linkState 2 ∧ lsWIDTH ≤ linked.linkState 2 ∧ linked.linkState 2 ≤ lsACTIVE ∧ up.accepts 2 = false ∧
    linked.accepts 2 = true ∧ (linked.olk 2).frames + 2 < 1024 ∧ 1024 ≤ ((inLink fun l => { l with frames := 1022 }).olk 2).frames + 2 ∧
    ((inLink fun l => { l with resend := [aPair 4] }).olk 2).resend = [aPair 4] ∧ (linked.olk 2).resend = [] ∧
    256 ≤ ((inLink fun l => { l with retry := List.replicate 256 (aPair 4) }).olk 2).retry.length ∧ (linked.olk 2).cur = [] ∧
    (linked.olk 2).retry.length < 256 ∧ (inState lsREADY).linkState 2 ≠ lsACTIVE ∧ ((inState lsREADY).olk 2).items = [] ∧
    ((inState lsREADY).olk 2).txStream = none ∧ ((inState lsREADY).olk 2).txS = [] ∧ linked.fld FB_ANCHOR_STATUS_STOPPED = 0 ∧
    (sendingL.olk 2).adopted = [] ∧ (sendingL.olk 2).carry = [] ∧ (sendingL.olk 2).txP = [(datPkt, lastFlit)] ∧
    0 < (sendingL.olk 2).roomOf (linkClass datPkt) ∧ lastFlit + 1 = nflits datPkt ∧ (sendingL.olk 2).cur.length < 4 ∧
    ((inLink fun l => { l with cur := List.replicate 4 (2, .control []) }).olk 2).cur.length = 4 ∧ up.taking 2 = false ∧ linked.taking 2 = true ∧
    linked.streamOn 2 = 2 ∧ (linked.olk 2).nextFlit aPkt = 0 ∧ (linked.olk 2).nextFlit aPkt ≠ 1 ∧
    ((inLink fun l => { l with rxPart := [(datPkt, lastFlit)] }).olk 2).nextFlit datPkt = lastFlit ∧ (linked.olk 2).rxS = [] ∧
    ((marked 5).olk 2).mark % 16 ≠ 4 ∧ ((marked 5).olk 2).mark % 16 = 5 ∧ (5 + 256 - (marked 5).landBeat 2 % 256) % 256 < 128 ∧
    ((marked 5).olk 2).landing = [] ∧ (((marked 5).unitEvent .ol 2 5 0).olk 2).rxS = [] := by decide +kernel

/-- A READ for chip 7 or 8 at link 2, and one that came in for tile 1 of this chip; the translation of the source. -/
def outTo (chip : Nat) : Pkt := mkPkt opREAD (niLoc 1) (olLoc 2) 0 0 7 [chip * 2 ^ 52, 31]
def anXlat : XlatE := ⟨niLoc 1, 7, 3⟩
def translated : State := inLink fun l => { l with xlat := [anXlat] }
def tile1 : State := ((linked.setFld NI_LMAP_VALID_ODD 1 (olLoc 2).slot 0).setFld NI_LMAP_SLOT_ODD 1 (olLoc 2).slot 0)
def gotReq (a : Nat) : State := tile1.modOl 2 fun l => { l with rxq := [mkPkt opREAD (niLoc 1) (niLoc 1) 0 0 7 [a, 31]] }
def anAnswer (t : Nat) : Pkt := mkPkt opREAD_ERR (niLoc 1) (niLoc 1) 0 0 t [0x30]
def gotAns (t : Nat) : State := translated.modOl 2 fun l => { l with rxq := [anAnswer t] }

theorem witness_PacketsCrossBetweenChips : linked.fld FB_ANCHOR_STATUS_STOPPED = 0 ∧
    (linked.setFld FB_ANCHOR_STATUS_STOPPED 1).fld FB_ANCHOR_STATUS_STOPPED = 1 ∧ (pk opREG_RD []).isReg = true ∧ aPkt.dst ≠ olLoc 2 ∧
    okPkt (outTo 7) = true ∧ (outTo 7).isReg = false ∧ (outTo 7).dst = olLoc 2 ∧ (mkPkt opPAUSE (niLoc 1) (olLoc 2) 0 0 0 []).net = .snp ∧
    opPAUSE ≠ opWIN_CLOSE ∧ (anAnswer 3).isAnswer = true ∧ linked.carried 2 = true ∧ (outTo 7).net ≠ .snp ∧ (outTo 7).isAnswer = false ∧
    (outTo 7).address = some (7 * 2 ^ 52) ∧ adChip (7 * 2 ^ 52) = 7 ∧ linked.chipBundle 9 = none ∧ linked.chipBundle 7 = some 5 ∧ linked.linkBundle 2 = 5 ∧
    linked.plan.consort ≠ some 2 ∧ (translated.olk 2).xlat.find? (fun x => decide (x.src = (outTo 7).src) && x.txn == (outTo 7).tag) = some anXlat ∧
    (linked.olk 2).xlat.find? (fun x => decide (x.src = (outTo 7).src) && x.txn == (outTo 7).tag) = none ∧
    (List.range 4096).find? (fun x => !((linked.olk 2).xlat.any fun y => y.ltxn == x)) = some 0 ∧ linked.chipBundle 8 = some 6 ∧
    linked.bundleLink 6 = some 9 ∧ (linked.olk 2).rxq = [] ∧
    ((gotReq (2 ^ 38)).olk 2).rxq.find? (fun x => !x.isAnswer) = some (mkPkt opREAD (niLoc 1) (niLoc 1) 0 0 7 [2 ^ 38, 31]) ∧
    (gotReq (2 ^ 38)).ingressDest 2 (2 ^ 38) = some (niLoc 1) ∧ (gotReq (2 ^ 39)).ingressDest 2 (2 ^ 39) = none ∧
    ((gotAns 3).olk 2).rxq.find? (fun x => x.isAnswer) = some (anAnswer 3) ∧ ((gotAns 3).olk 2).xlat.find? (fun x => x.ltxn == 3) = some anXlat ∧
    ((gotAns 4).olk 2).xlat.find? (fun x => x.ltxn == 4) = none ∧ (linked.olk 2).wait = [] ∧
    ((inLink fun l => { l with wait := [outTo 7] }).olk 2).wait = outTo 7 :: [] ∧ linked.regAlive (NI_REACH.addr 0 127) = true ∧ linked.otx = [] := by
  decide +kernel
/-- Link 3 has adopted the stream of link 2. -/
def adopting : State := linked.modOl 3 fun l => { l with adopted := [2] }

theorem witness_LinksTrainStateByState : Instr.linkEnable 2 (2 ^ 31) ∈ [Instr.linkEnable 2 (2 ^ 31), .retrain 2 (2 ^ 31), .holdDown 2 (2 ^ 31)] ∧
    up.regAlive (OL_CTRL.addr 2 0) = true ∧ 2 ^ 31 / 2 ^ 29 = 4 ∧ (2 ^ 31 + 2 ^ 30) / 2 ^ 29 = 6 ∧ (2 ^ 31 + 2 ^ 29) / 2 ^ 29 = 5 ∧
    (up.setFld OL_CTRL_ENABLE 0 2).fld OL_CTRL_ENABLE 2 = 0 ∧ (up.setFld OL_CTRL_ENABLE 1 2).fld OL_CTRL_ENABLE 2 = 1 ∧ lsWAIT_PMA < 16 ∧
    up.linkState 2 ≠ lsWAIT_PMA ∧ (∀ st ∈ [lsWAIT_PMA, lsALIGN, lsWIDTH, lsLOCK, lsIDENT, lsACTIVE], (inState st).linkState 2 = st) ∧
    ((inState lsWIDTH).modOl 2 fun l => { l with lanesNear := 7, lanesFar := 15 }).linkState 2 = lsWIDTH ∧ 7 &&& 15 &&& 15 ≠ 0 ∧
    ((inState lsWIDTH).modOl 2 fun l => { l with told := true }).fld OL_STATUS_STATE 2 = lsWIDTH ∧ ((inState lsWIDTH).olk 2).told = false ∧
    (((inState lsWIDTH).modOl 2 fun l => { l with told := true }).olk 2).told = true ∧ up.isAdopted 2 = false ∧ adopting.isAdopted 2 = true ∧
    linked.taking 2 = true ∧ 7 &&& (linked.setFld OL_STATUS_LANES 15 2).fld OL_STATUS_LANES 2 ≠ (linked.setFld OL_STATUS_LANES 15 2).fld OL_STATUS_LANES 2 ∧
    ((inState lsWIDTH).olk 2).lanesNear = 0 ∧ max ((128 * 100 + 2124) / 2125 + 1) 8 = 8 ∧ 150 < max ((128 * 100 + 2124) / 2125 + 1) 151 ∧
    ((inState lsLOCK).setFld OL_LAND_CFG_DELAY 15 2).fld OL_LAND_CFG_DELAY 2 < 8 + 8 ∧
    8 + 8 ≤ min 127 (((inState lsLOCK).setFld OL_LAND_CFG_DELAY 16 2).fld OL_LAND_CFG_DELAY 2) ∧ up.fld FB_STRAP_PLAN_SEL = 0 ∧
    up.plan.valid = false ∧ linked.plan.valid = true ∧ lsWAIT_PMA ≤ lsIDENT ∧ ((inState lsACTIVE).olk 2).skip = false ∧
    ((inState lsACTIVE).olk 2).ident = 0 := by decide +kernel

/-- Lanes 0 to 3 of link 2 in use. -/
def lanes : State := linked.setFld OL_STATUS_LANES 15 2

theorem witness_LanesAndLinksAreLostAndAdopted : lanes.linkState 2 = lsACTIVE ∧ 0 &&& lanes.fld OL_STATUS_LANES 2 = 0 ∧ lanes.fld OL_STATUS_LANES 2 = 15 ∧
    15 &&& 15 = 15 ∧ 4 &&& 15 = 2 ^ 2 ∧ 4 &&& 15 ≠ 15 ∧ up.receiving 2 = false ∧ lanes.receiving 2 = true ∧ linked.taking 2 = true ∧
    linked.linkBundle 3 = linked.linkBundle 2 ∧ linked.linkBundle 9 ≠ linked.linkBundle 2 ∧ up.taking 2 = false ∧ adopting.taking 3 = true ∧
    (adopting.olk 3).adopted.contains 2 = true ∧ (linked.olk 3).adopted.contains 2 = false ∧
    ((inLink fun l => { l with old := [aPair 4, aPair 5, aPair 6] }).olk 2).old = [aPair 4, aPair 5] ++ [aPair 6] ∧
    (∀ x ∈ [aPair 4, aPair 5], x.1 ≠ 6) ∧ ((inLink fun l => { l with old := [(4, [(2, .sched default 0 0 0)])] }).olk 2).old = [(4, [(2, .sched default 0 0 0)])] ∧ up.linkState 2 ≠ lsACTIVE ∧
    linked.fld FB_CONSORT_STATUS_ARMED = 0 ∧ linked.plan.consort = none ∧
    max 1 (linked.minLinks 5) ≤ ((linked.setLink 2 lsHELD).bundleUpLinks 5).length ∧ (linked.setLink 2 lsHELD).sibling 5 = some 3 ∧
    (linked.olk 2).adopted = [] ∧ linked.minWidth 5 ≤ 1 ∧
    (((inLink fun l => { l with lanesNear := 15 }).olk 2).lanesNear &&& ((inLink fun l => { l with lanesNear := 15 }).olk 2).lanesFar) &&&
      (15 ^^^ 2 ^ 1) ≠ 0 := by decide +kernel

/-- Bundle 5 is the parent's. -/
def child : State := { linked.setFld FB_SYNC_STATUS_PARENT 5 with plan := { linked.plan with alt := 6 } }
/-- The same, 6,400 beats on. -/
def later : State := { child with time := { c := 64 * 256 * 256 } }
def sinceB (s : State) (b : Nat) : Nat := (s.time.c + beatMod - b) % beatMod

theorem witness_SyncAndDiscoverySettleLinks : child.taking 2 = true ∧ child.linkState 2 = lsACTIVE ∧ child.fld FB_SYNC_STATUS_ROOT = 0 ∧
    child.fld FB_SYNC_STATUS_PARENT = child.linkBundle 2 ∧ linked.fld FB_SYNC_STATUS_PARENT ≠ linked.linkBundle 2 ∧ child.plan.synced = false ∧
    sinceB child child.chr.syncSent < zeroAsOne (child.fld FB_SYNC_CFG_INTERVAL) ∧ sinceB child child.chr.syncGot < 64 * zeroAsOne (child.fld FB_SYNC_CFG_INTERVAL) ∧
    zeroAsOne (later.fld FB_SYNC_CFG_INTERVAL) ≤ sinceB later later.chr.syncSent ∧ 64 * zeroAsOne (later.fld FB_SYNC_CFG_INTERVAL) ≤ sinceB later later.chr.syncGot ∧
    child.noChart = true ∧ child.bnUp = true ∧ ({ child with plan := { child.plan with synced := true } }).plan.synced = true ∧
    (child.bundleLinks 5).find? (fun k => child.linkState k == lsACTIVE) = some 2 ∧
    (child.setFld FB_SYNC_STATUS_ROOT 1).fld FB_SYNC_STATUS_ROOT = 1 ∧ child.fld FB_SYNC_STATUS_PARENT ≠ 63 ∧ child.plan.alt = 6 ∧
    ({ child with plan := { child.plan with alt := 63 } }).plan.alt = 63 ∧ up.fld FB_PLAN_STATUS_STATE ≠ 1 ∧
    (up.setFld FB_PLAN_STATUS_STATE 1).fld FB_PLAN_STATUS_STATE = 1 ∧ up.regAlive (FB_PLAN_CTRL.addr 0 0) = true ∧ 2 / 2 % 2 = 1 ∧ 1 / 2 % 2 = 0 ∧
    1 % 2 = 1 ∧ linked.bundleState 31 < 4 := by decide +kernel

theorem witness_planRefused : up.holdAll.fld FB_STRAP_PLAN_SEL = 0 ∧
    planCause up.holdAll.chipId (up.holdAll.hbmBytes (adBig (up.holdAll.pair FB_PLAN_LO FB_PLAN_HI)) 8192) = some 0 := by decide +kernel

/-- A SYNC that says C = 1,000 meets the clauses of the first load, and one that says 0 those of a step. -/
theorem witness_theta : 16 < child.thetaOf 2 1000 0 ∧ child.thetaOf 2 0 0 ≤ 0 ∧ -16 ≤ child.thetaOf 2 0 0 := by
  have h : child.stampOf (domOf .ol 2) ≤ 15 := by
    have a : child.stamp.get (domOf .ol 2) 0 = 0 := by decide +kernel
    have b : child.time.c = 0 := rfl
    have p : child.chr.prevC = 0 := by decide +kernel
    simp only [State.stampOf, State.accC, a, b, p, ite_self]
    omega
  have k : child.fld OL_LOCK_LOCK 2 = 0 := by decide +kernel
  have z : signedOf 12 0 = 0 := by decide
  simp only [State.thetaOf, k, z]
  generalize child.stampOf (domOf .ol 2) = t at h
  interval_cases t <;> decide

/-- Memory port 3 with its controller ready, and with a transaction of requester k waiting, in progress, issued or suspended. -/
def aMtx (kind : MKind) (req id : Nat) : MTx := ⟨id, kind, req, 0, 32, if kind = .write then List.replicate 32 1 else [], none, 0, 0, 0, false⟩
def port (f : MPort → MPort) : State := up.modMp 3 fun m => f { m with
  ctrlReady := true
  everReady := true }
def waits (l : List MTx) (owner : Nat) : State := port fun m => { m with
  ready := l
  owner := owner }
/-- As in ArbitersGrantByLevelAndTurn: the requesters with something to grant. -/
def askers (s : State) : List Nat := (List.range 13).filter fun k => (s.head 3 k).isSome

theorem witness_ArbitersGrantByLevelAndTurn : up.fld (xx_ERR_INJECT_ARM .mp) 3 = 0 ∧ (up.mpt 3).ctrlReady = false ∧ ((port id).mpt 3).held = false ∧
    ((port id).mpt 3).ctrlReady = true ∧ (port id).fld (xx_ERR_STATUS_SAFE .mp) 3 = 0 ∧
    ((waits [aMtx .debug 13 0] 6).mpt 3).debugHead = some (aMtx .debug 13 0) ∧
    ({ (waits [aMtx .debug 13 0] 6).mpt 3 with cur := some (aMtx .atomic 7 1) }).debugHead = none ∧ ((port id).mpt 3).denied (aMtx .read 7 0) = false ∧
    ((port id).mpt 3).denied { aMtx .read 7 0 with pkt := some (pk opREAD [0, 31]) } = true ∧
    ((port fun m => { m with suspended := some (aMtx .read 7 0) }).mpt 3).suspended.isSome = true ∧ askers (port id) = [] ∧
    askers (waits [aMtx .read 7 0] 7) = [7] ∧ (waits [aMtx .read 7 0] 7).head 3 7 = some (aMtx .read 7 0) ∧
    askers (waits [aMtx .read 7 0, aMtx .read 9 0] 7) = [7, 9] ∧ ((waits [aMtx .read 7 0, aMtx .read 9 0] 7).mpt 3).goPend = none ∧
    ((waits [aMtx .read 7 0, aMtx .read 9 0] 7).mpt 3).winner [7, 9] = some 9 ∧
    ((port fun m => { m with goPend := some (1, 2) }).mpt 3).goPend = some (1, 2) ∧
    [7, 9].Pairwise (· < ·) ∧ ((port id).mpt 3).tag = some 0 ∧ (aMtx .read 7 0).kind ≠ .bookRead ∧
    ((port fun m => { m with issued := (List.range 256).map (aMtx .read 7) }).mpt 3).tag = none ∧ up.fld FB_ANCHOR_STATUS_STOPPED = 0 := by
  decide +kernel

def heldPort : State := port fun m => { m with inputHeld := true, held := true }
def stuckPort (input : Bool) : State := port fun m => { m with stuck := true, inputHeld := input }
def resumed : State := port fun m => { m with suspended := some (aMtx .read 7 0) }
def resumedDbg : State := port fun m => { m with suspDbg := some (aMtx .debug 13 0) }

theorem witness_RefreshHoldDebugAndPriorities : (heldPort.mpt 3).inputHeld = true ∧ ((stuckPort false).mpt 3).inputHeld = false ∧
    ((stuckPort false).mpt 3).stuck = true ∧ ((port id).mpt 3).inputHeld = false ∧ ((port id).mpt 3).stuck = false ∧
    ((port id).mpt 3).suspended = none ∧ (resumed.mpt 3).suspended.isSome = true ∧ (resumed.mpt 3).cur = none ∧
    (resumed.mpt 3).suspDbg = none ∧ (resumed.mpt 3).debugHead = none ∧ (resumedDbg.mpt 3).suspDbg.isSome = true ∧ (resumedDbg.mpt 3).cur = none ∧ ((port id).mpt 3).held = false ∧ (heldPort.mpt 3).held = true ∧
    (heldPort.mpt 3).suspended = none ∧ up.regAlive (MP_REFRESH_CFG.addr 3 0) = true ∧ 2 ^ 31 / 2 ^ 31 = 1 ∧ ((stuckPort true).mpt 3).inputHeld = true ∧
    ((stuckPort true).mpt 3).stuck = true ∧ up.regAlive (MP_ARB_COMMIT.addr 3 0) = true ∧ 1 % 2 = 1 ∧ (up.mpt 3).ctrlReady = false ∧
    (port id).fld (xx_ERR_STATUS_SAFE .mp) 3 = 0 := by decide +kernel

def running7 (kind : MKind) (p : Option Pkt) : State := port fun m => { m with cur := some { aMtx kind 7 5 with pkt := p } }

theorem witness_ControllerAnswersMoveData :
    (((port id).mpt 3).cur.toList ++ ((port id).mpt 3).issued).find? (fun x => x.id == 5) = none ∧
    (∀ kind ∈ [MKind.read, .write, .atomic, .debug], ∀ p ∈ [none, some (pk opREAD [0, 31])],
      (((running7 kind p).mpt 3).cur.toList ++ ((running7 kind p).mpt 3).issued).find? (fun x => x.id == 5) = some { aMtx kind 7 5 with pkt := p }) ∧
    (aMtx .write 7 5).kind = .write ∧ (aMtx .debug 7 5).data = [] ∧ (aMtx .write 7 5).pkt = none := by decide +kernel

/-- Room for near ranges, grants and bookings: 48 GiB at each port, 24 of them interleaved. -/
def roomy : State := (up.setFld FB_HBM_ILV_CAP 48).setFld FB_HBM_ILV_SIZE 24
def nearSet (base v : Nat) : State := let s := (roomy.setFld FB_NEAR_BASE_BASE base 0 2);
  (s.serveWrite (FB_NEAR_CFG.addr 0 2) v).writeTyped FB_NEAR_CFG 0 2 v
def grantSet (v : Nat) : State := (roomy.serveWrite (FB_GRANT_CFG.addr 0 2) v).writeTyped FB_GRANT_CFG 0 2 v
def bookSet (v : Nat) : State := (roomy.serveWrite (MP_BOOK_CFG.addr 3 2) v).writeTyped MP_BOOK_CFG 3 2 v
/-- A VALID near range of 1 GiB, and a VALID grant of one unit. -/
def nearV : Nat := setBits (2 ^ 31) FB_NEAR_CFG_SIZE.hi FB_NEAR_CFG_SIZE.lo 1
def grantV : Nat := setBits (2 ^ 31) FB_GRANT_CFG_SIZE.hi FB_GRANT_CFG_SIZE.lo 1

theorem witness_MapsGrantsAndBookingsAreChecked : roomy.regAlive (MP_BOOK_CFG.addr 3 2) = true ∧ (2 ^ 31) / 2 ^ 31 = 1 ∧
    (bookSet (2 ^ 31 + setBits 0 MP_BOOK_CFG_ATTACH.hi MP_BOOK_CFG_ATTACH.lo 7)).bookOk 3 2 = false ∧ roomy.regAlive (FB_NEAR_CFG.addr 0 2) = true ∧
    nearV / 2 ^ 31 = 1 ∧ (nearSet 384 nearV).nearCause 2 = none ∧ (nearSet 383 nearV).nearCause 2 = some 0 ∧
    roomy.regAlive (FB_NEAR_BASE.addr 0 15) = true ∧ roomy.regAlive (FB_HBM_ILV.addr 0 0) = true ∧ roomy.nimap = [] ∧
    ({ roomy with nimap := [(7, {})] }).nimap = [(7, {})] ∧ roomy.regAlive (FB_GRANT_CFG.addr 0 127) = true ∧ grantV / 2 ^ 31 = 1 ∧
    (grantSet grantV).grantCause 2 = none ∧ (grantSet (2 ^ 31)).grantCause 2 = some 0 ∧ roomy.regAlive (FB_GRANT_BASE.addr 0 127) = true ∧
    (roomy.mpt 3).ctrlReady = false ∧ ((port id).mpt 3).ctrlReady = true ∧ ((port id).mpt 3).everReady = true := by decide +kernel

/-- NI 0 with a handle and a pair whose ranges are in place, as the last write leaves them. -/
def hdlSet (size : Nat) : State := ((owned.setFld NI_HDL_RANGE_SIZE size 0 0).serveWrite (NI_HDL_CFG.addr 0 0) (2 ^ 31)).writeTyped NI_HDL_CFG 0 0 (2 ^ 31)
def pairSet (size : Nat) : State := ((owned.setFld NI_PAIR_BOUND_SIZE size 0 0).serveWrite (NI_PAIR_BASE.addr 0 0) (2 ^ 31)).writeTyped NI_PAIR_BASE 0 0 (2 ^ 31)

theorem witness_HandlesAndPairsAreChecked : owned.regAlive (NI_HDL_CFG.addr 0 0) = true ∧ owned.regAlive (NI_HDL_RANGE.addr 0 255) = true ∧
    owned.regAlive (NI_HDL_HOME.addr 0 255) = true ∧ ((hdlSet 49152).entryWritten 0 0).hdlCause 0 0 = none ∧
    ((hdlSet 49153).entryWritten 0 0).hdlCause 0 0 = some 2 ∧ ((hdlSet 0).entryWritten 0 0).hdlCause 0 0 = some 2 ∧ owned.waitersOf 0 0 = [] ∧
    (owned.window 0 0).closes = [] ∧ owned.waits = [] ∧ owned.regAlive (NI_PAIR_BASE.addr 0 0) = true ∧ (pairSet 49152).pairCause 0 0 = none ∧
    (pairSet 49153).pairCause 0 0 = some 2 ∧ (2 ^ 31) / 2 ^ 31 = 1 ∧ 0 / 2 ^ 31 = 0 := by decide +kernel

/-- A slice command runs, of one member or of two. -/
def slicing (members : Nat) : State := { up.setFld FB_SLICE_STATUS_BUSY 1 with slice := ⟨1, false, 3, members⟩ }

theorem witness_SliceCommandsRunOneAtATime : up.regAlive (FB_SLICE_CMD.addr 0 0) = true ∧
    Instr.kill (3 * 2 ^ 29) ∈ [Instr.assign (3 * 2 ^ 29), .sliceEnd (3 * 2 ^ 29), .kill (3 * 2 ^ 29), .release (3 * 2 ^ 29), .scrub (3 * 2 ^ 29)] ∧
    (6 * 2 ^ 29) / 2 ^ 29 = 6 ∧ 5 * 2 ^ 29 / 2 ^ 29 = 5 ∧ up.fld FB_SLICE_STATUS_BUSY = 0 ∧ (slicing 2).fld FB_SLICE_STATUS_BUSY = 1 ∧
    up.grpValid 4 = false ∧ dirs.grpValid 3 = true ∧ 0 < dirs.grpMembers 3 ∧ dirs.fld FB_SLICE_STATUS_BUSY = 0 ∧ (pk opSLICE_ANS [0, 1]).kind = opSLICE_ANS ∧
    ((slicing 2).fld FB_SLICE_STATUS_ANSWERED + 1) % 2 ^ (FB_SLICE_STATUS_ANSWERED.hi - FB_SLICE_STATUS_ANSWERED.lo + 1) < (slicing 2).slice.members ∧
    (slicing 1).slice.members ≤ ((slicing 1).fld FB_SLICE_STATUS_ANSWERED + 1) % 2 ^ (FB_SLICE_STATUS_ANSWERED.hi - FB_SLICE_STATUS_ANSWERED.lo + 1) ∧
    (slicing 1).slice.ten < 64 ∧ (pk opSLICE_ANS [0, 0]).arg 1 ≠ 1 ∧ (pk opSLICE_ANS [0, 1]).arg 1 = 1 ∧ (slicing 1).fld FB_SLICE_STATUS_FAILED = 0 ∧
    ((slicing 1).setFld FB_SLICE_STATUS_FAILED 1).fld FB_SLICE_STATUS_FAILED ≠ 0 := by decide +kernel

/-- NI 0 in state st of tenancy 3, a SLICE to it, and a scrub under way. -/
def member0 (st : Nat) : State := (up.setFld NI_TN_STATE_STATE st 0).setFld NI_TN_STATE_OWNER 3 0
def aSlice (act hold t : Nat) : Pkt := mkPkt opSLICE bnLoc (niLoc 0) 0 0 0 [act, hold, t]
def scrubbing (e : Nat) : State := { member0 4 with scrubs := [⟨0, true, e, 3, true⟩] }

theorem witness_MembersMoveByTheirTable : okPkt (aSlice 1 0 3) = true ∧ (aSlice 1 0 3).kind = opSLICE ∧ (aSlice 1 0 3).src.port = 5 ∧
    (pk opSLICE [1, 0, 3]).src.port ≠ 5 ∧ (aSlice 1 1 3).arg 1 = b2n true ∧ (aSlice 1 0 3).arg 1 = b2n false ∧ (aSlice 1 0 3).arg 2 = 3 ∧
    (∀ st ∈ [0, 1, 2, 3, 4], (member0 st).tnState 0 = st ∧ (member0 st).owner 0 = 3 ∧ (member0 st).niUp 0 = true ∧
      (member0 st).frozenAt 0 = false) ∧ (∀ a ∈ [1, 2, 3, 4, 5], (aSlice a 0 3).arg 0 = a) ∧ 4 ≠ (member0 1).owner 0 ∧
    (member0 1).niIdle 0 = true ∧ ({ member0 1 with descs := [dsc []] }).niIdle 0 = false ∧
    (scrubbing 0).scrubs.find? (fun y => y.ni == 0) = some ⟨0, true, 0, 3, true⟩ ∧ 3 ≤ (scrubbing 0).tnState 0 ∧
    (scrubbing 3).scrubs.find? (fun y => y.ni == 0) = some ⟨0, true, 3, 3, true⟩ ∧
    ((member0 1).setFld NI_HDL_CFG_RETAIN 1 0 255).fld NI_HDL_CFG_RETAIN 0 255 = 1 ∧ (member0 1).fld NI_PAIR_BASE_SYS 0 7 = 0 := by decide +kernel

/-- A mailbox at rest: group 4 from HBM offset 2^30, reduction 5 and the rest of a request; the recovery loader; Stolrel without its HBM. -/
def mbox (d0 d1 d2 : Nat) : State := ((((mapped.hbmPut (2 ^ 30) [3]).wr BN_MBOX_DATA 0 0 d0).wr BN_MBOX_DATA 0 1 d1).wr BN_MBOX_DATA 0 2 d2)
def afterCmd (s : State) (v : Nat) : State := (s.serveWrite (BN_MBOX_CMD.addr 0 0) v).setFld BN_MBOX_STATUS_BUSY 1
def loading : State := { mapped.setFld BN_STATE_STATE 1 with bnUp := false }
def anEntry : Nat := 3 * 2 ^ 20
def ridBox (g : Nat) : State := ((dirs.wr BN_MBOX_DATA 0 0 6).wr BN_MBOX_DATA 0 1 (g * 2 ^ 20))

theorem witness_MailboxRequestsAreServedOrRefused : 0x0101 % 256 = 1 ∧ mapped.fld BN_MBOX_STATUS_BUSY = 0 ∧
    (mapped.setFld BN_MBOX_STATUS_BUSY 1).fld BN_MBOX_STATUS_BUSY = 1 ∧ mapped.bnUp = true ∧ mapped.fld BN_STATE_STATE = 3 ∧ mapped.bn.lost = false ∧
    loading.bnUp = false ∧ loading.fld BN_STATE_STATE = 1 ∧ loading.bn.clockLost = false ∧ State.reset.bnUp = false ∧ State.reset.fld BN_STATE_STATE ≠ 1 ∧
    (mapped.modBn fun b => { b with lost := true }).bn.lost = true ∧ 9 ∉ [0, 6, 7, 8] ∧
    bits ((afterCmd (mbox 1023 (2 ^ 30) 0) 1).rd BN_MBOX_DATA 0 0) 9 0 = 1023 ∧ bits ((afterCmd (mbox 4 (2 ^ 30) 0) 1).rd BN_MBOX_DATA 0 0) 9 0 = 4 ∧
    (afterCmd (mbox 4 (2 ^ 30) 0) 1).rd BN_MBOX_DATA 0 1 = 2 ^ 30 ∧ (afterCmd (mbox 4 (2 ^ 30) 0) 1).grpValid 4 = false ∧
    mapTiles ((afterCmd (mbox 4 (2 ^ 30) 0) 1).hbmBytes (2 ^ 30) 288) = [0, 1] ∧ (afterCmd (mbox 4 (2 ^ 30) 0) 1).softRange (2 ^ 30) 288 = true ∧
    (afterCmd (mbox 4 0 0) 1).softRange 0 288 = false ∧ (∀ t ∈ [0, 1], t < mapped.tiles) ∧
    (afterCmd (ridBox 3) 3).rd BN_MBOX_DATA 0 0 = 6 ∧ bit ((afterCmd (ridBox 3) 3).redEntry 6) 63 = false ∧
    bit ((afterCmd (ridBox 3) 3).redEntry 5) 63 = true ∧ fmtOk 0 0 0 0 = true ∧ fmtOk 3 1 0 0 = false ∧ bits anEntry 19 8 < mapped.tiles ∧
    reGroup anEntry = 3 ∧ reTen anEntry = 0 ∧ (afterCmd (ridBox 3) 3).grpValid 3 = true ∧ (afterCmd (ridBox 3) 3).grpTen 3 = 0 ∧
    (afterCmd (ridBox 4) 3).grpValid 4 = false := by decide +kernel

/-- The least image of R395, apart from its signature, which Config.ecdsaOk judges: it passes exactly where that function accepts. -/
def anImage : List Nat := toBytes 8 (0x53544C52 * 2 ^ 32 + 2 ^ 24)
theorem witness_imagePasses (ok : Config.ecdsaOk (ofBytes (slice anImage 64 96)) (ofBytes (slice anImage 160 96))
    (Config.sha384 ((anImage.take 160) ++ List.replicate 96 0 ++ slice anImage 256 3840)) = true) :
    imageCause (Config.sha384 (slice anImage 64 96)) 0 anImage = 0 := by
  have a : bits (imgWord anImage 0) 63 32 = 0x53544C52 ∧ bits (imgWord anImage 0) 31 24 = 1 ∧ imgStolrelLen anImage = 0 ∧ imgCalLen anImage = 0 ∧
    imgCoreLen anImage = 0 ∧ imgEnd anImage = 4096 ∧ imgSvn anImage = 0 := by decide +kernel
  simp [-List.reduceReplicate, -List.append_assoc, imageCause, a, ok]

def flashed : State := { up with flash := [(0x700000, 5)] }
def stagedImg : State := up.modBn fun b => { b with staged := some [1, 2] }
def logWaits (n : Nat) : State := up.modBn fun b => { b with
  waiting := [[1, 2, 3, 4, 5, 6, 7]]
  logNext := n }

theorem witness_ImagesAndLogEntriesReachFlash : 0x05 % 256 = 5 ∧ flashed.flash.wf = true ∧ mapped.fld BN_MBOX_STATUS_BUSY = 0 ∧
    (afterCmd (mbox (2 ^ 30) 0 64) 5).softRange (2 ^ 30) 64 = true ∧ (afterCmd (mbox 0 0 64) 5).softRange 0 64 = false ∧
    (afterCmd (mbox (2 ^ 30) 0 64) 5).checkImage [0] 64 = 2 ∧ loading.bnUp = false ∧ loading.fld BN_STATE_STATE = 1 ∧
    (afterCmd loading (7 + 0 * 256)).bn.recv = 0 ∧ 1 ≠ loading.bn.recv ∧ 64 * (0 + 1) ≤ 8 * 2 ^ 20 ∧ up.bn.staged = none ∧ stagedImg.bn.staged = some [1, 2] ∧
    (∀ x ∈ [1, 2], x < 256) ∧ up.bn.waiting = [] ∧ (logWaits 0).bn.waiting = [1, 2, 3, 4, 5, 6, 7] :: [] ∧ (logWaits 0).bn.clockLost = false ∧
    [1, 2, 3, 4, 5, 6, 7].length = 7 ∧ (logWaits (logEntries - 1)).bn.logNext < logEntries ∧ (logWaits 0).bn.logNext % 1024 = 0 ∧
    (logWaits 5).bn.logNext % 1024 ≠ 0 ∧ (logWaits 0).fld (xx_ERR_INJECT_ARM .bn) = 0 := by decide +kernel

/-- Region 5 at T_TRIP; the governor on; bring-up at step 9; a region without power. -/
def governed : State := up.setFld BN_GOV_CFG_ENABLE 1
def step9 : State := (up.setFld BN_STATE_STATE 2).setFld BN_STATE_STEP 9
def dark : State := up.setFld BN_PWR_EN0_EN 0

theorem witness_SensorsAndGovernorSetStretch : up.powered 5 = true ∧ dark.powered 5 = false ∧ -40 ≤ toSigned 8 20 ∧ toSigned 8 125 ≤ 125 ∧
    ¬ (toSigned 8 128 ≥ -40) ∧ up.bnUp = true ∧ ((up.setFld BN_GOV_CFG_T_TRIP 100).fld BN_GOV_CFG_T_TRIP : Int) ≤ toSigned 8 100 ∧
    ¬ (((up.setFld BN_GOV_CFG_T_TRIP 100).fld BN_GOV_CFG_T_TRIP : Int) ≤ toSigned 8 99) ∧ (up.setFld BN_GOV_CFG_ENABLE 0).fld BN_GOV_CFG_ENABLE = 0 ∧
    governed.fld BN_GOV_CFG_ENABLE = 1 ∧ up.regionsUp = List.range 36 ∧ 34 ∉ dark.regionsUp.filter (· < 32) ∧ (2 ^ 31) / 2 ^ 31 = 1 ∧
    up.fld BN_STATE_STATE ≠ 2 ∧ step9.fld BN_STATE_STATE = 2 ∧ step9.fld BN_STATE_STEP = 9 ∧
    ((step9.satFld BN_PM_PIN_AGE 1).unitEvent .bn 0 5 0).fld BN_STATE_STEP = 9 ∧ linear11 100 0xD990 = 1250 ∧ linear11 100 0xE035 < 5400 ∧
    5450 ≤ linear11 100 0x0037 ∧ toSigned 8 50 < toSigned 8 60 := by decide +kernel

theorem witness_ResetsStartTheirDomainsAfresh : 4095 < 4096 ∧ 2303 < 2304 ∧ (36 ≤ 51 ∧ 51 < 52) ∧ (52 ≤ 59 ∧ 59 < 60) ∧ 60 ≠ 61 ∧ 63 ≠ 62 ∧
    imageCause up.fuse.keyDigest up.svnNow [0] = 2 ∧ locate (CH_CTRL.addr 0 0) = some (CH_CTRL, 0, 0) ∧ CH_CTRL.dom = .warm ∧
    locate (NI_TN_STATE.addr 2303 0) = some (NI_TN_STATE, 2303, 0) ∧ NI_TN_STATE.dom = .island ∧ NI_TN_STATE.blk = .ni ∧
    locate (RG_DIP_THR.addr 35 0) = some (RG_DIP_THR, 35, 0) ∧ RG_DIP_THR.dom = .region ∧ locate (OL_CTRL.addr 31 0) = some (OL_CTRL, 31, 0) ∧
    OL_CTRL.dom = .link ∧ locate (BN_MBOX_STATUS.addr 0 0) = some (BN_MBOX_STATUS, 0, 0) ∧ BN_MBOX_STATUS.dom = .bn ∧ up.bn.clockLost = false ∧
    (up.modBn fun b => { b with clockLost := true }).bn.clockLost = true ∧ State.reset.bnUp = false ∧ up.stopped.contains 36 = false ∧
    (up.clockStop 36).stopped.contains 36 = true ∧ up.fld (xx_ERR_INJECT_ARM .bn) = 0 := by decide +kernel

/-- Bring-up at wave w; the load port of NI 5 with a whole chunk of zeros, chunk 0 of 1; its verdict awaited. -/
def atWave (w : Nat) : State := (up.setFld BN_STATE_STATE 2).modBn fun b => { b with wave := w }
def chunkHead (total crc : Nat) : Nat := total * 2 ^ 16 + crc * 2 ^ 32
def loadPort (flits : List Nat) : State := { (((up.setFld NI_FWLOAD_CFG_ENABLE 1 5).setFld NI_TN_STATE_STATE 0 5).setFld NI_PAIR_BASE_ENABLE 1 5
  0).setFld NI_PAIR_BOUND_SIZE 128 5 0 with fw := [(5, { flits := flits })] }
def chunk (total crc : Nat) : List Nat := chunkHead total crc :: List.replicate 16 0
def judging (digest : Nat) : State := { (loadPort []).setFld NI_FWLOAD_STATUS_COMPLETE 1 5 with fw := [(5, { digest := digest })] }

theorem witness_BringUpAndCoreFirmware : (atWave 0).fld BN_STATE_STATE = 2 ∧ (atWave 3).bn.wave = 3 ∧ (atWave 4).bn.wave = 4 ∧ loading.fld BN_STATE_STATE = 1 ∧
    (∀ r ∈ (List.range 36).filter (fun r => r % 4 == 3), r ∉ ([] : List Nat) ∧ ((atWave 3).rg r).absent = false ∧ (atWave 3).settled r = true) ∧
    (∀ r, r < 36 → (atWave 3).settled r = true) ∧ (up.setFld RG_SENSOR_SAG 10 5).settled 5 = false ∧ (atWave 0).level 5 = 0 ∧
    (atWave 0).fld BN_STATE_STEP < 8 ∧ up.fld BN_STATE_STATE ≠ 2 ∧ up.regAlive (NI_FWLOAD_CFG.addr 5 0) = true ∧ (loadPort []).tnState 5 = 0 ∧
    owned.tnState 0 ≠ 0 ∧ (loadPort []).fld NI_FWLOAD_STATUS_DIGEST_OK 5 = 0 ∧
    ((loadPort []).setFld NI_FWLOAD_STATUS_DIGEST_OK 1 5).fld NI_FWLOAD_STATUS_DIGEST_OK 5 = 1 ∧ (2 ^ 31 + 2 ^ 30) / 2 ^ 30 % 2 = 1 ∧
    (loadPort []).niUp 5 = true ∧ ((loadPort []).rg (regionOf 5)).frozen = false ∧ (loadPort []).fld NI_FWLOAD_CFG_ENABLE 5 = 1 ∧
    (((loadPort []).fw.get 5 {}).flits).length < 17 ∧ 17 ≤ (((loadPort (chunk 0 0)).fw.get 5 {}).flits).length ∧
    bits (chunkHead 0 0) 31 16 ≤ bits (chunkHead 0 0) 15 0 ∧ (loadPort []).fld NI_FW_MAP_MAP 5 0 / 2 ^ 0 % 2 = 0 ∧
    ((loadPort []).setFld NI_FW_MAP_MAP 1 5 0).fld NI_FW_MAP_MAP 5 0 / 2 ^ 0 % 2 = 1 ∧ (judging 0).fld NI_FWLOAD_STATUS_COMPLETE 5 ≠ 0 ∧
    (judging 0).fld NI_FWLOAD_STATUS_DIGEST_OK 5 = 0 ∧ (judging 0).fld NI_FWLOAD_STATUS_DIGEST_BAD 5 = 0 ∧ up.spad.wf = true ∧
    ofBytes (sha256 ((judging 0).spadRead 5 0 0)) ≠ 0 := by decide +kernel

/-- The CRC-32C register before 4,096 zeros and after each 64 of them: each value leads to the next, and so the first leads to the last. -/
def crcAt : List Nat := [
  0xffffffff, 0xfc371498, 0xf7d89b24, 0x8bca87cf, 0x478d4e6f, 0x3d5a233, 0x4509d0c9, 0xcc289dc7,
  0xcf03123f, 0x39b9ac6b, 0x1fd80331, 0x7793e80c, 0xc5c4c2f9, 0xfc7deb93, 0xd77c4c0, 0xc011635a,
  0x11512183, 0x96321f3c, 0xa8448891, 0x5717cf61, 0x72802fed, 0x8b77850d, 0x6b47581e, 0xb9f00015,
  0xa6fd2d2, 0xdd58b5aa, 0xfbd7265a, 0xac5b13c6, 0x5bcb999c, 0x782f93a7, 0x50e61ffc, 0x7ddd2266,
  0x5b767cb0, 0x58238b, 0x22b79a12, 0x7dd69ea, 0x13ca39cb, 0x441defd3, 0xe41fc7cf, 0xfacda96e,
  0x4df00a81, 0xeb5782d0, 0x278b2fa4, 0xcdcf02ca, 0x24571252, 0x25d8d536, 0xd84843ae, 0x3441f00b,
  0xdf52be5c, 0xdf1acd0e, 0xf18f24b4, 0x75ad7b36, 0xa82160e, 0x559746ee, 0x17ab347e, 0xeaa5b713,
  0xf76f41ea, 0x74cb944e, 0x81bd34d5, 0xfbee9c85, 0x142ac051, 0xb705e478, 0x54af813b, 0xa35d99a2,
  0x6706be76]
def crcNext (a b : Nat) : Bool := (List.replicate 64 0).foldl (crcByte 0x82F63B78) a == b
theorem crc_chain : ∀ (l : List Nat) (a : Nat), (List.zip (a :: l) l).all (fun x => crcNext x.1 x.2) = true →
    (List.replicate (64 * l.length) 0).foldl (crcByte 0x82F63B78) a = l.getLast?.getD a := by
  intro l
  induction l with
  | nil => intro a _; rfl
  | cons b r ih =>
    intro a h
    simp only [List.zip_cons_cons, List.all_cons, Bool.and_eq_true, crcNext, beq_iff_eq] at h
    have e : List.replicate (64 * (b :: r).length) 0 = List.replicate 64 0 ++ List.replicate (64 * r.length) (0 : Nat) := by
      rw [List.replicate_append_replicate, List.length_cons]; congr 1; omega
    rw [e, List.foldl_append, h.1, ih b h.2]
    cases r <;> simp [List.getLast?]
theorem chunk_crc : crc32c (List.replicate 4096 0) = 0x98f94189 := by
  have h := crc_chain (crcAt.drop 1) 0xFFFFFFFF (by decide +kernel)
  have e : 64 * (crcAt.drop 1).length = 4096 := by decide +kernel
  rw [e] at h
  rw [crc32c, h]
  decide +kernel

theorem witness_chunkFits : let f := (loadPort (chunk 1 0x98f94189)).fw.get 5 {}
    let data := (slice f.flits 1 16).flatMap (toBytes 256)
    let h := f.flits.headD 0
    crc32c data = bits h 63 32 ∧ bits h 15 0 < bits h 31 16 ∧ bits h 31 16 ≤ 1024 ∧ f.any = false ∧
      4096 * (bits h 15 0 + 1) ≤ ((loadPort []).pairRange 5 ((loadPort []).fld NI_FWLOAD_CFG_PAIR 5)).2 := by
  have a : slice ((loadPort (chunk 1 0x98f94189)).fw.get 5 {}).flits 1 16 = List.replicate 16 0 := by decide +kernel
  have b : toBytes 256 0 = List.replicate 256 0 := by decide +kernel
  have c : (List.replicate 16 0).flatMap (toBytes 256) = List.replicate 4096 0 := by
    rw [List.flatMap_replicate, b, List.flatten_replicate_replicate]
  simp only [a, c, chunk_crc]
  decide +kernel

/-- A snapshot of the trace port's and port 3's counters under way, and one whose time has not come. -/
def snapping (t : Nat) : State := { up.setFld FB_CNT_SNAP_BUSY 1 with snap := { t := t, left := [(snapBlk 5).base 0, (snapBlk 2).base 3] } }

theorem witness_SnapshotsAndLogbooks : (2 ^ 31 + 2 ^ 30) / 2 ^ 31 = 1 ∧ up.fld FB_CNT_SNAP_BUSY = 0 ∧ (snapping 0).fld FB_CNT_SNAP_BUSY = 1 ∧
    (snapping 0).snap.left.contains ((snapBlk 5).base 0) = true ∧ (snapping 0).snap.t ≤ up.time.c ∧ ¬ (snapping 1).snap.t ≤ up.time.c ∧
    (logKind 3).count ≤ 2 ∧ 1 < (logKind 3).count ∧ 2303 < (logKind 0).count ∧ up.regAlive ((LOG_PTR .ni).addr 2303 0) = true ∧
    up.fld (LOG_PTR_FREEZE .ni) 2303 = 0 ∧ (up.setFld (LOG_PTR_FREEZE .ni) 1 2303).fld (LOG_PTR_FREEZE .ni) 2303 = 1 ∧
    ({ up with fence := { level := [(2303, 1)] } }).niUp 2303 = false ∧ up.niUp 2303 = true ∧ up.frozenAt 2303 = false := by decide +kernel

/-- NI 0 with nine trace records; the trace port on, with k records; scan-out under way through it with sections left, and with none. -/
def aRec : List Nat := [1, 2, 3, 4]
def traced : State := { owned with trace := [(0, { recs := List.replicate 9 aRec })] }
def tracePort (k : Nat) : State := { up.setFld TP_CFG_ENABLE 1 with tp := { fifo := List.replicate k aRec } }
def scanOn (left : List (Nat × Nat × Nat)) : State := { up with scan := { on := true, left := left } }
def toTp : Pkt := mkPkt opWRITE (niLoc 0) tpLoc 0 0 7 [0, 0] (List.replicate 64 1)

theorem witness_TracesReachTheCaptureSide : (owned.trace.get 0 {}).recs = [] ∧ (traced.trace.get 0 {}).recs = List.replicate 9 aRec ∧ traced.traceDue 0 = true ∧ owned.traceDue 0 = false ∧ traced.niUp 0 = true ∧
    traced.frozenAt 0 = false ∧ traced.txnRoom 0 = true ∧ (withTx owned (aTx .trace)).findTx 0 7 = some (aTx .trace) ∧
    (aTx .read).use ≠ .trace ∧ owned.findTx 0 7 = none ∧ okPkt toTp = true ∧ toTp.kind = opWRITE ∧ toTp.dst = tpLoc ∧ (pk opREAD [0, 0]).kind ≠ opWRITE ∧
    up.fld TP_CFG_ENABLE = 0 ∧ (tracePort 1).fld TP_CFG_ENABLE = 1 ∧ (tracePort 1).tp.fifo.length < 4096 ∧
    (tracePort 1).fld (xx_ERR_STATUS_SAFE .tp) = 0 ∧ (tracePort 1).recordsWait = true ∧ (∀ e ∈ (tracePort 3).tp.fifo, e.length = 4) ∧
    up.recordsWait = false ∧ up.scanWaits = false ∧ (scanOn [(15, 0, 0)]).recordsWait = false ∧ (scanOn [(15, 0, 0)]).scanWaits = true ∧
    (State.scanStep { scanOn [(15, 0, 0)] with tp := { (scanOn [(15, 0, 0)]).tp with ready := true } }).isSome = true ∧
    (State.scanStep { scanOn [] with tp := { (scanOn []).tp with ready := true } }).isNone = true ∧ (scanOn []).scanWaits = true := by decide +kernel

/-- An edge on which tile 5 awaits itself, and one that awaits no tile. -/
def selfEdge : Edge := ⟨5, 1, 0, 5, 0, 0, 0⟩

theorem witness_PlotIsWrittenInOrder : 0 / 2 ^ 31 = 0 ∧ (2 ^ 31) / 2 ^ 31 = 1 ∧ up.bnUp = true ∧ up.fld BN_STATE_STATE = 3 ∧ up.fld FB_PLOT_STATUS_BUSY = 0 ∧
    State.reset.bnUp = false ∧ selfEdge.ak = 0 ∧ selfEdge.awaited = selfEdge.waiter ∧ { selfEdge with ak := 1 }.ak ≠ 0 := by decide +kernel

/-- An anchor stop seen and not yet complete; complete, with scan-out through JTAG allowed. -/
def stopping : State := { up with chr := { up.chr with stopSeen := 1, stopWire := true } }
def stopped : State := up.setFld FB_ANCHOR_STATUS_STOPPED 1

theorem witness_AnchorStopAndScanOut : up.fld FB_ANCHOR_STATUS_STUCK = 0 ∧ (up.setFld FB_ANCHOR_STATUS_STUCK 1).fld FB_ANCHOR_STATUS_STUCK = 1 ∧
    Instr.stop (2 ^ 31 + 2 ^ 30) ∈ [Instr.stop (2 ^ 31 + 2 ^ 30), .anchorRearm (2 ^ 31 + 2 ^ 30)] ∧ (2 ^ 31 + 2 ^ 30) / 2 ^ 30 % 2 = 1 ∧
    up.chr.stopSeen = 0 ∧ stopping.chr.stopSeen ≠ 0 ∧ stopping.fld FB_ANCHOR_STATUS_STOPPED = 0 ∧ stopping.chr.stopBeat < 2 ^ 60 ∧
    stopped.fld FB_ANCHOR_STATUS_STOPPED = 1 ∧ stopped.scan.on = false ∧ (scanOn []).scan.on = true ∧ stopped.fld (xx_ERR_STATUS_SAFE .tp) = 0 ∧
    ((stopped.serveWrite (FB_SCAN_CFG.addr 0 0) (2 ^ 31)).writeTyped FB_SCAN_CFG 0 0 (2 ^ 31)).fld FB_SCAN_CFG_ROUTE ≠ 1 := by decide +kernel

/-- The command at the front of the queue gives a next state. -/
def goesOn (c : Instr) (s : State) : Bool := match step { s with pending := [c] } with
  | .next _ => true
  | _ => false

/-- Each kind of command that moves time gives a next state from a state of 60-bit time, and so does one that does not. -/
theorem witness_OnlyMarksLoadsSyncAndResetsMoveTime : up.TimeInRange ∧ goesOn .beatMark ticking = true ∧ goesOn (.chLoad 2) up = true ∧
    goesOn (.sync 2 1000 0) child = true ∧ goesOn .warmReset up = true ∧ goesOn (.coldReset 0 0 false false 2) up = true ∧
    goesOn (.arbitrate 3) up = true := by
  unfold State.TimeInRange
  decide +kernel

theorem witness_EveryStepKeepsTimeInRange : up.TimeInRange ∧ goesOn (.regionReset 35) up = true := by
  unfold State.TimeInRange
  decide +kernel

theorem witness_WellFormedCommandsComplete : Instr.wf (.islandReset 2303) = true ∧ Instr.wf (.islandReset 2304) = false := by decide +kernel

theorem witness_MemoriesKeepWhatIsWritten : flashed.MemCanonical ∧ (∀ b ∈ [255, 0], b < 256) ∧ (2 ^ 21 - 2) + [255, 0].length ≤ 2 ^ 21 ∧
    (2 ^ 36 - 2) + [255, 0].length ≤ 2 ^ 36 := by
  unfold State.MemCanonical
  decide +kernel

/-! ### Clauses of the statements beside the first ones -/

/-- A sync gain waits for the mark; region 35 has lost its clock over a LOAD, or waits for it; it waits at slot 0 for a segment. -/
def gaining : State := { ticking with chr := { ticking.chr with syncStep := some true, holdSample := true } }
def unclocked (r : Bool) : State := up.modRg 35 fun x => { x with absent := true, reload := r, stalled := true }
def noSegment : State := (up.modRg (regionOf 0) fun r => { r with slot := 1 }).setCh 0 (some aRun)

theorem witness_time_clauses : gaining.fld CH_CTRL_RUN = 1 ∧ gaining.chr.syncStep = some true ∧ gaining.chr.holdSample = true ∧
    ticking.time.c + 1 < 2 ^ 60 ∧ ¬ ({ ticking with time := { c := 2 ^ 60 - 1 } }).time.c + 1 < 2 ^ 60 ∧
    ((unclocked true).rg 35).reload = true ∧ ((unclocked true).rg 35).absent = true ∧ ((unclocked false).rg 35).reload = false ∧
    ((unclocked true).rg 35).f3 = false ∧ (unclocked true).powered 35 = true ∧ ((unclocked true).rg 35).stalled = true ∧
    ((up.modRg 35 fun x => { x with reload := true }).rg 35).reload = true ∧ (up.rg 35).absent = false ∧
    (up.setFld RG_DIP_THR_THR1 1 35).fld RG_DIP_THR_THR1 35 = 1 ∧ (RG_DIP_THR ≠ CH_CTRL) := by decide +kernel

/-- A router whose chart waits for its first segment stalls its region at slot 0. -/
theorem witness_stall : noSegment.stalls 0 0 0 = true ∧ (noSegment.rg (regionOf 0)).slot ≠ 16 := by decide +kernel

/-- A host read for one half of an atomic, and one of Carlith's own. -/
def asked (w : HWhy) : State := up.modHp 1 fun h => { h with out := [⟨⟨2, 6, 0, true, 4, 0, 0, []⟩, w⟩] }

theorem witness_host_clauses : ∀ w ∈ [HWhy.serve aPkt, .atomRead aPkt, .atomWrite aPkt 5, .own 3],
    ((asked w).hpt 1).out.find? (fun o => o.b.tag == 6) = some ⟨⟨2, 6, 0, true, 4, 0, 0, []⟩, w⟩ := by decide +kernel

/-- START for a chart of the tenancy, by another tile's NI and by the Binnacle; at NI 0 with charts enabled and an image of one segment,
on time and late. -/
def aStart (system : Nat) (src : Loc) : Pkt := { pk opSTART [9, 4096, 0, system, 40, 0] with src := src }
def startable : State := ((((owned.setFld NI_TN_STATE_STATE 1 1).setFld NI_CHART_CTRL_ENABLE 1 0).setFld NI_PAIR_BASE_ENABLE 1 0 0).setFld
  NI_PAIR_BOUND_SIZE 1024 0 0).spadWrite 0 4096 [4]
def lateStart : State := startable.modRg (regionOf 0) fun r => { r with L := 41, s := 41 }
/-- Chart 9 at NI 0 with its segment loading; with a loaded one that waits for a context. -/
def loadingSeg : State := (owned.setCh 0 (some { aRun with loading := some 0 })).setFld NI_MAP_DIGEST_DIGEST 0 0
def waitingSeg : State := owned.setCh 0 (some { aRun with waitSeg := some aSeg })

theorem witness_chart_clauses : (aStart 1 (niLoc 1)).src.port ≠ 5 ∧ (aStart 1 { bnLoc with port := 5 }).src.port = 5 ∧
    (aStart 0 (niLoc 1)).kind = opSTART ∧ okPkt (aStart 0 (niLoc 1)) = true ∧ startable.tnState 0 = 1 ∧ startable.owner 0 = startable.owner 1 ∧
    startable.fld NI_CHART_CTRL_ENABLE 0 = 1 ∧ ¬ 40 < (startable.rg (regionOf 0)).L ∧ 40 < (lateStart.rg (regionOf 0)).L ∧
    (startable.bindings 0 aRun 4096).1 = none ∧ (startable.bindings 0 aRun 0).1 = some stACCESS_DENIED ∧ (loadingSeg.rt 0).idle = none ∧ loadingSeg.ch 0 = some { aRun with loading := some 0 } ∧
    (loadingSeg.readSeg 0 { aRun with loading := some 0 } 0).bad ≠ [] ∧ waitingSeg.ch 0 = some { aRun with waitSeg := some aSeg } ∧
    waitingSeg.ctxHeld 0 aSeg = false ∧ { aRun with waitSeg := some aSeg }.sent = false ∧
    (mkPkt opSEG_DONE (niLoc 1) bnLoc 0 0 0 [9, 0, 0]).dst.port = 5 := by decide +kernel

theorem witness_router_clauses : portThere 0 0 = false ∧ portThere 1 3 = true ∧ portThere 24 5 = false ∧ portThere bnLoc.slot 5 = true ∧
    routed.admitted 1 3 aPkt = true ∧ routed.admitted 1 4 aPkt = true ∧ aHeld.entry = west ∧
    (routed.modRt 1 fun r => { r with held := [{ aHeld with out := 6 }] }).rt 1 = { routed.rt 1 with held := [{ aHeld with out := 6 }] } ∧
    (pk opDROP [1, 0x20, 1]).arg 1 = 0x20 ∧ (pk opDROP [1, 0x20, 1]).arg 2 = 1 ∧ (pk opDROP [1, 0x0E, 0]).arg 1 ∈ [0x03, 0x04, 0x0E, 0x20] ∧
    { pk opDROP [3, 0x10, 0] with dst := hpLoc 1 }.dst = hpLoc 1 := by decide +kernel

theorem witness_lost_clauses : (withTx up { aTx .read with lost := true }).findTx 0 7 = some { aTx .read with lost := true } ∧
    (aTx .read).lost = false ∧ (moving 1 (some 3) .credit).xfers.find? (fun y => y.ni == 0 && y.txn == 7 && (y.cr == 1 || y.cr == 2)) =
      some (anXfer 1 (some 3)) ∧ (anXfer 1 (some 3)).group ≠ none ∧ (anXfer 1 none).group = none := by decide +kernel

theorem witness_aperture_clauses : (pk opAP_WRITE [0, 0, 0, 0, 0, 0, 1] [1]).payBad = true ∧ (pk opAP_WRITE [0, 0, 0, 0, 0, 0, 0] [1]).payBad = false ∧
    (landingArea 0).owner 0 = (landingArea 0).fld NI_AP_CFG_TENANCY 0 ∧ (landingArea 0).tnState 0 = 1 ∧
    handled.xfers = [] ∧ (handled.eu .ni 0).parityArmed = false ∧ gradeB.tiles ≤ 2 ^ 11 - 1 := by decide +kernel

/-- An arming frame meets an unarmed consort, an arming one and an armed one. -/
theorem witness_consort_clauses : up.consort.arming = false ∧ up.fld FB_CONSORT_STATUS_ARMED = 0 ∧ armed.consort.arming = false ∧
    armed.fld FB_CONSORT_STATUS_ARMED = 1 ∧ (replaying.rng 9).ni = 1 ∧ bits (rec0 50 0x02 9) 23 16 = 0x02 ∧ bits (rec0 50 0x04 9 2) 23 16 = 0x04 ∧
    2 ^ replaying.ringSize 9 < (66 + 2 ^ 32 - (replaying.rng 9).head % 2 ^ 32) % 2 ^ 32 ∧
    ¬ 2 ^ replaying.ringSize 9 < (65 + 2 ^ 32 - (replaying.rng 9).head % 2 ^ 32) % 2 ^ 32 := by decide +kernel

/-- A unit of a region without its clock records nothing. -/
theorem witness_mute : ((up.modRg (regionOf 0) fun r => { r with absent := true }).mute .ni 0 4) = true ∧ up.mute .ni 0 4 = false := by decide +kernel

/-- The clock monitor of a region reports the loss of its clock; a memory port whose clock is lost reports nothing. -/
theorem witness_muteMonitor : ((up.modRg 0 fun r => { r with absent := true }).mute .rg 0 1) = false ∧ ((up.clockStop 36).mute .mp 0 2) = true := by decide +kernel

/-- A landing flit for link 2: its mark is that of the beat; the boundary of a pause lies behind it; one waits at its place. -/
def landed : State := inLink fun l => { l with mark := 5, landing := [(4 * 5 + 1, (5, 7, false))] }
/-- Clauses that this row's rules add: a partial that leaves its own router's reduction, an answer of a combining slot that comes in, a cancelled
credit request, a pause after the chart's end, and one at an NI that has given its status. -/
def slotFrom : State := { routed with net := [⟨.router 1 slotIn, aPkt⟩] }
theorem witness_fabric_clauses : (reducing sWait).ownPartial 0 aPart = some (aRed sWait) ∧ routed.ownPartial 1 aPkt = none ∧
    slotFrom.arrives 1 slotIn aPkt = true ∧ routed.arrives 1 slotIn aPkt = false ∧ routed.arrives 1 3 aPkt = true ∧
    (contrib (niLoc 0) 0).kind = opRED_DATA ∧
    ({ opened with cancelled := [(0, 7, false)] }).cancelled.find? (fun c => c.1 == 0 && c.2.1 == 7) = some (0, 7, false) ∧
    opened.cancelled.find? (fun c => c.1 == 0 && c.2.1 == 7) = none ∧ { aRun with sent := true }.status = 0 ∧ { aRun with sent := true, status := stABORTED }.status ≠ 0 ∧
    ((ended 2 true aPause).setCh 0 none).ch 0 = none ∧ (((ended 2 true aPause).setCh 0 none).rt 0).ended = some (9, 2, true) ∧
    (pk opPAUSE [9, 2, 0, 0]).arg 1 ≤ 2 ∧ 2 < (pk opPAUSE [9, 3, 0, 0]).arg 1 := by decide +kernel

def dropping : State := inLink fun l => { l with mark := 5, dropFrom := some 4 }

theorem witness_link_clauses : (landed.olk 2).landing ≠ [] ∧ (¬ ∀ e ∈ (landed.olk 2).landing, e.1 / 4 ≠ 5 % 128) ∧
    (dropping.olk 2).dropFrom = some 4 ∧ tagFrom 4 5 = true ∧ (landed.olk 2).dropFrom = none ∧ (linked.olk 2).rxHalf = false ∧ 0 = (linked.olk 2).rxPair ∧
    linked.carried 2 = true ∧ up.carried 2 = false ∧ adChip (2 ^ 38) = (gotReq (2 ^ 38)).chipId ∧ adChip (7 * 2 ^ 52) ≠ (gotReq (2 ^ 38)).chipId ∧
    (up.setFld FB_PLAN_STATUS_STATE 2).fld FB_PLAN_STATUS_STATE = 2 := by decide +kernel

/-- A port with a transaction suspended; the range of HBM that Stolrel uses mapped, and the interleave set to nothing. -/
theorem witness_port_clauses : (resumed.mpt 3).inputHeld = false ∧ (resumed.mpt 3).stuck = false ∧ (resumed.mpt 3).suspended = some (aMtx .read 7 0) ∧
    roomy.bnUp = true ∧ roomy.fbMap.ilv ≠ 0 ∧ min (0 % 64) (roomy.fld FB_HBM_ILV_CAP) = 0 ∧ roomy.bn.lost = false ∧
    min (24 % 64) (roomy.fld FB_HBM_ILV_CAP) ≠ 0 ∧ (scrubbing 1).tnState 0 = 4 ∧ (scrubbing 2).scrubs = [⟨0, true, 2, 3, true⟩] ∧
    beatSub up.time.c (snapping 0).snap.t < 2 ^ 59 ∧ ¬ beatSub up.time.c (snapping 1).snap.t < 2 ^ 59 ∧
    (up.modRg 35 fun r => { r with absent := true }).clockOff 35 = true := by decide +kernel

end Sys2Proof.Tests
end

/-! # Pair reads (R9): the proof of PairReadsLatchTheUpperHalf -/

namespace Sys2Proof.Machine

/-! ## The list of unspent latches -/

/-- The unspent latch that a requester has at an offset. -/
def latchAt (l : List (Nat × Nat × Nat)) (who off : Nat) : Option (Nat × Nat × Nat) :=
  l.find? (fun e => e.1 == who && e.2.1 == off)

/-- A requester's latch at an offset takes the place of its earlier ones there. -/
def latchPut (l : List (Nat × Nat × Nat)) (who off v : Nat) : List (Nat × Nat × Nat) :=
  l.filter (fun e => !(e.1 == who && e.2.1 == off)) ++ [(who, off, v)]

/-- None of the latches that `latchPut` keeps is at its key. -/
theorem latchAt_filter (l : List (Nat × Nat × Nat)) (who off : Nat) :
    latchAt (l.filter (fun e => !(e.1 == who && e.2.1 == off))) who off = none :=
  List.find?_eq_none.mpr fun _ he => by
    simpa only [Bool.not_eq_true, Bool.not_eq_true'] using List.of_mem_filter he

theorem latchAt_latchPut_same (l : List (Nat × Nat × Nat)) (who off v : Nat) :
    latchAt (latchPut l who off v) who off = some (who, off, v) := by
  have kept := latchAt_filter l who off
  unfold latchAt at kept
  simp only [latchAt, latchPut, List.find?_append, kept]
  simp

theorem latchAt_latchPut_ne (l : List (Nat × Nat × Nat)) {who off w o : Nat} (v : Nat) (h : (w, o) ≠ (who, off)) :
    latchAt (latchPut l who off v) w o = latchAt l w o := by
  have keeps : (l.filter (fun e => !(e.1 == who && e.2.1 == off))).find? (fun e => e.1 == w && e.2.1 == o) =
      l.find? (fun e => e.1 == w && e.2.1 == o) := by
    -- a latch at (w, o) is at another key than those that the filter drops
    rw [List.find?_filter]
    congr 1
    grind
  have new : [(who, off, v)].find? (fun e => e.1 == w && e.2.1 == o) = none := by grind
  simp only [latchAt, latchPut, List.find?_append, keeps, new, Option.or_none]

/-- An element behind a list without its like is the one that is removed. -/
theorem delFirst_append_singleton {α : Type} (p : α → Bool) (l : List α) (a : α) (h : ∀ x ∈ l, p x = false) (ha : p a = true) :
    delFirst p (l ++ [a]) = l := by
  induction l with
  | nil => simp [delFirst, ha]
  | cons x r ih =>
    have hx : p x = false := h x (by simp)
    have hr : delFirst p (r ++ [a]) = r := ih fun y hy => h y (by simp [hy])
    simp [delFirst, hx, hr]

/-- A latch serves one read: none of its key is left once it is removed. -/
theorem latchAt_delFirst_latchPut (l : List (Nat × Nat × Nat)) (who off v : Nat) :
    latchAt (delFirst (fun x => decide (x = (who, off, v))) (latchPut l who off v)) who off = none := by
  have kept := latchAt_filter l who off
  have other : ∀ x ∈ l.filter (fun e => !(e.1 == who && e.2.1 == off)), decide (x = (who, off, v)) = false := by
    intro x hx
    refine decide_eq_false fun e => List.find?_eq_none.mp kept x hx ?_
    simp [e]
  rw [latchPut, delFirst_append_singleton _ _ _ other (by simp), kept]

/-! ## A read of the time takes the chronometer's timestamp -/

@[simp] theorem State.stamped_regs (s : State) (d : Nat) : (s.stamped d).regs = s.regs := by
  unfold State.stamped
  split <;> rfl

@[simp] theorem State.stamped_latch (s : State) (d : Nat) : (s.stamped d).latch = s.latch := by
  unfold State.stamped
  split <;> rfl

/-- The chronometer that has just taken its timestamp takes the same one again. -/
theorem State.stampOf_stamped (s : State) : (s.stamped 62).stampOf 62 = s.stampOf 62 := by
  have kept : (s.stamped 62).stamp.get 62 0 = s.stampOf 62 := SMap.get_put_same _ _ _ _
  have acc : (s.stamped 62).accC 62 = s.accC 62 := rfl
  have fresh : (s.stamped 62).fresh = s.fresh := rfl
  unfold State.stampOf at kept ⊢
  rw [kept, acc, fresh, max_assoc, max_self]

theorem State.showCh_stamped (s : State) (r : RegDef) : (s.stamped 62).showCh r = s.showCh r := by
  unfold State.showCh
  rw [State.stampOf_stamped]
  rfl

theorem State.shown_stamped (s : State) (r : RegDef) (i k : Nat) : (s.stamped 62).shown r i k = s.shown r i k := by
  unfold State.shown
  rw [State.showCh_stamped]
  rfl

/-- No register reads otherwise for the chronometer's timestamp having been taken: CH_TIME shows the one that it would take. -/
@[simp] theorem State.readReg_stamped (s : State) (off : Nat) : (s.stamped 62).readReg off = s.readReg off := by
  unfold State.readReg State.live
  simp only [State.shown_stamped]
  rfl

/-! ## Reads of both halves -/

/-- A read of a NAME_LO (R9). -/
theorem State.readBy_lo (s : State) (who : Nat) {off : Nat} {r : RegDef} {i k : Nat} (hr : locate off = some (r, i, k))
    (hlo : r.isLo = true) :
    (s.readBy who off).1 = s.readReg off ∧ (s.readBy who off).2.regs = s.regs ∧
      (s.readBy who off).2.latch = latchPut s.latch who (off + 4) (s.readReg (off + 4)) := by
  unfold State.readBy
  by_cases h : off = CH_TIME_LO.addr 0 0
  · simp [hr, hlo, if_pos h, latchPut]
  · simp [hr, hlo, if_neg h, latchPut]

/-- A register that is no NAME_LO is not CH_TIME_LO. -/
theorem ne_addr_chTimeLo {off : Nat} {q : RegDef} {j m : Nat} (hq : locate off = some (q, j, m)) (hlo : q.isLo = false) :
    off ≠ CH_TIME_LO.addr 0 0 := by
  rintro rfl
  have time : locate (CH_TIME_LO.addr 0 0) = some (CH_TIME_LO, 0, 0) := by decide
  have isLo : CH_TIME_LO.isLo = true := by decide
  obtain rfl : CH_TIME_LO = q := by simpa using congrArg (Option.map Prod.fst) (time.symm.trans hq)
  simp [isLo] at hlo

/-- A read of another register by a requester with a latch there takes the latched value and spends it (R9). -/
theorem State.readBy_of_latched (s : State) {who off : Nat} {q : RegDef} {j m : Nat} {e : Nat × Nat × Nat}
    (hq : locate off = some (q, j, m)) (hlo : q.isLo = false) (he : latchAt s.latch who off = some e) :
    s.readBy who off = (e.2.2, { s with latch := delFirst (fun x => decide (x = e)) s.latch }) := by
  unfold latchAt at he
  simp [State.readBy, hq, hlo, he, if_neg (ne_addr_chTimeLo hq hlo)]

/-- A read of another register by a requester without a latch there returns its current value (R9). -/
theorem State.readBy_of_not_latched (s : State) {who off : Nat} {q : RegDef} {j m : Nat}
    (hq : locate off = some (q, j, m)) (hlo : q.isLo = false) (he : latchAt s.latch who off = none) :
    s.readBy who off = (s.readReg off, s) := by
  unfold latchAt at he
  simp [State.readBy, hq, hlo, he, if_neg (ne_addr_chTimeLo hq hlo)]

/-! ## PAIR_LO_READ -/

/-- PAIR_LO_READ with operands in range completes: it reads where a unit answers, and does nothing else. -/
theorem gives_pairLoRead (s : State) {who off : Nat} (hwho : who < 131) (hoff : off < 2 ^ 32) :
    Gives (.pairLoRead who off) s (if s.regAlive off then (s.readBy who off).2 else s) :=
  run_wf s _ (by simp only [Instr.wf, okW, hwho, hoff, decide_true, Bool.and_self])

/-- Settles O6: the list of latches after a NAME_LO read holds one latch of the requester's at NAME_HI, and its next read there removes it. -/
theorem pairReadsLatchTheUpperHalf : Obligations.PairReadsLatchTheUpperHalf := by
  unfold Obligations.PairReadsLatchTheUpperHalf
  refine ⟨fun s who off hwho hoff => ?_, fun s u who off r q i k j m hwho hoff alive hr hrlo hq hqlo => ?_⟩
  · have gives := gives_pairLoRead s hwho hoff
    exact ⟨fun alive => by simpa [alive] using gives, fun dead => by simpa [dead] using gives⟩
  · have gives := gives_pairLoRead s hwho hoff
    rw [if_pos alive] at gives
    obtain ⟨value, regs, latch⟩ := s.readBy_lo who hr hrlo
    refine ⟨_, gives, regs, value, fun w o other => ?_, fun same => ?_, fun unlatched => ?_⟩
    · show latchAt (s.readBy who off).2.latch w o = latchAt s.latch w o
      rw [latch, latchAt_latchPut_ne _ _ other]
    · have put : u.latch = latchPut s.latch who (off + 4) (s.readReg (off + 4)) := same.trans latch
      have first := u.readBy_of_latched hq hqlo (put ▸ latchAt_latchPut_same ..)
      have spent : latchAt (u.readBy who (off + 4)).2.latch who (off + 4) = none := by
        rw [first, put]
        exact latchAt_delFirst_latchPut ..
      exact ⟨congrArg Prod.fst first, congrArg Prod.fst (State.readBy_of_not_latched _ hq hqlo spent)⟩
    · exact congrArg Prod.fst (u.readBy_of_not_latched hq hqlo unlatched)

end Sys2Proof.Machine

/-! # The anchor hold (R27, R45): the proof of RegionsRequestTheAnchorHold -/

namespace Sys2Proof.Machine

/-! ## A region's hold request -/

/-- A region beyond the lag allowance, or without its clock, requests the hold (R45). -/
theorem Region.updHold_of_beyond {r : Region} (h : 3 < r.lag ∨ r.absent = true) : r.updHold = { r with holdReq := true } :=
  if_pos h

/-- A region that has caught up and has its clock releases the hold (R45). -/
theorem Region.updHold_of_caughtUp {r : Region} (hlag : r.lag = 0) (present : r.absent = false) :
    r.updHold = { r with holdReq := false } := by
  simp [Region.updHold, hlag, present]

/-- Behind, but within the lag allowance and with its clock, a region keeps the request that it has (R45). -/
theorem Region.updHold_of_within {r : Region} (behind : 0 < r.lag) (hlag : r.lag ≤ 3) (present : r.absent = false) :
    r.updHold = r := by
  simp [Region.updHold, present, hlag.not_gt, behind.ne']

/-- What a region's hold request can become: each case with its condition. -/
theorem Region.updHold_cases (r : Region) :
    ((3 < r.lag ∨ r.absent = true) ∧ r.updHold = { r with holdReq := true }) ∨
    (r.lag = 0 ∧ r.absent = false ∧ r.updHold = { r with holdReq := false }) ∨
    (0 < r.lag ∧ r.lag ≤ 3 ∧ r.absent = false ∧ r.updHold = r) := by
  by_cases beyond : 3 < r.lag ∨ r.absent = true
  · exact .inl ⟨beyond, Region.updHold_of_beyond beyond⟩
  · obtain ⟨hlag, present⟩ : r.lag ≤ 3 ∧ r.absent = false := by simpa using beyond
    obtain zero | behind := r.lag.eq_zero_or_pos
    · exact .inr (.inl ⟨zero, present, Region.updHold_of_caughtUp zero present⟩)
    · exact .inr (.inr ⟨behind, hlag, present, Region.updHold_of_within behind hlag present⟩)

/-- Apart from the request, the region stays as it was. -/
theorem Region.updHold_frame (r : Region) : { r.updHold with holdReq := r.holdReq } = r := by
  obtain ⟨-, e⟩ | ⟨-, -, e⟩ | ⟨-, -, -, e⟩ := r.updHold_cases <;> rw [e]

/-! ## The hold on the anchor line -/

/-- A region's request counts while the region is LOCKED and not at F3 (R27, R44). -/
theorem State.holdsLine_iff (s : State) (n : Nat) :
    s.holdsLine n = true ↔ (s.rg n).holdReq = true ∧ s.fld RG_ESC_CTRL_LOCKED n = 1 ∧ (s.rg n).f3 = false := by
  simp only [State.holdsLine, Bool.and_eq_true, Bool.not_eq_true', beq_iff_eq]
  rw [and_right_comm, and_assoc]

/-- The anchor hold is the OR of HOLD_FORCE and the regions' requests (R45). -/
theorem State.holdLine_iff (s : State) :
    s.holdLine = true ↔ s.fld CH_CTRL_HOLD_FORCE = 1 ∨ ∃ n, n < 36 ∧ s.holdsLine n = true := by
  simp only [State.holdLine, Bool.or_eq_true, beq_iff_eq, List.any_eq_true, List.mem_range]

/-- Settles O2: the cases of a region's request, and the anchor line as the OR of the requests that count. -/
theorem regionsRequestTheAnchorHold : Obligations.RegionsRequestTheAnchorHold := by
  unfold Obligations.RegionsRequestTheAnchorHold
  refine fun s r => ⟨fun beyond => ?_, fun requested behind => ?_, fun hlag present => ?_, fun hlag present released => ?_,
    r.updHold_frame, ?_⟩
  · rw [Region.updHold_of_beyond beyond]
  · obtain ⟨-, e⟩ | ⟨zero, present, -⟩ | ⟨-, -, -, e⟩ := r.updHold_cases
    · rw [e]
    · simp [zero, present] at behind
    · rw [e, requested]
  · rw [Region.updHold_of_caughtUp hlag present]
  · obtain ⟨beyond, -⟩ | ⟨-, -, e⟩ | ⟨-, -, -, e⟩ := r.updHold_cases
    · simp [hlag.not_gt, present] at beyond
    · rw [e]
    · rw [e, released]
  · simp only [s.holdLine_iff, s.holdsLine_iff]

end Sys2Proof.Machine

/-! # The block's step (95_what_each_step_holds.md): the proofs of StepRunsTheFrontCommandAndIdles and WellFormedCommandsComplete -/

namespace Sys2Proof.Machine

/-- The rows that R37 lets change C and H: a mark, a write of CH_CTRL, SYNC and the COLD and WARM resets. -/
def movesTime : Sys2Proof.Instr → Bool
  | .beatMark | .chRun _ | .chLoad _ | .holdForce _ | .sync _ _ _ | .coldReset _ _ _ _ _ | .warmReset => true
  | _ => false

/-- Every other row computes its next state in the frame that keeps C and H. -/
theorem exec_eq_run {c : Sys2Proof.Instr} (s : State) (h : movesTime c = false) : ∃ f, exec c s = run c s f := by
  cases c with
  | beatMark | chRun | chLoad | holdForce | sync | coldReset | warmReset => cases h
  | _ => dsimp only [exec]; exact ⟨_, rfl⟩

theorem exec_eq_runTime {c : Sys2Proof.Instr} (s : State) (h : movesTime c = true) : ∃ f, exec c s = runTime c s f := by
  cases c with
  | beatMark | chRun | chLoad | holdForce | sync | coldReset | warmReset => dsimp only [exec]; exact ⟨_, rfl⟩
  | _ => cases h

/-- Every command runs in one of the two frames. -/
theorem exec_runs (c : Sys2Proof.Instr) (s : State) : (∃ f, exec c s = run c s f) ∨ ∃ f, exec c s = runTime c s f := by
  cases h : movesTime c
  · exact .inl (exec_eq_run s h)
  · exact .inr (exec_eq_runTime s h)

/-- A well-formed command goes on, with the fuses and the queue as they are. -/
theorem exec_of_wf {c : Sys2Proof.Instr} (s : State) (h : c.wf = true) :
    ∃ t, exec c s = .next t ∧ t.fuse = s.fuse ∧ t.pending = s.pending ∧ t.fresh = s.fresh + 1 := by
  obtain ⟨f, e⟩ | ⟨f, e⟩ := exec_runs c s
  · exact ⟨_, e.trans (run_wf s f h), rfl, rfl, rfl⟩
  · exact ⟨_, e.trans (runTime_wf s f h), rfl, rfl, rfl⟩

theorem exec_of_malformed {c : Sys2Proof.Instr} (s : State) (h : c.wf = false) : exec c s = .fault .malformed := by
  obtain ⟨f, e⟩ | ⟨f, e⟩ := exec_runs c s
  · exact e.trans (run_malformed s f h)
  · exact e.trans (runTime_malformed s f h)

/-- A command that goes on has its operands in range. -/
theorem wf_of_exec_next {c : Sys2Proof.Instr} {s t : State} (h : exec c s = .next t) : c.wf = true := by
  by_contra bad
  rw [exec_of_malformed s (by simpa using bad)] at h
  cases h

/-- Settles O56: each command runs in one of two frames, which both go on exactly when the command is well formed. -/
theorem wellFormedCommandsComplete : Obligations.WellFormedCommandsComplete := by
  unfold Obligations.WellFormedCommandsComplete
  exact fun c s => ⟨exec_of_wf s, exec_of_malformed s⟩

/-- Settles O55: the step's equations, and that no command touches the queue's rest. -/
theorem stepRunsTheFrontCommandAndIdles : Obligations.StepRunsTheFrontCommandAndIdles := by
  unfold Obligations.StepRunsTheFrontCommandAndIdles
  refine ⟨fun c rest s => ⟨rfl, fun t h => ?_⟩, fun s nbits w => ⟨fun idle => by rw [step, idle], rfl, rfl⟩⟩
  obtain ⟨u, next, -, queue, -⟩ := exec_of_wf { s with pending := rest } (wf_of_exec_next h)
  obtain rfl : t = u := by simpa [h] using next
  exact queue

end Sys2Proof.Machine

/-! # Memories (01_architecture.md): the proofs of MemoriesKeepWhatIsWritten and ResetStartsInTheInvariants -/

namespace Sys2Proof.Machine

/-- Bytes that were written read back as they are. -/
theorem Memory.readN_writeN (m : Memory) (a : Nat) (d : List Nat) (h : m.wf = true) (bytes : ∀ b ∈ d, b < 256) :
    (m.writeN a d).readN a d.length = d := by
  refine List.ext_getElem (by simp [Memory.readN]) fun i hi hd => ?_
  simp only [Memory.readN, List.getElem_map, List.getElem_range]
  rw [m.read_writeN_same a d i h hd, List.getD_eq_getElem _ _ hd, Nat.mod_eq_of_lt (bytes _ (List.getElem_mem hd))]

/-- A byte of a zeroed range reads zero, and any other as before. -/
theorem Memory.read_zero (m : Memory) (lo hi a : Nat) : (m.zero lo hi).read a = if lo ≤ a ∧ a < hi then 0 else m.read a := by
  induction m with
  | nil => simp [Memory.zero, Memory.read]
  | cons c r ih =>
    obtain ⟨x, b⟩ := c
    simp only [Memory.zero] at ih
    simp only [Memory.zero, List.filter_cons]
    by_cases zeroed : lo ≤ x ∧ x < hi
    · simp only [zeroed, and_self, decide_true, Bool.not_true, Bool.false_eq_true, if_false, ih, Memory.read]
      by_cases same : x = a
      · simp [← same, zeroed]
      · simp [same]
    · simp only [zeroed, decide_false, Bool.not_false, if_true, Memory.read, ih]
      by_cases same : x = a
      · simp [← same, zeroed]
      · simp [same]

/-- Places of different slots, and different places of a slot, have different keys. -/
theorem spadKey_apart {n m ofs o len : Nat} (fits : ofs + len ≤ 2 ^ 21) (ho : o < 2 ^ 21) (h : m ≠ n ∨ o < ofs ∨ ofs + len ≤ o) :
    spadKey m o < spadKey n ofs ∨ spadKey n ofs + len ≤ spadKey m o := by
  unfold spadKey
  omega

/-- As `spadKey_apart`, for the stacks of memory ports. -/
theorem hbmKey_apart {p q a o len : Nat} (fits : a + len ≤ 2 ^ 36) (ho : o < 2 ^ 36) (h : q ≠ p ∨ o < a ∨ a + len ≤ o) :
    hbmKey q o < hbmKey p a ∨ hbmKey p a + len ≤ hbmKey q o := by
  unfold hbmKey
  omega

/-- Settles O60: reads after writes, and that keys of other places lie outside what is written. -/
theorem memoriesKeepWhatIsWritten : Obligations.MemoriesKeepWhatIsWritten := by
  unfold Obligations.MemoriesKeepWhatIsWritten
  intro s n ofs p a d ⟨spad, hbm, flash⟩ bytes inSlot inStack
  refine ⟨Memory.readN_writeN _ _ _ spad bytes, ⟨Memory.wf_writeN _ _ _ spad, hbm, flash⟩, rfl, rfl, rfl,
    fun m o ho apart => Memory.read_writeN_ne _ _ _ _ (spadKey_apart inSlot ho apart),
    Memory.readN_writeN _ _ _ hbm bytes, ⟨spad, Memory.wf_writeN _ _ _ hbm, flash⟩, rfl, rfl,
    fun q o ho apart => Memory.read_writeN_ne _ _ _ _ (hbmKey_apart inStack ho apart), Memory.wf_zero _ _ _ spad, fun o ho => ?_⟩
  rw [Memory.read_zero]
  exact if_congr (by unfold spadKey; omega) rfl rfl

/-- Settles O59: the state of reset, field by field; every register reads its reset value as none is stored. -/
theorem resetStartsInTheInvariants : Obligations.ResetStartsInTheInvariants := by
  unfold Obligations.ResetStartsInTheInvariants
  refine ⟨⟨by decide, by decide⟩, Memory.wf_reset, rfl, rfl, rfl, rfl, rfl, rfl, ?_, ?_, ?_, fun r i k => rfl⟩ <;> decide

end Sys2Proof.Machine

/-! # Time (R37, R58): what leaves C and H alone, and the proofs of OnlyMarksLoadsSyncAndResetsMoveTime and EveryStepKeepsTimeInRange -/

namespace Sys2Proof.Machine

section

variable (s : State)

/-- C and H are the same in two states. -/
def SameTime (s t : State) : Prop := t.time = s.time

/-- Not proved by `Iff.rfl`: a proof by `simp` with a step by computation does not discharge the hypothesis of `foldl_time`. -/
@[simp] theorem sameTime_iff {s t : State} : SameTime s t ↔ t.time = s.time := ⟨id, id⟩

theorem SameTime.trans {s t u : State} (h : SameTime s t) (k : SameTime t u) : SameTime s u := Eq.trans k h

/-- A fold of updates that leave C and H alone leaves them alone. -/
@[simp] theorem foldl_time {β : Type} {f : State → β → State} (h : ∀ s b, SameTime s (f s b)) (l : List β) (s : State) :
    (l.foldl f s).time = s.time := by
  induction l generalizing s with
  | nil => rfl
  | cons b l ih => exact (ih (f s b)).trans (h s b)

/-! ## Registers, timestamps and logbooks -/

@[simp] theorem State.modRg_time (n : Nat) (f : Region → Region) : (s.modRg n f).time = s.time := rfl
@[simp] theorem State.modBn_time (f : Stolrel → Stolrel) : (s.modBn f).time = s.time := rfl
@[simp] theorem State.resetRegs_time (p : RegDef → Nat → Bool) : (s.resetRegs p).time = s.time := rfl

@[simp] theorem State.stamped_time (d : Nat) : (s.stamped d).time = s.time := by
  simp only [State.stamped]
  split <;> rfl

@[simp] theorem State.log_time (k : UnitKind) (i code peerKind peer detail : Nat) :
    (s.log k i code peerKind peer detail).time = s.time := by
  simp only [State.log]
  split <;> simp

@[simp] theorem State.freezeLog_time (k : UnitKind) (i : Nat) : (s.freezeLog k i).time = s.time := by
  simp only [State.freezeLog]
  split <;> simp

@[simp] theorem State.freezeAll_time : s.freezeAll.time = s.time := by simp [State.freezeAll]

@[simp] theorem State.bnLog_time (ty kind unit : Nat) (data : List Nat) : (s.bnLog ty kind unit data).time = s.time := by
  simp only [State.bnLog]
  split
  · rfl
  · split <;> exact State.stamped_time _ _

/-! ## Regions at a mark and at a LOAD -/

@[simp] theorem State.countStep_time (step : Option Bool) : (s.countStep step).time = s.time := by
  rcases step with _ | _ | _ <;> rfl

@[simp] theorem State.acceptS_time (n : Nat) : (s.acceptS n).time = s.time := by
  simp only [State.acceptS]
  split
  · rfl
  · split <;> rfl

@[simp] theorem State.stopDone_time : s.stopDone.time = s.time := by
  simp only [State.stopDone]
  split
  · rfl
  · split <;> simp

@[simp] theorem State.freezeCheck_time (n : Nat) : (s.freezeCheck n).time = s.time := by
  simp only [State.freezeCheck]
  split <;> simp

@[simp] theorem State.endStall_time (n : Nat) : (s.endStall n).time = s.time := by
  simp only [State.endStall]
  split <;> simp

/-! ## A register write on its way to its unit -/

/-- Serving a register's write touches packets in flight and Stolrel's mirror (R294, R462). -/
theorem State.serveWrite_frame (off v : Nat) : ∃ net bn, s.serveWrite off v = { s with net := net, bn := bn } := by
  have mirror (s : State) : ∃ bn, s.mirrorWrite off v = { s with bn := bn } := by
    simp only [State.mirrorWrite]
    split
    · split
      · exact ⟨_, rfl⟩
      · exact ⟨s.bn, rfl⟩
    · exact ⟨s.bn, rfl⟩
  simp only [State.serveWrite]
  split
  · obtain ⟨bn, e⟩ := mirror s
    exact ⟨s.net, bn, e⟩
  · split
    · obtain ⟨bn, e⟩ := mirror _
      exact ⟨_, bn, e⟩
    · exact ⟨_, s.bn, rfl⟩

/-- The unit of CH_CTRL always answers. -/
theorem State.regAlive_chCtrl : s.regAlive chCtrlOff = true := rfl

/-! ## The rows that move time -/

/-- C and H at a mark. -/
theorem State.mark_time : s.mark.time =
    let held := s.chr.holdSample || decide (s.chr.stopSeen ≠ 0 ∧ s.chr.stopBeat + 2 ≤ s.S)
    let st := markSteps s.chr.syncStep held
    ⟨(s.time.c + st.1) % beatMod, (s.time.h + st.2) % beatMod⟩ := by
  simp only [State.mark]
  refine (foldl_time (fun _ _ => State.freezeCheck_time ..) _ _).trans ((foldl_time (fun _ _ => State.acceptS_time ..) _ _).trans ?_)
  split <;> simp

/-- A LOAD (R38). -/
theorem State.loadC_time : s.loadC.time = ⟨s.pair CH_LOAD_LO CH_LOAD_HI % beatMod, 0⟩ := by
  simp only [State.loadC]
  exact foldl_time (fun _ _ => by simp) _ _

/-- The loaded value stands in registers of its own. -/
theorem State.pair_load_setFld (f : Fld) (v : Nat) (h : f.reg = CH_CTRL) :
    (s.setFld f v).pair CH_LOAD_LO CH_LOAD_HI = s.pair CH_LOAD_LO CH_LOAD_HI := by
  have lo : CH_LOAD_LO.addr 0 0 ≠ f.reg.addr 0 0 := by rw [h]; decide
  have hi : CH_LOAD_HI.addr 0 0 ≠ f.reg.addr 0 0 := by rw [h]; decide
  unfold State.pair
  rw [s.rd_setFld_ne f _ v 0 0 0 0 lo, s.rd_setFld_ne f _ v 0 0 0 0 hi]

/-- A write of CH_CTRL moves time exactly when it has LOAD and leaves RUN 0 (R38). -/
theorem State.chCtrl_time (v : Nat) : (s.chCtrl v).time =
    if bit v 1 = true ∧ bit v 0 = false then ⟨s.pair CH_LOAD_LO CH_LOAD_HI % beatMod, 0⟩ else s.time := by
  have loaded : ((s.setFld CH_CTRL_RUN (bits v 0 0)).setFld CH_CTRL_HOLD_FORCE (bits v 2 2)).pair CH_LOAD_LO CH_LOAD_HI =
      s.pair CH_LOAD_LO CH_LOAD_HI := by
    rw [State.pair_load_setFld _ CH_CTRL_HOLD_FORCE _ rfl, State.pair_load_setFld _ CH_CTRL_RUN _ rfl]
  unfold State.chCtrl
  cases load : bit v 1 <;> cases run : bit v 0
  · rfl
  · rfl
  · simp only [Bool.false_eq_true, and_false, and_self, if_false, if_true]
    refine (State.loadC_time _).trans ?_
    exact congrArg (fun c => (⟨c % beatMod, 0⟩ : Chrono)) loaded
  · rfl

theorem State.stamped_plan (d : Nat) : (s.stamped d).plan = s.plan := by
  simp only [State.stamped]
  split <;> rfl

/-- A SYNC moves time only as a LOAD that Stolrel makes, at the first SYNC of a plan (R329). -/
theorem State.syncIn_time (n c ofs : Nat) :
    (s.syncIn n c ofs).time = s.time ∨
      s.plan.synced = false ∧ ∃ t, (s.syncIn n c ofs).time = ⟨t % beatMod, 0⟩ := by
  have load (u : State) : ∃ t, (u.syncLoad n c ofs).time = ⟨t % beatMod, 0⟩ :=
    ⟨_, (State.setFld_time ..).trans (State.loadC_time _)⟩
  unfold State.syncIn
  split
  · exact .inl rfl
  · extract_lets th s₁ chr₁ s₂ pl₁ s₃ s₄ first pl₂ s₅ s₆ s₇ step chr₂
    have kept : SameTime s s₅ := State.stamped_time ..
    split
    · next h =>
      have first : (!s₄.plan.synced && s₄.bnUp) = true := h.1
      have unsynced : s₄.plan.synced = false := by simp_all
      obtain ⟨t, e⟩ := load s₅
      have plan : s₄.plan.synced = s₁.plan.synced := rfl
      have stamped : s₁.plan.synced = s.plan.synced := congrArg Plan.synced (s.stamped_plan _)
      rw [← stamped, ← plan]
      dsimp only
      exact .inr ⟨unsynced, t, e⟩
    · dsimp only
      exact .inl kept

/-! ## Resets -/

@[simp] theorem State.bringUp_time : s.bringUp.time = s.time := by
  show SameTime s _
  unfold State.bringUp
  extract_lets s₁
  have powered : SameTime s s₁ := foldl_time (fun _ _ => State.modRg_time ..) _ _
  clear_value s₁
  exact powered

theorem State.warmReset_time : s.warmReset.time = ⟨0, 0⟩ := by
  simp only [State.warmReset]
  split
  · exact State.bringUp_time _
  · rfl

/-- Without an armed injection a check finds nothing (R301). -/
theorem State.injCheck_of_unarmed {s : State} {k : UnitKind} {i : Nat} (srcs : List Nat) (h : s.fld (xx_ERR_INJECT_ARM k) i = 0) :
    s.injCheck k i srcs = (none, s) := if_pos h

@[simp] theorem State.sendMsg_time (p : Pkt) : (s.sendMsg p).time = s.time := by
  simp only [State.sendMsg]
  split
  · split <;> rfl
  · rfl

@[simp] theorem State.sendPending_time : s.sendPending.time = s.time := by
  unfold State.sendPending
  refine foldl_time (fun s e => ?_) _ _
  split <;> simp

@[simp] theorem State.recovery_time (cause flash : Nat) : (s.recovery cause flash).time = s.time := by
  simp only [State.recovery]
  split <;> simp

/-- The ROM's boot, where no injection waits. -/
theorem State.romBoot_time (flash : Nat) (h : s.fld (xx_ERR_INJECT_ARM .bn) = 0) : (s.romBoot flash).1.time = s.time := by
  show SameTime s _
  unfold State.romBoot
  extract_lets inj s₁ last s₂ img cause s₃ v s₄ s₅
  have clean : inj = (none, s) := State.injCheck_of_unarmed _ h
  have same : s₁ = s := congrArg Prod.snd clean
  clear_value s₁
  split
  · next src hit => simp [clean] at hit
  · subst same
    split
    · exact State.recovery_time ..
    · exact (State.bnLog_time ..).trans (State.sendPending_time _)

/-- Where no register is stored, a field reads its reset value. -/
theorem State.fld_of_regs_nil {s : State} (h : s.regs = []) (f : Fld) (i k : Nat) :
    s.fld f i k = bits (BitVec.ofNat 32 f.reg.resetVal).toNat f.hi f.lo := by
  unfold State.fld State.rd
  rw [h]
  rfl

theorem State.coldReset_time (chip sel : Nat) (unstable anchor : Bool) (flash : Nat) :
    (s.coldReset chip sel unstable anchor flash).time = ⟨0, 0⟩ := by
  unfold State.coldReset
  extract_lets old s₁ s₂ s₃ s₄ s₅ r s₆
  have elsewhere (u : State) (f : Fld) (v : Nat) (h : (xx_ERR_INJECT .bn).addr 0 0 ≠ f.reg.addr 0 0) :
      (u.setFld f v).fld (xx_ERR_INJECT_ARM .bn) = u.fld (xx_ERR_INJECT_ARM .bn) := u.fld_setFld_ne _ _ _ _ _ _ _ h
  have strapped : SameTime s₁ s₄ ∧ s₄.fld (xx_ERR_INJECT_ARM .bn) = 0 := by
    have fresh : s₃.fld (xx_ERR_INJECT_ARM .bn) = 0 := by
      unfold s₃ s₂
      rw [elsewhere _ _ _ (by decide), elsewhere _ _ _ (by decide), elsewhere _ _ _ (by decide)]
      exact (State.fld_of_regs_nil (s := s₁) rfl _ _ _).trans (by decide)
    unfold s₄
    split
    · exact ⟨rfl, (elsewhere _ _ _ (by decide)).trans fresh⟩
    · exact ⟨rfl, fresh⟩
  have start : s₁.time = ⟨0, 0⟩ := rfl
  have begun : SameTime s₄ s₅ := rfl
  have unarmed : s₅.fld (xx_ERR_INJECT_ARM .bn) = 0 := (elsewhere _ _ _ (by decide)).trans strapped.2
  have rom : SameTime s₅ r.1 := s₅.romBoot_time flash unarmed
  clear_value s₁ s₄ s₅ r
  have booted : SameTime s₅ s₆ := by
    unfold s₆
    split
    · exact rom.trans r.1.bringUp_time
    · exact rom
  have done : s₆.time = ⟨0, 0⟩ := Eq.trans (strapped.1.trans (begun.trans booted)) start
  clear_value s₆
  split
  · exact (State.bnLog_time ..).trans done
  · exact done

end

/-! ## What one command does to C and H -/

/-- What a command can make of C and H, with the condition under which it does (R37). -/
inductive TimeMove (s : State) : Sys2Proof.Instr → Chrono → Prop
  | kept (c) : TimeMove s c s.time
  | mark (step held) (run : s.fld CH_CTRL_RUN = 1) :
      TimeMove s .beatMark ⟨(s.time.c + (markSteps step held).1) % beatMod, (s.time.h + (markSteps step held).2) % beatMod⟩
  | load (c v) (write : c = .chRun v ∨ c = .chLoad v ∨ c = .holdForce v) (load : bit v 1 = true ∧ bit v 0 = false) :
      TimeMove s c ⟨s.pair CH_LOAD_LO CH_LOAD_HI % beatMod, 0⟩
  | sync (n x ofs time) (first : s.plan.synced = false) : TimeMove s (.sync n x ofs) ⟨time % beatMod, 0⟩
  | reset (c) (reset : c = .warmReset ∨ ∃ a b u k f, c = .coldReset a b u k f) : TimeMove s c ⟨0, 0⟩

/-- A write of CH_CTRL, whatever row makes it. -/
theorem timeMove_regWrite (s : State) {c : Sys2Proof.Instr} {v : Nat} (write : c = .chRun v ∨ c = .chLoad v ∨ c = .holdForce v) :
    TimeMove s c (s.regWrite chCtrlOff v (fun s => s.chCtrl v)).time := by
  obtain ⟨net, bn, served⟩ := s.serveWrite_frame chCtrlOff v
  rw [State.regWrite, State.regAlive_chCtrl, if_pos rfl, served, State.chCtrl_time]
  split
  · next load => exact .load c v write load
  · exact .kept c

/-- Every command's effect on C and H is one of the moves of R37. -/
theorem exec_timeMove {c : Sys2Proof.Instr} {s t : State} (h : exec c s = .next t) : TimeMove s c t.time := by
  by_cases moves : movesTime c = false
  · obtain ⟨f, e⟩ := exec_eq_run s moves
    obtain ⟨-, rfl⟩ := run_next (e.symm.trans h)
    exact .kept c
  cases c with
  | beatMark =>
    rw [exec_beatMark, execBeatMark] at h
    obtain ⟨-, rfl⟩ := runTime_next h
    dsimp only [State.afterTime]
    split
    · next run =>
      rw [State.mark_time]
      exact .mark _ _ run
    · exact .kept _
  | chRun v | chLoad v | holdForce v =>
    simp only [exec_chRun, execChRun, exec_chLoad, execChLoad, exec_holdForce, execHoldForce] at h
    obtain ⟨-, rfl⟩ := runTime_next h
    exact timeMove_regWrite s (by simp)
  | sync n x ofs =>
    rw [exec_sync, execSync] at h
    obtain ⟨-, rfl⟩ := runTime_next h
    dsimp only [State.afterTime]
    split
    · obtain kept | ⟨first, time, e⟩ := s.syncIn_time n x ofs
      · rw [kept]
        exact .kept _
      · rw [e]
        exact .sync n x ofs time first
    · exact .kept _
  | coldReset a b u k f =>
    rw [exec_coldReset, execColdReset] at h
    obtain ⟨-, rfl⟩ := runTime_next h
    dsimp only [State.afterTime]
    rw [State.coldReset_time]
    exact .reset _ (.inr ⟨a, b, u, k, f, rfl⟩)
  | warmReset =>
    rw [exec_warmReset, execWarmReset] at h
    obtain ⟨-, rfl⟩ := runTime_next h
    dsimp only [State.afterTime]
    rw [State.warmReset_time]
    exact .reset _ (.inl rfl)
  | _ => exact absurd rfl moves

/-- A step is idle, or a command's effect. -/
theorem step_timeMove {s t : State} (h : step s = .next t) : t.time = s.time ∨ ∃ c rest, s.pending = c :: rest ∧ TimeMove s c t.time := by
  cases queue : s.pending with
  | nil =>
    rw [step, queue] at h
    cases h
    exact .inl rfl
  | cons c rest =>
    rw [step, queue] at h
    have move := exec_timeMove h
    refine .inr ⟨c, rest, rfl, ?_⟩
    generalize t.time = time at move
    cases move with
    | kept => exact .kept c
    | mark step held run => exact .mark step held run
    | load _ v write load => exact .load c v write load
    | sync n x ofs time first => exact .sync n x ofs time first
    | reset _ reset => exact .reset c reset

/-- Settles O58: every move leaves C and H below 2^60. -/
theorem everyStepKeepsTimeInRange : Obligations.EveryStepKeepsTimeInRange := by
  unfold Obligations.EveryStepKeepsTimeInRange
  intro s t inRange h
  have wraps (x : Nat) : x % beatMod < beatMod := Nat.mod_lt _ (by decide)
  have zero : 0 < beatMod := by decide
  unfold State.TimeInRange at *
  obtain kept | ⟨c, rest, -, move⟩ := step_timeMove h
  · rwa [kept]
  · generalize t.time = time at move
    cases move with
    | kept => exact inRange
    | mark => exact ⟨wraps _, wraps _⟩
    | load => exact ⟨wraps _, zero⟩
    | sync => exact ⟨wraps _, zero⟩
    | reset => exact ⟨zero, zero⟩

/-- LOAD with RUN 0 stands in the two low bits of CH_CTRL. -/
theorem mod_four_of_load {v : Nat} (h : bit v 1 = true ∧ bit v 0 = false) : v % 4 = 2 := by
  obtain ⟨load, run⟩ := h
  simp only [bit, Nat.testBit_eq_decide_div_mod_eq, decide_eq_true_eq, decide_eq_false_iff_not] at load run
  omega

/-- A mark moves C and H by two beats at most (R329). -/
theorem markSteps_le (step : Option Bool) (held : Bool) : (markSteps step held).1 ≤ 2 ∧ (markSteps step held).2 ≤ 2 := by
  rcases step with _ | _ | _ <;> cases held <;> decide

/-- A number of 60 bits that moves by two at most. -/
theorem add_mod_cases {x n : Nat} (hx : x < beatMod) (hn : n ≤ 2) :
    (x + n) % beatMod = x ∨ (x + n) % beatMod = (x + 1) % 2 ^ 60 ∨ (x + n) % beatMod = (x + 2) % 2 ^ 60 := by
  obtain rfl | rfl | rfl : n = 0 ∨ n = 1 ∨ n = 2 := by omega
  · exact .inl (Nat.mod_eq_of_lt hx)
  · exact .inr (.inl rfl)
  · exact .inr (.inr rfl)

/-- Settles O57: a step is one of the moves of R37, each with its condition. -/
theorem onlyMarksLoadsSyncAndResetsMoveTime : Obligations.OnlyMarksLoadsSyncAndResetsMoveTime := by
  unfold Obligations.OnlyMarksLoadsSyncAndResetsMoveTime
  intro s t h ⟨cRange, hRange⟩
  obtain kept | ⟨c, rest, queue, move⟩ := step_timeMove h
  · exact .inl kept
  generalize t.time = time at move
  cases move with
  | kept => exact .inl rfl
  | mark step held run =>
    refine .inr ⟨_, rest, queue, .inl ⟨rfl, run, ?_⟩⟩
    obtain ⟨c, h⟩ := markSteps_le step held
    exact ⟨add_mod_cases cRange c, add_mod_cases hRange h⟩
  | load _ v write load => exact .inr ⟨c, rest, queue, .inr (.inl ⟨⟨v, write, mod_four_of_load load⟩, rfl, rfl⟩)⟩
  | sync n x ofs time first => exact .inr ⟨_, rest, queue, .inr (.inr (.inl ⟨⟨n, x, ofs, rfl⟩, first, rfl⟩))⟩
  | reset _ reset => exact .inr ⟨c, rest, queue, .inr (.inr (.inr ⟨reset, rfl⟩))⟩

end Sys2Proof.Machine

/-! # A command's own effect: how `Gives` and `Does` follow from what a meaning computes -/

namespace Sys2Proof.Machine

/-- A command whose operands are in range gives the state that its meaning computes. -/
theorem Gives.of_run {c : Sys2Proof.Instr} {s t : State} {f : State → State} (e : exec c s = run c s f) (wf : c.wf = true)
    (h : f s = t) : Gives c s t := by
  rw [Gives, e, run_wf s f wf, h]

theorem GivesTime.of_runTime {c : Sys2Proof.Instr} {s t : State} {f : State → State} (e : exec c s = runTime c s f)
    (wf : c.wf = true) (h : f s = t) : GivesTime c s t := by
  rw [GivesTime, e, runTime_wf s f wf, h]

/-- A command whose operands are in range completes, and a property of its next state is one of what its meaning computes. -/
theorem Does.of_run {c : Sys2Proof.Instr} {s : State} {p : State → Prop} {f : State → State} (e : exec c s = run c s f)
    (wf : c.wf = true) (h : p (s.after (f s))) : Does c s p :=
  ⟨_, e.trans (run_wf s f wf), h⟩

theorem Does.of_runTime {c : Sys2Proof.Instr} {s : State} {p : State → Prop} {f : State → State} (e : exec c s = runTime c s f)
    (wf : c.wf = true) (h : p (s.afterTime (f s))) : Does c s p :=
  ⟨_, e.trans (runTime_wf s f wf), h⟩

theorem Gives.congr {c : Sys2Proof.Instr} {s t u : State} (g : Gives c s t) (h : t = u) : Gives c s u := h ▸ g

/-- What a command gives has a property. -/
theorem Gives.does {c : Sys2Proof.Instr} {s t : State} {p : State → Prop} (g : Gives c s t) (h : p (s.after t)) : Does c s p :=
  ⟨_, g, h⟩

/-! ## Pairs of registers -/

/-- As `State.regs_wr_ne`, for a pair. -/
theorem State.regs_setPair_ne (s : State) (lo hi : RegDef) (v i k off : Nat) (d : W32) (h : ¬ (off = lo.addr i k ∨ off = hi.addr i k)) :
    (s.setPair lo hi v i k).regs.get off d = s.regs.get off d := by
  obtain ⟨hlo, hhi⟩ := not_or.mp h
  rw [State.setPair, State.regs_wr_ne _ _ _ _ _ _ _ hhi, State.regs_wr_ne _ _ _ _ _ _ _ hlo]

theorem State.regs_addPair_ne (s : State) (lo hi : RegDef) (v i k off : Nat) (d : W32) (h : ¬ (off = lo.addr i k ∨ off = hi.addr i k)) :
    (s.addPair lo hi v i k).regs.get off d = s.regs.get off d := s.regs_setPair_ne _ _ _ _ _ _ _ h

/-! ## Operands -/

theorem okPkt_txn {p : Pkt} (ok : okPkt p = true) : p.txn < 4096 := by
  simp only [okPkt, Bool.and_eq_true, decide_eq_true_eq] at ok
  omega

/-! ## Deliveries -/

section

variable {s : State} {n : Nat} {p : Pkt}

/-- A delivery to an NI in service that is not frozen. -/
theorem State.atNi_of_up (f : State → State) (thawed : s.frozenAt n = false) (up : s.niUp n = true) :
    s.atNi n p f = f (s.takeNet (.unit (niLoc n)) p) := by
  have still : (s.takeNet (.unit (niLoc n)) p).niUp n = true := up
  simp only [State.atNi, thawed, still, Bool.false_eq_true, if_false, if_true]

theorem niLoc_port (n : Nat) : (niLoc n).port = 0 := rfl

theorem niLoc_slot (n : Nat) : (niLoc n).slot = n := by
  simp only [Loc.slot, niLoc]
  omega

/-- No attachment hangs on an NI's port. -/
theorem attachOf_niLoc (n : Nat) : attachOf (niLoc n) = none := rfl

end

/-! ## Lists -/

/-- An update of the first match that leaves it a match is what `find?` returns. -/
theorem find?_updFirst {α : Type} {p : α → Bool} {f : α → α} {l : List α} {a : α} (found : l.find? p = some a) (still : p (f a) = true) :
    (updFirst p f l).find? p = some (f a) := by
  induction l with
  | nil => simp at found
  | cons b l ih =>
    by_cases hb : p b = true
    · obtain rfl : b = a := by simpa [hb] using found
      simp [updFirst, hb, still]
    · rw [updFirst, if_neg hb, List.find?_cons_of_neg hb]
      exact ih (by rwa [List.find?_cons_of_neg hb] at found)

/-- The first match of a weaker test is the first of a stronger one that takes it. -/
theorem find?_of_stronger {α : Type} {p q : α → Bool} {l : List α} {a : α} (found : l.find? p = some a) (h : ∀ x, q x = true → p x = true)
    (ha : q a = true) : l.find? q = some a := by
  obtain ⟨-, before, after, rfl, none⟩ := List.find?_eq_some_iff_append.mp found
  refine List.find?_eq_some_iff_append.mpr ⟨ha, before, after, rfl, fun x hx => ?_⟩
  have fails := none x hx
  cases hq : q x
  · rfl
  · simp [h x hq] at fails

/-! ## Descriptors -/

section

variable {s : State} {n id op : Nat} {d : Desc}

/-- A descriptor that has started runs. -/
theorem State.onDesc_of_started (f : Desc → State → State) (started : s.Started n id op d) : s.onDesc n id op f = f d s := by
  obtain ⟨up, thawed, desc, ni, phase, opcode⟩ := started
  have found : s.descs.find? (fun x => x.id == id && x.ni == n && x.phase == 1 && x.opcode == op) = some d := by
    have same := List.find?_some desc
    exact find?_of_stronger desc (fun x hx => by simp only [Bool.and_eq_true] at hx; exact hx.1.1.1) (by simp_all)
  simp only [State.onDesc, up, thawed, Bool.true_eq_false, Bool.false_eq_true, or_self, if_false, found]

/-- The command of a started descriptor does what its opcode does. -/
theorem gives_onDesc {c : Sys2Proof.Instr} {t : State} (f : Desc → State → State) (e : exec c s = run c s (fun s => s.onDesc n id op f))
    (wf : c.wf = true) (started : s.Started n id op d) (h : f d s = t) : Gives c s t :=
  Gives.of_run e wf ((State.onDesc_of_started f started).trans h)

end

/-! ## Injections -/

/-- Where no injection is armed, none raises an event (R301). -/
theorem State.injEvent_of_unarmed {s : State} {k : UnitKind} {i : Nat} (detail : Nat) (srcs : List Nat)
    (unarmed : s.fld (xx_ERR_INJECT_ARM k) i = 0) : s.injEvent k i detail srcs = s := by
  rw [State.injEvent, State.injCheck_of_unarmed _ unarmed]

end Sys2Proof.Machine

/-! # Writes (R125, R138, R146, R152, R156 to R158): the proof of WritesAreJudgedByEpochAndLedger -/

namespace Sys2Proof.Machine

section

variable {s : State} {n port : Nat} {p : Pkt}

/-! ## The judgement of a write -/

/-- The judgement reads registers, windows and the ledger, not packets in flight. -/
theorem State.judgeWrite_takeNet (s : State) (pl : Place) (q : Pkt) (n : Nat) (p : Pkt) (mc : Bool) :
    (s.takeNet pl q).judgeWrite n p mc = s.judgeWrite n p mc := rfl

/-- The ledger entry that a write spends is of its window. -/
theorem State.judgeWrite_handle {mc : Bool} {l : LedgerE} {st : Nat} (h : s.judgeWrite n p mc = (st, some l)) :
    l.handle = adHandle (p.arg 1) := by
  simp only [State.judgeWrite] at h
  split at h
  · cases h
  · split at h
    · cases h
    · split at h
      · next e found =>
        obtain ⟨-, rfl⟩ : _ ∧ e = l := by simpa using h
        have spent := List.find?_some found
        simp only [Bool.and_eq_true, beq_iff_eq] at spent
        exact spent.1.1.2
      · cases h

theorem State.judgeWrite_of_denied {st : Nat} (mc : Bool)
    (h : s.check125 n (adHandle (p.arg 1)) p.ten (adOfs (p.arg 1)) p.data.length (decide (p.arg 5 = 0)) = some st) :
    s.judgeWrite n p mc = (st, none) := by
  simp only [State.judgeWrite, h]

theorem State.judgeWrite_of_closed
    (h : s.check125 n (adHandle (p.arg 1)) p.ten (adOfs (p.arg 1)) p.data.length (decide (p.arg 5 = 0)) = none)
    (closed : (s.window n (adHandle (p.arg 1))).state = 0 ∨ p.arg 2 ≠ (s.window n (adHandle (p.arg 1))).epoch) :
    s.judgeWrite n p false = (stWINDOW_CLOSED, none) := by
  simp only [State.judgeWrite, h]
  exact if_pos (closed.imp id fun stale => ⟨trivial, stale⟩)

theorem State.judgeWrite_of_no_credit
    (h : s.check125 n (adHandle (p.arg 1)) p.ten (adOfs (p.arg 1)) p.data.length (decide (p.arg 5 = 0)) = none)
    (opened : (s.window n (adHandle (p.arg 1))).state ≠ 0) (current : p.arg 2 = (s.window n (adHandle (p.arg 1))).epoch)
    (poor : ∀ e ∈ s.ledger, e.ni ≠ n ∨ e.src ≠ p.src ∨ e.txn ≠ p.txn ∨ e.handle ≠ adHandle (p.arg 1) ∨
      e.epoch ≠ (s.window n (adHandle (p.arg 1))).epoch ∨ e.remaining < cost p.data.length) :
    s.judgeWrite n p false = (stNO_CREDIT, none) := by
  have missing : s.ledger.find? (fun l => l.ni == n && decide (l.src = p.src) && l.txn == p.txn && l.handle == adHandle (p.arg 1) &&
      l.epoch == (s.window n (adHandle (p.arg 1))).epoch && decide (cost p.data.length ≤ l.remaining)) = none := by
    refine List.find?_eq_none.mpr fun e he fits => ?_
    simp only [Bool.and_eq_true, beq_iff_eq, decide_eq_true_eq] at fits
    obtain ⟨⟨⟨⟨⟨ni, src⟩, txn⟩, handle⟩, epoch⟩, enough⟩ := fits
    have := poor e he
    simp only [ni, src, txn, handle, epoch, ne_eq, not_true_eq_false, false_or] at this
    omega
  simp only [State.judgeWrite, h, missing, current, opened, ne_eq, not_true_eq_false, and_false, or_self, if_false]

/-! ## An accepted write -/

theorem State.windowUsed_of_quiet {h : Nat} (k writer : Nat) (quiet : (s.window n h).notify = 0) : s.windowUsed n h k writer = s :=
  if_pos quiet

theorem State.window_setWin_same (s : State) (n h : Nat) (w : Window) : (s.setWin n h w).window n h = w := SMap.get_put_same ..

/-- A ledger entry that a packet leaves open goes down by its cost. -/
theorem State.lowerLedger_of_left {l : LedgerE} {k : Nat} (left : k < l.remaining) :
    s.lowerLedger l k =
      { s with ledger := updFirst (fun x => decide (x = l)) (fun x => { x with remaining := x.remaining - k }) s.ledger } :=
  if_neg (by omega)

/-- An accepted write without a completion signal, that leaves its ledger entry open. -/
theorem State.acceptWrite_of_left {l : LedgerE} (left : cost p.data.length < l.remaining)
    (quiet : (s.window n l.handle).notify = 0) :
    s.acceptWrite n p l =
      let t := ((s.spadWrite n ((s.hdlRange n l.handle).1 + adOfs (p.arg 1)) p.data).addPair NI_OPEN_RX_LO NI_OPEN_RX_HI
        p.data.length n).setWin n l.handle { s.window n l.handle with
          granted := (s.window n l.handle).granted - cost p.data.length
          used := (s.window n l.handle).used + cost p.data.length }
      { t with ledger := updFirst (fun x => decide (x = l)) (fun x => { x with remaining := x.remaining - cost p.data.length }) t.ledger } := by
  have rich : ¬ l.remaining ≤ cost p.data.length := by omega
  simp only [State.acceptWrite, State.useLedger, rich, if_false]
  refine (State.windowUsed_of_quiet _ _ ?_).trans (State.lowerLedger_of_left left)
  rw [State.lowerLedger_of_left left]
  exact (congrArg Window.notify (State.window_setWin_same ..)).trans quiet

end

/-! ## What the rows do -/

section

variable {s : State} {n : Nat} {p : Pkt}

/-- A write packet that reaches an NI in service (R125, R138). -/
theorem gives_write_atNi (ue : Bool) (ok : okPkt p = true) (tile : n < 2304) (thawed : s.frozenAt n = false) (up : s.niUp n = true)
    (kind : p.kind = opWRITE) (dst : p.dst = niLoc n) : Gives (.write n p ue) s ((s.takeNet (.unit (niLoc n)) p).writeAtNi n p ue) := by
  refine Gives.of_run (exec_write n p ue s) ok ?_
  simp only [kind, dst, attachOf_niLoc, niLoc_port, niLoc_slot, tile, ne_eq, not_true_eq_false, if_false, and_self, if_true]
  exact State.atNi_of_up _ thawed up

theorem State.writeAtNi_of_refused {st : Nat} (ue : Bool) (judged : s.judgeWrite n p false = (st, none)) :
    s.writeAtNi n p ue = (s.writeCause n st).answer p (niLoc n) opWRITE_ACK [st, p.arg 0, 0] := by
  simp only [State.writeAtNi, judged]

theorem State.writeAtNi_of_accepted {l : LedgerE} (judged : s.judgeWrite n p false = (stOK, some l)) :
    s.writeAtNi n p false = (s.acceptWrite n p l).answer p (niLoc n) opWRITE_ACK [stOK, p.arg 0, 0] := by
  simp only [State.writeAtNi, judged, Bool.false_eq_true, if_false]

/-- A payload error of an accepted write is reported and acknowledged (R105, R160). -/
theorem State.writeAtNi_of_bad_payload {l : LedgerE} (judged : s.judgeWrite n p false = (stOK, some l)) :
    s.writeAtNi n p true = ((s.acceptWrite n p l).report .ni n 10 (29 + 3 * 2 ^ 15)).answer p (niLoc n) opWRITE_ACK
      [stDATA_ERROR, p.arg 0, 0] := by
  simp only [State.writeAtNi, judged, if_true]
  rfl

/-- A member of a multicast acknowledges with counts (R152). -/
theorem gives_writeMc {l : LedgerE} (ok : okPkt p = true) (tile : n < 2304) (thawed : s.frozenAt n = false) (up : s.niUp n = true)
    (kind : p.kind = opWRITE_MC) (judged : s.judgeWrite n p true = (stOK, some l)) :
    Gives (.writeMc n p false) s
      ((((s.takeNet (.unit (niLoc n)) p).acceptWrite n p l).receipt n p.src p.txn).push (.router n 4)
        (mkPkt opWRITE_ACK p.src p.dst p.ten p.flow p.txn ([stOK, p.arg 0, 1] ++ [1, 0, 0, 0, 0]))) := by
  refine Gives.of_run (exec_writeMc n p false s) (by simp [Instr.wf, okSlot, tile, ok]) ?_
  simp only [kind, ne_eq, not_true_eq_false, if_false, State.atNi_of_up _ thawed up, State.judgeWrite_takeNet, judged,
    Bool.false_eq_true, and_false]
  rfl

/-- Acknowledgements of a multicast are combined at routers (R156). -/
theorem gives_writeAck_group {port : Nat} {c : CombSlot} (ok : okPkt p = true) (tile : n < 2304) (hport : port < 6)
    (kind : p.kind = opWRITE_ACK) (dst : p.dst.port = 7) (slot : (s.takeNet (.router n port) p).slotFor n p = some c) :
    Gives (.writeAck n port p) s
      (if port ∈ c.waitOn then (s.takeNet (.router n port) p).slotAnswer n c port (p.args.drop 3)
        else s.takeNet (.router n port) p) := by
  refine Gives.of_run (exec_writeAck n port p s) (by simp [Instr.wf, okSlot, tile, ok, hport]) ?_
  simp only [kind, dst, slot, ne_eq, not_true_eq_false, if_false, if_true, Option.filter, List.contains_eq_mem, decide_eq_true_eq]
  by_cases waits : port ∈ c.waitOn <;> simp [waits]

theorem gives_writeAck_own {port : Nat} {t : OTx} (ok : okPkt p = true) (tile : n < 2304) (hport : port < 6)
    (thawed : s.frozenAt n = false) (up : s.niUp n = true) (kind : p.kind = opWRITE_ACK) (dst : p.dst = niLoc n)
    (tx : s.findTx n p.txn = some t) (use : t.use = .write) (single : p.arg 2 ≠ 1) :
    Gives (.writeAck n port p) s ((s.takeNet (.unit (niLoc n)) p).partDone t.xfer (p.arg 1) (p.arg 0)) := by
  refine Gives.of_run (exec_writeAck n port p s) (by simp [Instr.wf, okSlot, tile, ok, hport]) ?_
  have found : (s.takeNet (.unit (niLoc n)) p).findTx n p.txn = some t := tx
  simp [kind, dst, niLoc_port, State.atNi_of_up _ thawed up, State.writeAckAtNi, found, use, single]

/-- A roll call is answered with the packets of the receipt, or with none (R157). -/
theorem gives_rollcall (ok : okPkt p = true) (tile : n < 2304) (thawed : s.frozenAt n = false) (up : s.niUp n = true)
    (kind : p.kind = opROLLCALL) :
    Gives (.rollcall n p) s ((s.takeNet (.unit (niLoc n)) p).emit (mkPkt opROLL_ANS (niLoc n) p.src p.ten p.flow p.txn
      [match s.receipts.find? (fun r => r.ni == n && decide (r.src = p.src) && r.txn == p.arg 0) with
        | some r => r.packets
        | none => 0, s.ltileOf n n])) := by
  refine Gives.of_run (exec_rollcall n p s) (by simp [Instr.wf, okSlot, tile, ok]) ?_
  simp only [kind, ne_eq, not_true_eq_false, if_false, State.atNi_of_up _ thawed up]
  rfl

theorem gives_rollAns {x : Xfer} (ok : okPkt p = true) (tile : n < 2304) (thawed : s.frozenAt n = false) (up : s.niUp n = true)
    (kind : p.kind = opROLL_ANS) (rolling : s.xfers.find? (fun y => y.ni == n && y.txn == p.txn && y.rolling) = some x) :
    Gives (.rollAns n p) s
      ((s.takeNet (.unit (niLoc n)) p).updXfer x.id fun y => { y with rolls := y.rolls ++ [(p.arg 1, p.arg 0)] }) := by
  refine Gives.of_run (exec_rollAns n p s) (by simp [Instr.wf, okSlot, tile, ok]) ?_
  have found : (s.takeNet (.unit (niLoc n)) p).xfers.find? (fun y => y.ni == n && y.txn == p.txn && y.rolling) = some x := rolling
  simp only [kind, ne_eq, not_true_eq_false, if_false, State.atNi_of_up _ thawed up, found]

theorem State.descs_returnUnused (s : State) (x : Xfer) : (s.returnUnused x).descs = s.descs := by
  simp only [State.returnUnused]
  split <;> rfl

theorem gives_rollTimeExpire_absent {txn : Nat} (tile : n < 2304) (ok : txn < 4096)
    (absent : s.xfers.find? (fun y => y.ni == n && y.txn == txn && y.rolling) = none) : Gives (.rollTimeExpire n txn) s s := by
  refine Gives.of_run (exec_rollTimeExpire n txn s) (by simp [Instr.wf, okSlot, tile, ok]) ?_
  simp only [absent]

/-- The end of a roll call (R158): its transfer ends, with the members that missed some packet. -/
def State.rollEnd (s : State) (n txn : Nat) (x : Xfer) (d : Desc) (st count low : Nat) : State :=
  let back := (s.returnUnused x).delTx n txn
  let v := { back with xfers := back.xfers.filter (fun y => y.id != x.id) }
  let missed := (s.grpMap (x.group.getD 0)).filter (fun y => !(x.rolls.contains (y, x.chunks.length)))
  if x.missAddr = 0 then v.complete x.desc st count low 0
  else v.writeAux d x.missAddr x.missHost (missBitmap missed) st count low

theorem gives_rollTimeExpire {txn : Nat} {x : Xfer} {d : Desc} (tile : n < 2304) (ok : txn < 4096)
    (rolling : s.xfers.find? (fun y => y.ni == n && y.txn == txn && y.rolling) = some x) (desc : s.desc? x.desc = some d) :
    let missed := (s.grpMap (x.group.getD 0)).filter (fun y => !(x.rolls.contains (y, x.chunks.length)))
    (missed = [] → x.statuses = [] → Gives (.rollTimeExpire n txn) s (s.rollEnd n txn x d stOK x.members 0)) ∧
    (missed ≠ [] → Gives (.rollTimeExpire n txn) s
      (s.rollEnd n txn x d (firstStatus (x.statuses ++ [stPARTIAL_MULTICAST])) missed.length (lowest missed))) := by
  intro missed
  have found (back : State) (h : back.descs = s.descs) : back.desc? x.desc = some d := by
    rw [← desc]
    unfold State.desc?
    rw [h]
  have kept := found { (s.returnUnused x).delTx n txn with
    xfers := ((s.returnUnused x).delTx n txn).xfers.filter (fun y => y.id != x.id) }
    ((State.delTx_descs ..).trans (State.descs_returnUnused ..))
  have shape (st count low : Nat)
      (e : (let st := firstStatus (x.statuses ++ (if missed.isEmpty then [] else [stPARTIAL_MULTICAST]))
        let st := if missed.isEmpty ∧ st = stPARTIAL_MULTICAST then stOK else st
        (st, if missed.isEmpty = false then missed.length else if st = stOK then x.members else 0,
          if missed.isEmpty then 0 else lowest missed)) = (st, count, low)) :
      Gives (.rollTimeExpire n txn) s (s.rollEnd n txn x d st count low) := by
    simp only [Prod.mk.injEq] at e
    obtain ⟨rfl, rfl, rfl⟩ := e
    refine Gives.of_run (exec_rollTimeExpire n txn s) (by simp [Instr.wf, okSlot, tile, ok]) ?_
    simp only [rolling, kept, State.rollEnd, ne_eq, ite_not]
    rfl
  refine ⟨fun none statuses => shape _ _ _ ?_, fun some => shape _ _ _ ?_⟩
  · rw [none, statuses]
    rfl
  · simp [some]

end

/-- Settles O16: the judgement case by case, and what each row makes of it. -/
theorem writesAreJudgedByEpochAndLedger : Obligations.WritesAreJudgedByEpochAndLedger := by
  unfold Obligations.WritesAreJudgedByEpochAndLedger
  intro s n port p l t c x tile hport ok thawed up u h w
  refine ⟨fun passes => ⟨State.judgeWrite_of_closed passes, State.judgeWrite_of_no_credit passes⟩,
    fun st denied => State.judgeWrite_of_denied false denied, fun kind dst => ⟨fun st judged => ?_, fun judged => ?_, fun judged => ?_,
      fun judged left quiet => ?_⟩, gives_writeMc ok tile thawed up, fun kind dst slot => ⟨fun waits => ?_, fun answered => ?_⟩,
    gives_writeAck_own ok tile hport thawed up, fun kind absent => ?_, fun r kind found => ?_, gives_rollAns ok tile thawed up,
    fun absent => ?_, fun d rolling desc => ?_⟩
  · exact (gives_write_atNi false ok tile thawed up kind dst).congr (State.writeAtNi_of_refused (s := u) false judged)
  · exact (gives_write_atNi false ok tile thawed up kind dst).congr (State.writeAtNi_of_accepted (s := u) judged)
  · exact (gives_write_atNi true ok tile thawed up kind dst).congr (State.writeAtNi_of_bad_payload (s := u) judged)
  · have handle : l.handle = h := State.judgeWrite_handle judged
    refine ((gives_write_atNi false ok tile thawed up kind dst).congr (State.writeAtNi_of_accepted (s := u) judged)).does ?_
    rw [State.acceptWrite_of_left (s := u) left (handle ▸ quiet), handle]
    exact ⟨rfl, State.window_setWin_same .., rfl, fun off d other => State.regs_addPair_ne _ _ _ _ _ _ _ _ (by simpa using other)⟩
  · exact (gives_writeAck_group ok tile hport kind dst slot).congr (if_pos waits)
  · exact (gives_writeAck_group ok tile hport kind dst slot).congr (if_neg answered)
  · have none : s.receipts.find? (fun r => r.ni == n && decide (r.src = p.src) && r.txn == p.arg 0) = none :=
      List.find?_eq_none.mpr fun r hr same => by
        simp only [Bool.and_eq_true, beq_iff_eq, decide_eq_true_eq] at same
        simpa [same] using absent r hr
    exact (gives_rollcall ok tile thawed up kind).congr (by rw [none])
  · exact (gives_rollcall ok tile thawed up kind).congr (by rw [found])
  · exact gives_rollTimeExpire_absent tile (okPkt_txn ok) absent
  · obtain ⟨all, some⟩ := gives_rollTimeExpire tile (okPkt_txn ok) rolling desc
    refine ⟨fun none statuses => ⟨fun here => ?_, fun there => ?_⟩, fun missed => ⟨fun statuses => ?_, fun here => ?_, fun there => ?_⟩⟩
    · exact (all none statuses).congr (if_pos here)
    · exact (all none statuses).congr (if_neg there)
    · rw [statuses]
      rfl
    · exact (some missed).congr (if_pos here)
    · exact (some missed).congr (if_neg there)

end Sys2Proof.Machine

/-! # Strict combining (R178, R179, R195, R197, R252): the proof of StrictCombiningIsOrderFree -/

namespace Sys2Proof.Machine

/-! ## Patterns and their values -/

/-- A 64-bit pattern read as signed is the number up to a multiple of 2^64. -/
theorem wrap64_emod (v : Int) : wrap64 v % 2 ^ 64 = v % 2 ^ 64 := by
  have nonneg := Int.emod_nonneg v (by decide : (2 ^ 64 : Int) ≠ 0)
  simp only [wrap64, signedOf, patternOf]
  split_ifs <;> omega

theorem wrap64_congr {u v : Int} (h : u % 2 ^ 64 = v % 2 ^ 64) : wrap64 u = wrap64 v := by
  simp only [wrap64, patternOf]
  norm_num at h ⊢
  rw [h]

theorem wrap64_wrap64_add (u v : Int) : wrap64 (wrap64 u + v) = wrap64 (u + v) :=
  wrap64_congr (by have := wrap64_emod u; omega)

theorem wrap64_add_wrap64 (u v : Int) : wrap64 (u + wrap64 v) = wrap64 (u + v) := by
  rw [add_comm u, wrap64_wrap64_add, add_comm]

theorem patternOf_signedOf {x : Nat} (h : x < 2 ^ 9) : patternOf 9 (signedOf 9 x) = x := by
  simp only [patternOf, signedOf]
  split <;> omega

theorem signedOf_patternOf {v : Int} (lo : -256 ≤ v) (hi : v < 256) : signedOf 9 (patternOf 9 v) = v := by
  simp only [patternOf, signedOf]
  split_ifs <;> omega

theorem patternOf_lt (v : Int) : patternOf 9 v < 2 ^ 9 := by
  simp only [patternOf]
  omega

theorem signedOf_bounds {x : Nat} (h : x < 2 ^ 9) : -256 ≤ signedOf 9 x ∧ signedOf 9 x < 256 := by
  simp only [signedOf]
  split <;> omega

/-! ## Exact sums -/

/-- The exact sum of two lists, element by element, in 64 bits. -/
def exactSum (a b : List Int) : List Int := (a.zipWith (· + ·) b).map wrap64

theorem redCombine_exact {op inF : Nat} (k : Nat) (exact : (op = 0 ∧ isInt inF = true) ∨ op = 7) (a b : List Int) :
    redCombine op inF k true a b = (exactSum a b, false) := by
  rcases exact with ⟨rfl, int⟩ | rfl
  · simp only [redCombine, int, if_true, exactSum]
  · rfl

theorem exactSum_comm (a b : List Int) : exactSum a b = exactSum b a := by
  rw [exactSum, exactSum, List.zipWith_comm_of_comm fun x y => add_comm x y]

theorem getElem?_exactSum (a b : List Int) (i : Nat) :
    (exactSum a b)[i]? = a[i]?.bind fun x => b[i]?.map fun y => wrap64 (x + y) := by
  simp only [exactSum, List.getElem?_map, List.getElem?_zipWith]
  cases a[i]? <;> cases b[i]? <;> rfl

theorem exactSum_assoc (a b d : List Int) : exactSum (exactSum a b) d = exactSum a (exactSum b d) := by
  ext1 i
  simp only [getElem?_exactSum]
  cases a[i]? <;> cases b[i]? <;> cases d[i]? <;>
    simp [wrap64_wrap64_add, wrap64_add_wrap64, add_assoc]

theorem exactSum_at {a b : List Int} (len : a.length = b.length) {i : Nat} (h : i < a.length) :
    (exactSum a b)[i]? = some (wrap64 (a.getD i 0 + b.getD i 0)) := by
  simp [getElem?_exactSum, List.getD_eq_getElem?_getD, List.getElem?_eq_getElem h, List.getElem?_eq_getElem (len ▸ h)]

/-! ## Integer MAX and MIN -/

theorem zipWith_assoc {f : Int → Int → Int} (assoc : ∀ x y z, f (f x y) z = f x (f y z)) (a b d : List Int) :
    (a.zipWith f b).zipWith f d = a.zipWith f (b.zipWith f d) := by
  ext1 i
  simp only [List.getElem?_zipWith]
  cases a[i]? <;> cases b[i]? <;> cases d[i]? <;> simp [assoc]

theorem redCombine_max {inF : Nat} (k : Nat) (wide : Bool) (int : isInt inF = true) (a b : List Int) :
    redCombine 1 inF k wide a b = (a.zipWith max b, false) := by
  simp only [redCombine, int, if_true]

theorem redCombine_min {inF : Nat} (k : Nat) (wide : Bool) (int : isInt inF = true) (a b : List Int) :
    redCombine 2 inF k wide a b = (a.zipWith min b, false) := by
  simp only [redCombine, int, if_true]

/-! ## Exponent entries -/

/-- The exponent of a merged entry: the larger of those whose entries are not zero. -/
def emaxExp (za zb : Bool) (ea eb : Nat) : Nat :=
  if za && zb then 0 else if za then eb else if zb then ea else patternOf 9 (max (signedOf 9 ea) (signedOf 9 eb))

theorem emaxExp_lt {za zb : Bool} {ea eb : Nat} (ha : ea < 2 ^ 9) (hb : eb < 2 ^ 9) : emaxExp za zb ea eb < 2 ^ 9 := by
  simp only [emaxExp]
  split_ifs
  · omega
  · exact hb
  · exact ha
  · exact patternOf_lt _

theorem emaxExp_comm (za zb : Bool) (ea eb : Nat) : emaxExp za zb ea eb = emaxExp zb za eb ea := by
  cases za <;> cases zb <;> simp [emaxExp, max_comm]

theorem emaxExp_assoc (za zb zc : Bool) {ea eb ec : Nat} (ha : ea < 2 ^ 9) (hb : eb < 2 ^ 9) (hc : ec < 2 ^ 9) :
    emaxExp (za && zb) zc (emaxExp za zb ea eb) ec = emaxExp za (zb && zc) ea (emaxExp zb zc eb ec) := by
  obtain ⟨alo, ahi⟩ := signedOf_bounds ha
  obtain ⟨blo, bhi⟩ := signedOf_bounds hb
  obtain ⟨clo, chi⟩ := signedOf_bounds hc
  cases za <;> cases zb <;> cases zc <;> simp only [emaxExp, Bool.and_true, Bool.and_false, Bool.false_eq_true, if_true, if_false]
  rw [signedOf_patternOf (le_max_of_le_left alo) (max_lt ahi bhi), signedOf_patternOf (le_max_of_le_left blo) (max_lt bhi chi), max_assoc]

/-- An exponent entry: its three flags, whether it is zero, and its exponent. -/
def emaxOf (flags : Nat) (zero : Bool) (e : Nat) : Nat := flags <<< 13 + b2n zero <<< 12 + e

theorem emaxMerge_eq (a b : Nat) : emaxMerge a b =
    emaxOf (bits a 15 13 ||| bits b 15 13) (bit a 12 && bit b 12) (emaxExp (bit a 12) (bit b 12) (bits a 8 0) (bits b 8 0)) := by
  simp only [emaxMerge, emaxOf, emaxExp, patternOf_signedOf (bits_lt _ 8 0)]

theorem bits_emaxOf_flags {flags : Nat} (zero : Bool) {e : Nat} (hf : flags < 8) (he : e < 2 ^ 9) : bits (emaxOf flags zero e) 15 13 = flags := by
  cases zero <;> simp only [emaxOf, bits, b2n, Nat.shiftLeft_eq, Nat.shiftRight_eq_div_pow] <;> simp <;> omega

theorem bit_emaxOf {flags : Nat} (zero : Bool) {e : Nat} (he : e < 2 ^ 9) : bit (emaxOf flags zero e) 12 = zero := by
  cases zero <;> simp only [emaxOf, bit, b2n, Nat.shiftLeft_eq, Nat.testBit_eq_decide_div_mod_eq] <;> simp <;> omega

theorem bits_emaxOf_exp {flags : Nat} (zero : Bool) {e : Nat} (he : e < 2 ^ 9) : bits (emaxOf flags zero e) 8 0 = e := by
  cases zero <;> simp only [emaxOf, bits, b2n, Nat.shiftLeft_eq, Nat.shiftRight_eq_div_pow] <;> simp <;> omega

theorem emaxMerge_comm (a b : Nat) : emaxMerge a b = emaxMerge b a := by
  rw [emaxMerge_eq, emaxMerge_eq, Nat.or_comm, Bool.and_comm, emaxExp_comm]

theorem emaxMerge_assoc (a b c : Nat) : emaxMerge (emaxMerge a b) c = emaxMerge a (emaxMerge b c) := by
  have flags (x y : Nat) : bits x 15 13 ||| bits y 15 13 < 8 := Nat.or_lt_two_pow (n := 3) (bits_lt _ 15 13) (bits_lt _ 15 13)
  have exp (x y : Nat) : emaxExp (bit x 12) (bit y 12) (bits x 8 0) (bits y 8 0) < 2 ^ 9 := emaxExp_lt (bits_lt _ 8 0) (bits_lt _ 8 0)
  simp only [emaxMerge_eq, bits_emaxOf_flags _ (flags _ _) (exp _ _), bit_emaxOf _ (exp _ _), bits_emaxOf_exp _ (exp _ _)]
  rw [Nat.or_assoc, Bool.and_assoc, emaxExp_assoc _ _ _ (bits_lt a 8 0) (bits_lt b 8 0) (bits_lt c 8 0)]

/-! ## Default integer sums -/

theorem redCombine_default {inF : Nat} (k : Nat) (int : isInt inF = true) (a b : List Int) :
    redCombine 0 inF k false a b = ((a.zipWith (· + ·) b).map (clampInt 32), (a.zipWith (· + ·) b).any fun v => clampInt 32 v ≠ v) := by
  simp only [redCombine, int, if_true, Bool.false_eq_true, if_false]

theorem clampInt_bounds (v : Int) : -2147483648 ≤ clampInt 32 v ∧ clampInt 32 v ≤ 2147483647 := by
  simp only [clampInt]
  omega

theorem clampInt_ne_iff (v : Int) : clampInt 32 v ≠ v ↔ v < -2147483648 ∨ 2147483647 < v := by
  simp only [clampInt]
  omega

theorem clamps_iff {a b : List Int} (len : a.length = b.length) :
    ((a.zipWith (· + ·) b).any fun v => clampInt 32 v ≠ v) = true ↔
      ∃ i : Nat, i < a.length ∧ (a.getD i 0 + b.getD i 0 < -2147483648 ∨ 2147483647 < a.getD i 0 + b.getD i 0) := by
  have at_ {i : Nat} (ha : i < a.length) (hb : i < b.length) : a.getD i 0 + b.getD i 0 = a[i] + b[i] := by
    rw [List.getD_eq_getElem _ _ ha, List.getD_eq_getElem _ _ hb]
  simp only [List.any_eq_true, decide_eq_true_eq, clampInt_ne_iff]
  constructor
  · rintro ⟨v, hv, out⟩
    obtain ⟨i, hi, rfl⟩ := List.getElem_of_mem hv
    obtain ⟨ha, hb⟩ : i < a.length ∧ i < b.length := by simpa using hi
    exact ⟨i, ha, by simpa only [at_ ha hb, List.getElem_zipWith] using out⟩
  · rintro ⟨i, ha, out⟩
    have hi : i < (a.zipWith (· + ·) b).length := by simp [ha, ← len]
    exact ⟨_, List.getElem_mem hi, by simpa only [at_ ha (len ▸ ha), List.getElem_zipWith] using out⟩

/-- Settles O21: commutativity and associativity of each combination, element by element. -/
theorem strictCombiningIsOrderFree : Obligations.StrictCombiningIsOrderFree := by
  unfold Obligations.StrictCombiningIsOrderFree
  intro k a b c lab _
  refine ⟨fun op inF exact => ?_, fun op inF extremum int => ?_, fun x y z _ _ _ => ⟨emaxMerge_comm x y, emaxMerge_assoc x y z⟩,
    fun inF int => ?_⟩
  · simp only [redCombine_exact k exact]
    exact ⟨exactSum_comm a b, exactSum_assoc a b c, trivial, fun i => exactSum_at lab⟩
  · rcases extremum with rfl | rfl
    · simp only [redCombine_max k true int]
      exact ⟨by rw [List.zipWith_comm_of_comm max_comm], by rw [zipWith_assoc max_assoc]⟩
    · simp only [redCombine_min k true int]
      exact ⟨by rw [List.zipWith_comm_of_comm min_comm], by rw [zipWith_assoc min_assoc]⟩
  · rw [redCombine_default k int]
    refine ⟨fun v hv => ?_, clamps_iff lab⟩
    obtain ⟨u, -, rfl⟩ := List.mem_map.mp hv
    exact clampInt_bounds u

end Sys2Proof.Machine

/-! # The parts of a transfer (R133, R147): the proof of TransfersAreCutIntoPackets -/

namespace Sys2Proof.Machine

/-- The length of a transfer's first packet. -/
def cutLen (srcHbm dstHbm : Bool) (src dst len : Nat) : Nat :=
  let n := min len 4096
  let n := if srcHbm then min n (4096 - src % 4096) else n
  if dstHbm then min n (4096 - dst % 4096) else n

section

variable {srcHbm dstHbm : Bool}

theorem cutChunks_succ (fuel src dst : Nat) {len : Nat} (some : len ≠ 0) :
    cutChunks srcHbm dstHbm (fuel + 1) src dst len =
      let n := cutLen srcHbm dstHbm src dst len
      ⟨src, dst, n, 0, []⟩ :: cutChunks srcHbm dstHbm fuel (src + n) (dst + n) (len - n) := by
  simp only [cutChunks, some, if_false, cutLen]

theorem cutLen_pos (src dst : Nat) {len : Nat} (some : len ≠ 0) : 0 < cutLen srcHbm dstHbm src dst len := by
  simp only [cutLen]
  split_ifs <;> omega

theorem cutLen_le (src dst len : Nat) : cutLen srcHbm dstHbm src dst len ≤ min len 4096 := by
  simp only [cutLen]
  split_ifs <;> omega

theorem cutLen_src (dst len : Nat) {src : Nat} (h : srcHbm = true) : src % 4096 + cutLen srcHbm dstHbm src dst len ≤ 4096 := by
  simp only [cutLen, h, if_true]
  split_ifs <;> omega

theorem cutLen_dst (src len : Nat) {dst : Nat} (h : dstHbm = true) : dst % 4096 + cutLen srcHbm dstHbm src dst len ≤ 4096 := by
  simp only [cutLen, h, if_true]
  omega

/-- A packet that does not end its transfer ends at a 4 KiB boundary of its source or of its destination. -/
theorem cutLen_reaches (src dst : Nat) {len : Nat} (h : cutLen srcHbm dstHbm src dst len < len) :
    src / 4096 + dst / 4096 < (src + cutLen srcHbm dstHbm src dst len) / 4096 + (dst + cutLen srcHbm dstHbm src dst len) / 4096 := by
  simp only [cutLen] at h ⊢
  split_ifs at h ⊢ <;> omega

/-- The parts cover the range, where the fuel covers its 4 KiB boundaries. -/
theorem sum_cutChunks (fuel src dst len : Nat)
    (h : len ≠ 0 → (src + len - 1) / 4096 + (dst + len - 1) / 4096 < fuel + src / 4096 + dst / 4096) :
    ((cutChunks srcHbm dstHbm fuel src dst len).map (·.len)).sum = len := by
  induction fuel generalizing src dst len with
  | zero =>
    have none : len = 0 := by
      by_contra some
      have := h some
      omega
    simp [cutChunks, none]
  | succ fuel ih =>
    by_cases some : len = 0
    · simp [cutChunks, some]
    · have le := cutLen_le (srcHbm := srcHbm) (dstHbm := dstHbm) src dst len
      have pos := cutLen_pos (srcHbm := srcHbm) (dstHbm := dstHbm) src dst some
      have reaches := cutLen_reaches (srcHbm := srcHbm) (dstHbm := dstHbm) src dst (len := len)
      have enough := h some
      rw [cutChunks_succ _ _ _ some]
      simp only [List.map_cons, List.sum_cons]
      rw [ih _ _ _ fun rest => ?_]
      · omega
      · have := reaches (by omega)
        have e (x : Nat) : x + cutLen srcHbm dstHbm src dst len + (len - cutLen srcHbm dstHbm src dst len) - 1 = x + len - 1 := by omega
        rw [e, e]
        omega

/-- What holds of each part: its size, its place after the parts before it, and its 4 KiB boundaries. -/
theorem getElem?_cutChunks {fuel src dst len i : Nat} {x : Chunk} (h : (cutChunks srcHbm dstHbm fuel src dst len)[i]? = some x) :
    0 < x.len ∧ x.len ≤ 4096 ∧
      x.src = src + (((cutChunks srcHbm dstHbm fuel src dst len).take i).map (·.len)).sum ∧
      x.dst = dst + (((cutChunks srcHbm dstHbm fuel src dst len).take i).map (·.len)).sum ∧
      (srcHbm = true → x.src % 4096 + x.len ≤ 4096) ∧ (dstHbm = true → x.dst % 4096 + x.len ≤ 4096) ∧ x.st = 0 ∧ x.data = [] := by
  induction fuel generalizing src dst len i with
  | zero => simp [cutChunks] at h
  | succ fuel ih =>
    by_cases some : len = 0
    · simp [cutChunks, some] at h
    · rw [cutChunks_succ _ _ _ some] at h ⊢
      cases i with
      | zero =>
        obtain rfl := Option.some.inj h
        have le := cutLen_le (srcHbm := srcHbm) (dstHbm := dstHbm) src dst len
        exact ⟨cutLen_pos src dst some, by dsimp only; omega, rfl, rfl, cutLen_src dst len, cutLen_dst src len, rfl, rfl⟩
      | succ i =>
        obtain ⟨pos, le, atSrc, atDst, rest⟩ := ih h
        refine ⟨pos, le, ?_, ?_, rest⟩
        · rw [atSrc]
          simp only [List.take_succ_cons, List.map_cons, List.sum_cons]
          omega
        · rw [atDst]
          simp only [List.take_succ_cons, List.map_cons, List.sum_cons]
          omega

end

/-- Settles O24: the fuel that the model gives covers the 4 KiB boundaries that a transfer of this length can cross. -/
theorem transfersAreCutIntoPackets : Obligations.TransfersAreCutIntoPackets := by
  unfold Obligations.TransfersAreCutIntoPackets
  intro srcHbm dstHbm src dst len
  exact ⟨sum_cutChunks _ _ _ _ fun some => by omega, fun i x h => getElem?_cutChunks h⟩

end Sys2Proof.Machine

/-! # Error events (R278): the proof of ErrorEventsAreRecordedAndClassified -/

namespace Sys2Proof.Machine

/-! ## Registers of one unit -/

/-- Registers of one block at different offsets are apart. -/
theorem RegDef.addr_ne {r q : RegDef} {i a b : Nat} (blk : r.blk = q.blk) (off : r.off + r.stride * a ≠ q.off + q.stride * b) :
    r.addr i a ≠ q.addr i b := by
  simp only [RegDef.addr, blk]
  omega

section

variable (s : State) (k : UnitKind) (i src : Nat)

@[simp] theorem State.eu_setEu_same (e : ErrUnit) : (s.setEu k i e).eu k i = e := SMap.get_put_same ..
@[simp] theorem State.eu_setFld (f : Fld) (v j m : Nat) : (s.setFld f v j m).eu k i = s.eu k i := rfl
@[simp] theorem State.eu_addFld (f : Fld) (v j m : Nat) : (s.addFld f v j m).eu k i = s.eu k i := rfl
@[simp] theorem State.eu_satFld (f : Fld) (v j m : Nat) : (s.satFld f v j m).eu k i = s.eu k i := rfl
@[simp] theorem State.fld_setEu (e : ErrUnit) (f : Fld) (j m : Nat) : (s.setEu k i e).fld f j m = s.fld f j m := rfl

@[simp] theorem State.eu_stamped (d : Nat) : (s.stamped d).eu k i = s.eu k i := by
  simp only [State.stamped]
  split <;> rfl

@[simp] theorem State.fld_stamped (d : Nat) (f : Fld) (j m : Nat) : (s.stamped d).fld f j m = s.fld f j m := by
  simp only [State.fld, State.rd, State.stamped_regs]

@[simp] theorem State.accC_stamped (d e : Nat) : (s.stamped d).accC e = s.accC e := by
  simp only [State.stamped]
  split <;> rfl

/-! ## The steps of an event's record -/

/-- The first event of an error set (R274). -/
def State.noteFirst (old : Nat) : State :=
  if old = 0 then (s.setFld (xx_ERR_FIRST_FIRST k) src i).setFld (xx_ERR_FIRST_VALID k) 1 i else s

/-- The first SEVERE event of an error set (R274). -/
def State.noteSevere (severe : Bool) : State :=
  if severe then
    let s := s.setFld (xx_ERR_STATUS_SEVERE k) 1 i
    if s.fld (xx_ERR_FIRST_SEV_VALID k) i = 1 then s
    else (s.setFld (xx_ERR_FIRST_FIRST_SEVERE k) src i).setFld (xx_ERR_FIRST_SEV_VALID k) 1 i
  else s

/-- The history of an error set after an event (R274). -/
def State.noteHist (src detail : Nat) (severe injected : Bool) : State :=
  let n := s.fld (xx_ERR_HIST_PTR_NEXT k) i
  let e := s.eu k i
  let h : HistE := ⟨s.stampOf (domOf k i), s.extOf (domOf k i), src, severe, injected, detail % 2 ^ 18⟩
  let s := (s.setEu k i { e with hist := e.hist.put n h, met := e.parityArmed }).stamped (domOf k i)
  (s.addFld (xx_ERR_HIST_PTR_TOTAL k) 1 i).setFld (xx_ERR_HIST_PTR_NEXT k) (n + 1) i

theorem State.noteEvent_eq (detail : Nat) (injected : Bool) :
    s.noteEvent k i src detail injected =
      ((((((s.satFld (xx_ERR_COUNT_EVENTS k) 1 i src).noteHist k i src detail (s.eventSevere k i src) injected).noteFirst k i src
        (s.fld (xx_ERR_STATUS_SOURCE k) i)).setFld (xx_ERR_STATUS_SOURCE k) (s.fld (xx_ERR_STATUS_SOURCE k) i ||| 2 ^ src) i).eventWindow k i src
        (s.eventSevere k i src)).noteSevere k i src (s.eventSevere k i src)) := rfl

variable {s k i src}

theorem State.fld_noteFirst_ne {old : Nat} {f : Fld} {m : Nat} (h : f.reg.addr i m ≠ (xx_ERR_FIRST k).addr i 0) :
    (s.noteFirst k i src old).fld f i m = s.fld f i m := by
  simp only [State.noteFirst]
  split
  · rw [State.fld_setFld_ne _ _ _ _ _ _ _ _ h, State.fld_setFld_ne _ _ _ _ _ _ _ _ h]
  · rfl

@[simp] theorem State.eu_noteFirst {old : Nat} : (s.noteFirst k i src old).eu k i = s.eu k i := by
  simp only [State.noteFirst]
  split <;> rfl

@[simp] theorem State.accC_noteFirst {old d : Nat} : (s.noteFirst k i src old).accC d = s.accC d := by
  simp only [State.noteFirst]
  split <;> rfl

theorem State.fld_noteHist_ne {detail : Nat} {severe injected : Bool} {f : Fld} {m : Nat}
    (h : f.reg.addr i m ≠ (xx_ERR_HIST_PTR k).addr i 0) : (s.noteHist k i src detail severe injected).fld f i m = s.fld f i m := by
  simp only [State.noteHist]
  rw [State.fld_setFld_ne _ _ _ _ _ _ _ _ h, State.addFld, State.fld_setFld_ne _ _ _ _ _ _ _ _ h, State.fld_stamped, State.fld_setEu]

theorem State.eu_noteHist {detail : Nat} {severe injected : Bool} :
    (s.noteHist k i src detail severe injected).eu k i =
      { s.eu k i with
        hist := (s.eu k i).hist.put (s.fld (xx_ERR_HIST_PTR_NEXT k) i)
          ⟨s.stampOf (domOf k i), s.extOf (domOf k i), src, severe, injected, detail % 2 ^ 18⟩
        met := (s.eu k i).parityArmed } := by
  simp only [State.noteHist, State.eu_setFld, State.eu_addFld, State.eu_stamped, State.eu_setEu_same]

theorem State.accC_setFld (f : Fld) (v j m d : Nat) : (s.setFld f v j m).accC d = s.accC d := rfl

theorem State.accC_noteHist {detail d : Nat} {severe injected : Bool} : (s.noteHist k i src detail severe injected).accC d = s.accC d :=
  State.accC_stamped ..

theorem State.next_noteHist {detail : Nat} {severe injected : Bool} :
    (s.noteHist k i src detail severe injected).fld (xx_ERR_HIST_PTR_NEXT k) i = (s.fld (xx_ERR_HIST_PTR_NEXT k) i + 1) % 8 :=
  State.fld_setFld_same _ (xx_ERR_HIST_PTR_NEXT k) _ i 0 (Nat.zero_le _) (show 2 < 32 by omega)


theorem State.fld_eventWindow (severe : Bool) (f : Fld) (j m : Nat) : (s.eventWindow k i src severe).fld f j m = s.fld f j m := by
  simp only [State.eventWindow]
  split <;> rfl

theorem State.hist_eventWindow (severe : Bool) : ((s.eventWindow k i src severe).eu k i).hist = (s.eu k i).hist := by
  simp only [State.eventWindow]
  split <;> rw [State.eu_setEu_same]

/-- The window count of an event that stays below THRESH (R278). -/
theorem State.winCount_eventWindow (counted : atOnce k src = false) :
    ((s.eventWindow k i src false).eu k i).winCount.get src 0 =
      if (s.eu k i).winCount.get src 0 = 0 ∨ zeroAsOne (s.fld (xx_ERR_CLASS_WINDOW k) i src) * 10000 ≤
        beatSub (s.accC (domOf k i)) ((s.eu k i).winStart.get src 0) then 1 else (s.eu k i).winCount.get src 0 + 1 := by
  simp only [State.eventWindow, counted, Bool.false_eq_true, if_false, State.eu_setEu_same, SMap.get_put_same]

theorem State.winCount_eventWindow_severe : ((s.eventWindow k i src true).eu k i).winCount.get src 0 = 0 := by
  simp only [State.eventWindow]
  split <;> rw [State.eu_setEu_same] <;> simp

theorem State.fld_noteSevere_ne {severe : Bool} {f : Fld} {m : Nat} (status : f.reg.addr i m ≠ (xx_ERR_STATUS k).addr i 0)
    (first : f.reg.addr i m ≠ (xx_ERR_FIRST k).addr i 0) : (s.noteSevere k i src severe).fld f i m = s.fld f i m := by
  simp only [State.noteSevere]
  split_ifs
  · rw [State.fld_setFld_ne _ _ _ _ _ _ _ _ status]
  · rw [State.fld_setFld_ne _ _ _ _ _ _ _ _ first, State.fld_setFld_ne _ _ _ _ _ _ _ _ first, State.fld_setFld_ne _ _ _ _ _ _ _ _ status]
  · rfl

@[simp] theorem State.eu_noteSevere {severe : Bool} : (s.noteSevere k i src severe).eu k i = s.eu k i := by
  simp only [State.noteSevere]
  split_ifs <;> rfl

theorem State.severe_noteSevere : (s.noteSevere k i src true).fld (xx_ERR_STATUS_SEVERE k) i = 1 := by
  have set : (s.setFld (xx_ERR_STATUS_SEVERE k) 1 i).fld (xx_ERR_STATUS_SEVERE k) i = 1 :=
    s.fld_setFld_same (xx_ERR_STATUS_SEVERE k) 1 i 0 (Nat.le_refl 30) (show 30 < 32 by omega)
  have apart : (xx_ERR_STATUS k).addr i 0 ≠ (xx_ERR_FIRST k).addr i 0 := RegDef.addr_ne rfl (by simp [xx_ERR_STATUS, xx_ERR_FIRST])
  simp only [State.noteSevere, if_true]
  split_ifs
  · exact set
  · rw [State.fld_setFld_ne _ _ _ _ _ _ _ _ apart, State.fld_setFld_ne _ _ _ _ _ _ _ _ apart, set]

/-- The SOURCE bits and the first event stay when an event becomes SEVERE. -/
theorem State.fld_noteSevere_apart {severe : Bool} {f : Fld}
    (h : f.reg = xx_ERR_STATUS k ∧ f.hi < 30 ∨ f.reg = xx_ERR_FIRST k ∧ (f.hi < 4 ∨ 30 < f.lo)) :
    (s.noteSevere k i src severe).fld f i = s.fld f i := by
  have apart : (xx_ERR_STATUS k).addr i 0 ≠ (xx_ERR_FIRST k).addr i 0 := RegDef.addr_ne rfl (by simp [xx_ERR_STATUS, xx_ERR_FIRST])
  simp only [State.noteSevere]
  rcases h with ⟨reg, hi⟩ | ⟨reg, far⟩
  · have away : f.reg.addr i 0 ≠ (xx_ERR_FIRST k).addr i 0 := reg ▸ apart
    have keep := s.fld_setFld_apart (xx_ERR_STATUS_SEVERE k) f 1 i 0 reg (Nat.le_refl 30) (show 30 < 32 by omega) (.inr hi)
    split_ifs
    · exact keep
    · rw [State.fld_setFld_ne _ _ _ _ _ _ _ _ away, State.fld_setFld_ne _ _ _ _ _ _ _ _ away, keep]
    · rfl
  · have away : f.reg.addr i 0 ≠ (xx_ERR_STATUS k).addr i 0 := reg ▸ apart.symm
    split_ifs
    · exact State.fld_setFld_ne _ _ _ _ _ _ _ _ away
    · rw [State.fld_setFld_apart _ (xx_ERR_FIRST_SEV_VALID k) f _ _ _ reg (Nat.le_refl 30) (show 30 < 32 by omega)
          (show 30 < f.lo ∨ f.hi < 30 by omega),
        State.fld_setFld_apart _ (xx_ERR_FIRST_FIRST_SEVERE k) f _ _ _ reg (show 4 ≤ 7 by omega) (show 7 < 32 by omega)
          (show 7 < f.lo ∨ f.hi < 4 by omega)]
      exact State.fld_setFld_ne _ _ _ _ _ _ _ _ away
    · rfl

/-! ## What a message leaves alone -/

theorem State.fld_bnLog_ne {ty kind unit j m : Nat} {data : List Nat} {f : Fld} (h : f.reg.addr j m ≠ BN_LOG_STATUS.addr 0 0) :
    (s.bnLog ty kind unit data).fld f j m = s.fld f j m := by
  simp only [State.bnLog]
  split
  · exact State.fld_setFld_ne _ _ _ _ _ _ _ _ h
  · split <;> exact State.fld_stamped ..

theorem State.eu_bnLog (ty kind unit : Nat) (data : List Nat) : (s.bnLog ty kind unit data).eu k i = s.eu k i := by
  simp only [State.bnLog]
  split
  · rfl
  · split <;> exact State.eu_stamped ..

theorem State.fld_sendMsg (p : Pkt) (f : Fld) (j m : Nat) : (s.sendMsg p).fld f j m = s.fld f j m := by
  simp only [State.sendMsg]
  split
  · split <;> rfl
  · rfl

theorem State.eu_sendMsg (p : Pkt) : (s.sendMsg p).eu k i = s.eu k i := by
  simp only [State.sendMsg]
  split
  · split <;> rfl
  · rfl

/-- The message of an event (R279). -/
def State.eventMsg (s : State) (k : UnitKind) (i src : Nat) (severe self : Bool) (detail : Nat) : Pkt :=
  let idx := match k with | .ni | .red | .tp => 0 | _ => i
  mkPkt opERR_MSG (unitLoc k i) { bnLoc with port := 5 } 0 0 0
    [if self then 0 else src, b2n severe, s.fld (xx_ERR_STATUS_SAFE k) i, b2n self, k.code, idx, detail, s.accC (domOf k i) % 2 ^ 32]

theorem State.errMsg_eq (s : State) (k : UnitKind) (i src : Nat) (severe self : Bool) (detail : Nat) :
    s.errMsg k i src severe self detail =
      let p := s.eventMsg k i src severe self detail
      if k = .bn then (if s.bnUp && severe then s.severeLog p else s)
      else if s.bnUp then s.sendMsg p
      else if (s.eu k i).pendMsg.isNone then
        (s.setEu k i { s.eu k i with pendMsg := some p }).setFld (xx_ERR_STATUS_MSG_PENDING k) 1 i
      else s.addFld (xx_ERR_MSG_LOST_LOST k) 1 i := rfl

/-- What a message can do: enter the log (the Binnacle's own) or be lost, leave, be kept, or count as lost (R33). -/
theorem State.errMsg_cases (s : State) (k : UnitKind) (i src : Nat) (severe self : Bool) (detail : Nat) : ∃ p,
    (k = .bn ∧ (s.errMsg k i src severe self detail = s.severeLog p ∨ s.errMsg k i src severe self detail = s)) ∨
    s.errMsg k i src severe self detail = s.sendMsg p ∨
    s.errMsg k i src severe self detail = (s.setEu k i { s.eu k i with pendMsg := some p }).setFld (xx_ERR_STATUS_MSG_PENDING k) 1 i ∨
    s.errMsg k i src severe self detail = s.addFld (xx_ERR_MSG_LOST_LOST k) 1 i := by
  refine ⟨s.eventMsg k i src severe self detail, ?_⟩
  rw [State.errMsg_eq]
  generalize s.eventMsg k i src severe self detail = p
  dsimp only
  by_cases bn : k = .bn
  · rw [if_pos bn]
    by_cases logs : (s.bnUp && severe) = true
    · exact .inl ⟨bn, .inl (if_pos logs)⟩
    · exact .inl ⟨bn, .inr (if_neg logs)⟩
  · rw [if_neg bn]
    by_cases up : s.bnUp = true
    · exact .inr (.inl (if_pos up))
    · rw [if_neg up]
      by_cases free : (s.eu k i).pendMsg.isNone = true
      · exact .inr (.inr (.inl (if_pos free)))
      · exact .inr (.inr (.inr (if_neg free)))

/-- A message leaves the error set alone but for MSG_PENDING and MSG_LOST (R33). -/
theorem State.fld_errMsg {severe self : Bool} {detail m : Nat} {f : Fld} (blk : f.reg.blk = k.blk) (set : k.setBase ≤ f.reg.off)
    (lost : f.reg.addr i m ≠ (xx_ERR_MSG_LOST k).addr i 0)
    (status : f.reg.addr i m ≠ (xx_ERR_STATUS k).addr i 0 ∨ m = 0 ∧ f.reg = xx_ERR_STATUS k ∧ (f.hi < 27 ∨ 27 < f.lo)) :
    (s.errMsg k i src severe self detail).fld f i m = s.fld f i m := by
  obtain ⟨p, ⟨rfl, e | e⟩ | e | e | e⟩ := s.errMsg_cases k i src severe self detail <;> rw [e]
  · have low : 0x400 ≤ f.reg.off := set
    exact State.fld_bnLog_ne (by simp only [RegDef.addr, blk, UnitKind.blk, Blk.base, BN_LOG_STATUS]; omega)
  · exact State.fld_sendMsg ..
  · rcases status with away | ⟨rfl, reg, far⟩
    · rw [State.fld_setFld_ne _ _ _ _ _ _ _ _ away, State.fld_setEu]
    · rw [State.fld_setFld_apart _ (xx_ERR_STATUS_MSG_PENDING k) f _ _ _ reg (Nat.le_refl 27) (show 27 < 32 by omega) far.symm,
        State.fld_setEu]
  · exact State.fld_setFld_ne _ _ _ _ _ _ _ _ lost

theorem State.eu_errMsg (severe self : Bool) (detail : Nat) :
    ∃ p, (s.errMsg k i src severe self detail).eu k i = { s.eu k i with pendMsg := p } := by
  obtain ⟨p, ⟨-, e | e⟩ | e | e | e⟩ := s.errMsg_cases k i src severe self detail <;> rw [e]
  · exact ⟨(s.eu k i).pendMsg, State.eu_bnLog ..⟩
  · exact ⟨(s.eu k i).pendMsg, rfl⟩
  · exact ⟨(s.eu k i).pendMsg, State.eu_sendMsg p⟩
  · exact ⟨some p, State.eu_setEu_same ..⟩
  · exact ⟨(s.eu k i).pendMsg, rfl⟩

/-! ## What a recorded event leaves in the error set -/

theorem State.fld_recordEvent {detail m : Nat} {injected : Bool} {f : Fld} (heard : s.mute k i src = false) (blk : f.reg.blk = k.blk)
    (set : k.setBase ≤ f.reg.off) (lost : f.reg.addr i m ≠ (xx_ERR_MSG_LOST k).addr i 0)
    (status : f.reg.addr i m ≠ (xx_ERR_STATUS k).addr i 0 ∨ m = 0 ∧ f.reg = xx_ERR_STATUS k ∧ (f.hi < 27 ∨ 27 < f.lo)) :
    (s.recordEvent k i src detail injected).fld f i m = (s.noteEvent k i src detail injected).fld f i m := by
  rw [State.recordEvent, if_neg (by simp [heard])]
  split
  · exact State.fld_errMsg blk set lost status
  · rfl

theorem State.eu_recordEvent (detail : Nat) (injected : Bool) (heard : s.mute k i src = false) :
    ∃ p, (s.recordEvent k i src detail injected).eu k i = { (s.noteEvent k i src detail injected).eu k i with pendMsg := p } := by
  rw [State.recordEvent, if_neg (by simp [heard])]
  split
  · exact State.eu_errMsg ..
  · exact ⟨((s.noteEvent k i src detail injected).eu k i).pendMsg, rfl⟩

theorem State.count_noteEvent (detail : Nat) (injected : Bool) :
    (s.noteEvent k i src detail injected).fld (xx_ERR_COUNT_EVENTS k) i src = min (2 ^ 32 - 1) (s.fld (xx_ERR_COUNT_EVENTS k) i src + 1) := by
  have status : (xx_ERR_COUNT k).addr i src ≠ (xx_ERR_STATUS k).addr i 0 :=
    RegDef.addr_ne rfl (by simp only [xx_ERR_COUNT, xx_ERR_STATUS]; omega)
  have first : (xx_ERR_COUNT k).addr i src ≠ (xx_ERR_FIRST k).addr i 0 :=
    RegDef.addr_ne rfl (by simp only [xx_ERR_COUNT, xx_ERR_FIRST]; omega)
  have ptr : (xx_ERR_COUNT k).addr i src ≠ (xx_ERR_HIST_PTR k).addr i 0 :=
    RegDef.addr_ne rfl (by simp only [xx_ERR_COUNT, xx_ERR_HIST_PTR]; omega)
  rw [State.noteEvent_eq, State.fld_noteSevere_ne status first, State.fld_eventWindow, State.fld_setFld_ne _ _ _ _ _ _ _ _ status,
    State.fld_noteFirst_ne first, State.fld_noteHist_ne ptr]
  exact State.fld_satFld_same _ (xx_ERR_COUNT_EVENTS k) _ _ _ (Nat.zero_le _) (show 31 < 32 by omega)

theorem State.next_noteEvent (detail : Nat) (injected : Bool) :
    (s.noteEvent k i src detail injected).fld (xx_ERR_HIST_PTR_NEXT k) i = (s.fld (xx_ERR_HIST_PTR_NEXT k) i + 1) % 8 := by
  have status : (xx_ERR_HIST_PTR k).addr i 0 ≠ (xx_ERR_STATUS k).addr i 0 :=
    RegDef.addr_ne rfl (by simp [xx_ERR_HIST_PTR, xx_ERR_STATUS])
  have first : (xx_ERR_HIST_PTR k).addr i 0 ≠ (xx_ERR_FIRST k).addr i 0 :=
    RegDef.addr_ne rfl (by simp [xx_ERR_HIST_PTR, xx_ERR_FIRST])
  have count : (xx_ERR_HIST_PTR k).addr i 0 ≠ (xx_ERR_COUNT k).addr i src :=
    RegDef.addr_ne rfl (by simp only [xx_ERR_HIST_PTR, xx_ERR_COUNT]; omega)
  rw [State.noteEvent_eq, State.fld_noteSevere_ne status first, State.fld_eventWindow, State.fld_setFld_ne _ _ _ _ _ _ _ _ status,
    State.fld_noteFirst_ne first, State.next_noteHist, State.satFld, State.fld_setFld_ne _ _ _ _ _ _ _ _ count]

theorem State.source_noteEvent {detail : Nat} {injected : Bool} (hs : src < 16) :
    (s.noteEvent k i src detail injected).fld (xx_ERR_STATUS_SOURCE k) i = s.fld (xx_ERR_STATUS_SOURCE k) i ||| 2 ^ src := by
  have old : s.fld (xx_ERR_STATUS_SOURCE k) i < 2 ^ 16 := s.fld_lt (xx_ERR_STATUS_SOURCE k) i 0
  have bit : 2 ^ src < 2 ^ 16 := Nat.pow_lt_pow_right (by omega) hs
  rw [State.noteEvent_eq, State.fld_noteSevere_apart (.inl ⟨rfl, show 15 < 30 by omega⟩), State.fld_eventWindow,
    State.fld_setFld_same _ (xx_ERR_STATUS_SOURCE k) _ _ _ (Nat.zero_le _) (show 15 < 32 by omega)]
  exact Nat.mod_eq_of_lt (Nat.or_lt_two_pow old bit)

/-- The first event is noted where no SOURCE bit was set (R274). -/
theorem State.first_noteEvent {detail : Nat} {injected : Bool} {f : Fld} (reg : f.reg = xx_ERR_FIRST k) (far : f.hi < 4 ∨ 30 < f.lo) :
    (s.noteEvent k i src detail injected).fld f i =
      (((s.satFld (xx_ERR_COUNT_EVENTS k) 1 i src).noteHist k i src detail (s.eventSevere k i src) injected).noteFirst k i src
        (s.fld (xx_ERR_STATUS_SOURCE k) i)).fld f i := by
  have status : f.reg.addr i 0 ≠ (xx_ERR_STATUS k).addr i 0 := reg ▸ RegDef.addr_ne rfl (by simp [xx_ERR_FIRST, xx_ERR_STATUS])
  rw [State.noteEvent_eq, State.fld_noteSevere_apart (.inr ⟨reg, far⟩), State.fld_eventWindow, State.fld_setFld_ne _ _ _ _ _ _ _ _ status]

theorem State.noteFirst_first (hs : src < 16) : (s.noteFirst k i src 0).fld (xx_ERR_FIRST_FIRST k) i = src ∧
    (s.noteFirst k i src 0).fld (xx_ERR_FIRST_VALID k) i = 1 := by
  simp only [State.noteFirst, if_true]
  refine ⟨?_, State.fld_setFld_same _ (xx_ERR_FIRST_VALID k) _ _ _ (Nat.le_refl 31) (show 31 < 32 by omega)⟩
  rw [State.fld_setFld_apart _ (xx_ERR_FIRST_VALID k) (xx_ERR_FIRST_FIRST k) _ _ _ rfl (Nat.le_refl 31) (show 31 < 32 by omega)
      (.inr (show 3 < 31 by omega)),
    State.fld_setFld_same _ (xx_ERR_FIRST_FIRST k) _ _ _ (Nat.zero_le _) (show 3 < 32 by omega)]
  exact Nat.mod_eq_of_lt hs

theorem State.first_noteEvent_later {detail : Nat} {injected : Bool} (set : s.fld (xx_ERR_STATUS_SOURCE k) i ≠ 0) :
    (s.noteEvent k i src detail injected).fld (xx_ERR_FIRST_FIRST k) i = s.fld (xx_ERR_FIRST_FIRST k) i := by
  have ptr : (xx_ERR_FIRST k).addr i 0 ≠ (xx_ERR_HIST_PTR k).addr i 0 := RegDef.addr_ne rfl (by simp [xx_ERR_FIRST, xx_ERR_HIST_PTR])
  have count : (xx_ERR_FIRST k).addr i 0 ≠ (xx_ERR_COUNT k).addr i src :=
    RegDef.addr_ne rfl (by simp only [xx_ERR_FIRST, xx_ERR_COUNT]; omega)
  rw [State.first_noteEvent rfl (.inl (show 3 < 4 by omega)), State.noteFirst, if_neg set, State.fld_noteHist_ne ptr, State.satFld,
    State.fld_setFld_ne _ _ _ _ _ _ _ _ count]

theorem State.severe_noteEvent {detail : Nat} {injected : Bool} (severe : s.eventSevere k i src = true) :
    (s.noteEvent k i src detail injected).fld (xx_ERR_STATUS_SEVERE k) i = 1 := by
  rw [State.noteEvent_eq, severe]
  exact State.severe_noteSevere

theorem State.severe_noteEvent_below {detail : Nat} {injected : Bool} (below : s.eventSevere k i src = false) :
    (s.noteEvent k i src detail injected).fld (xx_ERR_STATUS_SEVERE k) i = s.fld (xx_ERR_STATUS_SEVERE k) i := by
  have first : (xx_ERR_STATUS k).addr i 0 ≠ (xx_ERR_FIRST k).addr i 0 := RegDef.addr_ne rfl (by simp [xx_ERR_STATUS, xx_ERR_FIRST])
  have ptr : (xx_ERR_STATUS k).addr i 0 ≠ (xx_ERR_HIST_PTR k).addr i 0 := RegDef.addr_ne rfl (by simp [xx_ERR_STATUS, xx_ERR_HIST_PTR])
  have count : (xx_ERR_STATUS k).addr i 0 ≠ (xx_ERR_COUNT k).addr i src :=
    RegDef.addr_ne rfl (by simp only [xx_ERR_STATUS, xx_ERR_COUNT]; omega)
  rw [State.noteEvent_eq, below, State.noteSevere, if_neg Bool.false_ne_true, State.fld_eventWindow,
    State.fld_setFld_apart _ (xx_ERR_STATUS_SOURCE k) (xx_ERR_STATUS_SEVERE k) _ _ _ rfl (Nat.zero_le _) (show 15 < 32 by omega)
      (.inl (show 15 < 30 by omega)),
    State.fld_noteFirst_ne first, State.fld_noteHist_ne ptr, State.satFld, State.fld_setFld_ne _ _ _ _ _ _ _ _ count]

/-- The history entry that an event writes (R274). -/
theorem State.hist_noteEvent (detail : Nat) (injected : Bool) :
    ∃ ts ext, ((s.noteEvent k i src detail injected).eu k i).hist =
      (s.eu k i).hist.put (s.fld (xx_ERR_HIST_PTR_NEXT k) i) ⟨ts, ext, src, s.eventSevere k i src, injected, detail % 2 ^ 18⟩ := by
  have count : (xx_ERR_HIST_PTR k).addr i 0 ≠ (xx_ERR_COUNT k).addr i src :=
    RegDef.addr_ne rfl (by simp only [xx_ERR_HIST_PTR, xx_ERR_COUNT]; omega)
  rw [State.noteEvent_eq, State.eu_noteSevere, State.hist_eventWindow, State.eu_setFld, State.eu_noteFirst, State.eu_noteHist, State.satFld,
    State.fld_setFld_ne _ _ _ _ _ _ _ _ count, State.eu_setFld]
  exact ⟨_, _, rfl⟩

theorem State.winCount_noteEvent_severe {detail : Nat} {injected : Bool} (severe : s.eventSevere k i src = true) :
    ((s.noteEvent k i src detail injected).eu k i).winCount.get src 0 = 0 := by
  rw [State.noteEvent_eq, State.eu_noteSevere, severe]
  exact State.winCount_eventWindow_severe

theorem State.winCount_noteEvent {detail : Nat} {injected : Bool} (hs : src < 16) (below : s.eventSevere k i src = false) :
    ((s.noteEvent k i src detail injected).eu k i).winCount.get src 0 =
      if (s.eu k i).winCount.get src 0 = 0 ∨ zeroAsOne (s.fld (xx_ERR_CLASS_WINDOW k) i src) * 10000 ≤
        beatSub (s.accC (domOf k i)) ((s.eu k i).winStart.get src 0) then 1 else (s.eu k i).winCount.get src 0 + 1 := by
  have counted : atOnce k src = false := by
    by_contra h
    simp [State.eventSevere, h] at below
  have status : (xx_ERR_CLASS k).addr i src ≠ (xx_ERR_STATUS k).addr i 0 :=
    RegDef.addr_ne rfl (by simp only [xx_ERR_CLASS, xx_ERR_STATUS]; omega)
  have first : (xx_ERR_CLASS k).addr i src ≠ (xx_ERR_FIRST k).addr i 0 :=
    RegDef.addr_ne rfl (by simp only [xx_ERR_CLASS, xx_ERR_FIRST]; omega)
  have ptr : (xx_ERR_CLASS k).addr i src ≠ (xx_ERR_HIST_PTR k).addr i 0 :=
    RegDef.addr_ne rfl (by simp only [xx_ERR_CLASS, xx_ERR_HIST_PTR]; omega)
  have count : (xx_ERR_CLASS k).addr i src ≠ (xx_ERR_COUNT k).addr i src :=
    RegDef.addr_ne rfl (by simp only [xx_ERR_CLASS, xx_ERR_COUNT]; omega)
  have window (v : Nat) (u : State) : (u.setFld (xx_ERR_STATUS_SOURCE k) v i).fld (xx_ERR_CLASS_WINDOW k) i src =
      u.fld (xx_ERR_CLASS_WINDOW k) i src := State.fld_setFld_ne _ _ _ _ _ _ _ _ status
  rw [State.noteEvent_eq, State.eu_noteSevere, below, State.winCount_eventWindow counted, window, State.fld_noteFirst_ne first,
    State.fld_noteHist_ne ptr, State.satFld, State.fld_setFld_ne _ _ _ _ _ _ _ _ count]
  simp only [State.eu_setFld, State.eu_noteFirst, State.eu_noteHist, State.accC_setFld, State.accC_noteFirst, State.accC_noteHist]

end

/-- Settles O29: what is recorded, field by field, and that the message of an event leaves it alone. -/
theorem errorEventsAreRecordedAndClassified : Obligations.ErrorEventsAreRecordedAndClassified := by
  unfold Obligations.ErrorEventsAreRecordedAndClassified
  intro s k i src detail inj _ hs hd
  refine ⟨fun muted => if_pos muted, fun heard => ?_⟩
  have statusLost : (xx_ERR_STATUS k).addr i 0 ≠ (xx_ERR_MSG_LOST k).addr i 0 :=
    RegDef.addr_ne rfl (by simp [xx_ERR_STATUS, xx_ERR_MSG_LOST])
  have source : (s.recordEvent k i src detail inj).fld (xx_ERR_STATUS_SOURCE k) i = s.fld (xx_ERR_STATUS_SOURCE k) i ||| 2 ^ src :=
    (State.fld_recordEvent heard rfl (Nat.le_refl _) statusLost (.inr ⟨rfl, rfl, .inl (show 15 < 27 by omega)⟩)).trans (State.source_noteEvent hs)
  have severe : (s.recordEvent k i src detail inj).fld (xx_ERR_STATUS_SEVERE k) i =
      (s.noteEvent k i src detail inj).fld (xx_ERR_STATUS_SEVERE k) i :=
    State.fld_recordEvent heard rfl (Nat.le_refl _) statusLost (.inr ⟨rfl, rfl, .inr (show 27 < 30 by omega)⟩)
  have first (f : Fld) (reg : f.reg = xx_ERR_FIRST k) :
      (s.recordEvent k i src detail inj).fld f i = (s.noteEvent k i src detail inj).fld f i :=
    State.fld_recordEvent heard (by rw [reg]; rfl) (by rw [reg]; exact Nat.le_add_right ..)
      (reg ▸ RegDef.addr_ne rfl (by simp [xx_ERR_FIRST, xx_ERR_MSG_LOST]))
      (.inl (reg ▸ RegDef.addr_ne rfl (by simp [xx_ERR_FIRST, xx_ERR_STATUS])))
  obtain ⟨p, eu⟩ := State.eu_recordEvent detail inj heard
  obtain ⟨ts, ext, hist⟩ := State.hist_noteEvent (s := s) (k := k) (i := i) (src := src) detail inj
  refine ⟨?_, ?_, ?_, ⟨⟨ts, ext, src, s.eventSevere k i src, inj, detail % 2 ^ 18⟩, fun d => ?_, rfl, rfl, Nat.mod_eq_of_lt hd, rfl⟩, ?_,
    fun b other => ?_, fun none => ?_, fun set => ?_, fun h => ⟨severe.trans (State.severe_noteEvent h), ?_⟩,
    fun h => ⟨?_, severe.trans (State.severe_noteEvent_below h)⟩⟩
  · simp only [State.eventSevere]
    split
    · next h => simp [h]
    · next h => simp [h]
  · exact (State.fld_recordEvent heard rfl (Nat.le_add_right ..)
      (RegDef.addr_ne rfl (by simp only [xx_ERR_COUNT_EVENTS, xx_ERR_COUNT, xx_ERR_MSG_LOST]; omega))
      (.inl (RegDef.addr_ne rfl (by simp only [xx_ERR_COUNT_EVENTS, xx_ERR_COUNT, xx_ERR_STATUS]; omega)))).trans (State.count_noteEvent ..)
  · exact (State.fld_recordEvent heard rfl (Nat.le_add_right ..) (RegDef.addr_ne rfl (by simp [xx_ERR_HIST_PTR_NEXT, xx_ERR_HIST_PTR, xx_ERR_MSG_LOST]))
      (.inl (RegDef.addr_ne rfl (by simp [xx_ERR_HIST_PTR_NEXT, xx_ERR_HIST_PTR, xx_ERR_STATUS])))).trans (State.next_noteEvent ..)
  · rw [eu, hist, SMap.get_put_same]
  · rw [source, Nat.testBit_or, Nat.testBit_two_pow_self, Bool.or_true]
  · rw [source, Nat.testBit_or, Nat.testBit_two_pow_of_ne other.symm, Bool.or_false]
  · rw [first _ rfl, first _ rfl, State.first_noteEvent rfl (.inl (show 3 < 4 by omega)),
      State.first_noteEvent rfl (.inr (show 30 < 31 by omega)), none]
    exact State.noteFirst_first hs
  · rw [first _ rfl, State.first_noteEvent_later set]
  · rw [eu]
    exact State.winCount_noteEvent_severe h
  · rw [eu]
    exact State.winCount_noteEvent hs h

end Sys2Proof.Machine

/-! # Arbitration at a memory port (R345, R346, R347, R349, R366, R431): the proof of ArbitersGrantByLevelAndTurn -/

namespace Sys2Proof.Machine

/-- What `find?` returns of a sorted list is the first that the test takes. -/
theorem find?_le_of_sorted {p : Nat → Bool} {l : List Nat} (sorted : l.Pairwise (· < ·)) {a b : Nat} (found : l.find? p = some a)
    (mem : b ∈ l) (hb : p b = true) : a ≤ b := by
  obtain ⟨-, before, after, rfl, none⟩ := List.find?_eq_some_iff_append.mp found
  rcases List.mem_append.mp mem with h | h
  · exact absurd hb (by simpa using none b h)
  · rcases List.mem_cons.mp h with rfl | h
    · exact le_rfl
    · exact ((List.pairwise_cons.mp (List.pairwise_append.mp sorted).2.1).1 b h).le

/-! ## The winner (R345) -/

section

variable (m : MPort) {l : List Nat}

/-- The highest level among requesters. -/
def MPort.topLevel (m : MPort) (l : List Nat) : Nat := l.foldl (fun x k => max x (m.level k)) 0

/-- The requesters of the highest level. -/
def MPort.highest (m : MPort) (l : List Nat) : List Nat := l.filter fun k => m.level k == m.topLevel l

/-- A running maximum is reached, and nothing is above it. -/
theorem foldl_max_spec (f : Nat → Nat) (l : List Nat) (a : Nat) :
    a ≤ l.foldl (fun x k => max x (f k)) a ∧ (∀ j ∈ l, f j ≤ l.foldl (fun x k => max x (f k)) a) ∧
      (l.foldl (fun x k => max x (f k)) a = a ∨ ∃ j ∈ l, f j = l.foldl (fun x k => max x (f k)) a) := by
  induction l generalizing a with
  | nil => simp
  | cons x l ih =>
    obtain ⟨above, all, reached⟩ := ih (max a (f x))
    refine ⟨(le_max_left ..).trans above, fun j hj => ?_, ?_⟩
    · rcases List.mem_cons.mp hj with rfl | hj
      · exact (le_max_right ..).trans above
      · exact all j hj
    · rcases reached with h | ⟨j, hj, h⟩
      · rcases max_choice a (f x) with e | e
        · exact .inl (h.trans e)
        · exact .inr ⟨x, List.mem_cons_self .., (h.trans e).symm⟩
      · exact .inr ⟨j, List.mem_cons_of_mem _ hj, h⟩

theorem MPort.level_le_topLevel {j : Nat} (h : j ∈ l) : m.level j ≤ m.topLevel l := (foldl_max_spec m.level l 0).2.1 j h

theorem MPort.mem_highest {j : Nat} : j ∈ m.highest l ↔ j ∈ l ∧ m.level j = m.topLevel l := by
  simp [MPort.highest]

theorem MPort.highest_ne_nil (some : l ≠ []) : m.highest l ≠ [] := by
  obtain ⟨-, all, zero | ⟨j, hj, top⟩⟩ := foldl_max_spec m.level l 0
  · obtain ⟨j, hj⟩ := List.exists_mem_of_ne_nil l some
    have : m.level j ≤ m.topLevel l := all j hj
    have top : m.topLevel l = 0 := zero
    exact List.ne_nil_of_mem ((m.mem_highest).mpr ⟨hj, by omega⟩)
  · exact List.ne_nil_of_mem ((m.mem_highest).mpr ⟨hj, top⟩)

theorem MPort.winner_eq (l : List Nat) :
    m.winner l = match (m.highest l).find? (fun k => m.owner < k) with
      | some k => some k
      | none => (m.highest l).head? := rfl

/-- The requester served has the highest level, and of a sorted list it is the first after the last one granted (R345). -/
theorem MPort.winner_spec (some : l ≠ []) :
    ∃ k, m.winner l = .some k ∧ k ∈ l ∧ (∀ j ∈ l, m.level j ≤ m.level k) ∧
      (l.Pairwise (· < ·) → (∀ j ∈ l, m.level j = m.level k → m.owner < j → m.owner < k ∧ k ≤ j) ∧
        ((∀ j ∈ l, m.level j = m.level k → j ≤ m.owner) → ∀ j ∈ l, m.level j = m.level k → k ≤ j)) := by
  have sortedTop (sorted : l.Pairwise (· < ·)) : (m.highest l).Pairwise (· < ·) := sorted.filter _
  rw [MPort.winner_eq]
  cases found : (m.highest l).find? (fun k => m.owner < k) with
  | some k =>
    obtain ⟨mem, top⟩ := m.mem_highest.mp (List.mem_of_find?_eq_some found)
    have after : m.owner < k := by simpa using List.find?_some found
    refine ⟨k, rfl, mem, fun j hj => top ▸ m.level_le_topLevel hj, fun sorted => ⟨fun j hj level past => ⟨after, ?_⟩, fun none => ?_⟩⟩
    · exact find?_le_of_sorted (sortedTop sorted) found (m.mem_highest.mpr ⟨hj, level.trans top⟩) (by simpa using past)
    · exact absurd (none k mem rfl) (by omega)
  | none =>
    obtain ⟨k, rest, e⟩ := List.exists_cons_of_ne_nil (m.highest_ne_nil some)
    obtain ⟨mem, top⟩ := m.mem_highest.mp (e ▸ List.mem_cons_self (a := k) (l := rest))
    refine ⟨k, by rw [e]; rfl, mem, fun j hj => top ▸ m.level_le_topLevel hj, fun sorted => ⟨fun j hj level past => ?_, fun _ j hj level => ?_⟩⟩
    · exact absurd past (by simpa using List.find?_eq_none.mp found j (m.mem_highest.mpr ⟨hj, level.trans top⟩))
    · rcases List.mem_cons.mp (e ▸ m.mem_highest.mpr ⟨hj, level.trans top⟩) with rfl | later
      · exact le_rfl
      · exact ((List.pairwise_cons.mp (e ▸ sortedTop sorted)).1 j later).le

end

/-! ## What the waits noted, the log and a grant leave alone -/

section

variable (s : State) (n : Nat)

theorem State.mpt_noteWaits : (s.noteWaits n).mpt n = { s.mpt n with since := ((s.noteWaits n).mpt n).since } := by
  simp only [State.noteWaits, State.mpt_modMp_same]

/-- The waits noted decide no transaction at the head of a requester. -/
theorem State.head_setSince (g : SMap Nat) (k : Nat) : (s.setMp n { s.mpt n with since := g }).head n k = s.head n k := by
  simp only [State.head, State.bookedRead, State.mpt_setMp_same]
  rfl

@[simp] theorem State.head_noteWaits (k : Nat) : (s.noteWaits n).head n k = s.head n k := State.head_setSince ..

@[simp] theorem State.mpt_log (k : UnitKind) (i code peerKind peer detail : Nat) :
    (s.log k i code peerKind peer detail).mpt n = s.mpt n := by
  simp only [State.log, State.stamped]
  split_ifs <;> rfl

theorem State.mp_log (k : UnitKind) (i code peerKind peer detail : Nat) : (s.log k i code peerKind peer detail).mp = s.mp := by
  simp only [State.log, State.stamped]
  split_ifs <;> rfl

theorem State.spad_log (k : UnitKind) (i code peerKind peer detail : Nat) : (s.log k i code peerKind peer detail).spad = s.spad := by
  simp only [State.log, State.stamped]
  split_ifs <;> rfl

theorem State.mpt_mpRefuse (p : Pkt) (self : Loc) (st j : Nat) : (s.mpRefuse p self st).mpt j = s.mpt j := by
  simp only [State.mpRefuse]
  split_ifs <;> rfl

theorem State.spad_mpRefuse (p : Pkt) (self : Loc) (st : Nat) : (s.mpRefuse p self st).spad = s.spad := by
  simp only [State.mpRefuse]
  split_ifs <;> rfl

variable {s n}

/-- What a grant makes of a memory port (R345). -/
theorem State.mpt_grantTx {k id : Nat} {t : MTx} (b : Bool) (tag : (s.mpt n).tag = some id) (own : t.kind ≠ .bookRead) :
    (s.grantTx n k t b).mpt n = { s.mpt n with
      issued := (s.mpt n).issued ++ (s.mpt n).cur.toList
      cur := some { t with id := id }
      owner := k
      parked := b
      ready := delFirst (fun u => decide (u = t)) (s.mpt n).ready
      since := (s.mpt n).since.put k 0 } := by
  simp only [State.grantTx, tag, own, if_false, State.mpt_setMp_same]

/-- A free tag belongs to no outstanding transaction. -/
theorem MPort.tag_free {m : MPort} {id : Nat} (tag : m.tag = some id) :
    ∀ u ∈ m.cur.toList ++ m.suspended.toList ++ m.suspDbg.toList ++ m.issued, u.id ≠ id := by
  have free := List.find?_some tag
  simp only [Bool.not_eq_true', List.any_eq_false, beq_iff_eq] at free
  exact free

/-- Serving a requester changes no level, committed or waiting, and no scratchpad. -/
theorem State.serveTx_keeps (k : Nat) (t : MTx) (b : Bool) :
    ((s.serveTx n k t b).mpt n).prio0 = (s.mpt n).prio0 ∧ ((s.serveTx n k t b).mpt n).prio1 = (s.mpt n).prio1 ∧
      ((s.serveTx n k t b).mpt n).goPend = (s.mpt n).goPend ∧ (s.serveTx n k t b).spad = s.spad := by
  simp only [State.serveTx]
  split
  · split
    · simp [State.mpt_mpRefuse, State.spad_mpRefuse, State.modMp]
    · simp [State.modMp]
  · simp only [State.grantTx]
    split
    · exact ⟨rfl, rfl, rfl, rfl⟩
    · simp only [State.mpt_setMp_same, State.setMp_spad, true_and]
      split_ifs
      · exact State.spad_log ..
      · rfl

end

/-! ## What the row does -/

section

variable {s : State} {n : Nat}

theorem State.commitPrio_of_none (none : (s.mpt n).goPend = none) : s.commitPrio n = s := by
  rw [State.commitPrio, none]

/-- A contested grant commits the levels that GO took (R349). -/
theorem State.mpt_commitPrio {p0 p1 : Nat} (go : (s.mpt n).goPend = some (p0, p1)) :
    (s.commitPrio n).mpt n = { s.mpt n with prio0 := p0, prio1 := p1, goPend := none } := by
  simp only [State.commitPrio, go, State.mpt_log, State.mpt_addFld, State.mpt_modMp_same]

theorem State.spad_commitPrio : (s.commitPrio n).spad = s.spad := by
  simp only [State.commitPrio]
  split
  · rfl
  · exact State.spad_log ..

/-- The arbiter takes the waits into account, and then arbitrates. -/
theorem gives_arbitrate {t : State} (port : n < 16) (unarmed : s.fld (xx_ERR_INJECT_ARM .mp) n = 0) (h : (s.noteWaits n).arbitrate n = t) :
    Gives (.arbitrate n) s t := by
  refine Gives.of_run (exec_arbitrate n s) (by simpa [Instr.wf, okMp] using port) ?_
  rw [State.injEvent_of_unarmed _ _ unarmed, h]

/-- The port grants: the input is not held, the controller is ready, and the port is not in its safe state. -/
def State.grants (s : State) (n : Nat) : Prop :=
  (s.mpt n).held = false ∧ (s.mpt n).ctrlReady = true ∧ s.fld (xx_ERR_STATUS_SAFE .mp) n = 0

/-- The requesters with a transaction that may be granted (R431). -/
def State.asking (s : State) (n : Nat) : List Nat :=
  (if s.fld FB_ANCHOR_STATUS_STOPPED = 1 then [12] else List.range 13).filter fun k => (s.head n k).isSome

theorem State.arbitrate_of_idle (idle : ¬ s.grants n) : s.arbitrate n = s := by
  have safe : s.fld (xx_ERR_STATUS_SAFE .mp) n < 2 := s.fld_lt (xx_ERR_STATUS_SAFE .mp) n 0
  refine if_pos ?_
  by_contra h
  simp only [Bool.or_eq_true, Bool.not_eq_true', beq_iff_eq, not_or, Bool.not_eq_true, Bool.not_eq_false] at h
  obtain ⟨⟨free, ready⟩, serving⟩ := h
  exact idle ⟨free, ready, by omega⟩

theorem State.arbitrate_of_runs (runs : s.grants n) :
    s.arbitrate n =
      if (s.mpt n).debugHead.isSome then s.grantDbg n
      else if (s.mpt n).suspended.isSome then
        s.modMp n fun m => { m with cur := m.suspended, suspended := none, issued := m.issued ++ m.cur.toList }
      else if s.asking n = [] then s.modMp n fun m => { m with parked := true }
      else if s.asking n = [(s.mpt n).owner] then
        match s.head n (s.mpt n).owner with
        | some t => s.serveTx n (s.mpt n).owner t true
        | none => s
      else
        match ((s.commitPrio n).mpt n).winner (s.asking n) with
        | none => s.commitPrio n
        | some k => match (s.commitPrio n).head n k with
          | some t => (s.commitPrio n).serveTx n k t false
          | none => s.commitPrio n := by
  obtain ⟨free, ready, safe⟩ := runs
  refine (if_neg ?_).trans rfl
  simp [free, ready, safe]

theorem State.grants_noteWaits : (s.noteWaits n).grants n ↔ s.grants n := by
  rw [State.grants, State.mpt_noteWaits]
  rfl

theorem State.asking_noteWaits : (s.noteWaits n).asking n = s.asking n := by
  simp only [State.asking, State.head_noteWaits]
  rfl

end

/-- Settles O39: the branches of an mc cycle, the choice of the winner, and what a grant makes of the port. -/
theorem arbitersGrantByLevelAndTurn : Obligations.ArbitersGrantByLevelAndTurn := by
  unfold Obligations.ArbitersGrantByLevelAndTurn
  intro s n port unarmed m w stop runs dbg q
  have gives {t : State} (h : w.arbitrate n = t) : Gives (.arbitrate n) s t := gives_arbitrate port unarmed h
  have mw : w.mpt n = { m with since := (w.mpt n).since } := State.mpt_noteWaits s n
  have branches (h : runs) := State.arbitrate_of_runs (State.grants_noteWaits.mpr h : w.grants n)
  have debug : (w.mpt n).debugHead = m.debugHead := by rw [mw]; rfl
  have suspended : (w.mpt n).suspended = m.suspended := by rw [mw]
  have owner : (w.mpt n).owner = m.owner := by rw [mw]
  have goPend : (w.mpt n).goPend = m.goPend := by rw [mw]
  have asking : w.asking n = q := State.asking_noteWaits
  refine ⟨mw, fun t first => ?_, fun none => ?_, fun idle => gives (State.arbitrate_of_idle fun h => idle (State.grants_noteWaits.mp h)),
    fun h debugs => gives ?_, fun h quiet waits => gives ?_, fun h quiet none empty => gives ?_,
    fun t h quiet none alone head => gives ?_, fun t k h quiet none some contested settled won head => gives ?_,
    fun p0 p1 h quiet none some contested go => (gives rfl).does ?_, fun l some => m.winner_spec some, fun t k b allowed => ?_,
    fun t p k b pkt refused => ?_, fun t k none => ?_, fun t k id tag own => ⟨State.mpt_grantTx false tag own, MPort.tag_free tag⟩⟩
  · simp only [MPort.debugHead, first, Option.bind_some]
  · simp only [MPort.debugHead, none, Option.bind_none]
  · rw [branches h, debug, if_pos debugs]
  · rw [branches h, debug, suspended, if_neg (by simpa [dbg] using quiet), if_pos waits, State.modMp, mw]
  · rw [branches h, debug, suspended, none, asking, empty, if_neg (by simpa [dbg] using quiet), if_neg (by simp), if_pos rfl]
  · rw [branches h, debug, suspended, none, owner, asking, alone, if_neg (by simpa [dbg] using quiet), if_neg (by simp), if_neg (by simp),
      if_pos rfl, State.head_noteWaits, head]
  · have kept : w.commitPrio n = w := State.commitPrio_of_none (goPend.trans settled)
    have winner : (w.mpt n).winner q = m.winner q := by rw [mw]; rfl
    rw [branches h, debug, suspended, none, owner, asking, if_neg (by simpa [dbg] using quiet), if_neg (by simp), if_neg some,
      if_neg contested, kept, winner, won]
    simp only [w, State.head_noteWaits, head]
  · have commits := State.mpt_commitPrio (goPend.trans go)
    have spad : (w.commitPrio n).spad = s.spad := State.spad_commitPrio
    rw [branches h, debug, suspended, none, owner, asking, if_neg (by simpa [dbg] using quiet), if_neg (by simp), if_neg some,
      if_neg contested]
    have rest (k : Nat) (t : MTx) : let u := (w.commitPrio n).serveTx n k t false
        (u.mpt n).prio0 = p0 ∧ (u.mpt n).prio1 = p1 ∧ (u.mpt n).goPend = Option.none ∧ u.spad = s.spad := by
      obtain ⟨e0, e1, e2, e3⟩ := State.serveTx_keeps (s := w.commitPrio n) (n := n) k t false
      exact ⟨by rw [e0, commits], by rw [e1, commits], by rw [e2, commits], e3.trans spad⟩
    have same : ((w.commitPrio n).mpt n).prio0 = p0 ∧ ((w.commitPrio n).mpt n).prio1 = p1 ∧ ((w.commitPrio n).mpt n).goPend = Option.none ∧
        (w.commitPrio n).spad = s.spad := by
      rw [commits]
      exact ⟨rfl, rfl, rfl, spad⟩
    split
    · exact same
    · split
      · exact rest _ _
      · exact same
  · rw [State.serveTx, allowed]
    rfl
  · have denied : (s.mpt n).denied t = true := by
      rw [MPort.denied, pkt]
      exact congrArg (!·) refused
    rw [State.serveTx, if_pos denied, pkt]
    rfl
  · rw [State.grantTx, none]

end Sys2Proof.Machine

/-! # Members of a reduction (R187 to R191, R201, R224): the proof of MembersContributeAndReceive -/

namespace Sys2Proof.Machine

section

variable {s : State} {n id rid : Nat} {p : Pkt} {d : Desc} {m : RMember}

theorem State.redm?_spec (h : s.redm? n rid = some m) : m.ni = n ∧ m.rid = rid := by
  simpa using List.find?_some h

theorem State.redm?_updRedm {f : RMember → RMember} (h : s.redm? n rid = some m) (ni : (f m).ni = m.ni) (same : (f m).rid = m.rid) :
    (s.updRedm n rid f).redm? n rid = some (f m) := by
  obtain ⟨hni, hrid⟩ := State.redm?_spec h
  exact find?_updFirst h (by simp [ni, same, hni, hrid])

/-- A member that has sent its rounds and waits for acknowledgements sends nothing. -/
theorem State.redSend_of_sent (ten fuel : Nat) (member : s.redm? n rid = some m) (sent : m.total ≤ m.next) :
    s.redSend n rid ten fuel = s := by
  cases fuel with
  | zero => rfl
  | succ fuel => simp only [State.redSend, member, sent, or_true, if_true]

theorem State.redPump_of_waiting (member : s.redm? n rid = some m) (desc : (s.desc? m.desc).isSome = true) (sent : m.total ≤ m.next)
    (waits : m.out ≠ []) : s.redPump n rid = s := by
  obtain ⟨d, hd⟩ := Option.isSome_iff_exists.mp desc
  simp only [State.redPump, member, Option.bind_some, hd, if_false, State.redSend_of_sent _ _ member sent, waits, false_and, and_false]

/-! ## What the rows do -/

theorem gives_reduce_bad {st : Nat} {rest : List Nat} (tile : n < 2304) (started : s.Started n id 0x10 d)
    (bad : s.redBad d (s.redMember d) = st :: rest) :
    Gives (.reduce n id) s
      ((s.traceRec n 0x0A d.ten (some d.trace) 1 (s.redMember d).group (s.redMember d).rid (firstStatus (st :: rest))).finish id
        (firstStatus (st :: rest))) := by
  refine gives_onDesc _ (exec_reduce n id s) (by simp [Instr.wf, okSlot, tile]) started ?_
  simp only [bad]

/-- A REDUCE waits in its NI's line: the NI runs eight, or another is at the head (R224). -/
def State.redWaits (s : State) (n id : Nat) : Prop :=
  8 ≤ (s.redm.filter fun x => x.ni == n).length ∨ (s.redQueue n ≠ [] ∧ (s.redQueue n).head? ≠ some id)

theorem State.behind_iff (q : List Nat) :
    (match q.head? with | some i => i != id | none => false) = true ↔ q ≠ [] ∧ q.head? ≠ some id := by
  cases q <;> simp

theorem gives_reduce_waiting (tile : n < 2304) (started : s.Started n id 0x10 d) (good : s.redBad d (s.redMember d) = [])
    (waits : s.redWaits n id) :
    Gives (.reduce n id) s (if id ∈ s.redQueue n then s else { s with redWait := s.redWait ++ [id] }) := by
  refine gives_onDesc _ (exec_reduce n id s) (by simp [Instr.wf, okSlot, tile]) started ?_
  have line := waits.imp_right (State.behind_iff _).mpr
  simp only [good, List.contains_eq_mem, decide_eq_true_eq]
  exact if_pos line

theorem gives_reduce_running (tile : n < 2304) (started : s.Started n id 0x10 d) (good : s.redBad d (s.redMember d) = [])
    (runs : ¬ s.redWaits n id) :
    Gives (.reduce n id) s
      (if (s.redm? n (s.redMember d).rid).isSome = true then
        ((((s.redCause n RT_RED_STATUS_ORDER).redFail n (s.redMember d).rid stABORTED).traceRec n 0x0A d.ten (some d.trace) 1
          (s.redMember d).group (s.redMember d).rid stABORTED).dequeueRed id).finish id stABORTED
      else (({ s with redm := s.redm ++ [s.redMember d] }.dequeueRed id).descBusy id).redPump n (s.redMember d).rid) := by
  refine gives_onDesc _ (exec_reduce n id s) (by simp [Instr.wf, okSlot, tile]) started ?_
  have first := fun h => runs (Or.imp_right (State.behind_iff _).mp h)
  simp only [good]
  exact if_neg first

/-- A delivery to the reduction unit and the NI of a slot that is in service. -/
theorem State.atRed_of_up (f : State → State) (thawed : s.frozenAt n = false) (up : s.niUp n = true) :
    s.atRed n p f = f (s.takeNet (.unit (niLoc n)) p) := by
  have still : (s.takeNet (.unit (niLoc n)) p).routerUp n = true := by
    simp only [State.niUp, Bool.and_eq_true] at up
    exact up.1.1
  simp only [State.atRed, thawed, still, Bool.false_eq_true, if_false, if_true]

theorem gives_redAck_own (tile : n < 2304) (ok : okPkt p = true) (up : s.niUp n = true) (thawed : s.frozenAt n = false)
    (kind : p.kind = opRED_ACK) (own : p.src.slot = n) :
    Gives (.redAck n p) s ((s.takeNet (.unit (niLoc n)) p).redAckMember n p) := by
  refine Gives.of_run (exec_redAck n p s) (by simp [Instr.wf, okSlot, tile, ok]) ?_
  have still : (s.takeNet (.unit (niLoc n)) p).niUp n = true := up
  simp only [kind, own, State.atRed_of_up _ thawed up, still, ne_eq, not_true_eq_false, if_false, if_true]

theorem State.redAckMember_of_unknown (member : s.redm? n (p.arg 0) = some m) (unknown : (m.out.any fun e => e.1 == p.arg 1) = false) :
    s.redAckMember n p = s := by
  simp only [State.redAckMember, member, Option.bind_some]
  split
  · next x d hx _ =>
    obtain rfl := Option.some.inj hx
    rw [if_neg (by simp [unknown])]
  · rfl

theorem length_delFirst_of_any {α : Type} {q : α → Bool} {l : List α} (h : l.any q = true) : (delFirst q l).length + 1 = l.length := by
  induction l with
  | nil => simp at h
  | cons a l ih =>
    by_cases ha : q a = true
    · simp [delFirst, ha]
    · simp only [delFirst, ha, if_false, Bool.false_eq_true, List.length_cons]
      rw [ih (by simpa [ha] using h)]

/-- An acknowledged round is forgotten; while others wait, nothing else changes (R190). -/
theorem State.redAckMember_of_more (member : s.redm? n (p.arg 0) = some m) (desc : (s.desc? m.desc).isSome = true)
    (known : (m.out.any fun e => e.1 == p.arg 1) = true) (sent : m.total ≤ m.next) (more : 2 ≤ m.out.length) :
    s.redAckMember n p = s.updRedm n (p.arg 0) fun x => { x with out := delFirst (fun e => e.1 == p.arg 1) m.out } := by
  obtain ⟨d, hd⟩ := Option.isSome_iff_exists.mp desc
  have waits : delFirst (fun e => e.1 == p.arg 1) m.out ≠ [] := by
    have := length_delFirst_of_any known
    exact List.ne_nil_of_length_pos (by omega)
  simp only [State.redAckMember, member, Option.bind_some, hd, known, if_true, waits, false_and, if_false]
  exact State.redPump_of_waiting (State.redm?_updRedm (f := fun x => { x with out := delFirst (fun e => e.1 == p.arg 1) m.out }) member rfl rfl)
    desc sent waits

theorem gives_redBusy_own (tile : n < 2304) (ok : okPkt p = true) (up : s.niUp n = true) (thawed : s.frozenAt n = false)
    (kind : p.kind = opRED_BUSY) (own : p.src.slot = n) (member : s.redm? n (p.arg 0) = some m)
    (known : (m.out.any fun e => e.1 == p.arg 1) = true) :
    Gives (.redBusy n p) s (((s.takeNet (.unit (niLoc n)) p).updRedm n (p.arg 0) fun x => { x with
      out := updFirst (fun e => e.1 == p.arg 1) (fun e => (e.1, e.2.1, true)) x.out }).niCause n NI_RED_STATUS_BUSY 13 0) := by
  refine Gives.of_run (exec_redBusy n p s) (by simp [Instr.wf, okSlot, tile, ok]) ?_
  have found : (s.takeNet (.unit (niLoc n)) p).redm? n (p.arg 0) = some m := member
  simp only [kind, own, State.atRed_of_up _ thawed up, found, known, ne_eq, not_true_eq_false, if_false, if_true]

theorem gives_redResend_own (tile : n < 2304) (ok : okPkt p = true) (up : s.niUp n = true) (thawed : s.frozenAt n = false)
    (kind : p.kind = opRED_DATA) (member : s.redm? n (p.arg 0) = some m)
    (mine : (m.out.any fun e => decide (e.2.1 = p) && e.2.2) = true) :
    Gives (.redResend n p) s ((s.updRedm n (p.arg 0) fun x => { x with
      out := updFirst (fun e => decide (e.2.1 = p)) (fun e => (e.1, p, false)) x.out }).enqueue n p.flow p) := by
  refine Gives.of_run (exec_redResend n p s) (by simp [Instr.wf, okSlot, tile, ok]) ?_
  have router : s.routerUp n = true := by
    simp only [State.niUp, Bool.and_eq_true] at up
    exact up.1.1
  simp only [kind, thawed, router, member, mine, up, ne_eq, not_true_eq_false, Bool.false_eq_true, Bool.true_eq_false, or_self, if_false, if_true]

/-- A result of a reduction that goes on is written at DST, counted, and its status kept (R191). -/
theorem gives_redResult (tile : n < 2304) (ok : okPkt p = true) (up : s.niUp n = true) (thawed : s.frozenAt n = false)
    (kind : p.kind = opRED_RESULT) (member : s.redm? n (p.arg 0) = some m) (final : p.arg 2 = 0)
    (sent : m.next = m.total) (waits : m.out ≠ []) (desc : (s.desc? m.desc).isSome = true) :
    Gives (.redResult n p false) s
      (((s.takeNet (.unit (niLoc n)) p).spadWrite n (m.dst + p.data.length * p.arg 1) p.data).updRedm n (p.arg 0) fun x => { x with
        got := x.got + 1
        fin := x.fin || p.arg 3 == 1
        sts := x.sts ++ ((if p.arg 5 = 1 then [stDATA_ERROR] else []) ++ (if p.arg 4 = 1 then [stREDUCE_OVERFLOW] else [])) }) := by
  refine Gives.of_run (exec_redResult n p false s) (by simp [Instr.wf, okSlot, tile, ok]) ?_
  have found : (s.takeNet (.unit (niLoc n)) p).redm? n (p.arg 0) = some m := member
  simp only [kind, State.atNi_of_up _ thawed up, found, final, Bool.false_eq_true, false_or, ne_eq, not_true_eq_false, if_false,
    Nat.zero_ne_one]
  exact State.redPump_of_waiting (State.redm?_updRedm (s := (s.takeNet (.unit (niLoc n)) p).spadWrite n _ _) (f := fun x => { x with
    got := x.got + 1
    fin := x.fin || p.arg 3 == 1
    sts := x.sts ++ ((if p.arg 5 = 1 then [stDATA_ERROR] else []) ++ (if p.arg 4 = 1 then [stREDUCE_OVERFLOW] else [])) }) member rfl rfl)
    desc (le_of_eq sent.symm) waits

end

/-- Settles O19: what each row does to a member, from its own lemma. -/
theorem membersContributeAndReceive : Obligations.MembersContributeAndReceive := by
  unfold Obligations.MembersContributeAndReceive
  intro s n id rid p ue d m tile hrid ok up thawed
  refine ⟨fun started => ⟨fun st rest bad => gives_reduce_bad tile started bad, fun good => ?_⟩,
    fun kind own member unknown => ?_, fun kind own member desc known sent _ more => ?_, fun kind own member known =>
      gives_redBusy_own tile ok up thawed kind own member known, fun kind member mine => gives_redResend_own tile ok up thawed kind member mine,
    fun kind member noError final _ goesOn open_ sent waits desc => ?_, fun none => ?_, fun member empty => ?_, fun member waits => ?_⟩
  · exact ⟨fun waits => gives_reduce_waiting tile started good waits,
      fun runs twice => (gives_reduce_running tile started good runs).congr (if_pos (Option.isSome_iff_ne_none.mpr twice)),
      fun runs fresh => (gives_reduce_running tile started good runs).congr (if_neg (by simp [fresh]))⟩
  · exact (gives_redAck_own tile ok up thawed kind own).congr (State.redAckMember_of_unknown member unknown)
  · refine ((gives_redAck_own tile ok up thawed kind own).congr (State.redAckMember_of_more member desc known sent more)).does ?_
    exact ⟨State.redm?_updRedm (s := s.takeNet _ p) (f := fun x => { x with out := delFirst (fun e => e.1 == p.arg 1) m.out }) member rfl rfl,
      rfl, rfl⟩
  · subst noError
    refine (gives_redResult tile ok up thawed kind member final sent waits desc).does ⟨rfl, ?_, rfl⟩
    refine (State.redm?_updRedm (s := (s.takeNet (.unit (niLoc n)) p).spadWrite n _ _) member rfl rfl).trans ?_
    simp [goesOn, open_]
  · exact Gives.of_run (exec_redLimitExpire n rid s) (by simp [Instr.wf, okSlot, tile, hrid]) (by simp only [none])
  · exact Gives.of_run (exec_redLimitExpire n rid s) (by simp [Instr.wf, okSlot, tile, hrid]) (by simp only [member, empty, true_or, if_true])
  · exact Gives.of_run (exec_redLimitExpire n rid s) (by simp [Instr.wf, okSlot, tile, hrid])
      (by simp only [member, waits, up, thawed, Bool.true_eq_false, Bool.false_eq_true, or_self, if_false])

end Sys2Proof.Machine

/-! # Members of a tenancy (R368 to R373): the refutation of MembersMoveByTheirTable -/

namespace Sys2Proof.Machine

/-- A fold whose steps keep a property keeps it. -/
theorem foldl_keeps {α β : Type} {P : β → Prop} {f : β → α → β} {l : List α} {b : β} (h : P b) (step : ∀ b a, a ∈ l → P b → P (f b a)) :
    P (l.foldl f b) := by
  induction l generalizing b with
  | nil => exact h
  | cons a l ih => exact ih (step b a (List.mem_cons_self ..) h) fun b c hc => step b c (List.mem_cons_of_mem _ hc)

/-- A fold of steps that do nothing does nothing. -/
theorem foldl_eq_self {α β : Type} {f : β → α → β} {l : List α} {b : β} (h : ∀ a ∈ l, f b a = b) : l.foldl f b = b := by
  refine foldl_keeps (P := (· = b)) rfl fun c a ha hc => ?_
  rw [hc, h a ha]

/-! ## The counterexample

TN_DESC counts the descriptors of a tenancy, at an address that the tenancy gives. The statement is about every state, and so also about one
with a descriptor of tenancy 16130, which R211 admits to no queue: its count lies where NI_HDL_CFG 4 of NI 0 does. The WAIT that a scrub ends
there adds one to that register, and the carry sets RETAIN before the scrub looks at it. -/

/-- NI 0 is in service; its handle 4 is VALID and not RETAIN, every other bit of NI_HDL_CFG 4 is 1, and a WAIT on the handle's open window
belongs to a descriptor of tenancy 16130. -/
def strayTenancy : State :=
  let powered := (State.reset.setFld BN_PWR_EN0_EN (2 ^ 32 - 1)).setFld BN_PWR_EN1_EN 15
  { powered.wr NI_HDL_CFG 0 4 0xBFFFFFFF with
    win := [(4, { state := 1 })]
    waits := [⟨1, 0, 1, 4, 0, 1, 0⟩]
    descs := [⟨1, 0, 0, 0, [0x19], 16130, 2, 0, 0, [], 0, false, false⟩] }

theorem strayTenancy_up : strayTenancy.niUp 0 = true ∧ strayTenancy.frozenAt 0 = false := by decide +kernel

theorem strayTenancy_retain : strayTenancy.fld NI_HDL_CFG_RETAIN 0 4 = 0 := by decide +kernel

/-- Only the window of handle 4 is open. -/
theorem strayTenancy_closed : ∀ h ∈ List.range 4, ¬ ((strayTenancy.window 0 h).state ≠ 0 ∨ (strayTenancy.window 0 h).closes ≠ []) := by
  decide +kernel

theorem strayTenancy_closeNow_closed : ∀ h ∈ List.range' 5 251,
    ¬ (((strayTenancy.closeNow 0 4 false).window 0 h).state ≠ 0 ∨ ((strayTenancy.closeNow 0 4 false).window 0 h).closes ≠ []) := by
  decide +kernel

/-- The WAIT that ends counts in the handle's register. -/
theorem strayTenancy_closeNow_config : (strayTenancy.closeNow 0 4 false).rd NI_HDL_CFG 0 4 = 0xC0000000 := by decide +kernel

theorem strayTenancy_closeAll : strayTenancy.closeAll 0 = strayTenancy.closeNow 0 4 false := by
  have cut : List.range 256 = List.range 4 ++ 4 :: List.range' 5 251 := by decide +kernel
  have opened : (strayTenancy.window 0 4).state ≠ 0 ∨ (strayTenancy.window 0 4).closes ≠ [] := by decide +kernel
  rw [State.closeAll, cut, List.foldl_append, foldl_eq_self fun h hh => if_neg (strayTenancy_closed h hh), List.foldl_cons, if_pos opened,
    foldl_eq_self fun h hh => if_neg (strayTenancy_closeNow_closed h hh)]

section

variable {s : State} {n h : Nat}

theorem State.hdlCfg_setState (v : Nat) : (s.setFld NI_TN_STATE_STATE v n).rd NI_HDL_CFG n h = s.rd NI_HDL_CFG n h :=
  State.rd_setFld_ne _ _ _ _ _ _ _ _ (RegDef.addr_ne rfl (by simp only [NI_HDL_CFG, NI_TN_STATE_STATE, NI_TN_STATE]; omega))

theorem State.hdlCfg_setValid {j : Nat} (v : Nat) (other : j ≠ h) :
    (s.setFld NI_HDL_CFG_VALID v n j).rd NI_HDL_CFG n h = s.rd NI_HDL_CFG n h :=
  State.rd_setFld_ne _ _ _ _ _ _ _ _ (RegDef.addr_ne rfl (by simp only [NI_HDL_CFG, NI_HDL_CFG_VALID]; omega))

theorem State.hdlCfg_setEnable {k : Nat} (v : Nat) (few : k < 8) :
    (s.setFld NI_PAIR_BASE_ENABLE v n k).rd NI_HDL_CFG n h = s.rd NI_HDL_CFG n h :=
  State.rd_setFld_ne _ _ _ _ _ _ _ _ (RegDef.addr_ne rfl (by simp only [NI_HDL_CFG, NI_PAIR_BASE_ENABLE, NI_PAIR_BASE]; omega))

/-- A scrub ends the handles that it does not retain (R371). -/
def State.scrubHandles (s : State) (n : Nat) (full : Bool) : State :=
  (List.range 256).foldl (fun s h =>
    if full = true ∨ s.fld NI_HDL_CFG_RETAIN n h = 0 then s.setFld NI_HDL_CFG_VALID 0 n h else s) s

/-- A scrub ends the pairs that are not the system's (R371). -/
def State.scrubPairs (s : State) (n : Nat) : State :=
  (List.range 8).foldl (fun s k => if s.fld NI_PAIR_BASE_SYS n k = 0 then s.setFld NI_PAIR_BASE_ENABLE 0 n k else s) s

theorem State.rd_startScrub (full : Bool) (e w : Nat) (r : RegDef) (i k : Nat) : (s.startScrub n full e w).rd r i k =
    ((((s.closeAll n).setFld NI_TN_STATE_STATE (if full then 4 else 3) n).scrubHandles n full).scrubPairs n).rd r i k := rfl

theorem State.hdlCfg_scrubHandles (config : s.rd NI_HDL_CFG n h = 0xC0000000) :
    (s.scrubHandles n false).rd NI_HDL_CFG n h = 0xC0000000 := by
  refine foldl_keeps (P := fun u : State => u.rd NI_HDL_CFG n h = 0xC0000000) config fun u j _ hu => ?_
  split
  · next clears =>
    refine (State.hdlCfg_setValid 0 ?_).trans hu
    rintro rfl
    have retain : u.fld NI_HDL_CFG_RETAIN n j = bits (u.rd NI_HDL_CFG n j) 30 30 := rfl
    rw [retain, hu] at clears
    exact absurd clears (by decide)
  · exact hu

theorem State.hdlCfg_scrubPairs : (s.scrubPairs n).rd NI_HDL_CFG n h = s.rd NI_HDL_CFG n h := by
  refine foldl_keeps (P := fun u : State => u.rd NI_HDL_CFG n h = s.rd NI_HDL_CFG n h) rfl fun u k hk hu => ?_
  split
  · exact (State.hdlCfg_setEnable 0 (List.mem_range.mp hk)).trans hu
  · exact hu

/-- A scrub keeps the register of a handle that is VALID and RETAIN as it looks. -/
theorem State.startScrub_retained (e w : Nat) (config : (s.closeAll n).rd NI_HDL_CFG n h = 0xC0000000) :
    (s.startScrub n false e w).fld NI_HDL_CFG_VALID n h = 1 := by
  have kept : (s.startScrub n false e w).rd NI_HDL_CFG n h = 0xC0000000 := by
    rw [State.rd_startScrub, State.hdlCfg_scrubPairs]
    exact State.hdlCfg_scrubHandles ((State.hdlCfg_setState _).trans config)
  have valid : (s.startScrub n false e w).fld NI_HDL_CFG_VALID n h = bits ((s.startScrub n false e w).rd NI_HDL_CFG n h) 31 31 := rfl
  rw [valid, kept]
  rfl

end

/-- Refutes O45: a scrub may leave a handle VALID whose RETAIN was 0, where a descriptor of a tenancy out of range ends with it. -/
theorem not_membersMoveByTheirTable : ¬ Obligations.MembersMoveByTheirTable := by
  unfold Obligations.MembersMoveByTheirTable
  intro h
  obtain ⟨up, thawed⟩ := strayTenancy_up
  obtain ⟨-, -, scrub, -⟩ := h strayTenancy 0 0 false (mkPkt opSLICE bnLoc (niLoc 0) 0 0 0 []) (by decide) (by decide) (by decide) up thawed
  obtain ⟨-, valid, -⟩ := scrub false 0 0
  have cleared := valid 4 (by decide) (.inr strayTenancy_retain)
  rw [State.startScrub_retained 0 0 (by rw [strayTenancy_closeAll]; exact strayTenancy_closeNow_config)] at cleared
  exact absurd cleared (by decide)

end Sys2Proof.Machine

/-! # The mailbox (R383 to R385, R416): the proof of MailboxRequestsAreServedOrRefused -/

namespace Sys2Proof.Machine

/-! ## Register writes without a copy at Stolrel -/

/-- A write of a register that Stolrel keeps no copy of changes only the packets in flight. -/
theorem State.serveWrite_unmirrored (s : State) {off : Nat} {r : RegDef} {i k : Nat} (v : Nat) (at_ : locate off = some (r, i, k))
    (own : mirrored.contains r = false) : ∃ net, s.serveWrite off v = { s with net := net } := by
  have same (s : State) : s.mirrorWrite off v = s := by
    simp only [State.mirrorWrite, at_, own, Bool.false_eq_true, if_false]
  simp only [State.serveWrite, same]
  split
  · exact ⟨s.net, rfl⟩
  · split <;> exact ⟨_, rfl⟩

/-! ## The write of BN_MBOX_CMD -/

section

variable {s : State} {v req : Nat} {bad : Bool}

/-- The state in which a request is served: its write is answered, and BUSY is set (R383). -/
def State.mboxTaken (s : State) (v : Nat) : State := (s.serveWrite (BN_MBOX_CMD.addr 0 0) v).setFld BN_MBOX_STATUS_BUSY 1

theorem State.serveWrite_mbox (s : State) (v : Nat) : ∃ net, s.serveWrite (BN_MBOX_CMD.addr 0 0) v = { s with net := net } :=
  s.serveWrite_unmirrored (r := BN_MBOX_CMD) (i := 0) (k := 0) v (by decide +kernel) (by decide +kernel)

/-- Taking a request changes only BN_MBOX_STATUS and the packets in flight. -/
theorem State.mboxTaken_frame (s : State) (v : Nat) : ∃ net, s.mboxTaken v = { s.setFld BN_MBOX_STATUS_BUSY 1 with net := net } := by
  obtain ⟨net, e⟩ := s.serveWrite_mbox v
  exact ⟨net, by rw [State.mboxTaken, e]; rfl⟩

theorem State.mboxTaken_fld {f : Fld} {i k : Nat} (h : f.reg.addr i k ≠ BN_MBOX_STATUS.addr 0 0) : (s.mboxTaken v).fld f i k = s.fld f i k := by
  obtain ⟨net, e⟩ := s.mboxTaken_frame v
  rw [e]
  exact State.fld_setFld_ne _ _ _ _ _ _ _ _ h

theorem State.mboxTaken_bn : (s.mboxTaken v).bn = s.bn := by
  obtain ⟨net, e⟩ := s.mboxTaken_frame v
  rw [e]
  rfl

theorem State.mboxTaken_bnUp : (s.mboxTaken v).bnUp = s.bnUp := by
  obtain ⟨net, e⟩ := s.mboxTaken_frame v
  rw [e]
  rfl

theorem State.mboxTaken_state : (s.mboxTaken v).fld BN_STATE_STATE = s.fld BN_STATE_STATE := State.mboxTaken_fld (by decide)

/-- What a write of BN_MBOX_CMD does (R383, R416). -/
theorem State.mboxCmd_eq (hreq : v % 256 = req) :
    s.mboxCmd v bad =
      if s.fld BN_MBOX_STATUS_BUSY = 1 then (s.serveWrite (BN_MBOX_CMD.addr 0 0) v).setFld BN_MBOX_STATUS_DROPPED 1
      else if req = 0 then s.serveWrite (BN_MBOX_CMD.addr 0 0) v
      else if s.bnUp then (s.mboxTaken v).mboxStolrel req bad
      else if s.fld BN_STATE_STATE = 1 ∧ s.bn.clockLost = false then (s.mboxTaken v).mboxLoader req (bits v 31 8) bad
      else s.mboxTaken v := by
  have alive : s.regAlive (BN_MBOX_CMD.addr 0 0) = true := by
    have block : blockOf (BN_MBOX_CMD.addr 0 0) = some (.bn, 0) := by decide +kernel
    rw [State.regAlive, block]
  have number : bits v 7 0 = req := by
    rw [← hreq]
    rfl
  obtain ⟨net, e⟩ := s.serveWrite_mbox v
  have busy : (s.serveWrite (BN_MBOX_CMD.addr 0 0) v).fld BN_MBOX_STATUS_BUSY = s.fld BN_MBOX_STATUS_BUSY := by rw [e]; rfl
  rw [State.mboxCmd, State.regWrite, if_pos alive, ← s.mboxTaken_bn (v := v), ← s.mboxTaken_bnUp (v := v), ← s.mboxTaken_state (v := v), ← busy,
    ← number]
  rfl

/-- The eight requests are all a write of BN_MBOX_CMD. -/
theorem gives_mbox {c : Sys2Proof.Instr} {t : State} (hv : v < 2 ^ 32)
    (hc : c ∈ [Instr.groupDefine v bad, .groupUndefine v bad, .ridDefine v bad, .ridUndefine v bad, .stageImage v bad, .logCopy v bad,
      .recvChunk v bad, .recvEnd v bad]) (h : s.mboxCmd v bad = t) : Gives c s t := by
  have wf : okW v = true := by simpa [okW] using hv
  simp only [List.mem_cons, List.not_mem_nil, or_false] at hc
  rcases hc with rfl | rfl | rfl | rfl | rfl | rfl | rfl | rfl
  · exact Gives.of_run (exec_groupDefine v bad s) wf h
  · exact Gives.of_run (exec_groupUndefine v bad s) wf h
  · exact Gives.of_run (exec_ridDefine v bad s) wf h
  · exact Gives.of_run (exec_ridUndefine v bad s) wf h
  · exact Gives.of_run (exec_stageImage v bad s) wf h
  · exact Gives.of_run (exec_logCopy v bad s) wf h
  · exact Gives.of_run (exec_recvChunk v bad s) wf h
  · exact Gives.of_run (exec_recvEnd v bad s) wf h

theorem State.mboxCmd_of_busy (busy : s.fld BN_MBOX_STATUS_BUSY = 1) :
    s.mboxCmd v bad = (s.serveWrite (BN_MBOX_CMD.addr 0 0) v).setFld BN_MBOX_STATUS_DROPPED 1 := by
  rw [State.mboxCmd_eq rfl, if_pos busy]

theorem State.mboxCmd_of_stolrel (hreq : v % 256 = req) (idle : s.fld BN_MBOX_STATUS_BUSY ≠ 1) (some : req ≠ 0) (up : s.bnUp = true) :
    s.mboxCmd v bad = (s.mboxTaken v).mboxStolrel req bad := by
  rw [State.mboxCmd_eq hreq, if_neg idle, if_neg some, if_pos up]

theorem State.mboxCmd_of_loader (hreq : v % 256 = req) (hv : v < 2 ^ 32) (idle : s.fld BN_MBOX_STATUS_BUSY ≠ 1) (some : req ≠ 0)
    (loader : s.bnUp = false ∧ s.fld BN_STATE_STATE = 1 ∧ s.bn.clockLost = false) :
    s.mboxCmd v bad = (s.mboxTaken v).mboxLoader req (v / 256) bad := by
  have arg : bits v 31 8 = v / 256 := by
    simp only [bits, Nat.shiftRight_eq_div_pow]
    omega
  rw [State.mboxCmd_eq hreq, if_neg idle, if_neg some, if_neg (by simp [loader.1]), if_pos loader.2, arg]

/-! ## What Stolrel serves -/

theorem State.mboxStolrel_of_aborted (other : req ∉ [0, 6, 7, 8]) (out : s.fld BN_STATE_STATE ≠ 3 ∨ s.bn.lost = true) :
    s.mboxStolrel req bad = s.mboxEnd req stABORTED none := by
  simp only [List.mem_cons, List.not_mem_nil, or_false, not_or] at other
  obtain ⟨-, six, seven, eight⟩ := other
  unfold State.mboxStolrel
  exact (if_neg six).trans (if_pos ⟨out, seven, eight⟩)

/-- Stolrel is in READY and its range of HBM is whole. -/
def State.serving (s : State) : Prop := s.fld BN_STATE_STATE = 3 ∧ s.bn.lost = false

theorem State.serving.not_out (h : s.serving) (six seven : Prop) :
    ¬ ((s.fld BN_STATE_STATE ≠ 3 ∨ s.bn.lost = true) ∧ six ∧ seven) := by
  simp [h.1, h.2]

theorem State.mboxStolrel_group (h : s.serving) : s.mboxStolrel 1 bad = State.mboxRes 1 (s.mboxGroup bad) := by
  unfold State.mboxStolrel
  exact (if_neg (by decide)).trans (if_neg (h.not_out _ _))

theorem State.mboxStolrel_ungroup (h : s.serving) : s.mboxStolrel 2 bad = State.mboxRes 2 (s.mboxUngroup bad) := by
  unfold State.mboxStolrel
  exact (if_neg (by decide)).trans (if_neg (h.not_out _ _))

theorem State.mboxStolrel_rid (h : s.serving) : s.mboxStolrel 3 bad = State.mboxRes 3 (s.mboxRid bad) := by
  unfold State.mboxStolrel
  exact (if_neg (by decide)).trans (if_neg (h.not_out _ _))

theorem State.mboxStolrel_unrid (h : s.serving) : s.mboxStolrel 4 bad = State.mboxRes 4 (s.mboxUnrid bad) := by
  unfold State.mboxStolrel
  exact (if_neg (by decide)).trans (if_neg (h.not_out _ _))

theorem State.mboxStolrel_unlisted (h : req = 7 ∨ req = 8 ∨ (s.serving ∧ 9 ≤ req)) :
    s.mboxStolrel req bad = s.mboxEnd req stBAD_DESCRIPTOR none := by
  rcases h with rfl | rfl | ⟨serving, high⟩
  · unfold State.mboxStolrel
    exact (if_neg (by decide)).trans (if_neg (by simp))
  · unfold State.mboxStolrel
    exact (if_neg (by decide)).trans (if_neg (by simp))
  · obtain ⟨k, rfl⟩ := Nat.exists_eq_add_of_le' high
    unfold State.mboxStolrel
    exact (if_neg (by omega)).trans (if_neg (serving.not_out _ _))

theorem State.mboxLoader_of_aborted {arg : Nat} (other : req ∉ [0, 6, 7, 8]) : s.mboxLoader req arg bad = s.mboxEnd req stABORTED none := by
  simp only [List.mem_cons, List.not_mem_nil, or_false, not_or] at other
  obtain ⟨-, six, seven, eight⟩ := other
  unfold State.mboxLoader
  exact (if_neg six).trans ((if_neg seven).trans (if_neg eight))

/-! ## GROUP and RID requests (R384, R385) -/

theorem State.mboxOfs_one : s.mboxOfs 1 = s.rd BN_MBOX_DATA 0 1 + s.rd BN_MBOX_DATA 0 2 * 2 ^ 32 := by
  unfold State.mboxOfs State.mboxData
  rw [Nat.shiftLeft_eq]

section

variable {g ofs : Nat} (hg : bits (s.rd BN_MBOX_DATA 0 0) 9 0 = g) (hofs : s.mboxOfs 1 = ofs)

include hg hofs

theorem State.mboxGroup_of_bad (other : g ≠ 1023) (fails : s.grpValid g = true ∨ mapTiles (s.hbmBytes ofs 288) = [] ∨
    (∃ t ∈ mapTiles (s.hbmBytes ofs 288), s.tiles ≤ t) ∨ s.softRange ofs 288 = false) :
    s.mboxGroup bad = (stBAD_DESCRIPTOR, none, s) := by
  subst hg hofs
  unfold State.mboxGroup
  refine (if_neg other).trans ?_
  by_cases valid : s.grpValid (bits (s.rd BN_MBOX_DATA 0 0) 9 0) = true
  · exact if_pos valid
  · refine (if_neg valid).trans ?_
    by_cases map : mapTiles (s.hbmBytes (s.mboxOfs 1) 288) = [] ∨
        (mapTiles (s.hbmBytes (s.mboxOfs 1) 288)).any (fun t => decide (s.tiles ≤ t)) = true
    · exact if_pos map
    · refine (if_neg map).trans (if_pos ?_)
      simp only [List.any_eq_true, decide_eq_true_eq, not_or] at map
      exact (((fails.resolve_left valid).resolve_left map.1).resolve_left map.2)

theorem State.mboxGroup_of_good {tiles : List Nat} {w0 : Nat} (other : g ≠ 1023) (free : s.grpValid g = false)
    (htiles : mapTiles (s.hbmBytes ofs 288) = tiles) (some : tiles ≠ []) (inside : ∀ t ∈ tiles, t < s.tiles)
    (range : s.softRange ofs 288 = true) (hw0 : bits (s.rd BN_MBOX_DATA 0 0) 21 16 * 2 ^ 57 + tiles.length * 2 ^ 45 = w0) :
    s.mboxGroup bad =
      if bad then (stDATA_ERROR, none, s)
      else (stOK, none, ((s.writeTree g tiles [0, 1]).hbmPut (s.grpDir + 512 * g) (toBytes 8 w0 ++ s.hbmBytes ofs 288)).hbmPut
        (s.grpDir + 512 * g) (toBytes 8 (2 ^ 63 + w0))) := by
  subst hg hofs htiles
  have map : ¬ (mapTiles (s.hbmBytes (s.mboxOfs 1) 288) = [] ∨
      (mapTiles (s.hbmBytes (s.mboxOfs 1) 288)).any (fun t => decide (s.tiles ≤ t)) = true) := by
    simpa [List.any_eq_true, some] using inside
  rw [← hw0, ← Nat.shiftLeft_eq, ← Nat.shiftLeft_eq]
  unfold State.mboxGroup
  exact (if_neg other).trans ((if_neg (by simp [State.mboxData, free])).trans ((if_neg map).trans (if_neg (by simp [range]))))

omit hofs in
theorem State.mboxGroup_of_denied (all : g = 1023) : s.mboxGroup bad = (stACCESS_DENIED, none, s) := by
  subst hg
  unfold State.mboxGroup
  exact if_pos all

omit hofs in
theorem State.mboxUngroup_of_denied (all : g = 1023) : s.mboxUngroup bad = (stACCESS_DENIED, none, s) := by
  subst hg
  unfold State.mboxUngroup
  exact if_pos all

omit hofs in
theorem State.mboxUngroup_of_error (other : g ≠ 1023) : s.mboxUngroup true = (stDATA_ERROR, none, s) := by
  subst hg
  unfold State.mboxUngroup
  exact (if_neg other).trans (if_pos rfl)

end

section

variable {rid w : Nat} (hrid : bits (s.rd BN_MBOX_DATA 0 0) 11 0 = rid) (hw : s.mboxOfs 1 = w)

include hrid

theorem State.mboxUnrid_of_denied (all : rid = 4095) : s.mboxUnrid bad = (stACCESS_DENIED, none, s) := by
  subst hrid
  unfold State.mboxUnrid
  exact if_pos all

theorem State.mboxUnrid_of_other (other : rid ≠ 4095) :
    s.mboxUnrid bad = if bad then (stDATA_ERROR, none, s)
      else (stOK, none, s.hbmPut (s.ridAt rid) (toBytes 8 (s.redEntry rid % 2 ^ 63))) := by
  subst hrid
  unfold State.mboxUnrid
  exact if_neg other

theorem State.mboxRid_of_denied (all : rid = 4095) : s.mboxRid bad = (stACCESS_DENIED, none, s) := by
  subst hrid
  unfold State.mboxRid
  exact if_pos all

include hw

theorem State.mboxRid_of_bad (other : rid ≠ 4095) (fails : bit (s.redEntry rid) 63 = true ∨
    fmtOk (reBind rid w).op (reBind rid w).inF (reBind rid w).outF (reBind rid w).k = false ∨ s.tiles ≤ bits w 19 8) :
    s.mboxRid bad = (stBAD_DESCRIPTOR, none, s) := by
  subst hrid hw
  unfold State.mboxRid
  refine (if_neg other).trans ?_
  by_cases taken : bit (s.redEntry (bits (s.rd BN_MBOX_DATA 0 0) 11 0)) 63 = true
  · exact if_pos taken
  · exact (if_neg taken).trans (if_pos (fails.resolve_left taken))

theorem State.mboxRid_of_good (other : rid ≠ 4095) (free : bit (s.redEntry rid) 63 = false)
    (fmt : fmtOk (reBind rid w).op (reBind rid w).inF (reBind rid w).outF (reBind rid w).k = true) (inside : bits w 19 8 < s.tiles) :
    s.mboxRid bad =
      if s.grpValid (reGroup w) = false ∨ s.grpTen (reGroup w) ≠ reTen w then (stACCESS_DENIED, none, s)
      else if bad then (stDATA_ERROR, none, s)
      else (stOK, none, s.hbmPut (s.ridAt rid) (toBytes 8 (setBits w 63 63 1) ++ List.replicate 56 0)) := by
  subst hrid hw
  have passes : ¬ (fmtOk (reBind (bits (s.rd BN_MBOX_DATA 0 0) 11 0) (s.mboxOfs 1)).op (reBind (bits (s.rd BN_MBOX_DATA 0 0) 11 0) (s.mboxOfs 1)).inF
      (reBind (bits (s.rd BN_MBOX_DATA 0 0) 11 0) (s.mboxOfs 1)).outF (reBind (bits (s.rd BN_MBOX_DATA 0 0) 11 0) (s.mboxOfs 1)).k = false ∨
      s.tiles ≤ bits (s.mboxOfs 1) 19 8) := by
    simp only [fmt, Bool.true_eq_false, false_or]
    omega
  unfold State.mboxRid
  exact (if_neg other).trans ((if_neg (by simp [State.mboxData, free])).trans (if_neg passes))

end

/-! ## The end of a request (R383) -/

/-- What the end of a request leaves of the registers. -/
theorem State.mboxEnd_fld {st : Nat} (hst : st < 256) (hreq : req < 256) (res : Option Nat) :
    (s.mboxEnd req st res).fld BN_MBOX_STATUS_STATUS = st ∧ (s.mboxEnd req st res).fld BN_MBOX_STATUS_REQ = req ∧
      (s.mboxEnd req st res).fld BN_MBOX_STATUS_DONE = 1 ∧ (s.mboxEnd req st res).fld BN_MBOX_STATUS_BUSY = 0 := by
  have status (u : State) : ∀ v w : Nat, v < 256 → w < 256 →
      let t := (((u.setFld BN_MBOX_STATUS_STATUS v).setFld BN_MBOX_STATUS_REQ w).setFld BN_MBOX_STATUS_DONE 1).setFld BN_MBOX_STATUS_BUSY 0
      t.fld BN_MBOX_STATUS_STATUS = v ∧ t.fld BN_MBOX_STATUS_REQ = w ∧ t.fld BN_MBOX_STATUS_DONE = 1 ∧ t.fld BN_MBOX_STATUS_BUSY = 0 := by
    intro v w hv hw t
    refine ⟨?_, ?_, ?_, State.fld_setFld_same _ BN_MBOX_STATUS_BUSY 0 0 0 (by decide) (by decide)⟩
    · rw [State.fld_setFld_apart _ BN_MBOX_STATUS_BUSY BN_MBOX_STATUS_STATUS 0 0 0 rfl (by decide) (by decide) (by decide),
        State.fld_setFld_apart _ BN_MBOX_STATUS_DONE BN_MBOX_STATUS_STATUS 1 0 0 rfl (by decide) (by decide) (by decide),
        State.fld_setFld_apart _ BN_MBOX_STATUS_REQ BN_MBOX_STATUS_STATUS _ 0 0 rfl (by decide) (by decide) (by decide),
        State.fld_setFld_same _ BN_MBOX_STATUS_STATUS _ 0 0 (by decide) (by decide)]
      exact Nat.mod_eq_of_lt hv
    · rw [State.fld_setFld_apart _ BN_MBOX_STATUS_BUSY BN_MBOX_STATUS_REQ 0 0 0 rfl (by decide) (by decide) (by decide),
        State.fld_setFld_apart _ BN_MBOX_STATUS_DONE BN_MBOX_STATUS_REQ 1 0 0 rfl (by decide) (by decide) (by decide),
        State.fld_setFld_same _ BN_MBOX_STATUS_REQ _ 0 0 (by decide) (by decide)]
      exact Nat.mod_eq_of_lt hw
    · rw [State.fld_setFld_apart _ BN_MBOX_STATUS_BUSY BN_MBOX_STATUS_DONE 0 0 0 rfl (by decide) (by decide) (by decide),
        State.fld_setFld_same _ BN_MBOX_STATUS_DONE _ 0 0 (by decide) (by decide)]
      rfl
  cases res with
  | none => exact status s st req hst hreq
  | some k => exact status (s.wr BN_MBOX_DATA 0 0 k) st req hst hreq

/-- The end of a request writes BN_MBOX_STATUS and its result. -/
theorem State.mboxEnd_regs (st : Nat) (res : Option Nat) {off : Nat} (d : W32)
    (h : off ∉ [BN_MBOX_STATUS.addr 0 0, BN_MBOX_DATA.addr 0 0]) : (s.mboxEnd req st res).regs.get off d = s.regs.get off d := by
  simp only [List.mem_cons, List.not_mem_nil, or_false, not_or] at h
  obtain ⟨status, data⟩ := h
  have kept (u : State) (v w : Nat) : ((((u.setFld BN_MBOX_STATUS_STATUS v).setFld BN_MBOX_STATUS_REQ w).setFld BN_MBOX_STATUS_DONE 1).setFld
      BN_MBOX_STATUS_BUSY 0).regs.get off d = u.regs.get off d := by
    rw [State.regs_setFld_ne _ _ _ _ _ _ _ status, State.regs_setFld_ne _ _ _ _ _ _ _ status, State.regs_setFld_ne _ _ _ _ _ _ _ status,
      State.regs_setFld_ne _ _ _ _ _ _ _ status]
  cases res with
  | none => exact kept s st req
  | some k => exact (kept (s.wr BN_MBOX_DATA 0 0 k) st req).trans (State.regs_wr_ne _ _ _ _ _ _ _ data)

theorem State.mboxEnd_rd (st : Nat) (res : Option Nat) {r : RegDef} {i k : Nat} (status : r.addr i k ≠ BN_MBOX_STATUS.addr 0 0)
    (data : r.addr i k ≠ BN_MBOX_DATA.addr 0 0) : (s.mboxEnd req st res).rd r i k = s.rd r i k :=
  congrArg BitVec.toNat (State.mboxEnd_regs st res _ (by simp [status, data]))

/-- The result of a request is in BN_MBOX_DATA 0. -/
theorem State.mboxEnd_result (st : Nat) {k : Nat} (hk : k < 2 ^ 32) : (s.mboxEnd req st (some k)).rd BN_MBOX_DATA 0 0 = k := by
  have kept (u : State) (v w : Nat) : ((((u.setFld BN_MBOX_STATUS_STATUS v).setFld BN_MBOX_STATUS_REQ w).setFld BN_MBOX_STATUS_DONE 1).setFld
      BN_MBOX_STATUS_BUSY 0).rd BN_MBOX_DATA 0 0 = u.rd BN_MBOX_DATA 0 0 := by
    rw [State.rd_setFld_ne _ _ _ _ _ _ _ _ (by decide), State.rd_setFld_ne _ _ _ _ _ _ _ _ (by decide),
      State.rd_setFld_ne _ _ _ _ _ _ _ _ (by decide), State.rd_setFld_ne _ _ _ _ _ _ _ _ (by decide)]
  exact (kept (s.wr BN_MBOX_DATA 0 0 k) st req).trans ((State.rd_wr_same ..).trans (Nat.mod_eq_of_lt hk))

theorem State.mboxEnd_irq (st : Nat) (res : Option Nat) : 4096 ∈ ((s.mboxEnd req st res).hpt 0).irq := by
  have raised (u : State) : 4096 ∈ (u.bnIrq.hpt 0).irq := by
    rw [State.bnIrq, State.hpt_modHp_same]
    dsimp only
    split
    · next h => exact List.contains_iff_mem.mp h
    · exact List.mem_append_right _ (List.mem_singleton_self _)
  exact raised _

theorem State.mboxEnd_memories (st : Nat) (res : Option Nat) :
    (s.mboxEnd req st res).hbm = s.hbm ∧ (s.mboxEnd req st res).flash = s.flash := by
  cases res <;> exact ⟨rfl, rfl⟩

/-! ## Undefining a group (R384) -/

/-- A fold establishes what one of its steps establishes and every step keeps. -/
theorem foldl_ensures {α β : Type} {P : β → Prop} {f : β → α → β} {l : List α} {a : α} (mem : a ∈ l) (here : ∀ b, P (f b a))
    (keep : ∀ b c, c ∈ l → P b → P (f b c)) (b : β) : P (l.foldl f b) := by
  obtain ⟨before, after, rfl⟩ := List.append_of_mem mem
  rw [List.foldl_append, List.foldl_cons]
  exact foldl_keeps (here _) fun b c hc => keep b c (by simp [hc])

theorem State.hbmPut_frame (s : State) (ofs : Nat) (d : List Nat) : ∃ m, s.hbmPut ofs d = { s with hbm := m } := by
  refine foldl_keeps (P := fun u : State => ∃ m, u = { s with hbm := m }) ⟨s.hbm, rfl⟩ fun u i _ hu => ?_
  obtain ⟨m, rfl⟩ := hu
  split <;> exact ⟨_, rfl⟩

/-- A group's tree ends at the routers that are there. -/
def State.dropTree (s : State) (g : Nat) : State :=
  s.routersUp.foldl (fun s r => if s.fld RT_GROUP_VALID r g = 1 then s.setFld RT_GROUP_VALID 0 r g else s) s

theorem State.dropTree_valid {g r : Nat} (tile : r < 2304) (up : s.routerUp r = true) : (s.dropTree g).fld RT_GROUP_VALID r g = 0 := by
  have cleared (u : State) : (u.setFld RT_GROUP_VALID 0 r g).fld RT_GROUP_VALID r g = 0 :=
    u.fld_setFld_same RT_GROUP_VALID 0 r g (by decide) (by decide)
  refine foldl_ensures (P := fun u : State => u.fld RT_GROUP_VALID r g = 0) (a := r)
    (List.mem_filter.mpr ⟨List.mem_range.mpr tile, up⟩) (fun u => ?_) (fun u c _ hu => ?_) s
  · have bit : u.fld RT_GROUP_VALID r g < 2 := u.fld_lt RT_GROUP_VALID r g
    split
    · exact cleared u
    · omega
  · split
    · by_cases same : c = r
      · exact same ▸ cleared u
      · exact (State.fld_setFld_ne _ _ _ _ _ _ _ _
          (by simp only [RegDef.addr, RT_GROUP_VALID, RT_GROUP, Blk.base]; omega)).trans hu
    · exact hu

theorem State.mboxUngroup_of_good {g : Nat} (hg : bits (s.rd BN_MBOX_DATA 0 0) 9 0 = g) (other : g ≠ 1023) :
    s.mboxUngroup false = (stOK, none, (s.hbmPut (s.grpDir + 512 * g) (toBytes 8 (s.grpWord g 0 % 2 ^ 63))).dropTree g) := by
  subst hg
  unfold State.mboxUngroup
  exact (if_neg other).trans (if_neg (by decide))

/-- Taking a request changes no router. -/
theorem State.mboxTaken_routerUp (r : Nat) : (s.mboxTaken v).routerUp r = s.routerUp r := by
  obtain ⟨net, e⟩ := s.mboxTaken_frame v
  have low : (s.setFld BN_MBOX_STATUS_BUSY 1).fld BN_PWR_EN0_EN = s.fld BN_PWR_EN0_EN := State.fld_setFld_ne _ _ _ _ _ _ _ _ (by decide)
  have high : (s.setFld BN_MBOX_STATUS_BUSY 1).fld BN_PWR_EN1_EN = s.fld BN_PWR_EN1_EN := State.fld_setFld_ne _ _ _ _ _ _ _ _ (by decide)
  have gone : (s.mboxTaken v).gone r = s.gone r := by
    rw [e]
    unfold State.gone
    rw [← low, ← high]
    rfl
  rw [State.routerUp, State.routerUp, gone]

/-- The tree of a group that Stolrel undefines is gone from every router that is there. -/
theorem State.mboxEnd_ungroup {g r : Nat} {m : Nat} {d : List Nat} (tile : r < 2304) (up : s.routerUp r = true) :
    (((s.hbmPut m d).dropTree g).mboxEnd 2 stOK none).fld RT_GROUP_VALID r g = 0 := by
  have away : ∀ a, a < 0x1000000 → RT_GROUP.addr r g ≠ a := fun a ha => by
    simp only [RegDef.addr, RT_GROUP, Blk.base]
    omega
  obtain ⟨hbm, e⟩ := s.hbmPut_frame m d
  have gone : (s.hbmPut m d).routerUp r = true := by
    rw [e]
    exact up
  have valid := State.dropTree_valid (g := g) tile gone
  generalize (s.hbmPut m d).dropTree g = x at valid ⊢
  have kept : (x.mboxEnd 2 stOK none).rd RT_GROUP r g = x.rd RT_GROUP r g :=
    State.mboxEnd_rd stOK none (away _ (by decide)) (away _ (by decide))
  change bits ((x.mboxEnd 2 stOK none).rd RT_GROUP r g) 31 31 = 0
  rw [kept]
  exact valid

/-! ## Each request as a command -/

section

variable {c : Sys2Proof.Instr} (hv : v < 2 ^ 32) (idle : s.fld BN_MBOX_STATUS_BUSY ≠ 1)
  (hc : c ∈ [Instr.groupDefine v bad, .groupUndefine v bad, .ridDefine v bad, .ridUndefine v bad, .stageImage v bad, .logCopy v bad,
    .recvChunk v bad, .recvEnd v bad])

include hv idle hc

/-- A request that Stolrel serves. -/
theorem gives_mboxStolrel {t : State} (hreq : v % 256 = req) (pos : req ≠ 0) (up : s.bnUp = true)
    (h : (s.mboxTaken v).mboxStolrel req bad = t) : Gives c s t :=
  gives_mbox hv hc ((State.mboxCmd_of_stolrel hreq idle pos up).trans h)

theorem gives_mboxGroup {x : State} {st : Nat} {res : Option Nat} (hreq : v % 256 = 1) (up : s.bnUp = true) (serving : (s.mboxTaken v).serving)
    (h : (s.mboxTaken v).mboxGroup bad = (st, res, x)) : Gives c s (x.mboxEnd 1 st res) :=
  gives_mboxStolrel hv idle hc hreq (by decide) up ((State.mboxStolrel_group serving).trans (congrArg (State.mboxRes _) h))

theorem gives_mboxUngroup {x : State} {st : Nat} {res : Option Nat} (hreq : v % 256 = 2) (up : s.bnUp = true) (serving : (s.mboxTaken v).serving)
    (h : (s.mboxTaken v).mboxUngroup bad = (st, res, x)) : Gives c s (x.mboxEnd 2 st res) :=
  gives_mboxStolrel hv idle hc hreq (by decide) up ((State.mboxStolrel_ungroup serving).trans (congrArg (State.mboxRes _) h))

theorem gives_mboxRid {x : State} {st : Nat} {res : Option Nat} (hreq : v % 256 = 3) (up : s.bnUp = true) (serving : (s.mboxTaken v).serving)
    (h : (s.mboxTaken v).mboxRid bad = (st, res, x)) : Gives c s (x.mboxEnd 3 st res) :=
  gives_mboxStolrel hv idle hc hreq (by decide) up ((State.mboxStolrel_rid serving).trans (congrArg (State.mboxRes _) h))

theorem gives_mboxUnrid {x : State} {st : Nat} {res : Option Nat} (hreq : v % 256 = 4) (up : s.bnUp = true) (serving : (s.mboxTaken v).serving)
    (h : (s.mboxTaken v).mboxUnrid bad = (st, res, x)) : Gives c s (x.mboxEnd 4 st res) :=
  gives_mboxStolrel hv idle hc hreq (by decide) up ((State.mboxStolrel_unrid serving).trans (congrArg (State.mboxRes _) h))

/-- A request that nobody serves ends ABORTED. -/
theorem gives_mbox_aborted (hreq : v % 256 = req) (other : req ∉ [0, 6, 7, 8])
    (out : (s.bnUp = false ∧ s.fld BN_STATE_STATE = 1 ∧ s.bn.clockLost = false) ∨
      (s.bnUp = true ∧ ¬ (s.bnUp = true ∧ s.fld BN_STATE_STATE = 3 ∧ s.bn.lost = false))) :
    Gives c s ((s.mboxTaken v).mboxEnd req stABORTED none) := by
  have pos : req ≠ 0 := fun zero => other (by simp [zero])
  rcases out with h | ⟨up, out⟩
  · exact gives_mbox hv hc ((State.mboxCmd_of_loader hreq hv idle pos h).trans (State.mboxLoader_of_aborted other))
  · refine gives_mboxStolrel hv idle hc hreq pos up (State.mboxStolrel_of_aborted other ?_)
    rw [State.mboxTaken_state, State.mboxTaken_bn]
    by_contra h
    simp only [not_or, ne_eq, not_not, Bool.not_eq_true] at h
    exact out ⟨up, h⟩

omit hv idle hc in
/-- A request that ends OK frees the mailbox. -/
theorem does_of_mboxEnd {x : State} {p : Nat → Prop} {f : Fld} {g : Nat} (hreq : req < 256) (given : Gives c s (x.mboxEnd req stOK none))
    (holds : ∀ r, r < 2304 → p r → (x.mboxEnd req stOK none).fld f r g = 0) : Does c s fun t =>
      t.fld BN_MBOX_STATUS_STATUS = stOK ∧ t.fld BN_MBOX_STATUS_BUSY = 0 ∧ ∀ r, r < 2304 → p r → t.fld f r g = 0 := by
  obtain ⟨status, -, -, free⟩ := State.mboxEnd_fld (s := x) (st := stOK) (by decide) hreq none
  generalize x.mboxEnd req stOK none = t at given holds status free
  exact given.does ⟨status, free, holds⟩

/-- A group that Stolrel undefines. -/
theorem does_mboxUngroup {g : Nat} (hreq : v % 256 = 2) (up : s.bnUp = true) (serving : (s.mboxTaken v).serving)
    (hg : bits ((s.mboxTaken v).rd BN_MBOX_DATA 0 0) 9 0 = g) (other : g ≠ 1023) (good : bad = false) : Does c s fun t =>
      t.fld BN_MBOX_STATUS_STATUS = stOK ∧ t.fld BN_MBOX_STATUS_BUSY = 0 ∧
        ∀ r, r < 2304 → s.routerUp r = true → t.fld RT_GROUP_VALID r g = 0 := by
  subst good
  exact does_of_mboxEnd (by decide) (gives_mboxUngroup hv idle hc hreq up serving (State.mboxUngroup_of_good hg other)) fun r tile there =>
    State.mboxEnd_ungroup (s := s.mboxTaken v) tile ((State.mboxTaken_routerUp r).trans there)

end

/-- A write while BUSY only sets DROPPED (R383). -/
theorem does_mboxCmdDropped (busy : s.fld BN_MBOX_STATUS_BUSY = 1) : Does .mboxCmdDropped s fun t =>
    t.fld BN_MBOX_STATUS_DROPPED = 1 ∧ t.fld BN_MBOX_STATUS_BUSY = 1 ∧ s.RegsKept t [BN_MBOX_STATUS.addr 0 0] ∧ t.hbm = s.hbm ∧
      t.flash = s.flash ∧ t.bn = s.bn := by
  obtain ⟨net, e⟩ := s.serveWrite_mbox (s.waitingWrite (BN_MBOX_CMD.addr 0 0))
  have dropped : Gives .mboxCmdDropped s ({ s with net := net }.setFld BN_MBOX_STATUS_DROPPED 1) := by
    refine Gives.of_run (exec_mboxCmdDropped s) rfl ((if_pos busy).trans ?_)
    rw [State.mboxCmd_of_busy busy, e]
  refine dropped.does ⟨?_, ?_, fun off d other => ?_, rfl, rfl, rfl⟩
  · exact State.fld_setFld_same _ BN_MBOX_STATUS_DROPPED 1 0 0 (by decide) (by decide)
  · exact (State.fld_setFld_apart _ BN_MBOX_STATUS_DROPPED BN_MBOX_STATUS_BUSY 1 0 0 rfl (by decide) (by decide) (by decide)).trans busy
  · exact State.regs_setFld_ne _ _ _ _ _ _ _ fun h => other (List.mem_singleton.mpr h)

end

/-- Settles O46: what each request becomes, in the order of its checks, and what the end of a request writes. -/
theorem mailboxRequestsAreServedOrRefused : Obligations.MailboxRequestsAreServedOrRefused := by
  unfold Obligations.MailboxRequestsAreServedOrRefused
  intro s v req bad hv hreq u w busy serves loader g rid e tiles w0 b
  have ofs : w.mboxOfs 1 = e := State.mboxOfs_one
  have ready (h : serves) : w.serving := ⟨State.mboxTaken_state.trans h.2.1, (congrArg Stolrel.lost State.mboxTaken_bn).trans h.2.2⟩
  refine ⟨fun c hc => ⟨fun hb => gives_mbox hv hc (State.mboxCmd_of_busy hb), fun idle zero => gives_mbox hv hc ?_,
      fun idle some down out => gives_mbox hv hc ?_, fun idle other out => gives_mbox_aborted hv idle hc hreq other out,
      fun idle up unlisted => gives_mboxStolrel hv idle hc hreq (by omega) up
        (State.mboxStolrel_unlisted (unlisted.imp_right (Or.imp_right (And.imp_left ready)))), fun idle h one => ?_, fun idle h two => ?_,
      fun idle h three => ?_, fun idle h four => ?_⟩,
    fun idle => Gives.of_run (exec_mboxCmdDropped s) rfl (if_neg idle), does_mboxCmdDropped, fun x st res => ?_⟩
  · rw [State.mboxCmd_eq hreq, if_neg idle, if_pos zero]
  · rw [State.mboxCmd_eq hreq, if_neg idle, if_neg some, if_neg (by simp [down]), if_neg fun h => out ⟨down, h⟩]
    rfl
  · have group {x : State} {st : Nat} {res : Option Nat} := gives_mboxGroup (x := x) (st := st) (res := res) hv idle hc (hreq.trans one) h.1 (ready h)
    exact ⟨fun all => group (State.mboxGroup_of_denied rfl all), fun other fails => group (State.mboxGroup_of_bad rfl ofs other fails),
      fun other free some inside range =>
        ⟨fun hb => group ((State.mboxGroup_of_good rfl ofs other free rfl some inside range rfl).trans (if_pos hb)),
          fun hb => group ((State.mboxGroup_of_good rfl ofs other free rfl some inside range rfl).trans (if_neg (by simp [hb])))⟩⟩
  · have ungroup {x : State} {st : Nat} {res : Option Nat} := gives_mboxUngroup (x := x) (st := st) (res := res) hv idle hc (hreq.trans two) h.1 (ready h)
    exact ⟨fun all => ungroup (State.mboxUngroup_of_denied rfl all),
      fun other hb => ungroup (by subst hb; exact State.mboxUngroup_of_error rfl other),
      fun other hb => does_mboxUngroup hv idle hc (hreq.trans two) h.1 (ready h) rfl other hb⟩
  · have red {x : State} {st : Nat} {res : Option Nat} := gives_mboxRid (x := x) (st := st) (res := res) hv idle hc (hreq.trans three) h.1 (ready h)
    have good (other : rid ≠ 4095) (free : bit (w.redEntry rid) 63 = false) (fmt : fmtOk b.op b.inF b.outF b.k = true)
        (inside : bits e 19 8 < w.tiles) := State.mboxRid_of_good (bad := bad) rfl ofs other free fmt inside
    exact ⟨fun all => red (State.mboxRid_of_denied rfl all), fun other fails => red (State.mboxRid_of_bad rfl ofs other fails),
      fun other free fmt inside => ⟨fun fails => red ((good other free fmt inside).trans (if_pos fails)),
        fun valid own hb => red ((good other free fmt inside).trans ((if_neg (by simp [valid, own])).trans (if_pos hb))),
        fun valid own hb => red ((good other free fmt inside).trans ((if_neg (by simp [valid, own])).trans (if_neg (by simp [hb]))))⟩⟩
  · have unred {x : State} {st : Nat} {res : Option Nat} := gives_mboxUnrid (x := x) (st := st) (res := res) hv idle hc (hreq.trans four) h.1 (ready h)
    exact ⟨fun all => unred (State.mboxUnrid_of_denied rfl all),
      fun other hb => unred ((State.mboxUnrid_of_other rfl other).trans (if_pos hb)),
      fun other hb => unred ((State.mboxUnrid_of_other rfl other).trans (if_neg (by simp [hb])))⟩
  · intro t hst
    have small : req < 256 := by omega
    obtain ⟨status, number, done, free⟩ := State.mboxEnd_fld (s := x) hst small res
    obtain ⟨hbm, flash⟩ := State.mboxEnd_memories (s := x) (req := req) st res
    refine ⟨status, number, done, free, State.mboxEnd_irq st res, fun k hk hlt => ?_, fun off d other => State.mboxEnd_regs st res d other, hbm,
      flash⟩
    subst hk
    exact State.mboxEnd_result st hlt

end Sys2Proof.Machine

/-! # Images and the log (R382, R384, R385, R394 to R396, R413, R416): the proof of ImagesAndLogEntriesReachFlash -/

namespace Sys2Proof.Machine

section

variable {s : State} {v req : Nat} {bad : Bool}

/-! ## The requests -/

theorem State.mboxStolrel_log : s.mboxStolrel 6 bad = State.mboxRes 6 (s.mboxLog bad) := rfl

theorem State.mboxLoader_log (arg : Nat) : s.mboxLoader 6 arg bad = State.mboxRes 6 (s.mboxLog bad) := rfl

theorem State.mboxLoader_chunk (arg : Nat) : s.mboxLoader 7 arg bad = State.mboxRes 7 (s.mboxChunk arg bad) := rfl

theorem State.mboxLoader_end (arg : Nat) :
    s.mboxLoader 8 arg bad =
      if bad then s.mboxEnd 8 stDATA_ERROR (some 6)
      else if s.recvCause ≠ 0 then (s.modBn fun b => { b with recv := 0 }).mboxEnd 8 stBAD_DESCRIPTOR (some s.recvCause)
      else (s.mboxEnd 8 stOK none).bnReset 0 := by
  unfold State.mboxLoader
  exact (if_neg (by decide)).trans ((if_neg (by decide)).trans (if_pos rfl))

theorem State.mboxStolrel_stage_ends {r : MboxRes} (h : s.serving) (ends : s.mboxStage bad = some r) :
    s.mboxStolrel 5 bad = State.mboxRes 5 r := by
  unfold State.mboxStolrel
  refine (if_neg (by decide)).trans ((if_neg (h.not_out _ _)).trans ?_)
  simp only [ends]

theorem State.mboxStolrel_stage_goes (h : s.serving) (goes : s.mboxStage bad = none) : s.mboxStolrel 5 bad = s.stageImage := by
  unfold State.mboxStolrel
  refine (if_neg (by decide)).trans ((if_neg (h.not_out _ _)).trans ?_)
  simp only [goes]

theorem State.mboxOfs_zero : s.mboxOfs 0 = s.rd BN_MBOX_DATA 0 0 + s.rd BN_MBOX_DATA 0 1 * 2 ^ 32 := by
  unfold State.mboxOfs State.mboxData
  rw [Nat.shiftLeft_eq]

section

variable {ofs len : Nat} {img : List Nat} (hofs : s.mboxOfs 0 = ofs) (hlen : s.rd BN_MBOX_DATA 0 2 = len)

include hofs hlen

theorem State.mboxStage_of_out (out : s.softRange ofs len = false) : s.mboxStage bad = some (stBAD_DESCRIPTOR, none, s) := by
  subst hofs hlen
  unfold State.mboxStage
  exact if_pos out

theorem State.mboxStage_of_error (range : s.softRange ofs len = true) : s.mboxStage true = some (stDATA_ERROR, none, s) := by
  subst hofs hlen
  unfold State.mboxStage
  exact (if_neg (by simp [State.mboxData, range])).trans (if_pos rfl)

theorem State.mboxStage_of_fails (range : s.softRange ofs len = true) (himg : s.hbmBytes ofs (min len (8 * 2 ^ 20)) = img)
    (fails : s.checkImage img len ≠ 0) : s.mboxStage false = some (stBAD_DESCRIPTOR, some (s.checkImage img len), s) := by
  subst hofs hlen himg
  unfold State.mboxStage
  exact (if_neg (by simp [State.mboxData, range])).trans ((if_neg Bool.false_ne_true).trans (if_pos fails))

theorem State.mboxStage_of_passes (range : s.softRange ofs len = true) (himg : s.hbmBytes ofs (min len (8 * 2 ^ 20)) = img)
    (passes : s.checkImage img len = 0) : s.mboxStage false = none := by
  subst hofs hlen himg
  unfold State.mboxStage
  exact (if_neg (by simp [State.mboxData, range])).trans ((if_neg Bool.false_ne_true).trans (if_neg (not_not.mpr passes)))

end

section

variable {ofs k : Nat} (hofs : s.mboxOfs 0 = ofs) (hk : min (s.rd BN_MBOX_DATA 0 2) s.logBySeq.length = k)

include hofs hk

theorem State.mboxLog_of_out (out : s.softRange ofs (64 * k) = false) : s.mboxLog bad = (stBAD_DESCRIPTOR, none, s) := by
  subst hofs hk
  unfold State.mboxLog
  exact if_pos out

theorem State.mboxLog_of_range (range : s.softRange ofs (64 * k) = true) :
    s.mboxLog bad = if bad then (stDATA_ERROR, none, s)
      else (stOK, some k, s.hbmPut ofs ((s.logBySeq.drop (s.logBySeq.length - k)).flatMap fun e => e.2)) := by
  subst hofs hk
  unfold State.mboxLog
  exact if_neg (by simp [State.mboxData, range])

end

section

variable {arg : Nat}

theorem State.mboxChunk_of_out (out : arg ≠ s.bn.recv ∨ 8 * 2 ^ 20 < 64 * (arg + 1)) :
    s.mboxChunk arg bad = (stBAD_DESCRIPTOR, none, s) := by
  unfold State.mboxChunk
  exact if_pos out

theorem State.mboxChunk_of_next (next : arg = s.bn.recv) (fits : 64 * (arg + 1) ≤ 8 * 2 ^ 20) :
    s.mboxChunk arg bad = if bad then (stDATA_ERROR, none, s)
      else (stOK, none, (s.flashWrite (64 * arg) ((List.range 16).flatMap fun k => toBytes 4 (s.rd BN_MBOX_DATA 0 k))).modBn fun b =>
        { b with recv := arg + 1 }) := by
  have inside : ¬ (arg ≠ s.bn.recv ∨ 8 * 2 ^ 20 < 64 * (arg + 1)) := by
    simp only [next, ne_eq, not_true_eq_false, false_or] at fits ⊢
    omega
  unfold State.mboxChunk
  exact if_neg inside

end

/-! ## The flash -/

theorem State.wf_flashWrite (a : Nat) (d : List Nat) (h : s.flash.wf = true) : (s.flashWrite a d).flash.wf = true :=
  Memory.wf_writeN _ _ _ h

theorem byte_xor_lt (b : Nat) : (b % 256) ^^^ 0xFF < 256 := Nat.xor_lt_two_pow (n := 8) (Nat.mod_lt _ (by decide)) (by decide)

/-- Programming inverts: a byte reads as its complement (R394). -/
theorem State.read_flashWrite {a i : Nat} {d : List Nat} (h : s.flash.wf = true) (bytes : ∀ b ∈ d, b < 256) (hi : i < d.length) :
    (s.flashWrite a d).flash.read (a + i) = d.getD i 0 ^^^ 0xFF := by
  refine (Memory.read_writeN_same _ _ _ _ h (by simpa using hi)).trans ?_
  rw [List.getD_eq_getElem _ _ (by simpa using hi), List.getElem_map, List.getD_eq_getElem _ _ hi, Nat.mod_eq_of_lt (byte_xor_lt _),
    Nat.mod_eq_of_lt (bytes _ (List.getElem_mem hi))]

theorem State.read_flashWrite_ne {a b : Nat} {d : List Nat} (h : b < a ∨ a + d.length ≤ b) :
    (s.flashWrite a d).flash.read b = s.flash.read b :=
  Memory.read_writeN_ne _ _ _ _ (by simpa using h)

theorem State.read_flashErase (lo hi a : Nat) : (s.flashErase lo hi).flash.read a = if lo ≤ a ∧ a < hi then 0 else s.flash.read a :=
  Memory.read_zero ..

/-- The bytes of a word are bytes. -/
theorem toBytes_lt (n v : Nat) : ∀ b ∈ toBytes n v, b < 256 := by
  induction n generalizing v with
  | zero => simp [toBytes]
  | succ n ih =>
    intro b hb
    rcases List.mem_cons.mp hb with rfl | hb
    · omega
    · exact ih _ _ hb

@[simp] theorem length_toBytes (n v : Nat) : (toBytes n v).length = n := by
  induction n generalizing v with
  | zero => rfl
  | succ n ih => simp [toBytes, ih]

/-! ## Requests as commands -/

section

variable {c : Sys2Proof.Instr} (hv : v < 2 ^ 32) (idle : s.fld BN_MBOX_STATUS_BUSY ≠ 1)
  (hc : c ∈ [Instr.groupDefine v bad, .groupUndefine v bad, .ridDefine v bad, .ridUndefine v bad, .stageImage v bad, .logCopy v bad,
    .recvChunk v bad, .recvEnd v bad])

include hv idle hc

theorem gives_mboxStage_ends {x : State} {st : Nat} {res : Option Nat} (hreq : v % 256 = 5) (up : s.bnUp = true)
    (serving : (s.mboxTaken v).serving) (h : (s.mboxTaken v).mboxStage bad = some (st, res, x)) : Gives c s (x.mboxEnd 5 st res) :=
  gives_mboxStolrel hv idle hc hreq (by decide) up (State.mboxStolrel_stage_ends serving h)

/-- An image that passes is staged: the slot is erased, and the request goes on (R394). -/
theorem does_mboxStage (hreq : v % 256 = 5) (up : s.bnUp = true) (serving : (s.mboxTaken v).serving)
    (h : (s.mboxTaken v).mboxStage bad = none) (wf : s.flash.wf = true) {img : List Nat}
    (himg : (s.mboxTaken v).hbmBytes ((s.mboxTaken v).mboxOfs 0) (min ((s.mboxTaken v).mboxData 2) (8 * 2 ^ 20)) = img) : Does c s fun t =>
      t.bn.staged = some img ∧ t.fld BN_MBOX_STATUS_BUSY = 1 ∧ (∀ a, a < 8 * 2 ^ 20 → t.flash.read a = 0) ∧
        (∀ a, 8 * 2 ^ 20 ≤ a → t.flash.read a = s.flash.read a) ∧ t.flash.wf = true ∧ t.hbm = s.hbm ∧
        s.RegsKept t [BN_MBOX_STATUS.addr 0 0] := by
  obtain ⟨net, e⟩ := s.mboxTaken_frame v
  have given := gives_mboxStolrel hv idle hc hreq (by decide) up (State.mboxStolrel_stage_goes serving h)
  have flash : (s.mboxTaken v).flash = s.flash := by rw [e]; rfl
  have hbm : (s.mboxTaken v).hbm = s.hbm := by rw [e]; rfl
  have busy : (s.mboxTaken v).fld BN_MBOX_STATUS_BUSY = 1 := by
    rw [e]
    exact s.fld_setFld_same BN_MBOX_STATUS_BUSY 1 0 0 (by decide) (by decide)
  have kept : s.RegsKept (s.mboxTaken v) [BN_MBOX_STATUS.addr 0 0] := fun off d other => by
    rw [e]
    exact s.regs_setFld_ne _ _ _ _ _ _ fun h => other (List.mem_singleton.mpr h)
  generalize s.mboxTaken v = w at given flash hbm busy kept himg
  refine given.does ⟨congrArg some himg, busy, fun a ha => ?_, fun a ha => ?_, ?_, hbm, kept⟩
  · exact (w.read_flashErase 0 (8 * 2 ^ 20) a).trans (if_pos ⟨Nat.zero_le _, ha⟩)
  · exact ((w.read_flashErase 0 (8 * 2 ^ 20) a).trans (if_neg fun h => Nat.not_lt.mpr ha h.2)).trans (by rw [flash])
  · exact Memory.wf_zero _ _ _ (flash ▸ wf)

theorem gives_mboxLog {x : State} {st : Nat} {res : Option Nat} (hreq : v % 256 = 6)
    (running : s.bnUp = true ∨ (s.bnUp = false ∧ s.fld BN_STATE_STATE = 1 ∧ s.bn.clockLost = false))
    (h : (s.mboxTaken v).mboxLog bad = (st, res, x)) : Gives c s (x.mboxEnd 6 st res) := by
  rcases running with up | loader
  · exact gives_mboxStolrel hv idle hc hreq (by decide) up (State.mboxStolrel_log.trans (congrArg (State.mboxRes _) h))
  · exact gives_mbox hv hc ((State.mboxCmd_of_loader hreq hv idle (by decide) loader).trans
      ((State.mboxLoader_log _).trans (congrArg (State.mboxRes _) h)))

section

variable (loader : s.bnUp = false ∧ s.fld BN_STATE_STATE = 1 ∧ s.bn.clockLost = false)

include loader

theorem gives_mboxChunk {x : State} {st : Nat} {res : Option Nat} (hreq : v % 256 = 7)
    (h : (s.mboxTaken v).mboxChunk (v / 256) bad = (st, res, x)) : Gives c s (x.mboxEnd 7 st res) :=
  gives_mbox hv hc ((State.mboxCmd_of_loader hreq hv idle (by decide) loader).trans
    ((State.mboxLoader_chunk _).trans (congrArg (State.mboxRes _) h)))

theorem gives_mboxEnd {t : State} (hreq : v % 256 = 8) (h : (s.mboxTaken v).mboxLoader 8 (v / 256) bad = t) : Gives c s t :=
  gives_mbox hv hc ((State.mboxCmd_of_loader hreq hv idle (by decide) loader).trans h)

end

end

/-- The end of a request leaves Stolrel's own state alone. -/
theorem State.mboxEnd_bn (st : Nat) (res : Option Nat) : (s.mboxEnd req st res).bn = s.bn := by
  cases res <;> rfl

/-! ## LOG_WRITE (R382) -/

theorem length_logBytes {e : List Nat} (h : e.length = 7) : (logBytes e).length = 64 := by
  simp [logBytes, List.length_flatMap, h]

theorem logBytes_lt (e : List Nat) : ∀ b ∈ logBytes e, b < 256 := by
  intro b hb
  simp only [logBytes, List.mem_append, List.mem_flatMap] at hb
  rcases hb with (⟨x, -, hx⟩ | hz) | hc
  · exact toBytes_lt _ _ b hx
  · simp only [List.mem_cons, List.not_mem_nil, or_false, or_self] at hz
    omega
  · exact toBytes_lt _ _ b hc

/-- The next sector is erased before the first entry of a sector (R382). -/
def State.eraseAhead (s : State) (n : Nat) : State :=
  if n % 1024 = 0 then
    s.flashErase (logBase + 65536 * ((n / 1024 + 1) % 128)) (logBase + 65536 * ((n / 1024 + 1) % 128) + 65536)
  else s

theorem State.eraseAhead_frame (s : State) (n : Nat) : ∃ m, s.eraseAhead n = { s with flash := m } ∧ (s.flash.wf = true → m.wf = true) := by
  simp only [State.eraseAhead]
  split
  · exact ⟨_, rfl, fun h => Memory.wf_zero _ _ _ h⟩
  · exact ⟨s.flash, rfl, id⟩

theorem gives_logWrite {e : List Nat} {rest : List (List Nat)} (waiting : s.bn.waiting = e :: rest) (clock : s.bn.clockLost = false)
    (runs : s.bnUp = true ∨ s.fld BN_STATE_STATE = 1) (unarmed : s.fld (xx_ERR_INJECT_ARM .bn) = 0) :
    Gives (.logWrite false) s (((s.eraseAhead s.bn.logNext).flashWrite (logBase + 64 * s.bn.logNext) (logBytes e)).modBn fun b => { b with
      waiting := rest
      logNext := (s.bn.logNext + 1) % logEntries }) := by
  have on : ¬ (s.bn.clockLost = true ∨ (s.bnUp = false ∧ s.fld BN_STATE_STATE ≠ 1)) := by
    rcases runs with h | h <;> simp [clock, h]
  obtain ⟨m, frame, -⟩ := s.eraseAhead_frame s.bn.logNext
  refine Gives.of_run (exec_logWrite false s) rfl ?_
  simp only [waiting]
  refine (if_neg on).trans ((if_neg Bool.false_ne_true).trans (State.injEvent_of_unarmed _ _ ?_))
  change (((s.eraseAhead s.bn.logNext).flashWrite _ _).modBn _).fld (xx_ERR_INJECT_ARM .bn) = 0
  rw [frame]
  exact unarmed

/-! ## IMAGE_SLOT_WRITTEN (R394) -/

theorem State.slotWritten_of_none (h : s.bn.staged = none) : s.slotWritten bad = s := by
  simp only [State.slotWritten, h]

theorem State.slotWritten_of_bad {d : List Nat} (h : s.bn.staged = some d) :
    s.slotWritten true = (s.modBn fun b => { b with staged := none }).mboxEnd 5 stDATA_ERROR (some 6) := by
  simp only [State.slotWritten, h]
  rfl

theorem State.slotWritten_of_good {d : List Nat} (h : s.bn.staged = some d) :
    ∃ kind unit data, s.slotWritten false =
      ((((s.modBn fun b => { b with staged := none }).flashWrite 0 d).setFld BN_STATE_PENDING 1).bnLog 6 kind unit data).mboxEnd 5 stOK none := by
  refine ⟨0, 0, [imgWord d 1, imgSvn d, State.svnNow (((s.modBn fun b => { b with staged := none }).flashWrite 0 d).setFld BN_STATE_PENDING 1)], ?_⟩
  simp only [State.slotWritten, h]
  rfl

theorem State.bnLog_frame (ty kind unit : Nat) (data : List Nat) :
    (s.bnLog ty kind unit data).bn.staged = s.bn.staged ∧ (s.bnLog ty kind unit data).flash = s.flash ∧
      (s.bnLog ty kind unit data).hbm = s.hbm := by
  simp only [State.bnLog, State.stamped]
  split_ifs <;> exact ⟨rfl, rfl, rfl⟩

/-- The image that a written slot holds, and how its request ends (R394). -/
theorem does_imageSlotWritten {d : List Nat} (up : s.bnUp = true) (staged : s.bn.staged = some d) (wf : s.flash.wf = true)
    (bytes : ∀ x ∈ d, x < 256) : Does (.imageSlotWritten false) s fun t => t.bn.staged = none ∧ t.fld BN_STATE_PENDING = 1 ∧
      t.fld BN_MBOX_STATUS_STATUS = stOK ∧ t.fld BN_MBOX_STATUS_BUSY = 0 ∧ t.fld BN_MBOX_STATUS_DONE = 1 ∧
      (∀ i, i < d.length → t.flash.read i = d.getD i 0 ^^^ 0xFF) ∧ (∀ a, d.length ≤ a → t.flash.read a = s.flash.read a) ∧
      t.hbm = s.hbm := by
  obtain ⟨kind, unit, data, e⟩ := State.slotWritten_of_good staged
  have given : Gives (.imageSlotWritten false) s _ :=
    Gives.of_run (exec_imageSlotWritten false s) rfl ((if_pos up).trans e)
  have written (i : Nat) (hi : i < d.length) : (((s.modBn fun b => { b with staged := none }).flashWrite 0 d).setFld BN_STATE_PENDING 1).flash.read i =
      d.getD i 0 ^^^ 0xFF := by
    have := State.read_flashWrite (s := s.modBn fun b => { b with staged := none }) (a := 0) wf bytes hi
    rwa [Nat.zero_add] at this
  have beyond (a : Nat) (ha : d.length ≤ a) :
      (((s.modBn fun b => { b with staged := none }).flashWrite 0 d).setFld BN_STATE_PENDING 1).flash.read a = s.flash.read a :=
    State.read_flashWrite_ne (s := s.modBn fun b => { b with staged := none }) (.inr (by omega))
  have pending : (((s.modBn fun b => { b with staged := none }).flashWrite 0 d).setFld BN_STATE_PENDING 1).fld BN_STATE_PENDING = 1 :=
    State.fld_setFld_same _ BN_STATE_PENDING 1 0 0 (by decide) (by decide)
  have cleared : (((s.modBn fun b => { b with staged := none }).flashWrite 0 d).setFld BN_STATE_PENDING 1).bn.staged = none := rfl
  have hbm : (((s.modBn fun b => { b with staged := none }).flashWrite 0 d).setFld BN_STATE_PENDING 1).hbm = s.hbm := rfl
  generalize ((s.modBn fun b => { b with staged := none }).flashWrite 0 d).setFld BN_STATE_PENDING 1 = x at given written beyond pending cleared hbm
  obtain ⟨logged, logFlash, logHbm⟩ := State.bnLog_frame (s := x) 6 kind unit data
  have logPending : (x.bnLog 6 kind unit data).fld BN_STATE_PENDING = 1 := (State.fld_bnLog_ne (by decide)).trans pending
  generalize x.bnLog 6 kind unit data = y at given logged logFlash logHbm logPending
  obtain ⟨status, -, done, free⟩ := State.mboxEnd_fld (s := y) (st := stOK) (req := 5) (by decide) (by decide) none
  have kept : (y.mboxEnd 5 stOK none).rd BN_STATE 0 0 = y.rd BN_STATE 0 0 := State.mboxEnd_rd stOK none (by decide) (by decide)
  obtain ⟨endHbm, endFlash⟩ := State.mboxEnd_memories (s := y) (req := 5) stOK none
  have endBn := State.mboxEnd_bn (s := y) (req := 5) stOK none
  generalize y.mboxEnd 5 stOK none = t at given status done free kept endHbm endFlash endBn
  have flash : t.flash = x.flash := endFlash.trans logFlash
  refine given.does ⟨(congrArg Stolrel.staged endBn).trans (logged.trans cleared), (congrArg (fun r => bits r 23 23) kept).trans logPending, status,
    free, done, fun i hi => ?_, fun a ha => ?_, endHbm.trans (logHbm.trans hbm)⟩
  · exact (congrArg (Memory.read · i) flash).trans (written i hi)
  · exact (congrArg (Memory.read · a) flash).trans (beyond a ha)

/-- A log entry that is written, and what else of the flash changes (R382). -/
theorem does_logWrite {e : List Nat} {rest : List (List Nat)} (waiting : s.bn.waiting = e :: rest) (clock : s.bn.clockLost = false)
    (runs : s.bnUp = true ∨ s.fld BN_STATE_STATE = 1) (len : e.length = 7)
    (unarmed : s.fld (xx_ERR_INJECT_ARM .bn) = 0) (wf : s.flash.wf = true) : Does (.logWrite false) s fun t =>
      let n := s.bn.logNext
      let next := logBase + 65536 * ((n / 1024 + 1) % 128)
      t.bn.waiting = rest ∧ t.bn.logNext = (n + 1) % logEntries ∧ t.regs = s.regs ∧ t.flash.wf = true ∧
      (∀ i, i < 64 → t.flash.read (logBase + 64 * n + i) = (logBytes e).getD i 0 ^^^ 0xFF) ∧
      (n % 1024 = 0 → ∀ a, next ≤ a → a < next + 65536 → t.flash.read a = 0) ∧
      (∀ a, a < logBase + 64 * n ∨ logBase + 64 * n + 64 ≤ a → n % 1024 ≠ 0 ∨ a < next ∨ next + 65536 ≤ a →
        t.flash.read a = s.flash.read a) := by
  have given := gives_logWrite waiting clock runs unarmed
  have bytes := logBytes_lt e
  have long := length_logBytes len
  generalize s.bn.logNext = n at given ⊢
  obtain ⟨m, frame, canonical⟩ := s.eraseAhead_frame n
  have erased (a : Nat) : (s.eraseAhead n).flash.read a =
      if n % 1024 = 0 ∧ logBase + 65536 * ((n / 1024 + 1) % 128) ≤ a ∧ a < logBase + 65536 * ((n / 1024 + 1) % 128) + 65536 then 0
      else s.flash.read a := by
    by_cases first : n % 1024 = 0
    · simp only [State.eraseAhead, first, if_true, true_and]
      exact State.read_flashErase ..
    · simp only [State.eraseAhead, first, if_false, false_and]
  have wf' : (s.eraseAhead n).flash.wf = true := by
    rw [frame]
    exact canonical wf
  have regs : (s.eraseAhead n).regs = s.regs := by rw [frame]
  generalize s.eraseAhead n = x at given erased wf' regs
  have away {a : Nat} (h : a < logBase + 64 * n ∨ logBase + 64 * n + 64 ≤ a) :
      (x.flashWrite (logBase + 64 * n) (logBytes e)).flash.read a = x.flash.read a := State.read_flashWrite_ne (by rw [long]; exact h)
  refine given.does ⟨rfl, rfl, regs, State.wf_flashWrite _ _ wf', fun i hi => State.read_flashWrite wf' bytes (by rw [long]; exact hi),
    fun first a lo hi => ?_, fun a outside other => ?_⟩
  · refine (away ?_).trans ((erased a).trans (if_pos ⟨first, lo, hi⟩))
    simp only [logBase] at lo hi ⊢
    omega
  · refine (away outside).trans ((erased a).trans (if_neg fun h => ?_))
    omega

/-- BN_LOCK is only ever set (R413). -/
theorem does_bnLock (hv : v < 2 ^ 32) : Does (.bnLock v) s fun t =>
    t.fld BN_LOCK_LOCK = (if v % 2 = 1 then 1 else s.fld BN_LOCK_LOCK) ∧ s.RegsKept t [BN_LOCK.addr 0 0] ∧ t.bn = s.bn ∧ t.flash = s.flash := by
  have alive : s.regAlive (BN_LOCK.addr 0 0) = true := by
    have block : blockOf (BN_LOCK.addr 0 0) = some (.bn, 0) := by decide +kernel
    rw [State.regAlive, block]
  obtain ⟨net, e⟩ := s.serveWrite_unmirrored (off := BN_LOCK.addr 0 0) (r := BN_LOCK) (i := 0) (k := 0) v (by decide +kernel) (by decide +kernel)
  have low : bit v 0 = decide (v % 2 = 1) := by simp [bit, Nat.testBit_zero]
  have given : Gives (.bnLock v) s (if v % 2 = 1 then { s with net := net }.setFld BN_LOCK_LOCK 1 else { s with net := net }) := by
    refine Gives.of_run (exec_bnLock v s) (by simpa [Instr.wf, okW] using hv) ((if_pos alive).trans ?_)
    dsimp only
    rw [e, low]
    simp only [decide_eq_true_eq]
  refine given.does ?_
  split
  · exact ⟨State.fld_setFld_same _ BN_LOCK_LOCK 1 0 0 (by decide) (by decide),
      fun off d other => State.regs_setFld_ne _ _ _ _ _ _ _ fun h => other (List.mem_singleton.mpr h), rfl, rfl⟩
  · exact ⟨rfl, fun off d _ => rfl, rfl, rfl⟩

/-- A chunk of the image at the recovery loader (R416). -/
theorem does_recvChunk {c : Sys2Proof.Instr} (hv : v < 2 ^ 32) (idle : s.fld BN_MBOX_STATUS_BUSY ≠ 1)
    (hc : c ∈ [Instr.groupDefine v false, .groupUndefine v false, .ridDefine v false, .ridUndefine v false, .stageImage v false,
      .logCopy v false, .recvChunk v false, .recvEnd v false])
    (loader : s.bnUp = false ∧ s.fld BN_STATE_STATE = 1 ∧ s.bn.clockLost = false) (hreq : v % 256 = 7) (next : v / 256 = s.bn.recv)
    (fits : 64 * (v / 256 + 1) ≤ 8 * 2 ^ 20) (wf : s.flash.wf = true) : Does c s fun t =>
      t.bn.recv = v / 256 + 1 ∧ t.fld BN_MBOX_STATUS_STATUS = stOK ∧
      (∀ i, i < 64 → t.flash.read (64 * (v / 256) + i) =
        ((List.range 16).flatMap fun j => toBytes 4 ((s.mboxTaken v).rd BN_MBOX_DATA 0 j)).getD i 0 ^^^ 0xFF) ∧
      (∀ a, a < 64 * (v / 256) ∨ 64 * (v / 256) + 64 ≤ a → t.flash.read a = s.flash.read a) ∧ t.flash.wf = true := by
  obtain ⟨net, e⟩ := s.mboxTaken_frame v
  have given := gives_mboxChunk hv idle hc loader hreq
    ((State.mboxChunk_of_next (next.trans (congrArg Stolrel.recv State.mboxTaken_bn).symm) fits).trans (if_neg Bool.false_ne_true))
  have flash : (s.mboxTaken v).flash = s.flash := by rw [e]; rfl
  generalize s.mboxTaken v = w at given flash ⊢
  have bytes : ∀ b ∈ (List.range 16).flatMap fun j => toBytes 4 (w.rd BN_MBOX_DATA 0 j), b < 256 := fun b hb => by
    obtain ⟨j, -, hj⟩ := List.mem_flatMap.mp hb
    exact toBytes_lt _ _ b hj
  have long : ((List.range 16).flatMap fun j => toBytes 4 (w.rd BN_MBOX_DATA 0 j)).length = 64 := by
    simp [List.length_flatMap]
  generalize (List.range 16).flatMap (fun j => toBytes 4 (w.rd BN_MBOX_DATA 0 j)) = d at given bytes long ⊢
  have wf' : w.flash.wf = true := flash ▸ wf
  have written (i : Nat) (hi : i < 64) := State.read_flashWrite (s := w) (a := 64 * (v / 256)) wf' bytes (long ▸ hi)
  have away (a : Nat) (h : a < 64 * (v / 256) ∨ 64 * (v / 256) + 64 ≤ a) : (w.flashWrite (64 * (v / 256)) d).flash.read a = s.flash.read a :=
    (State.read_flashWrite_ne (by rw [long]; exact h)).trans (by rw [flash])
  have canonical := State.wf_flashWrite (64 * (v / 256)) d wf'
  have counted : ((w.flashWrite (64 * (v / 256)) d).modBn fun b => { b with recv := v / 256 + 1 }).bn.recv = v / 256 + 1 := rfl
  have same : ((w.flashWrite (64 * (v / 256)) d).modBn fun b => { b with recv := v / 256 + 1 }).flash =
    (w.flashWrite (64 * (v / 256)) d).flash := rfl
  generalize (w.flashWrite (64 * (v / 256)) d).modBn (fun b => { b with recv := v / 256 + 1 }) = y at given counted same
  generalize (w.flashWrite (64 * (v / 256)) d).flash = m at written away canonical same
  obtain ⟨status, -⟩ := State.mboxEnd_fld (s := y) (st := stOK) (req := 7) (by decide) (by decide) none
  obtain ⟨-, endFlash⟩ := State.mboxEnd_memories (s := y) (req := 7) stOK none
  have endBn := State.mboxEnd_bn (s := y) (req := 7) stOK none
  generalize y.mboxEnd 7 stOK none = t at given status endFlash endBn
  have held : t.flash = m := endFlash.trans same
  exact given.does ⟨(congrArg Stolrel.recv endBn).trans counted, status, fun i hi => (congrArg (Memory.read · _) held).trans (written i hi),
    fun a h => (congrArg (Memory.read · a) held).trans (away a h), (congrArg Memory.wf held).trans canonical⟩

end

/-- Settles O47: each request in the order of its checks, and what the flash holds after it. -/
theorem imagesAndLogEntriesReachFlash : Obligations.ImagesAndLogEntriesReachFlash := by
  unfold Obligations.ImagesAndLogEntriesReachFlash
  intro s v req bad hv hreq wf w idle serves loader ofs len img k chunk
  have hofs : w.mboxOfs 0 = ofs := State.mboxOfs_zero
  have ready (h : serves) : w.serving := ⟨State.mboxTaken_state.trans h.2.1, (congrArg Stolrel.lost State.mboxTaken_bn).trans h.2.2⟩
  have free (h : idle) : s.fld BN_MBOX_STATUS_BUSY ≠ 1 := by rw [show s.fld BN_MBOX_STATUS_BUSY = 0 from h]; decide
  refine ⟨fun c hc => ⟨fun hi h five => ?_, fun hi running six => ?_, fun hi load seven => ?_, fun hi load eight => ?_⟩, fun none => ?_,
    fun d up staged => ⟨fun hb => ?_, fun hb bytes => ?_⟩, fun quiet => ?_, fun e rest waiting clock runs => ⟨fun hb => ?_, fun hb len7 _ unarmed => ?_⟩,
    does_bnLock hv⟩
  · have ends {x : State} {st : Nat} {res : Option Nat} :=
      gives_mboxStage_ends (x := x) (st := st) (res := res) hv (free hi) hc (hreq.trans five) h.1 (ready h)
    refine ⟨fun out => ends (State.mboxStage_of_out hofs rfl out), fun range hb => ?_, fun range hb fails => ?_, fun range hb passes => ?_⟩
    · subst hb
      exact ends (State.mboxStage_of_error hofs rfl range)
    · subst hb
      exact ends (State.mboxStage_of_fails hofs rfl range rfl fails)
    · subst hb
      exact does_mboxStage hv (free hi) hc (hreq.trans five) h.1 (ready h) (State.mboxStage_of_passes hofs rfl range rfl passes) wf
        (congrArg (fun o => w.hbmBytes o (min len (8 * 2 ^ 20))) hofs)
  · have copies {x : State} {st : Nat} {res : Option Nat} :=
      gives_mboxLog (x := x) (st := st) (res := res) hv (free hi) hc (hreq.trans six) running
    exact ⟨fun out => copies (State.mboxLog_of_out hofs rfl out),
      fun range hb => copies ((State.mboxLog_of_range hofs rfl range).trans (if_pos hb)),
      fun range hb => copies ((State.mboxLog_of_range hofs rfl range).trans (if_neg (by simp [hb])))⟩
  · have takes {x : State} {st : Nat} {res : Option Nat} :=
      gives_mboxChunk (x := x) (st := st) (res := res) hv (free hi) hc load (hreq.trans seven)
    have recv : w.bn.recv = s.bn.recv := congrArg Stolrel.recv State.mboxTaken_bn
    refine ⟨fun out => takes (State.mboxChunk_of_out (recv ▸ out)), fun next fits hb => ?_, fun next fits hb => ?_⟩
    · exact takes ((State.mboxChunk_of_next (next.trans recv.symm) fits).trans (if_pos hb))
    · subst hb
      exact does_recvChunk hv (free hi) hc load (hreq.trans seven) next fits wf
  · have ends {t : State} := gives_mboxEnd (t := t) hv (free hi) hc load (hreq.trans eight)
    refine ⟨fun hb => ends ((State.mboxLoader_end _).trans (if_pos hb)), fun hb fails => ?_, fun hb passes => ?_⟩
    · exact ends ((State.mboxLoader_end _).trans ((if_neg (by simp [hb])).trans (if_pos fails)))
    · exact ends ((State.mboxLoader_end _).trans ((if_neg (by simp [hb])).trans (if_neg (not_not.mpr passes))))
  · refine Gives.of_run (exec_imageSlotWritten bad s) rfl ?_
    rcases none with down | none
    · simp [down]
    · simp [State.slotWritten_of_none none]
  · subst hb
    exact Gives.of_run (exec_imageSlotWritten true s) rfl ((if_pos up).trans (State.slotWritten_of_bad staged))
  · subst hb
    exact does_imageSlotWritten up staged wf bytes
  · refine Gives.of_run (exec_logWrite bad s) rfl ?_
    rcases quiet with none | quiet
    · simp only [none]
    · split
      · rfl
      · exact if_pos quiet
  · subst hb
    refine Gives.of_run (exec_logWrite true s) rfl ?_
    have on : ¬ (s.bn.clockLost = true ∨ (s.bnUp = false ∧ s.fld BN_STATE_STATE ≠ 1)) := by
      rcases runs with h | h <;> simp [clock, h]
    simp only [waiting]
    exact (if_neg on).trans (if_pos trivial)
  · subst hb
    exact does_logWrite waiting clock runs len7 unarmed wf

end Sys2Proof.Machine

/-! # The plot (R427, R428): the proof of PlotIsWrittenInOrder -/

namespace Sys2Proof.Machine

/-! ## Pieces of a list -/

theorem flatMap_slices_eq_take {α : Type} (l : List α) (k m : Nat) :
    ((List.range m).flatMap fun i => slice l (k * i) k) = l.take (k * m) := by
  induction m with
  | zero => simp
  | succ m ih => rw [List.range_succ, List.flatMap_append, ih, List.flatMap_singleton, slice, Nat.mul_succ, List.take_add]

/-- The pieces of a list, in their order, make it whole. -/
theorem flatMap_slices {α : Type} (l : List α) {k : Nat} (hk : 0 < k) :
    ((List.range (cdiv l.length k)).flatMap fun i => slice l (k * i) k) = l := by
  rw [flatMap_slices_eq_take]
  refine List.take_of_length_le ?_
  have := Nat.div_add_mod (l.length + k - 1) k
  have := Nat.mod_lt (l.length + k - 1) hk
  rw [cdiv]
  omega

theorem length_slice_le {α : Type} (l : List α) (i k : Nat) : (slice l i k).length ≤ k := List.length_take_le _ _

/-! ## What is written -/

section

variable (s : State) (es : List Edge)

/-- The edges as they stand behind the header, 32 bytes an edge (R428). -/
def edgeBytes : List Nat := es.flatMap fun e => (e.words es).flatMap (toBytes 8)

theorem length_edge (e : Edge) : ((e.words es).flatMap (toBytes 8)).length = 32 := by
  simp [Edge.words]

theorem length_edgeBytes : (edgeBytes es).length = 32 * es.length := by
  rw [edgeBytes, List.length_flatMap, List.map_congr_left fun e _ => length_edge es e, List.map_const', List.sum_replicate, smul_eq_mul,
    Nat.mul_comm]

/-- Where the plot stands (R428). -/
def State.plotAddr : Nat := s.fld FB_PLOT_LO_ADDR * 2 ^ 12 + s.rd FB_PLOT_HI * 2 ^ 32

/-- Word 0 without VALID (R428). -/
def State.plotWord : Nat := s.fld FB_MAP_GEN_GEN * 2 ^ 16 + 1

theorem State.plotWord_lt : s.plotWord < 2 ^ 33 := by
  have : s.fld FB_MAP_GEN_GEN < 2 ^ 16 := s.fld_lt FB_MAP_GEN_GEN 0 0
  rw [State.plotWord]
  omega

/-- A write of the plot. -/
def State.plotPut (a : Nat) (d : List Nat) : BPkt := ⟨3, s.fld FB_PLOT_CTRL_HP, 0, true, d.length, 0, a, d⟩

/-- The header, the pieces and word 0 again (R428). -/
theorem State.plotWrites_eq : s.plotWrites es =
    [s.plotPut s.plotAddr ([s.plotWord, s.time.c, s.time.c, es.length <<< 32, 0, 0, 0, 0].flatMap (toBytes 8))] ++
      (List.range (cdiv (edgeBytes es).length 4096)).map (fun i =>
        s.plotPut (s.plotAddr + 64 + 4096 * i) (Sys2Proof.Machine.slice (edgeBytes es) (4096 * i) 4096)) ++
      [s.plotPut s.plotAddr (toBytes 8 (2 ^ 63 + s.plotWord))] := by
  have ha : s.fld FB_PLOT_LO_ADDR <<< 12 + s.rd FB_PLOT_HI <<< 32 = s.plotAddr := by
    rw [Nat.shiftLeft_eq, Nat.shiftLeft_eq, State.plotAddr]
  have hw : s.fld FB_MAP_GEN_GEN <<< 16 + 1 = s.plotWord := by rw [Nat.shiftLeft_eq, State.plotWord]
  unfold State.plotWrites
  simp only [ha, hw]
  rfl

theorem State.length_plotWrites : (s.plotWrites es).length = 2 + cdiv (32 * es.length) 4096 := by
  rw [s.plotWrites_eq es, ← length_edgeBytes]
  simp only [List.length_append, List.length_map, List.length_range, List.length_singleton]
  omega

theorem State.plotWrites_small : ∀ w ∈ s.plotWrites es, w.data.length ≤ 4096 ∧ w.len = w.data.length := by
  intro w hw
  rw [s.plotWrites_eq es, List.mem_append, List.mem_append, List.mem_singleton, List.mem_map, List.mem_singleton] at hw
  obtain (rfl | ⟨i, -, rfl⟩) | rfl := hw
  · exact ⟨by simp [State.plotPut], rfl⟩
  · exact ⟨length_slice_le _ _ _, rfl⟩
  · exact ⟨by simp [State.plotPut], rfl⟩

/-- Byte 7 of a word is its top byte: VALID is bit 63 of word 0. -/
theorem getD_seven_toBytes (v : Nat) (l : List Nat) : (toBytes 8 v ++ l).getD 7 0 = v / 2 ^ 56 % 256 := by
  simp only [toBytes, List.cons_append, List.getD_cons_succ, List.getD_cons_zero, Nat.div_div_eq_div_mul]
  rfl

theorem State.plotWrites_ends : ∃ first last, (s.plotWrites es).head? = some first ∧ (s.plotWrites es).getLast? = some last ∧
    first.addr = s.plotAddr ∧ last.addr = s.plotAddr ∧ first.data.length = 64 ∧ first.data.getD 7 0 = 0 ∧
    last.data.length = 8 ∧ last.data.getD 7 0 = 0x80 := by
  have small := s.plotWord_lt
  refine ⟨s.plotPut s.plotAddr ([s.plotWord, s.time.c, s.time.c, es.length <<< 32, 0, 0, 0, 0].flatMap (toBytes 8)),
    s.plotPut s.plotAddr (toBytes 8 (2 ^ 63 + s.plotWord)), ?_, ?_, rfl, rfl, by simp [State.plotPut], ?_, by simp [State.plotPut], ?_⟩
  · rw [s.plotWrites_eq es, List.append_assoc, List.head?_append, List.head?_singleton, Option.some_or]
  · rw [s.plotWrites_eq es, List.getLast?_append, List.getLast?_singleton, Option.some_or]
  · rw [State.plotPut, List.flatMap_cons, getD_seven_toBytes]
    omega
  · rw [State.plotPut, ← List.append_nil (toBytes 8 _), getD_seven_toBytes]
    omega

theorem State.plotWrites_body : ((s.plotWrites es).drop 1).dropLast.flatMap (fun w => w.data) = edgeBytes es := by
  rw [s.plotWrites_eq es, List.append_assoc, List.singleton_append, List.drop_one, List.tail_cons, List.dropLast_concat, List.flatMap_map]
  exact flatMap_slices _ (by decide)

theorem State.plotWrites_piece {i : Nat} (hi : i < cdiv (32 * es.length) 4096) :
    ∃ w, (s.plotWrites es)[i + 1]? = some w ∧ w.addr = s.plotAddr + 64 + 4096 * i := by
  rw [← length_edgeBytes] at hi
  refine ⟨s.plotPut (s.plotAddr + 64 + 4096 * i) (Sys2Proof.Machine.slice (edgeBytes es) (4096 * i) 4096), ?_, rfl⟩
  rw [s.plotWrites_eq es, List.append_assoc, List.singleton_append, List.getElem?_cons_succ,
    List.getElem?_append_left (by simpa using hi), List.getElem?_map, List.getElem?_range hi, Option.map_some]

end

/-! ## Cycles -/

theorem reachTiles_ge (es : List Edge) (fuel : Nat) (l : List Nat) {t : Nat} (h : t ∈ l) : t ∈ reachTiles es fuel l := by
  induction fuel generalizing l with
  | zero => exact h
  | succ fuel ih =>
    rw [reachTiles]
    split
    · exact h
    · exact ih _ (List.mem_append_left _ h)

/-- An edge that awaits its own tile is on a cycle (R427). -/
theorem onCycle_of_self (es : List Edge) {e : Edge} (tile : e.ak = 0) (self : e.awaited = e.waiter) : onCycle es e = true := by
  rw [onCycle, tile, self, List.contains_iff_mem.mpr (reachTiles_ge es _ _ (List.mem_singleton_self _))]
  rfl

theorem not_onCycle (es : List Edge) {e : Edge} (other : e.ak ≠ 0) : onCycle es e = false := by
  simp [onCycle, other]

/-! ## PLOT_GO -/

section

variable {s : State} {v : Nat}

/-- The state in which PLOT_GO is judged: its write is answered, and FB_PLOT_CTRL written. -/
theorem State.plotTaken_frame (s : State) (v : Nat) : ∃ net w,
    (s.serveWrite (FB_PLOT_CTRL.addr 0 0) v).writeTyped FB_PLOT_CTRL 0 0 v = { s.wr FB_PLOT_CTRL 0 0 w with net := net } := by
  obtain ⟨net, e⟩ := s.serveWrite_unmirrored (off := FB_PLOT_CTRL.addr 0 0) (r := FB_PLOT_CTRL) (i := 0) (k := 0) v (by decide +kernel)
    (by decide +kernel)
  rw [e, State.writeTyped]
  exact ⟨net, _, rfl⟩

theorem gives_plotGo {t : State} (hv : v < 2 ^ 32)
    (h : (let u := (s.serveWrite (FB_PLOT_CTRL.addr 0 0) v).writeTyped FB_PLOT_CTRL 0 0 v
      if bit v 31 then u.plotGo else u) = t) : Gives (.plotGo v) s t := by
  refine Gives.of_run (exec_plotGo v s) (decide_eq_true hv) ?_
  have alive : s.regAlive (FB_PLOT_CTRL.addr 0 0) = true := by
    simp only [State.regAlive, show blockOf (FB_PLOT_CTRL.addr 0 0) = some (.fb, 0) by decide +kernel]
  exact (if_pos alive).trans h

end

/-- Bit 31 of a word of 32 bits. -/
theorem bit_top {v : Nat} (hv : v < 2 ^ 32) : bit v 31 = decide (v / 2 ^ 31 = 1) := by
  rw [bit, Nat.testBit_eq_decide_div_mod_eq, decide_eq_decide]
  omega

/-- Settles O53: the writes are the header, the pieces of the edges' bytes, which make them whole, and word 0 again. -/
theorem plotIsWrittenInOrder : Obligations.PlotIsWrittenInOrder := by
  unfold Obligations.PlotIsWrittenInOrder
  intro s v es hv u may es0 x ws addr
  obtain ⟨net, w, hu⟩ := s.plotTaken_frame v
  have up : u.bnUp = s.bnUp := by rw [show u = _ from hu]; rfl
  have state : u.fld BN_STATE_STATE = s.fld BN_STATE_STATE := by
    rw [show u = _ from hu]
    exact congrArg (bits · _ _) (State.rd_wr_ne _ _ _ _ _ _ _ _ (by decide))
  have busy : u.fld FB_PLOT_STATUS_BUSY = s.fld FB_PLOT_STATUS_BUSY := by
    rw [show u = _ from hu]
    exact congrArg (bits · _ _) (State.rd_wr_ne _ _ _ _ _ _ _ _ (by decide))
  refine ⟨fun no => ?_, fun go refused => ?_, fun go ok => ?_, ⟨s.length_plotWrites es, s.plotWrites_small es, s.plotWrites_ends es,
    s.plotWrites_body es, fun i hi => s.plotWrites_piece es hi⟩, fun e _ => onCycle_of_self es, fun e => not_onCycle es⟩
  · exact gives_plotGo hv (if_neg (by rw [bit_top hv, no]; decide))
  · refine gives_plotGo hv ((if_pos (by rw [bit_top hv, go]; rfl)).trans (if_pos ?_))
    rw [show ((s.serveWrite (FB_PLOT_CTRL.addr 0 0) v).writeTyped FB_PLOT_CTRL 0 0 v) = u from rfl, up, state, busy]
    have small : s.fld FB_PLOT_STATUS_BUSY < 2 := s.fld_lt FB_PLOT_STATUS_BUSY 0 0
    by_contra none
    obtain ⟨hup, hstate, hbusy⟩ : s.bnUp ≠ false ∧ ¬ s.fld BN_STATE_STATE ≠ 3 ∧ s.fld FB_PLOT_STATUS_BUSY ≠ 1 := by
      simpa only [not_or] using none
    exact refused ⟨Bool.eq_true_of_not_eq_false hup, not_not.mp hstate, by omega⟩
  · refine gives_plotGo hv ((if_pos (by rw [bit_top hv, go]; rfl)).trans (if_neg ?_))
    rw [show ((s.serveWrite (FB_PLOT_CTRL.addr 0 0) v).writeTyped FB_PLOT_CTRL 0 0 v) = u from rfl, up, state, busy]
    obtain ⟨hup, hstate, hbusy⟩ := ok
    simp [hup, hstate, hbusy]

end Sys2Proof.Machine

/-! # Marks and loads (R35 to R38, R46, R430, R470): the proofs of MarkCountsBeatsAndHeldMarks and ChCtrlWriteJudgesLoadByTheRunItLeaves -/

namespace Sys2Proof.Machine

/-! ## A region that accepts S -/

section

variable (r : Region)

theorem Region.updHold_eq : ∃ h, r.updHold = { r with holdReq := h } := by
  obtain ⟨-, e⟩ | ⟨-, -, e⟩ | ⟨-, -, -, e⟩ := r.updHold_cases
  · exact ⟨true, e⟩
  · exact ⟨false, e⟩
  · exact ⟨r.holdReq, e⟩

@[simp] theorem Region.updHold_L : r.updHold.L = r.L := by
  obtain ⟨h, e⟩ := r.updHold_eq
  rw [e]

@[simp] theorem Region.updHold_s : r.updHold.s = r.s := by
  obtain ⟨h, e⟩ := r.updHold_eq
  rw [e]

@[simp] theorem Region.updHold_slot : r.updHold.slot = r.slot := by
  obtain ⟨h, e⟩ := r.updHold_eq
  rw [e]

@[simp] theorem Region.updHold_stalled : r.updHold.stalled = r.stalled := by
  obtain ⟨h, e⟩ := r.updHold_eq
  rw [e]

@[simp] theorem Region.updHold_reload : r.updHold.reload = r.reload := by
  obtain ⟨h, e⟩ := r.updHold_eq
  rw [e]

/-- A region that runs: its clock and power are there, and it is not at F3. -/
abbrev Region.Runs (power : Bool) : Prop := r.absent = false ∧ r.f3 = false ∧ power = true

/-- What a region makes of S (R40, R470). -/
def Region.accept (power : Bool) (S : Nat) : Region :=
  if r.Runs power then
    if r.reload then { r with L := S, s := S, slot := 16, stalled := false, reload := false }.updHold else { r with s := S }.updHold
  else r.updHold

variable {r}
variable {power : Bool} {S : Nat}

theorem Region.accept_of_running (h : r.Runs power) (going : r.reload = false) : r.accept power S = { r with s := S }.updHold :=
  (if_pos h).trans (if_neg (by rw [going]; exact Bool.false_ne_true))

theorem Region.accept_of_reload (h : r.Runs power) (load : r.reload = true) :
    r.accept power S = { r with L := S, s := S, slot := 16, stalled := false, reload := false }.updHold :=
  (if_pos h).trans (if_pos load)

theorem Region.accept_of_stopped (h : ¬ r.Runs power) : r.accept power S = r.updHold := if_neg h

end

section

variable (s : State)

theorem State.acceptS_eq (n : Nat) : s.acceptS n = s.modRg n fun r => r.accept (s.powered n) s.S := by
  unfold State.acceptS State.modRg
  by_cases runs : (s.rg n).Runs (s.powered n)
  · have here : ¬ ((s.rg n).absent || (s.rg n).f3 || !s.powered n) = true := by
      obtain ⟨present, up, power⟩ := runs
      simp only [present, up, power]
      decide
    refine (if_neg here).trans ?_
    cases load : (s.rg n).reload
    · exact (if_neg Bool.false_ne_true).trans (load ▸ congrArg (s.setRg n) (Region.accept_of_running runs load)).symm
    · exact (if_pos rfl).trans (congrArg (s.setRg n) (Region.accept_of_reload runs load)).symm
  · refine (if_pos ?_).trans (congrArg (s.setRg n) (Region.accept_of_stopped runs)).symm
    simp only [Bool.or_eq_true, Bool.not_eq_true']
    simp only [Region.Runs, not_and_or, Bool.not_eq_false, Bool.not_eq_true] at runs
    exact or_assoc.mpr runs

/-- A lag of zero: L is S. -/
theorem beatSub_self (n : Nat) : beatSub n n = 0 := by
  have := Nat.mod_lt n (show 0 < beatMod by decide)
  have := Nat.div_add_mod n beatMod
  rw [beatSub, show n + beatMod - n % beatMod = beatMod * (n / beatMod + 1) by rw [Nat.mul_succ]; omega, Nat.mul_mod_right]

/-- What the regions' steps of a fold make of one region: its own step, in a state of which all that they keep still holds. -/
theorem State.rg_foldl {P : State → Prop} {f : State → Nat → State} {l : List Nat} {n : Nat} (once : l.Nodup) (mem : n ∈ l) (start : P s)
    (keep : ∀ x k, P x → P (f x k)) (others : ∀ x k m, m ≠ k → (f x k).rg m = x.rg m) :
    ∃ x, P x ∧ x.rg n = s.rg n ∧ (l.foldl f s).rg n = (f x n).rg n := by
  obtain ⟨before, after, rfl⟩ := List.append_of_mem mem
  obtain ⟨-, hafter, apart⟩ := List.nodup_append.mp once
  rw [List.foldl_append, List.foldl_cons]
  refine ⟨before.foldl f s, foldl_keeps start fun x k _ => keep x k, ?_, ?_⟩
  · exact foldl_keeps (P := fun x => x.rg n = s.rg n) rfl fun x k hk hx =>
      (others x k n (apart k hk n (List.mem_cons_self ..)).symm).trans hx
  · refine foldl_keeps (P := fun x => x.rg n = (f (before.foldl f s) n).rg n) rfl fun x k hk hx => (others x k n ?_).trans hx
    rintro rfl
    exact (List.nodup_cons.mp hafter).1 hk

/-- Every region accepts S. -/
def State.acceptAll : State := (List.range 36).foldl (fun s n => s.acceptS n) s

/-- Only the regions differ. -/
def State.OnlyRegions (x : State) : Prop := ∃ rgn, x = { s with rgn := rgn }

variable {s} in
theorem State.OnlyRegions.acceptS {x : State} {n : Nat} (only : s.OnlyRegions x) : s.OnlyRegions (x.acceptS n) := by
  obtain ⟨rgn, rfl⟩ := only
  rw [State.acceptS_eq]
  exact ⟨_, rfl⟩

theorem State.acceptAll_frame : ∃ rgn, s.acceptAll = { s with rgn := rgn } := by
  unfold State.acceptAll
  exact foldl_keeps (P := s.OnlyRegions) ⟨s.rgn, rfl⟩ fun x n _ => State.OnlyRegions.acceptS

theorem State.rg_acceptS_ne (k m : Nat) (h : m ≠ k) : (s.acceptS k).rg m = s.rg m := by
  rw [State.acceptS_eq, State.rg_modRg_ne _ _ _ _ h]

theorem State.rg_acceptAll {n : Nat} (hn : n < 36) : (s.acceptAll).rg n = (s.rg n).accept (s.powered n) s.S := by
  obtain ⟨x, ⟨rgn, hx⟩, own, e⟩ := s.rg_foldl (P := s.OnlyRegions) List.nodup_range (List.mem_range.mpr hn) ⟨s.rgn, rfl⟩
    (fun x n => State.OnlyRegions.acceptS (n := n)) State.rg_acceptS_ne
  have sames : x.S = s.S := by rw [hx]; rfl
  have power : x.powered n = s.powered n := by rw [hx]; rfl
  rw [State.acceptAll, e, State.acceptS_eq, State.rg_modRg_same, own, sames, power]

end

/-! ## A mark -/

section

variable {s : State}

theorem State.acceptAll_chr (s : State) : s.acceptAll.chr = s.chr := by
  obtain ⟨rgn, e⟩ := s.acceptAll_frame
  rw [e]

theorem State.freezeCheck_of_unseen {n : Nat} (seen : s.chr.stopSeen = 0) : s.freezeCheck n = s := if_neg fun h => h.1 seen

/-- C and H have moved at a mark without a stop and without a sync step (R36). -/
def State.counted (s : State) : State :=
  { s with
    time := ⟨(s.time.c + 1) % beatMod, (s.time.h + if s.chr.holdSample then 1 else 0) % beatMod⟩
    stamp := if beatMod ≤ s.time.c + 1 then [] else s.stamp
    chr := { s.chr with
      hold := s.chr.holdSample
      syncStep := none
      stopSeen := 0
      stopWire := false
      prevC := if beatMod ≤ s.time.c + 1 then (s.time.c + 1) % beatMod else s.time.c } }

theorem State.acceptAll_thawed (seen : s.chr.stopSeen = 0) :
    (List.range 36).foldl (fun s n => s.freezeCheck n) s.acceptAll = s.acceptAll :=
  foldl_eq_self fun _ _ => State.freezeCheck_of_unseen (s.acceptAll_chr.symm ▸ seen)

/-- A mark without a stop and without a sync step: C and H move, and every region accepts S. -/
theorem State.mark_of_plain (sync : s.chr.syncStep = none) (seen : s.chr.stopSeen = 0) (wire : s.chr.stopWire = false) :
    s.mark = s.counted.acceptAll := by
  unfold State.mark State.counted
  simp only [sync, seen, wire, State.countStep, markSteps, ne_eq, not_true_eq_false, false_and, decide_false, Bool.or_false,
    Bool.false_eq_true, if_false]
  exact State.acceptAll_thawed rfl

/-- What BEAT_MARK computes. -/
theorem does_beatMark {p : State → Prop} (h : p (s.afterTime (let t := if s.fld CH_CTRL_RUN = 1 then s.mark else s
    { t with chr := { t.chr with holdSample := s.holdLine, refGone := false } }))) : Does .beatMark s p :=
  Does.of_runTime (exec_beatMark s) rfl h

theorem does_beatMark_time {p : Chrono → Prop} (run : s.fld CH_CTRL_RUN = 1)
    (h : p (let st := markSteps s.chr.syncStep (s.chr.holdSample || decide (s.chr.stopSeen ≠ 0 ∧ s.chr.stopBeat + 2 ≤ s.S))
      ⟨(s.time.c + st.1) % beatMod, (s.time.h + st.2) % beatMod⟩)) : Does .beatMark s fun t => p t.time :=
  does_beatMark (by
    simp only [run, if_true, State.afterTime, s.mark_time]
    exact h)

/-- What the regions make of a mark without a stop and without a sync step. -/
theorem Region.accept_of_mark {r : Region} {power : Bool} {S : Nat} :
    (r.reload = false ∨ ¬ r.Runs power → (r.accept power S).L = r.L ∧ (r.accept power S).slot = r.slot) ∧
      (r.reload = true → r.Runs power → (r.accept power S).L = S ∧ (r.accept power S).lag = 0 ∧ (r.accept power S).slot = 16) ∧
      (r.Runs power → (r.accept power S).s = S) := by
  refine ⟨fun keeps => ?_, fun load runs => ?_, fun runs => ?_⟩
  · by_cases h : r.Runs power
    · simp [Region.accept_of_running h (keeps.resolve_right (not_not.mpr h))]
    · simp [Region.accept_of_stopped h]
  · rw [Region.accept_of_reload runs load, Region.lag]
    simp [beatSub_self]
  · cases load : r.reload
    · simp [Region.accept_of_running runs load]
    · simp [Region.accept_of_reload runs load]

end

/-- Settles O1: a mark is the move of C and H, and every region's acceptance of S. -/
theorem markCountsBeatsAndHeldMarks : Obligations.MarkCountsBeatsAndHeldMarks := by
  unfold Obligations.MarkCountsBeatsAndHeldMarks
  refine fun s => ⟨fun run sync => ?_, fun gain run sync => ?_, fun run sync seen wire => ?_, does_beatMark rfl, fun stopped => ?_⟩
  · refine does_beatMark_time (p := fun t => t.c = _ ∧ t.h = _) run ?_
    simp only [sync, markSteps, Bool.or_eq_true, decide_eq_true_eq]
    exact ⟨rfl, rfl⟩
  · refine does_beatMark_time (p := fun t => t.c = _ ∧ t.h = _) run ?_
    cases gain <;> simp only [sync, markSteps, Bool.or_eq_true, decide_eq_true_eq] <;> exact ⟨rfl, rfl⟩
  · refine does_beatMark ?_
    simp only [run, if_true, State.mark_of_plain sync seen wire]
    obtain ⟨rgn, e⟩ := s.counted.acceptAll_frame
    refine ⟨fun n hn => ?_, fun small => ?_, ?_⟩
    · have own : rgn.get n {} = (s.rg n).accept (s.powered n) s.counted.S := by
        have own := s.counted.rg_acceptAll hn
        rw [e] at own
        exact own
      have spec := Region.accept_of_mark (r := s.rg n) (power := s.powered n) (S := s.counted.S)
      rw [← own] at spec
      rw [e]
      exact spec
    · rw [e]
      exact if_neg (not_le.mpr small)
    · rw [e]
      rfl
  · have gives : GivesTime .beatMark s { s with chr := { s.chr with holdSample := s.holdLine, refGone := false } } :=
      GivesTime.of_runTime (exec_beatMark s) rfl (by rw [if_neg stopped])
    exact gives

end Sys2Proof.Machine

/-! # Writes of CH_CTRL (R38, R470): the proof of ChCtrlWriteJudgesLoadByTheRunItLeaves -/

namespace Sys2Proof.Machine

/-! ## Registers that a step keeps -/

section

variable {s t u : State} {l l' : List Nat}

theorem State.RegsKept.refl : s.RegsKept s l := fun _ _ _ => rfl

theorem State.RegsKept.trans (first : s.RegsKept t l) (then_ : t.RegsKept u l) : s.RegsKept u l :=
  fun off d out => (then_ off d out).trans (first off d out)

theorem State.RegsKept.mono (kept : s.RegsKept t l) (sub : l ⊆ l') : s.RegsKept t l' := fun off d out => kept off d fun h => out (sub h)

theorem State.RegsKept.rd (kept : s.RegsKept t l) {r : RegDef} {i k : Nat} (out : r.addr i k ∉ l) : t.rd r i k = s.rd r i k :=
  congrArg BitVec.toNat (kept _ _ out)

theorem State.RegsKept.fld (kept : s.RegsKept t l) {f : Fld} {i k : Nat} (out : f.reg.addr i k ∉ l) : t.fld f i k = s.fld f i k :=
  congrArg (bits · f.hi f.lo) (kept.rd out)

theorem State.regsKept_setFld (f : Fld) (v i k : Nat) (mem : f.reg.addr i k ∈ l) : s.RegsKept (s.setFld f v i k) l :=
  fun off d out => State.regs_setFld_ne _ _ _ _ _ off d fun e => out (e ▸ mem)

theorem State.regsKept_addFld (f : Fld) (v i k : Nat) (mem : f.reg.addr i k ∈ l) : s.RegsKept (s.addFld f v i k) l :=
  fun off d out => State.regs_addFld_ne _ _ _ _ _ off d fun e => out (e ▸ mem)

end

/-! ## The regions at a LOAD -/

section

variable (s : State)

/-- A region whose local count is to be taken from S. -/
def Region.toReload (r : Region) : Region := { r with reload := true, loadPend := true, holdReq := false }

/-- What a LOAD does to a region (R470). -/
def State.loadRegion (n : Nat) : State := ((s.endStall n).modRg n Region.toReload).acceptS n

/-- The registers that count the stalls of the regions below `m`. -/
def State.stallRegs (m : Nat) : List Nat := ((List.range m).filter fun n => (s.rg n).stalled).map fun n => RG_STALL_CNT.addr n 0

/-- The regions below `m` have taken a LOAD. -/
structure State.LoadedTo (m : Nat) (x : State) : Prop where
  frame : ∃ regs rgn, x = { s with regs := regs, rgn := rgn }
  regs : s.RegsKept x (s.stallRegs m)
  later : ∀ n, m ≤ n → x.rg n = s.rg n
  done : ∀ n, n < m → x.rg n = (s.rg n).toReload.accept (s.powered n) s.S

variable {s} {x : State} {n m : Nat}

theorem State.endStall_regs (x : State) (n : Nat) : ∃ regs, x.endStall n = { x with regs := regs } := by
  unfold State.endStall
  split
  · exact ⟨_, rfl⟩
  · exact ⟨x.regs, rfl⟩

theorem State.endStall_kept : x.RegsKept (x.endStall n) (if (x.rg n).stalled then [RG_STALL_CNT.addr n 0] else []) := by
  unfold State.endStall
  split
  · exact State.regsKept_addFld _ _ _ _ (List.mem_singleton_self _)
  · exact .refl

/-- No register of a region's stall count is one of the power enables. -/
theorem stall_ne_power : ∀ n < 36, ∀ l ∈ [BN_PWR_EN0.addr 0 0, BN_PWR_EN1.addr 0 0], RG_STALL_CNT.addr n 0 ≠ l := by decide +kernel

theorem State.RegsKept.powered (kept : s.RegsKept x (s.stallRegs m)) (hm : m ≤ 36) (n : Nat) : x.powered n = s.powered n := by
  have out : ∀ l ∈ [BN_PWR_EN0.addr 0 0, BN_PWR_EN1.addr 0 0], l ∉ s.stallRegs m := fun l hl mem => by
    obtain ⟨k, hk, e⟩ := List.mem_map.mp mem
    exact stall_ne_power k ((List.mem_range.mp (List.mem_filter.mp hk).1).trans_le hm) l hl e
  rw [State.powered, State.powered, kept.fld (out _ (by decide)), kept.fld (out _ (by decide))]

theorem State.LoadedTo.step (loaded : s.LoadedTo m x) (hm : m < 36) : s.LoadedTo (m + 1) (x.loadRegion m) := by
  obtain ⟨⟨regs, rgn, frame⟩, kept, later, done⟩ := loaded
  obtain ⟨regs', e⟩ := x.endStall_regs m
  have own : x.rg m = s.rg m := later m le_rfl
  have grown : s.stallRegs m ⊆ s.stallRegs (m + 1) := by
    rw [State.stallRegs, State.stallRegs, List.range_succ, List.filter_append, List.map_append]
    exact List.subset_append_left _ _
  have kept' : s.RegsKept (x.endStall m) (s.stallRegs (m + 1)) := by
    refine (kept.mono grown).trans (x.endStall_kept.mono ?_)
    rw [own, State.stallRegs, List.range_succ, List.filter_append, List.map_append]
    refine List.subset_append_of_subset_right _ ?_
    cases h : (s.rg m).stalled <;> simp [h]
  have power : (x.endStall m).powered m = s.powered m := kept'.powered hm m
  have rgs : (x.endStall m).rgn = x.rgn := by rw [e]
  have step : x.loadRegion m = (x.endStall m).setRg m ((s.rg m).toReload.accept (s.powered m) s.S) := by
    rw [State.loadRegion, State.acceptS_eq, State.modRg_modRg, State.modRg, State.rg, rgs]
    have same : ((x.endStall m).modRg m Region.toReload).S = s.S := by rw [e, frame]; rfl
    rw [show ((x.endStall m).modRg m Region.toReload).powered m = (x.endStall m).powered m from rfl, power, same]
    exact congrArg (fun r => State.setRg (x.endStall m) m (Region.accept (Region.toReload r) _ _)) own
  rw [step]
  refine ⟨⟨_, _, by rw [e, frame]; rfl⟩, kept', fun n hn => ?_, fun n hn => ?_⟩
  · rw [State.rg_setRg_ne _ _ _ _ (by omega), State.rg, rgs]
    exact later n (by omega)
  · obtain rfl | hn := (Nat.lt_succ_iff.mp hn).eq_or_lt'
    · exact State.rg_setRg_same _ _ _
    · rw [State.rg_setRg_ne _ _ _ _ hn.ne, State.rg, rgs]
      exact done n hn

theorem State.loadedTo (s : State) {m : Nat} (hm : m ≤ 36) : s.LoadedTo m ((List.range m).foldl (fun s n => s.loadRegion n) s) := by
  induction m with
  | zero => exact ⟨⟨s.regs, s.rgn, rfl⟩, .refl, fun _ _ => rfl, fun n hn => absurd hn n.not_lt_zero⟩
  | succ m ih =>
    rw [List.range_succ, List.foldl_append]
    exact (ih (by omega)).step hm

end

/-! ## CH_CTRL -/

section

variable (s : State) (v : Nat)

/-- RUN and HOLD_FORCE have their values (R38). -/
def State.chSet : State :=
  let x := (s.setFld CH_CTRL_RUN (bits v 0 0)).setFld CH_CTRL_HOLD_FORCE (bits v 2 2)
  if bit v 0 then x else { x with chr := { x.chr with prevC := x.time.c } }

/-- C is loaded, and no region has taken it yet (R38). -/
def State.loaded : State :=
  let c := s.pair CH_LOAD_LO CH_LOAD_HI % beatMod
  let move := fun (x : Nat) => (c + x + beatMod - s.time.c) % beatMod
  { s with
    time := ⟨c, 0⟩
    stamp := []
    chr := { s.chr with prevC := c, syncSent := move s.chr.syncSent, syncGot := move s.chr.syncGot } }

theorem State.loaded_frame : ∃ time stamp chr, s.loaded = { s with time := time, stamp := stamp, chr := chr } := by
  unfold State.loaded
  exact ⟨_, _, _, rfl⟩

theorem State.loadC_eq : s.loadC = (List.range 36).foldl (fun s n => s.loadRegion n) s.loaded := rfl

theorem State.chCtrl_of_both (load : bit v 1 = true) (run : bit v 0 = true) : s.chCtrl v = s.setFld CH_STATUS_LOAD_IGNORED 1 :=
  if_pos ⟨load, run⟩

theorem State.chCtrl_of_not_both (one : ¬ (bit v 1 = true ∧ bit v 0 = true)) :
    s.chCtrl v = if bit v 1 then (s.chSet v).loadC else s.chSet v :=
  if_neg one

theorem State.chSet_frame : ∃ regs chr, s.chSet v = { s with regs := regs, chr := chr } := by
  unfold State.chSet
  dsimp only
  split
  · exact ⟨_, s.chr, rfl⟩
  · exact ⟨_, _, rfl⟩

theorem State.chSet_regs : (s.chSet v).regs = ((s.setFld CH_CTRL_RUN (bits v 0 0)).setFld CH_CTRL_HOLD_FORCE (bits v 2 2)).regs := by
  unfold State.chSet
  dsimp only
  split <;> rfl

theorem State.chSet_fld (f : Fld) :
    (s.chSet v).fld f = ((s.setFld CH_CTRL_RUN (bits v 0 0)).setFld CH_CTRL_HOLD_FORCE (bits v 2 2)).fld f := by
  rw [State.fld, State.rd, State.chSet_regs]
  rfl

theorem State.chSet_run : (s.chSet v).fld CH_CTRL_RUN = v % 2 := by
  rw [State.chSet_fld, State.fld_setFld_apart _ CH_CTRL_HOLD_FORCE CH_CTRL_RUN _ 0 0 rfl (by decide) (by decide) (by decide),
    State.fld_setFld_same _ CH_CTRL_RUN _ 0 0 (by decide) (by decide)]
  simp [bits, CH_CTRL_RUN]

theorem State.chSet_hold : (s.chSet v).fld CH_CTRL_HOLD_FORCE = v / 4 % 2 := by
  rw [State.chSet_fld, State.fld_setFld_same _ CH_CTRL_HOLD_FORCE _ 0 0 (by decide) (by decide)]
  simp [bits, CH_CTRL_HOLD_FORCE, Nat.shiftRight_eq_div_pow]

theorem State.chSet_kept : s.RegsKept (s.chSet v) [CH_CTRL.addr 0 0] := by
  have kept : s.RegsKept ((s.setFld CH_CTRL_RUN (bits v 0 0)).setFld CH_CTRL_HOLD_FORCE (bits v 2 2)) [CH_CTRL.addr 0 0] :=
    (State.regsKept_setFld CH_CTRL_RUN _ 0 0 (List.mem_singleton.mpr rfl)).trans
      (State.regsKept_setFld CH_CTRL_HOLD_FORCE _ 0 0 (List.mem_singleton.mpr rfl))
  intro off d out
  rw [State.chSet_regs]
  exact kept off d out

/-- What a write with LOAD makes of a region (R470). -/
theorem Region.accept_of_load {r : Region} {power : Bool} {S : Nat} :
    (r.Runs power → (r.toReload.accept power S).L = S ∧ (r.toReload.accept power S).lag = 0 ∧
      (r.toReload.accept power S).stalled = false ∧ (r.toReload.accept power S).reload = false) ∧
    (¬ r.Runs power → (r.toReload.accept power S).L = r.L ∧ (r.toReload.accept power S).reload = true) := by
  refine ⟨fun runs => ?_, fun stopped => ?_⟩
  · rw [Region.accept_of_reload (r := r.toReload) runs rfl, Region.lag]
    simp [beatSub_self]
  · rw [Region.accept_of_stopped (r := r.toReload) stopped]
    simp [Region.toReload]

variable {s v}

theorem stall_ne_ctrl : ∀ n < 36, RG_STALL_CNT.addr n 0 ≠ CH_CTRL.addr 0 0 := by decide +kernel

theorem State.ctrl_not_stallReg : CH_CTRL.addr 0 0 ∉ s.stallRegs 36 := fun mem => by
  obtain ⟨k, hk, e⟩ := List.mem_map.mp mem
  exact stall_ne_ctrl k (List.mem_range.mp (List.mem_filter.mp hk).1) e

theorem State.loadC_loadedTo (x : State) : x.loaded.LoadedTo 36 x.loadC := x.loaded.loadedTo le_rfl

theorem State.loadC_memories (x : State) : x.loadC.spad = x.spad ∧ x.loadC.hbm = x.hbm ∧ x.loadC.flash = x.flash := by
  obtain ⟨regs, rgn, frame⟩ := x.loadC_loadedTo.frame
  obtain ⟨time, stamp, chr, before⟩ := x.loaded_frame
  rw [frame, before]
  exact ⟨rfl, rfl, rfl⟩

theorem State.chSet_memories : (s.chSet v).spad = s.spad ∧ (s.chSet v).hbm = s.hbm ∧ (s.chSet v).flash = s.flash := by
  obtain ⟨regs, chr, frame⟩ := s.chSet_frame v
  rw [frame]
  exact ⟨rfl, rfl, rfl⟩

theorem State.chSet_rgn : (s.chSet v).rgn = s.rgn := by
  obtain ⟨regs, chr, frame⟩ := s.chSet_frame v
  rw [frame]

theorem State.loaded_rgn (x : State) : x.loaded.rgn = x.rgn := by
  obtain ⟨time, stamp, chr, e⟩ := x.loaded_frame
  rw [e]

theorem State.loaded_regs (x : State) : x.loaded.regs = x.regs := by
  obtain ⟨time, stamp, chr, e⟩ := x.loaded_frame
  rw [e]

theorem State.RegsKept.of_loaded {l : List Nat} {x y : State} (kept : x.loaded.RegsKept y l) : x.RegsKept y l := fun off d out => by
  rw [kept off d out, State.loaded_regs]

theorem State.RegsKept.to_loaded {l : List Nat} {x y : State} (kept : x.RegsKept y l) : x.RegsKept y.loaded l := fun off d out => by
  rw [State.loaded_regs, kept off d out]

theorem State.loadC_rg {n : Nat} (hn : n < 36) : ((s.chSet v).loadC).rg n = (s.rg n).toReload.accept (s.powered n) (s.chSet v).loadC.S := by
  have loaded := (s.chSet v).loadC_loadedTo
  obtain ⟨regs, rgn, frame⟩ := loaded.frame
  have time : (s.chSet v).loadC.time = (s.chSet v).loaded.time := by rw [frame]
  have same : (s.chSet v).loadC.S = (s.chSet v).loaded.S := by rw [State.S, State.S, time]
  have own : (s.chSet v).loaded.rg n = s.rg n := by rw [State.rg, State.loaded_rgn, State.chSet_rgn, State.rg]
  have power : (s.chSet v).loaded.powered n = s.powered n := by
    have kept := (s.chSet_kept v).to_loaded
    rw [State.powered, State.powered, kept.fld (by decide), kept.fld (by decide)]
  rw [loaded.done n hn, same, own, power]

theorem State.loadC_ctrl (x : State) : x.loadC.rd CH_CTRL = x.rd CH_CTRL :=
  x.loadC_loadedTo.regs.of_loaded.rd State.ctrl_not_stallReg

theorem State.loadC_kept : s.RegsKept (s.chSet v).loadC (CH_CTRL.addr 0 0 :: s.stallRegs 36) := by
  have same : (s.chSet v).loaded.stallRegs 36 = s.stallRegs 36 := by
    simp only [State.stallRegs, State.rg, State.loaded_rgn, State.chSet_rgn]
  have kept := (s.chSet v).loadC_loadedTo.regs.of_loaded
  rw [same] at kept
  exact ((s.chSet_kept v).mono (List.cons_subset_cons _ (List.nil_subset _))).trans (kept.mono (List.subset_cons_self _ _))

/-- A write of CH_CTRL: what each row of it computes. -/
theorem does_chCtrl {c : Sys2Proof.Instr} {p : State → Prop} (hv : v < 2 ^ 32) (hc : c ∈ [Instr.chRun v, .chLoad v, .holdForce v])
    (h : ∀ net bn, p (s.afterTime (State.chCtrl { s with net := net, bn := bn } v))) : Does c s p := by
  have served : s.regWrite chCtrlOff v (fun s => s.chCtrl v) = (s.serveWrite chCtrlOff v).chCtrl v :=
    if_pos s.regAlive_chCtrl
  obtain ⟨net, bn, e⟩ := s.serveWrite_frame chCtrlOff v
  have own := h net bn
  rw [← e, ← served] at own
  simp only [List.mem_cons, List.not_mem_nil, or_false] at hc
  obtain rfl | rfl | rfl := hc
  · exact Does.of_runTime (exec_chRun v s) (decide_eq_true hv) own
  · exact Does.of_runTime (exec_chLoad v s) (decide_eq_true hv) own
  · exact Does.of_runTime (exec_holdForce v s) (decide_eq_true hv) own

end

/-- Bits 0 and 1 of a word. -/
theorem bit_low (v : Nat) : bit v 0 = decide (v % 2 = 1) ∧ bit v 1 = decide (v / 2 % 2 = 1) := by
  simp only [bit, Nat.testBit_eq_decide_div_mod_eq, pow_zero, Nat.div_one, pow_one, and_self]

/-- Settles O3: a write of both only sets LOAD_IGNORED; any other sets RUN and HOLD_FORCE, and with LOAD every region takes the beat. -/
theorem chCtrlWriteJudgesLoadByTheRunItLeaves : Obligations.ChCtrlWriteJudgesLoadByTheRunItLeaves := by
  unfold Obligations.ChCtrlWriteJudgesLoadByTheRunItLeaves
  intro s v c hv hc
  refine does_chCtrl hv hc fun net bn => ?_
  obtain ⟨run, load⟩ := bit_low v
  have time := State.chCtrl_time (s := { s with net := net, bn := bn }) v
  simp only [run, load, decide_eq_true_eq, decide_eq_false_iff_not] at time
  by_cases both : v / 2 % 2 = 1 ∧ v % 2 = 1
  · rw [State.chCtrl_of_both _ v (by simp [load, both]) (by simp [run, both])]
    refine ⟨by omega, by omega, fun _ _ => ⟨rfl, rfl, ?_, ?_⟩, by omega, ?_, rfl, rfl, rfl⟩
    · exact State.fld_setFld_same _ CH_STATUS_LOAD_IGNORED _ 0 0 (by decide) (by decide)
    · exact State.rd_setFld_ne _ _ _ _ _ _ _ _ (by decide)
    · exact State.regsKept_setFld CH_STATUS_LOAD_IGNORED _ 0 0 (by simp [CH_STATUS_LOAD_IGNORED])
  have ctrl := State.chCtrl_of_not_both { s with net := net, bn := bn } v (by simpa [run, load] using both)
  have set_run := State.chSet_run { s with net := net, bn := bn } v
  have set_hold := State.chSet_hold { s with net := net, bn := bn } v
  by_cases loads : v / 2 % 2 = 1
  · have stays : ¬ v % 2 = 1 := fun h => both ⟨loads, h⟩
    rw [if_pos (by rw [load]; exact decide_eq_true loads)] at ctrl
    rw [if_pos ⟨loads, stays⟩] at time
    have rgs := fun (n : Nat) (hn : n < 36) => State.loadC_rg (s := { s with net := net, bn := bn }) (v := v) hn
    have kept := State.loadC_kept (s := { s with net := net, bn := bn }) (v := v)
    have memories := State.loadC_memories (State.chSet { s with net := net, bn := bn } v)
    have before := State.chSet_memories (s := { s with net := net, bn := bn }) (v := v)
    have same := State.loadC_ctrl (State.chSet { s with net := net, bn := bn } v)
    rw [← ctrl] at rgs kept memories same
    generalize State.chCtrl { s with net := net, bn := bn } v = x at *
    generalize State.chSet { s with net := net, bn := bn } v = y at *
    refine ⟨fun _ => ⟨?_, ?_⟩, by omega, by omega, fun _ _ => ⟨time, fun n hn => ?_⟩, ?_, memories.1.trans before.1,
      memories.2.1.trans before.2.1, memories.2.2.trans before.2.2⟩
    · exact (congrArg (bits · 0 0) same).trans set_run
    · exact (congrArg (bits · 2 2) same).trans set_hold
    · have own : x.rg n = (s.rg n).toReload.accept (s.powered n) x.S := rgs n hn
      have spec := Region.accept_of_load (r := s.rg n) (power := s.powered n) (S := x.S)
      rw [← own] at spec
      exact spec
    · rw [if_pos ⟨loads, by omega⟩]
      refine State.RegsKept.mono (l := CH_CTRL.addr 0 0 :: s.stallRegs 36) kept (List.cons_subset.mpr ⟨by simp, ?_⟩)
      exact List.subset_append_right _ _
  · rw [if_neg (by rw [load]; simpa using loads)] at ctrl
    rw [if_neg fun h => loads h.1] at time
    have kept := State.chSet_kept { s with net := net, bn := bn } v
    have memories := State.chSet_memories (s := { s with net := net, bn := bn }) (v := v)
    have rgn := State.chSet_rgn (s := { s with net := net, bn := bn }) (v := v)
    rw [← ctrl] at kept memories rgn set_run set_hold
    generalize State.chCtrl { s with net := net, bn := bn } v = x at *
    refine ⟨fun _ => ⟨set_run, set_hold⟩, fun _ => ⟨time, rgn⟩, by omega, by omega, ?_, memories⟩
    rw [if_neg fun h => loads h.1]
    exact State.RegsKept.mono (l := [CH_CTRL.addr 0 0]) kept (by simp)

end Sys2Proof.Machine

/-! # Snapshots and logbooks (R418, R419, R426, R443): the refutation of SnapshotsAndLogbooks -/

namespace Sys2Proof.Machine

/-! ## The counterexample

A logbook takes no entry while the clock of its unit counts as stopped (R57), and its LOG_PTR is still written: FREEZE is set without the
entry 0x7F of R426. -/

/-- The clock of memory port 0 is lost, and its logbook is empty. -/
def lostClock : State := { stopped := [domOf .mp 0] }

theorem lostClock_open : lostClock.fld (LOG_PTR_FREEZE (logKind 1)) 0 = 0 := by decide +kernel

theorem lostClock_alive : lostClock.regAlive ((LOG_PTR (logKind 1)).addr 0 0) = true := by decide +kernel

/-- A write of FREEZE there leaves every logbook as it was. -/
theorem lostClock_freeze {t : State} (h : exec (.freeze 1 0 (2 ^ 31)) lostClock = .next t) : t.logs = [] := by
  have empty : (match exec (.freeze 1 0 (2 ^ 31)) lostClock with
    | .next t => t.logs.isEmpty
    | _ => true) = true := by decide +kernel
  rw [h] at empty
  exact List.isEmpty_iff.mp empty

/-- Refutes O51: FREEZE leaves no entry in the logbook of a unit whose clock is lost. -/
theorem not_snapshotsAndLogbooks : ¬ Obligations.SnapshotsAndLogbooks := by
  unfold Obligations.SnapshotsAndLogbooks
  intro h
  obtain ⟨-, -, -, -, -, -, freeze, -⟩ := h lostClock (2 ^ 31) 1 0 0 0 0 false (by decide) (by decide) (by decide) (by decide) (by decide) (by decide)
  obtain ⟨-, writes, -⟩ := freeze (by decide)
  obtain ⟨-, freezes, -⟩ := writes (by decide) lostClock_alive
  obtain ⟨t, ht, -, ⟨e, -, entry⟩, -⟩ := freezes (by decide) lostClock_open
  rw [lostClock_freeze ht] at entry
  have zero : (⟨0, 0, 0, 0, 0, 0⟩ : LogE) = e := entry ⟨0, 0, 0, 0, 0, 0⟩
  have one : (⟨1, 0, 0, 0, 0, 0⟩ : LogE) = e := entry ⟨1, 0, 0, 0, 0, 0⟩
  exact absurd (zero.trans one.symm) (by decide)

end Sys2Proof.Machine

/-! # The anchor stop and scan-out (R429, R430, R433): the proof of AnchorStopAndScanOut -/

namespace Sys2Proof.Machine

theorem State.RegsKept.pair {s t : State} {l : List Nat} {lo hi : RegDef} {i k : Nat} (kept : s.RegsKept t l) (hlo : lo.addr i k ∉ l)
    (hhi : hi.addr i k ∉ l) : t.pair lo hi i k = s.pair lo hi i k :=
  congrArg₂ (fun a b => a + b <<< 32) (kept.rd hlo) (kept.rd hhi)

/-! ## Logbooks -/

/-- What a step that writes logbooks may change: of the registers those in `l`, and of the regions that their stamps are awaited. -/
structure State.Logged (s t : State) (l : List Nat) : Prop where
  frame : ∃ regs logs stamp rgn woken, t = { s with regs := regs, logs := logs, stamp := stamp, rgn := rgn, woken := woken }
  regs : s.RegsKept t l
  region : ∀ n, ∃ b, t.rg n = { s.rg n with resync := b }

section

variable {s t u : State} {l l' : List Nat} {k : UnitKind} {i : Nat}

theorem State.Logged.refl : s.Logged s l := ⟨⟨s.regs, s.logs, s.stamp, s.rgn, s.woken, rfl⟩, .refl, fun _ => ⟨_, rfl⟩⟩

theorem State.Logged.trans (first : s.Logged t l) (then_ : t.Logged u l) : s.Logged u l := by
  obtain ⟨_, _, _, _, _, e⟩ := first.frame
  obtain ⟨_, _, _, _, _, e'⟩ := then_.frame
  refine ⟨⟨_, _, _, _, _, e'.trans (by rw [e])⟩, first.regs.trans then_.regs, fun n => ?_⟩
  obtain ⟨b, hb⟩ := first.region n
  obtain ⟨c, hc⟩ := then_.region n
  exact ⟨c, by rw [hc, hb]⟩

theorem State.Logged.mono (logged : s.Logged t l) (sub : l ⊆ l') : s.Logged t l' := ⟨logged.frame, logged.regs.mono sub, logged.region⟩

theorem State.logged_setFld (f : Fld) (v j : Nat) (mem : f.reg.addr j 0 ∈ l) : s.Logged (s.setFld f v j) l :=
  ⟨⟨_, s.logs, s.stamp, s.rgn, s.woken, rfl⟩, State.regsKept_setFld _ _ _ _ mem, fun _ => ⟨_, rfl⟩⟩

theorem State.logged_stamped (d : Nat) : s.Logged (s.stamped d) l := by
  unfold State.stamped
  dsimp only
  split
  · refine ⟨⟨s.regs, s.logs, _, _, s.woken, rfl⟩, .refl, fun n => ?_⟩
    by_cases hn : n = d
    · subst hn
      exact ⟨false, State.rg_modRg_same _ _ _⟩
    · exact ⟨_, State.rg_modRg_ne _ _ _ _ hn⟩
  · exact ⟨⟨s.regs, s.logs, _, s.rgn, _, rfl⟩, .refl, fun _ => ⟨_, rfl⟩⟩

/-- An entry of a logbook moves its LOG_PTR (R425). -/
theorem State.logged_log (code peerKind peer detail : Nat) (mem : (LOG_PTR k).addr i 0 ∈ l) : s.Logged (s.log k i code peerKind peer detail) l := by
  unfold State.log
  split
  · exact .refl
  · dsimp only
    generalize hx : ({ s with logs := _ } : State) = x
    have start : s.Logged x l := by
      subst hx
      exact ⟨⟨s.regs, _, s.stamp, s.rgn, s.woken, rfl⟩, .refl, fun _ => ⟨_, rfl⟩⟩
    have total : x.Logged (x.addFld (LOG_PTR_TOTAL k) 1 i) l := State.logged_setFld (LOG_PTR_TOTAL k) _ i mem
    have next := State.logged_setFld (s := x.addFld (LOG_PTR_TOTAL k) 1 i) (LOG_PTR_NEXT k) (s.fld (LOG_PTR_NEXT k) i + 1) i mem
    exact start.trans (total.trans (next.trans (State.logged_stamped _)))

theorem State.logged_freezeLog (mem : (LOG_PTR k).addr i 0 ∈ l) : s.Logged (s.freezeLog k i) l := by
  unfold State.freezeLog
  split
  · exact .refl
  · exact (State.logged_log _ _ _ _ mem).trans (State.logged_setFld (LOG_PTR_FREEZE k) _ i mem)

theorem State.logged_foldl (f : State → Nat → State) (is : List Nat) (step : ∀ (x : State), ∀ i ∈ is, x.Logged (f x i) l) : s.Logged (is.foldl f s) l :=
  foldl_keeps (P := fun x => s.Logged x l) .refl fun x i hi hx => hx.trans (step x i hi)

/-- The LOG_PTR of every unit that has a logbook. -/
def logPtrs : List Nat :=
  [UnitKind.ni, .mp, .ol, .hp].flatMap fun k => (List.range k.count).map fun i => (LOG_PTR k).addr i 0

theorem mem_logPtrs (hk : k ∈ [UnitKind.ni, .mp, .ol, .hp]) (hi : i ∈ List.range k.count) : (LOG_PTR k).addr i 0 ∈ logPtrs :=
  List.mem_flatMap.mpr ⟨k, hk, List.mem_map.mpr ⟨i, hi, rfl⟩⟩

/-- Every logbook freezes. -/
theorem State.logged_freezeAll (s : State) : s.Logged s.freezeAll logPtrs := by
  unfold State.freezeAll
  exact .trans (.trans (.trans (State.logged_foldl _ _ fun x i hi => State.logged_freezeLog (mem_logPtrs (by decide) hi))
    (State.logged_foldl _ _ fun x i hi => State.logged_freezeLog (mem_logPtrs (by decide) hi)))
    (State.logged_foldl _ _ fun x i hi => State.logged_freezeLog (mem_logPtrs (by decide) hi)))
    (State.logged_foldl _ _ fun x i hi => State.logged_freezeLog (mem_logPtrs (by decide) hi))

theorem anchor_not_logPtr : ∀ a ∈ [FB_ANCHOR_STATUS.addr 0 0, FB_ANCHOR_BEAT_LO.addr 0 0, FB_ANCHOR_BEAT_HI.addr 0 0], a ∉ logPtrs := by
  decide +kernel

end

/-! ## Settings -/

section

variable (s : State) (v : Nat)

/-- Bits of 32-bit operands. -/
theorem bit_eq (i : Nat) : bit v i = decide (v / 2 ^ i % 2 = 1) := Nat.testBit_eq_decide_div_mod_eq

theorem State.rd_writeTyped_same (r : RegDef) (i k : Nat) :
    (s.writeTyped r i k v).rd r i k = r.write s.locked (s.rd r i k) v % 2 ^ 32 := State.rd_wr_same _ _ _ _ _

theorem State.rd_writeTyped_ne (r q : RegDef) (i k j m : Nat) (h : q.addr j m ≠ r.addr i k) :
    (s.writeTyped r i k v).rd q j m = s.rd q j m := State.rd_wr_ne _ _ _ _ _ _ _ _ h

theorem State.fld_writeTyped_ne (r : RegDef) (f : Fld) (i k j m : Nat) (h : f.reg.addr j m ≠ r.addr i k) :
    (s.writeTyped r i k v).fld f j m = s.fld f j m := congrArg (bits · f.hi f.lo) (s.rd_writeTyped_ne v _ _ _ _ _ _ h)

theorem State.fld_anchorCtrl : (s.writeTyped FB_ANCHOR_CTRL 0 0 v).fld FB_ANCHOR_CTRL_PIN_EN = v / 2 ^ 29 % 2 ∧
    (s.writeTyped FB_ANCHOR_CTRL 0 0 v).fld FB_ANCHOR_CTRL_TRIG_EN = v / 2 ^ 28 % 2 := by
  have written : (s.writeTyped FB_ANCHOR_CTRL 0 0 v).rd FB_ANCHOR_CTRL 0 0 =
      (0 + 0 <<< 31 + 0 <<< 30 + bits v 29 29 <<< 29 + bits v 28 28 <<< 28) % 2 ^ 32 := s.rd_writeTyped_same v FB_ANCHOR_CTRL 0 0
  refine ⟨(congrArg (bits · 29 29) written).trans ?_, (congrArg (bits · 28 28) written).trans ?_⟩ <;>
    simp only [bits, Nat.shiftLeft_eq, Nat.shiftRight_eq_div_pow] <;> omega

theorem State.fld_scanCfg : (s.writeTyped FB_SCAN_CFG 0 0 v).fld FB_SCAN_CFG_SPAD = v / 2 ^ 28 % 2 ∧
    (s.writeTyped FB_SCAN_CFG 0 0 v).fld FB_SCAN_CFG_LAND = v / 2 ^ 27 % 2 := by
  have written : (s.writeTyped FB_SCAN_CFG 0 0 v).rd FB_SCAN_CFG 0 0 =
      (0 + 0 <<< 31 + FTy.write .rwl s.locked (bits (s.rd FB_SCAN_CFG 0 0) 30 30) (bits v 30 30) <<< 30 + bits v 29 29 <<< 29 +
        bits v 28 28 <<< 28 + bits v 27 27 <<< 27) % 2 ^ 32 := s.rd_writeTyped_same v FB_SCAN_CFG 0 0
  generalize FTy.write .rwl s.locked (bits (s.rd FB_SCAN_CFG 0 0) 30 30) (bits v 30 30) = enable at written
  refine ⟨(congrArg (bits · 28 28) written).trans ?_, (congrArg (bits · 27 27) written).trans ?_⟩ <;>
    simp only [bits, Nat.shiftLeft_eq, Nat.shiftRight_eq_div_pow] <;> omega

end

/-! ## The input and its limit -/

section

variable {s : State}

/-- Whether an edge of ANCHOR_N stops the die (R429). -/
abbrev State.obeysAnchor (s : State) : Prop :=
  s.fld FB_ANCHOR_CTRL_PIN_EN = 1 ∧ s.pins.anchorArmed = true ∧ s.fld FB_ANCHOR_STATUS_STUCK = 0

/-- An edge has been counted. -/
def State.anchorEdge (s : State) : State := { s with pins := { s.pins with anchorLow := true } }.addFld FB_ANCHOR_STATUS_EDGES 1

theorem State.anchorEdge_ctrl : s.anchorEdge.fld FB_ANCHOR_CTRL_PIN_EN = s.fld FB_ANCHOR_CTRL_PIN_EN :=
  State.fld_setFld_ne _ _ _ _ _ _ _ _ (by decide)

theorem State.anchorEdge_status (f : Fld) (hr : f.reg = FB_ANCHOR_STATUS) (h : 7 < f.lo) : s.anchorEdge.fld f = s.fld f :=
  State.fld_setFld_apart _ FB_ANCHOR_STATUS_EDGES f _ 0 0 hr (by decide) (by decide) (.inl h)

theorem State.anchorEdge_edges : s.anchorEdge.fld FB_ANCHOR_STATUS_EDGES = (s.fld FB_ANCHOR_STATUS_EDGES + 1) % 256 :=
  State.fld_setFld_same _ FB_ANCHOR_STATUS_EDGES _ 0 0 (by decide) (by decide)

theorem does_anchorN {p : State → Prop} (obeyed : s.obeysAnchor → p (s.after (s.anchorEdge.anchorStop FB_ANCHOR_STATUS_SRC_PIN)))
    (ignored : ¬ s.obeysAnchor → p (s.after s.anchorEdge)) : Does .anchorN s p := by
  refine Does.of_run (exec_anchorN s) rfl ?_
  have judged : (s.anchorEdge.fld FB_ANCHOR_CTRL_PIN_EN == 1 && s.anchorEdge.pins.anchorArmed &&
      s.anchorEdge.fld FB_ANCHOR_STATUS_STUCK == 0) = true ↔ s.obeysAnchor := by
    rw [State.anchorEdge_ctrl, State.anchorEdge_status _ rfl (by decide), Bool.and_eq_true, Bool.and_eq_true, and_assoc, beq_iff_eq, beq_iff_eq]
    rfl
  show p (s.after (if s.anchorEdge.fld FB_ANCHOR_CTRL_PIN_EN == 1 && s.anchorEdge.pins.anchorArmed && s.anchorEdge.fld FB_ANCHOR_STATUS_STUCK == 0
    then s.anchorEdge.anchorStop FB_ANCHOR_STATUS_SRC_PIN else s.anchorEdge))
  by_cases h : s.obeysAnchor
  · rw [if_pos (judged.mpr h)]
    exact obeyed h
  · rw [if_neg (mt judged.mp h)]
    exact ignored h

/-- ANCHOR_N asserted too long (R429). -/
theorem does_anchorNStuck {p : State → Prop} (h : s.fld FB_ANCHOR_STATUS_STUCK = 0)
    (hp : p (s.after ((s.setFld FB_ANCHOR_STATUS_STUCK 1).addFld FB_ANCHOR_STATUS_STUCK_CNT 1))) : Does .anchorNStuck s p := by
  refine Does.of_run (exec_anchorNStuck s) rfl ?_
  rwa [if_neg (by rw [h]; decide)]

/-! ## FB_ANCHOR_CTRL -/

/-- The input is armed, where the write says so (R429). -/
def State.anchorArm (s : State) (v : Nat) : State :=
  if bit v 30 then { s with pins := { s.pins with anchorArmed := true } }.setFld FB_ANCHOR_STATUS_STUCK 0 else s

/-- The die stops, where the write says so (R429). -/
def State.anchorHost (s : State) (v : Nat) : State := if bit v 31 then s.anchorStop FB_ANCHOR_STATUS_SRC_HOST else s

theorem State.anchorCtrl_eq (s : State) (v : Nat) :
    ∃ net, s.anchorCtrl v = ((State.writeTyped { s with net := net } FB_ANCHOR_CTRL 0 0 v).anchorArm v).anchorHost v := by
  obtain ⟨net, e⟩ := s.serveWrite_unmirrored (off := FB_ANCHOR_CTRL.addr 0 0) (r := FB_ANCHOR_CTRL) (i := 0) (k := 0) v (by decide +kernel)
    (by decide +kernel)
  have alive : s.regAlive (FB_ANCHOR_CTRL.addr 0 0) = true := by
    simp only [State.regAlive, show blockOf (FB_ANCHOR_CTRL.addr 0 0) = some (.fb, 0) by decide +kernel]
  refine ⟨net, ?_⟩
  rw [State.anchorCtrl, State.regWrite, if_pos alive, e]
  rfl

/-- What a write of FB_ANCHOR_CTRL does besides the settings. -/
theorem State.anchorArm_spec (s : State) (v : Nat) :
    ((s.anchorArm v).chr = s.chr) ∧ ((s.anchorArm v).pins.anchorArmed = true ↔ s.pins.anchorArmed = true ∨ v / 2 ^ 30 % 2 = 1) ∧
    (s.anchorArm v).fld FB_ANCHOR_STATUS_STUCK = (if v / 2 ^ 30 % 2 = 1 then 0 else s.fld FB_ANCHOR_STATUS_STUCK) ∧
    (s.anchorArm v).fld FB_ANCHOR_STATUS_SRC_HOST = s.fld FB_ANCHOR_STATUS_SRC_HOST ∧
    s.RegsKept (s.anchorArm v) [FB_ANCHOR_STATUS.addr 0 0] ∧ (s.anchorArm v).rgn = s.rgn := by
  unfold State.anchorArm
  rw [bit_eq]
  by_cases h : v / 2 ^ 30 % 2 = 1
  · rw [if_pos (decide_eq_true h), if_pos h]
    refine ⟨rfl, iff_of_true rfl (.inr h), State.fld_setFld_same _ FB_ANCHOR_STATUS_STUCK _ 0 0 (by decide) (by decide), ?_, ?_, rfl⟩
    · exact State.fld_setFld_apart _ FB_ANCHOR_STATUS_STUCK FB_ANCHOR_STATUS_SRC_HOST _ 0 0 rfl (by decide) (by decide) (by decide)
    · exact State.regsKept_setFld FB_ANCHOR_STATUS_STUCK _ 0 0 (List.mem_singleton.mpr rfl)
  · rw [if_neg (by simpa using h), if_neg h]
    exact ⟨rfl, (or_iff_left h).symm, rfl, rfl, .refl, rfl⟩

theorem State.anchorHost_spec (s : State) (v : Nat) :
    ((s.anchorHost v).chr.stopWire = true ↔ s.chr.stopWire = true ∨ v / 2 ^ 31 % 2 = 1) ∧ (s.anchorHost v).pins = s.pins ∧
    (s.anchorHost v).fld FB_ANCHOR_STATUS_STUCK = s.fld FB_ANCHOR_STATUS_STUCK ∧
    (s.anchorHost v).fld FB_ANCHOR_STATUS_SRC_HOST = (if v / 2 ^ 31 % 2 = 1 then 1 else s.fld FB_ANCHOR_STATUS_SRC_HOST) ∧
    s.RegsKept (s.anchorHost v) [FB_ANCHOR_STATUS.addr 0 0] ∧ (s.anchorHost v).rgn = s.rgn := by
  unfold State.anchorHost
  rw [bit_eq]
  by_cases h : v / 2 ^ 31 % 2 = 1
  · rw [if_pos (decide_eq_true h), if_pos h]
    refine ⟨iff_of_true rfl (.inr h), rfl, ?_, State.fld_setFld_same _ FB_ANCHOR_STATUS_SRC_HOST _ 0 0 (by decide) (by decide), ?_, rfl⟩
    · exact State.fld_setFld_apart _ FB_ANCHOR_STATUS_SRC_HOST FB_ANCHOR_STATUS_STUCK _ 0 0 rfl (by decide) (by decide) (by decide)
    · exact State.regsKept_setFld FB_ANCHOR_STATUS_SRC_HOST _ 0 0 (List.mem_singleton.mpr rfl)
  · rw [if_neg (by simpa using h), if_neg h]
    exact ⟨(or_iff_left h).symm, rfl, rfl, rfl, .refl, rfl⟩

/-- STOP and ANCHOR_REARM write one register. -/
theorem does_anchorCtrl {c : Sys2Proof.Instr} {v : Nat} {p : State → Prop} (hv : v < 2 ^ 32) (hc : c ∈ [Instr.stop v, .anchorRearm v])
    (h : p (s.after (s.anchorCtrl v))) : Does c s p := by
  simp only [List.mem_cons, List.not_mem_nil, or_false] at hc
  obtain rfl | rfl := hc
  · exact Does.of_run (exec_stop v s) (decide_eq_true hv) h
  · exact Does.of_run (exec_anchorRearm v s) (decide_eq_true hv) h

end

/-! ## The end of a stop -/

section

variable {s : State}

/-- Every region that is not frozen is frozen where it stands (R430). -/
def State.freezeLeft (s : State) : State :=
  ((List.range 36).filter fun n => !(s.rg n).frozen).foldl (fun s n => s.modRg n fun r => { r with frozen := true, partialStop := true }) s

theorem State.freezeLeft_frame : ∃ rgn, s.freezeLeft = { s with rgn := rgn } :=
  foldl_keeps (P := s.OnlyRegions) ⟨s.rgn, rfl⟩ fun _ _ _ ⟨_, e⟩ => e ▸ ⟨_, rfl⟩

theorem Region.eq_of_frozen {r : Region} (frozen : r.frozen = true) :
    r = { r with frozen := true, partialStop := r.partialStop || !true } := by
  cases r
  dsimp only at frozen
  rw [frozen, Bool.not_true, Bool.or_false]

theorem State.rg_freezeLeft {n : Nat} (hn : n < 36) :
    (s.freezeLeft).rg n = { s.rg n with frozen := true, partialStop := (s.rg n).partialStop || !(s.rg n).frozen } := by
  cases frozen : (s.rg n).frozen
  · obtain ⟨x, -, own, e⟩ := s.rg_foldl (P := fun _ => True) (f := fun s n => s.modRg n fun r => { r with frozen := true, partialStop := true })
      (List.nodup_range.filter fun n => !(s.rg n).frozen) (List.mem_filter.mpr ⟨List.mem_range.mpr hn, by rw [frozen]; rfl⟩) trivial (fun _ _ _ => trivial)
      fun x k m h => State.rg_modRg_ne _ _ _ _ h
    rw [State.freezeLeft, e, State.rg_modRg_same, own]
    simp
  · have still : (s.freezeLeft).rg n = s.rg n := foldl_keeps (P := fun x : State => x.rg n = s.rg n) rfl fun x k hk hx => by
      rw [State.rg_modRg_ne _ _ _ _ ?_, hx]
      rintro rfl
      simp [frozen] at hk
    exact still.trans (Region.eq_of_frozen frozen)

/-- The stop is done: what the chip and the trace port record (R430). -/
def State.stopNoted (s : State) : State :=
  let s := s.setFld FB_ANCHOR_STATUS_STOPPED 1
  let s := s.setPair FB_ANCHOR_BEAT_LO FB_ANCHOR_BEAT_HI s.chr.stopBeat
  let w1 := s.extOf 63 <<< 56 + 0x1F <<< 51 + 0xFFF <<< 32
  let w2 := 15 <<< 28 + s.anchorSources
  { s with tp := { s.tp with fifo := s.tp.fifo ++ [[s.stampOf 63, w1, w2, s.chr.stopBeat % 2 ^ 32]] } }.stamped 63

theorem State.stopDone_of_frozen (running : s.fld FB_ANCHOR_STATUS_STOPPED = 0) (seen : s.chr.stopSeen ≠ 0)
    (frozen : ∀ n < 36, (s.rg n).frozen = true) : s.stopDone = s.stopNoted.freezeAll := by
  unfold State.stopDone
  refine (if_neg (by simp [running, seen])).trans (if_pos ?_)
  exact List.all_eq_true.mpr fun n hn => frozen n (List.mem_range.mp hn)

/-- The stop is noted in three registers and by a record (R430). -/
theorem State.stopNoted_frame : ∃ regs tp stamp woken, s.stopNoted =
    { s with regs := regs, tp := tp, stamp := stamp, woken := woken } ∧ tp.fifo.length = s.tp.fifo.length + 1 :=
  ⟨_, _, _, _, rfl, by simp⟩

theorem State.stopNoted_regs : s.stopNoted.regs = ((s.setFld FB_ANCHOR_STATUS_STOPPED 1).setPair FB_ANCHOR_BEAT_LO FB_ANCHOR_BEAT_HI s.chr.stopBeat).regs :=
  rfl

/-- FB_ANCHOR_STATUS stands apart from the beat of the stop. -/
theorem status_ne_beat : ¬ (FB_ANCHOR_STATUS.addr 0 0 = FB_ANCHOR_BEAT_LO.addr 0 0 ∨ FB_ANCHOR_STATUS.addr 0 0 = FB_ANCHOR_BEAT_HI.addr 0 0) := by
  decide

theorem State.stopNoted_status (f : Fld) (hr : f.reg = FB_ANCHOR_STATUS) :
    s.stopNoted.fld f = (s.setFld FB_ANCHOR_STATUS_STOPPED 1).fld f := by
  simp only [State.fld, State.rd, State.stopNoted_regs, hr]
  rw [State.regs_setPair_ne _ _ _ _ _ _ _ _ status_ne_beat]

theorem State.stopNoted_beat (small : s.chr.stopBeat < 2 ^ 60) : s.stopNoted.pair FB_ANCHOR_BEAT_LO FB_ANCHOR_BEAT_HI = s.chr.stopBeat :=
  State.pair_setPair_same _ FB_ANCHOR_BEAT_LO FB_ANCHOR_BEAT_HI s.chr.stopBeat 0 0 (by decide) (by omega)

/-- What the end of a stop leaves, whatever the logbooks do. -/
theorem State.freezeAll_stopNoted : ∃ x : State, s.stopNoted.freezeAll = x ∧
    x.fld FB_ANCHOR_STATUS_STOPPED = 1 ∧ x.fld FB_ANCHOR_STATUS_PARTIAL = s.fld FB_ANCHOR_STATUS_PARTIAL ∧
    (s.chr.stopBeat < 2 ^ 60 → x.pair FB_ANCHOR_BEAT_LO FB_ANCHOR_BEAT_HI = s.chr.stopBeat) ∧
    x.tp.fifo.length = s.tp.fifo.length + 1 ∧ x.spad = s.spad ∧ x.hbm = s.hbm ∧ x.net = s.net ∧
    (∀ n, (x.rg n).frozen = (s.rg n).frozen ∧ (x.rg n).partialStop = (s.rg n).partialStop) := by
  have logged := s.stopNoted.logged_freezeAll
  generalize s.stopNoted.freezeAll = x at logged ⊢
  obtain ⟨regs, tp, stamp, woken, noted, more⟩ := s.stopNoted_frame
  obtain ⟨_, _, _, _, _, frame⟩ := logged.frame
  have rgs (n : Nat) : s.stopNoted.rg n = s.rg n := by rw [noted]; rfl
  refine ⟨_, rfl, ?_, ?_, fun small => ?_, ?_, ?_, ?_, ?_, fun n => ?_⟩
  · rw [logged.regs.fld (anchor_not_logPtr _ (by decide)), State.stopNoted_status _ rfl]
    exact State.fld_setFld_same _ FB_ANCHOR_STATUS_STOPPED _ 0 0 (by decide) (by decide)
  · rw [logged.regs.fld (anchor_not_logPtr _ (by decide)), State.stopNoted_status _ rfl]
    exact State.fld_setFld_apart _ FB_ANCHOR_STATUS_STOPPED FB_ANCHOR_STATUS_PARTIAL _ 0 0 rfl (by decide) (by decide) (by decide)
  · exact (logged.regs.pair (anchor_not_logPtr _ (by decide)) (anchor_not_logPtr _ (by decide))).trans (s.stopNoted_beat small)
  · rw [frame, noted]
    exact more
  · rw [frame, noted]
  · rw [frame, noted]
  · rw [frame, noted]
  · obtain ⟨b, e⟩ := logged.region n
    rw [e]
    show (s.stopNoted.rg n).frozen = _ ∧ (s.stopNoted.rg n).partialStop = _
    rw [rgs]
    exact ⟨rfl, rfl⟩

/-- The regions that have not completed their last beat. -/
def State.leftRegions (s : State) : List Nat := (List.range 36).filter fun n => !(s.rg n).frozen

theorem State.freezePartial_eq : s.freezePartial = (s.freezeLeft.addFld FB_ANCHOR_STATUS_PARTIAL s.leftRegions.length).stopDone := rfl

theorem does_anchorPartialFreeze {p : State → Prop} (seen : s.chr.stopSeen ≠ 0) (running : s.fld FB_ANCHOR_STATUS_STOPPED = 0)
    (h : p (s.after s.freezePartial)) : Does .anchorPartialFreeze s p := by
  refine Does.of_run (exec_anchorPartialFreeze s) rfl ?_
  rwa [if_pos ⟨seen, running⟩]

/-- The limit of 1 ms freezes what is left and ends the stop (R430). -/
theorem State.freezePartial_spec (seen : s.chr.stopSeen ≠ 0) (running : s.fld FB_ANCHOR_STATUS_STOPPED = 0) :
    ∃ x : State, s.freezePartial = x ∧ x.fld FB_ANCHOR_STATUS_STOPPED = 1 ∧
      x.fld FB_ANCHOR_STATUS_PARTIAL = (s.fld FB_ANCHOR_STATUS_PARTIAL + s.leftRegions.length) % 64 ∧
      (s.chr.stopBeat < 2 ^ 60 → x.pair FB_ANCHOR_BEAT_LO FB_ANCHOR_BEAT_HI = s.chr.stopBeat) ∧
      x.tp.fifo.length = s.tp.fifo.length + 1 ∧ x.spad = s.spad ∧ x.hbm = s.hbm ∧ x.net = s.net ∧
      (∀ n, n < 36 → (x.rg n).frozen = true ∧ (x.rg n).partialStop = ((s.rg n).partialStop || !(s.rg n).frozen)) := by
  rw [State.freezePartial_eq]
  obtain ⟨rgn, frame⟩ := s.freezeLeft_frame
  have rgs := fun (n : Nat) (hn : n < 36) => s.rg_freezeLeft hn
  rw [frame] at rgs ⊢
  generalize hy : State.addFld { s with rgn := rgn } FB_ANCHOR_STATUS_PARTIAL s.leftRegions.length = y
  have counted : y.fld FB_ANCHOR_STATUS_PARTIAL = (s.fld FB_ANCHOR_STATUS_PARTIAL + s.leftRegions.length) % 64 := by
    subst hy
    exact State.fld_setFld_same _ FB_ANCHOR_STATUS_PARTIAL _ 0 0 (by decide) (by decide)
  have still : y.fld FB_ANCHOR_STATUS_STOPPED = 0 := by
    subst hy
    exact (State.fld_setFld_apart _ FB_ANCHOR_STATUS_PARTIAL FB_ANCHOR_STATUS_STOPPED _ 0 0 rfl (by decide) (by decide) (by decide)).trans running
  have own (n : Nat) (hn : n < 36) :
      y.rg n = { s.rg n with frozen := true, partialStop := (s.rg n).partialStop || !(s.rg n).frozen } := by
    subst hy
    exact rgs n hn
  have chr : y.chr = s.chr := by
    subst hy
    rfl
  obtain ⟨x, ends, stopped, part, beat, fifo, spad, hbm, net, rg⟩ := y.freezeAll_stopNoted
  refine ⟨x, ?_, stopped, part.trans counted, fun small => ?_, ?_, ?_, ?_, ?_, fun n hn => ?_⟩
  · rw [State.stopDone_of_frozen still (by rw [chr]; exact seen) fun n hn => by rw [own n hn], ends]
  · rw [chr] at beat
    exact beat small
  · rw [fifo]
    subst hy
    rfl
  · exact spad.trans (by subst hy; rfl)
  · exact hbm.trans (by subst hy; rfl)
  · exact net.trans (by subst hy; rfl)
  · obtain ⟨frozen, part⟩ := rg n
    rw [frozen, part, own n hn]
    exact ⟨rfl, rfl⟩

end

/-! ## Scan-out -/

section

variable {s : State} {v : Nat}

/-- The write of FB_SCAN_CFG is answered and made. -/
def State.scanTaken (s : State) (v : Nat) : State := (s.serveWrite (FB_SCAN_CFG.addr 0 0) v).writeTyped FB_SCAN_CFG 0 0 v

theorem State.scanTaken_eq (s : State) (v : Nat) : ∃ net, s.scanTaken v = State.writeTyped { s with net := net } FB_SCAN_CFG 0 0 v := by
  obtain ⟨net, e⟩ := s.serveWrite_unmirrored (off := FB_SCAN_CFG.addr 0 0) (r := FB_SCAN_CFG) (i := 0) (k := 0) v (by decide +kernel)
    (by decide +kernel)
  exact ⟨net, by rw [State.scanTaken, e]⟩

/-- Whether scan-out may start (R433). -/
abbrev State.mayScan (s : State) : Prop :=
  s.fld FB_ANCHOR_STATUS_STOPPED = 1 ∧ s.scan.on = false ∧ (s.fld FB_SCAN_CFG_ROUTE = 1 → s.fld FB_SCAN_CFG_JTAG_EN = 1) ∧
    (¬ s.fld FB_SCAN_CFG_ROUTE = 1 → s.fld (xx_ERR_STATUS_SAFE .tp) = 0)

/-- Scan-out is under way (R433). -/
def State.scanBegun (s : State) : State :=
  (State.setFld { s with scan := { on := true, jtag := decide (s.fld FB_SCAN_CFG_ROUTE = 1),
                                   left := scanSections (s.fld FB_SCAN_CFG_SPAD == 1) (s.fld FB_SCAN_CFG_LAND == 1) } }
    FB_SCAN_STATUS_FRAMES 0).setFld FB_SCAN_STATUS_BUSY 1

/-- What keeps scan-out from starting, as the row asks it. -/
theorem not_mayScan (u : State) : u.fld FB_ANCHOR_STATUS_STOPPED = 0 ∨ u.scan.on = true ∨
    (u.fld FB_SCAN_CFG_ROUTE = 1 ∧ u.fld FB_SCAN_CFG_JTAG_EN = 0) ∨ (¬ u.fld FB_SCAN_CFG_ROUTE = 1 ∧ u.fld (xx_ERR_STATUS_SAFE .tp) = 1) ↔
    ¬ u.mayScan := by
  have stopped : u.fld FB_ANCHOR_STATUS_STOPPED < 2 := u.fld_lt FB_ANCHOR_STATUS_STOPPED 0 0
  have enable : u.fld FB_SCAN_CFG_JTAG_EN < 2 := u.fld_lt FB_SCAN_CFG_JTAG_EN 0 0
  have safe : u.fld (xx_ERR_STATUS_SAFE .tp) < 2 := u.fld_lt (xx_ERR_STATUS_SAFE .tp) 0 0
  rw [State.mayScan]
  cases u.scan.on
  · simp only [Bool.false_eq_true, false_or, true_and]
    omega
  · simp

theorem gives_scanGo {t : State} (hv : v < 2 ^ 32)
    (h : (if bit v 31 = false then s.scanTaken v
      else if ¬ (s.scanTaken v).mayScan then (s.scanTaken v).setFld FB_SCAN_STATUS_REFUSED 1 else (s.scanTaken v).scanBegun) = t) :
    Gives (.scanGo v) s t := by
  refine Gives.of_run (exec_scanGo v s) (decide_eq_true hv) ?_
  have alive : s.regAlive (FB_SCAN_CFG.addr 0 0) = true := by
    simp only [State.regAlive, show blockOf (FB_SCAN_CFG.addr 0 0) = some (.fb, 0) by decide +kernel]
  rw [State.regWrite, if_pos alive, ← h]
  simp only [← not_mayScan]
  rfl

end

theorem State.scanTaken_mayScan (s : State) (v : Nat) : (s.scanTaken v).mayScan ↔
    s.fld FB_ANCHOR_STATUS_STOPPED = 1 ∧ s.scan.on = false ∧
      ((s.scanTaken v).fld FB_SCAN_CFG_ROUTE = 1 → (s.scanTaken v).fld FB_SCAN_CFG_JTAG_EN = 1) ∧
      (¬ (s.scanTaken v).fld FB_SCAN_CFG_ROUTE = 1 → s.fld (xx_ERR_STATUS_SAFE .tp) = 0) := by
  obtain ⟨net, e⟩ := s.scanTaken_eq v
  have stopped : (s.scanTaken v).fld FB_ANCHOR_STATUS_STOPPED = s.fld FB_ANCHOR_STATUS_STOPPED := by
    rw [e]
    exact State.fld_writeTyped_ne _ _ _ _ _ _ _ _ (by decide)
  have safe : (s.scanTaken v).fld (xx_ERR_STATUS_SAFE .tp) = s.fld (xx_ERR_STATUS_SAFE .tp) := by
    rw [e]
    exact State.fld_writeTyped_ne _ _ _ _ _ _ _ _ (by decide)
  have scan : (s.scanTaken v).scan = s.scan := by
    rw [e]
    rfl
  rw [State.mayScan, stopped, safe, scan]

/-- The settings that the write leaves, and what scan-out has to send. -/
theorem State.scanBegun_spec (s : State) (v : Nat) : ∃ x : State, (s.scanTaken v).scanBegun = x ∧
    x.fld FB_SCAN_STATUS_BUSY = 1 ∧ x.fld FB_SCAN_STATUS_FRAMES = 0 ∧
    (x.scan.jtag = true ↔ (s.scanTaken v).fld FB_SCAN_CFG_ROUTE = 1) ∧ x.scan.on = true ∧ x.scan.sent = 0 ∧ x.scan.off = 0 ∧
    x.scan.left = scanSections (v / 2 ^ 28 % 2 == 1) (v / 2 ^ 27 % 2 == 1) ∧
    s.RegsKept x [FB_SCAN_CFG.addr 0 0, FB_SCAN_STATUS.addr 0 0] ∧ x.spad = s.spad := by
  obtain ⟨net, e⟩ := s.scanTaken_eq v
  obtain ⟨spad, land⟩ := State.fld_scanCfg { s with net := net } v
  have kept : s.RegsKept (s.scanTaken v) [FB_SCAN_CFG.addr 0 0, FB_SCAN_STATUS.addr 0 0] := by
    rw [e]
    exact fun off d out => State.regs_wr_ne _ _ _ _ _ _ _ fun h => out (by simp [h])
  have sections : (s.scanTaken v).scanBegun.scan.left = scanSections (v / 2 ^ 28 % 2 == 1) (v / 2 ^ 27 % 2 == 1) := by
    rw [← spad, ← land, ← e]
    rfl
  have memory : (s.scanTaken v).spad = s.spad := by
    rw [e]
    rfl
  generalize s.scanTaken v = x at sections kept memory ⊢
  refine ⟨_, rfl, ?_, ?_, decide_eq_true_iff, rfl, rfl, rfl, sections, kept.trans ?_, memory⟩
  · exact State.fld_setFld_same _ FB_SCAN_STATUS_BUSY _ 0 0 (by decide) (by decide)
  · refine (State.fld_setFld_apart _ FB_SCAN_STATUS_BUSY FB_SCAN_STATUS_FRAMES _ 0 0 rfl (by decide) (by decide) (by decide)).trans ?_
    exact State.fld_setFld_same _ FB_SCAN_STATUS_FRAMES _ 0 0 (by decide) (by decide)
  · exact .trans (t := State.setFld _ FB_SCAN_STATUS_FRAMES 0) (State.regsKept_setFld FB_SCAN_STATUS_FRAMES _ 0 0 (by simp [FB_SCAN_STATUS_FRAMES]))
      (State.regsKept_setFld FB_SCAN_STATUS_BUSY _ 0 0 (by simp [FB_SCAN_STATUS_BUSY]))

/-- What a write of FB_ANCHOR_CTRL leaves. -/
theorem State.anchorCtrl_spec (s : State) {v : Nat} (hv : v < 2 ^ 32) : ∃ x : State, s.anchorCtrl v = x ∧
    (x.chr.stopWire = true ↔ s.chr.stopWire = true ∨ v / 2 ^ 31 = 1) ∧
    (x.pins.anchorArmed = true ↔ s.pins.anchorArmed = true ∨ v / 2 ^ 30 % 2 = 1) ∧
    x.fld FB_ANCHOR_STATUS_SRC_HOST = (if v / 2 ^ 31 = 1 then 1 else s.fld FB_ANCHOR_STATUS_SRC_HOST) ∧
    x.fld FB_ANCHOR_STATUS_STUCK = (if v / 2 ^ 30 % 2 = 1 then 0 else s.fld FB_ANCHOR_STATUS_STUCK) ∧
    x.fld FB_ANCHOR_CTRL_PIN_EN = v / 2 ^ 29 % 2 ∧ x.fld FB_ANCHOR_CTRL_TRIG_EN = v / 2 ^ 28 % 2 ∧
    s.RegsKept x [FB_ANCHOR_CTRL.addr 0 0, FB_ANCHOR_STATUS.addr 0 0] ∧ x.rgn = s.rgn := by
  obtain ⟨net, e⟩ := s.anchorCtrl_eq v
  have word : v / 2 ^ 31 % 2 = v / 2 ^ 31 := by omega
  obtain ⟨pin, trig⟩ := State.fld_anchorCtrl { s with net := net } v
  have other (f : Fld) (h : f.reg.addr 0 0 ≠ FB_ANCHOR_CTRL.addr 0 0) :
      (State.writeTyped { s with net := net } FB_ANCHOR_CTRL 0 0 v).fld f = s.fld f := State.fld_writeTyped_ne _ _ _ _ _ _ _ _ h
  have kept : s.RegsKept (State.writeTyped { s with net := net } FB_ANCHOR_CTRL 0 0 v) [FB_ANCHOR_CTRL.addr 0 0] := fun off d out =>
    State.regs_wr_ne _ _ _ _ _ _ _ (List.mem_singleton.not.mp out)
  have same : (State.writeTyped { s with net := net } FB_ANCHOR_CTRL 0 0 v).chr = s.chr ∧
    (State.writeTyped { s with net := net } FB_ANCHOR_CTRL 0 0 v).pins = s.pins ∧
    (State.writeTyped { s with net := net } FB_ANCHOR_CTRL 0 0 v).rgn = s.rgn := ⟨rfl, rfl, rfl⟩
  generalize State.writeTyped { s with net := net } FB_ANCHOR_CTRL 0 0 v = u at *
  obtain ⟨chr, pins, rgn⟩ := same
  obtain ⟨armChr, armed, armStuck, armHost, armKept, armRgn⟩ := u.anchorArm_spec v
  obtain ⟨wire, hostPins, hostStuck, host, hostKept, hostRgn⟩ := (u.anchorArm v).anchorHost_spec v
  have ctrl (f : Fld) (hr : f.reg = FB_ANCHOR_CTRL) : ((u.anchorArm v).anchorHost v).fld f = u.fld f :=
    (armKept.trans hostKept).fld (by rw [hr]; decide)
  rw [word] at wire host
  refine ⟨_, e, ?_, ?_, ?_, ?_, ?_, ?_, ?_, ?_⟩
  · rw [wire, armChr, chr]
  · rw [hostPins, armed, pins]
  · rw [host, armHost, other _ (by decide)]
  · rw [hostStuck, armStuck, other _ (by decide)]
  · rw [ctrl _ rfl, pin]
  · rw [ctrl _ rfl, trig]
  · exact (kept.mono (List.cons_subset_cons _ (List.nil_subset _))).trans ((armKept.trans hostKept).mono (List.subset_cons_self _ _))
  · rw [hostRgn, armRgn, rgn]

/-- Settles O54: what an edge, a write, the limit and SCAN_GO compute; every region that the limit finds running is frozen where it stands. -/
theorem anchorStopAndScanOut : Obligations.AnchorStopAndScanOut := by
  unfold Obligations.AnchorStopAndScanOut
  intro s v hv obeyed left u jtag may
  have edges := s.anchorEdge_edges
  refine ⟨does_anchorN (fun yes => ?_) fun no => ?_, fun stuck => ?_, fun free => does_anchorNStuck free ?_, fun c hc => does_anchorCtrl hv hc ?_,
    fun none => ?_, fun seen running => does_anchorPartialFreeze seen running ?_, fun no => ?_, fun go refused => ?_, fun go ok => ?_⟩
  · refine ⟨rfl, ?_, iff_of_true rfl (.inr yes), ?_, ?_, rfl, rfl⟩
    · refine Eq.trans ?_ edges
      exact State.fld_setFld_apart _ FB_ANCHOR_STATUS_SRC_PIN FB_ANCHOR_STATUS_EDGES _ 0 0 rfl (by decide) (by decide) (by decide)
    · rw [if_pos yes]
      exact State.fld_setFld_same _ FB_ANCHOR_STATUS_SRC_PIN _ 0 0 (by decide) (by decide)
    · exact .trans (t := s.anchorEdge) (State.regsKept_setFld FB_ANCHOR_STATUS_EDGES _ 0 0 (List.mem_singleton.mpr rfl))
        (State.regsKept_setFld FB_ANCHOR_STATUS_SRC_PIN _ 0 0 (List.mem_singleton.mpr rfl))
  · refine ⟨rfl, edges, (or_iff_left no).symm, ?_, State.regsKept_setFld FB_ANCHOR_STATUS_EDGES _ 0 0 (List.mem_singleton.mpr rfl), rfl, rfl⟩
    rw [if_neg no]
    exact State.anchorEdge_status _ rfl (by decide)
  · exact Gives.of_run (exec_anchorNStuck s) rfl (if_pos stuck)
  · refine ⟨?_, ?_, ?_, rfl⟩
    · refine (State.fld_setFld_apart _ FB_ANCHOR_STATUS_STUCK_CNT FB_ANCHOR_STATUS_STUCK _ 0 0 rfl (by decide) (by decide) (by decide)).trans ?_
      exact State.fld_setFld_same _ FB_ANCHOR_STATUS_STUCK _ 0 0 (by decide) (by decide)
    · refine (State.fld_setFld_same _ FB_ANCHOR_STATUS_STUCK_CNT _ 0 0 (by decide) (by decide)).trans ?_
      rw [State.fld_setFld_apart _ FB_ANCHOR_STATUS_STUCK FB_ANCHOR_STATUS_STUCK_CNT _ 0 0 rfl (by decide) (by decide) (by decide)]
      rfl
    · exact .trans (t := s.setFld FB_ANCHOR_STATUS_STUCK 1) (State.regsKept_setFld FB_ANCHOR_STATUS_STUCK _ 0 0 (List.mem_singleton.mpr rfl))
        (State.regsKept_setFld FB_ANCHOR_STATUS_STUCK_CNT _ 0 0 (List.mem_singleton.mpr rfl))
  · obtain ⟨x, e, spec⟩ := s.anchorCtrl_spec hv
    rw [e]
    exact spec
  · refine Gives.of_run (exec_anchorPartialFreeze s) rfl (if_neg fun h => ?_)
    obtain zero | stopped := none
    · exact h.1 zero
    · rw [h.2] at stopped
      exact absurd stopped (by decide)
  · obtain ⟨x, e, stopped, part, beat, fifo, spad, hbm, net, rg⟩ := s.freezePartial_spec seen running
    rw [e]
    exact ⟨stopped, fun n hn => (rg n hn).1, fun n hn => (rg n hn).2, part, beat, fifo, spad, hbm, net⟩
  · exact gives_scanGo hv (if_pos (by rw [bit_eq, no]; rfl))
  · have top : ¬ bit v 31 = false := by rw [bit_eq, go]; decide
    exact gives_scanGo hv ((if_neg top).trans (if_pos (mt (s.scanTaken_mayScan v).mp refused)))
  · have top : ¬ bit v 31 = false := by rw [bit_eq, go]; decide
    refine (gives_scanGo hv ((if_neg top).trans (if_neg (not_not.mpr ((s.scanTaken_mayScan v).mpr ok))))).does ?_
    obtain ⟨x, e, spec⟩ := s.scanBegun_spec v
    rw [e]
    exact spec

end Sys2Proof.Machine

/-! # Traces (R420 to R424, R453): the proof of TracesReachTheCaptureSide -/

namespace Sys2Proof.Machine

/-! ## Pairs that count -/

/-- A 64-bit pair keeps what is stored modulo its width. -/
theorem State.pair_setPair (s : State) (lo hi : RegDef) (v i k : Nat) (h : lo.addr i k ≠ hi.addr i k) :
    (s.setPair lo hi v i k).pair lo hi i k = v % 2 ^ 64 := by
  unfold State.pair State.setPair
  rw [State.rd_wr_ne _ _ _ _ _ _ _ _ h, State.rd_wr_same, State.rd_wr_same, Nat.mod_mod, Nat.mod_mod, Nat.shiftLeft_eq]
  omega

/-- A 64-bit pair counts modulo its width. -/
theorem State.pair_addPair_same (s : State) (lo hi : RegDef) (v i k : Nat) (h : lo.addr i k ≠ hi.addr i k) :
    (s.addPair lo hi v i k).pair lo hi i k = (s.pair lo hi i k + v) % 2 ^ 64 := State.pair_setPair _ _ _ _ _ _ h

theorem State.regsKept_addPair {s : State} {l : List Nat} (lo hi : RegDef) (v i k : Nat) (hlo : lo.addr i k ∈ l) (hhi : hi.addr i k ∈ l) :
    s.RegsKept (s.addPair lo hi v i k) l := fun off d out =>
  State.regs_addPair_ne _ _ _ _ _ _ off d fun e => out (e.elim (· ▸ hlo) (· ▸ hhi))

/-! ## A clock that is back -/

section

variable (s : State)

/-- A domain outside the regions whose clock returns. -/
theorem State.clockBack_frame {d : Nat} (hd : ¬ d < 36) : ∃ woken stopped, s.clockBack d = { s with woken := woken, stopped := stopped } := by
  unfold State.clockBack State.unwake
  split
  · exact ⟨_, _, rfl⟩
  · exact ⟨s.woken, s.stopped, rfl⟩

/-- The capture side is ready (R453). -/
def State.captureReady : State := { s.clockBack 63 with tp := { s.tp with ready := true } }

theorem State.captureReady_frame : ∃ woken stopped, s.captureReady =
    { s with woken := woken, stopped := stopped, tp := { s.tp with ready := true } } := by
  obtain ⟨woken, stopped, e⟩ := s.clockBack_frame (d := 63) (by decide)
  exact ⟨woken, stopped, by rw [State.captureReady, e]⟩

theorem State.captureReady_waits : s.captureReady.recordsWait = s.recordsWait ∧ s.captureReady.scanWaits = s.scanWaits := by
  obtain ⟨_, _, e⟩ := s.captureReady_frame
  rw [e]
  exact ⟨rfl, rfl⟩

/-! ## Packets of records -/

variable {s}

theorem State.traceDue_iff {n : Nat} : s.traceDue n = true ↔ (s.trace.get n {}).recs ≠ [] ∧ (8 ≤ (s.trace.get n {}).recs.length ∨
    2 ^ s.fld NI_TRACE_CFG_FLUSH n ≤ beatSub (s.rg (regionOf n)).L ((s.trace.get n {}).ats.headD 0)) := by
  simp [State.traceDue]

theorem length_recordsOf (d : List Nat) : (recordsOf d).length = d.length / 32 := by simp [recordsOf]

theorem length_of_mem_recordsOf {d e : List Nat} (h : e ∈ recordsOf d) : e.length = 4 := by
  obtain ⟨i, -, rfl⟩ := List.mem_map.mp h
  simp

/-! ## A record at the trace port -/

section

variable {r : List Nat}

/-- The trace port takes no record: it is disabled, full or in its safe state (R423). -/
abbrev State.traceFull (s : State) : Prop := s.fld TP_CFG_ENABLE = 0 ∨ 4096 ≤ s.tp.fifo.length ∨ s.fld (xx_ERR_STATUS_SAFE .tp) = 1

/-- A record has joined the FIFO. -/
def State.recordTaken (s : State) (r : List Nat) : State := { s with tp := { s.tp with fifo := s.tp.fifo ++ [r] } }

/-- The first record that matches sets TRIGGERED, and stops the die where the trigger may (R424). -/
def State.triggered (s : State) : State :=
  if s.fld FB_ANCHOR_CTRL_TRIG_EN = 1 then (s.setFld TP_STATUS_TRIGGERED 1).anchorStop FB_ANCHOR_STATUS_SRC_TRIG
  else s.setFld TP_STATUS_TRIGGERED 1

theorem State.recordAt_of_full (full : s.traceFull) : s.recordAt r = (s.addFld TP_DROPPED_CNT 1).unitEvent .tp 0 0 0 := if_pos full

theorem State.recordAt_of_room (room : ¬ s.traceFull) : s.recordAt r =
    if s.triggers r = true ∧ s.fld TP_STATUS_TRIGGERED = 0 then (s.recordTaken r).triggered else s.recordTaken r := by
  unfold State.recordAt
  refine (if_neg room).trans ?_
  have same : ((s.recordTaken r).setFld TP_STATUS_TRIGGERED 1).fld FB_ANCHOR_CTRL_TRIG_EN = (s.recordTaken r).fld FB_ANCHOR_CTRL_TRIG_EN :=
    State.fld_setFld_ne _ _ _ _ _ _ _ _ (by decide)
  show (if s.triggers r = true ∧ s.fld TP_STATUS_TRIGGERED = 0 then
    if ((s.recordTaken r).setFld TP_STATUS_TRIGGERED 1).fld FB_ANCHOR_CTRL_TRIG_EN = 1 then _ else _ else _) = _
  rw [same]
  rfl

theorem State.triggered_spec : s.triggered.tp = s.tp ∧ s.triggered.fld TP_STATUS_TRIGGERED = 1 ∧
    (s.triggered.chr.stopWire = true ↔ s.chr.stopWire = true ∨ s.fld FB_ANCHOR_CTRL_TRIG_EN = 1) := by
  unfold State.triggered
  have set : (s.setFld TP_STATUS_TRIGGERED 1).fld TP_STATUS_TRIGGERED = 1 :=
    State.fld_setFld_same _ TP_STATUS_TRIGGERED _ 0 0 (by decide) (by decide)
  split
  · next enabled =>
    refine ⟨rfl, Eq.trans ?_ set, iff_of_true rfl (.inr enabled)⟩
    exact State.fld_setFld_ne _ FB_ANCHOR_STATUS_SRC_TRIG TP_STATUS_TRIGGERED _ 0 0 0 0 (by decide)
  · next disabled => exact ⟨rfl, set, (or_iff_left disabled).symm⟩

/-- What a record that is taken leaves (R423, R424). -/
theorem State.recordAt_spec (room : ¬ s.traceFull) : (s.recordAt r).tp.fifo = s.tp.fifo ++ [r] ∧
    (s.recordAt r).fld TP_STATUS_TRIGGERED = (if s.triggers r then 1 else s.fld TP_STATUS_TRIGGERED) ∧
    ((s.recordAt r).chr.stopWire = true ↔ s.chr.stopWire = true ∨ (s.triggers r = true ∧ s.fld TP_STATUS_TRIGGERED = 0 ∧
      s.fld FB_ANCHOR_CTRL_TRIG_EN = 1)) := by
  have small : s.fld TP_STATUS_TRIGGERED < 2 := s.fld_lt TP_STATUS_TRIGGERED 0 0
  rw [State.recordAt_of_room room]
  split
  · next first =>
    obtain ⟨tp, set, wire⟩ := (s.recordTaken r).triggered_spec
    refine ⟨congrArg (·.fifo) tp, by rw [set, if_pos first.1], wire.trans ?_⟩
    exact or_congr_right ⟨fun enabled => ⟨first.1, first.2, enabled⟩, fun h => h.2.2⟩
  · next not_first =>
    refine ⟨rfl, ?_, (or_iff_left fun h => not_first ⟨h.1, h.2.1⟩).symm⟩
    split
    · next match_ =>
      have : s.fld TP_STATUS_TRIGGERED ≠ 0 := fun zero => not_first ⟨match_, zero⟩
      exact (show s.fld TP_STATUS_TRIGGERED = 1 by omega)
    · rfl

end

/-! ## What leaves -/

theorem length_flatten_of_four {l : List (List Nat)} (four : ∀ e ∈ l, e.length = 4) : l.flatten.length = 4 * l.length := by
  rw [List.length_flatten, List.map_congr_left four, List.map_const', List.sum_replicate, smul_eq_mul, Nat.mul_comm]

/-- Up to two records leave as one beat of eight words (R423, R453). -/
theorem State.sendRecords_spec (four : ∀ e ∈ s.tp.fifo, e.length = 4) : s.sendRecords.tp.fifo = s.tp.fifo.drop 2 ∧
    s.sendRecords.tp.beat.length = 8 ∧ s.sendRecords.tp.beat.take (4 * (s.tp.fifo.take 2).length) = (s.tp.fifo.take 2).flatten ∧
    s.sendRecords.tp.scan = false ∧
    s.sendRecords.pair TP_RECORDS_LO TP_RECORDS_HI = (s.pair TP_RECORDS_LO TP_RECORDS_HI + (s.tp.fifo.take 2).length) % 2 ^ 64 ∧
    s.sendRecords.scan = s.scan ∧ s.RegsKept s.sendRecords [TP_RECORDS_LO.addr 0 0, TP_RECORDS_HI.addr 0 0] := by
  have words : (s.tp.fifo.take 2).flatten.length = 4 * (s.tp.fifo.take 2).length :=
    length_flatten_of_four fun e he => four e (List.mem_of_mem_take he)
  have few : (s.tp.fifo.take 2).length ≤ 2 := List.length_take_le _ _
  have beat : s.sendRecords.tp.beat = (s.tp.fifo.take 2).flatten ++ List.replicate (8 - (s.tp.fifo.take 2).flatten.length) 0 := rfl
  refine ⟨rfl, ?_, ?_, rfl, State.pair_addPair_same _ _ _ _ 0 0 (by decide), rfl, State.regsKept_addPair _ _ _ 0 0 (by simp) (by simp)⟩
  · rw [beat, List.length_append, List.length_replicate]
    omega
  · rw [beat, ← words, List.take_left]

theorem State.length_scanWords (kind idx sec off : Nat) : (s.scanWords kind idx sec off).length = 7 := by
  unfold State.scanWords
  split
  · rfl
  split
  · simp
  split
  · rfl
  split <;> simp

theorem State.length_of_nextFrame {l left : List (Nat × Nat × Nat)} {off off' : Nat} {f : List Nat}
    (h : s.nextFrame l off = some (f, left, off')) : f.length = 8 := by
  induction l generalizing off with
  | nil => simp [State.nextFrame] at h
  | cons x r ih =>
    rw [State.nextFrame] at h
    split at h
    · dsimp only at h
      split at h
      all_goals
        simp only [Option.some.injEq, Prod.mk.injEq] at h
        rw [← h.1, List.length_cons, State.length_scanWords]
    · exact ih h

/-- A frame is eight words; the last one ends scan-out (R434, R435). -/
theorem State.scanStep_spec {f : List Nat} {t : State} (h : s.scanStep = some (f, t)) : f.length = 8 ∧ t.scan.sent = s.scan.sent + 1 ∧
    t.scan.jtag = s.scan.jtag ∧ t.scan.on = !t.scan.left.isEmpty ∧
    (t.scan.on = false → t.fld FB_SCAN_STATUS_DONE = 1 ∧ t.fld FB_SCAN_STATUS_BUSY = 0) := by
  unfold State.scanStep at h
  split at h
  · exact absurd h (by simp)
  cases next : s.nextFrame s.scan.left s.scan.off with
  | none => simp [next] at h
  | some x =>
    obtain ⟨g, left, off⟩ := x
    simp only [next, Option.some.injEq, Prod.mk.injEq] at h
    obtain ⟨rfl, rfl⟩ := h
    have eight := s.length_of_nextFrame next
    cases last : left.isEmpty
    · exact ⟨eight, rfl, rfl, congrArg (!·) last.symm, fun off => absurd off (by simp)⟩
    · refine ⟨eight, rfl, rfl, congrArg (!·) last.symm, fun _ => ⟨?_, ?_⟩⟩
      · exact State.fld_setFld_same _ FB_SCAN_STATUS_DONE _ 0 0 (by decide) (by decide)
      · refine (State.fld_setFld_apart _ FB_SCAN_STATUS_DONE FB_SCAN_STATUS_BUSY _ 0 0 rfl (by decide) (by decide) (by decide)).trans ?_
        exact State.fld_setFld_same _ FB_SCAN_STATUS_BUSY _ 0 0 (by decide) (by decide)

end

/-! ## The rows -/

section

variable {s : State} {n txn : Nat} {p : Pkt}

theorem gives_tracePacketTimeout {t : State} (hn : n < 2304) (htxn : txn < 4096)
    (h : (match s.findTx n txn with
      | some o => if o.use = .trace ∧ s.frozenAt n = false then s.txEnd o stTIMEOUT else s
      | none => s) = t) : Gives (.tracePacketTimeout n txn) s t :=
  Gives.of_run (exec_tracePacketTimeout n txn s) (by simp [Instr.wf, okSlot, hn, htxn]) h

theorem gives_traceSend {t : State} (h : (if s.recordsWait then s.captureReady.sendRecords
    else if s.scanWaits then
      match s.captureReady.scanStep with
      | some (f, t) => { t with tp := { t.tp with beat := f, scan := true, last := isEndFrame f } }
      | none => s.captureReady
    else s.captureReady) = t) : Gives .traceSend s t := by
  obtain ⟨records, scan⟩ := s.captureReady_waits
  rw [← records, ← scan] at h
  exact Gives.of_run (exec_traceSend s) rfl h

end

/-- Settles O52: what each row computes; a record is judged by the port before it joins the FIFO, and a frame is a head and seven words. -/
theorem tracesReachTheCaptureSide : Obligations.TracesReachTheCaptureSide := by
  unfold Obligations.TracesReachTheCaptureSide
  intro s n txn p r hn htxn hp b rs x due stops y z up down full
  have open_ : stops ↔ s.traceDue n = false ∨ s.niUp n = false ∨ s.frozenAt n = true ∨ s.txnRoom n = false := by
    rw [← Bool.not_eq_true, State.traceDue_iff]
  refine ⟨fun stop => ?_, fun go => ?_, fun o found use thawed => ?_, fun other => ?_, fun other => ?_, fun kind dst => ?_,
    ⟨length_recordsOf _, fun e he => length_of_mem_recordsOf he⟩, State.recordAt_of_full, fun room => State.recordAt_spec room, fun wait four => ?_,
    fun none idle => ?_, fun none wait step => ?_, fun f t none wait step => ?_, fun f t step => ?_, fun none idle => ?_, fun busy => ?_⟩
  · exact Gives.of_run (exec_traceFlush n s) (decide_eq_true hn) (if_pos (open_.mp stop))
  · exact Gives.of_run (exec_traceFlush n s) (decide_eq_true hn) (if_neg (mt open_.mpr go))
  · refine gives_tracePacketTimeout hn htxn ?_
    simp only [found]
    exact if_pos ⟨use, thawed⟩
  · refine gives_tracePacketTimeout hn htxn ?_
    obtain missing | ⟨o, found, use⟩ | frozen := other
    · simp only [missing]
    · simp only [found]
      exact if_neg fun h => use h.1
    · split
      · exact if_neg fun h => by simp [frozen] at h
      · rfl
  · exact Gives.of_run (exec_traceAccept p s) hp (if_pos other)
  · exact Gives.of_run (exec_traceAccept p s) hp (if_neg fun h => h.elim (· kind) (· dst))
  · obtain ⟨_, _, e⟩ := s.captureReady_frame
    have spec := State.sendRecords_spec (s := s.captureReady) (by rw [e]; exact four)
    refine (gives_traceSend (if_pos wait)).does ?_
    rw [e] at spec ⊢
    obtain ⟨fifo, length, beat, scan, count, still, kept⟩ := spec
    exact ⟨fifo, length, beat, scan, count, still, kept⟩
  · exact gives_traceSend ((if_neg (by simp [none])).trans (if_neg (by simp [idle])))
  · refine gives_traceSend ((if_neg (by simp [none])).trans ((if_pos wait).trans ?_))
    simp only [show s.captureReady.scanStep = Option.none from step]
    rfl
  · refine gives_traceSend ((if_neg (by simp [none])).trans ((if_pos wait).trans ?_))
    simp only [show s.captureReady.scanStep = some (f, t) from step]
  · have scan : up.scan = s.scan := by
      obtain ⟨_, _, e⟩ := s.captureReady_frame
      exact (congrArg State.scan e :)
    rw [← scan]
    exact up.scanStep_spec step
  · exact Gives.of_run (exec_captureStall s) rfl (if_neg (by
      rw [Bool.or_eq_true]
      exact not_or.mpr ⟨fun h => Bool.false_ne_true (none.symm.trans h), fun h => Bool.false_ne_true (idle.symm.trans h)⟩))
  · exact Gives.of_run (exec_captureStall s) rfl (if_pos (Bool.or_eq_true_iff.mpr busy))

end Sys2Proof.Machine

/-! # Events that change nothing but their record (R278, R279) -/

namespace Sys2Proof.Machine

/-- The registers that an event of a unit may change: those of its error set, and BN_LOG_STATUS for one of the Binnacle's. -/
def InErrSet (k : UnitKind) (i off : Nat) : Prop :=
  (k.blk.base i + k.setBase ≤ off ∧ off < k.blk.base i + k.setBase + 0xC0) ∨ (k = .bn ∧ off = BN_LOG_STATUS.addr 0 0)

/-- What an event that is only recorded and told may change: registers of its error set, the error sets without their armed parity faults,
packets in flight and stamps, and with an event of the Binnacle its log. -/
structure State.Told (s t : State) (k : UnitKind) (i : Nat) : Prop where
  frame : ∃ regs err net stamp rgn woken bn hp, t =
    { s with regs := regs, err := err, net := net, stamp := stamp, rgn := rgn, woken := woken, bn := bn, hp := hp }
  mesh : k ≠ .bn → t.bn = s.bn ∧ t.hp = s.hp
  region : ∀ n, ∃ b, t.rg n = { s.rg n with resync := b }
  parity : ∀ u j, (t.eu u j).parityArmed = (s.eu u j).parityArmed
  regs : ∀ off d, ¬ InErrSet k i off → t.regs.get off d = s.regs.get off d

section

variable {s t u : State} {k : UnitKind} {i src : Nat}

theorem State.Told.refl : s.Told s k i :=
  ⟨⟨s.regs, s.err, s.net, s.stamp, s.rgn, s.woken, s.bn, s.hp, rfl⟩, fun _ => ⟨rfl, rfl⟩, fun _ => ⟨_, rfl⟩, fun _ _ => rfl, fun _ _ _ => rfl⟩

theorem State.Told.trans (first : s.Told t k i) (then_ : t.Told u k i) : s.Told u k i := by
  obtain ⟨_, _, _, _, _, _, _, _, e⟩ := first.frame
  obtain ⟨_, _, _, _, _, _, _, _, e'⟩ := then_.frame
  refine ⟨⟨_, _, _, _, _, _, _, _, e'.trans (by rw [e])⟩, fun mesh => ?_, fun n => ?_, fun u j => (then_.parity u j).trans (first.parity u j),
    fun off d out => (then_.regs off d out).trans (first.regs off d out)⟩
  · obtain ⟨bn, hp⟩ := first.mesh mesh
    obtain ⟨bn', hp'⟩ := then_.mesh mesh
    exact ⟨bn'.trans bn, hp'.trans hp⟩
  · obtain ⟨b, hb⟩ := first.region n
    obtain ⟨c, hc⟩ := then_.region n
    exact ⟨c, by rw [hc, hb]⟩

theorem State.Told.rd (told : s.Told t k i) {r : RegDef} {j m : Nat} (out : ¬ InErrSet k i (r.addr j m)) : t.rd r j m = s.rd r j m :=
  congrArg BitVec.toNat (told.regs _ _ out)

theorem State.Told.fld (told : s.Told t k i) {f : Fld} {j m : Nat} (out : ¬ InErrSet k i (f.reg.addr j m)) : t.fld f j m = s.fld f j m :=
  congrArg (bits · f.hi f.lo) (told.rd out)

theorem State.told_setFld (f : Fld) (v j m : Nat) (mem : InErrSet k i (f.reg.addr j m)) : s.Told (s.setFld f v j m) k i :=
  ⟨⟨_, s.err, s.net, s.stamp, s.rgn, s.woken, s.bn, s.hp, rfl⟩, fun _ => ⟨rfl, rfl⟩, fun _ => ⟨_, rfl⟩, fun _ _ => rfl,
    fun _ _ out => State.regs_setFld_ne _ _ _ _ _ _ _ fun e => out (e ▸ mem)⟩

/-- A field of a register of the set. -/
theorem State.told_setErr (f : Fld) (v m : Nat) (blk : f.reg.blk = k.blk) (low : k.setBase ≤ f.reg.off)
    (high : f.reg.off + f.reg.stride * m < k.setBase + 0xC0) : s.Told (s.setFld f v i m) k i :=
  State.told_setFld f v i m (.inl (by simp only [RegDef.addr, blk]; omega))

theorem State.told_stamped (d : Nat) : s.Told (s.stamped d) k i := by
  obtain ⟨-, -, region⟩ := s.logged_stamped (l := []) d
  refine ⟨?_, fun _ => ⟨?_, ?_⟩, region, fun u j => by rw [State.eu_stamped], fun off d _ => by rw [State.stamped_regs]⟩
  all_goals
    unfold State.stamped
    dsimp only
    split
  · exact ⟨s.regs, s.err, s.net, _, _, s.woken, s.bn, s.hp, rfl⟩
  · exact ⟨s.regs, s.err, s.net, _, s.rgn, _, s.bn, s.hp, rfl⟩
  · rfl
  · rfl
  · rfl
  · rfl

theorem State.told_emit (p : Pkt) : s.Told (s.emit p) k i :=
  ⟨⟨s.regs, s.err, _, s.stamp, s.rgn, s.woken, s.bn, s.hp, rfl⟩, fun _ => ⟨rfl, rfl⟩, fun _ => ⟨_, rfl⟩, fun _ _ => rfl, fun _ _ _ => rfl⟩

theorem State.told_push (pl : Place) (p : Pkt) : s.Told (s.push pl p) k i :=
  ⟨⟨s.regs, s.err, _, s.stamp, s.rgn, s.woken, s.bn, s.hp, rfl⟩, fun _ => ⟨rfl, rfl⟩, fun _ => ⟨_, rfl⟩, fun _ _ => rfl, fun _ _ _ => rfl⟩

/-- A change of an error set that arms no parity fault. -/
theorem State.told_setEu {e : ErrUnit} (same : e.parityArmed = (s.eu k i).parityArmed) : s.Told (s.setEu k i e) k i := by
  refine ⟨⟨s.regs, _, s.net, s.stamp, s.rgn, s.woken, s.bn, s.hp, rfl⟩, fun _ => ⟨rfl, rfl⟩, fun _ => ⟨_, rfl⟩, fun u j => ?_, fun _ _ _ => rfl⟩
  by_cases key : errKey u j = errKey k i
  · rw [show (s.setEu k i e).eu u j = (s.setEu k i e).eu k i by rw [State.eu, State.eu, key], State.eu_setEu_same, same, State.eu, State.eu, key]
  · exact congrArg ErrUnit.parityArmed (SMap.get_put_ne _ _ _ key)

theorem State.told_eventWindow (severe : Bool) : s.Told (s.eventWindow k i src severe) k i := by
  unfold State.eventWindow
  dsimp only
  split
  · exact State.told_setEu rfl
  · exact State.told_setEu rfl

theorem State.told_noteFirst (old : Nat) : s.Told (s.noteFirst k i src old) k i := by
  unfold State.noteFirst
  split
  · exact (State.told_setErr (xx_ERR_FIRST_FIRST k) src 0 rfl (Nat.le_add_right _ _) (by simp [xx_ERR_FIRST_FIRST, xx_ERR_FIRST])).trans
      (State.told_setErr (xx_ERR_FIRST_VALID k) 1 0 rfl (Nat.le_add_right _ _) (by simp [xx_ERR_FIRST_VALID, xx_ERR_FIRST]))
  · exact .refl

theorem State.told_noteSevere (severe : Bool) : s.Told (s.noteSevere k i src severe) k i := by
  unfold State.noteSevere
  dsimp only
  split
  · refine (State.told_setErr (xx_ERR_STATUS_SEVERE k) 1 0 rfl (Nat.le_add_right _ _) (by simp [xx_ERR_STATUS_SEVERE, xx_ERR_STATUS])).trans ?_
    split
    · exact .refl
    · exact (State.told_setErr (xx_ERR_FIRST_FIRST_SEVERE k) src 0 rfl (Nat.le_add_right _ _) (by simp [xx_ERR_FIRST_FIRST_SEVERE, xx_ERR_FIRST])).trans
        (State.told_setErr (xx_ERR_FIRST_SEV_VALID k) 1 0 rfl (Nat.le_add_right _ _) (by simp [xx_ERR_FIRST_SEV_VALID, xx_ERR_FIRST]))
  · exact .refl

theorem State.told_noteHist (detail : Nat) (severe injected : Bool) : s.Told (s.noteHist k i src detail severe injected) k i := by
  unfold State.noteHist
  dsimp only
  generalize he : ({ s.eu k i with hist := _, met := _ } : ErrUnit) = e
  have set : s.Told (s.setEu k i e) k i := State.told_setEu (by rw [← he])
  refine set.trans ((State.told_stamped (domOf k i)).trans ?_)
  exact .trans (t := ((s.setEu k i e).stamped (domOf k i)).addFld (xx_ERR_HIST_PTR_TOTAL k) 1 i)
    (State.told_setErr (xx_ERR_HIST_PTR_TOTAL k) _ 0 rfl (Nat.le_add_right _ _) (by simp [xx_ERR_HIST_PTR_TOTAL, xx_ERR_HIST_PTR]))
    (State.told_setErr (xx_ERR_HIST_PTR_NEXT k) _ 0 rfl (Nat.le_add_right _ _) (by simp [xx_ERR_HIST_PTR_NEXT, xx_ERR_HIST_PTR]))

theorem State.told_noteEvent (detail : Nat) (injected : Bool) (few : src < 16) : s.Told (s.noteEvent k i src detail injected) k i := by
  rw [State.noteEvent_eq]
  refine .trans ?_ (State.told_noteSevere _)
  refine .trans ?_ (State.told_eventWindow _)
  refine .trans ?_ (State.told_setErr (xx_ERR_STATUS_SOURCE k) _ 0 rfl (Nat.le_add_right _ _) (by simp [xx_ERR_STATUS_SOURCE, xx_ERR_STATUS]))
  refine .trans ?_ (State.told_noteFirst _)
  refine .trans (t := s.satFld (xx_ERR_COUNT_EVENTS k) 1 i src) ?_ (State.told_noteHist _ _ _)
  exact State.told_setErr (xx_ERR_COUNT_EVENTS k) _ src rfl (Nat.le_add_right _ _) (by simp only [xx_ERR_COUNT_EVENTS, xx_ERR_COUNT]; omega)

theorem State.told_sendMsg (p : Pkt) : s.Told (s.sendMsg p) k i := by
  unfold State.sendMsg
  split
  · split
    · exact State.told_emit _
    · exact State.told_push _ _
  · exact State.told_emit _

/-- An entry of Stolrel's log (R394). -/
theorem State.told_bnLog (ty kind unit : Nat) (data : List Nat) : s.Told (s.bnLog ty kind unit data) .bn i := by
  unfold State.bnLog
  split
  · exact State.told_setFld BN_LOG_STATUS_DROPPED _ 0 0 (.inr ⟨rfl, rfl⟩)
  dsimp only
  generalize hx : s.modBn _ = x
  have noted : s.Told x .bn i := by
    subst hx
    exact ⟨⟨s.regs, s.err, s.net, s.stamp, s.rgn, s.woken, _, s.hp, rfl⟩, fun h => absurd rfl h, fun _ => ⟨_, rfl⟩, fun _ _ => rfl, fun _ _ _ => rfl⟩
  refine noted.trans (.trans (t := x.stamped 62) (State.told_stamped 62) ?_)
  generalize x.stamped 62 = y
  split
  · exact ⟨⟨y.regs, y.err, y.net, y.stamp, y.rgn, y.woken, y.bn, _, rfl⟩, fun h => absurd rfl h, fun _ => ⟨_, rfl⟩, fun _ _ => rfl, fun _ _ _ => rfl⟩
  · exact .refl

theorem State.told_errMsg (severe self : Bool) (detail : Nat) : s.Told (s.errMsg k i src severe self detail) k i := by
  obtain ⟨p, ⟨rfl, e | e⟩ | e | e | e⟩ := s.errMsg_cases k i src severe self detail
  · rw [e]
    exact State.told_bnLog _ _ _ _
  · rw [e]
    exact .refl
  · rw [e]
    exact State.told_sendMsg p
  · rw [e]
    have kept : s.Told (s.setEu k i { s.eu k i with pendMsg := some p }) k i := State.told_setEu rfl
    exact kept.trans (State.told_setErr (xx_ERR_STATUS_MSG_PENDING k) _ 0 rfl (Nat.le_add_right _ _)
      (by simp [xx_ERR_STATUS_MSG_PENDING, xx_ERR_STATUS]))
  · rw [e]
    exact State.told_setErr (xx_ERR_MSG_LOST_LOST k) _ 0 rfl (Nat.le_add_right _ _) (by simp [xx_ERR_MSG_LOST_LOST, xx_ERR_MSG_LOST])

/-- Where no parity fault is armed, none is met (R301). -/
theorem State.parityMet_of_unarmed (unarmed : (s.eu k i).parityArmed = false) : s.parityMet k i = s :=
  if_neg (by rw [unarmed]; exact Bool.false_ne_true)

theorem State.parityDue_of_unarmed (unarmed : ∀ u j, (s.eu u j).parityArmed = false) (m : Nat) : State.parityDue m s = s := by
  induction m with
  | zero => rfl
  | succ m ih =>
    rw [State.parityDue]
    split
    · rw [State.parityMet_of_unarmed (unarmed _ _), ih]
    · rfl

/-- An event whose source has no action of its own, where no parity fault is armed. -/
theorem State.told_unitEvent (detail : Nat) (injected : Bool) (few : src < 16) (report : onSevere k src = .report)
    (unarmed : ∀ u j, (s.eu u j).parityArmed = false) : s.Told (s.unitEvent k i src detail injected) k i := by
  unfold State.unitEvent
  split
  · exact .refl
  dsimp only
  have noted : s.Told (s.noteEvent k i src detail injected) k i := State.told_noteEvent detail injected few
  have still : ∀ u j, ((s.noteEvent k i src detail injected).eu u j).parityArmed = false := fun u j => (noted.parity u j).trans (unarmed u j)
  have acts : (if s.eventSevere k i src = true then State.parityDue ((s.noteEvent k i src detail injected).severeAct k i src detail).err.length
      ((s.noteEvent k i src detail injected).severeAct k i src detail) else s.noteEvent k i src detail injected) =
        s.noteEvent k i src detail injected := by
    split
    · rw [State.severeAct, report]
      exact State.parityDue_of_unarmed still _
    · rfl
  rw [acts]
  generalize s.noteEvent k i src detail injected = x at noted still
  have told : x.Told (if s.eventTold k i src = true then x.errMsg k i src (s.eventSevere k i src) false detail else x) k i := by
    split
    · exact State.told_errMsg _ _ _
    · exact .refl
  rw [State.parityMet_of_unarmed ((told.parity k i).trans (still k i))]
  exact noted.trans told

end

end Sys2Proof.Machine

/-! # Refresh hold, the debug port and priorities (R347 to R349): the proof of RefreshHoldDebugAndPriorities -/

namespace Sys2Proof.Machine

section

variable {s : State} {n v : Nat}

/-! ## Refresh hold -/

theorem State.holdMp_eq (s : State) (n : Nat) : s.holdMp n =
    (s.setMp n (s.mpt n).hold).log .mp n 0x20 15 0 (((s.mpt n).hold.suspended.map MTx.req).getD (s.mpt n).hold.owner) := by
  rw [State.holdMp, State.mpt_modMp_same, State.modMp]

/-- The port takes the input: what stands in its grant is suspended (R347). -/
theorem MPort.hold_of_free {m : MPort} (free : m.suspended = none) : m.hold = { m with held := true, suspended := m.cur, cur := none } := by
  rw [MPort.hold, free]
  rfl

theorem MPort.hold_of_suspended {m : MPort} {x : MTx} (suspended : m.suspended = some x) :
    m.hold = { m with held := true, suspDbg := m.suspDbg.orElse fun _ => m.cur, cur := none } := by
  rw [MPort.hold, suspended]
  rfl

theorem gives_refreshHold {t : State} (hn : n < 16) (h : (if (s.mpt n).inputHeld then s
    else if (s.mpt n).stuck then s.setMp n { s.mpt n with inputHeld := true }
    else ((s.setMp n { s.mpt n with inputHeld := true }).holdMp n).addFld MP_PREEMPT_CNT 1 n) = t) : Gives (.refreshHold n) s t :=
  Gives.of_run (exec_refreshHold n s) (decide_eq_true hn) h

/-- A hold that the port takes. -/
theorem gives_refreshHold_taken {t : State} (hn : n < 16) (fresh : (s.mpt n).inputHeld = false) (obeyed : (s.mpt n).stuck = false)
    (h : ((s.setMp n { s.mpt n with inputHeld := true }.hold).log .mp n 0x20 15 0
      (({ s.mpt n with inputHeld := true }.hold.suspended.map MTx.req).getD { s.mpt n with inputHeld := true }.hold.owner)).addFld MP_PREEMPT_CNT 1 n = t) :
    Gives (.refreshHold n) s t := by
  refine gives_refreshHold hn ?_
  rw [fresh, obeyed, if_neg Bool.false_ne_true, if_neg Bool.false_ne_true, State.holdMp_eq, State.mpt_setMp_same, State.setMp_setMp]
  exact h

/-! ## Its end -/

theorem MPort.resume_of_debug {m : MPort} (dbg : m.suspDbg.isSome = true) (idle : m.cur = none) :
    m.resume = { m with cur := m.suspDbg, suspDbg := none } :=
  if_pos ⟨dbg, by rw [idle]; rfl⟩

theorem MPort.resume_of_suspended {m : MPort} (none : m.suspDbg = Option.none) (suspended : m.suspended.isSome = true) (idle : m.cur = Option.none)
    (quiet : m.debugHead = Option.none) : m.resume = { m with cur := m.suspended, suspended := Option.none } :=
  (if_neg (by rw [none]; simp)).trans (if_pos ⟨suspended, by rw [idle]; rfl, quiet⟩)

theorem MPort.resume_of_busy {m : MPort} (h : m.cur ≠ none ∨ (m.suspDbg = none ∧ (m.suspended = none ∨ m.debugHead ≠ none))) :
    m.resume = m := by
  refine (if_neg fun dbg => ?_).trans (if_neg fun susp => ?_)
  · obtain busy | ⟨none, -⟩ := h
    · exact busy (Option.isNone_iff_eq_none.mp dbg.2)
    · rw [none] at dbg
      simp at dbg
  · obtain busy | ⟨-, none | heads⟩ := h
    · exact busy (Option.isNone_iff_eq_none.mp susp.2.1)
    · rw [none] at susp
      simp at susp
    · exact heads susp.2.2

theorem State.endHold_eq (s : State) (n : Nat) (f : MPort → MPort) : s.endHold n f =
    (if (s.mpt n).held then s.log .mp n 0x21 15 0 (((s.mpt n).suspended.map MTx.req).getD (s.mpt n).owner) else s).setMp n
      (f { s.mpt n with held := false }).resume := by
  rw [State.endHold, State.modMp]
  split <;> simp

theorem gives_refreshHoldEnd {t : State} (hn : n < 16)
    (h : (if (s.mpt n).held then s.log .mp n 0x21 15 0 (((s.mpt n).suspended.map MTx.req).getD (s.mpt n).owner) else s).setMp n
      ({ s.mpt n with inputHeld := false, held := false }).resume = t) : Gives (.refreshHoldEnd n) s t :=
  Gives.of_run (exec_refreshHoldEnd n s) (decide_eq_true hn) ((State.endHold_eq _ _ _).trans h)

/-! ## A hold that lasts too long -/

/-- Its event is only recorded and told, and then the port goes on (R348). -/
theorem does_refreshStuck (hn : n < 16) (held : (s.mpt n).held = true) (unarmed : ∀ u i, (s.eu u i).parityArmed = false) :
    Does (.refreshStuck n) s fun t =>
      (t.mpt n).stuck = true ∧ (t.mpt n).held = false ∧ (t.mpt n).ready = (s.mpt n).ready ∧ t.spad = s.spad := by
  have told : s.Told (s.unitEvent .mp n 7 0) .mp n := State.told_unitEvent 0 false (by decide) rfl unarmed
  refine Does.of_run (exec_refreshStuck n s) (decide_eq_true hn) ?_
  rw [if_neg (by rw [held]; decide)]
  obtain ⟨_, _, _, _, _, _, _, _, e⟩ := told.frame
  generalize s.unitEvent .mp n 7 0 = x at e ⊢
  have port : x.mpt n = s.mpt n := by rw [e]; rfl
  have memory : x.spad = s.spad := by rw [e]
  have ready (m : MPort) : m.resume.ready = m.ready ∧ m.resume.stuck = m.stuck ∧ m.resume.held = m.held := by
    unfold MPort.resume
    split_ifs <;> exact ⟨rfl, rfl, rfl⟩
  have logged (b : Bool) (d : Nat) : (if b then x.log .mp n 0x21 15 0 d else x).spad = s.spad := by
    cases b
    · exact memory
    · exact (State.spad_log _ _ _ _ _ _ _).trans memory
  have ends (f : MPort → MPort) : (x.endHold n f).mpt n = (f { s.mpt n with held := false }).resume ∧ (x.endHold n f).spad = s.spad := by
    rw [State.endHold_eq, port, State.mpt_setMp_same]
    exact ⟨rfl, logged _ _⟩
  obtain ⟨after, kept⟩ := ends fun m => { m with stuck := true }
  dsimp only
  generalize x.endHold n (fun m => { m with stuck := true }) = y at after kept ⊢
  obtain ⟨r, st, h⟩ := ready { { s.mpt n with held := false } with stuck := true }
  rw [← after] at r st h
  exact ⟨st, h, r, kept⟩

/-! ## The register writes -/

theorem gives_rearm {t : State} (hn : n < 16) (hv : v < 2 ^ 32) (alive : s.regAlive (MP_REFRESH_CFG.addr n 0) = true)
    (h : (let u := (s.serveWrite (MP_REFRESH_CFG.addr n 0) v).writeTyped MP_REFRESH_CFG n 0 v
      if bit v 31 = false ∨ (u.mpt n).stuck = false then u
      else if ((u.modMp n fun m => { m with stuck := false }).mpt n).inputHeld then (u.modMp n fun m => { m with stuck := false }).holdMp n
        else u.modMp n fun m => { m with stuck := false }) = t) : Gives (.rearm n v) s t :=
  Gives.of_run (exec_rearm n v s) (by simp only [Instr.wf, okMp, okW, hn, hv, decide_true, Bool.and_self]) ((if_pos alive).trans h)

theorem gives_go {t : State} (hn : n < 16) (hv : v < 2 ^ 32) (alive : s.regAlive (MP_ARB_COMMIT.addr n 0) = true)
    (h : (let u := s.serveWrite (MP_ARB_COMMIT.addr n 0) v
      if bit v 0 then u.modMp n (fun m => { m with goPend := some (u.rd MP_ARB_PRIO0 n, u.rd MP_ARB_PRIO1 n) }) else u) = t) :
    Gives (.go n v) s t :=
  Gives.of_run (exec_go n v s) (by simp only [Instr.wf, okMp, okW, hn, hv, decide_true, Bool.and_self]) ((if_pos alive).trans h)

theorem State.mpt_serveWrite (s : State) (off v n : Nat) : (s.serveWrite off v).mpt n = s.mpt n := by
  obtain ⟨net, bn, e⟩ := s.serveWrite_frame off v
  rw [e]
  rfl

theorem State.rd_serveWrite (s : State) (off v : Nat) (r : RegDef) (i k : Nat) : (s.serveWrite off v).rd r i k = s.rd r i k := by
  obtain ⟨net, bn, e⟩ := s.serveWrite_frame off v
  rw [e]
  rfl

/-! ## The debug port -/

theorem State.debugTx_eq (s : State) (n addr : Nat) (wr : Bool) (data : Nat) : s.debugTx n addr wr data =
    let u := s.setMp n { s.mpt n with
      ready := (s.mpt n).ready ++ [⟨0, .debug, 13, addr, 256, if wr then toBytes 256 data else [], none, 0, 0, 0, false⟩] }
    if (s.mpt n).ctrlReady = true ∧ s.fld (xx_ERR_STATUS_SAFE .mp) n = 0 then u.grantDbg n else u := by
  unfold State.debugTx State.modMp
  simp only [State.mpt_setMp_same]
  rfl

theorem gives_debugTransaction {addr data : Nat} {wr : Bool} {t : State} (hn : n < 16) (haddr : addr < 2 ^ 36) (hdata : data < 2 ^ 2048)
    (h : s.debugTx n addr wr data = t) : Gives (.debugTransaction n addr wr data) s t :=
  Gives.of_run (exec_debugTransaction n addr wr data s)
    (by simp only [Instr.wf, okMp, hn, haddr, hdata, decide_true, Bool.and_self]) h

theorem State.grantDbg_of_held (held : (s.mpt n).held = true) : s.grantDbg n = s := by
  unfold State.grantDbg
  dsimp only
  split
  · rfl
  · exact if_pos held

end

/-- Settles O40: what each input of an arbiter computes; a hold that lasts too long is an event that only the record shows. -/
theorem refreshHoldDebugAndPriorities : Obligations.RefreshHoldDebugAndPriorities := by
  unfold Obligations.RefreshHoldDebugAndPriorities
  intro s n v addr data wr hn hv haddr hdata unarmed m
  refine ⟨fun held => ?_, fun fresh stuck => ?_, fun fresh obeyed none => ?_, fun x fresh obeyed suspended => ?_,
    ⟨fun dbg idle => ?_, fun none suspended idle quiet => ?_, fun busy => ?_⟩, fun free => ?_, fun held _ => does_refreshStuck hn held unarmed,
    fun alive => ⟨fun no => ?_, fun arm stuck free => ?_, fun arm stuck held => ?_⟩, fun alive => ⟨fun no => ?_, fun go => ?_⟩,
    fun free => ?_, fun busy => ?_, fun held => ?_⟩
  · exact gives_refreshHold hn (if_pos held)
  · exact gives_refreshHold hn ((if_neg (by rw [show (s.mpt n).inputHeld = false from fresh]; decide)).trans (if_pos stuck))
  · refine gives_refreshHold_taken hn fresh obeyed ?_
    rw [MPort.hold_of_free (m := { s.mpt n with inputHeld := true }) none]
  · refine gives_refreshHold_taken hn fresh obeyed ?_
    rw [MPort.hold_of_suspended (m := { s.mpt n with inputHeld := true }) suspended]
    have req : ((s.mpt n).suspended.map MTx.req).getD (s.mpt n).owner = x.req := by
      rw [show (s.mpt n).suspended = some x from suspended]
      rfl
    dsimp only
    rw [req]
  · refine gives_refreshHoldEnd hn ?_
    rw [MPort.resume_of_debug (m := { s.mpt n with inputHeld := false, held := false }) dbg idle]
  · refine gives_refreshHoldEnd hn ?_
    rw [MPort.resume_of_suspended (m := { s.mpt n with inputHeld := false, held := false }) none suspended idle quiet]
  · refine gives_refreshHoldEnd hn ?_
    rw [MPort.resume_of_busy (m := { s.mpt n with inputHeld := false, held := false }) busy]
  · exact Gives.of_run (exec_refreshStuck n s) (decide_eq_true hn) (if_pos free)
  · have same : ((s.serveWrite (MP_REFRESH_CFG.addr n 0) v).writeTyped MP_REFRESH_CFG n 0 v).mpt n = s.mpt n := State.mpt_serveWrite ..
    refine gives_rearm hn hv alive (if_pos ?_)
    rw [same, bit_eq]
    exact no.imp_left fun zero => by rw [zero]; rfl
  · have same : ((s.serveWrite (MP_REFRESH_CFG.addr n 0) v).writeTyped MP_REFRESH_CFG n 0 v).mpt n = s.mpt n := State.mpt_serveWrite ..
    have goes : ¬ (bit v 31 = false ∨ (s.mpt n).stuck = false) := by
      rw [bit_eq, arm, show (s.mpt n).stuck = true from stuck]
      decide
    refine gives_rearm hn hv alive ?_
    dsimp only
    rw [State.mpt_modMp_same, same, if_neg goes, if_neg (by rw [show (s.mpt n).inputHeld = false from free]; decide), State.modMp, same]
  · have same : ((s.serveWrite (MP_REFRESH_CFG.addr n 0) v).writeTyped MP_REFRESH_CFG n 0 v).mpt n = s.mpt n := State.mpt_serveWrite ..
    have goes : ¬ (bit v 31 = false ∨ (s.mpt n).stuck = false) := by
      rw [bit_eq, arm, show (s.mpt n).stuck = true from stuck]
      decide
    refine (gives_rearm hn hv alive (t := (((s.serveWrite (MP_REFRESH_CFG.addr n 0) v).writeTyped
      MP_REFRESH_CFG n 0 v).modMp n fun m => { m with stuck := false }).holdMp n) ?_).does ?_
    · dsimp only
      rw [State.mpt_modMp_same, same, if_neg goes, if_pos held]
    · have port : ((((s.serveWrite (MP_REFRESH_CFG.addr n 0) v).writeTyped MP_REFRESH_CFG n 0 v).modMp n fun m =>
          { m with stuck := false }).holdMp n).mpt n = { s.mpt n with stuck := false }.hold := by
        rw [State.holdMp_eq, State.mpt_log, State.mpt_setMp_same, State.mpt_modMp_same, same]
      generalize (((s.serveWrite (MP_REFRESH_CFG.addr n 0) v).writeTyped MP_REFRESH_CFG n 0 v).modMp n fun m =>
        { m with stuck := false }).holdMp n = x at port ⊢
      show (x.mpt n).stuck = false ∧ (x.mpt n).held = true ∧ (m.suspended = none → (x.mpt n).suspended = m.cur ∧ (x.mpt n).cur = none)
      rw [port]
      refine ⟨?_, ?_, fun none => ?_⟩
      · unfold MPort.hold
        split_ifs <;> rfl
      · unfold MPort.hold
        split_ifs <;> rfl
      · rw [MPort.hold_of_free (m := { s.mpt n with stuck := false }) none]
        exact ⟨rfl, rfl⟩
  · refine gives_go hn hv alive (if_neg ?_)
    rw [bit_eq, pow_zero, Nat.div_one, no]
    decide
  · refine gives_go hn hv alive ((if_pos ?_).trans ?_)
    · rw [bit_eq, pow_zero, Nat.div_one, go]
      rfl
    · rw [State.modMp, State.mpt_serveWrite, State.rd_serveWrite, State.rd_serveWrite]
  · exact gives_debugTransaction hn haddr hdata ((State.debugTx_eq ..).trans (if_pos free))
  · exact gives_debugTransaction hn haddr hdata ((State.debugTx_eq ..).trans (if_neg busy))
  · exact State.grantDbg_of_held (by rw [State.mpt_setMp_same]; exact held)

end Sys2Proof.Machine

/-! # Ejected flits and the landing delay (R61, R74, R92): the proof of EjectedFlitsAndLandingDelay -/

namespace Sys2Proof.Machine

/-- The bytes of a number, least first. -/
theorem getD_toBytes {n i : Nat} (v : Nat) (hi : i < n) : (toBytes n v).getD i 0 = v / 2 ^ (8 * i) % 256 := by
  induction n generalizing v i with
  | zero => exact absurd hi i.not_lt_zero
  | succ n ih =>
    cases i with
    | zero => simp [toBytes]
    | succ i =>
      rw [toBytes, List.getD_cons_succ, ih _ (by omega), Nat.div_div_eq_div_mul, show 8 * (i + 1) = 8 + 8 * i by omega, Nat.pow_add]

section

variable {s : State} {n : Nat} {e : EjectE} {rest : List EjectE}

/-! ## An ejected flit -/

/-- A flit's bytes are written and counted (R61). -/
def State.ejected (s : State) (n ofs : Nat) (d : List Nat) (rest : List EjectE) : State :=
  ((s.spadWrite n ofs d).addPair NI_SCHED_RX_LO NI_SCHED_RX_HI 256 n).setRt n { s.rt n with ejecting := rest }

theorem sched_rx_apart : NI_SCHED_RX_LO.addr n 0 ≠ NI_SCHED_RX_HI.addr n 0 := RegDef.addr_ne rfl (by decide)

variable {ofs : Nat} {d : List Nat}

theorem State.ejected_kept : s.RegsKept (s.ejected n ofs d rest) [NI_SCHED_RX_LO.addr n 0, NI_SCHED_RX_HI.addr n 0] :=
  State.regsKept_addPair (s := s.spadWrite n ofs d) NI_SCHED_RX_LO NI_SCHED_RX_HI 256 n 0 (by simp) (by simp)

theorem State.owner_ejected : (s.ejected n ofs d rest).owner n = s.owner n := by
  refine State.ejected_kept.fld ?_
  simp only [List.mem_cons, List.not_mem_nil, or_false, not_or]
  exact ⟨RegDef.addr_ne rfl (by decide), RegDef.addr_ne rfl (by decide)⟩

/-- What a flit of 256 bytes leaves of the scratchpad. -/
theorem State.ejected_spad (wf : s.spad.wf = true) (length : d.length = 256) :
    (∀ i < 256, (s.ejected n ofs d rest).spad.read (spadKey n ofs + i) = d.getD i 0 % 256) ∧
    (∀ a, a < spadKey n ofs ∨ spadKey n ofs + 256 ≤ a → (s.ejected n ofs d rest).spad.read a = s.spad.read a) ∧
    (s.ejected n ofs d rest).spad.wf = true := by
  refine ⟨fun i hi => ?_, fun a out => ?_, Memory.wf_writeN _ _ _ wf⟩
  · refine (Memory.read_writeN_same s.spad (spadKey n ofs) d i wf (length.symm ▸ hi)).trans ?_
    rw [List.getD_eq_getElem _ _ (length.symm ▸ hi)]
  · exact Memory.read_writeN_ne s.spad _ _ _ (by rw [length]; exact out)

/-- What EJECT_WRITE computes for a flit at an NI in service. -/
theorem gives_ejectWrite {t : State} (hn : n < 2304) (oldest : (s.rt n).ejecting = e :: rest) (thawed : s.frozenAt n = false)
    (up : s.niUp n = true)
    (h : (if e.signal = false then s.ejected n e.ofs (toBytes 256 e.data) rest
      else
        let x := s.ejected n e.ofs (toBytes 256 e.data) rest
        let key := 16 * e.seg + e.stream
        let k := (x.rt n).signals.get key 0 + 1
        let u := x.modRt n fun r => { r with signals := r.signals.put key k }
        let chart := match s.ch n with | some c => c.chart | none => 0
        (u.traceRec n 3 (u.owner n) none 15 0 e.stream k).checkWaits n 0 chart key k 0) = t) : Gives (.ejectWrite n) s t := by
  refine Gives.of_run (exec_ejectWrite n s) (decide_eq_true hn) ?_
  have still : (s.modRt n fun r => { r with ejecting := rest }).niUp n = true := up
  simp only [oldest]
  refine (if_neg (by rw [thawed]; decide)).trans ((if_neg (by rw [still]; decide)).trans ?_)
  generalize toBytes 256 e.data = d at h ⊢
  exact h

theorem does_ejectWrite_data (hn : n < 2304) (oldest : (s.rt n).ejecting = e :: rest) (thawed : s.frozenAt n = false)
    (up : s.niUp n = true) (quiet : e.signal = false) (wf : s.spad.wf = true) : Does (.ejectWrite n) s fun t =>
      (∀ i < 256, t.spad.read (spadKey n e.ofs + i) = e.data / 2 ^ (8 * i) % 256) ∧
      (∀ a, a < spadKey n e.ofs ∨ spadKey n e.ofs + 256 ≤ a → t.spad.read a = s.spad.read a) ∧ t.spad.wf = true ∧
      t.rt n = { s.rt n with ejecting := rest } ∧
      t.pair NI_SCHED_RX_LO NI_SCHED_RX_HI n = (s.pair NI_SCHED_RX_LO NI_SCHED_RX_HI n + 256) % 2 ^ 64 ∧
      s.RegsKept t [NI_SCHED_RX_LO.addr n 0, NI_SCHED_RX_HI.addr n 0] ∧ t.net = s.net ∧ t.hbm = s.hbm := by
  have bytes (i : Nat) (hi : i < 256) : (toBytes 256 e.data).getD i 0 % 256 = e.data / 2 ^ (8 * i) % 256 := by
    rw [getD_toBytes _ hi, Nat.mod_mod]
  have given := gives_ejectWrite hn oldest thawed up (if_pos quiet)
  have length : (toBytes 256 e.data).length = 256 := length_toBytes 256 e.data
  generalize toBytes 256 e.data = d at bytes given length
  obtain ⟨inside, outside, canonical⟩ := State.ejected_spad (n := n) (ofs := e.ofs) (rest := rest) wf length
  refine given.does ⟨fun i hi => (inside i hi).trans (bytes i hi), outside, canonical, State.rt_setRt_same _ n _, ?_,
    State.ejected_kept (rest := rest), rfl, rfl⟩
  exact State.pair_addPair_same (s.spadWrite n e.ofs d) _ _ _ n 0 sched_rx_apart

theorem gives_ejectWrite_signal {c : ChartRun} (hn : n < 2304) (oldest : (s.rt n).ejecting = e :: rest) (thawed : s.frozenAt n = false)
    (up : s.niUp n = true) (signal : e.signal = true) (chart : s.ch n = some c) :
    let key := 16 * e.seg + e.stream
    let k := (s.rt n).signals.get key 0 + 1
    let u := (s.spadWrite n e.ofs (toBytes 256 e.data)).addPair NI_SCHED_RX_LO NI_SCHED_RX_HI 256 n
    Gives (.ejectWrite n) s (((u.setRt n { s.rt n with ejecting := rest, signals := (s.rt n).signals.put key k }).traceRec n 3
      (s.owner n) none 15 0 e.stream k).checkWaits n 0 c.chart key k 0) := by
  refine gives_ejectWrite hn oldest thawed up ((if_neg (by rw [signal]; decide)).trans ?_)
  generalize toBytes 256 e.data = d
  have rt : (s.ejected n e.ofs d rest).rt n = { s.rt n with ejecting := rest } := State.rt_setRt_same _ n _
  have noted (f : Router → Router) : (s.ejected n e.ofs d rest).modRt n f =
      ((s.spadWrite n e.ofs d).addPair NI_SCHED_RX_LO NI_SCHED_RX_HI 256 n).setRt n (f { s.rt n with ejecting := rest }) := by
    rw [State.modRt, rt, State.ejected, State.setRt_setRt]
  have owner (r : Router) : (((s.spadWrite n e.ofs d).addPair NI_SCHED_RX_LO NI_SCHED_RX_HI 256 n).setRt n r).owner n = s.owner n :=
    State.owner_ejected (ofs := e.ofs) (d := d) (rest := rest)
  simp only [chart, noted, rt, owner]

/-! ## The landing delay -/

variable {v : Nat}

theorem blockOf_olLandCfg : ∀ n < 32, blockOf (OL_LAND_CFG.addr n 0) = some (.ol, n) := by decide +kernel

theorem State.regAlive_olLandCfg (hn : n < 32) : s.regAlive (OL_LAND_CFG.addr n 0) = true := by
  rw [State.regAlive, blockOf_olLandCfg n hn]

/-- DELAY and ENABLE, and whether the DELAY was too low. -/
def State.landCfg (s : State) (n v : Nat) : State :=
  let s := s.setFld OL_LAND_CFG_DELAY (bits v 15 8) n
  if bit v 0 = false then s.setFld OL_LAND_CFG_ENABLE 0 n
  else if s.fld OL_LOCK_LOCK n + 8 ≤ min 127 (bits v 15 8) then s.setFld OL_LAND_CFG_ENABLE 1 n
  else (s.setFld OL_LAND_CFG_ENABLE 0 n).setFld OL_LAND_STATUS_DELAY_LOW 1 n

theorem landCfg_ne_status : OL_LAND_CFG.addr n 0 ≠ OL_LAND_STATUS.addr n 0 := RegDef.addr_ne rfl (by decide)

/-- What a write leaves of DELAY, ENABLE and DELAY_LOW (R92). -/
theorem State.landCfg_spec : ∃ x : State, s.landCfg n v = x ∧ (∃ regs, x = { s with regs := regs }) ∧
    x.fld OL_LAND_CFG_DELAY n = v / 256 % 256 ∧
    x.fld OL_LAND_CFG_ENABLE n = (if v % 2 = 1 ∧ s.fld OL_LOCK_LOCK n + 8 ≤ min 127 (v / 256 % 256) then 1 else 0) ∧
    x.fld OL_LAND_STATUS_DELAY_LOW n =
      (if v % 2 = 1 ∧ min 127 (v / 256 % 256) < s.fld OL_LOCK_LOCK n + 8 then 1 else s.fld OL_LAND_STATUS_DELAY_LOW n) ∧
    s.RegsKept x [OL_LAND_CFG.addr n 0, OL_LAND_STATUS.addr n 0] := by
  have delay : bits v 15 8 = v / 256 % 256 := by
    rw [bits, Nat.shiftRight_eq_div_pow]
    rfl
  have low : bit v 0 = decide (v % 2 = 1) := by rw [bit_eq, pow_zero, Nat.div_one]
  unfold State.landCfg
  dsimp only
  have set := State.fld_setFld_same s OL_LAND_CFG_DELAY (bits v 15 8) n 0 (by decide) (by decide)
  have lock : (s.setFld OL_LAND_CFG_DELAY (bits v 15 8) n).fld OL_LOCK_LOCK n = s.fld OL_LOCK_LOCK n :=
    State.fld_setFld_ne _ _ _ _ _ _ _ _ (RegDef.addr_ne rfl (by decide))
  have status : (s.setFld OL_LAND_CFG_DELAY (bits v 15 8) n).fld OL_LAND_STATUS_DELAY_LOW n = s.fld OL_LAND_STATUS_DELAY_LOW n :=
    State.fld_setFld_ne _ _ _ _ _ _ _ _ landCfg_ne_status.symm
  have kept : s.RegsKept (s.setFld OL_LAND_CFG_DELAY (bits v 15 8) n) [OL_LAND_CFG.addr n 0, OL_LAND_STATUS.addr n 0] :=
    State.regsKept_setFld _ _ _ _ (by simp [OL_LAND_CFG_DELAY])
  have frame : ∃ regs, s.setFld OL_LAND_CFG_DELAY (bits v 15 8) n = { s with regs := regs } := ⟨_, rfl⟩
  rw [delay] at set lock status kept frame ⊢
  rw [lock]
  generalize s.setFld OL_LAND_CFG_DELAY (v / 256 % 256) n = x at set lock status kept frame ⊢
  obtain ⟨regs, rfl⟩ := frame
  have apart (b : Nat) : (State.setFld { s with regs := regs } OL_LAND_CFG_ENABLE b n).fld OL_LAND_CFG_DELAY n = v / 256 % 256 :=
    (State.fld_setFld_apart _ OL_LAND_CFG_ENABLE OL_LAND_CFG_DELAY _ _ _ rfl (by decide) (by decide) (by decide)).trans
      (set.trans (Nat.mod_eq_of_lt (Nat.mod_lt _ (by decide))))
  have enable (b : Nat) : (State.setFld { s with regs := regs } OL_LAND_CFG_ENABLE b n).fld OL_LAND_CFG_ENABLE n = b % 2 :=
    State.fld_setFld_same _ OL_LAND_CFG_ENABLE _ _ _ (by decide) (by decide)
  have still (b : Nat) : (State.setFld { s with regs := regs } OL_LAND_CFG_ENABLE b n).fld OL_LAND_STATUS_DELAY_LOW n =
      s.fld OL_LAND_STATUS_DELAY_LOW n :=
    (State.fld_setFld_ne _ _ _ _ _ _ _ _ landCfg_ne_status.symm).trans status
  have moved (b : Nat) : s.RegsKept (State.setFld { s with regs := regs } OL_LAND_CFG_ENABLE b n) [OL_LAND_CFG.addr n 0, OL_LAND_STATUS.addr n 0] :=
    kept.trans (State.regsKept_setFld _ _ _ _ (by simp [OL_LAND_CFG_ENABLE]))
  by_cases on : v % 2 = 1
  · rw [if_neg (by rw [low, on]; decide)]
    by_cases enough : s.fld OL_LOCK_LOCK n + 8 ≤ min 127 (v / 256 % 256)
    · rw [if_pos enough, if_pos ⟨on, enough⟩, if_neg fun h => absurd h.2 (by omega)]
      exact ⟨_, rfl, ⟨_, rfl⟩, apart 1, enable 1, still 1, moved 1⟩
    · rw [if_neg enough, if_neg fun h => enough h.2, if_pos ⟨on, by omega⟩]
      refine ⟨_, rfl, ⟨_, rfl⟩, ?_, ?_, ?_, (moved 0).trans (State.regsKept_setFld _ _ _ _ (by simp [OL_LAND_STATUS_DELAY_LOW]))⟩
      · exact (State.fld_setFld_ne _ _ _ _ _ _ _ _ landCfg_ne_status).trans (apart 0)
      · exact (State.fld_setFld_ne _ _ _ _ _ _ _ _ landCfg_ne_status).trans (enable 0)
      · exact State.fld_setFld_same _ OL_LAND_STATUS_DELAY_LOW _ _ _ (by decide) (by decide)
  · rw [if_pos (by rw [low]; simpa using on), if_neg fun h => on h.1, if_neg fun h => on h.1]
    exact ⟨_, rfl, ⟨_, rfl⟩, apart 0, enable 0, still 0, moved 0⟩

theorem does_olLandCfgWrite {p : State → Prop} (hn : n < 32) (hv : v < 2 ^ 32)
    (h : ∀ net bn, p (s.after (State.landCfg { s with net := net, bn := bn } n v))) : Does (.olLandCfgWrite n v) s p := by
  obtain ⟨net, bn, e⟩ := s.serveWrite_frame (OL_LAND_CFG.addr n 0) v
  refine Does.of_run (exec_olLandCfgWrite n v s) (by simp only [Instr.wf, okOl, okW, hn, hv, decide_true, Bool.and_self]) ?_
  rw [State.regWrite, if_pos (State.regAlive_olLandCfg hn), e]
  exact h net bn

end

/-- Settles O11: what the write of a flit and the judgement of a DELAY leave. -/
theorem ejectedFlitsAndLandingDelay : Obligations.EjectedFlitsAndLandingDelay := by
  unfold Obligations.EjectedFlitsAndLandingDelay
  intro s n v e rest
  refine ⟨fun hn oldest thawed up => ⟨fun quiet wf => does_ejectWrite_data hn oldest thawed up quiet wf,
    fun signal c chart => gives_ejectWrite_signal hn oldest thawed up signal chart⟩, fun hn hv => does_olLandCfgWrite hn hv fun net bn => ?_⟩
  obtain ⟨x, e, ⟨regs, frame⟩, delay, enable, low, kept⟩ := State.landCfg_spec (s := { s with net := net, bn := bn }) (n := n) (v := v)
  rw [e]
  exact ⟨delay, enable, low, kept, by rw [frame]; rfl, by rw [frame]; rfl⟩

end Sys2Proof.Machine

/-! # Continual self-test and TICK (R289, R290, R300): the proof of SelfTestsAndTick -/

namespace Sys2Proof.Machine

/-! ## A sounding flit -/

theorem prbsBits_le (n s k : Nat) : prbsBits n s k + 2 ^ k ≤ 2 ^ (n + k) ∧ 2 ^ k ∣ prbsBits n s k := by
  induction n generalizing s k with
  | zero => simp [prbsBits]
  | succ n ih =>
    rw [prbsBits]
    generalize hb : (b2n (bit s 30) + b2n (bit s 27)) % 2 = b
    obtain ⟨fits, aligned⟩ := ih ((2 * s + b) % 2 ^ 31) (k + 1)
    generalize prbsBits n ((2 * s + b) % 2 ^ 31) (k + 1) = x at fits aligned ⊢
    rw [Nat.shiftLeft_eq]
    refine ⟨?_, Nat.dvd_add (Nat.dvd_mul_left _ _) ((Nat.pow_dvd_pow 2 k.le_succ).trans aligned)⟩
    have small : b ≤ 1 := by omega
    have scaled : b * 2 ^ k ≤ 2 ^ k := by
      calc b * 2 ^ k ≤ 1 * 2 ^ k := Nat.mul_le_mul_right _ small
        _ = 2 ^ k := Nat.one_mul _
    rw [show n + 1 + k = n + (k + 1) by omega]
    rw [Nat.pow_succ] at fits
    omega

/-- The first 32 bits of a sounding flit are its seed and the complement of it (R289). -/
theorem soundFlit_spec {seed : Nat} (h : seed < 2 ^ 16) :
    soundFlit seed % 2 ^ 16 = seed ∧ soundFlit seed / 2 ^ 16 % 2 ^ 16 = 2 ^ 16 - 1 - seed ∧ soundFlit seed < 2 ^ 2048 := by
  obtain ⟨fits, q, aligned⟩ := prbsBits_le 2016 (0x7FFF0000 ||| seed) 32
  rw [show 2016 + 32 = 2048 by rfl] at fits
  rw [soundFlit, Nat.shiftLeft_eq]
  generalize prbsBits 2016 (0x7FFF0000 ||| seed) 32 = x at fits aligned ⊢
  generalize 2 ^ 2048 = top at fits ⊢
  obtain ⟨c, hc⟩ : ∃ c, c = 0xFFFF - seed := ⟨_, rfl⟩
  rw [← hc, aligned]
  have upper : (seed + c * 2 ^ 16 + 2 ^ 32 * q) / 2 ^ 16 = c + 2 ^ 16 * q := by omega
  rw [upper]
  omega

theorem ones_zero (n : Nat) : ones n 0 = 0 := by simp [ones, bit]

/-- A flit that arrives as it left has no wrong bit. -/
theorem wrong_of_intact {seed : Nat} (h : seed < 2 ^ 16) :
    ones 2048 ((soundFlit seed ^^^ 0) ^^^ soundFlit ((soundFlit seed ^^^ 0) % 2 ^ 16)) = 0 := by
  rw [Nat.xor_zero, (soundFlit_spec h).1, Nat.xor_self, ones_zero]

section

variable {s : State}

/-- A sounding flit has left and is counted (R289, R390). -/
def State.sounded (s : State) (n port : Nat) : State :=
  (s.modRt n fun q => { q with sound := q.sound.put port (s.rg (regionOf n)).L }).modRg (regionOf n) fun q => { q with flits := q.flits + 1 }

theorem gives_soundingFlit {n port seed err : Nat} {t : State} (hn : n < 2304) (hport : port < 4) (hseed : seed < 2 ^ 16) (herr : err < 2 ^ 2048)
    (h : (if s.maySound n port then
      match neighbour n port with
      | some m =>
        let got := soundFlit seed ^^^ err
        let wrong := ones 2048 (got ^^^ soundFlit (got % 2 ^ 16))
        if wrong = 0 ∨ (s.sounded n port).frozenAt m = true then s.sounded n port
        else (s.sounded n port).unitEvent .ni m 2 ((farPort port) <<< 12 + min 4095 wrong)
      | none => s.sounded n port
    else s) = t) : Gives (.soundingFlit n port seed err) s t :=
  Gives.of_run (exec_soundingFlit n port seed err s)
    (by simp only [Instr.wf, okSlot, hn, hport, hseed, herr, decide_true, Bool.and_self]) h

theorem State.frozenAt_sounded (n port m : Nat) : (s.sounded n port).frozenAt m = s.frozenAt m := by
  have same : ((s.sounded n port).rg (regionOf m)).frozen = (s.rg (regionOf m)).frozen ∧
      ((s.sounded n port).rg (regionOf m)).absent = (s.rg (regionOf m)).absent := by
    by_cases here : regionOf m = regionOf n
    · rw [here, State.sounded, State.rg_modRg_same]
      exact ⟨rfl, rfl⟩
    · rw [State.sounded, State.rg_modRg_ne _ _ _ _ here]
      exact ⟨rfl, rfl⟩
  rw [State.frozenAt, same.1, same.2, State.frozenAt]

/-! ## The router under test -/

/-- The next router of the region is under test (R290). -/
def State.nextTest (s : State) (r : Nat) : State :=
  if s.fld RG_SELFTEST_CFG_ROUTER r = 63 then (s.setFld RG_SELFTEST_CFG_ROUTER 0 r).addFld RG_SELFTEST_CFG_ROTATIONS 1 r
  else s.setFld RG_SELFTEST_CFG_ROUTER (s.fld RG_SELFTEST_CFG_ROUTER r + 1) r

/-- A region tests its routers while it keeps up, has power and is neither frozen nor at F3 (R290). -/
abbrev State.testRuns (s : State) (r : Nat) : Prop :=
  s.fld RG_SELFTEST_CFG_TEST_EN r = 1 ∧ (s.rg r).lag = 0 ∧ (s.rg r).frozen = false ∧ (s.rg r).f3 = false ∧ s.powered r = true

theorem gives_routerSelftest {r step : Nat} {bad : Bool} {t : State} (hr : r < 36) (hstep : step < 256)
    (h : (if s.testRuns r then
      if bad = true ∧ (s.nextTest r).routerUp (regionSlot r (s.fld RG_SELFTEST_CFG_ROUTER r)) = true then
        (s.nextTest r).unitEvent .ni (regionSlot r (s.fld RG_SELFTEST_CFG_ROUTER r)) 3 step else s.nextTest r
    else s) = t) : Gives (.routerSelftest r step bad) s t :=
  Gives.of_run (exec_routerSelftest r step bad s) (by simp only [Instr.wf, okRgn, hr, hstep, decide_true, Bool.and_self]) h

theorem State.nextTest_spec (s : State) (r : Nat) : ∃ x : State, s.nextTest r = x ∧ (∃ regs, x = { s with regs := regs }) ∧
    x.fld RG_SELFTEST_CFG_ROUTER r = (s.fld RG_SELFTEST_CFG_ROUTER r + 1) % 64 ∧
    (s.fld RG_SELFTEST_CFG_ROUTER r = 63 → x.fld RG_SELFTEST_CFG_ROTATIONS r = (s.fld RG_SELFTEST_CFG_ROTATIONS r + 1) % 2 ^ 16) ∧
    (s.fld RG_SELFTEST_CFG_ROUTER r ≠ 63 → x.fld RG_SELFTEST_CFG_ROTATIONS r = s.fld RG_SELFTEST_CFG_ROTATIONS r) ∧
    s.RegsKept x [RG_SELFTEST_CFG.addr r 0] := by
  have router (v : Nat) : (s.setFld RG_SELFTEST_CFG_ROUTER v r).fld RG_SELFTEST_CFG_ROUTER r = v % 64 :=
    State.fld_setFld_same _ RG_SELFTEST_CFG_ROUTER _ _ _ (by decide) (by decide)
  have rotations (v : Nat) : (s.setFld RG_SELFTEST_CFG_ROUTER v r).fld RG_SELFTEST_CFG_ROTATIONS r = s.fld RG_SELFTEST_CFG_ROTATIONS r :=
    State.fld_setFld_apart _ RG_SELFTEST_CFG_ROUTER RG_SELFTEST_CFG_ROTATIONS _ _ _ rfl (by decide) (by decide) (by decide)
  have kept (v : Nat) : s.RegsKept (s.setFld RG_SELFTEST_CFG_ROUTER v r) [RG_SELFTEST_CFG.addr r 0] :=
    State.regsKept_setFld RG_SELFTEST_CFG_ROUTER _ _ _ (List.mem_singleton.mpr rfl)
  refine ⟨_, rfl, ?_⟩
  unfold State.nextTest
  by_cases last : s.fld RG_SELFTEST_CFG_ROUTER r = 63
  · rw [if_pos last, last]
    refine ⟨⟨_, rfl⟩, ?_, fun _ => ?_, fun h => absurd rfl h, (kept 0).trans ?_⟩
    · refine Eq.trans ?_ (router 0)
      exact State.fld_setFld_apart _ RG_SELFTEST_CFG_ROTATIONS RG_SELFTEST_CFG_ROUTER _ _ _ rfl (by decide) (by decide) (by decide)
    · refine (State.fld_setFld_same _ RG_SELFTEST_CFG_ROTATIONS _ _ _ (by decide) (by decide)).trans ?_
      rw [rotations]
      rfl
    · exact State.regsKept_setFld RG_SELFTEST_CFG_ROTATIONS _ _ _ (List.mem_singleton.mpr rfl)
  · rw [if_neg last]
    exact ⟨⟨_, rfl⟩, router _, fun h => absurd h last, fun _ => rotations _, kept _⟩

theorem selftest_ne_power : ∀ r < 36, BN_PWR_EN0.addr 0 0 ≠ RG_SELFTEST_CFG.addr r 0 ∧ BN_PWR_EN1.addr 0 0 ≠ RG_SELFTEST_CFG.addr r 0 := by
  decide +kernel

theorem State.routerUp_nextTest {r : Nat} (hr : r < 36) (slot : Nat) : (s.nextTest r).routerUp slot = s.routerUp slot := by
  obtain ⟨x, e, ⟨regs, frame⟩, -, -, -, kept⟩ := s.nextTest_spec r
  obtain ⟨low, high⟩ := selftest_ne_power r hr
  have en0 : x.fld BN_PWR_EN0_EN = s.fld BN_PWR_EN0_EN := kept.fld (List.mem_singleton.not.mpr low)
  have en1 : x.fld BN_PWR_EN1_EN = s.fld BN_PWR_EN1_EN := kept.fld (List.mem_singleton.not.mpr high)
  have region : x.rg (regionOf slot) = s.rg (regionOf slot) := by
    rw [frame]
    rfl
  have fence : x.fence = s.fence := by rw [frame]
  rw [e, State.routerUp, State.routerUp, State.gone, State.gone, en0, en1, region, fence]

/-! ## TICK -/

theorem State.safeKinds_eq_zero : s.safeKinds = 0 ↔ ∀ q i, i < UnitKind.count q → s.fld (xx_ERR_STATUS_SAFE q) i = 0 := by
  have bound (q : UnitKind) (i : Nat) : s.fld (xx_ERR_STATUS_SAFE q) i < 2 := s.fld_lt (xx_ERR_STATUS_SAFE q) i 0
  have fold (l : List UnitKind) (m : Nat) : l.foldl (fun m k => if (List.range k.count).any (fun i => s.fld (xx_ERR_STATUS_SAFE k) i == 1)
      then m + 2 ^ k.code else m) m = 0 ↔ m = 0 ∧ ∀ q ∈ l, ∀ i < q.count, s.fld (xx_ERR_STATUS_SAFE q) i = 0 := by
    induction l generalizing m with
    | nil => simp
    | cons k l ih =>
      rw [List.foldl_cons, ih, List.forall_mem_cons]
      have safe : (List.range k.count).any (fun i => s.fld (xx_ERR_STATUS_SAFE k) i == 1) = true ↔
          ¬ ∀ i < k.count, s.fld (xx_ERR_STATUS_SAFE k) i = 0 := by
        simp only [List.any_eq_true, List.mem_range, beq_iff_eq, not_forall]
        constructor
        · rintro ⟨i, hi, one⟩
          exact ⟨i, hi, by omega⟩
        · rintro ⟨i, hi, some⟩
          exact ⟨i, hi, by have := bound k i; omega⟩
      have pos := Nat.two_pow_pos k.code
      split
      · next any =>
        have := safe.mp any
        constructor
        · rintro ⟨zero, -⟩
          omega
        · rintro ⟨-, none, -⟩
          exact absurd none this
      · next any =>
        have := not_not.mp (mt safe.mpr any)
        tauto
  rw [State.safeKinds, fold]
  refine ⟨fun h q i => h.2 q ?_ i, fun h => ⟨rfl, fun q _ => h q⟩⟩
  cases q <;> decide

theorem State.tickRuns_iff : s.tickRuns = true ↔ s.fld FB_TICK_CTRL_ENABLE = 1 ∧
    (∀ q i, i < UnitKind.count q → s.fld (xx_ERR_STATUS_SAFE q) i = 0) ∧ (s.fld FB_TICK_CTRL_KICK_LIMIT = 0 ∨ s.chr.kickOk = true) ∧
    s.fld CH_STATUS_REF_LOST = 0 ∧ s.bn.clockLost = false ∧ s.fld BN_STATE_STATE ≠ 1 := by
  simp only [State.tickRuns, Bool.and_eq_true, Bool.or_eq_true, beq_iff_eq, bne_iff_ne, Bool.not_eq_true', State.safeKinds_eq_zero, and_assoc]

/-- A kick is missed only where one is due (R300). -/
theorem gives_kickMissed {t : State} (h : (if s.fld FB_TICK_CTRL_ENABLE = 1 ∧ s.fld FB_TICK_CTRL_KICK_LIMIT ≠ 0 ∧ s.chr.kickOk = true then
    (({ s with chr := { s.chr with kickOk := false } }).setFld FB_TICK_STATUS_KICK_MISSED 1).unitEvent .bn 0 7 0 else s) = t) :
    Gives .kickMissed s t := Gives.of_run (exec_kickMissed s) rfl h

/-- The event of a missed kick is only recorded and told. -/
theorem does_kickMissed (on : s.fld FB_TICK_CTRL_ENABLE = 1) (limit : s.fld FB_TICK_CTRL_KICK_LIMIT ≠ 0) (due : s.chr.kickOk = true)
    (unarmed : ∀ u i, (s.eu u i).parityArmed = false) : Does .kickMissed s fun t =>
      t.fld FB_TICK_STATUS_KICK_MISSED = 1 ∧ t.chr.kickOk = false ∧ t.chr.tick = s.chr.tick ∧ t.spad = s.spad := by
  refine (gives_kickMissed (if_pos ⟨on, limit, due⟩)).does ?_
  have told : (State.setFld { s with chr := { s.chr with kickOk := false } } FB_TICK_STATUS_KICK_MISSED 1).Told
      ((State.setFld { s with chr := { s.chr with kickOk := false } } FB_TICK_STATUS_KICK_MISSED 1).unitEvent .bn 0 7 0) .bn 0 :=
    State.told_unitEvent 0 false (by decide) rfl unarmed
  have set : (State.setFld { s with chr := { s.chr with kickOk := false } } FB_TICK_STATUS_KICK_MISSED 1).fld FB_TICK_STATUS_KICK_MISSED = 1 :=
    State.fld_setFld_same _ FB_TICK_STATUS_KICK_MISSED _ 0 0 (by decide) (by decide)
  have apart : ¬ InErrSet .bn 0 (FB_TICK_STATUS.addr 0 0) := by
    unfold InErrSet
    decide
  obtain ⟨_, _, _, _, _, _, _, _, frame⟩ := told.frame
  have kept := told.fld (f := FB_TICK_STATUS_KICK_MISSED) (j := 0) (m := 0) apart
  generalize (State.setFld { s with chr := { s.chr with kickOk := false } } FB_TICK_STATUS_KICK_MISSED 1).unitEvent .bn 0 7 0 = x at frame kept ⊢
  exact ⟨kept.trans set, by rw [frame]; rfl, by rw [frame]; rfl, by rw [frame]; rfl⟩

/-- A write of FB_TICK_CTRL (R300). -/
theorem does_kick {v : Nat} (hv : v < 2 ^ 32) (alive : s.regAlive (FB_TICK_CTRL.addr 0 0) = true) : Does (.kick v) s fun t =>
    t.chr.kickOk = ((v / 2 ^ 30 % 2 == 1) || s.chr.kickOk) ∧ t.chr.tick = s.chr.tick ∧ s.RegsKept t [FB_TICK_CTRL.addr 0 0] := by
  obtain ⟨net, bn, e⟩ := s.serveWrite_frame (FB_TICK_CTRL.addr 0 0) v
  refine Does.of_run (exec_kick v s) (decide_eq_true hv) ?_
  rw [State.regWrite, if_pos alive, e]
  have kept : s.RegsKept (State.writeTyped { s with net := net, bn := bn } FB_TICK_CTRL 0 0 v) [FB_TICK_CTRL.addr 0 0] := fun off d out =>
    State.regs_wr_ne _ _ _ _ _ _ _ (List.mem_singleton.not.mp out)
  dsimp only
  rw [bit_eq]
  by_cases kick : v / 2 ^ 30 % 2 = 1
  · rw [if_pos (decide_eq_true kick), kick]
    exact ⟨rfl, rfl, kept⟩
  · rw [if_neg (by simpa using kick), beq_false_of_ne kick]
    exact ⟨rfl, rfl, kept⟩

end

/-- Settles O32: an intact flit shows no wrong bit; the router after 63 is 0; TICK asks every unit's SAFE. -/
theorem selfTestsAndTick : Obligations.SelfTestsAndTick := by
  unfold Obligations.SelfTestsAndTick
  intro s n port seed err r step v bad hn hport hseed herr hr hstep hv unarmed u got wrong runs k ok
  refine ⟨soundFlit_spec hseed, fun intact => ?_, fun silent => ?_, fun m sounds there => ⟨fun quiet => ?_, fun noisy thawed => ?_⟩,
    ⟨fun idle => ?_, fun goes good => ?_, fun goes differs more up => ?_⟩, ⟨fun yes => ?_, fun no => ?_⟩, does_kick hv,
    fun on limit due => does_kickMissed on limit due unarmed, fun none => gives_kickMissed (if_neg fun h => ?_)⟩
  · subst intact
    exact wrong_of_intact hseed
  · exact gives_soundingFlit hn hport hseed herr (if_neg (by rw [silent]; decide))
  · refine gives_soundingFlit hn hport hseed herr ((if_pos sounds).trans ?_)
    simp only [there, State.frozenAt_sounded]
    exact if_pos quiet
  · refine gives_soundingFlit hn hport hseed herr ((if_pos sounds).trans ?_)
    simp only [there, State.frozenAt_sounded, Nat.shiftLeft_eq]
    exact if_neg fun h => h.elim noisy fun frozen => by simp [thawed] at frozen
  · exact gives_routerSelftest hr hstep (if_neg idle)
  · obtain ⟨x, e, ⟨regs, frame⟩, router, wraps, stays, kept⟩ := s.nextTest_spec r
    refine (gives_routerSelftest hr hstep ((if_pos goes).trans (if_neg fun h => by simp [good] at h))).does ?_
    rw [e]
    exact ⟨router, wraps, stays, kept, by rw [frame]; rfl⟩
  · have due : bad = true ∧ (s.nextTest r).routerUp (regionSlot r k) = true :=
      ⟨differs, (State.routerUp_nextTest hr _).trans up⟩
    have next : s.nextTest r = s.setFld RG_SELFTEST_CFG_ROUTER (k + 1) r := by rw [State.nextTest, if_neg more]
    exact gives_routerSelftest hr hstep ((if_pos goes).trans ((if_pos due).trans (by rw [next])))
  · exact Gives.of_run (exec_tickToggle s) rfl (if_pos (State.tickRuns_iff.mpr yes))
  · exact Gives.of_run (exec_tickToggle s) rfl (if_neg (mt State.tickRuns_iff.mp no))
  · obtain ⟨on, limit, due⟩ := h
    obtain off | zero | early := none
    · omega
    · exact limit zero
    · rw [early] at due
      exact Bool.false_ne_true due

end Sys2Proof.Machine

/-! # What a write leaves in the fields of a register (R7, R10) -/

namespace Sys2Proof.Machine

/-- Fields that lie below a bit, one below the other. -/
def descend : Nat → List FieldDef → Bool
  | _, [] => true
  | top, f :: fs => decide (f.lo ≤ f.hi ∧ f.hi < top) && descend f.lo fs

/-- The word with one more field put into it. -/
def putField (val : FieldDef → Nat) (w : Nat) (f : FieldDef) : Nat := w + val f <<< f.lo

section

variable {val : FieldDef → Nat}

theorem testBit_putField {f : FieldDef} {w top : Nat} (small : val f < 2 ^ (f.hi + 1 - f.lo)) (low : f.lo ≤ f.hi) (under : f.hi < top)
    (clear : w % 2 ^ top = 0) (b : Nat) :
    (putField val w f).testBit b = (w.testBit b || (decide (f.lo ≤ b) && (val f).testBit (b - f.lo))) := by
  obtain ⟨q, rfl⟩ := Nat.dvd_of_mod_eq_zero clear
  have fits : val f <<< f.lo < 2 ^ top := by
    rw [Nat.shiftLeft_eq]
    calc val f * 2 ^ f.lo < 2 ^ (f.hi + 1 - f.lo) * 2 ^ f.lo := Nat.mul_lt_mul_of_pos_right small (Nat.two_pow_pos _)
      _ = 2 ^ (f.hi + 1) := by rw [← Nat.pow_add, Nat.sub_add_cancel (by omega)]
      _ ≤ 2 ^ top := Nat.pow_le_pow_right (by decide) under
  rw [putField, Nat.two_pow_add_eq_or_of_lt fits, Nat.testBit_or, Nat.testBit_shiftLeft]

theorem testBit_putFields {fs : List FieldDef} {w top : Nat} (small : ∀ f ∈ fs, val f < 2 ^ (f.hi + 1 - f.lo))
    (order : descend top fs = true) (clear : w % 2 ^ top = 0) (b : Nat) :
    (fs.foldl (putField val) w).testBit b = (w.testBit b || fs.any fun f => decide (f.lo ≤ b) && (val f).testBit (b - f.lo)) := by
  induction fs generalizing w top with
  | nil => simp
  | cons f fs ih =>
    simp only [descend, Bool.and_eq_true, decide_eq_true_eq] at order
    obtain ⟨⟨low, under⟩, rest⟩ := order
    have mine := small f List.mem_cons_self
    have next : putField val w f % 2 ^ f.lo = 0 := by
      rw [putField, Nat.shiftLeft_eq, Nat.add_mul_mod_self_right]
      exact Nat.mod_eq_zero_of_dvd ((Nat.pow_dvd_pow 2 (by omega)).trans (Nat.dvd_of_mod_eq_zero clear))
    rw [List.foldl_cons, ih (fun g mem => small g (List.mem_cons_of_mem _ mem)) rest next, testBit_putField mine low under clear, List.any_cons,
      Bool.or_assoc]

theorem descend_lt {fs : List FieldDef} {top : Nat} (order : descend top fs = true) : ∀ f ∈ fs, f.lo ≤ f.hi ∧ f.hi < top := by
  induction fs generalizing top with
  | nil => simp
  | cons g fs ih =>
    simp only [descend, Bool.and_eq_true, decide_eq_true_eq] at order
    obtain ⟨here, rest⟩ := order
    intro f mem
    obtain rfl | later := List.mem_cons.mp mem
    · exact here
    · have := ih rest f later
      omega

theorem descend_apart {fs : List FieldDef} {top : Nat} (order : descend top fs = true) : ∀ f ∈ fs, ∀ g ∈ fs, f = g ∨ f.hi < g.lo ∨ g.hi < f.lo := by
  induction fs generalizing top with
  | nil => simp
  | cons h fs ih =>
    simp only [descend, Bool.and_eq_true, decide_eq_true_eq] at order
    obtain ⟨here, rest⟩ := order
    have below := descend_lt rest
    intro f hf g hg
    obtain rfl | laterF := List.mem_cons.mp hf <;> obtain rfl | laterG := List.mem_cons.mp hg
    · exact .inl rfl
    · exact .inr (.inr (below g laterG).2)
    · exact .inr (.inl (below f laterF).2)
    · exact ih rest f laterF g laterG

theorem testBit_of_le_width {v n b : Nat} (h : v < 2 ^ n) (hb : n ≤ b) : v.testBit b = false :=
  Nat.testBit_lt_two_pow (h.trans_le (Nat.pow_le_pow_right (by decide) hb))

theorem bits_putFields {fs : List FieldDef} {top : Nat} (small : ∀ f ∈ fs, val f < 2 ^ (f.hi + 1 - f.lo)) (order : descend top fs = true)
    {f : FieldDef} (mem : f ∈ fs) : bits (fs.foldl (putField val) 0) f.hi f.lo = val f := by
  refine Nat.eq_of_testBit_eq fun b => ?_
  rw [bits, Nat.testBit_mod_two_pow, Nat.testBit_shiftRight, testBit_putFields small order (Nat.zero_mod _), Nat.zero_testBit, Bool.false_or]
  by_cases hb : b < f.hi + 1 - f.lo
  · have low := (descend_lt order f mem).1
    rw [decide_eq_true hb, Bool.true_and, Bool.eq_iff_iff, List.any_eq_true]
    constructor
    · rintro ⟨g, hg, bit⟩
      simp only [Bool.and_eq_true, decide_eq_true_eq] at bit
      obtain ⟨above, bit⟩ := bit
      obtain rfl | under | beyond := descend_apart order f mem g hg
      · rwa [Nat.add_sub_cancel_left] at bit
      · omega
      · rw [testBit_of_le_width (small g hg) (by omega)] at bit
        exact Bool.noConfusion bit
    · exact fun bit => ⟨f, mem, by rw [Nat.add_sub_cancel_left, bit, decide_eq_true (Nat.le_add_right _ _), Bool.and_self]⟩
  · rw [decide_eq_false hb, Bool.false_and, testBit_of_le_width (small f mem) (Nat.le_of_not_lt hb)]

theorem putFields_lt {fs : List FieldDef} {top : Nat} (small : ∀ f ∈ fs, val f < 2 ^ (f.hi + 1 - f.lo)) (order : descend top fs = true) :
    fs.foldl (putField val) 0 < 2 ^ top := by
  refine Nat.lt_pow_two_of_testBit _ fun b hb => ?_
  rw [testBit_putFields small order (Nat.zero_mod _), Nat.zero_testBit, Bool.false_or, List.any_eq_false]
  intro f mem bit
  obtain ⟨low, under⟩ := descend_lt order f mem
  rw [testBit_of_le_width (small f mem) (by omega), Bool.and_false] at bit
  exact Bool.noConfusion bit

end

theorem FTy.write_lt {t : FTy} {locked : Bool} {old v n : Nat} (ho : old < 2 ^ n) (hv : v < 2 ^ n) : t.write locked old v < 2 ^ n := by
  cases t with
  | rw | sh => exact hv
  | ro => exact ho
  | w1c => exact Nat.and_le_left.trans_lt ho
  | wo => exact Nat.two_pow_pos _
  | rwl => cases locked <;> assumption

/-- What a write puts into a field. -/
def fieldWritten (locked : Bool) (old v : Nat) (f : FieldDef) : Nat := f.ty.write locked (bits old f.hi f.lo) (bits v f.hi f.lo)

section

variable {r : RegDef} {locked : Bool} {old v : Nat} (order : descend 32 r.fields = true)

theorem RegDef.write_eq : r.write locked old v = r.fields.foldl (putField (fieldWritten locked old v)) 0 := rfl

theorem fieldWritten_lt : ∀ f ∈ r.fields, fieldWritten locked old v f < 2 ^ (f.hi + 1 - f.lo) :=
  fun _ _ => FTy.write_lt (bits_lt _ _ _) (bits_lt _ _ _)

include order

theorem RegDef.write_lt : r.write locked old v < 2 ^ 32 := putFields_lt fieldWritten_lt order

theorem RegDef.bits_write {f : FieldDef} (mem : f ∈ r.fields) : bits (r.write locked old v) f.hi f.lo = fieldWritten locked old v f :=
  bits_putFields fieldWritten_lt order mem

theorem RegDef.testBit_write_of_reserved {b : Nat} (out : ∀ f ∈ r.fields, b < f.lo ∨ f.hi < b) : (r.write locked old v).testBit b = false := by
  rw [RegDef.write_eq, testBit_putFields fieldWritten_lt order (Nat.zero_mod _), Nat.zero_testBit, Bool.false_or, List.any_eq_false]
  intro f mem bit
  simp only [Bool.and_eq_true, decide_eq_true_eq] at bit
  obtain ⟨above, bit⟩ := bit
  obtain below | beyond := out f mem
  · omega
  · rw [testBit_of_le_width (fieldWritten_lt f mem) (by omega)] at bit
    exact Bool.noConfusion bit

theorem State.rd_writeTyped (s : State) (i k : Nat) : (s.writeTyped r i k v).rd r i k = r.write s.locked (s.rd r i k) v :=
  (s.rd_writeTyped_same v r i k).trans (Nat.mod_eq_of_lt (RegDef.write_lt order))

/-- A field of a register after a write of the register. -/
theorem State.fld_writeTyped (s : State) {f : Fld} {ty : FTy} {reset : Nat} (i k : Nat) (hr : f.reg = r)
    (mem : (⟨f.hi, f.lo, ty, reset⟩ : FieldDef) ∈ r.fields) :
    (s.writeTyped r i k v).fld f i k = ty.write s.locked (s.fld f i k) (bits v f.hi f.lo) := by
  subst hr
  rw [State.fld, State.rd_writeTyped order, RegDef.bits_write order mem]
  rfl

end

end Sys2Proof.Machine

/-! # Bring-up and the firmware of the cores (R398 to R411, R443): the proof of BringUpAndCoreFirmware -/

namespace Sys2Proof.Machine

/-! ## Power waves -/

section

variable {s : State}

theorem testBit_setBits_one (w r j : Nat) (on : Bool) : bit (setBits w r r (b2n on)) j = if j = r then on else bit w j := by
  rw [bit, testBit_setBits _ _ _ _ _ le_rfl]
  by_cases h : j = r
  · subst h
    cases on <;> simp [b2n]
  · rw [if_neg (by omega), if_neg h, bit]

theorem State.powered_setPower {r j : Nat} (hr : r < 36) (hj : j < 36) (on : Bool) :
    (s.setPower r on).powered j = if j = r then on else s.powered j := by
  have low (v : Nat) : (s.setFld BN_PWR_EN0_EN v).fld BN_PWR_EN0_EN = v % 2 ^ 32 :=
    State.fld_setFld_same _ BN_PWR_EN0_EN _ _ _ (by decide) (by decide)
  have high (v : Nat) : (s.setFld BN_PWR_EN1_EN v).fld BN_PWR_EN1_EN = v % 2 ^ 4 :=
    State.fld_setFld_same _ BN_PWR_EN1_EN _ _ _ (by decide) (by decide)
  have low_kept (v : Nat) : (s.setFld BN_PWR_EN1_EN v).fld BN_PWR_EN0_EN = s.fld BN_PWR_EN0_EN :=
    State.fld_setFld_ne _ _ _ _ _ _ _ _ (by decide)
  have high_kept (v : Nat) : (s.setFld BN_PWR_EN0_EN v).fld BN_PWR_EN1_EN = s.fld BN_PWR_EN1_EN :=
    State.fld_setFld_ne _ _ _ _ _ _ _ _ (by decide)
  have under (w m i : Nat) (hi : i < m) : bit (w % 2 ^ m) i = bit w i := by
    rw [bit, Nat.testBit_mod_two_pow, decide_eq_true hi, Bool.true_and, bit]
  rw [State.setPower]
  by_cases lo : r < 32 <;> by_cases lo' : j < 32
  · rw [if_pos lo, State.powered, if_pos lo', low, under _ _ _ lo', testBit_setBits_one, State.powered, if_pos lo']
  · rw [if_pos lo, State.powered, if_neg lo', high_kept, if_neg (by omega), State.powered, if_neg lo']
  · rw [if_neg lo, State.powered, if_pos lo', low_kept, if_neg (by omega), State.powered, if_pos lo']
  · rw [if_neg lo, State.powered, if_neg lo', high, under _ _ _ (by omega), testBit_setBits_one, State.powered, if_neg lo']
    exact if_congr (by omega) rfl rfl

theorem State.setPower_frame (r : Nat) (on : Bool) : ∃ regs, s.setPower r on = { s with regs := regs } := by
  rw [State.setPower]
  split <;> exact ⟨_, rfl⟩

theorem State.regsKept_setPower (r : Nat) (on : Bool) : s.RegsKept (s.setPower r on) [BN_PWR_EN0.addr 0 0, BN_PWR_EN1.addr 0 0] := by
  rw [State.setPower]
  split
  · exact State.regsKept_setFld _ _ _ _ (by simp [BN_PWR_EN0_EN])
  · exact State.regsKept_setFld _ _ _ _ (by simp [BN_PWR_EN1_EN])

theorem sensor_ne_power {r : Nat} (hr : r < 36) : RG_SENSOR.addr r 0 ∉ [BN_PWR_EN0.addr 0 0, BN_PWR_EN1.addr 0 0] := by
  revert r
  decide +kernel

theorem State.settled_setPower {j : Nat} (hj : j < 36) (r : Nat) (on : Bool) : (s.setPower r on).settled j = s.settled j := by
  simp only [State.settled, (State.regsKept_setPower r on).fld (f := RG_SENSOR_SAG) (sensor_ne_power hj),
    (State.regsKept_setPower r on).fld (f := RG_SENSOR_SAG_BAD) (sensor_ne_power hj)]

theorem State.rg_setPower (r : Nat) (on : Bool) (j : Nat) : (s.setPower r on).rg j = s.rg j := by
  obtain ⟨regs, e⟩ := s.setPower_frame r on
  rw [e]
  rfl

theorem State.powered_raise {l : List Nat} (small : ∀ r ∈ l, r < 36) {j : Nat} (hj : j < 36) :
    (l.foldl (fun x r => x.setPower r true) s).powered j = (s.powered j || decide (j ∈ l)) := by
  induction l generalizing s with
  | nil => simp
  | cons r l ih =>
    rw [List.foldl_cons, ih fun q mem => small q (List.mem_cons_of_mem _ mem), State.powered_setPower (small r List.mem_cons_self) hj]
    by_cases h : j = r <;> simp [h]

/-- One region of a wave: its enable, or F3 where it fails. -/
def State.waveRegion (bad : List Nat) (s : State) (r : Nat) : State :=
  let fail := bad.contains r || (s.rg r).absent || !(s.settled r)
  let s := s.setPower r (!fail)
  if fail then s.fenceF3 r else s

theorem State.waveRegion_of_clean {bad : List Nat} {r : Nat} (good : r ∉ bad ∧ (s.rg r).absent = false ∧ s.settled r = true) :
    s.waveRegion bad r = s.setPower r true := by
  obtain ⟨passed, there, settled⟩ := good
  simp [State.waveRegion, passed, there, settled]

theorem State.wave_of_clean {bad l : List Nat} (small : ∀ r ∈ l, r < 36)
    (good : ∀ r ∈ l, r ∉ bad ∧ (s.rg r).absent = false ∧ s.settled r = true) :
    l.foldl (State.waveRegion bad) s = l.foldl (fun x r => x.setPower r true) s := by
  induction l generalizing s with
  | nil => rfl
  | cons r l ih =>
    rw [List.foldl_cons, List.foldl_cons, State.waveRegion_of_clean (good r List.mem_cons_self)]
    refine ih (fun q mem => small q (List.mem_cons_of_mem _ mem)) fun q mem => ?_
    rw [State.rg_setPower, State.settled_setPower (small q (List.mem_cons_of_mem _ mem))]
    exact good q (List.mem_cons_of_mem _ mem)

/-- What follows a wave. -/
def State.afterWave (f1 f2 f3 : List Nat) (eng : Bool) (w st : Nat) (s : State) : State :=
  if w < 3 then s else if st = 1 then s.fuseRoutes else s.bringUpRest f1 f2 f3 eng

theorem State.powerWave_of_clean {bad f1 f2 f3 : List Nat} {eng : Bool} (st : s.fld BN_STATE_STATE = 1 ∨ s.fld BN_STATE_STATE = 2)
    (w : s.bn.wave < 4)
    (good : ∀ r ∈ (List.range 36).filter fun r => r % 4 == s.bn.wave, r ∉ bad ∧ (s.rg r).absent = false ∧ s.settled r = true)
    (before : ∀ r, r < 36 → r % 4 < s.bn.wave → s.powered r = true → (s.rg r).f3 = false → s.settled r = true) :
    s.powerWave bad f1 f2 f3 eng = State.afterWave f1 f2 f3 eng s.bn.wave (s.fld BN_STATE_STATE)
      ((((List.range 36).filter fun r => r % 4 == s.bn.wave).foldl (fun x r => x.setPower r true) s).modBn
        fun b => { b with wave := s.bn.wave + 1 }) := by
  have late : ((List.range 36).filter fun r => decide (r % 4 < s.bn.wave) && s.powered r && !(s.rg r).f3 && !(s.settled r)) = [] := by
    refine List.filter_eq_nil_iff.mpr fun r mem h => ?_
    simp only [Bool.and_eq_true, decide_eq_true_eq, Bool.not_eq_true'] at h
    obtain ⟨⟨⟨earlier, on⟩, there⟩, shaky⟩ := h
    rw [before r (List.mem_range.mp mem) earlier on there] at shaky
    exact Bool.noConfusion shaky
  have wave := State.wave_of_clean (fun r mem => List.mem_range.mp (List.mem_filter.mp mem).1) good
  rw [← wave, State.powerWave, if_pos ⟨st, w⟩, late]
  rfl

end

/-! ## Known-answer runs -/

section

variable {s : State}

theorem State.coreFailed_of_not {n : Nat} (out : s.bnUp = false ∨ s.fld BN_STATE_STATE ≠ 2 ∨ s.level n ≠ 0) : s.coreFailed n = s := by
  refine if_neg fun h => ?_
  obtain ⟨up, starting, whole⟩ := h
  obtain down | other | fenced := out
  · rw [up] at down
    exact Bool.noConfusion down
  · exact other starting
  · exact fenced whole

theorem State.coreFailed_early {n : Nat} (up : s.bnUp = true) (starting : s.fld BN_STATE_STATE = 2) (whole : s.level n = 0)
    (early : s.fld BN_STATE_STEP < 8) : s.coreFailed n = s.markSlot n 1 :=
  (if_pos ⟨up, starting, whole⟩).trans (if_pos early)

theorem State.level_markSlot_same (n lev : Nat) : (s.markSlot n lev).level n = max lev (s.level n) := SMap.get_put_same _ _ _ _

theorem State.level_markSlot_ne {n m : Nat} (lev : Nat) (h : m ≠ n) : (s.markSlot n lev).level m = s.level m := SMap.get_put_ne _ _ _ h

end

/-! ## The load port -/

/-- A map cut to some of its keys holds nothing at the others, and what it held at those. -/
theorem SMap.get_filter {α : Type} (m : SMap α) (p : Nat → Bool) (k : Nat) (d : α) :
    SMap.get (m.filter fun e => p e.1) k d = if p k then m.get k d else d := by
  induction m with
  | nil => exact (ite_self d).symm
  | cons e m ih =>
    obtain ⟨j, v⟩ := e
    by_cases here : j = k
    · subst here
      by_cases hp : p j = true
      · simp [SMap.get, hp]
      · simpa [SMap.get, hp] using ih
    · by_cases hp : p j = true <;> simpa [SMap.get, hp, here] using ih

theorem SMap.get_del_same {α : Type} (m : SMap α) (k : Nat) (d : α) : (m.del k).get k d = d :=
  (m.get_filter (fun j => !(j == k)) k d).trans (if_neg (by simp))

section

variable {s : State}

theorem State.fwMaps_frame (n : Nat) (l : List Nat) : ∃ regs, l.foldl (fun s k => s.wr NI_FW_MAP n k 0) s = { s with regs := regs } := by
  induction l generalizing s with
  | nil => exact ⟨s.regs, rfl⟩
  | cons k l ih =>
    obtain ⟨regs, e⟩ := ih (s := s.wr NI_FW_MAP n k 0)
    exact ⟨regs, e⟩

theorem State.fwMaps_kept (n : Nat) (l : List Nat) :
    s.RegsKept (l.foldl (fun s k => s.wr NI_FW_MAP n k 0) s) (l.map (NI_FW_MAP.addr n)) := by
  induction l generalizing s with
  | nil => exact .refl
  | cons k l ih =>
    refine .trans (fun off d out => State.regs_wr_ne _ _ _ _ _ off d fun e => out ?_) ((ih (s := s.wr NI_FW_MAP n k 0)).mono ?_)
    · simp [e]
    · simp

theorem State.fwMaps_zero {n j : Nat} {l : List Nat} (mem : j ∈ l) :
    (l.foldl (fun s k => s.wr NI_FW_MAP n k 0) s).rd NI_FW_MAP n j = 0 := by
  induction l generalizing s with
  | nil => simp at mem
  | cons k l ih =>
    rw [List.foldl_cons]
    by_cases later : j ∈ l
    · exact ih later
    · have here : j = k := (List.mem_cons.mp mem).resolve_right later
      subst here
      have other : NI_FW_MAP.addr n j ∉ l.map (NI_FW_MAP.addr n) := fun h => by
        obtain ⟨k, mem, e⟩ := List.mem_map.mp h
        simp only [RegDef.addr, NI_FW_MAP] at e
        exact later (by rwa [show k = j by omega] at mem)
      rw [(State.fwMaps_kept n l).rd other, State.rd_wr_same, Nat.zero_mod]

theorem State.fwClear_spec (n : Nat) : (∃ regs fw, s.fwClear n = { s with regs := regs, fw := fw }) ∧
    s.RegsKept (s.fwClear n) (NI_FWLOAD_STATUS.addr n 0 :: (List.range 32).map (NI_FW_MAP.addr n)) ∧
    (s.fwClear n).rd NI_FWLOAD_STATUS n = 0 ∧ (s.fwClear n).fw.get n {} = {} ∧
    ∀ j, j < 32 → (s.fwClear n).rd NI_FW_MAP n j = 0 := by
  obtain ⟨regs, frame⟩ := s.fwMaps_frame n (List.range 32)
  have kept := s.fwMaps_kept n (List.range 32)
  have zero {j : Nat} (hj : j < 32) := s.fwMaps_zero (n := n) (List.mem_range.mpr hj)
  rw [State.fwClear]
  generalize (List.range 32).foldl (fun s k => s.wr NI_FW_MAP n k 0) s = x at frame kept zero ⊢
  refine ⟨⟨(x.wr NI_FWLOAD_STATUS n 0 0).regs, x.fw.del n, by rw [frame]; rfl⟩, ?_, State.rd_wr_same _ _ _ _ _, SMap.get_del_same _ _ _,
    fun j hj => ?_⟩
  · exact .trans (t := x) (kept.mono (List.subset_cons_self _ _)) fun off d out => State.regs_wr_ne _ _ _ _ _ off d fun eq => out (by simp [eq])
  · exact (State.rd_wr_ne _ _ _ _ _ _ _ _ (RegDef.addr_ne rfl (by simp only [NI_FW_MAP, NI_FWLOAD_STATUS]; omega) : NI_FW_MAP.addr n j ≠ NI_FWLOAD_STATUS.addr n 0)).trans
      (zero hj)

/-- What a write of NI_FWLOAD_CFG that its judging allows leaves. -/
def State.fwConfigured (s : State) (n v : Nat) : State :=
  if bit v 31 = true ∧ s.fld NI_FWLOAD_CFG_ENABLE n = 0 then (s.writeTyped NI_FWLOAD_CFG n 0 v).fwClear n
  else s.writeTyped NI_FWLOAD_CFG n 0 v

theorem does_fwCfg {c : Sys2Proof.Instr} {t : State} {n v : Nat} (hn : n < 2304) (hv : v < 2 ^ 32)
    (hc : c ∈ [Instr.fwloadEnable n v, .fwRelease n v]) (h : s.fwCfg n v = t) : Gives c s t := by
  have wf : (okSlot n && okW v) = true := by simp only [okSlot, okW, hn, hv, decide_true, Bool.and_self]
  simp only [List.mem_cons, List.not_mem_nil, or_false] at hc
  obtain rfl | rfl := hc
  · exact Gives.of_run (exec_fwloadEnable n v s) wf h
  · exact Gives.of_run (exec_fwRelease n v s) wf h

theorem fwCfg_refuses_iff {u : State} {n v : Nat} (hv : v < 2 ^ 32) :
    ((bit v 31 = true ∧ u.tnState n ≠ 0) ∨ (bit v 30 = true ∧ u.fld NI_FWLOAD_STATUS_DIGEST_OK n = 0)) ↔
      (v / 2 ^ 31 = 1 ∧ u.tnState n ≠ 0 ∨ v / 2 ^ 30 % 2 = 1 ∧ u.fld NI_FWLOAD_STATUS_DIGEST_OK n = 0) := by
  rw [bit_top hv, bit_eq, decide_eq_true_iff, decide_eq_true_iff]

theorem State.fwCfg_served (n v : Nat) : ∃ net bn, s.serveWrite (NI_FWLOAD_CFG.addr n 0) v = { s with net := net, bn := bn } :=
  s.serveWrite_frame _ _

theorem State.fwCfg_of_refused {n v : Nat} (hv : v < 2 ^ 32) (alive : s.regAlive (NI_FWLOAD_CFG.addr n 0) = true)
    (h : v / 2 ^ 31 = 1 ∧ s.tnState n ≠ 0 ∨ v / 2 ^ 30 % 2 = 1 ∧ s.fld NI_FWLOAD_STATUS_DIGEST_OK n = 0) :
    s.fwCfg n v = s.serveWrite (NI_FWLOAD_CFG.addr n 0) v := by
  obtain ⟨net, bn, e⟩ := s.fwCfg_served n v
  rw [State.fwCfg, State.regWrite, if_pos alive, e]
  exact if_pos ((fwCfg_refuses_iff hv).mpr h)

theorem State.fwCfg_of_allowed {n v : Nat} (hv : v < 2 ^ 32) (alive : s.regAlive (NI_FWLOAD_CFG.addr n 0) = true)
    (free : v / 2 ^ 31 = 1 → s.tnState n = 0) (digest : v / 2 ^ 30 % 2 = 1 → s.fld NI_FWLOAD_STATUS_DIGEST_OK n = 1) :
    ∃ net bn, s.fwCfg n v = { s with net := net, bn := bn }.fwConfigured n v := by
  obtain ⟨net, bn, e⟩ := s.fwCfg_served n v
  refine ⟨net, bn, ?_⟩
  rw [State.fwCfg, State.regWrite, if_pos alive, e]
  refine if_neg fun h => ?_
  obtain ⟨enable, taken⟩ | ⟨release, bad⟩ := (fwCfg_refuses_iff hv).mp h
  · exact taken (free enable)
  · exact Nat.one_ne_zero ((digest release).symm.trans bad)

theorem State.fwConfigured_spec {n v : Nat} (hv : v < 2 ^ 32) : ∃ x : State, s.fwConfigured n v = x ∧
    (∃ regs fw, x = { s with regs := regs, fw := fw }) ∧
    x.fld NI_FWLOAD_CFG_ENABLE n = v / 2 ^ 31 ∧ x.fld NI_FWLOAD_CFG_RELEASE n = v / 2 ^ 30 % 2 ∧
    (v / 2 ^ 31 = 1 → s.fld NI_FWLOAD_CFG_ENABLE n = 0 → x.fld NI_FWLOAD_STATUS_COUNT n = 0 ∧ x.fld NI_FWLOAD_STATUS_DIGEST_OK n = 0 ∧
      x.fw.get n {} = {} ∧ ∀ j, j < 32 → x.fld NI_FW_MAP_MAP n j = 0) := by
  refine ⟨_, rfl, ?_⟩
  have written : (s.writeTyped NI_FWLOAD_CFG n 0 v).fld NI_FWLOAD_CFG_ENABLE n = v / 2 ^ 31 ∧
      (s.writeTyped NI_FWLOAD_CFG n 0 v).fld NI_FWLOAD_CFG_RELEASE n = v / 2 ^ 30 % 2 := by
    have order : descend 32 NI_FWLOAD_CFG.fields = true := by decide
    refine ⟨(State.fld_writeTyped order s (ty := .rw) (reset := 0) n 0 rfl (by decide)).trans ?_,
      (State.fld_writeTyped order s (ty := .rw) (reset := 0) n 0 rfl (by decide)).trans ?_⟩ <;>
      simp only [FTy.write, bits, NI_FWLOAD_CFG_ENABLE, NI_FWLOAD_CFG_RELEASE, Nat.shiftRight_eq_div_pow] <;> omega
  have frame : s.writeTyped NI_FWLOAD_CFG n 0 v = { s with regs := (s.writeTyped NI_FWLOAD_CFG n 0 v).regs } := rfl
  rw [State.fwConfigured]
  generalize s.writeTyped NI_FWLOAD_CFG n 0 v = y at written frame ⊢
  obtain ⟨enable, release⟩ := written
  by_cases start : bit v 31 = true ∧ s.fld NI_FWLOAD_CFG_ENABLE n = 0
  · rw [if_pos start]
    obtain ⟨⟨regs, fw, e⟩, kept, status, work, maps⟩ := y.fwClear_spec n
    have out : NI_FWLOAD_CFG.addr n 0 ∉ NI_FWLOAD_STATUS.addr n 0 :: (List.range 32).map (NI_FW_MAP.addr n) := fun h => by
      simp only [List.mem_cons, List.mem_map, List.mem_range, RegDef.addr, NI_FWLOAD_CFG, NI_FWLOAD_STATUS, NI_FW_MAP] at h
      obtain h | ⟨k, hk, h⟩ := h <;> omega
    have zero (f : Fld) (k : Nat) (h : (y.fwClear n).rd f.reg n k = 0) : (y.fwClear n).fld f n k = 0 := by
      rw [State.fld, h, bits, Nat.zero_shiftRight, Nat.zero_mod]
    exact ⟨⟨regs, fw, by rw [e, frame]⟩, (kept.fld out).trans enable, (kept.fld out).trans release, fun _ _ =>
      ⟨zero NI_FWLOAD_STATUS_COUNT 0 status, zero NI_FWLOAD_STATUS_DIGEST_OK 0 status, work, fun j hj => zero NI_FW_MAP_MAP j (maps j hj)⟩⟩
  · rw [if_neg start]
    refine ⟨⟨y.regs, s.fw, frame⟩, enable, release, fun on off => absurd ⟨?_, off⟩ start⟩
    rw [bit_top hv, decide_eq_true on]

/-- The chunk that a load port has gathered: its header, its bytes and its number. -/
abbrev State.chunkHead (s : State) (n : Nat) : Nat := (s.fw.get n {}).flits.headD 0
abbrev State.chunkData (s : State) (n : Nat) : List Nat := (Machine.slice (s.fw.get n {}).flits 1 16).flatMap (toBytes 256)
abbrev State.chunkNo (s : State) (n : Nat) : Nat := bits (s.chunkHead n) 15 0

/-- The chunk is whole and fits what came before it (R408). -/
abbrev State.chunkFits (s : State) (n : Nat) : Prop :=
  crc32c (s.chunkData n) = bits (s.chunkHead n) 63 32 ∧ s.chunkNo n < bits (s.chunkHead n) 31 16 ∧ bits (s.chunkHead n) 31 16 ≤ 1024 ∧
    ((s.fw.get n {}).any = true → bits (s.chunkHead n) 31 16 = (s.fw.get n {}).total ∧ bits (s.chunkHead n) 383 128 = (s.fw.get n {}).digest) ∧
    4096 * (s.chunkNo n + 1) ≤ (s.pairRange n (s.fld NI_FWLOAD_CFG_PAIR n)).2

/-- The load port once it has taken a chunk's flits, and kept the header of one that fits. -/
def State.chunkTaken (s : State) (n : Nat) : State :=
  { s with fw := s.fw.put n { s.fw.get n {} with flits := (s.fw.get n {}).flits.drop 17 } }

def State.chunkKept (s : State) (n : Nat) : State :=
  { s with fw := s.fw.put n { s.fw.get n {} with
      flits := (s.fw.get n {}).flits.drop 17, any := true, total := bits (s.chunkHead n) 31 16, digest := bits (s.chunkHead n) 383 128 } }

/-- A new chunk is written, marked in the map and counted. -/
def State.chunkWritten (s : State) (n : Nat) : State :=
  ((s.chunkKept n).spadWrite n ((s.pairRange n (s.fld NI_FWLOAD_CFG_PAIR n)).1 + 4096 * s.chunkNo n) (s.chunkData n)).setFld
    NI_FW_MAP_MAP (s.fld NI_FW_MAP_MAP n (s.chunkNo n / 32) + 2 ^ (s.chunkNo n % 32)) n (s.chunkNo n / 32)

def State.chunkDone (s : State) (n total : Nat) : State :=
  if s.fld NI_FWLOAD_STATUS_COUNT n = total then s.setFld NI_FWLOAD_STATUS_COMPLETE 1 n else s

def State.chunkCounted (s : State) (n total : Nat) : State := (s.addFld NI_FWLOAD_STATUS_COUNT 1 n).chunkDone n total

variable {n : Nat}

theorem State.fwChunk_of_misfit (ready : ¬ (s.fld NI_FWLOAD_CFG_ENABLE n = 0 ∨ (s.fw.get n {}).flits.length < 17)) (h : ¬ s.chunkFits n) :
    s.fwChunk n = (s.chunkTaken n).setFld NI_FWLOAD_STATUS_CRC_BAD 1 n :=
  (if_neg ready).trans (if_pos (congrArg (!·) (decide_eq_false h)))

theorem State.fwChunk_of_fit (ready : ¬ (s.fld NI_FWLOAD_CFG_ENABLE n = 0 ∨ (s.fw.get n {}).flits.length < 17)) (h : s.chunkFits n) :
    s.fwChunk n = if bit (s.fld NI_FW_MAP_MAP n (s.chunkNo n / 32)) (s.chunkNo n % 32) then s.chunkKept n
      else (s.chunkWritten n).chunkCounted n (bits (s.chunkHead n) 31 16) :=
  (if_neg ready).trans (if_neg (ne_true_of_eq_false (congrArg (!·) (decide_eq_true h))))

theorem length_flatMap_toBytes (k : Nat) (l : List Nat) : (l.flatMap (toBytes k)).length = k * l.length := by
  induction l with
  | nil => rfl
  | cons a l ih => rw [List.flatMap_cons, List.length_append, ih, length_toBytes, List.length_cons, Nat.mul_succ, Nat.add_comm]

theorem State.length_chunkData (enough : 17 ≤ (s.fw.get n {}).flits.length) : (s.chunkData n).length = 4096 := by
  have sixteen : (Machine.slice (s.fw.get n {}).flits 1 16).length = 16 := by
    rw [Machine.slice, List.length_take, List.length_drop]
    omega
  rw [length_flatMap_toBytes, sixteen]

theorem State.chunkData_lt : ∀ b ∈ s.chunkData n, b < 256 := fun b mem => by
  obtain ⟨w, _, mem⟩ := List.mem_flatMap.mp mem
  exact toBytes_lt _ _ _ mem

theorem State.chunkCounted_spec (total : Nat) : ∃ x : State, s.chunkCounted n total = x ∧ (∃ regs, x = { s with regs := regs }) ∧
    x.fld NI_FWLOAD_STATUS_COUNT n = (s.fld NI_FWLOAD_STATUS_COUNT n + 1) % 2 ^ 11 ∧
    x.fld NI_FWLOAD_STATUS_COMPLETE n = (if x.fld NI_FWLOAD_STATUS_COUNT n = total then 1 else s.fld NI_FWLOAD_STATUS_COMPLETE n) ∧
    s.RegsKept x [NI_FWLOAD_STATUS.addr n 0] := by
  refine ⟨_, rfl, ?_⟩
  have count : (s.addFld NI_FWLOAD_STATUS_COUNT 1 n).fld NI_FWLOAD_STATUS_COUNT n = (s.fld NI_FWLOAD_STATUS_COUNT n + 1) % 2 ^ 11 :=
    State.fld_addFld_same _ NI_FWLOAD_STATUS_COUNT _ _ _ (by decide) (by decide)
  have complete : (s.addFld NI_FWLOAD_STATUS_COUNT 1 n).fld NI_FWLOAD_STATUS_COMPLETE n = s.fld NI_FWLOAD_STATUS_COMPLETE n :=
    State.fld_setFld_apart _ _ _ _ _ _ rfl (by decide) (by decide) (by decide)
  have frame : ∃ regs, s.addFld NI_FWLOAD_STATUS_COUNT 1 n = { s with regs := regs } := ⟨_, rfl⟩
  have kept : s.RegsKept (s.addFld NI_FWLOAD_STATUS_COUNT 1 n) [NI_FWLOAD_STATUS.addr n 0] :=
    State.regsKept_addFld _ _ _ _ (List.mem_singleton.mpr rfl)
  rw [State.chunkCounted]
  generalize s.addFld NI_FWLOAD_STATUS_COUNT 1 n = y at count complete frame kept ⊢
  obtain ⟨regs, frame⟩ := frame
  by_cases all : y.fld NI_FWLOAD_STATUS_COUNT n = total
  · have still : (y.setFld NI_FWLOAD_STATUS_COMPLETE 1 n).fld NI_FWLOAD_STATUS_COUNT n = y.fld NI_FWLOAD_STATUS_COUNT n :=
      State.fld_setFld_apart _ _ _ _ _ _ rfl (by decide) (by decide) (by decide)
    rw [State.chunkDone, if_pos all, still, if_pos all]
    exact ⟨⟨_, by rw [frame]; rfl⟩, count, State.fld_setFld_same _ NI_FWLOAD_STATUS_COMPLETE _ _ _ (by decide) (by decide),
      kept.trans (State.regsKept_setFld _ _ _ _ (List.mem_singleton.mpr rfl))⟩
  · rw [State.chunkDone, if_neg all, if_neg all]
    exact ⟨⟨_, frame⟩, count, complete, kept⟩

/-- Setting a clear bit of a word keeps it a word. -/
theorem add_two_pow_lt {m n i : Nat} (hm : m < 2 ^ n) (hi : i < n) (clear : m / 2 ^ i % 2 = 0) : m + 2 ^ i < 2 ^ n := by
  obtain ⟨k, rfl⟩ := Nat.exists_eq_add_of_lt hi
  rw [Nat.add_assoc, Nat.pow_add] at hm ⊢
  have high := Nat.div_lt_of_lt_mul hm
  have even : 2 ^ (k + 1) = 2 * 2 ^ k := Nat.pow_succ'
  rw [Nat.mul_comm]
  refine Nat.lt_mul_of_div_lt ?_ (Nat.two_pow_pos i)
  rw [Nat.add_div_right _ (Nat.two_pow_pos i)]
  omega

theorem fwMap_ne_status (k : Nat) : NI_FW_MAP.addr n k ≠ NI_FWLOAD_STATUS.addr n 0 :=
  RegDef.addr_ne rfl (by simp only [NI_FW_MAP, NI_FWLOAD_STATUS]; omega)

theorem State.chunkWritten_spec (canonical : s.spad.wf = true) (enough : 17 ≤ (s.fw.get n {}).flits.length)
    (new : s.fld NI_FW_MAP_MAP n (s.chunkNo n / 32) / 2 ^ (s.chunkNo n % 32) % 2 = 0) : ∃ x : State, s.chunkWritten n = x ∧
    (∀ i, i < 4096 → x.spad.read (spadKey n ((s.pairRange n (s.fld NI_FWLOAD_CFG_PAIR n)).1 + 4096 * s.chunkNo n + i)) = (s.chunkData n).getD i 0) ∧
    (∀ a, a < spadKey n ((s.pairRange n (s.fld NI_FWLOAD_CFG_PAIR n)).1 + 4096 * s.chunkNo n) ∨
        spadKey n ((s.pairRange n (s.fld NI_FWLOAD_CFG_PAIR n)).1 + 4096 * s.chunkNo n) + 4096 ≤ a → x.spad.read a = s.spad.read a) ∧
    x.fld NI_FW_MAP_MAP n (s.chunkNo n / 32) = s.fld NI_FW_MAP_MAP n (s.chunkNo n / 32) + 2 ^ (s.chunkNo n % 32) ∧
    s.RegsKept x [NI_FW_MAP.addr n (s.chunkNo n / 32)] := by
  refine ⟨_, rfl, fun i hi => ?_, fun a out => ?_, ?_, ?_⟩
  · have long := State.length_chunkData enough
    refine (congrArg (Memory.read _) (Nat.add_assoc _ _ i).symm).trans ((Memory.read_writeN_same _ _ _ i canonical (by rw [long]; exact hi)).trans ?_)
    exact Nat.mod_eq_of_lt (by
      rw [List.getD_eq_getElem _ _ (by rw [long]; exact hi)]
      exact State.chunkData_lt _ (List.getElem_mem _))
  · exact Memory.read_writeN_ne _ _ _ _ (by rw [State.length_chunkData enough]; exact out)
  · refine (State.fld_setFld_same _ NI_FW_MAP_MAP _ _ _ (by decide) (by decide)).trans (Nat.mod_eq_of_lt ?_)
    exact add_two_pow_lt (State.fld_lt s NI_FW_MAP_MAP _ _) (Nat.mod_lt _ (by decide)) new
  · exact State.RegsKept.trans (t := (s.chunkKept n).spadWrite n ((s.pairRange n (s.fld NI_FWLOAD_CFG_PAIR n)).1 + 4096 * s.chunkNo n)
      (s.chunkData n)) (fun _ _ _ => rfl) (State.regsKept_setFld _ _ _ _ (List.mem_singleton.mpr rfl))

end

/-- Settles O50: the mirror of NI_FWLOAD_CFG is Stolrel's, so a write judges by the registers as they stood. -/
theorem bringUpAndCoreFirmware : Obligations.BringUpAndCoreFirmware := by
  unfold Obligations.BringUpAndCoreFirmware
  intro s n v sig bad f1 f2 f3 eng hn hv hsig hbad hf1 hf2 hf3 canonical w st mine y clean f h data c total dig q map fits open_ u
  have slot : okSlot n = true := decide_eq_true hn
  have wave {t : State} (h : s.powerWave bad f1 f2 f3 eng = t) : Gives (.powerWave bad f1 f2 f3 eng) s t := by
    refine Gives.of_run (exec_powerWave bad f1 f2 f3 eng s) ?_ h
    simp only [Instr.wf, Bool.and_eq_true, List.all_eq_true, okRgn, okSlot, decide_eq_true_eq]
    exact ⟨⟨⟨hbad, hf1⟩, hf2⟩, hf3⟩
  have chunk {t : State} (h : (if s.niUp n = true ∧ s.frozenAt n = false then s.fwChunk n else s) = t) : Gives (.fwChunk n) s t :=
    Gives.of_run (exec_fwChunk n s) slot h
  have digest {t : State} (h : (if s.niUp n = true ∧ s.frozenAt n = false then s.fwDigest n else s) = t) : Gives (.imageDigestDone n) s t :=
    Gives.of_run (exec_imageDigestDone n s) slot h
  refine ⟨fun out => wave (if_neg out), fun _ _ => wave rfl, fun starting good => ?_, fun r => ?_, fun k mem => ⟨fun same right => ?_, fun fail => ?_⟩,
    fun alive k mem => ⟨fun refused => does_fwCfg hn hv mem (State.fwCfg_of_refused hv alive refused), fun free ok => ?_⟩, fun idle => ?_,
    fun up enabled enough => ?_, fun done => ?_, fun up fresh good => ?_, fun up fresh bad => ?_⟩
  · obtain ⟨whole, before⟩ := good
    have clean_ (h : w < 4) := State.powerWave_of_clean (f1 := f1) (f2 := f2) (f3 := f3) (eng := eng) starting h whole before
    refine ⟨fun early => wave ((clean_ (by omega)).trans (if_pos early)), fun last two => ?_, fun last one => ?_, fun r hr => ?_⟩
    · exact wave ((clean_ (by omega)).trans ((if_neg (by omega)).trans (if_neg fun one => absurd (one.symm.trans two) (by decide))))
    · exact wave ((clean_ (by omega)).trans ((if_neg (by omega)).trans (if_pos one)))
    · refine (State.powered_raise (fun q hq => List.mem_range.mp (List.mem_filter.mp hq).1) hr).trans ?_
      simp [hr, Bool.beq_eq_decide_eq]
  · simp [State.settled]
  · subst same
    exact Gives.of_run (exec_coreBistDone n sig s) (by simp only [Instr.wf, okSlot, okD, hn, hsig, decide_true, Bool.and_self]) (if_pos right)
  · have failed {t : State} (h : s.coreFailed n = t) : Gives k s t := by
      simp only [List.mem_cons, List.not_mem_nil, or_false] at mem
      obtain rfl | rfl := mem
      · have wrong : sig ≠ s.coreSig := fail.resolve_left Instr.noConfusion
        exact Gives.of_run (exec_coreBistDone n sig s) (by simp only [Instr.wf, okSlot, okD, hn, hsig, decide_true, Bool.and_self])
          ((if_neg wrong).trans h)
      · exact Gives.of_run (exec_coreBistTimeout n s) slot h
    refine ⟨failed rfl, fun out => failed (State.coreFailed_of_not out), fun up starting whole early => ?_⟩
    refine (failed (State.coreFailed_early up starting whole early)).does ⟨(State.level_markSlot_same n 1).trans ?_, rfl,
      fun m other => State.level_markSlot_ne 1 other⟩
    rw [whole]
    rfl
  · obtain ⟨net, bn, e⟩ := State.fwCfg_of_allowed hv alive free ok
    obtain ⟨x, ex, ⟨regs, fw, frame⟩, enable, release, cleared⟩ := State.fwConfigured_spec (s := { s with net := net, bn := bn }) (n := n) hv
    exact (does_fwCfg hn hv mem (e.trans ex)).does ⟨enable, release, by rw [frame]; rfl, cleared⟩
  · obtain shut | off | few := idle
    · exact chunk (if_neg shut)
    · exact chunk (ite_eq_right_iff.mpr fun _ => if_pos (.inl off))
    · exact chunk (ite_eq_right_iff.mpr fun _ => if_pos (.inr few))
  · have ready : ¬ (s.fld NI_FWLOAD_CFG_ENABLE n = 0 ∨ f.flits.length < 17) := by omega
    have taken {t : State} (h : s.fwChunk n = t) : Gives (.fwChunk n) s t := chunk ((if_pos up).trans h)
    refine ⟨fun bad => ?_, fun good old => ?_, fun good new => ?_⟩
    · refine (taken (State.fwChunk_of_misfit ready bad)).does ⟨?_, rfl, ?_, ?_⟩
      · exact State.fld_setFld_same (s.chunkTaken n) NI_FWLOAD_STATUS_CRC_BAD _ _ _ (by decide) (by decide)
      · exact congrArg FwLoad.flits (SMap.get_put_same s.fw n _ _)
      · exact State.RegsKept.trans (t := s.chunkTaken n) (fun _ _ _ => rfl) (State.regsKept_setFld _ _ _ _ (List.mem_singleton.mpr rfl))
    · refine (taken ((State.fwChunk_of_fit ready good).trans (if_pos ?_))).does ⟨rfl, rfl⟩
      rw [bit_eq]
      exact decide_eq_true old
    · have free : bit map (c % 32) = false := by
        rw [bit_eq, decide_eq_false (by omega)]
      obtain ⟨y, ey, written, others, marked, keptMap⟩ := State.chunkWritten_spec canonical enough new
      obtain ⟨x, ex, ⟨regs, frame⟩, count, complete, kept⟩ := y.chunkCounted_spec (n := n) total
      refine (taken ((State.fwChunk_of_fit ready good).trans ((if_neg (ne_true_of_eq_false free)).trans (by rw [ey, ex])))).does ?_
      have status : NI_FWLOAD_STATUS.addr n 0 ∉ [NI_FW_MAP.addr n (s.chunkNo n / 32)] :=
        List.mem_singleton.not.mpr (fwMap_ne_status _).symm
      have memory : x.spad = y.spad := by rw [frame]
      refine ⟨fun i hi => (congrArg (Memory.read · _) memory).trans (written i hi), fun a out => (congrArg (Memory.read · a) memory).trans (others a out),
        (kept.fld (List.mem_singleton.not.mpr (fwMap_ne_status _))).trans marked, count.trans ?_, complete.trans ?_, ?_⟩
      · rw [keptMap.fld (f := NI_FWLOAD_STATUS_COUNT) status]
        rfl
      · rw [keptMap.fld (f := NI_FWLOAD_STATUS_COMPLETE) status]
        rfl
      · exact (keptMap.mono fun _ mem => List.mem_cons_of_mem _ mem).trans (kept.mono (by simp))
  · exact digest (done.elim (fun shut => if_neg shut) fun judged => (ite_eq_right_iff.mpr fun _ => if_pos judged))
  · exact digest ((if_pos up).trans ((if_neg fresh).trans (if_pos good)))
  · exact digest ((if_pos up).trans ((if_neg fresh).trans (if_neg bad)))

end Sys2Proof.Machine

/-! # Regions (R40 to R50, R61): the proof of RegionsKeepTimeAndRun -/

namespace Sys2Proof.Machine

section

variable {s : State} {n : Nat}

theorem State.modRg_congr {f g : Region → Region} (h : f (s.rg n) = g (s.rg n)) : s.modRg n f = s.modRg n g := congrArg (s.setRg n) h

/-! ## The clock monitor -/

theorem Region.updHold_of_absent {r : Region} : { r with absent := true }.updHold = { r with absent := true, holdReq := true } :=
  if_pos (.inr rfl)

theorem Region.updHold_of_there {r : Region} (h : r.absent = false) :
    r.updHold = { r with holdReq := if 3 < r.lag then true else if r.lag = 0 then false else r.holdReq } := by
  by_cases far : 3 < r.lag
  · rw [Region.updHold, if_pos (.inl far), if_pos far]
  · have near : ¬ (3 < r.lag ∨ r.absent = true) := by simp [far, h]
    rw [Region.updHold, if_neg near, if_neg far]
    split <;> rfl

/-- A region as its clock is back, before it takes S. -/
def Region.back (r : Region) : Region := { r with absent := false, resync := true }

theorem gives_clockAbsentClear {t : State} (hn : n < 36) (gone : (s.rg n).absent = true) (whole : (s.rg n).f3 = false)
    (on : s.powered n = true) (h : (s.modRg n fun r => r.back.accept true s.S) = t) :
    Gives (.clockAbsentClear n) s (t.unitEvent .rg n 0 0) := by
  subst h
  have accepted : (s.modRg n Region.back).acceptS n = s.modRg n fun r => r.back.accept true s.S := by
    rw [State.acceptS_eq, State.modRg_modRg]
    exact State.modRg_congr (congrArg (Region.accept _ · s.S) on)
  have runs : (s.rg n).back.Runs true := ⟨rfl, whole, rfl⟩
  have stays : ((s.modRg n fun r => r.back.accept true s.S).rg n).f3 = false := by
    rw [State.rg_modRg_same, Region.accept, if_pos runs]
    split
    · obtain ⟨b, e⟩ := Region.updHold_eq { (s.rg n).back with L := s.S, s := s.S, slot := 16, stalled := false, reload := false }
      rw [e]
      exact whole
    · obtain ⟨b, e⟩ := Region.updHold_eq { (s.rg n).back with s := s.S }
      rw [e]
      exact whole
  refine Gives.of_run (exec_clockAbsentClear n s) (decide_eq_true hn) ((if_pos gone).trans ?_)
  change (if (((s.modRg n Region.back).acceptS n).rg n).f3 = true then (s.modRg n Region.back).acceptS n
    else ((s.modRg n Region.back).acceptS n).unitEvent .rg n 0 0) = _
  rw [accepted]
  exact if_neg (ne_true_of_eq_false stays)

/-! ## The dip sensor -/

/-- What a reading of the dip sensor does to a region. -/
def Region.dipped (d sag : Nat) (r : Region) : Region := { r with demand := d, held := max r.held d, sag := sag }

theorem State.dipRead_eq (sag : Nat) : s.dipRead n sag =
    if (s.rg n).demand < s.dipDemand n sag then (s.modRg n (Region.dipped (s.dipDemand n sag) sag)).addFld RG_DIP_EVENTS_EVENTS 1 n
    else s.modRg n (Region.dipped (s.dipDemand n sag) sag) := rfl

theorem State.dipRead_rg (sag : Nat) : ((s.dipRead n sag).rg n).demand = s.dipDemand n sag ∧
    ((s.dipRead n sag).rg n).held = max (s.rg n).held (s.dipDemand n sag) := by
  have region : (s.dipRead n sag).rg n = (s.rg n).dipped (s.dipDemand n sag) sag := by
    rw [State.dipRead_eq]
    split <;> exact State.rg_modRg_same s n _
  rw [region]
  exact ⟨rfl, rfl⟩

theorem State.dipDemand_of_worst {sag : Nat} (good : s.fld RG_SENSOR_SAG_BAD n = 0) (on : s.fld RG_DIP_THR_THR4 n ≠ 0)
    (met : s.fld RG_DIP_THR_THR4 n ≤ sag) : s.dipDemand n sag = 4 := by
  simp [State.dipDemand, good, on, met]

theorem State.dipDemand_of_none {sag : Nat} (good : s.fld RG_SENSOR_SAG_BAD n = 0) (one : sag < s.fld RG_DIP_THR_THR1 n)
    (two : sag < s.fld RG_DIP_THR_THR2 n) (three : sag < s.fld RG_DIP_THR_THR3 n) (four : sag < s.fld RG_DIP_THR_THR4 n) :
    s.dipDemand n sag = 0 := by
  simp [State.dipDemand, good, Nat.not_le.mpr one, Nat.not_le.mpr two, Nat.not_le.mpr three, Nat.not_le.mpr four]

theorem State.dipRead_spec (sag : Nat) :
    (s.dipRead n sag).fld RG_DIP_EVENTS_EVENTS n =
      (s.fld RG_DIP_EVENTS_EVENTS n + if (s.rg n).demand < s.dipDemand n sag then 1 else 0) % 2 ^ 32 ∧
    s.RegsKept (s.dipRead n sag) [RG_DIP_EVENTS.addr n 0] ∧ ∃ regs rgn, s.dipRead n sag = { s with regs := regs, rgn := rgn } := by
  rw [State.dipRead_eq]
  by_cases up : (s.rg n).demand < s.dipDemand n sag
  · rw [if_pos up, if_pos up]
    exact ⟨State.fld_addFld_same (s.modRg n _) RG_DIP_EVENTS_EVENTS _ _ _ (by decide) (by decide),
      State.RegsKept.trans (t := s.modRg n _) .refl (State.regsKept_addFld _ _ _ _ (List.mem_singleton.mpr rfl)), _, _, rfl⟩
  · rw [if_neg up, if_neg up]
    exact ⟨(Nat.mod_eq_of_lt (State.fld_lt s RG_DIP_EVENTS_EVENTS n 0)).symm, .refl, _, _, rfl⟩

theorem does_dipDemand {sag : Nat} {p : State → Prop} (hn : n < 36) (hsag : sag < 256) (h : p (s.after (s.dipRead n sag))) :
    Does (.dipDemand n sag) s p :=
  Does.of_run (exec_dipDemand n sag s) (by simp only [Instr.wf, okRgn, hn, hsag, decide_true, Bool.and_self]) h

/-! ## Slots and stalls -/

/-- A region that nothing keeps from running. -/
abbrev State.regionRuns (s : State) (n : Nat) : Prop :=
  (s.rg n).frozen = false ∧ (s.rg n).f3 = false ∧ (s.rg n).absent = false ∧ s.powered n = true

/-- The routers of a region that stall its slot. -/
def State.stallers (s : State) (n : Nat) : List Nat := ((List.range 64).map (regionSlot n)).filter fun t => s.stalls t (s.rg n).L (s.rg n).slot

theorem State.stallers_of_none (h : ∀ k < 64, s.stalls (regionSlot n k) (s.rg n).L (s.rg n).slot = false) : s.stallers n = [] := by
  refine List.filter_eq_nil_iff.mpr fun t mem => ?_
  obtain ⟨k, hk, rfl⟩ := List.mem_map.mp mem
  rw [h k (List.mem_range.mp hk)]
  exact Bool.false_ne_true

theorem State.stallers_of_some (h : ∃ k < 64, s.stalls (regionSlot n k) (s.rg n).L (s.rg n).slot = true) : s.stallers n ≠ [] := by
  obtain ⟨k, hk, stalls⟩ := h
  exact List.ne_nil_of_mem (List.mem_filter.mpr ⟨List.mem_map.mpr ⟨k, List.mem_range.mpr hk, rfl⟩, stalls⟩)

theorem State.stalled_after (x : State) (b : Bool) : ((s.after (x.modRg n fun r => { r with stalled := b })).rg n).stalled = b :=
  congrArg Region.stalled (SMap.get_put_same _ _ _ _)

theorem gives_slotExecute {ue : List Nat} {t : State} (hn : n < 36) (hue : ∀ t ∈ ue, t < 18432) (runs : s.regionRuns n)
    (begun : 0 < (s.rg n).slot) (going : (s.rg n).slot < 16) (goes : (s.rg n).stalled = false)
    (h : (if (s.stallers n).isEmpty then
        (((s.skipPulses n).runSlot n (s.rg n).L (s.rg n).slot ue).modRg n (fun r => { r with slot := r.slot + 1 })).freezeCheck n
      else ((s.stallers n).foldl (fun x t => x.noteStall t (s.rg n).L (s.rg n).slot) s).modRg n (fun r => { r with stalled := true })) = t) :
    Gives (.slotExecute n ue) s t := by
  refine Gives.of_run (exec_slotExecute n ue s) ?_ ((if_pos ⟨going, goes, runs⟩).trans ?_)
  · simp only [Instr.wf, okRgn, Bool.and_eq_true, List.all_eq_true, decide_eq_true_eq]
    exact ⟨hn, hue⟩
  · simp only [if_neg (Nat.ne_of_gt begun)]
    exact h

theorem gives_stallResume {cycles : Nat} {t : State} (hn : n < 36) (hc : cycles < 2 ^ 32) (runs : s.regionRuns n) (stalled : (s.rg n).stalled = true)
    (begun : 0 < (s.rg n).slot)
    (h : (if (((List.range 64).map (regionSlot n)).any fun t => s.stalls t (s.rg n).L (s.rg n).slot) then
        (((List.range 64).map (regionSlot n)).filter (fun t => (s.rt t).cur.isNone && (s.rt t).cur.isSome)).foldl
          (fun x t => x.noteStall t (s.rg n).L (s.rg n).slot) s
      else
        let u := ((List.range 64).map (regionSlot n)).foldl (fun s' t =>
          if (s'.rt t).stallSeen then
            (s'.actingAt t (s.rg n).L (s.rg n).slot).foldl (fun s x => if x.1.injects then s.log .ni t 0x0D 15 0 x.1.stream else s) s'
          else s') s
        let u := ((List.range 64).map (regionSlot n)).foldl (fun s t => if (s.rt t).cur.isSome then s.waitClear t 6 else s) u
        ((u.skipPulses n).addFld RG_STALL_CNT_STALLS cycles n).modRg n (fun r => { r with stalled := false })) = t) :
    Gives (.stallResume n cycles) s t := by
  refine Gives.of_run (exec_stallResume n cycles s) ?_ ((if_pos ⟨stalled, runs⟩).trans ?_)
  · simp only [Instr.wf, okRgn, okW, hn, hc, decide_true, Bool.and_self]
  · simp only [if_neg (Nat.ne_of_gt begun)]
    exact h

end

/-- Settles O4: clauses of a region's rows, each from the row's own condition. -/
theorem regionsKeepTimeAndRun : Obligations.RegionsKeepTimeAndRun := by
  unfold Obligations.RegionsKeepTimeAndRun
  refine ⟨fun s n sag hn hsag => ⟨?_, fun there => ?_, fun gone whole on => ⟨fun going => ?_, fun load => ?_⟩, fun gone => ?_,
    fun good on met => ?_, fun good one two three four => ?_, ?_, ?_⟩, fun s n cycles ue hn hc hue thawed whole there on => ?_⟩
  · exact (Gives.of_run (exec_clockAbsent n s) (decide_eq_true hn) rfl).congr (State.modRg_congr Region.updHold_of_absent)
  · exact Gives.of_run (exec_clockAbsentClear n s) (decide_eq_true hn) (if_neg (by rw [there]; exact Bool.false_ne_true))
  · refine gives_clockAbsentClear hn gone whole on (State.modRg_congr ?_)
    exact (Region.accept_of_running (r := (s.rg n).back) ⟨rfl, whole, rfl⟩ going).trans (Region.updHold_of_there rfl)
  · refine gives_clockAbsentClear hn gone whole on (State.modRg_congr ?_)
    refine (Region.accept_of_reload (r := (s.rg n).back) ⟨rfl, whole, rfl⟩ load).trans ((Region.updHold_of_there rfl).trans ?_)
    rw [Region.lag, beatSub_self]
    rfl
  · exact Gives.of_run (exec_clockLost n s) (decide_eq_true hn) (if_pos gone)
  · have worst := State.dipDemand_of_worst good on met
    obtain ⟨demand, held⟩ := s.dipRead_rg (n := n) sag
    exact does_dipDemand hn hsag ⟨demand.trans worst, by rw [worst] at held; exact held⟩
  · have none := State.dipDemand_of_none good one two three four
    obtain ⟨demand, held⟩ := s.dipRead_rg (n := n) sag
    refine does_dipDemand hn hsag ⟨demand.trans none, by rw [none, Nat.max_zero] at held; exact held, ?_⟩
    refine (congrArg State.regs (if_neg ?_ : s.dipRead n sag = _)).trans rfl
    rw [none]
    exact Nat.not_lt_zero _
  · obtain ⟨events, kept, regs, rgn, frame⟩ := s.dipRead_spec (n := n) sag
    exact does_dipDemand hn hsag ⟨events, kept, by rw [frame]; rfl⟩
  · refine (Gives.of_run (exec_stretchRelease n s) (decide_eq_true hn) rfl).congr (State.modRg_congr ?_)
    split
    · next less => rw [Nat.min_eq_right less.le]
    · next more => rw [Nat.min_eq_left (Nat.le_of_not_lt more)]
  · have runs : s.regionRuns n := ⟨thawed, whole, there, on⟩
    refine ⟨fun done behind unarmed => ?_, fun busy => ?_, fun begun going goes free => ?_, fun begun going goes held => ?_, fun ended => ?_,
      fun stalled begun held => ?_, fun stalled begun free => ?_, fun stalled => ?_, ?_⟩
    · refine Gives.of_run (exec_localBeatStart n s) (decide_eq_true hn) ((if_pos ⟨done, behind, runs⟩).trans ?_)
      rw [State.injEvent_of_unarmed _ _ unarmed]
      exact if_neg (by rw [whole]; exact Bool.false_ne_true)
    · exact Gives.of_run (exec_localBeatStart n s) (decide_eq_true hn) (if_neg fun h => by omega)
    · exact gives_slotExecute hn hue runs begun going goes (if_pos (by rw [State.stallers_of_none free]; rfl))
    · refine (gives_slotExecute hn hue runs begun going goes (if_neg ?_)).does ?_
      · rw [List.isEmpty_iff]
        exact State.stallers_of_some held
      · exact State.stalled_after _ _
    · refine Gives.of_run (exec_slotExecute n ue s) ?_ (if_neg fun h => ?_)
      · simp only [Instr.wf, okRgn, Bool.and_eq_true, List.all_eq_true, decide_eq_true_eq]
        exact ⟨hn, hue⟩
      · obtain ⟨going, goes, -⟩ := h
        obtain full | stalled := ended
        · omega
        · rw [goes] at stalled
          exact Bool.noConfusion stalled
    · refine gives_stallResume hn hc runs stalled begun ((if_pos ?_).trans ?_)
      · obtain ⟨k, hk, stalls⟩ := held
        exact List.any_eq_true.mpr ⟨_, List.mem_map.mpr ⟨k, List.mem_range.mpr hk, rfl⟩, stalls⟩
      · rw [List.filter_eq_nil_iff.mpr fun t _ => by cases (s.rt t).cur <;> simp]
        rfl
    · refine (gives_stallResume hn hc runs stalled begun (if_neg ?_)).does ?_
      · simp only [List.any_eq_true, List.mem_map, List.mem_range]
        rintro ⟨_, ⟨k, hk, rfl⟩, stalls⟩
        rw [free k hk] at stalls
        exact Bool.noConfusion stalls
      · exact State.stalled_after _ _
    · exact Gives.of_run (exec_stallTimeout n s) (decide_eq_true hn) (if_pos ⟨stalled, thawed⟩)
    · exact Gives.of_run (exec_refLost s) rfl rfl

end Sys2Proof.Machine

/-! # Registers and the bridge's register requests (R7, R8, R10, R450): the proof of RegisterWritesAndBridgeRequests -/

namespace Sys2Proof.Machine

/-! ## The register at an offset -/

theorem mem_allBlks (b : Blk) : b ∈ allBlks := by
  cases b <;> decide

theorem Blk.base_eq (b : Blk) (i : Nat) (h : b.count ≠ 1 ∨ i = 0) : b.base i = b.base 0 + (b.base 1 - b.base 0) * i := by
  cases b <;> simp_all [Blk.base, Blk.count]

theorem blockOf_base {off i : Nat} {b : Blk} (h : blockOf off = some (b, i)) : b.base i ≤ off := by
  have mem := List.mem_of_mem_head? (Option.mem_def.mpr h)
  obtain ⟨c, -, hc⟩ := List.mem_filterMap.mp mem
  rw [Option.ite_none_right_eq_some] at hc
  obtain ⟨⟨above, -, -⟩, e⟩ := hc
  obtain ⟨rfl, rfl⟩ : c = b ∧ (if c.count = 1 then 0 else (off - c.base 0) / (c.base 1 - c.base 0)) = i := by simpa using e
  split
  · exact above
  · next many =>
    rw [c.base_eq _ (.inl many)]
    have := Nat.mul_div_le (off - c.base 0) (c.base 1 - c.base 0)
    omega

theorem locate_spec {off i k : Nat} {r : RegDef} (h : locate off = some (r, i, k)) : ∃ b : Blk, r ∈ b.regs ∧ off = b.base i + r.off + r.stride * k := by
  rw [locate] at h
  split at h
  · cases h
  · next b j at_ =>
    have low := blockOf_base at_
    have mem := List.mem_of_mem_head? (Option.mem_def.mpr h)
    obtain ⟨q, hq, found⟩ := List.mem_filterMap.mp mem
    rw [Option.ite_none_right_eq_some] at found
    obtain ⟨⟨_, _, place⟩, e⟩ := found
    obtain ⟨rfl, rfl, rfl⟩ : q = r ∧ j = i ∧ (if q.count ≤ 1 then 0 else (off - b.base j - q.off) / q.stride) = k := by simpa using e
    exact ⟨b, hq, by omega⟩

theorem blk_of_mem_regs {b : Blk} {r : RegDef} (h : r ∈ b.regs) : r.blk = b := by
  revert r
  cases b <;> decide +kernel

theorem fields_descend {b : Blk} {r : RegDef} (h : r ∈ b.regs) : descend 32 r.fields = true := by
  revert r
  cases b <;> decide +kernel

theorem addr_of_locate {off i k : Nat} {r : RegDef} (h : locate off = some (r, i, k)) : off = r.addr i k := by
  obtain ⟨b, mem, e⟩ := locate_spec h
  rw [RegDef.addr, blk_of_mem_regs mem, e]

theorem descend_of_locate {off i k : Nat} {r : RegDef} (h : locate off = some (r, i, k)) : descend 32 r.fields = true := by
  obtain ⟨b, mem, -⟩ := locate_spec h
  exact fields_descend mem

/-! ## A write of a register that has no command of its own -/

section

variable {s : State} {off i k v : Nat} {r : RegDef}

theorem kind_of_errStatus (u : UnitKind) : (xx_ERR_STATUS u).blk.kind = some u := by
  cases u <;> rfl

theorem errStatus_ne_dip (u : UnitKind) : xx_ERR_STATUS u ≠ RG_DIP_THR := by
  cases u <;> decide

/-- xx_ERR_FIRST clears when SOURCE reads zero after a write of the status (R274). -/
def State.firstCleared (s : State) (u : UnitKind) (i : Nat) : State :=
  if s.fld (xx_ERR_STATUS_SOURCE u) i = 0 then s.wr (xx_ERR_FIRST u) i 0 0 else s

theorem State.errSetWritten_status (u : UnitKind) (unarmed : (s.eu u i).parityArmed = false) :
    s.errSetWritten (xx_ERR_STATUS u) i = s.firstCleared u i := by
  have set : (errRegs u).contains (xx_ERR_STATUS u) = true := by simp [errRegs]
  simp only [State.errSetWritten, kind_of_errStatus, set, if_true, true_and]
  refine State.parityMet_of_unarmed (s := s.firstCleared u i) ?_
  rw [State.firstCleared]
  split <;> exact unarmed

theorem State.errSetWritten_other (other : ∀ u, r ≠ xx_ERR_STATUS u) (unarmed : ∀ u, (s.eu u i).parityArmed = false) :
    s.errSetWritten r i = s := by
  rw [State.errSetWritten]
  split
  · rfl
  · next u _ =>
    simp only [other u, false_and, if_false]
    split
    · exact State.parityMet_of_unarmed (unarmed u)
    · rfl

theorem State.plainWrite_of_located (at_ : locate off = some (r, i, k)) (own : r.ownWrite = false) :
    s.plainWrite off v =
      (if r = RG_DIP_THR then (s.writeTyped r i k v).dipRead i (s.rg i).sag else s.writeTyped r i k v).errSetWritten r i := by
  rw [State.plainWrite, at_]
  simp only [own, Bool.false_eq_true, if_false]
  rfl

/-- What a write leaves of all but the register itself. -/
structure State.WrittenTo (s t : State) (r : RegDef) (i k v : Nat) : Prop where
  frame : ∃ regs rgn, t = { s with regs := regs, rgn := rgn }
  word : t.rd r i k = r.write s.locked (s.rd r i k) v
  dip : r = RG_DIP_THR → (t.rg i).demand = t.dipDemand i (s.rg i).sag ∧ (t.rg i).held = max (s.rg i).held (t.rg i).demand
  regions : r ≠ RG_DIP_THR → t.rgn = s.rgn
  first : ∀ u, r = xx_ERR_STATUS u → t.fld (xx_ERR_STATUS_SOURCE u) i = 0 → t.rd (xx_ERR_FIRST u) i = 0
  kept : s.RegsKept t (r.addr i k :: ((if r = RG_DIP_THR then [RG_DIP_EVENTS.addr i 0] else []) ++
    match r.blk.kind with
    | some u => if r = xx_ERR_STATUS u ∧ t.fld (xx_ERR_STATUS_SOURCE u) i = 0 then [(xx_ERR_FIRST u).addr i 0] else []
    | none => []))

theorem State.regsKept_writeTyped : s.RegsKept (s.writeTyped r i k v) [r.addr i k] :=
  fun off d out => State.regs_wr_ne _ _ _ _ _ off d (List.mem_singleton.not.mp out)

theorem State.writtenTo_dip (order : descend 32 r.fields = true) (dip : r = RG_DIP_THR) :
    s.WrittenTo ((s.writeTyped r i k v).dipRead i (s.rg i).sag) r i k v := by
  have word : (s.writeTyped r i k v).rd r i k = r.write s.locked (s.rd r i k) v := State.rd_writeTyped order s i k
  have kept0 : s.RegsKept (s.writeTyped r i k v) [r.addr i k] := State.regsKept_writeTyped
  have frame0 : s.writeTyped r i k v = { s with regs := (s.writeTyped r i k v).regs } := rfl
  have region : (s.writeTyped r i k v).rg i = s.rg i := rfl
  generalize s.writeTyped r i k v = y at word kept0 frame0 region ⊢
  obtain ⟨-, kept, regs, rgn, frame⟩ := y.dipRead_spec (n := i) (s.rg i).sag
  obtain ⟨demand, held⟩ := y.dipRead_rg (n := i) (s.rg i).sag
  subst dip
  have threshold (m : Nat) : RG_DIP_THR.addr i m ∉ [RG_DIP_EVENTS.addr i 0] :=
    List.mem_singleton.not.mpr (RegDef.addr_ne rfl (by simp [RG_DIP_THR, RG_DIP_EVENTS]))
  have sensor : RG_SENSOR.addr i 0 ∉ [RG_DIP_EVENTS.addr i 0] :=
    List.mem_singleton.not.mpr (RegDef.addr_ne rfl (by simp [RG_SENSOR, RG_DIP_EVENTS]))
  have same : (y.dipRead i (s.rg i).sag).dipDemand i (s.rg i).sag = y.dipDemand i (s.rg i).sag := by
    simp only [State.dipDemand, kept.fld (f := RG_SENSOR_SAG_BAD) sensor, kept.fld (f := RG_DIP_THR_THR1) (threshold 0),
      kept.fld (f := RG_DIP_THR_THR2) (threshold 0), kept.fld (f := RG_DIP_THR_THR3) (threshold 0), kept.fld (f := RG_DIP_THR_THR4) (threshold 0)]
  exact {
    frame := ⟨regs, rgn, by rw [frame, frame0]⟩
    word := (kept.rd (threshold k)).trans word
    dip := fun _ => ⟨demand.trans same.symm, by rw [held, region, demand]⟩
    regions := fun other => absurd rfl other
    first := fun u status => absurd status.symm (errStatus_ne_dip u)
    kept := (kept0.mono (by simp)).trans (kept.mono (by simp)) }

theorem State.writtenTo_status (order : descend 32 r.fields = true) {u : UnitKind} (status : r = xx_ERR_STATUS u) :
    s.WrittenTo ((s.writeTyped r i k v).firstCleared u i) r i k v := by
  have word : (s.writeTyped r i k v).rd r i k = r.write s.locked (s.rd r i k) v := State.rd_writeTyped order s i k
  have kept0 : s.RegsKept (s.writeTyped r i k v) [r.addr i k] := State.regsKept_writeTyped
  have frame0 : s.writeTyped r i k v = { s with regs := (s.writeTyped r i k v).regs } := rfl
  generalize s.writeTyped r i k v = y at word kept0 frame0 ⊢
  subst status
  have plain := errStatus_ne_dip u
  have apart (m : Nat) : (xx_ERR_STATUS u).addr i m ≠ (xx_ERR_FIRST u).addr i 0 := RegDef.addr_ne rfl (by simp [xx_ERR_STATUS, xx_ERR_FIRST])
  have one {w : UnitKind} (h : xx_ERR_STATUS u = xx_ERR_STATUS w) : w = u :=
    Option.some.inj ((kind_of_errStatus w).symm.trans ((congrArg (·.blk.kind) h).symm.trans (kind_of_errStatus u)))
  have source : (y.firstCleared u i).fld (xx_ERR_STATUS_SOURCE u) i = y.fld (xx_ERR_STATUS_SOURCE u) i := by
    rw [State.firstCleared]
    split
    · exact congrArg (bits · 15 0) (State.rd_wr_ne _ _ _ _ _ _ _ _ (apart 0))
    · rfl
  by_cases zero : y.fld (xx_ERR_STATUS_SOURCE u) i = 0
  · have cleared : y.firstCleared u i = y.wr (xx_ERR_FIRST u) i 0 0 := if_pos zero
    exact {
      frame := ⟨(y.firstCleared u i).regs, s.rgn, by rw [cleared, frame0]; rfl⟩
      word := by rw [cleared, State.rd_wr_ne _ _ _ _ _ _ _ _ (apart k), word]
      dip := fun dip => absurd dip plain
      regions := fun _ => by rw [cleared, frame0]; rfl
      first := fun w status _ => by
        rw [one status, cleared, State.rd_wr_same, Nat.zero_mod]
      kept := by
        simp only [kind_of_errStatus, source, zero, plain, if_true, if_false, and_self, List.nil_append]
        refine (kept0.mono (by simp)).trans fun off d out => ?_
        rw [cleared]
        refine State.regs_wr_ne _ _ _ _ _ off d fun e => out ?_
        simp [e] }
  · have stays : y.firstCleared u i = y := if_neg zero
    exact {
      frame := ⟨y.regs, s.rgn, by rw [stays, frame0]⟩
      word := by rw [stays, word]
      dip := fun dip => absurd dip plain
      regions := fun _ => by rw [stays, frame0]
      first := fun w status clear => absurd (by rw [one status, source] at clear; exact clear) zero
      kept := by
        rw [stays]
        exact kept0.mono fun _ mem => List.mem_cons.mpr (.inl (List.mem_singleton.mp mem)) }

theorem State.writtenTo_other (order : descend 32 r.fields = true) (plain : r ≠ RG_DIP_THR) (other : ∀ u, r ≠ xx_ERR_STATUS u) :
    s.WrittenTo (s.writeTyped r i k v) r i k v where
  frame := ⟨_, s.rgn, rfl⟩
  word := State.rd_writeTyped order s i k
  dip dip := absurd dip plain
  regions _ := rfl
  first u status := absurd status (other u)
  kept := State.regsKept_writeTyped.mono fun _ mem => List.mem_cons.mpr (.inl (List.mem_singleton.mp mem))

theorem State.writtenTo_plainWrite (at_ : locate off = some (r, i, k)) (own : r.ownWrite = false)
    (unarmed : ∀ u, (s.eu u i).parityArmed = false) : s.WrittenTo (s.plainWrite off v) r i k v := by
  have order := descend_of_locate at_
  rw [State.plainWrite_of_located at_ own]
  by_cases dip : r = RG_DIP_THR
  · rw [if_pos dip, State.errSetWritten_other (fun u status => errStatus_ne_dip u (status.symm.trans dip)) fun u => ?_]
    · exact State.writtenTo_dip order dip
    · obtain ⟨-, -, regs, rgn, frame⟩ := (s.writeTyped r i k v).dipRead_spec (n := i) (s.rg i).sag
      rw [frame]
      exact unarmed u
  · rw [if_neg dip]
    by_cases status : ∃ u, r = xx_ERR_STATUS u
    · obtain ⟨u, status⟩ := status
      have written := s.writtenTo_status (k := k) (v := v) (i := i) order status
      have same := State.errSetWritten_status (s := s.writeTyped r i k v) u (unarmed u)
      rw [← same, ← status] at written
      exact written
    · have other (u : UnitKind) : r ≠ xx_ERR_STATUS u := fun h => status ⟨u, h⟩
      rw [State.errSetWritten_other (s := s.writeTyped r i k v) other fun u => unarmed u]
      exact State.writtenTo_other order dip other

end

/-! ## Register requests of the bridge -/

section

variable {s : State} {hp : Nat}

theorem State.regRequest_allowed {r : RegReq} {len : Nat} (unarmed : s.fld (xx_ERR_INJECT_ARM .hp) hp = 0)
    (ok : len = 4 ∧ r.off % 4 = 0 ∧ regAllowed r.priv r.ten r.off = true) :
    s.regRequest hp r len = (s.modHp hp fun h => { h with regs := h.regs ++ [r] }).regPump hp := by
  rw [State.regRequest, State.injEvent_of_unarmed _ _ unarmed]
  exact if_pos ok

theorem State.regRequest_denied {r : RegReq} {len : Nat} (unarmed : s.fld (xx_ERR_INJECT_ARM .hp) hp = 0)
    (bad : ¬ (len = 4 ∧ r.off % 4 = 0 ∧ regAllowed r.priv r.ten r.off = true)) : s.regRequest hp r len = s.regDeny hp r := by
  rw [State.regRequest, State.injEvent_of_unarmed _ _ unarmed]
  exact if_neg bad

theorem arm_ne_rxBytes : ∀ hp < 2, ¬ ((xx_ERR_INJECT .hp).addr hp 0 = HP_RX_BYTES_LO.addr hp 0 ∨
    (xx_ERR_INJECT .hp).addr hp 0 = HP_RX_BYTES_HI.addr hp 0) := by decide

theorem State.unarmed_rxBytes (hhp : hp < 2) (unarmed : s.fld (xx_ERR_INJECT_ARM .hp) hp = 0) (v : Nat) :
    (s.addPair HP_RX_BYTES_LO HP_RX_BYTES_HI v hp).fld (xx_ERR_INJECT_ARM .hp) hp = 0 := by
  have kept := State.regsKept_addPair (s := s) (l := [HP_RX_BYTES_LO.addr hp 0, HP_RX_BYTES_HI.addr hp 0]) HP_RX_BYTES_LO HP_RX_BYTES_HI v hp 0
    (by simp) (by simp)
  exact (kept.fld (f := xx_ERR_INJECT_ARM .hp) (by simpa [xx_ERR_INJECT_ARM] using arm_ne_rxBytes hp hhp)).trans unarmed

end

/-- Settles O5: no register with a field of type RWL lacks a command of its own; the error sets are the only writes that reach further. -/
theorem registerWritesAndBridgeRequests : Obligations.RegisterWritesAndBridgeRequests := by
  unfold Obligations.RegisterWritesAndBridgeRequests
  refine ⟨fun s off v r i k hoff hv at_ own alive unarmed => ?_, ?_⟩
  · obtain ⟨net, bn, served⟩ := s.serveWrite_frame off v
    obtain ⟨⟨regs, rgn, frame⟩, word, dip, regions, first, kept⟩ :=
      State.writtenTo_plainWrite (s := { s with net := net, bn := bn }) (v := v) at_ own unarmed
    have run : s.regWrite off v (fun s => s.plainWrite off v) = { s with net := net, bn := bn }.plainWrite off v := by
      rw [State.regWrite, if_pos alive, served]
    have order := descend_of_locate at_
    refine (Gives.of_run (exec_registerWrite off v s) (by simp only [Instr.wf, okW, hoff, hv, decide_true, Bool.and_self]) run).does ?_
    generalize { s with net := net, bn := bn }.plainWrite off v = x at frame word dip regions first kept ⊢
    have put {f : FieldDef} (mem : f ∈ r.fields) : bits (x.rd r i k) f.hi f.lo = fieldWritten s.locked (s.rd r i k) v f := by
      rw [word]
      exact RegDef.bits_write order mem
    refine ⟨fun f mem => ⟨fun ty => (put mem).trans ?_, fun ty => (put mem).trans ?_, fun ty => (put mem).trans ?_, fun ty b => ?_⟩,
      fun b out => ?_, dip, regions, fun u _ => first u, ?_, by rw [frame]; rfl, by rw [frame]; rfl, by rw [frame]; rfl, by rw [frame]; rfl⟩
    · rw [fieldWritten]
      obtain ty | ty := ty <;> rw [ty] <;> rfl
    · rw [fieldWritten, ty]
      rfl
    · rw [fieldWritten, ty]
      rfl
    · refine (congrArg (Nat.testBit · b) (put mem)).trans ?_
      rw [fieldWritten, ty]
      simp only [FTy.write, Nat.testBit_and, Nat.testBit_xor, Nat.testBit_or]
      cases (bits (s.rd r i k) f.hi f.lo).testBit b <;> simp
    · exact (congrArg (Nat.testBit · b) word).trans (RegDef.testBit_write_of_reserved order out)
    · rw [addr_of_locate at_]
      exact kept
  · intro s hp tag ten off len txn priv data p hhp htag hten hoff pos small htxn long bytes okp idle t
    have port : okHp hp = true := decide_eq_true hhp
    have read {u : State} (h : (s.addPair HP_RX_BYTES_LO HP_RX_BYTES_HI 128 hp).regRequest hp ⟨tag, priv, t, off, false, 0, 0, false⟩ len = u) :
        Gives (.regRd hp tag priv ten off len) s u :=
      Gives.of_run (exec_regRd hp tag priv ten off len s)
        (by simp only [Instr.wf, port, htag, hten, hoff, pos, small, decide_true, Bool.and_self]) h
    have write {u : State} (h : (s.addPair HP_RX_BYTES_LO HP_RX_BYTES_HI (128 * (1 + (len + 127) / 128)) hp).regRequest hp
        ⟨tag, priv, t, off, true, ofBytes data, 0, false⟩ len = u) : Gives (.regWr hp tag priv ten off data) s u := by
      have bytes_ : okBytes data = true := List.all_eq_true.mpr fun b mem => decide_eq_true (bytes b mem)
      refine Gives.of_run (exec_regWr hp tag priv ten off data s)
        (by simp only [Instr.wf, port, htag, hten, hoff, bytes_, long, pos, small, decide_true, Bool.and_self]) ?_
      rw [long]
      exact h
    have unarmed := State.unarmed_rxBytes hhp idle
    have allowed : regAllowed priv t off = true ↔ (blockOf off).isSome ∧ (priv = true ∨ blockOf off = some (.tn, ten)) := by
      cases priv <;> simp [regAllowed, t]
    refine ⟨fun bad => ?_, fun four aligned block view => ?_, fun kind => ?_, ?_⟩
    · have denied : ¬ (len = 4 ∧ off % 4 = 0 ∧ regAllowed priv t off = true) := fun ok => by
        obtain ⟨four, aligned, view⟩ := ok
        obtain ⟨block, view⟩ := allowed.mp view
        obtain other | crooked | nowhere | ⟨user, outside⟩ := bad
        · exact other four
        · exact crooked aligned
        · rw [nowhere] at block
          exact Bool.noConfusion block
        · exact view.elim (fun priv_ => Bool.noConfusion (user.symm.trans priv_)) outside
      exact ⟨read (State.regRequest_denied (unarmed _) denied), write (State.regRequest_denied (unarmed _) denied)⟩
    · have ok : len = 4 ∧ off % 4 = 0 ∧ regAllowed priv t off = true := ⟨four, aligned, allowed.mpr ⟨block, view⟩⟩
      refine ⟨read (State.regRequest_allowed (unarmed _) ok), write ((State.regRequest_allowed (unarmed _) ok).trans ?_)⟩
      rw [four]
    · exact Gives.of_run (exec_regAns hp p s) (by simp only [Instr.wf, port, okp, Bool.and_self]) (if_neg (not_not.mpr kind))
    · exact Gives.of_run (exec_regTimeout hp txn s) (by simp only [Instr.wf, port, htxn, decide_true, Bool.and_self]) rfl

end Sys2Proof.Machine

/-! # Core requests and fatal inputs (R444, R445, R448, R458): the proof of CoreRequestsAndFatalInputs -/

namespace Sys2Proof.Machine

section

variable {s : State} {n addr data be q : Nat} {wr : Bool}

/-- Where a core's request goes. -/
def State.coreServed (s : State) (n : Nat) (wr : Bool) (addr data be : Nat) : State :=
  if 0x3FFF0000 ≤ addr ∧ addr ≤ 0x3FFF003F then s.coreTq n wr addr data be
  else if 0x40000000 ≤ addr ∧ addr ≤ 0x43FFFFFF then
    s.apStore n wr (addr - 0x40000000) (if be = 2 ^ 32 - 1 then 32 else 0) (toBytes 32 data)
  else s.coreAns n true 0

theorem gives_coreRequest {t : State} (hn : n < 2304) (ha : addr < 2 ^ 32) (hd : data < 2 ^ 256) (hb : be < 2 ^ 32) (up : s.niUp n = true)
    (thawed : s.frozenAt n = false) (h : s.coreServed n wr addr data be = t) : Gives (.coreRequest n wr addr data be) s t := by
  refine Gives.of_run (exec_coreRequest n wr addr data be s) ?_ ((if_neg ?_).trans h)
  · simp only [Instr.wf, okSlot, okW, hn, ha, hd, hb, decide_true, Bool.and_self]
  · simp [up, thawed]

theorem State.coreServed_outside (out : addr < 0x3FFF0000 ∨ (0x3FFF003F < addr ∧ addr < 0x40000000) ∨ 0x43FFFFFF < addr) :
    s.coreServed n wr addr data be = s.coreAns n true 0 :=
  (if_neg (by omega)).trans (if_neg (by omega))

theorem State.coreServed_aperture (lo : 0x40000000 ≤ addr) (hi : addr ≤ 0x43FFFFFF) : s.coreServed n wr addr data be =
    s.apStore n wr (addr - 0x40000000) (if be = 2 ^ 32 - 1 then 32 else 0) (toBytes 32 data) :=
  (if_neg (by omega)).trans (if_pos ⟨lo, hi⟩)

theorem State.coreServed_crooked (lo : 0x3FFF0000 ≤ addr) (hi : addr ≤ 0x3FFF003F) (crooked : addr % 4 ≠ 0) :
    s.coreServed n wr addr data be = s.coreAns n true 0 :=
  (if_pos ⟨lo, hi⟩).trans (if_pos (.inl crooked))

theorem State.coreServed_load (lo : 0x3FFF0000 ≤ addr) (hi : addr ≤ 0x3FFF003F) (aligned : addr % 4 = 0) :
    s.coreServed n false addr data be = s.coreAns n false
      (if addr % 16 = 8 then s.readReg (NI_TQn_PTR.addr n (addr % 64 / 16))
        else if addr % 16 = 12 then s.readReg (NI_TQn_STATE.addr n (addr % 64 / 16)) else 0) :=
  (if_pos ⟨lo, hi⟩).trans ((if_neg (by simp [aligned])).trans (if_neg Bool.false_ne_true))

theorem State.coreServed_store (hq : q < 4) : s.coreServed n true (0x3FFF0008 + 16 * q) data (15 <<< ((8 + 16 * q) % 32)) =
    (s.tqBell n q (data / 2 ^ (8 * ((8 + 16 * q) % 32)) % 2 ^ 32)).coreAns n false 0 := by
  have lane : (0x3FFF0008 + 16 * q) % 32 = (8 + 16 * q) % 32 := by omega
  have queue : (0x3FFF0008 + 16 * q) % 64 / 16 = q := by omega
  have bell (a : Nat) : bits data (8 * a + 31) (8 * a) = data / 2 ^ (8 * a) % 2 ^ 32 := by
    rw [bits, Nat.shiftRight_eq_div_pow, show 8 * a + 31 + 1 - 8 * a = 32 by omega]
  have fits : ¬ ((0x3FFF0008 + 16 * q) % 4 ≠ 0 ∨ (true = true ∧ 15 <<< ((8 + 16 * q) % 32) ≠ 15 <<< ((0x3FFF0008 + 16 * q) % 32))) := by
    rw [lane]
    simp only [ne_eq, not_true, and_false, or_false, not_not]
    omega
  rw [State.coreServed, if_pos (by omega), State.coreTq, if_neg fits, if_pos rfl, if_pos (by omega), queue, lane, bell]

theorem State.fatalIn_first {k : UnitKind} {i src : Nat} (first : 2 ∉ (s.eu k i).persist) :
    s.fatalIn k i src true = (s.setEu k i { s.eu k i with persist := (s.eu k i).persist ++ [2] }).unitEvent k i src 0 := by
  simp [State.fatalIn, first]

theorem State.fatalIn_again {k : UnitKind} {i src : Nat} (again : 2 ∈ (s.eu k i).persist) : s.fatalIn k i src true = s := by
  simp [State.fatalIn, again]

theorem State.fatalIn_down (k : UnitKind) (i src : Nat) :
    2 ∉ ((s.fatalIn k i src false).eu k i).persist ∧ s.regs = (s.fatalIn k i src false).regs := by
  have down : s.fatalIn k i src false = s.setEu k i { s.eu k i with persist := (s.eu k i).persist.filter fun x => x != 2 } := by
    simp [State.fatalIn]
  rw [down]
  refine ⟨?_, rfl⟩
  rw [State.eu, State.setEu, SMap.get_put_same]
  simp

end

/-- Settles O7: the lanes of a store are those of its word, and CR_ERR is all that a refused access leaves. -/
theorem coreRequestsAndFatalInputs : Obligations.CoreRequestsAndFatalInputs := by
  unfold Obligations.CoreRequestsAndFatalInputs
  intro s n addr data be q hp mp wr hn ha hd hb hq hhp hmp up thawed
  have core {addr be : Nat} {wr : Bool} (ha : addr < 2 ^ 32) (hb : be < 2 ^ 32) {t : State} (h : s.coreServed n wr addr data be = t) :
      Gives (.coreRequest n wr addr data be) s t := gives_coreRequest hn ha hd hb up thawed h
  have port (up : Bool) {t : State} (h : s.fatalIn .mp mp 4 up = t) : Gives (.ctrlFatalIn mp up) s t :=
    Gives.of_run (exec_ctrlFatalIn mp up s) (decide_eq_true hmp) h
  have host (up : Bool) {t : State} (h : s.fatalIn .hp hp 5 up = t) : Gives (.hpFatalIn hp up) s t :=
    Gives.of_run (exec_hpFatalIn hp up s) (decide_eq_true hhp) h
  refine ⟨fun out => core ha hb (State.coreServed_outside out), fun lo hi crooked => core ha hb (State.coreServed_crooked lo hi crooked),
    core (by omega) hb ?_, core (by omega) hb ?_, core (by omega) ?_ (State.coreServed_store hq),
    fun lo hi => core ha hb (State.coreServed_aperture lo hi), fun first => port _ (State.fatalIn_first first),
    fun first => host _ (State.fatalIn_first first), fun again => port _ (State.fatalIn_again again), fun again => host _ (State.fatalIn_again again),
    (port false rfl).does ?_, (host false rfl).does ?_⟩
  · rw [State.coreServed_load (by omega) (by omega) (by omega), if_pos (by omega), show (0x3FFF0008 + 16 * q) % 64 / 16 = q by omega]
    rfl
  · rw [State.coreServed_load (by omega) (by omega) (by omega), if_neg (by omega), if_pos (by omega), show (0x3FFF000C + 16 * q) % 64 / 16 = q by omega]
    rfl
  · obtain lane | lane : (8 + 16 * q) % 32 = 8 ∨ (8 + 16 * q) % 32 = 24 := by omega
    all_goals
      rw [lane]
      decide
  · exact s.fatalIn_down .mp mp 4
  · exact s.fatalIn_down .hp hp 5

end Sys2Proof.Machine

/-! # Requests to the bridge (R448 to R452): the proof of BridgeRequestsHoldTagsAndCredits -/

namespace Sys2Proof.Machine

section

variable {s : State} {hp : Nat}

/-! ## A request leaves under a free tag -/

/-- The lowest tag that nothing outstanding has. -/
def freeHostTag (out : List HReq) : Nat := ((List.range 4096).find? fun t => !(out.any fun o => o.b.tag == t)).getD 0

theorem freeHostTag_spec {out : List HReq} (room : out.length < 4096) : freeHostTag out < 4096 ∧ ∀ o ∈ out, o.b.tag ≠ freeHostTag out := by
  have some_free : ∃ t ∈ List.range 4096, ¬ t ∈ out.map (·.b.tag) := by
    by_contra none_free
    have inside : (List.range 4096) ⊆ out.map (·.b.tag) := fun t mem => not_not.mp fun out_ => none_free ⟨t, mem, out_⟩
    have := (List.nodup_range.subperm inside).length_le
    rw [List.length_range, List.length_map] at this
    omega
  obtain ⟨t, mem, free⟩ := some_free
  have found : ((List.range 4096).find? fun t => !(out.any fun o => o.b.tag == t)).isSome := by
    refine List.find?_isSome.mpr ⟨t, mem, ?_⟩
    simpa using free
  obtain ⟨g, hg⟩ := Option.isSome_iff_exists.mp found
  have least := List.find?_some hg
  rw [freeHostTag, hg]
  refine ⟨List.mem_range.mp (List.mem_of_find?_eq_some hg), fun o ho same => ?_⟩
  have taken : (out.any fun o => o.b.tag == g) = true := List.any_eq_true.mpr ⟨o, ho, beq_iff_eq.mpr same⟩
  rw [taken] at least
  exact Bool.noConfusion least

theorem hostTx_apart : ∀ hp < 2, HP_TX_BYTES_LO.addr hp 0 ≠ HP_TX_BYTES_HI.addr hp 0 := by decide

theorem State.hpt_bridgeTx_same (b : BPkt) : (s.bridgeTx hp b).hpt hp = { s.hpt hp with tx := some b } := SMap.get_put_same _ _ _ _

theorem State.hpt_bridgeTx_ne {m : Nat} (b : BPkt) (h : m ≠ hp) : (s.bridgeTx hp b).hpt m = s.hpt m := SMap.get_put_ne _ _ _ h

theorem State.bridgeTx_spec (hhp : hp < 2) (b : BPkt) : ∃ x : State, s.bridgeTx hp b = x ∧ x.hpt hp = { s.hpt hp with tx := some b } ∧
    x.pair HP_TX_BYTES_LO HP_TX_BYTES_HI hp = (s.pair HP_TX_BYTES_LO HP_TX_BYTES_HI hp + b.wire) % 2 ^ 64 ∧ x.net = s.net ∧
    ∀ m, m ≠ hp → x.hpt m = s.hpt m :=
  ⟨_, rfl, State.hpt_bridgeTx_same b, State.pair_addPair_same _ _ _ _ _ _ (hostTx_apart hp hhp), rfl,
    fun _ other => State.hpt_bridgeTx_ne b other⟩

theorem gives_hostRequest {c : Sys2Proof.Instr} {kind : Nat} {t : State} (hhp : hp < 2) (mem : (c, kind) ∈ [(Instr.memRd hp, 2), (.memWr hp, 3)])
    (h : s.hpSend hp kind = t) : Gives c s t := by
  simp only [List.mem_cons, Prod.mk.injEq, List.not_mem_nil, or_false] at mem
  obtain ⟨rfl, rfl⟩ | ⟨rfl, rfl⟩ := mem
  · exact Gives.of_run (exec_memRd hp s) (decide_eq_true hhp) h
  · exact Gives.of_run (exec_memWr hp s) (decide_eq_true hhp) h

theorem State.hpSend_of_none {kind : Nat} (none_ : (s.hpt hp).q = []) : s.hpSend hp kind = s := by
  simp only [State.hpSend, none_]

theorem State.hpSend_of_poor {kind : Nat} (poor : (s.hpt hp).crd0 = 0) : s.hpSend hp kind = s := by
  rw [State.hpSend]
  split
  · rfl
  · exact if_pos (.inr (.inl poor))

/-- A request as it leaves with its tag. -/
def HReq.tagged (r : HReq) (g : Nat) : HReq := { r with b := { r.b with tag := g } }

def HPort.sent (h : HPort) (r : HReq) (rest : List HReq) (g : Nat) : HPort :=
  { h with q := rest, out := h.out ++ [r.tagged g], crd0 := h.crd0 - 1 }

theorem State.hpSend_of_ready {r : HReq} {rest : List HReq} (oldest : (s.hpt hp).q = r :: rest) (credit : 0 < (s.hpt hp).crd0)
    (room : (s.hpt hp).out.length < 4096) (safe : s.fld (xx_ERR_STATUS_SAFE .hp) hp = 0) (unarmed : s.fld (xx_ERR_INJECT_ARM .hp) hp = 0) :
    s.hpSend hp r.b.kind = (s.modHp hp fun h => h.sent r rest (freeHostTag (s.hpt hp).out)).bridgeTx hp
      { r.b with tag := freeHostTag (s.hpt hp).out, status := 0 } := by
  have leaves : ¬ (r.b.kind ≠ r.b.kind ∨ (s.hpt hp).crd0 = 0 ∨ 4096 ≤ (s.hpt hp).out.length ∨ s.fld (xx_ERR_STATUS_SAFE .hp) hp = 1) := by
    simp [safe, credit.ne', room]
  have normal : ¬ s.fld (xx_ERR_STATUS_SAFE .hp) hp = 1 := by
    rw [safe]
    decide
  rw [State.hpSend]
  simp only [oldest]
  rw [if_neg leaves, State.injEvent_of_unarmed _ _ unarmed, if_neg normal]
  rfl

/-! ## A tag is freed -/

theorem State.takeReq_none {tag : Nat} (h : ∀ o ∈ (s.hpt hp).out, o.b.tag ≠ tag) : s.takeReq hp tag = none := by
  rw [State.takeReq, List.find?_eq_none.mpr fun o mem => by simpa using h o mem]
  rfl

theorem State.takeReq_some {tag : Nat} {r : HReq} (h : (s.hpt hp).out.find? (fun o => o.b.tag == tag) = some r) :
    s.takeReq hp tag = some (r, s.modHp hp fun h => { h with out := delFirst (fun x => x.b.tag == tag) h.out }) := by
  rw [State.takeReq, h]
  rfl

/-! ## Pending vectors -/

/-- A port whose vectors have gone as far as its credits carry them. -/
structure State.VectorsOut (s t : State) (hp : Nat) : Prop where
  irq : (t.hpt hp).irq = (s.hpt hp).irq.drop (s.hpt hp).crd0
  crd0 : (t.hpt hp).crd0 = (s.hpt hp).crd0 - (s.hpt hp).irq.length
  q : (t.hpt hp).q = (s.hpt hp).q

theorem State.bridgeTx_foldl (f : Nat → BPkt) (vs : List Nat) : ∃ x : State, vs.foldl (fun s v => s.bridgeTx hp (f v)) s = x ∧
    (x.hpt hp).irq = (s.hpt hp).irq ∧ (x.hpt hp).crd0 = (s.hpt hp).crd0 ∧ (x.hpt hp).q = (s.hpt hp).q ∧ x.net = s.net ∧
    ∀ m, m ≠ hp → x.hpt m = s.hpt m := by
  induction vs generalizing s with
  | nil => exact ⟨s, rfl, rfl, rfl, rfl, rfl, fun _ _ => rfl⟩
  | cons v vs ih =>
    obtain ⟨x, e, irq, crd0, q, net, others⟩ := ih (s := s.bridgeTx hp (f v))
    have here : (s.bridgeTx hp (f v)).hpt hp = { s.hpt hp with tx := some (f v) } := State.hpt_bridgeTx_same _
    rw [here] at irq crd0 q
    exact ⟨x, e, irq, crd0, q, net, fun m other => (others m other).trans (State.hpt_bridgeTx_ne _ other)⟩

theorem State.irqOut_spec (s : State) (hp : Nat) : ∃ x : State, s.irqOut hp = x ∧ s.VectorsOut x hp ∧ x.net = s.net ∧
    ∀ m, m ≠ hp → x.hpt m = s.hpt m := by
  obtain ⟨x, e, irq, crd0, q, net, others⟩ := State.bridgeTx_foldl (hp := hp)
    (s := s.setHp hp { s.hpt hp with
      irq := (s.hpt hp).irq.drop (s.hpt hp).crd0, crd0 := (s.hpt hp).crd0 - ((s.hpt hp).irq.take (s.hpt hp).crd0).length })
    (fun v => ⟨5, 0, 0, true, 0, 0, v, []⟩) ((s.hpt hp).irq.take (s.hpt hp).crd0)
  rw [State.hpt_setHp_same] at irq crd0 q
  refine ⟨x, e, ⟨irq, crd0.trans ?_, q⟩, net, fun m other => (others m other).trans (State.hpt_setHp_ne s hp m _ other)⟩
  dsimp only
  rw [List.length_take]
  omega

theorem does_irq (hhp : hp < 2) : Does .irq s fun t => (t.hpt hp).irq = (s.hpt hp).irq.drop (s.hpt hp).crd0 ∧
    (t.hpt hp).crd0 = (s.hpt hp).crd0 - (s.hpt hp).irq.length ∧ (t.hpt hp).q = (s.hpt hp).q ∧ t.net = s.net := by
  obtain ⟨x, ex, first, netX, othersX⟩ := s.irqOut_spec 0
  obtain ⟨y, ey, second, netY, othersY⟩ := x.irqOut_spec 1
  refine (Gives.of_run (exec_irq s) rfl (by rw [ex, ey])).does ?_
  obtain rfl | rfl : hp = 0 ∨ hp = 1 := by omega
  · have same : y.hpt 0 = x.hpt 0 := othersY 0 (by decide)
    exact ⟨(congrArg HPort.irq same).trans first.irq, (congrArg HPort.crd0 same).trans first.crd0, (congrArg HPort.q same).trans first.q,
      netY.trans netX⟩
  · have same : x.hpt 1 = s.hpt 1 := othersX 1 (by decide)
    obtain ⟨irq, crd0, q⟩ := second
    rw [same] at irq crd0 q
    exact ⟨irq, crd0, q, netY.trans netX⟩

end

/-- Settles O8: fewer than 4,096 outstanding requests leave a tag free. -/
theorem bridgeRequestsHoldTagsAndCredits : Obligations.BridgeRequestsHoldTagsAndCredits := by
  unfold Obligations.BridgeRequestsHoldTagsAndCredits
  intro s hp tag st kind data r rest c hhp htag hst bytes long mem safe unarmed
  have port : okHp hp = true := decide_eq_true hhp
  have bytes_ : okBytes data = true := List.all_eq_true.mpr fun b mem => decide_eq_true (bytes b mem)
  have cpl {t : State} (h : (match (s.addPair HP_RX_BYTES_LO HP_RX_BYTES_HI (128 * (1 + cdiv data.length 128)) hp).takeReq hp tag with
      | none => s.addPair HP_RX_BYTES_LO HP_RX_BYTES_HI (128 * (1 + cdiv data.length 128)) hp
      | some (r, s) => (if st = stDATA_ERROR then s.unitEvent .hp hp 4 0 else s).cplFor hp r st data) = t) : Gives (.cpl hp tag st data) s t :=
    Gives.of_run (exec_cpl hp tag st data s) (by simp only [Instr.wf, port, htag, hst, bytes_, long, decide_true, Bool.and_self]) h
  have timeout {t : State} (h : (match s.takeReq hp tag with
      | none => s
      | some (r, s) =>
        match r.why with
        | .serve _ => s
        | .atomRead _ | .atomWrite _ _ => s.lineFree hp
        | .own c => s.ownFailed c) = t) : Gives (.hostTagTimeout hp tag) s t :=
    Gives.of_run (exec_hostTagTimeout hp tag s) (by simp only [Instr.wf, port, htag, decide_true, Bool.and_self]) h
  refine ⟨fun oldest same credit room => ?_, fun poor => gives_hostRequest hhp mem (State.hpSend_of_poor poor),
    fun none_ => gives_hostRequest hhp mem (State.hpSend_of_none none_), fun free => ⟨?_, ?_⟩, fun found => ⟨fun good => ?_, ?_, fun p why => ?_, ?_⟩,
    ?_, fun none_ => ?_, fun b bs some_ => ?_, does_irq hhp⟩
  · obtain ⟨small, free⟩ := freeHostTag_spec room
    obtain ⟨x, ex, here, bytes, net, -⟩ := State.bridgeTx_spec (s := s.modHp hp fun h => h.sent r rest (freeHostTag (s.hpt hp).out)) hhp
      { r.b with tag := freeHostTag (s.hpt hp).out, status := 0 }
    rw [State.hpt_modHp_same] at here
    subst same
    exact (gives_hostRequest hhp mem ((State.hpSend_of_ready oldest credit room safe unarmed).trans ex)).does
      ⟨_, small, free, here, bytes, net⟩
  · exact cpl (by rw [State.takeReq_none (s := s.addPair _ _ _ hp) free]; rfl)
  · exact timeout (by rw [State.takeReq_none free])
  · refine cpl ?_
    rw [State.takeReq_some (s := s.addPair _ _ _ hp) found]
    dsimp only
    rw [if_neg good]
    rfl
  · rintro ⟨p, why⟩
    exact timeout (by rw [State.takeReq_some found]; dsimp only; rw [why])
  · obtain why | ⟨old, why⟩ := why <;> exact timeout (by rw [State.takeReq_some found]; dsimp only; rw [why])
  · intro code why
    exact timeout (by rw [State.takeReq_some found]; dsimp only; rw [why])
  · exact Gives.of_run (exec_txCrd hp 0 s) (by simp only [Instr.wf, port]; rfl) (if_pos rfl)
  · exact Gives.of_run (exec_txCrd hp 1 s) (by simp only [Instr.wf, port]; rfl) ((if_neg (by decide)).trans (by rw [none_]))
  · exact Gives.of_run (exec_txCrd hp 1 s) (by simp only [Instr.wf, port]; rfl) ((if_neg (by decide)).trans (by rw [some_]))

end Sys2Proof.Machine

/-! # THROTTLE_N and the TAP (R455, R457): the proof of ThrottleAndJtagInputs -/

namespace Sys2Proof.Machine

section

variable {s : State}

theorem inputCnt_ne_status : FB_INPUT_STATUS.addr 0 0 ∉ [FB_INPUT_CNT.addr 0 0] ∧ FB_INPUT_CNT.addr 0 0 ∉ [FB_INPUT_STATUS.addr 0 0] := by decide

/-- An edge is counted, and counted as merged while THR_ACTIVE stands (R455). -/
def State.thrCounted (s : State) : State :=
  let s := s.addFld FB_INPUT_CNT_THR_EDGES 1
  if s.fld FB_INPUT_STATUS_THR_ACTIVE = 1 then s.addFld FB_INPUT_CNT_THR_MERGED 1 else s

theorem State.thrCounted_spec (s : State) : ∃ x : State, s.thrCounted = x ∧ (∃ regs, x = { s with regs := regs }) ∧
    x.fld FB_INPUT_CNT_THR_EDGES = (s.fld FB_INPUT_CNT_THR_EDGES + 1) % 2 ^ 16 ∧
    x.fld FB_INPUT_CNT_THR_MERGED = (s.fld FB_INPUT_CNT_THR_MERGED + if s.fld FB_INPUT_STATUS_THR_ACTIVE = 1 then 1 else 0) % 2 ^ 16 ∧
    s.RegsKept x [FB_INPUT_CNT.addr 0 0] := by
  have edges : (s.addFld FB_INPUT_CNT_THR_EDGES 1).fld FB_INPUT_CNT_THR_EDGES = (s.fld FB_INPUT_CNT_THR_EDGES + 1) % 2 ^ 16 :=
    State.fld_addFld_same _ FB_INPUT_CNT_THR_EDGES _ _ _ (by decide) (by decide)
  have merged : (s.addFld FB_INPUT_CNT_THR_EDGES 1).fld FB_INPUT_CNT_THR_MERGED = s.fld FB_INPUT_CNT_THR_MERGED :=
    State.fld_setFld_apart _ _ _ _ _ _ rfl (by decide) (by decide) (by decide)
  have kept : s.RegsKept (s.addFld FB_INPUT_CNT_THR_EDGES 1) [FB_INPUT_CNT.addr 0 0] := State.regsKept_addFld _ _ _ _ (List.mem_singleton.mpr rfl)
  have active : (s.addFld FB_INPUT_CNT_THR_EDGES 1).fld FB_INPUT_STATUS_THR_ACTIVE = s.fld FB_INPUT_STATUS_THR_ACTIVE :=
    kept.fld (f := FB_INPUT_STATUS_THR_ACTIVE) inputCnt_ne_status.1
  have frame : ∃ regs, s.addFld FB_INPUT_CNT_THR_EDGES 1 = { s with regs := regs } := ⟨_, rfl⟩
  refine ⟨_, rfl, ?_⟩
  simp only [State.thrCounted]
  generalize s.addFld FB_INPUT_CNT_THR_EDGES 1 = y at edges merged kept active frame ⊢
  obtain ⟨regs, frame⟩ := frame
  rw [← active]
  by_cases on : y.fld FB_INPUT_STATUS_THR_ACTIVE = 1
  · rw [if_pos on, if_pos on, ← merged, ← edges]
    exact ⟨⟨_, by rw [frame]; rfl⟩, State.fld_setFld_apart _ _ _ _ _ _ rfl (by decide) (by decide) (by decide),
      State.fld_addFld_same _ FB_INPUT_CNT_THR_MERGED _ _ _ (by decide) (by decide),
      kept.trans (State.regsKept_addFld _ _ _ _ (List.mem_singleton.mpr rfl))⟩
  · rw [if_neg on, if_neg on, ← merged, ← edges]
    exact ⟨⟨_, frame⟩, rfl, (Nat.mod_eq_of_lt (State.fld_lt y FB_INPUT_CNT_THR_MERGED 0 0)).symm, kept⟩

theorem does_throttleAssert {p : State → Prop} (obeyed : s.fld FB_INPUT_STATUS_THR_STUCK = 0)
    (h : p (s.after (State.setFld (State.thrCounted { s with pins := { s.pins with thrLow := true } }) FB_INPUT_STATUS_THR_ACTIVE 1))) :
    Does .throttleAssert s p := by
  have normal : ¬ State.fld { s with pins := { s.pins with thrLow := true } } FB_INPUT_STATUS_THR_STUCK = 1 := fun stuck =>
    Nat.zero_ne_one (obeyed.symm.trans stuck)
  exact (Gives.of_run (exec_throttleAssert s) rfl (if_neg normal)).does h

/-- The input is held beyond its limit (R455). -/
def State.thrHeld (s : State) : State :=
  ((s.setFld FB_INPUT_STATUS_THR_STUCK 1).addFld FB_INPUT_STATUS_THR_STUCK_CNT 1).setFld FB_INPUT_STATUS_THR_ACTIVE 0

theorem State.thrHeld_spec (s : State) : s.thrHeld.fld FB_INPUT_STATUS_THR_STUCK = 1 ∧ s.thrHeld.fld FB_INPUT_STATUS_THR_ACTIVE = 0 ∧
    s.thrHeld.fld FB_INPUT_STATUS_THR_STUCK_CNT = (s.fld FB_INPUT_STATUS_THR_STUCK_CNT + 1) % 2 ^ 8 ∧
    s.RegsKept s.thrHeld [FB_INPUT_STATUS.addr 0 0] := by
  have apart (x : State) (f g : Fld) (v : Nat) (hf : f.reg = FB_INPUT_STATUS) (hg : g.reg = FB_INPUT_STATUS) (hl : f.lo ≤ f.hi) (hh : f.hi < 32)
      (h : f.hi < g.lo ∨ g.hi < f.lo) : (x.setFld f v).fld g = x.fld g := State.fld_setFld_apart x f g v 0 0 (hg.trans hf.symm) hl hh h
  have kept (x : State) (f : Fld) (v : Nat) (hr : f.reg = FB_INPUT_STATUS) : x.RegsKept (x.setFld f v) [FB_INPUT_STATUS.addr 0 0] :=
    State.regsKept_setFld _ _ _ _ (by rw [hr]; exact List.mem_singleton.mpr rfl)
  refine ⟨?_, State.fld_setFld_same _ FB_INPUT_STATUS_THR_ACTIVE _ _ _ (by decide) (by decide), ?_, ?_⟩
  · refine (apart _ FB_INPUT_STATUS_THR_ACTIVE FB_INPUT_STATUS_THR_STUCK _ rfl rfl (by decide) (by decide) (by decide)).trans ?_
    refine (apart _ FB_INPUT_STATUS_THR_STUCK_CNT FB_INPUT_STATUS_THR_STUCK _ rfl rfl (by decide) (by decide) (by decide)).trans ?_
    exact State.fld_setFld_same _ FB_INPUT_STATUS_THR_STUCK _ _ _ (by decide) (by decide)
  · refine (apart _ FB_INPUT_STATUS_THR_ACTIVE FB_INPUT_STATUS_THR_STUCK_CNT _ rfl rfl (by decide) (by decide) (by decide)).trans ?_
    refine (State.fld_addFld_same _ FB_INPUT_STATUS_THR_STUCK_CNT _ _ _ (by decide) (by decide)).trans ?_
    rw [apart s FB_INPUT_STATUS_THR_STUCK FB_INPUT_STATUS_THR_STUCK_CNT _ rfl rfl (by decide) (by decide) (by decide)]
    rfl
  · exact ((kept s FB_INPUT_STATUS_THR_STUCK 1 rfl).trans (kept _ FB_INPUT_STATUS_THR_STUCK_CNT _ rfl)).trans
      (kept _ FB_INPUT_STATUS_THR_ACTIVE 0 rfl)

/-- What a write of FB_INPUT_CTRL does to an input that is ignored (R455). -/
def State.thrRearmed (s : State) : State :=
  let s := s.setFld FB_INPUT_STATUS_THR_STUCK 0
  if s.pins.thrLow then s.setFld FB_INPUT_STATUS_THR_ACTIVE 1 else s

theorem State.thrRearmed_spec (s : State) : ∃ x : State, s.thrRearmed = x ∧ x.fld FB_INPUT_STATUS_THR_STUCK = 0 ∧
    x.fld FB_INPUT_STATUS_THR_ACTIVE = (if s.pins.thrLow then 1 else s.fld FB_INPUT_STATUS_THR_ACTIVE) ∧
    s.RegsKept x [FB_INPUT_STATUS.addr 0 0] := by
  have stuck : (s.setFld FB_INPUT_STATUS_THR_STUCK 0).fld FB_INPUT_STATUS_THR_STUCK = 0 :=
    State.fld_setFld_same _ FB_INPUT_STATUS_THR_STUCK _ _ _ (by decide) (by decide)
  have active : (s.setFld FB_INPUT_STATUS_THR_STUCK 0).fld FB_INPUT_STATUS_THR_ACTIVE = s.fld FB_INPUT_STATUS_THR_ACTIVE :=
    State.fld_setFld_apart _ _ _ _ _ _ rfl (by decide) (by decide) (by decide)
  have kept : s.RegsKept (s.setFld FB_INPUT_STATUS_THR_STUCK 0) [FB_INPUT_STATUS.addr 0 0] :=
    State.regsKept_setFld _ _ _ _ (List.mem_singleton.mpr rfl)
  have pins : (s.setFld FB_INPUT_STATUS_THR_STUCK 0).pins = s.pins := rfl
  refine ⟨_, rfl, ?_⟩
  simp only [State.thrRearmed]
  generalize s.setFld FB_INPUT_STATUS_THR_STUCK 0 = y at stuck active kept pins ⊢
  rw [pins]
  by_cases low : s.pins.thrLow = true
  · rw [if_pos low, if_pos low]
    exact ⟨(State.fld_setFld_apart y FB_INPUT_STATUS_THR_ACTIVE FB_INPUT_STATUS_THR_STUCK 1 0 0 rfl (by decide) (by decide) (by decide)).trans stuck,
      State.fld_setFld_same _ FB_INPUT_STATUS_THR_ACTIVE _ _ _ (by decide) (by decide),
      kept.trans (State.regsKept_setFld _ _ _ _ (List.mem_singleton.mpr rfl))⟩
  · rw [if_neg low, if_neg low]
    exact ⟨stuck, active, kept⟩

theorem State.inputCtrl_spec (v : Nat) : ∃ x : State, s.writeTyped FB_INPUT_CTRL 0 0 v = x ∧ x.fld FB_INPUT_CTRL_THR_EN = v / 2 ^ 30 % 2 ∧
    x.fld FB_INPUT_CTRL_THR_MIN = v % 256 ∧
    x.fld FB_INPUT_CTRL_THR_LIMIT = (if s.fld BN_LOCK_LOCK = 1 then s.fld FB_INPUT_CTRL_THR_LIMIT else v / 256 % 256) ∧
    x.pins = s.pins ∧ s.RegsKept x [FB_INPUT_CTRL.addr 0 0] := by
  have order : descend 32 FB_INPUT_CTRL.fields = true := by decide
  refine ⟨_, rfl, (State.fld_writeTyped order s (ty := .rw) (reset := 1) 0 0 rfl (by decide)).trans ?_,
    (State.fld_writeTyped order s (ty := .rw) (reset := 0xa) 0 0 rfl (by decide)).trans ?_,
    (State.fld_writeTyped order s (ty := .rwl) (reset := 0x32) 0 0 rfl (by decide)).trans ?_, rfl, State.regsKept_writeTyped⟩
  · simp only [FTy.write, bits, FB_INPUT_CTRL_THR_EN, Nat.shiftRight_eq_div_pow]
    omega
  · simp only [FTy.write, bits, FB_INPUT_CTRL_THR_MIN, Nat.shiftRight_eq_div_pow]
    omega
  · have word : bits v 15 8 = v / 256 % 256 := by
      simp only [bits, Nat.shiftRight_eq_div_pow]
      omega
    simp only [FTy.write, State.locked, decide_eq_true_eq]
    exact if_congr Iff.rfl rfl word

theorem does_thrRearm {v : Nat} (hv : v < 2 ^ 32) {p : State → Prop}
    (h : ∀ net bn, p (s.after (let x := State.writeTyped { s with net := net, bn := bn } FB_INPUT_CTRL 0 0 v
      if bit v 31 = true ∧ x.fld FB_INPUT_STATUS_THR_STUCK = 1 then x.thrRearmed else x))) : Does (.thrRearm v) s p := by
  obtain ⟨net, bn, served⟩ := s.serveWrite_frame (FB_INPUT_CTRL.addr 0 0) v
  have alive : s.regAlive (FB_INPUT_CTRL.addr 0 0) = true := by
    have block : blockOf (FB_INPUT_CTRL.addr 0 0) = some (.fb, 0) := by decide +kernel
    simp only [State.regAlive, block]
  refine (Gives.of_run (exec_thrRearm v s) (decide_eq_true hv) ?_).does (h net bn)
  rw [State.regWrite, if_pos alive, served]
  rfl

/-! ## The TAP -/

theorem bits_eq_div (d : Nat) {hi lo k : Nat} (h : hi + 1 = lo + k) : bits d hi lo = d / 2 ^ lo % 2 ^ k := by
  rw [bits, Nat.shiftRight_eq_div_pow, h, Nat.add_sub_cancel_left]

/-- The field of an address in units of 2^k. -/
theorem bits_div_mul (d : Nat) {hi lo top k m : Nat} (width : hi + 1 = lo + (k + m)) (h : top = lo + k) :
    bits d hi lo / 2 ^ k * 2 ^ k = d / 2 ^ top % 2 ^ m * 2 ^ k := by
  rw [bits_eq_div d width, Nat.pow_add 2 k m, Nat.mod_mul_right_div_self, Nat.div_div_eq_div_mul, ← Nat.pow_add, h]

theorem gives_memdbg {d : Nat} {t : State} (hd : d < 2 ^ 2112)
    (h : (if s.fld FB_SCAN_CFG_JTAG_EN = 1 then
      (s.tapIn 0x21 s.tap.back).debugTx (bits d 2087 2084) (bits d 2083 2048 / 256 * 256) (bit d 2088) (bits d 2047 0)
      else s.tapIn 0x21 0) = t) : Gives (.memdbg d) s t := by
  refine Gives.of_run (exec_memdbg d s) ?_ h
  simp only [Instr.wf]
  rw [decide_eq_true_iff]
  exact hd

theorem State.memdbgTx_eq (x : State) (d : Nat) :
    x.debugTx (bits d 2087 2084) (bits d 2083 2048 / 256 * 256) (bit d 2088) (bits d 2047 0) =
      x.debugTx (d / 2 ^ 2084 % 2 ^ 4) (d / 2 ^ 2056 % 2 ^ 28 * 256) (d / 2 ^ 2088 % 2 == 1) (d % 2 ^ 2048) := by
  have port : bits d 2087 2084 = d / 2 ^ 2084 % 2 ^ 4 := bits_eq_div d rfl
  have addr : bits d 2083 2048 / 256 * 256 = d / 2 ^ 2056 % 2 ^ 28 * 256 := bits_div_mul d (k := 8) rfl rfl
  have wr : bit d 2088 = (d / 2 ^ 2088 % 2 == 1) := bit_eq d 2088
  have data : bits d 2047 0 = d % 2 ^ 2048 := by rw [bits, Nat.shiftRight_zero]
  rw [port, addr, wr, data]

end

/-- Settles O9: each input is judged by THR_STUCK, each instruction by JTAG_EN. -/
theorem throttleAndJtagInputs : Obligations.ThrottleAndJtagInputs := by
  unfold Obligations.ThrottleAndJtagInputs
  refine ⟨fun s v hv => ⟨fun obeyed => ?_, ?_, fun low obeyed => ?_, fun high => ?_, ?_⟩, fun s d hd hjep => ⟨?_, ?_, ?_, fun off => ⟨?_, ?_⟩,
    fun on => ⟨?_, fun jtag f t next => ?_⟩⟩⟩
  · obtain ⟨x, ex, ⟨regs, frame⟩, edges, merged, kept⟩ := State.thrCounted_spec { s with pins := { s.pins with thrLow := true } }
    refine does_throttleAssert obeyed ?_
    rw [ex]
    have stuck : x.fld FB_INPUT_STATUS_THR_STUCK = 0 := (kept.fld (f := FB_INPUT_STATUS_THR_STUCK) inputCnt_ne_status.1).trans obeyed
    have counts (f : Fld) (hr : f.reg = FB_INPUT_CNT) : (x.setFld FB_INPUT_STATUS_THR_ACTIVE 1).fld f = x.fld f :=
      State.fld_setFld_ne _ _ _ _ _ _ _ _ (by rw [hr]; decide)
    refine ⟨State.fld_setFld_same x FB_INPUT_STATUS_THR_ACTIVE _ _ _ (by decide) (by decide),
      (State.fld_setFld_apart x FB_INPUT_STATUS_THR_ACTIVE FB_INPUT_STATUS_THR_STUCK 1 0 0 rfl (by decide) (by decide) (by decide)).trans stuck, ?_,
      (counts FB_INPUT_CNT_THR_EDGES rfl).trans edges, (counts FB_INPUT_CNT_THR_MERGED rfl).trans merged, ?_, ?_⟩
    · rw [frame]
      rfl
    · exact (kept.mono (List.subset_cons_self _ _)).trans (t := x) (State.regsKept_setFld _ _ _ _ (by simp [FB_INPUT_STATUS_THR_ACTIVE]))
    · rw [frame]
      rfl
  · exact (Gives.of_run (exec_thrMinExpire s) rfl rfl).does
      ⟨State.fld_setFld_same _ FB_INPUT_STATUS_THR_ACTIVE _ _ _ (by decide) (by decide), rfl,
        State.RegsKept.trans (t := { s with pins := { s.pins with thrLow := false } }) .refl
          (State.regsKept_setFld _ _ _ _ (List.mem_singleton.mpr rfl)), rfl⟩
  · obtain ⟨stuck, active, count, kept⟩ := s.thrHeld_spec
    exact (Gives.of_run (exec_thrStuck s) rfl (if_pos ⟨low, obeyed⟩)).does ⟨stuck, active, count, kept, rfl⟩
  · exact Gives.of_run (exec_thrStuck s) rfl (if_neg fun h => Bool.false_ne_true (high.symm.trans h.1))
  · refine does_thrRearm hv fun net bn => ?_
    obtain ⟨x, ex, en, min, limit, pins, kept⟩ := State.inputCtrl_spec (s := { s with net := net, bn := bn }) v
    have status (f : Fld) (hr : f.reg = FB_INPUT_STATUS) : x.fld f = s.fld f := kept.fld (by rw [hr]; decide)
    obtain ⟨y, ey, stuck, active, kept2⟩ := x.thrRearmed_spec
    have ctrl (f : Fld) (hr : f.reg = FB_INPUT_CTRL) : y.fld f = x.fld f := kept2.fld (by rw [hr]; decide)
    have kept3 : s.RegsKept x [FB_INPUT_CTRL.addr 0 0, FB_INPUT_STATUS.addr 0 0] := kept.mono (by simp)
    simp only [ex]
    rw [bit_eq]
    by_cases rearm : decide (v / 2 ^ 31 % 2 = 1) = true ∧ x.fld FB_INPUT_STATUS_THR_STUCK = 1
    · rw [if_pos rearm, ey]
      refine ⟨(ctrl FB_INPUT_CTRL_THR_EN rfl).trans en, (ctrl FB_INPUT_CTRL_THR_MIN rfl).trans min, (ctrl FB_INPUT_CTRL_THR_LIMIT rfl).trans limit,
        fun _ _ => ⟨stuck, active.trans ?_⟩, fun off => ?_, kept3.trans (kept2.mono (by simp))⟩
      · rw [pins, status FB_INPUT_STATUS_THR_ACTIVE rfl]
      · exact absurd (off.symm.trans (of_decide_eq_true rearm.1)) Nat.zero_ne_one
    · rw [if_neg rearm]
      refine ⟨en, min, limit, fun on held => absurd ⟨decide_eq_true on, (status FB_INPUT_STATUS_THR_STUCK rfl).trans held⟩ rearm, fun _ => ?_, kept3⟩
      exact kept.rd (by decide)
  · refine (Gives.of_run (exec_idcode s) rfl rfl).congr ?_
    rw [Nat.mod_eq_of_lt hjep, Nat.shiftLeft_eq, Nat.shiftLeft_eq, Nat.shiftLeft_eq]
    rfl
  · exact Gives.of_run (exec_bypass s) rfl rfl
  · exact Gives.of_run (exec_trst s) rfl rfl
  · exact Gives.of_run (exec_scan s) rfl (if_neg fun h => Nat.zero_ne_one (off.symm.trans h.1))
  · exact gives_memdbg hd (if_neg fun h => Nat.zero_ne_one (off.symm.trans h))
  · exact gives_memdbg hd ((if_pos on).trans (State.memdbgTx_eq _ d))
  · refine (Gives.of_run (exec_scan s) rfl ((if_pos ⟨on, jtag⟩).trans (by rw [next]))).congr ?_
    simp only [State.tapIn, Nat.shiftLeft_eq]

end Sys2Proof.Machine

/-! # Charts: start, load, report and abort (R60, R76, R80 to R84, R192, R368): the proof of ChartsStartLoadReportAndAbort -/

namespace Sys2Proof.Machine

section

variable {s : State} {n : Nat} {p : Pkt}

/-! ## START -/

/-- The chart that START names, as the NI holds it. -/
def State.chartHeld (w : State) (n : Nat) (p : Pkt) (saved : Nat × SMap Nat) : ChartRun :=
  ⟨p.arg 0, p.arg 4, if p.arg 2 = 1 then ofBytes (w.hbmBytes (adBig (p.arg 5) + 8) 8) else 0, p.src.slot, p.arg 3 == 1, w.chartTen n p, 0,
    some saved.1, saved.2, none, p.arg 4, none, none, [], 0, false, w.armedAt p, saved.1, false⟩

def State.chartSaved (w : State) (n : Nat) (p : Pkt) : Nat × SMap Nat := if p.arg 2 = 1 then w.savedMember n (p.arg 5) else (p.arg 1, [])

/-- The NI once it holds the chart. -/
def State.chartTaken (w : State) (n : Nat) (p : Pkt) : State :=
  let saved := w.chartSaved n p
  let run := w.chartHeld n p saved
  ((w.setCh n (some run)).landAgain n).modRt n fun r => { r with
    binds := (w.bindings n run (p.arg 1)).2, ended := none, strict := w.chartStrict run, sat := false, readyNext := saved.2, signals := [],
    prevDep := [], crc := crc64Init, crcFlits := 0 }

theorem State.landAgain_frame (x : State) (n : Nat) : ∃ ol, x.landAgain n = { x with ol := ol } := by
  have any (l : List Nat) (y : State) : ∃ ol, l.foldl (fun s p => match offDie n p with
      | some (.ol x) => s.modOl x (fun l => { l with dropFrom := none })
      | _ => s) y = { y with ol := ol } := by
    induction l generalizing y with
    | nil => exact ⟨y.ol, rfl⟩
    | cons q l ih =>
      rw [List.foldl_cons]
      split
      · obtain ⟨ol, e⟩ := ih (y.modOl _ fun l => { l with dropFrom := none })
        exact ⟨ol, e⟩
      · exact ih y
  exact any _ x

/-- How START ends for an NI that has taken the chart. -/
def State.chartBegun (w : State) (n : Nat) (p : Pkt) : State :=
  if (w.chartTaken n p).fld NI_CHART_CTRL_ENABLE n = 0 then (w.chartTaken n p).segFail n 0 stABORTED
  else if p.arg 4 < (w.rg (regionOf n)).L ∨ (p.arg 4 = (w.rg (regionOf n)).L ∧ 0 < (w.rg (regionOf n)).slot) then
    ((w.chartTaken n p).niCause n NI_CHART_STATUS_LAUNCH_LATE 9 10).segFail n 0 stABORTED
  else match (w.bindings n (w.chartHeld n p (w.chartSaved n p)) (p.arg 1)).1 with
    | some st => (w.chartTaken n p).segFail n 0 st
    | none => w.chartTaken n p

theorem State.strict_landed (w : State) (n : Nat) (c : Option ChartRun) (run : ChartRun) :
    ((w.setCh n c).landAgain n).chartStrict run = w.chartStrict run ∧ ∀ r, ((w.setCh n c).landAgain n).rg r = w.rg r := by
  obtain ⟨ol, e⟩ := (w.setCh n c).landAgain_frame n
  rw [e]
  exact ⟨rfl, fun _ => rfl⟩

/-- An NI takes the chart that START names for a tenancy it serves (R368, R375). -/
abbrev State.chartTakes (s : State) (n : Nat) (p : Pkt) : Prop :=
  if p.arg 3 = 1 then s.tnState n < 2 else s.tnState n = 1 ∧ s.owner n = s.chartTen n p

theorem State.startAt_forged (system : p.arg 3 = 1) (forged : p.src.port ≠ 5) :
    s.startAt n p = s.report .ni n 15 (p.src.x * 64 + p.src.y) := by
  have h : (p.arg 3 == 1 && p.src.port != 5) = true := by simp [system, forged]
  rw [State.startAt]
  refine (if_pos h).trans ?_
  rw [Nat.shiftLeft_eq]

theorem State.refuses_eq : (if (p.arg 3 == 1) = true then decide (2 ≤ s.tnState n) else s.tnState n != 1 || s.owner n != s.chartTen n p) =
    !decide (s.chartTakes n p) := by
  by_cases system : p.arg 3 = 1
  · simp only [system, State.chartTakes, beq_self_eq_true, if_true, ← decide_not, Nat.not_lt]
  · simp only [system, State.chartTakes, beq_iff_eq, if_false]
    by_cases state : s.tnState n = 1 <;> by_cases mine : s.owner n = s.chartTen n p <;> simp [state, mine]

theorem State.startAt_judged (genuine : p.arg 3 ≠ 1 ∨ p.src.port = 5) (refused : ¬ s.chartTakes n p) :
    s.startAt n p = s.emit (mkPkt opSEG_ABORT (niLoc n) p.src 0 0 0 [stACCESS_DENIED, p.arg 0, 0]) := by
  have h : ¬ (p.arg 3 == 1 && p.src.port != 5) = true := by
    obtain other | bn := genuine <;> simp_all
  have h2 := (State.refuses_eq (s := s) (n := n) (p := p)).trans (congrArg (!·) (decide_eq_false refused))
  exact (if_neg h).trans (if_pos h2)

theorem State.startAt_taken (genuine : p.arg 3 ≠ 1 ∨ p.src.port = 5) (takes : s.chartTakes n p) :
    s.startAt n p = (s.applyAbort n stABORTED).chartBegun n p := by
  have h : ¬ (p.arg 3 == 1 && p.src.port != 5) = true := by
    obtain other | bn := genuine <;> simp_all
  have h2 := (State.refuses_eq (s := s) (n := n) (p := p)).trans (congrArg (!·) (decide_eq_true takes))
  refine (if_neg h).trans ((if_neg (ne_true_of_eq_false h2)).trans ?_)
  generalize s.applyAbort n stABORTED = w
  have saved : (if (p.arg 2 == 1) = true then w.savedMember n (p.arg 5) else (p.arg 1, [])) = w.chartSaved n p :=
    if_congr beq_iff_eq rfl rfl
  have cb : (if (p.arg 2 == 1) = true then ofBytes (w.hbmBytes (adBig (p.arg 5) + 8) 8) else 0) =
    if p.arg 2 = 1 then ofBytes (w.hbmBytes (adBig (p.arg 5) + 8) 8) else 0 := if_congr beq_iff_eq rfl rfl
  simp only [saved, cb]
  have strict (run : ChartRun) := (w.strict_landed n (some run) run).1
  have region (run : ChartRun) (r : Nat) := (w.strict_landed n (some run) run).2 r
  simp only [strict, State.rg_modRt, region]
  rfl

theorem gives_start {t : State} (hn : n < 2304) (hp : okPkt p = true) (thawed : s.frozenAt n = false) (up : s.niUp n = true)
    (kind : p.kind = opSTART) (h : (s.takeNet (.unit (niLoc n)) p).startAt n p = t) : Gives (.start n p) s t := by
  refine Gives.of_run (exec_start n p s) (by simp only [Instr.wf, okSlot, hn, hp, decide_true, Bool.and_self]) ?_
  exact (if_neg (not_not.mpr kind)).trans ((State.atNi_of_up _ thawed up).trans h)

/-! ## A segment that streams -/

/-- The events of a segment's reading (R65, R66, R80). -/
def State.segNoted (s : State) (n : Nat) (r : LoadRes) : State :=
  let s := if r.ce then s.niCause n NI_CHART_STATUS_ENTRY_CE 9 5 else s
  let s := if r.ue then s.niCause n NI_CHART_STATUS_ENTRY_UE 9 6 else s
  let s := if r.stale then s.niCause n NI_CHART_STATUS_STALE 9 4 else s
  if r.fenced then s.report .ni n 9 31 else s

theorem gives_segmentLoaded {c : ChartRun} {ofs : Nat} {t : State} (hn : n < 2304) (thawed : s.frozenAt n = false) (up : s.niUp n = true)
    (chart : s.ch n = some c) (room : (s.rt n).idle = none) (loading : c.loading = some ofs) (going : c.abortPend = none)
    (h : (if (s.readSeg n c ofs).bad.isEmpty then (s.segNoted n (s.readSeg n c ofs)).bankSeg n c (s.readSeg n c ofs).img
      else (s.segNoted n (s.readSeg n c ofs)).segFail n (s.readSeg n c ofs).img.seg (firstStatus (s.readSeg n c ofs).bad)) = t) :
    Gives (.segmentLoaded n) s t := by
  have goes : ¬ (s.niUp n = false ∨ s.frozenAt n = true ∨ c.abortPend.isSome = true) := by simp [up, thawed, going]
  refine Gives.of_run (exec_segmentLoaded n s) (decide_eq_true hn) ?_
  simp only [chart, room, loading]
  exact (if_neg goes).trans h

theorem State.bankSeg_held {c : ChartRun} {g : SegImg} (held : s.ctxHeld n g = true) :
    s.bankSeg n c g = s.setCh n (some { c with loading := none, waitSeg := some g }) := if_pos held

theorem State.bankSeg_free {c : ChartRun} {g : SegImg} (free : s.ctxHeld n g = false) : ∃ x : State, s.bankSeg n c g = x ∧
    (x.rt n).idle = some g ∧ x.ch n = some { c with loading := none, waitSeg := none } ∧ x.regs = s.regs ∧ x.net = s.net := by
  refine ⟨_, if_neg (ne_true_of_eq_false free), ?_, State.ch_setCh_same _ n _, rfl, rfl⟩
  exact congrArg Router.idle (SMap.get_put_same _ _ _ _)

theorem gives_loadWaitEnd {c : ChartRun} {g : SegImg} {t : State} (hn : n < 2304) (chart : s.ch n = some c) (waits : c.waitSeg = some g)
    (h : (if s.ctxHeld n g ∨ c.sent = true then s else s.bankSeg n c g) = t) : Gives (.loadWaitEnd n) s t := by
  refine Gives.of_run (exec_loadWaitEnd n s) (decide_eq_true hn) ?_
  simp only [chart, waits]
  exact h

/-! ## SEG_DONE -/

/-- A packet of an NI enters its router at the NI's port. -/
theorem State.niSend_eq (o : Op) (dst : Loc) (ten flow txn : Nat) (args : List Nat) :
    s.niSend n o dst ten flow txn args = s.push (.router n 4) (mkPkt o (niLoc n) dst ten flow txn args) := by
  have src : (mkPkt o (niLoc n) dst ten flow txn args).src = niLoc n := rfl
  simp only [State.niSend, State.emit, src, niLoc_port, niLoc_slot, Nat.reduceEqDiff, if_true, if_false]

/-- A transaction is a booked write of a segment (R342). -/
def isBooked (a chart seg : Nat) (t : MTx) : Bool := decide (t.kind = .bookWrite) && t.req == a && t.chart == chart && t.seg == seg

def MPort.all (m : MPort) : List MTx := m.ready ++ m.cur.toList ++ m.suspended.toList ++ m.issued

/-- A booked write of a segment has not committed. -/
def State.bookOpen (s : State) (n chart seg : Nat) : Bool :=
  (List.range 4).any fun q => match offDie n q with
    | some (.mp m a) => (s.mpt m).all.any (isBooked a chart seg)
    | _ => false

theorem State.bookOpen_of_committed {chart seg : Nat} (h : ∀ q < 4, ∀ m a, offDie n q = some (.mp m a) →
    ∀ t ∈ (s.mpt m).all, t.kind ≠ .bookWrite ∨ t.req ≠ a ∨ t.chart ≠ chart ∨ t.seg ≠ seg) : s.bookOpen n chart seg = false := by
  rw [State.bookOpen, List.any_eq_false]
  intro q hq
  split
  · next m a at_ =>
    rw [Bool.not_eq_true, List.any_eq_false]
    intro t mem booked
    simp only [isBooked, Bool.and_eq_true, decide_eq_true_eq, beq_iff_eq] at booked
    obtain ⟨⟨⟨kind, req⟩, chart_⟩, seg_⟩ := booked
    obtain other | other | other | other := h q (List.mem_range.mp hq) m a at_ t mem
    · exact other kind
    · exact other req
    · exact other chart_
    · exact other seg_
  · exact Bool.false_ne_true

/-- What an NI does once a segment is whole: SEG_DONE to the launcher. -/
def State.doneSent (s : State) (n : Nat) (c : ChartRun) (seg st : Nat) (rest : List (Nat × Nat)) : State :=
  let s := s.niSend n opSEG_DONE c.home c.ten 0 0 [c.chart, seg, st]
  let c' := { c with donePend := rest }
  let ended := rest.isEmpty && c.sent && c.status == 0 && (s.rt n).cur.isNone && (s.rt n).idle.isNone
  s.setCh n (if ended then none else some c')

theorem gives_segDoneSend {c : ChartRun} {seg st : Nat} {rest : List (Nat × Nat)} {t : State} (hn : n < 2304) (chart : s.ch n = some c)
    (pend : c.donePend = (seg, st) :: rest)
    (h : (if s.niUp n = false ∨ s.frozenAt n = true ∨ s.bookOpen n c.chart seg = true ∨ (s.rt n).ejecting.any (fun e => e.seg == seg) = true then s
      else s.doneSent n c seg st rest) = t) : Gives (.segDoneSend n) s t := by
  refine Gives.of_run (exec_segDoneSend n s) (decide_eq_true hn) ?_
  simp only [chart, pend]
  exact h

theorem State.doneSent_spec (c : ChartRun) (seg st : Nat) (rest : List (Nat × Nat)) : ∃ x : State, s.doneSent n c seg st rest = x ∧
    x.net = s.net ++ [⟨.router n 4, mkPkt opSEG_DONE (niLoc n) c.home c.ten 0 0 [c.chart, seg, st]⟩] ∧
    (rest ≠ [] → x.ch n = some { c with donePend := rest }) ∧ x.regs = s.regs ∧ x.spad = s.spad ∧ x.hbm = s.hbm := by
  simp only [State.doneSent, State.niSend_eq]
  refine ⟨_, rfl, rfl, fun more => ?_, rfl, rfl, rfl⟩
  · refine (State.ch_setCh_same _ n _).trans ?_
    rw [List.isEmpty_eq_false_iff.mpr more]
    rfl

/-! ## SEG_ABORT and ABORT -/

/-- The first SEG_ABORT of a launched chart: ABORT to every member (R84). -/
def State.abortSent (s : State) (n : Nat) (p : Pkt) (l : Launch) : State :=
  l.members.foldl (fun s m => s.niSend n opABORT (niLoc m) 0 0 0 [p.arg 0, l.chart, p.arg 2]) s

def State.pauseLost (s : State) (l : Launch) : State :=
  match l.pause with
  | some (d, _) => s.finish d stABORTED
  | none => s

/-- The launch as it is kept after its abort. -/
def Launch.aborted (l : Launch) (p : Pkt) (gen : Option Nat) : Launch :=
  { l with abort := some (p.arg 0, p.arg 2), pause := none, holdGen := gen }

def State.launchSet (s : State) (desc : Nat) (k : Launch) : State :=
  { s with launches := updFirst (fun x => x.desc == desc) (fun _ => k) s.launches }

def State.launchAborted (s : State) (n : Nat) (p : Pkt) (l : Launch) : State :=
  let v := (s.abortSent n p l).pauseLost l
  let k := l.aborted p (if v.heldForRepair p.src.slot l.chart (p.arg 0) then some (v.fld FB_MAP_GEN_GEN) else none)
  let y := v.launchSet l.desc k
  let y := if k.holdGen.isSome = true ∧ y.bnUp = false then y.modBn (fun b => { b with halted := b.halted ++ [l.ten] }) else y
  if k.holdGen.isSome then y else y.segComplete k (p.arg 2) (p.arg 0) true

theorem State.launchAborted_free {l : Launch} (free : ((s.abortSent n p l).pauseLost l).heldForRepair p.src.slot l.chart (p.arg 0) = false) :
    s.launchAborted n p l = (((s.abortSent n p l).pauseLost l).launchSet l.desc (l.aborted p none)).segComplete (l.aborted p none) (p.arg 2) (p.arg 0) true := by
  simp only [State.launchAborted, free, Bool.false_eq_true, if_false, Launch.aborted, Option.isSome_none, false_and]

theorem State.launchAborted_held {l : Launch} (held : ((s.abortSent n p l).pauseLost l).heldForRepair p.src.slot l.chart (p.arg 0) = true) :
    s.launchAborted n p l =
      let v := (s.abortSent n p l).pauseLost l
      let y := v.launchSet l.desc (l.aborted p (some (v.fld FB_MAP_GEN_GEN)))
      if v.bnUp then y else y.modBn fun b => { b with halted := b.halted ++ [l.ten] } := by
  simp only [State.launchAborted, held, if_true, Launch.aborted, Option.isSome_some, true_and]
  generalize (s.abortSent n p l).pauseLost l = v
  have same (k : Launch) : (v.launchSet l.desc k).bnUp = v.bnUp := rfl
  rw [same]
  cases v.bnUp <;> rfl

theorem gives_segAbort {t : State} (hn : n < 2304) (hp : okPkt p = true) (kind : p.kind = opSEG_ABORT)
    (h : (if p.dst.port = 5 then if (s.takeNet (.unit bnLoc) p).bnUp then (s.takeNet (.unit bnLoc) p).systemAbort p else s.takeNet (.unit bnLoc) p
      else s.atNi n p fun s => match s.launches.find? (fun l => l.ni == n && l.chart == p.arg 1 && l.abort.isNone) with
        | none => s
        | some l => s.launchAborted n p l) = t) : Gives (.segAbort n p) s t :=
  Gives.of_run (exec_segAbort n p s) (by simp only [Instr.wf, okSlot, hn, hp, decide_true, Bool.and_self]) ((if_neg (not_not.mpr kind)).trans h)

theorem gives_segDone {t : State} (hn : n < 2304) (hp : okPkt p = true) (kind : p.kind = opSEG_DONE)
    (h : (if p.dst.port = 5 then s.takeNet (.unit bnLoc) p
      else s.atNi n p fun s => match s.launches.find? (fun l => l.ni == n && l.chart == p.arg 0) with
        | none => s
        | some l => State.report83 { s with launches := updFirst (fun x => x.desc == l.desc) (fun x => { x with
            done := x.done ++ [(p.arg 1, p.src.slot, p.arg 2)] }) s.launches } l.desc (l.done.length + 1)) = t) : Gives (.segDone n p) s t :=
  Gives.of_run (exec_segDone n p s) (by simp only [Instr.wf, okSlot, hn, hp, decide_true, Bool.and_self]) ((if_neg (not_not.mpr kind)).trans h)

theorem gives_abort {c : ChartRun} {t : State} (hn : n < 2304) (hp : okPkt p = true) (thawed : s.frozenAt n = false) (up : s.niUp n = true)
    (kind : p.kind = opABORT) (chart : s.ch n = some c) (mine : c.chart = p.arg 1)
    (h : (s.takeNet (.unit (niLoc n)) p).setCh n (some { c with abortPend := some (p.arg 0), sent := true }) = t) : Gives (.abort n p) s t := by
  refine Gives.of_run (exec_abort n p s) (by simp only [Instr.wf, okSlot, hn, hp, decide_true, Bool.and_self]) ((if_neg (not_not.mpr kind)).trans ?_)
  refine (State.atNi_of_up _ thawed up).trans ?_
  have held : (s.takeNet (.unit (niLoc n)) p).ch n = some c := chart
  simp only [held]
  exact (if_pos mine).trans h

end

/-- Settles O10: START at an NI in service is one decision list; the other rows follow from their own conditions. -/
theorem chartsStartLoadReportAndAbort : Obligations.ChartsStartLoadReportAndAbort := by
  unfold Obligations.ChartsStartLoadReportAndAbort
  refine ⟨fun s n p c ofs hn hp thawed up => ⟨fun kind => ?_, fun chart room loading going => ?_, fun g chart waits going => ⟨fun free => ?_, fun held => ?_⟩⟩,
    fun s n p c l hn hp thawed up => ?_⟩
  · have start {t : State} (h : (s.takeNet (.unit (niLoc n)) p).startAt n p = t) : Gives (.start n p) s t := gives_start hn hp thawed up kind h
    intro u w saved run v late takes
    have held : run = w.chartHeld n p (w.chartSaved n p) := rfl
    have taken : v = w.chartTaken n p := rfl
    rw [taken, held]
    have judge (genuine : p.arg 3 ≠ 1 ∨ p.src.port = 5) (ok : takes) {t : State} (h : w.chartBegun n p = t) : Gives (.start n p) s t :=
      start ((State.startAt_taken (s := u) genuine ok).trans h)
    have early_ : late ↔ p.arg 4 < (w.rg (regionOf n)).L ∨ (p.arg 4 = (w.rg (regionOf n)).L ∧ 0 < (w.rg (regionOf n)).slot) := Iff.rfl
    have refuse (genuine : p.arg 3 ≠ 1 ∨ p.src.port = 5) (refused : ¬ takes) := State.startAt_judged (s := u) genuine refused
    clear_value v run saved w late takes
    have enable (on : (w.chartTaken n p).fld NI_CHART_CTRL_ENABLE n = 1) : ¬ (w.chartTaken n p).fld NI_CHART_CTRL_ENABLE n = 0 := fun off =>
      Nat.one_ne_zero (on.symm.trans off)
    refine ⟨fun system forged => start (State.startAt_forged system forged), fun genuine => ⟨fun refused => start (refuse genuine refused),
      fun ok disabled => judge genuine ok (if_pos disabled), fun ok on => ⟨fun early good => ?_, fun early st bad => ?_, fun late_ => ?_⟩⟩⟩
    · refine judge genuine ok ((if_neg (enable on)).trans ((if_neg (mt early_.mpr early)).trans ?_))
      rw [good]
    · refine judge genuine ok ((if_neg (enable on)).trans ((if_neg (mt early_.mpr early)).trans ?_))
      rw [bad]
    · exact judge genuine ok ((if_neg (enable on)).trans (if_pos (early_.mp late_)))
  · intro r s1 s2 s3 v
    refine ⟨fun good free => ?_, fun good held => ?_, fun bad => ?_⟩
    · obtain ⟨x, ex, idle, ch, regs, net⟩ := State.bankSeg_free (c := c) free
      exact (gives_segmentLoaded hn thawed up chart room loading going ((if_pos (List.isEmpty_iff.mpr good)).trans ex)).does ⟨idle, ch, regs, net⟩
    · exact gives_segmentLoaded hn thawed up chart room loading going ((if_pos (List.isEmpty_iff.mpr good)).trans (State.bankSeg_held held))
    · exact gives_segmentLoaded hn thawed up chart room loading going (if_neg (mt List.isEmpty_iff.mp bad))
  · obtain ⟨x, ex, idle, ch, regs, net⟩ := State.bankSeg_free (c := c) free
    exact (gives_loadWaitEnd hn chart waits ((if_neg (by simp [free, going])).trans ex)).does ⟨idle, ch, regs, net⟩
  · exact gives_loadWaitEnd hn chart waits (if_pos (.inl held))
  · intro u
    have there {f : State → State} : s.atNi n p f = f u := State.atNi_of_up f thawed up
    refine ⟨fun seg st rest chart pend written committed => ?_, fun seg st rest e chart pend mem same => ?_, fun kind bn => ?_, fun kind bn booted => ?_,
      fun kind other found => ?_, fun kind other none_ => ?_, fun kind other found => ?_, fun kind chart mine => ?_⟩
    · have goes : ¬ (s.niUp n = false ∨ s.frozenAt n = true ∨ s.bookOpen n c.chart seg = true ∨
          (s.rt n).ejecting.any (fun e => e.seg == seg) = true) := by
        simpa [up, thawed, State.bookOpen_of_committed committed] using written
      obtain ⟨x, ex, props⟩ := State.doneSent_spec (s := s) (n := n) c seg st rest
      exact (gives_segDoneSend hn chart pend ((if_neg goes).trans ex)).does props
    · exact gives_segDoneSend hn chart pend (if_pos (.inr (.inr (.inr (List.any_eq_true.mpr ⟨e, mem, beq_iff_eq.mpr same⟩)))))
    · exact gives_segDone hn hp kind (if_pos bn)
    · exact gives_segAbort hn hp kind ((if_pos bn).trans (if_pos booted))
    · refine gives_segDone hn hp kind ((if_neg other).trans (there.trans ?_))
      have found : u.launches.find? (fun l => l.ni == n && l.chart == p.arg 0) = some l := found
      rw [found]
      rfl
    · refine gives_segAbort hn hp kind ((if_neg other).trans (there.trans ?_))
      have none_ : u.launches.find? (fun l => l.ni == n && l.chart == p.arg 1 && l.abort.isNone) = none := none_
      rw [none_]
    · have first {t : State} (h : u.launchAborted n p l = t) : Gives (.segAbort n p) s t := by
        refine gives_segAbort hn hp kind ((if_neg other).trans (there.trans ?_))
        have found : u.launches.find? (fun l => l.ni == n && l.chart == p.arg 1 && l.abort.isNone) = some l := found
        rw [found]
        exact h
      exact ⟨fun free => first (State.launchAborted_free free), fun held => first (State.launchAborted_held held)⟩
    · exact gives_abort hn hp thawed up kind chart mine rfl

end Sys2Proof.Machine

/-! # Routers (R97, R105 to R112, R152): the proof of RoutersRouteAndServePackets -/

namespace Sys2Proof.Machine

section

variable {s : State} {n port : Nat} {p : Pkt}

/-! ## The way of a header -/

/-- An output of a router that leads on. -/
abbrev State.serves (s : State) (n o : Nat) : Prop := o < 4 ∧ (neighbour n o).isSome = true ∧ s.portOut n o = false

theorem State.follow_of_serves {o : Nat} (h : s.serves n o) : s.follow n o p = .out o { p with hops := min 127 (p.hops + 1) } :=
  (if_neg (Nat.ne_of_lt h.1)).trans (if_pos h)

theorem State.follow_of_dead {o : Nat} (low : o < 4) (dead : ¬ s.serves n o) : s.follow n o p = .drop 1 :=
  (if_neg (Nat.ne_of_lt low)).trans (if_neg dead)

theorem zeroAsOne_eq (v : Nat) : zeroAsOne v = max 1 v := by
  rw [zeroAsOne]
  split <;> omega

theorem bits_out (e : Nat) : bits e 14 12 = e / 2 ^ 12 % 8 := bits_eq_div e (k := 3) rfl

theorem State.route_eq (unicast : p.dst.port ≠ 7) : s.route n port p =
    if (s.entryFor n p).testBit 15 = false then .drop 0
    else match s.ownPartial n p with
      | some r => s.follow n (escField (s.entryFor n p) r.gen) { p with esc := true, egen := r.gen }
      | none =>
        if p.esc = true then s.follow n (escField (s.entryFor n p) p.egen) p
        else if p.fabric = true then
          s.follow n (escField (s.entryFor n p) (s.fld RT_CFG_ESC_GEN n)) { p with egen := s.fld RT_CFG_ESC_GEN n }
        else if (s.entryFor n p / 2 ^ 12 % 8 < 4 ∧ s.portOut n (s.entryFor n p / 2 ^ 12 % 8) = true) ∨ max 1 (s.fld RT_CFG_HOP_LIMIT n) ≤ p.hops then
          s.follow n (escField (s.entryFor n p) (s.fld RT_CFG_ESC_GEN n)) { p with esc := true, egen := s.fld RT_CFG_ESC_GEN n }
        else s.follow n (s.entryFor n p / 2 ^ 12 % 8) p := by
  rw [← bits_out, ← zeroAsOne_eq]
  refine (if_neg unicast).trans (if_congr Iff.rfl rfl ?_)
  cases s.ownPartial n p <;> rfl

section

variable (unicast : p.dst.port ≠ 7) (entry : (s.entryFor n p).testBit 15 = true)

include unicast entry

theorem State.route_partial {r : RRed} (own : s.ownPartial n p = some r) :
    s.route n port p = s.follow n (escField (s.entryFor n p) r.gen) { p with esc := true, egen := r.gen } := by
  rw [State.route_eq unicast, entry, if_neg nofun, own]

theorem State.route_escape (other : s.ownPartial n p = none) (esc : p.esc = true) :
    s.route n port p = s.follow n (escField (s.entryFor n p) p.egen) p := by
  rw [State.route_eq unicast, entry, if_neg nofun, other]
  exact if_pos esc

theorem State.route_fabric (other : s.ownPartial n p = none) (esc : p.esc = false) (fabric : p.fabric = true) : s.route n port p =
    s.follow n (escField (s.entryFor n p) (s.fld RT_CFG_ESC_GEN n)) { p with egen := s.fld RT_CFG_ESC_GEN n } := by
  rw [State.route_eq unicast, entry, if_neg nofun, other]
  exact (if_neg (ne_true_of_eq_false esc)).trans (if_pos fabric)

theorem State.route_normal (other : s.ownPartial n p = none) (esc : p.esc = false) (fabric : p.fabric = false) : s.route n port p =
    if (s.entryFor n p / 2 ^ 12 % 8 < 4 ∧ s.portOut n (s.entryFor n p / 2 ^ 12 % 8) = true) ∨ max 1 (s.fld RT_CFG_HOP_LIMIT n) ≤ p.hops then
      s.follow n (escField (s.entryFor n p) (s.fld RT_CFG_ESC_GEN n)) { p with esc := true, egen := s.fld RT_CFG_ESC_GEN n }
    else s.follow n (s.entryFor n p / 2 ^ 12 % 8) p := by
  rw [State.route_eq unicast, entry, if_neg nofun, other]
  exact (if_neg (ne_true_of_eq_false esc)).trans (if_neg (ne_true_of_eq_false fabric))

end

theorem gives_routeHeader {chk : Nat} {t : State} (hn : n < 2304) (hport : port < 7) (hchk : chk < 4) (hp : okPkt p = true)
    (h : (if s.frozenAt n = true ∨ (p.net = .rsp ∧ p.dst.port = 7) ∨ s.arrives n port p = false then s
      else if s.routerUp n = false then s.takeNet (.router n port) p
      else if s.admitted n port p then (s.takeNet (.router n port) p).headerAt n port p chk
      else s) = t) : Gives (.routeHeader n port p chk) s t :=
  Gives.of_run (exec_routeHeader n port p chk s) (by simp only [Instr.wf, okSlot, hn, hport, hchk, hp, decide_true, Bool.and_self]) h

theorem gives_headerAt {chk : Nat} {t : State} (hn : n < 2304) (hport : port < 7) (hchk : chk < 4) (hp : okPkt p = true)
    (thawed : s.frozenAt n = false) (single : ¬ (p.net = .rsp ∧ p.dst.port = 7)) (arrives : s.arrives n port p = true)
    (up : s.routerUp n = true) (admitted : s.admitted n port p = true)
    (h : (s.takeNet (.router n port) p).headerAt n port p chk = t) : Gives (.routeHeader n port p chk) s t := by
  refine gives_routeHeader hn hport hchk hp ((if_neg ?_).trans ((if_neg ?_).trans ((if_pos admitted).trans h)))
  · simp [thawed, arrives, single]
  · simp [up]

theorem State.headerAt_good (unarmed : s.fld (xx_ERR_INJECT_ARM .ni) n = 0) (up : s.routerUp n = true) :
    s.headerAt n port p 0 = s.routed n port p (s.route n port p) := by
  simp only [State.headerAt, State.injCheck_of_unarmed _ unarmed, reduceCtorEq, if_false, Nat.zero_ne_one, or_false]
  exact if_neg (by simp [up])

theorem State.headerAt_bad (unarmed : s.fld (xx_ERR_INJECT_ARM .ni) n = 0) :
    s.headerAt n port p 2 = (s.unitEvent .ni n 1 (flitDetail p port)).report .ni n 10 (30 + 15 * 2 ^ 8 + flitDetail p port) := by
  simp only [State.headerAt, State.injCheck_of_unarmed _ unarmed, reduceCtorEq, if_false, Nat.reduceEqDiff, or_true, if_true]
  rfl

theorem State.routed_out {o : Nat} {q : Pkt} (way : s.route n port p = .out o q) : s.routed n port p (s.route n port p) =
    s.modRt n fun r => { r with held := r.held ++ [⟨q, port, o, 0, false, s.entryFor n p, chanOf p⟩] } := by
  rw [way]
  rfl

theorem State.routed_drop {reason : Nat} (way : s.route n port p = .drop reason) :
    s.routed n port p (s.route n port p) = s.drop (niLoc n) n port reason p := by
  rw [way]
  rfl

theorem State.drop_answered (self : Loc) (r : Nat) (asked : p.net = .req ∨ p.net = .dat) : s.drop self n port r p =
    s.emit (mkPkt opDROP self p.src p.ten p.flow p.txn [r, p.op, if p.net = .dat then 1 else 0]) := by
  rw [State.drop]
  obtain net | net := asked <;> rw [net] <;> rfl

end

/-! ## Outputs -/

section

variable {s : State} {n out net : Nat} {p : Pkt}

/-- The nearer of two packets in the round robin. -/
def nearer (dist : Held → Nat) (b : Option Held) (h : Held) : Option Held :=
  match b with
  | none => some h
  | some x => if dist h < dist x then some h else some x

theorem foldl_nearer (dist : Held → Nat) (l : List Held) (b : Option Held) :
    (∀ h, l.foldl (nearer dist) b = some h → h ∈ l ∨ b = some h) ∧ (l ≠ [] ∨ b ≠ none → l.foldl (nearer dist) b ≠ none) := by
  induction l generalizing b with
  | nil => exact ⟨fun h e => .inr e, fun some_ => some_.resolve_left fun h => h rfl⟩
  | cons x l ih =>
    obtain ⟨mem, some_⟩ := ih (nearer dist b x)
    have one : nearer dist b x = some x ∨ nearer dist b x = b ∧ b ≠ none := by
      cases b with
      | none => exact .inl rfl
      | some y =>
        by_cases less : dist x < dist y
        · exact .inl (if_pos less)
        · exact .inr ⟨if_neg less, nofun⟩
    refine ⟨fun h e => ?_, fun _ => some_ (.inr ?_)⟩
    · obtain later | now := mem h e
      · exact .inl (List.mem_cons_of_mem _ later)
      · obtain chosen | ⟨same, _⟩ := one
        · exact .inl (List.mem_cons.mpr (.inl (Option.some.inj (now.symm.trans chosen))))
        · exact .inr (same.symm.trans now)
    · obtain chosen | ⟨same, there⟩ := one
      · rw [chosen]
        exact nofun
      · rw [same]
        exact there

theorem State.robin_eq (l : List Held) : ∃ dist, s.robin n out net l = l.foldl (nearer dist) none := ⟨_, rfl⟩

theorem State.mem_of_robin {l : List Held} {h : Held} (e : s.robin n out net l = some h) : h ∈ l := by
  obtain ⟨dist, eq⟩ := State.robin_eq (s := s) (n := n) (out := out) (net := net) l
  exact ((foldl_nearer dist l none).1 h (eq.symm.trans e)).resolve_right nofun

theorem State.robin_ne_none {l : List Held} (some_ : l ≠ []) : s.robin n out net l ≠ none := by
  obtain ⟨dist, eq⟩ := State.robin_eq (s := s) (n := n) (out := out) (net := net) l
  rw [eq]
  exact (foldl_nearer dist l none).2 (.inl some_)

/-- Of several packets, only the fabric commands, where there is one (R97). -/
def fabricFirst (l : List Held) : List Held := if l.any (fun h => h.pkt.fabric) then l.filter (fun h => h.pkt.fabric) else l

theorem fabricFirst_spec {l : List Held} {h : Held} (mem : h ∈ fabricFirst l) (some_ : ∃ g ∈ fabricFirst l, g.pkt.fabric = true) :
    h.pkt.fabric = true := by
  rw [fabricFirst] at mem some_
  split at mem
  · exact (List.mem_filter.mp mem).2
  · next none_ =>
    rw [if_neg none_] at some_
    exact absurd (List.any_eq_true.mpr some_) none_

theorem State.competing_eq : ∃ l, s.competing n out net = fabricFirst l := ⟨_, rfl⟩

/-- An output of a router whose neighbour or link has gone. -/
abbrev State.outDead (s : State) (n out : Nat) : Prop := out < 4 ∧ (neighbour n out).isSome = true ∧ s.portOut n out = true

theorem gives_arbitrateOutput {t : State} (hn : n < 2304) (hout : out < 6) (hnet : net < 4) (up : s.routerUp n = true) (thawed : s.frozenAt n = false)
    (h : (if s.outDead n out then ((s.rt n).held.filter (fun h => h.out == out && netCode h.pkt.net == net)).foldl (fun s h => s.reroute n h) s
      else match s.robin n out net (s.competing n out net) with
        | some h => (s.startOut n net h).unitTakes (outPlace n h.out) h.pkt
        | none => s) = t) : Gives (.routerOutputArbitrate n out net) s t := by
  refine Gives.of_run (exec_routerOutputArbitrate n out net s) (by simp only [Instr.wf, okSlot, hn, hout, hnet, decide_true, Bool.and_self]) ?_
  exact (if_neg (by simp [up, thawed])).trans h

theorem State.unitTakes_plain {pl : Place}
    (plain : ∀ l, pl = .unit l → knownOp p.kind = true ∧ p.kind ≠ opREG_RD ∧ p.kind ≠ opREG_WR) : s.unitTakes pl p = s := by
  cases pl with
  | router _ _ => rfl
  | unit l =>
    obtain ⟨known, read, write⟩ := plain l rfl
    exact (if_pos known).trans (if_pos ⟨read, write⟩)

theorem State.unitTakes_reserved {l : Loc} (reserved : knownOp p.kind = false) (req : p.net = .req) :
    s.unitTakes (.unit l) p = (s.takeNet (.unit l) p).emit (mkPkt opDROP l p.src p.ten p.flow p.txn [3, p.op, 0]) := by
  refine (if_neg (ne_true_of_eq_false reserved)).trans ((State.drop_answered l 3 (.inl req)).trans ?_)
  rw [req]
  rfl

/-! ## Waiting packets -/

/-- The packet that a command names, among those that wait. -/
abbrev State.heldOf (s : State) (n : Nat) (p : Pkt) : Option Held := (s.rt n).held.find? fun x => decide (x.pkt = p)

theorem gives_outputAged_none (hn : n < 2304) (hp : okPkt p = true) (none_ : s.heldOf n p = none) : Gives (.outputAged n p) s s := by
  refine Gives.of_run (exec_outputAged n p s) (by simp only [Instr.wf, okSlot, hn, hp, decide_true, Bool.and_self]) ?_
  simp only [none_]

theorem gives_outputAged {h : Held} {t : State} (hn : n < 2304) (hp : okPkt p = true) (found : s.heldOf n p = some h)
    (e : (if p.net = .dat ∧ zeroAsOne (s.fld RT_CFG_AGE_LIMIT n) ≤ h.waited ∧ s.openRunOut n h.out < nflits p then
      s.modRt n (fun r => { r with held := updFirst (fun x => decide (x = h)) (fun x => { x with aged := true }) r.held }) else s) = t) :
    Gives (.outputAged n p) s t := by
  refine Gives.of_run (exec_outputAged n p s) (by simp only [Instr.wf, okSlot, hn, hp, decide_true, Bool.and_self]) ?_
  simp only [found]
  exact e

theorem gives_escWaitExpire_none (hn : n < 2304) (hp : okPkt p = true) (none_ : s.heldOf n p = none) : Gives (.escWaitExpire n p) s s := by
  refine Gives.of_run (exec_escWaitExpire n p s) (by simp only [Instr.wf, okSlot, hn, hp, decide_true, Bool.and_self]) ?_
  simp only [none_]

/-- There is room behind an output for a packet. -/
def State.placeRoom (s : State) (pl : Place) (p : Pkt) : Bool :=
  match pl with
  | .router m i => s.roomFor m i p
  | .unit l => s.unitRoom l p

/-- A waiting packet takes escape by the way found, where it has room there. -/
def State.escaped (s : State) (n : Nat) (h : Held) (q : Pkt) : Route → State
  | .out o _ =>
    if s.placeRoom (outPlace n o) q then
      (s.modRt n (fun r => { r with held := delFirst (fun x => decide (x = h)) r.held })).hold n h.inPort h.chan o h.entry q
    else s
  | _ => s.reroute n h

theorem gives_escWaitExpire {h : Held} {t : State} (hn : n < 2304) (hp : okPkt p = true) (found : s.heldOf n p = some h)
    (e : (if p.esc || p.fabric || s.frozenAt n || decide (outSlot ≤ h.out) then s
      else s.escaped n h { p with esc := true, egen := s.fld RT_CFG_ESC_GEN n }
        (s.follow n (escField h.entry (s.fld RT_CFG_ESC_GEN n)) { p with esc := true, egen := s.fld RT_CFG_ESC_GEN n })) = t) :
    Gives (.escWaitExpire n p) s t := by
  refine Gives.of_run (exec_escWaitExpire n p s) (by simp only [Instr.wf, okSlot, hn, hp, decide_true, Bool.and_self]) ?_
  simp only [found]
  refine Eq.trans (if_congr Iff.rfl rfl ?_) e
  cases s.follow n (escField h.entry (s.fld RT_CFG_ESC_GEN n)) { p with esc := true, egen := s.fld RT_CFG_ESC_GEN n } with
  | drop _ => rfl
  | copies _ _ => rfl
  | out o _ =>
    simp only [State.escaped, State.placeRoom]
    cases outPlace n o <;> rfl

theorem State.escaped_none {h : Held} {q : Pkt} {way : Route} (none_ : ∀ o x, way ≠ .out o x) : s.escaped n h q way = s.reroute n h := by
  cases way with
  | drop _ => rfl
  | copies _ _ => rfl
  | out o x => exact absurd rfl (none_ o x)

/-! ## Purges and drops -/

theorem blockOf_rtCtrl : ∀ n < 2304, blockOf (RT_CTRL.addr n 0) = some (.rt, n) := by decide +kernel

theorem State.regAlive_rtCtrl (hn : n < 2304) (up : s.routerUp n = true) (thawed : s.frozenAt n = false) : s.regAlive (RT_CTRL.addr n 0) = true := by
  simp only [State.frozenAt, Bool.or_eq_false_iff] at thawed
  simp only [State.regAlive, blockOf_rtCtrl n hn, up, thawed, Bool.not_false, Bool.and_self]

theorem gives_purge {c : Sys2Proof.Instr} {v : Nat} {t : State} (hn : n < 2304) (hv : v < 2 ^ 32) (up : s.routerUp n = true)
    (thawed : s.frozenAt n = false) (mem : c ∈ [Instr.purge0 n v, .purge1 n v])
    (h : (let u := s.serveWrite (RT_CTRL.addr n 0) v
      let u := if v % 2 = 1 then u.purge n 0 else u
      if v / 2 % 2 = 1 then u.purge n 1 else u) = t) : Gives c s t := by
  have wf : (okSlot n && okW v) = true := by simp only [okSlot, okW, hn, hv, decide_true, Bool.and_self]
  have ctrl : s.rtCtrl n v = t := by
    obtain ⟨low, next⟩ := bit_low v
    rw [State.rtCtrl, State.regWrite, if_pos (State.regAlive_rtCtrl hn up thawed), low, next]
    simp only [decide_eq_true_eq]
    exact h
  simp only [List.mem_cons, List.not_mem_nil, or_false] at mem
  obtain rfl | rfl := mem
  · exact Gives.of_run (exec_purge0 n v s) wf ctrl
  · exact Gives.of_run (exec_purge1 n v s) wf ctrl

theorem gives_dropAtNi {t : State} (hn : n < 2304) (hp : okPkt p = true) (thawed : s.frozenAt n = false) (up : s.niUp n = true)
    (kind : p.kind = opDROP) (dst : p.dst = niLoc n) (h : (s.takeNet (.unit (niLoc n)) p).dropAtNi n p = t) : Gives (.drop n p) s t := by
  refine Gives.of_run (exec_drop n p s) hp ((if_neg (not_not.mpr kind)).trans ?_)
  have here : p.dst.port = 0 ∧ p.dst.slot = n ∧ n < 2304 := by
    rw [dst]
    exact ⟨niLoc_port n, niLoc_slot n, hn⟩
  rw [if_neg (by rw [here.1]; decide), dst, attachOf_niLoc, ← dst]
  exact (if_pos here).trans ((State.atNi_of_up _ thawed up).trans h)

theorem attachOf_hpLoc : ∀ hp < 2, attachOf (hpLoc hp) = some (.hp hp) ∧ (hpLoc hp).port ≠ 5 := by decide

theorem gives_dropAtHp {hp : Nat} {t : State} (hhp : hp < 2) (ok : okPkt p = true) (kind : p.kind = opDROP) (dst : p.dst = hpLoc hp)
    (h : (if p.arg 2 = 0 ∧ (p.arg 1 = 0x10 ∨ p.arg 1 = 0x11) then
      (s.takeNet (.unit (hpLoc hp)) p).hpRegDone hp p.txn (dropStatus (p.arg 0)) 0 else s.takeNet (.unit (hpLoc hp)) p) = t) :
    Gives (.drop n p) s t := by
  refine Gives.of_run (exec_drop n p s) ok ((if_neg (not_not.mpr kind)).trans ?_)
  obtain ⟨attach, other⟩ := attachOf_hpLoc hp hhp
  rw [dst, if_neg other, attach]
  exact h

end

/-! ## What an event of an NI leaves of the logical map -/

section

variable {s t u : State} {n : Nat}

/-- An event of an NI, and F1 for its parity fault, change no registers but these: its error set, its logbook's pointer, NI_OPEN_STATUS and
FB_REPAIR_STATUS. -/
structure State.NiNoted (s t : State) (n : Nat) : Prop where
  fuse : t.fuse = s.fuse
  regs : ∀ off d, ¬ InErrSet .ni n off → off ∉ [(LOG_PTR .ni).addr n 0, NI_OPEN_STATUS.addr n 0, FB_REPAIR_STATUS.addr 0 0] →
    t.regs.get off d = s.regs.get off d

theorem State.NiNoted.trans (first : s.NiNoted t n) (then_ : t.NiNoted u n) : s.NiNoted u n :=
  ⟨then_.fuse.trans first.fuse, fun off d set out => (then_.regs off d set out).trans (first.regs off d set out)⟩

theorem State.NiNoted.of_regs (fuse : t.fuse = s.fuse) (regs : t.regs = s.regs) : s.NiNoted t n := ⟨fuse, fun off d _ _ => by rw [regs]⟩

theorem State.NiNoted.refl : s.NiNoted s n := .of_regs rfl rfl

theorem State.NiNoted.of_told (told : s.Told t .ni n) : s.NiNoted t n := by
  obtain ⟨_, _, _, _, _, _, _, _, e⟩ := told.frame
  exact ⟨by rw [e], fun off d set _ => told.regs off d set⟩

theorem State.NiNoted.of_logged {l : List Nat} (logged : s.Logged t l)
    (sub : l ⊆ [(LOG_PTR .ni).addr n 0, NI_OPEN_STATUS.addr n 0, FB_REPAIR_STATUS.addr 0 0]) : s.NiNoted t n := by
  obtain ⟨_, _, _, _, _, e⟩ := logged.frame
  exact ⟨by rw [e], fun off d _ out => logged.regs off d fun mem => out (sub mem)⟩

theorem State.NiNoted.foldl {α : Type} {f : State → α → State} (step : ∀ x a, State.NiNoted x (f x a) n) (l : List α) : s.NiNoted (l.foldl f s) n := by
  induction l generalizing s with
  | nil => exact .refl
  | cons a l ih => exact (step s a).trans ih

theorem State.niNoted_setFld {f : Fld} {v i : Nat}
    (mem : f.reg.addr i 0 ∈ [(LOG_PTR .ni).addr n 0, NI_OPEN_STATUS.addr n 0, FB_REPAIR_STATUS.addr 0 0]) : s.NiNoted (s.setFld f v i) n :=
  ⟨rfl, fun _ _ _ out => State.regs_setFld_ne _ _ _ _ _ _ _ fun e => out (e ▸ mem)⟩

theorem State.niNoted_recordEvent {src detail : Nat} (few : src < 16) : s.NiNoted (s.recordEvent .ni n src detail false) n := by
  have noted : s.NiNoted (s.noteEvent .ni n src detail false) n := .of_told (State.told_noteEvent _ _ few)
  rw [State.recordEvent]
  split
  · exact .refl
  · split
    · exact noted.trans (.of_told (State.told_errMsg _ _ _))
    · exact noted

theorem State.niNoted_log (code peerKind peer detail : Nat) : s.NiNoted (s.log .ni n code peerKind peer detail) n :=
  .of_logged (State.logged_log (l := [(LOG_PTR .ni).addr n 0]) code peerKind peer detail (List.mem_singleton.mpr rfl)) (by simp)

theorem State.niNoted_slotDone (c : CombSlot) : s.NiNoted (s.slotDone n c) n := by
  rw [State.slotDone]
  split
  · exact .refl
  · dsimp only
    split <;> exact .of_regs rfl rfl

theorem State.niNoted_combFenced (port : Nat) : s.NiNoted (s.combFenced n port) n := by
  rw [State.combFenced]
  refine .foldl (fun x c => ?_) _
  rw [State.slotAnswer]
  exact .trans (t := x.modRt n _) (.of_regs rfl rfl) (State.niNoted_slotDone _)

theorem State.niNoted_redFenced (port : Nat) : s.NiNoted (s.redFenced n port) n := by
  rw [State.redFenced]
  exact .foldl (fun x r => .of_regs (t := x.emit _) rfl rfl) _

theorem State.niNoted_segFail (seg status : Nat) : s.NiNoted (s.segFail n seg status) n := by
  rw [State.segFail]
  split
  · exact .refl
  · split
    · exact .refl
    · exact .trans (t := (s.setCh n _).emit _) (.of_regs rfl rfl) (State.niNoted_log _ _ _ _)

theorem State.niNoted_noteThen {note : State → State} (step : ∀ x, State.NiNoted x (note x) n) (c : Bool) (seg status : Nat) :
    s.NiNoted (if c then note s else (note s).segFail n seg status) n := by
  split
  · exact step s
  · exact (step s).trans (State.niNoted_segFail _ _)

theorem State.niNoted_portGone {note : State → State} (step : ∀ x, State.NiNoted x (note x) n) (port : Nat) : s.NiNoted (s.portGone note n port) n := by
  have cur (c : Bool) (x : State) : x.NiNoted (if c then note (x.modRt n fun r => { r with fencedSeg := true }) else x) n := by
    split
    · exact .trans (t := x.modRt n _) (.of_regs rfl rfl) (step _)
    · exact .refl
  have idle (c d : Bool) (seg : Nat) (x : State) : x.NiNoted (if c then (if d then note (x.modRt n fun r => { r with idle := none })
      else (note (x.modRt n fun r => { r with idle := none })).segFail n seg stTARGET_FENCED) else x) n := by
    split
    · exact .trans (t := x.modRt n _) (.of_regs rfl rfl) (State.niNoted_noteThen step _ _ _)
    · exact .refl
  have waits (c d : Bool) (seg : Nat) (x : State) : x.NiNoted (if c then (match x.ch n with
      | none => x
      | some o => if d then note (x.setCh n (some { o with waitSeg := none }))
        else (note (x.setCh n (some { o with waitSeg := none }))).segFail n seg stTARGET_FENCED) else x) n := by
    split
    · split
      · exact .refl
      · exact .trans (t := x.setCh n _) (.of_regs rfl rfl) (State.niNoted_noteThen step _ _ _)
    · exact .refl
  refine ((State.niNoted_combFenced port).trans (State.niNoted_redFenced port)).trans ?_
  unfold State.portGone
  exact (cur _ _).trans ((idle _ _ _ _).trans (waits _ _ _ _))

/-- A field of the error set of an NI. -/
theorem State.niNoted_setErr (f : Fld) (v : Nat) (blk : f.reg.blk = .ni) (low : 0xE00 ≤ f.reg.off) (high : f.reg.off < 0xEC0) :
    s.NiNoted (s.setFld f v n) n := .of_told (State.told_setErr f v 0 blk low (by simpa [UnitKind.setBase] using high))

theorem State.niNoted_niParity : s.NiNoted (s.niParity n) n := by
  have told (x : State) : x.NiNoted (x.errMsg .ni n 0 false true 0) n := .of_told (State.told_errMsg _ _ _)
  have self : s.NiNoted (((s.setEu .ni n { s.eu .ni n with parityArmed := false, met := false }).setFld (xx_ERR_INJECT_ARM .ni) 0 n).setFld
      (xx_ERR_STATUS_SELF_PARITY .ni) 1 n) n :=
    .trans (t := s.setEu .ni n { s.eu .ni n with parityArmed := false, met := false }) (.of_regs rfl rfl) (.trans (State.niNoted_setErr (xx_ERR_INJECT_ARM .ni) 0 rfl (by decide) (by decide))
      (State.niNoted_setErr (xx_ERR_STATUS_SELF_PARITY .ni) 1 rfl (by decide) (by decide)))
  rw [State.niParity]
  generalize ((s.setEu .ni n { s.eu .ni n with parityArmed := false, met := false }).setFld (xx_ERR_INJECT_ARM .ni) 0 n).setFld
    (xx_ERR_STATUS_SELF_PARITY .ni) 1 n = x at self ⊢
  refine self.trans (.trans ?_ (told _))
  dsimp only
  split
  · exact .refl
  · have safe : x.NiNoted ((x.setFld (xx_ERR_STATUS_SAFE .ni) 1 n).freezeLog .ni n) n :=
      .trans (State.niNoted_setErr _ _ rfl (by decide) (by decide))
        (.of_logged (State.logged_freezeLog (l := [(LOG_PTR .ni).addr n 0]) (List.mem_singleton.mpr rfl)) (by simp))
    generalize (x.setFld (xx_ERR_STATUS_SAFE .ni) 1 n).freezeLog .ni n = y at safe ⊢
    split
    · refine safe.trans (.trans ?_ (.trans (State.niNoted_portGone (fun z => State.niNoted_recordEvent (by decide)) 4) (State.niNoted_setFld ?_)))
      · exact .of_regs rfl rfl
      · simp [FB_REPAIR_STATUS_STATE]
    · exact safe

theorem State.niNoted_niCause {src detail : Nat} (few : src < 16) : s.NiNoted (s.niCause n NI_OPEN_STATUS_DROP src detail) n := by
  rw [State.niCause, State.report]
  have set : s.NiNoted (s.setFld NI_OPEN_STATUS_DROP 1 n) n := State.niNoted_setFld (by simp [NI_OPEN_STATUS_DROP])
  have event := (s.setFld NI_OPEN_STATUS_DROP 1 n).niNoted_recordEvent (n := n) (detail := detail) few
  generalize (s.setFld NI_OPEN_STATUS_DROP 1 n).recordEvent .ni n src detail false = x at event ⊢
  refine set.trans (event.trans ?_)
  split
  · rw [State.islandParity, if_pos rfl]
    exact State.niNoted_niParity
  · exact .refl

theorem State.NiNoted.lmap (noted : s.NiNoted t n) {tile : Nat} (few : tile < 2160) : t.lmap n tile = s.lmap n tile := by
  have kept (f : Fld) (reg : f.reg = NI_LMAP) : t.fld f n (tile / 2) = s.fld f n (tile / 2) := by
    refine congrArg (fun w => bits (BitVec.toNat w) f.hi f.lo) (noted.regs _ _ ?_ ?_)
    · refine fun h => h.elim (fun inside => ?_) fun h => nomatch h.1
      simp only [RegDef.addr, reg, NI_LMAP, UnitKind.blk, UnitKind.setBase, Blk.base] at inside
      omega
    · simp only [RegDef.addr, reg, NI_LMAP, LOG_PTR, NI_OPEN_STATUS, FB_REPAIR_STATUS, UnitKind.blk, UnitKind.logPtr, Blk.base, List.mem_cons,
        List.not_mem_nil, or_false]
      omega
  simp only [State.lmap, kept NI_LMAP_VALID_EVEN rfl, kept NI_LMAP_SLOT_EVEN rfl, kept NI_LMAP_VALID_ODD rfl, kept NI_LMAP_SLOT_ODD rfl]

theorem State.NiNoted.ltileOf (noted : s.NiNoted t n) (slot : Nat) : t.ltileOf n slot = s.ltileOf n slot := by
  have tiles : t.tiles = s.tiles := by rw [State.tiles, State.tiles, noted.fuse]
  have few : s.tiles ≤ 2160 := by
    rw [State.tiles]
    split <;> decide
  rw [State.ltileOf, State.ltileOf, tiles, List.find?_congr fun tile mem => ?_]
  rw [noted.lmap ((List.mem_range.mp mem).trans_le few)]

/-- What an NI notes of a DROP: the cause, its event and the logbook's entry, which names the tile of the requester. -/
def State.dropNoted (s : State) (n : Nat) (p : Pkt) : State :=
  (s.niCause n NI_OPEN_STATUS_DROP 10 1).log .ni n 0x0B 0 ((s.niCause n NI_OPEN_STATUS_DROP 10 1).ltileOf n p.src.slot) (p.arg 0)

theorem State.dropAtNi_eq (p : Pkt) : s.dropAtNi n p = if p.arg 2 = 1 ∧ p.arg 1 = 0x20 then (s.dropNoted n p).redFail n p.txn stTARGET_FENCED
    else if (p.arg 2 = 1 ∧ p.arg 1 = 0x21) ∨ (p.arg 2 = 0 ∧ [0x03, 0x04, 0x0E, 0x20].contains (p.arg 1) = true) then s.dropNoted n p
    else match (s.dropNoted n p).findTx n p.txn with
      | some t => (s.dropNoted n p).txEnd t (dropStatus (p.arg 0))
      | none => s.dropNoted n p := by
  have same := State.NiNoted.ltileOf (s.niNoted_niCause (n := n) (src := 10) (detail := 1) (by decide)) p.src.slot
  rw [State.dropNoted, same]
  rfl

theorem State.dropAtNi_contribution {p : Pkt} (h : p.arg 2 = 1 ∧ p.arg 1 = 0x20) :
    s.dropAtNi n p = (s.dropNoted n p).redFail n p.txn stTARGET_FENCED := (State.dropAtNi_eq p).trans (if_pos h)

theorem State.dropAtNi_single {p : Pkt} (h : (p.arg 2 = 1 ∧ p.arg 1 = 0x21) ∨ (p.arg 2 = 0 ∧ p.arg 1 ∈ [0x03, 0x04, 0x0E, 0x20])) :
    s.dropAtNi n p = s.dropNoted n p := by
  refine (State.dropAtNi_eq p).trans ((if_neg fun c => ?_).trans (if_pos (by simpa only [List.contains_iff_mem] using h)))
  obtain ⟨dat, word⟩ := c
  obtain ⟨-, other⟩ | ⟨req, -⟩ := h
  · exact absurd (word.symm.trans other) (by decide)
  · exact absurd (dat.symm.trans req) (by decide)

theorem State.dropAtNi_other {p : Pkt} (contribution : ¬ (p.arg 2 = 1 ∧ p.arg 1 = 0x20))
    (single : ¬ ((p.arg 2 = 1 ∧ p.arg 1 = 0x21) ∨ (p.arg 2 = 0 ∧ p.arg 1 ∈ [0x03, 0x04, 0x0E, 0x20]))) :
    s.dropAtNi n p = match (s.dropNoted n p).findTx n p.txn with
      | some t => (s.dropNoted n p).txEnd t (dropStatus (p.arg 0))
      | none => s.dropNoted n p :=
  (State.dropAtNi_eq p).trans ((if_neg contribution).trans (if_neg (by simpa only [List.contains_iff_mem] using single)))

end

/-- Settles O12: the entry of a header decides alone; what waits is served by the round robin over the packets that compete. -/
theorem routersRouteAndServePackets : Obligations.RoutersRouteAndServePackets := by
  unfold Obligations.RoutersRouteAndServePackets
  refine ⟨?_, ?_, ?_⟩
  · intro s n port p hn hport hp up thawed unarmed unicast there admitted u e out gen limit serves go
    have single : ¬ (p.net = .rsp ∧ p.dst.port = 7) := fun h => unicast h.2
    have arrives : s.arrives n port p = true := (if_neg (by rw [slotIn]; omega)).trans there
    have header {chk : Nat} (hchk : chk < 4) {t : State} (h : u.headerAt n port p chk = t) : Gives (.routeHeader n port p chk) s t :=
      gives_headerAt hn (by omega) hchk hp thawed single arrives up admitted h
    have good {t : State} (h : u.routed n port p (u.route n port p) = t) : Gives (.routeHeader n port p 0) s t :=
      header (by decide) ((State.headerAt_good (s := u) unarmed up).trans h)
    have bad : Gives (.routeHeader n port p 2) s ((u.unitEvent .ni n 1 (flitDetail p port)).report .ni n 10 (30 + 15 * 2 ^ 8 + flitDetail p port)) :=
      header (by decide) (State.headerAt_bad (s := u) unarmed)
    have same : u.route n port p = s.route n port p := rfl
    have held {o : Nat} {q : Pkt} (way : s.route n port p = .out o q) : Gives (.routeHeader n port p 0) s (u.modRt n fun r => { r with
        held := r.held ++ [⟨q, port, o, 0, false, e, chanOf p⟩] }) := good (State.routed_out (same.trans way))
    have dropped {reason : Nat} (way : s.route n port p = .drop reason) : Gives (.routeHeader n port p 0) s (u.drop (niLoc n) n port reason p) :=
      good (State.routed_drop (same.trans way))
    have goes {o : Nat} {q : Pkt} (hops : q.hops = p.hops) (ok : serves o) (way : s.route n port p = s.follow n o q) : go o q := by
      have out_ := way.trans (State.follow_of_serves (p := q) ok)
      rw [hops] at out_
      exact held out_
    clear_value u
    refine ⟨fun absent => dropped ?_, fun r asked => State.drop_answered _ r asked, fun r entry own ok => ?_, fun other =>
      ⟨fun entry esc ok => ?_, fun entry esc low dead => ?_, fun entry esc fabric ok early => ?_, fun entry esc fabric late ok => ?_,
        fun entry fabric esc ok => ?_, fun entry esc fabric here early tile open_ => ?_⟩, bad⟩
    · exact (State.route_eq unicast).trans (if_pos absent)
    · exact goes rfl ok (State.route_partial unicast entry own)
    · exact goes rfl ok (State.route_escape unicast entry other esc)
    · exact dropped ((State.route_escape unicast entry other esc).trans (State.follow_of_dead low dead))
    · refine goes rfl ok ((State.route_normal unicast entry other esc fabric).trans (if_neg fun h => ?_))
      obtain ⟨-, dead⟩ | late := h
      · exact Bool.noConfusion (ok.2.2.symm.trans dead)
      · exact absurd late (Nat.not_le.mpr early)
    · exact goes rfl ok ((State.route_normal unicast entry other esc fabric).trans (if_pos late))
    · exact goes rfl ok (State.route_fabric unicast entry other esc fabric)
    · refine held ((State.route_normal unicast entry other esc fabric).trans ((if_neg ?_).trans ?_))
      · have out4 : s.entryFor n p / 2 ^ 12 % 8 = 4 := here
        rw [out4]
        intro h
        obtain ⟨low, -⟩ | late := h
        · omega
        · exact absurd late (Nat.not_le.mpr early)
      · have out4 : s.entryFor n p / 2 ^ 12 % 8 = 4 := here
        rw [out4]
        refine (if_pos rfl).trans ((if_pos tile).trans (if_neg ?_))
        rw [open_]
        exact Bool.false_ne_true
  · intro s n port chk p hn hport hchk hp thawed single
    refine ⟨fun away => gives_routeHeader hn hport hchk hp (if_pos (.inr (.inr away))), fun arrives down => ?_, fun arrives up full => ?_,
      fun arrives up admitted => gives_headerAt hn hport hchk hp thawed single arrives up admitted rfl⟩
    all_goals
      have comes : ¬ (s.frozenAt n = true ∨ (p.net = .rsp ∧ p.dst.port = 7) ∨ s.arrives n port p = false) := by simp [thawed, arrives, single]
    · exact gives_routeHeader hn hport hchk hp ((if_neg comes).trans (if_pos down))
    · exact gives_routeHeader hn hport hchk hp ((if_neg comes).trans ((if_neg (by simp [up])).trans (if_neg (ne_true_of_eq_false full))))
  · intro s n out net v p h hn hout hnet hv hp_ up thawed
    have serve {t : State} := gives_arbitrateOutput (t := t) hn hout hnet up thawed
    refine ⟨fun l => State.mem_of_robin, fun l => State.robin_ne_none, fun mem some_ => ?_, fun open_ => ⟨fun none_ => ?_, fun first => ⟨?_, fun plain => ?_,
      fun l at_ tile reserved req => ?_⟩⟩, fun dead => ?_, fun none_ => ⟨?_, ?_⟩, fun found => ⟨⟨fun aged => ?_, fun young => ?_⟩, fun held => ?_, ?_⟩,
      fun full => ?_, fun room found => ?_, fun c mem u hu => ?_, fun t kind dst niUp => ?_, fun hp hhp kind dst => ?_⟩
    · obtain ⟨l, e⟩ := State.competing_eq (s := s) (n := n) (out := out) (net := net)
      rw [e] at mem some_
      exact fabricFirst_spec mem some_
    · refine serve ((if_neg open_).trans ?_)
      rw [none_]
      rfl
    · exact serve ((if_neg open_).trans (by rw [first]))
    · exact serve ((if_neg open_).trans (by rw [first]; exact State.unitTakes_plain plain))
    · refine serve ((if_neg open_).trans ?_)
      rw [first]
      dsimp only
      rw [at_]
      exact State.unitTakes_reserved reserved req
    · exact serve (if_pos dead)
    · exact gives_outputAged_none hn hp_ none_
    · exact gives_escWaitExpire_none hn hp_ none_
    · exact gives_outputAged hn hp_ found (if_pos (by rw [zeroAsOne_eq]; exact aged))
    · exact gives_outputAged hn hp_ found (if_neg (by rw [zeroAsOne_eq]; exact young))
    · refine gives_escWaitExpire hn hp_ found (if_pos ?_)
      obtain esc | fabric | slot := held
      · simp [esc]
      · simp [fabric]
      · simp [outSlot, slot]
    · intro esc fabric low q way
      have waits : ¬ (p.esc || p.fabric || s.frozenAt n || decide (outSlot ≤ h.out)) = true := by
        simp [esc, fabric, thawed, outSlot, Nat.not_le.mpr low]
      have waited {t : State} (e : s.escaped n h q way = t) : Gives (.escWaitExpire n p) s t := gives_escWaitExpire hn hp_ found ((if_neg waits).trans e)
      refine ⟨fun o x ahead => ⟨fun room => waited ?_, fun full => waited ?_⟩, fun none_ => waited (State.escaped_none none_)⟩
      · rw [ahead]
        exact if_pos room
      · rw [ahead]
        exact if_neg (ne_true_of_eq_false full)
    · exact Gives.of_run (exec_combiningSlotFree n s) (decide_eq_true hn) (if_pos (.inl full))
    · refine Gives.of_run (exec_combiningSlotFree n s) (decide_eq_true hn) ((if_neg (by simp [room, thawed])).trans ?_)
      have found : (s.rt n).held.find? (fun x => decide (outSlot ≤ x.out)) = some h := found
      rw [found]
      rfl
    · subst hu
      have ctrl {t : State} (h : (let u := s.serveWrite (RT_CTRL.addr n 0) v
          let u := if v % 2 = 1 then u.purge n 0 else u
          if v / 2 % 2 = 1 then u.purge n 1 else u) = t) : Gives c s t := gives_purge hn hv up thawed mem h
      refine ⟨fun none_ => ctrl ?_, fun zero => ctrl ?_, fun one => ctrl ?_, fun both => ctrl ?_⟩
      · rw [if_neg (by omega), if_neg (by omega)]
      · rw [if_neg (by omega), if_pos (by omega)]
      · rw [if_pos (by omega), if_neg (by omega)]
      · rw [if_pos (by omega), if_pos (by omega)]
    · intro u w contribution single
      have drop {t : State} (h : (s.takeNet (.unit (niLoc n)) p).dropAtNi n p = t) : Gives (.drop n p) s t :=
        gives_dropAtNi hn hp_ thawed niUp kind dst h
      have noted : w = (s.takeNet (.unit (niLoc n)) p).dropNoted n p := rfl
      rw [noted]
      clear_value u w
      generalize s.takeNet (.unit (niLoc n)) p = x at drop
      refine ⟨fun h => drop (State.dropAtNi_contribution h), fun h => drop (State.dropAtNi_single h), fun h h2 =>
        ⟨fun open_ => drop ((State.dropAtNi_other h h2).trans ?_), fun none_ => drop ((State.dropAtNi_other h h2).trans ?_)⟩⟩
      · rw [open_]
        rfl
      · rw [none_]
    · intro u
      exact ⟨fun reg => gives_dropAtHp hhp hp_ kind dst (if_pos reg), fun other => gives_dropAtHp hhp hp_ kind dst (if_neg other)⟩

end Sys2Proof.Machine

/-! # Flows: which head starts, and what a start leaves (R115 to R121) -/

namespace Sys2Proof.Machine

/-! ## The block of an address -/

/-- An offset within one copy of a block falls into that copy and no other (R5). -/
theorem blockOf_at {b : Blk} {n o : Nat} (hn : n < b.count) (ho : o < b.size) : blockOf (b.base n + o) = some (b, n) := by
  have miss (c : Blk) (other : c ≠ b) : ¬ (c.base 0 ≤ b.base n + o ∧
      (if c.count = 1 then 0 else (b.base n + o - c.base 0) / (c.base 1 - c.base 0)) < c.count ∧
      b.base n + o - c.base (if c.count = 1 then 0 else (b.base n + o - c.base 0) / (c.base 1 - c.base 0)) < c.size) := by
    cases c <;> cases b <;> simp only [Blk.base, Blk.count, Blk.size, ne_eq, not_true_eq_false, if_true, if_false, Nat.reduceEqDiff] at other hn ho ⊢ <;>
      omega
  have hit : b.base 0 ≤ b.base n + o ∧
      (if b.count = 1 then 0 else (b.base n + o - b.base 0) / (b.base 1 - b.base 0)) = n := by
    cases b <;> simp only [Blk.base, Blk.count, Blk.size, if_true, if_false, Nat.reduceEqDiff] at hn ho ⊢ <;> omega
  have pick (c : Blk) : (let i := if c.count = 1 then 0 else (b.base n + o - c.base 0) / (c.base 1 - c.base 0)
      if c.base 0 ≤ b.base n + o ∧ i < c.count ∧ b.base n + o - c.base i < c.size then some (c, i) else none) =
      if c = b then some (b, n) else none := by
    by_cases same : c = b
    · subst same
      simp only [hit, hn, Nat.add_sub_cancel_left, ho, and_self]
    · rw [if_neg same]
      exact if_neg (miss c same)
  rw [blockOf]
  simp only [pick]
  cases b <;> rfl

theorem blockOf_addr {r : RegDef} {n k : Nat} (hn : n < r.blk.count) (ho : r.off + r.stride * k < r.blk.size) :
    blockOf (r.addr n k) = some (r.blk, n) := by
  rw [RegDef.addr, Nat.add_assoc]
  exact blockOf_at hn ho

section

variable {s t : State} {n f run v txn : Nat} {p : Pkt} {rest : List Pkt}

theorem State.routerUp_of_niUp (up : s.niUp n = true) : s.routerUp n = true := by
  simp only [State.niUp, Bool.and_eq_true] at up
  exact up.1.1

/-- A register of an NI in service answers while its region runs. -/
theorem State.regAlive_ni {r : RegDef} {k : Nat} (blk : r.blk = .ni) (hn : n < 2304) (ho : r.off + r.stride * k < 0x8000) (up : s.niUp n = true)
    (thawed : s.frozenAt n = false) : s.regAlive (r.addr n k) = true := by
  have block : blockOf (r.addr n k) = some (.ni, n) := by
    rw [blockOf_addr (by rw [blk]; exact hn) (by rw [blk]; exact ho), blk]
  simp only [State.frozenAt, Bool.or_eq_false_iff] at thawed
  simp only [State.regAlive, block, State.routerUp_of_niUp up, thawed, Bool.not_false, Bool.and_self]

/-! ## The head that is selected -/

theorem State.mem_of_earliest {l : List Nat} (h : s.earliest n l = some f) : f ∈ l := by
  have pick (l : List Nat) (b : Option Nat) (h : l.foldl (fun b f => match b with
      | none => some f
      | some g => if earlier (s.fl n f).fHead (s.fl n g).fHead then some f else some g) b = some f) : b = some f ∨ f ∈ l := by
    induction l generalizing b with
    | nil => exact .inl h
    | cons a l ih =>
      obtain at_ | mem := ih _ h
      · cases b with
        | none => exact .inr (List.mem_cons.mpr (.inl (Option.some.inj at_).symm))
        | some g =>
          dsimp only at at_
          split at at_
          · exact .inr (List.mem_cons.mpr (.inl (Option.some.inj at_).symm))
          · exact .inl at_
      · exact .inr (List.mem_cons_of_mem _ mem)
  exact (pick l none h).resolve_left nofun

/-- Whether the head of a flow fits a run of open positions. -/
def State.headFits (s : State) (n run f : Nat) : Bool :=
  match (s.fl n f).queue with
  | p :: _ => decide (nflits p ≤ run)
  | [] => false

theorem State.of_headFits (fits : s.headFits n run f = true) : ∃ q l, (s.fl n f).queue = q :: l ∧ nflits q ≤ run := by
  rw [State.headFits] at fits
  cases queue : (s.fl n f).queue with
  | nil =>
    rw [queue] at fits
    exact absurd fits Bool.false_ne_true
  | cons q l =>
    rw [queue] at fits
    exact ⟨q, l, rfl, of_decide_eq_true fits⟩

theorem State.selectFlow_eq : s.selectFlow n run = match s.earliest n (s.candidates n) with
    | none => none
    | some h => if s.headFits n run h then some h else s.earliest n ((s.candidates n).filter (s.headFits n run)) := rfl

/-- A flow that is selected may start a packet, and its head fits the run. -/
theorem State.selectFlow_spec (h : s.selectFlow n run = some f) : f ∈ s.candidates n ∧ ∃ q l, (s.fl n f).queue = q :: l ∧ nflits q ≤ run := by
  rw [State.selectFlow_eq] at h
  cases first : s.earliest n (s.candidates n) with
  | none =>
    rw [first] at h
    cases h
  | some g =>
    rw [first] at h
    dsimp only at h
    split at h
    · next fits =>
      cases h
      exact ⟨State.mem_of_earliest first, State.of_headFits fits⟩
    · obtain ⟨mem, fits⟩ := List.mem_filter.mp (State.mem_of_earliest h)
      exact ⟨mem, State.of_headFits fits⟩

theorem State.of_mem_candidates (h : f ∈ s.candidates n) : (s.fl n f).eligible = true ∧ (f < 32 → s.fld NI_FLOW_CFG_ENABLE n f = 1) := by
  obtain ⟨-, h⟩ := List.mem_filter.mp h
  simp only [Bool.and_eq_true, Bool.or_eq_true, decide_eq_true_eq, beq_iff_eq] at h
  obtain ⟨⟨enabled, eligible⟩, -⟩ := h
  exact ⟨eligible, fun low => enabled.resolve_left (Nat.not_le.mpr low)⟩

/-! ## What a flow's check and a start leave -/

theorem State.fl_setFl_same (x : Flow) : (s.setFl n f x).fl n f = x := SMap.get_put_same _ _ _ _

/-- A check of a flow decides only whether it is eligible or where it is parked. -/
theorem State.checkFlow_spec : ∃ e k, s.checkFlow n f = s.setFl n f { s.fl n f with eligible := e, parked := k } := by
  rw [State.checkFlow]
  dsimp only
  split
  · exact ⟨_, _, rfl⟩
  · exact ⟨_, _, rfl⟩

/-- A new head changes only the flows; queue and bucket stay. -/
theorem State.headCheck_spec (q : Pkt) : ∃ flow, (s.onHead n f q).checkFlow n f = { s with flow := flow } ∧
    (((s.onHead n f q).checkFlow n f).fl n f).queue = (s.fl n f).queue ∧ (((s.onHead n f q).checkFlow n f).fl n f).bucket = (s.fl n f).bucket := by
  obtain ⟨e, k, h⟩ := (s.onHead n f q).checkFlow_spec (n := n) (f := f)
  rw [h]
  refine ⟨_, rfl, ?_, ?_⟩
  · rw [State.fl_setFl_same, State.onHead, State.fl_setFl_same]
  · rw [State.fl_setFl_same, State.onHead, State.fl_setFl_same]

/-- The counters that a start moves. -/
def startedRegs (n f : Nat) : List Nat :=
  [NI_OPEN_TX_LO.addr n 0, NI_OPEN_TX_HI.addr n 0, NI_FLOW_BYTES_LO.addr n f, NI_FLOW_BYTES_HI.addr n f]

theorem State.startFlow_spec (queue : (s.fl n f).queue = p :: rest) : let t := s.startFlow n f
    t.net = s.net ++ [⟨if p.kind = opRED_DATA then .unit (niLoc n) else .router n 4, p⟩] ∧ (t.fl n f).queue = rest ∧
      t.vt.get n 0 = laterTag (s.vt.get n 0) (s.fl n f).fHead ∧
      (t.fl n f).bucket = (if s.rate n f = 0 then (s.fl n f).bucket else (s.fl n f).bucket - 16 * (s.fl n f).headLen) ∧
      s.RegsKept t (startedRegs n f) := by
  have left (x : State) : x.RegsKept (x.addPair NI_OPEN_TX_LO NI_OPEN_TX_HI p.data.length n) (startedRegs n f) :=
    State.regsKept_addPair _ _ _ n 0 (by simp [startedRegs]) (by simp [startedRegs])
  have counted (x : State) : x.RegsKept (if f < 32 then x.addPair NI_FLOW_BYTES_LO NI_FLOW_BYTES_HI p.data.length n f else x) (startedRegs n f) := by
    split
    · exact State.regsKept_addPair _ _ _ n f (by simp [startedRegs]) (by simp [startedRegs])
    · exact .refl
  have frame (x : State) : ∃ regs, (if f < 32 then x.addPair NI_FLOW_BYTES_LO NI_FLOW_BYTES_HI p.data.length n f else x) = { x with regs := regs } := by
    split
    · exact ⟨_, rfl⟩
    · exact ⟨x.regs, rfl⟩
  rw [State.startFlow]
  dsimp only
  rw [queue]
  dsimp only
  generalize hy : ((({ s with vt := s.vt.put n (laterTag (s.V n) (s.fl n f).fHead) }).setFl n f { s.fl n f with
      queue := rest
      bucket := if State.rate { s with vt := s.vt.put n (laterTag (s.V n) (s.fl n f).fHead) } n f = 0 then (s.fl n f).bucket
        else (s.fl n f).bucket - 16 * (s.fl n f).headLen }).push
      (if p.kind = opRED_DATA then .unit (niLoc n) else .router n 4) p).addPair NI_OPEN_TX_LO NI_OPEN_TX_HI p.data.length n = y
  have sofar : y.net = s.net ++ [⟨if p.kind = opRED_DATA then .unit (niLoc n) else .router n 4, p⟩] ∧ (y.fl n f).queue = rest ∧
      y.vt.get n 0 = laterTag (s.vt.get n 0) (s.fl n f).fHead ∧
      (y.fl n f).bucket = (if s.rate n f = 0 then (s.fl n f).bucket else (s.fl n f).bucket - 16 * (s.fl n f).headLen) ∧
      s.RegsKept y (startedRegs n f) := by
    subst hy
    refine ⟨rfl, ?_, SMap.get_put_same _ _ _ _, ?_, left _⟩
    · exact congrArg Flow.queue (SMap.get_put_same _ _ _ _)
    · exact congrArg Flow.bucket (SMap.get_put_same _ _ _ _)
  obtain ⟨net, q, vt, bucket, regs⟩ := sofar
  obtain ⟨_, e⟩ := frame y
  have kept := counted y
  generalize (if f < 32 then y.addPair NI_FLOW_BYTES_LO NI_FLOW_BYTES_HI p.data.length n f else y) = z at e kept ⊢
  have net' : z.net = y.net := by rw [e]
  have vt' : z.vt = y.vt := by rw [e]
  have fl' : z.fl n f = y.fl n f := by rw [e]; rfl
  cases rest with
  | nil => exact ⟨net'.trans net, (congrArg Flow.queue fl').trans q, by rw [vt', vt], (congrArg Flow.bucket fl').trans bucket, regs.trans kept⟩
  | cons h l =>
    obtain ⟨flow, hflow, hq, hb⟩ := z.headCheck_spec (n := n) (f := f) h
    dsimp only
    refine ⟨?_, ?_, ?_, ?_, ?_⟩
    · exact (congrArg State.net hflow).trans (net'.trans net)
    · exact hq.trans ((congrArg Flow.queue fl').trans q)
    · rw [show ((z.onHead n f h).checkFlow n f).vt = z.vt by rw [hflow], vt', vt]
    · exact hb.trans ((congrArg Flow.bucket fl').trans bucket)
    · exact regs.trans (kept.trans (by rw [hflow]; exact fun _ _ _ => rfl))

theorem arm_not_startedRegs (n : Nat) {f : Nat} (hf : f < 34) : (xx_ERR_INJECT_ARM .ni).reg.addr n 0 ∉ startedRegs n f := by
  simp only [startedRegs, List.mem_cons, List.not_mem_nil, or_false, not_or]
  refine ⟨?_, ?_, ?_, ?_⟩ <;> refine RegDef.addr_ne rfl ?_ <;>
    simp only [xx_ERR_INJECT_ARM, xx_ERR_INJECT, NI_OPEN_TX_LO, NI_OPEN_TX_HI, NI_FLOW_BYTES_LO, NI_FLOW_BYTES_HI, UnitKind.setBase] <;> omega

/-! ## The commands of a flow -/

theorem gives_openPacketStart (hn : n < 2304) (up : s.niUp n = true) (thawed : s.frozenAt n = false)
    (h : (match s.selectFlow n (s.openRunL n) with
      | none => s
      | some f =>
        match (s.fl n f).queue with
        | [] => s
        | p :: _ =>
          if p.kind = opRED_DATA ∨ s.roomFor n 4 p = true then (s.startFlow n f).injEvent .ni n (Config.parityAt s.fresh n % 2 ^ 18) [5] else s) = t) :
    Gives (.openPacketStart n) s t :=
  Gives.of_run (exec_openPacketStart n s) (decide_eq_true hn) ((if_neg (by simp [up, thawed])).trans h)

/-- A register write, as served and typed. -/
def State.servedTyped (s : State) (r : RegDef) (n k v : Nat) : State := (s.serveWrite (r.addr n k) v).writeTyped r n k v

theorem State.servedTyped_spec (r : RegDef) (n k v : Nat) : (∃ net bn regs, s.servedTyped r n k v = { s with net := net, bn := bn, regs := regs }) ∧
    s.RegsKept (s.servedTyped r n k v) [r.addr n k] := by
  obtain ⟨net, bn, e⟩ := s.serveWrite_frame (r.addr n k) v
  rw [State.servedTyped, e]
  exact ⟨⟨net, bn, _, rfl⟩, fun off d out => State.regs_wr_ne _ _ _ _ _ off d (List.mem_singleton.not.mp out)⟩

/-- A field that software writes takes the bits of the word. -/
theorem State.fld_servedTyped {r : RegDef} {fl : Fld} {reset : Nat} (order : descend 32 r.fields = true) (n k v : Nat) (hr : fl.reg = r)
    (mem : (⟨fl.hi, fl.lo, .rw, reset⟩ : FieldDef) ∈ r.fields) : (s.servedTyped r n k v).fld fl n k = bits v fl.hi fl.lo :=
  State.fld_writeTyped order (s.serveWrite (r.addr n k) v) n k hr mem

/-- A write of a flow's RATE empties its bucket or fills it, and checks a parked flow at the next beat. -/
def State.rateWritten (s : State) (n f v : Nat) : State :=
  (s.servedTyped NI_FLOW_RATE n f v).setFl n f { (s.servedTyped NI_FLOW_RATE n f v).fl n f with
    bucket := if (s.servedTyped NI_FLOW_RATE n f v).fld NI_FLOW_CFG_RESET_FULL n f = 1 then (s.servedTyped NI_FLOW_RATE n f v).bucketMax n f else 0
    parked := ((s.servedTyped NI_FLOW_RATE n f v).fl n f).parked.map fun _ => checkNext }

theorem gives_flowRateWrite (hn : n < 2304) (hf : f < 32) (hv : v < 2 ^ 32) (up : s.niUp n = true) (thawed : s.frozenAt n = false) :
    Gives (.flowRateWrite n f v) s (s.rateWritten n f v) :=
  Gives.of_run (exec_flowRateWrite n f v s) (by simp only [Instr.wf, okSlot, okW, hn, hf, hv, decide_true, Bool.and_self])
    (if_pos (State.regAlive_ni rfl hn (by simp only [NI_FLOW_RATE]; omega) up thawed))

theorem State.rateWritten_spec : let t := s.rateWritten n f v
    (t.fl n f).bucket = (if s.fld NI_FLOW_CFG_RESET_FULL n f = 1 then t.bucketMax n f else 0) ∧
      (t.fl n f).queue = (s.fl n f).queue ∧ (t.fl n f).fHead = (s.fl n f).fHead ∧
      ((s.fl n f).parked = none → (t.fl n f).parked = none) ∧ s.RegsKept t [NI_FLOW_RATE.addr n f] ∧ t.spad = s.spad := by
  obtain ⟨⟨_, _, _, e⟩, kept⟩ := s.servedTyped_spec NI_FLOW_RATE n f v
  have full : (s.servedTyped NI_FLOW_RATE n f v).fld NI_FLOW_CFG_RESET_FULL n f = s.fld NI_FLOW_CFG_RESET_FULL n f :=
    kept.fld (List.mem_singleton.not.mpr (RegDef.addr_ne rfl (by simp only [NI_FLOW_CFG_RESET_FULL, NI_FLOW_CFG, NI_FLOW_RATE]; omega)))
  unfold State.rateWritten
  generalize s.servedTyped NI_FLOW_RATE n f v = x at e kept full ⊢
  have flow : x.fl n f = s.fl n f := by rw [e]; rfl
  have spad : x.spad = s.spad := by rw [e]
  dsimp only
  rw [State.fl_setFl_same, flow, full]
  exact ⟨rfl, rfl, rfl, fun free => by simp only [free, Option.map_none], kept, spad⟩

/-- Enabling a flow with a head gives the head a fresh tag (R118). -/
def State.flowTagged (s : State) (n f : Nat) (p : Pkt) : State :=
  (s.setFl n f { s.fl n f with
    headLen := s.charge n f p
    fHead := (s.V n + s.charge n f p * 256 / s.weight n f) % 2 ^ 32
    fLast := (s.V n + s.charge n f p * 256 / s.weight n f) % 2 ^ 32 }).checkFlow n f

theorem State.flowTagged_spec : let t := s.flowTagged n f p
    (t.fl n f).headLen = t.charge n f p ∧ (t.fl n f).queue = (s.fl n f).queue ∧
      (t.fl n f).fHead = (s.vt.get n 0 + t.charge n f p * 256 / t.weight n f) % 2 ^ 32 ∧ (t.fl n f).fLast = (t.fl n f).fHead ∧ t.regs = s.regs := by
  obtain ⟨e, k, h⟩ := (s.setFl n f { s.fl n f with
    headLen := s.charge n f p
    fHead := (s.V n + s.charge n f p * 256 / s.weight n f) % 2 ^ 32
    fLast := (s.V n + s.charge n f p * 256 / s.weight n f) % 2 ^ 32 }).checkFlow_spec (n := n) (f := f)
  dsimp only
  rw [State.flowTagged, h, State.fl_setFl_same, State.fl_setFl_same]
  exact ⟨rfl, rfl, rfl, rfl, rfl⟩

theorem gives_flowCfgWrite (hn : n < 2304) (hf : f < 32) (hv : v < 2 ^ 32) (up : s.niUp n = true) (thawed : s.frozenAt n = false)
    (h : (match (s.fl n f).queue with
      | p :: _ => if s.fld NI_FLOW_CFG_ENABLE n f = 0 ∧ v / 2 ^ 31 % 2 = 1 then (s.servedTyped NI_FLOW_CFG n f v).flowTagged n f p else s.servedTyped NI_FLOW_CFG n f v
      | [] => s.servedTyped NI_FLOW_CFG n f v) = t) : Gives (.flowCfgWrite n f v) s t := by
  obtain ⟨net, bn, e⟩ := s.serveWrite_frame (NI_FLOW_CFG.addr n f) v
  obtain ⟨⟨_, _, _, e'⟩, -⟩ := s.servedTyped_spec NI_FLOW_CFG n f v
  refine Gives.of_run (exec_flowCfgWrite n f v s) (by simp only [Instr.wf, okSlot, okW, hn, hf, hv, decide_true, Bool.and_self])
    ((if_pos (State.regAlive_ni rfl hn (by simp only [NI_FLOW_CFG]; omega) up thawed)).trans (.trans ?_ h))
  have was : (s.serveWrite (NI_FLOW_CFG.addr n f) v).fld NI_FLOW_CFG_ENABLE n f = s.fld NI_FLOW_CFG_ENABLE n f := by rw [e]; rfl
  have flow : (s.servedTyped NI_FLOW_CFG n f v).fl n f = s.fl n f := by rw [e']; rfl
  dsimp only
  rw [was]
  change (match ((s.servedTyped NI_FLOW_CFG n f v).fl n f).queue with
    | p :: _ => if s.fld NI_FLOW_CFG_ENABLE n f = 0 ∧ bit v 31 = true then (s.servedTyped NI_FLOW_CFG n f v).flowTagged n f p
      else s.servedTyped NI_FLOW_CFG n f v
    | [] => s.servedTyped NI_FLOW_CFG n f v) = _
  rw [flow]
  cases (s.fl n f).queue with
  | nil => rfl
  | cons q l => simp only [bit_eq, decide_eq_true_eq]

theorem gives_openTimeout (hn : n < 2304) (htxn : txn < 4096) (thawed : s.frozenAt n = false)
    (h : (match s.findTx n txn with
      | none => s
      | some t => if t.use = .trace then s else if t.lost = true then s.txEnd t stTARGET_FENCED
        else (((s.niCause n NI_OPEN_STATUS_TIMEOUT 10 2).log .ni n 0x0A (if (s.awaitedOf t).1 = 0 then s.awaitedOf t else (4, t.chip)).1
          (if (s.awaitedOf t).1 = 0 then s.awaitedOf t else (4, t.chip)).2 txn).txEnd t stTIMEOUT)) = t) : Gives (.openTimeout n txn) s t := by
  refine Gives.of_run (exec_openTimeout n txn s) (by simp only [Instr.wf, okSlot, hn, htxn, decide_true, Bool.and_self]) (.trans ?_ h)
  cases s.findTx n txn with
  | none => rfl
  | some o => simp only [thawed, Bool.false_eq_true, or_false]

end

/-- Settles O13: the selection gives a flow that may start a packet, and a start or a write of a flow touches nothing else of it. -/
theorem flowsStartPacketsAndTimeOut : Obligations.FlowsStartPacketsAndTimeOut := by
  unfold Obligations.FlowsStartPacketsAndTimeOut
  intro s n f v txn run p rest hn hf hv htxn thawed up unarmed
  have start {t : State} := gives_openPacketStart (t := t) hn up thawed
  have wheel {t : State} (h : (if (s.fl n f).parked = some (s.wheelPos n) ∧ s.frozenAt n = false then
      (s.setFl n f { s.fl n f with parked := none }).checkFlow n f else s) = t) : Gives (.wheelUnpark n f) s t :=
    Gives.of_run (exec_wheelUnpark n f s) (by simp only [Instr.wf, okSlot, hn, hf, decide_true, Bool.and_self]) h
  refine ⟨fun first => ?_, fun none_ => start (by rw [none_]), fun first queue => ⟨fun ok => ?_, fun data full => ?_⟩, fun at_ => wheel (if_pos ⟨at_, thawed⟩),
    fun away => wheel (if_neg fun h => away h.1), fun low => ?_, fun low queue off on => ?_, fun low same => ?_, ?_⟩
  · obtain ⟨mem, head⟩ := State.selectFlow_spec first
    exact ⟨(State.of_mem_candidates mem).1, (State.of_mem_candidates mem).2, head⟩
  · obtain ⟨net, q, vt, bucket, regs⟩ := State.startFlow_spec queue
    refine (start (t := s.startFlow n f) ?_).does ?_
    · rw [first]
      dsimp only
      rw [queue]
      refine (if_pos ok).trans (State.injEvent_of_unarmed _ _ ?_)
      rw [regs.fld (arm_not_startedRegs n hf)]
      exact unarmed
    · generalize s.startFlow n f = x at net q vt bucket
      refine ⟨net, q, vt, fun low rate => bucket.trans (if_neg ?_)⟩
      rw [State.rate, if_pos low]
      exact rate
  · refine start ?_
    rw [first]
    dsimp only
    rw [queue]
    exact if_neg fun h => h.elim data fun room => Bool.false_ne_true (full.symm.trans room)
  · refine (gives_flowRateWrite hn low hv up thawed).does ?_
    obtain spec := s.rateWritten_spec (n := n) (f := f) (v := v)
    generalize s.rateWritten n f v = x at spec ⊢
    exact spec
  · have given := gives_flowCfgWrite (t := (s.servedTyped NI_FLOW_CFG n f v).flowTagged n f p) hn low hv up thawed
      (by rw [queue]; exact if_pos ⟨off, on⟩)
    refine given.does ?_
    obtain ⟨⟨_, _, _, e⟩, kept⟩ := s.servedTyped_spec NI_FLOW_CFG n f v
    obtain ⟨len, q, head, last, regs⟩ := (s.servedTyped NI_FLOW_CFG n f v).flowTagged_spec (n := n) (f := f) (p := p)
    have flow : (s.servedTyped NI_FLOW_CFG n f v).fl n f = s.fl n f := by rw [e]; rfl
    have vt : (s.servedTyped NI_FLOW_CFG n f v).vt = s.vt := by rw [e]
    rw [flow] at q
    rw [vt] at head
    have kept : s.RegsKept ((s.servedTyped NI_FLOW_CFG n f v).flowTagged n f p) [NI_FLOW_CFG.addr n f] := kept.trans fun off d _ => by rw [regs]
    generalize (s.servedTyped NI_FLOW_CFG n f v).flowTagged n f p = x at len q head last kept
    exact ⟨len, q, head, last, kept⟩
  · obtain ⟨⟨_, _, _, e⟩, kept⟩ := s.servedTyped_spec NI_FLOW_CFG n f v
    have flow : (s.servedTyped NI_FLOW_CFG n f v).fl n f = s.fl n f := by rw [e]; rfl
    refine (gives_flowCfgWrite (t := s.servedTyped NI_FLOW_CFG n f v) hn low hv up thawed ?_).does ?_
    · obtain empty | on | zero := same
      · rw [empty]
      all_goals
        cases (s.fl n f).queue with
        | nil => rfl
        | cons q l => exact if_neg (by omega)
    · generalize s.servedTyped NI_FLOW_CFG n f v = x at flow kept
      exact ⟨flow, kept⟩
  · have timeout {t : State} := gives_openTimeout (t := t) hn htxn thawed
    refine ⟨fun none_ => timeout (by rw [none_]), fun t found trace => timeout ?_, fun t found other => ⟨fun kept => timeout ?_, fun lost => timeout ?_⟩⟩
    all_goals
      rw [found]
    · exact if_pos trace
    · exact (if_neg other).trans (if_neg (by simp [kept]))
    · exact (if_neg other).trans (if_pos lost)

end Sys2Proof.Machine

/-! # Reads and atomics at a tile, and their answers (R125, R147, R148) -/

namespace Sys2Proof.Machine

section

variable {s t : State} {n ten ofs len : Nat} {p : Pkt} {act ue : Bool}

/-- The checks of R125 pass exactly where none of them holds. -/
theorem State.check125_eq_none {h : Nat} : s.check125 n h ten ofs len act = none ↔ s.tnState n = 1 ∧ s.fld NI_HDL_CFG_VALID n h ≠ 0 ∧
    s.fld NI_HDL_CFG_TENANCY n h = ten ∧ ofs + len ≤ (s.hdlRange n h).2 ∧ ¬(act = true ∧ s.fld NI_HDL_CFG_CLASS n h = 1) := by
  rw [State.check125]
  split_ifs with own valid tenancy range class_
  all_goals
    simp only [false_iff, true_iff]
  · exact fun h => own h.1
  · exact fun h => h.2.1 valid
  · exact fun h => tenancy h.2.2.1
  · exact fun h => Nat.not_le.mpr range h.2.2.2.1
  · exact fun h => h.2.2.2.2 class_
  · exact ⟨not_not.mp own, valid, not_not.mp tenancy, Nat.not_lt.mp range, class_⟩

/-- A request for an NI in service reaches its unit. -/
theorem toNi_iff (hn : n < 2304) (dst : p.dst = niLoc n) : p.dst.port = 0 ∧ p.dst.slot = n ∧ n < 2304 := by
  rw [dst, niLoc_port, niLoc_slot]
  exact ⟨rfl, rfl, hn⟩

theorem gives_readAtNi (hn : n < 2304) (ok : okPkt p = true) (kind : p.kind = opREAD) (dst : p.dst = niLoc n) (thawed : s.frozenAt n = false)
    (up : s.niUp n = true) (unarmed : s.fld (xx_ERR_INJECT_ARM .ni) n = 0) (h : (s.takeNet (.unit (niLoc n)) p).readAtNi n p ue = t) :
    Gives (.read n p ue) s t := by
  refine Gives.of_run (exec_read n p ue s) ok ((if_neg (not_not.mpr kind)).trans ?_)
  rw [dst, attachOf_niLoc, ← dst]
  refine (if_pos (toNi_iff hn dst)).trans ((State.atNi_of_up _ thawed up).trans ?_)
  dsimp only
  rw [State.injEvent_of_unarmed (s := s.takeNet (.unit (niLoc n)) p) _ _ unarmed, show (s.takeNet (.unit (niLoc n)) p).niUp n = true from up]
  exact h

theorem gives_atomicAtNi (hn : n < 2304) (ok : okPkt p = true) (kind : p.kind = opATOMIC ∨ p.kind = opATOMIC_CAS) (dst : p.dst = niLoc n)
    (thawed : s.frozenAt n = false) (up : s.niUp n = true) (h : (s.takeNet (.unit (niLoc n)) p).atomicAtNi n p ue = t) :
    Gives (.reqAtomic n p ue) s t := by
  refine Gives.of_run (exec_reqAtomic n p ue s) ok ((if_neg (not_and_or.mpr (kind.imp not_not.mpr not_not.mpr))).trans ?_)
  rw [dst, attachOf_niLoc, ← dst]
  exact (if_pos (toNi_iff hn dst)).trans ((State.atNi_of_up _ thawed up).trans h)

theorem State.readAtNi_refused {st : Nat} (h : s.check125 n (adHandle (p.arg 0)) p.ten (adOfs (p.arg 0)) (p.arg 1 + 1) false = some st) :
    s.readAtNi n p ue = s.emit (mkPkt opREAD_ERR (niLoc n) p.src p.ten p.flow p.txn [st]) := by
  simp only [State.readAtNi, h]
  rfl

theorem State.readAtNi_passed (h : s.check125 n (adHandle (p.arg 0)) p.ten (adOfs (p.arg 0)) (p.arg 1 + 1) false = none) :
    s.readAtNi n p ue = s.enqueue n 32 (mkDat opREAD_DATA (niLoc n) p.src p.ten p.flow p.txn [if ue then stDATA_ERROR else stOK] (p.arg 0) 0
      (s.fld NI_HDL_CFG_CLASS n (adHandle (p.arg 0)))
      (s.spadRead n ((s.hdlRange n (adHandle (p.arg 0))).1 + adOfs (p.arg 0)) (p.arg 1 + 1))) := by
  simp only [State.readAtNi, h]
  rfl

theorem State.atomicAtNi_refused {st : Nat} (h : s.check125 n (adHandle (p.arg 0)) p.ten (adOfs (p.arg 0)) (reqLen p) true = some st) :
    s.atomicAtNi n p ue = s.emit (mkPkt p.atomicAns (niLoc n) p.src p.ten p.flow p.txn [st, 0]) := by
  simp only [State.atomicAtNi, h]
  rfl

theorem State.atomicAtNi_passed (h : s.check125 n (adHandle (p.arg 0)) p.ten (adOfs (p.arg 0)) (reqLen p) true = none) :
    s.atomicAtNi n p ue = (if ue then s else s.spadWrite n ((s.hdlRange n (adHandle (p.arg 0))).1 + adOfs (p.arg 0)) (toBytes (reqLen p)
        (atomicResult p (ofBytes (s.spadRead n ((s.hdlRange n (adHandle (p.arg 0))).1 + adOfs (p.arg 0)) (reqLen p)))))).emit
      (mkPkt p.atomicAns (niLoc n) p.src p.ten p.flow p.txn [if ue then stDATA_ERROR else stOK,
        ofBytes (s.spadRead n ((s.hdlRange n (adHandle (p.arg 0))).1 + adOfs (p.arg 0)) (reqLen p))]) := by
  simp only [State.atomicAtNi, h]
  rfl

/-! ## Answers -/

section

variable {o : OTx}

theorem State.ringAnswer_of_none (none_ : s.findTx n p.txn = none) : s.ringAnswer n p = false := by
  rw [State.ringAnswer, none_]

theorem State.ringAnswer_of_read (found : s.findTx n p.txn = some o) (use : o.use = .read) : s.ringAnswer n p = false := by
  rw [State.ringAnswer, found]
  dsimp only
  rw [use]
  rfl

theorem gives_readData (hn : n < 2304) (ok : okPkt p = true) (thawed : s.frozenAt n = false) (up : s.niUp n = true) (kind : p.kind = opREAD_DATA)
    (dst : p.dst = niLoc n) (own : s.ringAnswer n p = false)
    (h : (match (s.takeNet (.unit (niLoc n)) p).findTx n p.txn with
      | none => (s.takeNet (.unit (niLoc n)) p).lateRsp n
      | some o =>
        let st := if ue then stDATA_ERROR else p.arg 0
        let s := if ue then (s.takeNet (.unit (niLoc n)) p).report .ni n 10 (29 + 3 <<< 15) else s.takeNet (.unit (niLoc n)) p
        match o.use with
        | .read => ((s.delTx n p.txn).hostReadOf o p.data).partRead o.xfer o.arg st (p.arg 5) p.data
        | .sigRead =>
          let s := (List.range 8).foldl (fun s i =>
            s.sigLog n o.xfer (o.arg + 8 * i) (ofBytes (Machine.slice p.data (8 * i) 8))) s
          (s.delTx n p.txn).sigLineIn n o.xfer o.arg p.data
        | _ => s.lateRsp n) = t) : Gives (.readData n p ue) s t := by
  refine Gives.of_run (exec_readData n p ue s) (by simp only [Instr.wf, okSlot, hn, ok, decide_true, Bool.and_self])
    ((if_neg (not_not.mpr kind)).trans ((if_neg ?_).trans ((if_neg (ne_true_of_eq_false own)).trans ((State.atNi_of_up _ thawed up).trans h))))
  rw [dst, niLoc_port]
  decide

theorem gives_readErr (hn : n < 2304) (ok : okPkt p = true) (thawed : s.frozenAt n = false) (up : s.niUp n = true) (kind : p.kind = opREAD_ERR)
    (dst : p.dst = niLoc n) (own : s.ringAnswer n p = false)
    (h : (match (s.takeNet (.unit (niLoc n)) p).findTx n p.txn with
      | none => (s.takeNet (.unit (niLoc n)) p).lateRsp n
      | some o =>
        match o.use with
        | .read => ((s.takeNet (.unit (niLoc n)) p).delTx n p.txn).partDone o.xfer o.arg (p.arg 0)
        | .sigRead =>
          let s := s.takeNet (.unit (niLoc n)) p
          let s := { s with sigLines := s.sigLines.filter (fun l => !(l.ni == n && l.ten == o.xfer && l.addr == o.arg)) }
          (s.delTx n p.txn).endSigWaits n o.xfer (fun a => a / 64 * 64 == o.arg) (p.arg 0)
        | _ => (s.takeNet (.unit (niLoc n)) p).lateRsp n) = t) : Gives (.readErr n p) s t := by
  refine Gives.of_run (exec_readErr n p s) (by simp only [Instr.wf, okSlot, hn, ok, decide_true, Bool.and_self])
    ((if_neg (not_not.mpr kind)).trans ((if_neg ?_).trans ((if_neg (ne_true_of_eq_false own)).trans ((State.atNi_of_up _ thawed up).trans h))))
  rw [dst, niLoc_port]
  decide

theorem gives_atomicAns (hn : n < 2304) (ok : okPkt p = true) (thawed : s.frozenAt n = false) (up : s.niUp n = true)
    (kind : p.kind = opATOMIC_ANS ∨ p.kind = opATOMIC_CAS_ANS)
    (h : (match (s.takeNet (.unit (niLoc n)) p).findTx n p.txn with
      | none => (s.takeNet (.unit (niLoc n)) p).lateRsp n
      | some t =>
        let s := (s.takeNet (.unit (niLoc n)) p).delTx n p.txn
        match s.desc? t.desc with
        | none => s
        | some d =>
          if p.arg 0 ≠ 0 ∧ p.arg 0 ≠ stDATA_ERROR then s.finish d.id (p.arg 0)
          else if d.w 5 = 0 then s.finish d.id (p.arg 0)
          else s.writeAux d (d.w 5) d.auxHost (toBytes 8 (if bit (d.w 6) 4 then p.arg 1 else p.arg 1 % 2 ^ 32))
            (p.arg 0) 0 0) = t) : Gives (.atomicAns n p) s t :=
  Gives.of_run (exec_atomicAns n p s) (by simp only [Instr.wf, okSlot, hn, ok, decide_true, Bool.and_self])
    ((if_neg (not_and_or.mpr (kind.imp not_not.mpr not_not.mpr))).trans ((State.atNi_of_up _ thawed up).trans h))

end

end

/-- Settles O14: R125 decides a request at a tile alone, and an answer goes to the transaction that it names. -/
theorem readsAndAtomicsAreCheckedAndAnswered : Obligations.ReadsAndAtomicsAreCheckedAndAnswered := by
  unfold Obligations.ReadsAndAtomicsAreCheckedAndAnswered
  intro s n p ue t hn ok thawed up unarmed u h base
  refine ⟨fun ten ofs len act => State.check125_eq_none, fun kind dst => ⟨fun passed => ?_, fun st refused => ?_⟩,
    fun kind dst => ⟨fun passed => ⟨?_, ?_⟩, fun st refused => ?_⟩, fun kind => ?_, fun kind => ?_, fun m a at_ => ⟨fun kind => ?_, fun kind => ?_⟩,
    fun m at_ => ⟨fun kind => ?_, fun kind => ?_⟩, fun dst none_ => ⟨fun kind => ?_, fun kind => ?_, fun kind => ?_⟩,
    fun dst found use => ⟨fun kind => ?_, fun kind => ?_⟩, fun d kind found desc same ends => ?_⟩
  · exact gives_readAtNi hn ok kind dst thawed up unarmed (State.readAtNi_passed (s := u) passed)
  · exact gives_readAtNi hn ok kind dst thawed up unarmed (State.readAtNi_refused (s := u) refused)
  · exact gives_atomicAtNi hn ok kind dst thawed up (State.atomicAtNi_passed (s := u) passed)
  · exact gives_atomicAtNi hn ok kind dst thawed up (State.atomicAtNi_passed (s := u) passed)
  · exact gives_atomicAtNi hn ok kind dst thawed up (State.atomicAtNi_refused (s := u) refused)
  · rw [Pkt.atomicAns, kind]
    rfl
  · rw [Pkt.atomicAns, kind]
    rfl
  · refine Gives.of_run (exec_read n p ue s) ok ((if_neg (not_not.mpr kind)).trans ?_)
    rw [at_]
    rfl
  · refine Gives.of_run (exec_reqAtomic n p ue s) ok ((if_neg (not_and_or.mpr (kind.imp not_not.mpr not_not.mpr))).trans ?_)
    rw [at_]
    rfl
  · refine Gives.of_run (exec_read n p ue s) ok ((if_neg (not_not.mpr kind)).trans ?_)
    rw [at_]
    rfl
  · refine Gives.of_run (exec_reqAtomic n p ue s) ok ((if_neg (not_and_or.mpr (kind.imp not_not.mpr not_not.mpr))).trans ?_)
    rw [at_]
    rfl
  · exact gives_readData hn ok thawed up kind dst (State.ringAnswer_of_none none_) (by rw [show u.findTx n p.txn = none from none_]; rfl)
  · exact gives_readErr hn ok thawed up kind dst (State.ringAnswer_of_none none_) (by rw [show u.findTx n p.txn = none from none_]; rfl)
  · exact gives_atomicAns hn ok thawed up kind (by rw [show u.findTx n p.txn = none from none_]; rfl)
  · refine gives_readData hn ok thawed up kind dst (State.ringAnswer_of_read found use) ?_
    rw [show u.findTx n p.txn = some t from found]
    dsimp only
    rw [use]
    rfl
  · refine gives_readErr hn ok thawed up kind dst (State.ringAnswer_of_read found use) ?_
    rw [show u.findTx n p.txn = some t from found]
    dsimp only
    rw [use]
  · refine gives_atomicAns hn ok thawed up kind ?_
    rw [show u.findTx n p.txn = some t from found]
    have desc : (u.delTx n p.txn).desc? t.desc = some d := by rw [State.desc?, State.delTx_descs]; exact desc
    dsimp only
    rw [desc]
    dsimp only
    rw [same]
    obtain ⟨bad, worse⟩ | zero := ends
    · exact if_pos ⟨bad, worse⟩
    · by_cases bad : p.arg 0 ≠ 0 ∧ p.arg 0 ≠ stDATA_ERROR
      · exact if_pos bad
      · exact (if_neg bad).trans (if_pos zero)

end Sys2Proof.Machine

/-! # Credits and windows at a tile (R127, R129 to R131, R134 to R142) -/

namespace Sys2Proof.Machine

/-! ## Trace records -/

section

variable {s t : State} {n h k : Nat} {p : Pkt}

/-- A trace record changes the NI's buffer of records, its count of lost ones, and stamps. -/
theorem State.traceRec_frame (ty ten : Nat) (d : Option TraceId) (ak aw obj arg : Nat) : ∃ regs trace stamp rgn woken,
    s.traceRec n ty ten d ak aw obj arg = { s with regs := regs, trace := trace, stamp := stamp, rgn := rgn, woken := woken } := by
  have stamp (x : State) (d : Nat) : ∃ stamp rgn woken, x.stamped d = { x with stamp := stamp, rgn := rgn, woken := woken } := by
    rw [State.stamped]
    dsimp only
    split
    · exact ⟨_, _, x.woken, rfl⟩
    · exact ⟨_, x.rgn, _, rfl⟩
  have buffer (x : State) (c : Prop) [Decidable c] (b b' : TraceBuf) (d : Nat) : ∃ regs trace stamp rgn woken,
      (if c then { x with trace := x.trace.put n b }.addFld NI_TRACE_STATUS_LOST 1 n else { x with trace := x.trace.put n b' }.stamped d) =
        { x with regs := regs, trace := trace, stamp := stamp, rgn := rgn, woken := woken } := by
    split
    · exact ⟨_, _, x.stamp, x.rgn, x.woken, rfl⟩
    · obtain ⟨_, _, _, e⟩ := stamp { x with trace := x.trace.put n b' } d
      exact ⟨x.regs, _, _, _, _, e⟩
  rw [State.traceRec]
  by_cases on : s.fld NI_TRACE_CFG_ENABLE n = 1 ∧ bit (s.fld NI_TRACE_CFG_TYPES n) (ty - 1) = true ∧
    (s.fld NI_TRACE_CFG_ALL_TEN n = 1 ∨ s.fld NI_TRACE_CFG_TENANCY n = ten) ∧ s.clockOff (regionOf n) = false
  · dsimp only
    rw [if_pos on]
    exact buffer s _ _ _ _
  · dsimp only
    rw [if_neg on]
    exact ⟨s.regs, s.trace, s.stamp, s.rgn, s.woken, rfl⟩

/-! ## Waiters and the ledger -/

theorem State.serveWaiters_of_none (fuel : Nat) (none_ : s.waitersOf n h = []) : s.serveWaiters n h fuel = s := by
  cases fuel with
  | zero => rfl
  | succ fuel => rw [State.serveWaiters, none_]

/-- A window without waiters has none to answer. -/
theorem State.closeWaiters_of_none (none_ : s.waitersOf n h = []) : s.closeWaiters n h = s := by
  have all : s.waiters.filter (fun w => !(w.ni == n && w.handle == h)) = s.waiters :=
    List.filter_eq_self.mpr fun w mem => by
      exact congrArg (!·) (eq_false_of_ne_true (List.filter_eq_nil_iff.mp none_ w mem))
  simp only [State.closeWaiters, none_, all, List.foldl_nil]

theorem State.ledgerFreed_of_none (none_ : ∀ y ∈ s.waiters, y.ni ≠ n) : s.ledgerFreed n = s := by
  have empty : s.waiters.filter (fun w => w.ni == n) = [] := List.filter_eq_nil_iff.mpr fun w mem => by simp [none_ w mem]
  simp only [State.ledgerFreed, empty, List.map_nil, List.isEmpty_nil, if_true]

end

/-! ## Credit requests -/

section

variable {s t : State} {n : Nat} {p : Pkt}

/-- The checks of R125 that a request for credits passes. -/
structure State.CreditOpen (s : State) (n : Nat) (p : Pkt) : Prop where
  own : s.tnState n = 1
  valid : s.fld NI_HDL_CFG_VALID n (adHandle (p.arg 0)) = 1
  tenancy : s.fld NI_HDL_CFG_TENANCY n (adHandle (p.arg 0)) = p.ten
  inside : adOfs (p.arg 0) ≤ (s.hdlRange n (adHandle (p.arg 0))).2

theorem State.creditJudge_eq (ok : s.CreditOpen n p) : s.creditJudge n p =
    if (s.window n (adHandle (p.arg 0))).state ≠ 1 ∨ (p.arg 3 = 1 ∧ p.arg 4 ≠ (s.window n (adHandle (p.arg 0))).epoch) then (3, s)
    else if (s.window n (adHandle (p.arg 0))).pool < p.arg 1 then (2, s)
    else if (s.waitersOf n (adHandle (p.arg 0))).isEmpty = true ∧ s.canGrant n (adHandle (p.arg 0)) (p.arg 1) = true then
      (0, s.grant n (adHandle (p.arg 0)) p.src p.txn (p.arg 1))
    else
      let s := if p.arg 1 ≤ (s.window n (adHandle (p.arg 0))).free ∧ 128 ≤ s.ledgerUse n then s.niCause n NI_CREDIT_STATUS_LEDGER_FULL 11 3 else s
      if p.arg 2 = 1 then (1, s)
      else if 64 ≤ (s.waiters.filter (fun x => x.ni == n)).length then (2, s.niCause n NI_CREDIT_STATUS_WAITQ_FULL 11 2)
      else (1, { s with waiters := s.waiters ++ [⟨n, adHandle (p.arg 0), p.src, p.txn, p.arg 1, p.ten, p.flow⟩] }) := by
  obtain ⟨own, valid, tenancy, inside⟩ := ok
  exact (if_neg (not_not.mpr own)).trans ((if_neg (by omega)).trans ((if_neg (not_not.mpr tenancy)).trans (if_neg (Nat.not_lt.mpr inside))))

/-- A request for more than FREE waits, or is refused where it does not wait or the queue is full (R134, R135). -/
theorem State.creditJudge_short (ok : s.CreditOpen n p) (open_ : (s.window n (adHandle (p.arg 0))).state = 1)
    (current : p.arg 3 ≠ 1 ∨ p.arg 4 = (s.window n (adHandle (p.arg 0))).epoch) (enough : p.arg 1 ≤ (s.window n (adHandle (p.arg 0))).pool)
    (short : (s.window n (adHandle (p.arg 0))).free < p.arg 1) : s.creditJudge n p =
    if p.arg 2 = 1 then (1, s)
    else if 64 ≤ (s.waiters.filter (fun x => x.ni == n)).length then (2, s.niCause n NI_CREDIT_STATUS_WAITQ_FULL 11 2)
    else (1, { s with waiters := s.waiters ++ [⟨n, adHandle (p.arg 0), p.src, p.txn, p.arg 1, p.ten, p.flow⟩] }) := by
  have unable : ¬ ((s.waitersOf n (adHandle (p.arg 0))).isEmpty = true ∧ s.canGrant n (adHandle (p.arg 0)) (p.arg 1) = true) := by
    intro able
    have free := able.2
    simp only [State.canGrant, Bool.and_eq_true, decide_eq_true_eq] at free
    exact Nat.not_le.mpr short free.1.2
  refine (State.creditJudge_eq ok).trans ((if_neg ?_).trans ((if_neg (Nat.not_lt.mpr enough)).trans ((if_neg unable).trans ?_)))
  · rintro (closed | ⟨held, other⟩)
    · exact closed open_
    · exact current.elim (fun f => f held) other
  · simp only [Nat.not_le.mpr short, false_and, if_false]

theorem gives_creditReq (hn : n < 2304) (ok : okPkt p = true) (thawed : s.frozenAt n = false) (up : s.niUp n = true) (kind : p.kind = opCREDIT_REQ)
    (single : p.dst.port ≠ 7) {r : Nat × State} (judged : (s.takeNet (.unit (niLoc n)) p).creditJudge n p = r)
    (h : r.2.emit (mkPkt opCREDIT_ANS (niLoc n) p.src p.ten p.flow p.txn [(s.window n (adHandle (p.arg 0))).epoch, if r.1 = 0 then p.arg 1 else 0, r.1, 0]) = t) :
    Gives (.creditReq n p) s t := by
  refine Gives.of_run (exec_creditReq n p s) (by simp only [Instr.wf, okSlot, hn, ok, decide_true, Bool.and_self])
    ((if_neg (not_not.mpr kind)).trans ((State.atNi_of_up _ thawed up).trans ?_))
  dsimp only
  rw [judged]
  exact (if_neg single).trans h

/-- What the requester's NI does with a whole grant that comes. -/
theorem gives_creditAns {port : Nat} (hn : n < 2304) (hport : port < 6) (ok : okPkt p = true) (thawed : s.frozenAt n = false) (up : s.niUp n = true)
    (kind : p.kind = opCREDIT_ANS) (dst : p.dst = niLoc n) (h : (s.takeNet (.unit (niLoc n)) p).creditAnsAtNi n p = t) :
    Gives (.creditAns n port p) s t := by
  refine Gives.of_run (exec_creditAns n port p s) (by simp only [Instr.wf, okSlot, hn, hport, ok, decide_true, Bool.and_self])
    ((if_neg (not_not.mpr kind)).trans ((if_neg ?_).trans ((if_neg ?_).trans ((State.atNi_of_up _ thawed up).trans h))))
  · rw [dst, niLoc_port]
    decide
  · rw [dst, niLoc_port]
    decide

theorem State.creditAnsAtNi_unasked (none_ : s.xfers.find? (fun y => y.ni == n && y.txn == p.txn && (y.cr == 1 || y.cr == 2)) = none)
    (whole : p.arg 2 = 0) (unicast : p.arg 3 = 0) : s.creditAnsAtNi n p =
      State.emit (match s.cancelled.find? (fun c : Nat × Nat × Bool => c.1 == n && c.2.1 == p.txn) with
        | some (_, _, false) => s
        | _ => s.lateRsp n) (mkPkt opCREDIT_RETURN (niLoc n) p.src p.ten p.flow p.txn [p.arg 1]) := by
  rw [State.creditAnsAtNi, none_]
  exact if_pos ⟨whole, unicast⟩

theorem State.creditAnsAtNi_asked {x : Xfer} (found : s.xfers.find? (fun y => y.ni == n && y.txn == p.txn && (y.cr == 1 || y.cr == 2)) = some x)
    (asked : x.cr = 1) (whole : p.arg 2 = 0) (unicast : p.arg 3 = 0) : s.creditAnsAtNi n p =
      if x.group.isSome = true then s.updXfer x.id fun y => { y with early := y.early + 1 } else s.creditsHeld x (p.arg 0) := by
  rw [State.creditAnsAtNi, found]
  simp only [unicast, asked, whole, Nat.reduceEqDiff, if_false, if_true, true_and, false_and]

end

/-! ## Windows -/

section

variable {s t : State} {n h : Nat} {p : Pkt}

theorem State.winCheck_eq_none {ten : Nat} (own : s.tnState n = 1) (valid : s.fld NI_HDL_CFG_VALID n h = 1) (tenancy : s.fld NI_HDL_CFG_TENANCY n h = ten) :
    s.winCheck n h ten = none :=
  (if_neg (not_not.mpr own)).trans ((if_neg (by omega)).trans (if_neg (not_not.mpr tenancy)))

theorem gives_reqWinOpen (hn : n < 2304) (ok : okPkt p = true) (thawed : s.frozenAt n = false) (up : s.niUp n = true) (kind : p.kind = opWIN_OPEN)
    (at_ : adHandle (p.arg 0) = h) (pass : s.winCheck n h p.ten = none) {r : Nat × State}
    (opened : (s.takeNet (.unit (niLoc n)) p).openWindow n h (p.arg 1) (p.arg 2) 0 (s.ltileOf n p.src.slot) = r) :
    Gives (.reqWinOpen n p) s (r.2.emit (mkPkt opWIN_ANS (niLoc n) p.src p.ten p.flow p.txn [r.1, (r.2.window n h).epoch])) := by
  refine Gives.of_run (exec_reqWinOpen n p s) (by simp only [Instr.wf, okSlot, hn, ok, decide_true, Bool.and_self])
    ((if_neg (not_not.mpr kind)).trans ((State.atNi_of_up _ thawed up).trans ?_))
  dsimp only
  rw [at_, show (s.takeNet (.unit (niLoc n)) p).winCheck n h p.ten = none from pass, ← opened]
  rfl

theorem gives_reqWinReplenish (hn : n < 2304) (ok : okPkt p = true) (thawed : s.frozenAt n = false) (up : s.niUp n = true)
    (kind : p.kind = opWIN_REPLENISH) (at_ : adHandle (p.arg 0) = h) (pass : s.winCheck n h p.ten = none) {r : Nat × State}
    (done : (s.takeNet (.unit (niLoc n)) p).replenish n h (p.arg 1) 0 (s.ltileOf n p.src.slot) = r) :
    Gives (.reqWinReplenish n p) s (r.2.emit (mkPkt opWIN_ANS (niLoc n) p.src p.ten p.flow p.txn [r.1, (r.2.window n h).epoch])) := by
  refine Gives.of_run (exec_reqWinReplenish n p s) (by simp only [Instr.wf, okSlot, hn, ok, decide_true, Bool.and_self])
    ((if_neg (not_not.mpr kind)).trans ((State.atNi_of_up _ thawed up).trans ?_))
  dsimp only
  rw [at_, show (s.takeNet (.unit (niLoc n)) p).winCheck n h p.ten = none from pass, ← done]
  rfl

/-- A condition that no WAIT waits for ends none. -/
theorem State.checkWaits_of_none {kind key : Nat} (sub count writer : Nat) (none_ : ∀ y ∈ s.waits, y.ni ≠ n ∨ y.kind ≠ kind ∨ y.key ≠ key) :
    s.checkWaits n kind key sub count writer = s := by
  have miss : ∀ y ∈ s.waits, (y.ni == n && y.kind == kind && y.key == key && y.sub == sub && decide (y.target ≤ count)) = false := by
    intro y mem
    obtain ni | kind | key := none_ y mem
    · simp [ni]
    · simp [kind]
    · simp [key]
  have hits : s.waits.filter (fun y => y.ni == n && y.kind == kind && y.key == key && y.sub == sub && decide (y.target ≤ count)) = [] :=
    List.filter_eq_nil_iff.mpr fun y mem => ne_true_of_eq_false (miss y mem)
  have rest : s.waits.filter (fun y => !(y.ni == n && y.kind == kind && y.key == key && y.sub == sub && decide (y.target ≤ count))) = s.waits :=
    List.filter_eq_self.mpr fun y mem => congrArg (!·) (miss y mem)
  simp only [State.checkWaits, hits, rest, List.foldl_nil]

/-- A window that has just opened. -/
def Window.opened (w : Window) (pool notify : Nat) : Window :=
  { w with state := 1, pool := pool, free := pool, granted := 0, used := 0, notify := notify, sinceSig := 0, signals := 0, opens := w.opens + 1 }

theorem State.openWindow_refused {pool notify ik iw : Nat}
    (bad : (s.window n h).state ≠ 0 ∨ pool = 0 ∨ 8191 < pool ∨ (s.hdlRange n h).2 < pool * 512) :
    s.openWindow n h pool notify ik iw = (stBAD_DESCRIPTOR, s) := if_pos bad

theorem State.openWindow_passed {pool notify ik iw : Nat} (closed : (s.window n h).state = 0) (some_ : 1 ≤ pool) (most : pool ≤ 8191)
    (fits : pool * 512 ≤ (s.hdlRange n h).2) : s.openWindow n h pool notify ik iw =
      (stOK, ((s.setWin n h ((s.window n h).opened pool notify)).traceRec n 6 (s.fld NI_HDL_CFG_TENANCY n h) none ik iw h
        ((s.window n h).epoch <<< 16 + pool)).checkWaits n 1 h ((s.window n h).opens + 1) 0 iw) := if_neg (by omega)

theorem State.openWindow_spec {pool notify ik iw : Nat} (closed : (s.window n h).state = 0) (some_ : 1 ≤ pool) (most : pool ≤ 8191)
    (fits : pool * 512 ≤ (s.hdlRange n h).2) (none_ : ∀ y ∈ s.waits, y.ni ≠ n ∨ y.kind ≠ 1 ∨ y.key ≠ h) :
    let r := s.openWindow n h pool notify ik iw
    r.1 = stOK ∧ r.2.window n h = (s.window n h).opened pool notify ∧ r.2.net = s.net ∧ r.2.spad = s.spad ∧ r.2.ledger = s.ledger := by
  dsimp only
  rw [State.openWindow_passed closed some_ most fits]
  have same : (s.setWin n h ((s.window n h).opened pool notify)).window n h = (s.window n h).opened pool notify := State.window_setWin_same _ _ _ _
  obtain ⟨_, _, _, _, _, e⟩ := (s.setWin n h ((s.window n h).opened pool notify)).traceRec_frame (n := n) 6 (s.fld NI_HDL_CFG_TENANCY n h) none ik iw h
    ((s.window n h).epoch <<< 16 + pool)
  rw [e, State.checkWaits_of_none _ _ _ (by exact none_)]
  exact ⟨rfl, same, rfl, rfl, rfl⟩

/-- A window with credits taken back from USED. -/
def Window.replenished (w : Window) (k : Nat) : Window := { w with free := w.free + k, used := w.used - k }

theorem State.replenish_passed {k ik iw : Nat} (open_ : (s.window n h).state ≠ 0) (used : k ≤ (s.window n h).used) (none_ : s.waitersOf n h = []) :
    s.replenish n h k ik iw = (stOK, (s.setWin n h ((s.window n h).replenished k)).traceRec n 8 (s.fld NI_HDL_CFG_TENANCY n h) none ik iw h k) := by
  refine ((if_neg open_).trans (if_neg (Nat.not_lt.mpr used))).trans ?_
  dsimp only
  rw [State.serveWaiters_of_none 64 (by exact none_)]
  rfl

theorem State.replenish_spec {k ik iw : Nat} (open_ : (s.window n h).state ≠ 0) (used : k ≤ (s.window n h).used) (none_ : s.waitersOf n h = []) :
    let r := s.replenish n h k ik iw
    r.1 = stOK ∧ r.2.window n h = (s.window n h).replenished k ∧ r.2.net = s.net ∧ r.2.spad = s.spad ∧ r.2.ledger = s.ledger := by
  dsimp only
  rw [State.replenish_passed open_ used none_]
  have same : (s.setWin n h ((s.window n h).replenished k)).window n h = (s.window n h).replenished k := State.window_setWin_same _ _ _ _
  obtain ⟨_, _, _, _, _, e⟩ := (s.setWin n h ((s.window n h).replenished k)).traceRec_frame (n := n) 8 (s.fld NI_HDL_CFG_TENANCY n h) none ik iw h k
  rw [e]
  exact ⟨rfl, same, rfl, rfl, rfl⟩

/-! ## Closing -/

theorem gives_snpWinClose (hn : n < 2304) (ok : okPkt p = true) (thawed : s.frozenAt n = false) (up : s.niUp n = true) (kind : p.kind = opWIN_CLOSE)
    (at_ : p.arg 1 = h) (own : s.tnState n = 1) (valid : s.fld NI_HDL_CFG_VALID n h = 1)
    (e : (s.takeNet (.unit (niLoc n)) p).beginClose n h (p.arg 0 == 1) (p.arg 2) ⟨p.arg 0 == 1, none, some p.src, p.arg 3⟩ = t) :
    Gives (.snpWinClose n p) s t := by
  refine Gives.of_run (exec_snpWinClose n p s) (by simp only [Instr.wf, okSlot, hn, ok, decide_true, Bool.and_self])
    ((if_neg (not_not.mpr kind)).trans ((State.atNi_of_up _ thawed up).trans ?_))
  dsimp only
  rw [at_]
  have valid : (s.takeNet (.unit (niLoc n)) p).fld NI_HDL_CFG_VALID n h = 1 := valid
  exact (if_neg (not_not.mpr own)).trans ((if_neg (by rw [valid]; decide)).trans e)

/-- A drain of an open window without waiters waits for its grants. -/
theorem State.beginClose_drain {drain : Bool} {limit : Nat} {c : Close} (open_ : (s.window n h).state = 1) (on : drain = true) (some_ : limit ≠ 0)
    (none_ : s.waitersOf n h = []) : s.beginClose n h drain limit c =
      s.setWin n h { s.window n h with state := 2, closes := (s.window n h).closes ++ [{ c with drain := true }] } := by
  have drains : (drain && limit != 0) = true := by simp [on, some_]
  simp only [State.beginClose, open_, drains, Nat.reduceEqDiff, if_false, if_true]
  exact State.closeWaiters_of_none none_

/-- A close that does not drain waits only to take effect. -/
theorem State.beginClose_now {drain : Bool} {limit : Nat} {c : Close} (open_ : (s.window n h).state ≠ 0) (off : (drain && limit != 0) = false) :
    s.beginClose n h drain limit c = s.setWin n h { s.window n h with closes := (s.window n h).closes ++ [{ c with drain := false }] } := by
  simp only [State.beginClose, open_, off, Bool.false_eq_true, if_false]

theorem gives_closeTakesEffect (hn : n < 2304) (hh : h < 256)
    (e : (if (s.window n h).closes.isEmpty then s
      else if (s.window n h).closes.any (fun c => !c.drain) then s.closeNow n h false
      else if (s.window n h).granted = 0 then s.closeNow n h true else s) = t) : Gives (.closeTakesEffect n h) s t :=
  Gives.of_run (exec_closeTakesEffect n h s) (by simp only [Instr.wf, okSlot, hn, hh, decide_true, Bool.and_self]) e

/-- A window whose close has taken effect. -/
def Window.closed (w : Window) : Window :=
  { w with state := 0, epoch := (w.epoch + 1) % 2 ^ 16, free := 0, granted := 0, used := 0, pool := 0, sinceSig := 0, closes := [] }

/-- What the end of a close leaves once the window has closed: windows, ledger, waiters, WAITs and memory. -/
def State.CloseKept (y x : State) : Prop :=
  x.win = y.win ∧ x.ledger = y.ledger ∧ x.spad = y.spad ∧ x.waits = y.waits ∧ x.waiters = y.waiters

theorem State.closeKept_answerClose {y : State} {c : Close} {st : Nat} (tile : c.desc = none) (kept : y.CloseKept s) :
    y.CloseKept (s.answerClose n h c st) := by
  rw [State.answerClose, tile]
  dsimp only
  split
  · rw [State.niSend_eq]
    exact kept
  · exact kept

/-- WAITs that there are none of are not ended. -/
theorem State.endWinWaits_of_none (st : Nat) (waits : s.waits = []) : s.endWinWaits n h st = s := by
  simp only [State.endWinWaits, waits, List.filter_nil, List.foldl_nil]
  rw [← waits]

/-- The window and its ledger entries as a close that takes effect leaves them. -/
def State.closedAt (s : State) (n h : Nat) : State :=
  { s.setWin n h (s.window n h).closed with ledger := s.ledger.filter fun l => !(l.ni == n && l.handle == h) }

/-- The window has closed, its waiters are answered, CREDIT_REVOKE goes to the holders on the chip, and its WAITs end. -/
def State.closeRevoked (s : State) (n h : Nat) : State :=
  ((s.ledger.filter fun l => l.ni == n && l.handle == h).foldl
    (fun s e => if onChip e.src then s.niSend n opCREDIT_REVOKE e.src 0 0 0 [e.txn] else s) ((s.closedAt n h).closeWaiters n h)).endWinWaits n h
    stWINDOW_CLOSED

/-- Then the close is traced and its issuers are answered. -/
def State.closeTold (s : State) (n h : Nat) (drained : Bool) : State :=
  (s.window n h).closes.foldl (fun s c => s.answerClose n h c (if c.drain && !drained then stTIMEOUT else stOK))
    ((s.closeRevoked n h).traceRec n 7 ((s.closeRevoked n h).fld NI_HDL_CFG_TENANCY n h) none (s.closeIssuer n (s.window n h).closes).1
      (s.closeIssuer n (s.window n h).closes).2 h (((s.closeRevoked n h).window n h).epoch <<< 16 +
        (if (s.window n h).closes.any (fun c => c.drain) && !drained then stTIMEOUT else 0)))

theorem State.closeNow_eq (drained : Bool) : s.closeNow n h drained = (s.closeTold n h drained).ledgerFreed n := rfl

theorem State.closeKept_revoked (waits : s.waits = []) (waiters : ∀ y ∈ s.waiters, y.ni ≠ n) : (s.closedAt n h).CloseKept (s.closeRevoked n h) := by
  have none_ : (s.closedAt n h).waitersOf n h = [] := List.filter_eq_nil_iff.mpr fun w mem => by simp [waiters w mem]
  have revoked : (s.closedAt n h).CloseKept ((s.ledger.filter fun l => l.ni == n && l.handle == h).foldl (fun s e =>
      if onChip e.src then s.niSend n opCREDIT_REVOKE e.src 0 0 0 [e.txn] else s) (s.closedAt n h)) :=
    foldl_keeps ⟨rfl, rfl, rfl, rfl, rfl⟩ fun x e _ kept => by
      split
      · rw [State.niSend_eq]
        exact kept
      · exact kept
  have ⟨_, _, _, waits', _⟩ := revoked
  rw [State.closeRevoked, State.closeWaiters_of_none none_, State.endWinWaits_of_none _ (waits'.trans waits)]
  exact revoked

theorem State.closeKept_told (drained : Bool) (waits : s.waits = []) (tiles : ∀ c ∈ (s.window n h).closes, c.desc = none)
    (waiters : ∀ y ∈ s.waiters, y.ni ≠ n) : (s.closedAt n h).CloseKept (s.closeTold n h drained) := by
  have revoked := s.closeKept_revoked (h := h) waits waiters
  refine foldl_keeps ?_ fun y c mem kept => State.closeKept_answerClose (tiles c mem) kept
  generalize s.closeRevoked n h = x at revoked ⊢
  obtain ⟨_, _, _, _, _, e⟩ := x.traceRec_frame (n := n) 7 (x.fld NI_HDL_CFG_TENANCY n h) none (s.closeIssuer n (s.window n h).closes).1
    (s.closeIssuer n (s.window n h).closes).2 h ((x.window n h).epoch <<< 16 +
        (if (s.window n h).closes.any (fun c => c.drain) && !drained then stTIMEOUT else 0))
  rw [e]
  exact revoked

theorem State.closeNow_spec {drained : Bool} (waits : s.waits = []) (tiles : ∀ c ∈ (s.window n h).closes, c.desc = none)
    (waiters : ∀ y ∈ s.waiters, y.ni ≠ n) : let t := s.closeNow n h drained
    t.window n h = (s.window n h).closed ∧ t.ledger = s.ledger.filter (fun l => !(l.ni == n && l.handle == h)) ∧ t.spad = s.spad := by
  have same : (s.closedAt n h).window n h = (s.window n h).closed := State.window_setWin_same _ _ _ _
  obtain ⟨win, ledger, spad, -, waiters'⟩ := s.closeKept_told drained waits tiles waiters
  have freed : (s.closeTold n h drained).ledgerFreed n = s.closeTold n h drained :=
    State.ledgerFreed_of_none (by rw [waiters']; exact waiters)
  dsimp only
  rw [State.closeNow_eq, freed]
  refine ⟨?_, ledger, spad⟩
  rw [State.window, win]
  exact same

end

/-- Settles O15: credits and windows, each row a use of the rule of its command. -/
theorem windowsGrantCreditsAndClose : Obligations.WindowsGrantCreditsAndClose := by
  unfold Obligations.WindowsGrantCreditsAndClose
  refine ⟨?_, ?_⟩
  · intro s n us p x l w hn ok hus thawed up u h win k ans
    refine ⟨fun kind single own valid tenancy inside => ?_, fun kind none_ => ?_, fun kind found ni some_ none_ => ?_, fun kind found => ?_,
      fun kind dst whole unicast => ⟨fun none_ port hport => ?_, fun found asked port hport => ?_⟩, fun found => ?_, fun kind found => ?_, fun kind none_ => ?_⟩
    · have judged := State.creditJudge_eq (s := u) (n := n) (p := p) ⟨own, valid, tenancy, inside⟩
      have req {r : Nat × State} {t : State} (e : u.creditJudge n p = r) (h : ans r.2 (if r.1 = 0 then p.arg 1 else 0) r.1 = t) :
          Gives (.creditReq n p) s t := gives_creditReq hn ok thawed up kind single e h
      have waitersOf : u.waitersOf n h = s.waitersOf n h := rfl
      refine ⟨fun bad => req (judged.trans (if_pos bad)) rfl, fun open_ same few => ?_, fun open_ same enough none_ free room => ?_,
        fun open_ same enough short => ?_⟩
      all_goals
        have good : ¬ ((u.window n h).state ≠ 1 ∨ (p.arg 3 = 1 ∧ p.arg 4 ≠ (u.window n h).epoch)) := by
          intro bad
          obtain closed | ⟨held, other⟩ := bad
          · exact closed open_
          · exact same.elim (fun f => f held) other
      · exact req (judged.trans ((if_neg good).trans (if_pos few))) rfl
      · refine req (judged.trans ((if_neg good).trans ((if_neg (Nat.not_lt.mpr enough)).trans (if_pos ⟨?_, ?_⟩)))) rfl
        · rw [waitersOf, none_]
          rfl
        · have open_ : (u.window n (adHandle (p.arg 0))).state = 1 := open_
          have free : p.arg 1 ≤ (u.window n (adHandle (p.arg 0))).free := free
          simp only [State.canGrant, open_, free, show u.ledgerUse n < 128 from room, beq_self_eq_true, decide_true, Bool.and_self]
      · have short := State.creditJudge_short (s := u) ⟨own, valid, tenancy, inside⟩ open_ same enough short
        exact ⟨fun refuse => req (short.trans (if_pos refuse)) rfl, fun wait room => req (short.trans ((if_neg wait).trans (if_neg (Nat.not_le.mpr room)))) rfl⟩
    · refine Gives.of_run (exec_creditReturn n p s) (by simp only [Instr.wf, okSlot, hn, ok, decide_true, Bool.and_self])
        ((if_neg (not_not.mpr kind)).trans ((State.atNi_of_up _ thawed up).trans ?_))
      rw [show (s.takeNet (.unit (niLoc n)) p).ledgerOf n p = none from none_]
    · refine Gives.of_run (exec_creditReturn n p s) (by simp only [Instr.wf, okSlot, hn, ok, decide_true, Bool.and_self])
        ((if_neg (not_not.mpr kind)).trans ((State.atNi_of_up _ thawed up).trans ?_))
      rw [show (s.takeNet (.unit (niLoc n)) p).ledgerOf n p = some l from found]
      subst ni
      dsimp only
      rw [Nat.min_eq_left (Nat.le_of_lt some_), State.giveBack, State.lowerLedger, if_neg (Nat.not_le.mpr some_), if_neg (Nat.not_le.mpr some_)]
      exact State.serveWaiters_of_none 64 none_
    · refine Gives.of_run (exec_creditCancel n p s) (by simp only [Instr.wf, okSlot, hn, ok, decide_true, Bool.and_self])
        ((if_neg (not_not.mpr kind)).trans ((State.atNi_of_up _ thawed up).trans ?_))
      rw [show (s.takeNet (.unit (niLoc n)) p).waiters.find? _ = some w from found]
      rfl
    · intro cut back
      have unasked := State.creditAnsAtNi_unasked (s := u) none_ whole unicast
      refine ⟨fun late => gives_creditAns hn hport ok thawed up kind dst (unasked.trans ?_), fun other => gives_creditAns hn hport ok thawed up kind dst (unasked.trans ?_)⟩
      · obtain ⟨a, b, at_⟩ := late
        rw [show u.cancelled.find? (fun c : Nat × Nat × Bool => c.1 == n && c.2.1 == p.txn) = some (a, b, false) from at_]
      · have same : u.cancelled.find? (fun c : Nat × Nat × Bool => c.1 == n && c.2.1 == p.txn) = cut := rfl
        rw [same]
        clear_value cut
        obtain _ | ⟨a, b, late⟩ := cut
        · rfl
        · cases late with
          | false => exact absurd rfl (other a b)
          | true => rfl
    · have asked := State.creditAnsAtNi_asked (s := u) found asked whole unicast
      refine ⟨fun single => gives_creditAns hn hport ok thawed up kind dst (asked.trans (if_neg ?_)), fun group =>
        gives_creditAns hn hport ok thawed up kind dst (asked.trans (if_pos (Option.isSome_iff_ne_none.mpr group)))⟩
      rw [single]
      exact Bool.false_ne_true
    · refine Gives.of_run (exec_creditWaitExpire n p.txn us s) (by simp only [Instr.wf, okSlot, okW, hn, hus, okPkt_txn ok, decide_true, Bool.and_self]) ?_
      rw [found]
      rfl
    · refine Gives.of_run (exec_creditRevoke n p s) (by simp only [Instr.wf, okSlot, hn, ok, decide_true, Bool.and_self])
        ((if_neg (not_not.mpr kind)).trans ((State.atNi_of_up _ thawed up).trans ?_))
      rw [show (s.takeNet (.unit (niLoc n)) p).xfers.find? _ = some x from found]
    · refine Gives.of_run (exec_creditRevoke n p s) (by simp only [Instr.wf, okSlot, hn, ok, decide_true, Bool.and_self])
        ((if_neg (not_not.mpr kind)).trans ((State.atNi_of_up _ thawed up).trans ?_))
      rw [show (s.takeNet (.unit (niLoc n)) p).xfers.find? _ = none from none_]
  · intro s n h p t hn hh ok thawed up u w ans
    refine ⟨fun at_ own valid tenancy => ?_, fun kind at_ own valid => ?_, ?_, ?_, ?_, ?_, fun drains => ?_, fun other => ?_, fun kind found use => ?_⟩
    · have pass : s.winCheck n h p.ten = none := State.winCheck_eq_none own valid tenancy
      have opened (kind : p.kind = opWIN_OPEN) {r : Nat × State} := gives_reqWinOpen (r := r) hn ok thawed up kind at_ pass
      have replenished (kind : p.kind = opWIN_REPLENISH) {r : Nat × State} := gives_reqWinReplenish (r := r) hn ok thawed up kind at_ pass
      refine ⟨fun kind bad => opened kind (State.openWindow_refused bad), fun kind => opened kind rfl, fun kind closed some_ most fits none_ => ?_,
        fun kind closed => replenished kind (if_pos closed), fun kind open_ over_ => replenished kind ((if_neg open_).trans (if_pos over_)),
        fun kind open_ used none_ => ?_⟩
      · obtain ⟨st, win, net, spad, ledger⟩ := State.openWindow_spec (s := u) (notify := p.arg 2) (ik := 0) (iw := s.ltileOf n p.src.slot) closed some_ most fits none_
        refine (opened kind rfl).does ?_
        generalize (s.takeNet (.unit (niLoc n)) p).openWindow n h (p.arg 1) (p.arg 2) 0 (s.ltileOf n p.src.slot) = r at st win net spad ledger ⊢
        have epoch : (r.2.window n h).epoch = w.epoch := by rw [win]; rfl
        rw [st, epoch]
        exact ⟨win, congrArg (· ++ _) net, spad, ledger⟩
      · obtain ⟨st, win, net, spad, ledger⟩ := State.replenish_spec (s := u) (ik := 0) (iw := s.ltileOf n p.src.slot) open_ used none_
        refine (replenished kind rfl).does ?_
        generalize (s.takeNet (.unit (niLoc n)) p).replenish n h (p.arg 1) 0 (s.ltileOf n p.src.slot) = r at st win net spad ledger ⊢
        have epoch : (r.2.window n h).epoch = w.epoch := by rw [win]; rfl
        rw [st, epoch]
        exact ⟨win, congrArg (· ++ _) net, spad, ledger⟩
    · have close {t : State} := gives_snpWinClose (t := t) hn ok thawed up kind at_ own valid
      refine ⟨fun closed => close (if_pos closed), fun open_ drain limit none_ => close ?_, fun open_ now => close ?_⟩
      · exact State.beginClose_drain (s := u) open_ (by rw [drain]; rfl) limit none_
      · refine State.beginClose_now (s := u) open_ ?_
        obtain zero | zero := now <;> simp [zero]
    · intro some_ now
      refine gives_closeTakesEffect hn hh ((if_neg ?_).trans (if_pos ?_))
      · rwa [List.isEmpty_iff]
      · obtain ⟨c, mem, drain⟩ := now
        exact List.any_eq_true.mpr ⟨c, mem, by rw [drain]; rfl⟩
    · intro some_ drains done
      refine gives_closeTakesEffect hn hh ((if_neg ?_).trans ((if_neg ?_).trans (if_pos done)))
      · rwa [List.isEmpty_iff]
      · rw [List.any_eq_true]
        rintro ⟨c, mem, now⟩
        rw [drains c mem] at now
        exact Bool.false_ne_true now
    · rintro (none_ | ⟨drains, held⟩)
      · exact gives_closeTakesEffect hn hh (if_pos (List.isEmpty_iff.mpr none_))
      · refine gives_closeTakesEffect hn hh ?_
        by_cases empty : (s.window n h).closes.isEmpty = true
        · exact if_pos empty
        · refine (if_neg empty).trans ((if_neg ?_).trans (if_neg held))
          rw [List.any_eq_true]
          rintro ⟨c, mem, now⟩
          rw [drains c mem] at now
          exact Bool.false_ne_true now
    · intro some_ now waits tiles waiters
      refine (gives_closeTakesEffect (t := s.closeNow n h false) hn hh ((if_neg ?_).trans (if_pos ?_))).does ?_
      · rwa [List.isEmpty_iff]
      · obtain ⟨c, mem, drain⟩ := now
        exact List.any_eq_true.mpr ⟨c, mem, by rw [drain]; rfl⟩
      · obtain ⟨win, ledger, spad⟩ := State.closeNow_spec (drained := false) waits tiles waiters
        generalize s.closeNow n h false = x at win ledger spad
        exact ⟨win, ledger, spad⟩
    · exact Gives.of_run (exec_drainLimitExpire n h s) (by simp only [Instr.wf, okSlot, hn, hh, decide_true, Bool.and_self]) (if_pos drains)
    · exact Gives.of_run (exec_drainLimitExpire n h s) (by simp only [Instr.wf, okSlot, hn, hh, decide_true, Bool.and_self]) (if_neg other)
    · refine Gives.of_run (exec_winAns n p s) (by simp only [Instr.wf, okSlot, hn, ok, decide_true, Bool.and_self])
        ((if_neg (not_not.mpr kind)).trans ((State.atNi_of_up _ thawed up).trans ?_))
      rw [show (s.takeNet (.unit (niLoc n)) p).findTx n p.txn = some t from found]
      exact if_pos use

end Sys2Proof.Machine

/-! # The aperture (R163 to R166) -/

namespace Sys2Proof.Machine

/-! ## Events of an NI whose parity fault is not armed -/

section

variable {s t : State} {n src : Nat}

theorem State.told_recordEvent (k : UnitKind) (i detail : Nat) (injected : Bool) (few : src < 16) : s.Told (s.recordEvent k i src detail injected) k i := by
  have noted : s.Told (s.noteEvent k i src detail injected) k i := State.told_noteEvent detail injected few
  rw [State.recordEvent]
  split
  · exact .refl
  · split
    · exact noted.trans (State.told_errMsg _ _ _)
    · exact noted

/-- A report of a unit whose parity fault is not armed is only recorded and told. -/
theorem State.told_report {k : UnitKind} {i : Nat} (detail : Nat) (few : src < 16) (unarmed : (s.eu k i).parityArmed = false) :
    s.Told (s.report k i src detail) k i := by
  have told := s.told_recordEvent k i detail false few
  have still := (told.parity k i).trans unarmed
  rw [State.report]
  refine .trans (t := s.recordEvent k i src detail false) told ?_
  rw [if_neg (by rw [still]; exact Bool.false_ne_true)]
  exact .refl

/-! ## Causes of a refusal -/

/-- The cause bit `b` of NI_AP_STATUS. -/
def apCause (b : Nat) : Fld := ⟨NI_AP_STATUS, b, b⟩

/-- What the causes of a refusal leave: the cell that the core reads, the aperture and the memory; each of them has its bit. -/
structure State.ApRefused (s t : State) (n : Nat) (bs : List Nat) : Prop where
  cr : t.cr = s.cr
  ap : t.apt n = s.apt n
  spad : t.spad = s.spad
  parity : (t.eu .ni n).parityArmed = false
  causes : ∀ b ∈ bs, t.fld (apCause b) n = 1

theorem apCause_out (b n : Nat) : ¬ InErrSet .ni n ((apCause b).reg.addr n 0) := by
  refine fun h => h.elim (fun inside => ?_) fun h => nomatch h.1
  simp only [RegDef.addr, apCause, NI_AP_STATUS, UnitKind.blk, UnitKind.setBase] at inside
  omega

theorem State.ApRefused.step {bs : List Nat} (refused : s.ApRefused t n bs) (few : ∀ b ∈ bs, b < 32) {b : Nat} (hb : b < 32) (few' : src < 16) (detail : Nat) :
    s.ApRefused (t.niCause n (apCause b) src detail) n (b :: bs) := by
  obtain ⟨cr, ap, spad, parity, causes⟩ := refused
  rw [State.niCause]
  have told := (t.setFld (apCause b) 1 n).told_report (k := .ni) (i := n) detail few' parity
  have set (c : Nat) (hc : c = b ∨ t.fld (apCause c) n = 1) (_ : c < 32) : (t.setFld (apCause b) 1 n).fld (apCause c) n = 1 := by
    by_cases same : c = b
    · rw [same, State.fld_setFld_same _ _ _ _ _ (Nat.le_refl b) hb, apCause, Nat.add_sub_cancel_left]
      rfl
    · exact (State.fld_setFld_apart t (apCause b) (apCause c) 1 n 0 rfl (Nat.le_refl b) hb (Nat.lt_or_gt_of_ne same).symm).trans (hc.resolve_left same)
  obtain ⟨_, _, _, _, _, _, _, _, e⟩ := told.frame
  have causes' : ∀ c ∈ b :: bs, ((t.setFld (apCause b) 1 n).report .ni n src detail).fld (apCause c) n = 1 := by
    intro c mem
    rw [told.fld (apCause_out c n)]
    obtain rfl | mem := List.mem_cons.mp mem
    · exact set c (.inl rfl) hb
    · exact set c (.inr (causes c mem)) (few c mem)
  have parity' := (told.parity .ni n).trans parity
  generalize (t.setFld (apCause b) 1 n).report .ni n src detail = x at e causes' parity' ⊢
  refine ⟨?_, ?_, ?_, parity', causes'⟩
  · rw [e]
    exact cr
  · rw [e]
    exact ap
  · rw [e]
    exact spad

theorem State.apRefused_foldl {bs : List Nat} (few : ∀ b ∈ bs, b < 32) {cs : List (Fld × Nat)} (causes : ∀ c ∈ cs, c.1 = apCause c.2 ∧ c.2 < 32)
    (refused : s.ApRefused t n bs) : s.ApRefused (cs.foldl (fun s c => s.niCause n c.1 11 (c.2 + 2 ^ 17)) t) n ((cs.map Prod.snd).reverse ++ bs) := by
  induction cs generalizing t bs with
  | nil => exact refused
  | cons c cs ih =>
    obtain ⟨named, low⟩ := causes c List.mem_cons_self
    have step := refused.step few low (src := 11) (by decide) (c.2 + 2 ^ 17)
    rw [← named] at step
    have rest := ih (fun b mem => (List.mem_cons.mp mem).elim (· ▸ low) (few b)) (fun d mem => causes d (List.mem_cons_of_mem _ mem)) step
    rw [List.map_cons, List.reverse_cons, List.append_assoc]
    exact rest

theorem State.apCauses_named {store : Bool} {ofs len : Nat} : ∀ c ∈ s.apCauses store ofs len, c.1 = apCause c.2 ∧ c.2 < 32 := by
  intro c mem
  simp only [State.apCauses, List.mem_append] at mem
  obtain ((mem | mem) | mem) | mem := mem
  all_goals
    split at mem
    · obtain rfl := List.mem_singleton.mp mem
      exact ⟨rfl, by decide⟩
    · cases mem

/-- A refused access leaves an answer with zero, and a bit for each cause (R163, R164). -/
theorem State.apRefused_apRefuse {store : Bool} {ofs len : Nat} (unarmed : (s.eu .ni n).parityArmed = false) :
    (s.coreAns n true 0).ApRefused (s.apRefuse n (s.apCauses store ofs len)) n (((s.apCauses store ofs len).map Prod.snd).reverse ++ []) :=
  State.apRefused_foldl (fun _ mem => absurd mem List.not_mem_nil) State.apCauses_named
    ⟨rfl, rfl, rfl, unarmed, fun _ mem => absurd mem List.not_mem_nil⟩

theorem State.apCauses_eq_nil {store : Bool} {ofs len : Nat} : s.apCauses store ofs len = [] ↔
    store = true ∧ len = 32 ∧ ofs % 32 = 0 ∧ ofs / 2 ^ 15 % 2 ^ 11 < s.tiles ∧ s.strict = false := by
  have tile : bits ofs 25 15 = ofs / 2 ^ 15 % 2 ^ 11 := bits_eq_div _ rfl
  rw [State.apCauses, tile]
  cases store
  · simp
  · cases s.strict
    · simp
      omega
    · simp

end

/-! ## Stores -/

section

variable {s t : State} {n ofs len m : Nat} {data : List Nat} {p : Pkt}

theorem gives_apStore {store : Bool} (hn : n < 2304) (hofs : ofs < 2 ^ 26) (hl : data.length ≤ 32) (bytes : ∀ b ∈ data, b < 256)
    (h : s.apStore n store ofs data.length data = t) : Gives (.apStore n store ofs data.length data) s t := by
  have ok : okBytes data = true := List.all_eq_true.mpr fun b mem => decide_eq_true (bytes b mem)
  exact Gives.of_run (exec_apStore n store ofs data.length data s) (by simp only [Instr.wf, okSlot, hn, hofs, hl, ok, decide_true, beq_self_eq_true, Bool.and_self]) h

theorem State.apStore_refused {store : Bool} (up : s.niUp n = true) (thawed : s.frozenAt n = false) (bad : s.apCauses store ofs len ≠ []) :
    s.apStore n store ofs len data = s.apRefuse n (s.apCauses store ofs len) :=
  (if_neg (by simp [up, thawed])).trans (if_pos bad)

/-- A store joins the response queue, and its tag is open. -/
def State.apSent (s : State) (n m ofs : Nat) (data : List Nat) : State :=
  ((s.addTx ⟨n, s.freeTxn n, .aperture, 0, 0, 0, s.chipId, 0, false, false⟩).setAp n { s.apt n with
    out := (s.apt n).out ++ [(m, s.freeTxn n, ofs % 2 ^ 15, ofBytes data, false)] }).enqueue n 32
      (mkDat opAP_WRITE (niLoc n) (niLoc m) (s.owner n) 0 (s.freeTxn n) [0] (ofs % 2 ^ 15) 0 0 data)

theorem State.apStore_good (up : s.niUp n = true) (thawed : s.frozenAt n = false) (loose : s.strict = false) (aligned : ofs % 32 = 0)
    (tile : ofs / 2 ^ 15 % 2 ^ 11 < s.tiles) : s.apStore n true ofs 32 data = match s.lmap n (ofs / 2 ^ 15 % 2 ^ 11) with
      | none => s.apRefuse n [(NI_AP_STATUS_AP_FENCED, 3)]
      | some t => if 8 ≤ (s.apt n).out.length ∨ (s.apt n).out.any (fun o => o.1 == t) = true ∨ s.txnRoom n = false then s
        else s.apSent n t ofs data := by
  have none_ : s.apCauses true ofs 32 = [] := State.apCauses_eq_nil.mpr ⟨rfl, rfl, aligned, tile, loose⟩
  have at_ : bits ofs 25 15 = ofs / 2 ^ 15 % 2 ^ 11 := bits_eq_div _ rfl
  rw [State.apStore, at_]
  refine (if_neg (by simp [up, thawed])).trans ((if_neg (not_not.mpr none_)).trans ?_)
  cases s.lmap n (ofs / 2 ^ 15 % 2 ^ 11) with
  | none => rfl
  | some t => rfl

/-- A packet joins the end of its queue, and only flows change. -/
theorem State.enqueue_spec (f : Nat) : ∃ flow, s.enqueue n f p = { s with flow := flow } ∧ ((s.enqueue n f p).fl n f).queue = (s.fl n f).queue ++ [p] := by
  rw [State.enqueue]
  split
  · obtain ⟨_, e, q, -⟩ := (s.setFl n f { s.fl n f with queue := (s.fl n f).queue ++ [p] }).headCheck_spec (n := n) (f := f) p
    exact ⟨_, e, q.trans (congrArg Flow.queue (State.fl_setFl_same _))⟩
  · exact ⟨_, rfl, congrArg Flow.queue (State.fl_setFl_same _)⟩

/-- No write of a tag waits for its backoff any more. -/
def State.apCalm (s : State) (n txn : Nat) : Aperture :=
  { s.apt n with out := (s.apt n).out.map fun q => if q.2.1 = txn then (q.1, q.2.1, q.2.2.1, q.2.2.2.1, false) else q }

/-- A refused write joins the response queue again. -/
def State.apResent (s : State) (n txn : Nat) (o : Nat × Nat × Nat × Nat × Bool) : State :=
  (s.setAp n (s.apCalm n txn)).enqueue n 32
    (mkDat opAP_WRITE (niLoc n) (niLoc o.1) (s.owner n) 0 txn [0] o.2.2.1 0 0 (toBytes 32 o.2.2.2.1))

/-! ## Granules that land -/

/-- A granule is denied (R165). -/
def State.ApDenied (s : State) (n : Nat) (p : Pkt) : Prop :=
  s.tnState n ≠ 1 ∨ s.fld NI_AP_CFG_ENABLE n = 0 ∨ s.fld NI_AP_CFG_TENANCY n ≠ p.ten ∨ s.owner n ≠ s.fld NI_AP_CFG_TENANCY n ∨
    (s.pairRange n (s.fld NI_AP_CFG_PAIR_LAND n)).2 < 16384 ∨ (s.pairRange n (s.fld NI_AP_CFG_PAIR_TGT n)).2 < 16384 ∨
    (s.pairRange n (s.fld NI_AP_CFG_PAIR_TGT n)).2 < p.arg 1 + 32 ∨
    s.pairForeign n (s.fld NI_AP_CFG_PAIR_LAND n) p.ten = true ∨ s.pairForeign n (s.fld NI_AP_CFG_PAIR_TGT n) p.ten = true

/-- A granule that is admitted, as written to the landing area. -/
def State.apLanded (s : State) (n : Nat) (p : Pkt) : State :=
  ((s.setAp n { s.apt n with
    landing := (s.apt n).landing ++ [(p.arg 1, (s.apt n).place)]
    place := ((s.apt n).place + 1) % 512 }).spadWrite n
      ((s.pairRange n (s.fld NI_AP_CFG_PAIR_LAND n)).1 + 32 * (s.apt n).place) p.data).addPair NI_OPEN_RX_LO NI_OPEN_RX_HI p.data.length n

/-- What the target does with a granule: it denies it, has no room, or admits it. -/
def State.apServed (s : State) (n : Nat) (p : Pkt) (st : Nat) : State :=
  (if st = stOK then (if p.payBad then (s.apLanded n p).report .ni n 10 (29 + 3 <<< 15) else s.apLanded n p)
    else if st = stAP_BUSY then s.addFld NI_AP_BUSY_CNT_BUSY 1 n else s).emit
    (mkPkt opWRITE_ACK (niLoc n) p.src p.ten p.flow p.txn [if st = stOK ∧ p.payBad = true then stDATA_ERROR else st, p.arg 0, 0])

theorem gives_apWrite {st : Nat} (hn : n < 2304) (ok : okPkt p = true) (thawed : s.frozenAt n = false) (up : s.niUp n = true) (kind : p.kind = opAP_WRITE)
    (judged : (s.ApDenied n p ∧ st = stACCESS_DENIED) ∨ (¬ s.ApDenied n p ∧ 512 ≤ (s.apt n).landing.length ∧ st = stAP_BUSY) ∨
      (¬ s.ApDenied n p ∧ (s.apt n).landing.length < 512 ∧ st = stOK))
    (h : (s.takeNet (.unit (niLoc n)) p.asSent).apServed n p st = t) : Gives (.apWrite n p) s t := by
  refine Gives.of_run (exec_apWrite n p s) (by simp only [Instr.wf, okSlot, hn, ok, decide_true, Bool.and_self])
    ((if_neg (not_not.mpr kind)).trans ((State.atNi_of_up _ thawed up).trans ?_))
  generalize hu : s.takeNet (.unit (niLoc n)) p.asSent = u at h ⊢
  have denied : (u.tnState n ≠ 1 ∨ u.fld NI_AP_CFG_ENABLE n = 0 ∨ (u.pairRange n (u.fld NI_AP_CFG_PAIR_LAND n)).2 < 16384 ∨
      (u.pairRange n (u.fld NI_AP_CFG_PAIR_TGT n)).2 < max 16384 (p.arg 1 + 32) ∨ u.fld NI_AP_CFG_TENANCY n ≠ p.ten ∨
      u.owner n ≠ u.fld NI_AP_CFG_TENANCY n ∨ u.pairForeign n (u.fld NI_AP_CFG_PAIR_LAND n) (u.fld NI_AP_CFG_TENANCY n) = true ∨
      u.pairForeign n (u.fld NI_AP_CFG_PAIR_TGT n) (u.fld NI_AP_CFG_TENANCY n) = true) ↔ s.ApDenied n p := by
    have same : u.ApDenied n p = s.ApDenied n p := by rw [← hu]; rfl
    rw [← same, State.ApDenied]
    by_cases own : u.fld NI_AP_CFG_TENANCY n = p.ten
    · rw [own]
      simp only [lt_max_iff]
      tauto
    · simp only [ne_eq, own, not_false_eq_true, true_or, or_true]
  have landing : (u.apt n).landing.length = (s.apt n).landing.length := by rw [← hu]; rfl
  have st_ : (if (u.tnState n ≠ 1 ∨ u.fld NI_AP_CFG_ENABLE n = 0 ∨ (u.pairRange n (u.fld NI_AP_CFG_PAIR_LAND n)).2 < 16384 ∨
      (u.pairRange n (u.fld NI_AP_CFG_PAIR_TGT n)).2 < max 16384 (p.arg 1 + 32) ∨ u.fld NI_AP_CFG_TENANCY n ≠ p.ten ∨
      u.owner n ≠ u.fld NI_AP_CFG_TENANCY n ∨ u.pairForeign n (u.fld NI_AP_CFG_PAIR_LAND n) (u.fld NI_AP_CFG_TENANCY n) = true ∨
      u.pairForeign n (u.fld NI_AP_CFG_PAIR_TGT n) (u.fld NI_AP_CFG_TENANCY n) = true) then stACCESS_DENIED
      else if 512 ≤ (u.apt n).landing.length then stAP_BUSY else stOK) = st := by
    rw [landing]
    obtain ⟨bad, rfl⟩ | ⟨good, full, rfl⟩ | ⟨good, room, rfl⟩ := judged
    · exact if_pos (denied.mpr bad)
    · exact (if_neg (mt denied.mp good)).trans (if_pos full)
    · exact (if_neg (mt denied.mp good)).trans (if_neg (Nat.not_le.mpr room))
  dsimp only
  rw [st_]
  exact h

end

/-- Settles O17: the causes of a refusal, the room for a store and the room for a granule decide alone. -/
theorem apertureStoresAndLandings : Obligations.ApertureStoresAndLandings := by
  unfold Obligations.ApertureStoresAndLandings
  intro s n ofs txn m data p o hn hofs htxn len bytes ok up thawed tile
  refine ⟨fun store d hd hb bad => ?_, fun loose aligned low none_ => ?_, fun loose aligned low some_ => ⟨fun full => ?_, fun few free room => ?_⟩,
    fun kind => ?_, fun none_ => ?_, fun found => ?_⟩
  · have causes : s.apCauses store ofs d.length ≠ [] := by
      rw [ne_eq, State.apCauses_eq_nil]
      rintro ⟨st, l, al, ti, strict⟩
      obtain c | c | c | c | c := bad
      · exact Bool.noConfusion (c.symm.trans st)
      · exact c l
      · exact c al
      · exact Nat.not_lt.mpr c ti
      · exact Bool.noConfusion (c.symm.trans strict)
    have given := gives_apStore (s := s) (store := store) hn hofs hd hb (State.apStore_refused up thawed causes)
    refine ⟨given, fun unarmed => given.does ?_⟩
    obtain ⟨cr, ap, spad, -, set⟩ := s.apRefused_apRefuse (n := n) (store := store) (ofs := ofs) (len := d.length) unarmed
    have cause {c : Fld × Nat} (mem : c ∈ s.apCauses store ofs d.length) : (s.apRefuse n (s.apCauses store ofs d.length)).fld c.1 n = 1 := by
      rw [(State.apCauses_named c mem).1]
      exact set c.2 (by rw [List.append_nil, List.mem_reverse]; exact List.mem_map_of_mem mem)
    have at_ : bits ofs 25 15 = tile := bits_eq_div _ rfl
    have read (h : store = false) := cause (c := (NI_AP_STATUS_AP_READ, 0)) (by simp [State.apCauses, h])
    have align (h : store = true) (h' : d.length ≠ 32 ∨ ofs % 32 ≠ 0) := cause (c := (NI_AP_STATUS_AP_ALIGN, 1)) (by simpa [State.apCauses, h] using h')
    have range (h : s.tiles ≤ tile) := cause (c := (NI_AP_STATUS_AP_RANGE, 2)) (by simp [State.apCauses, at_, h])
    have strict (h : s.strict = true) := cause (c := (NI_AP_STATUS_AP_STRICT, 5)) (by simp [State.apCauses, h])
    generalize s.apRefuse n (s.apCauses store ofs d.length) = x at cr ap spad read align range strict
    exact ⟨cr, ap, spad, read, align, range, strict⟩
  · refine len ▸ gives_apStore (data := data) hn hofs (Nat.le_of_eq len) bytes ?_
    rw [len, State.apStore_good up thawed loose aligned low, none_]
    rfl
  · refine len ▸ gives_apStore (data := data) hn hofs (Nat.le_of_eq len) bytes ?_
    rw [len, State.apStore_good up thawed loose aligned low, some_]
    refine if_pos (full.imp id (Or.imp (fun same => ?_) id))
    obtain ⟨q, mem, same⟩ := same
    exact List.any_eq_true.mpr ⟨q, mem, beq_iff_eq.mpr same⟩
  · have given : Gives (.apStore n true ofs 32 data) s (s.apSent n m ofs data) := by
      refine len ▸ gives_apStore (data := data) hn hofs (Nat.le_of_eq len) bytes ?_
      rw [len, State.apStore_good up thawed loose aligned low, some_]
      refine if_neg ?_
      rintro (full | same | none_)
      · exact Nat.not_le.mpr few full
      · obtain ⟨q, mem, same⟩ := List.any_eq_true.mp same
        exact free q mem (beq_iff_eq.mp same)
      · exact Bool.noConfusion (room.symm.trans none_)
    refine given.does ?_
    obtain ⟨_, e, queue⟩ := ((s.addTx ⟨n, s.freeTxn n, .aperture, 0, 0, 0, s.chipId, 0, false, false⟩).setAp n { s.apt n with
      out := (s.apt n).out ++ [(m, s.freeTxn n, ofs % 2 ^ 15, ofBytes data, false)] }).enqueue_spec (n := n)
        (p := mkDat opAP_WRITE (niLoc n) (niLoc m) (s.owner n) 0 (s.freeTxn n) [0] (ofs % 2 ^ 15) 0 0 data) 32
    have opened : (s.addTx ⟨n, s.freeTxn n, .aperture, 0, 0, 0, s.chipId, 0, false, false⟩).otx =
        s.otx ++ [⟨n, s.freeTxn n, .aperture, 0, 0, 0, s.chipId, s.accC (regionOf n), false, false⟩] := by simp only [State.addTx, if_pos hn]
    rw [← State.apSent] at e queue
    generalize s.apSent n m ofs data = x at e queue ⊢
    have ap : x.apt n = { s.apt n with out := (s.apt n).out ++ [(m, s.freeTxn n, ofs % 2 ^ 15, ofBytes data, false)] } := by
      rw [e]
      exact SMap.get_put_same _ _ _ _
    have otx : x.otx = s.otx ++ [⟨n, s.freeTxn n, .aperture, 0, 0, 0, s.chipId, s.accC (regionOf n), false, false⟩] := by
      rw [e]
      exact opened
    have rest : x.net = s.net ∧ x.regs = s.regs ∧ x.spad = s.spad := by
      rw [e]
      exact ⟨rfl, rfl, rfl⟩
    exact ⟨ap, queue, otx, rest⟩
  · intro u land tgt denied a ack
    have write {st : Nat} {t : State} := gives_apWrite (st := st) (t := t) hn ok thawed up kind
    refine ⟨fun bad => write (.inl ⟨bad, rfl⟩) rfl, fun good full => write (.inr (.inl ⟨good, full, rfl⟩)) rfl, fun good room => ?_⟩
    have landed : (u.apServed n p stOK) = ack (if p.payBad then (u.apLanded n p).report .ni n 10 (29 + 3 * 2 ^ 15) else u.apLanded n p)
        (if p.payBad then stDATA_ERROR else stOK) := by
      simp only [State.apServed, if_true, true_and]
      rfl
    refine ⟨fun whole => write (.inr (.inr ⟨good, room, rfl⟩)) (landed.trans ?_), fun bad => write (.inr (.inr ⟨good, room, rfl⟩)) (landed.trans ?_)⟩
    · simp only [whole, Bool.false_eq_true, if_false]
      rfl
    · simp only [bad, if_true]
      rfl
  · refine Gives.of_run (exec_apResend n txn s) (by simp only [Instr.wf, okSlot, hn, htxn, decide_true, Bool.and_self]) ?_
    dsimp only
    rw [none_]
  · have given : Gives (.apResend n txn) s (s.apResent n txn o) := by
      refine Gives.of_run (exec_apResend n txn s) (by simp only [Instr.wf, okSlot, hn, htxn, decide_true, Bool.and_self]) ?_
      dsimp only
      rw [found]
      rfl
    refine given.does ?_
    obtain ⟨_, e, queue⟩ := (s.setAp n (s.apCalm n txn)).enqueue_spec (n := n)
        (p := mkDat opAP_WRITE (niLoc n) (niLoc o.1) (s.owner n) 0 txn [0] o.2.2.1 0 0 (toBytes 32 o.2.2.2.1)) 32
    rw [← State.apResent] at e queue
    generalize s.apResent n txn o = x at e queue
    have out : x.apt n = s.apCalm n txn := by
      rw [e]
      exact SMap.get_put_same _ _ _ _
    have rest : x.net = s.net ∧ x.regs = s.regs ∧ x.spad = s.spad ∧ x.otx = s.otx := by
      rw [e]
      exact ⟨rfl, rfl, rfl, rfl⟩
    refine ⟨queue, fun q mem same => ?_, rest⟩
    have mem : q ∈ (s.apCalm n txn).out := out ▸ mem
    obtain ⟨r, -, rfl⟩ := List.mem_map.mp mem
    by_cases hit : r.2.1 = txn
    · rw [if_pos hit]
    · rw [if_neg hit] at same
      exact absurd same hit

end Sys2Proof.Machine

/-! # Reductions at a router (R184, R188 to R190, R200) -/

namespace Sys2Proof.Machine

/-! ## The reductions of a router -/

section

variable {s t : State} {n rid i : Nat} {p : Pkt} {r : RRed} {sl : RSlot}

/-- The reduction directory does not see packets in flight. -/
theorem State.redEntry_takeNet (pl : Place) (q : Pkt) (rid : Nat) : (s.takeNet pl q).redEntry rid = s.redEntry rid := by
  have map : (s.takeNet pl q).fbMap = s.fbMap := rfl
  have hbm : (s.takeNet pl q).hbm = s.hbm := rfl
  have base : (s.takeNet pl q).pair FB_RED_DIR_LO FB_RED_DIR_HI = s.pair FB_RED_DIR_LO FB_RED_DIR_HI := rfl
  rw [State.redEntry, State.redEntry, State.hbmBytes, State.hbmBytes, map, hbm, base]

theorem State.atRed_of_routerUp (f : State → State) (thawed : s.frozenAt n = false) (up : s.routerUp n = true) :
    s.atRed n p f = f (s.takeNet (.unit (niLoc n)) p) := by
  have still : (s.takeNet (.unit (niLoc n)) p).routerUp n = true := up
  simp only [State.atRed, thawed, still, Bool.false_eq_true, if_false, if_true]

theorem State.rid_of_red (found : s.red? n rid = some r) : r.rid = rid := by
  simpa using List.find?_some found

theorem State.red?_updRed {f : RRed → RRed} (found : s.red? n rid = some r) (same : (f r).rid = r.rid) : (s.updRed n rid f).red? n rid = some (f r) := by
  have still : ((f r).rid == rid) = true := by rw [same, State.rid_of_red found, beq_self_eq_true]
  rw [State.red?, State.updRed, State.rt_modRt_same]
  exact find?_updFirst found still

/-- The escape generation of a contribution that came on the network's own channel, or by the reduction's generation, is that generation. -/
theorem State.redGen_eq (found : s.red? n (p.arg 0) = some r) (own : ¬ (p.esc = true ∧ p.src.slot ≠ n ∧ p.arg 2 ≠ 3 ∧ p.egen ≠ r.gen)) :
    s.redGen n p = r.gen := by
  rw [State.redGen]
  split
  · next esc =>
    obtain ⟨esc, far, mesh⟩ := esc
    exact not_not.mp fun other => own ⟨esc, far, mesh, other⟩
  · rw [found]

/-! ## Contributions -/

theorem gives_redData {ue : Bool} (hn : n < 2304) (ok : okPkt p = true) (up : s.routerUp n = true) (thawed : s.frozenAt n = false)
    (unarmed : s.fld (xx_ERR_INJECT_ARM .red) n = 0) (kind : p.kind = opRED_DATA) (h : (s.takeNet (.unit (niLoc n)) p).redArrive n p ue = t) :
    Gives (.redData n p ue) s t := by
  refine Gives.of_run (exec_redData n p ue s) (by simp only [Instr.wf, okSlot, hn, ok, decide_true, Bool.and_self])
    ((if_neg (not_not.mpr kind)).trans ((State.atRed_of_routerUp _ thawed up).trans ?_))
  have still : (s.takeNet (.unit (niLoc n)) p).routerUp n = true := up
  dsimp only
  rw [State.injEvent_of_unarmed (s := s.takeNet (.unit (niLoc n)) p) _ _ unarmed, if_pos still]
  exact h

/-- A contribution of the slot's phase at a reduction that the router has (R189). -/
theorem State.redAt_eq {ue : Bool} (slot : r.slots[p.arg 1 % r.slots.length]? = some sl) (phase : sl.phase = p.arg 2) :
    s.redAt n p ue r =
      (let v := s.updRed n (p.arg 0) fun _ => r
      if v.redGen n p ≠ r.gen then (v.redCause n RT_RED_STATUS_GEN).redFail n (p.arg 0) stTARGET_FENCED
      else if p.arg 1 < sl.round then (v.redCause n RT_RED_STATUS_ORDER).redFail n (p.arg 0) stABORTED
      else if r.inTurn (kidOf n p) p then (v.redTake n (kidOf n p) p ue).redDrain n (p.arg 0) ((v.rt n).staged.length + 1)
      else if ((v.rt n).staged.map (fun x => payFlits x.pkt)).sum + payFlits p ≤ 64 then
        v.modRt n (fun q => { q with staged := q.staged ++ [(⟨kidOf n p, if ue then { p with args := p.args.set 5 1 } else p⟩ : RStaged)] })
      else v.redAnswer n (kidOf n p) p opRED_BUSY [p.arg 0, p.arg 1, 0]) := by
  have stays : ¬ (sl.phase = 1 ∧ p.arg 2 = 2 ∧ sl.got = 0 ∧ sl.out = none) := by
    rintro ⟨one, two, -⟩
    omega
  have late : ((sl.phase = p.arg 2 ∧ p.arg 1 < sl.round) ∨ (sl.phase = 2 ∧ p.arg 2 = 1)) ↔ p.arg 1 < sl.round := by
    constructor
    · rintro (⟨-, late⟩ | ⟨two, one⟩)
      · exact late
      · omega
    · exact fun late => .inl ⟨phase, late⟩
  have other : ¬ (sl.phase ≠ p.arg 2 ∧ ¬(sl.phase = 1 ∧ p.arg 2 = 2)) := fun h => h.1 phase
  simp only [State.redAt, slot, stays, late, other, if_false]

theorem RRed.inTurn_iff {kid : Nat} (slot : r.slots[p.arg 1 % r.slots.length]? = some sl) :
    r.inTurn kid p = true ↔ sl.out = none ∧ sl.round = p.arg 1 ∧ sl.phase = p.arg 2 ∧ r.kids[sl.got]? = some kid := by
  simp only [RRed.inTurn, slot, Bool.and_eq_true, Option.isNone_iff_eq_none, beq_iff_eq, and_assoc]

/-- A report of a reduction unit whose parity fault is not armed. -/
theorem State.told_redCause {f : Fld} (unarmed : (s.eu .red n).parityArmed = false) :
    (s.setFld f 1 n).Told (s.redCause n f) .red n := State.told_report _ (by decide) unarmed

/-- A drain of a router that has nothing staged takes nothing. -/
theorem State.redDrain_of_none (fuel : Nat) (none_ : (s.rt n).staged = []) : s.redDrain n rid fuel = s := by
  cases fuel with
  | zero => rfl
  | succ fuel =>
    rw [State.redDrain, none_]
    split
    · rfl
    · rfl

/-- The slot with one more contribution combined. -/
def RSlot.taken (sl : RSlot) (p : Pkt) (ue : Bool) (c : List Int × Bool) : RSlot :=
  { sl with
    phase := p.arg 2
    got := sl.got + 1
    acc := c.1
    sat := sl.sat || c.2 || p.arg 4 == 1
    err := sl.err || ue || p.arg 5 == 1
    last := sl.last || p.arg 3 == 1 }

/-- What a contribution makes of the accumulated list, and whether an integer saturated (R178). -/
def RRed.combined (r : RRed) (sl : RSlot) (kid : Nat) (p : Pkt) : List Int × Bool :=
  let form := redForm r.bind r.wide (p.arg 2)
  let x := decodeList form.1 (if kid = 4 then r.bind.inF else r.wireFmt) form.2 p.data
  if sl.got = 0 then (redLoad form.1 r.bind.k x, false) else redCombine form.1 r.bind.inF r.bind.k r.wide sl.acc x

/-- A contribution in turn that is not the last of its slot's round. -/
theorem State.redTake_more {kid : Nat} {ue : Bool} (found : s.red? n (p.arg 0) = some r) (slot : r.slots[p.arg 1 % r.slots.length]? = some sl)
    (more : sl.got + 1 < r.kids.length) : s.redTake n kid p ue =
      ((if (r.combined sl kid p).2 then s.redCause n RT_RED_STATUS_SATURATED else s).updRed n (p.arg 0)
        (fun r' => { r' with slots := r'.slots.set (p.arg 1 % r.slots.length) (sl.taken p ue (r.combined sl kid p)) })).redAnswer n kid p opRED_ACK
          [p.arg 0, p.arg 1] := by
  rw [State.redTake, found]
  dsimp only
  rw [slot]
  exact if_neg (Nat.ne_of_lt more)

theorem State.redTake_spec {kid : Nat} {ue : Bool} (found : s.red? n (p.arg 0) = some r) (slot : r.slots[p.arg 1 % r.slots.length]? = some sl)
    (phase : sl.phase = p.arg 2) (more : sl.got + 1 < r.kids.length) (unarmed : (s.eu .red n).parityArmed = false) :
    let t := s.redTake n kid p ue
    t.red? n (p.arg 0) = some { r with slots := r.slots.set (p.arg 1 % r.slots.length) { sl with
      got := sl.got + 1
      acc := (r.combined sl kid p).1
      sat := sl.sat || (r.combined sl kid p).2 || p.arg 4 == 1
      err := sl.err || ue || p.arg 5 == 1
      last := sl.last || p.arg 3 == 1 } } ∧ (t.rt n).staged = (s.rt n).staged ∧
    (kid = 4 → ⟨.unit (niLoc n), mkPkt opRED_ACK (niLoc n) (niLoc n) p.ten 0 0 [p.arg 0, p.arg 1]⟩ ∈ t.net) ∧
    ((r.combined sl kid p).2 = false → t.regs = s.regs) ∧ t.spad = s.spad ∧ t.descs = s.descs ∧ t.redm = s.redm := by
  have marked : ∀ x, x = (if (r.combined sl kid p).2 then s.redCause n RT_RED_STATUS_SATURATED else s) → x.rtr = s.rtr ∧
      ((r.combined sl kid p).2 = false → x.regs = s.regs) ∧ x.spad = s.spad ∧ x.descs = s.descs ∧ x.redm = s.redm := by
    intro x hx
    cases sat : (r.combined sl kid p).2 with
    | false =>
      rw [sat] at hx
      subst hx
      exact ⟨rfl, fun _ => rfl, rfl, rfl, rfl⟩
    | true =>
      rw [sat, if_pos rfl] at hx
      obtain ⟨_, _, _, _, _, _, _, _, e⟩ := (State.told_redCause (s := s) (n := n) (f := RT_RED_STATUS_SATURATED) unarmed).frame
      rw [hx, e]
      exact ⟨rfl, fun off => Bool.noConfusion off, rfl, rfl, rfl⟩
  have same : sl.taken p ue (r.combined sl kid p) = { sl with
      got := sl.got + 1
      acc := (r.combined sl kid p).1
      sat := sl.sat || (r.combined sl kid p).2 || p.arg 4 == 1
      err := sl.err || ue || p.arg 5 == 1
      last := sl.last || p.arg 3 == 1 } := by rw [RSlot.taken, ← phase]
  dsimp only
  rw [State.redTake_more found slot more, ← same]
  generalize hx : (if (r.combined sl kid p).2 then s.redCause n RT_RED_STATUS_SATURATED else s) = x
  obtain ⟨rtr, regs, spad, descs, redm⟩ := marked x hx.symm
  have found : x.red? n (p.arg 0) = some r := by rw [State.red?, State.rt, rtr]; exact found
  have now := State.red?_updRed (f := fun r' => { r' with slots := r'.slots.set (p.arg 1 % r.slots.length) (sl.taken p ue (r.combined sl kid p)) }) found rfl
  have staged : ((x.updRed n (p.arg 0) fun r' => { r' with
      slots := r'.slots.set (p.arg 1 % r.slots.length) (sl.taken p ue (r.combined sl kid p)) }).rt n).staged = (s.rt n).staged := by
    rw [State.updRed, State.rt_modRt_same, State.rt, rtr]
    rfl
  rw [State.redAnswer]
  split
  · next own => exact ⟨now, staged, fun _ => List.mem_append_right _ (List.mem_singleton.mpr rfl), regs, spad, descs, redm⟩
  · next far => exact ⟨now, staged, fun own => absurd own far, regs, spad, descs, redm⟩

/-! ## Answers and failures -/

/-- The release of a reduction leaves none of its own, and changes only the router. -/
theorem State.redRelease_spec : (s.redRelease n rid).red? n rid = none ∧
    (∀ y ∈ ((s.redRelease n rid).rt n).staged, y.pkt.arg 0 = rid → s.red? n rid = none) ∧ ∃ rtr, s.redRelease n rid = { s with rtr := rtr } := by
  rw [State.redRelease]
  cases found : s.red? n rid with
  | none => exact ⟨found, fun _ _ _ => rfl, s.rtr, rfl⟩
  | some r =>
    refine ⟨?_, fun y mem same => ?_, _, rfl⟩
    · rw [State.red?, State.rt_modRt_same]
      refine List.find?_eq_none.mpr fun x mem => ?_
      simpa using (List.mem_filter.mp mem).2
    · rw [State.rt_modRt_same] at mem
      have other := (List.mem_filter.mp mem).2
      rw [same, bne_self_eq_false] at other
      exact Bool.noConfusion other

/-- A RED_ABORT at a router releases the reduction and keeps its id (R190). -/
theorem State.redAbortAt_spec : let t := s.redAbortAt n rid
    t.red? n rid = none ∧ rid ∈ (t.rt n).idHold ∧ (∀ y ∈ (t.rt n).staged, y.pkt.arg 0 = rid → s.red? n rid = none) ∧ ∃ rtr, t = { s with rtr := rtr } := by
  obtain ⟨gone, staged, rtr, e⟩ := s.redRelease_spec (n := n) (rid := rid)
  have kept : (s.redAbortAt n rid).rt n = { (s.redRelease n rid).rt n with
      idHold := if ((s.redRelease n rid).rt n).idHold.contains rid then ((s.redRelease n rid).rt n).idHold
        else ((s.redRelease n rid).rt n).idHold ++ [rid] } := State.rt_modRt_same _ _ _
  refine ⟨?_, ?_, ?_, ?_⟩
  · rw [State.red?, kept]
    exact gone
  · rw [kept]
    dsimp only
    split
    · next has => exact List.contains_iff_mem.mp has
    · exact List.mem_append_right _ (List.mem_singleton.mpr rfl)
  · rw [kept]
    exact staged
  · rw [State.redAbortAt, e]
    exact ⟨_, rfl⟩

/-- What the acknowledgement of a slot makes of the reduction, with the contributions that the router has staged. -/
def RRed.nextRound (staged : List RStaged) (rid i : Nat) (r : RRed) : RRed :=
  match r.slots[i]? with
  | some sl => { r with
      slots := r.slots.set i (if (sl.phase == 1 && staged.any fun x => x.pkt.arg 0 == rid && x.pkt.arg 2 == 2 && x.pkt.arg 1 % r.slots.length == i)
        then { round := i, phase := 2 } else { round := sl.round + r.slots.length, phase := sl.phase })
      fin := r.fin || sl.last }
  | none => r

theorem State.slotNext_eq : s.slotNext n rid i = match (s.updRed n rid (RRed.nextRound (s.rt n).staged rid i)).red? n rid with
    | some r => if r.fin && r.slots.all (fun sl => sl.got == 0 && sl.out.isNone) then (s.updRed n rid (RRed.nextRound (s.rt n).staged rid i)).redRelease n rid
      else s.updRed n rid (RRed.nextRound (s.rt n).staged rid i)
    | none => s.updRed n rid (RRed.nextRound (s.rt n).staged rid i) := rfl

theorem RRed.nextRound_eq (slot : r.slots[i]? = some sl) (goes : r.fin = false) (more : sl.last = false) :
    r.nextRound [] rid i = { r with slots := r.slots.set i { round := sl.round + r.slots.length, phase := sl.phase } } := by
  simp only [RRed.nextRound, slot, List.any_nil, Bool.and_false, Bool.false_eq_true, if_false, goes, more, Bool.or_self]

/-- A slot takes its next round, while the reduction goes on and nothing is staged (R189). -/
theorem State.slotNext_spec (found : s.red? n rid = some r) (slot : r.slots[i]? = some sl) (goes : r.fin = false) (more : sl.last = false)
    (none_ : (s.rt n).staged = []) : let t := s.slotNext n rid i
    t.red? n rid = some { r with slots := r.slots.set i { round := sl.round + r.slots.length, phase := sl.phase } } ∧ (t.rt n).staged = [] ∧
      ∃ rtr, t = { s with rtr := rtr } := by
  have next := RRed.nextRound_eq (rid := rid) slot goes more
  have now : (s.updRed n rid (RRed.nextRound [] rid i)).red? n rid = some (r.nextRound [] rid i) := State.red?_updRed found (by rw [next])
  have on : ((s.updRed n rid (RRed.nextRound [] rid i)).rt n).staged = [] := by
    rw [State.updRed, State.rt_modRt_same]
    exact none_
  dsimp only
  rw [State.slotNext_eq, none_, now]
  dsimp only
  rw [next] at now ⊢
  simp only [goes, Bool.false_and, Bool.false_eq_true, if_false]
  refine ⟨now.trans ?_, on, _, rfl⟩
  rw [goes]

/-- The change of a slot that one of its packets has been refused, or is sent again. -/
def RRed.setBusy (i : Nat) (b : Bool) (r : RRed) : RRed :=
  match r.slots[i]? with
  | some sl => { r with slots := r.slots.set i { sl with busy := b } }
  | none => r

theorem RRed.setBusy_eq {b : Bool} (slot : r.slots[i]? = some sl) : r.setBusy i b = { r with slots := r.slots.set i { sl with busy := b } } := by
  rw [RRed.setBusy, slot]

theorem State.shut_iff : (r.kids.contains 4 && s.tnState n != 1) = true ↔ r.kids.contains 4 = true ∧ s.tnState n ≠ 1 := by
  rw [Bool.and_eq_true, bne_iff_ne]

/-- A contribution to a reduction that the router has and that is not shut (R189, R368). -/
theorem State.redArrive_found {ue : Bool} (whole : ¬ (p.arg 9 = 2 ∨ 3 < p.arg 9)) (fresh : ¬ (s.rt n).idHold.contains (p.arg 0) = true)
    (found : s.red? n (p.arg 0) = some r) : s.redArrive n p ue =
      if r.kids.contains 4 = true ∧ s.tnState n ≠ 1 then s.redFail n (p.arg 0) stABORTED else s.redAt n p ue r := by
  refine (if_neg whole).trans ((if_neg fresh).trans ?_)
  rw [found]
  simp only [State.shut_iff]

theorem State.redArrive_new {ue : Bool} (whole : ¬ (p.arg 9 = 2 ∨ 3 < p.arg 9)) (fresh : ¬ (s.rt n).idHold.contains (p.arg 0) = true)
    (none_ : s.red? n (p.arg 0) = none)
    (full : (((List.range 64).reverse).filter (fun c => ((s.rt n).ctx.get c {}).owner == 0)).length < reCtxs (s.redEntry (p.arg 0)) ∨
      s.fld RT_RED_CFG_OPEN_MAX n < ((s.rt n).ctx.filter (fun e => e.2.owner == 2)).length + reCtxs (s.redEntry (p.arg 0))) :
    s.redArrive n p ue = (s.redCause n RT_RED_STATUS_NOCTX).redAnswer n (kidOf n p) p opRED_BUSY [p.arg 0, p.arg 1, 1] := by
  refine (if_neg whole).trans ((if_neg fresh).trans ?_)
  rw [none_]
  exact if_pos full

/-- A contribution in turn that is not the last of its round, with nothing staged: it is combined, and no more. -/
theorem does_redTake {v : State} {ue : Bool} {c : Sys2Proof.Instr} (given : Gives c s ((v.redTake n (kidOf n p) p ue).redDrain n (p.arg 0) ((v.rt n).staged.length + 1)))
    (found : v.red? n (p.arg 0) = some r) (slot : r.slots[p.arg 1 % r.slots.length]? = some sl)
    (phase : sl.phase = p.arg 2) (more : sl.got + 1 < r.kids.length) (none_ : (v.rt n).staged = []) (calm : (v.eu .red n).parityArmed = false) :
    Does c s fun t => t.red? n (p.arg 0) = some { r with slots := r.slots.set (p.arg 1 % r.slots.length) { sl with
        got := sl.got + 1
        acc := (r.combined sl (kidOf n p) p).1
        sat := sl.sat || (r.combined sl (kidOf n p) p).2 || p.arg 4 == 1
        err := sl.err || ue || p.arg 5 == 1
        last := sl.last || p.arg 3 == 1 } } ∧
      (kidOf n p = 4 → ⟨.unit (niLoc n), mkPkt opRED_ACK (niLoc n) (niLoc n) p.ten 0 0 [p.arg 0, p.arg 1]⟩ ∈ t.net) ∧
      ((r.combined sl (kidOf n p) p).2 = false → t.regs = v.regs) ∧ t.spad = v.spad ∧ t.descs = v.descs ∧ t.redm = v.redm := by
  obtain ⟨red, staged, ack, regs, rest⟩ := State.redTake_spec (ue := ue) (kid := kidOf n p) found slot phase more calm
  rw [none_] at staged
  rw [State.redDrain_of_none _ staged] at given
  refine given.does ?_
  generalize v.redTake n (kidOf n p) p ue = x at red ack regs rest
  exact ⟨red, ack, regs, rest⟩

/-- What a delivery to the reduction unit of a router in service does. -/
theorem gives_atRed {c : Sys2Proof.Instr} {o : Op} {f : State → State} (e : exec c s = run c s fun s => if p.kind ≠ o then s else s.atRed n p f)
    (wf : c.wf = true) (up : s.routerUp n = true) (thawed : s.frozenAt n = false) (kind : p.kind = o) (h : f (s.takeNet (.unit (niLoc n)) p) = t) :
    Gives c s t :=
  Gives.of_run e wf ((if_neg (not_not.mpr kind)).trans ((State.atRed_of_routerUp _ thawed up).trans h))

/-- The first RED_FAIL at a root: the reduction is released there, and RED_ABORT goes to its group (R190). -/
def State.redFailed (s : State) (n : Nat) (p : Pkt) : State :=
  (s.redAbortAt n (p.arg 0)).push (.router n 4) (mkPkt opRED_ABORT (niLoc n) (groupLoc (reGroup (s.redEntry (p.arg 0)))) 0 0 0 [p.arg 0, p.arg 1])

theorem State.redFailed_spec : let t := s.redFailed n p
    t.red? n (p.arg 0) = none ∧ p.arg 0 ∈ (t.rt n).idHold ∧ (∀ y ∈ (t.rt n).staged, y.pkt.arg 0 = p.arg 0 → s.red? n (p.arg 0) = none) ∧
      ⟨.router n 4, mkPkt opRED_ABORT (niLoc n) (groupLoc (reGroup (s.redEntry (p.arg 0)))) 0 0 0 [p.arg 0, p.arg 1]⟩ ∈ t.net ∧
      t.regs = s.regs ∧ t.spad = s.spad ∧ t.descs = s.descs := by
  obtain ⟨gone, hold, staged, rtr, e⟩ := s.redAbortAt_spec (n := n) (rid := p.arg 0)
  have rest : (s.redAbortAt n (p.arg 0)).regs = s.regs ∧ (s.redAbortAt n (p.arg 0)).spad = s.spad ∧ (s.redAbortAt n (p.arg 0)).descs = s.descs := by
    rw [e]
    exact ⟨rfl, rfl, rfl⟩
  dsimp only
  rw [State.redFailed]
  generalize s.redAbortAt n (p.arg 0) = x at gone hold staged rest ⊢
  exact ⟨gone, hold, staged, List.mem_append_right _ (List.mem_singleton.mpr rfl), rest⟩

theorem does_redFail (wf : (okSlot n && okPkt p) = true) (up : s.routerUp n = true) (thawed : s.frozenAt n = false) (kind : p.kind = opRED_FAIL)
    (fresh : (s.rt n).idHold.contains (p.arg 0) = false) : Does (.redFail n p) s fun t =>
      t.red? n (p.arg 0) = none ∧ p.arg 0 ∈ (t.rt n).idHold ∧ (∀ y ∈ (t.rt n).staged, y.pkt.arg 0 = p.arg 0 → s.red? n (p.arg 0) = none) ∧
      ⟨.router n 4, mkPkt opRED_ABORT (niLoc n) (groupLoc (reGroup (s.redEntry (p.arg 0)))) 0 0 0 [p.arg 0, p.arg 1]⟩ ∈ t.net ∧
      t.regs = s.regs ∧ t.spad = s.spad ∧ t.descs = s.descs := by
  have given : Gives (.redFail n p) s ((s.takeNet (.unit (niLoc n)) p).redFailed n p) :=
    gives_atRed (exec_redFail n p s) wf up thawed kind (if_neg (ne_true_of_eq_false fresh))
  have spec := (s.takeNet (.unit (niLoc n)) p).redFailed_spec (n := n) (p := p)
  have old : (s.takeNet (.unit (niLoc n)) p).red? n (p.arg 0) = s.red? n (p.arg 0) := rfl
  have entry : (s.takeNet (.unit (niLoc n)) p).redEntry (p.arg 0) = s.redEntry (p.arg 0) := State.redEntry_takeNet _ _ _
  have rest : (s.takeNet (.unit (niLoc n)) p).regs = s.regs ∧ (s.takeNet (.unit (niLoc n)) p).spad = s.spad ∧
    (s.takeNet (.unit (niLoc n)) p).descs = s.descs := ⟨rfl, rfl, rfl⟩
  obtain ⟨regs, spad, descs⟩ := rest
  dsimp only at spec
  rw [old, entry, regs, spad, descs] at spec
  refine given.does ?_
  generalize (s.takeNet (.unit (niLoc n)) p).redFailed n p = x at spec
  exact spec

theorem does_redBusy (wf : (okSlot n && okPkt p) = true) (up : s.routerUp n = true) (thawed : s.frozenAt n = false) (kind : p.kind = opRED_BUSY)
    (far : p.src.slot ≠ n) (found : s.red? n (p.arg 0) = some r) (waits : s.redWaiting n (p.arg 0) (p.arg 1) = some i) (slot : r.slots[i]? = some sl) :
    Does (.redBusy n p) s fun t => t.red? n (p.arg 0) = some { r with slots := r.slots.set i { sl with busy := true } } ∧
      t.regs = s.regs ∧ t.spad = s.spad := by
  have busy := State.red?_updRed (s := s.takeNet (.unit (niLoc n)) p) (f := RRed.setBusy i true) found (by rw [RRed.setBusy_eq slot])
  rw [RRed.setBusy_eq slot] at busy
  have given : Gives (.redBusy n p) s ((s.takeNet (.unit (niLoc n)) p).updRed n (p.arg 0) (RRed.setBusy i true)) := by
    refine gives_atRed (exec_redBusy n p s) wf up thawed kind ((if_neg far).trans ?_)
    rw [show (s.takeNet (.unit (niLoc n)) p).redWaiting n (p.arg 0) (p.arg 1) = some i from waits]
    rfl
  exact given.does ⟨busy, rfl, rfl⟩

theorem does_redIdHoldExpire {k : Nat} (hn : n < 2304) (hk : k < 4096) : Does (.redIdHoldExpire n k) s fun t => k ∉ (t.rt n).idHold ∧
    (∀ j, j ≠ k → (j ∈ (t.rt n).idHold ↔ j ∈ (s.rt n).idHold)) ∧ (t.rt n).reds = (s.rt n).reds ∧ t.regs = s.regs ∧ t.spad = s.spad ∧ t.net = s.net := by
  have given : Gives (.redIdHoldExpire n k) s (s.modRt n fun r => { r with idHold := r.idHold.filter fun x => x != k }) :=
    Gives.of_run (exec_redIdHoldExpire n k s) (by simp only [Instr.wf, okSlot, hn, hk, decide_true, Bool.and_self]) rfl
  have on := State.rt_modRt_same s n fun r => { r with idHold := r.idHold.filter fun x => x != k }
  refine given.does ?_
  have hold : ∀ j, j ∈ ((s.modRt n fun r => { r with idHold := r.idHold.filter fun x => x != k }).rt n).idHold ↔ j ∈ (s.rt n).idHold ∧ j ≠ k := by
    intro j
    rw [on]
    simp only [List.mem_filter, bne_iff_ne]
  have reds : ((s.modRt n fun r => { r with idHold := r.idHold.filter fun x => x != k }).rt n).reds = (s.rt n).reds := by rw [on]
  exact ⟨fun mem => ((hold k).mp mem).2 rfl, fun j other => (hold j).trans (and_iff_left other), reds, rfl, rfl, rfl⟩

end

/-- Settles O18: what a reduction's slot expects decides what a contribution does. -/
theorem routersCombineAndReleaseReductions : Obligations.RoutersCombineAndReleaseReductions := by
  unfold Obligations.RoutersCombineAndReleaseReductions
  refine ⟨?_, ?_⟩
  · intro s n p ue r sl hn ok up thawed unarmed calm kind rid u v i kid cut held form x c need free used shut alien
    have arrive {t : State} (h : u.redArrive n p ue = t) : Gives (.redData n p ue) s t := gives_redData hn ok up thawed unarmed kind h
    have red (whole : ¬ cut) (fresh : ¬ held) (found : s.red? n rid = some r) : u.redArrive n p ue = _ :=
      State.redArrive_found (s := u) whole fresh found
    refine ⟨fun c => arrive (if_pos c), fun whole kept => arrive ((if_neg whole).trans (if_pos kept)), fun whole fresh found closed =>
      arrive ((red whole fresh found).trans (if_pos closed)), fun whole fresh found open_ slot phase => ?_, fun whole fresh none_ few => ?_⟩
    rotate_left
    · have entry : need = reCtxs (u.redEntry (p.arg 0)) := congrArg reCtxs (State.redEntry_takeNet _ _ _).symm
      rw [entry] at few
      exact arrive (State.redArrive_new (s := u) whole fresh none_ few)
    have at_ := ((red whole fresh found).trans (if_neg open_)).trans (State.redAt_eq (s := u) (ue := ue) slot phase)
    have found' : v.red? n (p.arg 0) = some r := State.red?_updRed (s := u) (f := fun _ => r) found rfl
    have gen (own : ¬ alien) : v.redGen n p = r.gen := State.redGen_eq found' own
    have staged : (v.rt n).staged = (s.rt n).staged := by
      rw [show v.rt n = _ from State.rt_modRt_same u n _]
      rfl
    have turn_ := RRed.inTurn_iff (p := p) (kid := kid) slot
    refine ⟨fun far => arrive (at_.trans (if_pos ?_)), fun own late => arrive (at_.trans ((if_neg (not_not.mpr (gen own))).trans (if_pos late))),
      fun own round out turn more none_ => ?_, fun own later off => ?_⟩
    · obtain ⟨esc, away, mesh, other⟩ := far
      have egen : v.redGen n p = p.egen := if_pos ⟨esc, away, mesh⟩
      exact egen.trans_ne other
    · refine does_redTake (v := v) (arrive (at_.trans ((if_neg (not_not.mpr (gen own))).trans ((if_neg ?_).trans (if_pos ?_))))) found' slot phase more
        (staged.trans none_) calm
      · omega
      · exact turn_.mpr ⟨out, round, phase, turn⟩
    · have waits {t : State} (h : (if ((v.rt n).staged.map (fun x => payFlits x.pkt)).sum + payFlits p ≤ 64 then
          v.modRt n (fun q => { q with staged := q.staged ++ [(⟨kidOf n p, if ue then { p with args := p.args.set 5 1 } else p⟩ : RStaged)] })
          else v.redAnswer n (kidOf n p) p opRED_BUSY [p.arg 0, p.arg 1, 0]) = t) : Gives (.redData n p ue) s t :=
        arrive (at_.trans ((if_neg (not_not.mpr (gen own))).trans ((if_neg (Nat.not_lt.mpr later)).trans ((if_neg (ne_true_of_eq_false off)).trans h))))
      rw [staged] at waits
      exact ⟨fun full => waits (if_pos full), fun full => waits (if_neg full)⟩
  · intro s n i p r sl hn ok up thawed rid u
    have wf : (okSlot n && okPkt p) = true := by simp only [okSlot, hn, ok, decide_true, Bool.and_self]
    refine ⟨fun kind far none_ => ?_, fun kind far found waits slot goes more none_ => ?_, fun kind far found waits slot => ?_, fun kind member found at_ slot => ?_,
      fun kind kept => gives_atRed (exec_redFail n p s) wf up thawed kind (if_pos kept), fun kind fresh => ?_, fun kind member => ?_,
      fun m kind member niUp => ?_, fun k hk => ?_⟩
    · refine gives_atRed (exec_redAck n p s) wf up thawed kind ((if_neg far).trans ?_)
      rw [show u.redWaiting n (p.arg 0) (p.arg 1) = none from none_]
    · obtain ⟨red, staged, rtr, e⟩ := State.slotNext_spec (s := u) found slot goes more none_
      have given : Gives (.redAck n p) s (u.slotNext n rid i) := by
        refine gives_atRed (exec_redAck n p s) wf up thawed kind ((if_neg far).trans ?_)
        rw [show u.redWaiting n (p.arg 0) (p.arg 1) = some i from waits]
        exact State.redDrain_of_none _ staged
      refine given.does ?_
      have rest : (u.slotNext n rid i).regs = s.regs ∧ (u.slotNext n rid i).spad = s.spad ∧ (u.slotNext n rid i).net = u.net := by
        rw [e]
        exact ⟨rfl, rfl, rfl⟩
      generalize u.slotNext n rid i = x at red rest
      exact ⟨red, rest⟩
    · exact does_redBusy wf up thawed kind far found waits slot
    · refine Gives.of_run (exec_redResend n p s) wf ((if_neg (by simp [kind, thawed, up])).trans ?_)
      have none_ : s.redm? n (p.arg 0) = none := Option.isNone_iff_eq_none.mp member
      have found : s.red? n (p.arg 0) = some r := found
      have at_ : (some r).bind (fun r => r.slots.findIdx? fun sl => decide (sl.out = some p) && sl.busy) = some i := at_
      rw [none_, found, at_]
      rfl
    · exact does_redFail wf up thawed kind fresh
    · obtain ⟨-, -, -, rtr, e⟩ := u.redAbortAt_spec (n := n) (rid := rid)
      refine gives_atRed (exec_redAbort n p s) wf up thawed kind ?_
      have none_ : (u.redAbortAt n rid).redm? n rid = none := by rw [e]; exact member
      dsimp only
      rw [none_]
    · obtain ⟨-, -, -, rtr, e⟩ := u.redAbortAt_spec (n := n) (rid := rid)
      refine gives_atRed (exec_redAbort n p s) wf up thawed kind ?_
      have some_ : (u.redAbortAt n rid).redm? n rid = some m := by rw [e]; exact member
      have up' : (u.redAbortAt n rid).niUp n = true := by rw [e]; exact niUp
      dsimp only
      rw [some_]
      exact if_pos up'
    · exact does_redIdHoldExpire hn hk

end Sys2Proof.Machine

/-! # Bells, rings, tile queues and completions (R207 to R213, R236) -/

namespace Sys2Proof.Machine

/-! ## Bells -/

section

variable {s t : State} {hp n o q v : Nat} {p : Pkt}

/-- The page by which a bell comes: a tenancy's own, or the fabric's. -/
def bellPage (c : Sys2Proof.Instr) : Option Nat :=
  match c with
  | .tnBell _ t _ => some t
  | _ => none

theorem gives_ringBell {c : Sys2Proof.Instr} {off ten : Nat} (hhp : hp < 2) (ht : ten < 64) (hv : v < 2 ^ 32)
    (at_ : (c = .tnBell hp ten v ∧ off = TN_BELL.addr ten 0) ∨ (c = .fbBell hp v ∧ off = FB_BELL.addr 0 0)) (alive : s.regAlive off = true)
    (h : (s.serveWrite off v).ringBell hp (bits v 11 0) (bellPage c) = t) : Gives c s t := by
  obtain ⟨rfl, rfl⟩ | ⟨rfl, rfl⟩ := at_
  · exact Gives.of_run (exec_tnBell hp ten v s) (by simp only [Instr.wf, okHp, okW, hhp, ht, hv, decide_true, Bool.and_self]) ((if_pos alive).trans h)
  · exact Gives.of_run (exec_fbBell hp v s) (by simp only [Instr.wf, okHp, okW, hhp, hv, decide_true, Bool.and_self]) ((if_pos alive).trans h)

/-- A bell that is heard. -/
theorem State.ringBell_heard {page : Option Nat} {slot : Nat} (safe : s.fld (xx_ERR_STATUS_SAFE .hp) hp = 0) (on : s.fld FB_RING_CFG_ENABLE 0 o = 1)
    (live : s.replayMode 2 (s.ringTen o) = false) (own : page = none ∨ page = some (s.ringTen o))
    (at_ : s.hpLmap hp (s.fld FB_RING_CFG_SERVER 0 o) = some slot) :
    s.ringBell hp o page = ((s.addFld HP_BELLS_CNT 1 hp).log .hp hp 0x60 15 0 o).sendBell hp o slot := by
  refine (if_neg (by omega)).trans ((if_neg ?_).trans ((if_neg ?_).trans ?_))
  · rintro (off | replayed)
    · omega
    · exact Bool.noConfusion (live.symm.trans replayed)
  · rintro ⟨some_, other⟩
    obtain rfl | rfl := own
    · exact Bool.noConfusion some_
    · exact other rfl
  · rw [at_]

theorem State.ringBell_idle {page : Option Nat} (safe : s.fld (xx_ERR_STATUS_SAFE .hp) hp = 0)
    (idle : s.fld FB_RING_CFG_ENABLE 0 o = 0 ∨ s.replayMode 2 (s.ringTen o) = true) : s.ringBell hp o page = s.unitEvent .hp hp 1 o :=
  (if_neg (by omega)).trans (if_pos idle)

theorem State.ringBell_foreign {ten : Nat} (safe : s.fld (xx_ERR_STATUS_SAFE .hp) hp = 0) (on : s.fld FB_RING_CFG_ENABLE 0 o = 1)
    (live : s.replayMode 2 (s.ringTen o) = false) (other : ten ≠ s.ringTen o) : s.ringBell hp o (some ten) = s.unitEvent .hp hp 2 o := by
  refine (if_neg (by omega)).trans ((if_neg ?_).trans (if_pos ⟨rfl, fun same => other (Option.some.inj same)⟩))
  rintro (off | replayed)
  · omega
  · exact Bool.noConfusion (live.symm.trans replayed)

/-! ## Records and fetches -/

/-- Nothing is logged for a tenancy that is not recorded. -/
theorem State.replayLog_of_off {ten : Nat} (ty ring : Nat) (ws : List Nat) (off : s.replayMode 1 ten = false) : s.replayLog ten ty ring ws = s := if_pos off

theorem State.recordIn_eq {tail cq : Nat} (quiet : s.replayMode 1 (s.ringTen o) = false) (live : s.replayMode 2 (s.ringTen o) = false) :
    s.recordIn n o tail cq =
      if 2 ^ s.ringSize o < (tail + 2 ^ 32 - (s.rng o).head % 2 ^ 32) % 2 ^ 32 then
        (s.setRing o { s.rng o with bell := false, halted := true }).ringCause n o 14
      else if (s.rng o).halted = true ∧ (s.rng o).bell = false then s.setRing o { s.rng o with bell := false, cqHead := cq }
      else (s.setRing o { s.rng o with bell := false, tail := tail, cqHead := cq, halted := false }).fetchRing n o := by
  simp only [State.recordIn, State.replayLog_of_off _ _ _ quiet, live, Bool.false_eq_true, if_false]

end

/-! ## Enabling a ring -/

section

variable {s t : State} {r v : Nat}

theorem State.servedTyped_def (d : RegDef) (n k v : Nat) : (s.serveWrite (d.addr n k) v).writeTyped d n k v = s.servedTyped d n k v := rfl

theorem bit_top_iff : bit v 31 = false ↔ bits v 31 31 ≠ 1 := by
  have top : bits v 31 31 = v / 2 ^ 31 % 2 := bits_eq_div (k := 1) v rfl
  rw [bit_eq, decide_eq_false_iff_not, top]

/-- A ring that is written with a size or a server that the rules forbid stays disabled, with CFG_ERR (R211). -/
def State.ringRefused (s : State) (r v : Nat) : State :=
  ((s.servedTyped FB_RING_CFG 0 r v).setFld FB_RING_CFG_CFG_ERR 1 0 r).setFld FB_RING_CFG_ENABLE 0 0 r

/-- A ring that is enabled starts with its indices at 0. -/
def State.ringEnabled (s : State) (r v : Nat) : State :=
  (((s.servedTyped FB_RING_CFG 0 r v).setFld FB_RING_CFG_CFG_ERR 0 0 r).wr FB_RING_HEAD 0 r 0).setRing r
    { ni := ((s.servedTyped FB_RING_CFG 0 r v).hpLmap ((s.servedTyped FB_RING_CFG 0 r v).fld FB_RING_CFG_HP 0 r)
      ((s.servedTyped FB_RING_CFG 0 r v).fld FB_RING_CFG_SERVER 0 r)).getD 2304 }

theorem ringCfg_order : descend 32 FB_RING_CFG.fields = true := by decide

theorem gives_ringCfgWrite (hr : r < 4096) (hv : v < 2 ^ 32) (alive : s.regAlive (FB_RING_CFG.addr 0 r) = true) (on : bits v 31 31 = 1)
    (h : (if bits v 23 20 < 6 ∨ bits v 19 16 < 6 ∨ s.tiles ≤ bits v FB_RING_CFG_SERVER.hi FB_RING_CFG_SERVER.lo then s.ringRefused r v
      else s.ringEnabled r v) = t) : Gives (.ringCfgWrite r v) s t := by
  refine Gives.of_run (exec_ringCfgWrite r v s) (by simp only [Instr.wf, okW, hr, hv, decide_true, Bool.and_self]) ((if_pos alive).trans ?_)
  have size : (s.servedTyped FB_RING_CFG 0 r v).fld FB_RING_CFG_SIZE 0 r = bits v 23 20 := State.fld_servedTyped (reset := 0) ringCfg_order 0 r v rfl (by decide)
  have cq : (s.servedTyped FB_RING_CFG 0 r v).fld FB_RING_CFG_CQ_SIZE 0 r = bits v 19 16 := State.fld_servedTyped (reset := 0) ringCfg_order 0 r v rfl (by decide)
  have server : (s.servedTyped FB_RING_CFG 0 r v).fld FB_RING_CFG_SERVER 0 r = bits v FB_RING_CFG_SERVER.hi FB_RING_CFG_SERVER.lo :=
    State.fld_servedTyped (reset := 0) ringCfg_order 0 r v rfl (by decide)
  obtain ⟨⟨net, bn, regs, e⟩, -⟩ := s.servedTyped_spec FB_RING_CFG 0 r v
  have tiles : (s.servedTyped FB_RING_CFG 0 r v).tiles = s.tiles := by rw [e]; rfl
  rw [← size, ← cq, ← server, ← tiles] at h
  exact (if_neg (not_not.mpr on ∘ bit_top_iff.mp)).trans h

theorem State.ringRefused_spec : let t := s.ringRefused r v
    t.fld FB_RING_CFG_CFG_ERR 0 r = 1 ∧ t.fld FB_RING_CFG_ENABLE 0 r = 0 ∧ t.ring = s.ring ∧ s.RegsKept t [FB_RING_CFG.addr 0 r] := by
  obtain ⟨⟨net, bn, regs, e⟩, kept⟩ := s.servedTyped_spec FB_RING_CFG 0 r v
  unfold State.ringRefused
  generalize s.servedTyped FB_RING_CFG 0 r v = y at e kept ⊢
  refine ⟨?_, State.fld_setFld_same _ _ _ _ _ (Nat.le_refl 31) (by decide), by rw [e]; rfl,
    kept.trans (.trans (State.regsKept_setFld FB_RING_CFG_CFG_ERR _ _ _ (List.mem_singleton.mpr rfl))
      (State.regsKept_setFld FB_RING_CFG_ENABLE _ _ _ (List.mem_singleton.mpr rfl)))⟩
  rw [State.fld_setFld_apart _ FB_RING_CFG_ENABLE FB_RING_CFG_CFG_ERR 0 0 r rfl (Nat.le_refl 31) (by decide) (by decide)]
  exact State.fld_setFld_same _ _ _ _ _ (Nat.le_refl 15) (by decide)

/-- The logical map of a host port stands apart from the rings. -/
theorem State.hpLmap_congr {hp tile : Nat} {l : List Nat} (kept : s.RegsKept t l) (out : HP_LMAP.addr hp (tile / 2) ∉ l) : t.hpLmap hp tile = s.hpLmap hp tile := by
  have same (f : Fld) (reg : f.reg = HP_LMAP) : t.fld f hp (tile / 2) = s.fld f hp (tile / 2) := kept.fld (by rw [reg]; exact out)
  simp only [State.hpLmap, same HP_LMAP_VALID_EVEN rfl, same HP_LMAP_SLOT_EVEN rfl, same HP_LMAP_VALID_ODD rfl, same HP_LMAP_SLOT_ODD rfl]

theorem State.ringEnabled_spec (hr : r < 4096) (on : bits v 31 31 = 1) : let t := s.ringEnabled r v
    t.fld FB_RING_CFG_CFG_ERR 0 r = 0 ∧ t.fld FB_RING_CFG_ENABLE 0 r = 1 ∧ t.fld FB_RING_CFG_SIZE 0 r = bits v 23 20 ∧
      t.fld FB_RING_CFG_CQ_SIZE 0 r = bits v 19 16 ∧ t.rd FB_RING_HEAD 0 r = 0 ∧
      t.rng r = { ni := (t.hpLmap (t.fld FB_RING_CFG_HP 0 r) (t.fld FB_RING_CFG_SERVER 0 r)).getD 2304 } ∧ (∀ k, k ≠ r → t.rng k = s.rng k) ∧
      s.RegsKept t [FB_RING_CFG.addr 0 r, FB_RING_HEAD.addr 0 r] ∧ t.spad = s.spad := by
  have size : (s.servedTyped FB_RING_CFG 0 r v).fld FB_RING_CFG_SIZE 0 r = bits v 23 20 := State.fld_servedTyped (reset := 0) ringCfg_order 0 r v rfl (by decide)
  have cq : (s.servedTyped FB_RING_CFG 0 r v).fld FB_RING_CFG_CQ_SIZE 0 r = bits v 19 16 := State.fld_servedTyped (reset := 0) ringCfg_order 0 r v rfl (by decide)
  have enable : (s.servedTyped FB_RING_CFG 0 r v).fld FB_RING_CFG_ENABLE 0 r = 1 :=
    (State.fld_servedTyped (reset := 0) ringCfg_order 0 r v rfl (by decide)).trans on
  obtain ⟨⟨net, bn, regs, e⟩, kept⟩ := s.servedTyped_spec FB_RING_CFG 0 r v
  unfold State.ringEnabled
  generalize s.servedTyped FB_RING_CFG 0 r v = y at e kept size cq enable ⊢
  have head : FB_RING_CFG.addr 0 r ≠ FB_RING_HEAD.addr 0 r := RegDef.addr_ne rfl (by simp only [FB_RING_CFG, FB_RING_HEAD]; omega)
  have after (f : Fld) (reg : f.reg = FB_RING_CFG) (x : Ring) :
      (((y.setFld FB_RING_CFG_CFG_ERR 0 0 r).wr FB_RING_HEAD 0 r 0).setRing r x).fld f 0 r = (y.setFld FB_RING_CFG_CFG_ERR 0 0 r).fld f 0 r :=
    congrArg (bits · f.hi f.lo) (State.rd_wr_ne _ _ _ _ _ _ _ _ (by rw [reg]; exact head))
  have apart (f : Fld) (reg : f.reg = FB_RING_CFG) (far : 15 < f.lo ∨ f.hi < 15) (x : Ring) :
      (((y.setFld FB_RING_CFG_CFG_ERR 0 0 r).wr FB_RING_HEAD 0 r 0).setRing r x).fld f 0 r = y.fld f 0 r :=
    (after f reg x).trans (State.fld_setFld_apart _ FB_RING_CFG_CFG_ERR f 0 0 r reg (Nat.le_refl 15) (by decide) far)
  have regsY (x : Ring) : y.RegsKept (((y.setFld FB_RING_CFG_CFG_ERR 0 0 r).wr FB_RING_HEAD 0 r 0).setRing r x) [FB_RING_CFG.addr 0 r, FB_RING_HEAD.addr 0 r] :=
    .trans (t := y.setFld FB_RING_CFG_CFG_ERR 0 0 r) (State.regsKept_setFld FB_RING_CFG_CFG_ERR _ _ _ (by simp [FB_RING_CFG_CFG_ERR]))
      fun off d out => State.regs_wr_ne _ _ _ _ _ off d fun at_ => out (by simp [at_])
  dsimp only
  rw [apart FB_RING_CFG_HP rfl (.inl (by decide)), apart FB_RING_CFG_SERVER rfl (.inr (by decide)), apart FB_RING_CFG_ENABLE rfl (.inl (by decide)),
    apart FB_RING_CFG_SIZE rfl (.inl (by decide)), apart FB_RING_CFG_CQ_SIZE rfl (.inl (by decide)), after FB_RING_CFG_CFG_ERR rfl]
  refine ⟨State.fld_setFld_same _ _ _ _ _ (Nat.le_refl 15) (by decide), enable, size, cq, ?_, ?_, fun k other => ?_, ?_, by rw [e]; rfl⟩
  · exact State.rd_wr_same _ _ _ _ _
  · rw [State.hpLmap_congr (regsY _)]
    · exact SMap.get_put_same _ _ _ _
    · simp only [List.mem_cons, List.not_mem_nil, or_false, RegDef.addr, HP_LMAP, FB_RING_CFG, FB_RING_HEAD, Blk.base]
      omega
  · refine (SMap.get_put_ne _ _ _ other).trans ?_
    rw [e]
    rfl
  · exact (kept.mono (by simp)).trans (regsY _)

end

/-! ## Tile queues -/

section

variable {s t : State} {n q v : Nat}

/-- What a tile queue's size and place must not be (R212). -/
def State.TqBad (y : State) (n q : Nat) : Prop :=
  y.fld NI_TQn_CFG_SIZE n q < 6 ∨ 12 < y.fld NI_TQn_CFG_SIZE n q ∨ y.fld NI_TQn_CFG_CQ_SIZE n q < 6 ∨ 12 < y.fld NI_TQn_CFG_CQ_SIZE n q ∨
    (y.pairRange n (y.fld NI_TQn_CFG_PAIR n q)).2 < 64 * y.fld NI_TQn_BASE_DQ_OFF n q + 64 * 2 ^ y.fld NI_TQn_CFG_SIZE n q ∨
    (y.pairRange n (y.fld NI_TQn_CFG_PAIR n q)).2 < 64 * y.fld NI_TQn_BASE_CQ_OFF n q + 32 * 2 ^ y.fld NI_TQn_CFG_CQ_SIZE n q ∨
    y.pairForeign n (y.fld NI_TQn_CFG_PAIR n q) (y.fld NI_TQn_CFG_TENANCY n q) = true

theorem tqCfg_order : descend 32 NI_TQn_CFG.fields = true := by decide

/-- A queue that is refused stays disabled, with CFG_ERR. -/
def State.tqRefused (s : State) (n q v : Nat) : State :=
  ((s.servedTyped NI_TQn_CFG n q v).setFld NI_TQn_CFG_CFG_ERR 1 n q).setFld NI_TQn_CFG_ENABLE 0 n q

/-- A queue that is enabled starts with its indices at 0. -/
def State.tqEnabled (s : State) (n q v : Nat) : State :=
  ((((s.servedTyped NI_TQn_CFG n q v).setFld NI_TQn_CFG_CFG_ERR 0 n q).wr NI_TQn_STATE n q 0).wr NI_TQn_PTR n q 0).setRing (4096 + 4 * n + q) { ni := n }

theorem gives_tqCfgWrite (hn : n < 2304) (hq : q < 4) (hv : v < 2 ^ 32) (alive : s.regAlive (NI_TQn_CFG.addr n q) = true) (on : v / 2 ^ 31 % 2 = 1)
    (h : ((s.servedTyped NI_TQn_CFG n q v).TqBad n q ∧ s.tqRefused n q v = t) ∨
      (¬ (s.servedTyped NI_TQn_CFG n q v).TqBad n q ∧ s.fld NI_TQn_CFG_ENABLE n q = 1 ∧
        (s.servedTyped NI_TQn_CFG n q v).setFld NI_TQn_CFG_CFG_ERR 0 n q = t) ∨
      (¬ (s.servedTyped NI_TQn_CFG n q v).TqBad n q ∧ s.fld NI_TQn_CFG_ENABLE n q ≠ 1 ∧ s.tqEnabled n q v = t)) : Gives (.tqCfgWrite n q v) s t := by
  have top : bit v 31 = true := by rw [bit_eq, on]; rfl
  obtain ⟨net, bn, e⟩ := s.serveWrite_frame (NI_TQn_CFG.addr n q) v
  have was : (s.serveWrite (NI_TQn_CFG.addr n q) v).fld NI_TQn_CFG_ENABLE n q = s.fld NI_TQn_CFG_ENABLE n q := by rw [e]; rfl
  refine Gives.of_run (exec_tqCfgWrite n q v s) (by simp only [Instr.wf, okSlot, okW, hn, hq, hv, decide_true, Bool.and_self])
    ((if_pos alive).trans ((if_neg (by rw [top]; decide)).trans ?_))
  dsimp only
  rw [was]
  obtain ⟨bad, h⟩ | ⟨good, on, h⟩ | ⟨good, off, h⟩ := h
  · exact (if_pos bad).trans h
  · exact (if_neg good).trans ((if_pos on).trans h)
  · exact (if_neg good).trans ((if_neg off).trans h)

theorem State.tqRefused_spec : let t := s.tqRefused n q v
    t.fld NI_TQn_CFG_CFG_ERR n q = 1 ∧ t.fld NI_TQn_CFG_ENABLE n q = 0 ∧ t.ring = s.ring ∧ s.RegsKept t [NI_TQn_CFG.addr n q] := by
  obtain ⟨⟨net, bn, regs, e⟩, kept⟩ := s.servedTyped_spec NI_TQn_CFG n q v
  unfold State.tqRefused
  generalize s.servedTyped NI_TQn_CFG n q v = y at e kept ⊢
  refine ⟨?_, State.fld_setFld_same _ _ _ _ _ (Nat.le_refl 31) (by decide), by rw [e]; rfl,
    kept.trans (.trans (State.regsKept_setFld NI_TQn_CFG_CFG_ERR _ _ _ (List.mem_singleton.mpr rfl))
      (State.regsKept_setFld NI_TQn_CFG_ENABLE _ _ _ (List.mem_singleton.mpr rfl)))⟩
  rw [State.fld_setFld_apart _ NI_TQn_CFG_ENABLE NI_TQn_CFG_CFG_ERR 0 n q rfl (Nat.le_refl 31) (by decide) (by decide)]
  exact State.fld_setFld_same _ _ _ _ _ (Nat.le_refl 30) (by decide)

/-- The indices of a queue that was enabled stay. -/
theorem State.tqStays_spec (on : bits v 31 31 = 1) : let t := (s.servedTyped NI_TQn_CFG n q v).setFld NI_TQn_CFG_CFG_ERR 0 n q
    t.fld NI_TQn_CFG_CFG_ERR n q = 0 ∧ t.fld NI_TQn_CFG_ENABLE n q = 1 ∧ t.ring = s.ring ∧ s.RegsKept t [NI_TQn_CFG.addr n q] := by
  have enable : (s.servedTyped NI_TQn_CFG n q v).fld NI_TQn_CFG_ENABLE n q = 1 :=
    (State.fld_servedTyped (reset := 0) tqCfg_order n q v rfl (by decide)).trans on
  obtain ⟨⟨net, bn, regs, e⟩, kept⟩ := s.servedTyped_spec NI_TQn_CFG n q v
  generalize s.servedTyped NI_TQn_CFG n q v = y at e kept enable ⊢
  refine ⟨State.fld_setFld_same _ _ _ _ _ (Nat.le_refl 30) (by decide), ?_, by rw [e]; rfl,
    kept.trans (State.regsKept_setFld NI_TQn_CFG_CFG_ERR _ _ _ (List.mem_singleton.mpr rfl))⟩
  exact (State.fld_setFld_apart _ NI_TQn_CFG_CFG_ERR NI_TQn_CFG_ENABLE 0 n q rfl (Nat.le_refl 30) (by decide) (by decide)).trans enable

theorem State.tqEnabled_spec (on : bits v 31 31 = 1) : let t := s.tqEnabled n q v
    t.fld NI_TQn_CFG_CFG_ERR n q = 0 ∧ t.fld NI_TQn_CFG_ENABLE n q = 1 ∧ t.rd NI_TQn_STATE n q = 0 ∧ t.rd NI_TQn_PTR n q = 0 ∧
      t.rng (4096 + 4 * n + q) = { ni := n } ∧ s.RegsKept t [NI_TQn_CFG.addr n q, NI_TQn_STATE.addr n q, NI_TQn_PTR.addr n q] := by
  obtain ⟨err, enable, -, kept⟩ := s.tqStays_spec (n := n) (q := q) on
  unfold State.tqEnabled
  generalize (s.servedTyped NI_TQn_CFG n q v).setFld NI_TQn_CFG_CFG_ERR 0 n q = y at err enable kept ⊢
  have state : NI_TQn_CFG.addr n q ≠ NI_TQn_STATE.addr n q := RegDef.addr_ne rfl (by simp only [NI_TQn_CFG, NI_TQn_STATE]; omega)
  have ptr : NI_TQn_CFG.addr n q ≠ NI_TQn_PTR.addr n q := RegDef.addr_ne rfl (by simp only [NI_TQn_CFG, NI_TQn_PTR]; omega)
  have both : NI_TQn_STATE.addr n q ≠ NI_TQn_PTR.addr n q := RegDef.addr_ne rfl (by simp only [NI_TQn_STATE, NI_TQn_PTR]; omega)
  have cfg : (((y.wr NI_TQn_STATE n q 0).wr NI_TQn_PTR n q 0).setRing (4096 + 4 * n + q) { ni := n }).rd NI_TQn_CFG n q = y.rd NI_TQn_CFG n q :=
    (State.rd_wr_ne _ _ _ _ _ _ _ _ ptr).trans (State.rd_wr_ne _ _ _ _ _ _ _ _ state)
  refine ⟨(congrArg (bits · 30 30) cfg).trans err, (congrArg (bits · 31 31) cfg).trans enable, ?_, State.rd_wr_same _ _ _ _ _, SMap.get_put_same _ _ _ _, ?_⟩
  · exact (State.rd_wr_ne _ _ _ _ _ _ _ _ both).trans (State.rd_wr_same _ _ _ _ _)
  · refine (kept.mono (by simp)).trans fun off d out => ?_
    simp only [List.mem_cons, List.not_mem_nil, or_false, not_or] at out
    obtain ⟨-, hstate, hptr⟩ := out
    exact (State.regs_wr_ne _ _ _ _ _ off d hptr).trans (State.regs_wr_ne _ _ _ _ _ off d hstate)

/-- Where the sizes and the place are in range, the queue is not refused. -/
theorem State.tqBad_iff (hq : q < 4) : (s.servedTyped NI_TQn_CFG n q v).TqBad n q ↔
    bits v 19 16 < 6 ∨ 12 < bits v 19 16 ∨ bits v 15 12 < 6 ∨ 12 < bits v 15 12 ∨
    (s.pairRange n (bits v NI_TQn_CFG_PAIR.hi NI_TQn_CFG_PAIR.lo)).2 < 64 * s.fld NI_TQn_BASE_DQ_OFF n q + 64 * 2 ^ bits v 19 16 ∨
    (s.pairRange n (bits v NI_TQn_CFG_PAIR.hi NI_TQn_CFG_PAIR.lo)).2 < 64 * s.fld NI_TQn_BASE_CQ_OFF n q + 32 * 2 ^ bits v 15 12 ∨
    s.pairForeign n (bits v NI_TQn_CFG_PAIR.hi NI_TQn_CFG_PAIR.lo) (bits v NI_TQn_CFG_TENANCY.hi NI_TQn_CFG_TENANCY.lo) = true := by
  have size : (s.servedTyped NI_TQn_CFG n q v).fld NI_TQn_CFG_SIZE n q = bits v 19 16 := State.fld_servedTyped (reset := 0) tqCfg_order n q v rfl (by decide)
  have cq : (s.servedTyped NI_TQn_CFG n q v).fld NI_TQn_CFG_CQ_SIZE n q = bits v 15 12 := State.fld_servedTyped (reset := 0) tqCfg_order n q v rfl (by decide)
  have pair : (s.servedTyped NI_TQn_CFG n q v).fld NI_TQn_CFG_PAIR n q = bits v NI_TQn_CFG_PAIR.hi NI_TQn_CFG_PAIR.lo :=
    State.fld_servedTyped (reset := 0) tqCfg_order n q v rfl (by decide)
  have ten : (s.servedTyped NI_TQn_CFG n q v).fld NI_TQn_CFG_TENANCY n q = bits v NI_TQn_CFG_TENANCY.hi NI_TQn_CFG_TENANCY.lo :=
    State.fld_servedTyped (reset := 0) tqCfg_order n q v rfl (by decide)
  obtain ⟨-, kept⟩ := s.servedTyped_spec NI_TQn_CFG n q v
  have other (f : Fld) (k : Nat) (blk : f.reg.blk = .ni) (away : f.reg.off + f.reg.stride * k ≠ NI_TQn_CFG.off + NI_TQn_CFG.stride * q) :
      (s.servedTyped NI_TQn_CFG n q v).fld f n k = s.fld f n k :=
    kept.fld (List.mem_singleton.not.mpr (RegDef.addr_ne blk away))
  have dq := other NI_TQn_BASE_DQ_OFF q rfl (by simp only [NI_TQn_BASE_DQ_OFF, NI_TQn_BASE, NI_TQn_CFG]; omega)
  have co := other NI_TQn_BASE_CQ_OFF q rfl (by simp only [NI_TQn_BASE_CQ_OFF, NI_TQn_BASE, NI_TQn_CFG]; omega)
  have base (f : Fld) (reg : f.reg = NI_PAIR_BASE) (k : Nat) := other f k (by rw [reg]; rfl) (by simp only [reg, NI_PAIR_BASE, NI_TQn_CFG]; omega)
  have bound (k : Nat) := other NI_PAIR_BOUND_SIZE k rfl (by simp only [NI_PAIR_BOUND_SIZE, NI_PAIR_BOUND, NI_TQn_CFG]; omega)
  have range (k : Nat) : (s.servedTyped NI_TQn_CFG n q v).pairRange n k = s.pairRange n k := by
    simp only [State.pairRange, base NI_PAIR_BASE_ENABLE rfl, base NI_PAIR_BASE_BASE rfl, bound]
  have foreign (k ten : Nat) : (s.servedTyped NI_TQn_CFG n q v).pairForeign n k ten = s.pairForeign n k ten := by
    simp only [State.pairForeign, base NI_PAIR_BASE_ENABLE rfl, base NI_PAIR_BASE_SYS rfl, base NI_PAIR_BASE_TENANCY rfl]
  rw [State.TqBad, size, cq, pair, ten, dq, co, range, foreign]

/-! ### The bell of a tile queue -/

theorem gives_tqBell (hn : n < 2304) (hq : q < 4) (hv : v < 2 ^ 32) (alive : s.regAlive (NI_TQn_PTR.addr n q) = true)
    (h : (s.serveWrite (NI_TQn_PTR.addr n q) v).tqBell n q v = t) : Gives (.tqBell n q v) s t :=
  Gives.of_run (exec_tqBell n q v s) (by simp only [Instr.wf, okSlot, okW, hn, hq, hv, decide_true, Bool.and_self]) ((if_pos alive).trans h)

theorem ringKey_parts (hq : q < 4) : (4096 + 4 * n + q - 4096) / 4 = n ∧ (4096 + 4 * n + q) % 4 = q := by omega

/-- What the bell of a tile queue does, by the register as written. -/
theorem State.tqBell_eq (hq : q < 4) : (s.serveWrite (NI_TQn_PTR.addr n q) v).tqBell n q v =
    (let y := s.servedTyped NI_TQn_PTR n q v
    let key := 4096 + 4 * n + q
    if s.fld NI_TQn_CFG_ENABLE n q = 0 then y
    else if 2 ^ s.ringSize key < (bits v 15 0 + 2 ^ 16 - (s.rng key).head % 2 ^ 16) % 2 ^ 16 then
      (y.setRing key { s.rng key with ni := n, halted := true }).ringCause n key 1
    else y.setRing key { s.rng key with ni := n, tail := bits v 15 0, cqHead := bits v 31 16, halted := false }) := by
  obtain ⟨⟨net, bn, regs, e⟩, kept⟩ := s.servedTyped_spec NI_TQn_PTR n q v
  have cfg (f : Fld) (reg : f.reg = NI_TQn_CFG) : (s.servedTyped NI_TQn_PTR n q v).fld f n q = s.fld f n q :=
    kept.fld (List.mem_singleton.not.mpr (RegDef.addr_ne (by rw [reg]; rfl) (by simp only [reg, NI_TQn_CFG, NI_TQn_PTR]; omega)))
  have ring : (s.servedTyped NI_TQn_PTR n q v).rng (4096 + 4 * n + q) = s.rng (4096 + 4 * n + q) := by rw [e]; rfl
  have size : (s.servedTyped NI_TQn_PTR n q v).ringSize (4096 + 4 * n + q) = s.ringSize (4096 + 4 * n + q) := by
    obtain ⟨div, mod⟩ := ringKey_parts (n := n) hq
    simp only [State.ringSize, if_neg (show ¬ 4096 + 4 * n + q < 4096 by omega), div, mod, cfg NI_TQn_CFG_SIZE rfl]
  dsimp only
  rw [← cfg NI_TQn_CFG_ENABLE rfl, ← size, ← ring]
  rfl

/-- An overrun of a tile queue sets its cause (R213). -/
theorem State.tqOverrun_spec (hq : q < 4) (x : Ring) (unarmed : (s.eu .ni n).parityArmed = false) :
    let t := (s.setRing (4096 + 4 * n + q) x).ringCause n (4096 + 4 * n + q) 1
    t.rng (4096 + 4 * n + q) = x ∧ t.fld NI_TQn_CFG_OVERRUN n q = 1 := by
  obtain ⟨-, mod⟩ := ringKey_parts (n := n) hq
  dsimp only
  rw [State.ringCause, mod, if_neg (show ¬ 4096 + 4 * n + q < 4096 by omega)]
  have told := ((s.setRing (4096 + 4 * n + q) x).setFld NI_TQn_CFG_OVERRUN 1 n q).told_report (k := .ni) (i := n) (src := 12)
    (1 + (if 4096 + 4 * n + q < 4096 then 4096 + 4 * n + q else q) <<< 5) (by decide) unarmed
  have out : ¬ InErrSet .ni n (NI_TQn_CFG.addr n q) := by
    refine fun h => h.elim (fun inside => ?_) fun h => nomatch h.1
    simp only [RegDef.addr, NI_TQn_CFG, UnitKind.blk, UnitKind.setBase] at inside
    omega
  refine ⟨?_, (told.fld out).trans (State.fld_setFld_same _ _ _ _ _ (Nat.le_refl 1) (by decide))⟩
  obtain ⟨_, _, _, _, _, _, _, _, e⟩ := told.frame
  rw [e]
  exact SMap.get_put_same _ _ _ _

end

/-! ## Completions -/

/-- The tag that a new transaction takes depends on the open ones and on the requests that were cancelled. -/
theorem State.freeTxn_congr {s t : State} {n : Nat} (otx : t.otx = s.otx) (xfers : t.xfers = s.xfers) (cancelled : t.cancelled = s.cancelled) : t.freeTxn n = s.freeTxn n := by
  have txns : t.txnsOf n = s.txnsOf n := by rw [State.txnsOf, State.txnsOf, otx, xfers]
  unfold State.freeTxn
  generalize 4096 = k
  rw [txns, cancelled]

section

variable {s t : State} {n o q : Nat} {host : List Nat} {c : Cpl}

theorem gives_completionWrite (hn : n < 2304) (ho : o < 4100) (bytes : okBytes host = true) (h : s.writeCpl n o host = t) :
    Gives (.completionWrite n o host) s t :=
  Gives.of_run (exec_completionWrite n o host s) (by simp only [Instr.wf, okSlot, hn, ho, bytes, decide_true, Bool.and_self]) h

/-- What the write of a completion without provenance waits for. -/
structure State.CplReady (s : State) (n o : Nat) (c : Cpl) : Prop where
  found : s.cplq.find? (fun c => c.ni == n && c.origin == o) = some c
  prov : c.prov = none
  asked : c.asked = none
  room : s.cqRoom (ringKey n o) = true
  txn : s.txnRoom n = true
  up : s.niUp n = true
  thawed : s.frozenAt n = false

/-- A queued completion that is written leaves the list, and the ring's index moves on. -/
def State.cplTaken (s : State) (n o : Nat) (c : Cpl) : State :=
  { s with cplq := delFirst (fun x => decide (x = c)) s.cplq }.setRing (ringKey n o)
    { s.rng (ringKey n o) with cqTail := ((s.rng (ringKey n o)).cqTail + 1) % idxMod (ringKey n o) }

/-- The words of a completion as they are written, with the PHASE of its index (R236). -/
def State.cplWords (s : State) (n o : Nat) (c : Cpl) : List Nat :=
  [c.words.getD 0 0, c.words.getD 1 0, c.words.getD 2 0,
    c.words.getD 3 0 + phaseBit (s.rng (ringKey n o)).cqTail (s.cqSize (ringKey n o)) <<< 63].flatMap (toBytes 8)

theorem State.writeCpl_of_ready (ready : s.CplReady n o c) : s.writeCpl n o host =
    if c.silent = true ∧ c.words.getD 0 0 % 256 = 0 then { s with cplq := delFirst (fun x => decide (x = c)) s.cplq }
    else if o < 4096 then
      ((s.cplTaken n o c).addTx ⟨n, (s.cplTaken n o c).freeTxn n, .cplWr, 0, 0, 2 * ringKey n o + b2n c.irq, s.chipId, 0, false, false⟩).enqueue n respFlow
        (mkDat opWRITE (niLoc n) (hpLoc (s.fld FB_RING_CFG_HP 0 o)) (s.ringTen o) 0 ((s.cplTaken n o c).freeTxn n) [0]
          (s.ringCq o + 32 * ((s.rng (ringKey n o)).cqTail % 2 ^ s.cqSize (ringKey n o))) 0 0 (s.cplWords n o c))
    else
      (((s.cplTaken n o c).setRing (ringKey n o) { s.rng (ringKey n o) with
        cqTail := ((s.rng (ringKey n o)).cqTail + 1) % idxMod (ringKey n o)
        irqs := (s.rng (ringKey n o)).irqs + b2n c.irq }).spadWrite n
          ((s.pairRange n (s.fld NI_TQn_CFG_PAIR n (o - 4096))).1 + 64 * s.fld NI_TQn_BASE_CQ_OFF n (o - 4096) +
            32 * ((s.rng (ringKey n o)).cqTail % 2 ^ s.cqSize (ringKey n o))) (s.cplWords n o c)).setFld NI_TQn_STATE_CQ_TAIL
              (((s.rng (ringKey n o)).cqTail + 1) % idxMod (ringKey n o)) n (o - 4096) := by
  obtain ⟨found, prov, asked, room, txn, up, thawed⟩ := ready
  have goes : ¬ (s.cqRoom (ringKey n o) = false ∨ s.txnRoom n = false ∨ s.niUp n = false ∨ s.frozenAt n = true ∨ c.asked.isSome = true) := by
    simp [asked, room, txn, up, thawed]
  have pr : s.prove c host = (c.words.getD 0 0, false, s) := by rw [State.prove, prov]
  rw [State.writeCpl]
  dsimp only
  rw [found]
  dsimp only
  rw [if_neg goes, pr]
  rfl

theorem State.writeCpl_of_none (waits : s.cplq.find? (fun c => c.ni == n && c.origin == o) = none ∨ s.cqRoom (ringKey n o) = false) :
    s.writeCpl n o host = s := by
  rw [State.writeCpl]
  dsimp only
  obtain none_ | full := waits
  · rw [none_]
  · cases s.cplq.find? (fun c => c.ni == n && c.origin == o) with
    | none => rfl
    | some c => exact if_pos (.inl full)

end

/-- Settles O22: each bell, record, configuration and completion is decided by the row of its command. -/
theorem bellsRingsAndQueues : Obligations.BellsRingsAndQueues := by
  unfold Obligations.BellsRingsAndQueues
  refine ⟨?_, ?_⟩
  · intro s hp ten v n o slot p x hhp hten hv hn ho ok r own tk
    have low : o < 4100 := by omega
    have fetched {t : State} (up : s.niUp n = true) (thawed : s.frozenAt n = false) (at_ : x.arg = o) (found : s.findTx n p.txn = some x)
        (use : x.use = .descFetch) (kind : p.kind = opREAD_DATA ∨ p.kind = opREAD_ERR)
        (h : (if p.kind = opREAD_ERR ∨ p.arg 0 ≠ 0 then
          ((tk.delTx n p.txn).setRing o { (tk.delTx n p.txn).rng o with fetching := 0, halted := true }).ringCause n o 13
          else (tk.delTx n p.txn).descsIn n o p.data) = t) : Gives (.descriptorFetch n o p) s t := by
      refine Gives.of_run (exec_descriptorFetch n o p s) (by simp only [Instr.wf, okSlot, hn, ok, low, decide_true, Bool.and_self])
        ((if_neg (Nat.not_le.mpr ho)).trans ?_)
      rw [found]
      refine (if_neg ?_).trans ((State.atNi_of_up _ thawed up).trans h)
      rintro (other | other | ⟨data, err⟩)
      · exact other use
      · exact other at_
      · exact kind.elim data err
    refine ⟨fun c off at_ alive => ?_, fun up thawed => ⟨fun kind => ?_, fun busy b => if_pos busy, fun found use kind => ?_,
      fun tail cq _ _ quiet live => ?_, fun found use at_ => ⟨fun kind good => ?_, fun bad => ?_⟩, fun q hq => ?_, fun ni full idle more => ?_⟩⟩
    · have bell {t : State} := gives_ringBell (t := t) hhp hten hv at_ alive
      obtain ⟨net, bn, e⟩ := s.serveWrite_frame off v
      have safe_ : (s.serveWrite off v).fld (xx_ERR_STATUS_SAFE .hp) hp = s.fld (xx_ERR_STATUS_SAFE .hp) hp := by rw [e]; rfl
      have enable : (s.serveWrite off v).fld FB_RING_CFG_ENABLE 0 r = s.fld FB_RING_CFG_ENABLE 0 r := by rw [e]; rfl
      have tenancy : (s.serveWrite off v).ringTen r = own := by rw [e]; rfl
      have mode : (s.serveWrite off v).replayMode 2 own = s.replayMode 2 own := by rw [e]; rfl
      have map : (s.serveWrite off v).hpLmap hp ((s.serveWrite off v).fld FB_RING_CFG_SERVER 0 r) = s.hpLmap hp (s.fld FB_RING_CFG_SERVER 0 r) := by rw [e]; rfl
      intro u safe
      refine ⟨fun on => bell (if_pos (safe_.trans on)), fun off idle => bell (State.ringBell_idle (safe_.trans off) ?_), fun off on live =>
        ⟨fun is other => bell ?_, fun same server => bell (State.ringBell_heard (safe_.trans off) (enable.trans on) ?_ ?_ (map.trans server))⟩⟩
      · rw [enable, tenancy, mode]
        exact idle
      · have named : bellPage c = some ten := by rw [is]; rfl
        rw [named]
        refine State.ringBell_foreign (safe_.trans off) (enable.trans on) ?_ ?_
        · rw [tenancy, mode]
          exact live
        · rw [tenancy]
          exact other
      · rw [tenancy, mode]
        exact live
      · rw [tenancy]
        obtain ⟨rfl, -⟩ | ⟨rfl, -⟩ := at_
        · exact .inr (congrArg some (same rfl))
        · exact .inl rfl
    · exact Gives.of_run (exec_bell n p s) (by simp only [Instr.wf, okSlot, hn, ok, decide_true, Bool.and_self])
        ((if_neg (not_not.mpr kind)).trans (State.atNi_of_up _ thawed up))
    · have given {t : State} (h : (let y := s.rng x.arg
          let u := (tk.delTx n p.txn).setRing x.arg { y with reading := false, again := false }
          let w := if p.kind = opREAD_ERR ∨ p.arg 0 ≠ 0 then
              (u.setRing x.arg { y with reading := false, again := false, bell := false }).ringCause n x.arg 13
            else u.recordIn n x.arg (ofBytes (p.data.take 4)) (ofBytes (slice p.data 8 4))
          if y.again = true then w.readRecord n x.arg true else w) = t) : Gives (.doorbellRecordRead n p) s t := by
        refine Gives.of_run (exec_doorbellRecordRead n p s) (by simp only [Instr.wf, okSlot, hn, ok, decide_true, Bool.and_self]) ?_
        rw [found]
        refine (if_neg ?_).trans ((State.atNi_of_up _ thawed up).trans (.trans ?_ h))
        · rintro (other | ⟨data, err⟩)
          · exact other use
          · exact kind.elim data err
        · have ring : ((tk.delTx n p.txn).setRing x.arg { s.rng x.arg with reading := false, again := false }).rng x.arg =
              { s.rng x.arg with reading := false, again := false } := SMap.get_put_same _ _ _ _
          have same : tk.rng x.arg = s.rng x.arg := rfl
          dsimp only
          rw [same, ring]
      intro y u w
      exact ⟨fun once => given (if_neg (ne_true_of_eq_false once)), fun again => given (if_pos again)⟩
    · rw [State.recordIn_eq quiet live]
      exact ⟨fun past => if_pos past, fun ok waits => (if_neg ok).trans (if_pos waits), fun ok goes => (if_neg ok).trans (if_neg goes)⟩
    · refine fetched up thawed at_ found use (.inl kind) ((if_neg ?_).trans rfl)
      rintro (err | bad)
      · exact absurd (kind.symm.trans err) (by decide)
      · exact bad good
    · obtain ⟨m, e⟩ := tk.delTx_frame n p.txn
      have ring : (tk.delTx n p.txn).rng o = s.rng o := by rw [e]; rfl
      obtain err | ⟨kind, st⟩ := bad
      · exact fetched up thawed at_ found use (.inr err) ((if_pos (.inl err)).trans (by rw [ring]))
      · exact fetched up thawed at_ found use (.inl kind) ((if_pos (.inr st)).trans (by rw [ring]))
    · have key : 4096 + q - 4096 = q := Nat.add_sub_cancel_left _ _
      refine Gives.of_run (exec_descriptorFetch n (4096 + q) p s) ?_ ((if_pos (Nat.le_add_right _ _)).trans ((if_neg (by simp [up, thawed])).trans (by rw [key])))
      have low : 4096 + q < 4100 := by omega
      simp only [Instr.wf, okSlot, hn, ok, low, decide_true, Bool.and_self]
    · exact Gives.of_run (exec_cqRecheck n o s) (by simp only [Instr.wf, okSlot, hn, ho, decide_true, Bool.and_self])
        (if_pos ⟨ho, up, thawed, ni, full, idle, more⟩)
  · intro s r n q v o host hr hn hq hv ho bytes unarmed
    have o' : o < 4100 := by omega
    have host_ : ringKey n o = o := if_pos ho
    have tile : ringKey n (4096 + q) = 4096 + 4 * n + q := by
      rw [ringKey, if_neg (by omega)]
      omega
    refine ⟨fun alive on => ⟨fun bad => ?_, fun good => ?_⟩, fun alive on => ⟨fun bad => ?_, ?_⟩, fun alive => ⟨fun off => ?_, fun on past => ?_, fun on fits => ?_⟩,
      fun waits => ?_, ?_, ?_, ?_⟩
    · refine (gives_ringCfgWrite hr hv alive on (if_pos bad)).does ?_
      have spec := s.ringRefused_spec (r := r) (v := v)
      generalize s.ringRefused r v = x at spec
      exact spec
    · refine (gives_ringCfgWrite hr hv alive on (if_neg good)).does ?_
      have spec := s.ringEnabled_spec (r := r) (v := v) hr on
      generalize s.ringEnabled r v = x at spec
      exact spec
    · have tqBad : (s.servedTyped NI_TQn_CFG n q v).TqBad n q := by
        rw [State.tqBad_iff hq]
        omega
      refine (gives_tqCfgWrite hn hq hv alive on (.inl ⟨tqBad, rfl⟩)).does ?_
      have spec := s.tqRefused_spec (n := n) (q := q) (v := v)
      generalize s.tqRefused n q v = x at spec
      exact spec
    · intro pair hpair low high clow chigh dq cq own
      have good : ¬ (s.servedTyped NI_TQn_CFG n q v).TqBad n q := by
        rw [State.tqBad_iff hq, ← hpair, own]
        simp only [Bool.false_eq_true, or_false]
        omega
      have on' : bits v 31 31 = 1 := (bits_eq_div (k := 1) v rfl).trans on
      by_cases was : s.fld NI_TQn_CFG_ENABLE n q = 1
      · refine (gives_tqCfgWrite hn hq hv alive on (.inr (.inl ⟨good, was, rfl⟩))).does ?_
        obtain ⟨err, enable, ring, kept⟩ := s.tqStays_spec (n := n) (q := q) on'
        generalize (s.servedTyped NI_TQn_CFG n q v).setFld NI_TQn_CFG_CFG_ERR 0 n q = x at err enable ring kept
        exact ⟨err, enable, fun _ => ⟨ring, kept⟩, fun off => absurd (was.symm.trans off) (by decide)⟩
      · refine (gives_tqCfgWrite hn hq hv alive on (.inr (.inr ⟨good, was, rfl⟩))).does ?_
        obtain ⟨err, enable, rest⟩ := s.tqEnabled_spec (n := n) (q := q) on'
        generalize s.tqEnabled n q v = x at err enable rest
        exact ⟨err, enable, fun on => absurd on was, fun _ => rest⟩
    · refine (gives_tqBell hn hq hv alive ((State.tqBell_eq hq).trans (if_pos off))).does ?_
      obtain ⟨⟨net, bn, regs, e⟩, kept⟩ := s.servedTyped_spec NI_TQn_PTR n q v
      have ring : (s.servedTyped NI_TQn_PTR n q v).ring = s.ring := by rw [e]
      generalize s.servedTyped NI_TQn_PTR n q v = x at ring kept
      exact ⟨ring, kept⟩
    · refine (gives_tqBell hn hq hv alive ((State.tqBell_eq hq).trans ((if_neg (by omega)).trans (if_pos past)))).does ?_
      obtain ⟨⟨net, bn, regs, e⟩, -⟩ := s.servedTyped_spec NI_TQn_PTR n q v
      have calm : ((s.servedTyped NI_TQn_PTR n q v).eu .ni n).parityArmed = false := by rw [e]; exact unarmed .ni n
      generalize s.servedTyped NI_TQn_PTR n q v = x at calm
      obtain ⟨ring, set⟩ := x.tqOverrun_spec hq { s.rng (4096 + 4 * n + q) with ni := n, halted := true } calm
      generalize (x.setRing (4096 + 4 * n + q) { s.rng (4096 + 4 * n + q) with ni := n, halted := true }).ringCause n (4096 + 4 * n + q) 1 = y at ring set
      exact ⟨ring, set⟩
    · refine (gives_tqBell hn hq hv alive ((State.tqBell_eq hq).trans ((if_neg (by omega)).trans (if_neg fits)))).does ?_
      obtain ⟨⟨net, bn, regs, e⟩, kept⟩ := s.servedTyped_spec NI_TQn_PTR n q v
      have rest : (s.servedTyped NI_TQn_PTR n q v).spad = s.spad ∧ (s.servedTyped NI_TQn_PTR n q v).descs = s.descs := by
        rw [e]
        exact ⟨rfl, rfl⟩
      generalize s.servedTyped NI_TQn_PTR n q v = x at kept rest
      exact ⟨SMap.get_put_same _ _ _ _, kept, rest⟩
    · exact gives_completionWrite hn o' bytes (State.writeCpl_of_none (by rw [host_]; exact waits))
    · intro c found prov asked room txn up thawed silent good
      exact gives_completionWrite hn o' bytes ((State.writeCpl_of_ready ⟨found, prov, asked, by rw [host_]; exact room, txn, up, thawed⟩).trans (if_pos ⟨silent, good⟩))
    · intro c found prov asked loud room txn up thawed y sz tail w3 base
      refine gives_completionWrite hn (by omega) bytes
        ((State.writeCpl_of_ready ⟨found, prov, asked, by rw [tile]; exact room, txn, up, thawed⟩).trans ((if_neg (by simp [loud])).trans ((if_neg (by omega)).trans ?_)))
      have mod : idxMod (4096 + 4 * n + q) = 2 ^ 16 := if_neg (by omega)
      have size : s.cqSize (4096 + 4 * n + q) = sz := by
        obtain ⟨div, rem⟩ := ringKey_parts (n := n) hq
        rw [State.cqSize, if_neg (by omega), div, rem]
      have words : s.cplWords n (4096 + q) c = [c.words.getD 0 0, c.words.getD 1 0, c.words.getD 2 0, w3].flatMap (toBytes 8) := by
        rw [State.cplWords, tile, size, Nat.shiftLeft_eq, phaseBit]
      rw [words, State.cplTaken, tile, mod, size, Nat.add_sub_cancel_left, State.setRing_setRing]
    · intro c found prov asked loud room txn up thawed y w3
      refine gives_completionWrite hn o' bytes
        ((State.writeCpl_of_ready ⟨found, prov, asked, by rw [host_]; exact room, txn, up, thawed⟩).trans ((if_neg (by simp [loud])).trans ((if_pos ho).trans ?_)))
      have mod : idxMod o = 2 ^ 32 := if_pos ho
      have size : s.cqSize o = s.fld FB_RING_CFG_CQ_SIZE 0 o := if_pos ho
      have words : s.cplWords n o c = [c.words.getD 0 0, c.words.getD 1 0, c.words.getD 2 0, w3].flatMap (toBytes 8) := by
        rw [State.cplWords, host_, size, Nat.shiftLeft_eq, phaseBit]
      have free : (s.cplTaken n o c).freeTxn n = s.freeTxn n := State.freeTxn_congr rfl rfl rfl
      rw [words, free, State.cplTaken, host_, mod, size]

end Sys2Proof.Machine

/-! # Descriptors start in turn and complete (R217, R229 to R234, R368) -/

namespace Sys2Proof.Machine

/-! ## Completion -/

section

variable {s t u : State} {n id st : Nat} {d : Desc}

/-- The descriptors, the completions and the hashes that wait, scratchpad, the windows and the schedules stand as they are. -/
structure State.SameWork (s t : State) : Prop where
  descs : t.descs = s.descs
  cplq : t.cplq = s.cplq
  spad : t.spad = s.spad
  win : t.win = s.win
  rtr : t.rtr = s.rtr
  hash : t.hash = s.hash

theorem State.SameWork.trans (first : s.SameWork t) (then_ : t.SameWork u) : s.SameWork u :=
  ⟨then_.descs.trans first.descs, then_.cplq.trans first.cplq, then_.spad.trans first.spad, then_.win.trans first.win,
    then_.rtr.trans first.rtr, then_.hash.trans first.hash⟩

theorem State.Logged.sameWork {l : List Nat} (logged : s.Logged t l) : s.SameWork t := by
  obtain ⟨_, _, _, _, _, rfl⟩ := logged.frame
  exact ⟨rfl, rfl, rfl, rfl, rfl, rfl⟩

theorem State.sameWork_foldl {α : Type} {f : State → α → State} (l : List α) (step : ∀ (x : State) a, x.SameWork (f x a)) : s.SameWork (l.foldl f s) :=
  foldl_keeps (P := fun u => s.SameWork u) ⟨rfl, rfl, rfl, rfl, rfl, rfl⟩ fun u a _ hu => hu.trans (step u a)

theorem State.sameWork_txUnwait (o : OTx) : s.SameWork (s.txUnwait o) := by
  rw [State.txUnwait]
  split
  · obtain ⟨_, e⟩ := s.waitFree_frame o.src 7 o.txn (s.txTag o)
    rw [e]
    exact ⟨rfl, rfl, rfl, rfl, rfl, rfl⟩
  · exact ⟨rfl, rfl, rfl, rfl, rfl, rfl⟩

theorem State.sameWork_unqueue (f : Nat) (mine : Pkt → Bool) : s.SameWork (s.unqueue n f mine) := by
  rw [State.unqueue]
  dsimp only
  split
  · split
    · split
      · exact ⟨rfl, rfl, rfl, rfl, rfl, rfl⟩
      · obtain ⟨flow, e, -⟩ := (s.setFl n f { s.fl n f with queue := (s.fl n f).queue.filter fun p => !mine p }).headCheck_spec (n := n) (f := f) _
        rw [e]
        exact ⟨rfl, rfl, rfl, rfl, rfl, rfl⟩
    · exact ⟨rfl, rfl, rfl, rfl, rfl, rfl⟩
  · exact ⟨rfl, rfl, rfl, rfl, rfl, rfl⟩

theorem State.sameWork_fetchRing (o : Nat) : s.SameWork (s.fetchRing n o) := by
  rw [State.fetchRing]
  dsimp only
  split
  · exact ⟨rfl, rfl, rfl, rfl, rfl, rfl⟩
  · rw [State.niSend_eq]
    exact ⟨rfl, rfl, rfl, rfl, rfl, rfl⟩

/-- What the end of a descriptor counts and logs (R234). -/
def State.tallied (s : State) (d : Desc) (st : Nat) : State :=
  (if st = 0 then (s.addPair TN_DESC_LO TN_DESC_HI 1 d.ten).addPair TN_BYTES_LO TN_BYTES_HI d.moved d.ten
    else (s.addPair TN_DESC_LO TN_DESC_HI 1 d.ten).addFld TN_FAIL_CNT 1 d.ten).log .ni d.ni 0x02 15 0 ((d.index % 65536) <<< 16 + st)

theorem State.sameWork_tallied : s.SameWork (s.tallied d st) := by
  have counted : s.SameWork (if st = 0 then (s.addPair TN_DESC_LO TN_DESC_HI 1 d.ten).addPair TN_BYTES_LO TN_BYTES_HI d.moved d.ten
      else (s.addPair TN_DESC_LO TN_DESC_HI 1 d.ten).addFld TN_FAIL_CNT 1 d.ten) := by
    split
    · exact ⟨rfl, rfl, rfl, rfl, rfl, rfl⟩
    · exact ⟨rfl, rfl, rfl, rfl, rfl, rfl⟩
  exact counted.trans (State.logged_log 0x02 15 0 _ (List.mem_singleton.mpr rfl)).sameWork

/-- Nothing of a descriptor that ends waits any more. -/
def State.hushed (s : State) (id : Nat) : State :=
  let x := (s.otx.filter (fun o => o.desc == id)).foldl (fun s o => s.txUnwait o) s
  (x.redm.filter (fun m => m.desc == id)).foldl State.redQuiet x

theorem State.sameWork_hushed : s.SameWork (s.hushed id) :=
  .trans (State.sameWork_foldl _ fun _ o => State.sameWork_txUnwait o) (State.sameWork_foldl _ fun _ m => State.sameWork_unqueue m.flow _)

/-- A descriptor that ends leaves the list, and takes nothing else from it. -/
theorem State.retire_spec :
    (s.retire d st).descs = s.descs.filter (fun e => e.id != d.id) ∧ (s.retire d st).cplq = s.cplq ∧ (s.retire d st).spad = s.spad ∧
      (s.retire d st).win = s.win ∧ (s.retire d st).rtr = s.rtr ∧ (s.retire d st).hash = s.hash.filter (fun h => h.desc != d.id) := by
  have quiet : s.SameWork ((s.tallied d st).hushed d.id) := .trans State.sameWork_tallied State.sameWork_hushed
  have retire : s.retire d st = State.refetch { (s.tallied d st).hushed d.id with
      descs := ((s.tallied d st).hushed d.id).descs.filter (fun e => e.id != d.id)
      xfers := ((s.tallied d st).hushed d.id).xfers.filter (fun x => x.desc != d.id)
      redm := ((s.tallied d st).hushed d.id).redm.filter (fun m => m.desc != d.id)
      hash := ((s.tallied d st).hushed d.id).hash.filter (fun h => h.desc != d.id)
      otx := ((s.tallied d st).hushed d.id).otx.filter (fun o => o.desc != d.id) } d.ni := rfl
  rw [retire]
  generalize (s.tallied d st).hushed d.id = x at quiet ⊢
  obtain ⟨descs, cplq, spad, win, rtr, hash⟩ : State.SameWork _ (State.refetch _ d.ni) := State.sameWork_foldl _ fun _ e => State.sameWork_fetchRing e.1
  exact ⟨descs.trans (by rw [← quiet.descs]), cplq.trans quiet.cplq, spad.trans quiet.spad, win.trans quiet.win, rtr.trans quiet.rtr,
    hash.trans (by rw [← quiet.hash])⟩

/-- The completion of a descriptor (R230). -/
def State.cplOf (s : State) (d : Desc) (st count low detail : Nat) : Cpl :=
  ⟨d.ni, d.origin, [d.tag <<< 32 + cplFlags (decide (s.fbDigest ≠ d.startDigest)) (decide (d.startMode % 2 = 1)) (decide (s.time.h ≠ d.startH)) false
      true d.late <<< 16 + d.opcode <<< 8 + st, d.startTs, s.stampOf (regionOf d.ni),
      (low % 4096) <<< 44 + (count % 4096) <<< 32 + (detail % 65536) <<< 16 + d.index % 65536], d.fIRQ,
    if d.fPROV then some d else none, s.fbDigest, decide (st = 0) && !d.fCPL, none⟩

/-- A completion is written for a status other than OK, and where CPL or PROV asks for it. -/
def Desc.asks (d : Desc) (st : Nat) : Prop := st ≠ 0 ∨ d.fCPL = true ∨ d.fPROV = true

theorem State.complete_asked {count low detail : Nat} (found : s.desc? id = some d) (asks : d.asks st) :
    (s.complete id st count low detail).descs = s.descs.filter (fun e => e.id != d.id) ∧
    (s.complete id st count low detail).cplq = s.cplq ++ [s.cplOf d st count low detail] ∧ (s.complete id st count low detail).spad = s.spad ∧
    (s.complete id st count low detail).win = s.win ∧ (s.complete id st count low detail).rtr = s.rtr ∧
    (s.complete id st count low detail).hash = s.hash.filter (fun h => h.desc != d.id) := by
  have queued : State.SameWork { s with cplq := s.cplq ++ [s.cplOf d st count low detail] }
      (s.queueCpl d st count low detail true d.startTs (decide (st = 0) && !d.fCPL)) := by
    rw [State.queueCpl]
    simp only [Bool.and_true]
    exact (State.logged_stamped (l := []) _).sameWork
  have complete : s.complete id st count low detail = (s.queueCpl d st count low detail true d.startTs (decide (st = 0) && !d.fCPL)).retire d st := by
    rw [State.complete, found]
    exact congrArg (State.retire · d st) (if_pos asks)
  obtain ⟨descs, cplq, spad, win, rtr, hash⟩ := (s.queueCpl d st count low detail true d.startTs (decide (st = 0) && !d.fCPL)).retire_spec (d := d) (st := st)
  rw [complete]
  exact ⟨descs.trans (by rw [queued.descs]), cplq.trans queued.cplq, spad.trans queued.spad, win.trans queued.win, rtr.trans queued.rtr,
    hash.trans (by rw [queued.hash])⟩

theorem State.complete_unasked {count low detail : Nat} (found : s.desc? id = some d) (unasked : ¬ d.asks st) :
    s.complete id st count low detail = s.retire d st := by
  rw [State.complete, found]
  exact congrArg (State.retire · d st) (if_neg unasked)

theorem State.id_of_desc? (found : s.desc? id = some d) : d.id = id := by simpa using List.find?_some found

theorem State.finish_spec (found : s.desc? id = some d) :
    (s.finish id st).descs = s.descs.filter (fun e => e.id != id) ∧ (s.finish id st).spad = s.spad ∧ (s.finish id st).win = s.win ∧
      (s.finish id st).rtr = s.rtr ∧ (s.finish id st).hash = s.hash.filter (fun h => h.desc != id) := by
  obtain rfl := State.id_of_desc? found
  by_cases asks : d.asks st
  · obtain ⟨descs, -, rest⟩ := State.complete_asked (count := 0) (low := 0) (detail := 0) found asks
    exact ⟨descs, rest⟩
  · rw [State.finish, State.complete_unasked found asks]
    obtain ⟨descs, -, rest⟩ := s.retire_spec (d := d) (st := st)
    exact ⟨descs, rest⟩

/-- A descriptor that ended is found no more. -/
theorem State.desc?_of_ended (ended : t.descs = s.descs.filter fun e => e.id != id) : t.desc? id = none := by
  rw [State.desc?, ended, List.find?_eq_none]
  intro e mem
  simpa using (List.mem_filter.mp mem).2

theorem State.mem_of_ended (ended : t.descs = s.descs.filter fun e => e.id != id) : ∀ e ∈ s.descs, e.id ≠ id → e ∈ t.descs :=
  fun _ mem other => ended ▸ List.mem_filter.mpr ⟨mem, bne_iff_ne.mpr other⟩

end

/-! ## NOP -/

section

variable {s t : State} {n id : Nat} {d : Desc}

theorem gives_nop (started : s.Started n id 0x00 d) (hn : n < 2304) : Gives (.nop n id) s (s.finish id stOK) :=
  gives_onDesc (fun _ s => s.finish id stOK) (exec_nop n id s) (by simp only [Instr.wf, okSlot, hn, decide_true]) started rfl

theorem State.finish_silent (found : s.desc? id = some d) (cpl : d.fCPL = false) (prov : d.fPROV = false) : (s.finish id stOK).cplq = s.cplq := by
  have unasked : ¬ d.asks stOK := by simp [Desc.asks, cpl, prov, stOK]
  rw [State.finish, State.complete_unasked found unasked]
  exact s.retire_spec.2.1

theorem State.finish_prov (found : s.desc? id = some d) (cpl : d.fCPL = false) (prov : d.fPROV = true) :
    ∃ e, (s.finish id stOK).cplq = s.cplq ++ [e] ∧ e.silent = true ∧ e.prov = some d :=
  ⟨_, (State.complete_asked found (.inr (.inr prov))).2.1, by simp [State.cplOf, cpl, stOK], if_pos prov⟩

theorem State.finish_cpl (found : s.desc? id = some d) (cpl : d.fCPL = true) :
    ∃ e, (s.finish id stOK).cplq = s.cplq ++ [e] ∧ e.ni = d.ni ∧ e.origin = d.origin ∧ e.irq = d.fIRQ ∧
      bits (e.words.getD 0 0) 7 0 = stOK ∧ e.words.getD 1 0 = d.startTs ∧ bits (e.words.getD 3 0) 15 0 = d.index % 65536 := by
  refine ⟨_, (State.complete_asked found (.inr (.inl cpl))).2.1, rfl, rfl, rfl, ?_, rfl, ?_⟩
  · simp only [State.cplOf, List.getD_cons_zero, stOK, Nat.shiftLeft_eq]
    rw [bits_eq_div (k := 8) _ rfl]
    omega
  · simp only [State.cplOf, List.getD_cons_succ, List.getD_cons_zero, Nat.shiftLeft_eq]
    rw [bits_eq_div (k := 16) _ rfl]
    omega

end

/-! ## The start of a descriptor -/

section

variable {s t : State} {n id : Nat} {d : Desc}

/-- What a descriptor records as it starts (R229). -/
def State.opened (s : State) (n : Nat) (d : Desc) : Desc :=
  { d with
    phase := 1
    startTs := s.stampOf (regionOf n)
    startH := s.time.h
    startDigest := s.fbDigest
    startMode := s.rd FB_MODE }

/-- The state in which a descriptor has started and its start is logged. -/
def State.begun (s : State) (n id : Nat) (d : Desc) : State :=
  ((s.updDesc id (s.opened n)).stamped (regionOf n)).log .ni n 0x01 15 0 ((d.index % 65536) * 65536 + (d.origin % 256) * 256 + d.opcode)

theorem State.logged_begun : (s.updDesc id (s.opened n)).Logged (s.begun n id d) [(LOG_PTR .ni).addr n 0] :=
  .trans (State.logged_stamped _) (State.logged_log 0x01 15 0 _ (List.mem_singleton.mpr rfl))

theorem State.begun_work (found : s.desc? id = some d) :
    (s.begun n id d).desc? id = some (s.opened n d) ∧ (s.begun n id d).cplq = s.cplq ∧ (s.begun n id d).spad = s.spad ∧ (s.begun n id d).net = s.net := by
  have same := State.logged_begun (s := s) (n := n) (id := id) (d := d)
  obtain ⟨_, _, _, _, _, e⟩ := same.frame
  refine ⟨?_, same.sameWork.cplq, same.sameWork.spad, by rw [e]; rfl⟩
  rw [State.desc?, same.sameWork.descs]
  exact find?_updFirst found (by simp [State.opened, State.id_of_desc? found])

/-- Logging a start leaves the state of the tenancy as it is. -/
theorem State.mayAct_begun (at_ : d.ni = n) : (s.begun n id d).mayAct d = s.mayAct d := by
  have kept := (State.logged_begun (s := s) (n := n) (id := id) (d := d)).regs
  have apart (f : Fld) (reg : f.reg = NI_TN_STATE) : (s.begun n id d).fld f n = s.fld f n :=
    kept.fld (by simp only [List.mem_singleton, reg, RegDef.addr, LOG_PTR, UnitKind.logPtr, UnitKind.blk, NI_TN_STATE, Blk.base]; omega)
  simp only [State.mayAct, State.tnState, State.owner, at_, apart NI_TN_STATE_STATE rfl, apart NI_TN_STATE_OWNER rfl]

theorem State.mayAct_iff (at_ : d.ni = n) : s.mayAct d = true ↔ s.tnState n = 1 ∧ (4096 ≤ d.origin ∨ d.ten = s.owner n) := by
  simp [State.mayAct, at_]

theorem State.nbPassed_iff (at_ : d.ni = n) :
    s.nbPassed d = false ↔ d.fNB = true ∧ 2 ^ 31 ≤ (s.accC (regionOf n) + 2 ^ 32 - d.notBefore) % 2 ^ 32 := by
  simp [State.nbPassed, at_]

/-- A descriptor that cannot start yet: it has started, its beat is not asked for, or its turn or its beat has not come. -/
def State.holds (s : State) (d : Desc) (nb : Bool) : Prop :=
  d.phase ≠ 0 ∨ (nb = true ∧ d.fNB = false) ∨ (s.mayAct d = true ∧ (s.nbPassed d = false ∨ s.turn d = false))

theorem State.startDesc_held {nb : Bool} (found : s.desc? id = some d) (held : s.holds d nb) : s.startDesc n id nb = s := by
  rw [State.startDesc, found]
  refine if_pos ?_
  obtain started | beat | turn := held
  · exact .inr (.inl started)
  · exact .inr (.inr (.inr (.inr (.inl beat))))
  · exact .inr (.inr (.inr (.inr (.inr turn))))

/-- How a descriptor that starts goes on (R230, R217, R114). -/
def State.launched (s u : State) (n id : Nat) (d : Desc) : State :=
  if s.mayAct d = false then u.finish id stACCESS_DENIED
  else if listedOp d.opcode = false ∨ (tileOnly d.opcode = true ∧ d.origin < 4096) then u.finish id stBAD_DESCRIPTOR
  else if d.denied then (u.niCause n NI_OPEN_STATUS_FLOW_DENIED 10 0).finish id stACCESS_DENIED
  else u

theorem State.launched_may {u : State} (may : s.mayAct d = true) : s.launched u n id d =
    if listedOp d.opcode = false ∨ (tileOnly d.opcode = true ∧ d.origin < 4096) then u.finish id stBAD_DESCRIPTOR
    else if d.denied then (u.niCause n NI_OPEN_STATUS_FLOW_DENIED 10 0).finish id stACCESS_DENIED
    else u :=
  if_neg (ne_false_of_eq_true may)

theorem State.startDesc_free {nb : Bool} (found : s.desc? id = some d) (at_ : d.ni = n) (up : s.niUp n = true) (thawed : s.frozenAt n = false)
    (free : ¬ s.holds d nb) : s.startDesc n id nb = s.launched (s.begun n id d) n id d := by
  rw [State.startDesc, found, State.launched, ← State.mayAct_begun at_ (id := id)]
  have word : (d.index % 65536) <<< 16 + (d.origin % 256) <<< 8 + d.opcode = (d.index % 65536) * 65536 + (d.origin % 256) * 256 + d.opcode := by
    simp only [Nat.shiftLeft_eq, Nat.reducePow]
  refine (if_neg ?_).trans ?_
  · rintro (other | started | down | frozen | beat | turn)
    · exact other at_
    · exact free (.inl started)
    · exact Bool.noConfusion (up.symm.trans down)
    · exact Bool.noConfusion (thawed.symm.trans frozen)
    · exact free (.inr (.inl beat))
    · exact free (.inr (.inr turn))
  · dsimp only
    rw [word]
    rfl

/-- The commands by which a descriptor starts. -/
theorem gives_startDesc {c : Sys2Proof.Instr} (hn : n < 2304) (h : ∀ nb, (nb = true → d.fNB = true) → s.startDesc n id nb = t)
    (cmd : c = .descriptorStart n id ∨ (c = .notBeforeReached n id ∧ d.fNB = true)) : Gives c s t := by
  have wf : okSlot n = true := decide_eq_true hn
  obtain rfl | ⟨rfl, nb⟩ := cmd
  · exact Gives.of_run (exec_descriptorStart n id s) wf (h false Bool.noConfusion)
  · exact Gives.of_run (exec_notBeforeReached n id s) wf (h true fun _ => nb)

theorem gives_launched {c : Sys2Proof.Instr} (hn : n < 2304) (found : s.desc? id = some d) (at_ : d.ni = n) (up : s.niUp n = true)
    (thawed : s.frozenAt n = false) (fresh : d.phase = 0) (ready : s.mayAct d = true → s.nbPassed d = true ∧ s.turn d = true)
    (cmd : c = .descriptorStart n id ∨ (c = .notBeforeReached n id ∧ d.fNB = true)) (h : s.launched (s.begun n id d) n id d = t) : Gives c s t := by
  refine gives_startDesc hn (fun nb beat => (State.startDesc_free found at_ up thawed ?_).trans h) cmd
  rintro (started | ⟨asked, unasked⟩ | ⟨may, early | waits⟩)
  · exact started fresh
  · exact Bool.noConfusion ((beat asked).symm.trans unasked)
  · exact Bool.noConfusion ((ready may).1.symm.trans early)
  · exact Bool.noConfusion ((ready may).2.symm.trans waits)

end

/-! ## Descriptors that arrive -/

/-- What acceptance makes of descriptors: they wait, and are judged by the flow's tenancy (R114). -/
def State.Accepted (s : State) (n ten : Nat) (e : Desc) : Prop :=
  e.ni = n ∧ e.phase = 0 ∧ e.ten = ten ∧ (e.denied = true ↔ flowKeyed e.opcode = true ∧ s.fld NI_FLOW_CFG_TENANCY n e.flowNo ≠ ten)

theorem State.mem_acceptDescs {s : State} {n o first ten : Nat} {ds : List (List Nat)} :
    ∀ e ∈ (s.acceptDescs n o first ten ds).descs, e ∈ s.descs ∨ s.Accepted n ten e := by
  refine (foldl_keeps (P := fun u : State => u.regs = s.regs ∧ ∀ e ∈ u.descs, e ∈ s.descs ∨ s.Accepted n ten e) ⟨rfl, fun e => .inl⟩
    fun u i _ hu => ?_).2
  obtain ⟨regs, old⟩ := hu
  have same (k : Nat) : u.fld NI_FLOW_CFG_TENANCY n k = s.fld NI_FLOW_CFG_TENANCY n k := by simp only [State.fld, State.rd, regs]
  refine ⟨regs, fun e mem => ?_⟩
  obtain mem | mem := List.mem_append.mp mem
  · exact old e mem
  · obtain rfl := List.mem_singleton.mp mem
    refine .inr ⟨rfl, rfl, rfl, ?_⟩
    rw [Bool.and_eq_true, bne_iff_ne, same]
    rfl

/-- Settles O23: a descriptor starts by its turn and its beat, is judged as it starts, and a NOP ends at once. -/
theorem descriptorsStartInTurnAndComplete : Obligations.DescriptorsStartInTurnAndComplete := by
  intro s n id d c hn found at_ up thawed u
  refine ⟨fun cmd => ?_, fun off => ?_, fun phase op => ?_, fun o first ten ds => State.mem_acceptDescs⟩
  · intro may
    have acts : s.mayAct d = true ↔ may := State.mayAct_iff at_
    refine ⟨fun started => ?_, fun fresh denied => ?_, fun ok waits => ?_, fun fresh ok turn passed => ?_⟩
    · exact gives_startDesc hn (fun nb _ => State.startDesc_held found (.inl started)) cmd
    · exact gives_launched hn found at_ up thawed fresh (fun yes => absurd (acts.mp yes) denied) cmd
        (if_pos (eq_false_of_ne_true fun yes => denied (acts.mp yes)))
    · refine gives_startDesc hn (fun nb _ => State.startDesc_held found (.inr (.inr ⟨acts.mpr ok, ?_⟩))) cmd
      exact waits.symm.imp (State.nbPassed_iff at_).mpr fun waits => waits
    · have start {t : State} := gives_launched (t := t) hn found at_ up thawed fresh (fun _ => ⟨passed, turn⟩) cmd
      refine ⟨fun bad => start ((State.launched_may (acts.mpr ok)).trans (if_pos bad)), fun listed tile => ?_⟩
      have good : ¬ (listedOp d.opcode = false ∨ (tileOnly d.opcode = true ∧ d.origin < 4096)) := by
        rintro (unlisted | ⟨yes, host⟩)
        · exact Bool.noConfusion (listed.symm.trans unlisted)
        · exact absurd (tile yes) (Nat.not_le.mpr host)
      refine ⟨fun denied => start ((State.launched_may (acts.mpr ok)).trans ((if_neg good).trans (if_pos denied))), fun allowed => ?_⟩
      have gives : Gives c s u := start ((State.launched_may (acts.mpr ok)).trans ((if_neg good).trans (if_neg (by rw [allowed]; exact Bool.noConfusion))))
      exact gives.does (State.begun_work found)
  · exact Gives.of_run (exec_notBeforeReached n id s) (decide_eq_true hn) (State.startDesc_held found (.inr (.inl ⟨rfl, off⟩)))
  · have started : s.Started n id 0x00 d := ⟨up, thawed, found, at_, phase, op⟩
    obtain ⟨ended, spad, -⟩ := State.finish_spec (st := stOK) found
    refine (gives_nop started hn).does ⟨State.desc?_of_ended ended, State.mem_of_ended ended, spad, State.finish_silent found, State.finish_prov found,
      fun cpl => ?_⟩
    obtain ⟨e, queued, ni, rest⟩ := State.finish_cpl found cpl
    exact ⟨e, queued, ni.trans at_, rest⟩

end Sys2Proof.Machine

/-! # Transfers, atomics and the window descriptors (R148, R150, R153, R218 to R222) -/

namespace Sys2Proof.Machine

/-! ## Addresses -/

section

variable {s : State} {n flow hp a len : Nat}

theorem Dest.to_of_status {x : Dest} (ok : x.status = []) : ∃ l, x = .to l := by
  match x, ok with
  | .to l, _ => exact ⟨l, rfl⟩
  | .bad _, ok => exact absurd ok (List.cons_ne_nil _ _)

/-- An address with nothing wrong leads somewhere. -/
theorem State.to_of_nameStatus {host : Bool} (ok : s.nameStatus n flow host hp a len = []) : ∃ l, s.destAddr n flow host hp a = .to l := by
  rw [State.nameStatus] at ok
  split at ok
  · exact absurd ok (List.cons_ne_nil _ _)
  · exact Dest.to_of_status ok

/-- An offset of HBM is mapped as its GiB is. -/
theorem HbmMap.decode_isSome (m : HbmMap) (ofs : Nat) : (m.decode ofs).isSome = (m.decode (ofs / 2 ^ 30 * 2 ^ 30)).isSome := by
  have gib : ofs / 2 ^ 30 * 2 ^ 30 / 2 ^ 30 = ofs / 2 ^ 30 := Nat.mul_div_cancel _ (Nat.two_pow_pos 30)
  have low : ofs < 16 * m.ilv * 2 ^ 30 ↔ ofs / 2 ^ 30 * 2 ^ 30 < 16 * m.ilv * 2 ^ 30 := by omega
  simp only [HbmMap.decode, gib, ← low]
  generalize 2 ^ 30 = gibi
  split
  · simp only [Option.isSome_some]
  · split
    · simp only [Option.isSome_some]
    · simp only

theorem HbmMap.maps_eq_false {m : HbmMap} {ofs k : Nat} (inside : k < len) (unmapped : m.decode (ofs + k) = none) : m.maps ofs len = false := by
  rw [HbmMap.maps, List.all_eq_false]
  refine ⟨(ofs + k) / 2 ^ 30 - ofs / 2 ^ 30, List.mem_range.mpr (by omega), ?_⟩
  have gib : ofs / 2 ^ 30 + ((ofs + k) / 2 ^ 30 - ofs / 2 ^ 30) = (ofs + k) / 2 ^ 30 := by omega
  rw [gib, ← HbmMap.decode_isSome, unmapped]
  exact Bool.false_ne_true

theorem State.nameStatus_of_bad (bad : s.nameBad n false a len = true) : s.nameStatus n flow false hp a len = [stBAD_DESCRIPTOR] := if_pos bad

theorem State.nameStatus_fenced (space : adSpace a = 0) (tile : adTile a < s.tiles) (chip : adChip a = s.chipId) (none_ : s.lmap n (adTile a) = none) :
    s.nameStatus n flow false hp a len = [stTARGET_FENCED] := by
  have good : s.nameBad n false a len = false := by simp [State.nameBad, space, tile]
  have leads : s.destOf n flow a = .bad 0x22 := by
    refine (if_neg (by omega)).trans ((if_neg (not_not.mpr chip)).trans ((if_pos space).trans ?_))
    rw [none_]
  rw [State.nameStatus, good]
  refine (if_neg Bool.false_ne_true).trans ?_
  rw [State.destAddr]
  refine (congrArg Dest.status (if_neg Bool.false_ne_true)).trans ?_
  rw [leads]
  rfl

theorem nameStatus_rules : (2 ≤ adSpace a ∨ (adSpace a = 0 ∧ s.tiles ≤ adTile a) → s.nameStatus n flow false hp a len = [stBAD_DESCRIPTOR]) ∧
    (adSpace a = 1 → adChip a = s.chipId → (∃ k, k < len ∧ (s.niMap n).decode (adBig a + k) = none) →
      s.nameStatus n flow false hp a len = [stBAD_DESCRIPTOR]) ∧
    (adSpace a = 0 → adTile a < s.tiles → adChip a = s.chipId → s.lmap n (adTile a) = none →
      s.nameStatus n flow false hp a len = [stTARGET_FENCED]) ∧ s.nameStatus n flow true hp a len = [] := by
  refine ⟨fun far => State.nameStatus_of_bad ?_, fun space chip out => State.nameStatus_of_bad ?_, State.nameStatus_fenced, rfl⟩
  · obtain far | ⟨space, tile⟩ := far
    · simp [State.nameBad, far]
    · simp [State.nameBad, space, tile]
  · obtain ⟨k, inside, unmapped⟩ := out
    simp [State.nameBad, space, chip, HbmMap.maps_eq_false inside unmapped]

theorem State.Started.found {id op : Nat} {d : Desc} (started : s.Started n id op d) : s.desc? id = some d := started.2.2.1

theorem State.Started.at_ {id op : Nat} {d : Desc} (started : s.Started n id op d) : d.ni = n := started.2.2.2.1

end

/-! ## COPY, MCAST_WRITE and ATOMIC -/

section

variable {s t : State} {n id : Nat} {d : Desc}

/-- What is wrong with a COPY, in the order of its words (R218). -/
def State.copyBad (s : State) (n : Nat) (d : Desc) : List Nat :=
  (if bits (d.w 4) 31 0 = 0 ∨ (d.srcHost = true ∧ d.dstHost = true) then [stBAD_DESCRIPTOR] else []) ++
    s.nameStatus n d.flowNo d.srcHost d.hpsel (d.w 2) (bits (d.w 4) 31 0) ++ s.nameStatus n d.flowNo d.dstHost d.hpsel (d.w 3) (bits (d.w 4) 31 0) ++
    s.classStatus d (bits (d.w 4) 31 0)

/-- The transfer of a COPY. -/
def State.copyXfer (s : State) (d : Desc) (l : Loc) : Xfer :=
  { newXfer s d .copy with
    dstLoc := l
    policy := bits (d.w 4) 32 32
    chunks := cutChunks (!d.srcHost && adSpace (d.w 2) == 1) (!d.dstHost && adSpace (d.w 3) == 1) (2 * (bits (d.w 4) 31 0 / 4096) + 4) (d.w 2) (d.w 3)
      (bits (d.w 4) 31 0) }

theorem gives_copy (hn : n < 2304) (started : s.Started n id 0x01 d)
    (h : (match s.copyBad n d with
      | _ :: _ => s.finish id (firstStatus (s.copyBad n d))
      | [] => match s.destAddr n d.flowNo d.dstHost d.hpsel (d.w 3) with
        | .bad st => s.finish id st
        | .to l => s.beginXfer d (s.copyXfer d l) (!d.dstHost && adSpace (d.w 3) == 0) (bits (d.w 4) 33 33) (bits (d.w 4) 49 34)) = t) :
    Gives (.copy n id) s t :=
  Gives.of_run (exec_copy n id s) (decide_eq_true hn) ((State.onDesc_of_started _ started).trans h)

theorem State.to_of_copyBad (ok : s.copyBad n d = []) : ∃ l, s.destAddr n d.flowNo d.dstHost d.hpsel (d.w 3) = .to l := by
  rw [State.copyBad, List.append_eq_nil_iff, List.append_eq_nil_iff] at ok
  exact State.to_of_nameStatus ok.1.2

theorem gives_copy_bad (hn : n < 2304) (started : s.Started n id 0x01 d) (bad : s.copyBad n d ≠ []) :
    Gives (.copy n id) s (s.finish id (firstStatus (s.copyBad n d))) := by
  refine gives_copy hn started ?_
  obtain ⟨_, _, e⟩ := List.exists_cons_of_ne_nil bad
  rw [e]

theorem State.beginXfer_full {x : Xfer} {credits : Bool} {check epoch : Nat} (at_ : d.ni = n) (full : s.txnRoom n = false) :
    s.beginXfer d x credits check epoch = s := if_neg (by rw [at_]; exact ne_true_of_eq_false full)

theorem State.beginXfer_room {x : Xfer} {credits : Bool} {check epoch : Nat} (found : s.desc? id = some d) (at_ : d.ni = n) (room : s.txnRoom n = true) :
    s.beginXfer d x credits check epoch = (s.descBusy id).startXfer x credits check epoch (d.w 3) := by
  obtain rfl := State.id_of_desc? found
  exact if_pos (by rw [at_]; exact room)

theorem gives_copy_to {l : Loc} (hn : n < 2304) (started : s.Started n id 0x01 d) (ok : s.copyBad n d = [])
    (leads : s.destAddr n d.flowNo d.dstHost d.hpsel (d.w 3) = .to l)
    (h : s.beginXfer d (s.copyXfer d l) (!d.dstHost && adSpace (d.w 3) == 0) (bits (d.w 4) 33 33) (bits (d.w 4) 49 34) = t) :
    Gives (.copy n id) s t := by
  refine gives_copy hn started ?_
  rw [ok, leads]
  exact h

/-- What is wrong with an MCAST_WRITE (R220). -/
def State.mcastBad (s : State) (n : Nat) (d : Desc) : List Nat :=
  (if s.grpOk (bits (d.w 4) 41 32) d.ten = true then [] else [stACCESS_DENIED]) ++
    (if bits (d.w 4) 31 0 = 0 ∨ d.dstHost = true ∨ adChip (d.w 3) ≠ s.chipId ∨ adSpace (d.w 3) ≠ 0 ∨ d.w 5 % 32 ≠ 0 then [stBAD_DESCRIPTOR] else []) ++
    s.nameStatus n d.flowNo d.srcHost d.hpsel (d.w 2) (bits (d.w 4) 31 0) ++ s.classStatus d (bits (d.w 4) 31 0) ++
    (if d.w 5 = 0 then [] else s.nameStatus n d.flowNo d.auxHost d.hpsel (d.w 5) 288)

/-- The transfer of an MCAST_WRITE. -/
def State.mcastXfer (s : State) (d : Desc) : Xfer :=
  { newXfer s d .mcast with
    dstLoc := groupLoc (bits (d.w 4) 41 32)
    group := some (bits (d.w 4) 41 32)
    members := s.grpMembers (bits (d.w 4) 41 32)
    policy := bits (d.w 4) 42 42
    missAddr := d.w 5
    missHost := d.auxHost
    chunks := cutChunks (!d.srcHost && adSpace (d.w 2) == 1) false (2 * (bits (d.w 4) 31 0 / 4096) + 4) (d.w 2) (d.w 3) (bits (d.w 4) 31 0) }

theorem gives_mcastWrite (hn : n < 2304) (started : s.Started n id 0x02 d)
    (h : (match s.mcastBad n d with
      | _ :: _ => s.finish id (firstStatus (s.mcastBad n d))
      | [] => s.beginXfer d (s.mcastXfer d) true (bits (d.w 4) 43 43) (bits (d.w 4) 59 44)) = t) : Gives (.mcastWrite n id) s t := by
  refine Gives.of_run (exec_mcastWrite n id s) (decide_eq_true hn) ((State.onDesc_of_started _ started).trans ?_)
  obtain ⟨ok, told⟩ : ∃ ok, State.grpOk s = ok := ⟨_, rfl⟩
  generalize same : s.mcastBad n d = l at h
  rw [State.mcastBad, told] at same
  rw [told]
  extract_lets len g bad
  rw [show bad = l from same]
  cases l with
  | nil => exact h
  | cons _ _ => exact h

theorem gives_mcastWrite_bad (hn : n < 2304) (started : s.Started n id 0x02 d) (bad : s.mcastBad n d ≠ []) :
    Gives (.mcastWrite n id) s (s.finish id (firstStatus (s.mcastBad n d))) := by
  refine gives_mcastWrite hn started ?_
  obtain ⟨_, _, e⟩ := List.exists_cons_of_ne_nil bad
  rw [e]

theorem gives_mcastWrite_ok (hn : n < 2304) (started : s.Started n id 0x02 d) (ok : s.mcastBad n d = [])
    (h : s.beginXfer d (s.mcastXfer d) true (bits (d.w 4) 43 43) (bits (d.w 4) 59 44) = t) : Gives (.mcastWrite n id) s t := by
  refine gives_mcastWrite hn started ?_
  rw [ok]
  exact h

/-- What is wrong with an ATOMIC (R219). -/
def State.atomicBad (s : State) (n : Nat) (d : Desc) : List Nat :=
  (if d.w 2 % (if bits (d.w 6) 4 4 = 1 then 8 else 4) ≠ 0 ∨
      ((d.w 6).testBit 5 = false ∧ (10 ≤ bits (d.w 6) 3 0 ∨ (bits (d.w 6) 3 0 = 9 ∧ bits (d.w 6) 4 4 = 1))) ∨
      (d.srcHost = true ∧ s.sigPageOf d.hpsel d.ten (d.w 2) = none) then [stBAD_DESCRIPTOR] else []) ++
    s.nameStatus n d.flowNo d.srcHost d.hpsel (d.w 2) (if bits (d.w 6) 4 4 = 1 then 8 else 4) ++
    (if d.w 5 = 0 then [] else s.nameStatus n d.flowNo d.auxHost d.hpsel (d.w 5) 8) ++
    (if (d.w 6).testBit 5 = false ∧ bits (d.w 6) 3 0 = 9 ∧ d.startMode % 2 = 1 then [stSTRICT_FORBIDDEN] else [])

/-- The atomic of a descriptor is sent, or waits for a transaction number. -/
def State.sendAtomic (s : State) (n id : Nat) (d : Desc) (l : Loc) : State :=
  if s.txnRoom n then
    let u := (s.descBusy id).addTx ⟨n, s.freeTxn n, .atomic, id, 0, 0, if d.srcHost then s.chipId else adChip (d.w 2), 0, false, false⟩
    if (d.w 6).testBit 5 then u.niSend n opATOMIC_CAS l d.ten d.flowNo (s.freeTxn n) [d.w 2, bits (d.w 6) 4 4, d.w 4, d.w 3]
    else u.niSend n opATOMIC l d.ten d.flowNo (s.freeTxn n) [d.w 2, bits (d.w 6) 3 0, bits (d.w 6) 4 4, d.w 3]
  else s

theorem gives_atomic (hn : n < 2304) (started : s.Started n id 0x03 d)
    (h : (match s.atomicBad n d with
      | _ :: _ => s.finish id (firstStatus (s.atomicBad n d))
      | [] => match s.destAddr n d.flowNo d.srcHost d.hpsel (d.w 2) with
        | .bad st => s.finish id st
        | .to l => s.sendAtomic n id d l) = t) : Gives (.atomic n id) s t := by
  refine Gives.of_run (exec_atomic n id s) (decide_eq_true hn) ((State.onDesc_of_started _ started).trans (Eq.trans ?_ h))
  have page : (s.sigPageOf d.hpsel d.ten (d.w 2)).isSome = false ↔ s.sigPageOf d.hpsel d.ten (d.w 2) = none := by simp
  simp only [page, bit]
  rfl

theorem gives_atomic_bad (hn : n < 2304) (started : s.Started n id 0x03 d) (bad : s.atomicBad n d ≠ []) :
    Gives (.atomic n id) s (s.finish id (firstStatus (s.atomicBad n d))) := by
  refine gives_atomic hn started ?_
  obtain ⟨_, _, e⟩ := List.exists_cons_of_ne_nil bad
  rw [e]

theorem gives_atomic_to {l : Loc} (hn : n < 2304) (started : s.Started n id 0x03 d) (ok : s.atomicBad n d = [])
    (leads : s.destAddr n d.flowNo d.srcHost d.hpsel (d.w 2) = .to l) (h : s.sendAtomic n id d l = t) : Gives (.atomic n id) s t := by
  refine gives_atomic hn started ?_
  rw [ok, leads]
  exact h

theorem State.to_of_atomicBad (ok : s.atomicBad n d = []) : ∃ l, s.destAddr n d.flowNo d.srcHost d.hpsel (d.w 2) = .to l := by
  rw [State.atomicBad, List.append_eq_nil_iff, List.append_eq_nil_iff, List.append_eq_nil_iff] at ok
  exact State.to_of_nameStatus ok.1.1.2

end

/-! ## The window descriptors -/

section

variable {s t : State} {n id op : Nat} {d : Desc} {own : Desc → Nat → State → State} {send : Desc → Nat → Loc → Nat → State → State}

theorem State.winDesc_eq (started : s.Started n id op d) : s.winDesc n id op own send =
    if adSpace (d.w 2) ≠ 0 then s.finish id stBAD_DESCRIPTOR
    else if s.ownAddr n false (d.w 2) then
      match s.winCheck n (adHandle (d.w 2)) d.ten with
      | some st => s.finish id st
      | none => own d (adHandle (d.w 2)) s
    else match s.destOf n d.flowNo (d.w 2) with
      | .bad st => s.finish id st
      | .to l =>
        if s.txnRoom n then
          send d (adHandle (d.w 2)) l (s.freeTxn n) ((s.descBusy id).addTx ⟨n, s.freeTxn n, .winOp, id, 0, 0, adChip (d.w 2), 0, false, false⟩)
        else s :=
  State.onDesc_of_started _ started

theorem State.winDesc_checked {st : Nat} (started : s.Started n id op d) (space : adSpace (d.w 2) = 0) (mine : s.ownAddr n false (d.w 2) = true)
    (check : s.winCheck n (adHandle (d.w 2)) d.ten = some st) : s.winDesc n id op own send = s.finish id st := by
  rw [State.winDesc_eq started, check]
  exact (if_neg (not_not.mpr space)).trans (if_pos mine)

theorem State.winDesc_own (started : s.Started n id op d) (space : adSpace (d.w 2) = 0) (mine : s.ownAddr n false (d.w 2) = true)
    (check : s.winCheck n (adHandle (d.w 2)) d.ten = none) : s.winDesc n id op own send = own d (adHandle (d.w 2)) s := by
  rw [State.winDesc_eq started, check]
  exact (if_neg (not_not.mpr space)).trans (if_pos mine)

theorem State.winDesc_bad {st : Nat} (started : s.Started n id op d) (space : adSpace (d.w 2) = 0) (other : s.ownAddr n false (d.w 2) = false)
    (leads : s.destOf n d.flowNo (d.w 2) = .bad st) : s.winDesc n id op own send = s.finish id st := by
  rw [State.winDesc_eq started, leads]
  exact (if_neg (not_not.mpr space)).trans (if_neg (ne_true_of_eq_false other))

theorem State.winDesc_to {l : Loc} (started : s.Started n id op d) (space : adSpace (d.w 2) = 0) (other : s.ownAddr n false (d.w 2) = false)
    (leads : s.destOf n d.flowNo (d.w 2) = .to l) : s.winDesc n id op own send =
      if s.txnRoom n then
        send d (adHandle (d.w 2)) l (s.freeTxn n) ((s.descBusy id).addTx ⟨n, s.freeTxn n, .winOp, id, 0, 0, adChip (d.w 2), 0, false, false⟩)
      else s := by
  rw [State.winDesc_eq started, leads]
  exact (if_neg (not_not.mpr space)).trans (if_neg (ne_true_of_eq_false other))

/-- What the three window descriptors have in common (R222). -/
theorem gives_winDesc {c : Sys2Proof.Instr} (e : exec c s = run c s (fun s => s.winDesc n id op own send)) (wf : c.wf = true) (started : s.Started n id op d) :
    (adSpace (d.w 2) ≠ 0 → Gives c s (s.finish id stBAD_DESCRIPTOR)) ∧
    (adSpace (d.w 2) = 0 → s.ownAddr n false (d.w 2) = true → ∀ st, s.winCheck n (adHandle (d.w 2)) d.ten = some st → Gives c s (s.finish id st)) ∧
    (adSpace (d.w 2) = 0 → s.ownAddr n false (d.w 2) = false →
      (∀ st, s.destOf n d.flowNo (d.w 2) = .bad st → Gives c s (s.finish id st)) ∧
      (∀ l, s.destOf n d.flowNo (d.w 2) = .to l → s.txnRoom n = false → Gives c s s) ∧
      (∀ l, s.destOf n d.flowNo (d.w 2) = .to l → s.txnRoom n = true →
        Gives c s (send d (adHandle (d.w 2)) l (s.freeTxn n)
          ((s.descBusy id).addTx ⟨n, s.freeTxn n, .winOp, id, 0, 0, adChip (d.w 2), 0, false, false⟩)))) := by
  refine ⟨fun space => ?_, fun space mine st check => ?_, fun space other => ⟨fun st leads => ?_, fun l leads full => ?_, fun l leads room => ?_⟩⟩
  · exact Gives.of_run e wf ((State.winDesc_eq started).trans (if_pos space))
  · exact Gives.of_run e wf (State.winDesc_checked started space mine check)
  · exact Gives.of_run e wf (State.winDesc_bad started space other leads)
  · exact Gives.of_run e wf ((State.winDesc_to started space other leads).trans (if_neg (ne_true_of_eq_false full)))
  · exact Gives.of_run e wf ((State.winDesc_to started space other leads).trans (if_pos room))

end

section

variable {s t : State} {n h id st : Nat} {d : Desc}

/-- However it stands with a descriptor, its end leaves none of its number, and scratchpad, windows and schedules as they are. -/
theorem State.finish_any : (s.finish id st).desc? id = none ∧ (s.finish id st).spad = s.spad ∧ (s.finish id st).win = s.win ∧
    (s.finish id st).rtr = s.rtr := by
  cases found : s.desc? id with
  | none =>
    have gone : s.finish id st = s := by rw [State.finish, State.complete, found]
    rw [gone]
    exact ⟨found, rfl, rfl, rfl⟩
  | some d =>
    obtain ⟨ended, spad, win, rtr, -⟩ := State.finish_spec (st := st) found
    exact ⟨State.desc?_of_ended ended, spad, win, rtr⟩

theorem State.sameWork_traceRec (ty ten : Nat) (d : Option TraceId) (ak aw obj arg : Nat) : s.SameWork (s.traceRec n ty ten d ak aw obj arg) := by
  obtain ⟨_, _, _, _, _, e⟩ := s.traceRec_frame (n := n) ty ten d ak aw obj arg
  rw [e]
  exact ⟨rfl, rfl, rfl, rfl, rfl, rfl⟩

theorem State.sameWork_waitFree (kind obj tag : Nat) : s.SameWork (s.waitFree n kind obj tag) := by
  obtain ⟨_, e⟩ := s.waitFree_frame n kind obj tag
  rw [e]
  exact ⟨rfl, rfl, rfl, rfl, rfl, rfl⟩

theorem State.storeKept_finish {u : State} (same : u.SameWork t) (kept : u.spad = s.spad ∧ u.win = s.win) :
    (t.finish id st).spad = s.spad ∧ (t.finish id st).win = s.win := by
  obtain ⟨-, spad, win, -⟩ := t.finish_any (id := id) (st := st)
  exact ⟨spad.trans (same.spad.trans kept.1), win.trans (same.win.trans kept.2)⟩

/-- The WAITs that a count ends leave scratchpad and the windows as they are. -/
theorem State.checkWaits_store (kind key sub count writer : Nat) :
    (s.checkWaits n kind key sub count writer).spad = s.spad ∧ (s.checkWaits n kind key sub count writer).win = s.win := by
  rw [State.checkWaits]
  refine foldl_keeps (P := fun u : State => u.spad = s.spad ∧ u.win = s.win) ⟨rfl, rfl⟩ fun u w _ hu => ?_
  dsimp only
  split
  · exact State.storeKept_finish ((State.sameWork_traceRec _ _ _ _ _ _ _).trans ((State.sameWork_waitFree _ _ _).trans
      (State.logged_log 0x04 15 0 _ (List.mem_singleton.mpr rfl)).sameWork)) hu
  · exact State.storeKept_finish ⟨rfl, rfl, rfl, rfl, rfl, rfl⟩ hu

/-- A window of the own tile, and a descriptor that names it. -/
structure State.WinNamed (s : State) (n : Nat) (d : Desc) : Prop where
  space : adSpace (d.w 2) = 0
  mine : s.ownAddr n false (d.w 2) = true
  check : s.winCheck n (adHandle (d.w 2)) d.ten = none

theorem gives_winOpen (hn : n < 2304) (started : s.Started n id 0x04 d) (named : s.WinNamed n d)
    {r : Nat × State} (h : s.openWindow n (adHandle (d.w 2)) (bits (d.w 3) 12 0) (bits (d.w 3) 25 13) d.issuerKind (s.issuer d) = r) :
    Gives (.winOpen n id) s (r.2.finish id r.1) := by
  refine Gives.of_run (exec_winOpen n id s) (decide_eq_true hn) ((State.winDesc_own started named.space named.mine named.check).trans ?_)
  subst h
  rfl

theorem gives_winReplenish (hn : n < 2304) (started : s.Started n id 0x06 d) (named : s.WinNamed n d)
    {r : Nat × State} (h : s.replenish n (adHandle (d.w 2)) (bits (d.w 3) 12 0) d.issuerKind (s.issuer d) = r) :
    Gives (.winReplenish n id) s (r.2.finish id r.1) := by
  refine Gives.of_run (exec_winReplenish n id s) (decide_eq_true hn) ((State.winDesc_own started named.space named.mine named.check).trans ?_)
  subst h
  rfl

theorem gives_winClose (hn : n < 2304) (started : s.Started n id 0x05 d) (named : s.WinNamed n d)
    (h : (s.descBusy id).beginClose n (adHandle (d.w 2)) ((d.w 3).testBit 0) (bits (d.w 3) 31 16) ⟨(d.w 3).testBit 0, some id, none, 0⟩ = t) :
    Gives (.winClose n id) s t :=
  Gives.of_run (exec_winClose n id s) (decide_eq_true hn) ((State.winDesc_own started named.space named.mine named.check).trans h)

theorem State.finish_window : (s.finish id st).window n h = s.window n h := by rw [State.window, State.finish_any.2.2.1, State.window]

/-- A window that opens changes no other. -/
theorem State.openWindow_store {pool notify ik iw : Nat} (closed : (s.window n h).state = 0) (some_ : 1 ≤ pool) (most : pool ≤ 8191)
    (fits : pool * 512 ≤ (s.hdlRange n h).2) :
    let t := (s.openWindow n h pool notify ik iw).2
    t.win = (s.setWin n h ((s.window n h).opened pool notify)).win ∧ t.spad = s.spad := by
  dsimp only
  rw [State.openWindow_passed closed some_ most fits]
  have told := (s.setWin n h ((s.window n h).opened pool notify)).sameWork_traceRec (n := n) 6 (s.fld NI_HDL_CFG_TENANCY n h) none ik iw h
    ((s.window n h).epoch <<< 16 + pool)
  obtain ⟨spad, win⟩ := State.checkWaits_store (n := n) (s := (s.setWin n h ((s.window n h).opened pool notify)).traceRec n 6
    (s.fld NI_HDL_CFG_TENANCY n h) none ik iw h ((s.window n h).epoch <<< 16 + pool)) 1 h ((s.window n h).opens + 1) 0 iw
  exact ⟨win.trans told.win, spad.trans told.spad⟩

theorem State.window_setWin_ne {m k : Nat} {w : Window} (other : (m, k) ≠ (n, h)) (hh : h < 256) (hk : k < 256) :
    (s.setWin n h w).window m k = s.window m k := by
  refine SMap.get_put_ne _ _ _ fun same => other ?_
  rw [Prod.mk.injEq]
  omega

/-- A descriptor that runs on is found with its phase. -/
theorem State.desc?_descBusy (found : s.desc? id = some d) : (s.descBusy id).desc? id = some { d with phase := 2 } :=
  find?_updFirst found (by simp [State.id_of_desc? found])

theorem State.beginClose_closed {drain : Bool} {limit : Nat} (closed : (s.window n h).state = 0) :
    s.beginClose n h drain limit ⟨drain, some id, none, 0⟩ = s.finish id stOK := if_pos closed

theorem State.beginClose_draining {drain : Bool} {limit : Nat} {c : Close} (draining : (s.window n h).state = 2) (on : (drain && limit != 0) = true) :
    s.beginClose n h drain limit c = s.setWin n h { s.window n h with closes := (s.window n h).closes ++ [{ c with drain := true }] } := by
  simp only [State.beginClose, draining, on, Nat.reduceEqDiff, if_false, if_true]

end

/-- Settles O25: COPY, MCAST_WRITE and ATOMIC are judged and start, and the window descriptors act on the own window or go to its owner. -/
theorem descriptorsStartTransfersAndActOnWindows : Obligations.DescriptorsStartTransfersAndActOnWindows := by
  refine ⟨fun s n id d hn => ?_, fun s n flow hp a len => nameStatus_rules, fun s n id d hn => ?_⟩
  · intro len srcHbm dstHbm
    refine ⟨?_, ?_, ?_⟩
    · intro started bad
      refine ⟨gives_copy_bad hn started, fun ok => ?_⟩
      obtain ⟨l, leads⟩ := State.to_of_copyBad ok
      exact ⟨l, leads, fun full => gives_copy_to hn started ok leads (State.beginXfer_full started.at_ full),
        fun room => gives_copy_to hn started ok leads (State.beginXfer_room started.found started.at_ room)⟩
    · intro started g bad
      exact ⟨gives_mcastWrite_bad hn started, fun ok =>
        ⟨fun full => gives_mcastWrite_ok hn started ok (State.beginXfer_full started.at_ full),
          fun room => gives_mcastWrite_ok hn started ok (State.beginXfer_room started.found started.at_ room)⟩⟩
    · intro started a cas wide aop bytes bad
      refine ⟨gives_atomic_bad hn started, fun ok => ?_⟩
      obtain ⟨l, leads⟩ := State.to_of_atomicBad ok
      refine ⟨l, leads, fun full => gives_atomic_to hn started ok leads (if_neg (ne_true_of_eq_false full)), fun room => ?_⟩
      exact ⟨fun on => gives_atomic_to hn started ok leads ((if_pos room).trans (if_pos on)),
        fun off => gives_atomic_to hn started ok leads ((if_pos room).trans (if_neg (ne_true_of_eq_false off)))⟩
  · intro a h w pool
    have hh : h < 256 := bits_lt (d.w 2) 37 30
    refine ⟨fun e mem => ?_, fun space mine check => ?_⟩
    · simp only [List.mem_cons, List.not_mem_nil, or_false] at mem
      obtain rfl | rfl | rfl := mem
      · intro started
        obtain ⟨bad, checked, other⟩ := gives_winDesc (exec_winOpen n id s) (decide_eq_true hn) started
        refine ⟨bad, checked, fun space far => ?_⟩
        obtain ⟨nowhere, full, sent⟩ := other space far
        exact ⟨nowhere, full, fun l leads room => ⟨fun _ => sent l leads room, nofun, nofun, nofun⟩⟩
      · intro started
        obtain ⟨bad, checked, other⟩ := gives_winDesc (exec_winClose n id s) (decide_eq_true hn) started
        refine ⟨bad, checked, fun space far => ?_⟩
        obtain ⟨nowhere, full, sent⟩ := other space far
        refine ⟨nowhere, full, fun l leads room => ⟨nofun, nofun, fun _ here => ?_, fun _ away => ?_⟩⟩
        · exact (sent l leads room).congr (congrArg (fun x => State.niSend _ n opWIN_CLOSE l d.ten d.flowNo (s.freeTxn n)
            ([bits (d.w 3) 0 0, adHandle (d.w 2), bits (d.w 3) 31 16, s.freeTxn n] ++ x)) (if_pos here))
        · exact (sent l leads room).congr (congrArg (fun x => State.niSend _ n opWIN_CLOSE l d.ten d.flowNo (s.freeTxn n)
            ([bits (d.w 3) 0 0, adHandle (d.w 2), bits (d.w 3) 31 16, s.freeTxn n] ++ x)) (if_neg away))
      · intro started
        obtain ⟨bad, checked, other⟩ := gives_winDesc (exec_winReplenish n id s) (decide_eq_true hn) started
        refine ⟨bad, checked, fun space far => ?_⟩
        obtain ⟨nowhere, full, sent⟩ := other space far
        exact ⟨nowhere, full, fun l leads room => ⟨nofun, fun _ => sent l leads room, nofun, nofun⟩⟩
    · have named : s.WinNamed n d := ⟨space, mine, check⟩
      refine ⟨?_, fun started => ?_, ?_⟩
      · intro started bad
        have most : pool < 2 ^ 13 := bits_lt (d.w 3) 12 0
        refine ⟨fun wrong => gives_winOpen hn started named (State.openWindow_refused ?_), fun right => ?_⟩
        · obtain open_ | none_ | small := wrong
          · exact .inl open_
          · exact .inr (.inl none_)
          · exact .inr (.inr (.inr small))
        · obtain ⟨closed, some_, fits⟩ : w.state = 0 ∧ 1 ≤ pool ∧ pool * 512 ≤ (s.hdlRange n h).2 := by
            simp only [bad, not_or, not_not, Nat.not_lt] at right
            omega
          refine (gives_winOpen hn started named rfl).does ?_
          obtain ⟨win, spad⟩ := State.openWindow_store (notify := bits (d.w 3) 25 13) (ik := d.issuerKind) (iw := s.issuer d) closed some_
            (by omega) fits
          generalize s.openWindow n (adHandle (d.w 2)) (bits (d.w 3) 12 0) (bits (d.w 3) 25 13) d.issuerKind (s.issuer d) = r at win spad ⊢
          obtain ⟨gone, spad', -⟩ := r.2.finish_any (id := id) (st := r.1)
          have window (m k : Nat) : (r.2.finish id r.1).window m k = (s.setWin n h (w.opened pool (bits (d.w 3) 25 13))).window m k := by
            rw [State.finish_window, State.window, win]
            rfl
          refine ⟨(window n h).trans (State.window_setWin_same _ _ _ _), fun m k other _ hk => ?_, gone, spad'.trans spad⟩
          exact (window m k).trans (State.window_setWin_ne other hh hk)
      · refine ⟨gives_winReplenish hn started named rfl, fun closed => gives_winReplenish hn started named (if_pos closed), fun open_ few => ?_,
          fun open_ enough none_ => ?_⟩
        · exact gives_winReplenish hn started named ((if_neg open_).trans (if_pos few))
        · obtain ⟨-, win, -, spad, -⟩ := State.replenish_spec (ik := d.issuerKind) (iw := s.issuer d) open_ enough none_
          refine (gives_winReplenish hn started named rfl).does ?_
          generalize s.replenish n (adHandle (d.w 2)) (bits (d.w 3) 12 0) d.issuerKind (s.issuer d) = r at win spad ⊢
          obtain ⟨gone, spad', -⟩ := r.2.finish_any (id := id) (st := r.1)
          exact ⟨State.finish_window.trans win, gone, spad'.trans spad⟩
      · intro started drain
        have busy := State.desc?_descBusy started.found
        refine ⟨fun closed => ?_, fun open_ now => ?_, fun draining on => ?_, fun open_ on none_ => ?_⟩
        · refine (gives_winClose hn started named (State.beginClose_closed (s := s.descBusy id) closed)).does ?_
          exact ⟨State.finish_any.1, State.finish_window⟩
        · refine (gives_winClose hn started named (State.beginClose_now (s := s.descBusy id) open_ now)).does ?_
          exact ⟨State.window_setWin_same _ _ _ _, busy, rfl, rfl⟩
        · refine (gives_winClose hn started named (State.beginClose_draining (s := s.descBusy id) draining on)).does ?_
          exact ⟨State.window_setWin_same _ _ _ _, busy, rfl, rfl⟩
        · obtain ⟨drains, some_⟩ : (d.w 3).testBit 0 = true ∧ bits (d.w 3) 31 16 ≠ 0 := by simpa [drain] using on
          refine (gives_winClose hn started named (State.beginClose_drain (s := s.descBusy id) open_ drains some_ none_)).does ?_
          have same := State.window_setWin_same (s.descBusy id) n h
            { w with state := 2, closes := w.closes ++ [⟨true, some id, none, 0⟩] }
          exact ⟨congrArg Window.state same, congrArg Window.closes same⟩

end Sys2Proof.Machine

/-! # Chart commands (R60, R73, R223, R226, R254, R255, R259) -/

namespace Sys2Proof.Machine

/-! ## CHART_RUN -/

section

variable {s t : State} {n id st : Nat} {d : Desc}

/-- Messages that leave an NI change only what is under way on the mesh. -/
theorem State.foldl_niSend_frame (l : List Nat) (o : Op) (args : List Nat) :
    ∃ net, l.foldl (fun u m => u.niSend n o (niLoc m) 0 0 0 args) s = { s with net := net } := by
  refine foldl_keeps (P := fun u : State => ∃ net, u = { s with net := net }) ⟨s.net, rfl⟩ fun u m _ hu => ?_
  obtain ⟨_, rfl⟩ := hu
  rw [State.niSend_eq]
  exact ⟨_, rfl⟩

/-- The slots of a group, as the NI's map gives them. -/
def State.chartSlots (s : State) (n g : Nat) : List Nat := (s.grpMap g).filterMap (s.lmap n)

/-- A chart that is launched at a beat of a save area or at its start. -/
def State.chartLaunched (s : State) (n id : Nat) (d : Desc) : Launch :=
  ⟨n, bits (d.w 2) 31 0, id, bits (d.w 3) 9 0, d.ten, d.startMode, s.chartSlots n (bits (d.w 3) 9 0), (s.rg (regionOf n)).s + 32,
    if d.w 4 = 0 then 0 else s.saveWord (d.w 4) 1, if d.w 4 = 0 then 0 else bits (s.saveWord (d.w 4) 0) 31 16, [], [], none, none, none, none,
    s.fld FB_CONSORT_STATUS_ARMED == 1⟩

/-- Every member receives START (R60). -/
def State.startSent (s : State) (n id : Nat) (d : Desc) : State :=
  (s.chartSlots n (bits (d.w 3) 9 0)).foldl (fun u m => u.niSend n opSTART (niLoc m) 0 0 0
    [bits (d.w 2) 31 0, bits (d.w 2) 63 32, b2n (d.w 4 != 0), 0, (s.rg (regionOf n)).s + 32, d.w 4])
    { s.descBusy id with launches := s.launches ++ [s.chartLaunched n id d] }

/-- A CHART_RUN whose save area, if any, passes. -/
def State.chartLaunch (s : State) (n id : Nat) (d : Desc) : State :=
  if (s.grpMap (bits (d.w 3) 9 0)).isEmpty then s.finish id stBAD_DESCRIPTOR
  else if (s.chartSlots n (bits (d.w 3) 9 0)).length ≠ (s.grpMap (bits (d.w 3) 9 0)).length then s.finish id stTARGET_FENCED
  else if s.noStart d.ten then s
  else s.startSent n id d

theorem gives_chartRun (hn : n < 2304) (started : s.Started n id 0x08 d)
    (h : (if s.grpOk (bits (d.w 3) 9 0) d.ten = false then s.finish id stACCESS_DENIED
      else match (if d.w 4 = 0 then none else s.resumeBad d (s.grpMap (bits (d.w 3) 9 0)).length) with
        | some st => s.finish id st
        | none => s.chartLaunch n id d) = t) : Gives (.chartRun n id) s t :=
  Gives.of_run (exec_chartRun n id s) (decide_eq_true hn) ((State.onDesc_of_started _ started).trans h)

theorem gives_chartRun_bad (hn : n < 2304) (started : s.Started n id 0x08 d) (ok : s.grpOk (bits (d.w 3) 9 0) d.ten = true) (save : d.w 4 ≠ 0)
    (bad : s.resumeBad d (s.grpMap (bits (d.w 3) 9 0)).length = some st) : Gives (.chartRun n id) s (s.finish id st) := by
  refine gives_chartRun hn started ((if_neg (ne_false_of_eq_true ok)).trans ?_)
  rw [if_neg save, bad]

theorem gives_chartRun_ok (hn : n < 2304) (started : s.Started n id 0x08 d) (ok : s.grpOk (bits (d.w 3) 9 0) d.ten = true)
    (good : d.w 4 = 0 ∨ s.resumeBad d (s.grpMap (bits (d.w 3) 9 0)).length = none) (h : s.chartLaunch n id d = t) : Gives (.chartRun n id) s t := by
  refine gives_chartRun hn started ((if_neg (ne_false_of_eq_true ok)).trans ?_)
  have none_ : (if d.w 4 = 0 then none else s.resumeBad d (s.grpMap (bits (d.w 3) 9 0)).length) = none := by
    by_cases start : d.w 4 = 0
    · exact if_pos start
    · exact (if_neg start).trans (good.resolve_left start)
  rw [none_]
  exact h

theorem State.resumeBad_of_area {k : Nat} (bad : s.saveAreaBad d.ten (d.w 4) k = some st) : s.resumeBad d k = some st := by
  unfold State.resumeBad
  extract_lets a
  rw [show s.saveAreaBad d.ten a k = some st from bad]

theorem State.saveAreaBad_of_place {ten a : Nat} (k : Nat) (place : adSpace a ≠ 1 ∨ a % 4096 ≠ 0) : s.saveAreaBad ten a k = some stBAD_DESCRIPTOR :=
  if_pos place

theorem State.startSent_spec : (s.startSent n id d).launches = s.launches ++ [s.chartLaunched n id d] ∧ (s.startSent n id d).regs = s.regs ∧
    (s.startSent n id d).spad = s.spad ∧ (s.startSent n id d).chart = s.chart := by
  unfold State.startSent
  generalize s.launches ++ [s.chartLaunched n id d] = l
  obtain ⟨net, e⟩ := State.foldl_niSend_frame (s := { s.descBusy id with launches := l }) (n := n)
    (s.chartSlots n (bits (d.w 3) 9 0)) opSTART [bits (d.w 2) 31 0, bits (d.w 2) 63 32, b2n (d.w 4 != 0), 0, (s.rg (regionOf n)).s + 32, d.w 4]
  rw [e]
  exact ⟨rfl, rfl, rfl, rfl⟩

/-- The members of a chart are told to start, from a state that lists its launch. -/
def State.tellStart (s : State) (n id : Nat) (d : Desc) (l : List Launch) : State :=
  (s.chartSlots n (bits (d.w 3) 9 0)).foldl (fun u m => u.niSend n opSTART (niLoc m) 0 0 0
    [bits (d.w 2) 31 0, bits (d.w 2) 63 32, b2n (d.w 4 != 0), 0, (s.rg (regionOf n)).s + 32, d.w 4]) { s.descBusy id with launches := l }

theorem does_told {c : Sys2Proof.Instr} {x : State} {l : List Launch} (gives : Gives c s x) (launches : x.launches = l) (told : x = s.tellStart n id d l)
    (regs : x.regs = s.regs) (spad : x.spad = s.spad) (chart : x.chart = s.chart) :
    Does c s fun t => t.launches = l ∧ t = s.after (s.tellStart n id d t.launches) ∧ t.regs = s.regs ∧ t.spad = s.spad ∧ t.chart = s.chart := by
  refine gives.does ⟨launches, ?_, regs, spad, chart⟩
  rw [show (s.after x).launches = l from launches, ← told]

/-- What stands after every member has been told to start. -/
theorem does_chartRun (hn : n < 2304) (started : s.Started n id 0x08 d) (ok : s.grpOk (bits (d.w 3) 9 0) d.ten = true)
    (good : d.w 4 = 0 ∨ s.resumeBad d (s.grpMap (bits (d.w 3) 9 0)).length = none) (some_ : s.grpMap (bits (d.w 3) 9 0) ≠ [])
    (all : (s.chartSlots n (bits (d.w 3) 9 0)).length = (s.grpMap (bits (d.w 3) 9 0)).length) (run : s.noStart d.ten = false) :
    Does (.chartRun n id) s fun t => t.launches = s.launches ++ [s.chartLaunched n id d] ∧
      t = s.after (s.tellStart n id d t.launches) ∧ t.regs = s.regs ∧ t.spad = s.spad ∧ t.chart = s.chart := by
  have launch : s.chartLaunch n id d = s.startSent n id d :=
    (if_neg (some_ ∘ List.isEmpty_iff.mp)).trans ((if_neg (not_not.mpr all)).trans (if_neg (ne_true_of_eq_false run)))
  obtain ⟨launches, regs, spad, chart⟩ := s.startSent_spec (n := n) (id := id) (d := d)
  exact does_told (gives_chartRun_ok hn started ok good launch) launches rfl regs spad chart

end

/-! ## CHART_PAUSE -/

section

variable {s t : State} {n id st : Nat} {d : Desc} {l : Launch}

/-- The boundary at which a launched chart can pause (R254). -/
def State.pauseFor (s : State) (l : Launch) : Option (Nat × Nat) :=
  s.pausePoint (if l.members.contains l.ni then l.ni else l.members.headD l.ni) (max (s.rg (regionOf l.ni)).L l.lstart + 64) l

/-- Every member receives PAUSE with the boundary. -/
def State.pauseSent (s : State) (id : Nat) (d : Desc) (l : Launch) (next t : Nat) : State :=
  l.members.foldl (fun u x => u.niSend l.ni opPAUSE (niLoc x) 0 0 0 [l.chart, next, l.cb + (t - l.lstart), d.w 4])
    { s.descBusy id with
      launches := updFirst (fun x => x.desc == l.desc) (fun x => { x with pause := some (id, next, l.cb + (t - l.lstart), d.w 4) }) s.launches }

theorem gives_chartPause (hn : n < 2304) (started : s.Started n id 0x09 d)
    (h : (if s.grpOk (bits (d.w 3) 9 0) d.ten = false then s.finish id stACCESS_DENIED
      else match s.launches.find? (fun l => l.chart == bits (d.w 2) 31 0 && l.abort.isNone) with
      | none => s.finish id stBAD_DESCRIPTOR
      | some l =>
        if l.ten ≠ d.ten then s.finish id stACCESS_DENIED
        else if l.pause.isSome then s.finish id stBAD_DESCRIPTOR
        else
          match s.pauseFor l with
          | none => s.finish id stABORTED
          | some (next, t) =>
            match s.saveAreaBad d.ten (d.w 4) l.members.length with
            | some st => s.finish id st
            | none => s.pauseSent id d l next t) = t) : Gives (.chartPause n id) s t :=
  Gives.of_run (exec_chartPause n id s) (decide_eq_true hn) ((State.onDesc_of_started _ started).trans h)

theorem gives_chartPause_unlaunched (hn : n < 2304) (started : s.Started n id 0x09 d) (ok : s.grpOk (bits (d.w 3) 9 0) d.ten = true)
    (none_ : ∀ x ∈ s.launches, x.chart = bits (d.w 2) 31 0 → x.abort ≠ none) : Gives (.chartPause n id) s (s.finish id stBAD_DESCRIPTOR) := by
  have found : s.launches.find? (fun l => l.chart == bits (d.w 2) 31 0 && l.abort.isNone) = none := by
    rw [List.find?_eq_none]
    intro x mem both
    simp only [Bool.and_eq_true, beq_iff_eq, Option.isNone_iff_eq_none] at both
    exact none_ x mem both.1 both.2
  refine gives_chartPause hn started ((if_neg (ne_false_of_eq_true ok)).trans ?_)
  rw [found]

theorem gives_chartPause_launched (hn : n < 2304) (started : s.Started n id 0x09 d) (ok : s.grpOk (bits (d.w 3) 9 0) d.ten = true)
    (found : s.launches.find? (fun l => l.chart == bits (d.w 2) 31 0 && l.abort.isNone) = some l)
    (h : (if l.ten ≠ d.ten then s.finish id stACCESS_DENIED
        else if l.pause.isSome then s.finish id stBAD_DESCRIPTOR
        else
          match s.pauseFor l with
          | none => s.finish id stABORTED
          | some (next, t) =>
            match s.saveAreaBad d.ten (d.w 4) l.members.length with
            | some st => s.finish id st
            | none => s.pauseSent id d l next t) = t) : Gives (.chartPause n id) s t := by
  refine gives_chartPause hn started ((if_neg (ne_false_of_eq_true ok)).trans ?_)
  rw [found]
  exact h

theorem gives_chartPause_running (hn : n < 2304) (started : s.Started n id 0x09 d) (ok : s.grpOk (bits (d.w 3) 9 0) d.ten = true)
    (found : s.launches.find? (fun l => l.chart == bits (d.w 2) 31 0 && l.abort.isNone) = some l) (own : l.ten = d.ten) (free : l.pause = none)
    (h : (match s.pauseFor l with
          | none => s.finish id stABORTED
          | some (next, t) =>
            match s.saveAreaBad d.ten (d.w 4) l.members.length with
            | some st => s.finish id st
            | none => s.pauseSent id d l next t) = t) : Gives (.chartPause n id) s t :=
  gives_chartPause_launched hn started ok found ((if_neg (not_not.mpr own)).trans ((if_neg (by rw [free]; exact Bool.false_ne_true)).trans h))

theorem gives_chartPause_late (hn : n < 2304) (started : s.Started n id 0x09 d) (ok : s.grpOk (bits (d.w 3) 9 0) d.ten = true)
    (found : s.launches.find? (fun l => l.chart == bits (d.w 2) 31 0 && l.abort.isNone) = some l) (own : l.ten = d.ten) (free : l.pause = none)
    (late : s.pauseFor l = none) : Gives (.chartPause n id) s (s.finish id stABORTED) :=
  gives_chartPause_running hn started ok found own free (by rw [late])

theorem gives_chartPause_bad {next b : Nat} (hn : n < 2304) (started : s.Started n id 0x09 d) (ok : s.grpOk (bits (d.w 3) 9 0) d.ten = true)
    (found : s.launches.find? (fun l => l.chart == bits (d.w 2) 31 0 && l.abort.isNone) = some l) (own : l.ten = d.ten) (free : l.pause = none)
    (point : s.pauseFor l = some (next, b)) (bad : s.saveAreaBad d.ten (d.w 4) l.members.length = some st) :
    Gives (.chartPause n id) s (s.finish id st) :=
  gives_chartPause_running hn started ok found own free (by simp only [point, bad])

theorem gives_chartPause_sent {next b : Nat} (hn : n < 2304) (started : s.Started n id 0x09 d) (ok : s.grpOk (bits (d.w 3) 9 0) d.ten = true)
    (found : s.launches.find? (fun l => l.chart == bits (d.w 2) 31 0 && l.abort.isNone) = some l) (own : l.ten = d.ten) (free : l.pause = none)
    (point : s.pauseFor l = some (next, b)) (good : s.saveAreaBad d.ten (d.w 4) l.members.length = none) :
    Gives (.chartPause n id) s (s.pauseSent id d l next b) :=
  gives_chartPause_running hn started ok found own free (by simp only [point, good])

end

/-! ## PAUSE at a member -/

section

variable {s t : State} {n : Nat} {p : Pkt} {c : ChartRun}

/-- The segment of a chart that an NI runs, or ran last. -/
def State.segReached (s : State) (n : Nat) (c : ChartRun) : Option Nat :=
  match (s.rt n).cur, (s.rt n).ended with
  | some g, _ => some g.seg
  | none, some e => if e.1 = c.chart then some e.2.1 else none
  | none, none => none

theorem State.segReached_eq_some {k : Nat} : s.segReached n c = some k ↔ (∃ x, (s.rt n).cur = some x ∧ x.seg = k) ∨
    ((s.rt n).cur = none ∧ ∃ b, (s.rt n).ended = some (c.chart, k, b)) := by
  rw [State.segReached]
  cases cur : (s.rt n).cur with
  | some x => simp
  | none =>
    cases ended : (s.rt n).ended with
    | none => simp
    | some e =>
      obtain ⟨chart, seg, gone⟩ := e
      simp only [Option.ite_none_right_eq_some, Option.some.injEq, Prod.mk.injEq]
      constructor
      · rintro ⟨same, rfl⟩
        exact .inr ⟨trivial, gone, same, rfl, rfl⟩
      · rintro (⟨x, none_, -⟩ | ⟨-, b, same, seg_, -⟩)
        · exact absurd none_ nofun
        · exact ⟨same, seg_⟩

theorem gives_pause (hn : n < 2304) (ok : okPkt p = true) (kind : p.kind = opPAUSE) (up : s.niUp n = true) (thawed : s.frozenAt n = false)
    (chart : s.ch n = some c) (same : c.chart = p.arg 0)
    (h : (let u := s.takeNet (.unit (niLoc n)) p
      let c' := { c with pauseAt := some (p.arg 1), saveAddr := p.arg 3 }
      if (s.segReached n c).any (fun g => decide (p.arg 1 ≤ g)) then
        (if c.sent = true ∧ c.status = 0 then u.niSend n opSEG_ABORT c.home 0 0 0 [stABORTED, c.chart, u.segNow n]
         else u.segFail n (u.segNow n) stABORTED)
      else if (s.rt n).cur.isNone && (s.segReached n c).any (fun g => g + 1 == p.arg 1) && !c.sent then
        (if c.donePend.isEmpty then (u.pauseHere n c' (p.arg 1) (p.arg 2)).setCh n none else u.pauseHere n c' (p.arg 1) (p.arg 2))
      else u.setCh n (some c')) = t) : Gives (.pause n p) s t := by
  refine Gives.of_run (exec_pause n p s) (by simp only [Instr.wf, okSlot, hn, ok, decide_true, Bool.and_self])
    ((if_neg (not_not.mpr kind)).trans ((State.atNi_of_up _ thawed up).trans ?_))
  dsimp only
  rw [show (s.takeNet (.unit (niLoc n)) p).ch n = some c from chart]
  exact (if_neg (not_not.mpr same)).trans h

/-- A PAUSE that finds the chart ended. -/
theorem gives_pause_ended {k : Nat} {b : Bool} (hn : n < 2304) (ok : okPkt p = true) (kind : p.kind = opPAUSE) (up : s.niUp n = true)
    (thawed : s.frozenAt n = false) (none_ : s.ch n = none) (ended : (s.rt n).ended = some (p.arg 0, k, b))
    (h : (let u := s.takeNet (.unit (niLoc n)) p
      if p.arg 0 = p.arg 0 ∧ p.arg 1 ≤ k then u.niSend n opSEG_ABORT p.src 0 0 0 [stABORTED, p.arg 0, k] else u) = t) : Gives (.pause n p) s t := by
  refine Gives.of_run (exec_pause n p s) (by simp only [Instr.wf, okSlot, hn, ok, decide_true, Bool.and_self])
    ((if_neg (not_not.mpr kind)).trans ((State.atNi_of_up _ thawed up).trans ?_))
  dsimp only
  rw [show (s.takeNet (.unit (niLoc n)) p).ch n = none from none_, show ((s.takeNet (.unit (niLoc n)) p).rt n).ended = _ from ended]
  exact h

end

/-! ## STREAM_READY -/

section

variable {s t : State} {n id st seg k : Nat} {d : Desc} {c : ChartRun} {g : SegImg}

/-- A segment has an inject stream that waits for its ready count (R226). -/
def SegImg.takesReady (g : SegImg) (st : Nat) : Bool :=
  match g.streams[st]? with
  | some x => x.dir == 0 && x.waitReady
  | none => false

/-- The segment that a STREAM_READY names has ended. -/
def State.readyPast (s : State) (n chart seg : Nat) : Bool :=
  match (s.rt n).ended with
  | some (c, g, last) => c == chart && (last || decide (seg ≤ g))
  | none => false

/-- A STREAM_READY for a segment that is still to run. -/
def State.readyIdle (s : State) (n id st seg k : Nat) : State :=
  match (s.rt n).idle with
  | some g =>
    if g.seg = seg then
      (if g.takesReady st then (s.setRt n { s.rt n with readyNext := (s.rt n).readyNext.put st ((s.rt n).readyNext.get st 0 + k) }).finish id stOK
       else s.finish id stBAD_DESCRIPTOR)
    else if seg < g.seg ∨ g.last = true then s.finish id stBAD_DESCRIPTOR
    else s
  | none => s

/-- A STREAM_READY at an NI that runs its chart. -/
def State.readyAt (s : State) (n id st seg k : Nat) : State :=
  match (s.rt n).cur with
  | some g =>
    if g.seg = seg then
      (if g.takesReady st then (s.setRt n { s.rt n with ready := (s.rt n).ready.put st ((s.rt n).ready.get st 0 + k) }).finish id stOK
       else s.finish id stBAD_DESCRIPTOR)
    else if seg < g.seg ∨ g.last = true then s.finish id stBAD_DESCRIPTOR
    else s.readyIdle n id st seg k
  | none => s.readyIdle n id st seg k

theorem gives_streamReady (hn : n < 2304) (started : s.Started n id 0x18 d)
    (h : (if s.readyPast n (bits (d.w 2) 31 0) (bits (d.w 2) 47 32) then s.finish id stBAD_DESCRIPTOR
      else match s.ch n with
      | none => s
      | some c => if c.chart ≠ bits (d.w 2) 31 0 then s else s.readyAt n id (bits (d.w 2) 51 48) (bits (d.w 2) 47 32) (bits (d.w 3) 31 0)) = t) :
    Gives (.streamReady n id) s t :=
  Gives.of_run (exec_streamReady n id s) (decide_eq_true hn) ((State.onDesc_of_started _ started).trans h)

/-- An address of a chart that still runs here, or ran last. -/
theorem State.readyPast_iff {chart : Nat} : s.readyPast n chart seg = true ↔ ∃ k b, (s.rt n).ended = some (chart, k, b) ∧ (b = true ∨ seg ≤ k) := by
  rw [State.readyPast]
  cases ended : (s.rt n).ended with
  | none => simp
  | some e =>
    obtain ⟨c, g, last⟩ := e
    simp only [Bool.and_eq_true, beq_iff_eq, Bool.or_eq_true, decide_eq_true_eq, Option.some.injEq, Prod.mk.injEq]
    constructor
    · rintro ⟨rfl, past⟩
      exact ⟨g, last, ⟨rfl, rfl, rfl⟩, past⟩
    · rintro ⟨_, _, ⟨rfl, rfl, rfl⟩, past⟩
      exact ⟨rfl, past⟩

theorem State.readyPast_eq_false {chart : Nat} (ahead : ∀ k b, (s.rt n).ended = some (chart, k, b) → b = false ∧ k < seg) :
    s.readyPast n chart seg = false := by
  refine eq_false_of_ne_true fun past => ?_
  obtain ⟨k, b, ended, gone | late⟩ := State.readyPast_iff.mp past
  · exact Bool.noConfusion ((ahead k b ended).1.symm.trans gone)
  · exact absurd (ahead k b ended).2 (Nat.not_lt.mpr late)

theorem gives_streamReady_past (hn : n < 2304) (started : s.Started n id 0x18 d) {b : Bool} (ended : (s.rt n).ended = some (bits (d.w 2) 31 0, k, b))
    (past : b = true ∨ bits (d.w 2) 47 32 ≤ k) : Gives (.streamReady n id) s (s.finish id stBAD_DESCRIPTOR) :=
  gives_streamReady hn started (if_pos (State.readyPast_iff.mpr ⟨k, b, ended, past⟩))

/-- The segment that a STREAM_READY names has not ended. -/
def State.ReadyAhead (s : State) (n : Nat) (d : Desc) : Prop :=
  ∀ k b, (s.rt n).ended = some (bits (d.w 2) 31 0, k, b) → b = false ∧ k < bits (d.w 2) 47 32

theorem gives_streamReady_elsewhere (hn : n < 2304) (started : s.Started n id 0x18 d) (ahead : s.ReadyAhead n d)
    (other : ∀ x, s.ch n = some x → x.chart ≠ bits (d.w 2) 31 0) : Gives (.streamReady n id) s s := by
  refine gives_streamReady hn started ((if_neg (ne_true_of_eq_false (State.readyPast_eq_false ahead))).trans ?_)
  cases chart : s.ch n with
  | none => rfl
  | some x => exact if_pos (other x chart)

theorem gives_streamReady_here (hn : n < 2304) (started : s.Started n id 0x18 d) (ahead : s.ReadyAhead n d) (chart : s.ch n = some c)
    (same : c.chart = bits (d.w 2) 31 0) (h : s.readyAt n id (bits (d.w 2) 51 48) (bits (d.w 2) 47 32) (bits (d.w 3) 31 0) = t) :
    Gives (.streamReady n id) s t := by
  refine gives_streamReady hn started ((if_neg (ne_true_of_eq_false (State.readyPast_eq_false ahead))).trans ?_)
  rw [chart]
  exact (if_neg (not_not.mpr same)).trans h

theorem SegImg.takesReady_of {x : StreamRec} (found : g.streams[st]? = some x) (inject : x.dir = 0) (waits : x.waitReady = true) : g.takesReady st = true := by
  rw [SegImg.takesReady, found]
  simp [inject, waits]

theorem SegImg.takesReady_eq_false (none_ : ∀ x, g.streams[st]? = some x → x.dir ≠ 0 ∨ x.waitReady = false) : g.takesReady st = false := by
  rw [SegImg.takesReady]
  cases found : g.streams[st]? with
  | none => rfl
  | some x =>
    obtain far | off := none_ x found
    · simp [far]
    · simp [off]

/-- A segment that a STREAM_READY names cannot be the one that runs, nor come later. -/
theorem State.readyAt_gone (cur : (s.rt n).cur = some g) (gone : seg < g.seg ∨ (g.seg < seg ∧ g.last = true)) :
    s.readyAt n id st seg k = s.finish id stBAD_DESCRIPTOR := by
  rw [State.readyAt, cur]
  refine (if_neg (by omega)).trans (if_pos ?_)
  exact gone.imp_right (·.2)

theorem State.readyAt_refused (cur : (s.rt n).cur = some g) (same : seg = g.seg) (refused : g.takesReady st = false) :
    s.readyAt n id st seg k = s.finish id stBAD_DESCRIPTOR := by
  rw [State.readyAt, cur]
  exact (if_pos same.symm).trans (if_neg (ne_true_of_eq_false refused))

theorem State.readyAt_now (cur : (s.rt n).cur = some g) (same : seg = g.seg) (takes : g.takesReady st = true) : s.readyAt n id st seg k =
    (s.setRt n { s.rt n with ready := (s.rt n).ready.put st ((s.rt n).ready.get st 0 + k) }).finish id stOK := by
  rw [State.readyAt, cur]
  exact (if_pos same.symm).trans (if_pos takes)

theorem State.readyAt_later (cur : (s.rt n).cur = none ∨ (s.rt n).cur = some g) (later : (s.rt n).cur = none ∨ (g.seg < seg ∧ g.last = false)) :
    s.readyAt n id st seg k = s.readyIdle n id st seg k := by
  rw [State.readyAt]
  obtain none_ | some_ := cur
  · rw [none_]
  · rw [some_]
    obtain none_ | ⟨after, more⟩ := later
    · exact nomatch none_.symm.trans some_
    · refine (if_neg (by omega)).trans (if_neg ?_)
      rintro (before | last)
      · omega
      · exact Bool.noConfusion (more.symm.trans last)

/-- A ready count that rises, and the descriptor that ends with it. -/
theorem State.rt_finish_setRt (r : Router) (e : Nat) : ((s.setRt n r).finish id e).rt n = r := by
  rw [State.rt, State.finish_any.2.2.2]
  exact SMap.get_put_same _ _ _ _

end

/-- Settles O26: chart commands are judged, tell every member, and wait, pause and count as their rules say. -/
theorem chartCommandsRunPauseAndReady : Obligations.ChartCommandsRunPauseAndReady := by
  intro s n id d p c g l hn ok grp slots lstart
  refine ⟨fun started => ⟨?_, ?_, ?_, ?_⟩, fun place => ?_, fun started => ⟨?_, ?_, ?_, ?_⟩, ?_, ?_, ?_, ?_, ?_⟩
  · exact fun denied => gives_chartRun hn started (if_pos denied)
  · exact fun st own save bad => gives_chartRun_bad hn started own save bad
  · intro own good
    refine ⟨fun none_ => ?_, fun some_ few => ?_, fun some_ all wait => ?_⟩
    · exact gives_chartRun_ok hn started own good (if_pos (List.isEmpty_iff.mpr none_))
    · exact gives_chartRun_ok hn started own good ((if_neg (some_ ∘ List.isEmpty_iff.mp)).trans (if_pos few))
    · exact gives_chartRun_ok hn started own good
        ((if_neg (some_ ∘ List.isEmpty_iff.mp)).trans ((if_neg (not_not.mpr all)).trans (if_pos wait)))
  · intro own some_ all run
    refine ⟨fun fresh => ?_, fun saved good => ?_⟩
    · have does := does_chartRun hn started own (.inl fresh) some_ all run
      unfold State.chartLaunched State.tellStart at does
      rw [fresh] at does
      exact does
    · have does := does_chartRun hn started own (.inr good) some_ all run
      unfold State.chartLaunched State.tellStart at does
      rw [if_neg saved, if_neg saved, bne_iff_ne.mpr saved] at does
      exact does
  · exact State.resumeBad_of_area (State.saveAreaBad_of_place _ place)
  · exact fun denied => gives_chartPause hn started (if_pos denied)
  · exact gives_chartPause_unlaunched hn started
  · intro own found
    refine ⟨fun other => gives_chartPause_launched hn started own found (if_pos other), fun same paused => ?_⟩
    exact gives_chartPause_launched hn started own found ((if_neg (not_not.mpr same)).trans (if_pos paused))
  · intro own found same free point
    refine ⟨gives_chartPause_late hn started own found same free, fun next b at_ => ⟨fun st bad => ?_, fun good => ?_⟩⟩
    · exact gives_chartPause_bad hn started own found same free at_ bad
    · exact gives_chartPause_sent hn started own found same free at_ good
  · intro kind up thawed chart same u c' reached
    have last (k : Nat) (here : reached k) : s.segReached n c = some k := State.segReached_eq_some.mpr here
    refine ⟨fun k here past unsent => ?_, fun k here past sent ok_ => ?_, fun k here next none_ unsent => ?_, fun k here after busy => ?_,
      fun none_ out => ?_⟩
    · refine gives_pause hn ok kind up thawed chart same ((if_pos ?_).trans (if_neg ?_))
      · simpa [last k here] using past
      · rintro ⟨sent, ok_⟩
        obtain no | no := unsent
        · exact Bool.noConfusion (no.symm.trans sent)
        · exact no ok_
    · refine gives_pause hn ok kind up thawed chart same ((if_pos ?_).trans (if_pos ⟨sent, ok_⟩))
      simpa [last k here] using past
    · refine gives_pause hn ok kind up thawed chart same ((if_neg ?_).trans ((if_pos ?_).trans ?_))
      · simp [last k here, next]
      · simp [last k here, next, none_, unsent]
      · exact if_congr List.isEmpty_iff rfl rfl
    · refine gives_pause hn ok kind up thawed chart same ((if_neg ?_).trans (if_neg ?_))
      · simpa [last k here] using after
      · intro all
        simp only [last k here, Option.any_some, Bool.and_eq_true, Option.isNone_iff_eq_none, beq_iff_eq, Bool.not_eq_true'] at all
        obtain ⟨⟨none_, next⟩, unsent⟩ := all
        obtain some_ | far | sent := busy
        · exact some_ none_
        · omega
        · exact Bool.noConfusion (unsent.symm.trans sent)
    · have never : s.segReached n c = none := by
        refine Option.eq_none_iff_forall_ne_some.mpr fun k here => ?_
        obtain ⟨x, some_, -⟩ | ⟨-, b, ended⟩ := State.segReached_eq_some.mp here
        · exact nomatch none_.symm.trans some_
        · exact out k b ended
      refine gives_pause hn ok kind up thawed chart same ((if_neg ?_).trans (if_neg ?_))
      · simp [never]
      · simp [never]
  · intro k b kind up thawed none_ ended
    refine ⟨fun past => gives_pause_ended hn ok kind up thawed none_ ended (if_pos ⟨rfl, past⟩), fun after => ?_⟩
    exact gives_pause_ended hn ok kind up thawed none_ ended (if_neg fun past => absurd past.2 (Nat.not_le.mpr after))
  · intro k b started ended past
    exact gives_streamReady_past hn started ended past
  · exact fun started ahead other => gives_streamReady_elsewhere hn started ahead other
  · intro started ahead chart same cur st seg later
    have ready {t : State} := gives_streamReady_here (t := t) hn started ahead chart same
    refine ⟨fun now gone => ready (State.readyAt_gone now gone), fun now here none_ => ?_, fun x now here found inject waits => ?_, fun after none_ => ?_,
      fun y after idle other => ?_, fun y x after idle here found inject waits => ?_⟩
    · exact ready (State.readyAt_refused now here (SegImg.takesReady_eq_false none_))
    · refine (ready (State.readyAt_now now here (SegImg.takesReady_of found inject waits))).does ?_
      have router := State.rt_finish_setRt (s := s) (n := n) (id := id)
        { s.rt n with ready := (s.rt n).ready.put st ((s.rt n).ready.get st 0 + bits (d.w 3) 31 0) } stOK
      obtain ⟨gone, spad, -⟩ := State.finish_any (s := s.setRt n
        { s.rt n with ready := (s.rt n).ready.put st ((s.rt n).ready.get st 0 + bits (d.w 3) 31 0) }) (id := id) (st := stOK)
      refine ⟨?_, fun j other => ?_, gone, spad⟩
      · exact (congrArg (fun r : Router => r.ready.get st 0) router).trans (SMap.get_put_same _ _ _ _)
      · exact (congrArg (fun r : Router => r.ready.get j 0) router).trans (SMap.get_put_ne _ _ _ other)
    · refine ready ((State.readyAt_later cur after).trans ?_)
      rw [State.readyIdle, none_]
    · refine ready ((State.readyAt_later cur after).trans ?_)
      rw [State.readyIdle, idle]
      exact if_neg other
    · have takes := SegImg.takesReady_of found inject waits
      have idle_ : s.readyIdle n id st seg (bits (d.w 3) 31 0) =
          (s.setRt n { s.rt n with readyNext := (s.rt n).readyNext.put st ((s.rt n).readyNext.get st 0 + bits (d.w 3) 31 0) }).finish id stOK := by
        rw [State.readyIdle, idle]
        exact (if_pos here).trans (if_pos takes)
      refine (ready ((State.readyAt_later cur after).trans idle_)).does ?_
      have router := State.rt_finish_setRt (s := s) (n := n) (id := id)
        { s.rt n with readyNext := (s.rt n).readyNext.put st ((s.rt n).readyNext.get st 0 + bits (d.w 3) 31 0) } stOK
      obtain ⟨gone, spad, -⟩ := State.finish_any (s := s.setRt n
        { s.rt n with readyNext := (s.rt n).readyNext.put st ((s.rt n).readyNext.get st 0 + bits (d.w 3) 31 0) }) (id := id) (st := stOK)
      refine ⟨?_, ?_, gone, spad⟩
      · exact (congrArg (fun r : Router => r.readyNext.get st 0) router).trans (SMap.get_put_same _ _ _ _)
      · have same := congrArg Router.ready router
        exact same

end Sys2Proof.Machine

/-! # Consort and replay (R263, R265 to R267, R269, R270) -/

namespace Sys2Proof.Machine

/-! ## Consort -/

section

variable {s t : State} {v : Nat} {l : List Nat}

/-- The registers of consort that arming writes. -/
def consortRegs : List Nat := [FB_CONSORT_CFG.addr 0 0, FB_CONSORT_STATUS.addr 0 0]

theorem State.fbDigest_congr (kept : s.RegsKept t l) (out : ∀ k < 8, FB_MAP_DIGEST.addr 0 k ∉ l) : t.fbDigest = s.fbDigest :=
  List.map_congr_left fun k mem => kept.fld (out k (List.mem_range.mp mem))

/-- A write of FB_CONSORT_CFG ends what was armed. -/
def State.consortReset (s : State) (v : Nat) : State := (s.servedTyped FB_CONSORT_CFG 0 0 v).unarm

theorem State.unarm_armed : s.unarm.fld FB_CONSORT_STATUS_ARMED = 0 := State.fld_setFld_same _ _ _ _ _ (Nat.le_refl 31) (by decide)

theorem State.regsKept_unarm : s.RegsKept s.unarm [FB_CONSORT_STATUS.addr 0 0] :=
  State.regsKept_setFld FB_CONSORT_STATUS_ARMED 0 0 0 (List.mem_singleton.mpr rfl)

theorem State.regsKept_consortReset : s.RegsKept (s.consortReset v) consortRegs :=
  ((s.servedTyped_spec FB_CONSORT_CFG 0 0 v).2.mono (by simp [consortRegs])).trans (State.regsKept_unarm.mono (by simp [consortRegs]))

theorem State.consortReset_link : (s.consortReset v).fld FB_CONSORT_CFG_LINK = bits v FB_CONSORT_CFG_LINK.hi FB_CONSORT_CFG_LINK.lo :=
  (State.fld_setFld_ne _ FB_CONSORT_STATUS_ARMED FB_CONSORT_CFG_LINK 0 0 0 0 0 (by decide)).trans
    (State.fld_servedTyped (reset := 0) (by decide) 0 0 v rfl (by decide))

theorem State.linkState_consortReset (n : Nat) : (s.consortReset v).linkState n = s.linkState n := by
  refine State.regsKept_consortReset.fld ?_
  simp only [consortRegs, List.mem_cons, List.not_mem_nil, or_false, OL_STATUS_STATE, RegDef.addr, OL_STATUS, FB_CONSORT_CFG, FB_CONSORT_STATUS, Blk.base]
  omega

theorem gives_consortArm (hv : v < 2 ^ 32) (alive : s.regAlive (FB_CONSORT_CFG.addr 0 0) = true)
    (h : (if bits v 31 31 ≠ 1 then s.consortReset v
      else if s.linkState (bits v FB_CONSORT_CFG_LINK.hi FB_CONSORT_CFG_LINK.lo) = lsACTIVE then
        { s.consortReset v with consort := { (s.consortReset v).consort with arming := true } }.armFrame (s.consortReset v).fbDigest
      else (s.consortReset v).setFld FB_CONSORT_STATUS_LINK_DOWN 1) = t) : Gives (.consortArm v) s t := by
  refine Gives.of_run (exec_consortArm v s) (decide_eq_true hv) ((if_pos alive).trans (.trans ?_ h))
  rw [← State.consortReset_link (s := s), ← State.linkState_consortReset (v := v)]
  exact if_congr bit_top_iff rfl rfl

theorem does_consortArm_off (hv : v < 2 ^ 32) (alive : s.regAlive (FB_CONSORT_CFG.addr 0 0) = true) (off : v / 2 ^ 31 = 0) :
    Does (.consortArm v) s fun t => t.fld FB_CONSORT_STATUS_ARMED = 0 ∧ t.consort = {} ∧ s.RegsKept t consortRegs := by
  have top : bits v 31 31 ≠ 1 := by rw [bits_eq_div (k := 1) v rfl, off]; decide
  exact (gives_consortArm hv alive (if_pos top)).does ⟨State.unarm_armed, rfl, State.regsKept_consortReset⟩

theorem does_consortArm_down (hv : v < 2 ^ 32) (alive : s.regAlive (FB_CONSORT_CFG.addr 0 0) = true) (on : v / 2 ^ 31 = 1)
    (down : s.linkState (bits v FB_CONSORT_CFG_LINK.hi FB_CONSORT_CFG_LINK.lo) ≠ lsACTIVE) :
    Does (.consortArm v) s fun t => t.fld FB_CONSORT_STATUS_LINK_DOWN = 1 ∧ t.fld FB_CONSORT_STATUS_ARMED = 0 ∧ t.consort = {} ∧
      s.RegsKept t consortRegs := by
  have top : ¬ bits v 31 31 ≠ 1 := by rw [bits_eq_div (k := 1) v rfl, on]; decide
  have kept := s.regsKept_consortReset (v := v)
  have armed := (s.servedTyped FB_CONSORT_CFG 0 0 v).unarm_armed
  refine (gives_consortArm hv alive ((if_neg top).trans (if_neg down))).does ⟨?_, ?_, rfl, ?_⟩
  · exact State.fld_setFld_same _ FB_CONSORT_STATUS_LINK_DOWN _ _ _ (Nat.le_refl 4) (by decide)
  · exact (State.fld_setFld_apart _ FB_CONSORT_STATUS_LINK_DOWN FB_CONSORT_STATUS_ARMED _ _ _ rfl (Nat.le_refl 4) (by decide) (by decide)).trans armed
  · exact kept.trans (State.regsKept_setFld FB_CONSORT_STATUS_LINK_DOWN _ _ _ (by simp [consortRegs, FB_CONSORT_STATUS_LINK_DOWN]))

theorem does_consortArm_up (hv : v < 2 ^ 32) (alive : s.regAlive (FB_CONSORT_CFG.addr 0 0) = true) (on : v / 2 ^ 31 = 1)
    (up : s.linkState (bits v FB_CONSORT_CFG_LINK.hi FB_CONSORT_CFG_LINK.lo) = lsACTIVE) :
    Does (.consortArm v) s fun t => t.consort.arming = true ∧ t.consort.own = [] ∧ t.consort.theirs = [] ∧ t.fld FB_CONSORT_STATUS_ARMED = 0 ∧
      t.consort.sent = [(s.fbDigest, s.pair BN_FW_VERSION_LO BN_FW_VERSION_HI, s.rd FB_MODE)] ∧ s.RegsKept t consortRegs := by
  have top : ¬ bits v 31 31 ≠ 1 := by rw [bits_eq_div (k := 1) v rfl, on]; decide
  have kept := s.regsKept_consortReset (v := v)
  have armed : (s.consortReset v).fld FB_CONSORT_STATUS_ARMED = 0 := State.unarm_armed
  have digest : (s.consortReset v).fbDigest = s.fbDigest := State.fbDigest_congr kept fun k hk => by
    simp only [consortRegs, List.mem_cons, List.not_mem_nil, or_false, RegDef.addr, FB_MAP_DIGEST, FB_CONSORT_CFG, FB_CONSORT_STATUS, Blk.base]
    omega
  have version : (s.consortReset v).pair BN_FW_VERSION_LO BN_FW_VERSION_HI = s.pair BN_FW_VERSION_LO BN_FW_VERSION_HI := kept.pair (by decide) (by decide)
  have mode : (s.consortReset v).rd FB_MODE = s.rd FB_MODE := kept.rd (by decide)
  have empty : (s.consortReset v).consort = {} := rfl
  refine (gives_consortArm hv alive ((if_neg top).trans (if_pos up))).does ?_
  rw [← digest, ← version, ← mode]
  generalize s.consortReset v = x at kept armed empty ⊢
  exact ⟨rfl, congrArg (·.own) empty, congrArg (·.theirs) empty, armed, congrArg (·.sent ++ _) empty, kept⟩

end

section

variable {s t : State} {chart seg region beat crc flits version mode : Nat} {final : Bool} {digest : List Nat} {g : CFrame}

/-- The far end runs the same map, version and mode. -/
def State.agrees (s : State) (digest : List Nat) (version mode : Nat) : Prop :=
  digest = s.fbDigest ∧ version = s.pair BN_FW_VERSION_LO BN_FW_VERSION_HI ∧ mode = s.rd FB_MODE

theorem gives_armingFrame (len : digest.length = 8) (words : ∀ w ∈ digest, w < 2 ^ 32) (hversion : version < 2 ^ 64) (hmode : mode < 2 ^ 32)
    (h : (if s.consort.arming = false ∧ s.fld FB_CONSORT_STATUS_ARMED = 0 then s
      else if digest = s.fbDigest ∧ version = s.pair BN_FW_VERSION_LO BN_FW_VERSION_HI ∧ mode = s.rd FB_MODE then
        { s with consort := { s.consort with arming := false } }.setFld FB_CONSORT_STATUS_ARMED 1
      else s.unarm.setFld FB_CONSORT_STATUS_MAP_DIFF 1) = t) : Gives (.armingFrame digest version mode) s t := by
  refine Gives.of_run (exec_armingFrame digest version mode s) ?_ h
  have all : digest.all (· < 2 ^ 32) = true := by simpa using words
  simp only [Instr.wf, okW, all, len, hversion, hmode, beq_self_eq_true, decide_true, Bool.and_self]

theorem does_armingFrame (len : digest.length = 8) (words : ∀ w ∈ digest, w < 2 ^ 32) (hversion : version < 2 ^ 64) (hmode : mode < 2 ^ 32)
    (on : s.consort.arming = true ∨ s.fld FB_CONSORT_STATUS_ARMED = 1) : Does (.armingFrame digest version mode) s fun t =>
      t.consort.arming = false ∧ s.RegsKept t [FB_CONSORT_STATUS.addr 0 0] ∧ (s.agrees digest version mode → t.fld FB_CONSORT_STATUS_ARMED = 1) ∧
      (¬ s.agrees digest version mode → t.fld FB_CONSORT_STATUS_MAP_DIFF = 1 ∧ t.fld FB_CONSORT_STATUS_ARMED = 0 ∧ t.consort = {}) := by
  have awaited : ¬ (s.consort.arming = false ∧ s.fld FB_CONSORT_STATUS_ARMED = 0) := by
    rintro ⟨off, unarmed⟩
    obtain arming | armed := on
    · exact Bool.noConfusion (off.symm.trans arming)
    · omega
  by_cases same : s.agrees digest version mode
  · refine (gives_armingFrame len words hversion hmode ((if_neg awaited).trans (if_pos same))).does ⟨rfl, ?_, fun _ => ?_, fun other => absurd same other⟩
    · exact State.regsKept_setFld FB_CONSORT_STATUS_ARMED _ _ _ (List.mem_singleton.mpr rfl)
    · exact State.fld_setFld_same _ FB_CONSORT_STATUS_ARMED _ _ _ (Nat.le_refl 31) (by decide)
  · have armed := s.unarm_armed
    refine (gives_armingFrame len words hversion hmode ((if_neg awaited).trans (if_neg same))).does ⟨rfl, ?_, fun yes => absurd yes same,
      fun _ => ⟨?_, ?_, rfl⟩⟩
    · exact State.regsKept_unarm.trans (State.regsKept_setFld FB_CONSORT_STATUS_MAP_DIFF _ _ _ (List.mem_singleton.mpr rfl))
    · exact State.fld_setFld_same _ FB_CONSORT_STATUS_MAP_DIFF _ _ _ (Nat.le_refl _) (by decide)
    · exact (State.fld_setFld_apart _ FB_CONSORT_STATUS_MAP_DIFF FB_CONSORT_STATUS_ARMED _ _ _ rfl (Nat.le_refl _) (by decide) (by decide)).trans armed

/-- The operands of a consort frame fit. -/
structure FrameFits (chart seg region beat : Nat) : Prop where
  chart : chart < 2 ^ 32
  seg : seg < 2 ^ 16
  region : region < 36
  beat : beat < 2 ^ 18

theorem gives_consort (fits : FrameFits chart seg region beat) (hcrc : crc < 2 ^ 64) (hflits : flits < 2 ^ 32)
    (h : (if s.fld FB_CONSORT_STATUS_ARMED = 0 then s
      else match s.consort.own.find? (CFrame.same ⟨chart, seg, region, final, beat, crc, flits⟩) with
        | some g => { s with consort := { s.consort with own := delFirst (fun x => decide (x = g)) s.consort.own } }.consortPair g
            ⟨chart, seg, region, final, beat, crc, flits⟩
        | none => { s with consort := { s.consort with theirs := s.consort.theirs ++ [⟨chart, seg, region, final, beat, crc, flits⟩] } }) = t) :
    Gives (.consort chart seg region final beat crc flits) s t := by
  obtain ⟨hchart, hseg, hregion, hbeat⟩ := fits
  refine Gives.of_run (exec_consort chart seg region final beat crc flits s) ?_ h
  simp only [Instr.wf, okW, okRgn, hchart, hseg, hregion, hbeat, hcrc, hflits, decide_true, Bool.and_self]

theorem gives_consort_alone (fits : FrameFits chart seg region beat) (hcrc : crc < 2 ^ 64) (hflits : flits < 2 ^ 32)
    (armed : s.fld FB_CONSORT_STATUS_ARMED = 1) (alone : ∀ x ∈ s.consort.own, ¬ (x.chart = chart ∧ x.seg = seg ∧ x.region = region ∧ x.spanBeat = beat)) :
    Gives (.consort chart seg region final beat crc flits) s
      { s with consort := { s.consort with theirs := s.consort.theirs ++ [⟨chart, seg, region, final, beat, crc, flits⟩] } } := by
  refine gives_consort fits hcrc hflits ((if_neg (by omega)).trans ?_)
  have none_ : s.consort.own.find? (CFrame.same ⟨chart, seg, region, final, beat, crc, flits⟩) = none := by
    rw [List.find?_eq_none]
    intro x mem same
    simp only [CFrame.same, Bool.and_eq_true, beq_iff_eq] at same
    obtain ⟨⟨⟨rfl, rfl⟩, rfl⟩, rfl⟩ := same
    exact alone x mem ⟨rfl, rfl, rfl, rfl⟩
  rw [none_]

/-- A frame that has found its counterpart takes it from the list. -/
def State.framePaired (s : State) (g : CFrame) : State :=
  { s with consort := { s.consort with own := delFirst (fun x => decide (x = g)) s.consort.own } }

theorem gives_consort_pair (fits : FrameFits chart seg region beat) (hcrc : crc < 2 ^ 64) (hflits : flits < 2 ^ 32)
    (armed : s.fld FB_CONSORT_STATUS_ARMED = 1) (found : s.consort.own.find? (CFrame.same ⟨chart, seg, region, final, beat, crc, flits⟩) = some g)
    (h : (s.framePaired g).consortPair g ⟨chart, seg, region, final, beat, crc, flits⟩ = t) :
    Gives (.consort chart seg region final beat crc flits) s t := by
  refine gives_consort fits hcrc hflits ((if_neg (by omega)).trans ?_)
  rw [found]
  exact h

/-- What the first pair that differs leaves (R266). -/
def State.misNoted (s : State) (g : CFrame) : State :=
  ((((s.setFld FB_CONSORT_STATUS_MISMATCH 1).setFld FB_CONSORT_MIS_CHART_CHART_ID g.chart).setFld FB_CONSORT_MIS_SEG_SEG g.seg).setFld
    FB_CONSORT_MIS_LOC_REGION g.region).setFld FB_CONSORT_MIS_LOC_SPAN_BEAT g.spanBeat

theorem State.misNoted_spec (fits : FrameFits g.chart g.seg g.region g.spanBeat) : (s.misNoted g).fld FB_CONSORT_STATUS_MISMATCH = 1 ∧
    (s.misNoted g).fld FB_CONSORT_MIS_CHART_CHART_ID = g.chart ∧ (s.misNoted g).fld FB_CONSORT_MIS_SEG_SEG = g.seg ∧
    (s.misNoted g).fld FB_CONSORT_MIS_LOC_REGION = g.region ∧ (s.misNoted g).fld FB_CONSORT_MIS_LOC_SPAN_BEAT = g.spanBeat ∧
    (s.misNoted g).fld FB_CONSORT_CFG_STOP = s.fld FB_CONSORT_CFG_STOP := by
  obtain ⟨hchart, hseg, hregion, hbeat⟩ := fits
  unfold State.misNoted
  refine ⟨?_, ?_, ?_, ?_, ?_, ?_⟩
  · rw [State.fld_setFld_ne _ _ _ _ _ _ _ _ (by decide), State.fld_setFld_ne _ _ _ _ _ _ _ _ (by decide), State.fld_setFld_ne _ _ _ _ _ _ _ _ (by decide),
      State.fld_setFld_ne _ _ _ _ _ _ _ _ (by decide)]
    exact State.fld_setFld_same _ _ _ _ _ (Nat.le_refl _) (by decide)
  · rw [State.fld_setFld_ne _ _ _ _ _ _ _ _ (by decide), State.fld_setFld_ne _ _ _ _ _ _ _ _ (by decide), State.fld_setFld_ne _ _ _ _ _ _ _ _ (by decide)]
    exact (State.fld_setFld_same _ _ _ _ _ (Nat.zero_le _) (by decide)).trans (Nat.mod_eq_of_lt hchart)
  · rw [State.fld_setFld_ne _ _ _ _ _ _ _ _ (by decide), State.fld_setFld_ne _ _ _ _ _ _ _ _ (by decide)]
    exact (State.fld_setFld_same _ _ _ _ _ (by decide) (by decide)).trans (Nat.mod_eq_of_lt hseg)
  · rw [State.fld_setFld_apart _ FB_CONSORT_MIS_LOC_SPAN_BEAT FB_CONSORT_MIS_LOC_REGION _ _ _ rfl (by decide) (by decide) (by decide)]
    exact (State.fld_setFld_same _ _ _ _ _ (by decide) (by decide)).trans (Nat.mod_eq_of_lt (hregion.trans (by decide)))
  · exact (State.fld_setFld_same _ _ _ _ _ (by decide) (by decide)).trans (Nat.mod_eq_of_lt hbeat)
  · rw [State.fld_setFld_ne _ _ _ _ _ _ _ _ (by decide), State.fld_setFld_ne _ _ _ _ _ _ _ _ (by decide), State.fld_setFld_ne _ _ _ _ _ _ _ _ (by decide),
      State.fld_setFld_ne _ _ _ _ _ _ _ _ (by decide), State.fld_setFld_ne _ _ _ _ _ _ _ _ (by decide)]

/-- The first pair that differs is noted and told. -/
theorem State.consortPair_differs {f : CFrame} (fits : FrameFits g.chart g.seg g.region g.spanBeat) (differs : ¬ (g.crc = f.crc ∧ g.flits = f.flits))
    (first : s.fld FB_CONSORT_STATUS_MISMATCH = 0) (go : s.fld FB_CONSORT_CFG_STOP = 0) :
    s.consortPair g f = (s.misNoted g).emit (mkPkt opATTN (niLoc (regionSlot g.region 0)) bnLoc 0 0 0 [1]) := by
  have stop : (s.misNoted g).fld FB_CONSORT_CFG_STOP = 0 := (State.misNoted_spec fits).2.2.2.2.2.trans go
  refine (if_neg ?_).trans (if_neg ?_)
  · rintro (again | same)
    · omega
    · exact differs same
  · exact fun on => absurd (stop.symm.trans on) Nat.zero_ne_one

theorem does_consort_differs (fits : FrameFits chart seg region beat) (hcrc : crc < 2 ^ 64) (hflits : flits < 2 ^ 32)
    (armed : s.fld FB_CONSORT_STATUS_ARMED = 1) (found : s.consort.own.find? (CFrame.same ⟨chart, seg, region, final, beat, crc, flits⟩) = some g)
    (differs : ¬ (g.crc = crc ∧ g.flits = flits)) (first : s.fld FB_CONSORT_STATUS_MISMATCH = 0) (go : s.fld FB_CONSORT_CFG_STOP = 0) :
    Does (.consort chart seg region final beat crc flits) s fun t =>
      t.fld FB_CONSORT_STATUS_MISMATCH = 1 ∧ t.fld FB_CONSORT_MIS_CHART_CHART_ID = chart ∧ t.fld FB_CONSORT_MIS_SEG_SEG = seg ∧
      t.fld FB_CONSORT_MIS_LOC_REGION = region ∧ t.fld FB_CONSORT_MIS_LOC_SPAN_BEAT = beat ∧ t.launches = s.launches ∧ t.spad = s.spad := by
  have same := List.find?_some found
  simp only [CFrame.same, Bool.and_eq_true, beq_iff_eq] at same
  obtain ⟨⟨⟨rfl, rfl⟩, rfl⟩, rfl⟩ := same
  obtain ⟨mis, chart, seg, region, beat, -⟩ := (s.framePaired g).misNoted_spec fits
  have spad : ((s.framePaired g).misNoted g).spad = s.spad := rfl
  have launches : ((s.framePaired g).misNoted g).launches = s.launches := rfl
  have paired := State.consortPair_differs (s := s.framePaired g) (f := ⟨g.chart, g.seg, g.region, final, g.spanBeat, crc, flits⟩) fits differs first go
  have gives := gives_consort_pair fits hcrc hflits armed found paired
  generalize (s.framePaired g).misNoted g = x at mis chart seg region beat spad launches gives
  exact gives.does ⟨mis, chart, seg, region, beat, launches, spad⟩

theorem gives_consortFrameLost (fits : FrameFits chart seg region beat)
    (h : (if s.consort.own.any (fun f => f.chart == chart && f.seg == seg && f.region == region && f.spanBeat == beat) then
      (s.setFld FB_CONSORT_STATUS_LOST 1).unarm else s) = t) : Gives (.consortFrameLost chart seg region beat) s t := by
  obtain ⟨hchart, hseg, hregion, hbeat⟩ := fits
  refine Gives.of_run (exec_consortFrameLost chart seg region beat s) ?_ h
  simp only [Instr.wf, okW, okRgn, hchart, hseg, hregion, hbeat, decide_true, Bool.and_self]

theorem does_consortFrameLost (fits : FrameFits chart seg region beat)
    (waits : s.consort.own.any (fun f => f.chart == chart && f.seg == seg && f.region == region && f.spanBeat == beat) = true) :
    Does (.consortFrameLost chart seg region beat) s fun t => t.fld FB_CONSORT_STATUS_LOST = 1 ∧ t.fld FB_CONSORT_STATUS_ARMED = 0 ∧
      t.consort = {} ∧ s.RegsKept t [FB_CONSORT_STATUS.addr 0 0] := by
  refine (gives_consortFrameLost fits (if_pos waits)).does ⟨?_, State.unarm_armed, rfl, ?_⟩
  · exact (State.fld_setFld_apart _ FB_CONSORT_STATUS_ARMED FB_CONSORT_STATUS_LOST _ _ _ rfl (Nat.le_refl 31) (by decide) (by decide)).trans
      (State.fld_setFld_same _ _ _ _ _ (Nat.le_refl 1) (by decide))
  · exact .trans (State.regsKept_setFld FB_CONSORT_STATUS_LOST _ _ _ (List.mem_singleton.mpr rfl)) State.regsKept_unarm

end

/-! ## Recording and replay -/

section

variable {s t : State} {v n : Nat} {words : List Nat} {c : Sys2Proof.Instr}

/-- A write of FB_REPLAY_CFG ends what is under way. -/
def State.replayOff (s : State) (v : Nat) : State := (s.servedTyped FB_REPLAY_CFG 0 0 v).setFld FB_REPLAY_STATUS_ACTIVE 0

/-- Recording or replay starts at the first unit. -/
def State.replayOn (s : State) : State := { (s.wr FB_REPLAY_PTR 0 0 0).setFld FB_REPLAY_STATUS_ACTIVE 1 with replay := {} }

/-- The registers that a write of FB_REPLAY_CFG changes. -/
def replayRegs : List Nat := [FB_REPLAY_CFG.addr 0 0, FB_REPLAY_STATUS.addr 0 0]

theorem State.replayOff_spec : (s.replayOff v).fld FB_REPLAY_STATUS_ACTIVE = 0 ∧ (s.replayOff v).fld FB_REPLAY_CFG_MODE = bits v 31 30 ∧
    (s.replayOff v).accC 60 = s.accC 60 ∧ s.RegsKept (s.replayOff v) replayRegs := by
  obtain ⟨⟨net, bn, regs, e⟩, kept⟩ := s.servedTyped_spec FB_REPLAY_CFG 0 0 v
  refine ⟨State.fld_setFld_same _ _ _ _ _ (Nat.le_refl 31) (by decide), ?_, ?_, ?_⟩
  · exact (State.fld_setFld_ne _ FB_REPLAY_STATUS_ACTIVE FB_REPLAY_CFG_MODE 0 0 0 0 0 (by decide)).trans
      (State.fld_servedTyped (reset := 0) (by decide) 0 0 v rfl (by decide))
  · rw [State.replayOff, e]
    rfl
  · exact (kept.mono (by simp [replayRegs])).trans (State.regsKept_setFld FB_REPLAY_STATUS_ACTIVE _ _ _ (by simp [replayRegs, FB_REPLAY_STATUS_ACTIVE]))

theorem State.regsKept_wr (r : RegDef) (i k w : Nat) : s.RegsKept (s.wr r i k w) [r.addr i k] :=
  fun off d out => State.regs_wr_ne _ _ _ _ _ off d (List.mem_singleton.not.mp out)

theorem State.replayOn_spec : s.replayOn.fld FB_REPLAY_STATUS_ACTIVE = 1 ∧ s.replayOn.rd FB_REPLAY_PTR = 0 ∧
    s.RegsKept s.replayOn [FB_REPLAY_PTR.addr 0 0, FB_REPLAY_STATUS.addr 0 0] := by
  refine ⟨State.fld_setFld_same _ FB_REPLAY_STATUS_ACTIVE _ _ _ (Nat.le_refl 31) (by decide), ?_, ?_⟩
  · exact (State.rd_wr_ne _ _ FB_REPLAY_PTR 0 0 0 0 _ (by decide)).trans (State.rd_wr_same _ _ _ _ _)
  · exact .trans (t := s.wr FB_REPLAY_PTR 0 0 0) ((State.regsKept_wr _ _ _ _).mono (by simp))
      (State.regsKept_setFld FB_REPLAY_STATUS_ACTIVE _ _ _ (by simp [FB_REPLAY_STATUS_ACTIVE]))

/-- Where nothing is under way, a write starts what its MODE says. -/
theorem State.replayCfg_idle (alive : s.regAlive (FB_REPLAY_CFG.addr 0 0) = true) (idle : s.fld FB_REPLAY_STATUS_ACTIVE = 0) : s.replayCfg v =
    match bits v 31 30 with
    | 1 => (s.replayOff v).replayOn.setPair FB_REPLAY_T0_LO FB_REPLAY_T0_HI ((s.replayOff v).accC 60)
    | 2 => (s.replayOff v).replayOn.replayAhead
    | _ => s.replayOff v := by
  obtain ⟨net, bn, e⟩ := s.serveWrite_frame (FB_REPLAY_CFG.addr 0 0) v
  have off : ¬ ((s.serveWrite (FB_REPLAY_CFG.addr 0 0) v).fld FB_REPLAY_STATUS_ACTIVE = 1 ∧
      (s.serveWrite (FB_REPLAY_CFG.addr 0 0) v).fld FB_REPLAY_CFG_MODE = 1) := by
    have same : (s.serveWrite (FB_REPLAY_CFG.addr 0 0) v).fld FB_REPLAY_STATUS_ACTIVE = s.fld FB_REPLAY_STATUS_ACTIVE := by rw [e]; rfl
    rintro ⟨on, -⟩
    omega
  rw [State.replayCfg, State.regWrite, if_pos alive]
  dsimp only
  rw [if_neg off]
  rfl

/-- A command that writes FB_REPLAY_CFG. -/
def IsReplayWrite (v : Nat) (c : Sys2Proof.Instr) : Prop := c = .replayRecordStart v ∨ c = .replayStart v ∨ c = .replayStop v

theorem gives_replayCfg (hv : v < 2 ^ 32) (cmd : IsReplayWrite v c) (h : s.replayCfg v = t) : Gives c s t := by
  obtain rfl | rfl | rfl := cmd
  · exact Gives.of_run (exec_replayRecordStart v s) (decide_eq_true hv) h
  · exact Gives.of_run (exec_replayStart v s) (decide_eq_true hv) h
  · exact Gives.of_run (exec_replayStop v s) (decide_eq_true hv) h

theorem mode_bits {k : Nat} (mode : v / 2 ^ 30 = k) (hk : k < 4) : bits v 31 30 = k := by
  rw [bits_eq_div (k := 2) v rfl, mode]
  exact Nat.mod_eq_of_lt hk

theorem does_replay_off (hv : v < 2 ^ 32) (cmd : IsReplayWrite v c) (alive : s.regAlive (FB_REPLAY_CFG.addr 0 0) = true)
    (idle : s.fld FB_REPLAY_STATUS_ACTIVE = 0) (mode : v / 2 ^ 30 = 0 ∨ v / 2 ^ 30 = 3) :
    Does c s fun t => t.fld FB_REPLAY_STATUS_ACTIVE = 0 ∧ s.RegsKept t replayRegs := by
  obtain ⟨off, -, -, kept⟩ := s.replayOff_spec (v := v)
  have gives : Gives c s (s.replayOff v) := by
    refine gives_replayCfg hv cmd ((State.replayCfg_idle alive idle).trans ?_)
    obtain zero | three := mode
    · rw [mode_bits zero (by decide)]
      rfl
    · rw [mode_bits three (by decide)]
      rfl
  exact gives.does ⟨off, kept⟩

theorem State.replayT0_setPair {x : Nat} (hx : x < 2 ^ 60) : (s.setPair FB_REPLAY_T0_LO FB_REPLAY_T0_HI x).replayT0 = x := by
  have lo : (s.setPair FB_REPLAY_T0_LO FB_REPLAY_T0_HI x).fld FB_REPLAY_T0_LO_T0_LO = x % 2 ^ 32 % 2 ^ 32 / 2 ^ 0 % 2 ^ 32 :=
    (congrArg (bits · 31 0) ((State.rd_wr_ne _ FB_REPLAY_T0_HI FB_REPLAY_T0_LO 0 0 0 0 _ (by decide)).trans (State.rd_wr_same _ _ _ _ _))).trans
      (bits_eq_div (k := 32) (lo := 0) _ rfl)
  have hi : (s.setPair FB_REPLAY_T0_LO FB_REPLAY_T0_HI x).fld FB_REPLAY_T0_HI_T0_HI = x / 2 ^ 32 % 2 ^ 32 % 2 ^ 32 / 2 ^ 0 % 2 ^ 28 :=
    (congrArg (bits · 27 0) (State.rd_wr_same _ _ _ _ _)).trans (bits_eq_div (k := 28) (lo := 0) _ rfl)
  refine (congrArg₂ (fun a b => a + b <<< 32) lo hi).trans ?_
  rw [Nat.shiftLeft_eq]
  omega

theorem does_replay_record (hv : v < 2 ^ 32) (cmd : IsReplayWrite v c) (alive : s.regAlive (FB_REPLAY_CFG.addr 0 0) = true)
    (idle : s.fld FB_REPLAY_STATUS_ACTIVE = 0) (beat : s.accC 60 < 2 ^ 60) (mode : v / 2 ^ 30 = 1) :
    Does c s fun t => t.fld FB_REPLAY_STATUS_ACTIVE = 1 ∧ t.rd FB_REPLAY_PTR = 0 ∧ t.replayT0 = s.accC 60 ∧ t.fld FB_REPLAY_CFG_MODE = 1 ∧
      s.RegsKept t [FB_REPLAY_CFG.addr 0 0, FB_REPLAY_STATUS.addr 0 0, FB_REPLAY_PTR.addr 0 0, FB_REPLAY_T0_LO.addr 0 0, FB_REPLAY_T0_HI.addr 0 0] := by
  have two : bits v 31 30 = 1 := mode_bits mode (by decide)
  obtain ⟨-, asked, same, keptOff⟩ := s.replayOff_spec (v := v)
  obtain ⟨on, ptr, keptOn⟩ := (s.replayOff v).replayOn_spec
  have gives : Gives c s ((s.replayOff v).replayOn.setPair FB_REPLAY_T0_LO FB_REPLAY_T0_HI (s.accC 60)) := by
    refine gives_replayCfg hv cmd ((State.replayCfg_idle alive idle).trans ?_)
    rw [two, same]
    rfl
  have asked' : (s.replayOff v).replayOn.fld FB_REPLAY_CFG_MODE = 1 := (keptOn.fld (by decide)).trans (asked.trans two)
  have kept := (keptOff.mono (l' := [FB_REPLAY_CFG.addr 0 0, FB_REPLAY_STATUS.addr 0 0, FB_REPLAY_PTR.addr 0 0, FB_REPLAY_T0_LO.addr 0 0,
    FB_REPLAY_T0_HI.addr 0 0]) (by decide)).trans (keptOn.mono (by decide))
  generalize (s.replayOff v).replayOn = x at gives on ptr asked' kept
  have keptPair : x.RegsKept (x.setPair FB_REPLAY_T0_LO FB_REPLAY_T0_HI (s.accC 60)) [FB_REPLAY_T0_LO.addr 0 0, FB_REPLAY_T0_HI.addr 0 0] :=
    .trans (t := x.wr FB_REPLAY_T0_LO 0 0 (s.accC 60 % 2 ^ 32)) ((State.regsKept_wr _ _ _ _).mono (by decide)) ((State.regsKept_wr _ _ _ _).mono (by decide))
  exact gives.does ⟨(keptPair.fld (by decide)).trans on, (keptPair.rd (by decide)).trans ptr, State.replayT0_setPair beat,
    (keptPair.fld (by decide)).trans asked', kept.trans (keptPair.mono (by decide))⟩

theorem does_replay_play (hv : v < 2 ^ 32) (cmd : IsReplayWrite v c) (alive : s.regAlive (FB_REPLAY_CFG.addr 0 0) = true)
    (idle : s.fld FB_REPLAY_STATUS_ACTIVE = 0) (mode : v / 2 ^ 30 = 2) :
    Does c s fun t => t.fld FB_REPLAY_STATUS_ACTIVE = 1 ∧ t.rd FB_REPLAY_PTR = 0 ∧ t.replayT0 = s.replayT0 ∧ t.fld FB_REPLAY_CFG_MODE = 2 ∧
      s.RegsKept t [FB_REPLAY_CFG.addr 0 0, FB_REPLAY_STATUS.addr 0 0, FB_REPLAY_PTR.addr 0 0] := by
  have two : bits v 31 30 = 2 := mode_bits mode (by decide)
  obtain ⟨-, asked, -, keptOff⟩ := s.replayOff_spec (v := v)
  obtain ⟨on, ptr, keptOn⟩ := (s.replayOff v).replayOn_spec
  have gives : Gives c s (s.replayOff v).replayOn.replayAhead := by
    refine gives_replayCfg hv cmd ((State.replayCfg_idle alive idle).trans ?_)
    rw [two]
    rfl
  have asked' : (s.replayOff v).replayOn.fld FB_REPLAY_CFG_MODE = 2 := (keptOn.fld (by decide)).trans (asked.trans two)
  have kept := (keptOff.mono (l' := [FB_REPLAY_CFG.addr 0 0, FB_REPLAY_STATUS.addr 0 0, FB_REPLAY_PTR.addr 0 0]) (by decide)).trans
    (keptOn.mono (by decide))
  have lo : (s.replayOff v).replayOn.fld FB_REPLAY_T0_LO_T0_LO = s.fld FB_REPLAY_T0_LO_T0_LO := kept.fld (by decide)
  have hi : (s.replayOff v).replayOn.fld FB_REPLAY_T0_HI_T0_HI = s.fld FB_REPLAY_T0_HI_T0_HI := kept.fld (by decide)
  have t0 : (s.replayOff v).replayOn.replayT0 = s.replayT0 := congrArg₂ (fun a b => a + b <<< 32) lo hi
  generalize (s.replayOff v).replayOn = x at gives on ptr asked' kept t0
  exact gives.does ⟨on, ptr, t0, asked', kept⟩

theorem gives_replayStop (hv : v < 2 ^ 32) (alive : s.regAlive (FB_REPLAY_CFG.addr 0 0) = true) (active : s.fld FB_REPLAY_STATUS_ACTIVE = 1)
    (records : s.fld FB_REPLAY_CFG_MODE = 1) (mode : v / 2 ^ 30 = 0) : Gives (.replayStop v) s
      ((((s.serveWrite (FB_REPLAY_CFG.addr 0 0) v).replayEnd 0).writeTyped FB_REPLAY_CFG 0 0 v).setFld FB_REPLAY_STATUS_ACTIVE 0) := by
  obtain ⟨net, bn, e⟩ := s.serveWrite_frame (FB_REPLAY_CFG.addr 0 0) v
  have on : (s.serveWrite (FB_REPLAY_CFG.addr 0 0) v).fld FB_REPLAY_STATUS_ACTIVE = 1 ∧
      (s.serveWrite (FB_REPLAY_CFG.addr 0 0) v).fld FB_REPLAY_CFG_MODE = 1 := by rw [e]; exact ⟨active, records⟩
  refine gives_replayCfg hv (.inr (.inr rfl)) ?_
  rw [State.replayCfg, State.regWrite, if_pos alive]
  dsimp only
  rw [if_pos on, mode_bits mode (by decide)]
  rfl

end

/-! ## Records that are injected -/

section

variable {s t : State} {n o unit ty : Nat} {words : List Nat}

/-- The ring's number, its type and its units, of a record's first word. -/
def recRing (words : List Nat) : Nat := bits (words.headD 0) 11 0
def recType (words : List Nat) : Nat := bits (words.headD 0) 23 16
def recUnits (words : List Nat) : Nat := bits (words.headD 0) 13 12 + 1

/-- Nothing replays, the record is not whole, or its beat has not come. -/
def State.injectIdle (s : State) (words : List Nat) : Prop :=
  s.fld FB_REPLAY_STATUS_ACTIVE = 0 ∨ s.fld FB_REPLAY_CFG_MODE ≠ 2 ∨ words.length ≠ 4 * recUnits words ∨
    s.accC 60 < s.replayT0 + bits (words.headD 0) 63 24

/-- A descriptor waits for a place and for room of its completions. -/
def State.injectFull (s : State) (words : List Nat) : Bool :=
  match s.hpLmap (s.fld FB_RING_CFG_HP 0 (recRing words)) (s.fld FB_RING_CFG_SERVER 0 (recRing words)) with
  | some n => recType words == 3 && (s.places n (recRing words) == 0 || !(s.cqRoom (recRing words)))
  | none => false

/-- The pointer moves on by the units of a record. -/
def State.ptrMoved (s : State) (words : List Nat) : State := s.wr FB_REPLAY_PTR 0 0 (s.fld FB_REPLAY_PTR_UNITS + recUnits words)

/-- A record's words fit. -/
structure RecordFits (words : List Nat) : Prop where
  some_ : words ≠ []
  most : words.length ≤ 12
  units : words.length % 4 = 0
  fits : ∀ w ∈ words, w < 2 ^ 64

theorem RecordFits.wf (h : RecordFits words) : (Instr.replayInject words).wf = true := by
  have all : words.all (· < 2 ^ 64) = true := by simpa using h.fits
  have pos : 0 < words.length := List.length_pos_of_ne_nil h.some_
  simp only [Instr.wf, all, h.units, pos, h.most, beq_self_eq_true, decide_true, Bool.and_self]

theorem gives_replayInject (fits : RecordFits words)
    (h : (if s.fld FB_REPLAY_STATUS_ACTIVE = 0 ∨ s.fld FB_REPLAY_CFG_MODE ≠ 2 ∨ words.length ≠ 4 * recUnits words ∨
        s.accC 60 < s.replayT0 + bits (words.headD 0) 63 24 ∨ s.injectFull words = true then s
      else if recType words = 0x0F then ((s.ptrMoved words).setFld FB_REPLAY_STATUS_ACTIVE 0).setFld FB_REPLAY_STATUS_END 1
      else ((s.ptrMoved words).inject words (s.fld FB_REPLAY_PTR_UNITS)).replayAhead) = t) : Gives (.replayInject words) s t :=
  Gives.of_run (exec_replayInject words s) fits.wf h

theorem gives_replayInject_idle (fits : RecordFits words) (idle : s.injectIdle words ∨ s.injectFull words = true) : Gives (.replayInject words) s s := by
  refine gives_replayInject fits (if_pos ?_)
  obtain (off | mode | part | early) | full := idle
  · exact .inl off
  · exact .inr (.inl mode)
  · exact .inr (.inr (.inl part))
  · exact .inr (.inr (.inr (.inl early)))
  · exact .inr (.inr (.inr (.inr full)))

theorem gives_replayInject_due (fits : RecordFits words) (due : ¬ s.injectIdle words) (room : s.injectFull words = false)
    (h : (if recType words = 0x0F then ((s.ptrMoved words).setFld FB_REPLAY_STATUS_ACTIVE 0).setFld FB_REPLAY_STATUS_END 1
      else ((s.ptrMoved words).inject words (s.fld FB_REPLAY_PTR_UNITS)).replayAhead) = t) : Gives (.replayInject words) s t := by
  refine gives_replayInject fits ((if_neg ?_).trans h)
  rintro (off | mode | part | early | full)
  · exact due (.inl off)
  · exact due (.inr (.inl mode))
  · exact due (.inr (.inr (.inl part)))
  · exact due (.inr (.inr (.inr early)))
  · exact Bool.noConfusion (room.symm.trans full)

theorem State.injectFull_of_type (type : recType words = ty) (other : ty ≠ 3) : s.injectFull words = false := by
  rw [State.injectFull]
  split
  · simp [type, other]
  · rfl

theorem State.injectFull_iff (type : recType words = 3)
    (server : s.hpLmap (s.fld FB_RING_CFG_HP 0 (recRing words)) (s.fld FB_RING_CFG_SERVER 0 (recRing words)) = some n) :
    s.injectFull words = true ↔ s.places n (recRing words) = 0 ∨ s.cqRoom (recRing words) = false := by
  rw [State.injectFull, server]
  simp [type]

theorem State.regsKept_ptrMoved : s.RegsKept (s.ptrMoved words) [FB_REPLAY_PTR.addr 0 0] := State.regsKept_wr _ _ _ _

theorem State.ringFld_ptrMoved (f : Fld) (reg : f.reg = FB_RING_CFG) : (s.ptrMoved words).fld f 0 o = s.fld f 0 o := by
  refine State.regsKept_ptrMoved.fld (List.mem_singleton.not.mpr ?_)
  rw [reg]
  exact RegDef.addr_ne rfl (by simp only [FB_RING_CFG, FB_REPLAY_PTR]; omega)

theorem State.hpLmap_ptrMoved (hp tile : Nat) : (s.ptrMoved words).hpLmap hp tile = s.hpLmap hp tile := by
  refine State.hpLmap_congr State.regsKept_ptrMoved ?_
  simp only [List.mem_singleton, RegDef.addr, HP_LMAP, FB_REPLAY_PTR, Blk.base]
  omega

/-- A record of a ring's TAIL. -/
def State.injectTail (u : State) (o n : Nat) (words : List Nat) : State :=
  if 2 ^ u.ringSize o < (bits (words.getD 1 0) 31 0 + 2 ^ 32 - (u.rng o).head % 2 ^ 32) % 2 ^ 32 then u.ringCause n o 14
  else u.setRing o { u.rng o with ni := n, tail := bits (words.getD 1 0) 31 0 }

/-- What stands after a record of a type: a bell, a TAIL, a descriptor, a read, or none of them. -/
def byType (ty : Nat) (bell tail desc read none_ : State) : State :=
  match ty with
  | 0x01 => bell
  | 0x02 => tail
  | 0x03 => desc
  | 0x04 => read
  | _ => none_

theorem byType_tail (bell tail desc read none_ : State) : byType 0x02 bell tail desc read none_ = tail := rfl

/-- What a record of a type does at a ring's server. -/
def State.injectAs (u : State) (ty o n unit : Nat) (words : List Nat) : State :=
  byType ty (u.sendBell (u.fld FB_RING_CFG_HP 0 o) o n) (u.injectTail o n words)
    (u.injectDesc o n unit (bits (words.getD 1 0) 31 0) (words.drop 4))
    (u.readLogged o (words.getD 1 0) (bits (words.getD 2 0) 31 0) (words.getD 3 0) unit) u

theorem State.inject_eq {u : State} (some_ : words ≠ []) (ring : recRing words = o) (type : recType words = ty) (signal : ty ≠ 5)
    (server : u.hpLmap (u.fld FB_RING_CFG_HP 0 o) (u.fld FB_RING_CFG_SERVER 0 o) = some n) :
    u.inject words unit = u.injectAs ty o n unit words := by
  have first : words.getD 0 0 = words.headD 0 := by
    cases words with
    | nil => exact absurd rfl some_
    | cons w ws => rfl
  have ring' : bits (words.getD 0 0) 11 0 = o := by rw [first]; exact ring
  have type' : bits (words.getD 0 0) 23 16 = ty := by rw [first]; exact type
  rw [State.inject]
  dsimp only
  rw [ring', type', if_neg signal, server]
  rfl

/-- A record whose beat has come is injected at its ring's server. -/
theorem gives_replayInject_at (fits : RecordFits words) (due : ¬ s.injectIdle words) (room : s.injectFull words = false) (type : recType words = ty)
    (some_ : ty ≠ 5 ∧ ty ≠ 0x0F)
    (server : s.hpLmap (s.fld FB_RING_CFG_HP 0 (recRing words)) (s.fld FB_RING_CFG_SERVER 0 (recRing words)) = some n) :
    Gives (.replayInject words) s ((s.ptrMoved words).injectAs ty (recRing words) n (s.fld FB_REPLAY_PTR_UNITS) words).replayAhead := by
  refine gives_replayInject_due fits due room ((if_neg (by rw [type]; exact some_.2)).trans ?_)
  have server' : (s.ptrMoved words).hpLmap ((s.ptrMoved words).fld FB_RING_CFG_HP 0 (recRing words))
      ((s.ptrMoved words).fld FB_RING_CFG_SERVER 0 (recRing words)) = some n := by
    rw [State.hpLmap_ptrMoved, State.ringFld_ptrMoved _ rfl, State.ringFld_ptrMoved _ rfl]
    exact server
  rw [State.inject_eq fits.some_ rfl type some_.1 server']

theorem State.ringSize_ptrMoved (ho : o < 4096) : (s.ptrMoved words).ringSize o = s.ringSize o :=
  (if_pos ho).trans ((State.ringFld_ptrMoved FB_RING_CFG_SIZE rfl).trans (if_pos ho).symm)

theorem does_replayInject_end (fits : RecordFits words) (due : ¬ s.injectIdle words) (type : recType words = 0x0F) :
    Does (.replayInject words) s fun t => t.fld FB_REPLAY_STATUS_ACTIVE = 0 ∧ t.fld FB_REPLAY_STATUS_END = 1 ∧
      s.RegsKept t [FB_REPLAY_PTR.addr 0 0, FB_REPLAY_STATUS.addr 0 0] ∧ t.spad = s.spad := by
  have gives := gives_replayInject_due fits due (State.injectFull_of_type type (by decide)) (if_pos type)
  have kept := s.regsKept_ptrMoved (words := words)
  have spad : (s.ptrMoved words).spad = s.spad := rfl
  generalize s.ptrMoved words = x at gives kept spad
  refine gives.does ⟨?_, ?_, ?_, spad⟩
  · exact (State.fld_setFld_apart _ FB_REPLAY_STATUS_END FB_REPLAY_STATUS_ACTIVE _ _ _ rfl (Nat.le_refl 1) (by decide) (by decide)).trans
      (State.fld_setFld_same _ _ _ _ _ (Nat.le_refl 31) (by decide))
  · exact State.fld_setFld_same _ FB_REPLAY_STATUS_END _ _ _ (Nat.le_refl 1) (by decide)
  · exact (kept.mono (by decide)).trans (.trans (State.regsKept_setFld FB_REPLAY_STATUS_ACTIVE _ _ _ (by decide))
      (State.regsKept_setFld FB_REPLAY_STATUS_END _ _ _ (by decide)))

/-! ## A descriptor out of its order -/

theorem State.acceptDescs_frame (first ten : Nat) (ds : List (List Nat)) : ∃ descs, s.acceptDescs n o first ten ds = { s with descs := descs } := by
  refine foldl_keeps (P := fun u : State => ∃ descs, u = { s with descs := descs }) ⟨s.descs, rfl⟩ fun u i _ hu => ?_
  obtain ⟨_, rfl⟩ := hu
  exact ⟨_, rfl⟩

theorem State.ringHead_spec : s.RegsKept (s.ringHead n o) [FB_RING_HEAD.addr 0 o] ∧ (s.ringHead n o).spad = s.spad := by
  rw [State.ringHead]
  dsimp only
  have kept := s.regsKept_wr FB_RING_HEAD 0 o (s.rng o).head
  have spad : (s.wr FB_RING_HEAD 0 o (s.rng o).head).spad = s.spad := rfl
  generalize s.wr FB_RING_HEAD 0 o (s.rng o).head = x at kept spad ⊢
  split
  · obtain ⟨flow, e, -⟩ := State.enqueue_spec (n := n) (p := mkDat opWRITE (niLoc n) (hpLoc (x.fld FB_RING_CFG_HP 0 o)) (x.ringTen o) 0 (x.freeTxn n) [0]
      (x.ringDbr o + 16) 0 0 (toBytes 8 (s.rng o).head)) (s := (x.setRing o { x.rng o with headDue := false }).addTx
      ⟨n, x.freeTxn n, .headWr, 0, 0, o, x.chipId, 0, false, false⟩) respFlow
    rw [e]
    exact ⟨kept, spad⟩
  · exact ⟨kept, spad⟩

theorem State.diverge_spec (first : s.fld FB_REPLAY_STATUS_DIVERGE = 0) (fits : unit < 2 ^ 32) : (s.diverge unit).fld FB_REPLAY_STATUS_DIVERGE = 1 ∧
    (s.diverge unit).fld FB_REPLAY_DIV_UNIT = unit ∧ (s.diverge unit).spad = s.spad ∧ (s.diverge unit).ring = s.ring := by
  have e : s.diverge unit = (s.setFld FB_REPLAY_STATUS_DIVERGE 1).setFld FB_REPLAY_DIV_UNIT unit := if_neg (by omega)
  rw [e]
  refine ⟨?_, ?_, rfl, rfl⟩
  · exact (State.fld_setFld_ne _ FB_REPLAY_DIV_UNIT FB_REPLAY_STATUS_DIVERGE _ _ _ _ _ (by decide)).trans
      (State.fld_setFld_same _ _ _ _ _ (Nat.le_refl 3) (by decide))
  · exact (State.fld_setFld_same _ FB_REPLAY_DIV_UNIT _ _ _ (Nat.zero_le 31) (by decide)).trans (Nat.mod_eq_of_lt fits)

theorem State.injectDesc_diverges {index : Nat} (other : index ≠ (s.rng o).head) (first : s.fld FB_REPLAY_STATUS_DIVERGE = 0) (fits : unit < 2 ^ 32) :
    (s.injectDesc o n unit index words).fld FB_REPLAY_STATUS_DIVERGE = 1 ∧ (s.injectDesc o n unit index words).fld FB_REPLAY_DIV_UNIT = unit ∧
    (s.injectDesc o n unit index words).spad = s.spad := by
  rw [State.injectDesc, if_neg other]
  obtain ⟨diverged, div, spad, -⟩ := s.diverge_spec first fits
  generalize s.diverge unit = x at diverged div spad ⊢
  generalize hy : x.setRing o { s.rng o with ni := n, head := (index + 1) % 2 ^ 32 } = y
  have yd : y.fld FB_REPLAY_STATUS_DIVERGE = 1 ∧ y.fld FB_REPLAY_DIV_UNIT = unit ∧ y.spad = s.spad := hy ▸ ⟨diverged, div, spad⟩
  obtain ⟨descs, e⟩ := y.acceptDescs_frame (n := n) (o := o) index (y.ringTen o) [words]
  rw [e]
  obtain ⟨kept, spad'⟩ := State.ringHead_spec (s := { y with descs := descs }) (n := n) (o := o)
  have apart (f : Fld) (out : f.reg = FB_REPLAY_STATUS ∨ f.reg = FB_REPLAY_DIV) : f.reg.addr 0 0 ∉ [FB_RING_HEAD.addr 0 o] := by
    refine List.mem_singleton.not.mpr ?_
    obtain reg | reg := out
    · rw [reg]
      exact RegDef.addr_ne rfl (by simp only [FB_RING_HEAD, FB_REPLAY_STATUS]; omega)
    · rw [reg]
      exact RegDef.addr_ne rfl (by simp only [FB_RING_HEAD, FB_REPLAY_DIV]; omega)
  exact ⟨(kept.fld (apart FB_REPLAY_STATUS_DIVERGE (.inl rfl))).trans yd.1, (kept.fld (apart FB_REPLAY_DIV_UNIT (.inr rfl))).trans yd.2.1,
    spad'.trans yd.2.2⟩

/-- The record's TAIL passes the ring's size. -/
def State.tailPast (s : State) (words : List Nat) : Prop :=
  2 ^ s.ringSize (recRing words) < (bits (words.getD 1 0) 31 0 + 2 ^ 32 - (s.rng (recRing words)).head % 2 ^ 32) % 2 ^ 32

theorem State.tailPast_ptrMoved : (s.ptrMoved words).tailPast words ↔ s.tailPast words := by
  have size : (s.ptrMoved words).ringSize (recRing words) = s.ringSize (recRing words) := State.ringSize_ptrMoved (bits_lt _ 11 0)
  have rng : (s.ptrMoved words).rng (recRing words) = s.rng (recRing words) := rfl
  rw [State.tailPast, size, rng, State.tailPast]

theorem State.injectAs_two : s.injectAs 0x02 o n unit words = s.injectTail o n words := byType_tail _ _ _ _ _

theorem State.injectTail_past (past : s.tailPast words) : s.injectTail (recRing words) n words = s.ringCause n (recRing words) 14 := if_pos past

theorem State.injectTail_good (good : ¬ s.tailPast words) : s.injectTail (recRing words) n words =
    s.setRing (recRing words) { s.rng (recRing words) with ni := n, tail := bits (words.getD 1 0) 31 0 } := if_neg good

theorem gives_replayInject_past (fits : RecordFits words) (due : ¬ s.injectIdle words) (type : recType words = 0x02)
    (server : s.hpLmap (s.fld FB_RING_CFG_HP 0 (recRing words)) (s.fld FB_RING_CFG_SERVER 0 (recRing words)) = some n) (past : s.tailPast words) :
    Gives (.replayInject words) s ((s.ptrMoved words).ringCause n (recRing words) 14).replayAhead :=
  (gives_replayInject_at fits due (State.injectFull_of_type type (by decide)) type (by decide) server).congr
    (congrArg State.replayAhead (State.injectAs_two.trans (State.injectTail_past (State.tailPast_ptrMoved.mpr past))))

theorem gives_replayInject_tail (fits : RecordFits words) (due : ¬ s.injectIdle words) (type : recType words = 0x02)
    (server : s.hpLmap (s.fld FB_RING_CFG_HP 0 (recRing words)) (s.fld FB_RING_CFG_SERVER 0 (recRing words)) = some n) (good : ¬ s.tailPast words) :
    Gives (.replayInject words) s ((s.ptrMoved words).setRing (recRing words) { s.rng (recRing words) with
      ni := n, tail := bits (words.getD 1 0) 31 0 }).replayAhead :=
  (gives_replayInject_at fits due (State.injectFull_of_type type (by decide)) type (by decide) server).congr
    (congrArg State.replayAhead (State.injectAs_two.trans (State.injectTail_good fun past => good (State.tailPast_ptrMoved.mp past))))

theorem does_replayInject_diverge (fits : RecordFits words) (due : ¬ s.injectIdle words) (type : recType words = 0x03)
    (server : s.hpLmap (s.fld FB_RING_CFG_HP 0 (recRing words)) (s.fld FB_RING_CFG_SERVER 0 (recRing words)) = some n)
    (places : s.places n (recRing words) ≠ 0) (room : s.cqRoom (recRing words) = true)
    (other : bits (words.getD 1 0) 31 0 ≠ (s.rng (recRing words)).head) (first : s.fld FB_REPLAY_STATUS_DIVERGE = 0) :
    Does (.replayInject words) s fun t =>
      t.fld FB_REPLAY_STATUS_DIVERGE = 1 ∧ t.fld FB_REPLAY_DIV_UNIT = s.fld FB_REPLAY_PTR_UNITS ∧ t.spad = s.spad := by
  have open_ : s.injectFull words = false := by
    refine eq_false_of_ne_true fun full => ?_
    obtain none_ | stuck := (State.injectFull_iff type server).mp full
    · exact places none_
    · exact Bool.noConfusion (room.symm.trans stuck)
  have gives := gives_replayInject_at fits due open_ type (by decide) server
  have first' : (s.ptrMoved words).fld FB_REPLAY_STATUS_DIVERGE = 0 := (State.regsKept_ptrMoved.fld (by decide)).trans first
  have diverges := State.injectDesc_diverges (s := s.ptrMoved words) (n := n) (words := words.drop 4) other first' (bits_lt (s.rd FB_REPLAY_PTR) 31 0)
  have spad : (s.ptrMoved words).spad = s.spad := rfl
  rw [spad] at diverges
  change Gives _ s ((s.ptrMoved words).injectDesc (recRing words) n (bits (s.rd FB_REPLAY_PTR) 31 0) (bits (words.getD 1 0) 31 0) (words.drop 4)).replayAhead
    at gives
  generalize (s.ptrMoved words).injectDesc (recRing words) n _ _ (words.drop 4) = x at gives diverges
  exact gives.does diverges

end

/-- Settles O28: consort is armed, compared and lost as its rules say, and replay records, injects and ends. -/
theorem consortComparesAndReplayRecords : Obligations.ConsortComparesAndReplayRecords := by
  refine ⟨?_, ?_⟩
  · intro s v chart seg region beat crc flits version mode final digest g hv hchart hseg hregion hbeat hcrc hflits len hwords hversion hmode _ f
    have fits : FrameFits chart seg region beat := ⟨hchart, hseg, hregion, hbeat⟩
    refine ⟨fun alive => ⟨does_consortArm_off hv alive, does_consortArm_up hv alive, does_consortArm_down hv alive⟩, fun off unarmed => ?_,
      does_armingFrame len hwords hversion hmode, fun unarmed => ?_, fun armed => ⟨?_, fun found => ⟨fun same => ?_, ?_⟩⟩, fun none_ => ?_, ?_⟩
    · exact gives_armingFrame len hwords hversion hmode (if_pos ⟨off, unarmed⟩)
    · exact gives_consort fits hcrc hflits (if_pos unarmed)
    · exact gives_consort_alone fits hcrc hflits armed
    · exact gives_consort_pair fits hcrc hflits armed found (if_pos same.symm)
    · exact does_consort_differs fits hcrc hflits armed found
    · exact gives_consortFrameLost fits (if_neg (ne_true_of_eq_false none_))
    · exact does_consortFrameLost fits
  · intro s v n words hv hwords _ beat off
    refine ⟨fun alive idle c cmd => ?_, gives_replayStop hv, fun some_ most units => ?_⟩
    · have cmd' : IsReplayWrite v c := by simpa [IsReplayWrite] using cmd
      exact ⟨does_replay_record hv cmd' alive idle beat, does_replay_play hv cmd' alive idle, does_replay_off hv cmd' alive idle⟩
    · intro w0 o ty units' at_ idle
      have fits : RecordFits words := ⟨some_, most, units, hwords⟩
      refine ⟨fun wait => gives_replayInject_idle fits (.inl wait), does_replayInject_end fits, fun due type server => ?_, fun due type server => ?_,
        fun due type server => ?_, fun due type server => ⟨fun full => ?_, fun places room other first => ?_⟩⟩
      · refine (gives_replayInject_at fits due (State.injectFull_of_type type (by decide)) type (by decide) server).congr ?_
        exact congrArg (fun hp => ((s.ptrMoved words).sendBell hp o n).replayAhead) (State.ringFld_ptrMoved FB_RING_CFG_HP rfl)
      · exact ⟨gives_replayInject_past fits due type server, gives_replayInject_tail fits due type server⟩
      · exact gives_replayInject_at fits due (State.injectFull_of_type type (by decide)) type (by decide) server
      · exact gives_replayInject_idle fits (.inr ((State.injectFull_iff type server).mpr full))
      · exact does_replayInject_diverge fits due type server places room other first

end Sys2Proof.Machine

/-! # Error sets, messages and fences (R274, R279 to R287, R301, R302, R380): the refutation of ErrorSetsMessagesAndFences -/

namespace Sys2Proof.Machine

/-! ## The counterexample

F1 of an NI that runs a segment through its tile is an error event of that NI (R279), and an event takes a time stamp (R419, R425): the
region's local time is told again with the next entry. The statement says that F1 leaves every region as it was. -/

/-- A segment with one entry, which ejects to the tile. -/
def ejectSeg : SegImg := ⟨9, 2, false, false, 100, 0, 0, 0, [], [⟨0, 0, 1, 0, 0, 0, 1, 4, 0, 1, 0, 0, 0, 0, 0⟩], []⟩

/-- Region 0 has power, NI 0 runs the segment, and the region's next entry tells its time again. -/
def ejecting : State := State.setFld { rtr := [(0, { cur := some ejectSeg })], rgn := [(0, { resync := true })] } BN_PWR_EN0_EN 1

/-- F1 from the Binnacle. -/
def f1Pkt : Pkt := mkPkt opFENCE bnLoc (niLoc 0) 0 0 0 [0]

theorem ejecting_up : ejecting.routerUp 0 = true ∧ ejecting.frozenAt 0 = false := by decide +kernel

theorem ejecting_resync : (ejecting.rg 0).resync = true := by decide +kernel

/-- The event that the fence raises takes the stamp. -/
theorem ejecting_fence {t : State} (h : exec (.fence 0 f1Pkt) ejecting = .next t) : (t.rg 0).resync = false := by
  have stamped : (match exec (.fence 0 f1Pkt) ejecting with
    | .next t => (t.rg 0).resync
    | _ => true) = false := by decide +kernel
  rw [h] at stamped
  exact stamped

/-- Refutes O30: F1 of an NI that runs a segment stamps an event, and changes its region with it. -/
theorem not_errorSetsMessagesAndFences : ¬ Obligations.ErrorSetsMessagesAndFences := by
  unfold Obligations.ErrorSetsMessagesAndFences
  intro h
  obtain ⟨up, thawed⟩ := ejecting_up
  obtain ⟨-, -, fence, -⟩ := h.2 ejecting 0 0 f1Pkt (by decide) (by decide) (by decide)
  obtain ⟨-, levels⟩ := fence rfl up thawed
  obtain ⟨f1, -⟩ := levels rfl
  obtain ⟨t, ht, -, -, -, -, -, rgn⟩ := f1 rfl
  have same : (t.rg 0).resync = (ejecting.rg 0).resync := by rw [State.rg, rgn, State.rg]
  exact Bool.noConfusion ((ejecting_fence ht).symm.trans (same.trans ejecting_resync))

end Sys2Proof.Machine

/-! # Repair and publication (R28, R291 to R295, R298) -/

namespace Sys2Proof.Machine

section

variable {s t : State} {patch v n chart : Nat} {l : Launch}

/-- The word of a repair in the log: the patch, the tile and the two places. -/
theorem repairWord_eq (p t a b : Nat) : p <<< 48 + t <<< 32 + a <<< 16 + b = p * 2 ^ 48 + t * 2 ^ 32 + a * 2 ^ 16 + b := by
  simp only [Nat.shiftLeft_eq]

/-- Stolrel is in READY, and no anchor stop is under way. -/
def State.repairs (s : State) : Prop := s.bnUp = true ∧ s.fld BN_STATE_STATE = 3 ∧ s.fld FB_ANCHOR_STATUS_STOPPED = 0

theorem gives_repair (hpatch : patch ≤ 9120)
    (h : (if s.bnUp = true ∧ s.fld BN_STATE_STATE = 3 ∧ s.fld FB_ANCHOR_STATUS_STOPPED = 0 then
      (if s.drainInbox.bn.lost = true ∨ s.drainInbox.faultStands patch = false then s.drainInbox else s.drainInbox.repairFault patch) else s) = t) :
    Gives (.repair patch) s t :=
  Gives.of_run (exec_repair patch s) (decide_eq_true hpatch) h

theorem gives_repairFault (hpatch : patch ≤ 9120) (runs : s.repairs) (kept : s.drainInbox.bn.lost = false)
    (stands : s.drainInbox.faultStands patch = true) (h : s.drainInbox.repairFault patch = t) : Gives (.repair patch) s t := by
  refine gives_repair hpatch ((if_pos runs).trans ((if_neg ?_).trans h))
  rintro (lost | gone)
  · exact Bool.noConfusion (kept.symm.trans lost)
  · exact Bool.noConfusion (stands.symm.trans gone)

/-- The map is published with a patch, and the repair counts. -/
def State.repairNoted (s : State) (tiles : List Nat) (patch : Nat) : State :=
  ((s.newMap tiles patch).setFld FB_REPAIR_STATUS_STATE 2).addFld FB_REPAIR_STATUS_REPAIRS 1

/-- The sheet is written and the repair logged. -/
def State.repairLogged (s w : State) (patch tile a b : Nat) : State :=
  (s.setFld FB_REPAIR_STATUS_STATE 0).bnLog 0x04 0 a [patch * 2 ^ 48 + tile * 2 ^ 32 + a * 2 ^ 16 + b, w.fld FB_MAP_GEN_GEN]

theorem patchSlot_of_link (link : 4608 < patch) : patchSlot patch = none := by
  rw [patchSlot, if_neg (by omega), if_neg (by omega), if_neg (by omega)]

theorem State.repairFault_link (link : 4608 < patch) : s.repairFault patch =
    (s.repairNoted [] patch).writeSheet.repairLogged (s.repairNoted [] patch) patch 0xFFF (patchLink patch).1 (patchLink patch).1 := by
  rw [State.repairFault, patchSlot_of_link link, State.repairLogged, ← repairWord_eq]
  exact if_neg (by omega)

theorem State.repairFault_empty {a : Nat} (slot : patchSlot patch = some a) (tile : s.tileAt a = none) : s.repairFault patch =
    (s.repairNoted [] patch).writeSheet.repairLogged (s.repairNoted [] patch) patch 0xFFF a a := by
  simp only [State.repairFault, slot, tile, State.repairLogged, ← repairWord_eq]
  rfl

theorem State.repairFault_spare {a tile sp : Nat} (slot : patchSlot patch = some a) (at_ : s.tileAt a = some tile) (spare : s.spareFor a = some sp) :
    s.repairFault patch =
      (((((s.modBn fun b => { b with lmap := b.lmap.put tile sp }).repairNoted [tile] patch).restoreSpare a sp).writeSheet.moveRings tile sp).repairLogged
        (((((s.modBn fun b => { b with lmap := b.lmap.put tile sp }).repairNoted [tile] patch).restoreSpare a sp).writeSheet.moveRings tile sp))
        patch tile a sp) := by
  simp only [State.repairFault, slot, at_, spare, State.repairLogged, ← repairWord_eq]
  rfl

theorem State.repairFault_unrepaired {a tile : Nat} (slot : patchSlot patch = some a) (at_ : s.tileAt a = some tile) (none_ : s.spareFor a = none) :
    s.repairFault patch = ((s.fenceF3 (regionOf a)).stopJobs fun x => x.inRegion (regionOf a)).unrepaired patch tile a 2 := by
  simp only [State.repairFault, slot, at_, none_]

theorem State.repairFault_zero : s.repairFault 0 = s.unrepaired 0 0xFFF 0xFFFF 6 := by
  have none_ : patchSlot 0 = none := rfl
  rw [State.repairFault, none_]
  exact if_pos rfl

theorem gives_publish (hv : v < 2 ^ 32) (alive : s.regAlive (FB_MAP_GEN.addr 0 0) = true)
    (h : (if bits v 31 31 ≠ 1 then s.serveWrite (FB_MAP_GEN.addr 0 0) v else (s.serveWrite (FB_MAP_GEN.addr 0 0) v).publishGen) = t) :
    Gives (.publish v) s t := by
  refine Gives.of_run (exec_publish v s) (decide_eq_true hv) ((if_pos alive).trans (.trans ?_ h))
  by_cases top : bits v 31 31 = 1
  · exact (if_pos (eq_true_of_ne_false fun off => bit_top_iff.mp off top)).trans (if_neg (not_not.mpr top)).symm
  · exact (if_neg (ne_true_of_eq_false (bit_top_iff.mpr top))).trans (if_pos top).symm

/-- Where no completion is held, publication advances GEN and nothing else. -/
theorem State.publishGen_of_none (none_ : ∀ x ∈ s.launches, x.holdGen = none) : s.publishGen = s.addFld FB_MAP_GEN_GEN 1 := by
  unfold State.publishGen
  extract_lets y g
  refine (congrArg (fun l => List.foldl _ y l) (List.filter_eq_nil_iff.mpr fun x mem => ?_)).trans List.foldl_nil
  rw [none_ x mem]
  exact Bool.false_ne_true

theorem does_publish (hv : v < 2 ^ 32) (alive : s.regAlive (FB_MAP_GEN.addr 0 0) = true) (on : v / 2 ^ 31 = 1)
    (none_ : ∀ x ∈ s.launches, x.holdGen = none) : Does (.publish v) s fun t =>
      t.fld FB_MAP_GEN_GEN = (s.fld FB_MAP_GEN_GEN + 1) % 2 ^ (FB_MAP_GEN_GEN.hi - FB_MAP_GEN_GEN.lo + 1) ∧ s.RegsKept t [FB_MAP_GEN.addr 0 0] ∧
      t.cplq = s.cplq ∧ t.launches = s.launches ∧ t.spad = s.spad := by
  have top : ¬ bits v 31 31 ≠ 1 := by rw [bits_eq_div (k := 1) v rfl, on]; decide
  obtain ⟨net, bn, e⟩ := s.serveWrite_frame (FB_MAP_GEN.addr 0 0) v
  have quiet : ∀ x ∈ (s.serveWrite (FB_MAP_GEN.addr 0 0) v).launches, x.holdGen = none := by rw [e]; exact none_
  have gives := gives_publish hv alive ((if_neg top).trans (State.publishGen_of_none quiet))
  have gen : ((s.serveWrite (FB_MAP_GEN.addr 0 0) v).addFld FB_MAP_GEN_GEN 1).fld FB_MAP_GEN_GEN =
      ((s.serveWrite (FB_MAP_GEN.addr 0 0) v).fld FB_MAP_GEN_GEN + 1) % 2 ^ (FB_MAP_GEN_GEN.hi + 1 - FB_MAP_GEN_GEN.lo) :=
    State.fld_setFld_same _ FB_MAP_GEN_GEN _ _ _ (Nat.zero_le 15) (by decide)
  have kept := State.regsKept_addFld (s := s.serveWrite (FB_MAP_GEN.addr 0 0) v) FB_MAP_GEN_GEN 1 0 0 (List.mem_singleton.mpr rfl)
  generalize s.serveWrite (FB_MAP_GEN.addr 0 0) v = y at e gives gen kept
  have fld : y.fld FB_MAP_GEN_GEN = s.fld FB_MAP_GEN_GEN := by rw [e]; rfl
  have regs : y.regs = s.regs := by rw [e]
  rw [fld] at gen
  refine gives.does ⟨gen, fun off d out => (kept off d out).trans (by rw [regs]), ?_, ?_, ?_⟩
  · rw [e]; rfl
  · rw [e]; rfl
  · rw [e]; rfl

theorem gives_repairHoldExpire (hn : n < 2304) (hchart : chart < 2 ^ 32)
    (h : (match s.launches.find? (fun l => l.ni == n && l.chart == chart && l.holdGen.isSome) with
      | some l => s.segComplete l l.abortSeg ((l.abort.map (fun a => a.1)).getD stABORTED) true
      | none => s) = t) : Gives (.repairHoldExpire n chart) s t :=
  Gives.of_run (exec_repairHoldExpire n chart s) (by simp only [Instr.wf, okSlot, okW, hn, hchart, decide_true, Bool.and_self]) h

end

/-- Settles O31: repair publishes a new map where the fault stands, and publication decides what is held for it. -/
theorem repairPublishesANewMap : Obligations.RepairPublishesANewMap := by
  intro s patch v n chart l hpatch hv hn hchart runs u
  refine ⟨fun idle => gives_repair hpatch (if_neg idle), fun on gone => gives_repair hpatch ((if_pos on).trans (if_pos gone)), fun on kept stands => ?_,
    fun alive off => ?_, fun alive on none_ => does_publish hv alive on none_, fun none_ => ?_, fun found => ?_⟩
  · have fault {t : State} := gives_repairFault (t := t) hpatch on kept stands
    refine ⟨fun link => ?_, fun a slot tile => ?_, fun slot tile sp at_ here spare => ?_, fun slot tile at_ here none_ => ?_, fun zero => ?_⟩
    · exact fault (State.repairFault_link link)
    · exact fault (State.repairFault_empty slot tile)
    · exact fault (State.repairFault_spare at_ here spare)
    · exact fault (State.repairFault_unrepaired at_ here none_)
    · subst zero
      exact fault State.repairFault_zero
  · have top : bits v 31 31 ≠ 1 := by rw [bits_eq_div (k := 1) v rfl, off]; decide
    exact gives_publish hv alive (if_pos top)
  · exact gives_repairHoldExpire hn hchart (by rw [none_])
  · exact gives_repairHoldExpire hn hchart (by rw [found])

end Sys2Proof.Machine

/-! # Frames and the retry buffer (R309, R310): the proof of FramesAreAcknowledgedOrSentAgain -/

namespace Sys2Proof.Machine

section

variable {s t : State} {n pair v : Nat} {odd : Bool}

/-! ## Frames that arrive -/

/-- What the counters of the decoder show of a frame: corrected ones in FEC_CE, uncorrectable ones in FEC_UE (R306). -/
def State.frameCounted (s : State) (n v : Nat) : State :=
  if v = 1 then s.addPair OL_FEC_CE_LO OL_FEC_CE_HI 1 n else if v = 2 then s.addFld OL_FEC_UE_CNT 1 n else s

@[simp] theorem State.frameCounted_zero : s.frameCounted n 0 = s := rfl

@[simp] theorem State.frameCounted_one : s.frameCounted n 1 = s.addPair OL_FEC_CE_LO OL_FEC_CE_HI 1 n := if_pos rfl

@[simp] theorem State.frameCounted_two : s.frameCounted n 2 = s.addFld OL_FEC_UE_CNT 1 n := (if_neg nofun).trans (if_pos rfl)

theorem State.linkState_frameCounted : (s.frameCounted n v).linkState n = s.linkState n := by
  have kept : s.RegsKept (s.frameCounted n v) [OL_FEC_CE_LO.addr n 0, OL_FEC_CE_HI.addr n 0, OL_FEC_UE.addr n 0] := by
    unfold State.frameCounted
    split_ifs
    · exact State.regsKept_addPair _ _ _ _ _ (by simp) (by simp)
    · exact State.regsKept_addFld OL_FEC_UE_CNT _ _ _ (by simp [OL_FEC_UE_CNT])
    · exact .refl
  refine kept.fld fun mem => ?_
  simp only [List.mem_cons, List.not_mem_nil, or_false] at mem
  rcases mem with e | e | e
  · exact RegDef.addr_ne (r := OL_STATUS) (q := OL_FEC_CE_LO) rfl (by decide) e
  · exact RegDef.addr_ne (r := OL_STATUS) (q := OL_FEC_CE_HI) rfl (by decide) e
  · exact RegDef.addr_ne (r := OL_STATUS) (q := OL_FEC_UE) rfl (by decide) e

theorem State.olk_frameCounted : (s.frameCounted n v).olk n = s.olk n := by
  unfold State.frameCounted
  split_ifs <;> rfl

/-- A frame of a pair that is not awaited, or a second half without its first. -/
def OLink.astray (l : OLink) (pair : Nat) (odd : Bool) : Prop := pair ≠ l.rxPair ∨ (odd = true ∧ l.rxHalf = false)

theorem State.frame_held (held : s.linkState n = lsHELD) : s.frame n pair odd v = s.frameCounted n v :=
  if_pos (State.linkState_frameCounted.trans held)

theorem State.frame_astray (free : s.linkState n ≠ lsHELD) (astray : (s.olk n).astray pair odd) :
    s.frame n pair odd v = (s.frameCounted n v).modOl n fun l => { l with skip := true } :=
  (if_neg (State.linkState_frameCounted.trans_ne free)).trans (if_pos (State.olk_frameCounted.symm ▸ astray))

theorem State.frame_bad (free : s.linkState n ≠ lsHELD) (awaited : ¬ (s.olk n).astray pair odd) :
    s.frame n pair odd 2 = ((((s.frameCounted n 2).modOl n fun l => { l with skip := true, rxHalf := false }).item n 0x02 pair).log
      .ol n 0x41 15 0 pair) :=
  (if_neg (State.linkState_frameCounted.trans_ne free)).trans ((if_neg (State.olk_frameCounted.symm ▸ awaited)).trans (if_pos rfl))

theorem State.frame_first (free : s.linkState n ≠ lsHELD) (awaited : pair = (s.olk n).rxPair) (good : v ≠ 2) :
    s.frame n pair false v = (s.frameCounted n v).modOl n fun l => { l with skip := false, rxHalf := true } := by
  refine (if_neg (State.linkState_frameCounted.trans_ne free)).trans ((if_neg ?_).trans ((if_neg good).trans (if_pos rfl)))
  rintro (other | ⟨second, -⟩)
  · exact other (awaited.trans (congrArg OLink.rxPair State.olk_frameCounted.symm))
  · exact Bool.noConfusion second

/-- The link after a pair is whole: the next one is awaited. -/
def OLink.wholePair (l : OLink) : OLink := { l with rxHalf := false, rxPair := (l.rxPair + 1) % 65536, acked := l.acked + 1 }

/-- The pair that a second half makes whole; the 32nd sends ACK (R310). -/
theorem State.frame_second (free : s.linkState n ≠ lsHELD) (awaited : pair = (s.olk n).rxPair) (half : (s.olk n).rxHalf = true) :
    s.frame n pair true 0 =
      if (s.olk n).acked + 1 < 32 then s.modOl n OLink.wholePair
      else s.setOl n { (s.olk n).wholePair with acked := 0, items := (s.olk n).items ++ [itemOf 0x01 pair] } := by
  refine (if_neg free).trans ((if_neg ?_).trans ((if_neg (show (0 : Nat) ≠ 2 by decide)).trans
    ((if_neg nofun).trans ?_)))
  rintro (other | ⟨-, no⟩)
  · exact other awaited
  · exact Bool.noConfusion (half.symm.trans no)
  · dsimp only [State.item]
    rw [State.modOl_modOl, State.modOl_modOl, State.olk_modOl_same]
    rfl

theorem gives_frameReceive (hn : n < 32) (hpair : pair < 65536) (hv : v < 3) (receives : s.receiving n = true)
    (unarmed : s.fld (xx_ERR_INJECT_ARM .ol) n = 0)
    (h : (if v = 0 then s.frame n pair odd v else (s.frame n pair odd v).unitEvent .ol n (v - 1) 0) = t) :
    Gives (.frameReceive n pair odd v) s t := by
  refine Gives.of_run (exec_frameReceive n pair odd v s)
    (by simp only [Instr.wf, okOl, hn, hpair, hv, decide_true, Bool.and_self]) ((if_neg (ne_false_of_eq_true receives)).trans ?_)
  dsimp only
  rw [State.injCheck_of_unarmed _ unarmed]
  exact h

theorem gives_frameReceive_good (hn : n < 32) (hpair : pair < 65536) (receives : s.receiving n = true)
    (unarmed : s.fld (xx_ERR_INJECT_ARM .ol) n = 0) (h : s.frame n pair odd 0 = t) : Gives (.frameReceive n pair odd 0) s t :=
  gives_frameReceive hn hpair (by decide) receives unarmed ((if_pos rfl).trans h)

/-- A corrected frame is source 0 of the link (R306). -/
theorem gives_frameReceive_corrected (hn : n < 32) (hpair : pair < 65536) (receives : s.receiving n = true)
    (unarmed : s.fld (xx_ERR_INJECT_ARM .ol) n = 0) (h : s.frame n pair odd 1 = t) :
    Gives (.frameReceive n pair odd 1) s (t.unitEvent .ol n 0 0) :=
  gives_frameReceive hn hpair (by decide) receives unarmed ((if_neg nofun).trans (congrArg (State.unitEvent · .ol n 0 0) h))

/-- An uncorrectable frame is source 1 of the link (R306). -/
theorem gives_frameReceive_bad (hn : n < 32) (hpair : pair < 65536) (receives : s.receiving n = true)
    (unarmed : s.fld (xx_ERR_INJECT_ARM .ol) n = 0) (h : s.frame n pair odd 2 = t) :
    Gives (.frameReceive n pair odd 2) s (t.unitEvent .ol n 1 0) :=
  gives_frameReceive hn hpair (by decide) receives unarmed ((if_neg nofun).trans (congrArg (State.unitEvent · .ol n 1 0) h))

/-! ## Acknowledgements -/

/-- A link that is not held and receives takes what arrives, unless it discards. -/
theorem State.taking_iff (receives : s.receiving n = true) (free : s.linkState n ≠ lsHELD) (reads : (s.olk n).skip = false) :
    s.taking n = true := by
  have range := of_decide_eq_true receives
  have active : s.linkState n ≤ lsACTIVE := Nat.lt_succ_iff.mp (lt_of_le_of_ne range.2 free)
  rw [State.taking, reads, decide_eq_true ⟨range.1, active⟩]
  rfl

theorem State.not_taking_of_held (held : s.linkState n = lsHELD) : s.taking n = false := by
  rw [State.taking, held]
  rfl

theorem gives_ack_idle (hn : n < 32) (hpair : pair < 65536) (idle : s.taking n = false) : Gives (.ack n pair) s s :=
  Gives.of_run (exec_ack n pair s) (by simp only [Instr.wf, okOl, hn, hpair, decide_true, Bool.and_self])
    (if_neg (ne_true_of_eq_false idle))

theorem gives_ack (hn : n < 32) (hpair : pair < 65536) (takes : s.taking n = true) :
    Gives (.ack n pair) s (s.modOl n fun l => l.ack pair) :=
  Gives.of_run (exec_ack n pair s) (by simp only [Instr.wf, okOl, hn, hpair, decide_true, Bool.and_self]) (if_pos takes)

theorem gives_nak_idle (hn : n < 32) (hpair : pair < 65536) (idle : s.taking n = false) : Gives (.nak n pair) s s :=
  Gives.of_run (exec_nak n pair s) (by simp only [Instr.wf, okOl, hn, hpair, decide_true, Bool.and_self])
    (if_neg (ne_true_of_eq_false idle))

theorem gives_nak (hn : n < 32) (hpair : pair < 65536) (takes : s.taking n = true) (h : s.nakked n pair = t) : Gives (.nak n pair) s t :=
  Gives.of_run (exec_nak n pair s) (by simp only [Instr.wf, okOl, hn, hpair, decide_true, Bool.and_self]) ((if_pos takes).trans h)

theorem OLink.ack_unknown {l : OLink} (unknown : l.retry.any (fun e => e.1 == pair) = false) : l.ack pair = l :=
  if_neg (ne_true_of_eq_false unknown)

/-- ACK frees the pairs up to its own, and no NAK is counted any more. -/
theorem OLink.ack_known {l : OLink} {before after : List (Nat × List (Nat × LFlit))} {e : Nat × List (Nat × LFlit)}
    (retry : l.retry = before ++ e :: after) (own : e.1 = pair) (others : ∀ x ∈ before, x.1 ≠ pair) :
    (l.ack pair).retry = after ∧ (l.ack pair).nak = none ∧ (l.ack pair).again = 0 ∧ (l.ack pair).txPair = l.txPair := by
  have known : l.retry.any (fun e => e.1 == pair) = true := by simp [retry, own]
  have left : (l.retry.dropWhile (fun e => e.1 != pair)).drop 1 = after := by
    rw [retry, List.dropWhile_append_of_pos (by simpa using others), List.dropWhile_cons_of_neg (by simp [own])]
    rfl
  rw [OLink.ack, if_pos known]
  exact ⟨left, rfl, rfl, rfl⟩

/-! ## NAK -/

/-- What NAK leaves in the link: its pair and all after it go again. -/
def OLink.named (l : OLink) (pair : Nat) : OLink :=
  { l with nak := some pair, again := if l.nak = some pair then l.again else 0, resend := l.retry.dropWhile fun e => e.1 != pair }

/-- What NAK leaves in the state before it is judged whether the link is down. -/
def State.renamed (s : State) (n pair : Nat) : State := (s.modOl n fun l => l.named pair).log .ol n 0x42 15 0 pair

theorem State.renamed_spec : ((s.renamed n pair).olk n) = (s.olk n).named pair ∧ (s.renamed n pair).spad = s.spad := by
  have own : (s.modOl n fun l => l.named pair).olk n = (s.olk n).named pair := State.olk_modOl_same _ _ _
  have spad : (s.modOl n fun l => l.named pair).spad = s.spad := rfl
  obtain ⟨_, _, _, _, _, e⟩ := (State.logged_log (s := s.modOl n fun l => l.named pair) (k := .ol) (i := n) 0x42 15 0 pair
    (List.mem_singleton_self _)).frame
  rw [State.renamed, e]
  exact ⟨own, spad⟩

theorem State.nakked_again (few : ¬ ((s.olk n).nak = some pair ∧ 8 ≤ (s.olk n).again)) : s.nakked n pair = s.renamed n pair := if_neg few

/-- NAK of a pair that has gone again eight times in a row: the link is down. -/
theorem State.nakked_down (same : (s.olk n).nak = some pair) (many : 8 ≤ (s.olk n).again) :
    s.nakked n pair = (((s.modOl n fun l => { l with nak := some pair, resend := l.retry.dropWhile fun e => e.1 != pair }).log
      .ol n 0x42 15 0 pair).modOl n fun l => { l with nak := none, again := 0 }).unitEvent .ol n 3 0 := by
  rw [State.nakked, if_pos ⟨same, many⟩]
  simp only [State.modOl, same, if_true]

theorem does_nak {P : State → Prop} (hn : n < 32) (hpair : pair < 65536) (takes : s.taking n = true)
    (few : ¬ ((s.olk n).nak = some pair ∧ 8 ≤ (s.olk n).again))
    (h : ∀ t : State, t.olk n = (s.olk n).named pair → t.spad = s.spad → P t) : Does (.nak n pair) s P :=
  (gives_nak hn hpair takes (State.nakked_again few)).does
    (h (s.after (s.renamed n pair)) State.renamed_spec.1 State.renamed_spec.2)

end

/-- Settles O33: a frame is counted and then judged by the pair that the link awaits; ACK and NAK look up their pair in the retry buffer. -/
theorem framesAreAcknowledgedOrSentAgain : Obligations.FramesAreAcknowledgedOrSentAgain := by
  intro s n pair odd v hn hpair _ receives unarmed
  extract_lets l
  refine ⟨fun held => ?_, fun free => ?_⟩
  · have idle := State.not_taking_of_held held
    refine ⟨?_, ?_, ?_, gives_ack_idle hn hpair idle, gives_nak_idle hn hpair idle⟩
    · rintro rfl
      exact gives_frameReceive_good hn hpair receives unarmed (State.frame_held held)
    · rintro rfl
      exact gives_frameReceive_corrected hn hpair receives unarmed (State.frame_held held)
    · rintro rfl
      exact gives_frameReceive_bad hn hpair receives unarmed (State.frame_held held)
  refine ⟨?_, ?_, ?_, ?_, ?_, ?_, fun reads => ?_⟩
  · rintro rfl astray
    exact gives_frameReceive_good hn hpair receives unarmed (State.frame_astray free astray)
  · rintro rfl awaited rfl
    exact gives_frameReceive_good hn hpair receives unarmed (State.frame_first free awaited (by decide))
  · rintro rfl awaited rfl half
    have whole := State.frame_second free awaited half
    refine ⟨fun few => gives_frameReceive_good hn hpair receives unarmed (whole.trans ((if_pos few).trans ?_)), fun many =>
      (gives_frameReceive_good hn hpair receives unarmed (whole.trans (if_neg (Nat.not_lt.mpr many)))).does ⟨rfl, ?_⟩⟩
    · subst awaited
      rfl
    · subst awaited
      exact State.olk_setOl_same s n _
  · rintro rfl astray
    exact gives_frameReceive_corrected hn hpair receives unarmed (State.frame_astray free astray)
  · rintro rfl awaited rfl
    exact gives_frameReceive_corrected hn hpair receives unarmed (State.frame_first free awaited (by decide))
  · rintro rfl awaited half
    refine gives_frameReceive_bad hn hpair receives unarmed (State.frame_bad free ?_)
    rintro (other | ⟨second, no⟩)
    · exact other awaited
    · rcases half with e | e
      · exact Bool.noConfusion (e.symm.trans second)
      · exact Bool.noConfusion (e.symm.trans no)
  · have takes := State.taking_iff receives free reads
    refine ⟨fun unknown => ?_, fun before e after retry own others => ?_, fun other => ?_, fun same few => ?_, fun same many => ?_⟩
    · exact (gives_ack hn hpair takes).congr (congrArg (s.setOl n) (OLink.ack_unknown unknown))
    · obtain ⟨left, nak, again, tx⟩ := OLink.ack_known retry own others
      have link : (s.after (s.modOl n fun l => l.ack pair)).olk n = l.ack pair := State.olk_modOl_same s n _
      refine (gives_ack hn hpair takes).does ?_
      rw [link]
      exact ⟨left, nak, again, tx, rfl⟩
    · refine does_nak hn hpair takes (fun both => other both.1) fun t named spad => ?_
      rw [named]
      exact ⟨rfl, rfl, if_neg other, rfl, spad⟩
    · refine does_nak hn hpair takes (fun both => absurd both.2 (Nat.not_le.mpr few)) fun t named _ => ?_
      rw [named]
      exact ⟨rfl, if_pos same, rfl⟩
    · exact gives_nak hn hpair takes (State.nakked_down same many)

end Sys2Proof.Machine

/-! # Link flits (R306 to R311): the proof of LinkFlitsCarryPacketsAndItems -/

namespace Sys2Proof.Machine

section

variable {s t : State} {n i g j v x : Nat} {p e : Pkt} {cells : List (Pkt × Nat)} {P : State → Prop}

/-! ## What leaves -/

theorem gives_linkFlitTransmit (hn : n < 32) (unarmed : s.fld (xx_ERR_INJECT_ARM .ol) n = 0) (h : s.transmit n = t) :
    Gives (.linkFlitTransmit n) s t :=
  Gives.of_run (exec_linkFlitTransmit n s) (decide_eq_true hn)
    ((congrArg (State.transmit · n) (State.injEvent_of_unarmed 0 [6] unarmed)).trans h)

theorem State.transmit_closed (closed : s.linkState n < lsWIDTH ∨ lsACTIVE < s.linkState n) : s.transmit n = s := if_pos closed

/-- A pair that NAK has named goes again (R310). -/
theorem State.transmit_resend {e : Nat × List (Nat × LFlit)} {rest : List (Nat × List (Nat × LFlit))}
    (sends : ¬ (s.linkState n < lsWIDTH ∨ lsACTIVE < s.linkState n)) (resend : (s.olk n).resend = e :: rest) :
    s.transmit n = (s.modOl n fun l => { l.sentPair (s.fld OL_STATUS_LANES n) e.2 with
      resend := rest, again := if l.nak = some e.1 then l.again + 1 else l.again }).addFld OL_RETRY_CNT 1 n := by
  rw [State.transmit, if_neg sends]
  simp only [resend]

/-- A full retry buffer lets no new pair begin (R310). -/
theorem State.transmit_full (sends : ¬ (s.linkState n < lsWIDTH ∨ lsACTIVE < s.linkState n)) (resend : (s.olk n).resend = [])
    (full : 256 ≤ (s.olk n).retry.length) (begins : (s.olk n).cur = []) : s.transmit n = s := by
  rw [State.transmit, if_neg sends]
  simp only [resend, full, begins, and_self, if_true]

/-- A position of the link's own stream with no item to send: the data of an ACTIVE link, or an empty CONTROL. -/
theorem State.transmit_own (sends : ¬ (s.linkState n < lsWIDTH ∨ lsACTIVE < s.linkState n)) (resend : (s.olk n).resend = [])
    (room : (s.olk n).retry.length < 256) (items : (s.olk n).items = []) (own : (s.olk n).txStream = none)
    (sched : (s.olk n).txS = []) (alone : s.linkState n ≠ lsACTIVE ∨ (s.olk n).adopted = []) :
    s.transmit n =
      if (decide (s.linkState n = lsACTIVE) && s.fld FB_ANCHOR_STATUS_STOPPED == 0 && (n == n || (s.olk n).adopted.contains n) &&
        (!(s.olk n).carry.isEmpty || (List.range 3).any (s.olk n).ready)) = true then
        match (s.olk n).carry with
        | f :: rest => (s.modOl n (fun l => { l with carry := rest })).sendFlit n n f false
        | [] =>
          let w := [zeroAsOne (s.fld OL_TX_WEIGHT_SCHED n), zeroAsOne (s.fld OL_TX_WEIGHT_OPEN n),
            zeroAsOne (s.fld OL_TX_WEIGHT_SMALL n)]
          let p := wrrPick (s.olk n).ready (s.olk n).wrr w
          match (s.olk n).takeClass p.1 with
          | some (f, e') => ((s.setOl n e').modOl n (fun l => { l with wrr := p.2 })).sendFlit n n f false
          | none => s
      else s.sendFlit n n (.control []) false := by
  have full : ¬ (256 ≤ (s.olk n).retry.length ∧ (s.olk n).cur = []) := fun h => absurd h.1 (Nat.not_le.mpr room)
  have mark : (s.olk n).needMark = none := by
    rw [OLink.needMark, sched]
    split <;> simp_all
  have next : (if s.linkState n = lsACTIVE then
      ((((s.streamsOf n).filter fun y => y != n).filter (fun y => n < y) ++
        ((s.streamsOf n).filter fun y => y != n).filter (fun y => y < n)).find? fun y => (s.olk y).waiting) else none) = none := by
    rcases alone with off | none
    · exact if_neg off
    · simp [State.streamsOf, none]
  rw [State.transmit, if_neg sends]
  simp only [resend, if_neg full, own, Option.getD_none, mark, next, items, List.any_nil, if_true, Option.isSome_none,
    Bool.or_self, Bool.false_and, Bool.false_eq_true, if_false] <;> rfl

theorem State.transmit_idle (sends : ¬ (s.linkState n < lsWIDTH ∨ lsACTIVE < s.linkState n)) (resend : (s.olk n).resend = [])
    (room : (s.olk n).retry.length < 256) (training : s.linkState n ≠ lsACTIVE) (items : (s.olk n).items = [])
    (own : (s.olk n).txStream = none) (sched : (s.olk n).txS = []) : s.transmit n = s.sendFlit n n (.control []) false := by
  rw [State.transmit_own sends resend room items own sched (.inl training), if_neg]
  rw [decide_eq_false training]
  nofun

/-! ## An open flit -/

/-- The link after the last flit of the only packet. -/
def OLink.sentOpen (l : OLink) (e : Pkt) (w : List Nat) : OLink := { l.useRoom (linkClass e) 1 with txP := [], wrr := w }

theorem OLink.ready_one {l : OLink} (packets : l.txP = [(e, i)]) (dat : e.net = .dat) (room : 0 < l.roomOf (linkClass e)) :
    l.ready 1 = true := by
  simp [OLink.ready, packets, dat, room]

theorem OLink.ready_ne_one {l : OLink} {c : Nat} (sched : l.txS = []) (packets : l.txP = [(e, i)]) (dat : e.net = .dat) (hc : c ≠ 1) :
    l.ready c = false := by
  unfold OLink.ready
  split
  · rw [sched]
  · exact absurd rfl hc
  · simp [packets, dat]

/-- Where one class is ready, the round robin serves it. -/
theorem wrrPick_one {ready : Nat → Bool} {left weights : List Nat} (one : ready 1 = true) (others : ∀ c, c ≠ 1 → ready c = false) :
    (wrrPick ready left weights).1 = 1 := by
  have zero := others 0 (by decide)
  have two := others 2 (by decide)
  unfold wrrPick
  split
  · next c found =>
    by_contra other
    have := (Bool.and_eq_true _ _ ▸ List.find?_some found).1
    exact Bool.noConfusion ((others c other).symm.trans this)
  · next none =>
    simp [List.range_succ, zero, one]

theorem OLink.takeOpen_last {l : OLink} (packets : l.txP = [(e, i)]) (dat : e.net = .dat) (room : 0 < l.roomOf (linkClass e))
    (last : i + 1 = nflits e) : l.takeOpen = some (.openDat e i, { l.useRoom (linkClass e) 1 with txP := [] }) := by
  simp [OLink.takeOpen, packets, dat, room, last, delFirst]

theorem OLink.roomOf_sentOpen {l : OLink} {w : List Nat} (room : 0 < l.roomOf (linkClass e)) :
    (l.sentOpen e w).roomOf (linkClass e) = l.roomOf (linkClass e) - 1 := by
  have inside : linkClass e < l.room.length := by
    by_contra out
    rw [OLink.roomOf, List.getD_eq_default _ _ (Nat.not_lt.mp out)] at room
    exact Nat.lt_irrefl 0 room
  show (l.room.set (linkClass e) (l.roomOf (linkClass e) - 1)).getD (linkClass e) 0 = _
  rw [List.getD_eq_getElem?_getD, List.getElem?_set_self inside]
  rfl

/-- A flit that does not complete its pair. -/
theorem State.olk_sendFlit_short {f : LFlit} {c : Bool} (short : (s.olk n).cur.length < 4) :
    ((s.sendFlit n x f c).olk n) = { s.olk n with
      since := if c then 1 else min 32 ((s.olk n).since + 1), cell0 := f.cell0, cur := (s.olk n).cur ++ [(x, f)] } := by
  have few : ((s.olk n).cur ++ [(x, f)]).length < 5 := by
    rw [List.length_append, List.length_singleton]
    omega
  unfold State.sendFlit
  cases f <;> simp only [State.olk_addPair, State.olk_modOl_same, if_pos few]

/-- The fifth flit completes its pair (R306). -/
theorem State.olk_sendFlit_fifth {f : LFlit} {c : Bool} (four : (s.olk n).cur.length = 4) :
    ((s.sendFlit n x f c).olk n) = { (s.olk n).sentPair (s.fld OL_STATUS_LANES n) ((s.olk n).cur ++ [(x, f)]) with
      since := if c then 1 else min 32 ((s.olk n).since + 1)
      cell0 := f.cell0
      cur := []
      txPair := ((s.olk n).txPair + 1) % 65536
      retry := (s.olk n).retry ++ [((s.olk n).txPair, (s.olk n).cur ++ [(x, f)])] } := by
  have many : ¬ ((s.olk n).cur ++ [(x, f)]).length < 5 := by
    rw [List.length_append, List.length_singleton]
    omega
  unfold State.sendFlit
  cases f <;> simp only [State.olk_addPair, State.olk_modOl_same, if_neg many] <;> rfl

theorem State.sendFlit_spad {f : LFlit} {c : Bool} : (s.sendFlit n x f c).spad = s.spad := by
  unfold State.sendFlit
  cases f <;> rfl

/-- The link sends the last flit of the only packet that waits. -/
theorem State.transmit_open (sends : ¬ (s.linkState n < lsWIDTH ∨ lsACTIVE < s.linkState n)) (resend : (s.olk n).resend = [])
    (retry : (s.olk n).retry.length < 256) (active : s.linkState n = lsACTIVE) (runs : s.fld FB_ANCHOR_STATUS_STOPPED = 0)
    (items : (s.olk n).items = []) (own : (s.olk n).txStream = none) (alone : (s.olk n).adopted = []) (carry : (s.olk n).carry = [])
    (sched : (s.olk n).txS = []) (packets : (s.olk n).txP = [(e, i)]) (dat : e.net = .dat) (room : 0 < (s.olk n).roomOf (linkClass e))
    (last : i + 1 = nflits e) :
    ∃ w, s.transmit n = (s.setOl n ((s.olk n).sentOpen e w)).sendFlit n n (.openDat e i) false := by
  have one := OLink.ready_one packets dat room
  have data : (List.range 3).any (s.olk n).ready = true := List.any_eq_true.mpr ⟨1, by decide, one⟩
  rw [State.transmit_own sends resend retry items own sched (.inr alone), if_pos (by simp [active, runs, data])]
  simp only [carry, wrrPick_one one fun c hc => OLink.ready_ne_one sched packets dat hc]
  rw [show (s.olk n).takeClass 1 = (s.olk n).takeOpen from rfl, OLink.takeOpen_last packets dat room last]
  exact ⟨_, congrArg (State.sendFlit · n n _ false) (by simp only [State.modOl, State.olk_setOl_same, State.setOl_setOl]; rfl)⟩

/-! ## What is received -/

/-- The bytes of a link flit that is taken are counted (R307). -/
def State.rxCounted (s : State) (n : Nat) : State := s.addPair OL_RX_BYTES_LO OL_RX_BYTES_HI 256 n

theorem gives_small (hn : n < 32) (few : cells.length ≤ 15) (good : ∀ c ∈ cells, okPkt c.1 = true ∧ c.1.net ≠ .dat ∧ c.2 < 4)
    (h : (if s.accepts n = false then s else
      cells.foldl (fun s c => if (s.olk (s.streamOn n)).nextFlit c.1 = c.2 then s.gather (s.streamOn n) c.1 c.2 else s)
        (s.rxCounted n)) = t) : Gives (.small n cells) s t := by
  refine Gives.of_run (exec_small n cells s) ?_ h
  have each : (cells.all fun c => okPkt c.1 && c.1.net != .dat && c.2 < 4) = true := by
    refine List.all_eq_true.mpr fun c mem => ?_
    obtain ⟨ok, net, part⟩ := good c mem
    simp [ok, net, part]
  simp only [Instr.wf, okOl, hn, few, each, decide_true, Bool.and_self]

theorem gives_openFlit (hn : n < 32) (ok : okPkt p = true) (dat : p.net = .dat) (hi : i < 17)
    (h : (if s.accepts n = false then s else if (s.olk (s.streamOn n)).nextFlit p = i then (s.rxCounted n).gather (s.streamOn n) p i
      else s.rxCounted n) = t) : Gives (.openFlit n p i) s t :=
  Gives.of_run (exec_openFlit n p i s) (by simp only [Instr.wf, okOl, hn, ok, dat, hi, decide_true, beq_self_eq_true, Bool.and_self]) h

/-- A CREDIT item returns room class by class (R309). -/
def OLink.returned (v : Nat) (l : OLink) : OLink :=
  { l with room := (List.range 7).map fun c => l.roomOf c + bits v (8 * c + 7) (8 * c) }

theorem gives_credit (hn : n < 32) (hv : v < 2 ^ 64)
    (h : (if s.accepts n = false then s else s.modOl (s.streamOn n) (OLink.returned v)) = t) : Gives (.credit n v) s t :=
  Gives.of_run (exec_credit n v s) (by simp only [Instr.wf, okOl, okD, hn, hv, decide_true, Bool.and_self]) h

theorem gives_landMark (hn : n < 32) (hg : g < 256)
    (h : (if s.accepts n = true then s.modOl (s.streamOn n) fun l => { l with mark := g } else s) = t) : Gives (.landMark n g) s t :=
  Gives.of_run (exec_landMark n g s) (by simp only [Instr.wf, okOl, hn, hg, decide_true, Bool.and_self]) h

theorem gives_stream (hn : n < 32) (hj : j < 32)
    (h : (if s.accepts n = true then s.modOl n fun l => { l with strm := if j = n then none else some j } else s) = t) :
    Gives (.stream n j) s t :=
  Gives.of_run (exec_stream n j s) (by simp only [Instr.wf, okOl, hn, hj, decide_true, Bool.and_self]) h

/-- What does not accept traffic takes nothing (R324). -/
theorem gives_not_accepted (hn : n < 32) (ok : okPkt p = true) (dat : p.net = .dat) (hi : i < 17) (hv : v < 2 ^ 64) (hg : g < 256)
    (hj : j < 32) (few : cells.length ≤ 15) (good : ∀ c ∈ cells, okPkt c.1 = true ∧ c.1.net ≠ .dat ∧ c.2 < 4)
    (closed : s.accepts n = false) :
    ∀ c ∈ [Sys2Proof.Instr.small n cells, .openFlit n p i, .credit n v, .landMark n g, .stream n j], Gives c s s := by
  have no := ne_true_of_eq_false closed
  intro c mem
  simp only [List.mem_cons, List.not_mem_nil, or_false] at mem
  obtain rfl | rfl | rfl | rfl | rfl := mem
  · exact gives_small hn few good (if_pos closed)
  · exact gives_openFlit hn ok dat hi (if_pos closed)
  · exact gives_credit hn hv (if_pos closed)
  · exact gives_landMark hn hg (if_neg no)
  · exact gives_stream hn hj (if_neg no)

theorem State.gather_last (last : i + 1 = nflits p) : ((s.gather x p i).olk x).rxq = (s.olk x).rxq ++ [p] := by
  rw [State.gather, if_pos last.ge, State.olk_modOl_same]

theorem OLink.roomOf_returned {l : OLink} {c : Nat} (hc : c < 7) : (l.returned v).roomOf c = l.roomOf c + v / 2 ^ (8 * c) % 256 := by
  have field : bits v (8 * c + 7) (8 * c) = v / 2 ^ (8 * c) % 256 := bits_eq_div (k := 8) v rfl
  rw [OLink.roomOf, ← field]
  simp [OLink.returned, List.getD_eq_getElem?_getD, hc]

/-! ## Landing flits -/

/-- What a landing flit does before the waiting ones are placed. -/
def State.landingTaken (s : State) (n x lo pos data ue : Nat) : State :=
  if s.accepts n = false then s
  else if (s.olk x).mark % 16 ≠ lo then
    ((((s.rxCounted n).setFld OL_LAND_STATUS_LAND_MISMATCH 1 x).unitEvent .ol x 5 0).item x 0x03 (creditItem 0 1)).segFail (olLoc x).slot
      ((s.rxCounted n).segNow (olLoc x).slot) stABORTED
  else (s.rxCounted n).modOl x fun l => { l with rxS := l.rxS ++ [((s.olk x).mark, pos, data, ue != 0)] }

theorem gives_landingFlit {lo pos data ue : Nat} (hn : n < 32) (hlo : lo < 16) (hpos : pos < 4) (hdata : data < 2 ^ 2048) (hue : ue < 2)
    (taken : s.landingTaken n (s.streamOn n) lo pos data ue = t) {u : State}
    (h : t.land ((t.olk (s.streamOn n)).rxS.length) (s.streamOn n) (fun x => t.landBeat x) = u) :
    Gives (.landingFlitArrive n [lo, pos, data, ue]) s u := by
  refine Gives.of_run (exec_landingFlitArrive n [lo, pos, data, ue] s) ?_ ?_
  · simp only [Instr.wf, okOl, hn, List.getD_cons_zero, List.getD_cons_succ, hlo, hpos, hdata, hue, decide_true, Bool.and_true]
    rfl
  · subst taken
    exact h

theorem gives_landing_none (hn : n < 32) (empty : (s.olk (s.streamOn n)).rxS = []) : Gives (.landingFlitArrive n []) s s := by
  refine Gives.of_run (exec_landingFlitArrive n [] s) ?_ ?_
  · have zero (k : Nat) : 0 < 2 ^ k := Nat.two_pow_pos k
    simp only [Instr.wf, okOl, hn, List.getD_nil, Nat.zero_lt_succ, zero, decide_true, Bool.and_true]
    rfl
  · show s.land _ _ _ = s
    rw [empty]
    rfl

/-- Nothing waits on the link, so nothing is placed. -/
theorem State.land_none {fuel : Nat} {beat : Nat → Nat} (empty : (s.olk x).rxS = []) : s.land fuel x beat = s := by
  cases fuel with
  | zero => rfl
  | succ fuel => rw [State.land, empty]

/-- One landing flit waits on the link. -/
def OLink.one (l : OLink) (m pos data : Nat) (ue : Bool) : OLink := { l with rxS := [(m, pos, data, ue)] }

/-- A flit whose place is taken from the link without landing: its credit goes back (R311). -/
def OLink.passed (l : OLink) : OLink := { l with rxS := [], items := l.items ++ [itemOf 0x03 (creditItem 0 1)] }

/-- A flit that waits at its place of the landing buffer (R90). -/
def OLink.landed (l : OLink) (m pos data : Nat) (ue : Bool) : OLink :=
  { l.passed with landing := SMap.put l.landing (4 * (m % 128) + pos % 4) (m, data, ue) }

variable {m pos data : Nat} {ue : Bool} {l : OLink} {beat : Nat → Nat}

theorem State.item_modOl {f : OLink → OLink} {ty body : Nat} :
    (s.modOl x f).item x ty body = s.modOl x fun l => { f l with items := (f l).items ++ [itemOf ty body] } := by
  rw [State.item, State.modOl_modOl]

/-- Past a pause boundary a flit is discarded (R255). -/
theorem State.land_late {cb : Nat} (waits : s.olk x = l.one m pos data ue) (drops : l.dropFrom = some cb) (late : tagFrom cb m = true) :
    s.land 1 x beat = s.setOl x (l.one m pos data ue).passed := by
  have waiting : (s.olk x).rxS = [(m, pos, data, ue)] := congrArg OLink.rxS waits
  have drop : (s.olk x).dropFrom = some cb := (congrArg OLink.dropFrom waits).trans drops
  rw [State.land, waiting]
  simp only [drop, late, if_true]
  rw [State.item_modOl, State.land_none (by rw [State.olk_modOl_same]), State.modOl, waits]
  rfl

/-- A flit in time whose line of the landing buffer is empty waits there. -/
theorem State.land_free (waits : s.olk x = l.one m pos data ue) (kept : ∀ cb, l.dropFrom = some cb → tagFrom cb m = false)
    (timely : (m + 256 - beat x % 256) % 256 < 128) (free : ∀ e ∈ l.landing, e.1 / 4 ≠ m % 128) :
    s.land 1 x beat = s.setOl x ((l.one m pos data ue).landed m pos data ue) := by
  have waiting : (s.olk x).rxS = [(m, pos, data, ue)] := congrArg OLink.rxS waits
  have line : (s.olk x).landing.filter (fun e => e.1 / 4 == m % 128) = [] := by
    rw [waits]
    exact List.filter_eq_nil_iff.mpr fun e mem => by simpa using free e mem
  have mismatch : ¬ (128 ≤ (m + 256 - beat x % 256) % 256 ∨
      List.any [] (fun e : Nat × Nat × Nat × Bool => e.1 == 4 * (m % 128) + pos % 4 && e.2.1 == m) = true) := by
    rintro (far | twice)
    · exact absurd far (Nat.not_le.mpr timely)
    · exact Bool.noConfusion twice
  rw [State.land, waiting]
  dsimp only
  rw [line]
  refine (if_neg ?_).trans ((if_neg mismatch).trans ((if_neg nofun).trans ?_))
  · cases h : (s.olk x).dropFrom with
    | none => nofun
    | some cb => exact ne_true_of_eq_false (kept cb ((congrArg OLink.dropFrom waits).symm.trans h))
  · rw [State.item_modOl, State.land_none (by rw [State.olk_modOl_same]), State.modOl, waits]
    rfl

/-- A flit that agrees with its mark waits on the link. -/
theorem State.landingTaken_near {lo flag : Nat} (taken : s.accepts n = true) (near : (s.olk x).mark % 16 = lo)
    (empty : (s.olk x).rxS = []) : s.landingTaken n x lo pos data flag =
      (s.rxCounted n).setOl x ((s.olk x).one (s.olk x).mark pos data (flag != 0)) := by
  refine (if_neg (ne_false_of_eq_true taken)).trans ((if_neg (not_not_intro near)).trans ?_)
  rw [State.modOl, State.rxCounted, State.olk_addPair, empty]
  rfl

/-- One landing flit agrees with its mark: the waiting ones are then placed, and it is the only one. -/
theorem gives_landing_near {lo flag : Nat} {u : State} (hn : n < 32) (hlo : lo < 16) (hpos : pos < 4) (hdata : data < 2 ^ 2048)
    (hflag : flag < 2) (taken : s.accepts n = true) (near : (s.olk (s.streamOn n)).mark % 16 = lo)
    (empty : (s.olk (s.streamOn n)).rxS = [])
    (h : ((s.rxCounted n).setOl (s.streamOn n) ((s.olk (s.streamOn n)).one (s.olk (s.streamOn n)).mark pos data (flag != 0))).land 1
      (s.streamOn n) (fun x => s.landBeat x) = u) : Gives (.landingFlitArrive n [lo, pos, data, flag]) s u := by
  refine gives_landingFlit hn hlo hpos hdata hflag (State.landingTaken_near taken near empty) ?_
  rw [State.olk_setOl_same]
  exact h

end

/-- Settles O34: what leaves at a position, item by item and class by class, and what an arriving flit does to its stream. -/
theorem linkFlitsCarryPacketsAndItems : Obligations.LinkFlitsCarryPacketsAndItems := by
  intro s n p i v g j cells hn ok dat hi hv hg hj few good unarmed
  extract_lets l x rx m mis
  refine ⟨fun closed => gives_linkFlitTransmit hn unarmed (State.transmit_closed closed), fun low high => ?_, fun f c four => ?_,
    gives_not_accepted hn ok dat hi hv hg hj few good, fun taken => ?_, fun lo pos data ue hlo hpos hdata hue empty => ?_⟩
  · have sends : ¬ (s.linkState n < lsWIDTH ∨ lsACTIVE < s.linkState n) :=
      fun h => h.elim (Nat.not_lt.mpr low) (Nat.not_lt.mpr high)
    refine ⟨fun e rest resend => ?_, fun resend full begins => ?_, fun resend room training items own sched => ?_, ?_⟩
    · exact gives_linkFlitTransmit hn unarmed (State.transmit_resend sends resend)
    · exact gives_linkFlitTransmit hn unarmed (State.transmit_full sends resend full begins)
    · exact gives_linkFlitTransmit hn unarmed (State.transmit_idle sends resend room training items own sched)
    · intro e resend retry active runs items own alone carry sched packets dat room last short
      obtain ⟨w, gone⟩ := State.transmit_open sends resend retry active runs items own alone carry sched packets dat room last
      have same := State.olk_setOl_same s n ((s.olk n).sentOpen e w)
      have link := State.olk_sendFlit_short (s := s.setOl n ((s.olk n).sentOpen e w)) (x := n) (f := .openDat e i) (c := false)
        (by rw [same]; exact short)
      have spad := State.sendFlit_spad (s := s.setOl n ((s.olk n).sentOpen e w)) (n := n) (x := n) (f := .openDat e i) (c := false)
      have gives := gives_linkFlitTransmit hn unarmed gone
      rw [same] at link
      generalize (s.setOl n ((s.olk n).sentOpen e w)).sendFlit n n (.openDat e i) false = t at link spad gives
      have own : (s.after t).olk n = _ := link
      refine gives.does ?_
      rw [own]
      exact ⟨rfl, rfl, OLink.roomOf_sentOpen (w := w) room, rfl, spad⟩
  · exact ⟨_, State.olk_sendFlit_fifth four, rfl⟩
  · have open_ : ¬ s.accepts n = false := ne_false_of_eq_true taken
    refine ⟨?_, ?_, ?_, fun next => ?_, fun next => ?_, fun next last => ?_, ?_, ?_, ?_⟩
    · exact gives_small hn (Nat.zero_le _) nofun (if_neg open_)
    · rintro c rfl next
      exact gives_small hn few good ((if_neg open_).trans (if_pos next))
    · rintro c rfl next
      exact gives_small hn few good ((if_neg open_).trans (if_neg next))
    · exact gives_openFlit hn ok dat hi ((if_neg open_).trans (if_pos next))
    · exact gives_openFlit hn ok dat hi ((if_neg open_).trans (if_neg next))
    · exact (gives_openFlit hn ok dat hi ((if_neg open_).trans (if_pos next))).does
        (State.gather_last (s := s.rxCounted n) (x := x) last)
    · refine (gives_credit hn hv (if_neg open_)).does ⟨rfl, fun c hc => ?_⟩
      exact (congrArg (OLink.roomOf · c) (State.olk_modOl_same s x (OLink.returned v))).trans
        (OLink.roomOf_returned hc)
    · exact gives_landMark hn hg (if_pos taken)
    · exact gives_stream hn hj (if_pos taken)
  · extract_lets flit
    refine ⟨gives_landing_none hn empty, fun closed => ?_, fun taken apart left => ?_, fun taken near late => ?_,
      fun taken near kept timely free => ?_⟩
    · exact gives_landingFlit hn hlo hpos hdata hue (if_pos closed) (State.land_none empty)
    · exact gives_landingFlit hn hlo hpos hdata hue ((if_neg (ne_false_of_eq_true taken)).trans (if_pos apart)) (State.land_none left)
    · obtain ⟨cb, drops, late⟩ := late
      have link := State.olk_setOl_same (s.rxCounted n) x ((s.olk x).one m pos data (ue != 0))
      have gives := gives_landing_near hn hlo hpos hdata hue taken near empty (State.land_late link drops late)
      rw [State.setOl_setOl] at gives
      have own : (s.after ((s.rxCounted n).setOl x ((s.olk x).one m pos data (ue != 0)).passed)).olk x = _ :=
        State.olk_setOl_same (s.rxCounted n) x _
      refine gives.does ?_
      rw [own]
      exact ⟨rfl, rfl, rfl⟩
    · have link := State.olk_setOl_same (s.rxCounted n) x ((s.olk x).one m pos data (ue != 0))
      have gives := gives_landing_near hn hlo hpos hdata hue taken near empty (State.land_free link kept timely free)
      rw [State.setOl_setOl] at gives
      have own : (s.after ((s.rxCounted n).setOl x
          (((s.olk x).one m pos data (ue != 0)).landed m pos data (ue != 0)))).olk x = _ := State.olk_setOl_same (s.rxCounted n) x _
      refine gives.does ?_
      rw [own]
      refine ⟨fun d => ?_, rfl, rfl⟩
      rw [show 4 * (m % 128) + pos = 4 * (m % 128) + pos % 4 by omega]
      exact SMap.get_put_same ..

end Sys2Proof.Machine

/-! # Packets between chips (R312 to R316, R431): the proof of PacketsCrossBetweenChips -/

namespace Sys2Proof.Machine

section

variable {s t u : State} {n ni k v b a m d : Nat} {p q : Pkt} {e : XlatE}

/-! ## Leaving the chip -/

theorem gives_egress_none (hn : n < 32) (ok : okPkt p = true)
    (closed : s.fld FB_ANCHOR_STATUS_STOPPED = 1 ∨ p.isReg = true ∨ p.dst ≠ olLoc n) : Gives (.linkEgressPacket n p) s s :=
  Gives.of_run (exec_linkEgressPacket n p s) (by simp only [Instr.wf, okOl, hn, ok, decide_true, Bool.and_self])
    (if_pos (closed.imp_right (Or.imp_right decide_eq_false)))

theorem gives_egress (hn : n < 32) (ok : okPkt p = true) (runs : ¬ s.fld FB_ANCHOR_STATUS_STOPPED = 1) (plain : p.isReg = false)
    (here : p.dst = olLoc n) (h : (s.takeNet (.unit (olLoc n)) p).egress n p = t) : Gives (.linkEgressPacket n p) s t := by
  refine Gives.of_run (exec_linkEgressPacket n p s) (by simp only [Instr.wf, okOl, hn, ok, decide_true, Bool.and_self])
    ((if_neg ?_).trans h)
  rintro (stop | register | elsewhere)
  · exact runs stop
  · exact Bool.noConfusion (plain.symm.trans register)
  · exact of_decide_eq_false elsewhere here

theorem State.egress_snoop (snoop : p.net = .snp) (other : p.kind ≠ opWIN_CLOSE) : s.egress n p = s := if_pos ⟨snoop, other⟩

/-- What the mesh does not send back is a request or an answer for another chip (R312). -/
def Pkt.crosses (p : Pkt) : Prop := p.net ≠ .snp ∨ p.kind = opWIN_CLOSE

theorem Pkt.crosses.not_snoop (crosses : p.crosses) : ¬ (p.net = .snp ∧ p.kind ≠ opWIN_CLOSE) :=
  fun h => crosses.elim (· h.1) h.2

/-- The link carries packets of the bundle. -/
def State.carriesFor (s : State) (n b : Nat) : Prop := b = s.linkBundle n ∧ s.carried n = true ∧ s.plan.consort ≠ some n

theorem State.not_carriesFor (h : b ≠ s.linkBundle n ∨ s.carried n = false ∨ s.plan.consort = some n) : ¬ s.carriesFor n b := by
  rintro ⟨own, carried, packets⟩
  rcases h with away | lost | consort
  · exact away own
  · exact Bool.noConfusion (carried.symm.trans lost)
  · exact packets consort

/-- An answer belongs to the link's own bundle (R314). -/
theorem State.egress_answer (crosses : p.crosses) (answer : p.isAnswer = true) (carries : s.carriesFor n (s.linkBundle n)) :
    s.egress n p = s.queueOn n p := by
  rw [State.egress, if_neg crosses.not_snoop]
  cases p.address <;> simp only [answer, if_true] <;> exact if_pos ⟨trivial, carries.2⟩

theorem State.egress_answer_away (crosses : p.crosses) (answer : p.isAnswer = true) (away : ¬ s.carriesFor n (s.linkBundle n)) :
    s.egress n p = s.redirect n (s.linkBundle n) p := by
  rw [State.egress, if_neg crosses.not_snoop]
  cases p.address <;> simp only [answer, if_true] <;> exact if_neg fun h => away ⟨rfl, h.2⟩

/-- A request belongs to the bundle of its chip (R314). -/
theorem State.egress_request (crosses : p.crosses) (request : p.isAnswer = false) (address : p.address = some a)
    (home : s.chipBundle (adChip a) = some b) (carries : s.carriesFor n b) : s.egress n p = s.translate n p := by
  rw [State.egress, if_neg crosses.not_snoop]
  simp only [address, request, home, Bool.false_eq_true, if_false]
  exact if_pos carries

theorem State.egress_request_away (crosses : p.crosses) (request : p.isAnswer = false) (address : p.address = some a)
    (home : s.chipBundle (adChip a) = some b) (away : ¬ s.carriesFor n b) : s.egress n p = s.redirect n b p := by
  rw [State.egress, if_neg crosses.not_snoop]
  simp only [address, request, home, Bool.false_eq_true, if_false]
  exact if_neg away

theorem State.egress_request_lost (crosses : p.crosses) (request : p.isAnswer = false) (address : p.address = some a)
    (home : s.chipBundle (adChip a) = none) : s.egress n p = s := by
  rw [State.egress, if_neg crosses.not_snoop]
  simp only [address, request, home, Bool.false_eq_true, if_false]

theorem State.translate_known (known : (s.olk n).xlat.find? (fun x => decide (x.src = p.src) && x.txn == p.tag) = some e) :
    s.translate n p = s.queueOn n (p.withTag e.ltxn) := by
  rw [State.translate]
  simp only [known]

theorem State.translate_new {x : Nat} (fresh : (s.olk n).xlat.find? (fun x => decide (x.src = p.src) && x.txn == p.tag) = none)
    (free : (List.range 4096).find? (fun t => !((s.olk n).xlat.any fun e => e.ltxn == t)) = some x) :
    s.translate n p = (s.modOl n fun l => { l with xlat := l.xlat ++ [⟨p.src, p.tag, x⟩] }).queueOn n (p.withTag x) := by
  rw [State.translate]
  simp only [fresh, free]

theorem State.redirect_some (link : s.bundleLink b = some m) (other : m ≠ n) :
    s.redirect n b p = (s.fromLink n { p with dst := olLoc m }).addFld OL_REDIRECT_CNT_REDIRECTED 1 n := by
  rw [State.redirect, link]
  exact if_neg other

/-! ## Entering the chip -/

/-- What a link leaves of a packet that it takes from those received: its room goes back (R311). -/
def State.rxTaken (s : State) (n : Nat) (q : Pkt) : State :=
  (s.modOl n fun l => { l with rxq := delFirst (fun x => decide (x = q)) l.rxq }).item n 0x03 (creditItem (linkClass q) (nflits q))

theorem State.takeRx_closed {f : State → Pkt → State} {pick : Pkt → Bool}
    (closed : s.fld FB_ANCHOR_STATUS_STOPPED = 1 ∨ s.carried n = false) : s.takeRx n pick f = s := if_pos closed

theorem State.takeRx_none {f : State → Pkt → State} {pick : Pkt → Bool} (none : (s.olk n).rxq.find? pick = none) :
    s.takeRx n pick f = s := by
  rw [State.takeRx]
  split_ifs
  · rfl
  · simp only [none]

theorem State.takeRx_some {f : State → Pkt → State} {pick : Pkt → Bool} (runs : ¬ s.fld FB_ANCHOR_STATUS_STOPPED = 1)
    (carried : s.carried n = true) (oldest : (s.olk n).rxq.find? pick = some q) : s.takeRx n pick f = f (s.rxTaken n q) q := by
  rw [State.takeRx, if_neg]
  · simp only [oldest]
    rfl
  · rintro (stop | lost)
    · exact runs stop
    · exact Bool.noConfusion (carried.symm.trans lost)

theorem gives_ingressRequest (hn : n < 32) (h : s.takeRx n (fun p => !p.isAnswer) (fun s p => s.ingress n p) = t) :
    Gives (.linkIngressRequest n) s t := Gives.of_run (exec_linkIngressRequest n s) (decide_eq_true hn) h

theorem gives_ingressAnswer (hn : n < 32) (h : s.takeRx n (fun p => p.isAnswer) (fun s p => s.ingressAnswer n p) = t) :
    Gives (.linkIngressAnswer n) s t := Gives.of_run (exec_linkIngressAnswer n s) (decide_eq_true hn) h

/-- Where a request of another chip goes does not depend on what the link has received. -/
theorem State.ingressDest_rxTaken : (s.rxTaken n q).ingressDest m a = s.ingressDest m a := rfl

theorem State.ingress_to {d : Loc} (address : p.address = some a) (dest : s.ingressDest n a = some d) :
    s.ingress n p = (s.modOl n fun l => { l with dest := l.dest.put p.tag d }).fromLink n { p with src := olLoc n, dst := d } := by
  rw [State.ingress]
  simp only [address, dest]

theorem State.ingress_nowhere (address : p.address = some a) (dest : s.ingressDest n a = none) :
    s.ingress n p = if adChip a = s.chipId then
      s.queueOn n (mkPkt opDROP (olLoc n) p.src p.ten p.flow p.tag [s.lostReason a, p.op, b2n (p.net == .dat)]) else s := by
  rw [State.ingress]
  simp only [address, dest]

theorem State.ingressAnswer_known (known : (s.olk n).xlat.find? (fun x => x.ltxn == p.txn) = some e) :
    s.ingressAnswer n p = s.fromLink n { p with dst := e.src, txn := e.txn } := by
  rw [State.ingressAnswer]
  simp only [known]

theorem State.ingressAnswer_unknown (unknown : (s.olk n).xlat.find? (fun x => x.ltxn == p.txn) = none) :
    s.ingressAnswer n p = s.addFld OL_XLAT_DISC_DISCARDED 1 n := by
  rw [State.ingressAnswer]
  simp only [unknown]

theorem State.xlat_rxTaken : ((s.rxTaken n q).olk n).xlat = (s.olk n).xlat := by
  rw [State.rxTaken, State.item_modOl, State.olk_modOl_same]

/-! ## Idle entries -/

/-- The link without its translation entries of a TXN. -/
def State.xlatFreed (s : State) (n x : Nat) : State := s.modOl n fun l => { l with xlat := l.xlat.filter fun y => y.ltxn != x }

theorem gives_xlatIdle {x : Nat} (hn : n < 32) (hx : x < 4096)
    (h : (match ((s.xlatFreed n x).olk n).wait with
      | [] => s.xlatFreed n x
      | p :: rest => ((s.xlatFreed n x).modOl n fun l => { l with wait := rest }).translate n p) = t) : Gives (.xlatIdleExpire n x) s t := by
  refine Gives.of_run (exec_xlatIdleExpire n x s) (by simp only [Instr.wf, okOl, hn, hx, decide_true, Bool.and_self]) ?_
  rw [← h]
  rfl

theorem State.wait_xlatFreed {x : Nat} : ((s.xlatFreed n x).olk n).wait = (s.olk n).wait := by
  rw [State.xlatFreed, State.olk_modOl_same]

/-! ## Bits of NI_REACH -/

theorem gives_niReach (hni : ni < 2304) (hk : k < 128) (hv : v < 2 ^ 32) (alive : s.regAlive (NI_REACH.addr ni k) = true)
    (h : (s.serveWrite (NI_REACH.addr ni k) v).setReach ni k v = t) : Gives (.niReachWrite ni k v) s t :=
  Gives.of_run (exec_niReachWrite ni k v s) (by simp only [Instr.wf, okSlot, okW, hni, hk, hv, decide_true, Bool.and_self])
    ((if_pos alive).trans h)

theorem State.setReach_eq : s.setReach ni k v = (s.wr NI_REACH ni k v).chipsLost (fun x => x == ni)
    fun c => c / 32 == k && (s.rd NI_REACH ni k).testBit (c % 32) && !(v.testBit (c % 32)) := rfl

/-- Nothing is open, so nothing ends. -/
theorem State.chipsLost_none {nis chips : Nat → Bool} (idle : s.otx = []) : s.chipsLost nis chips = s := by
  rw [State.chipsLost, idle]
  rfl

end

/-- Settles O35: a packet's bundle decides how it leaves, the place that its address names how it enters. -/
theorem packetsCrossBetweenChips : Obligations.PacketsCrossBetweenChips := by
  intro s n ni k v x b p q e hn hni hk hv hx ok
  extract_lets u l stop out w₁
  refine ⟨gives_egress_none hn ok, fun runs plain here => ⟨fun snoop other => ?_, fun crosses answer => ⟨fun carried packets => ?_,
    fun closed => ?_⟩, fun a crosses request address => ⟨fun lost => ?_, fun home own carried packets => ⟨fun known => ?_,
      fun fresh free => ?_⟩, fun m home away link other => ?_⟩⟩, fun closed => ⟨?_, ?_⟩, fun _ none => ?_, fun _ none => ?_,
    fun runs carried oldest => ?_, fun runs carried oldest => ?_, fun none => ?_, fun rest waits => ?_, fun alive => ?_,
    fun alive idle => ?_⟩
  · exact gives_egress hn ok runs plain here (State.egress_snoop (s := u) snoop other)
  · exact gives_egress hn ok runs plain here (State.egress_answer (s := u) (.inl crosses) answer ⟨rfl, carried, packets⟩)
  · exact gives_egress hn ok runs plain here (State.egress_answer_away (s := u) (.inl crosses) answer (State.not_carriesFor (.inr closed)))
  · exact gives_egress hn ok runs plain here (State.egress_request_lost (s := u) crosses request address lost)
  · exact gives_egress hn ok runs plain here
      ((State.egress_request (s := u) crosses request address home ⟨own, carried, packets⟩).trans (State.translate_known (s := u) known))
  · exact gives_egress hn ok runs plain here
      ((State.egress_request (s := u) crosses request address home ⟨own, carried, packets⟩).trans (State.translate_new (s := u) fresh free))
  · exact gives_egress hn ok runs plain here
      ((State.egress_request_away (s := u) crosses request address home (State.not_carriesFor away)).trans (State.redirect_some (s := u) link other))
  · exact gives_ingressRequest hn (State.takeRx_closed closed)
  · exact gives_ingressAnswer hn (State.takeRx_closed closed)
  · exact gives_ingressRequest hn (State.takeRx_none none)
  · exact gives_ingressAnswer hn (State.takeRx_none none)
  · have taken := State.takeRx_some (f := fun s p => s.ingress n p) runs carried oldest
    refine ⟨fun a d address dest => ?_, fun a address dest => ⟨fun other => ?_, fun here => ?_⟩⟩
    · exact gives_ingressRequest hn (taken.trans (State.ingress_to (s := w₁) address dest))
    · exact gives_ingressRequest hn (taken.trans ((State.ingress_nowhere (s := w₁) address dest).trans (if_neg other)))
    · exact gives_ingressRequest hn (taken.trans ((State.ingress_nowhere (s := w₁) address dest).trans (if_pos here)))
  · have taken := State.takeRx_some (f := fun s p => s.ingressAnswer n p) runs carried oldest
    refine ⟨fun known => ?_, fun unknown => ?_⟩
    · exact gives_ingressAnswer hn (taken.trans (State.ingressAnswer_known (s := w₁) (State.xlat_rxTaken.symm ▸ known)))
    · exact gives_ingressAnswer hn (taken.trans (State.ingressAnswer_unknown (s := w₁) (State.xlat_rxTaken.symm ▸ unknown)))
  · exact gives_xlatIdle hn hx (by rw [State.wait_xlatFreed, none]; rfl)
  · exact gives_xlatIdle hn hx (by rw [State.wait_xlatFreed, waits]; rfl)
  · refine gives_niReach hni hk hv alive ?_
    rw [State.setReach_eq, State.rd_serveWrite]
  · obtain ⟨net, bn, frame⟩ := s.serveWrite_frame (NI_REACH.addr ni k) v
    have same : (s.serveWrite (NI_REACH.addr ni k) v).setReach ni k v = (s.serveWrite (NI_REACH.addr ni k) v).wr NI_REACH ni k v := by
      rw [State.setReach_eq]
      exact State.chipsLost_none (by rw [frame]; exact idle)
    refine (gives_niReach hni hk hv alive same).does ?_
    rw [frame]
    refine ⟨?_, fun off d out => State.regs_wr_ne _ _ _ _ _ off d fun here => out (here ▸ List.mem_singleton_self _), rfl⟩
    exact (State.rd_wr_same _ NI_REACH ni k v).trans (Nat.mod_eq_of_lt hv)

end Sys2Proof.Machine

/-! # Training of links (R317 to R320): the proof of LinksTrainStateByState -/

namespace Sys2Proof.Machine

section

variable {s t u : State} {n m v x mask rtt far : Nat} {c : Sys2Proof.Instr} {f : Fld}

/-! ## The state of a link -/

/-- The registers in which a link's state moves: OL_STATUS, and the logbook's pointer. -/
def olMoves (n : Nat) : List Nat := [OL_STATUS.addr n 0, (LOG_PTR .ol).addr n 0]

theorem olStatus_ne_logPtr : OL_STATUS.addr n 0 ≠ (LOG_PTR .ol).addr n 0 := RegDef.addr_ne rfl (by decide)

theorem State.fld_log_apart {code peerKind peer detail : Nat} (reg : f.reg = OL_STATUS) :
    (s.log .ol n code peerKind peer detail).fld f n = s.fld f n :=
  (State.logged_log (l := [(LOG_PTR .ol).addr n 0]) code peerKind peer detail (List.mem_singleton_self _)).regs.fld
    fun mem => olStatus_ne_logPtr ((congrArg (RegDef.addr · n 0) reg).symm.trans (List.mem_singleton.mp mem))

theorem State.logged_setLink : s.Logged (s.setLink n v) (olMoves n) := by
  unfold State.setLink
  dsimp only
  split_ifs
  · exact .refl
  · exact (State.logged_setFld OL_STATUS_STATE v n (List.mem_cons_self ..)).trans
      (State.logged_log _ _ _ _ (List.mem_cons_of_mem _ (List.mem_singleton_self _)))

theorem State.linkState_setLink (hv : v < 16) : (s.setLink n v).linkState n = v := by
  unfold State.setLink
  dsimp only
  split_ifs with same
  · exact same
  · exact (State.fld_log_apart rfl).trans
      ((State.fld_setFld_same s OL_STATUS_STATE v n 0 (by decide) (by decide)).trans (Nat.mod_eq_of_lt hv))

theorem State.fld_setLink_apart (reg : f.reg = OL_STATUS) (low : f.hi < 28) : (s.setLink n v).fld f n = s.fld f n := by
  unfold State.setLink
  dsimp only
  split_ifs
  · rfl
  · exact (State.fld_log_apart reg).trans
      (State.fld_setFld_apart s OL_STATUS_STATE f v n 0 reg (by decide) (by decide) (.inr low))

theorem State.fld_setLink_ne (out : f.reg.addr n 0 ∉ olMoves n) : (s.setLink n v).fld f n = s.fld f n :=
  State.logged_setLink.regs.fld out

theorem State.olk_setLink : (s.setLink n v).olk m = s.olk m := by
  obtain ⟨_, _, _, _, _, e⟩ := (State.logged_setLink (s := s) (n := n) (v := v)).frame
  rw [e]
  rfl

theorem State.linkState_setFld_apart (reg : f.reg = OL_STATUS) (order : f.lo ≤ f.hi) (low : f.hi < 28) :
    (s.setFld f v n).linkState n = s.linkState n :=
  State.fld_setFld_apart s f OL_STATUS_STATE v n 0 reg.symm order (low.trans (by decide)) (.inl low)

/-- Registers of a link at different offsets. -/
theorem olReg_notin_moves {r : RegDef} (blk : r.blk = .ol) (stride : r.stride * 0 = 0) (status : r.off ≠ OL_STATUS.off)
    (ptr : r.off ≠ (LOG_PTR .ol).off) : r.addr n 0 ∉ olMoves n := by
  intro mem
  simp only [olMoves, List.mem_cons, List.not_mem_nil, or_false] at mem
  rcases mem with e | e
  · exact RegDef.addr_ne (q := OL_STATUS) blk (by simpa [stride] using status) e
  · exact RegDef.addr_ne (q := LOG_PTR .ol) blk (by simpa [stride] using ptr) e

/-! ## OL_CTRL -/

theorem gives_olCtrl (hn : n < 32) (hx : x < 2 ^ 32) (write : c ∈ [Sys2Proof.Instr.linkEnable n x, .retrain n x, .holdDown n x])
    (h : s.olCtrl n x = t) : Gives c s t := by
  have wf : (okOl n && okW x) = true := by simp only [okOl, okW, hn, hx, decide_true, Bool.and_self]
  simp only [List.mem_cons, List.not_mem_nil, or_false] at write
  obtain rfl | rfl | rfl := write
  · exact Gives.of_run (exec_linkEnable n x s) wf h
  · exact Gives.of_run (exec_retrain n x s) wf h
  · exact Gives.of_run (exec_holdDown n x s) wf h

/-- The write of OL_CTRL before the link acts on it. -/
def State.olWritten (s : State) (n x : Nat) : State := (s.serveWrite (OL_CTRL.addr n 0) x).writeTyped OL_CTRL n 0 x

theorem State.olCtrl_off (alive : s.regAlive (OL_CTRL.addr n 0) = true) (clear : bit x 31 = false) :
    s.olCtrl n x = if s.fld OL_CTRL_ENABLE n = 1 then ((s.olWritten n x).linkLost n true).setLink n lsDISABLED
      else s.olWritten n x := by
  rw [State.olCtrl, State.regWrite, if_pos alive]
  dsimp only
  rw [if_pos clear, State.fld, State.rd_serveWrite]
  rfl

theorem State.olCtrl_on (alive : s.regAlive (OL_CTRL.addr n 0) = true) (set : bit x 31 = true) :
    s.olCtrl n x =
      let w := if s.fld OL_CTRL_ENABLE n = 0 then (s.olWritten n x).trainStart n
        else if bit x 30 then (((s.olWritten n x).clockBack (52 + n / 4)).linkLost n true).trainStart n else s.olWritten n x
      if bit x 29 then w.holdLink n else w := by
  rw [State.olCtrl, State.regWrite, if_pos alive]
  dsimp only
  rw [if_neg (ne_false_of_eq_true set), State.fld, State.rd_serveWrite]
  rfl

/-- The three bits at the top of an OL_CTRL value. -/
theorem olCtrl_bits (hx : x < 2 ^ 32) {k : Nat} (top : x / 2 ^ 29 = k) :
    bit x 31 = decide (k / 4 % 2 = 1) ∧ bit x 30 = decide (k / 2 % 2 = 1) ∧ bit x 29 = decide (k % 2 = 1) := by
  subst top
  refine ⟨?_, ?_, ?_⟩ <;> rw [bit, Nat.testBit_eq_decide_div_mod_eq, decide_eq_decide] <;> omega

theorem bit_top_clear (hx : x < 2 ^ 32) (top : x / 2 ^ 31 = 0) : bit x 31 = false := by
  rw [bit_top hx, top]
  rfl

/-! ## Training starts -/

/-- The link as training starts: what concerns its pairs and its width is forgotten. -/
def OLink.restarted (l : OLink) : OLink :=
  { l with
    cur := [], txPair := 0, retry := [], resend := [], txStream := none, nak := none, again := 0, rxPair := 0, rxHalf := false, skip := false,
    acked := 0, strm := none, since := 32, wrr := [0, 0, 0], lanesNear := 0, lanesFar := 0, told := false, ident := 0, frames := 0,
    marker := 0 }

/-- The stream of a link that nobody has adopted is forgotten too (R332). -/
def OLink.forgotten (l : OLink) : OLink :=
  { l with txMark := none, carry := [], old := [], rxPart := [], room := [8, 34, 34, 32, 32, 16, 16] }

def State.restarted (s : State) (n : Nat) : State :=
  if (s.modOl n OLink.restarted).isAdopted n then s.modOl n OLink.restarted
  else (s.modOl n OLink.restarted).modOl n OLink.forgotten

/-- OL_STATUS and OL_LOCK as training starts. -/
def State.statusCleared (s : State) (n : Nat) : State :=
  ((((s.setFld OL_STATUS_WIDTH 0 n).setFld OL_STATUS_LANES 0 n).setFld OL_STATUS_OUTCOME 0 n).setFld OL_STATUS_FAIL_CAUSE 0 n).wr OL_LOCK n 0 0

theorem State.trainStart_eq (enabled : s.fld OL_CTRL_ENABLE n = 1) :
    s.trainStart n = ((s.restarted n).statusCleared n).setLink n lsWAIT_PMA :=
  if_neg (enabled.trans_ne (by decide))

theorem State.isAdopted_modOl {g : OLink → OLink} (kept : ∀ l, (g l).adopted = l.adopted) : (s.modOl n g).isAdopted m = s.isAdopted m := by
  refine congrArg (List.any (List.range 32)) (funext fun j => ?_)
  by_cases h : j = n
  · subst h
    rw [State.olk_modOl_same, kept]
  · rw [State.olk_modOl_ne _ _ _ _ h]

theorem State.olk_restarted :
    (s.restarted n).olk n = if s.isAdopted n then (s.olk n).restarted else (s.olk n).restarted.forgotten := by
  rw [State.restarted, State.isAdopted_modOl (g := OLink.restarted) fun _ => rfl]
  split_ifs
  · rw [State.olk_modOl_same]
  · rw [State.olk_modOl_same, State.olk_modOl_same]

theorem State.olk_statusCleared : (s.statusCleared n).olk m = s.olk m := rfl

theorem State.olk_trainStart (enabled : s.fld OL_CTRL_ENABLE n = 1) :
    (s.trainStart n).olk n = if s.isAdopted n then (s.olk n).restarted else (s.olk n).restarted.forgotten := by
  rw [State.trainStart_eq enabled, State.olk_setLink, State.olk_statusCleared, State.olk_restarted]

theorem State.linkState_trainStart (enabled : s.fld OL_CTRL_ENABLE n = 1) : (s.trainStart n).linkState n = lsWAIT_PMA := by
  rw [State.trainStart_eq enabled]
  exact State.linkState_setLink (by decide)

/-! ## Width (R318) -/

/-- What `widthOf` gives of the lanes usable at both ends, for every set of lanes. -/
theorem widthOf_spec : ∀ m < 16, ((widthOf m).1 = let count := ((List.range 4).filter fun i => m.testBit i).length
      if count = 4 then 3 else if 2 ≤ count then 2 else count) ∧ ((widthOf m).2 &&& m = (widthOf m).2) ∧
      ((List.range 4).filter fun i => (widthOf m).2.testBit i).length =
        (let count := ((List.range 4).filter fun i => m.testBit i).length; if count = 3 then 2 else count) ∧
      ∀ j < 4, ∀ i < j, (widthOf m).2.testBit j = true → m.testBit i = true → (widthOf m).2.testBit i = true := by
  decide +kernel

theorem widthOf_range : ∀ m < 16, (widthOf m).1 < 4 ∧ (widthOf m).2 < 16 ∧ ((widthOf m).1 = 0 ↔ m = 0) := by decide +kernel

/-- Only the four lanes count. -/
theorem widthOf_lanes : widthOf m = widthOf (m &&& 15) := by
  have lanes : (List.range 4).filter (fun i => bit m i) = (List.range 4).filter fun i => bit (m &&& 15) i := by
    refine List.filter_congr fun i hi => ?_
    have inside : (15 : Nat).testBit i = true := by
      have : ∀ i < 4, (15 : Nat).testBit i = true := by decide
      exact this i (List.mem_range.mp hi)
    rw [bit, bit, Nat.testBit_and, inside, Bool.and_true]
  simp only [widthOf, lanes]

theorem and_fifteen_lt : m &&& 15 < 16 := Nat.lt_succ_of_le Nat.and_le_right

theorem State.chooseWidth_none (none : (s.olk n).lanesNear &&& (s.olk n).lanesFar &&& 15 = 0) :
    s.chooseWidth n = (s.setFld OL_STATUS_FAIL_CAUSE 2 n).setLink n lsFAILED := by
  refine if_pos ?_
  rw [widthOf_lanes, none]
  decide

/-- The width chosen and its lanes stand in OL_STATUS. -/
def State.widthSet (s : State) (n : Nat) (w : Nat × Nat) : State := (s.setFld OL_STATUS_WIDTH w.1 n).setFld OL_STATUS_LANES w.2 n

theorem State.chooseWidth_some {w : Nat × Nat} (lanes : widthOf ((s.olk n).lanesNear &&& (s.olk n).lanesFar) = w) (some : w.1 ≠ 0) :
    s.chooseWidth n = ((s.widthSet n w).addFld OL_WIDTH_CHG_CNT 1 n).setLink n lsLOCK := by
  subst lanes
  exact if_neg some

theorem State.widthSet_spec {w : Nat × Nat} (width : w.1 < 4) (lanes : w.2 < 16) :
    (s.widthSet n w).fld OL_STATUS_WIDTH n = w.1 ∧ (s.widthSet n w).fld OL_STATUS_LANES n = w.2 := by
  refine ⟨?_, (State.fld_setFld_same _ OL_STATUS_LANES _ n 0 (by decide) (by decide)).trans (Nat.mod_eq_of_lt lanes)⟩
  exact (State.fld_setFld_apart _ OL_STATUS_LANES OL_STATUS_WIDTH _ n 0 rfl (by decide) (by decide) (.inl (by decide))).trans
    ((State.fld_setFld_same s OL_STATUS_WIDTH _ n 0 (by decide) (by decide)).trans (Nat.mod_eq_of_lt width))

theorem State.fld_widthChg (reg : f.reg = OL_STATUS) : (s.addFld OL_WIDTH_CHG_CNT 1 n).fld f n = s.fld f n :=
  State.fld_setFld_ne _ _ _ _ _ _ _ _ (by rw [reg]; exact RegDef.addr_ne (q := OL_WIDTH_CHG) rfl (by decide))

/-! ## LOCK (R319) -/

/-- RTT and LOCK are shown. -/
def State.lockShown (s : State) (n rtt k : Nat) : State := (s.setFld OL_LOCK_RTT rtt n).setFld OL_LOCK_LOCK (min 255 k) n

/-- A landing delay that is too low for the lock is refused (R92). -/
def State.delayJudged (s : State) (n k : Nat) : State :=
  if s.fld OL_LAND_CFG_ENABLE n = 1 ∧ min 127 (s.fld OL_LAND_CFG_DELAY n) < k + 8 then
    (s.setFld OL_LAND_CFG_ENABLE 0 n).setFld OL_LAND_STATUS_DELAY_LOW 1 n
  else s

theorem State.lockDone_eq : s.lockDone n rtt far =
    if 150 < max (lockOf rtt) far then (s.lockShown n rtt (max (lockOf rtt) far)).linkFailed n 3
    else ((s.lockShown n rtt (max (lockOf rtt) far)).delayJudged n (max (lockOf rtt) far)).setLink n lsIDENT := rfl

theorem olLock_notin_moves : OL_LOCK.addr n 0 ∉ olMoves n := olReg_notin_moves rfl rfl (by decide) (by decide)

theorem olLandCfg_notin_moves : OL_LAND_CFG.addr n 0 ∉ olMoves n := olReg_notin_moves rfl rfl (by decide) (by decide)

variable {k : Nat}

theorem State.lockShown_spec (hrtt : rtt < 65536) :
    (s.lockShown n rtt k).fld OL_LOCK_RTT n = rtt ∧ (s.lockShown n rtt k).fld OL_LOCK_LOCK n = min 255 k := by
  refine ⟨?_, (State.fld_setFld_same _ OL_LOCK_LOCK _ n 0 (by decide) (by decide)).trans
    (Nat.mod_eq_of_lt ((Nat.min_le_left 255 k).trans_lt (by decide)))⟩
  exact (State.fld_setFld_apart _ OL_LOCK_LOCK OL_LOCK_RTT _ n 0 rfl (by decide) (by decide) (.inr (by decide))).trans
    ((State.fld_setFld_same s OL_LOCK_RTT _ n 0 (by decide) (by decide)).trans (Nat.mod_eq_of_lt hrtt))

theorem State.regsKept_lockShown : s.RegsKept (s.lockShown n rtt k) [OL_LOCK.addr n 0] :=
  (State.regsKept_setFld OL_LOCK_RTT _ n 0 (List.mem_singleton_self _)).trans
    (State.regsKept_setFld OL_LOCK_LOCK _ n 0 (List.mem_singleton_self _))

theorem State.regsKept_delayJudged : s.RegsKept (s.delayJudged n k) [OL_LAND_CFG.addr n 0, OL_LAND_STATUS.addr n 0] := by
  unfold State.delayJudged
  split_ifs
  · exact (State.regsKept_setFld OL_LAND_CFG_ENABLE _ n 0 (List.mem_cons_self ..)).trans
      (State.regsKept_setFld OL_LAND_STATUS_DELAY_LOW _ n 0 (List.mem_cons_of_mem _ (List.mem_singleton_self _)))
  · exact .refl

theorem State.delayJudged_low (low : min 127 (s.fld OL_LAND_CFG_DELAY n) < k + 8) : (s.delayJudged n k).fld OL_LAND_CFG_ENABLE n = 0 := by
  have bit : s.fld OL_LAND_CFG_ENABLE n < 2 := s.fld_lt OL_LAND_CFG_ENABLE n 0
  unfold State.delayJudged
  split_ifs with enabled
  · exact (State.fld_setFld_ne _ OL_LAND_STATUS_DELAY_LOW OL_LAND_CFG_ENABLE _ _ _ _ _
      (RegDef.addr_ne (r := OL_LAND_CFG) (q := OL_LAND_STATUS) rfl (by decide))).trans
      (State.fld_setFld_same s OL_LAND_CFG_ENABLE 0 n 0 (by decide) (by decide))
  · have : s.fld OL_LAND_CFG_ENABLE n ≠ 1 := fun on => enabled ⟨on, low⟩
    omega

theorem State.delayJudged_high (high : k + 8 ≤ min 127 (s.fld OL_LAND_CFG_DELAY n)) : s.delayJudged n k = s :=
  if_neg fun h => absurd h.2 (Nat.not_lt.mpr high)

theorem State.fld_land_lockShown (reg : f.reg = OL_LAND_CFG) : (s.lockShown n rtt k).fld f n = s.fld f n := by
  refine State.regsKept_lockShown.fld fun mem => ?_
  rw [reg] at mem
  exact RegDef.addr_ne (r := OL_LAND_CFG) (q := OL_LOCK) rfl (by decide) (List.mem_singleton.mp mem)

theorem State.linkFailed_spec (hv : v < 4) : (s.linkFailed n v).linkState n = lsFAILED ∧ (s.linkFailed n v).fld OL_STATUS_FAIL_CAUSE n = v :=
  ⟨State.linkState_setLink (by decide), (State.fld_setLink_apart rfl (by decide)).trans
    ((State.fld_setFld_same s OL_STATUS_FAIL_CAUSE v n 0 (by decide) (by decide)).trans (Nat.mod_eq_of_lt hv))⟩

theorem State.fld_linkFailed (out : f.reg.addr n 0 ∉ olMoves n) : (s.linkFailed n v).fld f n = s.fld f n :=
  (State.fld_setLink_ne out).trans (State.fld_setFld_ne _ _ _ _ _ _ _ _ fun e => out (e ▸ List.mem_cons_self ..))

theorem State.lockDone_long (hrtt : rtt < 65536) (long : 150 < max (lockOf rtt) far) :
    (s.lockDone n rtt far).fld OL_LOCK_RTT n = rtt ∧ (s.lockDone n rtt far).fld OL_LOCK_LOCK n = min 255 (max (lockOf rtt) far) ∧
      (s.lockDone n rtt far).linkState n = lsFAILED ∧ (s.lockDone n rtt far).fld OL_STATUS_FAIL_CAUSE n = 3 := by
  rw [State.lockDone_eq, if_pos long]
  obtain ⟨shownRtt, shownLock⟩ := State.lockShown_spec (s := s) (n := n) (k := max (lockOf rtt) far) hrtt
  obtain ⟨failed, cause⟩ := State.linkFailed_spec (s := s.lockShown n rtt (max (lockOf rtt) far)) (n := n) (v := 3) (by decide)
  exact ⟨(State.fld_linkFailed olLock_notin_moves).trans shownRtt, (State.fld_linkFailed olLock_notin_moves).trans shownLock, failed, cause⟩

theorem State.lockDone_short (hrtt : rtt < 65536) (short : ¬ 150 < max (lockOf rtt) far) :
    (s.lockDone n rtt far).fld OL_LOCK_RTT n = rtt ∧ (s.lockDone n rtt far).fld OL_LOCK_LOCK n = min 255 (max (lockOf rtt) far) ∧
      (s.lockDone n rtt far).linkState n = lsIDENT ∧
      (min 127 (s.fld OL_LAND_CFG_DELAY n) < max (lockOf rtt) far + 8 → (s.lockDone n rtt far).fld OL_LAND_CFG_ENABLE n = 0) ∧
      (max (lockOf rtt) far + 8 ≤ min 127 (s.fld OL_LAND_CFG_DELAY n) →
        (s.lockDone n rtt far).fld OL_LAND_CFG_ENABLE n = s.fld OL_LAND_CFG_ENABLE n) := by
  rw [State.lockDone_eq, if_neg short]
  generalize max (lockOf rtt) far = k
  obtain ⟨shownRtt, shownLock⟩ := State.lockShown_spec (s := s) (n := n) (k := k) hrtt
  have delay : (s.lockShown n rtt k).fld OL_LAND_CFG_DELAY n = s.fld OL_LAND_CFG_DELAY n := State.fld_land_lockShown rfl
  have out : OL_LOCK.addr n 0 ∉ [OL_LAND_CFG.addr n 0, OL_LAND_STATUS.addr n 0] := by
    simp only [List.mem_cons, List.not_mem_nil, or_false, not_or]
    exact ⟨RegDef.addr_ne rfl (by decide), RegDef.addr_ne rfl (by decide)⟩
  refine ⟨?_, ?_, State.linkState_setLink (by decide), fun low => ?_, fun high => ?_⟩
  · exact (State.fld_setLink_ne olLock_notin_moves).trans ((State.regsKept_delayJudged.fld out).trans shownRtt)
  · exact (State.fld_setLink_ne olLock_notin_moves).trans ((State.regsKept_delayJudged.fld out).trans shownLock)
  · exact (State.fld_setLink_ne olLandCfg_notin_moves).trans (State.delayJudged_low (delay.symm ▸ low))
  · rw [State.delayJudged_high (delay.symm ▸ high)]
    exact (State.fld_setLink_ne olLandCfg_notin_moves).trans (State.fld_land_lockShown rfl)

/-! ## IDENT (R320) -/

/-- The word that OL_IDENT_RX shows of an IDENT. -/
def identWord (v : Nat) : Nat :=
  bits v 119 108 <<< 20 + bits v 107 103 <<< 15 + bits v 102 98 <<< 10 + bits v 97 95 <<< 7 + bits v 94 94 <<< 6

def State.identTaken (s : State) (n v : Nat) : State := (s.modOl n fun l => { l with ident := v }).wr OL_IDENT_RX n 0 (identWord v)

theorem identWord_spec : identWord v < 2 ^ 32 ∧ bits (identWord v) 31 20 = v / 2 ^ 108 % 2 ^ 12 ∧
    bits (identWord v) 19 15 = v / 2 ^ 103 % 2 ^ 5 ∧ bits (identWord v) 14 10 = v / 2 ^ 98 % 2 ^ 5 := by
  have chip : bits v 119 108 = v / 2 ^ 108 % 2 ^ 12 := bits_eq_div (k := 12) v rfl
  have link : bits v 107 103 = v / 2 ^ 103 % 2 ^ 5 := bits_eq_div (k := 5) v rfl
  have bundle : bits v 102 98 = v / 2 ^ 98 % 2 ^ 5 := bits_eq_div (k := 5) v rfl
  have plan : bits v 97 95 < 2 ^ 3 := bits_lt v 97 95
  have consort : bits v 94 94 < 2 ^ 1 := bits_lt v 94 94
  rw [← chip, ← link, ← bundle, bits_eq_div (k := 12) (identWord v) (hi := 31) (lo := 20) rfl,
    bits_eq_div (k := 5) (identWord v) (hi := 19) (lo := 15) rfl, bits_eq_div (k := 5) (identWord v) (hi := 14) (lo := 10) rfl]
  have hchip : bits v 119 108 < 2 ^ 12 := bits_lt v 119 108
  have hlink : bits v 107 103 < 2 ^ 5 := bits_lt v 107 103
  have hbundle : bits v 102 98 < 2 ^ 5 := bits_lt v 102 98
  simp only [identWord, Nat.shiftLeft_eq]
  omega

theorem State.identTaken_spec : ((s.identTaken n v).olk n).ident = v ∧
    (s.identTaken n v).fld OL_IDENT_RX_R_CHIP n = v / 2 ^ 108 % 2 ^ 12 ∧
    (s.identTaken n v).fld OL_IDENT_RX_R_LINK n = v / 2 ^ 103 % 2 ^ 5 ∧
    (s.identTaken n v).fld OL_IDENT_RX_R_BUNDLE n = v / 2 ^ 98 % 2 ^ 5 ∧ s.RegsKept (s.identTaken n v) [OL_IDENT_RX.addr n 0] := by
  obtain ⟨word, chip, link, bundle⟩ := identWord_spec (v := v)
  have shown : (s.identTaken n v).rd OL_IDENT_RX n = identWord v :=
    (State.rd_wr_same _ OL_IDENT_RX n 0 _).trans (Nat.mod_eq_of_lt word)
  refine ⟨congrArg OLink.ident (State.olk_modOl_same s n fun l => { l with ident := v }), ?_, ?_, ?_, fun off d out =>
    State.regs_wr_ne _ _ _ _ _ off d fun here => out (here ▸ List.mem_singleton_self _)⟩
  · exact (congrArg (bits · 31 20) shown).trans chip
  · exact (congrArg (bits · 19 15) shown).trans link
  · exact (congrArg (bits · 14 10) shown).trans bundle

theorem State.taking_of_state (reads : (s.olk n).skip = false) (own : s.linkState n = x) (low : lsWIDTH ≤ x) (high : x ≤ lsACTIVE) :
    s.taking n = true := by
  subst own
  rw [State.taking, reads, decide_eq_true ⟨low, high⟩]
  rfl

theorem gives_ident (hn : n < 32) (hv : v < 2 ^ 120) (takes : s.taking n = true) (h : s.identIn n v = t) : Gives (.ident n v) s t := by
  refine Gives.of_run (exec_ident n v s) ?_ ((if_pos takes).trans h)
  rw [Instr.wf, okOl, decide_eq_true hn, decide_eq_true hv]
  rfl

end

/-- Settles O36: each event of training acts in its own state; OL_CTRL's three top bits decide how a write starts or ends it. -/
theorem linksTrainStateByState : Obligations.LinksTrainStateByState := by
  intro s n v mask rtt far c hn hv hmask hrtt hfar
  extract_lets st l off fewer k
  have wfn : okOl n = true := decide_eq_true hn
  have wfm : (okOl n && decide (mask < 16)) = true := by rw [wfn, decide_eq_true hmask]; rfl
  have wfl : (okOl n && decide (rtt < 65536) && decide (far < 256)) = true := by rw [wfn, decide_eq_true hrtt, decide_eq_true hfar]; rfl
  refine ⟨fun x hx write alive => ?_, fun enabled other => ?_, fun x y apart hx hy own => State.linkState_setLink hy, fun own lanes => ?_,
    fun other => ?_, fun own => ?_, fun other => ?_, fun own => ?_, ⟨fun fewer => ?_, fun same align width => ?_⟩, fun m hm => ?_,
    fun own told none => ?_, fun own told some => ?_, fun other => ?_, fun own => ?_, fun other => ?_, fun own preset invalid => ?_,
    fun own plan => ?_, fun other => ?_, fun low high => ?_, fun out => ?_, fun sends => ?_, fun idle exchanged => ?_, fun reads =>
      ⟨fun own => ?_, fun own same => ?_, fun own differs => ?_⟩⟩
  · have ctrl := State.olCtrl_on (s := s) (n := n) (x := x) alive
    refine ⟨fun top off => ?_, fun top on => ?_, fun top off => ?_, fun top on => ?_, fun top on => ?_, fun top on => ?_⟩
    · exact gives_olCtrl hn hx write ((State.olCtrl_off alive (bit_top_clear hx top)).trans (if_neg (off.trans_ne (by decide))))
    · exact gives_olCtrl hn hx write ((State.olCtrl_off alive (bit_top_clear hx top)).trans (if_pos on))
    · obtain ⟨b31, b30, b29⟩ := olCtrl_bits hx top
      refine gives_olCtrl hn hx write ((ctrl b31).trans ?_)
      rw [b29, if_neg nofun, if_pos off]
      rfl
    · obtain ⟨b31, b30, b29⟩ := olCtrl_bits hx top
      refine gives_olCtrl hn hx write ((ctrl b31).trans ?_)
      rw [b29, b30, if_neg nofun, if_neg (on.trans_ne (by decide))]
      exact if_pos rfl
    · obtain ⟨b31, b30, b29⟩ := olCtrl_bits hx top
      refine gives_olCtrl hn hx write ((ctrl b31).trans ?_)
      rw [b29, b30, if_pos (show decide (5 % 2 = 1) = true from rfl), if_neg (on.trans_ne (by decide))]
      exact congrArg (State.holdLink · n) (if_neg nofun)
    · obtain ⟨b31, b30, b29⟩ := olCtrl_bits hx top
      refine gives_olCtrl hn hx write ((ctrl b31).trans ?_)
      rw [b29, b30, if_neg nofun, if_neg (on.trans_ne (by decide))]
      exact if_neg nofun
  · rw [State.olk_trainStart enabled]
    cases adopted : s.isAdopted n with
    | false => exact ⟨State.linkState_trainStart enabled, rfl, rfl, rfl, rfl, fun _ => ⟨rfl, rfl⟩, nofun⟩
    | true => exact ⟨State.linkState_trainStart enabled, rfl, rfl, rfl, rfl, nofun, fun _ => ⟨rfl, rfl⟩⟩
  · exact Gives.of_run (exec_pmaReady n mask s) wfm (if_pos ⟨own, lanes⟩)
  · refine Gives.of_run (exec_pmaReady n mask s) wfm (if_neg ?_)
    rintro ⟨own, lanes⟩
    exact other.elim (absurd own) lanes
  · exact Gives.of_run (exec_alignDone n mask s) wfm (if_pos own)
  · exact Gives.of_run (exec_alignDone n mask s) wfm (if_neg other)
  · exact Gives.of_run (exec_train n mask s) wfm (if_pos own)
  · obtain ⟨active, -⟩ := id fewer
    refine Gives.of_run (exec_train n mask s) wfm ((if_neg ?_).trans (if_pos fewer))
    exact not_or.mpr ⟨active.trans_ne (by decide), active.trans_ne (by decide)⟩
  · exact Gives.of_run (exec_train n mask s) wfm ((if_neg (not_or.mpr ⟨align, width⟩)).trans (if_neg same))
  · obtain ⟨code, sub, count, low⟩ := widthOf_spec m hm
    exact ⟨code, sub, count, fun i j hij hj => low j hj i hij⟩
  · exact Gives.of_run (exec_widthChosen n s) wfn ((if_pos ⟨own, told⟩).trans (State.chooseWidth_none none))
  · obtain ⟨width, lanes, empty⟩ := widthOf_range (l.lanesNear &&& l.lanesFar &&& 15) and_fifteen_lt
    rw [← widthOf_lanes] at width lanes empty
    obtain ⟨w, isw⟩ : ∃ w, widthOf (l.lanesNear &&& l.lanesFar) = w := ⟨_, rfl⟩
    rw [isw] at width lanes empty ⊢
    obtain ⟨shownW, shownL⟩ := State.widthSet_spec (s := s) (n := n) width lanes
    have chosen := State.chooseWidth_some isw (empty.not.mpr some)
    exact (Gives.of_run (exec_widthChosen n s) wfn ((if_pos ⟨own, told⟩).trans chosen)).does
      ⟨State.linkState_setLink (by decide), (State.fld_setLink_apart rfl (by decide)).trans ((State.fld_widthChg rfl).trans shownW),
        (State.fld_setLink_apart rfl (by decide)).trans ((State.fld_widthChg rfl).trans shownL)⟩
  · refine Gives.of_run (exec_widthChosen n s) wfn (if_neg ?_)
    rintro ⟨own, told⟩
    exact other.elim (absurd own) (ne_false_of_eq_true told)
  · have gives : Gives (.lockDone n rtt far) s (s.lockDone n rtt far) := Gives.of_run (exec_lockDone n rtt far s) wfl (if_pos own)
    refine gives.does ?_
    have formula : k = max (lockOf rtt) far := rfl
    clear_value k
    subst formula
    by_cases long : 150 < max (lockOf rtt) far
    · obtain ⟨shownRtt, shownLock, failed, cause⟩ := State.lockDone_long (s := s) (n := n) hrtt long
      exact ⟨shownRtt, shownLock, fun _ => ⟨failed, cause⟩, fun short => absurd long (Nat.not_lt.mpr short),
        fun short => absurd long (Nat.not_lt.mpr short), fun short => absurd long (Nat.not_lt.mpr short)⟩
    · obtain ⟨shownRtt, shownLock, ident, low, high⟩ := State.lockDone_short (s := s) (n := n) hrtt long
      exact ⟨shownRtt, shownLock, fun h => absurd h long, fun _ => ident, fun _ => low, fun _ => high⟩
  · exact Gives.of_run (exec_lockDone n rtt far s) wfl (if_neg other)
  · exact Gives.of_run (exec_identDone n s) wfn ((if_neg (not_not_intro own)).trans (if_pos ⟨preset, invalid⟩))
  · refine Gives.of_run (exec_identDone n s) wfn ((if_neg (not_not_intro own)).trans (if_neg ?_))
    rintro ⟨preset, invalid⟩
    exact plan.elim (absurd preset) (ne_true_of_eq_false invalid)
  · exact Gives.of_run (exec_identDone n s) wfn (if_pos other)
  · exact Gives.of_run (exec_trainLimitExpire n s) wfn (if_pos ⟨low, high⟩)
  · refine Gives.of_run (exec_trainLimitExpire n s) wfn (if_neg ?_)
    rintro ⟨low, high⟩
    exact out.elim (Nat.not_lt.mpr low) (Nat.not_lt.mpr high)
  · exact Gives.of_run (exec_identSend n s) wfn (if_pos sends)
  · exact Gives.of_run (exec_identSend n s) wfn (if_neg (not_or.mpr ⟨idle, exchanged⟩))
  · have takes := State.taking_of_state reads own (by decide) (by decide)
    have gives : Gives (.ident n v) s (s.identTaken n v) := gives_ident hn hv takes (if_pos own)
    exact gives.does (State.identTaken_spec (s := s) (n := n) (v := v))
  · have takes := State.taking_of_state reads own (by decide) (by decide)
    exact gives_ident hn hv takes ((if_neg (own.trans_ne (by decide))).trans (if_neg fun h => h.2 same))
  · have takes := State.taking_of_state reads own (by decide) (by decide)
    exact gives_ident hn hv takes ((if_neg (own.trans_ne (by decide))).trans (if_pos ⟨own, differs⟩))

end Sys2Proof.Machine

/-! # Losses of lanes and links (R305, R331 to R334, R447): the refutation of LanesAndLinksAreLostAndAdopted -/

namespace Sys2Proof.Machine

/-! ## The counterexample

The statement says that the loss of a link whose sibling adopts its stream leaves the state of every bundle as it was, and bounds the
bundle's number by nothing. FB_BUNDLE_STATE holds sixteen bundles a word, and the 130,556th word after its first is OL_STATUS of link 0: the
two bits of "bundle" 16 · 130,556 + 15 are the upper half of the link's STATE, which the loss moves from ACTIVE to HELD. -/

/-- Links 0 and 1 are ACTIVE and judged good; both are of one bundle. -/
def twoLinks : State :=
  (((State.setFld {} OL_STATUS_STATE lsACTIVE 0).setFld OL_STATUS_OUTCOME 1 0).setFld OL_STATUS_STATE lsACTIVE 1).setFld OL_STATUS_OUTCOME 1 1

/-- The number whose bits in FB_BUNDLE_STATE are those of OL_STATUS of link 0. -/
def noSuchBundle : Nat := 16 * 130556 + 15

theorem bundleWord_eq : FB_BUNDLE_STATE.addr 0 (noSuchBundle / 16) = OL_STATUS.addr 0 0 := by decide

theorem twoLinks_active : twoLinks.linkState 0 = lsACTIVE ∧ twoLinks.fld FB_CONSORT_STATUS_ARMED = 0 ∧ twoLinks.plan.consort = none ∧
    (twoLinks.olk 0).adopted = [] := by decide +kernel

/-- Link 1 is left of the bundle, and adopts the stream. -/
theorem twoLinks_sibling :
    max 1 (twoLinks.minLinks (twoLinks.linkBundle 0)) ≤ ((twoLinks.setLink 0 lsHELD).bundleUpLinks (twoLinks.linkBundle 0)).length ∧
      (twoLinks.setLink 0 lsHELD).sibling (twoLinks.linkBundle 0) = some 1 := by decide +kernel

theorem twoLinks_before : twoLinks.bundleState noSuchBundle = 1 := by decide +kernel

theorem twoLinks_after : (twoLinks.linkLost 0 false).bundleState noSuchBundle = 2 := by decide +kernel

/-- Refutes O37: the two bits that stand for a bundle beyond 31 are those of another register, and the loss of a link moves them. -/
theorem not_lanesAndLinksAreLostAndAdopted : ¬ Obligations.LanesAndLinksAreLostAndAdopted := by
  unfold Obligations.LanesAndLinksAreLostAndAdopted
  intro h
  obtain ⟨active, unarmed, packets, alone⟩ := twoLinks_active
  obtain ⟨enough, sibling⟩ := twoLinks_sibling
  obtain ⟨-, -, -, -, -, -, -, -, -, -, -, -, -, adopted, -⟩ :=
    h twoLinks 0 0 0 0 0 0 (by decide) (by decide) (by decide) (by decide) (by decide) (by decide)
  obtain ⟨-, -, -, -, -, -, -, kept, -⟩ := adopted 1 active unarmed packets enough sibling alone (by decide)
  have same := kept noSuchBundle
  rw [twoLinks_before, twoLinks_after] at same
  exact absurd same (by decide)

end Sys2Proof.Machine

/-! # Slice commands (R370, R374): the proof of SliceCommandsRunOneAtATime -/

namespace Sys2Proof.Machine

section

variable {s t u : State} {v g n : Nat} {p : Pkt} {c : Sys2Proof.Instr} {f : Fld}

/-! ## The registers of a slice command -/

/-- The registers that a slice command of a tenancy moves. -/
def sliceRegs (n : Nat) : List Nat := [FB_SLICE_STATUS.addr 0 0, TN_INFO.addr n 0]

theorem sliceStatus_ne_info : FB_SLICE_STATUS.addr 0 0 ≠ TN_INFO.addr n 0 := by
  simp only [RegDef.addr, FB_SLICE_STATUS, TN_INFO, Blk.base]
  omega

theorem State.regsKept_status (reg : f.reg = FB_SLICE_STATUS) : s.RegsKept (s.setFld f v) (sliceRegs n) :=
  State.regsKept_setFld f v 0 0 (by rw [reg]; exact List.mem_cons_self ..)

theorem State.regsKept_info (reg : f.reg = TN_INFO) : s.RegsKept (s.setFld f v n) (sliceRegs n) :=
  State.regsKept_setFld f v n 0 (by rw [reg]; exact List.mem_cons_of_mem _ (List.mem_singleton_self _))

/-- A field of FB_SLICE_STATUS does not move with TN_INFO. -/
theorem State.status_info {q : Fld} (own : f.reg = FB_SLICE_STATUS) (other : q.reg = TN_INFO) :
    (s.setFld q v n).fld f = s.fld f :=
  State.fld_setFld_ne _ _ _ _ _ _ _ _ (by rw [own, other]; exact sliceStatus_ne_info)

/-- TN_INFO as a command of the tenancy begins or ends. -/
def State.infoSet (s : State) (n busy done failed : Nat) : State :=
  ((s.setFld TN_INFO_BUSY busy n).setFld TN_INFO_SCRUB_DONE done n).setFld TN_INFO_SCRUB_FAIL failed n

theorem State.infoSet_spec {busy done failed : Nat} (hbusy : busy < 2) (hdone : done < 2) (hfailed : failed < 2) :
    (s.infoSet n busy done failed).fld TN_INFO_BUSY n = busy ∧ (s.infoSet n busy done failed).fld TN_INFO_SCRUB_DONE n = done ∧
      (s.infoSet n busy done failed).fld TN_INFO_SCRUB_FAIL n = failed := by
  refine ⟨?_, ?_, (State.fld_setFld_same _ TN_INFO_SCRUB_FAIL _ n 0 (by decide) (by decide)).trans (Nat.mod_eq_of_lt hfailed)⟩
  · refine (State.fld_setFld_apart _ TN_INFO_SCRUB_FAIL TN_INFO_BUSY _ n 0 rfl (by decide) (by decide) (.inl (by decide))).trans
      ((State.fld_setFld_apart _ TN_INFO_SCRUB_DONE TN_INFO_BUSY _ n 0 rfl (by decide) (by decide) (.inl (by decide))).trans ?_)
    exact (State.fld_setFld_same _ TN_INFO_BUSY _ n 0 (by decide) (by decide)).trans (Nat.mod_eq_of_lt hbusy)
  · refine (State.fld_setFld_apart _ TN_INFO_SCRUB_FAIL TN_INFO_SCRUB_DONE _ n 0 rfl (by decide) (by decide) (.inl (by decide))).trans ?_
    exact (State.fld_setFld_same _ TN_INFO_SCRUB_DONE _ n 0 (by decide) (by decide)).trans (Nat.mod_eq_of_lt hdone)

theorem State.status_infoSet {busy done failed : Nat} (own : f.reg = FB_SLICE_STATUS) :
    (s.infoSet n busy done failed).fld f = s.fld f :=
  (State.status_info own rfl).trans ((State.status_info own rfl).trans (State.status_info own rfl))

theorem State.regsKept_infoSet {busy done failed : Nat} : s.RegsKept (s.infoSet n busy done failed) (sliceRegs n) :=
  (State.regsKept_info rfl).trans ((State.regsKept_info rfl).trans (State.regsKept_info rfl))

/-! ## The end of a command (R374) -/

/-- FB_SLICE_STATUS as a command ends. -/
def State.statusEnded (s : State) : State := (s.setFld FB_SLICE_STATUS_BUSY 0).setFld FB_SLICE_STATUS_DONE 1

theorem State.sliceEnd_eq : s.sliceEnd = s.statusEnded.infoSet s.slice.ten 0 (b2n (decide (s.fld FB_SLICE_STATUS_FAILED = 0)))
    (b2n (!(decide (s.fld FB_SLICE_STATUS_FAILED = 0)))) := rfl

theorem State.statusEnded_spec : s.statusEnded.fld FB_SLICE_STATUS_BUSY = 0 ∧ s.statusEnded.fld FB_SLICE_STATUS_DONE = 1 := by
  refine ⟨?_, State.fld_setFld_same _ FB_SLICE_STATUS_DONE 1 0 0 (by decide) (by decide)⟩
  exact (State.fld_setFld_apart _ FB_SLICE_STATUS_DONE FB_SLICE_STATUS_BUSY _ 0 0 rfl (by decide) (by decide) (.inl (by decide))).trans
    (State.fld_setFld_same s FB_SLICE_STATUS_BUSY 0 0 0 (by decide) (by decide))

theorem State.status_statusEnded (own : f.reg = FB_SLICE_STATUS) (low : f.hi < 30) : s.statusEnded.fld f = s.fld f :=
  (State.fld_setFld_apart _ FB_SLICE_STATUS_DONE f _ 0 0 own (by decide) (by decide) (.inr low)).trans
    (State.fld_setFld_apart s FB_SLICE_STATUS_BUSY f _ 0 0 own (by decide) (by decide) (.inr (low.trans (by decide))))

theorem State.regsKept_statusEnded : s.RegsKept s.statusEnded (sliceRegs n) := (State.regsKept_status rfl).trans (State.regsKept_status rfl)

theorem State.sliceEnd_status : s.sliceEnd.fld FB_SLICE_STATUS_BUSY = 0 ∧ s.sliceEnd.fld FB_SLICE_STATUS_DONE = 1 ∧
    (∀ f : Fld, f.reg = FB_SLICE_STATUS → f.hi < 30 → s.sliceEnd.fld f = s.fld f) := by
  obtain ⟨busy, done⟩ := State.statusEnded_spec (s := s)
  rw [State.sliceEnd_eq]
  exact ⟨(State.status_infoSet rfl).trans busy, (State.status_infoSet rfl).trans done,
    fun f own low => (State.status_infoSet own).trans (State.status_statusEnded own low)⟩

theorem State.sliceEnd_info : s.sliceEnd.fld TN_INFO_BUSY s.slice.ten = 0 ∧
    s.sliceEnd.fld TN_INFO_SCRUB_DONE s.slice.ten = b2n (decide (s.fld FB_SLICE_STATUS_FAILED = 0)) ∧
    s.sliceEnd.fld TN_INFO_SCRUB_FAIL s.slice.ten = b2n (!(decide (s.fld FB_SLICE_STATUS_FAILED = 0))) := by
  have small (b : Bool) : b2n b < 2 := by cases b <;> decide
  rw [State.sliceEnd_eq]
  exact State.infoSet_spec (by decide) (small _) (small _)

theorem State.regsKept_sliceEnd : s.RegsKept s.sliceEnd (sliceRegs s.slice.ten) :=
  State.regsKept_statusEnded.trans State.regsKept_infoSet

/-! ## A command begins (R370) -/

theorem gives_sliceCmd (hv : v < 2 ^ 32)
    (write : c ∈ [Sys2Proof.Instr.assign v, .sliceEnd v, .kill v, .release v, .scrub v]) (h : s.sliceCmd v = t) : Gives c s t := by
  have wf : okW v = true := decide_eq_true hv
  simp only [List.mem_cons, List.not_mem_nil, or_false] at write
  obtain rfl | rfl | rfl | rfl | rfl := write
  · exact Gives.of_run (exec_assign v s) wf h
  · exact Gives.of_run (exec_sliceEnd v s) wf h
  · exact Gives.of_run (exec_kill v s) wf h
  · exact Gives.of_run (exec_release v s) wf h
  · exact Gives.of_run (exec_scrub v s) wf h

/-- Nothing has been answered. -/
def State.answersCleared (s : State) : State := (s.setFld FB_SLICE_STATUS_ANSWERED 0).setFld FB_SLICE_STATUS_FAILED 0

/-- The command is taken: its operands stand. -/
def State.sliceTaken (s : State) (act n g : Nat) (hold : Bool) : State :=
  { s.answersCleared with slice := ⟨act, hold, n, s.answersCleared.grpMembers g⟩ }

/-- The command goes to its members. -/
def State.sliceSent (s : State) (act n g hold : Nat) : State :=
  ((s.setFld FB_SLICE_STATUS_BUSY 1).infoSet n 1 0 0).emit (mkPkt opSLICE bnLoc (groupLoc g) 0 0 0 [act, hold, n])

/-! ## What a command reads stays -/

/-- A register of the fabric block but FB_SLICE_STATUS. -/
theorem fbReg_notin_slice {r : RegDef} {k : Nat} (blk : r.blk = .fb) (low : r.off + r.stride * k < 0x100000)
    (other : r.off + r.stride * k ≠ 0xe08) : r.addr 0 k ∉ sliceRegs n := by
  intro mem
  simp only [sliceRegs, List.mem_cons, List.not_mem_nil, or_false, RegDef.addr, FB_SLICE_STATUS, TN_INFO, blk, Blk.base] at mem
  omega

theorem State.RegsKept.slice_fbMap (kept : s.RegsKept t (sliceRegs n)) : t.fbMap = s.fbMap := by
  have near : ∀ k ∈ List.range 16, ∀ f : Fld, f.reg = FB_NEAR_CFG ∨ f.reg = FB_NEAR_BASE → t.fld f 0 k = s.fld f 0 k := by
    intro k hk f reg
    have := List.mem_range.mp hk
    refine kept.fld ?_
    rcases reg with e | e <;> rw [e] <;> refine fbReg_notin_slice rfl ?_ ?_ <;> simp only [FB_NEAR_CFG, FB_NEAR_BASE] <;> omega
  have ilv : t.fld FB_HBM_ILV_SIZE = s.fld FB_HBM_ILV_SIZE := kept.fld (fbReg_notin_slice rfl (by decide) (by decide))
  simp only [State.fbMap, ilv]
  congr 1
  refine List.filterMap_congr fun k hk => ?_
  rw [near k hk FB_NEAR_CFG_VALID (.inl rfl), near k hk FB_NEAR_CFG_PORT (.inl rfl), near k hk FB_NEAR_BASE_BASE (.inr rfl),
    near k hk FB_NEAR_CFG_SIZE (.inl rfl), near k hk FB_NEAR_CFG_PORT_OFS (.inl rfl)]

/-- The group directory stays as it is (R153). -/
theorem State.RegsKept.slice_grpWord (kept : s.RegsKept t (sliceRegs n)) (hbm : t.hbm = s.hbm) (w : Nat) : t.grpWord g w = s.grpWord g w := by
  have dir : t.grpDir = s.grpDir := congrArg adBig
    (kept.pair (fbReg_notin_slice rfl (by decide) (by decide)) (fbReg_notin_slice rfl (by decide) (by decide)))
  simp only [State.grpWord, State.hbmBytes, dir, hbm, kept.slice_fbMap]

theorem State.regsKept_serveWrite {l : List Nat} (off : Nat) : s.RegsKept (s.serveWrite off v) l := by
  obtain ⟨net, bn, frame⟩ := s.serveWrite_frame off v
  rw [frame]
  exact .refl

theorem State.grpWord_serveWrite (off w : Nat) : (s.serveWrite off v).grpWord g w = s.grpWord g w := by
  have hbm : (s.serveWrite off v).hbm = s.hbm := by
    obtain ⟨net, bn, frame⟩ := s.serveWrite_frame off v
    rw [frame]
  exact (State.regsKept_serveWrite (l := sliceRegs 0) off).slice_grpWord hbm w

/-! ## What a command answers -/

theorem State.regsKept_answersCleared : s.RegsKept s.answersCleared (sliceRegs n) :=
  (State.regsKept_status rfl).trans (State.regsKept_status rfl)

theorem State.sliceTaken_spec {act : Nat} {hold : Bool} :
    (s.sliceTaken act n g hold).fld FB_SLICE_STATUS_ANSWERED = 0 ∧ (s.sliceTaken act n g hold).fld FB_SLICE_STATUS_FAILED = 0 ∧
      s.RegsKept (s.sliceTaken act n g hold) (sliceRegs n) := by
  refine ⟨?_, State.fld_setFld_same _ FB_SLICE_STATUS_FAILED 0 0 0 (by decide) (by decide), ?_⟩
  · exact (State.fld_setFld_apart _ FB_SLICE_STATUS_FAILED FB_SLICE_STATUS_ANSWERED _ 0 0 rfl (by decide) (by decide)
      (.inr (by decide))).trans (State.fld_setFld_same s FB_SLICE_STATUS_ANSWERED 0 0 0 (by decide) (by decide))
  · have kept : s.RegsKept s.answersCleared (sliceRegs n) := State.regsKept_answersCleared
    exact kept

theorem State.grp_sliceTaken {act : Nat} {hold : Bool} :
    (s.sliceTaken act n g hold).grpValid g = s.grpValid g ∧ (s.sliceTaken act n g hold).slice.members = s.grpMembers g := by
  have kept : s.RegsKept s.answersCleared (sliceRegs n) := State.regsKept_answersCleared
  have taken := (State.sliceTaken_spec (s := s) (n := n) (g := g) (act := act) (hold := hold)).2.2.slice_grpWord (g := g) rfl 0
  exact ⟨congrArg (bit · 63) taken, congrArg (bits · 56 45) (kept.slice_grpWord rfl 0)⟩

/-- What a write of FB_SLICE_CMD does to a state in which it stands (R370). -/
def State.sliceJudged (u : State) (act n g hold : Nat) (held : Bool) : State :=
  if u.fld FB_SLICE_STATUS_BUSY = 1 then u.setFld FB_SLICE_STATUS_CMD_DROPPED 1
  else if act = 0 ∨ 6 ≤ act then u
  else if (u.sliceTaken act n g held).grpValid g = false then ((u.sliceTaken act n g held).setFld FB_SLICE_STATUS_REFUSED 1).sliceEnd
  else if ((u.sliceTaken act n g held).sliceSent act n g hold).slice.members = 0 then ((u.sliceTaken act n g held).sliceSent act n g hold).sliceEnd
  else (u.sliceTaken act n g held).sliceSent act n g hold

theorem State.sliceCmd_eq (alive : s.regAlive (FB_SLICE_CMD.addr 0 0) = true) :
    s.sliceCmd v = (s.serveWrite (FB_SLICE_CMD.addr 0 0) v).sliceJudged (bits v 31 29) (bits v 27 22) (bits v 9 0) (bits v 28 28)
      (bit v 28) := by
  rw [State.sliceCmd, State.regWrite, if_pos alive]
  rfl

theorem State.sliceJudged_invalid {act hold : Nat} {held : Bool} (idle : s.fld FB_SLICE_STATUS_BUSY = 0) (low : 1 ≤ act) (high : act ≤ 5)
    (invalid : s.grpValid g = false) :
    s.sliceJudged act n g hold held = ((s.sliceTaken act n g held).setFld FB_SLICE_STATUS_REFUSED 1).sliceEnd :=
  (if_neg (idle.trans_ne (by decide))).trans ((if_neg (by omega)).trans (if_pos (State.grp_sliceTaken.1.trans invalid)))

theorem State.sliceJudged_valid {act hold : Nat} {held : Bool} (idle : s.fld FB_SLICE_STATUS_BUSY = 0) (low : 1 ≤ act) (high : act ≤ 5)
    (valid : s.grpValid g = true) (some : 0 < s.grpMembers g) :
    s.sliceJudged act n g hold held = (s.sliceTaken act n g held).sliceSent act n g hold :=
  (if_neg (idle.trans_ne (by decide))).trans ((if_neg (by omega)).trans
    ((if_neg (ne_false_of_eq_true (State.grp_sliceTaken.1.trans valid))).trans
      (if_neg ((State.grp_sliceTaken (hold := held) (act := act) (n := n)).2.trans_ne some.ne'))))

/-- Where the Binnacle sends from depends on no register of a slice command. -/
theorem State.RegsKept.slice_bnHome (kept : s.RegsKept t (sliceRegs n)) (fence : t.fence = s.fence) (rgn : t.rgn = s.rgn) :
    t.bnHome = s.bnHome := by
  have power (r : RegDef) (here : r.addr 0 0 = BN_PWR_EN0.addr 0 0 ∨ r.addr 0 0 = BN_PWR_EN1.addr 0 0) : r.addr 0 0 ∉ sliceRegs n := by
    intro mem
    simp only [sliceRegs, List.mem_cons, List.not_mem_nil, or_false] at mem
    simp only [RegDef.addr, FB_SLICE_STATUS, TN_INFO, BN_PWR_EN0, BN_PWR_EN1, Blk.base] at mem here
    omega
  have low : t.fld BN_PWR_EN0_EN = s.fld BN_PWR_EN0_EN := kept.fld (power BN_PWR_EN0 (.inl rfl))
  have high : t.fld BN_PWR_EN1_EN = s.fld BN_PWR_EN1_EN := kept.fld (power BN_PWR_EN1 (.inr rfl))
  have gone : t.gone bnLoc.slot = s.gone bnLoc.slot := by simp only [State.gone, State.rg, fence, rgn, low, high]
  rw [State.bnHome, State.bnHome, gone]

theorem State.regsKept_emit {l : List Nat} : s.RegsKept (s.emit p) l := fun _ _ _ => rfl

theorem State.sliceSent_spec {act hold : Nat} :
    (s.sliceSent act n g hold).fld FB_SLICE_STATUS_BUSY = 1 ∧
      (s.sliceSent act n g hold).fld FB_SLICE_STATUS_ANSWERED = s.fld FB_SLICE_STATUS_ANSWERED ∧
      (s.sliceSent act n g hold).fld FB_SLICE_STATUS_FAILED = s.fld FB_SLICE_STATUS_FAILED ∧
      (s.sliceSent act n g hold).fld TN_INFO_BUSY n = 1 ∧ (s.sliceSent act n g hold).fld TN_INFO_SCRUB_DONE n = 0 ∧
      s.RegsKept (s.sliceSent act n g hold) (sliceRegs n) := by
  obtain ⟨busy, done, -⟩ := State.infoSet_spec (s := s.setFld FB_SLICE_STATUS_BUSY 1) (n := n) (busy := 1) (done := 0) (failed := 0)
    (by decide) (by decide) (by decide)
  have regs := State.regsKept_infoSet (s := s.setFld FB_SLICE_STATUS_BUSY 1) (n := n) (busy := 1) (done := 0) (failed := 0)
  have own := State.fld_setFld_same s FB_SLICE_STATUS_BUSY 1 0 0 (by decide) (by decide)
  have answered := State.fld_setFld_apart s FB_SLICE_STATUS_BUSY FB_SLICE_STATUS_ANSWERED 1 0 0 rfl (by decide) (by decide) (.inr (by decide))
  have failed := State.fld_setFld_apart s FB_SLICE_STATUS_BUSY FB_SLICE_STATUS_FAILED 1 0 0 rfl (by decide) (by decide) (.inr (by decide))
  have status (f : Fld) (own : f.reg = FB_SLICE_STATUS) := State.status_infoSet (s := s.setFld FB_SLICE_STATUS_BUSY 1) (n := n)
    (busy := 1) (done := 0) (failed := 0) own
  unfold State.sliceSent
  generalize (s.setFld FB_SLICE_STATUS_BUSY 1).infoSet n 1 0 0 = x at busy done regs status ⊢
  have sent (f : Fld) (j : Nat) := (State.regsKept_emit (s := x) (l := []) (p := mkPkt opSLICE bnLoc (groupLoc g) 0 0 0 [act, hold, n])).fld
    (f := f) (i := j) (k := 0) List.not_mem_nil
  rw [sent, sent, sent, sent, sent]
  exact ⟨(status _ rfl).trans own, (status _ rfl).trans answered, (status _ rfl).trans failed, busy, done,
    (State.regsKept_status rfl).trans (regs.trans State.regsKept_emit)⟩

theorem State.sliceSent_net {act hold : Nat} (kept : u.RegsKept s (sliceRegs n)) (fence : s.fence = u.fence) (rgn : s.rgn = u.rgn)
    (net : s.net = u.net) : (s.sliceSent act n g hold).net = (u.emit (mkPkt opSLICE bnLoc (groupLoc g) 0 0 0 [act, hold, n])).net := by
  have regs : u.RegsKept ((s.setFld FB_SLICE_STATUS_BUSY 1).infoSet n 1 0 0) (sliceRegs n) :=
    kept.trans ((State.regsKept_status rfl).trans State.regsKept_infoSet)
  have home := regs.slice_bnHome fence rgn
  have before : ((s.setFld FB_SLICE_STATUS_BUSY 1).infoSet n 1 0 0).net = u.net := net
  generalize ht : (s.setFld FB_SLICE_STATUS_BUSY 1).infoSet n 1 0 0 = x at home before
  rw [State.sliceSent, ht]
  simp only [State.emit, State.push, home, before]

/-! ## The members answer (R374) -/

/-- An answer is counted, and a refusal with it. -/
def State.sliceCounted (s : State) (p : Pkt) : State :=
  if p.arg 1 = 1 then
    if (((s.addFld FB_SLICE_STATUS_ANSWERED 1).addFld FB_SLICE_STATUS_FAILED 1).setFld FB_SLICE_STATUS_REFUSED 1).fld
        NI_TN_STATE_SCRUB_FAIL p.src.slot = 1 ∧ 3 ≤ p.arg 0 then
      (((s.addFld FB_SLICE_STATUS_ANSWERED 1).addFld FB_SLICE_STATUS_FAILED 1).setFld FB_SLICE_STATUS_REFUSED 1).setFld
        FB_SLICE_STATUS_SCRUB_FAIL 1
    else ((s.addFld FB_SLICE_STATUS_ANSWERED 1).addFld FB_SLICE_STATUS_FAILED 1).setFld FB_SLICE_STATUS_REFUSED 1
  else s.addFld FB_SLICE_STATUS_ANSWERED 1

theorem State.sliceCounted_slice : (s.sliceCounted p).slice = s.slice := by
  unfold State.sliceCounted
  split_ifs <;> rfl

theorem State.regsKept_sliceCounted : s.RegsKept (s.sliceCounted p) [FB_SLICE_STATUS.addr 0 0] := by
  have one (x : State) (f : Fld) (w : Nat) (reg : f.reg = FB_SLICE_STATUS) : x.RegsKept (x.setFld f w) [FB_SLICE_STATUS.addr 0 0] :=
    State.regsKept_setFld f w 0 0 (by rw [reg]; exact List.mem_singleton_self _)
  unfold State.sliceCounted
  split_ifs
  · exact (one _ FB_SLICE_STATUS_ANSWERED _ rfl).trans ((one _ FB_SLICE_STATUS_FAILED _ rfl).trans
      ((one _ FB_SLICE_STATUS_REFUSED _ rfl).trans (one _ FB_SLICE_STATUS_SCRUB_FAIL _ rfl)))
  · exact (one _ FB_SLICE_STATUS_ANSWERED _ rfl).trans ((one _ FB_SLICE_STATUS_FAILED _ rfl).trans (one _ FB_SLICE_STATUS_REFUSED _ rfl))
  · exact one _ FB_SLICE_STATUS_ANSWERED _ rfl

/-- A field below ANSWERED, FAILED, REFUSED and SCRUB_FAIL, or above them, stays. -/
theorem State.sliceCounted_apart (own : f.reg = FB_SLICE_STATUS) (high : 28 < f.lo) : (s.sliceCounted p).fld f = s.fld f := by
  have one (x : State) (q : Fld) (w : Nat) (reg : f.reg = q.reg) (order : q.lo ≤ q.hi) (low : q.hi < 29) : (x.setFld q w).fld f = x.fld f :=
    State.fld_setFld_apart x q f w 0 0 reg order (low.trans (by decide)) (.inl (Nat.lt_of_lt_of_le low high))
  have answered := one s FB_SLICE_STATUS_ANSWERED (s.fld FB_SLICE_STATUS_ANSWERED + 1) own (by decide) (by decide)
  have failed := one (s.addFld FB_SLICE_STATUS_ANSWERED 1) FB_SLICE_STATUS_FAILED
    ((s.addFld FB_SLICE_STATUS_ANSWERED 1).fld FB_SLICE_STATUS_FAILED + 1) own (by decide) (by decide)
  have refused := one ((s.addFld FB_SLICE_STATUS_ANSWERED 1).addFld FB_SLICE_STATUS_FAILED 1) FB_SLICE_STATUS_REFUSED 1 own (by decide)
    (by decide)
  unfold State.sliceCounted
  split_ifs
  · exact (one _ FB_SLICE_STATUS_SCRUB_FAIL 1 own (by decide) (by decide)).trans (refused.trans (failed.trans answered))
  · exact refused.trans (failed.trans answered)
  · exact answered

theorem State.answered_sliceCounted : (s.sliceCounted p).fld FB_SLICE_STATUS_ANSWERED = (s.fld FB_SLICE_STATUS_ANSWERED + 1) % 2 ^ 12 := by
  have one (x : State) (q : Fld) (w : Nat) (reg : FB_SLICE_STATUS = q.reg) (order : q.lo ≤ q.hi) (top : q.hi < 32) (low : 11 < q.lo) :
      (x.setFld q w).fld FB_SLICE_STATUS_ANSWERED = x.fld FB_SLICE_STATUS_ANSWERED :=
    State.fld_setFld_apart x q FB_SLICE_STATUS_ANSWERED w 0 0 reg order top (.inr low)
  have answered := s.fld_setFld_same FB_SLICE_STATUS_ANSWERED (s.fld FB_SLICE_STATUS_ANSWERED + 1) 0 0 (by decide) (by decide)
  have failed := one (s.addFld FB_SLICE_STATUS_ANSWERED 1) FB_SLICE_STATUS_FAILED
    ((s.addFld FB_SLICE_STATUS_ANSWERED 1).fld FB_SLICE_STATUS_FAILED + 1) rfl (by decide) (by decide) (by decide)
  have refused := one ((s.addFld FB_SLICE_STATUS_ANSWERED 1).addFld FB_SLICE_STATUS_FAILED 1) FB_SLICE_STATUS_REFUSED 1 rfl (by decide)
    (by decide) (by decide)
  unfold State.sliceCounted
  split_ifs
  · exact (one _ FB_SLICE_STATUS_SCRUB_FAIL 1 rfl (by decide) (by decide) (by decide)).trans (refused.trans (failed.trans answered))
  · exact refused.trans (failed.trans answered)
  · exact answered

theorem State.sliceCounted_accepted (accepted : p.arg 1 ≠ 1) : (s.sliceCounted p).fld FB_SLICE_STATUS_FAILED = s.fld FB_SLICE_STATUS_FAILED := by
  rw [State.sliceCounted, if_neg accepted]
  exact State.fld_setFld_apart s FB_SLICE_STATUS_ANSWERED FB_SLICE_STATUS_FAILED _ 0 0 rfl (by decide) (by decide) (.inl (by decide))

theorem State.sliceCounted_refused (refused : p.arg 1 = 1) : (s.sliceCounted p).fld FB_SLICE_STATUS_REFUSED = 1 := by
  rw [State.sliceCounted, if_pos refused]
  have own (x : State) : (x.setFld FB_SLICE_STATUS_REFUSED 1).fld FB_SLICE_STATUS_REFUSED = 1 :=
    x.fld_setFld_same FB_SLICE_STATUS_REFUSED 1 0 0 (by decide) (by decide)
  split_ifs
  · exact (State.fld_setFld_apart _ FB_SLICE_STATUS_SCRUB_FAIL FB_SLICE_STATUS_REFUSED 1 0 0 rfl (by decide) (by decide)
      (.inr (by decide))).trans (own _)
  · exact own _

theorem gives_sliceAns (ok : okPkt p = true) (kind : p.kind = opSLICE_ANS) {u : State} (taken : s.takeNet (.unit bnLoc) p = u)
    (h : (if u.fld FB_SLICE_STATUS_BUSY = 0 then u
      else if (u.sliceCounted p).slice.members ≤ (u.sliceCounted p).fld FB_SLICE_STATUS_ANSWERED then (u.sliceCounted p).sliceEnd
      else u.sliceCounted p) = t) : Gives (.sliceAns p) s t := by
  refine Gives.of_run (exec_sliceAns p s) ok ((if_neg (not_not_intro kind)).trans ?_)
  dsimp only
  rw [taken]
  exact h

/-! ## The two outcomes of a command that begins -/

theorem State.sliceRefused_spec {act : Nat} {held : Bool} :
    let y := ((s.sliceTaken act n g held).setFld FB_SLICE_STATUS_REFUSED 1).sliceEnd
    (y.fld FB_SLICE_STATUS_BUSY = 0 ∧ y.fld FB_SLICE_STATUS_DONE = 1 ∧ y.fld FB_SLICE_STATUS_REFUSED = 1 ∧
      y.fld FB_SLICE_STATUS_ANSWERED = 0 ∧ y.fld FB_SLICE_STATUS_FAILED = 0 ∧ y.net = s.net) ∧ s.RegsKept y (sliceRegs n) := by
  obtain ⟨answered, failed, taken⟩ := State.sliceTaken_spec (s := s) (act := act) (n := n) (g := g) (hold := held)
  have ten : (s.sliceTaken act n g held).slice.ten = n := rfl
  have net : (s.sliceTaken act n g held).net = s.net := rfl
  generalize s.sliceTaken act n g held = x at answered failed taken ten net
  obtain ⟨free, done, same⟩ := State.sliceEnd_status (s := x.setFld FB_SLICE_STATUS_REFUSED 1)
  have kept := State.regsKept_sliceEnd (s := x.setFld FB_SLICE_STATUS_REFUSED 1)
  rw [show (x.setFld FB_SLICE_STATUS_REFUSED 1).slice.ten = n from ten] at kept
  refine ⟨⟨free, done, ?_, ?_, ?_, net⟩, taken.trans ((State.regsKept_status rfl).trans kept)⟩
  · exact (same _ rfl (by decide)).trans (State.fld_setFld_same x FB_SLICE_STATUS_REFUSED 1 0 0 (by decide) (by decide))
  · exact ((same _ rfl (by decide)).trans (State.fld_setFld_apart x FB_SLICE_STATUS_REFUSED FB_SLICE_STATUS_ANSWERED 1 0 0 rfl (by decide)
      (by decide) (.inr (by decide)))).trans answered
  · exact ((same _ rfl (by decide)).trans (State.fld_setFld_apart x FB_SLICE_STATUS_REFUSED FB_SLICE_STATUS_FAILED 1 0 0 rfl (by decide)
      (by decide) (.inr (by decide)))).trans failed

theorem State.sliceSent_slice {act hold : Nat} {held : Bool} :
    ((s.sliceTaken act n g held).sliceSent act n g hold).slice = ⟨act, held, n, s.grpMembers g⟩ := by
  have kept : s.RegsKept s.answersCleared (sliceRegs n) := State.regsKept_answersCleared
  have members : s.answersCleared.grpMembers g = s.grpMembers g := congrArg (bits · 56 45) (kept.slice_grpWord rfl 0)
  have taken : (s.sliceTaken act n g held).slice = ⟨act, held, n, s.answersCleared.grpMembers g⟩ := rfl
  rw [members] at taken
  generalize s.sliceTaken act n g held = x at taken
  exact taken

theorem State.after_slice : (s.after t).slice = t.slice := rfl

theorem State.sliceBegun_spec {act hold : Nat} {held : Bool} :
    let y := (s.sliceTaken act n g held).sliceSent act n g hold
    (y.slice = ⟨act, held, n, s.grpMembers g⟩ ∧ y.fld FB_SLICE_STATUS_BUSY = 1 ∧ y.fld FB_SLICE_STATUS_ANSWERED = 0 ∧
      y.fld FB_SLICE_STATUS_FAILED = 0 ∧ y.fld TN_INFO_BUSY n = 1 ∧ y.fld TN_INFO_SCRUB_DONE n = 0 ∧
      y.net = (s.emit (mkPkt opSLICE bnLoc (groupLoc g) 0 0 0 [act, hold, n])).net) ∧ s.RegsKept y (sliceRegs n) := by
  obtain ⟨answered, failed, taken⟩ := State.sliceTaken_spec (s := s) (act := act) (n := n) (g := g) (hold := held)
  have operands := State.sliceSent_slice (s := s) (act := act) (n := n) (g := g) (hold := hold) (held := held)
  have fence : (s.sliceTaken act n g held).fence = s.fence := rfl
  have rgn : (s.sliceTaken act n g held).rgn = s.rgn := rfl
  have net : (s.sliceTaken act n g held).net = s.net := rfl
  generalize s.sliceTaken act n g held = x at answered failed taken operands fence rgn net
  obtain ⟨busy, answered', failed', info, done, sent⟩ := State.sliceSent_spec (s := x) (n := n) (g := g) (act := act) (hold := hold)
  exact ⟨⟨operands, busy, answered'.trans answered, failed'.trans failed, info, done, State.sliceSent_net taken fence rgn net⟩,
    taken.trans sent⟩

end

/-- Settles O44: a write of FB_SLICE_CMD is judged by BUSY, its action and its group; answers are counted until the last one. -/
theorem sliceCommandsRunOneAtATime : Obligations.SliceCommandsRunOneAtATime := by
  intro s v p hv ok
  extract_lets u act n g x a
  have action : bits v 31 29 = act := by
    rw [bits_eq_div (k := 3) v rfl]
    exact Nat.mod_eq_of_lt (Nat.div_lt_of_lt_mul hv)
  have served (f : Fld) : u.fld f = s.fld f := congrArg (bits · f.hi f.lo) (State.rd_serveWrite ..)
  have sameValid : u.grpValid g = s.grpValid g := by rw [State.grpValid, State.grpValid, State.grpWord_serveWrite]
  have members : u.grpMembers g = s.grpMembers g := by rw [State.grpMembers, State.grpMembers, State.grpWord_serveWrite]
  have kept (l : List Nat) : s.RegsKept u l := State.regsKept_serveWrite _
  refine ⟨fun alive c write => ⟨fun busy => ?_, fun idle none => ?_, fun low high idle invalid => ?_,
    fun low high idle valid some => ?_⟩, fun kind => ⟨fun idle => ?_, fun busy few => ?_, fun busy all accepted ten => ?_⟩,
    fun idle => ?_, fun busy => ?_⟩
  · exact gives_sliceCmd hv write ((State.sliceCmd_eq alive).trans (if_pos ((served _).trans busy)))
  · exact gives_sliceCmd hv write ((State.sliceCmd_eq alive).trans
      ((if_neg (((served _).trans idle).trans_ne (by decide))).trans (if_pos (action.symm ▸ none))))
  · have gives := gives_sliceCmd hv write ((State.sliceCmd_eq alive).trans (State.sliceJudged_invalid (g := g) (n := n)
      (act := bits v 31 29) (hold := bits v 28 28) (held := bit v 28) ((served _).trans idle) (action.symm ▸ low) (action.symm ▸ high)
      (sameValid.trans invalid)))
    obtain ⟨ended, keptEnd⟩ := State.sliceRefused_spec (s := u) (n := n) (g := g) (act := bits v 31 29) (held := bit v 28)
    generalize ((u.sliceTaken (bits v 31 29) n g (bit v 28)).setFld FB_SLICE_STATUS_REFUSED 1).sliceEnd = y at gives ended keptEnd
    obtain ⟨busy, done, refused, answered, failed, net⟩ := ended
    exact gives.does ⟨busy, done, refused, answered, failed, net, (kept _).trans keptEnd⟩
  · have gives := gives_sliceCmd hv write ((State.sliceCmd_eq alive).trans (State.sliceJudged_valid (g := g) (n := n)
      (act := bits v 31 29) (hold := bits v 28 28) (held := bit v 28) ((served _).trans idle) (action.symm ▸ low) (action.symm ▸ high)
      (sameValid.trans valid) (some.trans_eq members.symm)))
    obtain ⟨begun, keptBegun⟩ := State.sliceBegun_spec (s := u) (n := n) (g := g) (act := bits v 31 29) (hold := bits v 28 28)
      (held := bit v 28)
    generalize (u.sliceTaken (bits v 31 29) n g (bit v 28)).sliceSent (bits v 31 29) n g (bits v 28 28) = y at gives begun keptBegun
    rw [members, action] at begun
    obtain ⟨operands, busy, answered, failed, info, done, net⟩ := begun
    exact gives.does ⟨State.after_slice.trans operands, busy, answered, failed, info, done, net, (kept _).trans keptBegun⟩
  · exact gives_sliceAns ok kind rfl (if_pos idle)
  · have answered := State.answered_sliceCounted (s := x) (p := p)
    refine (gives_sliceAns ok kind rfl ((if_neg (busy.trans_ne (by decide))).trans (if_neg ?_))).does
      ⟨answered, (State.sliceCounted_apart rfl (by decide)).trans busy, State.regsKept_sliceCounted, State.sliceCounted_accepted,
        State.sliceCounted_refused⟩
    rw [State.sliceCounted_slice, answered]
    exact Nat.not_le.mpr few
  · have answered := State.answered_sliceCounted (s := x) (p := p)
    have failed := State.sliceCounted_accepted (s := x) accepted
    have slice := State.sliceCounted_slice (s := x) (p := p)
    have gives := gives_sliceAns ok kind rfl ((if_neg (busy.trans_ne (by decide))).trans (if_pos (by
      rw [slice, answered]
      exact all)))
    generalize x.sliceCounted p = y at answered failed slice gives
    obtain ⟨free, done, same⟩ := State.sliceEnd_status (s := y)
    obtain ⟨info, scrubbed, spoilt⟩ := State.sliceEnd_info (s := y)
    rw [slice] at info scrubbed spoilt
    rw [failed] at scrubbed spoilt
    refine gives.does ⟨(same _ rfl (by decide)).trans answered, free, done, info, fun none => scrubbed.trans ?_,
      fun some => ⟨scrubbed.trans ?_, spoilt.trans ?_⟩⟩
    · exact congrArg b2n (decide_eq_true none)
    · exact congrArg b2n (decide_eq_false some)
    · exact congrArg (fun b => b2n (!b)) (decide_eq_false some)
  · exact Gives.of_run (exec_sliceTimeout s) rfl (if_pos idle)
  · exact Gives.of_run (exec_sliceTimeout s) rfl (if_neg (busy.trans_ne (by decide)))

end Sys2Proof.Machine

/-! # Sensors of a region and the trip (R386, R387, R390) -/

namespace Sys2Proof.Machine

section

variable {s t x : State} {n r temp sag v : Nat} {f : Fld}

/-! ## Registers of a region's sensor -/

/-- Which of 36 regions has power is told by two registers alone. -/
theorem State.powered_congr (low : t.fld BN_PWR_EN0_EN = s.fld BN_PWR_EN0_EN) (high : t.fld BN_PWR_EN1_EN = s.fld BN_PWR_EN1_EN) (j : Nat) :
    t.powered j = s.powered j := by
  rw [State.powered, State.powered, low, high]

/-- A register of a region lies apart from the power enables. -/
theorem rgReg_ne_power {q : RegDef} (blk : q.blk = .rg) :
    BN_PWR_EN0.addr 0 0 ≠ q.addr n 0 ∧ BN_PWR_EN1.addr 0 0 ≠ q.addr n 0 := by
  simp only [RegDef.addr, blk, BN_PWR_EN0, BN_PWR_EN1, Blk.base]
  omega

theorem rgReg_ne_bn {q b : RegDef} {k : Nat} (blk : q.blk = .rg) (bn : b.blk = .bn) (low : b.off + b.stride * k < 0x1000) :
    b.addr 0 k ≠ q.addr n 0 := by
  simp only [RegDef.addr, blk, bn, Blk.base]
  omega

/-- OL_SENSOR of a region as a read of its sensors that is good leaves it. -/
def State.sensorShown (s : State) (n temp sag : Nat) : State :=
  (((s.setFld RG_SENSOR_TEMP temp n).setFld RG_SENSOR_TEMP_BAD 0 n).setFld RG_SENSOR_SAG_BAD 0 n).setFld RG_SENSOR_SAG (min 255 sag) n

theorem State.regsKept_sensorShown : s.RegsKept (s.sensorShown n temp sag) [RG_SENSOR.addr n 0] := by
  have one (y : State) (f : Fld) (w : Nat) (reg : f.reg = RG_SENSOR) : y.RegsKept (y.setFld f w n) [RG_SENSOR.addr n 0] :=
    State.regsKept_setFld f w n 0 (by rw [reg]; exact List.mem_singleton_self _)
  exact (one _ RG_SENSOR_TEMP _ rfl).trans ((one _ RG_SENSOR_TEMP_BAD _ rfl).trans ((one _ RG_SENSOR_SAG_BAD _ rfl).trans
    (one _ RG_SENSOR_SAG _ rfl)))

theorem State.sensorShown_spec (htemp : temp < 256) :
    (s.sensorShown n temp sag).fld RG_SENSOR_TEMP n = temp ∧ (s.sensorShown n temp sag).fld RG_SENSOR_SAG n = min 255 sag ∧
      (s.sensorShown n temp sag).fld RG_SENSOR_TEMP_BAD n = 0 ∧ (s.sensorShown n temp sag).fld RG_SENSOR_SAG_BAD n = 0 := by
  have apart (y : State) (q g : Fld) (w : Nat) (reg : g.reg = q.reg) (order : q.lo ≤ q.hi) (top : q.hi < 32) (h : g.hi < q.lo ∨ q.hi < g.lo) :
      (y.setFld q w n).fld g n = y.fld g n :=
    State.fld_setFld_apart y q g w n 0 reg order top h.symm
  refine ⟨?_, ?_, ?_, ?_⟩
  · refine (apart _ RG_SENSOR_SAG RG_SENSOR_TEMP _ rfl (by decide) (by decide) (by decide)).trans
      ((apart _ RG_SENSOR_SAG_BAD RG_SENSOR_TEMP _ rfl (by decide) (by decide) (by decide)).trans
        ((apart _ RG_SENSOR_TEMP_BAD RG_SENSOR_TEMP _ rfl (by decide) (by decide) (by decide)).trans ?_))
    exact (State.fld_setFld_same s RG_SENSOR_TEMP temp n 0 (by decide) (by decide)).trans (Nat.mod_eq_of_lt htemp)
  · exact (State.fld_setFld_same _ RG_SENSOR_SAG _ n 0 (by decide) (by decide)).trans
      (Nat.mod_eq_of_lt ((Nat.min_le_left 255 sag).trans_lt (by decide)))
  · refine (apart _ RG_SENSOR_SAG RG_SENSOR_TEMP_BAD _ rfl (by decide) (by decide) (by decide)).trans
      ((apart _ RG_SENSOR_SAG_BAD RG_SENSOR_TEMP_BAD _ rfl (by decide) (by decide) (by decide)).trans ?_)
    exact State.fld_setFld_same _ RG_SENSOR_TEMP_BAD 0 n 0 (by decide) (by decide)
  · refine (apart _ RG_SENSOR_SAG RG_SENSOR_SAG_BAD _ rfl (by decide) (by decide) (by decide)).trans ?_
    exact State.fld_setFld_same _ RG_SENSOR_SAG_BAD 0 n 0 (by decide) (by decide)

/-- A good read in range raises no event (R386). -/
theorem State.sensorIn_cool (low : -40 ≤ toSigned 8 temp) (high : toSigned 8 temp ≤ 125) :
    s.sensorIn n temp sag false = ((s.sensorShown n temp sag).dipRead n sag).trip n := by
  have good : decide (toSigned 8 temp < -40 ∨ 125 < toSigned 8 temp) = false := decide_eq_false (by omega)
  rw [State.sensorIn]
  simp only [good, b2n, Bool.false_eq_true, if_false, or_self, false_and]
  rfl

/-! ## The dip sensor (R52) -/

theorem State.dipDemand_congr (bad : t.fld RG_SENSOR_SAG_BAD n = s.fld RG_SENSOR_SAG_BAD n) (thr : t.rd RG_DIP_THR n = s.rd RG_DIP_THR n) :
    t.dipDemand n sag = s.dipDemand n sag := by
  have same (f : Fld) (reg : f.reg = RG_DIP_THR) : t.fld f n = s.fld f n := by rw [State.fld, State.fld, reg, thr]
  simp only [State.dipDemand, bad, same RG_DIP_THR_THR4 rfl, same RG_DIP_THR_THR3 rfl, same RG_DIP_THR_THR2 rfl, same RG_DIP_THR_THR1 rfl]

theorem dipThr_ne_sensor : RG_DIP_THR.addr n 0 ∉ [RG_SENSOR.addr n 0] :=
  fun mem => RegDef.addr_ne (r := RG_DIP_THR) (q := RG_SENSOR) rfl (by decide) (List.mem_singleton.mp mem)

/-- The demand depends on the thresholds and on whether the sensor is bad. -/
theorem State.dipDemand_sensorShown (htemp : temp < 256) :
    (s.sensorShown n temp sag).dipDemand n sag = (s.setFld RG_SENSOR_SAG_BAD 0 n).dipDemand n sag := by
  refine State.dipDemand_congr ?_ ?_
  · exact (State.sensorShown_spec htemp).2.2.2.trans (State.fld_setFld_same s RG_SENSOR_SAG_BAD 0 n 0 (by decide) (by decide)).symm
  · have own : s.RegsKept (s.setFld RG_SENSOR_SAG_BAD 0 n) [RG_SENSOR.addr n 0] :=
      State.regsKept_setFld RG_SENSOR_SAG_BAD 0 n 0 (List.mem_singleton_self _)
    exact (State.regsKept_sensorShown.rd dipThr_ne_sensor).trans (own.rd dipThr_ne_sensor).symm

theorem State.dipRead_region (m : Nat) : (s.dipRead n sag).rg m = if m = n then (s.rg n).dipped (s.dipDemand n sag) sag else s.rg m := by
  have region : ((s.modRg n (Region.dipped (s.dipDemand n sag) sag)).rg m) =
      if m = n then (s.rg n).dipped (s.dipDemand n sag) sag else s.rg m := by
    split
    · next own =>
      subst own
      exact State.rg_modRg_same s m _
    · next other => exact State.rg_modRg_ne s n m _ other
  rw [State.dipRead_eq]
  split
  · exact region
  · exact region

/-- Cool regions keep their power (R390). -/
theorem State.trip_cool (cool : ¬ (s.bnUp = true ∧ (s.fld BN_GOV_CFG_T_TRIP : Int) ≤ s.temp n)) : s.trip n = s :=
  if_neg fun h => cool ⟨h.1, h.2.2⟩

/-- The end of a trip (R390): the region loses its power. -/
def State.tripped (s : State) (n temp : Nat) : State :=
  (((s.setPower n false).setFld RG_ESC_CTRL_LOCKED 0 n).setFld BN_GOV_STATUS_TRIPPED 1).bnLog 0x07 2 n [n <<< 32 + temp]

theorem State.trip_hot (up : s.bnUp = true) (powered : s.powered n = true) (hot : (s.fld BN_GOV_CFG_T_TRIP : Int) ≤ s.temp n) :
    ∃ y w, s.trip n = State.tripped y n w := by
  rw [State.trip, if_pos ⟨up, powered, hot⟩]
  exact ⟨(s.stopJobs fun l => l.inRegion n).fenceF3 n, s.fld RG_SENSOR_TEMP n, rfl⟩

theorem State.tripped_spec (hn : n < 36) : (s.tripped n temp).fld BN_GOV_STATUS_TRIPPED = 1 ∧
    (s.tripped n temp).fld RG_ESC_CTRL_LOCKED n = 0 ∧ (s.tripped n temp).powered n = false := by
  have off : (s.setPower n false).powered n = false := (State.powered_setPower hn hn false).trans (if_pos rfl)
  have low {y : State} {g : Fld} (h : g.reg.addr 0 0 ≠ BN_LOG_STATUS.addr 0 0) {ty kind unit : Nat} {data : List Nat} :
      (y.bnLog ty kind unit data).fld g = y.fld g := State.fld_bnLog_ne h
  refine ⟨(low (by decide)).trans (State.fld_setFld_same _ BN_GOV_STATUS_TRIPPED 1 0 0 (by decide) (by decide)), ?_, ?_⟩
  · refine (State.fld_bnLog_ne (rgReg_ne_bn (q := RG_ESC_CTRL) rfl rfl (by decide)).symm).trans
      ((State.fld_setFld_ne _ BN_GOV_STATUS_TRIPPED RG_ESC_CTRL_LOCKED _ _ _ _ _ (rgReg_ne_bn rfl rfl (by decide)).symm).trans ?_)
    exact State.fld_setFld_same _ RG_ESC_CTRL_LOCKED 0 n 0 (by decide) (by decide)
  · refine (State.powered_congr ?_ ?_ n).trans off
    · exact (low (by decide)).trans ((State.fld_setFld_ne _ BN_GOV_STATUS_TRIPPED BN_PWR_EN0_EN _ _ _ _ _ (by decide)).trans
        (State.fld_setFld_ne _ RG_ESC_CTRL_LOCKED BN_PWR_EN0_EN _ _ _ _ _ (rgReg_ne_power rfl).1))
    · exact (low (by decide)).trans ((State.fld_setFld_ne _ BN_GOV_STATUS_TRIPPED BN_PWR_EN1_EN _ _ _ _ _ (by decide)).trans
        (State.fld_setFld_ne _ RG_ESC_CTRL_LOCKED BN_PWR_EN1_EN _ _ _ _ _ (rgReg_ne_power rfl).2))

/-! ## What a read of the sensors does -/

theorem gives_sensorRefresh {bad : Bool} (hn : n < 36) (htemp : temp < 256) (hsag : sag < 2 ^ 32)
    (h : (if s.powered n = true then s.sensorIn n temp sag bad else s) = t) : Gives (.sensorRefresh n temp sag bad) s t :=
  Gives.of_run (exec_sensorRefresh n temp sag bad s)
    (by simp only [Instr.wf, okRgn, okW, hn, htemp, hsag, decide_true, Bool.and_self]) h

/-- The state after a good read, before it is judged whether the region is too hot. -/
def State.sensorRead (s : State) (n temp sag : Nat) : State := (s.sensorShown n temp sag).dipRead n sag

theorem dipEvents_ne_sensor : RG_SENSOR.addr n 0 ∉ [RG_DIP_EVENTS.addr n 0] :=
  fun mem => RegDef.addr_ne (r := RG_SENSOR) (q := RG_DIP_EVENTS) rfl (by decide) (List.mem_singleton.mp mem)

theorem State.regsKept_sensorRead : s.RegsKept (s.sensorRead n temp sag) [RG_SENSOR.addr n 0, RG_DIP_EVENTS.addr n 0] :=
  (State.regsKept_sensorShown.mono (by simp)).trans ((State.dipRead_spec sag).2.1.mono (by simp))

theorem State.fld_sensorRead (reg : f.reg = RG_SENSOR) : (s.sensorRead n temp sag).fld f n = (s.sensorShown n temp sag).fld f n :=
  (State.dipRead_spec sag).2.1.fld (by rw [reg]; exact dipEvents_ne_sensor)

theorem State.sensorRead_frame : { s.sensorRead n temp sag with regs := s.regs, rgn := s.rgn } = s := by
  obtain ⟨-, -, regs, rgn, e⟩ := State.dipRead_spec (s := s.sensorShown n temp sag) (n := n) sag
  rw [State.sensorRead, e]
  rfl

/-- What a read keeps decides whether the region is too hot. -/
theorem State.sensorRead_judged (htemp : temp < 256) : (s.sensorRead n temp sag).bnUp = s.bnUp ∧
    (s.sensorRead n temp sag).powered n = s.powered n ∧ (s.sensorRead n temp sag).temp n = toSigned 8 temp ∧
    (s.sensorRead n temp sag).fld BN_GOV_CFG_T_TRIP = s.fld BN_GOV_CFG_T_TRIP := by
  have kept := State.regsKept_sensorRead (s := s) (n := n) (temp := temp) (sag := sag)
  have out (b : RegDef) (bn : b.blk = .bn) (low : b.off + b.stride * 0 < 0x1000) :
      b.addr 0 0 ∉ [RG_SENSOR.addr n 0, RG_DIP_EVENTS.addr n 0] := by
    simp only [List.mem_cons, List.not_mem_nil, or_false, not_or]
    exact ⟨rgReg_ne_bn rfl bn low, rgReg_ne_bn rfl bn low⟩
  refine ⟨(congrArg State.bnUp (State.sensorRead_frame (s := s) (n := n) (temp := temp) (sag := sag)) :), State.powered_congr (kept.fld (out _ rfl (by decide)))
    (kept.fld (out _ rfl (by decide))) n, ?_, kept.fld (out _ rfl (by decide))⟩
  rw [State.temp, State.fld_sensorRead rfl, (State.sensorShown_spec htemp).1]

end

end Sys2Proof.Machine

/-! # The governor and the regulators (R388 to R393): the proof of SensorsAndGovernorSetStretch -/

namespace Sys2Proof.Machine

section

variable {s t x : State} {n r v floor : Nat} {f : Fld} {hot : List Nat}

/-! ## Power estimates (R391) -/

theorem rgReg_inj {q p : RegDef} {a b : Nat} (hq : q.blk = .rg) (hp : p.blk = .rg) (low : q.off + q.stride * 0 < 0x1000)
    (low' : p.off + p.stride * 0 < 0x1000) (other : a ≠ b ∨ q.off ≠ p.off) : q.addr a 0 ≠ p.addr b 0 := by
  simp only [RegDef.addr, hq, hp, Blk.base]
  omega

/-- The regions below `m` have been estimated. -/
structure State.EstimatedTo (s : State) (m : Nat) (x : State) : Prop where
  frame : ∃ regs rgn, x = { s with regs := regs, rgn := rgn }
  regs : s.RegsKept x ((List.range m).map fun r => RG_POWER.addr r 0)
  done : ∀ r, r < m → s.powered r = true → (x.rg r).flits = 0 ∧
    x.fld RG_POWER_EST r = min 65535 (s.fld RG_POWER_STATIC r + (s.rg r).flits * 14336 / 10 ^ 10)
  others : ∀ r, m ≤ r ∨ s.powered r = false → x.rg r = s.rg r ∧ x.rd RG_POWER r = s.rd RG_POWER r

theorem power_notin {q : RegDef} {m : Nat} (out : ∀ j, q.addr 0 0 ≠ RG_POWER.addr j 0) :
    q.addr 0 0 ∉ (List.range m).map fun r => RG_POWER.addr r 0 := by
  intro mem
  obtain ⟨j, -, e⟩ := List.mem_map.mp mem
  exact out j e.symm

theorem State.EstimatedTo.powered {m : Nat} (done : s.EstimatedTo m x) (j : Nat) : x.powered j = s.powered j :=
  State.powered_congr (done.regs.fld (power_notin fun _ => (rgReg_ne_power rfl).1))
    (done.regs.fld (power_notin fun _ => (rgReg_ne_power rfl).2)) j

theorem State.estimate_spec : ∃ y, x.estimate n = y ∧ (∃ regs rgn, y = { x with regs := regs, rgn := rgn }) ∧
    x.RegsKept y [RG_POWER.addr n 0] ∧ (y.rg n).flits = 0 ∧
    y.fld RG_POWER_EST n = min 65535 (x.fld RG_POWER_STATIC n + (x.rg n).flits * 14336 / 10 ^ 10) ∧ ∀ m, m ≠ n → y.rg m = x.rg m := by
  refine ⟨_, rfl, ⟨_, _, rfl⟩, ?_, ?_, ?_, fun m hm => State.rg_modRg_ne (x.setFld RG_POWER_EST _ n) n m _ hm⟩
  · exact State.regsKept_setFld RG_POWER_EST _ n 0 (List.mem_singleton_self _)
  · exact congrArg Region.flits (State.rg_modRg_same (x.setFld RG_POWER_EST _ n) n fun r => { r with flits := 0 })
  · exact (State.fld_setFld_same x RG_POWER_EST _ n 0 (by decide) (by decide)).trans
      (Nat.mod_eq_of_lt ((Nat.min_le_left 65535 _).trans_lt (by decide)))

theorem State.estimatedTo (s : State) (m : Nat) :
    s.EstimatedTo m ((List.range m).foldl (fun s n => if s.powered n = true then s.estimate n else s) s) := by
  induction m with
  | zero => exact ⟨⟨s.regs, s.rgn, rfl⟩, .refl, fun r hr => absurd hr r.not_lt_zero, fun _ _ => ⟨rfl, rfl⟩⟩
  | succ m ih =>
    rw [List.range_succ, List.foldl_append, List.foldl_cons, List.foldl_nil]
    generalize (List.range m).foldl (fun s n => if s.powered n = true then s.estimate n else s) s = x at ih
    have power := ih.powered m
    obtain ⟨⟨regs, rgn, frame⟩, kept, done, others⟩ := ih
    have grown : ((List.range m).map fun r => RG_POWER.addr r 0) ⊆ (List.range (m + 1)).map fun r => RG_POWER.addr r 0 := by
      rw [List.range_succ, List.map_append]
      exact List.subset_append_left _ _
    rw [power]
    split
    · next on =>
      obtain ⟨y, e, ⟨regs', rgn', frame'⟩, kept', flits, est, apart⟩ := State.estimate_spec (x := x) (n := m)
      rw [e]
      obtain ⟨sameRg, samePower⟩ := others m (.inl le_rfl)
      have away (j : Nat) (hj : j ≠ m) : y.rd RG_POWER j = x.rd RG_POWER j :=
        kept'.rd fun mem => rgReg_inj rfl rfl (by decide) (by decide) (.inl hj) (List.mem_singleton.mp mem)
      refine ⟨⟨regs', rgn', frame'.trans (by rw [frame])⟩, (kept.mono grown).trans (kept'.mono ?_), fun r hr power => ?_, fun r hr => ?_⟩
      · rw [List.range_succ, List.map_append]
        exact List.subset_append_right _ _
      · obtain rfl | hr := (Nat.lt_succ_iff.mp hr).eq_or_lt
        · rw [sameRg, show x.fld RG_POWER_STATIC r = s.fld RG_POWER_STATIC r from congrArg (bits · 31 24) samePower] at est
          exact ⟨flits, est⟩
        · obtain ⟨zero, shown⟩ := done r hr power
          rw [apart r hr.ne]
          exact ⟨zero, (congrArg (bits · 15 0) (away r hr.ne)).trans shown⟩
      · have other : r ≠ m := by
          rintro rfl
          rcases hr with hr | off
          · omega
          · exact Bool.noConfusion (off.symm.trans on)
        obtain ⟨rg, shown⟩ := others r (hr.imp_left fun h => by omega)
        exact ⟨(apart r other).trans rg, (away r other).trans shown⟩
    · next off =>
      refine ⟨⟨regs, rgn, frame⟩, kept.mono grown, fun r hr on => ?_, fun r hr => others r (hr.imp_left fun h => by omega)⟩
      obtain rfl | hr := (Nat.lt_succ_iff.mp hr).eq_or_lt
      · exact absurd on off
      · exact done r hr on

/-! ## The governor (R392, R393) -/

/-- The governor sets one region's depth from its own copy of the register. -/
def State.govern (x : State) (hot : List Nat) (floor r : Nat) : State :=
  let g := govNext (hot.contains r) (x.govUnder r) (x.fld BN_GOV_CFG_HOLDOFF) floor (x.bn.g.get r 0) (x.bn.calm.get r 0)
  (x.modBn fun b => { b with g := b.g.put r g.1, calm := b.calm.put r g.2 }).wr RG_STRETCH_CTRL r 0
    (setBits (x.bn.stretch.get r (BitVec.ofNat 32 RG_STRETCH_CTRL.resetVal).toNat) 3 1 g.1)

theorem bits_word {w : Nat} : bits (w % 2 ^ 32) 3 1 = bits w 3 1 := by
  rw [bits_eq_div (k := 3) _ rfl, bits_eq_div (k := 3) _ rfl]
  omega

theorem State.govern_spec : ∃ y, x.govern hot floor r = y ∧
    ((y.bn.g.get r 0, y.bn.calm.get r 0) =
      govNext (hot.contains r) (x.govUnder r) (x.fld BN_GOV_CFG_HOLDOFF) floor (x.bn.g.get r 0) (x.bn.calm.get r 0)) ∧
    y.fld RG_STRETCH_CTRL_GOV_DEPTH r = y.bn.g.get r 0 % 8 ∧ (∀ j, j ≠ r → y.bn.g.get j 0 = x.bn.g.get j 0 ∧
      y.bn.calm.get j 0 = x.bn.calm.get j 0) ∧ x.RegsKept y [RG_STRETCH_CTRL.addr r 0] ∧ y.rgn = x.rgn := by
  obtain ⟨g, hg⟩ : ∃ g, govNext (hot.contains r) (x.govUnder r) (x.fld BN_GOV_CFG_HOLDOFF) floor (x.bn.g.get r 0)
    (x.bn.calm.get r 0) = g := ⟨_, rfl⟩
  have depth : (x.bn.g.put r g.1).get r 0 = g.1 := SMap.get_put_same ..
  have calm : (x.bn.calm.put r g.2).get r 0 = g.2 := SMap.get_put_same ..
  refine ⟨_, rfl, ?_⟩
  rw [State.govern, hg]
  refine ⟨?_, ?_, fun j hj => ⟨SMap.get_put_ne _ _ _ hj, SMap.get_put_ne _ _ _ hj⟩, fun off d out =>
    State.regs_wr_ne _ _ _ _ _ off d (List.mem_singleton.not.mp out), rfl⟩
  · exact Prod.ext depth calm
  · refine Eq.trans ?_ (congrArg (· % 8) depth).symm
    exact (congrArg (bits · 3 1) (State.rd_wr_same _ RG_STRETCH_CTRL r 0 _)).trans (bits_word.trans (bits_setBits _ 3 1 g.1 (by decide)))

/-- What the governor reads of a region and its own settings lies apart from the depths that it writes. -/
theorem State.govern_reads {l : List Nat} (kept : x.RegsKept t (l.map fun r => RG_STRETCH_CTRL.addr r 0)) (j : Nat) :
    t.govUnder j = x.govUnder j ∧ t.fld BN_GOV_CFG_HOLDOFF = x.fld BN_GOV_CFG_HOLDOFF := by
  have rg (q : RegDef) (blk : q.blk = .rg) (low : q.off + q.stride * 0 < 0x1000) (other : q.off ≠ RG_STRETCH_CTRL.off) :
      q.addr j 0 ∉ l.map fun r => RG_STRETCH_CTRL.addr r 0 := by
    intro mem
    obtain ⟨a, -, e⟩ := List.mem_map.mp mem
    exact rgReg_inj blk rfl low (by decide) (.inr other) e.symm
  have bn (q : RegDef) (blk : q.blk = .bn) (low : q.off + q.stride * 0 < 0x1000) : q.addr 0 0 ∉ l.map fun r => RG_STRETCH_CTRL.addr r 0 := by
    intro mem
    obtain ⟨a, -, e⟩ := List.mem_map.mp mem
    exact rgReg_ne_bn (q := RG_STRETCH_CTRL) rfl blk low e.symm
  have est : t.fld RG_POWER_EST j = x.fld RG_POWER_EST j := kept.fld (rg _ rfl (by decide) (by decide))
  have temp : t.fld RG_SENSOR_TEMP j = x.fld RG_SENSOR_TEMP j := kept.fld (rg _ rfl (by decide) (by decide))
  have limit : t.fld BN_GOV_LIMIT_REGION = x.fld BN_GOV_LIMIT_REGION := kept.fld (bn _ rfl (by decide))
  have high : t.fld BN_GOV_CFG_T_HIGH = x.fld BN_GOV_CFG_T_HIGH := kept.fld (bn _ rfl (by decide))
  exact ⟨by rw [State.govUnder, State.govUnder, decide_eq_decide, State.temp, State.temp, est, temp, limit, high], kept.fld (bn _ rfl (by decide))⟩

/-- The governor has set the regions of a list. -/
structure State.Governed (x : State) (hot : List Nat) (floor : Nat) (l : List Nat) (y : State) : Prop where
  set : ∀ r ∈ l, y.fld RG_STRETCH_CTRL_GOV_DEPTH r = y.bn.g.get r 0 % 8 ∧ (y.bn.g.get r 0, y.bn.calm.get r 0) =
    govNext (hot.contains r) (x.govUnder r) (x.fld BN_GOV_CFG_HOLDOFF) floor (x.bn.g.get r 0) (x.bn.calm.get r 0)
  others : ∀ r, r ∉ l → y.bn.g.get r 0 = x.bn.g.get r 0 ∧ y.bn.calm.get r 0 = x.bn.calm.get r 0
  regs : x.RegsKept y (l.map fun r => RG_STRETCH_CTRL.addr r 0)
  rgn : y.rgn = x.rgn

theorem State.governed {l : List Nat} (once : l.Nodup) (x : State) :
    x.Governed hot floor l (l.foldl (fun s r => s.govern hot floor r) x) := by
  induction l generalizing x with
  | nil => exact ⟨nofun, fun _ _ => ⟨rfl, rfl⟩, .refl, rfl⟩
  | cons a l ih =>
    obtain ⟨fresh, once⟩ := List.nodup_cons.mp once
    obtain ⟨y, e, next, depth, apart, kept, rgn⟩ := State.govern_spec (x := x) (hot := hot) (floor := floor) (r := a)
    rw [List.foldl_cons, e]
    obtain ⟨set, others, keptAll, rgnAll⟩ := ih once y
    generalize l.foldl (fun s r => s.govern hot floor r) y = z at set others keptAll rgnAll
    obtain ⟨sameG, sameCalm⟩ := others a fresh
    have reads := State.govern_reads (l := [a]) kept
    refine ⟨fun r mem => ?_, fun r out => ?_, ?_, rgnAll.trans rgn⟩
    · obtain rfl | mem := List.mem_cons.mp mem
      · have still : z.fld RG_STRETCH_CTRL_GOV_DEPTH r = y.fld RG_STRETCH_CTRL_GOV_DEPTH r := keptAll.fld fun mem => by
          obtain ⟨j, hj, same⟩ := List.mem_map.mp mem
          exact rgReg_inj (a := j) (b := r) rfl rfl (by decide) (by decide) (.inl fun h => fresh (h ▸ hj)) same
        rw [still, sameG, sameCalm]
        exact ⟨depth, next⟩
      · obtain ⟨shown, stepped⟩ := set r mem
        obtain ⟨g, calm⟩ := apart r fun h => fresh (h ▸ mem)
        rw [(reads r).1, (reads r).2, g, calm] at stepped
        exact ⟨shown, stepped⟩
    · obtain ⟨head, tail⟩ := not_or.mp (List.mem_cons.not.mp out)
      obtain ⟨g, calm⟩ := others r tail
      obtain ⟨g', calm'⟩ := apart r head
      exact ⟨g.trans g', calm.trans calm'⟩
    · exact (kept.mono (List.cons_subset_cons _ (List.nil_subset _))).trans (keptAll.mono (List.subset_cons_self _ _))

/-- BN_GOV_STATUS as the governor's loop shows it. -/
def State.govShown (s : State) (total over_ : Nat) : State :=
  (s.setFld BN_GOV_STATUS_TOTAL (min 65535 total)).setFld BN_GOV_STATUS_OVER over_

theorem State.govShown_spec {total k : Nat} (hk : k < 256) : (s.govShown total k).fld BN_GOV_STATUS_TOTAL = min 65535 total ∧
    (s.govShown total k).fld BN_GOV_STATUS_OVER = k ∧ s.RegsKept (s.govShown total k) [BN_GOV_STATUS.addr 0 0] := by
  refine ⟨?_, (State.fld_setFld_same _ BN_GOV_STATUS_OVER k 0 0 (by decide) (by decide)).trans (Nat.mod_eq_of_lt hk), ?_⟩
  · exact (State.fld_setFld_apart _ BN_GOV_STATUS_OVER BN_GOV_STATUS_TOTAL _ 0 0 rfl (by decide) (by decide) (.inl (by decide))).trans
      ((State.fld_setFld_same s BN_GOV_STATUS_TOTAL _ 0 0 (by decide) (by decide)).trans
        (Nat.mod_eq_of_lt ((Nat.min_le_left 65535 _).trans_lt (by decide))))
  · exact (State.regsKept_setFld BN_GOV_STATUS_TOTAL _ 0 0 (List.mem_singleton_self _)).trans
      (State.regsKept_setFld BN_GOV_STATUS_OVER _ 0 0 (List.mem_singleton_self _))

theorem State.governor_eq : s.governor =
    s.regionsUp.foldl (fun x r => x.govern
      (s.regionsUp.filter fun r => s.govOver (s.regionsUp.map fun r => s.fld RG_POWER_EST r).sum s.regionsUp.length r)
      (if s.fld BN_GOV_STATUS_VIN_LOW = 1 then 2 else 0) r)
      (s.govShown (s.regionsUp.map fun r => s.fld RG_POWER_EST r).sum
        (s.regionsUp.filter fun r => s.govOver (s.regionsUp.map fun r => s.fld RG_POWER_EST r).sum s.regionsUp.length r).length) := rfl

theorem govNext_spec (warm cool : Bool) (hold g calm : Nat) (low : floor ≤ 2) (small : g ≤ 4) :
    (govNext warm cool hold floor g calm).1 ≤ 4 ∧ floor ≤ (govNext warm cool hold floor g calm).1 ∧
      (warm = true → (govNext warm cool hold floor g calm).1 = max floor (min 4 (g + 1))) ∧
      (warm = false → (govNext warm cool hold floor g calm).1 ≤ max floor g) := by
  unfold govNext
  cases warm with
  | true =>
    refine ⟨?_, ?_, fun _ => rfl, nofun⟩ <;> simp only [if_true] <;> omega
  | false =>
    simp only [Bool.false_eq_true, if_false]
    refine ⟨?_, ?_, nofun, fun _ => ?_⟩ <;> split_ifs <;> simp only <;> omega

/-! ## The governor is enabled (R393) -/

theorem regs_get_map {l : List Nat} {h : Nat → Nat} {j d : Nat} (mem : j ∈ l) : SMap.get (l.map fun r => (r, h r)) j d = h j := by
  induction l with
  | nil => exact absurd mem List.not_mem_nil
  | cons a l ih =>
    rw [List.map_cons, SMap.get]
    split
    · next own => rw [own]
    · next other => exact ih ((List.mem_cons.mp mem).resolve_left fun e => other e.symm)

theorem govCfg_alive : s.regAlive (BN_GOV_CFG.addr 0 0) = true := by
  have at_ : blockOf (BN_GOV_CFG.addr 0 0) = some (.bn, 0) := by decide
  rw [State.regAlive, at_]

/-- A write of BN_GOV_CFG before the governor's copy is taken. -/
theorem State.govWritten (hv : v < 2 ^ 32) : ∃ y : State, (s.serveWrite (BN_GOV_CFG.addr 0 0) v).writeTyped BN_GOV_CFG 0 0 v = y ∧
    y.fld BN_GOV_CFG_ENABLE = v / 2 ^ 31 ∧ s.RegsKept y [BN_GOV_CFG.addr 0 0] ∧ y.bn = s.bn := by
  have order : descend 32 BN_GOV_CFG.fields = true := by decide
  obtain ⟨net, e⟩ := s.serveWrite_unmirrored v (off := BN_GOV_CFG.addr 0 0) (r := BN_GOV_CFG) (i := 0) (k := 0) (by decide +kernel)
    (by decide +kernel)
  rw [e]
  refine ⟨_, rfl, (State.fld_writeTyped order _ (ty := .rw) (reset := 1) 0 0 rfl (by decide)).trans ?_, ?_, rfl⟩
  · have top : bits v 31 31 = v / 2 ^ 31 % 2 := bits_eq_div (k := 1) v rfl
    exact top.trans (Nat.mod_eq_of_lt (Nat.div_lt_of_lt_mul hv))
  · have kept : s.RegsKept ({ s with net := net }.writeTyped BN_GOV_CFG 0 0 v) [BN_GOV_CFG.addr 0 0] := State.regsKept_writeTyped
    exact kept

/-! ## The regulators (R388) -/

theorem linear11_lt {k w : Nat} : linear11 k w < 2 ^ 16 := by
  unfold linear11
  dsimp only
  split
  · decide
  · exact (Nat.min_le_left 65535 _).trans_lt (by decide)

variable {vin iin pin st : Nat}

/-- What a good read shows. -/
def State.pmShown (s : State) (vin iin pin : Nat) : State :=
  (s.wr BN_PM_VI 0 0 (linear11 100 vin <<< 16 + linear11 100 iin)).wr BN_PM_PIN 0 0 (linear11 10 pin)

/-- VIN_LOW with its hysteresis (R393). -/
def State.vinJudged (s : State) (v : Nat) : State :=
  if v < 5400 then s.setFld BN_GOV_STATUS_VIN_LOW 1 else if 5450 ≤ v then s.setFld BN_GOV_STATUS_VIN_LOW 0 else s

/-- A first overvoltage is logged. -/
def State.vinLogged (s : State) (v : Nat) : State :=
  if 6000 < v ∧ s.fld BN_GOV_STATUS_VIN_HIGH = 0 then (s.setFld BN_GOV_STATUS_VIN_HIGH 1).bnLog 0x08 0 0 [0x100 <<< 32 + v] else s

/-- A fault of a core-rail regulator is logged, and then cleared. -/
def State.railLogged (s : State) (st : Nat) : State :=
  if st = 0 then s.modBn (fun b => { b with clearFaults := st != 0 })
  else (s.modBn fun b => { b with clearFaults := st != 0 }).bnLog 0x08 0 0 [0x101 <<< 32 + st]

theorem State.regulators_eq : s.regulators vin iin pin st =
    (((s.pmShown vin iin pin).vinJudged (linear11 100 vin)).vinLogged (linear11 100 vin)).railLogged st := rfl

theorem State.pmShown_spec : (s.pmShown vin iin pin).fld BN_PM_VI_VIN = linear11 100 vin ∧
    (s.pmShown vin iin pin).fld BN_PM_VI_IIN = linear11 100 iin ∧ (s.pmShown vin iin pin).fld BN_PM_PIN_PIN = linear11 10 pin ∧
    (s.pmShown vin iin pin).fld BN_PM_PIN_AGE = 0 ∧
    (s.pmShown vin iin pin).fld BN_GOV_STATUS_VIN_LOW = s.fld BN_GOV_STATUS_VIN_LOW := by
  have hv : linear11 100 vin < 2 ^ 16 := linear11_lt
  have hi : linear11 100 iin < 2 ^ 16 := linear11_lt
  have hp : linear11 10 pin < 2 ^ 16 := linear11_lt
  unfold State.pmShown
  generalize linear11 100 vin = a at hv ⊢
  generalize linear11 100 iin = b at hi ⊢
  generalize linear11 10 pin = c at hp ⊢
  have first : (s.wr BN_PM_VI 0 0 (a <<< 16 + b)).rd BN_PM_VI = a * 2 ^ 16 + b := by
    rw [State.rd_wr_same, Nat.shiftLeft_eq, Nat.mod_eq_of_lt]
    omega
  have vi : ((s.wr BN_PM_VI 0 0 (a <<< 16 + b)).wr BN_PM_PIN 0 0 c).rd BN_PM_VI = a * 2 ^ 16 + b := by
    rw [State.rd_wr_ne _ _ _ _ _ _ _ _ (by decide)]
    exact first
  have p : ((s.wr BN_PM_VI 0 0 (a <<< 16 + b)).wr BN_PM_PIN 0 0 c).rd BN_PM_PIN = c :=
    (State.rd_wr_same _ BN_PM_PIN 0 0 c).trans (Nat.mod_eq_of_lt (by omega))
  have status : ((s.wr BN_PM_VI 0 0 (a <<< 16 + b)).wr BN_PM_PIN 0 0 c).rd BN_GOV_STATUS = s.rd BN_GOV_STATUS := by
    rw [State.rd_wr_ne _ _ _ _ _ _ _ _ (by decide), State.rd_wr_ne _ _ _ _ _ _ _ _ (by decide)]
  refine ⟨?_, ?_, ?_, ?_, congrArg (bits · 7 7) status⟩
  · refine (congrArg (bits · 31 16) vi).trans ?_
    rw [bits_eq_div (k := 16) _ rfl]
    omega
  · refine (congrArg (bits · 15 0) vi).trans ?_
    rw [bits_eq_div (k := 16) _ rfl]
    omega
  · refine (congrArg (bits · 15 0) p).trans ?_
    rw [bits_eq_div (k := 16) _ rfl]
    omega
  · refine (congrArg (bits · 31 24) p).trans ?_
    rw [bits_eq_div (k := 8) _ rfl]
    omega

theorem State.regsKept_vinJudged : s.RegsKept (s.vinJudged v) [BN_GOV_STATUS.addr 0 0] := by
  unfold State.vinJudged
  split_ifs
  · exact State.regsKept_setFld BN_GOV_STATUS_VIN_LOW 1 0 0 (List.mem_singleton_self _)
  · exact State.regsKept_setFld BN_GOV_STATUS_VIN_LOW 0 0 0 (List.mem_singleton_self _)
  · exact .refl

theorem State.vinJudged_low : (s.vinJudged v).fld BN_GOV_STATUS_VIN_LOW =
    if v < 5400 then 1 else if 5450 ≤ v then 0 else s.fld BN_GOV_STATUS_VIN_LOW := by
  unfold State.vinJudged
  split_ifs
  · exact State.fld_setFld_same s BN_GOV_STATUS_VIN_LOW 1 0 0 (by decide) (by decide)
  · exact State.fld_setFld_same s BN_GOV_STATUS_VIN_LOW 0 0 0 (by decide) (by decide)
  · rfl

/-- A field that the log of an overvoltage leaves. -/
theorem State.fld_vinLogged (log : f.reg.addr 0 0 ≠ BN_LOG_STATUS.addr 0 0)
    (apart : ∀ y : State, (y.setFld BN_GOV_STATUS_VIN_HIGH 1).fld f = y.fld f) : (s.vinLogged v).fld f = s.fld f := by
  unfold State.vinLogged
  split_ifs
  · exact (State.fld_bnLog_ne log).trans (apart s)
  · rfl

theorem State.fld_railLogged (log : f.reg.addr 0 0 ≠ BN_LOG_STATUS.addr 0 0) : (s.railLogged st).fld f = s.fld f := by
  unfold State.railLogged
  split_ifs
  · rfl
  · exact State.fld_bnLog_ne log

theorem State.clearFaults_bnLog {ty kind unit : Nat} {data : List Nat} :
    (s.bnLog ty kind unit data).bn.clearFaults = s.bn.clearFaults := by
  simp only [State.bnLog, State.stamped]
  split_ifs <;> rfl

theorem State.clearFaults_railLogged : (s.railLogged st).bn.clearFaults = (st != 0) := by
  unfold State.railLogged
  split_ifs
  · rfl
  · exact State.clearFaults_bnLog

theorem State.regulators_spec : (s.regulators vin iin pin st).fld BN_PM_VI_VIN = linear11 100 vin ∧
    (s.regulators vin iin pin st).fld BN_PM_VI_IIN = linear11 100 iin ∧ (s.regulators vin iin pin st).fld BN_PM_PIN_PIN = linear11 10 pin ∧
    (s.regulators vin iin pin st).fld BN_PM_PIN_AGE = 0 ∧ (s.regulators vin iin pin st).bn.clearFaults = (st != 0) ∧
    (s.regulators vin iin pin st).fld BN_GOV_STATUS_VIN_LOW =
      if linear11 100 vin < 5400 then 1 else if 5450 ≤ linear11 100 vin then 0 else s.fld BN_GOV_STATUS_VIN_LOW := by
  obtain ⟨volts, amps, power, age, low⟩ := State.pmShown_spec (s := s) (vin := vin) (iin := iin) (pin := pin)
  rw [State.regulators_eq]
  generalize s.pmShown vin iin pin = x at volts amps power age low
  have pm (f : Fld) (own : f.reg = BN_PM_VI ∨ f.reg = BN_PM_PIN) :
      (((x.vinJudged (linear11 100 vin)).vinLogged (linear11 100 vin)).railLogged st).fld f = x.fld f := by
    have addr : f.reg.addr 0 0 = BN_PM_VI.addr 0 0 ∨ f.reg.addr 0 0 = BN_PM_PIN.addr 0 0 := own.imp (congrArg (RegDef.addr · 0 0))
      (congrArg (RegDef.addr · 0 0))
    have log : f.reg.addr 0 0 ≠ BN_LOG_STATUS.addr 0 0 := by rcases addr with e | e <;> rw [e] <;> decide
    have status : f.reg.addr 0 0 ≠ BN_GOV_STATUS.addr 0 0 := by rcases addr with e | e <;> rw [e] <;> decide
    exact (State.fld_railLogged log).trans ((State.fld_vinLogged log fun y =>
      State.fld_setFld_ne y BN_GOV_STATUS_VIN_HIGH f 1 0 0 0 0 status).trans
        (State.regsKept_vinJudged.fld (List.mem_singleton.not.mpr status)))
  refine ⟨(pm _ (.inl rfl)).trans volts, (pm _ (.inl rfl)).trans amps, (pm _ (.inr rfl)).trans power, (pm _ (.inr rfl)).trans age,
    State.clearFaults_railLogged, ?_⟩
  refine (State.fld_railLogged (by decide)).trans ((State.fld_vinLogged (by decide) fun y => ?_).trans (State.vinJudged_low.trans ?_))
  · exact State.fld_setFld_apart y BN_GOV_STATUS_VIN_HIGH BN_GOV_STATUS_VIN_LOW 1 0 0 rfl (by decide) (by decide) (.inl (by decide))
  · rw [low]

/-! ## Temperatures of the HBM stacks (R389) -/

/-- The byte of one stack. -/
def State.stackShown (s : State) (m temp : Nat) : State :=
  s.wr BN_HBM_TEMP 0 (m / 4) (setBits (s.rd BN_HBM_TEMP 0 (m / 4)) (8 * (m % 4) + 7) (8 * (m % 4)) temp)

theorem State.stackShown_spec {m temp : Nat} (htemp : temp < 256) :
    bits ((s.stackShown m temp).rd BN_HBM_TEMP 0 (m / 4)) (8 * (m % 4) + 7) (8 * (m % 4)) = temp ∧
      s.RegsKept (s.stackShown m temp) [BN_HBM_TEMP.addr 0 (m / 4)] := by
  refine ⟨?_, fun off d out => State.regs_wr_ne _ _ _ _ _ off d (List.mem_singleton.not.mp out)⟩
  have word : setBits (s.rd BN_HBM_TEMP 0 (m / 4)) (8 * (m % 4) + 7) (8 * (m % 4)) temp < 2 ^ 32 :=
    setBits_lt _ _ _ _ (s.rd_lt _ _ _) (by omega) (by omega)
  rw [State.stackShown, State.rd_wr_same, Nat.mod_eq_of_lt word]
  refine bits_setBits_same _ _ _ _ ?_ (by omega)
  rw [show 8 * (m % 4) + 7 + 1 - 8 * (m % 4) = 8 by omega]
  exact htemp

end

end Sys2Proof.Machine

/-! # Occasions of the sensors and the governor: the proof of SensorsAndGovernorSetStretch -/

namespace Sys2Proof.Machine

section

variable {s t x y : State} {n r m v temp sag lim vin iin pin st : Nat} {bad : Bool}

/-! ## A good read of a region's sensors -/

theorem dipEvents_notin_sensor : RG_DIP_EVENTS.addr n 0 ∉ [RG_SENSOR.addr n 0] :=
  fun mem => RegDef.addr_ne (r := RG_DIP_EVENTS) (q := RG_SENSOR) rfl (by decide) (List.mem_singleton.mp mem)

/-- The demand that a read sets, and its event. -/
theorem State.sensorRead_region (htemp : temp < 256) :
    let d := (s.setFld RG_SENSOR_SAG_BAD 0 n).dipDemand n sag
    (s.sensorRead n temp sag).rg n = (s.rg n).dipped d sag ∧
      (s.sensorRead n temp sag).fld RG_DIP_EVENTS_EVENTS n =
        (s.fld RG_DIP_EVENTS_EVENTS n + if (s.rg n).demand < d then 1 else 0) % 2 ^ 32 ∧
      ∀ m, m ≠ n → (s.sensorRead n temp sag).rg m = s.rg m := by
  intro d
  have demand : (s.sensorShown n temp sag).dipDemand n sag = d := State.dipDemand_sensorShown htemp
  have region (j : Nat) : (s.sensorShown n temp sag).rg j = s.rg j := rfl
  have events : (s.sensorShown n temp sag).fld RG_DIP_EVENTS_EVENTS n = s.fld RG_DIP_EVENTS_EVENTS n :=
    State.regsKept_sensorShown.fld dipEvents_notin_sensor
  refine ⟨?_, ?_, fun m other => ?_⟩
  · rw [State.sensorRead, State.dipRead_region, if_pos rfl, demand, region]
  · rw [State.sensorRead, (State.dipRead_spec sag).1, demand, region, events]
  · rw [State.sensorRead, State.dipRead_region, if_neg other, region]

theorem State.frame_after (h : { y with regs := s.regs, rgn := s.rgn } = s) :
    { s.after y with regs := s.regs, rgn := s.rgn, fresh := s.fresh } = s := by
  have e := congrArg (fun z : State => { s.after z with regs := s.regs, rgn := s.rgn, fresh := s.fresh }) h
  exact e

theorem State.sensorIn_good (low : -40 ≤ toSigned 8 temp) (high : toSigned 8 temp ≤ 125) (good : bad = false) :
    s.sensorIn n temp sag bad = (s.sensorRead n temp sag).trip n := by
  rw [good]
  exact State.sensorIn_cool low high

/-! ## The governor's loop -/

theorem contains_filter_of_mem {l : List Nat} {k : Nat → Bool} (mem : r ∈ l) : (l.filter k).contains r = k r := by
  cases e : k r <;> simp [List.contains_eq_mem, mem, e]

theorem State.govShown_reads (kept : s.RegsKept t [BN_GOV_STATUS.addr 0 0]) (j : Nat) :
    t.govUnder j = s.govUnder j ∧ t.fld BN_GOV_CFG_HOLDOFF = s.fld BN_GOV_CFG_HOLDOFF := by
  have rg (q : RegDef) (blk : q.blk = .rg) : q.addr j 0 ∉ [BN_GOV_STATUS.addr 0 0] :=
    fun mem => rgReg_ne_bn blk rfl (by decide) (List.mem_singleton.mp mem).symm
  have est : t.fld RG_POWER_EST j = s.fld RG_POWER_EST j := kept.fld (rg _ rfl)
  have temp : t.fld RG_SENSOR_TEMP j = s.fld RG_SENSOR_TEMP j := kept.fld (rg _ rfl)
  have limit : t.fld BN_GOV_LIMIT_REGION = s.fld BN_GOV_LIMIT_REGION := kept.fld (by decide)
  have high : t.fld BN_GOV_CFG_T_HIGH = s.fld BN_GOV_CFG_T_HIGH := kept.fld (by decide)
  exact ⟨by rw [State.govUnder, State.govUnder, decide_eq_decide, State.temp, State.temp, est, temp, limit, high], kept.fld (by decide)⟩

theorem State.regionsUp_once : s.regionsUp.Nodup := List.nodup_range.filter _

theorem State.regionsUp_low (mem : r ∈ s.regionsUp) : r < 36 := List.mem_range.mp (List.mem_filter.mp mem).1

theorem State.governor_spec {total floor : Nat} (sum : (s.regionsUp.map fun r => s.fld RG_POWER_EST r).sum = total)
    (low : (if s.fld BN_GOV_STATUS_VIN_LOW = 1 then 2 else 0) = floor) : ∃ y, s.governor = y ∧
      y.fld BN_GOV_STATUS_TOTAL = min 65535 total ∧
      y.fld BN_GOV_STATUS_OVER = (s.regionsUp.filter fun r => s.govOver total s.regionsUp.length r).length ∧
      (∀ r ∈ s.regionsUp, y.fld RG_STRETCH_CTRL_GOV_DEPTH r = y.bn.g.get r 0 % 8 ∧ (y.bn.g.get r 0, y.bn.calm.get r 0) =
        govNext (s.govOver total s.regionsUp.length r) (s.govUnder r) (s.fld BN_GOV_CFG_HOLDOFF) floor (s.bn.g.get r 0) (s.bn.calm.get r 0)) ∧
      (∀ r, r ∉ s.regionsUp → y.bn.g.get r 0 = s.bn.g.get r 0) ∧
      s.RegsKept y (BN_GOV_STATUS.addr 0 0 :: (List.range 36).map fun r => RG_STRETCH_CTRL.addr r 0) ∧ y.rgn = s.rgn := by
  have gov := State.governor_eq (s := s)
  rw [sum, low] at gov
  have hot (r : Nat) (mem : r ∈ s.regionsUp) := contains_filter_of_mem (k := fun r => s.govOver total s.regionsUp.length r) mem
  have few : (s.regionsUp.filter fun r => s.govOver total s.regionsUp.length r).length < 256 :=
    (List.length_filter_le _ _).trans_lt ((List.length_filter_le _ _).trans_lt (by rw [List.length_range]; decide))
  have once := s.regionsUp_once
  have inRange (r : Nat) : r ∈ s.regionsUp → r < 36 := State.regionsUp_low
  obtain ⟨u, shown, bn, rgn⟩ : ∃ u, s.govShown total (s.regionsUp.filter fun r => s.govOver total s.regionsUp.length r).length = u ∧
      u.bn = s.bn ∧ u.rgn = s.rgn := ⟨_, rfl, rfl, rfl⟩
  have head := State.govShown_spec (s := s) (total := total) few
  rw [shown] at head gov
  clear sum low shown
  generalize s.regionsUp = l at *
  generalize (l.filter fun r => s.govOver total l.length r) = warm at *
  obtain ⟨set, others, kept, same⟩ := State.governed (hot := warm) (floor := floor) once u
  generalize l.foldl (fun x r => x.govern warm floor r) u = y at *
  obtain ⟨shownTotal, shownOver, keptHead⟩ := head
  have apart : BN_GOV_STATUS.addr 0 0 ∉ l.map fun r => RG_STRETCH_CTRL.addr r 0 := by
    intro mem
    obtain ⟨a, -, e⟩ := List.mem_map.mp mem
    exact rgReg_ne_bn (q := RG_STRETCH_CTRL) rfl rfl (by decide) e.symm
  refine ⟨y, gov, (kept.fld apart).trans shownTotal, (kept.fld apart).trans shownOver, fun r mem => ?_, fun r out => ?_, ?_, same.trans rgn⟩
  · obtain ⟨depth, next⟩ := set r mem
    have reads := State.govShown_reads keptHead r
    rw [hot r mem, reads.1, reads.2, bn] at next
    exact ⟨depth, next⟩
  · rw [(others r out).1, bn]
  · refine (keptHead.mono (List.cons_subset_cons _ (List.nil_subset _))).trans (kept.mono fun off mem => ?_)
    obtain ⟨a, ha, e⟩ := List.mem_map.mp mem
    exact List.mem_cons_of_mem _ (List.mem_map.mpr ⟨a, List.mem_range.mpr (inRange a ha), e⟩)

theorem gives_governorLoop (h : (if s.bnUp = true ∧ s.fld BN_GOV_CFG_ENABLE = 1 then s.governor else s) = t) :
    Gives .governorLoop s t :=
  Gives.of_run (exec_governorLoop s) rfl h

/-! ## The governor is enabled (R393) -/

theorem gives_govEnable (hv : v < 2 ^ 32) (h : (s.serveWrite (BN_GOV_CFG.addr 0 0) v).writeTyped BN_GOV_CFG 0 0 v = y)
    (rise : (if bit v 31 = true ∧ (s.serveWrite (BN_GOV_CFG.addr 0 0) v).fld BN_GOV_CFG_ENABLE = 0 ∧
      (s.serveWrite (BN_GOV_CFG.addr 0 0) v).bnUp = true then y.rereadStretch else y) = t) : Gives (.govEnable v) s t :=
  Gives.of_run (exec_govEnable v s) (decide_eq_true hv) ((if_pos govCfg_alive).trans (by dsimp only; rw [h]; exact rise))

theorem State.govEnabled (hv : v < 2 ^ 32) : ∃ y, Gives (.govEnable v) s y ∧ y.fld BN_GOV_CFG_ENABLE = v / 2 ^ 31 ∧
    s.RegsKept y [BN_GOV_CFG.addr 0 0] ∧
    (v / 2 ^ 31 = 1 → s.fld BN_GOV_CFG_ENABLE = 0 → s.bnUp = true → ∀ r, r < 36 → y.bn.stretch.get r 0 = s.rd RG_STRETCH_CTRL r) ∧
    (v / 2 ^ 31 = 0 ∨ s.fld BN_GOV_CFG_ENABLE = 1 ∨ s.bnUp = false → y.bn = s.bn) := by
  obtain ⟨y, e, enable, kept, bn⟩ := State.govWritten (s := s) hv
  obtain ⟨net, served⟩ := s.serveWrite_unmirrored v (off := BN_GOV_CFG.addr 0 0) (r := BN_GOV_CFG) (i := 0) (k := 0) (by decide +kernel)
    (by decide +kernel)
  have was : (s.serveWrite (BN_GOV_CFG.addr 0 0) v).fld BN_GOV_CFG_ENABLE = s.fld BN_GOV_CFG_ENABLE := by rw [served]; rfl
  have up : (s.serveWrite (BN_GOV_CFG.addr 0 0) v).bnUp = s.bnUp := by rw [served]
  have gives := gives_govEnable hv e rfl
  rw [was, up] at gives
  by_cases rise : bit v 31 = true ∧ s.fld BN_GOV_CFG_ENABLE = 0 ∧ s.bnUp = true
  · rw [if_pos rise] at gives
    obtain ⟨top, off, up⟩ := rise
    have copy (r : Nat) (hr : r < 36) : y.rereadStretch.bn.stretch.get r 0 = y.rd RG_STRETCH_CTRL r :=
      regs_get_map (List.mem_range.mpr hr)
    have rd (r : Nat) : y.rd RG_STRETCH_CTRL r = s.rd RG_STRETCH_CTRL r :=
      kept.rd fun mem => rgReg_ne_bn (q := RG_STRETCH_CTRL) rfl rfl (by decide) (List.mem_singleton.mp mem).symm
    refine ⟨y.rereadStretch, gives, enable, kept, fun _ _ _ r hr => (copy r hr).trans (rd r), fun no => ?_⟩
    have one : v / 2 ^ 31 = 1 := of_decide_eq_true ((bit_top hv).symm.trans top)
    rcases no with no | no | no
    · omega
    · omega
    · exact absurd (no.symm.trans up) (by decide)
  · rw [if_neg rise] at gives
    exact ⟨y, gives, enable, kept, fun one off up => absurd ⟨(bit_top hv).trans (decide_eq_true one), off, up⟩ rise, fun _ => bn⟩

/-! ## Polls of the regulators (R388) and of the stacks (R389) -/

theorem gives_pmbusPoll (hvin : vin < 65536) (hiin : iin < 65536) (hpin : pin < 65536) (hst : st < 65536)
    (h : (if s.bnUp = false then s else
      let x := if bad then (s.satFld BN_PM_PIN_AGE 1).unitEvent .bn 0 5 0 else s.regulators vin iin pin st
      if x.fld BN_STATE_STATE = 2 ∧ x.fld BN_STATE_STEP = 9 then (x.modBn fun b => { b with step9 := b.step9 + 1 }).tryReady else x) = t) :
    Gives (.pmbusPoll bad vin iin pin st) s t :=
  Gives.of_run (exec_pmbusPoll bad vin iin pin st s)
    (by simp only [Instr.wf, hvin, hiin, hpin, hst, decide_true, Bool.and_self]) h

theorem gives_stackTemperature (hm : m < 16) (htemp : temp < 256) (hlim : lim < 256)
    (h : (if s.bnUp = false then s else if temp ≠ 0x80 ∧ lim ≠ 0x80 ∧ toSigned 8 lim ≤ toSigned 8 temp then
      (s.stackShown m temp).bnLog 0x08 3 m [(0x200 + m) <<< 32 + temp] else s.stackShown m temp) = t) :
    Gives (.stackTemperature m temp lim) s t :=
  Gives.of_run (exec_stackTemperature m temp lim s)
    (by simp only [Instr.wf, okMp, hm, htemp, hlim, decide_true, Bool.and_self]) h

theorem State.regsKept_bnLog {ty kind unit : Nat} {data : List Nat} :
    s.RegsKept (s.bnLog ty kind unit data) [BN_LOG_STATUS.addr 0 0] := by
  unfold State.bnLog
  split
  · exact State.regsKept_addFld BN_LOG_STATUS_DROPPED 1 0 0 (List.mem_singleton_self _)
  · dsimp only
    split <;> exact .refl

theorem hbmTemp_ne_log {k : Nat} (hk : k < 4) : BN_HBM_TEMP.addr 0 k ∉ [BN_LOG_STATUS.addr 0 0] := by
  intro mem
  have e := List.mem_singleton.mp mem
  simp only [RegDef.addr, BN_HBM_TEMP, BN_LOG_STATUS, Blk.base] at e
  omega

theorem stackTemperature_up (hm : m < 16) (htemp : temp < 256) (hlim : lim < 256) (up : s.bnUp = true) :
    Does (.stackTemperature m temp lim) s fun t =>
      bits (t.rd BN_HBM_TEMP 0 (m / 4)) (8 * (m % 4) + 7) (8 * (m % 4)) = temp ∧
      s.RegsKept t [BN_HBM_TEMP.addr 0 (m / 4), BN_LOG_STATUS.addr 0 0] ∧
      (temp = 0x80 ∨ lim = 0x80 ∨ toSigned 8 temp < toSigned 8 lim → s.OnlyRegs t) := by
  obtain ⟨shown, kept⟩ := State.stackShown_spec (s := s) (m := m) htemp
  have keptBoth := kept.mono (l' := [BN_HBM_TEMP.addr 0 (m / 4), BN_LOG_STATUS.addr 0 0]) (by simp)
  have only : s.OnlyRegs (s.after (s.stackShown m temp)) := rfl
  have gives := gives_stackTemperature hm htemp hlim (if_neg (ne_false_of_eq_true up))
  generalize s.stackShown m temp = y at *
  by_cases hot : temp ≠ 0x80 ∧ lim ≠ 0x80 ∧ toSigned 8 lim ≤ toSigned 8 temp
  · rw [if_pos hot] at gives
    have log := State.regsKept_bnLog (s := y) (ty := 0x08) (kind := 3) (unit := m) (data := [(0x200 + m) <<< 32 + temp])
    refine gives.does ⟨?_, ?_, fun no => ?_⟩
    · exact (congrArg (bits · (8 * (m % 4) + 7) (8 * (m % 4))) (log.rd (hbmTemp_ne_log (by omega)))).trans shown
    · exact keptBoth.trans (log.mono (by simp))
    · obtain ⟨known, limited, above⟩ := hot
      omega
  · rw [if_neg hot] at gives
    exact gives.does ⟨shown, keptBoth, fun _ => only⟩

end

/-- Settles O48: each occasion's registers are followed through the state it writes; the governor's loop by induction over the regions that
are up. -/
theorem sensorsAndGovernorSetStretch : Obligations.SensorsAndGovernorSetStretch := by
  unfold Obligations.SensorsAndGovernorSetStretch
  intro s n temp sag m lim v vin iin pin st bad hn htemp hsag hm hlim hv hvin hiin hpin hst
  extract_lets t8 cool trips rs total floor x d
  have poll {t : State} := gives_pmbusPoll (s := s) (bad := bad) (t := t) hvin hiin hpin hst
  refine ⟨fun off => gives_sensorRefresh hn htemp hsag (if_neg (ne_true_of_eq_false off)), fun on => gives_sensorRefresh hn htemp hsag (if_pos on),
    fun on isCool quiet => ?_, fun on isCool hot => ?_, ?_, fun off => gives_governorLoop (if_neg ?_), fun up on => ?_,
    fun warm under hold g calm small => govNext_spec warm under hold g calm ?_ small, ?_, fun down => poll (if_pos down), fun up other => ?_,
    fun up state step => ?_, ?_, fun down => gives_stackTemperature hm htemp hlim (if_pos down), stackTemperature_up hm htemp hlim⟩
  · obtain ⟨low, high, good⟩ := isCool
    have gives := gives_sensorRefresh hn htemp hsag ((if_pos on).trans (State.sensorIn_good (s := s) (sag := sag) low high good))
    obtain ⟨sameUp, -, temp_, limit⟩ := State.sensorRead_judged (s := s) (n := n) (sag := sag) htemp
    obtain ⟨shownTemp, shownSag, shownBad, shownSagBad⟩ := State.sensorShown_spec (s := s) (n := n) (sag := sag) htemp
    obtain ⟨region, events, others⟩ := State.sensorRead_region (s := s) (n := n) (sag := sag) htemp
    have kept := State.regsKept_sensorRead (s := s) (n := n) (temp := temp) (sag := sag)
    have frame := State.sensorRead_frame (s := s) (n := n) (temp := temp) (sag := sag)
    have shows {f : Fld} (reg : f.reg = RG_SENSOR) := State.fld_sensorRead (s := s) (n := n) (temp := temp) (sag := sag) reg
    rw [State.trip_cool (by rw [sameUp, temp_, limit]; exact quiet)] at gives
    generalize s.sensorRead n temp sag = y at *
    exact gives.does ⟨(shows rfl).trans shownTemp, (shows rfl).trans shownSag, (shows rfl).trans shownBad, (shows rfl).trans shownSagBad,
      ⟨region, events⟩, kept, State.frame_after frame, others⟩
  · obtain ⟨low, high, good⟩ := isCool
    obtain ⟨up, warm⟩ := hot
    have gives := gives_sensorRefresh hn htemp hsag ((if_pos on).trans (State.sensorIn_good (s := s) (sag := sag) low high good))
    obtain ⟨sameUp, samePower, temp_, limit⟩ := State.sensorRead_judged (s := s) (n := n) (sag := sag) htemp
    obtain ⟨y, w, e⟩ := State.trip_hot (sameUp.trans up) (samePower.trans on) (by rw [temp_, limit]; exact warm)
    rw [e] at gives
    exact gives.does (State.tripped_spec hn)
  · obtain ⟨⟨regs, rgn, frame⟩, kept, done, others⟩ := s.estimatedTo 36
    have gives : Gives .powerEstimate s _ := Gives.of_run (exec_powerEstimate s) rfl rfl
    generalize (List.range 36).foldl (fun s n => if s.powered n = true then s.estimate n else s) s = y at *
    have spad : y.spad = s.spad := by rw [frame]
    have net : y.net = s.net := by rw [frame]
    refine gives.does ⟨done, fun r off => ?_, kept, spad, net⟩
    obtain ⟨rg, power⟩ := others r (.inr off)
    exact ⟨rg, congrArg (bits · 15 0) power⟩
  · rintro ⟨up, on⟩
    rcases off with down | off
    · exact absurd (down.symm.trans up) (by decide)
    · omega
  · obtain ⟨y, e, spec⟩ := State.governor_spec (s := s) (total := total) (floor := floor) rfl rfl
    exact (gives_governorLoop ((if_pos ⟨up, on⟩).trans e)).does spec
  · dsimp only [floor]
    split <;> omega
  · obtain ⟨y, gives, spec⟩ := State.govEnabled (s := s) hv
    exact gives.does spec
  · exact poll ((if_neg (ne_false_of_eq_true up)).trans (if_neg fun both => other.elim (· both.1) (· both.2)))
  · exact poll ((if_neg (ne_false_of_eq_true up)).trans (if_pos ⟨state, step⟩))
  · obtain ⟨volts, amps, power, age, faults, low⟩ := State.regulators_spec (s := s) (vin := vin) (iin := iin) (pin := pin) (st := st)
    refine ⟨volts, amps, power, age, by rw [faults, bne_iff_ne], fun below => low.trans (if_pos below), fun above => ?_, fun a b => ?_⟩
    · exact low.trans ((if_neg (by omega)).trans (if_pos above))
    · exact low.trans ((if_neg (by omega)).trans (if_neg (by omega)))

end Sys2Proof.Machine

/-! # What ending a command leaves alone -/

namespace Sys2Proof.Machine

/-- What most of the machine's bookkeeping does not touch: the memories, time, the fuses, whether Stolrel runs, which regions are frozen, the
registers at some offsets and something of Stolrel's state. -/
structure Kept (β : Type) where
  spad : Memory
  hbm : Memory
  time : Chrono
  fuse : Fuses
  flash : Memory
  bn : β
  up : Bool
  frozen : Nat → Bool
  words : Nat → W32 → W32

/-- The registers that a state shows at the offsets of `G`. -/
def State.wordsAt (G : Nat → Bool) (s : State) (off : Nat) (d : W32) : W32 := if G off then s.regs.get off d else d

def State.kept {β : Type} (G : Nat → Bool) (view : Stolrel → β) (s : State) : Kept β :=
  ⟨s.spad, s.hbm, s.time, s.fuse, s.flash, view s.bn, s.bnUp, fun r => (s.rg r).frozen, s.wordsAt G⟩

section

variable {α : Type} {view : Stolrel → α} {G : Nat → Bool} {s t : State}

theorem State.regs_of_kept (h : t.kept G view = s.kept G view) {off : Nat} (mem : G off = true) (d : W32) : t.regs.get off d = s.regs.get off d := by
  have e := congrFun (congrFun (congrArg Kept.words h) off) d
  simpa only [State.kept, State.wordsAt, mem, if_true] using e

theorem State.rd_of_kept (h : t.kept G view = s.kept G view) {r : RegDef} {i k : Nat} (mem : G (r.addr i k) = true) : t.rd r i k = s.rd r i k :=
  congrArg BitVec.toNat (State.regs_of_kept h mem _)

theorem State.fld_of_kept (h : t.kept G view = s.kept G view) {f : Fld} {i k : Nat} (mem : G (f.reg.addr i k) = true) : t.fld f i k = s.fld f i k :=
  congrArg (bits · f.hi f.lo) (State.rd_of_kept h mem)

theorem kept_foldl {β : Type} {f : State → β → State} (h : ∀ s b, (f s b).kept G view = s.kept G view) (l : List β) (s : State) :
    (l.foldl f s).kept G view = s.kept G view := by
  induction l generalizing s with
  | nil => rfl
  | cons b l ih => exact (ih _).trans (h s b)

/-- A state that differs in registers outside `G` alone. -/
theorem kept_regs {regs : SMap W32} (h : ∀ off d, G off = true → SMap.get regs off d = s.regs.get off d) :
    { s with regs := regs }.kept G view = s.kept G view := by
  have words : State.wordsAt G { s with regs := regs } = s.wordsAt G := by
    funext off d
    unfold State.wordsAt
    split
    · next mem => exact h off d mem
    · rfl
  rw [State.kept, words]
  rfl

theorem kept_wr {r : RegDef} {i k v : Nat} (apart : G (r.addr i k) = false) : (s.wr r i k v).kept G view = s.kept G view :=
  kept_regs fun off d mem => State.regs_wr_ne s r i k v off d fun e => by rw [e, apart] at mem; exact Bool.noConfusion mem

theorem kept_setFld {f : Fld} {v i k : Nat} (apart : G (f.reg.addr i k) = false) : (s.setFld f v i k).kept G view = s.kept G view := kept_wr apart
theorem kept_addFld {f : Fld} {v i k : Nat} (apart : G (f.reg.addr i k) = false) : (s.addFld f v i k).kept G view = s.kept G view := kept_wr apart
theorem kept_satFld {f : Fld} {v i k : Nat} (apart : G (f.reg.addr i k) = false) : (s.satFld f v i k).kept G view = s.kept G view := kept_wr apart

theorem kept_addPair {lo hi : RegDef} {v i k : Nat} (apartLo : G (lo.addr i k) = false) (apartHi : G (hi.addr i k) = false) :
    (s.addPair lo hi v i k).kept G view = s.kept G view :=
  (kept_wr apartHi).trans (kept_wr apartLo)

/-- Regions change by whatever leaves them as frozen as they were. -/
theorem kept_modRg {n : Nat} {f : Region → Region} (same : (f (s.rg n)).frozen = (s.rg n).frozen) : (s.modRg n f).kept G view = s.kept G view := by
  have frozen : (fun r => ((s.modRg n f).rg r).frozen) = fun r => (s.rg r).frozen := by
    funext r
    by_cases own : r = n
    · rw [own, State.rg_modRg_same, same]
    · rw [State.rg_modRg_ne _ _ _ _ own]
  rw [State.kept, frozen]
  rfl

theorem kept_stamped {d : Nat} : (s.stamped d).kept G view = s.kept G view := by
  unfold State.stamped
  dsimp only
  split
  · exact kept_modRg rfl
  · rfl

end

/-! ## What the end of a descriptor writes

Its registers lie in the blocks of tenancies and of NIs, above those of the Binnacle. -/

section

variable {α : Type} {view : Stolrel → α} {G : Nat → Bool} {s : State} {i k : Nat}

/-- Offsets below the blocks of the tenancies. -/
def Below (G : Nat → Bool) : Prop := ∀ off, G off = true → off < 0x100000

theorem Below.tn (low : Below G) {r : RegDef} (blk : r.blk = .tn) : G (r.addr i k) = false := by
  by_contra h
  have lt := low _ (eq_true_of_ne_false h)
  simp only [RegDef.addr, blk, Blk.base] at lt
  omega

theorem Below.ni (low : Below G) {r : RegDef} (blk : r.blk = .ni) : G (r.addr i k) = false := by
  by_contra h
  have lt := low _ (eq_true_of_ne_false h)
  simp only [RegDef.addr, blk, Blk.base] at lt
  omega

variable {ni : Nat}

theorem kept_log {u : UnitKind} (apart : ∀ j, G ((LOG_PTR u).addr j 0) = false) {code pk peer detail : Nat} :
    (s.log u i code pk peer detail).kept G view = s.kept G view := by
  unfold State.log
  split
  · rfl
  · exact kept_stamped.trans ((kept_setFld (apart i)).trans ((kept_addFld (apart i)).trans rfl))

theorem kept_checkFlow {f : Nat} : (s.checkFlow ni f).kept G view = s.kept G view := by
  unfold State.checkFlow
  dsimp only
  split <;> rfl

theorem kept_unqueue {f : Nat} {mine : Pkt → Bool} : (s.unqueue ni f mine).kept G view = s.kept G view := by
  unfold State.unqueue
  dsimp only
  split
  · split
    · split
      · rfl
      · exact kept_checkFlow
    · rfl
  · rfl

theorem kept_enqueue {f : Nat} {p : Pkt} : (s.enqueue ni f p).kept G view = s.kept G view := by
  unfold State.enqueue
  dsimp only
  split
  · exact kept_checkFlow
  · rfl

theorem kept_fetchRing {o : Nat} : (s.fetchRing ni o).kept G view = s.kept G view := by
  unfold State.fetchRing
  dsimp only
  split <;> rfl

theorem kept_refetch : (s.refetch ni).kept G view = s.kept G view := kept_foldl (fun _ _ => kept_fetchRing) _ _

theorem kept_readRecord {o : Nat} {bell : Bool} : (s.readRecord ni o bell).kept G view = s.kept G view := by
  unfold State.readRecord
  dsimp only
  split
  · rfl
  · split <;> rfl

theorem kept_queueCpl {d : Desc} {status count low detail startTs : Nat} {last silent : Bool} :
    (s.queueCpl d status count low detail last startTs silent).kept G view = s.kept G view :=
  kept_stamped.trans rfl

variable (low : Below G)
include low

theorem kept_waitFree {kind obj tag : Nat} : (s.waitFree ni kind obj tag).kept G view = s.kept G view := by
  have apart {x : State} {r : RegDef} {j v : Nat} (blk : r.blk = .ni) : (x.wr r ni j v).kept G view = x.kept G view := kept_wr (low.ni blk)
  unfold State.waitFree
  split
  · rfl
  · exact (apart rfl).trans ((apart rfl).trans ((apart rfl).trans (apart rfl)))

theorem kept_txUnwait {o : OTx} : (s.txUnwait o).kept G view = s.kept G view := by
  unfold State.txUnwait
  split
  · exact kept_waitFree low
  · rfl

theorem kept_delTx {src txn : Nat} : (s.delTx src txn).kept G view = s.kept G view := by
  unfold State.delTx
  split
  · exact Eq.trans rfl (kept_txUnwait low)
  · rfl

theorem kept_logNi {code pk peer detail : Nat} : (s.log .ni i code pk peer detail).kept G view = s.kept G view :=
  kept_log fun _ => low.ni rfl

theorem kept_retire {d : Desc} {status : Nat} : (s.retire d status).kept G view = s.kept G view := by
  have counted {x : State} : (if status = 0 then x.addPair TN_BYTES_LO TN_BYTES_HI d.moved d.ten else x.addFld TN_FAIL_CNT 1 d.ten).kept G view =
      x.kept G view := by
    split
    · exact kept_addPair (low.tn rfl) (low.tn rfl)
    · exact kept_addFld (low.tn rfl)
  unfold State.retire
  refine kept_refetch.trans ((Eq.trans rfl ((kept_foldl (fun _ _ => kept_unqueue) _ _).trans
    ((kept_foldl (fun _ _ => kept_txUnwait low) _ _).trans ((kept_logNi low).trans (counted.trans ?_))))))
  exact kept_addPair (low.tn rfl) (low.tn rfl)

theorem kept_complete {id status count lo detail : Nat} : (s.complete id status count lo detail).kept G view = s.kept G view := by
  unfold State.complete
  split
  · rfl
  · refine (kept_retire low).trans ?_
    split
    · exact kept_queueCpl
    · rfl

theorem kept_finish {id status : Nat} : (s.finish id status).kept G view = s.kept G view := kept_complete low

theorem kept_hashAbort : s.hashAbort.kept G view = s.kept G view := kept_foldl (fun _ _ => kept_finish low) _ _

end

end Sys2Proof.Machine

/-! # What events, fences and lost transactions leave alone -/

namespace Sys2Proof.Machine

/-- The offsets of FB_BUNDLE_STATE. -/
def bundleWord (off : Nat) : Bool := off == 0x814 || off == 0x818

/-- The memories, time and the states of the bundles, among others. -/
def State.core (s : State) : Kept Unit := s.kept bundleWord fun _ => ()

theorem bundleWord_below : Below bundleWord := by
  intro off h
  simp only [bundleWord, Bool.or_eq_true, beq_iff_eq] at h
  omega

theorem Blk.base_ge {b : Blk} {n : Nat} (other : b ≠ .fb) : 0x40000 ≤ b.base n := by
  unfold Blk.base
  split
  · exact absurd rfl other
  all_goals omega

theorem bundleWord_high {off : Nat} (high : 0x819 ≤ off) : bundleWord off = false := by
  simp only [bundleWord, Bool.or_eq_false_iff, beq_eq_false_iff_ne]
  omega

theorem bundleWord_unit {r : RegDef} {i k : Nat} (blk : r.blk ≠ .fb) : bundleWord (r.addr i k) = false := by
  have base := Blk.base_ge (n := i) blk
  refine bundleWord_high ?_
  rw [RegDef.addr]
  omega

section

variable {s t : State} {k : UnitKind} {i src detail slot port : Nat}

theorem unitBlk_ne_fb : k.blk ≠ .fb := by cases k <;> exact nofun

/-- A change of what the core does not hold. -/
theorem core_setFld {f : Fld} {v j m : Nat} (blk : f.reg.blk ≠ .fb) : (s.setFld f v j m).core = s.core := kept_setFld (bundleWord_unit blk)
theorem core_addFld {f : Fld} {v j m : Nat} (blk : f.reg.blk ≠ .fb) : (s.addFld f v j m).core = s.core := kept_addFld (bundleWord_unit blk)
theorem core_satFld {f : Fld} {v j m : Nat} (blk : f.reg.blk ≠ .fb) : (s.satFld f v j m).core = s.core := kept_satFld (bundleWord_unit blk)
theorem core_stamped {d : Nat} : (s.stamped d).core = s.core := kept_stamped
theorem core_foldl {β : Type} {f : State → β → State} (h : ∀ s b, (f s b).core = s.core) (l : List β) (s : State) :
    (l.foldl f s).core = s.core := kept_foldl h l s

/-! ## Logs and events -/

theorem core_log {code pk peer : Nat} : (s.log k i code pk peer detail).core = s.core := kept_log fun _ => bundleWord_unit unitBlk_ne_fb

theorem core_freezeLog : (s.freezeLog k i).core = s.core := by
  unfold State.freezeLog
  split
  · rfl
  · exact (core_setFld unitBlk_ne_fb).trans core_log

theorem core_traceRec {ni ty ten ak aw obj arg : Nat} {d : Option TraceId} : (s.traceRec ni ty ten d ak aw obj arg).core = s.core := by
  unfold State.traceRec
  extract_lets en dom
  split
  · split
    · exact (core_addFld (by decide)).trans rfl
    · exact core_stamped.trans rfl
  · rfl

theorem core_bnLog {ty kind unit : Nat} {data : List Nat} : (s.bnLog ty kind unit data).core = s.core := by
  unfold State.bnLog
  dsimp only
  split
  · exact core_addFld nofun
  · split
    · exact Eq.trans rfl core_stamped
    · exact core_stamped.trans rfl

theorem core_sendMsg {p : Pkt} : (s.sendMsg p).core = s.core := by
  unfold State.sendMsg
  split
  · split <;> rfl
  · rfl

theorem core_errMsg {severe self : Bool} : (s.errMsg k i src severe self detail).core = s.core := by
  unfold State.errMsg
  dsimp only
  split
  · split
    · exact core_bnLog
    · rfl
  · split
    · exact core_sendMsg
    · split
      · exact (core_setFld unitBlk_ne_fb).trans rfl
      · exact core_addFld unitBlk_ne_fb

theorem core_eventWindow {severe : Bool} : (s.eventWindow k i src severe).core = s.core := by
  unfold State.eventWindow
  dsimp only
  split <;> rfl

theorem core_noteEvent {inj : Bool} : (s.noteEvent k i src detail inj).core = s.core := by
  have set {x : State} {f : Fld} {v m : Nat} (blk : f.reg.blk = k.blk) : (x.setFld f v i m).core = x.core :=
    core_setFld (blk ▸ unitBlk_ne_fb)
  have hist {x : State} {d : Nat} {sev : Bool} : (x.noteHist k i src d sev inj).core = x.core :=
    (set rfl).trans ((core_addFld unitBlk_ne_fb).trans (core_stamped.trans rfl))
  have first {x : State} {old : Nat} : (x.noteFirst k i src old).core = x.core := by
    unfold State.noteFirst
    split
    · exact (set rfl).trans (set rfl)
    · rfl
  have severe {x : State} {sev : Bool} : (x.noteSevere k i src sev).core = x.core := by
    unfold State.noteSevere
    dsimp only
    split
    · split
      · exact set rfl
      · exact (set rfl).trans ((set rfl).trans (set rfl))
    · rfl
  rw [State.noteEvent_eq]
  exact severe.trans (core_eventWindow.trans ((set rfl).trans (first.trans (hist.trans (core_satFld unitBlk_ne_fb)))))

theorem core_recordEvent {inj : Bool} : (s.recordEvent k i src detail inj).core = s.core := by
  unfold State.recordEvent
  split
  · rfl
  · split
    · exact core_errMsg.trans core_noteEvent
    · exact core_noteEvent

/-! ## Routers that lose a port -/

theorem core_slotDone {c : CombSlot} : (s.slotDone slot c).core = s.core := by
  unfold State.slotDone
  split
  · rfl
  · dsimp only
    split <;> rfl

theorem core_slotAnswer {c : CombSlot} {counts : List Nat} : (s.slotAnswer slot c port counts).core = s.core := core_slotDone.trans rfl

theorem core_combFenced : (s.combFenced slot port).core = s.core := core_foldl (fun _ _ => core_slotAnswer) _ _

theorem core_redFenced : (s.redFenced slot port).core = s.core := by
  refine core_foldl (fun s r => ?_) _ _
  rfl

theorem core_repairFenced : s.repairFenced.core = s.core := kept_setFld rfl

theorem core_segFail {seg status : Nat} : (s.segFail slot seg status).core = s.core := by
  unfold State.segFail
  split
  · rfl
  · split
    · rfl
    · exact core_log.trans rfl

theorem core_segFence {seg : Nat} : (s.segFence slot seg).core = s.core := by
  unfold State.segFence
  split
  · rfl
  · split
    · rfl
    · exact core_segFail.trans rfl

theorem core_portGone {note : State → State} (h : ∀ s, (note s).core = s.core) : (s.portGone note slot port).core = s.core := by
  have seg {x : State} {c : Prop} [Decidable c] {seg : Nat} : (if c then x else x.segFail slot seg stTARGET_FENCED).core = x.core := by
    split
    · rfl
    · exact core_segFail
  unfold State.portGone
  extract_lets s₁ r hit curHit wait s₂ quiet s₃
  have e₁ : s₁.core = s.core := core_redFenced.trans core_combFenced
  have e₂ : s₂.core = s.core := by
    dsimp only [s₂]
    split
    · exact (h _).trans e₁
    · exact e₁
  have e₃ : s₃.core = s.core := by
    dsimp only [s₃, quiet]
    split
    · exact seg.trans ((h _).trans e₂)
    · exact e₂
  split
  · split
    · exact e₃
    · exact seg.trans ((h _).trans e₃)
  · exact e₃

/-! ## The parity of an NI and its events -/

theorem core_niParity : (s.niParity i).core = s.core := by
  unfold State.niParity
  extract_lets e s₁ s₂ was s₃
  have e₁ : s₁.core = s.core := (core_setFld (by decide)).trans ((core_setFld (by decide)).trans rfl)
  have e₃ : s₃.core = s₁.core := by
    dsimp only [s₃]
    split
    · rfl
    · have e₂ : s₂.core = s₁.core := core_freezeLog.trans (core_setFld (by decide))
      split
      · exact core_repairFenced.trans ((core_portGone fun _ => core_recordEvent).trans e₂)
      · exact e₂
  exact core_errMsg.trans (e₃.trans e₁)

theorem core_niEvent : (s.niEvent i src detail).core = s.core := by
  unfold State.niEvent
  dsimp only
  split
  · exact core_niParity.trans core_recordEvent
  · exact core_recordEvent

theorem core_fencedPort : (s.fencedPort slot port).core = s.core := core_portGone fun _ => core_niEvent

/-! ## Flits that are flushed -/

theorem core_flushCount {n : Nat} : (s.flushCount k i src n).core = s.core := by
  unfold State.flushCount
  split
  · rfl
  · exact (core_satFld unitBlk_ne_fb).trans core_recordEvent

theorem core_flushSeen {a : Attach ⊕ Nat} {flits packets : Nat} : (s.flushSeen a flits packets).core = s.core := by
  unfold State.flushSeen
  split
  · split
    · rfl
    · dsimp only
      split
      · exact core_niEvent
      · exact core_segFence.trans core_niEvent
  · split
    · rfl
    · split
      · exact core_flushCount
      · exact core_flushCount
      · exact core_flushCount
      · rfl

theorem core_flushCrossing : (s.flushCrossing slot port).core = s.core := by
  unfold State.flushCrossing
  split
  · rfl
  · split
    · rfl
    · exact core_flushSeen.trans rfl

theorem core_flushDead : (s.flushDead slot port).core = s.core := by
  unfold State.flushDead
  split
  · split
    · rfl
    · exact core_flushSeen.trans rfl
  · dsimp only
    split
    · rfl
    · exact core_flushSeen.trans rfl

end

end Sys2Proof.Machine

/-! # What fenced islands and transfers that end leave alone -/

namespace Sys2Proof.Machine

section

variable {s t : State} {k : UnitKind} {i ni id src detail slot port status : Nat}

theorem core_fenceSides : (s.fenceSides slot).core = s.core := by
  refine core_foldl (fun s p => ?_) _ _
  split
  · exact core_flushDead
  · exact core_fencedPort.trans core_flushDead

theorem core_fenceF1 : (s.fenceF1 slot).core = s.core := by
  unfold State.fenceF1
  split
  · exact core_repairFenced.trans (core_fencedPort.trans rfl)
  · rfl

theorem core_dropIslands {p : Nat → Bool} : (s.dropIslands p).core = s.core := rfl

/-- A reset of registers of islands leaves the states of the bundles. -/
theorem core_resetRegs {p : RegDef → Nat → Bool} (island : ∀ r j, p r j = true → r.dom = .island) : (s.resetRegs p).core = s.core := by
  refine kept_regs fun off d mem => ?_
  have stays : (match locate off with
      | some (r, j, _) => !(p r j)
      | none => false) = true := by
    simp only [bundleWord, Bool.or_eq_true, beq_iff_eq] at mem
    have at_ : ∃ m, locate off = some (FB_BUNDLE_STATE, 0, m) := by
      rcases mem with rfl | rfl
      · exact ⟨0, by decide +kernel⟩
      · exact ⟨1, by decide +kernel⟩
    obtain ⟨m, e⟩ := at_
    rw [e]
    cases h : p FB_BUNDLE_STATE 0 with
    | false => simp only [h, Bool.not_false]
    | true => exact absurd (island _ _ h) (by decide)
  exact (SMap.get_filter s.regs (fun o => match locate o with
    | some (r, j, _) => !(p r j)
    | none => false) off d).trans (if_pos stays)

theorem core_fenceF2 : (s.fenceF2 slot).core = s.core := by
  have island (r : RegDef) (j : Nat) (h : islandReg slot r j = true) : r.dom = .island := by
    simp only [islandReg, Bool.and_eq_true, beq_iff_eq] at h
    exact h.1.1
  unfold State.fenceF2
  split
  · rfl
  · exact core_repairFenced.trans (core_dropIslands.trans ((core_resetRegs island).trans (core_fenceSides.trans rfl)))

theorem core_islandParity : (s.islandParity k i).core = s.core := by
  have set {x : State} {f : Fld} {v m : Nat} (blk : f.reg.blk = k.blk) : (x.setFld f v i m).core = x.core :=
    core_setFld (blk ▸ unitBlk_ne_fb)
  unfold State.islandParity
  split
  · exact core_niParity
  · dsimp only
    refine core_errMsg.trans ?_
    have armed : ((((s.setEu k i { s.eu k i with parityArmed := false, met := false }).setFld (xx_ERR_INJECT_ARM k) 0 i).setFld
      (xx_ERR_STATUS_SELF_PARITY k) 1 i)).core = s.core := (set rfl).trans ((set rfl).trans rfl)
    split
    · exact armed
    · exact core_fenceF2.trans ((set rfl).trans armed)

theorem core_report : (s.report k i src detail).core = s.core := by
  unfold State.report
  dsimp only
  split
  · exact core_islandParity.trans core_recordEvent
  · exact core_recordEvent

theorem core_niCause {f : Fld} (blk : f.reg.blk ≠ .fb) : (s.niCause ni f src detail).core = s.core := core_report.trans (core_setFld blk)

/-! ## Transfers -/

theorem core_finish : (s.finish id status).core = s.core := kept_finish bundleWord_below
theorem core_complete {count lo : Nat} : (s.complete id status count lo detail).core = s.core := kept_complete bundleWord_below
theorem core_delTx {txn : Nat} : (s.delTx src txn).core = s.core := kept_delTx bundleWord_below
theorem core_waitFree {kind obj tag : Nat} : (s.waitFree ni kind obj tag).core = s.core := kept_waitFree bundleWord_below

theorem core_updXfer {f : Xfer → Xfer} : (s.updXfer id f).core = s.core := rfl

theorem core_issueReads {x : Xfer} : (s.issueReads x).core = s.core := by
  refine core_foldl (fun s j => ?_) _ _
  dsimp only
  split
  · rfl
  · split
    · split <;> rfl
    · rfl

theorem core_formWrites : (s.formWrites id).core = s.core := by
  unfold State.formWrites
  split
  · rfl
  · split
    · rfl
    · refine core_foldl (fun s j => ?_) _ _
      dsimp only
      split
      · rfl
      · split
        · split
          · rfl
          · exact kept_enqueue.trans rfl
        · rfl

theorem core_stopXfer : (s.stopXfer id).core = s.core := by
  unfold State.stopXfer
  split
  · rfl
  · exact core_updXfer.trans kept_unqueue

theorem core_returnUnused {x : Xfer} : (s.returnUnused x).core = s.core := by
  unfold State.returnUnused
  dsimp only
  split <;> rfl

theorem core_endXfer : (s.endXfer id).core = s.core := by
  unfold State.endXfer
  split
  · rfl
  · extract_lets st returned left
    have e : left.core = s.core := Eq.trans rfl (core_delTx.trans core_returnUnused)
    split
    · exact core_complete.trans e
    · split
      · exact core_finish.trans e
      · exact core_complete.trans e
    · exact core_finish.trans e

theorem core_pump : (s.pump id).core = s.core := by
  unfold State.pump
  split
  · rfl
  · extract_lets read_ formed
    have e₁ : read_.core = s.core := by
      dsimp only [read_]
      split
      · rfl
      · exact core_issueReads
    have e₂ : formed.core = s.core := core_formWrites.trans e₁
    split
    · exact e₂
    · split
      · split
        · exact Eq.trans rfl e₂
        · split
          · exact e₂
          · exact core_endXfer.trans e₂
      · exact e₂

theorem core_failXfer : (s.failXfer id status).core = s.core := core_pump.trans (core_stopXfer.trans rfl)

theorem core_partDone {j : Nat} : (s.partDone id j status).core = s.core := core_pump.trans rfl

/-! ## Signal lines and transactions that end -/

theorem core_sigPump : (s.sigPump ni).core = s.core := by
  unfold State.sigPump
  extract_lets live ws used lines
  refine (core_foldl (fun s w => ?_) _ _).trans rfl
  dsimp only
  split <;> rfl

theorem core_endSigWaits {ten : Nat} {p : Nat → Bool} : (s.endSigWaits ni ten p status).core = s.core := by
  unfold State.endSigWaits
  extract_lets hit ws left
  refine core_sigPump.trans ((core_foldl (fun s w => ?_) _ _).trans rfl)
  dsimp only
  refine core_finish.trans ?_
  split
  · exact core_log.trans (core_waitFree.trans core_traceRec)
  · rfl

theorem core_ringCause {o cause : Nat} : (s.ringCause ni o cause).core = s.core := by
  have ring {x : State} {f : Fld} (reg : f.reg = FB_RING_CFG) : (x.setFld f 1 0 o).core = x.core :=
    kept_setFld (bundleWord_high (by rw [reg]; simp only [RegDef.addr, FB_RING_CFG, Blk.base]; omega))
  unfold State.ringCause
  dsimp only
  refine core_report.trans ?_
  split
  · split
    · exact ring rfl
    · exact ring rfl
  · exact core_setFld (by decide)

theorem core_txEnd {o : OTx} : (s.txEnd o status).core = s.core := by
  unfold State.txEnd
  extract_lets gone
  have e : gone.core = s.core := core_delTx
  split
  · exact core_partDone.trans e
  · split
    · dsimp only
      refine core_failXfer.trans (Eq.trans ?_ e)
      split <;> rfl
    · exact e
  · exact core_failXfer.trans (core_updXfer.trans (core_stopXfer.trans e))
  · exact core_finish.trans e
  · exact core_finish.trans e
  · exact core_finish.trans e
  · exact e
  · exact e
  · exact (core_niCause (by decide)).trans e
  · exact core_endSigWaits.trans (Eq.trans rfl e)
  · split
    · exact Eq.trans rfl e
    · exact (core_niCause (by decide)).trans (Eq.trans rfl e)
  · exact (core_addFld (by decide)).trans (Eq.trans rfl e)
  · split
    · exact kept_readRecord.trans (core_ringCause.trans (Eq.trans rfl e))
    · exact core_ringCause.trans (Eq.trans rfl e)
  · exact core_ringCause.trans (Eq.trans rfl e)
  · exact Eq.trans rfl e

theorem core_chipsLost {nis chips : Nat → Bool} : (s.chipsLost nis chips).core = s.core := by
  refine core_foldl (fun s o => ?_) _ _
  split
  · exact core_txEnd
  · rfl

end

end Sys2Proof.Machine

/-! # Links and bundles that are lost: what they leave alone (R323, R334) -/

namespace Sys2Proof.Machine

section

variable {s t : State} {b n j : Nat}

/-- A register of the fabric at a fixed place away from FB_BUNDLE_STATE. -/
theorem core_setFb {f : Fld} {v : Nat} (apart : bundleWord (f.reg.addr 0 0) = false) : (s.setFld f v).core = s.core := kept_setFld apart

theorem core_setLink {st : Nat} : (s.setLink n st).core = s.core := by
  unfold State.setLink
  dsimp only
  split
  · rfl
  · exact core_log.trans (core_setFld (by decide))

theorem core_consortGone : (s.consortGone n).core = s.core := by
  unfold State.consortGone
  split
  · exact (core_setFb (by decide)).trans (core_setFb (by decide))
  · rfl

theorem core_countBundles : s.countBundles.core = s.core := core_setFb (by decide)

theorem core_parentLost : s.parentLost.core = s.core := by
  have lost : ({ s with chr := { s.chr with syncGot := s.time.c } }.setFld FB_SYNC_STATUS_LOST 1).core = s.core :=
    (core_setFb (by decide)).trans rfl
  unfold State.parentLost
  dsimp only
  split
  · exact (core_setFb (by decide)).trans ((core_setFb (by decide)).trans lost)
  · exact lost

theorem core_bundleEdges : (s.bundleEdges b).core = s.core := by
  refine core_foldl (fun s m => ?_) _ _
  dsimp only
  split
  · split <;> rfl
  · rfl

theorem SMap.get_map_at {α : Type} {m : SMap α} {f : Nat × α → Nat × α} {k : Nat} {d : α} (key : ∀ e, (f e).1 = e.1)
    (same : ∀ e, e.1 = k → f e = e) : SMap.get (m.map f) k d = m.get k d := by
  induction m with
  | nil => rfl
  | cons e m ih =>
    obtain ⟨v, head⟩ : ∃ v, f e = (e.1, v) := ⟨(f e).2, Prod.ext (key e) rfl⟩
    rw [List.map_cons]
    by_cases here : e.1 = k
    · rw [same e here, SMap.get, SMap.get, if_pos here, if_pos here]
    · rw [head, SMap.get, SMap.get, if_neg here, if_neg here, ih]

theorem core_clearReach {chips : Nat → Bool} : (s.clearReach chips).core = s.core := by
  unfold State.clearReach
  extract_lets clear regs
  refine core_chipsLost.trans (kept_regs fun off d mem => SMap.get_map_at (fun e => ?_) fun e own => ?_)
  · split
    · split <;> rfl
    · rfl
  · simp only [bundleWord, Bool.or_eq_true, beq_iff_eq] at mem
    have at_ : ∃ m, locate e.1 = some (FB_BUNDLE_STATE, 0, m) := by
      rcases mem with h | h <;> rw [own, h]
      · exact ⟨0, by decide +kernel⟩
      · exact ⟨1, by decide +kernel⟩
    obtain ⟨m, e'⟩ := at_
    rw [e']
    exact if_neg fun h => absurd h.1 (by decide)

/-! ## The states of the bundles -/

theorem bundleState_of_core (h : t.core = s.core) (hb : b < 32) : t.bundleState b = s.bundleState b := by
  have word : bundleWord (FB_BUNDLE_STATE.addr 0 (b / 16)) = true := by
    obtain e | e : b / 16 = 0 ∨ b / 16 = 1 := by omega
    · rw [e]; decide
    · rw [e]; decide
  exact congrArg (bits · (2 * (b % 16) + 1) (2 * (b % 16))) (State.rd_of_kept h word)

theorem bundleState_setBundle_same {v : Nat} (hv : v < 4) : (s.setBundle b v).bundleState b = v := by
  have word : setBits (s.rd FB_BUNDLE_STATE 0 (b / 16)) (2 * (b % 16) + 1) (2 * (b % 16)) v < 2 ^ 32 :=
    setBits_lt _ _ _ _ (s.rd_lt _ _ _) (by omega) (by omega)
  rw [State.bundleState, State.setBundle, State.rd_wr_same, Nat.mod_eq_of_lt word]
  refine bits_setBits_same _ _ _ _ ?_ (by omega)
  rw [show 2 * (b % 16) + 1 + 1 - 2 * (b % 16) = 2 by omega]
  exact hv

theorem bundleState_setBundle_ne {v : Nat} (other : j ≠ b) : (s.setBundle b v).bundleState j = s.bundleState j := by
  rw [State.bundleState, State.setBundle]
  by_cases same : j / 16 = b / 16
  · have word : setBits (s.rd FB_BUNDLE_STATE 0 (b / 16)) (2 * (b % 16) + 1) (2 * (b % 16)) v < 2 ^ 32 :=
      setBits_lt _ _ _ _ (s.rd_lt _ _ _) (by omega) (by omega)
    rw [same, State.rd_wr_same, Nat.mod_eq_of_lt word, bits_setBits_ne _ _ _ _ _ _ (by omega) (by omega), ← same]
    rfl
  · rw [State.rd_wr_ne _ _ _ _ _ _ _ _ ?_]
    · rfl
    · simp only [RegDef.addr, FB_BUNDLE_STATE]
      omega

/-- A bundle that is lost is DOWN, and no other bundle changes (R334). -/
theorem bundleState_bundleLost (hj : j < 32) : (s.bundleLost b).bundleState j = if j = b then 2 else s.bundleState j := by
  unfold State.bundleLost
  extract_lets edges held down clear counted
  have before : held.core = s.core := by
    refine (core_foldl (fun s m => ?_) _ _).trans core_bundleEdges
    refine (core_setFld (by decide)).trans (Eq.trans rfl ?_)
    split
    · exact core_consortGone.trans core_setLink
    · rfl
  have after : counted.core = down.core := core_countBundles.trans core_clearReach
  have all : (if counted.fld FB_SYNC_STATUS_PARENT = b then counted.parentLost else counted).core = down.core := by
    split
    · exact core_parentLost.trans after
    · exact after
  rw [bundleState_of_core all hj]
  split
  · next own => rw [own]; exact bundleState_setBundle_same (by decide)
  · next other => exact (bundleState_setBundle_ne other).trans (bundleState_of_core before hj)

/-! ## HOLD_ALL (R323) -/

/-- Every bundle of a list that is in use goes DOWN. -/
def State.bundlesHeld (s : State) (l : List Nat) : State :=
  l.foldl (fun s b => if s.bundleState b = 1 then s.bundleLost b else s.setBundle b 2) s

theorem bundleState_bundlesHeld {l : List Nat} (hj : j < 32) :
    (s.bundlesHeld l).bundleState j = if j ∈ l then 2 else s.bundleState j := by
  induction l generalizing s with
  | nil => rfl
  | cons b l ih =>
    have step : (if s.bundleState b = 1 then s.bundleLost b else s.setBundle b 2).bundleState j = if j = b then 2 else s.bundleState j := by
      split
      · exact bundleState_bundleLost hj
      · split
        · next own => rw [own]; exact bundleState_setBundle_same (by decide)
        · next other => exact bundleState_setBundle_ne other
    rw [State.bundlesHeld, List.foldl_cons, ← State.bundlesHeld, ih, step]
    by_cases tail : j ∈ l
    · rw [if_pos tail, if_pos (List.mem_cons_of_mem _ tail)]
    · rw [if_neg tail]
      simp only [List.mem_cons, tail, or_false]

/-- What HOLD_ALL does after the bundles have gone DOWN leaves their states. -/
theorem core_holdAll : s.holdAll.core = (s.bundlesHeld ((List.range 32).filter fun b => s.bundleState b != 0)).core := by
  unfold State.holdAll
  refine core_countBundles.trans (core_clearReach.trans ((core_foldl (fun s m => ?_) _ _).trans rfl))
  dsimp only
  refine (core_setFld (by decide)).trans (Eq.trans rfl ?_)
  split
  · rfl
  · exact core_consortGone.trans core_setLink

theorem bundleState_holdAll (hj : j < 32) : s.holdAll.bundleState j ≠ 1 := by
  rw [bundleState_of_core core_holdAll hj, bundleState_bundlesHeld hj]
  split
  · decide
  · next out =>
    intro up
    exact out (List.mem_filter.mpr ⟨List.mem_range.mpr hj, by rw [up]; rfl⟩)

end

end Sys2Proof.Machine

/-! # Sync and discovery (R321, R323, R324, R327 to R330): the proof of SyncAndDiscoverySettleLinks -/

namespace Sys2Proof.Machine

section

variable {s t x : State} {n c ofs v k : Nat} {kids : List Nat} {th : Int}

/-! ## A SYNC that arrives (R327, R328, R329) -/

theorem givesTime_sync (hn : n < 32) (hc : c < 2 ^ 60) (hofs : ofs < 4096)
    (h : (if s.taking n = true then s.syncIn n c ofs else s) = t) : GivesTime (.sync n c ofs) s t :=
  GivesTime.of_runTime (exec_sync n c ofs s) (by simp only [Instr.wf, okOl, hn, hc, hofs, decide_true, Bool.and_self]) h

/-- θ as a SYNC leaves it. -/
def State.thetaNoted (s : State) (n : Nat) (th : Int) : State :=
  let y := s.stamped (domOf .ol n)
  let u := { y with chr := { y.chr with syncGot := y.time.c } }
  ({ u with plan := { u.plan with theta := th } }.setFld FB_SYNC_STATUS_THETA (sat12 th)).setFld FB_SYNC_STATUS_LOCKED
    (b2n (decide (-16 ≤ th ∧ th ≤ 16)))

theorem State.thetaNoted_keeps : (s.thetaNoted n th).plan.synced = s.plan.synced ∧ (s.thetaNoted n th).bnUp = s.bnUp ∧
    (s.thetaNoted n th).chart = s.chart := by
  have stamped (d : Nat) : (s.stamped d).plan = s.plan ∧ (s.stamped d).bnUp = s.bnUp ∧ (s.stamped d).chart = s.chart := by
    unfold State.stamped
    dsimp only
    split <;> exact ⟨rfl, rfl, rfl⟩
  obtain ⟨plan, up, chart⟩ := stamped (domOf .ol n)
  exact ⟨(congrArg Plan.synced plan :), up, chart⟩

/-- The first SYNC is past (R329). -/
def State.syncedOnce (x : State) (b : Bool) : State := { x with plan := { x.plan with synced := b } }

/-- The end of bring-up does not move time by itself. -/
def State.settled_ (x : State) : State := { x.tryReady with time := x.time }

def State.steps (x : State) (th : Int) : State :=
  { x with chr := { x.chr with syncStep := if 8 < th then some true else if th < -8 then some false else none } }

theorem State.syncIn_elsewhere (h : ¬ (s.linkState n = lsACTIVE ∧ s.fld FB_SYNC_STATUS_ROOT = 0 ∧ s.fld FB_SYNC_STATUS_PARENT = s.linkBundle n)) :
    s.syncIn n c ofs = s := by
  have root : s.fld FB_SYNC_STATUS_ROOT < 2 := s.fld_lt FB_SYNC_STATUS_ROOT 0 0
  refine if_pos ?_
  by_contra none_
  simp only [not_or, not_not, ne_eq] at none_
  exact h ⟨none_.1, by omega, none_.2.2⟩

theorem State.syncIn_eq (active : s.linkState n = lsACTIVE) (root : s.fld FB_SYNC_STATUS_ROOT = 0)
    (parent : s.fld FB_SYNC_STATUS_PARENT = s.linkBundle n) : s.syncIn n c ofs =
      if (!s.plan.synced && s.bnUp) = true ∧ (16 < s.thetaOf n c ofs ∨ s.thetaOf n c ofs < -16) ∧ s.noChart = true then
        (((s.thetaNoted n (s.thetaOf n c ofs)).syncedOnce (s.plan.synced || s.bnUp)).syncLoad n c ofs).settled_
      else (((s.thetaNoted n (s.thetaOf n c ofs)).syncedOnce (s.plan.synced || s.bnUp)).steps (s.thetaOf n c ofs)).settled_ := by
  obtain ⟨synced, up, chart⟩ := State.thetaNoted_keeps (s := s) (n := n) (th := s.thetaOf n c ofs)
  have none_ : (((s.thetaNoted n (s.thetaOf n c ofs)).syncedOnce
      ((s.thetaNoted n (s.thetaOf n c ofs)).plan.synced || (s.thetaNoted n (s.thetaOf n c ofs)).bnUp))).noChart = s.noChart :=
    congrArg (fun m : SMap (Option ChartRun) => m.all fun e => e.2.isNone) chart
  rw [← synced, ← up, ← none_]
  refine if_neg ?_
  rintro (other | one | other)
  · exact other active
  · omega
  · exact other parent

/-- A difference in sixteenths that fits its word is the difference itself. -/
theorem signedOf_wraps {z : Int} (low : -(2 ^ 63 : Int) ≤ z) (high : z < 2 ^ 63) : signedOf 64 (z % 2 ^ 64).toNat = z := by
  rw [signedOf]
  split <;> omega

/-! ## A SYNC that leaves, and its loss (R328, R330) -/

theorem gives_syncSend (hkids : ∀ k ∈ kids, k < 32) (h : (if s.sinceSync s.chr.syncSent < zeroAsOne (s.fld FB_SYNC_CFG_INTERVAL) then s
    else { s with chr := { s.chr with syncSent := s.time.c } }.syncOut kids) = t) : Gives (.syncSend kids) s t :=
  Gives.of_run (exec_syncSend kids s) (List.all_eq_true.mpr fun k mem => decide_eq_true (hkids k mem)) h

/-- The root sends its own time. -/
theorem State.syncOut_one {b m : Nat} (root : s.fld FB_SYNC_STATUS_ROOT = 1)
    (found : (s.bundleLinks b).find? (fun k => s.linkState k == lsACTIVE) = some m) : s.syncOut [b] = s.item m 0x07 s.time.c := by
  rw [State.syncOut, if_pos root]
  dsimp only [List.foldl_cons, List.foldl_nil]
  rw [found, Nat.zero_shiftLeft, Nat.add_zero]

theorem gives_syncLost (h : (if s.fld FB_SYNC_STATUS_ROOT = 1 ∨ s.fld FB_SYNC_STATUS_PARENT = 63 ∨
    s.sinceSync s.chr.syncGot < 64 * zeroAsOne (s.fld FB_SYNC_CFG_INTERVAL) then s else s.parentLost) = t) : Gives .syncLost s t :=
  Gives.of_run (exec_syncLost s) rfl h

theorem State.parentLost_spec (halt : s.plan.alt < 64) : s.parentLost.fld FB_SYNC_STATUS_LOST = 1 ∧
    s.RegsKept s.parentLost [FB_SYNC_STATUS.addr 0 0] ∧
    (s.plan.alt = 63 → s.parentLost.fld FB_SYNC_STATUS_PARENT = s.fld FB_SYNC_STATUS_PARENT) ∧
    (s.plan.alt ≠ 63 → s.parentLost.fld FB_SYNC_STATUS_PARENT = s.plan.alt ∧ s.parentLost.fld FB_SYNC_STATUS_ALT = 1) := by
  have own (y : State) (f : Fld) (w : Nat) (reg : f.reg = FB_SYNC_STATUS) : y.RegsKept (y.setFld f w) [FB_SYNC_STATUS.addr 0 0] :=
    State.regsKept_setFld f w 0 0 (by rw [reg]; exact List.mem_singleton_self _)
  have apart (y : State) (q g : Fld) (w : Nat) (reg : g.reg = q.reg) (order : q.lo ≤ q.hi) (top : q.hi < 32) (h : g.hi < q.lo ∨ q.hi < g.lo) :
      (y.setFld q w).fld g = y.fld g :=
    State.fld_setFld_apart y q g w 0 0 reg order top h.symm
  obtain ⟨y, noted, regs⟩ : ∃ y : State, { s with chr := { s.chr with syncGot := s.time.c } } = y ∧ y.regs = s.regs := ⟨_, rfl, rfl⟩
  have same (g : Fld) : y.fld g = s.fld g := by rw [State.fld, State.fld, State.rd, State.rd, regs]
  have kept : s.RegsKept y [FB_SYNC_STATUS.addr 0 0] := fun off d _ => by rw [regs]
  have lost : (y.setFld FB_SYNC_STATUS_LOST 1).fld FB_SYNC_STATUS_LOST = 1 :=
    State.fld_setFld_same y FB_SYNC_STATUS_LOST 1 0 0 (by decide) (by decide)
  unfold State.parentLost
  rw [noted]
  dsimp only
  have plan : (y.setFld FB_SYNC_STATUS_LOST 1).plan.alt = s.plan.alt := by rw [← noted]; rfl
  rw [plan]
  split
  · next other =>
    refine ⟨?_, kept.trans ((own _ _ _ rfl).trans ((own _ _ _ rfl).trans (own _ _ _ rfl))), fun none_ => absurd none_ other, fun _ => ⟨?_, ?_⟩⟩
    · exact (apart _ FB_SYNC_STATUS_ALT FB_SYNC_STATUS_LOST _ rfl (by decide) (by decide) (by decide)).trans
        ((apart _ FB_SYNC_STATUS_PARENT FB_SYNC_STATUS_LOST _ rfl (by decide) (by decide) (by decide)).trans lost)
    · exact (apart _ FB_SYNC_STATUS_ALT FB_SYNC_STATUS_PARENT _ rfl (by decide) (by decide) (by decide)).trans
        ((State.fld_setFld_same _ FB_SYNC_STATUS_PARENT _ 0 0 (by decide) (by decide)).trans (Nat.mod_eq_of_lt halt))
    · exact State.fld_setFld_same _ FB_SYNC_STATUS_ALT 1 0 0 (by decide) (by decide)
  · next none_ =>
    refine ⟨lost, kept.trans (own _ _ _ rfl), fun _ => ?_, fun other => absurd other none_⟩
    exact (apart _ FB_SYNC_STATUS_LOST FB_SYNC_STATUS_PARENT _ rfl (by decide) (by decide) (by decide)).trans (same _)

/-! ## Discovery (R323, R324) -/

theorem gives_discoveryJudge (h : (if s.bnUp = false then s else if s.fld FB_PLAN_STATUS_STATE = 1 then s.judge
    else if s.fld FB_PLAN_STATUS_STATE = 2 then s.judgeAgain else s) = t) : Gives .discoveryJudge s t :=
  Gives.of_run (exec_discoveryJudge s) rfl h

theorem gives_planCtrl (hv : v < 2 ^ 32) {d : Instr} (mem : d ∈ [Instr.discover v, .holdAll v]) (alive : s.regAlive (FB_PLAN_CTRL.addr 0 0) = true)
    (written : (s.serveWrite (FB_PLAN_CTRL.addr 0 0) v).setFld FB_PLAN_CTRL_HOLD_ALL (v % 2) = x)
    (h : (if bit v 1 then x.discover else if bit v 0 then x.holdAll else x) = t) : Gives d s t := by
  have one : bits v 0 0 = v % 2 := by rw [bits_eq_div (k := 1) v rfl, Nat.pow_zero, Nat.div_one, Nat.pow_one]
  have e : s.planCtrl v = t := by
    rw [State.planCtrl, State.regWrite, if_pos alive, one, written]
    exact h
  simp only [List.mem_cons, List.not_mem_nil, or_false] at mem
  rcases mem with rfl | rfl
  · exact Gives.of_run (exec_discover v s) (decide_eq_true hv) e
  · exact Gives.of_run (exec_holdAll v s) (decide_eq_true hv) e

/-- A plan is read and judged. -/
def State.planRead (y : State) (d : List Nat) : Option Nat → State
  | some c => { (y.setFld FB_PLAN_STATUS_STATE 3).setFld FB_PLAN_STATUS_CAUSE c with plan := {} }
  | none => { y with plan := planOf d }.startDiscovery

theorem State.discover_eq {d : List Nat} (sel : s.holdAll.fld FB_STRAP_PLAN_SEL = 0)
    (read_ : s.holdAll.hbmBytes (adBig (s.holdAll.pair FB_PLAN_LO FB_PLAN_HI)) 8192 = d) :
    s.discover = s.holdAll.planRead d (planCause s.holdAll.chipId d) := by
  rw [State.discover, if_neg (not_not.mpr sel), read_]
  dsimp only
  generalize planCause s.holdAll.chipId d = r
  cases r <;> rfl

/-- A plan that R323 refuses. -/
theorem State.planRead_refused {y : State} {d : List Nat} (hk : k < 8) : (y.planRead d (some k)).plan = {} ∧
    (y.planRead d (some k)).fld FB_PLAN_STATUS_STATE = 3 ∧ (y.planRead d (some k)).fld FB_PLAN_STATUS_CAUSE = k := by
  refine ⟨rfl, ?_, ?_⟩
  · exact (State.fld_setFld_apart _ FB_PLAN_STATUS_CAUSE FB_PLAN_STATUS_STATE k 0 0 rfl (by decide) (by decide) (by decide)).trans
      (State.fld_setFld_same y FB_PLAN_STATUS_STATE 3 0 0 (by decide) (by decide))
  · exact (State.fld_setFld_same _ FB_PLAN_STATUS_CAUSE k 0 0 (by decide) (by decide)).trans (Nat.mod_eq_of_lt hk)

end

/-- Settles O38: the states of the bundles follow from what each step of HOLD_ALL leaves alone. -/
theorem syncAndDiscoverySettleLinks : Obligations.SyncAndDiscoverySettleLinks := by
  unfold Obligations.SyncAndDiscoverySettleLinks
  intro s n c ofs v kids hn hc hofs hv hkids
  extract_lets mine th y chr u interval since chr' sent plan x plan' w settles first
  have arrives {t : State} := givesTime_sync (s := s) (t := t) hn hc hofs
  have sends {t : State} := gives_syncSend (s := s) (t := t) hkids
  refine ⟨fun other => arrives ?_, fun own later => ?_, fun own isFirst => ?_, fun own low high => signedOf_wraps low high,
    fun early => sends (if_pos early), fun due => sends (if_neg (not_lt.mpr due)), fun b m due one found root => ?_,
    fun quiet => gives_syncLost (if_pos quiet), fun root parent due halt => ?_, fun idle => gives_discoveryJudge ?_,
    fun judged up => gives_discoveryJudge ?_, fun fresh up => gives_discoveryJudge ?_, fun alive d mem => ?_,
    fun b hb _ => bundleState_holdAll hb, fun sel k cause hk => ?_⟩
  · split
    · next taking => exact State.syncIn_elsewhere fun h => other ⟨taking, h⟩
    · rfl
  · obtain ⟨taking, active, root, parent⟩ := own
    refine arrives ((if_pos taking).trans ((State.syncIn_eq active root parent).trans (if_neg fun h => later ?_)))
    obtain ⟨flags, far, noChart⟩ := h
    simp only [Bool.and_eq_true, Bool.not_eq_true'] at flags
    exact ⟨flags.1, far, noChart, flags.2⟩
  · obtain ⟨taking, active, root, parent⟩ := own
    obtain ⟨unsynced, far, noChart, up⟩ := isFirst
    refine arrives ((if_pos taking).trans ((State.syncIn_eq active root parent).trans (if_pos ⟨?_, far, noChart⟩)))
    rw [unsynced, up]
    rfl
  · rw [one]
    exact (gives_syncSend (one ▸ hkids) (if_neg (not_lt.mpr due))).congr (State.syncOut_one (s := sent) root found)
  · refine (gives_syncLost (if_neg ?_)).does (State.parentLost_spec halt)
    rintro (isRoot | none_ | early)
    · omega
    · exact parent none_
    · exact absurd due (not_le.mpr early)
  · split
    · rfl
    · next up =>
      obtain ⟨notFresh, notJudged⟩ := idle.resolve_right up
      rw [if_neg notFresh, if_neg notJudged]
  · rw [if_neg (ne_false_of_eq_true up), if_neg (by omega), if_pos judged]
  · rw [if_neg (ne_false_of_eq_true up), if_pos fresh]
  · have gives {t : State} := gives_planCtrl (s := s) (t := t) hv mem alive rfl
    obtain ⟨zeroth, first_⟩ := bit_low v
    rw [zeroth, first_] at gives
    simp only [decide_eq_true_eq] at gives
    refine ⟨fun one => gives (if_pos one), fun zero one => gives ?_, fun zero => gives ?_⟩
    · rw [if_neg (by omega), if_pos one]
    · rw [if_neg (by omega), if_neg (by omega)]
  · rw [State.discover_eq sel rfl, cause]
    exact State.planRead_refused hk

end Sys2Proof.Machine

/-! # What the ROM does (R397, R406, R413, R416) -/

namespace Sys2Proof.Machine

section

variable {s t y : State} {flash cause v k : Nat} {img : List Nat}

/-- What booting leaves alone, of all that is not a register. -/
def State.outside (s : State) : (Chrono × ChrCtl × Memory × Memory × Memory) × Pins × List Flight × List Desc :=
  ((s.time, s.chr, s.hbm, s.spad, s.flash), s.pins, s.net, s.descs)

/-! ## An entry of the log while fewer than 256 wait -/

theorem State.bnLog_waits {ty kind unit : Nat} {data : List Nat} (room : s.bn.waiting.length < 256) :
    (s.bnLog ty kind unit data).regs = s.regs ∧ (s.bnLog ty kind unit data).outside = s.outside ∧
      (s.bnLog ty kind unit data).bnUp = s.bnUp ∧ (s.bnLog ty kind unit data).bn.inbox = s.bn.inbox ∧
      (s.bnLog ty kind unit data).bn.waiting.length = s.bn.waiting.length + 1 := by
  have far : ¬ (62 : Nat) < 36 := by decide
  unfold State.bnLog State.stamped State.outside
  rw [if_neg (not_le.mpr room)]
  simp only [if_neg far]
  split <;> exact ⟨rfl, rfl, rfl, rfl, List.length_append⟩

theorem State.bnLog_as {ty : Nat} {data : List Nat} (empty : s.bn.waiting = []) : ∃ z, s.bnLog ty 0 0 data = z ∧ z.regs = s.regs ∧
    z.outside = s.outside ∧ z.bnUp = s.bnUp ∧ z.bn.waiting.length ≤ 1 := by
  obtain ⟨regs, out, up, -, few⟩ := State.bnLog_waits (s := s) (ty := ty) (kind := 0) (unit := 0) (data := data) (by rw [empty]; decide)
  rw [empty] at few
  exact ⟨_, rfl, regs, out, up, few.le⟩

/-! ## The steps of the ROM -/

/-- The sequence, the boots and the place of the log go on from its newest entry. -/
def Stolrel.resumed (b : Stolrel) (last : Option (Nat × Nat × Nat)) : Stolrel :=
  { b with
    seq := match last with | some l => l.1 + 1 | none => b.seq
    boots := match last with | some l => max b.boots l.2.1 | none => b.boots
    logNext := match last with | some l => (l.2.2 + 1) % logEntries | none => b.logNext }

/-- The log has been searched. -/
def State.searched (s : State) : State := (s.modBn (Stolrel.resumed · s.logNewest)).setFld BN_STATE_PENDING 0

/-- Stolrel starts from an image that passes. -/
def State.started_ (y : State) (img : List Nat) : State :=
  ((y.modBn fun b => { b with version := imgWord img 1, svn := imgSvn img }).setPair BN_FW_VERSION_LO BN_FW_VERSION_HI (imgWord img 1)).setFld
    BN_STATE_FAIL_CAUSE 0

def State.running (y : State) : State := { y.modBn fun b => { b with halted := [] } with bnUp := true }

/-- Why the ROM refuses an image, or 0. -/
def State.romCause (s : State) (flash : Nat) : Nat :=
  if flash = 1 then 1 else if flash = 2 then 6 else imageCause s.fuse.keyDigest s.svnNow s.slotImage

theorem State.romBoot_eq (unarmed : s.fld (xx_ERR_INJECT_ARM .bn) = 0) : s.romBoot flash =
    if s.romCause flash ≠ 0 then (s.searched.recovery (s.romCause flash) flash, false)
    else ((s.searched.started_ s.slotImage).running.sendPending.bnLog 0x01 0 0 [(s.searched.started_ s.slotImage).running.rd BN_STATE], true) := by
  have clean : s.injCheck .bn 0 [2, 3] = (none, s) := State.injCheck_of_unarmed _ unarmed
  unfold State.romBoot
  rw [clean]
  dsimp only
  rfl

theorem imageCause_le {digest svn : Nat} {d : List Nat} : imageCause digest svn d ≤ 7 := by
  unfold imageCause
  dsimp only
  split_ifs <;> decide

theorem State.romCause_lt : s.romCause flash < 16 := by
  have low := imageCause_le (digest := s.fuse.keyDigest) (svn := s.svnNow) (d := s.slotImage)
  unfold State.romCause
  split_ifs <;> omega

theorem ofBytes_lt (l : List Nat) : ofBytes l < 256 ^ l.length := by
  induction l with
  | nil => exact Nat.one_pos
  | cons b l ih =>
    have low := Nat.mod_lt b (y := 256) (by decide)
    rw [ofBytes, List.length_cons, Nat.pow_succ]
    omega

theorem imgWord_lt (d : List Nat) (i : Nat) : imgWord d i < 2 ^ 64 := by
  have short : (Sys2Proof.Machine.slice d (8 * i) 8).length ≤ 8 := List.length_take_le 8 _
  exact (ofBytes_lt _).trans_le ((Nat.pow_le_pow_right (by decide) short).trans (by decide))

/-! ## What each step writes -/

theorem State.regsKept_state {f : Fld} {w : Nat} (reg : f.reg = BN_STATE) : s.RegsKept (s.setFld f w) [BN_STATE.addr 0 0] :=
  State.regsKept_setFld f w 0 0 (by rw [reg]; exact List.mem_singleton_self _)

theorem State.state_apart (q g : Fld) {w : Nat} (reg : g.reg = q.reg) (order : q.lo ≤ q.hi) (top : q.hi < 32) (h : g.hi < q.lo ∨ q.hi < g.lo) :
    (s.setFld q w).fld g = s.fld g :=
  State.fld_setFld_apart s q g w 0 0 reg order top h.symm

theorem State.regsKept_searched : s.RegsKept s.searched [BN_STATE.addr 0 0] :=
  State.RegsKept.trans (t := s.modBn (Stolrel.resumed · s.logNewest)) .refl (State.regsKept_state rfl)

/-- The recovery loader starts. -/
def State.loading (s : State) (cause : Nat) : State :=
  ((s.setFld BN_STATE_STATE 1).setFld BN_STATE_FAIL_CAUSE cause).modBn fun b => { b with recv := 0, wave := 0 }

theorem State.loading_outside : (s.loading cause).outside = s.outside ∧ (s.loading cause).bnUp = s.bnUp ∧
    (s.loading cause).bn.inbox = s.bn.inbox ∧ (s.loading cause).bn.waiting = s.bn.waiting := ⟨rfl, rfl, rfl, rfl⟩

theorem State.loading_spec (small : cause < 16) : (s.loading cause).fld BN_STATE_STATE = 1 ∧
    (s.loading cause).fld BN_STATE_FAIL_CAUSE = cause ∧ (s.loading cause).fld BN_STATE_BOOT_CAUSE = s.fld BN_STATE_BOOT_CAUSE ∧
    s.RegsKept (s.loading cause) [BN_STATE.addr 0 0] := by
  have modBn (x : State) (f : Stolrel → Stolrel) (g : Fld) : (x.modBn f).fld g = x.fld g := rfl
  have first : s.RegsKept (s.setFld BN_STATE_STATE 1) [BN_STATE.addr 0 0] := State.regsKept_state rfl
  have then_ : (s.setFld BN_STATE_STATE 1).RegsKept ((s.setFld BN_STATE_STATE 1).setFld BN_STATE_FAIL_CAUSE cause) [BN_STATE.addr 0 0] :=
    State.regsKept_state rfl
  refine ⟨(modBn _ _ _).trans ?_, (modBn _ _ _).trans ?_, (modBn _ _ _).trans ?_, fun off d out => (first.trans then_) off d out⟩
  · exact (State.state_apart BN_STATE_FAIL_CAUSE BN_STATE_STATE rfl (by decide) (by decide) (by decide)).trans
      (State.fld_setFld_same s BN_STATE_STATE 1 0 0 (by decide) (by decide))
  · exact (State.fld_setFld_same _ BN_STATE_FAIL_CAUSE cause 0 0 (by decide) (by decide)).trans (Nat.mod_eq_of_lt small)
  · exact (State.state_apart BN_STATE_FAIL_CAUSE BN_STATE_BOOT_CAUSE rfl (by decide) (by decide) (by decide)).trans
      (State.state_apart BN_STATE_STATE BN_STATE_BOOT_CAUSE rfl (by decide) (by decide) (by decide))

theorem State.searched_keeps : s.searched.outside = s.outside ∧ s.searched.bn.waiting = s.bn.waiting ∧ s.searched.bn.inbox = s.bn.inbox ∧
    s.searched.err = s.err ∧ s.searched.bnUp = s.bnUp := ⟨rfl, rfl, rfl, rfl, rfl⟩

theorem State.searched_boot : s.searched.fld BN_STATE_BOOT_CAUSE = s.fld BN_STATE_BOOT_CAUSE :=
  (State.state_apart (s := s.modBn (Stolrel.resumed · s.logNewest)) BN_STATE_PENDING BN_STATE_BOOT_CAUSE rfl (by decide) (by decide)
    (by decide)).trans rfl

/-- What the recovery loader starts with (R416). -/
theorem State.recovery_spec (room : s.bn.waiting.length < 256) (small : cause < 16) :
    (s.recovery cause flash).fld BN_STATE_STATE = 1 ∧ (s.recovery cause flash).fld BN_STATE_FAIL_CAUSE = cause ∧
      (s.recovery cause flash).fld BN_STATE_BOOT_CAUSE = s.fld BN_STATE_BOOT_CAUSE ∧
      s.RegsKept (s.recovery cause flash) [BN_STATE.addr 0 0] ∧ (s.recovery cause flash).outside = s.outside ∧
      (s.recovery cause flash).bnUp = s.bnUp ∧ (s.recovery cause flash).bn.inbox = s.bn.inbox := by
  have eq : s.recovery cause flash = if flash = 0 then (s.loading cause).bnLog 0x09 0 0 [cause] else s.loading cause := rfl
  obtain ⟨state, fail, boot, kept⟩ := State.loading_spec (s := s) small
  obtain ⟨outside, up, inbox, waiting⟩ := State.loading_outside (s := s) (cause := cause)
  rw [eq]
  generalize s.loading cause = y at *
  split
  · obtain ⟨regs, out, upToo, inboxToo, -⟩ := State.bnLog_waits (s := y) (ty := 0x09) (kind := 0) (unit := 0) (data := [cause])
      (waiting.symm ▸ room)
    have same (g : Fld) : (y.bnLog 0x09 0 0 [cause]).fld g = y.fld g := by rw [State.fld, State.fld, State.rd, State.rd, regs]
    exact ⟨(same _).trans state, (same _).trans fail, (same _).trans boot, fun off d h => by rw [regs]; exact kept off d h, out.trans outside,
      upToo.trans up, inboxToo.trans inbox⟩
  · exact ⟨state, fail, boot, kept, outside, up, inbox⟩

theorem State.recovery_waiting (empty : s.bn.waiting = []) : (s.recovery cause flash).bn.waiting.length ≤ 1 := by
  have eq : s.recovery cause flash = if flash = 0 then (s.loading cause).bnLog 0x09 0 0 [cause] else s.loading cause := rfl
  have still : (s.loading cause).bn.waiting = [] := empty
  rw [eq]
  split
  · obtain ⟨z, e, -, -, -, few⟩ := State.bnLog_as (ty := 0x09) (data := [cause]) still
    rw [e]
    exact few
  · rw [still]
    exact Nat.zero_le _

theorem State.sendPending_none (none_ : s.err = []) : s.sendPending = s := by
  unfold State.sendPending
  rw [none_]
  rfl

theorem State.modBn_outside (f : Stolrel → Stolrel) : (s.modBn f).outside = s.outside := by
  rw [State.outside, State.outside]
  rfl

theorem State.setFld_outside (f : Fld) (v : Nat) : (s.setFld f v).outside = s.outside := by
  rw [State.outside, State.outside]
  rfl

theorem State.setPair_outside (lo hi : RegDef) (v : Nat) : (s.setPair lo hi v).outside = s.outside := by
  rw [State.outside, State.outside]
  rfl

theorem State.running_keeps : y.running.outside = y.outside ∧ y.running.bnUp = true ∧ y.running.bn.waiting = y.bn.waiting ∧
    y.running.err = y.err ∧ y.running.regs = y.regs := by
  rw [State.outside, State.outside]
  exact ⟨rfl, rfl, rfl, rfl, rfl⟩

theorem State.started_keeps : (s.started_ img).outside = s.outside ∧ (s.started_ img).bn.waiting = s.bn.waiting ∧ (s.started_ img).err = s.err := by
  unfold State.started_
  generalize imgWord img 1 = v
  exact ⟨(State.setFld_outside ..).trans ((State.setPair_outside ..).trans (State.modBn_outside _)), rfl, rfl⟩

theorem State.started_outside : (s.started_ img).running.outside = s.outside ∧ (s.started_ img).running.bnUp = true ∧
    (s.started_ img).running.bn.waiting = s.bn.waiting ∧ (s.started_ img).running.err = s.err ∧
    (s.started_ img).running.regs = (s.started_ img).regs := by
  obtain ⟨outside, up, waiting, err, regs⟩ := State.running_keeps (y := s.started_ img)
  obtain ⟨outsideToo, waitingToo, errToo⟩ := State.started_keeps (s := s) (img := img)
  exact ⟨outside.trans outsideToo, up, waiting.trans waitingToo, err.trans errToo, regs⟩

theorem State.started_regs : (s.started_ img).pair BN_FW_VERSION_LO BN_FW_VERSION_HI = imgWord img 1 ∧
    (s.started_ img).fld BN_STATE_FAIL_CAUSE = 0 ∧
    s.RegsKept (s.started_ img) [BN_STATE.addr 0 0, BN_FW_VERSION_LO.addr 0 0, BN_FW_VERSION_HI.addr 0 0] := by
  have low := imgWord_lt img 1
  unfold State.started_
  generalize imgWord img 1 = v at *
  obtain ⟨x, begun, same⟩ : ∃ x : State, s.modBn (fun b => { b with version := v, svn := imgSvn img }) = x ∧ x.regs = s.regs :=
    ⟨_, rfl, rfl⟩
  rw [begun]
  have kept : s.RegsKept x [BN_STATE.addr 0 0, BN_FW_VERSION_LO.addr 0 0, BN_FW_VERSION_HI.addr 0 0] := fun off d _ => by rw [same]
  have state {y : State} : y.RegsKept (y.setFld BN_STATE_FAIL_CAUSE 0) [BN_STATE.addr 0 0] := State.regsKept_state rfl
  refine ⟨?_, State.fld_setFld_same _ BN_STATE_FAIL_CAUSE 0 0 0 (by decide) (by decide), kept.trans (.trans (fun off d out => ?_) (state.mono ?_))⟩
  · exact (state.pair (by decide) (by decide)).trans (State.pair_setPair_same x BN_FW_VERSION_LO BN_FW_VERSION_HI v 0 0 (by decide) low)
  · simp only [List.mem_cons, List.not_mem_nil, or_false, not_or] at out
    exact State.regs_setPair_ne x BN_FW_VERSION_LO BN_FW_VERSION_HI v 0 0 off d (not_or.mpr out.2)
  · exact List.cons_subset_cons _ (List.nil_subset _)

/-- How Stolrel starts from an image (R406). -/
theorem State.started_spec (none_ : s.err = []) (room : s.bn.waiting = []) : ∃ y, (s.started_ img).running.sendPending.bnLog 0x01 0 0
    [(s.started_ img).running.rd BN_STATE] = y ∧ y.pair BN_FW_VERSION_LO BN_FW_VERSION_HI = imgWord img 1 ∧ y.fld BN_STATE_FAIL_CAUSE = 0 ∧
    y.bnUp = true ∧ s.RegsKept y [BN_STATE.addr 0 0, BN_FW_VERSION_LO.addr 0 0, BN_FW_VERSION_HI.addr 0 0] ∧ y.outside = s.outside ∧
    y.bn.waiting.length ≤ 1 := by
  obtain ⟨outside, up, waiting, err, same⟩ := State.started_outside (s := s) (img := img)
  obtain ⟨version, fail, kept⟩ := State.started_regs (s := s) (img := img)
  rw [State.sendPending_none (err.trans none_)]
  generalize (s.started_ img).running = x at *
  obtain ⟨z, e, regs, out, upToo, few⟩ := State.bnLog_as (s := x) (ty := 0x01) (data := [x.rd BN_STATE]) (waiting.trans room)
  have word (r : RegDef) : z.rd r = (s.started_ img).rd r := by rw [State.rd, State.rd, regs, same]
  refine ⟨z, e, ?_, ?_, upToo.trans up, fun off d h => ?_, out.trans outside, few⟩
  · exact (congrArg₂ (fun a b => a + b <<< 32) (word BN_FW_VERSION_LO) (word BN_FW_VERSION_HI)).trans version
  · rw [State.fld, word]
    exact fail
  · rw [regs, same]
    exact kept off d h

/-- Every region is out of its fences. -/
def State.unfenced (s : State) : State := (List.range 36).foldl (fun s r => s.modRg r fun g => { g with f3 := false }) { s with fence := {} }

theorem State.unfenced_keeps : s.unfenced.regs = s.regs ∧ s.unfenced.outside = s.outside ∧ s.unfenced.bnUp = s.bnUp ∧ s.unfenced.bn = s.bn :=
  foldl_keeps (P := fun x : State => x.regs = s.regs ∧ x.outside = s.outside ∧ x.bnUp = s.bnUp ∧ x.bn = s.bn) ⟨rfl, rfl, rfl, rfl⟩
    fun _ _ _ same => same

/-- The governor starts afresh. -/
def State.afresh (s : State) : State := s.rereadStretch.modBn fun b => { b with wave := 0, step9 := 0, lmap := [], g := [], calm := [] }

theorem State.afresh_keeps : s.afresh.regs = s.regs ∧ s.afresh.outside = s.outside ∧ s.afresh.bnUp = s.bnUp ∧
    s.afresh.bn.waiting = s.bn.waiting := ⟨rfl, rfl, rfl, rfl⟩

theorem State.bringUp_eq : s.bringUp = ((s.unfenced.setFld BN_STATE_STATE 2).setFld BN_STATE_STEP 2).afresh := rfl

/-- What bring-up begins with (R398). -/
theorem State.bringUp_spec : s.bringUp.fld BN_STATE_STATE = 2 ∧ s.bringUp.fld BN_STATE_STEP = 2 ∧
    s.bringUp.fld BN_STATE_FAIL_CAUSE = s.fld BN_STATE_FAIL_CAUSE ∧ s.RegsKept s.bringUp [BN_STATE.addr 0 0] ∧ s.bringUp.outside = s.outside ∧
    s.bringUp.bnUp = s.bnUp ∧ s.bringUp.bn.waiting = s.bn.waiting := by
  obtain ⟨regs, outside, up, bn⟩ := s.unfenced_keeps
  rw [State.bringUp_eq]
  generalize s.unfenced = x at *
  have first : x.RegsKept (x.setFld BN_STATE_STATE 2) [BN_STATE.addr 0 0] := State.regsKept_state rfl
  have then_ : (x.setFld BN_STATE_STATE 2).RegsKept ((x.setFld BN_STATE_STATE 2).setFld BN_STATE_STEP 2) [BN_STATE.addr 0 0] :=
    State.regsKept_state rfl
  have state : ((x.setFld BN_STATE_STATE 2).setFld BN_STATE_STEP 2).fld BN_STATE_STATE = 2 :=
    (State.state_apart BN_STATE_STEP BN_STATE_STATE rfl (by decide) (by decide) (by decide)).trans
      (State.fld_setFld_same x BN_STATE_STATE 2 0 0 (by decide) (by decide))
  have step : ((x.setFld BN_STATE_STATE 2).setFld BN_STATE_STEP 2).fld BN_STATE_STEP = 2 :=
    State.fld_setFld_same _ BN_STATE_STEP 2 0 0 (by decide) (by decide)
  have fail : ((x.setFld BN_STATE_STATE 2).setFld BN_STATE_STEP 2).fld BN_STATE_FAIL_CAUSE = x.fld BN_STATE_FAIL_CAUSE :=
    (State.state_apart BN_STATE_STEP BN_STATE_FAIL_CAUSE rfl (by decide) (by decide) (by decide)).trans
      (State.state_apart BN_STATE_STATE BN_STATE_FAIL_CAUSE rfl (by decide) (by decide) (by decide))
  have set : ((x.setFld BN_STATE_STATE 2).setFld BN_STATE_STEP 2).outside = x.outside ∧
      ((x.setFld BN_STATE_STATE 2).setFld BN_STATE_STEP 2).bnUp = x.bnUp ∧ ((x.setFld BN_STATE_STATE 2).setFld BN_STATE_STEP 2).bn = x.bn :=
    ⟨rfl, rfl, rfl⟩
  have kept := first.trans then_
  clear first then_
  generalize (x.setFld BN_STATE_STATE 2).setFld BN_STATE_STEP 2 = y at *
  obtain ⟨regsY, outsideY, upY, waitingY⟩ := y.afresh_keeps
  have same (g : Fld) : y.afresh.fld g = y.fld g := by rw [State.fld, State.fld, State.rd, State.rd, regsY]
  have sameX (g : Fld) : x.fld g = s.fld g := by rw [State.fld, State.fld, State.rd, State.rd, regs]
  obtain ⟨setOutside, setUp, setBn⟩ := set
  refine ⟨(same _).trans state, (same _).trans step, (same _).trans (fail.trans (sameX _)), fun off d h => ?_,
    outsideY.trans (setOutside.trans outside), upY.trans (setUp.trans up), ?_⟩
  · rw [regsY, kept off d h, regs]
  · rw [waitingY, setBn, bn]

end

end Sys2Proof.Machine

/-! # A COLD reset (R12, R369, R397, R406, R413, R416) -/

namespace Sys2Proof.Machine

section

variable {s t x : State} {chip sel flash : Nat} {unstable anchor : Bool}

/-- What a COLD reset leaves: the memories, the fuses and what Stolrel keeps of its boots. -/
def State.coldCore (s : State) (anchor : Bool) : State :=
  { fuse := s.fuse, flash := s.flash, hbm := s.hbm, spad := s.spad, fresh := s.fresh, pending := s.pending,
    pins := { anchorArmed := !anchor },
    bn := { boots := s.bn.boots, fuseSvn := s.bn.fuseSvn, seq := s.bn.seq, logNext := s.bn.logNext } }

/-- The straps are taken. -/
def State.strapped (x : State) (chip sel grade : Nat) : State :=
  ((x.setFld FB_STRAP_CHIP chip).setFld FB_STRAP_PLAN_SEL sel).setFld FB_ID_GRADE grade

def State.strapNoted (x : State) (unstable : Bool) : State := if unstable then x.setFld FB_INPUT_STATUS_STRAP_UNSTABLE 1 else x

def State.bootCounted (x : State) : State := (x.modBn fun b => { b with boots := b.boots + 1 }).setFld BN_STATE_STEP 1

def State.poweredOn (s : State) (chip sel : Nat) (unstable anchor : Bool) : State :=
  (((s.coldCore anchor).strapped chip sel s.fuse.grade).strapNoted unstable).bootCounted

/-- What the ROM leads to. -/
def State.booted (x : State) (flash : Nat) : State := if (x.romBoot flash).2 then (x.romBoot flash).1.bringUp else (x.romBoot flash).1

theorem State.coldReset_eq : s.coldReset chip sel unstable anchor flash =
    if (unstable && ((s.poweredOn chip sel unstable anchor).booted flash).bnUp) = true then
      ((s.poweredOn chip sel unstable anchor).booted flash).bnLog 0x0A 0 0
        [FB_STRAP.addr 0 0 <<< 32 + ((s.poweredOn chip sel unstable anchor).booted flash).rd FB_STRAP]
    else (s.poweredOn chip sel unstable anchor).booted flash := rfl

/-! ## The straps -/

theorem State.strapped_spec {grade : Nat} (hchip : chip < 4096) (hsel : sel < 8) :
    (x.strapped chip sel grade).fld FB_STRAP_CHIP = chip ∧ (x.strapped chip sel grade).fld FB_STRAP_PLAN_SEL = sel ∧
      x.RegsKept (x.strapped chip sel grade) [FB_STRAP.addr 0 0, FB_ID.addr 0 0] := by
  have id_ (y : State) (g : Fld) (own : g.reg = FB_STRAP) : (y.setFld FB_ID_GRADE grade).fld g = y.fld g :=
    State.fld_setFld_ne y FB_ID_GRADE g _ 0 0 0 0 (by rw [own]; decide)
  have first : x.RegsKept (x.setFld FB_STRAP_CHIP chip) [FB_STRAP.addr 0 0, FB_ID.addr 0 0] :=
    State.regsKept_setFld FB_STRAP_CHIP chip 0 0 (by decide)
  have then_ : (x.setFld FB_STRAP_CHIP chip).RegsKept ((x.setFld FB_STRAP_CHIP chip).setFld FB_STRAP_PLAN_SEL sel)
      [FB_STRAP.addr 0 0, FB_ID.addr 0 0] := State.regsKept_setFld FB_STRAP_PLAN_SEL sel 0 0 (by decide)
  have last (y : State) : y.RegsKept (y.setFld FB_ID_GRADE grade) [FB_STRAP.addr 0 0, FB_ID.addr 0 0] :=
    State.regsKept_setFld FB_ID_GRADE grade 0 0 (by decide)
  refine ⟨(id_ _ _ rfl).trans ?_, (id_ _ _ rfl).trans ?_, (first.trans then_).trans (last _)⟩
  · exact (State.state_apart FB_STRAP_PLAN_SEL FB_STRAP_CHIP rfl (by decide) (by decide) (by decide)).trans
      ((State.fld_setFld_same x FB_STRAP_CHIP chip 0 0 (by decide) (by decide)).trans (Nat.mod_eq_of_lt hchip))
  · exact (State.fld_setFld_same _ FB_STRAP_PLAN_SEL sel 0 0 (by decide) (by decide)).trans (Nat.mod_eq_of_lt hsel)

theorem State.strapNoted_spec (quiet : x.fld FB_INPUT_STATUS_STRAP_UNSTABLE = 0) :
    (x.strapNoted unstable).fld FB_INPUT_STATUS_STRAP_UNSTABLE = b2n unstable ∧ x.RegsKept (x.strapNoted unstable) [FB_INPUT_STATUS.addr 0 0] := by
  cases unstable with
  | true => exact ⟨State.fld_setFld_same x FB_INPUT_STATUS_STRAP_UNSTABLE 1 0 0 (by decide) (by decide),
      State.regsKept_setFld FB_INPUT_STATUS_STRAP_UNSTABLE 1 0 0 (List.mem_singleton_self _)⟩
  | false => exact ⟨quiet, .refl⟩

theorem State.regsKept_bootCounted : x.RegsKept x.bootCounted [BN_STATE.addr 0 0] := by
  have counted : x.RegsKept (x.modBn fun b => { b with boots := b.boots + 1 }) [BN_STATE.addr 0 0] := fun _ _ _ => rfl
  exact counted.trans (State.regsKept_setFld BN_STATE_STEP 1 0 0 (List.mem_singleton_self _))

/-- What stands as the ROM begins. -/
structure State.Fresh (s : State) (chip sel : Nat) (unstable anchor : Bool) (flash : Nat) (x : State) : Prop where
  outside : x.outside = (({}, {}, s.hbm, s.spad, s.flash), { anchorArmed := !anchor }, [], [])
  waiting : x.bn.waiting = []
  err : x.err = []
  bnUp : x.bnUp = false
  cause : x.romCause flash = s.romCause flash
  image : x.slotImage = s.slotImage
  chip : x.fld FB_STRAP_CHIP = chip
  sel : x.fld FB_STRAP_PLAN_SEL = sel
  unstable : x.fld FB_INPUT_STATUS_STRAP_UNSTABLE = b2n unstable
  regs : ∀ off d, off ∉ [FB_STRAP.addr 0 0, FB_ID.addr 0 0, FB_INPUT_STATUS.addr 0 0, BN_STATE.addr 0 0] → x.regs.get off d = d

theorem State.poweredOn_outside : (s.poweredOn chip sel unstable anchor).outside =
      (({}, {}, s.hbm, s.spad, s.flash), { anchorArmed := !anchor }, [], []) ∧
    (s.poweredOn chip sel unstable anchor).bn.waiting = [] ∧ (s.poweredOn chip sel unstable anchor).err = [] ∧
    (s.poweredOn chip sel unstable anchor).bnUp = false ∧ (s.poweredOn chip sel unstable anchor).romCause flash = s.romCause flash ∧
    (s.poweredOn chip sel unstable anchor).slotImage = s.slotImage := by
  cases unstable <;> exact ⟨rfl, rfl, rfl, rfl, rfl, rfl⟩

theorem State.fresh_poweredOn (hchip : chip < 4096) (hsel : sel < 8) :
    s.Fresh chip sel unstable anchor flash (s.poweredOn chip sel unstable anchor) := by
  obtain ⟨outside, waiting, err, bnUp, cause, image⟩ :=
    State.poweredOn_outside (s := s) (chip := chip) (sel := sel) (unstable := unstable) (anchor := anchor) (flash := flash)
  have nothing : (s.coldCore anchor).regs = [] := rfl
  unfold State.poweredOn at *
  generalize s.coldCore anchor = y₀ at *
  obtain ⟨chip_, sel_, kept₁⟩ := State.strapped_spec (x := y₀) (grade := s.fuse.grade) hchip hsel
  generalize y₀.strapped chip sel s.fuse.grade = y₁ at *
  have quiet : y₁.fld FB_INPUT_STATUS_STRAP_UNSTABLE = 0 :=
    (kept₁.fld (by decide)).trans ((State.fld_of_regs_nil nothing _ _ _).trans (by decide))
  obtain ⟨noted, kept₂⟩ := State.strapNoted_spec (unstable := unstable) quiet
  generalize y₁.strapNoted unstable = y₂ at *
  have kept₃ := State.regsKept_bootCounted (x := y₂)
  generalize y₂.bootCounted = y₃ at *
  refine ⟨outside, waiting, err, bnUp, cause, image, (kept₃.fld (by decide)).trans ((kept₂.fld (by decide)).trans chip_),
    (kept₃.fld (by decide)).trans ((kept₂.fld (by decide)).trans sel_), (kept₃.fld (by decide)).trans noted, fun off d out => ?_⟩
  simp only [List.mem_cons, List.not_mem_nil, or_false, not_or] at out
  obtain ⟨strap, id_, input, state⟩ := out
  rw [kept₃ off d (List.mem_singleton.not.mpr state), kept₂ off d (List.mem_singleton.not.mpr input), kept₁ off d (by simp [strap, id_]), nothing]
  rfl

/-! ## The boot -/

/-- What stands once the ROM is done. -/
structure State.Booted (x : State) (flash : Nat) (y : State) : Prop where
  outside : y.outside = x.outside
  waiting : y.bn.waiting.length ≤ 1
  regs : x.RegsKept y [BN_STATE.addr 0 0, BN_FW_VERSION_LO.addr 0 0, BN_FW_VERSION_HI.addr 0 0]
  refused : x.romCause flash ≠ 0 → y.bnUp = false ∧ y.fld BN_STATE_STATE = 1 ∧ y.fld BN_STATE_FAIL_CAUSE = x.romCause flash
  passed : x.romCause flash = 0 → y.bnUp = true ∧ y.fld BN_STATE_STATE = 2 ∧ y.fld BN_STATE_STEP = 2 ∧ y.fld BN_STATE_FAIL_CAUSE = 0 ∧
    y.pair BN_FW_VERSION_LO BN_FW_VERSION_HI = imgWord x.slotImage 1

theorem State.booted_spec (empty : x.bn.waiting = []) (err : x.err = []) (down : x.bnUp = false)
    (unarmed : x.fld (xx_ERR_INJECT_ARM .bn) = 0) : x.Booted flash (x.booted flash) := by
  have boot := State.romBoot_eq (flash := flash) unarmed
  obtain ⟨outside, waiting, -, errToo, bnUp⟩ := x.searched_keeps
  have kept := State.regsKept_searched (s := x)
  have small := State.romCause_lt (s := x) (flash := flash)
  generalize x.searched = y at *
  have grown : [BN_STATE.addr 0 0] ⊆ [BN_STATE.addr 0 0, BN_FW_VERSION_LO.addr 0 0, BN_FW_VERSION_HI.addr 0 0] :=
    List.cons_subset_cons _ (List.nil_subset _)
  unfold State.booted
  by_cases refused : x.romCause flash ≠ 0
  · rw [if_pos refused] at boot
    rw [boot]
    have room : y.bn.waiting.length < 256 := by rw [waiting, empty]; decide
    obtain ⟨state, fail, -, keptToo, outsideToo, upToo, -⟩ := State.recovery_spec (flash := flash) room small
    have few := State.recovery_waiting (cause := x.romCause flash) (flash := flash) (waiting.trans empty)
    refine ⟨outsideToo.trans outside, few, (kept.trans keptToo).mono grown, fun _ => ⟨upToo.trans (bnUp.trans down), state, fail⟩,
      fun zero => absurd zero refused⟩
  · rw [if_neg refused] at boot
    rw [boot]
    obtain ⟨z, e, version, fail, upToo, keptToo, outsideToo, few⟩ := State.started_spec (img := x.slotImage) (errToo.trans err) (waiting.trans empty)
    rw [e]
    obtain ⟨state, step, failKept, keptLast, outsideLast, upLast, waitingLast⟩ := State.bringUp_spec (s := z)
    refine ⟨outsideLast.trans (outsideToo.trans outside), waitingLast ▸ few, ((kept.mono grown).trans keptToo).trans (keptLast.mono grown),
      fun other => absurd other refused, fun _ => ⟨upLast.trans upToo, state, step, failKept.trans fail, ?_⟩⟩
    exact (keptLast.pair (by decide) (by decide)).trans version

/-- A COLD reset leaves the fresh state that its boot leads to. -/
theorem State.coldReset_spec (hchip : chip < 4096) (hsel : sel < 8) :
    let x := s.poweredOn chip sel unstable anchor
    ∃ y, x.Booted flash y ∧ (s.coldReset chip sel unstable anchor flash).regs = y.regs ∧
      (s.coldReset chip sel unstable anchor flash).outside = y.outside ∧ (s.coldReset chip sel unstable anchor flash).bnUp = y.bnUp := by
  intro x
  have fresh : s.Fresh chip sel unstable anchor flash x := State.fresh_poweredOn hchip hsel
  have unarmed : x.fld (xx_ERR_INJECT_ARM .bn) = 0 := by
    rw [State.fld, State.rd, fresh.regs _ _ (by decide)]
    decide
  have booted := State.booted_spec (flash := flash) fresh.waiting fresh.err fresh.bnUp unarmed
  refine ⟨x.booted flash, booted, ?_⟩
  have eq : s.coldReset chip sel unstable anchor flash = if (unstable && (x.booted flash).bnUp) = true then
      (x.booted flash).bnLog 0x0A 0 0 [FB_STRAP.addr 0 0 <<< 32 + (x.booted flash).rd FB_STRAP] else x.booted flash := State.coldReset_eq
  rw [eq]
  have room : (x.booted flash).bn.waiting.length < 256 := booted.waiting.trans_lt (by decide)
  generalize x.booted flash = y at *
  split
  · obtain ⟨regs, outside, up, -⟩ := State.bnLog_waits (s := y) (ty := 0x0A) (kind := 0) (unit := 0)
      (data := [FB_STRAP.addr 0 0 <<< 32 + y.rd FB_STRAP]) room
    exact ⟨regs, outside, up⟩
  · exact ⟨rfl, rfl, rfl⟩

theorem does_coldReset (hchip : chip < 4096) (hsel : sel < 8) (hflash : flash < 3) :
    Does (.coldReset chip sel unstable anchor flash) s fun t =>
      t.time = {} ∧ t.chr = {} ∧ t.hbm = s.hbm ∧ t.spad = s.spad ∧ t.flash = s.flash ∧ t.pins.anchorArmed = !anchor ∧ t.net = [] ∧
      t.descs = [] ∧ t.fld FB_STRAP_CHIP = chip ∧ t.fld FB_STRAP_PLAN_SEL = sel ∧
      t.fld FB_INPUT_STATUS_STRAP_UNSTABLE = b2n unstable ∧
      (∀ off x, off ∉ [FB_STRAP.addr 0 0, FB_ID.addr 0 0, FB_INPUT_STATUS.addr 0 0, BN_STATE.addr 0 0, BN_FW_VERSION_LO.addr 0 0,
        BN_FW_VERSION_HI.addr 0 0] → t.regs.get off x = x) ∧
      (s.romCause flash ≠ 0 → t.bnUp = false ∧ t.fld BN_STATE_STATE = 1 ∧ t.fld BN_STATE_FAIL_CAUSE = s.romCause flash) ∧
      (s.romCause flash = 0 → t.bnUp = true ∧ t.fld BN_STATE_STATE = 2 ∧ t.fld BN_STATE_STEP = 2 ∧ t.fld BN_STATE_FAIL_CAUSE = 0 ∧
        t.pair BN_FW_VERSION_LO BN_FW_VERSION_HI = imgWord s.slotImage 1) := by
  refine Does.of_runTime (exec_coldReset chip sel unstable anchor flash s)
    (by simp only [Instr.wf, hchip, hsel, hflash, decide_true, Bool.and_self]) ?_
  have fresh : s.Fresh chip sel unstable anchor flash (s.poweredOn chip sel unstable anchor) := State.fresh_poweredOn hchip hsel
  obtain ⟨y, booted, regs, outside, up⟩ := State.coldReset_spec (s := s) (unstable := unstable) (anchor := anchor) (flash := flash) hchip hsel
  generalize s.poweredOn chip sel unstable anchor = x at *
  generalize s.coldReset chip sel unstable anchor flash = z at *
  have out : z.outside = (({}, {}, s.hbm, s.spad, s.flash), { anchorArmed := !anchor }, [], []) :=
    outside.trans (booted.outside.trans fresh.outside)
  simp only [State.outside, Prod.mk.injEq] at out
  obtain ⟨⟨time, chr, hbm, spad, flash_⟩, pins, net, descs⟩ := out
  have word (r : RegDef) : z.rd r = y.rd r := by rw [State.rd, State.rd, regs]
  have same (g : Fld) : z.fld g = y.fld g := congrArg (bits · g.hi g.lo) (word g.reg)
  have kept {g : Fld} (away : g.reg.addr 0 0 ∉ [BN_STATE.addr 0 0, BN_FW_VERSION_LO.addr 0 0, BN_FW_VERSION_HI.addr 0 0]) :
      z.fld g = x.fld g := (same g).trans (booted.regs.fld away)
  refine ⟨time, chr, hbm, spad, flash_, congrArg Pins.anchorArmed pins, net, descs, (kept (by decide)).trans fresh.chip,
    (kept (by decide)).trans fresh.sel, (kept (by decide)).trans fresh.unstable, fun off d out => ?_, fun refused => ?_, fun passed => ?_⟩
  · simp only [List.mem_cons, List.not_mem_nil, or_false, not_or] at out
    obtain ⟨strap, id_, input, state, lo, hi⟩ := out
    have e : z.regs.get off d = d := by
      rw [regs, booted.regs off d (by simp [state, lo, hi]), fresh.regs off d (by simp [strap, id_, input, state])]
    exact e
  · obtain ⟨down, state, fail⟩ := booted.refused (fresh.cause.symm ▸ refused)
    exact ⟨up.trans down, (same _).trans state, (same _).trans (fail.trans fresh.cause)⟩
  · obtain ⟨running, state, step, fail, version⟩ := booted.passed (fresh.cause.symm ▸ passed)
    have pair : z.pair BN_FW_VERSION_LO BN_FW_VERSION_HI = y.pair BN_FW_VERSION_LO BN_FW_VERSION_HI :=
      congrArg₂ (fun a b => a + b <<< 32) (word _) (word _)
    rw [fresh.image] at version
    exact ⟨up.trans running, (same _).trans state, (same _).trans step, (same _).trans fail, pair.trans version⟩

end

end Sys2Proof.Machine

/-! # Resets of domains and clocks that are lost (R12, R302, R369, R432, R439, R440): the proof of ResetsStartTheirDomainsAfresh -/

namespace Sys2Proof.Machine

/-! ## Where the registers of an NI lie -/

/-- The register at a distance into a block. -/
def regAt (d : Nat) (r : RegDef) : Option (RegDef × Nat) :=
  let k := if r.count ≤ 1 then 0 else (d - r.off) / r.stride
  if r.off ≤ d ∧ k < r.count ∧ d = r.off + r.stride * k then some (r, k) else none

theorem locate_tnState {n : Nat} (hn : n < 2304) : locate (NI_TN_STATE.addr n 0) = some (NI_TN_STATE, n, 0) := by
  have off : NI_TN_STATE.addr n 0 = Blk.ni.base n + 0x1240 := rfl
  have d : Blk.ni.base n + 0x1240 - Blk.ni.base n = 0x1240 := Nat.add_sub_cancel_left _ _
  have found : (Blk.ni.regs.filterMap (regAt 0x1240)).head? = some (NI_TN_STATE, 0) := by decide +kernel
  have placed : (Blk.ni.regs.filterMap fun r => (regAt 0x1240 r).map fun e => (e.1, n, e.2)).head? = some (NI_TN_STATE, n, 0) := by
    rw [← List.map_filterMap, List.head?_map, found]
    rfl
  rw [locate, off, blockOf_at hn (by decide)]
  dsimp only
  rw [d, ← placed]
  refine congrArg (fun f => (Blk.ni.regs.filterMap f).head?) (funext fun r => ?_)
  unfold regAt
  dsimp only
  rw [apply_ite (Option.map fun e : RegDef × Nat => (e.1, n, e.2))]
  rfl

section

variable {s t x y : State} {n r l d flash off i k : Nat} {q : RegDef}

/-! ## Registers that a reset takes -/

theorem State.regs_resetRegs {p : RegDef → Nat → Bool} {w : W32} (at_ : locate off = some (q, i, k)) :
    (s.resetRegs p).regs.get off w = if p q i then w else s.regs.get off w := by
  refine (SMap.get_filter s.regs (fun o => match locate o with
    | some (r, j, _) => !(p r j)
    | none => false) off w).trans ?_
  rw [at_]
  change (if (!(p q i)) = true then s.regs.get off w else w) = _
  cases p q i <;> rfl

theorem locate_state : locate (BN_STATE.addr 0 0) = some (BN_STATE, 0, 0) := by decide +kernel

/-! ## A WARM reset -/

theorem State.bringUp_frame : ∃ regs rgn bn, s.bringUp = { s with fence := {}, regs := regs, rgn := rgn, bn := bn } := by
  obtain ⟨rgn, e⟩ : ∃ rgn, s.unfenced = { s with fence := {}, rgn := rgn } :=
    foldl_keeps (P := fun x : State => ∃ rgn, x = { s with fence := {}, rgn := rgn }) ⟨s.rgn, rfl⟩ fun x r _ same => by
      obtain ⟨rgn, rfl⟩ := same
      exact ⟨_, rfl⟩
  rw [State.bringUp_eq, e]
  exact ⟨_, _, _, rfl⟩

def warmReg (q : RegDef) (_ : Nat) : Bool := q.dom == .warm || q.dom == .region || q.dom == .island || q.dom == .link

/-- A WARM reset before bring-up begins. -/
def State.warmCore (s : State) : State :=
  { s.resetRegs warmReg with
    time := {}, chr := { tick := s.chr.tick },
    latch := [], rgn := s.rgn.map (fun e => (e.1, { f3 := e.2.f3, absent := e.2.absent })),
    rtr := [], chart := [], sched := [], launches := [], net := [], flow := [], vt := [], otx := [], cancelled := [], win := [], ledger := [],
    waiters := [], lastGrant := [], receipts := [], xfers := [], ap := [], descs := [], cplq := [], ring := [], waits := [],
    sigLines := [], mp := s.mp.map (fun e => (e.1, { ctrlReady := e.2.ctrlReady, cap := e.2.cap, everReady := e.2.ctrlReady })),
    slice := {}, scrubs := [], trace := [], hp := [], ol := [], plan := {}, fw := [], consort := {}, tp := {}, redm := [],
    hash := [], replay := {}, snap := {}, scan := {}, plot := [], cr := [], nimap := [], stamp := [], woken := s.woken.filter (fun e => e.1 == 62),
    err := s.err.map (fun e => (e.1, { hist := e.2.hist, pendMsg := e.2.pendMsg, persist := e.2.persist })) }

theorem State.warmReset_eq : s.warmReset = if s.bnUp then s.warmCore.bringUp else s.warmCore := rfl

/-- A WARM reset leaves all but its registers as `warmCore` does. -/
theorem State.warmReset_frame : ∃ regs rgn fence bn, s.warmReset = { s.warmCore with regs := regs, rgn := rgn, fence := fence, bn := bn } := by
  rw [State.warmReset_eq]
  split
  · obtain ⟨regs, rgn, bn, e⟩ := s.warmCore.bringUp_frame
    exact ⟨regs, rgn, {}, bn, e⟩
  · exact ⟨_, _, _, _, rfl⟩

theorem does_warmReset : Does .warmReset s fun t => t.time = {} ∧ t.hbm = s.hbm ∧ t.spad = s.spad ∧ t.flash = s.flash ∧ t.net = [] ∧
      t.sched = [] ∧ t.descs = [] ∧ t.xfers = [] ∧ t.otx = [] ∧ t.win = [] ∧ t.logs = s.logs ∧ t.bnUp = s.bnUp ∧
      (∀ off q i k x, locate off = some (q, i, k) → q.dom = .warm ∨ q.dom = .region ∨ q.dom = .island ∨ q.dom = .link →
        t.regs.get off x = x) ∧
      (∀ off q i k x, locate off = some (q, i, k) → q.dom = .cold ∨ q.dom = .bn → off ≠ BN_STATE.addr 0 0 →
        t.regs.get off x = s.regs.get off x) ∧
      (s.bnUp = true → t.fld BN_STATE_STATE = 2 ∧ t.fld BN_STATE_STEP = 2) ∧
      (s.bnUp = false → t.fld BN_STATE_STATE = s.fld BN_STATE_STATE) := by
  refine Does.of_runTime (exec_warmReset s) rfl ?_
  have kept : s.warmCore.RegsKept s.warmReset [BN_STATE.addr 0 0] := by
    rw [State.warmReset_eq]
    split
    · exact s.warmCore.bringUp_spec.2.2.2.1
    · exact .refl
  have core {off i k : Nat} {q : RegDef} {w : W32} (at_ : locate off = some (q, i, k)) :
      s.warmCore.regs.get off w = if warmReg q i then w else s.regs.get off w := State.regs_resetRegs at_
  have up (h : s.bnUp = true) : s.warmReset.fld BN_STATE_STATE = 2 ∧ s.warmReset.fld BN_STATE_STEP = 2 := by
    rw [State.warmReset_eq, if_pos h]
    exact ⟨s.warmCore.bringUp_spec.1, s.warmCore.bringUp_spec.2.1⟩
  have down (h : s.bnUp = false) : s.warmReset.fld BN_STATE_STATE = s.fld BN_STATE_STATE := by
    have word : s.warmCore.rd BN_STATE = s.rd BN_STATE := congrArg BitVec.toNat ((core locate_state).trans (if_neg (by decide)))
    rw [State.warmReset_eq, if_neg (ne_true_of_eq_false h)]
    exact congrArg (bits · 31 28) word
  obtain ⟨regs, rgn, fence, bn, e⟩ := s.warmReset_frame
  generalize s.warmReset = z at *
  have same : z.time = {} ∧ z.hbm = s.hbm ∧ z.spad = s.spad ∧ z.flash = s.flash ∧ z.net = [] ∧ z.sched = [] ∧ z.descs = [] ∧ z.xfers = [] ∧
      z.otx = [] ∧ z.win = [] ∧ z.logs = s.logs ∧ z.bnUp = s.bnUp := by
    rw [e]
    exact ⟨rfl, rfl, rfl, rfl, rfl, rfl, rfl, rfl, rfl, rfl, rfl, rfl⟩
  clear e
  obtain ⟨time, hbm, spad, flash_, net, sched, descs, xfers, otx, win, logs, bnUp⟩ := same
  refine ⟨time, hbm, spad, flash_, net, sched, descs, xfers, otx, win, logs, bnUp, fun off q i k w at_ dom => ?_, fun off q i k w at_ dom other => ?_,
    up, down⟩
  · have other : off ≠ BN_STATE.addr 0 0 := by
      rintro rfl
      obtain ⟨rfl, -⟩ := Prod.mk.inj (Option.some.inj (at_.symm.trans locate_state))
      revert dom
      decide
    have warm : warmReg q i = true := by
      simp only [warmReg, Bool.or_eq_true, beq_iff_eq]
      tauto
    exact (kept off w (List.mem_singleton.not.mpr other)).trans ((core at_).trans (if_pos warm))
  · have cold : ¬ warmReg q i = true := by
      simp only [warmReg, Bool.or_eq_true, beq_iff_eq]
      rcases dom with e | e <;> rw [e] <;> decide
    exact (kept off w (List.mem_singleton.not.mpr other)).trans ((core at_).trans (if_neg cold))

end

end Sys2Proof.Machine

/-! # Resets of islands, regions, links and the Binnacle, and lost clocks: the proof of ResetsStartTheirDomainsAfresh -/

namespace Sys2Proof.Machine

section

variable {s t x y : State} {n r l d flash off i k : Nat} {q : RegDef}

/-! ## Islands and regions -/

theorem State.spad_of_core (h : t.core = s.core) : t.spad = s.spad := congrArg Kept.spad h
theorem State.hbm_of_core (h : t.core = s.core) : t.hbm = s.hbm := congrArg Kept.hbm h
theorem State.time_of_core (h : t.core = s.core) : t.time = s.time := congrArg Kept.time h
theorem State.frozen_of_core (h : t.core = s.core) (j : Nat) : (t.rg j).frozen = (s.rg j).frozen := congrFun (congrArg Kept.frozen h) j

/-- What is in flight across the sides of an island is lost. -/
def State.sidesFlushed (s : State) (n : Nat) : State := (List.range 4).foldl (fun s p => s.flushDead n p) s

theorem core_sidesFlushed : (s.sidesFlushed n).core = s.core := core_foldl (fun _ _ => core_flushDead) _ _

theorem State.islandReset_eq : s.islandReset n = ((s.sidesFlushed n).resetRegs (islandReg n)).dropIslands fun m => m == n := rfl

/-- Nothing of the islands of a set is left (R369). -/
theorem State.dropIslands_spec {p : Nat → Bool} (hp : p n = true) : (s.dropIslands p).rt n = {} ∧ (∀ e ∈ (s.dropIslands p).descs, e.ni ≠ n) ∧
    (∀ e ∈ (s.dropIslands p).xfers, e.ni ≠ n) ∧ (∀ h, h < 256 → (s.dropIslands p).window n h = {}) ∧
    (∀ e ∈ (s.dropIslands p).ledger, e.ni ≠ n) := by
  have gone {α : Type} {ni : α → Nat} {l : List α} (e : α) (mem : e ∈ l.filter fun e => !(p (ni e))) : ni e ≠ n := by
    rintro own
    have out := (List.mem_filter.mp mem).2
    rw [own, hp] at out
    exact Bool.noConfusion out
  refine ⟨?_, fun e mem => gone (ni := Desc.ni) e mem, fun e mem => gone (ni := Xfer.ni) e mem, fun h hh => ?_,
    fun e mem => gone (ni := LedgerE.ni) e mem⟩
  · refine (SMap.get_filter s.rtr (fun j => !(p j)) n {}).trans (if_neg ?_)
    rw [hp]
    decide
  · refine (SMap.get_filter s.win (fun j => !(p (j / 256))) (256 * n + h) {}).trans (if_neg ?_)
    rw [show (256 * n + h) / 256 = n by omega, hp]
    decide

theorem islandReset_spec (hn : n < 2304) : let t := s.islandReset n
    t.tnState n = 4 ∧ t.owner n = 0 ∧ t.rt n = {} ∧ (∀ x ∈ t.descs, x.ni ≠ n) ∧ (∀ x ∈ t.xfers, x.ni ≠ n) ∧
      (∀ h, h < 256 → t.window n h = {}) ∧ (∀ x ∈ t.ledger, x.ni ≠ n) ∧ t.spad = s.spad ∧ t.hbm = s.hbm ∧
      (∀ off q k x, locate off = some (q, n, k) → q.dom = .island → q.blk = .ni ∨ q.blk = .rt → t.regs.get off x = x) := by
  have kept : (s.sidesFlushed n).core = s.core := core_sidesFlushed
  rw [State.islandReset_eq]
  generalize s.sidesFlushed n = y at *
  have spad : y.spad = s.spad := State.spad_of_core kept
  have hbm : y.hbm = s.hbm := State.hbm_of_core kept
  obtain ⟨router, descs, xfers, windows, ledger⟩ := State.dropIslands_spec (s := y.resetRegs (islandReg n)) (p := fun m => m == n) (n := n)
    (beq_self_eq_true n)
  have reset (off : Nat) (q : RegDef) (k : Nat) (w : W32) (at_ : locate off = some (q, n, k)) (dom : q.dom = .island)
      (blk : q.blk = .ni ∨ q.blk = .rt) : (y.resetRegs (islandReg n)).regs.get off w = w := by
    refine (State.regs_resetRegs at_).trans (if_pos ?_)
    simp only [islandReg, Bool.and_eq_true, Bool.or_eq_true, beq_iff_eq]
    exact ⟨⟨dom, blk.symm⟩, trivial⟩
  have state : (y.resetRegs (islandReg n)).rd NI_TN_STATE n = 0x80000000 :=
    congrArg BitVec.toNat (reset _ _ _ _ (locate_tnState hn) rfl (.inl rfl))
  refine ⟨?_, ?_, router, descs, xfers, windows, ledger, spad, hbm, reset⟩
  · exact (congrArg (bits · 31 29) state).trans (by decide)
  · exact (congrArg (bits · 21 16) state).trans (by decide)

theorem State.regionReset_eq : s.regionReset r =
    let y := (((State.regionSlots r).foldl (fun s t => s.sidesFlushed t) s).resetRegs fun q i => (q.dom == .region && i == r) ||
      (q.dom == .island && (q.blk == .rt || q.blk == .ni) && regionOf i == r)).dropIslands fun m => regionOf m == r
    let z := { y with sched := y.sched.filter (fun f => !(f.port == 5 && f.region == r)) }
    z.setRg r { L := z.S, s := z.S, absent := (z.rg r).absent, f3 := (z.rg r).f3, frozen := (z.rg r).frozen, holdReq := false } := rfl

theorem regionReset_spec : let t := s.regionReset r
    (t.rg r).L = s.S ∧ (t.rg r).s = s.S ∧ (t.rg r).frozen = (s.rg r).frozen ∧ t.spad = s.spad ∧ t.hbm = s.hbm ∧
      (∀ off q k x, locate off = some (q, r, k) → q.dom = .region → t.regs.get off x = x) ∧
      (∀ off q i k x, locate off = some (q, i, k) → q.dom = .island → q.blk = .ni ∨ q.blk = .rt → regionOf i = r →
        t.regs.get off x = x) := by
  have kept : ((State.regionSlots r).foldl (fun s t => s.sidesFlushed t) s).core = s.core := core_foldl (fun _ _ => core_sidesFlushed) _ _
  rw [State.regionReset_eq]
  generalize (State.regionSlots r).foldl (fun s t => s.sidesFlushed t) s = y at *
  have spad : y.spad = s.spad := State.spad_of_core kept
  have hbm : y.hbm = s.hbm := State.hbm_of_core kept
  have now : y.S = s.S := by rw [State.S, State.S, State.time_of_core kept]
  extract_lets z w
  have region : (w.setRg r { L := w.S, s := w.S, absent := (w.rg r).absent, f3 := (w.rg r).f3, frozen := (w.rg r).frozen, holdReq := false }).rg r =
      { L := w.S, s := w.S, absent := (w.rg r).absent, f3 := (w.rg r).f3, frozen := (w.rg r).frozen, holdReq := false } := State.rg_setRg_same w r _
  refine ⟨(congrArg Region.L region).trans now, (congrArg Region.s region).trans now,
    (congrArg Region.frozen region).trans (State.frozen_of_core kept r), spad, hbm,
    fun off q k v at_ dom => (State.regs_resetRegs (s := y) at_).trans (if_pos ?_),
    fun off q i k v at_ dom blk own => (State.regs_resetRegs (s := y) at_).trans (if_pos ?_)⟩
  · rw [dom, beq_self_eq_true, beq_self_eq_true]
    rfl
  · simp only [Bool.or_eq_true, Bool.and_eq_true, beq_iff_eq]
    exact .inr ⟨⟨dom, blk.symm⟩, own⟩

/-! ## Links -/

theorem does_linkReset (hl : l < 32) : Does (.linkReset l) s fun t => t.olk l = {} ∧
    (∀ off q k x, locate off = some (q, l, k) → q.dom = .link → t.regs.get off x = x) := by
  have gives : Gives (.linkReset l) s ((((s.linkLost l true).flushUnit (olLoc l)).resetRegs fun r i => r.dom == .link && i == l).setOl l {}) :=
    Gives.of_run (exec_linkReset l s) (decide_eq_true hl) rfl
  generalize (s.linkLost l true).flushUnit (olLoc l) = y at *
  refine gives.does ⟨SMap.get_put_same _ _ _ _, fun off q k v at_ dom => (State.regs_resetRegs (s := y) at_).trans (if_pos ?_)⟩
  rw [dom, beq_self_eq_true, beq_self_eq_true]
  rfl

end

end Sys2Proof.Machine

/-! # Resets of the Binnacle and lost clocks (R413, R439): the proof of ResetsStartTheirDomainsAfresh -/

namespace Sys2Proof.Machine

section

variable {s t x y : State} {n r l d flash off i k id : Nat} {q : RegDef}

/-! ## The registers of the Binnacle -/

theorem locate_block (h : locate off = some (q, i, k)) : ∃ b, blockOf off = some (b, i) ∧ q ∈ b.regs := by
  rw [locate] at h
  split at h
  · cases h
  · next b j at_ =>
    obtain ⟨p, hp, found⟩ := List.mem_filterMap.mp (List.mem_of_mem_head? (Option.mem_def.mpr h))
    rw [Option.ite_none_right_eq_some] at found
    obtain ⟨rfl, rfl, -⟩ : p = q ∧ j = i ∧ (if p.count ≤ 1 then 0 else (off - b.base j - p.off) / p.stride) = k := by simpa using found.2
    exact ⟨b, at_, hp⟩

theorem block_of_bnDom {b : Blk} (mem : q ∈ b.regs) (dom : q.dom = .bn) : b = .bn := by
  have all : b.regs.all (fun q => q.dom != .bn || b == .bn) = true := by cases b <;> decide +kernel
  have own := List.all_eq_true.mp all q mem
  rw [dom] at own
  simpa using own

/-- A register that a reset of the Binnacle resets lies in its block. -/
theorem bnDom_low (at_ : locate off = some (q, i, k)) (dom : q.dom = .bn) : off < 0x100000 := by
  obtain ⟨b, block, mem⟩ := locate_block at_
  obtain rfl := block_of_bnDom mem dom
  obtain ⟨c, -, found⟩ := List.mem_filterMap.mp (List.mem_of_mem_head? (Option.mem_def.mpr block))
  rw [Option.ite_none_right_eq_some] at found
  obtain ⟨⟨-, -, near⟩, e⟩ := found
  obtain ⟨rfl, -⟩ := Prod.mk.inj (Option.some.inj e)
  simp only [Blk.base, Blk.size] at near
  omega

/-- The offsets below the blocks of the tenancies. -/
def lowWord (off : Nat) : Bool := decide (off < 0x100000)

theorem lowWord_below : Below lowWord := fun _ h => of_decide_eq_true h

/-! ## A reset of the Binnacle -/

def bnReg (q : RegDef) (_ : Nat) : Bool := q.dom == .bn

/-- The Binnacle's reset before the engines' hashes end. -/
def State.bnBegun (s : State) : State :=
  (State.setFld { s.resetRegs bnReg with bnUp := false, bn :=
    { boots := s.bn.boots, fuseSvn := s.bn.fuseSvn, seq := s.bn.seq, logNext := s.bn.logNext, lost := s.bn.lost, lmap := s.bn.lmap,
      owners := s.bn.owners, mirror := s.bn.mirror, halted := s.bn.halted } } BN_STATE_BOOT_CAUSE 1).unwake 62

theorem State.bnReset_refused (h : s.bnBegun.hashAbort.romBoot flash = (y, false)) : s.bnReset flash = y := by
  unfold State.bnReset
  change (if (s.bnBegun.hashAbort.romBoot flash).2 = false then (s.bnBegun.hashAbort.romBoot flash).1 else _) = y
  rw [h]
  rfl

theorem State.romCause_congr (fuse : t.fuse = s.fuse) (svn : t.bn.fuseSvn = s.bn.fuseSvn) (flash_ : t.flash = s.flash) :
    t.romCause flash = s.romCause flash := by
  unfold State.romCause State.svnNow State.slotImage State.flashRead
  rw [fuse, svn, flash_]

theorem State.bnBegun_keeps : s.bnBegun.time = s.time ∧ s.bnBegun.spad = s.spad ∧ s.bnBegun.hbm = s.hbm ∧ s.bnBegun.flash = s.flash ∧
    s.bnBegun.fuse = s.fuse ∧ s.bnBegun.bnUp = false ∧ s.bnBegun.bn.waiting = [] ∧ s.bnBegun.bn.inbox = [] ∧
    s.bnBegun.bn.fuseSvn = s.bn.fuseSvn := ⟨rfl, rfl, rfl, rfl, rfl, rfl, rfl, rfl, rfl⟩

theorem State.bnBegun_regs : s.bnBegun.fld BN_STATE_BOOT_CAUSE = 1 ∧
    ∀ w, off ≠ BN_STATE.addr 0 0 → s.bnBegun.regs.get off w = (s.resetRegs bnReg).regs.get off w := by
  refine ⟨State.fld_setFld_same _ BN_STATE_BOOT_CAUSE 1 0 0 (by decide) (by decide), fun w other => ?_⟩
  exact State.regs_wr_ne _ BN_STATE 0 0 _ off w other

theorem bnReset_spec (cause : s.romCause flash ≠ 0) (unarmed : s.fld (xx_ERR_INJECT_ARM .bn) = 0) : let t := s.bnReset flash
    t.bnUp = false ∧ t.fld BN_STATE_STATE = 1 ∧ t.fld BN_STATE_FAIL_CAUSE = s.romCause flash ∧ t.fld BN_STATE_BOOT_CAUSE = 1 ∧
      t.bn.inbox = [] ∧ t.time = s.time ∧ t.spad = s.spad ∧ t.hbm = s.hbm ∧
      (∀ off q i k x, locate off = some (q, i, k) → q.dom = .bn → t.regs.get off x = x) := by
  obtain ⟨time, spad, hbm, flash_, fuse, bnUp, waiting, inbox, fuseSvn⟩ := s.bnBegun_keeps
  have boot : s.bnBegun.fld BN_STATE_BOOT_CAUSE = 1 := (State.bnBegun_regs (off := 0)).1
  have regs (off : Nat) (w : W32) : off ≠ BN_STATE.addr 0 0 → s.bnBegun.regs.get off w = (s.resetRegs bnReg).regs.get off w :=
    State.bnBegun_regs.2 w
  have kept : s.bnBegun.hashAbort.kept lowWord id = s.bnBegun.kept lowWord id := kept_hashAbort lowWord_below
  have refused (y : State) := State.bnReset_refused (s := s) (flash := flash) (y := y)
  generalize s.bnBegun = b at *
  have bn : b.hashAbort.bn = b.bn := congrArg Kept.bn kept
  have up : b.hashAbort.bnUp = false := (congrArg Kept.up kept).trans bnUp
  have time' : b.hashAbort.time = s.time := (congrArg Kept.time kept).trans time
  have spad' : b.hashAbort.spad = s.spad := (congrArg Kept.spad kept).trans spad
  have hbm' : b.hashAbort.hbm = s.hbm := (congrArg Kept.hbm kept).trans hbm
  have cause' : b.hashAbort.romCause flash = s.romCause flash := State.romCause_congr ((congrArg Kept.fuse kept).trans fuse)
    ((congrArg Stolrel.fuseSvn bn).trans fuseSvn) ((congrArg Kept.flash kept).trans flash_)
  have low {off : Nat} {w : W32} (h : lowWord off = true) : b.hashAbort.regs.get off w = b.regs.get off w := State.regs_of_kept kept h w
  have bootToo : b.hashAbort.fld BN_STATE_BOOT_CAUSE = 1 := (State.fld_of_kept kept (by decide)).trans boot
  generalize b.hashAbort = x at *
  have unarmedToo : x.fld (xx_ERR_INJECT_ARM .bn) = 0 := by
    have at_ : locate ((xx_ERR_INJECT .bn).addr 0 0) = some (xx_ERR_INJECT .bn, 0, 0) := by decide +kernel
    have word : x.rd (xx_ERR_INJECT .bn) = s.rd (xx_ERR_INJECT .bn) :=
      congrArg BitVec.toNat ((low (by decide)).trans ((regs _ _ (by decide)).trans ((State.regs_resetRegs at_).trans (if_neg (by decide)))))
    exact (congrArg (bits · 31 31) word).trans unarmed
  have rom := State.romBoot_eq (flash := flash) unarmedToo
  rw [if_pos (cause'.symm ▸ cause)] at rom
  rw [refused _ rom]
  clear refused rom
  obtain ⟨outside, waitingToo, inboxToo, -, upToo⟩ := x.searched_keeps
  have bootLast := State.searched_boot (s := x)
  have keptState := State.regsKept_searched (s := x)
  have small := State.romCause_lt (s := x) (flash := flash)
  generalize x.searched = z at *
  obtain ⟨state, fail, bootKept, keptLast, outsideLast, upLast, inboxLast⟩ := State.recovery_spec (flash := flash) (s := z)
    (by rw [waitingToo, bn, waiting]; decide) small
  generalize z.recovery (x.romCause flash) flash = w at *
  have out := outsideLast.trans outside
  simp only [State.outside, Prod.mk.injEq] at out
  obtain ⟨⟨timeLast, -, hbmLast, spadLast, -⟩, -⟩ := out
  refine ⟨upLast.trans (upToo.trans up), state, fail.trans cause', bootKept.trans (bootLast.trans bootToo), ?_, timeLast.trans time',
    spadLast.trans spad', hbmLast.trans hbm', fun off q i k v at_ dom => ?_⟩
  · rw [inboxLast, inboxToo, bn, inbox]
  · have other : off ≠ BN_STATE.addr 0 0 := by
      rintro rfl
      obtain ⟨rfl, -⟩ := Prod.mk.inj (Option.some.inj (at_.symm.trans locate_state))
      exact absurd dom (by decide)
    have away := List.mem_singleton.not.mpr other
    have own : bnReg q i = true := by rw [bnReg, dom]; rfl
    exact (keptLast off v away).trans ((keptState off v away).trans ((low (decide_eq_true (bnDom_low at_ dom))).trans
      ((regs off v other).trans ((State.regs_resetRegs at_).trans (if_pos own)))))

end

end Sys2Proof.Machine

/-! # Clocks that are lost (R439): the proof of ResetsStartTheirDomainsAfresh -/

namespace Sys2Proof.Machine

section

variable {s t x y : State} {n r l d flash off i k id st : Nat}

/-! ## The hashes that end with the Binnacle's clock -/

/-- How descriptors and hashes stand while hashes end. -/
structure State.HashesEnding (s t : State) : Prop where
  fewer : ∀ j ∈ t.hash, j ∈ s.hash
  ended : ∀ id, t.desc? id = s.desc? id ∨ t.desc? id = none ∧ ∀ j ∈ t.hash, j.desc ≠ id

/-- However a descriptor ends, the others stand, and its hashes go with it. -/
theorem State.hashesEnding_finish (ending : s.HashesEnding t) : s.HashesEnding (t.finish id st) := by
  cases found : t.desc? id with
  | none =>
    have gone : t.finish id st = t := by rw [State.finish, State.complete, found]
    rw [gone]
    exact ending
  | some d =>
    obtain ⟨descs, -, -, -, hash⟩ := State.finish_spec (st := st) found
    refine ⟨fun j mem => ending.fewer j (List.mem_of_mem_filter (hash ▸ mem)), fun a => ?_⟩
    by_cases own : a = id
    · rw [own]
      refine .inr ⟨State.desc?_of_ended descs, fun j mem => ?_⟩
      rw [hash] at mem
      exact bne_iff_ne.mp (List.mem_filter.mp mem).2
    · have same : (t.finish id st).desc? a = t.desc? a := by
        rw [State.desc?, State.desc?, descs, List.find?_filter]
        congr 1
        funext e
        by_cases at_ : e.id = a
        · simp [at_, own]
        · simp [at_]
      rw [same]
      exact (ending.ended a).imp_right fun h => ⟨h.1, fun j mem => h.2 j (List.mem_of_mem_filter (hash ▸ mem))⟩

theorem State.hashesEnding_hashAbort : s.HashesEnding s.hashAbort :=
  foldl_keeps (P := fun t => s.HashesEnding t) ⟨fun _ mem => mem, fun _ => .inl rfl⟩ fun _ _ _ ending => State.hashesEnding_finish ending

theorem State.desc?_finish_none (none_ : t.desc? id = none) {a : Nat} : (t.finish a st).desc? id = none := by
  have self : t.HashesEnding t := ⟨fun _ mem => mem, fun _ => .inl rfl⟩
  exact ((State.hashesEnding_finish (id := a) (st := st) self).ended id).elim (·.trans none_) (·.1)

theorem State.desc?_hashAbort {j : HashJob} (mem : j ∈ s.hash) : s.hashAbort.desc? j.desc = none :=
  foldl_ensures (P := fun t : State => t.desc? j.desc = none) (f := fun t id => t.finish id stABORTED) (List.mem_map_of_mem (f := HashJob.desc) mem)
    (fun _ => State.finish_any.1) (fun _ _ _ none_ => State.desc?_finish_none none_) s

theorem bcClockLost_hashes : let u := ((s.modBn fun b => { b with clockLost := true }).unwake 62).hashAbort
    (∀ j ∈ u.hash, s.desc? j.desc = none) ∧ (∀ j ∈ s.hash, u.desc? j.desc = none) ∧ u.bn.clockLost = true := by
  obtain ⟨y, e, descs, hash, lost⟩ : ∃ y, (s.modBn fun b => { b with clockLost := true }).unwake 62 = y ∧ y.descs = s.descs ∧ y.hash = s.hash ∧
      y.bn.clockLost = true := ⟨_, rfl, rfl, rfl, rfl⟩
  rw [e]
  have same (a : Nat) : y.desc? a = s.desc? a := by rw [State.desc?, State.desc?, descs]
  refine ⟨fun j mem => ?_, fun j mem => State.desc?_hashAbort (hash ▸ mem), ?_⟩
  · have ending := State.hashesEnding_hashAbort (s := y)
    obtain still | ⟨-, gone⟩ := ending.ended j.desc
    · rw [← same, ← still]
      exact State.desc?_hashAbort (ending.fewer j mem)
    · exact absurd rfl (gone j mem)
  · have kept : y.hashAbort.kept lowWord id = y.kept lowWord id := kept_hashAbort lowWord_below
    exact (congrArg (fun e => Stolrel.clockLost (Kept.bn e)) kept).trans lost

/-! ## A unit's clock -/

theorem gives_unitClockLost (low : 36 ≤ d) (high : d < 64) (core : d ≠ 61) (bn : d ≠ 62)
    (h : (if s.stopped.contains d = true then s else
      (if s.bn.clockLost = true then s
      else if d < 52 then s.unitEvent .mp (d - 36) 4 0
      else if d < 60 then (List.range 4).foldl (fun s i => s.unitEvent .ol (4 * (d - 52) + i) 3 0) s
      else if d = 60 then (s.unitEvent .hp 0 5 0).unitEvent .hp 1 5 0
      else s.unitEvent .tp 0 1 0).clockStop d) = t) : Gives (.unitClockLost d) s t :=
  Gives.of_run (exec_unitClockLost d s)
    (by simp only [Instr.wf, low, high, ne_eq, core, bn, not_false_eq_true, decide_true, Bool.and_self]) h

theorem clockOff_clockStop : (s.clockStop d).clockOff d = true := by
  have mem : (s.clockStop d).stopped.contains d = true := by simp [State.clockStop]
  rw [State.clockOff, mem, Bool.or_true]

theorem clockOff_clockBack (low : 36 ≤ d) : ((s.clockStop d).clockBack d).clockOff d = false := by
  have mem : (s.clockStop d).stopped.contains d = true := by simp [State.clockStop]
  rw [State.clockBack, if_pos mem, State.clockOff, State.unwake, if_neg (not_lt.mpr low)]
  simp [not_lt.mpr low]

end

/-- Settles O49: registers are read off the filter of each reset, and what the flushes, the ends of the hashes and the boot leave alone is
followed through them. -/
theorem resetsStartTheirDomainsAfresh : Obligations.ResetsStartTheirDomainsAfresh := by
  unfold Obligations.ResetsStartTheirDomainsAfresh
  intro s chip sel flash n r l d unstable anchor hchip hsel hflash hn hr hl low high core bn
  extract_lets cause u
  have clock {t : State} := gives_unitClockLost (s := s) (t := t) low high core bn
  refine ⟨does_coldReset hchip hsel hflash, does_warmReset, ⟨?_, islandReset_spec hn⟩, ⟨?_, regionReset_spec⟩, does_linkReset hl,
    ⟨?_, fun refused unarmed => bnReset_spec refused unarmed⟩, ⟨Gives.of_run (exec_bcClockLost s) rfl rfl, bcClockLost_hashes⟩,
    fun off => clock (if_pos off), fun on => ?_, clockOff_clockStop, clockOff_clockBack low⟩
  · exact Gives.of_run (exec_islandReset n s) (decide_eq_true hn) rfl
  · exact Gives.of_run (exec_regionReset r s) (decide_eq_true hr) rfl
  · exact Gives.of_run (exec_bnReset flash s) (decide_eq_true hflash) rfl
  · have running := ne_true_of_eq_false on
    refine ⟨fun lost => clock ((if_neg running).trans ?_), fun there => ⟨fun port => clock ((if_neg running).trans ?_), fun from_ link => clock ((if_neg running).trans ?_),
      fun host => clock ((if_neg running).trans ?_), fun trace => clock ((if_neg running).trans ?_)⟩⟩
    · rw [if_pos lost]
    · rw [if_neg (ne_true_of_eq_false there), if_pos port]
    · rw [if_neg (ne_true_of_eq_false there), if_neg (not_lt.mpr from_), if_pos link]
    · rw [if_neg (ne_true_of_eq_false there), if_neg (by omega), if_neg (by omega), if_pos host]
    · rw [if_neg (ne_true_of_eq_false there), if_neg (by omega), if_neg (by omega), if_neg (by omega)]

end Sys2Proof.Machine

/-! # No event moves bytes of a memory -/

namespace Sys2Proof.Machine

section

variable {s t : State} {k : UnitKind} {i n b src detail slot port : Nat}

/-- Scratchpad and HBM. -/
def State.bytes (s : State) : Memory × Memory := (s.spad, s.hbm)

theorem bytes_of_core (h : t.core = s.core) : t.bytes = s.bytes := congrArg₂ Prod.mk (congrArg Kept.spad h) (congrArg Kept.hbm h)

theorem bytes_foldl {β : Type} {f : State → β → State} (h : ∀ s b, (f s b).bytes = s.bytes) (l : List β) (s : State) :
    (l.foldl f s).bytes = s.bytes := by
  induction l generalizing s with
  | nil => rfl
  | cons b l ih => exact (ih _).trans (h s b)

/-! ## Links -/

theorem bytes_bundleLost : (s.bundleLost b).bytes = s.bytes := by
  unfold State.bundleLost
  extract_lets edges held down clear counted
  have before : held.bytes = s.bytes := by
    refine (bytes_foldl (fun s m => ?_) _ _).trans (bytes_of_core core_bundleEdges)
    refine Eq.trans rfl (?_ : State.bytes (if s.linkState m = lsACTIVE then (s.setLink m lsHELD).consortGone m else s) = s.bytes)
    split
    · exact bytes_of_core (core_consortGone.trans core_setLink)
    · rfl
  have after : counted.bytes = s.bytes := (bytes_of_core (core_countBundles.trans core_clearReach)).trans (Eq.trans rfl before)
  split
  · exact (bytes_of_core core_parentLost).trans after
  · exact after

theorem bytes_adopt {j sib : Nat} {tell : Bool} : (s.adopt j sib tell).bytes = s.bytes := by
  unfold State.adopt
  dsimp only
  refine (bytes_of_core (core_log.trans core_log)).trans (Eq.trans rfl ?_)
  split <;> rfl

theorem bytes_linkLost {tell : Bool} : (s.linkLost n tell).bytes = s.bytes := by
  unfold State.linkLost
  split
  · rfl
  · extract_lets b held mine left
    have e : held.bytes = s.bytes := bytes_of_core (core_consortGone.trans core_setLink)
    split
    · split
      · exact bytes_bundleLost.trans e
      · exact e
    · split
      · exact bytes_bundleLost.trans e
      · split
        · exact bytes_bundleLost.trans e
        · exact (bytes_foldl (fun _ _ => bytes_adopt) _ _).trans (Eq.trans rfl e)

theorem bytes_linkAction : (s.linkAction n).bytes = s.bytes := by
  unfold State.linkAction
  split
  · exact bytes_of_core core_setLink
  · exact bytes_linkLost

/-! ## Fences -/

theorem bytes_fenceLink : (s.fenceLink slot port).bytes = s.bytes := by
  unfold State.fenceLink
  split
  · rfl
  · dsimp only
    split
    · rfl
    · exact bytes_of_core (core_repairFenced.trans (core_fencedPort.trans (core_fencedPort.trans
        (core_flushCrossing.trans (core_flushCrossing.trans rfl)))))

theorem bytes_resetRegs {p : RegDef → Nat → Bool} : (s.resetRegs p).bytes = s.bytes := rfl

theorem bytes_sched {sched : List SFlit} : { s with sched := sched }.bytes = s.bytes := rfl

theorem bytes_fenceF3 : (s.fenceF3 n).bytes = s.bytes := by
  unfold State.fenceF3
  split
  · rfl
  · extract_lets stalled fenced freed slots left sides cut
    have e₁ : stalled.bytes = s.bytes := by
      dsimp only [stalled]
      unfold State.endStall
      split <;> rfl
    have e₂ : freed.bytes = s.bytes := by
      dsimp only [freed]
      split <;> exact Eq.trans rfl e₁
    have e₃ : sides.bytes = s.bytes :=
      (bytes_of_core (core_foldl (fun _ _ => core_fenceSides) _ _)).trans (Eq.trans rfl e₂)
    have e₄ : cut.bytes = s.bytes := bytes_sched.trans e₃
    exact (bytes_of_core (core_repairFenced.trans core_dropIslands)).trans (bytes_resetRegs.trans e₄)

/-! ## Units that enter their safe state -/

theorem bytes_drop {self : Loc} {reason : Nat} {p : Pkt} : (s.drop self slot port reason p).bytes = s.bytes := by
  unfold State.drop
  split
  · rfl
  · rfl
  · split
    · rfl
    · exact bytes_of_core core_report

theorem bytes_mpDropAll : (s.mpDropAll n).bytes = s.bytes := by
  unfold State.mpDropAll
  extract_lets m ts cleared flushed
  have e : flushed.bytes = s.bytes := (bytes_of_core (core_foldl (fun _ _ => core_flushSeen) _ _)).trans rfl
  refine (bytes_foldl (fun s t => ?_) _ _).trans e
  split
  · exact bytes_drop
  · rfl

theorem bytes_ownFailed {code : Nat} : (s.ownFailed code).bytes = s.bytes := by
  unfold State.ownFailed State.logFailed
  split
  · split <;> rfl
  · split <;> rfl

theorem bytes_hpDropAll : (s.hpDropAll n).bytes = s.bytes := by
  unfold State.hpDropAll
  refine (bytes_foldl (fun s r => ?_) _ _).trans rfl
  split
  · exact bytes_drop
  · exact bytes_drop
  · exact bytes_drop
  · exact bytes_ownFailed

theorem bytes_fencedAttach {l : List Loc} : (s.fencedAttach l).bytes = s.bytes :=
  bytes_of_core (core_foldl (fun _ _ => core_fencedPort) _ _)

theorem bytes_enterSafe : (s.enterSafe k i).bytes = s.bytes := by
  unfold State.enterSafe
  split
  · rfl
  · extract_lets noted frozen
    have e : frozen.bytes = s.bytes := by
      dsimp only [frozen]
      split
      · exact (bytes_of_core core_freezeLog).trans rfl
      · exact (bytes_of_core core_freezeLog).trans rfl
      · exact (bytes_of_core core_freezeLog).trans rfl
      · exact (bytes_of_core core_freezeLog).trans rfl
      · rfl
    split
    · exact (bytes_of_core core_fenceF1).trans e
    · exact (bytes_of_core core_fenceF2).trans e
    · exact bytes_fenceF3.trans e
    · exact bytes_fencedAttach.trans (bytes_mpDropAll.trans e)
    · exact bytes_linkAction.trans e
    · exact bytes_hpDropAll.trans e
    · exact e
    · exact Eq.trans rfl ((bytes_of_core (kept_hashAbort bundleWord_below)).trans e)

/-! ## Events -/

theorem bytes_severeAct : (s.severeAct k i src detail).bytes = s.bytes := by
  unfold State.severeAct
  split
  · rfl
  · rfl
  · rfl
  · split
    · exact bytes_fenceLink
    · rfl
  · exact bytes_of_core core_fenceF1
  · exact bytes_of_core core_fenceF2
  · exact bytes_fenceF3
  · exact bytes_enterSafe
  · exact bytes_linkAction

theorem bytes_parityMet : (s.parityMet k i).bytes = s.bytes := by
  unfold State.parityMet State.selfParity
  split
  · exact (bytes_of_core core_errMsg).trans (bytes_enterSafe.trans rfl)
  · rfl

theorem bytes_parityDue (m : Nat) : (State.parityDue m s).bytes = s.bytes := by
  induction m generalizing s with
  | zero => rfl
  | succ m ih =>
    rw [State.parityDue]
    split
    · exact ih.trans bytes_parityMet
    · rfl

/-- No event moves a byte of scratchpad or HBM. -/
theorem bytes_unitEvent {injected : Bool} : (s.unitEvent k i src detail injected).bytes = s.bytes := by
  unfold State.unitEvent
  split
  · rfl
  · extract_lets sev told noted act acted
    have e : acted.bytes = s.bytes := by
      dsimp only [acted, act]
      split
      · exact (bytes_parityDue _).trans (bytes_severeAct.trans (bytes_of_core core_noteEvent))
      · exact bytes_of_core core_noteEvent
    refine bytes_parityMet.trans ?_
    split
    · exact (bytes_of_core core_errMsg).trans e
    · exact e

end

end Sys2Proof.Machine

/-! # The controller's answers (R146, R148, R160, R342, R343, R446): the proof of ControllerAnswersMoveData -/

namespace Sys2Proof.Machine

section

variable {s x : State} {n tag : Nat} {ue : Bool} {t : MTx} {p : Pkt}

theorem State.takeTx_none (h : ((s.mpt n).cur.toList ++ (s.mpt n).issued).find? (fun x => x.id == tag) = none) : s.takeTx n tag = (none, s) := by
  rw [List.find?_append, Option.or_eq_none_iff] at h
  rw [State.takeTx]
  rw [h.1, h.2]

/-- The transaction that a tag names leaves its port, which keeps its grants. -/
theorem State.takeTx_some (h : ((s.mpt n).cur.toList ++ (s.mpt n).issued).find? (fun x => x.id == tag) = some t) :
    ∃ m, s.takeTx n tag = (some t, s.setMp n m) ∧ m.grants = (s.mpt n).grants := by
  rw [List.find?_append] at h
  rw [State.takeTx]
  cases cur : (s.mpt n).cur.toList.find? fun x => x.id == tag with
  | some a =>
    rw [cur] at h
    obtain rfl := Option.some.inj h
    exact ⟨_, rfl, rfl⟩
  | none =>
    rw [cur, Option.none_or] at h
    rw [h]
    exact ⟨_, rfl, rfl⟩

theorem gives_wrDone (hn : n < 16) (htag : tag < 256) (taken : s.takeTx n tag = (some t, x))
    {y : State} (h : (if t.kind = .write ∨ t.kind = .bookWrite ∨ (t.kind = .debug ∧ t.data ≠ []) then x.committed n t else s) = y) :
    Gives (.wrDone n tag) s y :=
  Gives.of_run (exec_wrDone n tag s) (by simp only [Instr.wf, okMp, hn, htag, decide_true, Bool.and_self]) (by rw [taken]; exact h)

theorem gives_readReturn (hn : n < 16) (htag : tag < 256) (taken : s.takeTx n tag = (some t, x))
    {y : State} (h : (if t.kind = .write ∨ t.kind = .bookWrite ∨ (t.kind = .debug ∧ t.data ≠ []) then s else x.returned n t ue) = y) :
    Gives (.readReturn n tag ue) s y :=
  Gives.of_run (exec_readReturn n tag ue s) (by simp only [Instr.wf, okMp, hn, htag, decide_true, Bool.and_self]) (by rw [taken]; exact h)

theorem State.committed_none (pkt : t.pkt = none) :
    x.committed n t = (x.hbmWrite n t.addr t.data).addPair MP_WR_BYTES_LO MP_WR_BYTES_HI t.len n := by
  rw [State.committed, pkt]

theorem State.committed_some (pkt : t.pkt = some p) :
    x.committed n t = ((x.hbmWrite n t.addr t.data).addPair MP_WR_BYTES_LO MP_WR_BYTES_HI t.len n).answer p p.dst opWRITE_ACK
      [if t.ue then stDATA_ERROR else stOK, p.arg 0, 0] := by
  rw [State.committed, pkt]

/-- The bytes that a READ_RETURN brings go to the requester of a read. -/
theorem State.returned_read (kind : t.kind = .read) (pkt : t.pkt = some p) : x.returned n t false =
    (x.addPair MP_RD_BYTES_LO MP_RD_BYTES_HI t.len n).emit (mkDat opREAD_DATA p.dst p.src p.ten p.flow p.txn [stOK] (reqAddr p) 0
      ((grantClass (x.mpt n).grants p.ten (adBig (reqAddr p)) t.len).getD 0) (x.hbm.readN (hbmKey n t.addr) t.len)) := by
  rw [State.returned, kind, pkt]
  rfl

theorem State.returned_debug (kind : t.kind = .debug) : x.returned n t false =
    { x.addPair MP_RD_BYTES_LO MP_RD_BYTES_HI t.len n with tap := { x.tap with back := ofBytes (x.hbm.readN (hbmKey n t.addr) t.len) } } := by
  rw [State.returned, kind]
  cases t.pkt <;> rfl

/-- An atomic writes its new value. -/
theorem State.returned_atomic (kind : t.kind = .atomic) (pkt : t.pkt = some p) : (x.returned n t false).bytes =
    ((x.addPair MP_RD_BYTES_LO MP_RD_BYTES_HI t.len n).hbmWrite n t.addr
      (toBytes t.len (atomicResult p (ofBytes (x.hbm.readN (hbmKey n t.addr) t.len))))).bytes := by
  rw [State.returned, kind, pkt]
  rfl

/-- An atomic whose data came with an error writes nothing. -/
theorem State.returned_atomic_error (kind : t.kind = .atomic) (pkt : t.pkt = some p) : (x.returned n t true).bytes = x.bytes := by
  rw [State.returned, kind, pkt]
  exact Eq.trans rfl (bytes_unitEvent.trans rfl)

end

/-- Settles O41: an answer's transaction is taken from its port by its tag; no event that a payload error raises moves a byte. -/
theorem controllerAnswersMoveData : Obligations.ControllerAnswersMoveData := by
  unfold Obligations.ControllerAnswersMoveData
  intro s n tag ue t p hn htag m out u
  have wf : (Instr.wrDone n tag).wf = true ∧ (Instr.readReturn n tag ue).wf = true := by
    simp only [Instr.wf, okMp, hn, htag, decide_true, Bool.and_self, and_self]
  refine ⟨fun none_ => ?_, fun found => ?_⟩
  · have taken := State.takeTx_none none_
    exact ⟨Gives.of_run (exec_wrDone n tag s) wf.1 (by rw [taken]), Gives.of_run (exec_readReturn n tag ue s) wf.2 (by rw [taken])⟩
  · intro stores
    obtain ⟨port, taken, grants⟩ := State.takeTx_some found
    have left : u = s.setMp n port := congrArg Prod.snd taken
    have answered : stores → Gives (.wrDone n tag) s (u.committed n t) := fun writes => gives_wrDone hn htag taken (left ▸ if_pos writes)
    have brought : ¬ stores → Gives (.readReturn n tag ue) s (u.returned n t ue) := fun reads =>
      gives_readReturn hn htag taken (left ▸ if_neg reads)
    have hbm : u.hbm = s.hbm := by rw [left]; rfl
    have spad : u.spad = s.spad := by rw [left]; rfl
    have tap : u.tap = s.tap := by rw [left]; rfl
    have granted : (u.mpt n).grants = m.grants := by
      rw [left, State.mpt_setMp_same]
      exact grants
    have regs : u.regs = s.regs := by rw [left]; rfl
    have net : u.net = s.net := by rw [left]; rfl
    refine ⟨congrArg Prod.fst taken, hbm, regs, net, fun reads => gives_wrDone hn htag taken (if_neg reads),
      fun writes => gives_readReturn hn htag taken (if_pos writes), fun writes pkt => (answered writes).congr (State.committed_none pkt),
      fun writes pkt => (answered writes).congr (State.committed_some pkt), fun kind pkt good => ?_, fun kind pkt good => ?_,
      fun kind pkt bad => ?_, fun kind empty good => ?_⟩
    · have gives := brought (by simp [stores, kind])
      rw [good, State.returned_read kind pkt, granted, hbm] at gives
      rw [good]
      exact gives.does ⟨rfl, hbm, spad⟩
    · have gives := brought (by simp [stores, kind])
      have bytes := State.returned_atomic (x := u) (n := n) kind pkt
      rw [good] at gives ⊢
      rw [hbm] at bytes
      exact gives.does ⟨congrArg Prod.snd bytes, (congrArg Prod.fst bytes).trans spad⟩
    · have gives := brought (by simp [stores, kind])
      have bytes := State.returned_atomic_error (x := u) (n := n) kind pkt
      rw [bad] at gives ⊢
      exact gives.does ⟨(congrArg Prod.snd bytes).trans hbm, (congrArg Prod.fst bytes).trans spad⟩
    · have gives := brought (by simp [stores, kind, empty])
      rw [good, State.returned_debug kind, hbm, tap] at gives
      rw [good]
      exact gives

end Sys2Proof.Machine
